-- ==== Sys2Proof/Syntax.lean ====
section
/-! DEFINITION. The commands of the block: one constructor of `Instr` per row of the table of operations and
events, with the operands it carries, and the types of those operands. -/

namespace Sys2Proof

/-- A fabric request at the target port (R22). -/
structure FabReq where
  /-- FT_WRITE (02 R22). -/
  write : Bool := false
  /-- FT_ADDR as a window offset, 8-byte aligned (02 R22). -/
  addr : Nat := 0
  /-- FT_WDATA (02 R22). -/
  wdata : BitVec 64 := 0
  /-- FT_WSTRB (02 R22). -/
  wstrb : Nat := 0xFF
  /-- FT_PART (02 R22). -/
  part : Nat := 0
  /-- FT_SRC (02 R22). -/
  src : Nat := 0
  /-- FT_SEC (02 R22). -/
  sec : Bool := false
  /-- FT_TAG (02 R22). -/
  tag : Nat := 0
  deriving DecidableEq, Repr

/-- A Cut List request as a channel carries it (R110, R539); the row gives the opcode. -/
structure ClReq where
  /-- INDEX (04 R110). -/
  idx : Nat := 0
  /-- SUBINDEX (04 R110). -/
  sub : Nat := 0
  /-- LENGTH (04 R110). -/
  len : Nat := 0
  /-- LAST (04 R110). -/
  last : Bool := true
  /-- SEQ (04 R110). -/
  seq : Nat := 0
  /-- NODE (04 R110). -/
  node : Nat := 0
  /-- segment data (04 R110). -/
  data : List Byte := []
  deriving DecidableEq, Repr

/-- The MCTP and message fields that a response takes from its request (R536). -/
structure Packet where
  /-- source address, or source EID (19 R533). -/
  src : Nat := 0
  /-- destination EID (19 R537). -/
  dst : Nat := 0
  /-- message tag (19 R536). -/
  tag : Nat := 0
  /-- instance ID (19 R539). -/
  inst : Nat := 0
  deriving DecidableEq, Repr

/-- What one device answers a poll with (R548, R550). -/
structure PmbAns where
  /-- every command was acknowledged with a good PEC (19 R550). -/
  ok : Bool := true
  /-- STATUS_WORD (19 R548). -/
  status : Nat := 0
  /-- READ_VIN, LINEAR11 (19 R548). -/
  vin : Nat := 0
  /-- READ_VOUT, ULINEAR16 (19 R548). -/
  vout : Nat := 0
  /-- READ_IOUT, LINEAR11 (19 R548). -/
  iout : Nat := 0
  /-- READ_TEMPERATURE_1, LINEAR11 (19 R548). -/
  temp : Nat := 0
  deriving DecidableEq, Repr

/-- One event as the recorder takes it in (R477, R485); its stamp is set at capture. -/
structure Event where
  /-- event code (17 R477). -/
  code : Nat := 0
  /-- severity 0 to 4 (17 R477). -/
  sev : Nat := 0
  /-- partition the record is visible to besides the operator (17 R477). -/
  part : Nat := 0
  /-- ARG0 (17 R477). -/
  arg0 : Nat := 0
  /-- ARG1 (17 R477). -/
  arg1 : Nat := 0
  /-- FLAGS as far as the source knows them: [2] COMPOUND, [3] ESCALATED (17 R477). -/
  flags : Nat := 0
  /-- node address at capture (17 R477). -/
  node : Nat := 0
  /-- generation of the partition at capture (17 R479). -/
  gen : Nat := 0
  /-- CTL cycles (2.5 ns) since POR_N at capture (00 R13). -/
  clock : Nat := 0
  /-- calendar seconds at capture (00 R14). -/
  calSec : Nat := 0
  /-- calendar fraction at capture (00 R14). -/
  calFrac : Nat := 0
  /-- calendar time was set at capture (00 R14). -/
  timeSet : Bool := false
  deriving DecidableEq, Repr

/-- A Batten chain frame (R123); an IDLE, ACK or NAK is no frame. -/
structure Frame where
  /-- DST (05 R123). -/
  dst : Nat := 0
  /-- SRC (05 R123). -/
  src : Nat := 0
  /-- PRIO (05 R123). -/
  prio : Bool := false
  /-- TYPE (05 R123, R124). -/
  type : Nat := 0
  /-- SEQ of this hop (05 R123). -/
  seq : Nat := 0
  /-- MORE (05 R123). -/
  more : Bool := false
  /-- payload symbols (05 R123). -/
  payload : List Nat := []
  /-- forwarded (not local) traffic (05 R130). -/
  fwd : Bool := false
  deriving DecidableEq, Repr

/-- Activity of one tile in the present interval, as the last boundary took it. -/
structure TileAct where
  /-- tile (11 R307). -/
  tile : Nat := 0
  /-- context slot that held the tile for the most cycles (12 R341). -/
  slot : Nat := 0
  /-- counts of the eight classes (11 R307). -/
  counts : List Nat := []
  deriving DecidableEq, Repr

/-- A firmware image as its header and CRC describe it. -/
structure Image where
  /-- header well formed and image readable (14 R421). -/
  valid : Bool := false
  /-- MAJOR (14 R421). -/
  major : Nat := 0
  /-- MINOR (14 R421). -/
  minor : Nat := 0
  /-- BUILD (14 R421). -/
  build : Nat := 0
  /-- TASK_ABI (14 R421). -/
  taskAbi : Nat := 0
  /-- LENGTH (14 R421). -/
  length : Nat := 0
  /-- CRC-32 of the whole image (03 R71). -/
  crc : Nat := 0
  deriving DecidableEq, Repr

/-- The two links of a node: towards the root and away from it (R119). -/
inductive Side where
  | up
  | dn
  deriving DecidableEq, Repr

/-- The channels of the Cut List engine (R105, R115): a mailbox slot, the management port, the chain, firmware, or a
jig's place in the firmware channel. -/
inductive ChanId where
  | slot (p : Nat)
  | mgt
  | chain
  | fw
  | jig (j : Nat)
  deriving DecidableEq, Repr

/-- The monitored clock sources (R291). -/
inductive SrcId where
  | ref100
  | xtal
  | pllA
  | pllB
  | rc
  deriving DecidableEq, Repr

/-- A pinned task: one of firmware's laws, or a jig (R407). -/
inductive PinId where
  | firm (id : Nat)
  | jig (j : Nat)
  deriving DecidableEq, Repr


/-- The commands (one per row of the table of operations and events). -/
inductive Instr where
  /-- VDD_AON_RISE (R56): VDD_AON comes within its limits; the hard-trip comparators arm and the THERMTRIP_N latch starts at 1. -/
  | vddAonRise
  /-- POR_N_ASSERT (R21): POR_N falls and resets every island; retention RAM and the THERMTRIP_N latch are kept. -/
  | porNAssert
  /-- POR_N_RELEASE (R54): POR_N rises; the AON island leaves reset, the tick counter starts from zero and HARDTRIP reports ready. -/
  | porNRelease
  /-- STRAP_LATCH (R30): 16 ticks after POR_N rises, the AON sequencer latches the straps, arms the management port and reports AON ready. -/
  | strapLatch (root : Bool) (smb boot : Nat)
  /-- MGT_READY (R82): 1,000 ticks after POR_N rises, the management port reports MGT ready. -/
  | mgtReady
  /-- XSPI_RESET_END (R29): 10 µs after POR_N rises, the flash port raises XSPI_RST_N and starts its 1 ms wait. -/
  | xspiResetEnd
  /-- BOOT_FLASH_READ_START (R59): When the 1 ms flash wait ends, the sequencer starts step 1a and reads the boot record, the last-fault area and the defaults area. -/
  | bootFlashReadStart
  /-- BOOT_READS_DONE (R59): The reads of step 1a end; the sequencer chooses a boot record, finds any shutdown hold and reports FLASH ready. -/
  | bootReadsDone
  /-- REFERENCE_QUALIFIED (R44): REF100_IN or the crystal passes its monitor and becomes the source of the CTL PLL. -/
  | referenceQualified (ref100 : Bool)
  /-- REFERENCE_LIMIT_EXPIRY (R44): 2 ms after POR_N rises with no qualified reference, the CTL PLL is sent to the RC oscillator and an S2 event is recorded. -/
  | referenceLimitExpiry
  /-- CTL_PLL_LOCK (R54): The CTL PLL reports lock; the CTL island is released and CTLCLK reports ready. -/
  | ctlPllLock
  /-- TRACKED_START (R59): Once CTLCLK is ready, a boot record is present and no hold applies, step 2 begins tracked start-up. -/
  | trackedStart
  /-- GROUP_DELAY_EXPIRY (R64): A tracking group's GDELAY runs out and its rails begin to ramp, coincident or ratiometric. -/
  | groupDelayExpiry
  /-- RAIL_POWER_GOOD (R67): A rail has held ±3 % of its setpoint for 10 µs after its ramp; it reaches power-good and REGULATING, and RAILS or SHIMS may become ready. -/
  | railPowerGood (k : Nat)
  /-- PG_TIMEOUT (R67): A group misses power-good within its ramp time plus 1 ms; every rail of the group raises PG_TIMEOUT at S3 and enters SAFE. -/
  | pgTimeout
  /-- ENG_RELEASE (R54): 20 µs after SRAM power-good with PLL_A_IN qualified, the ENG island is released, together with FAB and STP where their conditions hold. -/
  | engRelease
  /-- PLL_A_TIMEOUT (R55): PLL_A_IN has not qualified 5 ms after SRAM power-good; ENG is released on the CTL clock and an S2 event is recorded. -/
  | pllATimeout
  /-- HOST_RST_N_ASSERT (R21): HOST_RST_N falls; the FAB island resets and fabric requests in flight are discarded without a response. -/
  | hostRstNAssert
  /-- HOST_RST_N_RELEASE (R54): HOST_RST_N rises and the FAB island is released if ENG is released. -/
  | hostRstNRelease
  /-- ENUM_START (R133): Once RAILS is ready, the root takes address 0x01 and sends ENUM downstream. -/
  | enumStart
  /-- CHAIN_TIMEOUT (R59): 10 ms after step 3 begins without CHAIN ready, the node records an S2 event and goes on to step 4. -/
  | chainTimeout
  /-- HOST_INTERFACE_START (R59): Step 4 starts the host interface, the Cut List engine, the recorder and the DMA engine, which report ready. -/
  | hostInterfaceStart
  /-- IMG_FETCH (R70): A write of FETCH copies the firmware image from flash to the staging buffer, or starts an update in service when STATE reads loaded. -/
  | imgFetch (q : FabReq)
  /-- IMG_STAGING_DONE (R71): The staging copy ends; STATE reads staged with LEN and CRC, or failed with FETCH_ERR. -/
  | imgStagingDone (readOk : Bool)
  /-- IMG_ACCEPT (R72): A write of ACCEPT declares the staged image verified and starts the load through DMA channel 0. -/
  | imgAccept (q : FabReq) (img : Image)
  /-- IMG_REJECT (R73): A write of REJECT refuses the staged image; the other slot is staged once or STATE becomes failed. -/
  | imgReject (q : FabReq)
  /-- IMG_LOAD_DONE (R72): The load read-back ends; on a CRC match the engines start and FW becomes ready, otherwise MISMATCH and failed are set. -/
  | imgLoadDone (busOk : Bool) (crc : Nat)
  /-- FW_FUNCTION_START (R82): Firmware brings up one of SYNC, CLAMP, DOVETAIL, FFWD, ESTIM, THMODEL or OBS, which then reports ready. -/
  | fwFunctionStart (f : Nat)
  /-- CLK_EN_GATE (R79): A write of 0 to an RW clock enable checks the block for outstanding state and is refused or begins to gate the block. -/
  | clkEnGate (q : FabReq) (b : Nat)
  /-- GATE_STOP (R79): A gated block completes the accesses it had accepted, clears its readiness bit and stops its clock. -/
  | gateStop (b : Nat)
  /-- CLK_EN_UNGATE (R79): A write of 1 to an RW clock enable that reads 0 restarts the block's clock with its configuration kept. -/
  | clkEnUngate (q : FabReq) (b : Nat)
  /-- FABRIC_WRITE (R24): A fabric write to a register without a row of its own is checked under R25 and changes only the enabled bytes. -/
  | fabricWrite (q : FabReq)
  /-- CL_READ (R111): A READ request snapshots an object's whole value and returns its first 48 bytes. -/
  | clRead (ch : ChanId) (r : ClReq)
  /-- CL_READ_NEXT (R112): A READ_NEXT request returns the next 48 bytes of the open read snapshot. -/
  | clReadNext (ch : ChanId) (r : ClReq)
  /-- CL_WRITE (R112): A WRITE request opens a write, or with LAST writes the whole value after the checks of R96. -/
  | clWrite (ch : ChanId) (r : ClReq)
  /-- CL_WRITE_NEXT (R112): A WRITE_NEXT request adds a segment to the open write and, with LAST, applies the whole value. -/
  | clWriteNext (ch : ChanId) (r : ClReq)
  /-- CL_CANCEL (R111): A CANCEL request abandons the channel's open segmented transfer. -/
  | clCancel (ch : ChanId) (r : ClReq)
  /-- CL_DESCRIBE (R113): A DESCRIBE request returns the 48-byte description of an object after checks 1–6. -/
  | clDescribe (ch : ChanId) (r : ClReq)
  /-- CL_TRANSFER_TIMEOUT (R112): An open segmented transfer that sees no segment for 10 ms is ended. -/
  | clTransferTimeout (ch : ChanId)
  /-- CL_FW_TIMEOUT (R116): Firmware has not taken a passed request within 100 µs; it is withdrawn with FW_TIMEOUT and an S1 event is recorded. -/
  | clFwTimeout (ch : ChanId)
  /-- CL_FW_RESPONSE (R116): Firmware answers a request for a firmware-owned object. -/
  | clFwResponse (ch : ChanId) (abort : Nat)
  /-- CL_REMOTE_TIMEOUT (R146): A chain request has no CL_RSP within 1 ms; it ends with REMOTE_TIMEOUT and a late response is discarded. -/
  | clRemoteTimeout (ch : ChanId)
  /-- LEVEL_REQUEST (R104): A write of the requested level agrees the highest offered level not above it and ends any open transfer of the channel. -/
  | levelRequest (ch : ChanId) (val : List Byte)
  /-- DIAG_LOCK_OPEN (R87): The management port writes 0xF000 to 1, opening the vendor diagnostics range to itself and recording an S0 event. -/
  | diagLockOpen (val : List Byte)
  /-- COMMISSIONING_STORE (R102): A write of the store key snapshots every persistent object and starts writing it to the non-current defaults copy. -/
  | commissioningStore (ch : ChanId) (val : List Byte)
  /-- COMMISSIONING_STORE_DONE (R102): A store ends; the copy becomes current with its mark, or the store state becomes failed with an S2 event. -/
  | commissioningStoreDone (ok : Bool)
  /-- COMMISSIONING_WIPE (R103): A write of the wipe key marks both defaults copies invalid. -/
  | commissioningWipe (ch : ChanId) (val : List Byte)
  /-- LINK_LOCK_GAIN (R121): A chain receiver sees 64 clean symbols and gains lock; the link counts as up. -/
  | linkLockGain (l : Side)
  /-- LINK_CODE_ERROR_LOSS (R121): Four code errors within 128 symbols make a receiver lose lock. -/
  | linkCodeErrorLoss (l : Side)
  /-- LINK_K285_TIMEOUT (R121): No K28.5 arrives for 1 µs and the receiver loses lock. -/
  | linkK285Timeout (l : Side)
  /-- LINK_RELOCK_TIMEOUT (R129): Lock is not regained within 2 µs and the link is declared down. -/
  | linkRelockTimeout (l : Side)
  /-- LINK_ACK_TIMEOUT (R129): An unacknowledged frame receives no ACK within 2 µs and the link is declared down. -/
  | linkAckTimeout (l : Side) (prio : Bool)
  /-- ACK_RECEIVE (R127): An ACK frees the acknowledged frames of the lane's replay buffer. -/
  | ackReceive (l : Side) (prio : Bool) (seq : Nat)
  /-- NAK_RECEIVE (R127): A NAK makes the sender replay the frame and every later frame of the lane, or declares the link down after four. -/
  | nakReceive (l : Side) (prio : Bool) (seq : Nat)
  /-- FRAME_RECEIVE_BAD_CRC (R128): A frame arrives with a bad CRC; it is NAKed and a forwarded copy is ended with POISON. -/
  | frameReceiveBadCrc (l : Side) (f : Frame)
  /-- POISON_RECEIVE (R127): A frame ending in POISON is discarded without ACK or NAK. -/
  | poisonReceive (l : Side) (f : Frame)
  /-- ENUM_RECEIVE (R133): A node receiving ENUM takes the next address of its kind and appends its descriptor. -/
  | enumReceive (l : Side) (f : Frame)
  /-- ENUM_FORWARD (R133): Once its RAILS is ready and BCH_DN has lock, a node forwards the enumeration token. -/
  | enumForward
  /-- FAR_END_TIMEOUT (R135): A node holding the token sees no BCH_DN lock for 100 µs and sends ENUM_REPORT to the root. -/
  | farEndTimeout
  /-- ENUM_REPEAT (R135): The root repeats ENUM every 3 ms until a report arrives, at most three times. -/
  | enumRepeat
  /-- ENUM_TIMEOUT (R135): No report within 10 ms of the first ENUM; the root closes enumeration with itself as only member. -/
  | enumTimeout
  /-- ENUM_REPORT_RECEIVE (R136): The root receives the list and broadcasts ENUM_CLOSE, checking the expected counts. -/
  | enumReportReceive (l : Side) (f : Frame)
  /-- ENUM_CLOSE_RECEIVE (R136): A node with an address becomes a member, takes the isolated die budget and reports CHAIN ready. -/
  | enumCloseReceive (l : Side) (f : Frame)
  /-- NODE_LOST_RECEIVE (R149): NODE_LOST arrives; the root moves members to the lost mask and redistributes, a member forwards it and may take the isolated role. -/
  | nodeLostReceive (l : Side) (f : Frame)
  /-- NODE_REJOIN_RECEIVE (R151): The root gives the node an address, sends ENUM_CLOSE to it and to all, and commits its die budget. -/
  | nodeRejoinReceive (l : Side) (f : Frame)
  /-- HOLD_OUT_CLEAR (R152): A write of 0x2100.08 ends the hold-out of the named members. -/
  | holdOutClear (ch : ChanId) (val : List Byte)
  /-- ASSUME_ROOT (R153): A write of 0x2100.09 makes an instance with BCH_UP down the root, enumerating its downstream side afresh. -/
  | assumeRoot (ch : ChanId) (val : List Byte)
  /-- RESERVE_RELEASE (R149): A write of 0x2100.0B releases the isolated budget reserved for named lost members. -/
  | reserveRelease (ch : ChanId) (val : List Byte)
  /-- BUD_REQ_RECEIVE (R138): The root queues the budget records of a BUD_REQ and answers YES, or NO when its queue is full. -/
  | budReqReceive (l : Side) (f : Frame)
  /-- BUD_TRANSACTION_OPEN (R140): With no transaction open, the root takes up to 15 pending records and broadcasts BUD_PREPARE. -/
  | budTransactionOpen
  /-- BUD_PREPARE_RECEIVE (R140): A member checks buffer, ranges and membership and votes YES or NO to the root within 1 µs. -/
  | budPrepareReceive (l : Side) (f : Frame)
  /-- BUD_VOTE_RECEIVE (R141): The root collects a vote, sending BUD_COMMIT when all members voted YES or BUD_ABORT at the first NO. -/
  | budVoteReceive (l : Side) (f : Frame)
  /-- BUD_VOTE_TIMEOUT (R141): 10 µs pass without every vote and the root sends BUD_ABORT. -/
  | budVoteTimeout
  /-- BUD_COMMIT_RECEIVE (R141): A member starts putting every record of the committed transaction into force. -/
  | budCommitReceive (l : Side) (f : Frame)
  /-- BUD_COMMIT_APPLY (R141): A member puts a committed transaction into force together within 100 µs and frees its buffer. -/
  | budCommitApply (txid : Nat)
  /-- BUD_ABORT_RECEIVE (R141): A member frees the transaction's prepare buffer at once. -/
  | budAbortReceive (l : Side) (f : Frame)
  /-- BUD_OUTCOME_TIMEOUT (R142): A member hears no outcome 50 µs after its vote; it votes again or discards the records and isolates. -/
  | budOutcomeTimeout (txid : Nat)
  /-- BUD_RETRY (R143): 50 µs after an abort, the root opens a new transaction with the same records. -/
  | budRetry
  /-- TELEM_SEND (R144): Every 1 ms each member broadcasts its TELEM message. -/
  | telemSend
  /-- TELEM_RECEIVE (R144): A member keeps or drops a TELEM copy, counts gaps, and takes relayed throttle words and root budget data from it. -/
  | telemReceive (l : Side) (f : Frame)
  /-- CL_REQ_RECEIVE (R146): A remote Cut List request is checked and served in the chain channel of the receiving node. -/
  | clReqReceive (l : Side) (f : Frame)
  /-- CL_RSP_RECEIVE (R146): The originator receives a remote response and completes the request. -/
  | clRspReceive (l : Side) (f : Frame)
  /-- COMPENSATOR_SAMPLE (R190): At each 125 ns sample boundary every controller takes safe states, swaps, the voltage sample, compensator, phase changes and PWM in order. -/
  | compensatorSample (v : List Nat)
  /-- CURRENT_CONVERSION (R161): Every 1 µs all phase currents and PS_TMON are converted and used by limits, share loop and checks. -/
  | currentConversion (imon : List Nat) (iref tmon : Nat)
  /-- PH_OC_PEAK_EXPIRY (R202): A phase over-current hold lasts beyond the peak time and PH_OC is raised again at S1. -/
  | phOcPeakExpiry (n : Nat)
  /-- PEAK_TIMER_EXPIRY (R203): The rail's peak timer reaches the peak time and the rail enters fold-back. -/
  | peakTimerExpiry (k : Nat)
  /-- FOLDBACK_HOLD_EXPIRY (R204): I_rail has stayed at or below I_cont for the fold-back hold; fold-back ends and its request is withdrawn. -/
  | foldbackHoldExpiry (k : Nat)
  /-- FOLDBACK_LIMIT_EXPIRY (R204): The fold-back timer reaches the fold-back limit and the rail raises HARD_OC. -/
  | foldbackLimitExpiry (k : Nat)
  /-- OV_PERSIST (R207): OV still present 10 µs after SAFE raises OV_PERSIST at S4. -/
  | ovPersist (k : Nat)
  /-- UV (R208): Every sample over the UV time lies below the UV level; UV is raised at S2 with a throttle request. -/
  | uv (k : Nat)
  /-- UV_S3_EXPIRY (R208): UV persists for 10 UV times; the rail raises UV at S3 and enters SAFE. -/
  | uvS3Expiry (k : Nat)
  /-- STG_FLT (R212): PS_TMON held above 2.5 V for 1 µs; the AON comparator drives every PH_EN low and rails enter SAFE. -/
  | stgFlt
  /-- PHASE_SUSPECT (R213): A phase's share-check count reaches the detection count; it becomes suspect and is classified by the sum check. -/
  | phaseSuspect (n : Nat)
  /-- FE_TIMER_EXPIRY (R219): The FE timer reaches the FE time and the rail raises a following error. -/
  | feTimerExpiry (k : Nat)
  /-- S1_HOLD_EXPIRY (R221): An S1 fault's recovery ends after the S1 hold and the next latched fault may start. -/
  | s1HoldExpiry (c : Nat)
  /-- S2_HOLD_EXPIRY (R275): An S2 fault's condition has been absent for the S2 hold; its throttle request is withdrawn and recovery ends. -/
  | s2HoldExpiry (c : Nat)
  /-- SAFE_RELEASE (R223): A write of safe release puts a SAFE rail in OFF, or ends with STATE. -/
  | safeRelease (ch : ChanId) (k : Nat) (val : List Byte)
  /-- RESTART_DELAY_EXPIRY (R223): After the restart delay a SAFE rail with retries and enable 1 releases itself and starts. -/
  | restartDelayExpiry (k : Nat)
  /-- RETRY_REFILL (R223): 10 s without an S3 returns the rail's restart retries to their set value. -/
  | retryRefill (k : Nat)
  /-- LAST_FAULT_WRITE (R229): A retained last-fault record is written to the next slot of the last-fault area and leaves retention. -/
  | lastFaultWrite (ok : Bool)
  /-- SHED_START (R180): At a period start of position 0 with all conditions held, the head phase enters shedding. -/
  | shedStart (k : Nat)
  /-- SHED_RAMP_END (R180): The shed ramp ends; the head floats, becomes idle and the head advances. -/
  | shedRampEnd (k : Nat)
  /-- ROTATION_STEP (R176): The rotation period elapses; the member after the run joins and the head is shed. -/
  | rotationStep (k : Nat)
  /-- REG_SYNC_QUALIFY (R184): 16 consistent REG_SYNC_IN periods qualify the input and enabled rails start acquisition. -/
  | regSyncQualify (period : Nat)
  /-- REG_SYNC_LOCK (R184): A rail's phase error stays below 0.5 % for 16 periods and it is locked. -/
  | regSyncLock (k : Nat)
  /-- REG_SYNC_LOSS (R185): REG_SYNC_IN misses an edge or drifts; locked rails keep their period and slew back to FSW. -/
  | regSyncLoss
  /-- RAIL_ENABLE_ON (R189): A write of 1 to rail enable starts an OFF rail alone at its slew. -/
  | railEnableOn (ch : ChanId) (k : Nat) (val : List Byte)
  /-- RAIL_ENABLE_OFF (R189): A write of 0 to rail enable puts the rail in STOPPING, stopping TCLK_OUT first for CORE. -/
  | railEnableOff (ch : ChanId) (k : Nat) (val : List Byte)
  /-- GROUP_MOVE (R187): A group move write moves the named rails' setpoints together at the group rates. -/
  | groupMove (ch : ChanId) (val : List Byte)
  /-- GROUP_STOP (R189): A group stop puts every rail of the group in STOPPING at the group's rates. -/
  | groupStop (ch : ChanId) (val : List Byte)
  /-- SETPOINT_WRITE (R188): A write of a rail's operating setpoint moves that rail alone, or ends with STATE during its group's move. -/
  | setpointWrite (ch : ChanId) (k : Nat) (val : List Byte)
  /-- BANK_SWAP (R168): A write of swap makes the other coefficient bank active at the next boundary. -/
  | bankSwap (ch : ChanId) (k : Nat) (val : List Byte)
  /-- PHASE_CONTROLLER_WRITE (R157): A write of a phase's controller moves an unassigned or out-of-service phase. -/
  | phaseControllerWrite (ch : ChanId) (n : Nat) (val : List Byte)
  /-- PHASE_OUT_OF_SERVICE (R182): A write of 0 to in-service removes a phase, shedding it first if it fires. -/
  | phaseOutOfService (ch : ChanId) (n : Nat) (val : List Byte)
  /-- PHASE_REINSTATE (R183): A write of 1 to in-service makes an out-of-service phase idle. -/
  | phaseReinstate (ch : ChanId) (n : Nat) (val : List Byte)
  /-- STEP_ANNOUNCE (R39): STEP_VALID latches an announcement into the queue, or drops it with STEP_OVF when full. -/
  | stepAnnounce (prog idx pos : Nat)
  /-- EXEC_MARKER (R250): EXEC_MARK latches a marker, which is matched, ignored, counted as unannounced, or makes a step following error. -/
  | execMarker (prog idx : Nat)
  /-- FF_LOOKUP_DONE (R239): A table lookup completes, yielding column currents or an unpredicted step, posted to the estimator. -/
  | ffLookupDone
  /-- ANNOUNCEMENT_MISSED (R250): A pending announcement's due time plus window passes at a boundary; it is missed and a step following error results. -/
  | announcementMissed
  /-- SETTLING_END (R253): Lead × P plus the marker window passes and settling ends. -/
  | settlingEnd
  /-- STEP_CLK_WINDOW (R234): A 6,400-cycle window completes and the STEP_CLK period P is updated. -/
  | stepClkWindow (edges : Nat)
  /-- FF_DUTY_START (R247): At the boundary before due minus duty lead, the feed-forward duty term takes D0. -/
  | ffDutyStart (k : Nat)
  /-- FF_SHIM_POST (R248): At the shim horizon, group currents go to the shims and a barrier step's currents to Dovetail. -/
  | ffShimPost
  /-- TABLE_LOAD_START (R240): A write of 0x8010.04 reads and checks the image header and begins copying pages. -/
  | tableLoadStart (ch : ChanId) (val hdr : List Byte) (busOk : Bool)
  /-- TABLE_PAGE_COPIED (R240): A page copy completes and its CRC is checked; the load completes or fails when the last page is done. -/
  | tablePageCopied (data : List Byte) (busOk : Bool)
  /-- SLOT_SWAP (R242): A swap write makes the slot's shadow list active between two lookups. -/
  | slotSwap (ch : ChanId) (n : Nat) (val : List Byte)
  /-- PAGE_FREE (R242): Once lookups begun before a swap complete, unshared old pages return to the free set. -/
  | pageFree (n : Nat)
  /-- SLOT_ENABLE (R243): A write of the enable object enables or disables a program slot. -/
  | slotEnable (ch : ChanId) (n : Nat) (val : List Byte)
  /-- SLOT_PROGRAM_WRITE (R243): A write binds a disabled slot to a program. -/
  | slotProgramWrite (ch : ChanId) (n : Nat) (val : List Byte)
  /-- SLOT_RELEASE (R243): A release write returns every page of a disabled slot. -/
  | slotRelease (ch : ChanId) (n : Nat) (val : List Byte)
  /-- SHIM_CONTROL_CYCLE (R259): Each ring-oscillator cycle the shim compares its supply with r and changes its segment count. -/
  | shimControlCycle (n uv : Nat)
  /-- SHIM_REF_STEP (R261): Each step interval a region's reference moves one 5 mV step towards its target unless held. -/
  | shimRefStep (n : Nat)
  /-- SHIM_SATURATION (R264): 64 cycles at n = 128 and v < r saturate a region and the dropout boost comes into force. -/
  | shimSaturation (n : Nat)
  /-- BOOST_HOLD_EXPIRY (R264): No region has been saturated for the boost hold and the dropout boost leaves H. -/
  | boostHoldExpiry
  /-- HEADROOM_WAIT_EXPIRY (R263): An upward move's headroom wait runs out; the reference starts anyway. -/
  | headroomWaitExpiry (n : Nat)
  /-- PRELOAD_ARM (R267): At due time less the preload lead, the region's preload arms. -/
  | preloadArm (n : Nat)
  /-- PRELOAD_DISARM (R267): At due time plus the arm window the preload disarms, setting preload unused if it never acted. -/
  | preloadDisarm (n : Nat)
  /-- KERF_CROSSING (R270): The region supply crosses level 1; STR_EN and the first code rise within 0.40 ns and the stretch hold sets. -/
  | kerfCrossing (n : Nat)
  /-- KERF_LEVEL_RAISE (R270): The supply crosses a deeper level during a stretch and STR_AMT rises. -/
  | kerfLevelRaise (n level : Nat)
  /-- KERF_STRETCH_END (R271): At an edge with the supply above T + hysteresis and the minimum hold passed, STR_EN falls. -/
  | kerfStretchEnd (n : Nat)
  /-- STRETCH_HOLD_CLEAR (R272): 16 TCLK_OUT cycles after the last STR_EN fell, the stretch hold clears. -/
  | stretchHoldClear
  /-- SHIM_LOW (R275): A region holds n = 128 and v < T for the low time; SHIM_LOW raises a regulator-fault request at S2. -/
  | shimLow (n : Nat)
  /-- KERF_DUTY (R275): A region's stretched edges exceed the duty limit over the duty windows; a droop-stretch skip request is posted at S2. -/
  | kerfDuty (n : Nat)
  /-- REGION_MONITOR_CONVERSION (R278): The monitor converts one region's sense point per 1 µs, feeding SHIM_DEV and automatic trimming. -/
  | regionMonitorConversion (mv : Nat)
  /-- TRIM_WRITE (R279): A write of the shim or kerf trim starts moving the trim by 1 mV per control cycle. -/
  | trimWrite (ch : ChanId) (n : Nat) (kerf : Bool) (val : List Byte)
  /-- KERF_TEST_START (R280): A write of test start counts cycles below the test threshold over the test window. -/
  | kerfTestStart (ch : ChanId) (n : Nat) (val : List Byte)
  /-- KERF_TEST_END (R280): The test window ends and test count is reported. -/
  | kerfTestEnd (n : Nat)
  /-- REGION_TARGET_WRITE (R261): A write of a region's target sets the target its reference moves towards. -/
  | regionTargetWrite (ch : ChanId) (n : Nat) (val : List Byte)
  /-- SETPOINT_MAP_TILE_WRITE (R286): A tile write sets 64 region targets or bypass in one flip and increments SEQ. -/
  | setpointMapTileWrite (ch : ChanId) (t : Nat) (val : List Byte)
  /-- REGION_MODE_WRITE (R260): A write of a region's mode puts it in regulate or bypass. -/
  | regionModeWrite (ch : ChanId) (n : Nat) (val : List Byte)
  /-- SOURCE_MONITOR_WINDOW (R291): A monitor window of a clock source ends and the source qualifies or fails. -/
  | sourceMonitorWindow (src : SrcId) (khz : Nat)
  /-- SOURCE_MISSING_EDGE (R291): No edge arrives within the missing-edge time and the source fails. -/
  | sourceMissingEdge (src : SrcId)
  /-- TILE_SOURCE_SELECT (R294): A write of 0x2201.01 returns the tile clock to a qualified source at the restart divider. -/
  | tileSourceSelect (ch : ChanId) (val : List Byte)
  /-- DIVIDER_STEP (R289): 64 cycles after the last, the divider moves M one step towards its goal. -/
  | dividerStep
  /-- SKIP_STEP (R290): The skip count moves by 1 towards its goal, 64 cycles after the last change. -/
  | skipStep
  /-- POINT_REQUEST_WRITE (R298): A write of the point request sets a new target point for the sequencer. -/
  | pointRequestWrite (ch : ChanId) (val : List Byte)
  /-- SEQ_VOLTAGE_STEP (R298): The sequencer writes region targets and issues an SRAM group move for the next point. -/
  | seqVoltageStep
  /-- SEQ_VOLTAGE_DONE (R298): Every reference reaches its target and the move completes; divider steps may follow. -/
  | seqVoltageDone
  /-- V_TIMEOUT (R298): A voltage step is not complete within the timeout; the move ends and V_TIMEOUT is raised at S1. -/
  | vTimeout
  /-- TCLK_START (R300): With rails, shims and regions regulating, TCLK_OUT starts at the restart divider. -/
  | tclkStart
  /-- ESTIMATOR_BOUNDARY (R308): Every 1 µs the estimator forms rail, tile and partition power and the cap controller and Clamp act. -/
  | estimatorBoundary (acts : List TileAct)
  /-- CAP_ESCALATE_EXPIRY (R321): The skip has stood at its limit for the escalate time and the ceiling falls one point. -/
  | capEscalateExpiry
  /-- CAP_RAISE_HOLD_EXPIRY (R321): The raise hold passes below the release level; the ceiling rises or the divide clears. -/
  | capRaiseHoldExpiry
  /-- CALIBRATION_UPDATE (R312): Every 1 ms the estimator updates each rail's coefficients by recursive least squares. -/
  | calibrationUpdate
  /-- ADOPT (R315): A write of 0x6008.04 copies the calibrated set to the reporting set and increments the epoch. -/
  | adopt (ch : ChanId) (val : List Byte)
  /-- TELEMETRY_INSTANT (R330): Every 100,000 ticks each tenant record takes new power, energy and, every tenth instant, temperatures. -/
  | telemetryInstant
  /-- BUDGET_WRITE (R317): A write of a budget object sends its record to the root's queue. -/
  | budgetWrite (ch : ChanId) (idx sub : Nat) (val : List Byte)
  /-- POLICY_WRITE (R327): A write of the frequency policy sets free, fixed or boost operation. -/
  | policyWrite (ch : ChanId) (val : List Byte)
  /-- THR_IN_ASSERT (R46): THR_IN_N held low for 100 ticks raises the external-assert throttle reason. -/
  | thrInAssert
  /-- THR_IN_RELEASE (R46): THR_IN_N held high for 100 ticks withdraws the external-assert reason. -/
  | thrInRelease
  /-- CLAMP_OPEN (R345): An OPEN word makes a context account live if the budgets allow. -/
  | clampOpen (tile : Nat) (w : BitVec 64)
  /-- CLAMP_CLOSE (R345): A CLOSE word ends the slot's grant and queued request and closes the account. -/
  | clampClose (tile : Nat) (w : BitVec 64)
  /-- CLAMP_REQUEST (R346): A REQUEST word is granted, queued or refused against partition, die and burst limits. -/
  | clampRequest (tile : Nat) (w : BitVec 64)
  /-- CLAMP_RELEASE (R350): A RELEASE word ends the slot's grant early. -/
  | clampRelease (tile : Nat) (w : BitVec 64)
  /-- CLAMP_CANCEL (R350): A CANCEL word withdraws the slot's queued request. -/
  | clampCancel (tile : Nat) (w : BitVec 64)
  /-- GRANT_WINDOW_END (R350): A grant's window runs out; an ENDED notice is sent and overdraw is checked. -/
  | grantWindowEnd (a : Nat)
  /-- REQUEST_WAIT_EXPIRY (R350): A queued request waits the wait limit and leaves with EXPIRED. -/
  | requestWaitExpiry (a : Nat)
  /-- ENFORCE_WRITE (R354): A write of enforce starts or stops admission checking. -/
  | enforceWrite (ch : ChanId) (val : List Byte)
  /-- TILE_PARTITION_MAP_WRITE (R350): A write of 0x6010 moves tiles between partitions, closing their contexts and waits at the next boundary. -/
  | tilePartitionMapWrite (ch : ChanId) (val : List Byte)
  /-- BAR_IN_RISE (R356): A rising BAR_IN starts a paced release, sends ARRIVE for package scope, or sets BAR_EARLY. -/
  | barInRise
  /-- BAR_OUT_RISE (R356): Two cycles after e0, BAR_OUT rises with the mask of wave 1. -/
  | barOutRise
  /-- DOVETAIL_WAVE (R356): Each spacing d after wave 1, the next wave's lines rise. -/
  | dovetailWave
  /-- BAR_OUT_FALL (R356): Four cycles after the last wave, BAR_OUT falls and BAR_WAVE returns all high. -/
  | barOutFall
  /-- PLAN_WINDOW_EXPIRY (R358): An armed plan unused by the due time plus the plan window disarms. -/
  | planWindowExpiry
  /-- BARRIER_ARRIVE_RECEIVE (R363): The root sets the member's arrival bit and sends RELEASE when the mask is complete. -/
  | barrierArriveReceive (l : Side) (f : Frame)
  /-- BARRIER_RELEASE_RECEIVE (R363): A waiting member named in RELEASE releases its tiles with its plan. -/
  | barrierReleaseReceive (l : Side) (f : Frame)
  /-- BARRIER_CANCEL_RECEIVE (R365): A waiting member named in CANCEL releases and records BARRIER_CANCELLED. -/
  | barrierCancelReceive (l : Side) (f : Frame)
  /-- BARRIER_TIMEOUT (R364): A member waits for RELEASE beyond the barrier timeout and raises BARRIER_LATE at S1. -/
  | barrierTimeout
  /-- PACKAGE_BARRIER_CANCEL (R365): A write of 0x7102.04 at the root sends CANCEL and removes lost members from the mask. -/
  | packageBarrierCancel (ch : ChanId) (val : List Byte)
  /-- GAUGE_INSTANT (R373): Every 8 µs each gauge delivers a result and cross-checks, group levels and rates are evaluated. -/
  | gaugeInstant (raw : List Int)
  /-- GAUGE_SUSPECT (R379): After 16 deviating instants a normal gauge becomes suspect and its estimate is used. -/
  | gaugeSuspect (g : Nat)
  /-- THERMAL_STEP_EXPIRY (R386): One thermal step time after engagement with the result still at throttle, the ceiling falls by 1. -/
  | thermalStepExpiry (g : Nat)
  /-- THERMAL_RAISE_HOLD_EXPIRY (R386): The raise hold passes below throttle less hysteresis; the ceiling rises or the group disengages. -/
  | thermalRaiseHoldExpiry (g : Nat)
  /-- RATE_HOLD_EXPIRY (R387): The rate hold passes without a rate excess and the reason-4 request is withdrawn. -/
  | rateHoldExpiry (g : Nat)
  /-- HARD_TRIP_COMPARATOR_RISE (R395): A hard-trip comparator output rises and starts its 100-tick qualification. -/
  | hardTripComparatorRise (c : Nat)
  /-- HARD_TRIP (R395): A comparator qualifies; THERMTRIP_N and PH_EN fall, TCLK_OUT is held low and the trip latches at S4. -/
  | hardTrip (c : Nat)
  /-- GAUGE_REFERENCE_CYCLE (R382): Command 1 covers a gauge and runs its reference cycle. -/
  | gaugeReferenceCycle (ch : ChanId) (val : List Byte)
  /-- GAUGE_ALIGN (R382): Command 2 covers a gauge for 1,024 instants to align its offset. -/
  | gaugeAlign (ch : ChanId) (val : List Byte)
  /-- GAUGE_CLEAR (R382): Command 3 makes a suspect gauge normal at the next instant. -/
  | gaugeClear (ch : ChanId) (val : List Byte)
  /-- GAUGE_TAKE_OFF (R382): Command 4 makes a gauge off and removes it from neighbour sets. -/
  | gaugeTakeOff (ch : ChanId) (val : List Byte)
  /-- GAUGE_RETURN (R382): Command 5 returns an off gauge through a reference cycle. -/
  | gaugeReturn (ch : ChanId) (val : List Byte)
  /-- GAUGE_COMMAND_DONE (R382): A reference or align command ends and the gauge becomes normal or suspect. -/
  | gaugeCommandDone (g : Nat)
  /-- GAUGE_CAL_STORE (R384): A write of the store key starts storing the gauge calibration in use to flash. -/
  | gaugeCalStore (ch : ChanId) (val : List Byte)
  /-- GAUGE_CAL_STORE_DONE (R384): The gauge calibration store ends with its mark written, or fails. -/
  | gaugeCalStoreDone (ok : Bool)
  /-- THERMAL_REARM (R399): The management port writes the re-arm key; after its checks the held records are flushed and REARM records written. -/
  | thermalRearm (val : List Byte)
  /-- REARM_COMPLETE (R400): Once every REARM mark is confirmed, THERMTRIP_N rises, SAFE rails go OFF and step 2 runs afresh. -/
  | rearmComplete (ok : Bool)
  /-- RELAY_TIMEOUT (R392): No TELEM from a partner satellite for the relay timeout; the relayed word stays and RELAY_LOST is raised. -/
  | relayTimeout (sat : Nat)
  /-- RELAY_CLEAR (R392): A write of 0x5002.04 ends the relayed words of the named satellites. -/
  | relayClear (ch : ChanId) (val : List Byte)
  /-- THERMAL_MODEL_UPDATE (R393): Every 100 µs firmware updates each region node and runs the prediction. -/
  | thermalModelUpdate
  /-- PREDICT_HOLD_EXPIRY (R394): The prediction stays below throttle less hysteresis for the raise hold and the episode ends. -/
  | predictHoldExpiry (g : Nat)
  /-- PINNED_ACTIVATION (R407): At an instant of its period, a pinned task or jig activates, pre-empting background work. -/
  | pinnedActivation (task : PinId)
  /-- ACTIVATION_DEADLINE_MISS (R410): An activation passes its deadline and DEADLINE is set. -/
  | activationDeadlineMiss (task : PinId)
  /-- ENGINE_STEAL (R408): Every 100 ns an idle engine takes a task from the overflow queue or steals within its group. -/
  | engineSteal (e : Nat)
  /-- TASK_SPAWN (R409): A spawned task goes to the deque, the overflow queue, or runs inline. -/
  | taskSpawn (e task : Nat)
  /-- NOP (R414): Jig operation with no effect. -/
  | nop (j : Nat)
  /-- LDI (R414): Jig operation loading a sign-extended immediate. -/
  | ldi (j d : Nat) (imm : BitVec 32)
  /-- LDIH (R414): Jig operation loading the upper 32 bits of a register. -/
  | ldih (j d : Nat) (imm : BitVec 32)
  /-- MOV (R414): Jig operation copying a register. -/
  | mov (j d a : Nat)
  /-- LDM (R414): Jig operation loading a data word. -/
  | ldm (j d a : Nat) (imm : BitVec 32)
  /-- STM (R414): Jig operation storing a data word. -/
  | stm (j a b : Nat) (imm : BitVec 32)
  /-- ADD (R414): Jig saturating addition. -/
  | add (j d a b : Nat)
  /-- ADDI (R414): Jig saturating addition of an immediate. -/
  | addi (j d a : Nat) (imm : BitVec 32)
  /-- SUB (R414): Jig saturating subtraction. -/
  | sub (j d a b : Nat)
  /-- NEG (R414): Jig negation. -/
  | neg (j d a : Nat)
  /-- ABS (R414): Jig absolute value. -/
  | abs (j d a : Nat)
  /-- MUL (R414): Jig saturating multiplication. -/
  | mul (j d a b : Nat)
  /-- MULSH (R414): Jig multiplication with rounded shift. -/
  | mulsh (j d a b sh : Nat)
  /-- MULISH (R414): Jig multiplication by an immediate with rounded shift. -/
  | mulish (j d a sh : Nat) (imm : BitVec 32)
  /-- DIV (R414): Jig division truncated towards zero. -/
  | div (j d a b : Nat)
  /-- MIN (R414): Jig minimum. -/
  | min (j d a b : Nat)
  /-- MAX (R414): Jig maximum. -/
  | max (j d a b : Nat)
  /-- CLAMP (R414): Jig clamp of a register between two others. -/
  | clamp (j d a b : Nat)
  /-- AND (R414): Jig bitwise AND. -/
  | and (j d a b : Nat)
  /-- OR (R414): Jig bitwise OR. -/
  | or (j d a b : Nat)
  /-- XOR (R414): Jig bitwise XOR. -/
  | xor (j d a b : Nat)
  /-- NOT (R414): Jig bitwise NOT. -/
  | not (j d a : Nat)
  /-- SHL (R414): Jig left shift. -/
  | shl (j d a sh : Nat)
  /-- SHR (R414): Jig logical right shift. -/
  | shr (j d a sh : Nat)
  /-- SAR (R414): Jig arithmetic right shift. -/
  | sar (j d a sh : Nat)
  /-- ANDI (R414): Jig AND with an immediate. -/
  | andi (j d a : Nat) (imm : BitVec 32)
  /-- SEL (R414): Jig select between two registers. -/
  | sel (j d a b : Nat)
  /-- SLT (R414): Jig set-if-less-than. -/
  | slt (j d a b : Nat)
  /-- SEQ (R414): Jig set-if-equal. -/
  | seq (j d a b : Nat)
  /-- BEQ (R414): Jig branch if equal. -/
  | beq (j a b : Nat) (imm : BitVec 32)
  /-- BNE (R414): Jig branch if not equal. -/
  | bne (j a b : Nat) (imm : BitVec 32)
  /-- BLT (R414): Jig branch if less than. -/
  | blt (j a b : Nat) (imm : BitVec 32)
  /-- BGE (R414): Jig branch if greater or equal. -/
  | bge (j a b : Nat) (imm : BitVec 32)
  /-- BZ (R414): Jig branch if zero. -/
  | bz (j a : Nat) (imm : BitVec 32)
  /-- JMP (R414): Jig unconditional jump. -/
  | jmp (j : Nat) (imm : BitVec 32)
  /-- END (R414): Jig operation ending the activation. -/
  | end_ (j : Nat)
  /-- FILT (R414): Jig first-order filter step. -/
  | filt (j d a sh : Nat) (imm : BitVec 32)
  /-- INTEG (R414): Jig bounded integrator step. -/
  | integ (j d a b sh : Nat) (imm : BitVec 32)
  /-- DEADB (R414): Jig dead band. -/
  | deadb (j d a b : Nat)
  /-- SLEW (R414): Jig slew limiter. -/
  | slew (j d a b : Nat)
  /-- RDTEL (R415): Jig read of a live hardware value. -/
  | rdtel (j d : Nat) (imm : BitVec 32)
  /-- RDOBJ (R416): Jig read of a Cut List object through the firmware channel. -/
  | rdobj (j d b : Nat) (imm : BitVec 32)
  /-- WROBJ (R416): Jig write of a permitted Cut List object. -/
  | wrobj (j d a : Nat) (imm : BitVec 32)
  /-- POST (R417): Jig posting of a throttle word for reason 3 or 4, merged by firmware within 10 µs. -/
  | post (j a : Nat) (imm : BitVec 32)
  /-- EVENT (R414): Jig recording of S0 event 0x0E10. -/
  | event (j a : Nat) (imm : BitVec 32)
  /-- TRACE (R414): Jig writing of a JIG record to an armed Scribe. -/
  | trace (j a : Nat)
  /-- ACTN (R414): Jig read of its activation count. -/
  | actn (j d : Nat)
  /-- ELAPSED (R414): Jig read of ticks since the previous activation. -/
  | elapsed (j d : Nat)
  /-- JIG_IMAGE_WRITE (R418): A write of a jig image checks and loads it, clearing data words and counts. -/
  | jigImageWrite (ch : ChanId) (j : Nat) (val : List Byte)
  /-- JIG_START (R419): Control code 1 starts a loaded jig after its checks and budget test. -/
  | jigStart (ch : ChanId) (j : Nat) (val : List Byte)
  /-- JIG_STOP (R433): Control code 2 stops a running jig and withdraws its posts. -/
  | jigStop (ch : ChanId) (j : Nat) (val : List Byte)
  /-- JIG_RESET (R420): Control code 3 returns a faulted or stopped slot to loaded and clears its data. -/
  | jigReset (ch : ChanId) (j : Nat) (val : List Byte)
  /-- FLASH_IMAGE_WRITE (R422): A start of 0x2301 copies an image from fabric into a flash slot. -/
  | flashImageWrite (ch : ChanId) (val : List Byte)
  /-- FLASH_IMAGE_WRITE_DONE (R422): The flash image copy and read-back end as written or failed. -/
  | flashImageWriteDone (err : Nat) (img : Image)
  /-- ENGINE_DRAIN_DONE (R423): An engine being updated finishes draining and begins to reload. -/
  | engineDrainDone (e : Nat)
  /-- ENGINE_RELOAD_DONE (R423): An engine's local memory image is copied and it starts its self-test. -/
  | engineReloadDone (e : Nat)
  /-- ENGINE_START_DONE (R423): An engine reports running and the next engine drains, or the update completes. -/
  | engineStartDone (e : Nat)
  /-- ENGINE_DRAIN_TIMEOUT (R424): A drain exceeds 500 µs and the update rolls back. -/
  | engineDrainTimeout (e : Nat)
  /-- ENGINE_START_TIMEOUT (R424): A start exceeds 50 µs and the update rolls back. -/
  | engineStartTimeout (e : Nat)
  /-- COMMIT_SLOT (R426): A write of 0x2300.07 marks the running image's slot active in the flash header. -/
  | commitSlot (ch : ChanId) (val : List Byte)
  /-- ENGINE_WATCHDOG_EXPIRY (R427): An engine watchdog expires; the engine resets, its tasks move to its partner and it reloads, or is turned off. -/
  | engineWatchdogExpiry (e : Nat)
  /-- GLOBAL_WATCHDOG_EXPIRY (R428): The global watchdog expires; every engine resets, jigs stop, contributions are withdrawn and the image reloads. -/
  | globalWatchdogExpiry
  /-- SYNC_BIND (R442): A BIND word binds a context slot to a translation map. -/
  | syncBind (tile : Nat) (w : BitVec 64)
  /-- SYNC_SIGNAL (R440): A SIGNAL word increments an object, records its release and wakes every gated waiter. -/
  | syncSignal (tile : Nat) (w : BitVec 64)
  /-- SYNC_ACQUIRE (R441): An ACQUIRE word decrements a non-zero object or blocks or refuses. -/
  | syncAcquire (tile : Nat) (w : BitVec 64)
  /-- SYNC_WAIT (R442): A WAIT word completes on a non-zero object or blocks without decrementing. -/
  | syncWait (tile : Nat) (w : BitVec 64)
  /-- SYNC_CANCEL (R442): A CANCEL word withdraws the slot's registered wait. -/
  | syncCancel (tile : Nat) (w : BitVec 64)
  /-- DOORBELL_SIGNAL (R446): A host write of a SIGNAL doorbell signals the object with package scope. -/
  | doorbellSignal (q : FabReq) (v : Nat)
  /-- DOORBELL_TRY_ACQUIRE (R447): A host read of TRY_ACQUIRE performs a non-blocking acquire and returns its outcome. -/
  | doorbellTryAcquire (q : FabReq) (v : Nat)
  /-- SYNC_SET_VALUE (R452): A write of 0x2400.04 sets an object's value with package scope and wakes waiters if non-zero. -/
  | syncSetValue (ch : ChanId) (val : List Byte)
  /-- SYNC_CLEAR_FLAGS (R452): A write of 0x2400.05 clears an object's SAT or SCOPE_FAULT flags. -/
  | syncClearFlags (ch : ChanId) (val : List Byte)
  /-- SYNC_OWNER_ASSIGN (R434): A write of 0x2400.03 assigns an object to a partition, stamping its generation. -/
  | syncOwnerAssign (ch : ChanId) (val : List Byte)
  /-- DMA_START (R473): A CTRL START checks and starts the descriptor in the channel registers. -/
  | dmaStart (q : FabReq) (c : Nat)
  /-- DMA_RESUME (R469): A CTRL RESUME re-issues a halted channel's failed and incomplete requests. -/
  | dmaResume (q : FabReq) (c : Nat)
  /-- DMA_ABORT (R470): A CTRL ABORT ends a channel after collecting outstanding responses. -/
  | dmaAbort (q : FabReq) (c : Nat)
  /-- DMA_REQUEST_ISSUE (R466): The engine issues the next request of the winning channel by priority, rotation and share. -/
  | dmaRequestIssue
  /-- DMA_RESPONSE (R469): An initiator response arrives; a non-ACK halts the channel, a last ACK ends the descriptor. -/
  | dmaResponse (c n code : Nat) (data : BitVec 64)
  /-- DMA_SHARE_WINDOW (R467): A 1,024-cycle share window ends and every channel's share is restored. -/
  | dmaShareWindow
  /-- DMA_CTL_WRITE (R471): A write of DMA_CTL disables or enables channels, ending disabled ones. -/
  | dmaCtlWrite (q : FabReq)
  /-- DMA_DEVICE_TAKE (R460): The device takes a channel for its own use once any running host descriptor has ended. -/
  | dmaDeviceTake (c use : Nat)
  /-- EVENT_CAPTURE (R485): An event enters the recorder's input queue, or is dropped and counted when full. -/
  | eventCapture (ev : Event)
  /-- RECORD_WRITE (R478): The recorder writes one record into its ring and, if it qualifies, into the flash queue. -/
  | recordWrite
  /-- FLASH_RECORD_PROGRAM (R493): A flash record's programs and read-back end; a failure retries in the next slot. -/
  | flashRecordProgram (ok : Bool)
  /-- FLASH_ERASE_DONE (R494): A sector erase ends and writing into that sector may proceed. -/
  | flashEraseDone
  /-- FLASH_TIMEOUT (R503): A program or erase stays busy too long; the flash is reset and the operation retried. -/
  | flashTimeout
  /-- FLASH_SCAN_DONE (R495): The scan of header and event areas ends and NV_READY sets. -/
  | flashScanDone
  /-- CURSOR_FETCH (R490): A read of a cursor block's record word fetches the next visible record. -/
  | cursorFetch (q : FabReq)
  /-- CURSOR_SEEK_OLD (R489): A write of SEEK_OLD sets NEXT to OLDEST. -/
  | cursorSeekOld (q : FabReq)
  /-- CURSOR_SEEK_NEW (R489): A write of SEEK_NEW sets NEXT to NEWEST + 1. -/
  | cursorSeekNew (q : FabReq)
  /-- CALENDAR_TIME_SET (R483): A write of 0x9001.01 sets calendar time and records TIME_SET. -/
  | calendarTimeSet (ch : ChanId) (val : List Byte)
  /-- COMMISSION (R496): A write of the commission key erases the fixed area, appends a header entry and raises COMMISSIONED. -/
  | commission (ch : ChanId) (val : List Byte)
  /-- BOOT_RECORD_WRITE (R501): A write of 0x9002.01 starts writing a checked boot record to copy B and then copy A. -/
  | bootRecordWrite (ch : ChanId) (val : List Byte)
  /-- BOOT_RECORD_WRITE_DONE (R501): The boot-record write ends as written or failed. -/
  | bootRecordWriteDone (ok : Bool)
  /-- COUNTER_SNAPSHOT (R510): A write of SNAP copies all 20 counters into the shadow bank at one cycle. -/
  | counterSnapshot (q : FabReq)
  /-- COUNTER_SELECT (R508): A write of CNT_SEL sets a counter's source and clears it. -/
  | counterSelect (q : FabReq) (n : Nat)
  /-- SCRIBE_ARM (R530): Control 1 arms the Scribe and writes a TIME record. -/
  | scribeArm (ch : ChanId) (val : List Byte)
  /-- SCRIBE_DISARM (R530): Control 2 disarms the Scribe. -/
  | scribeDisarm (ch : ChanId) (val : List Byte)
  /-- SCRIBE_CONTROL_TRIGGER (R515): Control 3 triggers the Scribe under any kind. -/
  | scribeControlTrigger (ch : ChanId) (val : List Byte)
  /-- SCRIBE_CLEAR (R530): Control 4 clears the Scribe. -/
  | scribeClear (ch : ChanId) (val : List Byte)
  /-- SCRIBE_RECORD (R513): A source hands a record to the Scribe queue, which writes it or drops it with a GAP. -/
  | scribeRecord (src sub info : Nat) (data : BitVec 64)
  /-- SCRIBE_TIME_MARK (R513): After 2^30 CTL cycles without one, the Scribe writes a TIME record. -/
  | scribeTimeMark
  /-- MAP_DUMP_ARM (R517): Control 1 of 0x9110 arms a map dump at its moment. -/
  | mapDumpArm (ch : ChanId) (val : List Byte)
  /-- MAP_DUMP_DISARM (R530): Control 2 of 0x9110 disarms the map dump. -/
  | mapDumpDisarm (ch : ChanId) (val : List Byte)
  /-- MAP_DUMP_COPY (R517): At the first flip after the moment, or at once for the setpoint map, the copy into the slot starts. -/
  | mapDumpCopy
  /-- MAP_DUMP (R517): The dump copy ends, the slot holds one flip and MAP_DUMP is recorded. -/
  | mapDump
  /-- GRAPH_START (R519): A write of 0x9120.01 starts firmware assembling the wait-for graph. -/
  | graphStart (ch : ChanId) (val : List Byte)
  /-- GRAPH_DONE (R519): The wait-for graph is complete with cycles marked. -/
  | graphDone
  /-- STOP_IN_ASSERT (R521): STOP_IN is delivered; TCLK_OUT is held, ENG blocks and the step port stand still and the cut is taken. -/
  | stopInAssert (crossings eng stp til : Nat)
  /-- STOP_ENTER (R523): Every standing-still part has stopped and STOPPED reads 1. -/
  | stopEnter
  /-- STOP_IN_RELEASE (R526): STOP_IN is released; blocks resume, the debug queue is applied and TCLK_OUT restarts. -/
  | stopInRelease
  /-- STOP_REQUEST_WRITE (R523): A write of STOP_STAT.REQ drives or releases STOP_REQ_OUT. -/
  | stopRequestWrite (q : FabReq)
  /-- TRIG_REQ_CLEAR (R524): STOP_IN seen for 16 ticks clears TRIG_REQ. -/
  | trigReqClear
  /-- DEBUG_PUSH (R525): A write of DBG_DATA during a stop pushes a Cut List write into the debug queue. -/
  | debugPush (q : FabReq)
  /-- SMBUS_BLOCK_WRITE (R533): An SMBus block write with command 0x0F delivers an MCTP packet after PEC checking. -/
  | smbusBlockWrite (data : List Byte) (pecOk : Bool)
  /-- SMBUS_BLOCK_READ (R533): An SMBus block read with command 0x0F returns the waiting packet or a zero count. -/
  | smbusBlockRead
  /-- SMBUS_ARA_READ (R547): A read of the Alert Response Address returns the port address and releases MGT_ALERT_N. -/
  | smbusAraRead
  /-- SMBUS_TIMEOUT (R533): A clock held low for 25–35 ms resets the port's bus state. -/
  | smbusTimeout
  /-- I3C_PRIVATE_READ (R532): An I3C private read fetches the waiting packet. -/
  | i3cPrivateRead
  /-- ENTDAA (R534): I3C CCC assigning a dynamic address; the port enters I3C mode. -/
  | entdaa (addr : Nat)
  /-- SETDASA (R534): I3C CCC assigning a dynamic address from the static address. -/
  | setdasa (addr : Nat)
  /-- SETAASA (R534): I3C CCC setting the static address as dynamic address. -/
  | setaasa
  /-- RSTDAA (R535): I3C CCC returning the port to SMBus mode at its static address. -/
  | rstdaa
  /-- ENEC (R534): I3C CCC enabling in-band interrupts. -/
  | enec
  /-- DISEC (R534): I3C CCC disabling in-band interrupts. -/
  | disec
  /-- GETPID (R535): I3C CCC returning the provisioned ID. -/
  | getpid
  /-- GETBCR (R535): I3C CCC returning BCR 0x06. -/
  | getbcr
  /-- GETDCR (R535): I3C CCC returning DCR 0x00. -/
  | getdcr
  /-- GETSTATUS (R534): I3C CCC returning the target status. -/
  | getstatus
  /-- GETMWL (R534): I3C CCC returning the maximum write length. -/
  | getmwl
  /-- SETMWL (R534): I3C CCC setting the maximum write length, NACKed below 72. -/
  | setmwl (n : Nat)
  /-- GETMRL (R534): I3C CCC returning the maximum read length. -/
  | getmrl
  /-- SETMRL (R534): I3C CCC setting the maximum read length, NACKed below 72. -/
  | setmrl (n : Nat)
  /-- GETMXDS (R534): I3C CCC returning maximum data speed. -/
  | getmxds
  /-- IBI_RETRY (R547): 1 ms after a NACKed interrupt, or after an ARA read with a packet waiting, the alert is raised again. -/
  | ibiRetry
  /-- PACKET_FETCH_TIMEOUT (R532): A packet unfetched for 100 ms is dropped and counted. -/
  | packetFetchTimeout
  /-- SET_ENDPOINT_ID (R537): MCTP control command setting the endpoint ID. -/
  | setEndpointId (pkt : Packet) (op eid : Nat)
  /-- GET_ENDPOINT_ID (R537): MCTP control command returning the endpoint ID. -/
  | getEndpointId (pkt : Packet)
  /-- GET_ENDPOINT_UUID (R537): MCTP control command returning the UUID formed from the serial. -/
  | getEndpointUuid (pkt : Packet)
  /-- GET_MCTP_VERSION_SUPPORT (R537): MCTP control command returning supported versions. -/
  | getMctpVersionSupport (pkt : Packet) (type : Nat)
  /-- GET_MESSAGE_TYPE_SUPPORT (R537): MCTP control command returning supported message types. -/
  | getMessageTypeSupport (pkt : Packet)
  /-- GET_VENDOR_MESSAGE_SUPPORT (R537): MCTP control command returning vendor-defined message support. -/
  | getVendorMessageSupport (pkt : Packet) (sel : Nat)
  /-- SETTID (R544): PLDM command setting the terminus ID. -/
  | settid (pkt : Packet) (tid : Nat)
  /-- GETTID (R544): PLDM command returning the terminus ID. -/
  | gettid (pkt : Packet)
  /-- GETPLDMVERSION (R544): PLDM command returning versions. -/
  | getpldmversion (pkt : Packet) (type : Nat)
  /-- GETPLDMTYPES (R544): PLDM command returning supported types. -/
  | getpldmtypes (pkt : Packet)
  /-- GETPLDMCOMMANDS (R544): PLDM command returning supported commands. -/
  | getpldmcommands (pkt : Packet) (type : Nat)
  /-- GETSENSORREADING (R545): PLDM command returning a numeric sensor reading and its states. -/
  | getsensorreading (pkt : Packet) (id : Nat)
  /-- GETPDRREPOSITORYINFO (R544): PLDM command returning repository information. -/
  | getpdrrepositoryinfo (pkt : Packet)
  /-- GETPDR (R544): PLDM command returning one sensor PDR. -/
  | getpdr (pkt : Packet) (rec : Nat)
  /-- PMBUS_POLL (R550): Each poll period the host reads status and measurements of every configured regulator. -/
  | pmbusPoll (answers : List PmbAns)
  /-- PMB_ALERT (R550): PMB_ALERT_N low for 100 ticks makes the host read the ARA and the device's STATUS_WORD. -/
  | pmbAlert (d status : Nat)
  /-- PMBUS_OPERATION (R548): A write of 0x2620.05 sends OPERATION on or off to a regulator. -/
  | pmbusOperation (ch : ChanId) (d : Nat) (val : List Byte) (acked : Bool)
  /-- PMBUS_CLEAR_FAULTS (R548): A write of 0x2620.06 sends CLEAR_FAULTS. -/
  | pmbusClearFaults (ch : ChanId) (d : Nat) (val : List Byte) (acked : Bool)
  /-- PMBUS_VOUT_COMMAND (R548): A write of 0x2620.04 sends VOUT_COMMAND. -/
  | pmbusVoutCommand (ch : ChanId) (d : Nat) (val : List Byte) (acked : Bool)
  /-- PMBUS_ADDRESS_WRITE (R548): A write of a device address reads VOUT_MODE once. -/
  | pmbusAddressWrite (ch : ChanId) (d : Nat) (val : List Byte) (mode : Nat) (acked : Bool)
  /-- GENERATION_ADVANCE (R555): A write of the present generation to 0x60C0 + p advances it and ends p's waits, channels and accounts. -/
  | generationAdvance (ch : ChanId) (p : Nat) (val : List Byte)
  /-- VIOL_REARM (R566): A write of VIOL_STAT.REARM or 0x6100.07 clears FIRST_VALID. -/
  | violRearm (q : FabReq)
  /-- VDD_AON_LOSS (R228): VDD_AON leaves its limits; retention RAM, calendar time and the THERMTRIP_N latch state are lost. -/
  | vddAonLoss
  /-- I3C_PRIVATE_WRITE (R536): In I3C mode the controller delivers an MCTP packet to the port by a private write. -/
  | i3cPrivateWrite (data : List Byte)
  /-- IN_BAND_INTERRUPT (R547): With an alert pending and events enabled, the port raises an in-band interrupt, which the controller ACKs (clearing the alert) or NACKs. -/
  | inBandInterrupt (acked : Bool)
  /-- FABRIC_READ (R559): A fabric read request is checked under R25 and the view, answering data or an error and logging a violation when ERR_ACCESS. -/
  | fabricRead (q : FabReq)
  /-- HARD_TRIP_COMPARATOR_FALL (R395): A hard-trip comparator output falls before it has stayed high for 100 ticks, and its qualification starts again. -/
  | hardTripComparatorFall (c : Nat)
  /-- REARM_LEVEL_CROSSING (R399): A comparator's sensor crosses its re-arm level, changing its ABOVE bit and starting or stopping the time below the re-arm level. -/
  | rearmLevelCrossing (c : Nat) (above : Bool)
  deriving DecidableEq, Repr

end Sys2Proof
end

