-- ==== Sys2Proof/Config.lean ====
section
/-! DEFINITION. What an implementation fixes and the free values: constants with no body, so that no proof can see what
they are. -/

namespace Sys2Proof.Config

/-- The share loop's step for one phase at one conversion, before its limit (R171 bounds the trim and names the goal,
not the law). Free value; argument: the counter `State.free`. -/
opaque shareTrim : Nat → BitVec 64

/-- A regressed coefficient before its bounds (R312 names the method, not the order of its arithmetic). Free value. -/
opaque rlsCoefficient : Nat → BitVec 64

/-- The residual of the estimate of one millisecond (R314). Free value. -/
opaque rlsResidual : Nat → BitVec 64

/-- The gain that a reference cycle restores (R382). Free value. -/
opaque refCycleGain : Nat → BitVec 64

/-- The offset that a reference cycle restores (R382). Free value. -/
opaque refCycleOffset : Nat → BitVec 64

/-- Regions whose sense grids are adjacent (R393 sums over the adjacent regions; no rule says which they are). Free
constant of the implementation: bit m of the value for region n. -/
opaque regionAdjacent : Nat → BitVec 256

/-- Firmware's own choice where no rule states the value (which named task, how long). Free value. -/
opaque freeValue : Nat → BitVec 64

end Sys2Proof.Config
end

