-- ==== Sys2Proof/Machine/DictForm.lean ====
section
/-! DEFINITION. The object dictionary's form: a row for each run of subindices of each index (R84, R91), as the Cut
List tables of the chapters print it. -/

namespace Sys2Proof.Machine

/-- The types of R91. -/
inductive Ty where
  /-- unsigned, of so many bytes. -/
  | u (bytes : Nat)
  /-- two's complement, of so many bytes. -/
  | i (bytes : Nat)
  /-- UQm.n (R12). -/
  | uq (m n : Nat)
  /-- SQm.n (R12). -/
  | sq (m n : Nat)
  /-- STRING of at most so many characters. -/
  | str (max : Nat)
  /-- DOMAIN of `lo` to `hi` octets, a multiple of `g`. -/
  | dom (lo hi g : Nat)
  deriving DecidableEq, Repr

/-- The Range column (R93). -/
inductive Rg where
  /-- the owning chapter's own check alone. -/
  | any
  /-- the value lies in one of the intervals, at a whole multiple of the step from zero. -/
  | ivs (l : List (Int × Int)) (step : Nat)
  /-- any value; bits outside the mask are reserved and stored as zero. -/
  | mask (m : Nat)
  deriving DecidableEq, Repr

/-- Where an object's default comes from (R99). -/
inductive Dk where
  /-- the number of the Default column. -/
  | num
  /-- the boot record in use. -/
  | boot
  /-- none: the column shows a dash. -/
  | absent
  /-- fixed for each instance. -/
  | inst
  /-- octets or characters that the column describes. -/
  | bytes
  /-- the calibration data. -/
  | cal
  deriving DecidableEq, Repr

/-- A row of the object dictionary. -/
structure Row where
  /-- first index of the row. -/
  i : Nat
  /-- number of consecutive indices. -/
  cnt : Nat
  /-- first subindex. -/
  s : Nat
  /-- number of consecutive subindices. -/
  n : Nat
  /-- type. -/
  ty : Ty
  /-- access codes of R113: Op [3:0], Ten [7:4], Mgt [11:8], Fw [15:12]; 0 none, 1 RO, 2 RW, 3 WO, 4 CONST. -/
  acc : Nat
  /-- built-in numeric default. -/
  df : Int
  /-- range. -/
  rg : Rg
  /-- source of the default. -/
  dk : Dk
  /-- readiness bit of the owning function (R82, R97). -/
  own : Nat
  /-- persistent (R98). -/
  pers : Bool
  deriving DecidableEq, Repr

end Sys2Proof.Machine
end

