-- ==== Sys2Proof/Machine/Dict1.lean ====
section
/-! DEFINITION. Rows of the object dictionary, indices 0x1000 to 0x26FF, as the tables of the chapters give them. -/

namespace Sys2Proof.Machine

/-- Rows of 0x10xx (R80, R101, R106, R108, R117). -/
def dict10a : List Row := [
  ⟨0x1000, 1, 0x00, 1, .u 1, 0x4444, 15, .ivs [(15, 15)] 1, .num, 10, false⟩,
  ⟨0x1000, 1, 0x01, 1, .str 8, 0x4444, 0, .any, .bytes, 10, false⟩,
  ⟨0x1000, 1, 0x02, 1, .str 11, 0x4444, 0, .any, .bytes, 10, false⟩,
  ⟨0x1000, 1, 0x03, 1, .u 1, 0x4444, 2, .ivs [(2, 2)] 1, .num, 10, false⟩,
  ⟨0x1000, 1, 0x04, 1, .u 1, 0x4444, 176, .ivs [(0, 255)] 1, .num, 10, false⟩,
  ⟨0x1000, 1, 0x05, 1, .u 1, 0x1111, 0, .ivs [(0, 2)] 1, .num, 10, false⟩,
  ⟨0x1000, 1, 0x06, 1, .u 1, 0x1111, 0, .ivs [(0, 255)] 1, .num, 10, false⟩,
  ⟨0x1000, 1, 0x07, 1, .u 4, 0x1101, 0, .ivs [(0, 0xFFFFFFFF)] 1, .num, 10, false⟩,
  ⟨0x1000, 1, 0x08, 1, .u 1, 0x1101, 0, .ivs [(0, 2)] 1, .num, 10, false⟩,
  ⟨0x1000, 1, 0x09, 1, .u 1, 0x1101, 0, .ivs [(0, 30)] 1, .num, 10, false⟩,
  ⟨0x1000, 1, 0x0A, 1, .u 1, 0x4444, 0, .ivs [(0, 1)] 1, .inst, 10, false⟩,
  ⟨0x1000, 1, 0x0B, 1, .u 2, 0x4444, 0, .ivs [(0, 0), (256, 256)] 1, .inst, 10, false⟩,
  ⟨0x1000, 1, 0x0C, 1, .u 2, 0x4444, 0, .ivs [(0, 0), (256, 256)] 1, .inst, 10, false⟩,
  ⟨0x1000, 1, 0x0D, 1, .u 2, 0x4444, 0, .ivs [(0, 1280)] 1, .inst, 10, false⟩,
  ⟨0x1000, 1, 0x0E, 1, .u 1, 0x4444, 16, .ivs [(16, 16)] 1, .num, 10, false⟩,
  ⟨0x1000, 1, 0x0F, 1, .u 8, 0x1101, 0, .ivs [(0, 0xFFFFFFFFFFFFFFFF)] 1, .num, 10, false⟩,
  ⟨0x1001, 1, 0x00, 1, .u 1, 0x4444, 4, .ivs [(4, 4)] 1, .num, 10, false⟩,
  ⟨0x1001, 1, 0x01, 1, .u 2, 0x1222, 256, .ivs [(256, 65535)] 1, .num, 10, false⟩,
  ⟨0x1001, 1, 0x02, 1, .u 2, 0x1111, 256, .ivs [(0, 65535)] 1, .num, 10, false⟩,
  ⟨0x1001, 1, 0x03, 1, .u 2, 0x4444, 512, .ivs [(512, 512)] 1, .num, 10, false⟩,
  ⟨0x1001, 1, 0x04, 1, .u 2, 0x4444, 259, .ivs [(259, 259)] 1, .num, 10, false⟩,
  ⟨0x1010, 1, 0x00, 1, .u 1, 0x4444, 36, .ivs [(36, 36)] 1, .num, 10, false⟩,
  ⟨0x1010, 1, 0x01, 1, .u 4, 0x1111, 0, .mask 0x1FFFFF, .num, 10, false⟩,
  ⟨0x1010, 1, 0x02, 1, .u 4, 0x1101, 0, .ivs [(0, 0xFFFFFFFF)] 1, .num, 10, false⟩,
  ⟨0x1010, 1, 0x10, 21, .u 8, 0x1101, 0, .ivs [(0, 0xFFFFFFFFFFFFFFFF)] 1, .num, 10, false⟩,
  ⟨0x1020, 1, 0x00, 1, .u 1, 0x4404, 7, .ivs [(7, 7)] 1, .num, 10, false⟩,
  ⟨0x1020, 1, 0x01, 1, .u 8, 0x1101, 0, .ivs [(0, 0xFFFFFFFFFFFFFFFF)] 1, .num, 10, false⟩,
  ⟨0x1020, 1, 0x02, 1, .u 8, 0x1101, 0, .ivs [(0, 0xFFFFFFFFFFFFFFFF)] 1, .num, 10, false⟩,
  ⟨0x1020, 1, 0x03, 1, .u 4, 0x1101, 0, .ivs [(0, 0xFFFFFFFF)] 1, .num, 10, false⟩,
  ⟨0x1020, 1, 0x04, 1, .u 4, 0x1101, 0, .ivs [(0, 0xFFFFFFFF)] 1, .num, 10, false⟩]

/-- Rows of 0x10xx (R80, R101, R106, R108, R117). -/
def dict10b : List Row := [
  ⟨0x1020, 1, 0x05, 1, .u 4, 0x1101, 0, .ivs [(0, 0xFFFFFFFF)] 1, .num, 10, false⟩,
  ⟨0x1020, 1, 0x06, 1, .u 1, 0x1202, 1, .ivs [(1, 63)] 1, .num, 10, false⟩,
  ⟨0x1020, 1, 0x07, 1, .u 4, 0x1101, 0, .ivs [(0, 0xFFFFFFFF)] 1, .num, 10, false⟩,
  ⟨0x1030, 1, 0x00, 1, .u 1, 0x4404, 5, .ivs [(5, 5)] 1, .num, 10, false⟩,
  ⟨0x1030, 1, 0x01, 1, .u 4, 0x0303, 0, .ivs [(1702257011, 1702257011)] 1, .absent, 10, false⟩,
  ⟨0x1030, 1, 0x02, 1, .u 4, 0x0303, 0, .ivs [(1701865847, 1701865847)] 1, .absent, 10, false⟩,
  ⟨0x1030, 1, 0x03, 1, .u 1, 0x1101, 4, .ivs [(0, 4)] 1, .num, 10, false⟩,
  ⟨0x1030, 1, 0x04, 1, .u 4, 0x1101, 0, .ivs [(0, 0xFFFFFFFF)] 1, .num, 10, false⟩,
  ⟨0x1030, 1, 0x05, 1, .u 4, 0x1101, 0, .ivs [(0, 0xFFFFFFFF)] 1, .num, 10, false⟩]

/-- Rows of 0x10xx. -/
def dict10 : List Row := dict10a ++ dict10b

/-- Rows of 0x21xx (R155). -/
def dict21 : List Row := [
  ⟨0x2100, 1, 0x00, 1, .u 1, 0x4404, 11, .ivs [(11, 11)] 1, .num, 8, false⟩,
  ⟨0x2100, 1, 0x01, 1, .u 1, 0x1101, 0, .ivs [(0, 4)] 1, .num, 8, false⟩,
  ⟨0x2100, 1, 0x02, 1, .u 4, 0x1101, 0, .ivs [(0, 0xFFFFFFFF)] 1, .num, 8, false⟩,
  ⟨0x2100, 1, 0x03, 1, .u 4, 0x1101, 0, .ivs [(0, 0xFFFFFFFF)] 1, .num, 8, false⟩,
  ⟨0x2100, 1, 0x04, 1, .dom 0 16 1, 0x1101, 0, .any, .bytes, 8, false⟩,
  ⟨0x2100, 1, 0x05, 1, .u 1, 0x1202, 0, .ivs [(0, 8)] 1, .num, 10, true⟩,
  ⟨0x2100, 1, 0x06, 1, .u 1, 0x1202, 0, .ivs [(0, 8)] 1, .num, 10, true⟩,
  ⟨0x2100, 1, 0x07, 1, .u 4, 0x1202, 6000, .ivs [(0, 262143)] 1, .num, 10, true⟩,
  ⟨0x2100, 1, 0x08, 1, .u 4, 0x0303, 0, .mask 0x1FFFFFE, .absent, 10, false⟩,
  ⟨0x2100, 1, 0x09, 1, .u 1, 0x0303, 0, .ivs [(1, 1)] 1, .absent, 10, false⟩,
  ⟨0x2100, 1, 0x0A, 1, .u 4, 0x1101, 0, .ivs [(0, 0xFFFFFFFF)] 1, .num, 10, false⟩,
  ⟨0x2100, 1, 0x0B, 1, .u 4, 0x0303, 0, .mask 0x1FFFFFE, .absent, 10, false⟩,
  ⟨0x2101, 1, 0x00, 1, .u 1, 0x4404, 14, .ivs [(14, 14)] 1, .num, 8, false⟩,
  ⟨0x2101, 1, 0x01, 6, .u 4, 0x1101, 0, .ivs [(0, 0xFFFFFFFF)] 1, .num, 8, false⟩,
  ⟨0x2101, 1, 0x07, 6, .u 4, 0x1101, 0, .ivs [(0, 0xFFFFFFFF)] 1, .num, 8, false⟩,
  ⟨0x2101, 1, 0x0D, 1, .u 4, 0x1101, 0, .ivs [(0, 0xFFFFFFFF)] 1, .num, 8, false⟩,
  ⟨0x2101, 1, 0x0E, 1, .u 4, 0x1101, 0, .ivs [(0, 0xFFFFFFFF)] 1, .num, 8, false⟩,
  ⟨0x2102, 1, 0x00, 1, .u 1, 0x4404, 5, .ivs [(5, 5)] 1, .num, 8, false⟩,
  ⟨0x2102, 1, 0x01, 1, .u 4, 0x1101, 0, .ivs [(0, 0xFFFFFFFF)] 1, .num, 8, false⟩,
  ⟨0x2102, 1, 0x02, 1, .u 4, 0x1101, 0, .ivs [(0, 0xFFFFFFFF)] 1, .num, 8, false⟩,
  ⟨0x2102, 1, 0x03, 1, .u 4, 0x1101, 0, .ivs [(0, 0xFFFFFFFF)] 1, .num, 8, false⟩,
  ⟨0x2102, 1, 0x04, 1, .u 2, 0x1101, 0, .ivs [(0, 65535)] 1, .num, 8, false⟩,
  ⟨0x2102, 1, 0x05, 1, .u 4, 0x1101, 0, .ivs [(0, 0xFFFFFFFF)] 1, .num, 8, false⟩]

/-- Rows of 0x22xx (R306). -/
def dict22 : List Row := [
  ⟨0x2200, 1, 0x00, 1, .u 1, 0x4404, 13, .ivs [(13, 13)] 1, .num, 4, false⟩,
  ⟨0x2200, 1, 0x01, 1, .u 2, 0x1202, 6000, .ivs [(2000, 6000)] 1, .num, 4, true⟩,
  ⟨0x2200, 1, 0x02, 1, .u 2, 0x1202, 6000, .ivs [(2000, 6000)] 1, .num, 4, true⟩,
  ⟨0x2200, 1, 0x03, 1, .u 1, 0x1202, 2, .ivs [(1, 10)] 1, .num, 4, true⟩,
  ⟨0x2200, 1, 0x04, 1, .u 2, 0x1101, 0, .ivs [(0, 8000)] 1, .num, 4, false⟩,
  ⟨0x2200, 1, 0x05, 1, .u 2, 0x1101, 0, .ivs [(0, 8000)] 1, .num, 4, false⟩,
  ⟨0x2200, 1, 0x06, 1, .u 4, 0x1101, 0, .ivs [(0, 200000)] 1, .num, 4, false⟩,
  ⟨0x2200, 1, 0x07, 1, .u 4, 0x1101, 0, .ivs [(0, 0xFFFFFFFF)] 1, .num, 4, false⟩,
  ⟨0x2200, 1, 0x08, 5, .u 4, 0x1101, 0, .ivs [(0, 0xFFFFFFFF)] 1, .num, 4, false⟩,
  ⟨0x2200, 1, 0x0D, 1, .u 8, 0x1101, 0, .ivs [(0, 0xFFFFFFFFFFFFFFFF)] 1, .num, 4, false⟩,
  ⟨0x2201, 1, 0x00, 1, .u 1, 0x4404, 10, .ivs [(10, 10)] 1, .num, 4, false⟩,
  ⟨0x2201, 1, 0x01, 1, .u 1, 0x1202, 0, .ivs [(0, 1)] 1, .num, 4, true⟩,
  ⟨0x2201, 1, 0x02, 1, .u 1, 0x2202, 0, .ivs [(0, 15)] 1, .num, 4, true⟩,
  ⟨0x2201, 1, 0x03, 1, .u 1, 0x2101, 15, .ivs [(0, 15)] 1, .num, 4, false⟩,
  ⟨0x2201, 1, 0x04, 1, .u 1, 0x1101, 0, .ivs [(0, 15)] 1, .num, 4, false⟩,
  ⟨0x2201, 1, 0x05, 1, .u 2, 0x1101, 0, .ivs [(0, 0), (16, 1023)] 1, .num, 4, false⟩,
  ⟨0x2201, 1, 0x06, 1, .u 1, 0x2101, 0, .ivs [(0, 24)] 1, .num, 4, false⟩,
  ⟨0x2201, 1, 0x07, 1, .u 1, 0x1101, 0, .ivs [(0, 1)] 1, .num, 4, false⟩,
  ⟨0x2201, 1, 0x08, 1, .u 4, 0x1101, 0, .ivs [(0, 0xFFFFFFFF)] 1, .num, 4, false⟩,
  ⟨0x2201, 1, 0x09, 1, .u 2, 0x1101, 0, .ivs [(16, 1023)] 1, .num, 4, false⟩,
  ⟨0x2201, 1, 0x0A, 1, .u 2, 0x1202, 200, .ivs [(10, 10000)] 1, .num, 4, true⟩,
  ⟨0x2202, 1, 0x00, 1, .dom 128 128 1, 0x1202, 0, .any, .bytes, 4, true⟩,
  ⟨0x2203, 1, 0x00, 1, .dom 256 256 1, 0x1202, 0, .any, .bytes, 4, true⟩]

/-- Rows of 0x23xx (R432, R433). -/
def dict23a : List Row := [
  ⟨0x2300, 1, 0x00, 1, .u 1, 0x4404, 17, .ivs [(17, 17)] 1, .num, 13, false⟩,
  ⟨0x2300, 1, 0x01, 1, .u 4, 0x1101, 0, .ivs [(0, 0xFFFFFFFF)] 1, .num, 13, false⟩,
  ⟨0x2300, 1, 0x02, 1, .u 4, 0x1101, 0, .ivs [(0, 0xFFFFFFFF)] 1, .num, 13, false⟩,
  ⟨0x2300, 1, 0x03, 1, .u 2, 0x1101, 0, .ivs [(0, 1024)] 1, .num, 13, false⟩,
  ⟨0x2300, 1, 0x04, 1, .u 4, 0x1101, 0, .ivs [(0, 0xFFFFFFFF)] 1, .num, 13, false⟩,
  ⟨0x2300, 1, 0x05, 1, .u 8, 0x1101, 0, .ivs [(0, 0xFFFFFFFFFFFFFFFF)] 1, .num, 13, false⟩,
  ⟨0x2300, 1, 0x06, 1, .u 1, 0x1101, 0, .ivs [(0, 5)] 1, .num, 13, false⟩,
  ⟨0x2300, 1, 0x07, 1, .u 1, 0x0303, 0, .ivs [(1, 1)] 1, .absent, 13, false⟩,
  ⟨0x2300, 1, 0x08, 1, .u 2, 0x1202, 1000, .ivs [(100, 10000)] 1, .num, 13, true⟩,
  ⟨0x2300, 1, 0x09, 1, .u 2, 0x1202, 10, .ivs [(2, 1000)] 1, .num, 13, true⟩,
  ⟨0x2300, 1, 0x0A, 1, .u 4, 0x1101, 0, .ivs [(0, 0xFFFFFFFF)] 1, .num, 13, false⟩,
  ⟨0x2300, 1, 0x0B, 1, .u 4, 0x1101, 0, .ivs [(0, 0xFFFFFFFF)] 1, .num, 13, false⟩,
  ⟨0x2300, 1, 0x0C, 6, .u 4, 0x1101, 0, .ivs [(0, 0xFFFFFFFF)] 1, .num, 13, false⟩,
  ⟨0x2301, 1, 0x00, 1, .u 1, 0x4404, 7, .ivs [(7, 7)] 1, .num, 3, false⟩,
  ⟨0x2301, 1, 0x01, 1, .u 8, 0x1202, 0, .ivs [(0, 0xFFFFFFFFFFFFFFFF)] 4096, .num, 3, false⟩,
  ⟨0x2301, 1, 0x02, 1, .u 4, 0x1202, 0, .ivs [(64, 8388608)] 1, .num, 3, false⟩,
  ⟨0x2301, 1, 0x03, 1, .u 1, 0x1202, 2, .ivs [(1, 2)] 1, .num, 3, false⟩,
  ⟨0x2301, 1, 0x04, 1, .u 1, 0x0303, 0, .ivs [(1, 1)] 1, .absent, 3, false⟩,
  ⟨0x2301, 1, 0x05, 1, .u 1, 0x1101, 0, .ivs [(0, 3)] 1, .num, 3, false⟩,
  ⟨0x2301, 1, 0x06, 1, .u 1, 0x1101, 0, .ivs [(0, 3)] 1, .num, 3, false⟩,
  ⟨0x2301, 1, 0x07, 1, .u 1, 0x1202, 14, .ivs [(1, 15)] 1, .num, 3, false⟩,
  ⟨0x2310, 16, 0x00, 1, .u 1, 0x4404, 18, .ivs [(18, 18)] 1, .num, 13, false⟩,
  ⟨0x2310, 16, 0x01, 1, .dom 72 4096 8, 0x1202, 0, .any, .bytes, 13, true⟩,
  ⟨0x2310, 16, 0x02, 1, .u 1, 0x1202, 16, .ivs [(16, 31)] 1, .num, 13, true⟩,
  ⟨0x2310, 16, 0x03, 1, .u 4, 0x1202, 1000, .ivs [(10, 1000000)] 1, .num, 13, true⟩,
  ⟨0x2310, 16, 0x04, 1, .u 4, 0x1202, 500, .ivs [(1, 1000000)] 1, .num, 13, true⟩,
  ⟨0x2310, 16, 0x05, 1, .dom 0 64 4, 0x1202, 0, .any, .bytes, 13, true⟩,
  ⟨0x2310, 16, 0x06, 1, .u 1, 0x0303, 0, .ivs [(1, 3)] 1, .absent, 13, false⟩,
  ⟨0x2310, 16, 0x07, 1, .u 1, 0x1101, 0, .ivs [(0, 3)] 1, .num, 13, false⟩,
  ⟨0x2310, 16, 0x08, 1, .u 1, 0x1101, 0, .ivs [(0, 4)] 1, .num, 13, false⟩]

/-- Rows of 0x23xx (R432, R433). -/
def dict23b : List Row := [
  ⟨0x2310, 16, 0x09, 1, .u 1, 0x1101, 0, .ivs [(0, 8)] 1, .num, 13, false⟩,
  ⟨0x2310, 16, 0x0A, 1, .u 2, 0x1101, 0, .ivs [(0, 503)] 1, .num, 13, false⟩,
  ⟨0x2310, 16, 0x0B, 1, .u 8, 0x1101, 0, .ivs [(0, 0xFFFFFFFFFFFFFFFF)] 1, .num, 13, false⟩,
  ⟨0x2310, 16, 0x0C, 1, .u 4, 0x1101, 0, .ivs [(0, 0xFFFFFFFF)] 1, .num, 13, false⟩,
  ⟨0x2310, 16, 0x0D, 1, .u 4, 0x1101, 0, .ivs [(0, 0xFFFFFFFF)] 1, .num, 13, false⟩,
  ⟨0x2310, 16, 0x0E, 1, .dom 1024 1024 1, 0x1202, 0, .any, .bytes, 13, false⟩,
  ⟨0x2310, 16, 0x0F, 1, .u 1, 0x1202, 0, .ivs [(0, 1)] 1, .num, 13, true⟩,
  ⟨0x2310, 16, 0x10, 1, .u 4, 0x1101, 0, .ivs [(0, 0xFFFFFFFF)] 1, .num, 13, false⟩,
  ⟨0x2310, 16, 0x11, 1, .u 4, 0x1101, 0, .ivs [(0, 0xFFFFFFFF)] 1, .num, 13, false⟩,
  ⟨0x2310, 16, 0x12, 1, .u 8, 0x1101, 0, .ivs [(0, 0xFFFFFFFFFFFFFFFF)] 1, .num, 13, false⟩]

/-- Rows of 0x23xx. -/
def dict23 : List Row := dict23a ++ dict23b

/-- Rows of 0x24xx (R457, R458). -/
def dict24 : List Row := [
  ⟨0x2400, 1, 0x00, 1, .u 1, 0x4404, 13, .ivs [(13, 13)] 1, .num, 19, false⟩,
  ⟨0x2400, 1, 0x01, 1, .u 2, 0x1202, 0, .ivs [(0, 4095)] 1, .num, 19, false⟩,
  ⟨0x2400, 1, 0x02, 1, .dom 32 32 1, 0x1101, 0, .any, .absent, 19, false⟩,
  ⟨0x2400, 1, 0x03, 1, .u 1, 0x1202, 255, .ivs [(0, 63), (255, 255)] 1, .num, 19, false⟩,
  ⟨0x2400, 1, 0x04, 1, .u 2, 0x0303, 0, .ivs [(0, 65535)] 1, .absent, 19, false⟩,
  ⟨0x2400, 1, 0x05, 1, .u 1, 0x0303, 0, .mask 3, .absent, 19, false⟩,
  ⟨0x2400, 1, 0x06, 1, .u 2, 0x1202, 0, .ivs [(0, 1023)] 1, .num, 19, false⟩,
  ⟨0x2400, 1, 0x07, 1, .u 1, 0x1202, 255, .ivs [(0, 63), (255, 255)] 1, .num, 19, false⟩,
  ⟨0x2400, 1, 0x08, 1, .u 2, 0x1202, 65535, .ivs [(0, 4095), (65535, 65535)] 1, .num, 19, true⟩,
  ⟨0x2400, 1, 0x09, 1, .u 2, 0x1202, 65535, .ivs [(0, 4095), (65535, 65535)] 1, .num, 19, true⟩,
  ⟨0x2400, 1, 0x0A, 1, .u 8, 0x1101, 0, .ivs [(0, 0xFFFFFFFFFFFFFFFF)] 1, .num, 19, false⟩,
  ⟨0x2400, 1, 0x0B, 1, .u 8, 0x1101, 0, .ivs [(0, 0xFFFFFFFFFFFFFFFF)] 1, .num, 19, false⟩,
  ⟨0x2400, 1, 0x0C, 1, .u 4, 0x1101, 0, .ivs [(0, 0xFFFFFFFF)] 1, .num, 19, false⟩,
  ⟨0x2400, 1, 0x0D, 1, .u 4, 0x1101, 0, .ivs [(0, 0xFFFFFFFF)] 1, .num, 19, false⟩,
  ⟨0x2402, 1, 0x00, 1, .u 1, 0x4404, 4, .ivs [(4, 4)] 1, .num, 19, false⟩,
  ⟨0x2402, 1, 0x01, 4, .u 4, 0x1101, 0, .ivs [(0, 0xFFFFFFFF)] 1, .num, 19, false⟩,
  ⟨0x2440, 64, 0x00, 1, .u 1, 0x4444, 8, .ivs [(8, 8)] 1, .num, 19, false⟩,
  ⟨0x2440, 64, 0x01, 1, .u 2, 0x1222, 65535, .ivs [(0, 65535)] 1, .num, 19, false⟩,
  ⟨0x2440, 64, 0x02, 1, .u 1, 0x1222, 0, .ivs [(0, 1)] 1, .num, 19, false⟩,
  ⟨0x2440, 64, 0x03, 1, .u 2, 0x1222, 65535, .ivs [(0, 65535)] 1, .num, 19, false⟩,
  ⟨0x2440, 64, 0x04, 1, .dom 512 512 1, 0x1222, 0, .any, .bytes, 19, false⟩,
  ⟨0x2440, 64, 0x05, 1, .u 2, 0x1111, 0, .ivs [(0, 4096)] 1, .num, 19, false⟩,
  ⟨0x2440, 64, 0x06, 1, .u 8, 0x1111, 0, .ivs [(0, 0xFFFFFFFFFFFFFFFF)] 1, .num, 19, false⟩,
  ⟨0x2440, 64, 0x07, 1, .u 4, 0x1111, 0, .ivs [(0, 0xFFFFFFFF)] 1, .num, 19, false⟩,
  ⟨0x2440, 64, 0x08, 1, .u 4, 0x1111, 0, .ivs [(0, 0xFFFFFFFF)] 1, .num, 19, false⟩]

/-- Rows of 0x25xx (R476). -/
def dict25 : List Row := [
  ⟨0x2500, 1, 0x00, 1, .u 1, 0x4404, 5, .ivs [(5, 5)] 1, .num, 12, false⟩,
  ⟨0x2500, 1, 0x01, 1, .u 8, 0x1101, 0, .ivs [(0, 0xFFFFFFFFFFFFFFFF)] 1, .num, 12, false⟩,
  ⟨0x2500, 1, 0x02, 1, .u 8, 0x1101, 0, .ivs [(0, 0xFFFFFFFFFFFFFFFF)] 1, .num, 12, false⟩,
  ⟨0x2500, 1, 0x03, 1, .u 8, 0x1101, 0, .ivs [(0, 0xFFFFFFFFFFFFFFFF)] 1, .num, 12, false⟩,
  ⟨0x2500, 1, 0x04, 1, .u 4, 0x1101, 0, .ivs [(0, 0xFFFFFFFF)] 1, .num, 12, false⟩,
  ⟨0x2500, 1, 0x05, 1, .u 4, 0x1101, 0, .ivs [(0, 0xFFFFFFFF)] 1, .num, 12, false⟩,
  ⟨0x2510, 16, 0x00, 1, .u 1, 0x4404, 11, .ivs [(11, 11)] 1, .num, 12, false⟩,
  ⟨0x2510, 16, 0x01, 1, .u 1, 0x1202, 0, .ivs [(0, 63)] 1, .num, 12, true⟩,
  ⟨0x2510, 16, 0x02, 1, .u 1, 0x1202, 1, .ivs [(0, 3)] 1, .num, 12, true⟩,
  ⟨0x2510, 16, 0x03, 1, .u 1, 0x1202, 64, .ivs [(1, 64)] 1, .num, 12, true⟩,
  ⟨0x2510, 16, 0x04, 1, .u 1, 0x1101, 0, .ivs [(0, 5)] 1, .num, 12, false⟩,
  ⟨0x2510, 16, 0x05, 1, .u 1, 0x1101, 0, .ivs [(0, 3)] 1, .num, 12, false⟩,
  ⟨0x2510, 16, 0x06, 1, .u 8, 0x1101, 0, .ivs [(0, 0xFFFFFFFFFFFFFFFF)] 1, .num, 12, false⟩,
  ⟨0x2510, 16, 0x07, 1, .u 8, 0x1101, 0, .ivs [(0, 0xFFFFFFFFFFFFFFFF)] 1, .num, 12, false⟩,
  ⟨0x2510, 16, 0x08, 1, .u 4, 0x1101, 0, .ivs [(0, 0xFFFFFFFF)] 1, .num, 12, false⟩,
  ⟨0x2510, 16, 0x09, 3, .u 4, 0x1101, 0, .ivs [(0, 0xFFFFFFFF)] 1, .num, 12, false⟩]

/-- Rows of 0x26xx (R554). -/
def dict26 : List Row := [
  ⟨0x2600, 1, 0x00, 1, .u 1, 0x4404, 15, .ivs [(15, 15)] 1, .num, 2, false⟩,
  ⟨0x2600, 1, 0x01, 1, .u 1, 0x1101, 0, .ivs [(0, 1)] 1, .num, 2, false⟩,
  ⟨0x2600, 1, 0x02, 1, .u 1, 0x1101, 0, .ivs [(0, 0), (8, 125)] 1, .num, 2, false⟩,
  ⟨0x2600, 1, 0x03, 1, .u 1, 0x1202, 0, .ivs [(0, 0), (8, 254)] 1, .num, 2, true⟩,
  ⟨0x2600, 1, 0x04, 1, .u 1, 0x1101, 0, .ivs [(0, 0), (8, 254)] 1, .num, 2, false⟩,
  ⟨0x2600, 1, 0x05, 1, .u 4, 0x1202, 0, .ivs [(0, 0xFFFFFFFF)] 1, .num, 2, true⟩,
  ⟨0x2600, 1, 0x06, 1, .u 2, 0x1202, 0, .ivs [(0, 32767)] 1, .num, 2, true⟩,
  ⟨0x2600, 1, 0x07, 1, .u 1, 0x1202, 2, .ivs [(0, 4)] 1, .num, 2, true⟩,
  ⟨0x2600, 1, 0x08, 1, .u 1, 0x1101, 0, .ivs [(0, 254)] 1, .num, 2, false⟩,
  ⟨0x2600, 1, 0x09, 1, .u 4, 0x1101, 0, .ivs [(0, 0xFFFFFFFF)] 1, .num, 2, false⟩,
  ⟨0x2600, 1, 0x0A, 5, .u 4, 0x1101, 0, .ivs [(0, 0xFFFFFFFF)] 1, .num, 2, false⟩,
  ⟨0x2600, 1, 0x0F, 1, .u 8, 0x1101, 0, .ivs [(0, 0xFFFFFFFFFFFFFFFF)] 1, .num, 2, false⟩,
  ⟨0x2610, 1, 0x00, 1, .u 1, 0x4404, 4, .ivs [(4, 4)] 1, .num, 2, false⟩,
  ⟨0x2610, 1, 0x01, 1, .u 1, 0x1202, 1, .ivs [(0, 2)] 1, .num, 2, true⟩,
  ⟨0x2610, 1, 0x02, 1, .u 2, 0x1202, 10, .ivs [(1, 1000)] 1, .num, 2, true⟩,
  ⟨0x2610, 1, 0x03, 1, .u 8, 0x1101, 0, .ivs [(0, 0xFFFFFFFFFFFFFFFF)] 1, .num, 2, false⟩,
  ⟨0x2610, 1, 0x04, 1, .u 4, 0x1101, 0, .ivs [(0, 0xFFFFFFFF)] 1, .num, 2, false⟩,
  ⟨0x2620, 8, 0x00, 1, .u 1, 0x4404, 12, .ivs [(12, 12)] 1, .num, 2, false⟩,
  ⟨0x2620, 8, 0x01, 1, .u 1, 0x1202, 0, .ivs [(0, 0), (8, 119)] 1, .num, 2, true⟩,
  ⟨0x2620, 8, 0x02, 1, .u 1, 0x1202, 255, .ivs [(0, 31), (255, 255)] 1, .num, 2, true⟩,
  ⟨0x2620, 8, 0x03, 1, .u 1, 0x1202, 1, .ivs [(0, 1)] 1, .num, 2, true⟩,
  ⟨0x2620, 8, 0x04, 1, .u 2, 0x1202, 0, .ivs [(200, 5000)] 1, .num, 2, false⟩,
  ⟨0x2620, 8, 0x05, 1, .u 1, 0x0303, 0, .ivs [(0, 1)] 1, .absent, 2, false⟩,
  ⟨0x2620, 8, 0x06, 1, .u 1, 0x0303, 0, .ivs [(1, 1)] 1, .absent, 2, false⟩,
  ⟨0x2620, 8, 0x07, 1, .u 2, 0x1101, 0, .ivs [(0, 65535)] 1, .num, 2, false⟩,
  ⟨0x2620, 8, 0x08, 1, .u 2, 0x1101, 0, .ivs [(0, 65535)] 1, .num, 2, false⟩,
  ⟨0x2620, 8, 0x09, 1, .u 2, 0x1101, 0, .ivs [(0, 65535)] 1, .num, 2, false⟩,
  ⟨0x2620, 8, 0x0A, 1, .u 4, 0x1101, 0, .ivs [(0, 0xFFFFFFFF)] 1, .num, 2, false⟩,
  ⟨0x2620, 8, 0x0B, 1, .i 2, 0x1101, 0, .ivs [(-550, 2000)] 1, .num, 2, false⟩,
  ⟨0x2620, 8, 0x0C, 1, .u 4, 0x1101, 0, .ivs [(0, 0xFFFFFFFF)] 1, .num, 2, false⟩]

end Sys2Proof.Machine
end

