-- ==== Sys2Proof/Machine/Dict2.lean ====
section
/-! DEFINITION. Rows of the object dictionary, indices 0x3000 to 0x53FF, as the tables of the chapters give them. -/

namespace Sys2Proof.Machine

/-- Rows of 0x30xx (R195). -/
def dict30 : List Row := [
  ⟨0x3000, 1, 0x00, 1, .u 1, 0x4404, 6, .ivs [(6, 6)] 1, .num, 5, false⟩,
  ⟨0x3000, 1, 0x01, 1, .u 1, 0x2202, 0, .mask 0x3F, .num, 5, true⟩,
  ⟨0x3000, 1, 0x02, 1, .u 2, 0x1101, 0, .ivs [(0, 0), (400, 2000)] 1, .num, 5, false⟩,
  ⟨0x3000, 1, 0x03, 1, .u 1, 0x1101, 0, .ivs [(0, 1)] 1, .num, 5, false⟩,
  ⟨0x3000, 1, 0x04, 1, .u 4, 0x1101, 0, .ivs [(0, 0xFFFFFFFF)] 1, .num, 5, false⟩,
  ⟨0x3000, 1, 0x05, 1, .u 2, 0x2202, 4096, .ivs [(0, 0), (256, 65535)] 1, .num, 5, true⟩,
  ⟨0x3000, 1, 0x06, 1, .dom 12 12 1, 0x3303, 0, .any, .absent, 5, false⟩,
  ⟨0x3001, 1, 0x00, 1, .u 1, 0x4404, 9, .ivs [(9, 9)] 1, .num, 5, false⟩,
  ⟨0x3001, 1, 0x01, 4, .u 1, 0x2202, 0, .ivs [(0, 1)] 1, .boot, 5, false⟩,
  ⟨0x3001, 1, 0x05, 4, .u 1, 0x2202, 0, .ivs [(1, 100)] 1, .boot, 5, false⟩,
  ⟨0x3001, 1, 0x09, 1, .u 1, 0x3303, 0, .ivs [(0, 3)] 1, .absent, 5, false⟩]

/-- Rows of 0x31xx (R196, R197). -/
def dict31a : List Row := [
  ⟨0x3100, 6, 0x00, 1, .u 1, 0x4404, 24, .ivs [(24, 24)] 1, .num, 5, false⟩,
  ⟨0x3100, 6, 0x01, 1, .u 2, 0x2202, 0, .ivs [(200, 2000)] 1, .boot, 5, false⟩,
  ⟨0x3100, 6, 0x02, 1, .u 2, 0x2202, 200, .ivs [(200, 2000)] 1, .num, 5, true⟩,
  ⟨0x3100, 6, 0x03, 1, .u 2, 0x2202, 2000, .ivs [(200, 2000)] 1, .num, 5, true⟩,
  ⟨0x3100, 6, 0x04, 1, .u 2, 0x2202, 50, .ivs [(1, 500)] 1, .num, 5, true⟩,
  ⟨0x3100, 6, 0x05, 1, .u 1, 0x2202, 0, .ivs [(0, 1)] 1, .num, 5, true⟩,
  ⟨0x3100, 6, 0x06, 1, .u 2, 0x2202, 0, .ivs [(400, 2000)] 1, .boot, 5, false⟩,
  ⟨0x3100, 6, 0x07, 1, .u 2, 0x1101, 0, .ivs [(0, 65535)] 1, .boot, 5, false⟩,
  ⟨0x3100, 6, 0x08, 1, .u 1, 0x2202, 1, .ivs [(1, 12)] 1, .num, 5, true⟩,
  ⟨0x3100, 6, 0x09, 1, .u 2, 0x2202, 300, .ivs [(0, 599)] 1, .num, 5, true⟩,
  ⟨0x3100, 6, 0x0A, 1, .u 2, 0x2202, 480, .ivs [(1, 600)] 1, .num, 5, true⟩,
  ⟨0x3100, 6, 0x0B, 1, .u 2, 0x2202, 200, .ivs [(10, 10000)] 1, .num, 5, true⟩,
  ⟨0x3100, 6, 0x0C, 1, .u 1, 0x2202, 8, .ivs [(1, 64)] 1, .num, 5, true⟩,
  ⟨0x3100, 6, 0x0D, 1, .u 1, 0x2202, 15, .ivs [(5, 100)] 1, .num, 5, true⟩,
  ⟨0x3100, 6, 0x0E, 1, .u 1, 0x2202, 1, .ivs [(0, 1)] 1, .num, 5, true⟩,
  ⟨0x3100, 6, 0x0F, 1, .u 1, 0x2202, 0, .ivs [(0, 1)] 1, .num, 5, true⟩,
  ⟨0x3100, 6, 0x10, 1, .u 2, 0x2202, 50, .ivs [(0, 1000)] 1, .num, 5, true⟩,
  ⟨0x3100, 6, 0x11, 1, .uq 0 16, 0x2202, 58982, .ivs [(8192, 62259)] 1, .num, 5, true⟩,
  ⟨0x3100, 6, 0x12, 1, .u 1, 0x1101, 0, .ivs [(0, 3)] 1, .boot, 5, false⟩,
  ⟨0x3100, 6, 0x13, 1, .u 1, 0x2202, 0, .ivs [(0, 1)] 1, .boot, 5, false⟩,
  ⟨0x3100, 6, 0x14, 1, .u 1, 0x2202, 0, .ivs [(0, 255)] 1, .num, 5, true⟩,
  ⟨0x3100, 6, 0x15, 1, .u 4, 0x1101, 0, .ivs [(0, 0xFFFFFFFF)] 1, .num, 5, false⟩,
  ⟨0x3100, 6, 0x16, 1, .u 4, 0x1101, 0, .ivs [(0, 0xFFFFFFFF)] 1, .num, 5, false⟩,
  ⟨0x3100, 6, 0x17, 1, .u 4, 0x1101, 0, .ivs [(0, 0xFFFFFFFF)] 1, .num, 5, false⟩,
  ⟨0x3100, 6, 0x18, 1, .u 2, 0x1101, 0, .ivs [(0, 2000)] 1, .num, 5, false⟩,
  ⟨0x3110, 6, 0x00, 1, .u 1, 0x4404, 5, .ivs [(5, 5)] 1, .num, 5, false⟩,
  ⟨0x3110, 6, 0x01, 1, .dom 28 28 1, 0x2202, 0, .any, .bytes, 5, true⟩,
  ⟨0x3110, 6, 0x02, 1, .dom 28 28 1, 0x2202, 0, .any, .bytes, 5, true⟩,
  ⟨0x3110, 6, 0x03, 1, .u 1, 0x1101, 0, .ivs [(0, 1)] 1, .num, 5, false⟩,
  ⟨0x3110, 6, 0x04, 1, .u 1, 0x3303, 0, .ivs [(1, 1)] 1, .absent, 5, false⟩]

/-- Rows of 0x31xx (R196, R197). -/
def dict31b : List Row := [
  ⟨0x3110, 6, 0x05, 1, .u 4, 0x1101, 0, .ivs [(0, 0xFFFFFFFF)] 1, .num, 5, false⟩]

/-- Rows of 0x31xx. -/
def dict31 : List Row := dict31a ++ dict31b

/-- Rows of 0x32xx (R198). -/
def dict32 : List Row := [
  ⟨0x3200, 16, 0x00, 1, .u 1, 0x4404, 10, .ivs [(10, 10)] 1, .num, 5, false⟩,
  ⟨0x3200, 16, 0x01, 1, .u 1, 0x1202, 0, .ivs [(0, 5), (7, 7)] 1, .boot, 5, false⟩,
  ⟨0x3200, 16, 0x02, 1, .u 1, 0x2202, 0, .ivs [(0, 1)] 1, .boot, 5, false⟩,
  ⟨0x3200, 16, 0x03, 1, .u 1, 0x1101, 0, .ivs [(0, 6)] 1, .num, 5, false⟩,
  ⟨0x3200, 16, 0x04, 1, .u 2, 0x2202, 2000, .ivs [(1, 10000)] 1, .num, 5, true⟩,
  ⟨0x3200, 16, 0x05, 1, .i 2, 0x2202, 0, .ivs [(-1000, 1000)] 1, .num, 5, true⟩,
  ⟨0x3200, 16, 0x06, 1, .i 2, 0x1101, 0, .ivs [(-32768, 32767)] 1, .num, 5, false⟩,
  ⟨0x3200, 16, 0x07, 1, .u 8, 0x1101, 0, .ivs [(0, 0xFFFFFFFFFFFFFFFF)] 1, .num, 5, false⟩,
  ⟨0x3200, 16, 0x08, 1, .u 4, 0x1101, 0, .ivs [(0, 0xFFFFFFFF)] 1, .num, 5, false⟩,
  ⟨0x3200, 16, 0x09, 1, .u 4, 0x1101, 0, .ivs [(0, 0xFFFFFFFF)] 1, .num, 5, false⟩,
  ⟨0x3200, 16, 0x0A, 1, .u 1, 0x1101, 255, .ivs [(0, 11), (255, 255)] 1, .num, 5, false⟩]

/-- Rows of 0x33xx (R232). -/
def dict33a : List Row := [
  ⟨0x3300, 6, 0x00, 1, .u 1, 0x4404, 23, .ivs [(23, 23)] 1, .num, 5, false⟩,
  ⟨0x3300, 6, 0x01, 1, .u 2, 0x1202, 600, .ivs [(10, 1000)] 1, .num, 5, true⟩,
  ⟨0x3300, 6, 0x02, 1, .u 1, 0x1202, 80, .ivs [(50, 100)] 1, .num, 5, true⟩,
  ⟨0x3300, 6, 0x03, 1, .u 2, 0x1202, 20, .ivs [(1, 1000)] 1, .num, 5, true⟩,
  ⟨0x3300, 6, 0x04, 1, .u 2, 0x1202, 750, .ivs [(11, 1500)] 1, .num, 5, true⟩,
  ⟨0x3300, 6, 0x05, 1, .u 1, 0x1202, 125, .ivs [(101, 200)] 1, .num, 5, true⟩,
  ⟨0x3300, 6, 0x06, 1, .u 2, 0x1202, 1, .ivs [(1, 1000)] 1, .num, 5, true⟩,
  ⟨0x3300, 6, 0x07, 1, .u 2, 0x1202, 200, .ivs [(20, 10000)] 1, .num, 5, true⟩,
  ⟨0x3300, 6, 0x08, 1, .u 1, 0x1202, 10, .ivs [(3, 25)] 1, .num, 5, true⟩,
  ⟨0x3300, 6, 0x09, 1, .u 1, 0x1202, 8, .ivs [(3, 25)] 1, .num, 5, true⟩,
  ⟨0x3300, 6, 0x0A, 1, .u 2, 0x1202, 100, .ivs [(1, 10000)] 1, .num, 5, true⟩,
  ⟨0x3300, 6, 0x0B, 1, .u 1, 0x1202, 40, .ivs [(10, 90)] 1, .num, 5, true⟩,
  ⟨0x3300, 6, 0x0C, 1, .u 2, 0x1202, 100, .ivs [(10, 600)] 1, .num, 5, true⟩,
  ⟨0x3300, 6, 0x0D, 1, .u 1, 0x1202, 4, .ivs [(2, 64)] 1, .num, 5, true⟩,
  ⟨0x3300, 6, 0x0E, 1, .u 1, 0x1202, 6, .ivs [(2, 25)] 1, .num, 5, true⟩,
  ⟨0x3300, 6, 0x0F, 1, .u 1, 0x1202, 15, .ivs [(5, 100)] 1, .num, 5, true⟩,
  ⟨0x3300, 6, 0x10, 1, .u 2, 0x1202, 200, .ivs [(10, 2000)] 1, .num, 5, true⟩,
  ⟨0x3300, 6, 0x11, 1, .u 2, 0x1202, 8, .ivs [(2, 1000)] 1, .num, 5, true⟩,
  ⟨0x3300, 6, 0x12, 1, .u 2, 0x1202, 1, .ivs [(1, 10000)] 1, .num, 5, true⟩,
  ⟨0x3300, 6, 0x13, 1, .u 2, 0x1202, 50, .ivs [(10, 10000)] 1, .num, 5, true⟩,
  ⟨0x3300, 6, 0x14, 1, .u 1, 0x1202, 0, .ivs [(0, 7)] 1, .num, 5, true⟩,
  ⟨0x3300, 6, 0x15, 1, .u 2, 0x1101, 0, .ivs [(0, 65535)] 1, .num, 5, false⟩,
  ⟨0x3300, 6, 0x16, 1, .u 2, 0x1101, 0, .ivs [(0, 65535)] 1, .num, 5, false⟩,
  ⟨0x3300, 6, 0x17, 1, .u 1, 0x0303, 0, .ivs [(1, 1)] 1, .absent, 5, false⟩,
  ⟨0x3310, 1, 0x00, 1, .u 1, 0x4404, 7, .ivs [(7, 7)] 1, .num, 5, false⟩,
  ⟨0x3310, 1, 0x01, 1, .u 1, 0x1202, 110, .ivs [(60, 170)] 1, .num, 5, true⟩,
  ⟨0x3310, 1, 0x02, 1, .u 1, 0x1202, 135, .ivs [(70, 175)] 1, .num, 5, true⟩,
  ⟨0x3310, 1, 0x03, 1, .u 1, 0x1202, 10, .ivs [(2, 30)] 1, .num, 5, true⟩,
  ⟨0x3310, 1, 0x04, 1, .u 1, 0x1202, 80, .ivs [(50, 100)] 1, .num, 5, true⟩,
  ⟨0x3310, 1, 0x05, 1, .i 2, 0x1101, 0, .ivs [(0, 1750)] 1, .num, 5, false⟩]

/-- Rows of 0x33xx (R232). -/
def dict33b : List Row := [
  ⟨0x3310, 1, 0x06, 1, .u 2, 0x1202, 10, .ivs [(1, 1000)] 1, .num, 5, true⟩,
  ⟨0x3310, 1, 0x07, 1, .u 2, 0x1202, 1, .ivs [(1, 1000)] 1, .num, 5, true⟩,
  ⟨0x3320, 6, 0x00, 1, .u 1, 0x4404, 17, .ivs [(17, 17)] 1, .num, 5, false⟩,
  ⟨0x3320, 6, 0x01, 16, .u 4, 0x1101, 0, .ivs [(0, 0xFFFFFFFF)] 1, .num, 5, false⟩,
  ⟨0x3320, 6, 0x11, 1, .u 4, 0x1101, 0, .ivs [(0, 0xFFFFFFFF)] 1, .num, 5, false⟩,
  ⟨0x3330, 1, 0x00, 1, .u 1, 0x4404, 5, .ivs [(5, 5)] 1, .num, 3, false⟩,
  ⟨0x3330, 1, 0x01, 1, .u 4, 0x1101, 0, .ivs [(0, 0xFFFFFFFF)] 1, .num, 3, false⟩,
  ⟨0x3330, 1, 0x02, 1, .u 1, 0x1101, 255, .ivs [(0, 31), (255, 255)] 1, .num, 3, false⟩,
  ⟨0x3330, 1, 0x03, 1, .dom 2048 2048 1, 0x1101, 0, .any, .absent, 3, false⟩,
  ⟨0x3330, 1, 0x04, 1, .u 4, 0x1101, 0, .ivs [(0, 0xFFFFFFFF)] 1, .num, 3, false⟩,
  ⟨0x3330, 1, 0x05, 1, .u 4, 0x1101, 0, .ivs [(0, 0xFFFFFFFF)] 1, .num, 3, false⟩]

/-- Rows of 0x33xx. -/
def dict33 : List Row := dict33a ++ dict33b

/-- Rows of 0x40xx (R285, R286). -/
def dict40 : List Row := [
  ⟨0x4000, 1, 0x00, 1, .u 1, 0x4404, 14, .ivs [(14, 14)] 1, .num, 6, false⟩,
  ⟨0x4000, 1, 0x01, 1, .u 1, 0x1202, 40, .ivs [(20, 100)] 1, .num, 6, true⟩,
  ⟨0x4000, 1, 0x02, 1, .u 1, 0x1202, 0, .ivs [(0, 50)] 1, .num, 6, true⟩,
  ⟨0x4000, 1, 0x03, 1, .u 1, 0x1202, 10, .ivs [(0, 50)] 1, .num, 6, true⟩,
  ⟨0x4000, 1, 0x04, 1, .u 2, 0x1202, 100, .ivs [(10, 10000)] 1, .num, 6, true⟩,
  ⟨0x4000, 1, 0x05, 1, .u 2, 0x1202, 100, .ivs [(20, 10000)] 1, .num, 6, true⟩,
  ⟨0x4000, 1, 0x06, 1, .u 2, 0x1202, 50, .ivs [(5, 1000)] 1, .num, 6, true⟩,
  ⟨0x4000, 1, 0x07, 1, .u 1, 0x1202, 4, .ivs [(0, 32)] 1, .num, 6, true⟩,
  ⟨0x4000, 1, 0x08, 1, .u 2, 0x1202, 20, .ivs [(0, 500)] 1, .num, 6, true⟩,
  ⟨0x4000, 1, 0x09, 1, .u 2, 0x1202, 500, .ivs [(10, 10000)] 1, .num, 6, true⟩,
  ⟨0x4000, 1, 0x0A, 1, .u 1, 0x1202, 16, .ivs [(1, 16)] 1, .num, 6, true⟩,
  ⟨0x4000, 1, 0x0B, 1, .u 1, 0x1202, 2, .ivs [(1, 32)] 1, .num, 6, true⟩,
  ⟨0x4000, 1, 0x0C, 1, .u 2, 0x1202, 20, .ivs [(1, 1000)] 1, .num, 6, true⟩,
  ⟨0x4000, 1, 0x0D, 1, .u 1, 0x1202, 0, .ivs [(0, 1)] 1, .num, 6, true⟩,
  ⟨0x4000, 1, 0x0E, 1, .u 2, 0x1101, 0, .ivs [(0, 0), (570, 2000)] 1, .num, 6, false⟩,
  ⟨0x4001, 1, 0x00, 1, .u 1, 0x4404, 8, .ivs [(8, 8)] 1, .num, 6, false⟩,
  ⟨0x4001, 1, 0x01, 1, .u 1, 0x1202, 8, .ivs [(4, 32)] 4, .num, 6, true⟩,
  ⟨0x4001, 1, 0x02, 1, .u 1, 0x1202, 4, .ivs [(0, 12)] 1, .num, 6, true⟩,
  ⟨0x4001, 1, 0x03, 1, .u 1, 0x1202, 4, .ivs [(1, 64)] 1, .num, 6, true⟩,
  ⟨0x4001, 1, 0x04, 1, .u 1, 0x1202, 25, .ivs [(1, 100), (100, 100)] 1, .num, 6, true⟩,
  ⟨0x4001, 1, 0x05, 1, .u 1, 0x1202, 8, .ivs [(1, 64)] 1, .num, 6, true⟩,
  ⟨0x4001, 1, 0x06, 1, .u 2, 0x1202, 1000, .ivs [(100, 10000)] 1, .num, 6, true⟩,
  ⟨0x4001, 1, 0x07, 1, .u 8, 0x1101, 0, .ivs [(0, 0xFFFFFFFFFFFFFFFF)] 1, .num, 6, false⟩,
  ⟨0x4001, 1, 0x08, 1, .u 8, 0x1101, 0, .ivs [(0, 0xFFFFFFFFFFFFFFFF)] 1, .num, 6, false⟩,
  ⟨0x4002, 1, 0x00, 1, .u 1, 0x4404, 9, .ivs [(9, 9)] 1, .num, 6, false⟩,
  ⟨0x4002, 1, 0x01, 6, .u 4, 0x1101, 0, .ivs [(0, 0xFFFFFFFF)] 1, .num, 6, false⟩,
  ⟨0x4002, 1, 0x07, 1, .u 8, 0x1101, 0, .ivs [(0, 0xFFFFFFFFFFFFFFFF)] 1, .num, 6, false⟩,
  ⟨0x4002, 1, 0x08, 1, .u 8, 0x1101, 0, .ivs [(0, 0xFFFFFFFFFFFFFFFF)] 1, .num, 6, false⟩,
  ⟨0x4002, 1, 0x09, 1, .u 4, 0x1101, 0, .ivs [(0, 0xFFFFFFFF)] 1, .num, 6, false⟩,
  ⟨0x4010, 4, 0x00, 1, .dom 64 64 1, 0x2202, 0, .any, .boot, 6, false⟩]

/-- Rows of 0x41xx (R286). -/
def dict41 : List Row := [
  ⟨0x4100, 256, 0x00, 1, .u 1, 0x4404, 16, .ivs [(16, 16)] 1, .num, 6, false⟩,
  ⟨0x4100, 256, 0x01, 1, .u 1, 0x2202, 0, .ivs [(0, 1)] 1, .boot, 6, false⟩,
  ⟨0x4100, 256, 0x02, 1, .u 2, 0x2202, 0, .ivs [(550, 950)] 5, .boot, 6, false⟩,
  ⟨0x4100, 256, 0x03, 1, .u 2, 0x1101, 0, .ivs [(550, 950)] 1, .num, 6, false⟩,
  ⟨0x4100, 256, 0x04, 1, .u 1, 0x1202, 0, .ivs [(1, 25)] 1, .boot, 6, false⟩,
  ⟨0x4100, 256, 0x05, 1, .u 1, 0x1202, 1, .ivs [(0, 3)] 1, .num, 6, true⟩,
  ⟨0x4100, 256, 0x06, 1, .i 2, 0x1202, 0, .ivs [(-31, 31)] 1, .num, 6, true⟩,
  ⟨0x4100, 256, 0x07, 1, .i 2, 0x1202, 0, .ivs [(-15, 15)] 1, .num, 6, true⟩,
  ⟨0x4100, 256, 0x08, 1, .u 2, 0x1202, 800, .ivs [(100, 4000)] 1, .num, 6, true⟩,
  ⟨0x4100, 256, 0x09, 1, .i 2, 0x1202, 0, .ivs [(-100, 20)] 1, .num, 6, true⟩,
  ⟨0x4100, 256, 0x0A, 1, .u 1, 0x0303, 0, .ivs [(1, 1)] 1, .absent, 6, false⟩,
  ⟨0x4100, 256, 0x0B, 1, .u 2, 0x1101, 0, .ivs [(0, 10000)] 1, .num, 6, false⟩,
  ⟨0x4100, 256, 0x0C, 1, .u 4, 0x1101, 0, .ivs [(0, 0xFFFFFFFF)] 1, .num, 6, false⟩,
  ⟨0x4100, 256, 0x0D, 1, .u 8, 0x1101, 0, .ivs [(0, 0xFFFFFFFFFFFFFFFF)] 1, .num, 6, false⟩,
  ⟨0x4100, 256, 0x0E, 1, .u 4, 0x1101, 0, .ivs [(0, 0xFFFFFFFF)] 1, .num, 6, false⟩,
  ⟨0x4100, 256, 0x0F, 1, .u 1, 0x1101, 0, .ivs [(0, 4)] 1, .num, 6, false⟩,
  ⟨0x4100, 256, 0x10, 1, .u 2, 0x1101, 0, .ivs [(0, 1023)] 1, .num, 6, false⟩]

/-- Rows of 0x50xx (R405). -/
def dict50a : List Row := [
  ⟨0x5000, 1, 0x00, 1, .u 1, 0x4404, 12, .ivs [(12, 12)] 1, .num, 7, false⟩,
  ⟨0x5000, 1, 0x01, 1, .u 1, 0x1202, 20, .ivs [(5, 100)] 1, .num, 7, true⟩,
  ⟨0x5000, 1, 0x02, 1, .u 2, 0x1202, 1000, .ivs [(100, 60000)] 1, .num, 7, true⟩,
  ⟨0x5000, 1, 0x03, 1, .u 4, 0x1202, 10000, .ivs [(1000, 1000000)] 1, .num, 7, true⟩,
  ⟨0x5000, 1, 0x04, 1, .u 4, 0x1202, 2000, .ivs [(100, 100000)] 1, .num, 7, true⟩,
  ⟨0x5000, 1, 0x05, 1, .u 1, 0x1202, 5, .ivs [(1, 20)] 1, .num, 7, true⟩,
  ⟨0x5000, 1, 0x06, 1, .u 2, 0x1101, 0, .ivs [(0, 1280)] 1, .num, 7, false⟩,
  ⟨0x5000, 1, 0x07, 1, .u 2, 0x1101, 0, .ivs [(0, 16)] 1, .num, 7, false⟩,
  ⟨0x5000, 1, 0x08, 1, .u 2, 0x1101, 0, .ivs [(0, 1280)] 1, .num, 7, false⟩,
  ⟨0x5000, 1, 0x09, 1, .u 4, 0x0303, 0, .ivs [(1702257011, 1702257011)] 1, .absent, 7, false⟩,
  ⟨0x5000, 1, 0x0A, 1, .u 1, 0x1101, 0, .ivs [(0, 3)] 1, .num, 7, false⟩,
  ⟨0x5000, 1, 0x0B, 1, .sq 12 4, 0x1101, (-32768), .ivs [(-640, 2400)] 1, .num, 7, false⟩,
  ⟨0x5000, 1, 0x0C, 1, .u 2, 0x1101, 0, .ivs [(0, 1279)] 1, .num, 7, false⟩,
  ⟨0x5001, 1, 0x00, 1, .u 1, 0x4404, 9, .ivs [(9, 9)] 1, .num, 14, false⟩,
  ⟨0x5001, 1, 0x01, 1, .u 2, 0x1202, 2000, .ivs [(0, 0), (100, 10000)] 100, .num, 14, true⟩,
  ⟨0x5001, 1, 0x02, 1, .uq 0 16, 0x1202, 4096, .ivs [(0, 65535)] 1, .num, 14, true⟩,
  ⟨0x5001, 1, 0x03, 1, .dom 1024 1024 1, 0x1202, 0, .any, .bytes, 14, true⟩,
  ⟨0x5001, 1, 0x04, 1, .sq 12 4, 0x1202, 560, .ivs [(-640, 1600)] 1, .num, 14, true⟩,
  ⟨0x5001, 1, 0x05, 1, .sq 12 4, 0x1101, (-32768), .ivs [(-640, 2400)] 1, .num, 14, false⟩,
  ⟨0x5001, 1, 0x06, 1, .u 2, 0x1101, 0, .ivs [(0, 255)] 1, .num, 14, false⟩,
  ⟨0x5001, 1, 0x07, 1, .sq 12 4, 0x1101, 0, .ivs [(0, 2400)] 1, .num, 14, false⟩,
  ⟨0x5001, 1, 0x08, 1, .u 4, 0x1101, 0, .ivs [(0, 0xFFFFFFFF)] 1, .num, 14, false⟩,
  ⟨0x5001, 1, 0x09, 1, .uq 0 16, 0x1202, 2048, .ivs [(0, 16384)] 1, .num, 14, true⟩,
  ⟨0x5002, 1, 0x00, 1, .u 1, 0x4404, 4, .ivs [(4, 4)] 1, .num, 7, false⟩,
  ⟨0x5002, 1, 0x01, 1, .u 4, 0x1202, 0, .mask 0x1FE0000, .num, 7, true⟩,
  ⟨0x5002, 1, 0x02, 1, .u 2, 0x1202, 3, .ivs [(2, 100)] 1, .num, 7, true⟩,
  ⟨0x5002, 1, 0x03, 1, .u 4, 0x1101, 31, .ivs [(0, 0xFFFFFFFF)] 1, .num, 7, false⟩,
  ⟨0x5002, 1, 0x04, 1, .u 4, 0x0303, 0, .mask 0x1FE0000, .absent, 7, false⟩,
  ⟨0x5010, 1, 0x00, 1, .u 1, 0x4404, 4, .ivs [(4, 4)] 1, .num, 7, false⟩,
  ⟨0x5010, 1, 0x01, 1, .u 2, 0x1202, 0, .ivs [(0, 1279)] 1, .num, 7, false⟩]

/-- Rows of 0x50xx (R405). -/
def dict50b : List Row := [
  ⟨0x5010, 1, 0x02, 1, .dom 32 32 1, 0x1101, 0, .any, .absent, 7, false⟩,
  ⟨0x5010, 1, 0x03, 1, .u 1, 0x0303, 0, .ivs [(1, 5)] 1, .absent, 7, false⟩,
  ⟨0x5010, 1, 0x04, 1, .u 1, 0x1101, 0, .ivs [(0, 3)] 1, .num, 7, false⟩]

/-- Rows of 0x50xx. -/
def dict50 : List Row := dict50a ++ dict50b

/-- Rows of 0x51xx (R405). -/
def dict51 : List Row := [
  ⟨0x5100, 20, 0x00, 1, .dom 136 136 1, 0x1101, 0, .any, .absent, 7, false⟩]

/-- Rows of 0x52xx (R405). -/
def dict52 : List Row := [
  ⟨0x5200, 16, 0x00, 1, .u 1, 0x4404, 12, .ivs [(12, 12)] 1, .num, 7, false⟩,
  ⟨0x5200, 2, 0x01, 1, .i 2, 0x1202, 95, .ivs [(-40, 150)] 1, .num, 7, true⟩,
  ⟨0x5200, 2, 0x02, 1, .i 2, 0x1202, 105, .ivs [(-40, 150)] 1, .num, 7, true⟩,
  ⟨0x5200, 2, 0x03, 1, .i 2, 0x1202, 115, .ivs [(-40, 150)] 1, .num, 7, true⟩,
  ⟨0x5200, 16, 0x04, 1, .u 1, 0x1202, 3, .ivs [(1, 20)] 1, .num, 7, true⟩,
  ⟨0x5200, 16, 0x05, 1, .u 1, 0x1202, 5, .ivs [(1, 30)] 1, .num, 7, true⟩,
  ⟨0x5200, 16, 0x06, 1, .u 1, 0x1202, 20, .ivs [(1, 100)] 1, .num, 7, true⟩,
  ⟨0x5200, 16, 0x07, 1, .u 2, 0x1202, 128, .ivs [(16, 256)] 1, .num, 7, true⟩,
  ⟨0x5200, 16, 0x08, 1, .u 1, 0x1202, 8, .ivs [(1, 24)] 1, .num, 7, true⟩,
  ⟨0x5200, 16, 0x09, 1, .u 2, 0x1101, 0, .ivs [(0, 1280)] 1, .num, 7, false⟩,
  ⟨0x5200, 16, 0x0A, 1, .sq 12 4, 0x1101, (-32768), .ivs [(-640, 2400)] 1, .num, 7, false⟩,
  ⟨0x5200, 16, 0x0B, 1, .u 4, 0x1101, 0, .ivs [(0, 0xFFFFFFFF)] 1, .num, 7, false⟩,
  ⟨0x5200, 16, 0x0C, 1, .u 4, 0x1101, 0, .ivs [(0, 0xFFFFFFFF)] 1, .num, 7, false⟩,
  ⟨0x5202, 1, 0x01, 1, .i 2, 0x1202, 90, .ivs [(-40, 150)] 1, .num, 7, true⟩,
  ⟨0x5202, 1, 0x02, 1, .i 2, 0x1202, 100, .ivs [(-40, 150)] 1, .num, 7, true⟩,
  ⟨0x5202, 1, 0x03, 1, .i 2, 0x1202, 110, .ivs [(-40, 150)] 1, .num, 7, true⟩,
  ⟨0x5203, 1, 0x01, 1, .i 2, 0x1202, 100, .ivs [(-40, 150)] 1, .num, 7, true⟩,
  ⟨0x5203, 1, 0x02, 1, .i 2, 0x1202, 110, .ivs [(-40, 150)] 1, .num, 7, true⟩,
  ⟨0x5203, 1, 0x03, 1, .i 2, 0x1202, 120, .ivs [(-40, 150)] 1, .num, 7, true⟩,
  ⟨0x5204, 1, 0x01, 1, .i 2, 0x1202, 90, .ivs [(-40, 150)] 1, .num, 7, true⟩,
  ⟨0x5204, 1, 0x02, 1, .i 2, 0x1202, 100, .ivs [(-40, 150)] 1, .num, 7, true⟩,
  ⟨0x5204, 1, 0x03, 1, .i 2, 0x1202, 110, .ivs [(-40, 150)] 1, .num, 7, true⟩,
  ⟨0x5205, 1, 0x01, 1, .i 2, 0x1202, 85, .ivs [(-40, 150)] 1, .num, 7, true⟩,
  ⟨0x5205, 1, 0x02, 1, .i 2, 0x1202, 95, .ivs [(-40, 150)] 1, .num, 7, true⟩,
  ⟨0x5205, 1, 0x03, 1, .i 2, 0x1202, 105, .ivs [(-40, 150)] 1, .num, 7, true⟩,
  ⟨0x5206, 10, 0x01, 1, .i 2, 0x1202, 95, .ivs [(-40, 150)] 1, .num, 7, true⟩,
  ⟨0x5206, 10, 0x02, 1, .i 2, 0x1202, 105, .ivs [(-40, 150)] 1, .num, 7, true⟩,
  ⟨0x5206, 10, 0x03, 1, .i 2, 0x1202, 115, .ivs [(-40, 150)] 1, .num, 7, true⟩]

/-- Rows of 0x53xx (R405). -/
def dict53 : List Row := [
  ⟨0x5300, 1, 0x00, 1, .u 1, 0x4404, 9, .ivs [(9, 9)] 1, .num, 1, false⟩,
  ⟨0x5300, 1, 0x01, 1, .u 1, 0x1201, 125, .ivs [(85, 125)] 1, .num, 1, true⟩,
  ⟨0x5300, 1, 0x02, 1, .u 1, 0x1201, 95, .ivs [(50, 115)] 1, .num, 1, true⟩,
  ⟨0x5300, 1, 0x03, 1, .u 1, 0x1101, 0, .mask 0x7F, .num, 1, false⟩,
  ⟨0x5300, 1, 0x04, 1, .u 2, 0x1201, 1000, .ivs [(100, 60000)] 1, .num, 1, true⟩,
  ⟨0x5300, 1, 0x05, 1, .u 4, 0x0300, 0, .ivs [(1836212594, 1836212594)] 1, .absent, 1, false⟩,
  ⟨0x5300, 1, 0x06, 1, .u 4, 0x1101, 0, .ivs [(0, 0xFFFFFFFF)] 1, .num, 1, false⟩,
  ⟨0x5300, 1, 0x07, 1, .u 4, 0x1101, 0, .ivs [(0, 0xFFFFFFFF)] 1, .num, 1, false⟩,
  ⟨0x5300, 1, 0x08, 1, .u 1, 0x4404, 3, .ivs [(3, 3)] 1, .num, 1, false⟩,
  ⟨0x5300, 1, 0x09, 1, .u 4, 0x1101, 0, .ivs [(0, 0xFFFFFFFF)] 1, .num, 1, false⟩,
  ⟨0x5310, 1, 0x00, 1, .u 1, 0x4404, 7, .ivs [(7, 7)] 1, .num, 7, false⟩,
  ⟨0x5310, 1, 0x01, 7, .u 4, 0x1101, 0, .ivs [(0, 0xFFFFFFFF)] 1, .num, 7, false⟩]

end Sys2Proof.Machine
end

