-- ==== Sys2Proof/Machine/Dict3.lean ====
section
/-! DEFINITION. Rows of the object dictionary, indices 0x6000 to 0xF0FF, as the tables of the chapters give them. -/

namespace Sys2Proof.Machine

/-- Rows of 0x60xx (R336, R337, R338, R571). -/
def dict60a : List Row := [
  ⟨0x6000, 1, 0x00, 1, .u 1, 0x4404, 13, .ivs [(13, 13)] 1, .num, 15, false⟩,
  ⟨0x6000, 1, 0x01, 1, .u 1, 0x1202, 1, .ivs [(0, 1)] 1, .num, 15, true⟩,
  ⟨0x6000, 1, 0x02, 1, .u 4, 0x1202, 10000, .ivs [(100, 100000)] 1, .num, 15, true⟩,
  ⟨0x6000, 1, 0x03, 1, .u 1, 0x1202, 10, .ivs [(1, 100)] 1, .num, 15, true⟩,
  ⟨0x6000, 1, 0x04, 1, .u 1, 0x1202, 2, .ivs [(1, 20)] 1, .num, 15, true⟩,
  ⟨0x6000, 1, 0x05, 1, .u 1, 0x1202, 16, .ivs [(1, 24)] 1, .num, 15, true⟩,
  ⟨0x6000, 1, 0x06, 1, .u 2, 0x1202, 100, .ivs [(10, 10000)] 1, .num, 15, true⟩,
  ⟨0x6000, 1, 0x07, 1, .u 4, 0x1202, 1000, .ivs [(100, 100000)] 1, .num, 15, true⟩,
  ⟨0x6000, 1, 0x08, 1, .u 1, 0x1202, 10, .ivs [(2, 50)] 1, .num, 15, true⟩,
  ⟨0x6000, 1, 0x09, 1, .u 4, 0x1101, 0, .ivs [(0, 262143)] 1, .num, 15, false⟩,
  ⟨0x6000, 1, 0x0A, 1, .u 4, 0x1101, 0, .ivs [(0, 262143)] 1, .num, 15, false⟩,
  ⟨0x6000, 1, 0x0B, 1, .u 8, 0x1101, 0, .ivs [(0, 0xFFFFFFFFFFFFFFFF)] 1, .num, 15, false⟩,
  ⟨0x6000, 1, 0x0C, 1, .u 4, 0x1101, 0, .ivs [(0, 0xFFFFFFFF)] 1, .num, 15, false⟩,
  ⟨0x6000, 1, 0x0D, 1, .u 4, 0x1101, 0, .ivs [(0, 0xFFFFFFFF)] 1, .num, 15, false⟩,
  ⟨0x6001, 1, 0x00, 1, .u 1, 0x4404, 4, .ivs [(4, 4)] 1, .num, 15, false⟩,
  ⟨0x6001, 1, 0x01, 1, .u 4, 0x1202, 96000, .ivs [(400, 262143)] 1, .num, 15, true⟩,
  ⟨0x6001, 1, 0x02, 1, .u 4, 0x1202, 144000, .ivs [(400, 262143)] 1, .num, 15, true⟩,
  ⟨0x6001, 1, 0x03, 1, .u 4, 0x1101, 0, .ivs [(0, 0xFFFFFFFF)] 1, .num, 15, false⟩,
  ⟨0x6001, 1, 0x04, 1, .u 1, 0x1101, 0, .ivs [(0, 255)] 1, .num, 15, false⟩,
  ⟨0x6002, 1, 0x00, 1, .u 1, 0x4404, 24, .ivs [(24, 24)] 1, .num, 15, false⟩,
  ⟨0x6002, 1, 0x01, 24, .u 4, 0x1202, 12000, .ivs [(40, 262143)] 1, .num, 15, true⟩,
  ⟨0x6003, 1, 0x00, 1, .u 1, 0x4444, 6, .ivs [(6, 6)] 1, .num, 15, false⟩,
  ⟨0x6003, 1, 0x01, 1, .u 1, 0x1202, 0, .ivs [(0, 2)] 1, .num, 15, true⟩,
  ⟨0x6003, 1, 0x02, 1, .u 1, 0x1202, 0, .ivs [(0, 15)] 1, .num, 15, true⟩,
  ⟨0x6003, 1, 0x03, 1, .u 2, 0x1202, 0, .ivs [(0, 0), (100, 6000)] 1, .num, 15, true⟩,
  ⟨0x6003, 1, 0x04, 1, .u 1, 0x4444, 4, .ivs [(4, 4)] 1, .num, 15, false⟩,
  ⟨0x6003, 1, 0x05, 1, .u 1, 0x1101, 0, .ivs [(0, 2)] 1, .num, 15, false⟩,
  ⟨0x6003, 1, 0x06, 1, .u 2, 0x1101, 0, .ivs [(0, 65535)] 1, .num, 15, false⟩,
  ⟨0x6004, 1, 0x00, 1, .u 1, 0x4404, 11, .ivs [(11, 11)] 1, .num, 4, false⟩,
  ⟨0x6004, 1, 0x01, 1, .u 4, 0x1101, 31, .mask 0x7FF, .num, 4, false⟩]

/-- Rows of 0x60xx (R336, R337, R338, R571). -/
def dict60b : List Row := [
  ⟨0x6004, 1, 0x02, 1, .u 4, 0x1101, 31, .mask 0x7FF, .num, 4, false⟩,
  ⟨0x6004, 1, 0x03, 1, .u 4, 0x2101, 31, .mask 0x7FF, .num, 4, false⟩,
  ⟨0x6004, 1, 0x04, 1, .u 4, 0x2101, 31, .mask 0x7FF, .num, 4, false⟩,
  ⟨0x6004, 1, 0x05, 1, .u 4, 0x1101, 31, .mask 0x7FF, .num, 4, false⟩,
  ⟨0x6004, 1, 0x06, 1, .u 4, 0x1101, 31, .mask 0x7FF, .num, 4, false⟩,
  ⟨0x6004, 1, 0x07, 1, .u 4, 0x1101, 31, .mask 0x7FF, .num, 4, false⟩,
  ⟨0x6004, 1, 0x08, 1, .u 4, 0x1101, 31, .mask 0x7FF, .num, 4, false⟩,
  ⟨0x6004, 1, 0x09, 1, .u 4, 0x1101, 31, .mask 0x7FF, .num, 4, false⟩,
  ⟨0x6004, 1, 0x0A, 1, .u 4, 0x1201, 31, .mask 0x7FF, .num, 4, false⟩,
  ⟨0x6004, 1, 0x0B, 1, .u 1, 0x1202, 0, .ivs [(0, 24)] 1, .num, 4, false⟩,
  ⟨0x6005, 1, 0x00, 1, .u 1, 0x4404, 20, .ivs [(20, 20)] 1, .num, 4, false⟩,
  ⟨0x6005, 1, 0x01, 10, .u 8, 0x1101, 0, .ivs [(0, 0xFFFFFFFFFFFFFFFF)] 1, .num, 4, false⟩,
  ⟨0x6005, 1, 0x0B, 10, .u 4, 0x1101, 0, .ivs [(0, 0xFFFFFFFF)] 1, .num, 4, false⟩,
  ⟨0x6006, 1, 0x00, 1, .u 1, 0x4404, 20, .ivs [(20, 20)] 1, .num, 15, false⟩,
  ⟨0x6006, 1, 0x01, 10, .u 8, 0x1101, 0, .ivs [(0, 0xFFFFFFFFFFFFFFFF)] 1, .num, 15, false⟩,
  ⟨0x6006, 1, 0x0B, 10, .u 4, 0x1101, 0, .ivs [(0, 0xFFFFFFFF)] 1, .num, 15, false⟩,
  ⟨0x6007, 1, 0x00, 1, .u 1, 0x4404, 6, .ivs [(6, 6)] 1, .num, 15, false⟩,
  ⟨0x6007, 1, 0x01, 6, .u 4, 0x1101, 0, .ivs [(0, 0xFFFFFFFF)] 1, .num, 15, false⟩,
  ⟨0x6008, 1, 0x00, 1, .u 1, 0x4444, 7, .ivs [(7, 7)] 1, .num, 15, false⟩,
  ⟨0x6008, 1, 0x01, 1, .dom 152 152 1, 0x1202, 0, .any, .cal, 15, true⟩,
  ⟨0x6008, 1, 0x02, 1, .dom 152 152 1, 0x1101, 0, .any, .absent, 15, false⟩,
  ⟨0x6008, 1, 0x03, 1, .dom 152 152 1, 0x1101, 0, .any, .absent, 15, false⟩,
  ⟨0x6008, 1, 0x04, 1, .u 1, 0x0303, 0, .ivs [(1, 1)] 1, .absent, 15, false⟩,
  ⟨0x6008, 1, 0x05, 1, .u 2, 0x1111, 0, .ivs [(0, 65535)] 1, .num, 15, false⟩,
  ⟨0x6008, 1, 0x06, 1, .u 1, 0x1202, 1, .ivs [(0, 1)] 1, .num, 15, true⟩,
  ⟨0x6008, 1, 0x07, 1, .uq 0 16, 0x1202, 65470, .ivs [(61440, 65535)] 1, .num, 15, true⟩,
  ⟨0x6009, 1, 0x00, 1, .u 1, 0x4404, 11, .ivs [(11, 11)] 1, .num, 15, false⟩,
  ⟨0x6009, 1, 0x01, 3, .i 2, 0x1101, 0, .ivs [(-10000, 10000)] 1, .num, 15, false⟩,
  ⟨0x6009, 1, 0x04, 3, .u 8, 0x1101, 0, .ivs [(0, 0xFFFFFFFFFFFFFFFF)] 1, .num, 15, false⟩,
  ⟨0x6009, 1, 0x07, 3, .u 4, 0x1101, 0, .ivs [(0, 0xFFFFFFFF)] 1, .num, 15, false⟩]

/-- Rows of 0x60xx (R336, R337, R338, R571). -/
def dict60c : List Row := [
  ⟨0x6009, 1, 0x0A, 1, .u 4, 0x1101, 0, .ivs [(0, 0xFFFFFFFF)] 1, .num, 15, false⟩,
  ⟨0x6009, 1, 0x0B, 1, .i 4, 0x1101, 0, .ivs [(-2147483648, 2147483647)] 1, .num, 15, false⟩,
  ⟨0x6010, 1, 0x00, 1, .dom 1024 1024 1, 0x1202, 0, .any, .bytes, 15, false⟩,
  ⟨0x6040, 64, 0x00, 1, .u 1, 0x4444, 10, .ivs [(10, 10)] 1, .num, 15, false⟩,
  ⟨0x6040, 64, 0x01, 1, .u 4, 0x1212, 262143, .ivs [(0, 262143)] 1, .num, 15, false⟩,
  ⟨0x6040, 64, 0x02, 1, .u 4, 0x1212, 262143, .ivs [(0, 262143)] 1, .num, 15, false⟩,
  ⟨0x6040, 64, 0x03, 1, .u 1, 0x1212, 0, .ivs [(0, 1)] 1, .num, 15, false⟩,
  ⟨0x6040, 64, 0x04, 1, .u 2, 0x1111, 0, .ivs [(0, 1024)] 1, .num, 15, false⟩,
  ⟨0x6040, 64, 0x05, 1, .u 4, 0x1101, 0, .ivs [(0, 0xFFFFFFFF)] 1, .num, 15, false⟩,
  ⟨0x6040, 64, 0x06, 1, .u 2, 0x1111, 0, .ivs [(0, 65535)] 1, .num, 15, false⟩,
  ⟨0x6040, 64, 0x07, 1, .u 8, 0x1111, 0, .ivs [(0, 0xFFFFFFFFFFFFFFFF)] 1, .num, 15, false⟩,
  ⟨0x6040, 64, 0x08, 1, .i 2, 0x1111, (-32768), .ivs [(-32768, 32767)] 1, .num, 15, false⟩,
  ⟨0x6040, 64, 0x09, 1, .i 2, 0x1111, (-32768), .ivs [(-32768, 32767)] 1, .num, 15, false⟩,
  ⟨0x6040, 64, 0x0A, 1, .u 2, 0x1111, 0, .ivs [(0, 65535)] 1, .num, 15, false⟩,
  ⟨0x6080, 64, 0x00, 1, .u 1, 0x4444, 20, .ivs [(20, 20)] 1, .num, 15, false⟩,
  ⟨0x6080, 64, 0x01, 10, .u 8, 0x1111, 0, .ivs [(0, 0xFFFFFFFFFFFFFFFF)] 1, .num, 15, false⟩,
  ⟨0x6080, 64, 0x0B, 10, .u 4, 0x1111, 0, .ivs [(0, 0xFFFFFFFF)] 1, .num, 15, false⟩,
  ⟨0x60C0, 64, 0x00, 1, .u 1, 0x4444, 6, .ivs [(6, 6)] 1, .num, 10, false⟩,
  ⟨0x60C0, 64, 0x01, 1, .u 2, 0x1111, 1, .ivs [(1, 65535)] 1, .num, 10, false⟩,
  ⟨0x60C0, 64, 0x02, 1, .u 2, 0x0303, 0, .ivs [(0, 65535)] 1, .absent, 10, false⟩,
  ⟨0x60C0, 64, 0x03, 1, .u 4, 0x1111, 0, .ivs [(0, 0xFFFFFFFF)] 1, .num, 10, false⟩,
  ⟨0x60C0, 64, 0x04, 1, .u 4, 0x1111, 0, .ivs [(0, 0xFFFFFFFF)] 1, .num, 10, false⟩,
  ⟨0x60C0, 64, 0x05, 1, .u 4, 0x1101, 0, .ivs [(0, 0xFFFFFFFF)] 1, .num, 10, false⟩,
  ⟨0x60C0, 64, 0x06, 1, .u 8, 0x1101, 0, .ivs [(0, 0xFFFFFFFFFFFFFFFF)] 1, .num, 10, false⟩]

/-- Rows of 0x60xx. -/
def dict60 : List Row := dict60a ++ dict60b ++ dict60c

/-- Rows of 0x61xx (R572). -/
def dict61 : List Row := [
  ⟨0x6100, 1, 0x00, 1, .u 1, 0x4404, 7, .ivs [(7, 7)] 1, .num, 9, false⟩,
  ⟨0x6100, 1, 0x01, 1, .u 4, 0x1101, 0, .ivs [(0, 0xFFFFFFFF)] 1, .num, 9, false⟩,
  ⟨0x6100, 1, 0x02, 1, .dom 16 16 1, 0x1101, 0, .any, .absent, 9, false⟩,
  ⟨0x6100, 1, 0x03, 1, .u 4, 0x1202, 100000, .ivs [(0, 0), (1000, 100000000)] 1, .num, 9, true⟩,
  ⟨0x6100, 1, 0x04, 1, .u 4, 0x1101, 0, .ivs [(0, 0xFFFFFFFF)] 1, .num, 9, false⟩,
  ⟨0x6100, 1, 0x05, 1, .u 4, 0x1101, 0, .ivs [(0, 0xFFFFFFFF)] 1, .num, 9, false⟩,
  ⟨0x6100, 1, 0x06, 1, .dom 16 16 1, 0x1101, 0, .any, .absent, 9, false⟩,
  ⟨0x6100, 1, 0x07, 1, .u 1, 0x0300, 0, .ivs [(1, 1)] 1, .absent, 9, false⟩]

/-- Rows of 0x70xx (R369, R370). -/
def dict70a : List Row := [
  ⟨0x7000, 1, 0x00, 1, .u 1, 0x4404, 10, .ivs [(10, 10)] 1, .num, 17, false⟩,
  ⟨0x7000, 1, 0x01, 1, .u 1, 0x1202, 100, .ivs [(50, 100)] 1, .num, 17, true⟩,
  ⟨0x7000, 1, 0x02, 1, .u 4, 0x1202, 1000, .ivs [(1, 1000000)] 1, .num, 17, true⟩,
  ⟨0x7000, 1, 0x03, 1, .u 1, 0x1202, 10, .ivs [(0, 100)] 1, .num, 17, true⟩,
  ⟨0x7000, 1, 0x04, 1, .u 4, 0x1101, 0, .ivs [(0, 6553575)] 1, .num, 17, false⟩,
  ⟨0x7000, 1, 0x05, 1, .u 4, 0x1101, 0, .ivs [(0, 0xFFFFFFFF)] 1, .num, 17, false⟩,
  ⟨0x7000, 1, 0x06, 1, .u 8, 0x1101, 0, .ivs [(0, 0xFFFFFFFFFFFFFFFF)] 1, .num, 17, false⟩,
  ⟨0x7000, 1, 0x07, 1, .u 2, 0x1101, 0, .ivs [(0, 8192)] 1, .num, 17, false⟩,
  ⟨0x7000, 1, 0x08, 1, .u 1, 0x1202, 1, .ivs [(0, 1)] 1, .num, 17, true⟩,
  ⟨0x7000, 1, 0x09, 1, .u 2, 0x1202, 0, .ivs [(0, 40959)] 1, .num, 17, false⟩,
  ⟨0x7000, 1, 0x0A, 1, .dom 32 32 1, 0x1101, 0, .any, .absent, 17, false⟩,
  ⟨0x7001, 1, 0x00, 1, .u 1, 0x4404, 10, .ivs [(10, 10)] 1, .num, 17, false⟩,
  ⟨0x7001, 1, 0x01, 1, .u 8, 0x1101, 0, .ivs [(0, 0xFFFFFFFFFFFFFFFF)] 1, .num, 17, false⟩,
  ⟨0x7001, 1, 0x02, 1, .u 8, 0x1101, 0, .ivs [(0, 0xFFFFFFFFFFFFFFFF)] 1, .num, 17, false⟩,
  ⟨0x7001, 1, 0x03, 1, .u 8, 0x1101, 0, .ivs [(0, 0xFFFFFFFFFFFFFFFF)] 1, .num, 17, false⟩,
  ⟨0x7001, 1, 0x04, 1, .u 8, 0x1101, 0, .ivs [(0, 0xFFFFFFFFFFFFFFFF)] 1, .num, 17, false⟩,
  ⟨0x7001, 1, 0x05, 1, .u 4, 0x1101, 0, .ivs [(0, 0xFFFFFFFF)] 1, .num, 17, false⟩,
  ⟨0x7001, 1, 0x06, 1, .u 4, 0x1101, 0, .ivs [(0, 0xFFFFFFFF)] 1, .num, 17, false⟩,
  ⟨0x7001, 1, 0x07, 1, .u 8, 0x1101, 0, .ivs [(0, 0xFFFFFFFFFFFFFFFF)] 1, .num, 17, false⟩,
  ⟨0x7001, 1, 0x08, 1, .u 8, 0x1101, 0, .ivs [(0, 0xFFFFFFFFFFFFFFFF)] 1, .num, 17, false⟩,
  ⟨0x7001, 1, 0x09, 1, .u 4, 0x1101, 0, .ivs [(0, 0xFFFFFFFF)] 1, .num, 17, false⟩,
  ⟨0x7001, 1, 0x0A, 1, .u 4, 0x1101, 0, .ivs [(0, 0xFFFFFFFF)] 1, .num, 17, false⟩,
  ⟨0x7002, 1, 0x00, 1, .u 1, 0x4404, 4, .ivs [(4, 4)] 1, .num, 17, false⟩,
  ⟨0x7002, 1, 0x01, 4, .u 4, 0x1101, 0, .ivs [(0, 0xFFFFFFFF)] 1, .num, 17, false⟩,
  ⟨0x7040, 64, 0x00, 1, .u 1, 0x4444, 14, .ivs [(14, 14)] 1, .num, 17, false⟩,
  ⟨0x7040, 64, 0x01, 1, .u 2, 0x1212, 50, .ivs [(0, 65535)] 1, .num, 17, false⟩,
  ⟨0x7040, 64, 0x02, 1, .u 4, 0x1212, 0, .ivs [(0, 0), (1, 1000000)] 1, .num, 17, false⟩,
  ⟨0x7040, 64, 0x03, 1, .u 2, 0x1212, 256, .ivs [(0, 8192)] 1, .num, 17, false⟩,
  ⟨0x7040, 64, 0x04, 1, .u 2, 0x1111, 0, .ivs [(0, 40960)] 1, .num, 17, false⟩,
  ⟨0x7040, 64, 0x05, 1, .u 4, 0x1111, 0, .ivs [(0, 0xFFFFFFFF)] 1, .num, 17, false⟩]

/-- Rows of 0x70xx (R369, R370). -/
def dict70b : List Row := [
  ⟨0x7040, 64, 0x06, 1, .u 2, 0x1111, 0, .ivs [(0, 8192)] 1, .num, 17, false⟩,
  ⟨0x7040, 64, 0x07, 1, .u 2, 0x1111, 0, .ivs [(0, 8192)] 1, .num, 17, false⟩,
  ⟨0x7040, 64, 0x08, 1, .u 8, 0x1111, 0, .ivs [(0, 0xFFFFFFFFFFFFFFFF)] 1, .num, 17, false⟩,
  ⟨0x7040, 64, 0x09, 1, .u 4, 0x1111, 0, .ivs [(0, 0xFFFFFFFF)] 1, .num, 17, false⟩,
  ⟨0x7040, 64, 0x0A, 1, .u 4, 0x1111, 0, .ivs [(0, 0xFFFFFFFF)] 1, .num, 17, false⟩,
  ⟨0x7040, 64, 0x0B, 1, .u 4, 0x1111, 0, .ivs [(0, 0xFFFFFFFF)] 1, .num, 17, false⟩,
  ⟨0x7040, 64, 0x0C, 1, .u 4, 0x1111, 0, .ivs [(0, 0xFFFFFFFF)] 1, .num, 17, false⟩,
  ⟨0x7040, 64, 0x0D, 1, .u 4, 0x1111, 0, .ivs [(0, 0xFFFFFFFF)] 1, .num, 17, false⟩,
  ⟨0x7040, 64, 0x0E, 1, .u 8, 0x1111, 0, .ivs [(0, 0xFFFFFFFFFFFFFFFF)] 1, .num, 17, false⟩]

/-- Rows of 0x70xx. -/
def dict70 : List Row := dict70a ++ dict70b

/-- Rows of 0x71xx (R371). -/
def dict71 : List Row := [
  ⟨0x7100, 1, 0x00, 1, .u 1, 0x4404, 10, .ivs [(10, 10)] 1, .num, 18, false⟩,
  ⟨0x7100, 1, 0x01, 1, .u 1, 0x1202, 1, .ivs [(0, 1)] 1, .num, 18, true⟩,
  ⟨0x7100, 1, 0x02, 1, .u 2, 0x1202, 45, .ivs [(1, 1000)] 1, .num, 18, true⟩,
  ⟨0x7100, 1, 0x03, 1, .u 2, 0x1202, 400, .ivs [(10, 10000)] 1, .num, 18, true⟩,
  ⟨0x7100, 1, 0x04, 1, .u 1, 0x1202, 8, .ivs [(1, 1), (2, 2), (4, 4), (8, 8), (16, 16)] 1, .num, 18, true⟩,
  ⟨0x7100, 1, 0x05, 1, .u 2, 0x1202, 32, .ivs [(2, 256)] 1, .num, 18, true⟩,
  ⟨0x7100, 1, 0x06, 1, .u 1, 0x1202, 8, .ivs [(1, 1), (2, 2), (4, 4), (8, 8), (16, 16)] 1, .num, 18, true⟩,
  ⟨0x7100, 1, 0x07, 1, .u 2, 0x1202, 500, .ivs [(10, 10000)] 1, .num, 18, true⟩,
  ⟨0x7100, 1, 0x08, 1, .u 1, 0x1202, 0, .ivs [(0, 1)] 1, .num, 18, true⟩,
  ⟨0x7100, 1, 0x09, 1, .u 4, 0x1202, 0, .ivs [(0, 0), (1, 1000000)] 1, .num, 18, true⟩,
  ⟨0x7100, 1, 0x0A, 1, .u 1, 0x1202, 1, .ivs [(0, 1)] 1, .num, 18, true⟩,
  ⟨0x7101, 1, 0x00, 1, .u 1, 0x4404, 8, .ivs [(8, 8)] 1, .num, 18, false⟩,
  ⟨0x7101, 1, 0x01, 1, .u 8, 0x1101, 0, .ivs [(0, 0xFFFFFFFFFFFFFFFF)] 1, .num, 18, false⟩,
  ⟨0x7101, 1, 0x02, 1, .u 8, 0x1101, 0, .ivs [(0, 0xFFFFFFFFFFFFFFFF)] 1, .num, 18, false⟩,
  ⟨0x7101, 1, 0x03, 1, .u 8, 0x1101, 0, .ivs [(0, 0xFFFFFFFFFFFFFFFF)] 1, .num, 18, false⟩,
  ⟨0x7101, 1, 0x04, 1, .u 4, 0x1101, 0, .ivs [(0, 0xFFFFFFFF)] 1, .num, 18, false⟩,
  ⟨0x7101, 1, 0x05, 1, .u 8, 0x1101, 0, .ivs [(0, 0xFFFFFFFFFFFFFFFF)] 1, .num, 18, false⟩,
  ⟨0x7101, 1, 0x06, 1, .u 4, 0x1101, 0, .ivs [(0, 0xFFFFFFFF)] 1, .num, 18, false⟩,
  ⟨0x7101, 1, 0x07, 1, .u 4, 0x1101, 0, .ivs [(0, 0xFFFFFFFF)] 1, .num, 18, false⟩,
  ⟨0x7101, 1, 0x08, 1, .u 4, 0x1101, 0, .ivs [(0, 0xFFFFFFFF)] 1, .num, 18, false⟩,
  ⟨0x7102, 1, 0x00, 1, .u 1, 0x4404, 5, .ivs [(5, 5)] 1, .num, 18, false⟩,
  ⟨0x7102, 1, 0x01, 1, .u 4, 0x1202, 0, .mask 0x1FE, .num, 18, true⟩,
  ⟨0x7102, 1, 0x02, 1, .u 2, 0x1101, 1, .ivs [(1, 65535)] 1, .num, 18, false⟩,
  ⟨0x7102, 1, 0x03, 1, .u 4, 0x1101, 0, .ivs [(0, 0xFFFFFFFF)] 1, .num, 18, false⟩,
  ⟨0x7102, 1, 0x04, 1, .u 1, 0x0303, 0, .ivs [(1, 1)] 1, .absent, 18, false⟩,
  ⟨0x7102, 1, 0x05, 1, .u 4, 0x1101, 0, .ivs [(0, 0xFFFFFFFF)] 1, .num, 18, false⟩,
  ⟨0x7103, 1, 0x00, 1, .u 1, 0x4404, 4, .ivs [(4, 4)] 1, .num, 18, false⟩,
  ⟨0x7103, 1, 0x01, 4, .u 4, 0x1101, 0, .ivs [(0, 0xFFFFFFFF)] 1, .num, 18, false⟩]

/-- Rows of 0x80xx (R257). -/
def dict80a : List Row := [
  ⟨0x8000, 1, 0x00, 1, .u 1, 0x4404, 8, .ivs [(8, 8)] 1, .num, 16, false⟩,
  ⟨0x8000, 1, 0x01, 1, .u 1, 0x1202, 0, .mask 0x3F, .num, 16, true⟩,
  ⟨0x8000, 1, 0x02, 1, .u 4, 0x1202, 30000, .ivs [(64, 4194303)] 1, .num, 16, true⟩,
  ⟨0x8000, 1, 0x03, 1, .u 4, 0x1101, 0, .ivs [(0, 1500000)] 1, .num, 16, false⟩,
  ⟨0x8000, 1, 0x04, 1, .u 2, 0x1202, 500, .ivs [(10, 10000)] 1, .num, 16, true⟩,
  ⟨0x8000, 1, 0x05, 1, .u 1, 0x1202, 0, .ivs [(0, 255)] 1, .num, 16, true⟩,
  ⟨0x8000, 1, 0x06, 1, .u 1, 0x1202, 4, .ivs [(1, 64)] 1, .num, 16, true⟩,
  ⟨0x8000, 1, 0x07, 1, .u 2, 0x1202, 2000, .ivs [(0, 2000)] 1, .num, 16, true⟩,
  ⟨0x8000, 1, 0x08, 1, .u 2, 0x1101, 0, .ivs [(0, 65535)] 1, .num, 16, false⟩,
  ⟨0x8010, 1, 0x00, 1, .u 1, 0x4404, 8, .ivs [(8, 8)] 1, .num, 16, false⟩,
  ⟨0x8010, 1, 0x01, 1, .u 8, 0x1202, 0, .ivs [(0, 0xFFFFFFFFFFFFFFFF)] 4096, .num, 16, false⟩,
  ⟨0x8010, 1, 0x02, 1, .u 1, 0x1202, 0, .ivs [(0, 15)] 1, .num, 16, false⟩,
  ⟨0x8010, 1, 0x03, 1, .u 8, 0x1202, 0, .mask 0x1FFFFFFFF, .num, 16, false⟩,
  ⟨0x8010, 1, 0x04, 1, .u 1, 0x0303, 0, .ivs [(1, 1)] 1, .absent, 16, false⟩,
  ⟨0x8010, 1, 0x05, 1, .u 1, 0x1101, 0, .ivs [(0, 3)] 1, .num, 16, false⟩,
  ⟨0x8010, 1, 0x06, 1, .u 1, 0x1101, 0, .ivs [(0, 7)] 1, .num, 16, false⟩,
  ⟨0x8010, 1, 0x07, 1, .u 1, 0x1202, 15, .ivs [(1, 15)] 1, .num, 16, false⟩,
  ⟨0x8010, 1, 0x08, 1, .u 1, 0x1101, 0, .ivs [(0, 33)] 1, .num, 16, false⟩,
  ⟨0x8020, 16, 0x00, 1, .u 1, 0x4404, 11, .ivs [(11, 11)] 1, .num, 16, false⟩,
  ⟨0x8020, 16, 0x01, 1, .u 2, 0x1202, 0, .ivs [(0, 65535)] 1, .num, 16, false⟩,
  ⟨0x8020, 16, 0x02, 1, .u 1, 0x1202, 0, .ivs [(0, 1)] 1, .num, 16, false⟩,
  ⟨0x8020, 16, 0x03, 1, .u 4, 0x1101, 0, .ivs [(0, 65536)] 1, .num, 16, false⟩,
  ⟨0x8020, 16, 0x04, 1, .u 4, 0x1101, 0, .ivs [(0, 0xFFFFFFFF)] 1, .num, 16, false⟩,
  ⟨0x8020, 16, 0x05, 1, .dom 0 33 1, 0x1101, 0, .any, .bytes, 16, false⟩,
  ⟨0x8020, 16, 0x06, 1, .dom 0 33 1, 0x1101, 0, .any, .bytes, 16, false⟩,
  ⟨0x8020, 16, 0x07, 1, .u 1, 0x0303, 0, .ivs [(1, 1)] 1, .absent, 16, false⟩,
  ⟨0x8020, 16, 0x08, 1, .u 1, 0x0303, 0, .ivs [(1, 1)] 1, .absent, 16, false⟩,
  ⟨0x8020, 16, 0x09, 1, .u 8, 0x1101, 0, .ivs [(0, 0xFFFFFFFFFFFFFFFF)] 1, .num, 16, false⟩,
  ⟨0x8020, 16, 0x0A, 1, .u 4, 0x1101, 0, .ivs [(0, 0xFFFFFFFF)] 1, .num, 16, false⟩,
  ⟨0x8020, 16, 0x0B, 1, .u 8, 0x1101, 0, .ivs [(0, 0xFFFFFFFFFFFFFFFF)] 1, .num, 16, false⟩]

/-- Rows of 0x80xx (R257). -/
def dict80b : List Row := [
  ⟨0x8030, 1, 0x00, 1, .u 1, 0x4404, 2, .ivs [(2, 2)] 1, .num, 16, false⟩,
  ⟨0x8030, 1, 0x01, 1, .u 1, 0x1101, 128, .ivs [(0, 128)] 1, .num, 16, false⟩,
  ⟨0x8030, 1, 0x02, 1, .dom 16 16 1, 0x1101, 0, .any, .bytes, 16, false⟩,
  ⟨0x8040, 1, 0x00, 1, .u 1, 0x4404, 19, .ivs [(19, 19)] 1, .num, 16, false⟩,
  ⟨0x8040, 1, 0x01, 1, .u 8, 0x1101, 0, .ivs [(0, 0xFFFFFFFFFFFFFFFF)] 1, .num, 16, false⟩,
  ⟨0x8040, 1, 0x02, 1, .u 4, 0x1101, 0, .ivs [(0, 0xFFFFFFFF)] 1, .num, 16, false⟩,
  ⟨0x8040, 1, 0x03, 1, .u 4, 0x1101, 0, .ivs [(0, 0xFFFFFFFF)] 1, .num, 16, false⟩,
  ⟨0x8040, 1, 0x04, 1, .u 4, 0x1101, 0, .ivs [(0, 0xFFFFFFFF)] 1, .num, 16, false⟩,
  ⟨0x8040, 1, 0x05, 1, .u 4, 0x1101, 0, .ivs [(0, 0xFFFFFFFF)] 1, .num, 16, false⟩,
  ⟨0x8040, 1, 0x06, 1, .u 8, 0x1101, 0, .ivs [(0, 0xFFFFFFFFFFFFFFFF)] 1, .num, 16, false⟩,
  ⟨0x8040, 1, 0x07, 1, .u 4, 0x1101, 0, .ivs [(0, 0xFFFFFFFF)] 1, .num, 16, false⟩,
  ⟨0x8040, 1, 0x08, 1, .u 4, 0x1101, 0, .ivs [(0, 0xFFFFFFFF)] 1, .num, 16, false⟩,
  ⟨0x8040, 1, 0x09, 1, .u 4, 0x1101, 0, .ivs [(0, 0xFFFFFFFF)] 1, .num, 16, false⟩,
  ⟨0x8040, 1, 0x0A, 1, .u 4, 0x1101, 0, .ivs [(0, 0xFFFFFFFF)] 1, .num, 16, false⟩,
  ⟨0x8040, 1, 0x0B, 1, .u 4, 0x1101, 0, .ivs [(0, 0xFFFFFFFF)] 1, .num, 16, false⟩,
  ⟨0x8040, 1, 0x0C, 1, .u 4, 0x1101, 0, .ivs [(0, 0xFFFFFFFF)] 1, .num, 16, false⟩,
  ⟨0x8040, 1, 0x0D, 1, .u 4, 0x1101, 0, .ivs [(0, 0xFFFFFFFF)] 1, .num, 16, false⟩,
  ⟨0x8040, 1, 0x0E, 6, .u 4, 0x1101, 0, .ivs [(0, 0xFFFFFFFF)] 1, .num, 16, false⟩]

/-- Rows of 0x80xx. -/
def dict80 : List Row := dict80a ++ dict80b

/-- Rows of 0x81xx (R257). -/
def dict81 : List Row := [
  ⟨0x8100, 6, 0x00, 1, .u 1, 0x4404, 11, .ivs [(11, 11)] 1, .num, 16, false⟩,
  ⟨0x8100, 6, 0x01, 1, .u 2, 0x1202, 20000, .ivs [(0, 20000)] 1, .num, 16, true⟩,
  ⟨0x8100, 6, 0x02, 1, .u 1, 0x1202, 1, .ivs [(0, 4)] 1, .num, 16, true⟩,
  ⟨0x8100, 6, 0x03, 1, .uq 0 16, 0x1202, 0, .ivs [(0, 65535)] 1, .num, 16, true⟩,
  ⟨0x8100, 6, 0x04, 1, .u 2, 0x1202, 250, .ivs [(0, 2000)] 1, .num, 16, true⟩,
  ⟨0x8100, 6, 0x05, 1, .u 1, 0x1202, 16, .ivs [(1, 64)] 1, .num, 16, true⟩,
  ⟨0x8100, 6, 0x06, 1, .u 1, 0x1101, 0, .ivs [(0, 1)] 1, .num, 16, false⟩,
  ⟨0x8100, 6, 0x07, 1, .u 2, 0x1101, 0, .ivs [(0, 40959)] 1, .num, 16, false⟩,
  ⟨0x8100, 6, 0x08, 1, .u 2, 0x1101, 0, .ivs [(0, 40959)] 1, .num, 16, false⟩,
  ⟨0x8100, 6, 0x09, 1, .u 1, 0x1101, 0, .ivs [(0, 12)] 1, .num, 16, false⟩,
  ⟨0x8100, 6, 0x0A, 1, .u 2, 0x1101, 0, .ivs [(0, 0), (200, 2000)] 1, .num, 16, false⟩,
  ⟨0x8100, 6, 0x0B, 1, .u 4, 0x1101, 0, .ivs [(0, 0xFFFFFFFF)] 1, .num, 16, false⟩]

/-- Rows of 0x90xx (R506). -/
def dict90a : List Row := [
  ⟨0x9000, 1, 0x00, 1, .u 1, 0x4404, 7, .ivs [(7, 7)] 1, .num, 11, false⟩,
  ⟨0x9000, 1, 0x01, 1, .u 8, 0x1101, 0, .ivs [(0, 0xFFFFFFFFFFFFFFFF)] 1, .num, 11, false⟩,
  ⟨0x9000, 1, 0x02, 1, .u 8, 0x1101, 0, .ivs [(0, 0xFFFFFFFFFFFFFFFF)] 1, .num, 11, false⟩,
  ⟨0x9000, 1, 0x03, 1, .u 4, 0x1101, 0, .ivs [(0, 0xFFFFFFFF)] 1, .num, 11, false⟩,
  ⟨0x9000, 1, 0x04, 1, .u 8, 0x1101, 0, .ivs [(0, 0xFFFFFFFFFFFFFFFF)] 1, .num, 11, false⟩,
  ⟨0x9000, 1, 0x05, 1, .u 4, 0x1101, 0, .ivs [(0, 0xFFFFFFFF)] 1, .num, 11, false⟩,
  ⟨0x9000, 1, 0x06, 1, .u 4, 0x1101, 0, .ivs [(0, 0xFFFFFFFF)] 1, .num, 11, false⟩,
  ⟨0x9000, 1, 0x07, 1, .u 2, 0x1101, 0, .ivs [(0, 512)] 1, .num, 11, false⟩,
  ⟨0x9001, 1, 0x00, 1, .u 1, 0x4444, 3, .ivs [(3, 3)] 1, .num, 0, false⟩,
  ⟨0x9001, 1, 0x01, 1, .dom 12 12 1, 0x1212, 0, .any, .absent, 0, false⟩,
  ⟨0x9001, 1, 0x02, 1, .u 1, 0x1111, 0, .ivs [(0, 1)] 1, .num, 0, false⟩,
  ⟨0x9001, 1, 0x03, 1, .u 4, 0x1101, 0, .ivs [(0, 0xFFFFFFFF)] 1, .num, 0, false⟩,
  ⟨0x9002, 1, 0x00, 1, .u 1, 0x4404, 8, .ivs [(8, 8)] 1, .num, 3, false⟩,
  ⟨0x9002, 1, 0x01, 1, .dom 128 128 1, 0x1202, 0, .any, .boot, 3, false⟩,
  ⟨0x9002, 1, 0x02, 1, .u 1, 0x1101, 0, .ivs [(0, 3)] 1, .num, 3, false⟩,
  ⟨0x9002, 1, 0x03, 1, .dom 32 32 1, 0x1101, 0, .any, .absent, 3, false⟩,
  ⟨0x9002, 1, 0x04, 1, .u 4, 0x1101, 0, .ivs [(0, 0xFFFFFFFF)] 1, .num, 3, false⟩,
  ⟨0x9002, 1, 0x05, 1, .u 1, 0x1101, 0, .ivs [(0, 2)] 1, .num, 3, false⟩,
  ⟨0x9002, 1, 0x06, 1, .u 4, 0x0300, 0, .ivs [(1835888483, 1835888483)] 1, .absent, 3, false⟩,
  ⟨0x9002, 1, 0x07, 1, .u 4, 0x1101, 0, .ivs [(0, 0xFFFFFFFF)] 1, .num, 3, false⟩,
  ⟨0x9002, 1, 0x08, 1, .u 4, 0x1101, 0, .ivs [(0, 0xFFFFFFFF)] 1, .num, 3, false⟩,
  ⟨0x9003, 1, 0x00, 1, .u 1, 0x4404, 3, .ivs [(3, 3)] 1, .num, 11, false⟩,
  ⟨0x9003, 1, 0x01, 3, .u 4, 0x1101, 0, .ivs [(0, 0xFFFFFFFF)] 1, .num, 11, false⟩,
  ⟨0x9010, 1, 0x00, 1, .u 1, 0x0400, 6, .ivs [(6, 6)] 1, .num, 11, false⟩,
  ⟨0x9010, 1, 0x01, 1, .u 1, 0x0200, 0, .ivs [(0, 65)] 1, .num, 11, false⟩,
  ⟨0x9010, 1, 0x02, 1, .u 4, 0x0200, 1, .ivs [(1, 0xFFFFFFFF)] 1, .num, 11, false⟩,
  ⟨0x9010, 1, 0x03, 1, .u 1, 0x0200, 0, .ivs [(0, 4)] 1, .num, 11, false⟩,
  ⟨0x9010, 1, 0x04, 1, .dom 32 32 1, 0x0100, 0, .any, .absent, 11, false⟩,
  ⟨0x9010, 1, 0x05, 1, .u 4, 0x0100, 0, .ivs [(0, 0xFFFFFFFF)] 1, .num, 11, false⟩,
  ⟨0x9010, 1, 0x06, 1, .u 2, 0x0200, 0, .ivs [(0, 0), (1, 65535)] 1, .num, 11, false⟩]

/-- Rows of 0x90xx (R506). -/
def dict90b : List Row := [
  ⟨0x9011, 1, 0x00, 1, .u 1, 0x4000, 6, .ivs [(6, 6)] 1, .num, 11, false⟩,
  ⟨0x9011, 1, 0x01, 1, .u 1, 0x2000, 0, .ivs [(0, 65)] 1, .num, 11, false⟩,
  ⟨0x9011, 1, 0x02, 1, .u 4, 0x2000, 1, .ivs [(1, 0xFFFFFFFF)] 1, .num, 11, false⟩,
  ⟨0x9011, 1, 0x03, 1, .u 1, 0x2000, 0, .ivs [(0, 4)] 1, .num, 11, false⟩,
  ⟨0x9011, 1, 0x04, 1, .dom 32 32 1, 0x1000, 0, .any, .absent, 11, false⟩,
  ⟨0x9011, 1, 0x05, 1, .u 4, 0x1000, 0, .ivs [(0, 0xFFFFFFFF)] 1, .num, 11, false⟩,
  ⟨0x9011, 1, 0x06, 1, .u 2, 0x2000, 0, .ivs [(0, 0), (1, 65535)] 1, .num, 11, false⟩]

/-- Rows of 0x90xx. -/
def dict90 : List Row := dict90a ++ dict90b

/-- Rows of 0x91xx (R530). -/
def dict91a : List Row := [
  ⟨0x9100, 1, 0x00, 1, .u 1, 0x4404, 14, .ivs [(14, 14)] 1, .num, 20, false⟩,
  ⟨0x9100, 1, 0x01, 1, .u 2, 0x1202, 0, .mask 0x7FFE, .num, 20, false⟩,
  ⟨0x9100, 1, 0x02, 1, .u 1, 0x1202, 0, .ivs [(0, 1)] 1, .num, 20, false⟩,
  ⟨0x9100, 1, 0x03, 1, .u 4, 0x1202, 16384, .ivs [(16, 131072)] 16, .num, 20, false⟩,
  ⟨0x9100, 1, 0x04, 1, .u 2, 0x1202, 64, .ivs [(1, 65535)] 1, .num, 20, false⟩,
  ⟨0x9100, 1, 0x05, 1, .u 1, 0x1202, 0, .ivs [(0, 5)] 1, .num, 20, false⟩,
  ⟨0x9100, 1, 0x06, 1, .u 8, 0x1202, 0, .ivs [(0, 0xFFFFFFFFFFFFFFFF)] 1, .num, 20, false⟩,
  ⟨0x9100, 1, 0x07, 1, .u 4, 0x1202, 4294967295, .ivs [(0, 0xFFFFFFFF)] 1, .num, 20, false⟩,
  ⟨0x9100, 1, 0x08, 1, .u 2, 0x1202, 1, .ivs [(1, 65535)] 1, .num, 20, false⟩,
  ⟨0x9100, 1, 0x09, 1, .u 1, 0x1202, 0, .mask 0x1F, .num, 20, false⟩,
  ⟨0x9100, 1, 0x0A, 1, .u 1, 0x0303, 0, .ivs [(1, 4)] 1, .absent, 20, false⟩,
  ⟨0x9100, 1, 0x0B, 1, .u 1, 0x1101, 0, .ivs [(0, 3)] 1, .num, 20, false⟩,
  ⟨0x9100, 1, 0x0C, 1, .u 4, 0x1101, 0, .ivs [(0, 262144)] 1, .num, 20, false⟩,
  ⟨0x9100, 1, 0x0D, 1, .u 8, 0x1101, 0, .ivs [(0, 0xFFFFFFFFFFFFFFFF)] 1, .num, 20, false⟩,
  ⟨0x9100, 1, 0x0E, 1, .u 8, 0x1101, 0, .ivs [(0, 0xFFFFFFFFFFFFFFFF)] 1, .num, 20, false⟩,
  ⟨0x9110, 1, 0x00, 1, .u 1, 0x4404, 8, .ivs [(8, 8)] 1, .num, 20, false⟩,
  ⟨0x9110, 1, 0x01, 1, .u 1, 0x1202, 1, .ivs [(1, 3)] 1, .num, 20, false⟩,
  ⟨0x9110, 1, 0x02, 1, .u 1, 0x1202, 0, .ivs [(0, 2)] 1, .num, 20, false⟩,
  ⟨0x9110, 1, 0x03, 1, .u 2, 0x1202, 0, .ivs [(0, 65535)] 1, .num, 20, false⟩,
  ⟨0x9110, 1, 0x04, 1, .u 4, 0x1202, 0, .ivs [(0, 0xFFFFFFFF)] 1, .num, 20, false⟩,
  ⟨0x9110, 1, 0x05, 1, .u 2, 0x1202, 1, .ivs [(1, 65535)] 1, .num, 20, false⟩,
  ⟨0x9110, 1, 0x06, 1, .u 1, 0x1202, 0, .ivs [(0, 3)] 1, .num, 20, false⟩,
  ⟨0x9110, 1, 0x07, 1, .u 1, 0x0303, 0, .ivs [(1, 2)] 1, .absent, 20, false⟩,
  ⟨0x9110, 1, 0x08, 1, .u 1, 0x1101, 0, .ivs [(0, 3)] 1, .num, 20, false⟩,
  ⟨0x9120, 1, 0x00, 1, .u 1, 0x4404, 5, .ivs [(5, 5)] 1, .num, 20, false⟩,
  ⟨0x9120, 1, 0x01, 1, .u 1, 0x0303, 0, .ivs [(1, 1)] 1, .absent, 20, false⟩,
  ⟨0x9120, 1, 0x02, 1, .u 1, 0x1101, 0, .ivs [(0, 3)] 1, .num, 20, false⟩,
  ⟨0x9120, 1, 0x03, 1, .u 4, 0x1202, 100, .ivs [(0, 1000000)] 1, .num, 20, false⟩,
  ⟨0x9120, 1, 0x04, 1, .u 2, 0x1101, 0, .ivs [(0, 4088)] 1, .num, 20, false⟩,
  ⟨0x9120, 1, 0x05, 1, .u 2, 0x1101, 0, .ivs [(0, 4088)] 1, .num, 20, false⟩]

/-- Rows of 0x91xx (R530). -/
def dict91b : List Row := [
  ⟨0x9130, 1, 0x00, 1, .u 1, 0x4404, 5, .ivs [(5, 5)] 1, .num, 9, false⟩,
  ⟨0x9130, 1, 0x01, 5, .u 4, 0x1101, 0, .ivs [(0, 0xFFFFFFFF)] 1, .num, 9, false⟩]

/-- Rows of 0x91xx. -/
def dict91 : List Row := dict91a ++ dict91b

/-- Rows of 0xF0xx (R87). -/
def dictF0 : List Row := [
  ⟨0xF000, 1, 0x00, 1, .u 1, 0x1201, 0, .ivs [(0, 1)] 1, .num, 10, false⟩]

end Sys2Proof.Machine
end

