-- ==== Sys2Proof/Machine/Dict.lean ====
section
/-! DEFINITION. Looking an object up in the dictionary. -/

namespace Sys2Proof.Machine

/-- The rows of the indices that share their upper byte. -/
def dictPage (h : Nat) : List Row :=
  if h < 0x50 then
    if h < 0x26 then
      if h < 0x23 then
        if h < 0x21 then
          if h = 0x10 then dict10 else []
        else
          if h < 0x22 then
            if h = 0x21 then dict21 else []
          else
            if h = 0x22 then dict22 else []
      else
        if h < 0x24 then
          if h = 0x23 then dict23 else []
        else
          if h < 0x25 then
            if h = 0x24 then dict24 else []
          else
            if h = 0x25 then dict25 else []
    else
      if h < 0x32 then
        if h < 0x30 then
          if h = 0x26 then dict26 else []
        else
          if h < 0x31 then
            if h = 0x30 then dict30 else []
          else
            if h = 0x31 then dict31 else []
      else
        if h < 0x40 then
          if h < 0x33 then
            if h = 0x32 then dict32 else []
          else
            if h = 0x33 then dict33 else []
        else
          if h < 0x41 then
            if h = 0x40 then dict40 else []
          else
            if h = 0x41 then dict41 else []
  else
    if h < 0x70 then
      if h < 0x53 then
        if h < 0x51 then
          if h = 0x50 then dict50 else []
        else
          if h < 0x52 then
            if h = 0x51 then dict51 else []
          else
            if h = 0x52 then dict52 else []
      else
        if h < 0x60 then
          if h = 0x53 then dict53 else []
        else
          if h < 0x61 then
            if h = 0x60 then dict60 else []
          else
            if h = 0x61 then dict61 else []
    else
      if h < 0x81 then
        if h < 0x71 then
          if h = 0x70 then dict70 else []
        else
          if h < 0x80 then
            if h = 0x71 then dict71 else []
          else
            if h = 0x80 then dict80 else []
      else
        if h < 0x91 then
          if h < 0x90 then
            if h = 0x81 then dict81 else []
          else
            if h = 0x90 then dict90 else []
        else
          if h < 0xF0 then
            if h = 0x91 then dict91 else []
          else
            if h = 0xF0 then dictF0 else []

/-- The rows of one index. -/
def dictRows (i : Nat) : List Row :=
  (dictPage (i / 256)).filter (fun r => decide (r.i ≤ i) && decide (i < r.i + r.cnt))

/-- The row of an object. -/
def dictRow (i sub : Nat) : Option Row :=
  (dictPage (i / 256)).find? (fun r => decide (r.i ≤ i) && decide (i < r.i + r.cnt) &&
    decide (r.s ≤ sub) && decide (sub < r.s + r.n))

/-- The access code of a row for a requester class: 0 Op, 1 Ten, 2 Mgt, 3 Fw (R88, R113). -/
def Row.code (r : Row) (cls : Nat) : Nat := r.acc / 16 ^ cls % 16

end Sys2Proof.Machine
end

