-- ==== Sys2Proof/Machine/State.lean ====
section
/-! DEFINITION. The state of the block: every register, buffer, queue, mode and pin that the manual names, as plain
data, and the queue of waiting commands. -/

namespace Sys2Proof.Machine

open Sys2Proof

/-- The boot record in use, decoded (R62). -/
structure BootRec where
  /-- PH_MASK[k], phases of controller k (03 R62). -/
  phMask : List Nat := []
  /-- SETPOINT[k] in mV, 0 unused (03 R62). -/
  setpoint : List Nat := []
  /-- FSW[k] in kHz (03 R62). -/
  fsw : List Nat := []
  /-- GROUP[k] (03 R62). -/
  group : List Nat := []
  /-- RAIL_ID[k] (03 R62). -/
  railId : List Nat := []
  /-- SHIM_SET in mV, 0 selects bypass (03 R62). -/
  shimSet : Nat := 0
  /-- KERF_OFS in 4 mV steps (03 R62). -/
  kerfOfs : Nat := 0
  /-- GDELAY[g] in 10 us (03 R62). -/
  gdelay : List Nat := []
  /-- GMODE[g], 0 coincident, 1 ratiometric (03 R62). -/
  gmode : List Nat := []
  /-- GSLEW[g] in 0.1 mV/us (03 R62). -/
  gslew : List Nat := []
  deriving DecidableEq, Repr

/-- Always-on island, bring-up sequencer and sideband pins. -/
structure Aon where
  /-- VDD_AON within its limits (02 R49, 03 R56). -/
  vddAon : Bool := true
  /-- POR_N pin (02 R21). -/
  porN : Bool := false
  /-- HOST_RST_N pin (02 R21, 03 R54). -/
  hostRstN : Bool := true
  /-- CTL cycles (2.5 ns, a quarter tick) since POR_N rose (00 R13, 03 R54). -/
  clock : Nat := 0
  /-- straps latched (02 R30). -/
  strapsLatched : Bool := false
  /-- latched STRAP_ROOT (02 R30, R33). -/
  strapRoot : Bool := false
  /-- latched STRAP_SMB (02 R30, R33). -/
  strapSmb : Nat := 0
  /-- latched STRAP_BOOT as wired (0b11 handled as 0b01) (02 R30, R33). -/
  strapBoot : Nat := 0
  /-- XTAL_OK (02 R33). -/
  xtalOk : Bool := false
  /-- REF100_OK (02 R33). -/
  ref100Ok : Bool := false
  /-- REF_SEL (02 R33). -/
  refSel : Bool := false
  /-- CTL PLL source: 0 none, 1 reference, 2 RC oscillator (02 R44, 03 R54). -/
  ctlSource : Nat := 0
  /-- STRAPS.STEP_OVF, W1C (02 R33). -/
  stepOvf : Bool := false
  /-- STEP_OVF_CNT (02 R33). -/
  stepOvfCnt : Nat := 0
  /-- STRAPS.BAR_EARLY, W1C (02 R33). -/
  barEarly : Bool := false
  /-- BAR_EARLY_CNT (02 R33). -/
  barEarlyCnt : Nat := 0
  /-- THR_IN_ACT (02 R33, R46). -/
  thrInAct : Bool := false
  /-- STOP_IN_ACT (02 R33). -/
  stopInAct : Bool := false
  /-- THERMTRIP_N latch and pin (02 R47, 03 R56). -/
  thermtripN : Bool := true
  /-- FQ_IRQ pin (02 R49 table). -/
  fqIrq : Bool := false
  /-- FQ_NMI pin (02 R49 table). -/
  fqNmi : Bool := false
  /-- STOP_REQ_OUT pin (02 table, 18 R523). -/
  stopReqOut : Bool := false
  /-- XSPI_RST_N pin (02 R29). -/
  xspiRstN : Bool := false
  /-- clock at which XSPI_RST_N rose (02 R29). -/
  flashWaitFrom : Option Nat := none
  /-- step 1a reads in progress (03 R59). -/
  bootReading : Bool := false
  /-- CTL island released (02 R20, 03 R54). -/
  ctlReleased : Bool := false
  /-- ENG island released (02 R20, 03 R54). -/
  engReleased : Bool := false
  /-- ENG released on the CTL clock (03 R55). -/
  engOnCtl : Bool := false
  /-- FAB island released (02 R20, 03 R54). -/
  fabReleased : Bool := false
  /-- STP island released (02 R20, 03 R54). -/
  stpReleased : Bool := false
  /-- clock at which SRAM reached power-good (03 R54). -/
  sramPgAt : Option Nat := none
  /-- the boot record in use (03 R62). -/
  bootRec : Option BootRec := none
  /-- clock at which step 2 began (03 R59, R64). -/
  step2At : Option Nat := none
  /-- tracking group whose turn it is (4 when all are done) (03 R64). -/
  curGroup : Nat := 0
  /-- clock at which the present group's GDELAY runs out (03 R64). -/
  groupDelayAt : Option Nat := none
  /-- clock at which the present group's ramp began (03 R67). -/
  groupRampAt : Option Nat := none
  /-- clock at which step 3 began (03 R59). -/
  step3At : Option Nat := none
  /-- CHAIN ready or its limit expired (03 R59). -/
  step3Done : Bool := false
  /-- early event buffer (03 R60). -/
  earlyBuf : List Event := []
  /-- early buffer overflow count (03 R60). -/
  earlyLost : Nat := 0
  /-- READY mask (03 R80). -/
  ready : Nat := 0
  /-- readiness stamps in ticks (03 R81). -/
  stamps : List Nat := (List.replicate 21 0)
  /-- CHANGE_CNT (03 R80). -/
  changeCnt : Nat := 0
  /-- CLK_EN (03 R77). -/
  clkEn : Nat := 1
  /-- CLK_EN bits whose block is being gated (03 R79). -/
  gating : List Nat := []
  /-- IMG_ADDR.STAGE_ADDR (bits 47:12) (03 R69). -/
  stageAddr : Nat := 0
  /-- IMG_CTRL.SLOT (03 R70). -/
  imgSlot : Nat := 0
  /-- IMG_CTRL.LEN (03 R70). -/
  imgLenReg : Nat := 0
  /-- IMG_STATUS.STATE (03 R71). -/
  imgState : Nat := 0
  /-- IMG_STATUS.SLOT_USED (03 R71). -/
  slotUsed : Nat := 0
  /-- IMG_STATUS.FETCH_ERR (03 R71). -/
  fetchErr : Bool := false
  /-- IMG_STATUS.MISMATCH (03 R71). -/
  mismatch : Bool := false
  /-- IMG_STATUS.REJECTED (03 R71). -/
  imgRejected : Bool := false
  /-- IMG_STATUS.LEN (03 R71). -/
  imgLen : Nat := 0
  /-- IMG_STATUS.CRC (03 R71). -/
  imgCrc : Nat := 0
  /-- the other slot has been staged after a REJECT (03 R73). -/
  imgOtherTried : Bool := false
  deriving DecidableEq, Repr

/-- The Cut List's stored values; an unlisted key reads its dictionary default. -/
structure Obj where
  /-- numeric values, key index*256+subindex, keys strictly rising (04 R91, R98). -/
  nums : List (Nat × Int) := []
  /-- STRING and DOMAIN values, same keys, strictly rising (04 R91). -/
  doms : List (Nat × List Byte) := []
  deriving DecidableEq, Repr

/-- A Cut List request passed elsewhere and not yet answered. -/
structure ClPend where
  /-- opcode (1 READ, 3 WRITE, 6 DESCRIBE) (04 R111). -/
  op : Nat := 0
  /-- index (04 R110). -/
  idx : Nat := 0
  /-- subindex (04 R110). -/
  sub : Nat := 0
  /-- whole value of a write (04 R112). -/
  val : List Byte := []
  /-- class 0 Op, 1 Ten, 2 Mgt, 3 Fw (05 R145). -/
  cls : Nat := 0
  /-- partition of the requester (05 R145). -/
  part : Nat := 0
  /-- agreed level (05 R145). -/
  level : Nat := 0
  /-- what it waits for: 0 firmware, 1 a node, 2 the end of a stop, 3 the root's acceptance of a BUD_REQ, 4 the marks of a re-arm, 5 a regulator's acknowledgement (04 R116, 05 R146). -/
  why : Nat := 0
  /-- node asked (04 R114). -/
  node : Nat := 0
  /-- originating node of a chain request (05 R146). -/
  src : Nat := 0
  /-- tag of the chain request (05 R145). -/
  tag : Nat := 0
  /-- clock at which the wait began (04 R116). -/
  since : Nat := 0
  /-- REQ word of a request that waits for its turn (04 R110). -/
  req : Nat := 0
  deriving DecidableEq, Repr

/-- One channel of the Cut List engine: a mailbox slot, the management port, the chain, firmware or a jig. -/
structure ClChan where
  /-- agreed level (04 R105). -/
  level : Nat := 0x0100
  /-- requested level (04 R106). -/
  reqLevel : Nat := 0x0100
  /-- REQ register (04 R110). -/
  req : Nat := 0
  /-- DATA (04 R110). -/
  data : List Byte := (List.replicate 48 0)
  /-- STATUS.STATE (04 R110). -/
  state : Nat := 0
  /-- STATUS.SEQ (04 R110). -/
  seq : Nat := 0
  /-- STATUS.ABORT (04 R110). -/
  abort : Nat := 0
  /-- STATUS.SEG_LEN (04 R110). -/
  segLen : Nat := 0
  /-- STATUS.MORE (04 R110). -/
  more : Bool := false
  /-- STATUS.TOTAL (04 R110). -/
  total : Nat := 0
  /-- STATUS.DONE_CNT (04 R110). -/
  doneCnt : Nat := 0
  /-- open transfer: 0 none, 1 read, 2 write (04 R112). -/
  openDir : Nat := 0
  /-- index of the open transfer (04 R112). -/
  openIdx : Nat := 0
  /-- subindex of the open transfer (04 R112). -/
  openSub : Nat := 0
  /-- node of the open transfer (04 R112). -/
  openNode : Nat := 0
  /-- read snapshot or bytes of the open write (04 R112). -/
  openBuf : List Byte := []
  /-- bytes of the snapshot already returned (04 R112). -/
  openPos : Nat := 0
  /-- clock of the last segment (04 R112). -/
  openAt : Nat := 0
  /-- request waiting elsewhere (04 R116). -/
  pend : Option ClPend := none
  deriving DecidableEq, Repr

/-- The Cut List engine. -/
structure ClEng where
  /-- mailbox slots (04 R109). -/
  slots : List ClChan := (List.replicate 64 {})
  /-- the management port channel (04 R105). -/
  mgt : ClChan := {}
  /-- the firmware channel (04 R105). -/
  fw : ClChan := { level := 0x0200, reqLevel := 0x0200 }
  /-- the jig slots' places (04 R115). -/
  jig : List ClChan := (List.replicate 16 { level := 0x0200, reqLevel := 0x0200 })
  /-- the Batten chain channel's own level (04 R105). -/
  chain : ClChan := {}
  /-- remote requests waiting in the chain channel (04 R115). -/
  chainQ : List ClPend := []
  /-- tag of the next chain request (05 R145). -/
  clTag : Nat := 0
  /-- requests of firmware waiting in the firmware channel (04 R115). -/
  fwQ : List ClPend := []
  /-- the diagnostics lock 0xF000 (04 R87). -/
  diagOpen : Bool := false
  /-- store state, 0x1030.03: 0 idle, 1 storing, 2 stored, 3 failed, 4 none stored (04 R101). -/
  storeState : Nat := 4
  /-- the snapshot a running store writes (04 R102). -/
  storeSnap : List (Nat × List Byte) := []
  /-- STORE of the current copy, 0x1030.04 (04 R102). -/
  storeNo : Nat := 0
  deriving DecidableEq, Repr

/-- One lane of one outgoing link. -/
structure Lane where
  /-- frames waiting to start, in order of arrival (05 R130). -/
  waiting : List Frame := []
  /-- replay buffer of unacknowledged frames (05 R127). -/
  replay : List Frame := []
  /-- next SEQ of the lane (05 R127). -/
  nextSeq : Nat := 0
  /-- NAKs in succession of one frame (05 R129). -/
  naks : Nat := 0
  /-- SEQ of that frame (05 R129). -/
  nakSeq : Nat := 0
  /-- clocks at which the frames of the replay buffer were last sent (05 R129). -/
  sentAts : List Nat := []
  /-- the last bulk frame started was a forwarded one (05 R130). -/
  lastFwd : Bool := false
  /-- SEQ of the bad frame of this incoming lane whose replay is awaited (05 R128). -/
  awaitSeq : Option Nat := none
  /-- the ACK (true) or NAK last sent for this incoming lane (05 R127). -/
  answer : Option (Bool × Nat) := none
  /-- outgoing copies that ended with POISON (05 R128). -/
  voided : Nat := 0
  deriving DecidableEq, Repr

/-- One chain link of the node. -/
structure Link where
  /-- receiver symbol lock (05 R121). -/
  lock : Bool := false
  /-- the link counts as up (05 R121, R129). -/
  linkUp : Bool := false
  /-- clock at which lock was lost (05 R129). -/
  lockLostAt : Option Nat := none
  /-- bulk lane (05 R119). -/
  bulk : Lane := {}
  /-- priority lane (05 R119). -/
  prio : Lane := {}
  deriving DecidableEq, Repr

/-- One budget record (R139). -/
structure BudRec where
  /-- NODE (05 R139). -/
  node : Nat := 0
  /-- PART (05 R139). -/
  part : Nat := 0
  /-- KIND (05 R139). -/
  kind : Nat := 0
  /-- VALUE in 25 mW (05 R139). -/
  value : Nat := 0
  deriving DecidableEq, Repr

/-- A prepare buffer (R140). -/
structure Prep where
  /-- TXID (05 R140). -/
  txid : Nat := 0
  /-- its records (05 R140). -/
  recs : List BudRec := []
  /-- clock of the last vote (05 R142). -/
  votedAt : Nat := 0
  /-- BUD_COMMIT heard, application in progress (05 R141). -/
  committed : Bool := false
  deriving DecidableEq, Repr

/-- A node descriptor (R133). -/
structure Desc where
  /-- address (05 R133). -/
  addr : Nat := 0
  /-- kind, 1 satellite (05 R133). -/
  sat : Bool := false
  /-- latched STRAP_ROOT (05 R133). -/
  root : Bool := false
  /-- instance serial (05 R133). -/
  serial : Nat := 0
  deriving DecidableEq, Repr

/-- The root's open transaction. -/
structure Txn where
  /-- TXID (05 R140). -/
  txid : Nat := 0
  /-- its records (05 R138). -/
  recs : List BudRec := []
  /-- members that have voted YES (05 R141). -/
  votes : Nat := 0
  /-- clock at which BUD_PREPARE was sent (05 R141). -/
  openedAt : Nat := 0
  deriving DecidableEq, Repr

/-- Batten chain port and membership. -/
structure Chain where
  /-- link towards the root (05 R119). -/
  up : Link := {}
  /-- link away from the root (05 R119). -/
  dn : Link := {}
  /-- node address, 0x00 unassigned (01 R15, 05 R133). -/
  addr : Nat := 0
  /-- role of 0x2100.01 (05 R155). -/
  role : Nat := 0
  /-- member mask (05 R136). -/
  memberMask : Nat := 0
  /-- lost mask (05 R149). -/
  lostMask : Nat := 0
  /-- members held out (05 R152). -/
  heldMask : Nat := 0
  /-- member order (05 R136). -/
  order : List Nat := []
  /-- took no address (05 R134). -/
  overpop : Bool := false
  /-- it found lock on BCH_UP as RAILS became ready and acts as any other node despite its strap (05 R132). -/
  conflict : Bool := false
  /-- descriptors of the enumeration token held (05 R133). -/
  token : List Desc := []
  /-- payload symbol 0 of the token held (05 R133). -/
  tokenNext : Nat := 0
  /-- clock at which the token was taken (05 R135). -/
  tokenAt : Option Nat := none
  /-- clock of the root's first ENUM (05 R135). -/
  enumFirstAt : Option Nat := none
  /-- ENUM frames sent, at most 3 (05 R135). -/
  enumSent : Nat := 0
  /-- enumeration closed (05 R136). -/
  enumClosed : Bool := false
  /-- descriptors of members and lost members the root knows (05 R136, R151). -/
  descs : List Desc := []
  /-- the root's pending records (05 R138). -/
  budQueue : List BudRec := []
  /-- the root's open transaction (05 R140). -/
  txn : Option Txn := none
  /-- next transaction number (05 R140). -/
  nextTxid : Nat := 1
  /-- records of an aborted transaction awaiting retry (05 R143). -/
  retryRecs : List BudRec := []
  /-- clock at which the retry is due (05 R143). -/
  retryAt : Option Nat := none
  /-- root's decisions by TXID, newest first (kept to repeat them) (05 R142). -/
  decisions : List (Nat × Bool) := []
  /-- prepare buffers in use (05 R140). -/
  preps : List Prep := []
  /-- lost members whose reserve the operator has released (05 R149). -/
  released : Nat := 0
  /-- (address, clock) of the losses within the last second (05 R152). -/
  losses : List (Nat × Nat) := []
  /-- sequence number of the next TELEM (05 R144). -/
  telemSeq : Nat := 0
  /-- clock at which the next TELEM falls due (05 R144). -/
  telemNextAt : Nat := 0
  /-- last TELEM sequence by source (05 R144). -/
  telemLast : List (Nat × Nat) := []
  /-- partial messages, keyed by source*32+type (05 R125). -/
  partial_ : List (Nat × List Nat) := []
  /-- frames discarded with no onward link (05 R126). -/
  discarded : Nat := 0
  /-- the die is limited to the isolated die budget (05 R148). -/
  isolated : Bool := false
  deriving DecidableEq, Repr

/-- A fault in a recovery context. -/
structure Fault_ where
  /-- fault code (07 R200). -/
  code : Nat := 0
  /-- severity after any escalation (07 R221). -/
  sev : Nat := 0
  /-- phase concerned, 0xFF none (07 R230). -/
  phase : Nat := 0xFF
  /-- region, gauge or comparator concerned, 0xFFFF none (17 R480). -/
  item : Nat := 0xFFFF
  /-- clock at which its recovery (or, unqueued, its arrival) began (07 R221). -/
  since : Nat := 0
  /-- clock since which its condition has been absent (07 R208, 09 R275). -/
  clearFrom : Option Nat := none
  deriving DecidableEq, Repr

/-- A recovery context: one of the six rails or the instance (R222). -/
structure Ctx where
  /-- fault in recovery (07 R222). -/
  cur : Option Fault_ := none
  /-- latched queue (07 R226). -/
  latched : List Fault_ := []
  /-- faults that found the queue full, whose actions still run (07 R226). -/
  loose : List Fault_ := []
  deriving DecidableEq, Repr

/-- One rail controller. -/
structure Rail where
  /-- state code (06 R159). -/
  state : Nat := 0
  /-- RAIL_ID (06 R156). -/
  railId : Nat := 0
  /-- tracking group (06 R194). -/
  group : Nat := 0
  /-- rail enable (06 R194). -/
  enable : Bool := false
  /-- FSW object in kHz (06 R194). -/
  fsw : Nat := 0
  /-- operating setpoint last written, mV (06 R162). -/
  setGoal : Nat := 0
  /-- operating setpoint at present, 1/256 mV (06 R187). -/
  setNow : Int := 0
  /-- rate of a group move in progress, 2^-16 of 1/256 mV per sample (06 R187). -/
  moveRate : Option Nat := none
  /-- operating setpoint at the start of the group move, 1/256 mV (06 R187). -/
  moveFrom : Int := 0
  /-- clock at which the group move began (06 R187). -/
  moveAt : Nat := 0
  /-- loop reference, 1/256 mV (06 R163). -/
  ref : Int := 0
  /-- rate of STARTING or STOPPING, 2^-16 of 1/256 mV per sample (06 R65, R189). -/
  rampRate : Nat := 0
  /-- reference at the start of the ramp, 1/256 mV (06 R189). -/
  rampFrom : Int := 0
  /-- clock at which the ramp began (03 R67). -/
  startAt : Nat := 0
  /-- PH_PWM is held in high impedance until the ramp passes the present voltage (03 R66). -/
  prebias : Bool := false
  /-- headroom request, 1/256 mV (06 R162, 09 R263). -/
  headroom : Int := 0
  /-- pre-position request, 1/256 mV (06 R162, 08 R246). -/
  prepos : Int := 0
  /-- the built-in set is active (06 R166). -/
  builtin : Bool := true
  /-- active bank is B (06 R192). -/
  bankB : Bool := false
  /-- e[n-1..n-3], 0.5 mV units (06 R164). -/
  eHist : List Int := [0, 0, 0]
  /-- u[n-1..n-3], SQ8.24 (06 R164). -/
  uHist : List Int := [0, 0, 0]
  /-- latest sample, 0.5 mV (06 R192). -/
  vout : Nat := 0
  /-- rail current at the latest conversion, 0.1 A times 40,960 (06 R161). -/
  iRail : Int := 0
  /-- phase at the head of the firing run (06 R175). -/
  head : Nat := 0
  /-- switching period in steps of 78.125 ps (06 R169). -/
  period : Nat := 0
  /-- a period start of rotation position 0, steps of 78.125 ps (06 R175). -/
  p0At : Nat := 0
  /-- moment at which an overshoot last ended every pulse, steps of 78.125 ps (06 R173). -/
  cutAt : Nat := 0
  /-- pulse skipping in effect (06 R192). -/
  skip : Bool := false
  /-- consecutive conversions below the skip level (06 R177). -/
  skipLow : Nat := 0
  /-- phase being shed (06 R180). -/
  shedding : Option Nat := none
  /-- clock at which the shed ramp began (06 R180). -/
  shedAt : Nat := 0
  /-- clock since which the shed level has held (06 R180). -/
  shedFrom : Option Nat := none
  /-- clock from which the rotation period counts (06 R176). -/
  rotFrom : Nat := 0
  /-- a rotation step is in progress (06 R176). -/
  rotBusy : Bool := false
  /-- 0 own timing, 1 acquiring, 2 locked (06 R184). -/
  regSync : Nat := 0
  /-- feed-forward in force for the rail (06 R192). -/
  ffForce : Bool := false
  /-- feed-forward phase request (08 R246). -/
  ffPhases : Nat := 0
  /-- value from which the feed-forward duty term falls, SQ8.24 (08 R247). -/
  ffDuty : Int := 0
  /-- samples of its whole fall (08 R247). -/
  ffDutyOf : Nat := 1
  /-- samples left of its fall to zero (08 R247, 07 R220). -/
  ffDutyLeft : Nat := 0
  /-- peak timer, us (07 R203). -/
  peakTimer : Nat := 0
  /-- consecutive conversions above I_lim (07 R203). -/
  overLim : Nat := 0
  /-- in fold-back (07 R204). -/
  fold : Bool := false
  /-- fold-back timer, us (07 R204). -/
  foldTimer : Nat := 0
  /-- clock since which I_rail has stayed at or below I_cont (07 R204). -/
  foldLowFrom : Option Nat := none
  /-- consecutive samples above the OV level (07 R206). -/
  ovCount : Nat := 0
  /-- clock of the first of an unbroken run of samples below the UV level (07 R208). -/
  uvFrom : Option Nat := none
  /-- UV raised in the present run: 0 no, 1 at S2, 2 at S3 (07 R208). -/
  uvRaised : Nat := 0
  /-- consecutive samples at either end of the scale (07 R209). -/
  vsCount : Nat := 0
  /-- FE timer, us (07 R219). -/
  feTimer : Nat := 0
  /-- clock of the last following error (07 R220). -/
  feAt : Option Nat := none
  /-- clock at which SAFE was entered (07 R207). -/
  safeAt : Nat := 0
  /-- code of the fault that caused SAFE (07 R223). -/
  safeCode : Nat := 0
  /-- clock at which the restart delay runs out (07 R223). -/
  restartAt : Option Nat := none
  /-- restart retries left (07 R223). -/
  retries : Nat := 0
  /-- clock of the last S3 (07 R223). -/
  s3At : Option Nat := none
  /-- RAIL_FLT.FLT (07 R231). -/
  flt : Nat := 0
  deriving DecidableEq, Repr

/-- One phase output. -/
structure Phase where
  /-- controller, 7 unassigned (06 R193). -/
  ctrl : Nat := 7
  /-- state code (06 R158). -/
  state : Nat := 0
  /-- rotation position (06 R193). -/
  pos : Nat := 0xF
  /-- share trim, SQ8.24 of duty (06 R171). -/
  trim : Int := 0
  /-- trim held at its limit (06 R193). -/
  trimLim : Bool := false
  /-- latest raw PH_IMON conversion (06 R193). -/
  imon : Nat := 0
  /-- phase current, 0.1 A times 40,960 (06 R161). -/
  cur : Int := 0
  /-- on-time last set, steps of 78.125 ps (0: no pulse) (06 R170). -/
  onTime : Nat := 0
  /-- start of its latest entry or out-of-turn pulse, steps of 78.125 ps (06 R173, R178). -/
  outAt : Option Nat := none
  /-- clock at which an over-current hold began (07 R202). -/
  ocAt : Option Nat := none
  /-- the hold has been raised at S1 (07 R202). -/
  ocLong : Bool := false
  /-- share-check count (07 R213). -/
  count : Nat := 0
  /-- suspect, awaiting its classification (07 R213). -/
  suspect : Bool := false
  /-- a planned removal waits or proceeds (06 R182). -/
  removing : Bool := false
  /-- it has failed and not been reinstated since (07 R218). -/
  wasFailed : Bool := false
  /-- clock of the last reinstatement of a failed phase (07 R218). -/
  reinstAt : Option Nat := none
  /-- failed again within 10 ms of reinstatement (07 R218). -/
  barred : Bool := false
  deriving DecidableEq, Repr

/-- A last-fault record (R230). -/
structure LastFault where
  /-- CODE (07 R230). -/
  code : Nat := 0
  /-- SEV (07 R230). -/
  sev : Nat := 0
  /-- FLAGS (07 R230). -/
  flags : Nat := 0
  /-- CTRL (07 R230). -/
  ctrl : Nat := 0xFF
  /-- PHASE (07 R230). -/
  phase : Nat := 0xFF
  /-- TICK (07 R230). -/
  tick : Nat := 0
  /-- SECONDS (07 R230). -/
  sec : Nat := 0
  /-- FRACTION (07 R230). -/
  frac : Nat := 0
  /-- VOUT (07 R230). -/
  vout : Nat := 0
  /-- TARGET (07 R230). -/
  target : Nat := 0
  /-- IOUT (07 R230). -/
  iout : Nat := 0
  /-- ICONT (07 R230). -/
  icont : Nat := 0
  /-- STAGE_T (07 R230). -/
  stageT : Int := 0
  /-- INSERV (07 R230). -/
  inserv : Nat := 0
  /-- FAILED (07 R230). -/
  failed : Nat := 0
  /-- PRIOR (07 R230). -/
  prior : Nat := 0
  /-- PRIOR_SEV (07 R230). -/
  priorSev : Nat := 0
  /-- N_ACT (07 R230). -/
  nAct : Nat := 0
  /-- STEP_PROG (07 R230). -/
  prog : Nat := 0
  /-- STEP_IDX (07 R230). -/
  stepIdx : Nat := 0
  /-- BOOT (07 R230). -/
  boot : Nat := 0
  /-- marked re-armed while in retention under STRAP_BOOT 0b10 (13 R400). -/
  rearmed : Bool := false
  deriving DecidableEq, Repr

/-- Protection state of the whole instance. -/
structure Prot where
  /-- recovery contexts: rails 0-5 and the instance (6) (07 R222, 13 R390). -/
  ctxs : List Ctx := (List.replicate 7 {})
  /-- retention RAM (07 R228). -/
  retention : List LastFault := []
  /-- latest PS_TMON conversions, 0.5 mV units, newest first (07 R210). -/
  tmon : List Nat := []
  /-- STG_WARN stands (07 R211). -/
  stgWarn : Bool := false
  /-- the stage temperature stands at or above the shutdown level (07 R212). -/
  stgShut : Bool := false
  /-- the AON comparator holds PS_TMON above 2.5 V (07 R212). -/
  stgFlt : Bool := false
  /-- the AON path forces every PH_EN low (02 R37). -/
  tripHold : Bool := false
  /-- latest announced program (07 R230). -/
  lastProg : Nat := 0
  /-- latest announced step index (07 R230). -/
  lastIdx : Nat := 0
  /-- clock of the latest conversion (06 R161). -/
  convAt : Option Nat := none
  /-- clock of the latest sample boundary taken (06 R160). -/
  sampAt : Option Nat := none
  /-- REG_SYNC_IN qualified (06 R184). -/
  syncOk : Bool := false
  /-- its measured period, steps of 78.125 ps (06 R184). -/
  syncPeriod : Nat := 0
  /-- tracking groups with a group move in progress (06 R187). -/
  ramps : List Nat := []
  deriving DecidableEq, Repr

/-- An announcement in the queue (R234, R239). -/
structure Ann where
  /-- STEP_PROG (08 R234). -/
  prog : Nat := 0
  /-- STEP_IDX (08 R234). -/
  idx : Nat := 0
  /-- SEQ_POS (08 R234). -/
  pos : Nat := 0
  /-- CTL cycle stamp (08 R234). -/
  since : Nat := 0
  /-- due time, CTL cycle (08 R234). -/
  due : Nat := 0
  /-- its lookup has completed (08 R235). -/
  looked : Bool := false
  /-- it yields currents (08 R239). -/
  predicted : Bool := false
  /-- controller of each column, 0xFF unused (08 R239). -/
  cols : List Nat := []
  /-- column currents, 1/256 A (08 R239). -/
  cur : List Nat := []
  /-- voltage offsets, mV (08 R238). -/
  vofs : List Nat := []
  /-- group shares, 1/256 (08 R238). -/
  share : List Nat := []
  /-- the image's GROUP_MAP (08 R237). -/
  groupMap : List Nat := []
  /-- FLAGS[1], barrier release at the step's start (08 R238). -/
  barrier : Bool := false
  /-- controllers for which its D0 has been taken (08 R247). -/
  dutyDone : List Nat := []
  /-- its shim posting has been made (08 R248). -/
  shimDone : Bool := false
  deriving DecidableEq, Repr

/-- A table header as loaded (R237). -/
structure TabHdr where
  /-- PROG (08 R237). -/
  prog : Nat := 0
  /-- FLAGS[0] WRAP (08 R237). -/
  wrap : Bool := false
  /-- STEPS (08 R237). -/
  steps : Nat := 0
  /-- PAGES (08 R237). -/
  pages : Nat := 0
  /-- COL_CTRL (08 R237). -/
  colCtrl : List Nat := []
  /-- PROGRAM_ID (08 R237). -/
  programId : Nat := 0
  /-- GROUP_MAP (08 R237). -/
  groupMap : List Nat := []
  /-- PAGE_CRC (08 R237). -/
  pageCrc : List Nat := []
  deriving DecidableEq, Repr

/-- One program slot. -/
structure Slot where
  /-- program bound to it (08 R243). -/
  program : Nat := 0
  /-- enabled (08 R243). -/
  enabled : Bool := false
  /-- active page list (08 R240). -/
  active : List Nat := []
  /-- shadow page list (08 R240). -/
  shadow : List Nat := []
  /-- header of the active list (08 R242). -/
  actHdr : Option TabHdr := none
  /-- header of the shadow list (08 R242). -/
  shHdr : Option TabHdr := none
  /-- old pages waiting to be freed after a swap (08 R242). -/
  dying : List Nat := []
  deriving DecidableEq, Repr

/-- A table load in progress. -/
structure Load where
  /-- slot (08 R240). -/
  slot : Nat := 0
  /-- page mask (08 R240). -/
  mask : Nat := 0
  /-- fabric address of the image (08 R240). -/
  addr : Nat := 0
  /-- new header, once read and checked (08 R240). -/
  hdr : Option TabHdr := none
  /-- image pages still to copy (08 R240). -/
  left : List Nat := []
  /-- (image page, table page) copied or shared (08 R240). -/
  got : List (Nat × Nat) := []
  deriving DecidableEq, Repr

/-- Schedule-locked feed-forward. -/
structure Ff where
  /-- pending announcements, oldest first (02 R39, 08 R235). -/
  annQ : List Ann := []
  /-- the latest step by due time, and the one before it, kept after they leave the queue (08 R245). -/
  lastDue : List Ann := []
  /-- markers (program, index, stamp) not yet handled (02 R38). -/
  markQ : List (Nat × Nat × Nat) := []
  /-- STEP_CLK edges counted in the latest complete window of 6,400 CTL cycles (08 R234). -/
  period : Nat := 0
  /-- clock at which the present window began (08 R234). -/
  windowAt : Nat := 0
  /-- program slots (08 R240). -/
  slots : List Slot := (List.replicate 16 {})
  /-- table memory: the bytes of each page ever written (08 R240). -/
  pageMem : List (Nat × List Byte) := []
  /-- CRC recorded for a page at its load (08 R240). -/
  pageCrc : List (Nat × Nat) := []
  /-- load in progress (08 R240). -/
  load : Option Load := none
  /-- clock at which settling ends (08 R253). -/
  settling : Option Nat := none
  /-- match run (08 R250, R256). -/
  matchRun : Nat := 0
  /-- rails withdrawn after FE or a step following error (08 R254). -/
  withdrawnSfe : List Nat := []
  /-- rails withdrawn under R252 (08 R254). -/
  withdrawn : List Nat := []
  /-- FF_STAT bits 16-21, W1C (08 R256). -/
  flags : Nat := 0
  deriving DecidableEq, Repr

/-- One region cell: shim and kerf unit. -/
structure Region where
  /-- MODE (09 R260, R283). -/
  bypass : Bool := false
  /-- the shim has started to regulate (09 R265, 10 R300). -/
  regulating : Bool := false
  /-- segment count n (09 R283). -/
  seg : Nat := 128
  /-- target, mV (09 R261). -/
  target : Nat := 550
  /-- reference, mV (09 R283). -/
  ref : Nat := 550
  /-- reference one step interval earlier, mV (09 R269). -/
  refOld : Nat := 550
  /-- clock of the last reference step (09 R261). -/
  refAt : Nat := 0
  /-- clock at which an upward move began to wait for headroom (09 R263). -/
  upAt : Option Nat := none
  /-- tile-cycle count at which its last stretch ended (09 R261). -/
  strEndAt : Option Nat := none
  /-- shim trim in use, mV (09 R279). -/
  shimTrim : Int := 0
  /-- kerf trim in use, mV (09 R279). -/
  kerfTrim : Int := 0
  /-- kerf offset, 4 mV steps (09 R269). -/
  kerfOfs : Nat := 0
  /-- the kerf unit is armed (09 R283). -/
  armed : Bool := false
  /-- STR_EN (09 R283). -/
  str : Bool := false
  /-- STR_AMT (09 R283). -/
  amt : Nat := 0
  /-- deepest level crossed since the stretch began (09 R270). -/
  strLevel : Nat := 0
  /-- edges seen in the present stretch before the code last rose (09 R273). -/
  strEdges : Nat := 0
  /-- tile-cycle count at which STR_EN or the code last rose (09 R271). -/
  strSince : Nat := 0
  /-- a preload is armed (09 R283). -/
  preArmed : Bool := false
  /-- preload segment count held (0 none) (09 R266). -/
  preN : Nat := 0
  /-- due time of the preload's step (09 R267). -/
  preDue : Nat := 0
  /-- the preload has acted (09 R267). -/
  preActed : Bool := false
  /-- consecutive control cycles with n = 128 and v < r (09 R264). -/
  satRun : Nat := 0
  /-- saturated (09 R283). -/
  sat : Bool := false
  /-- clock since which n = 128 and v < T (09 R275). -/
  lowFrom : Option Nat := none
  /-- latest monitor reading, mV (09 R283). -/
  mon : Nat := 0
  /-- consecutive readings beyond 20 mV (09 R275). -/
  devRun : Nat := 0
  /-- SHIM_DEV has stopped automatic trimming (09 R275). -/
  devStop : Bool := false
  /-- sum of readings of the present automatic-trim group (09 R279). -/
  trimSum : Int := 0
  /-- readings in that group (09 R279). -/
  trimCnt : Nat := 0
  /-- control cycles left of a kerf test (09 R280). -/
  testLeft : Option Nat := none
  /-- cycles below the test threshold so far (09 R280). -/
  testCnt : Nat := 0
  deriving DecidableEq, Repr

/-- State common to the shims and kerf units. -/
structure Shim where
  /-- dropout boost in force (09 R282). -/
  boost : Bool := false
  /-- clock since which no region has been saturated (09 R264). -/
  boostFrom : Nat := 0
  /-- stretch hold (09 R272, R282). -/
  hold : Bool := false
  /-- tile-cycle count at which the last STR_EN fell (09 R272). -/
  holdFrom : Nat := 0
  /-- KERF_STAT bits 8-13, W1C (09 R282). -/
  flags : Nat := 0
  /-- headroom request H in mV, 0 none (09 R282). -/
  headroom : Nat := 0
  /-- SEQ of the setpoint map tiles (09 R281). -/
  tileSeq : List Nat := [0, 0, 0, 0]
  /-- region the monitor converts next (09 R278). -/
  monNext : Nat := 0
  /-- clock of the latest reading of the monitor (09 R278). -/
  monAt : Option Nat := none
  deriving DecidableEq, Repr

/-- One monitored clock source. -/
structure Src where
  /-- qualified (10 R291). -/
  ok : Bool := false
  /-- consecutive windows within tolerance (10 R291). -/
  good : Nat := 0
  /-- has failed since it last qualified (10 R294). -/
  failed : Bool := false
  /-- measured frequency, kHz (10 R287, R288). -/
  freq : Nat := 0
  deriving DecidableEq, Repr

/-- Clock, droop and DVFS unit. -/
structure Clk where
  /-- PLL_A_IN (10 R291). -/
  pllA : Src := {}
  /-- PLL_B_IN (10 R291). -/
  pllB : Src := {}
  /-- REF100_IN (10 R291). -/
  ref100 : Src := {}
  /-- crystal (10 R291). -/
  xtal : Src := {}
  /-- RC oscillator as monitored (10 R291). -/
  rc : Src := {}
  /-- TILE_SRC (10 R305). -/
  tileB : Bool := false
  /-- tile clock on the internal clock (10 R305). -/
  tileInt : Bool := false
  /-- ENG on the internal clock (10 R305). -/
  engInt : Bool := false
  /-- CTL clock from the RC oscillator (10 R305). -/
  ctlRc : Bool := false
  /-- ENG divider in sixteenths (10 R287). -/
  engDiv : Nat := 0
  /-- TCLK_OUT runs (10 R300). -/
  running : Bool := false
  /-- rails whose S3 or stop has stopped TCLK_OUT since it last ran (10 R300). -/
  stops : List Nat := []
  /-- TCLK_OUT held by the global stop (18 R521). -/
  stopHeld : Bool := false
  /-- TCLK_OUT held low by a hard trip (13 R395). -/
  tripHeld : Bool := false
  /-- TCLK_OUT has started since reset (10 R300). -/
  everRan : Bool := false
  /-- divider M in force (10 R305). -/
  m : Nat := 0
  /-- divider that the sequencer commands (10 R301). -/
  mSeq : Nat := 0
  /-- an immediate divide stands (10 R305). -/
  immDiv : Bool := false
  /-- s in force (10 R305). -/
  skip : Nat := 0
  /-- skip goal (10 R302). -/
  skipGoal : Nat := 0
  /-- tile-cycle count of the last divider step (10 R289). -/
  divAt : Nat := 0
  /-- tile-cycle count of the last skip step (10 R290). -/
  skipAt : Nat := 0
  /-- tile cycles counted under R575, in sixteenths of a source period over M (whole cycles) (10 R575). -/
  tileCycles : Nat := 0
  /-- remainder of that count (10 R575). -/
  tileFrac : Nat := 0
  /-- point in force (10 R305). -/
  point : Nat := 0
  /-- target point (10 R305). -/
  target : Nat := 0
  /-- a sequencer move is in progress (10 R305). -/
  moving : Bool := false
  /-- point of the step in progress (10 R298). -/
  movePoint : Nat := 0
  /-- direction of the step in progress (10 R298). -/
  moveUp : Bool := false
  /-- 0 voltage step due, 1 waiting for voltage, 2 divider steps (10 R298). -/
  moveStage : Nat := 0
  /-- clock at which the present voltage step was issued (10 R298). -/
  voltAt : Nat := 0
  /-- a refused SRAM group move is to be repeated (10 R298). -/
  sramPending : Bool := false
  /-- the voltage step before the first start of TCLK_OUT is complete (10 R300). -/
  startOk : Bool := false
  /-- no new try until the request or the ceiling changes (10 R298). -/
  blocked : Bool := false
  /-- CLK_STAT bits 8-12, W1C (10 R305). -/
  flags : Nat := 0
  deriving DecidableEq, Repr

/-- Per-partition estimate and telemetry. -/
structure PartEst where
  /-- partition (11 R309). -/
  p : Nat := 0
  /-- power of the latest interval, uW (11 R332). -/
  pw : Nat := 0
  /-- sum over the present millisecond, uW (11 R332). -/
  sumMs : Nat := 0
  /-- mean of the latest millisecond, uW (11 R332). -/
  meanMs : Nat := 0
  /-- energy, pJ (11 R309). -/
  energy : Nat := 0
  /-- sum of reporting-set power since the last instant, uW (11 R330). -/
  repSum : Nat := 0
  /-- SEQ_P (11 R331). -/
  seqP : Nat := 0
  /-- SEQ_T (11 R331). -/
  seqT : Nat := 0
  /-- EPOCH shown (11 R331). -/
  epoch : Nat := 0
  /-- POWER, 0.5 W (11 R331). -/
  power : Nat := 0
  /-- T_MAX (11 R331). -/
  tMax : Int := (-32768)
  /-- T_MEAN (11 R331). -/
  tMean : Int := (-32768)
  /-- ENERGY, 0.5 mJ (11 R331). -/
  energyT : Nat := 0
  /-- REASONS shown (11 R331). -/
  reasons : Nat := 0
  /-- reasons that accrued in the present millisecond (11 R331). -/
  reasonsMs : Nat := 0
  /-- reasons accruing now for the partition (11 R326). -/
  accr : Nat := 0
  /-- durations of reasons 1-10, ticks (11 R326). -/
  dur : List Nat := (List.replicate 10 0)
  /-- counts of reasons 1-10 (11 R326). -/
  cnt : List Nat := (List.replicate 10 0)
  /-- durations as of the last instant (11 R338). -/
  durShown : List Nat := (List.replicate 10 0)
  /-- counts as of the last instant (11 R338). -/
  cntShown : List Nat := (List.replicate 10 0)
  deriving DecidableEq, Repr

/-- A current loop of R325. -/
structure Loop_ where
  /-- rail, or 6 for an escalated request of the instance (11 R325). -/
  rail : Nat := 0
  /-- fault whose request it serves (07 R226). -/
  code : Nat := 0
  /-- target current, 0.1 A times 40,960 (11 R325). -/
  target : Int := 0
  /-- its skip (11 R325). -/
  skip : Nat := 0
  /-- its divide bit (11 R325). -/
  div : Bool := false
  deriving DecidableEq, Repr

/-- A posted throttle request of a reason, one per poster. -/
structure ReqWord where
  /-- reason 1-10 (11 R324). -/
  reason : Nat := 0
  /-- poster: fault context and code, jig slot, predictor, relay source (11 R324). -/
  who : Nat := 0
  /-- ceiling point, 31 none (11 R323). -/
  ceil : Nat := 31
  /-- skip (11 R323). -/
  skip : Nat := 0
  /-- divide (11 R323). -/
  div : Bool := false
  deriving DecidableEq, Repr

/-- Power estimator, cap controller, budgets and throttle arbiter. -/
structure Cap where
  /-- P_est of the latest interval, uW (11 R332). -/
  pDie : Nat := 0
  /-- sum over the present millisecond, uW (11 R332). -/
  pDieSum : Nat := 0
  /-- mean over the latest millisecond, uW (11 R332). -/
  pDieMs : Nat := 0
  /-- estimated current of CORE, SRAM, D2D, 1/256 mA (11 R308). -/
  iEst : List Int := [0, 0, 0]
  /-- clock of the latest estimator boundary (11 R307). -/
  estAt : Option Nat := none
  /-- intervals taken in the present millisecond (11 R312). -/
  msCount : Nat := 0
  /-- sums of I_rail of CORE, SRAM and D2D over the conversions of the present millisecond (11 R312). -/
  iSum : List Int := [0, 0, 0]
  /-- the present interval is skipped for the rail (11 R313). -/
  skipRail : List Bool := [false, false, false]
  /-- a millisecond has ended and calibration has not yet taken it (11 R312). -/
  calDue : Bool := false
  /-- means of I_rail of the latest millisecond (11 R312). -/
  msMean : List Int := [0, 0, 0]
  /-- that millisecond is skipped for the rail (11 R313). -/
  msSkip : List Bool := [false, false, false]
  /-- calibration restarts from a new commissioning set at the next millisecond (11 R337). -/
  calRestart : Bool := false
  /-- used intervals in a row with residual beyond 5 % (11 R314). -/
  usedRun : List Nat := [0, 0, 0]
  /-- posted steps: (due clock, P_pred in uW, step index) (11 R249, R311). -/
  predDue : List (Nat × Nat × Nat) := []
  /-- step and difference of the latest interval that used a prediction, until the step is matched, mW (11 R311). -/
  predDiff : Option (Nat × Int) := none
  /-- calibrated coefficient set (empty before ESTIM is first ready) (11 R310). -/
  coefCal : List Byte := []
  /-- reporting set (11 R315). -/
  coefRep : List Byte := []
  /-- reporting epoch (11 R315). -/
  epoch : Nat := 0
  /-- budgets in force, key kind*4096 + node or partition; unlisted is the object's default (11 R316). -/
  budgets : List (Nat × Nat) := []
  /-- credit C, 25 nJ (11 R321). -/
  credit : Nat := 0
  /-- burst_open (11 R321). -/
  burstOpen : Bool := false
  /-- skip of the cap controller (11 R321). -/
  skip : Nat := 0
  /-- ceiling of the cap controller (11 R321). -/
  ceiling : Nat := 31
  /-- divide of the cap controller (11 R321). -/
  divide : Bool := false
  /-- intervals in a row above the divide level (11 R321). -/
  overRun : Nat := 0
  /-- clock since which the skip has stood at its limit (11 R321). -/
  escFrom : Option Nat := none
  /-- clock since which the release condition has held (11 R321). -/
  relFrom : Option Nat := none
  /-- clock since which p has been at or below a (11 R321). -/
  okFrom : Option Nat := none
  /-- posted request words of reasons 3, 4, 5, 8, 9 and escalated requests (11 R323). -/
  words : List ReqWord := []
  /-- current loops (11 R325). -/
  loops : List Loop_ := []
  /-- word of reason 7 while THR_IN_N takes effect (11 R323, R324). -/
  extWord : Nat := 31
  /-- 0x6004.0A (11 R324). -/
  mgtWord : Nat := 31
  /-- combined word: ceiling, skip, divide (11 R332). -/
  comb : Nat := 31
  /-- reasons accruing now for the die (11 R326). -/
  accr : Nat := 0
  /-- die durations of reasons 1-10, ticks (11 R326). -/
  dur : List Nat := (List.replicate 10 0)
  /-- die counts of reasons 1-10 (11 R326). -/
  cnt : List Nat := (List.replicate 10 0)
  /-- durations within the present millisecond (11 R333). -/
  durMs : List Nat := (List.replicate 10 0)
  /-- counts begun in the present millisecond (11 R333). -/
  cntMs : List Nat := (List.replicate 10 0)
  /-- reasons that accrued in the present millisecond (11 R333). -/
  accrMs : Nat := 0
  /-- 0x6006 durations at the root (11 R326). -/
  pkgDur : List Nat := (List.replicate 10 0)
  /-- 0x6006 counts at the root (11 R326). -/
  pkgCnt : List Nat := (List.replicate 10 0)
  /-- partitions 0-63 (11 R331). -/
  parts : List PartEst := (List.range 64).map (fun p => { p := p })
  /-- tile partition map, 0xFF routed around (11 R308, R337). -/
  tileMap : List Nat := (List.replicate 1024 0)
  /-- a tile partition map written, which counts from the next boundary (11 R334, 12 R350). -/
  tileMapNext : Option (List Nat) := none
  /-- tile temperatures as last reported (11 R330). -/
  tileTemp : List Int := []
  /-- power map, mW (11 R332). -/
  powerMap : List Nat := (List.replicate 1024 0)
  /-- energy of each region's tiles since the latest update of the thermal model, pJ (13 R393). -/
  regionEn : List Nat := (List.replicate 256 0)
  /-- MAP_SEQ of the power map tiles (11 R332). -/
  mapSeq : List Nat := (List.replicate 16 0)
  /-- telemetry instants since ESTIM readiness (11 R330). -/
  instants : Nat := 0
  /-- P_PKG, 25 mW (11 R332). -/
  pPkg : Nat := 0
  /-- FRESH (11 R332). -/
  fresh : Nat := 0
  /-- latest TELEM of each member (11 R319). -/
  memTelem : List (Nat × List Nat) := []
  /-- CAP_STAT bits 8-13, W1C (11 R335). -/
  flags : Nat := 0
  deriving DecidableEq, Repr

/-- A context account of the Clamp (R339, R369); an unlisted account has never been opened. -/
structure Account where
  /-- account number 40t + s (12 R339). -/
  a : Nat := 0
  /-- live (12 R339). -/
  live : Bool := false
  /-- PART of the last opening (12 R369). -/
  part : Nat := 0
  /-- GEN of the last opening (12 R369). -/
  gen : Nat := 0
  /-- BASELINE, mW (12 R369). -/
  base : Nat := 0
  /-- ENERGY, pJ (12 R369). -/
  energy : Nat := 0
  /-- OVERDRAWS (12 R369). -/
  overdraws : Nat := 0
  /-- energy since the last 1 ms instant, pJ (12 R341). -/
  msEnergy : Nat := 0
  deriving DecidableEq, Repr

/-- A grant in force. -/
structure Grant where
  /-- account (12 R346). -/
  a : Nat := 0
  /-- POWER, mW (12 R342). -/
  g : Nat := 0
  /-- WINDOW, us (12 R342). -/
  window : Nat := 0
  /-- clock at which the window runs out (12 R346). -/
  endAt : Nat := 0
  /-- TAG (12 R342). -/
  tag : Nat := 0
  /-- energy charged during the grant, pJ (12 R341). -/
  energy : Nat := 0
  /-- its part of the burst reservation, nJ (12 R347). -/
  resv : Nat := 0
  /-- left from before admission ceased: it holds only its tracker entry (12 R354). -/
  orphan : Bool := false
  deriving DecidableEq, Repr

/-- A queued request. -/
structure Queued where
  /-- account (12 R349). -/
  a : Nat := 0
  /-- POWER, mW (12 R342). -/
  g : Nat := 0
  /-- WINDOW, us (12 R342). -/
  window : Nat := 0
  /-- TAG (12 R342). -/
  tag : Nat := 0
  /-- BURST (12 R342). -/
  burst : Bool := false
  /-- clock of its arrival (12 R349). -/
  since : Nat := 0
  /-- reason it last failed for (12 R346). -/
  reason : Nat := 0
  deriving DecidableEq, Repr

/-- The Clamp. -/
structure Clamp where
  /-- accounts ever opened, ascending (12 R339). -/
  accounts : List Account := []
  /-- grants in force (12 R353). -/
  grants : List Grant := []
  /-- queued requests in order of arrival (12 R349). -/
  queue : List Queued := []
  /-- (tile, word) response and notice words that the latest step of the Clamp sent, in order (12 R343). -/
  notices : List (Nat × Nat) := []
  /-- (tile, word) request words that wait in the region cells while STOP_IN stands (12 R344, R366). -/
  cells : List (Nat × Nat) := []
  /-- burst reservation R_b, nJ (12 R347). -/
  resv : Nat := 0
  /-- CLAMP_STAT bits 8-11, W1C (12 R367). -/
  flags : Nat := 0
  deriving DecidableEq, Repr

/-- Dovetail. -/
structure Dove where
  /-- BAR_IN as last sampled (02 R41). -/
  barIn : Bool := false
  /-- a rising edge in bypass has not reached BAR_OUT (02 R41). -/
  bypassRise : Bool := false
  /-- BAR_OUT (02 R41). -/
  barOut : Bool := false
  /-- BAR_WAVE (02 table, R41). -/
  barWave : Nat := 0xFFFF
  /-- a release is in progress (12 R368). -/
  releasing : Bool := false
  /-- tile-cycle count of e0 (12 R356). -/
  e0 : Nat := 0
  /-- waves already released (12 R356). -/
  wave : Nat := 0
  /-- W of the latest release (12 R368). -/
  w : Nat := 0
  /-- d of the latest release (12 R368). -/
  d : Nat := 0
  /-- a plan is armed (12 R368). -/
  armed : Bool := false
  /-- i_step of the armed plan, 1/256 A (12 R359). -/
  planStep : Int := 0
  /-- i_prev of the armed plan (12 R359). -/
  planPrev : Int := 0
  /-- W of the armed plan (12 R359). -/
  planW : Nat := 1
  /-- d of the armed plan (12 R359). -/
  planD : Nat := 0
  /-- clock at which the plan window ends (12 R358). -/
  planUntil : Nat := 0
  /-- start line of the next barrier (12 R368). -/
  start : Nat := 0
  /-- start line of the release in progress (12 R355). -/
  curStart : Nat := 0
  /-- an ARRIVE awaits its RELEASE (12 R368). -/
  pkgWait : Bool := false
  /-- clock at which it began to wait (12 R364). -/
  pkgWaitAt : Nat := 0
  /-- BARRIER_LATE already raised for this wait (12 R364). -/
  late : Bool := false
  /-- epoch of the latest RELEASE or CANCEL acted on (12 R368). -/
  epoch : Nat := 0
  /-- epoch E of the root (12 R363). -/
  rootEpoch : Nat := 1
  /-- the root's arrived mask (12 R363). -/
  arrived : Nat := 0
  /-- DOVE_STAT bits 8-11, W1C (12 R368). -/
  flags : Nat := 0
  deriving DecidableEq, Repr

/-- One gauge. -/
structure Gauge where
  /-- number (13 R372). -/
  n : Nat := 0
  /-- 0 normal, 1 unchecked, 2 suspect, 3 covered, 4 off, 5 absent (13 R405). -/
  state : Nat := 0
  /-- own result, 1/16 C (13 R373). -/
  own : Int := 0
  /-- used result (13 R375). -/
  used : Int := 0
  /-- neighbour estimate (13 R378). -/
  est : Int := 0
  /-- learned offset L, 1/16384 C (13 R378). -/
  learned : Int := 0
  /-- gain, UQ1.15 (13 R381). -/
  gain : Nat := 32768
  /-- offset, SQ12.4 (13 R381). -/
  offset : Int := 0
  /-- X, 10 um (13 R374). -/
  x : Nat := 0
  /-- Y, 10 um (13 R374). -/
  y : Nat := 0
  /-- kind (13 R372). -/
  kind : Nat := 0
  /-- group (13 R374). -/
  group : Nat := 0
  /-- the placement table gives its position (13 R374). -/
  placed : Bool := false
  /-- consecutive deviating instants (13 R379). -/
  devRun : Nat := 0
  /-- consecutive critical own results while suspect (13 R380). -/
  critRun : Nat := 0
  /-- command running, 0 none (13 R382). -/
  cmd : Nat := 0
  /-- instants left of it (13 R382). -/
  cmdLeft : Nat := 0
  /-- sum of (m + L - own) of an align (13 R382). -/
  cmdAcc : Int := 0
  /-- a comparison of a reference cycle departed beyond 2 C (13 R382). -/
  cmdBad : Bool := false
  /-- command 3 acts at the next instant (13 R382). -/
  clearing : Bool := false
  /-- HIGHEST (13 R405). -/
  highest : Int := (-640)
  /-- latest used results, newest first, as many as the rate window needs (13 R387). -/
  hist : List Int := []
  /-- RATE, 1/64 C/ms (13 R405). -/
  rate : Int := 0
  /-- consecutive instants above the rate limit (13 R387). -/
  rateRun : Nat := 0
  /-- consecutive instants above twice the limit (13 R387). -/
  rate2Run : Nat := 0
  /-- SUSPECTS (13 R405). -/
  suspects : Nat := 0
  /-- COMMANDS (13 R405). -/
  commands : Nat := 0
  deriving DecidableEq, Repr

/-- One gauge group. -/
structure Group where
  /-- hottest used result (13 R403). -/
  hot : Int := (-32768)
  /-- its gauge (13 R403). -/
  hotGauge : Nat := 0
  /-- at or above the warning level (13 R403). -/
  warn : Bool := false
  /-- THERM_WARN raised and not yet fallen below warning - hysteresis (13 R385). -/
  warned : Bool := false
  /-- engaged (13 R403). -/
  engaged : Bool := false
  /-- ceiling of its reason-3 request (13 R386). -/
  ceil : Nat := 31
  /-- gauge that the THERM_THROT in force names (13 R385, 17 R480). -/
  thrItem : Nat := 0
  /-- gauge that the THERM_RATE in force names (13 R385, 17 R480). -/
  rateItem : Nat := 0
  /-- E (13 R386). -/
  ePoint : Nat := 0
  /-- divide of its reason-3 request (13 R386). -/
  div : Bool := false
  /-- clock of the last thermal step (13 R386). -/
  stepFrom : Nat := 0
  /-- clock at which the raise hold began (13 R386). -/
  raiseFrom : Option Nat := none
  /-- a reason-4 request stands (13 R403). -/
  rateOn : Bool := false
  /-- its divide (13 R387). -/
  rateDiv : Bool := false
  /-- clock of the last instant above the limit (13 R387). -/
  rateAt : Nat := 0
  /-- RATE_MAX (13 R403). -/
  rateMax : Int := 0
  /-- consecutive critical instants (13 R389). -/
  critRun : Nat := 0
  /-- PRED (13 R403). -/
  pred : Int := (-32768)
  /-- a prediction episode stands (13 R403). -/
  predict : Bool := false
  /-- clock since which the prediction has stayed low (13 R394). -/
  predLowFrom : Option Nat := none
  /-- ceiling posted by the prediction (13 R394). -/
  predCeil : Nat := 31
  deriving DecidableEq, Repr

/-- One hard-trip comparator. -/
structure Trip where
  /-- comparator output (13 R395). -/
  out : Bool := false
  /-- clock at which it rose (13 R395). -/
  riseAt : Nat := 0
  /-- TRIPPED (13 R402). -/
  tripped : Bool := false
  /-- at or above its re-arm level (13 R402). -/
  above : Bool := false
  /-- clock of its last qualification (13 R399). -/
  qualAt : Option Nat := none
  deriving DecidableEq, Repr

/-- A relayed throttle word. -/
structure Relay where
  /-- satellite address (13 R392). -/
  sat : Nat := 0
  /-- ceiling (13 R392). -/
  ceil : Nat := 31
  /-- skip (13 R392). -/
  skip : Nat := 0
  /-- divide (13 R392). -/
  div : Bool := false
  /-- goes to reason 3 (13 R392). -/
  r3 : Bool := false
  /-- goes to reason 4 (13 R392). -/
  r4 : Bool := false
  /-- clock of the TELEM (13 R392). -/
  since : Nat := 0
  /-- RELAY_LOST raised (13 R392). -/
  lost : Bool := false
  deriving DecidableEq, Repr

/-- Thermal unit. -/
structure Therm where
  /-- gauges, once the unit has started (13 R372). -/
  gauges : List Gauge := []
  /-- groups (13 R385). -/
  groups : List Group := (List.replicate 16 {})
  /-- hard-trip comparators (13 R395). -/
  trips : List Trip := (List.replicate 3 {})
  /-- clock since which every comparator has read below its re-arm level (13 R399). -/
  belowFrom : Option Nat := some 0
  /-- THERM_STAT bits 8-14, W1C (13 R402). -/
  flags : Nat := 0
  /-- SEQ of the thermal map tiles (13 R404). -/
  mapSeq : List Nat := (List.replicate 20 0)
  /-- relayed words (13 R392). -/
  relays : List Relay := []
  /-- firmware's own contribution to reason 3 (0x6004.03) (13 R388). -/
  fw3 : Nat := 31
  /-- firmware's own contribution to reason 4 (0x6004.04) (13 R388). -/
  fw4 : Nat := 31
  /-- node temperatures, 1/4096 C (13 R393). -/
  model : List Int := []
  /-- clock of the latest result instant (13 R373). -/
  instAt : Option Nat := none
  /-- clock since which the gauges have converted without a break (the SRAM rail's power-good) (13 R376). -/
  fullFrom : Nat := 0
  /-- clock of the latest update of the model (13 R393). -/
  modelAt : Option Nat := none
  /-- a re-arm write has passed its checks and its marks are not yet confirmed (13 R400). -/
  rearming : Bool := false
  /-- gauge calibration store: 0 idle, 1 storing, 2 stored, 3 failed (13 R384). -/
  calStore : Nat := 0
  /-- gains and offsets a running store writes (13 R384). -/
  calSnap : List (Nat × Nat × Int) := []
  deriving DecidableEq, Repr

/-- One Dowel engine. -/
structure Engine where
  /-- STATE (14 R431). -/
  state : Nat := 0
  /-- NEW (14 R431). -/
  new : Bool := false
  /-- background tasks, head first (14 R408). -/
  deque : List Nat := []
  /-- background task on the engine (14 R407). -/
  running : Option Nat := none
  /-- WDOG_CNT (14 R431). -/
  wdogCnt : Nat := 0
  /-- clocks of expiries within the last second (14 R427). -/
  wdogHist : List Nat := []
  /-- clock at which the present update step began (14 R424). -/
  stepAt : Nat := 0
  deriving DecidableEq, Repr

/-- One jig slot. -/
structure Jig where
  /-- 0 empty, 1 loaded, 2 running, 3 faulted (0x2310 table) (14 R433). -/
  state : Nat := 0
  /-- operation words (14 R411). -/
  image : List Nat := []
  /-- image as written (14 R418). -/
  rawImage : List Byte := []
  /-- STEP_LIMIT (14 R411). -/
  stepLimit : Nat := 0
  /-- OBJ_LIMIT (14 R411). -/
  objLimit : Nat := 0
  /-- JIG_ID (14 R411). -/
  jigId : Nat := 0
  /-- registers x0-x15 of the present activation (14 R413). -/
  regs : List (BitVec 64) := (List.replicate 16 0)
  /-- data words (14 R413). -/
  data : List (BitVec 64) := (List.replicate 128 0)
  /-- word about to execute (14 R412). -/
  pc : Nat := 0
  /-- an activation is in progress (14 R407). -/
  active : Bool := false
  /-- words executed in the activation (14 R413). -/
  steps : Nat := 0
  /-- RDOBJ and WROBJ executed in the activation (14 R411). -/
  objs : Nat := 0
  /-- tick of the activation's start (14 R414). -/
  actStart : Nat := 0
  /-- tick of the previous activation's start (14 R414). -/
  prevStart : Option Nat := none
  /-- ticks from the previous activation's start to the present one's (14 R414). -/
  gap : Option Nat := none
  /-- clock of the next instant of its period (14 R407, R419). -/
  nextAt : Nat := 0
  /-- clock of the instant of the present activation (14 R410). -/
  startAt : Nat := 0
  /-- the present activation has passed its deadline (14 R410). -/
  missed : Bool := false
  /-- the present activation is a miss or has overrun (14 R420). -/
  bad : Bool := false
  /-- consecutive activations each a miss or an overrun (14 R420). -/
  badRun : Nat := 0
  /-- runs on the partner engine (14 R423). -/
  onPartner : Bool := false
  /-- word posted for reason 3 (14 R417). -/
  post3 : Option Nat := none
  /-- word posted for reason 4 (14 R417). -/
  post4 : Option Nat := none
  /-- data words written while an activation runs, which count from its end (14 R429). -/
  dataNext : Option (List (BitVec 64)) := none
  /-- longest activation, ns (14 R433). -/
  longest : Nat := 0
  /-- saturation count (14 R413). -/
  sats : Nat := 0
  /-- fault code (14 R420). -/
  faultCode : Nat := 0
  /-- word number of the fault (14 R420). -/
  faultWord : Nat := 0
  deriving DecidableEq, Repr

/-- A pinned task of firmware (R407). -/
structure PinTask where
  /-- task (14 R407). -/
  id : Nat := 0
  /-- engine 0-15 (14 R407). -/
  eng : Nat := 0
  /-- period, ticks (14 R407). -/
  period : Nat := 0
  /-- deadline, ticks (14 R410). -/
  deadline : Nat := 0
  /-- clock of the instant of its latest activation, until a deadline miss has been seen for it (14 R410). -/
  startAt : Option Nat := none
  /-- that activation has passed its deadline and still runs (14 R410). -/
  late : Bool := false
  /-- clock of the next instant (14 R407). -/
  nextAt : Nat := 0
  /-- misses (14 R410). -/
  misses : Nat := 0
  /-- activations skipped (14 R410). -/
  skips : Nat := 0
  /-- runs on the partner engine (14 R423). -/
  onPartner : Bool := false
  deriving DecidableEq, Repr

/-- Engine array, firmware and update. -/
structure Dowel where
  /-- engines (14 R406). -/
  engines : List Engine := (List.replicate 32 {})
  /-- overflow queue (14 R409). -/
  overflow : List Nat := []
  /-- firmware's pinned tasks, as they have shown themselves (14 R407). -/
  pins : List PinTask := []
  /-- UPDATING (14 R430). -/
  updating : Bool := false
  /-- ROLLBACK (14 R430). -/
  rollback : Bool := false
  /-- engine now in the update or rollback (14 R423). -/
  updEng : Option Nat := none
  /-- clock of the last engine's start of the last update (14 R424). -/
  updLastAt : Option Nat := none
  /-- running image's slot (14 R430). -/
  runSlot : Nat := 0
  /-- running image (14 R423). -/
  runImg : Image := {}
  /-- image being staged, loaded or updated to (14 R423). -/
  newImg : Image := {}
  /-- previous image, for a rollback (14 R424). -/
  oldImg : Image := {}
  /-- its slot (14 R424). -/
  oldSlot : Nat := 0
  /-- DOWEL_STAT bits 8-13, W1C (14 R430). -/
  flags : Nat := 0
  /-- clocks of its expiries within the last second (14 R428). -/
  gwdogHist : List Nat := []
  /-- the running image is being reloaded after a global watchdog expiry (14 R428). -/
  reloading : Bool := false
  /-- FW stays not ready until FETCH (14 R428). -/
  fwBarred : Bool := false
  /-- flash image copy in progress: fabric address, length, slot (14 R422). -/
  flashCopy : Option (Nat × Nat × Nat) := none
  /-- jig slots (14 R411). -/
  jigs : List Jig := (List.replicate 16 {})
  deriving DecidableEq, Repr

/-- A sync object (R434); an unlisted object has every field at its POR_N value. -/
structure SyncObj where
  /-- physical number (15 R434). -/
  n : Nat := 0
  /-- value (15 R434). -/
  value : Nat := 0
  /-- owner (15 R434, R457). -/
  owner : Nat := 0xFF
  /-- owner generation (15 R434). -/
  gen : Nat := 0
  /-- scope of the latest release (15 R434, R448). -/
  relScope : Nat := 3
  /-- source tile of the latest release (15 R434, R457). -/
  relTile : Nat := 0xFFFF
  /-- SAT (15 R434). -/
  sat : Bool := false
  /-- SCOPE_FAULT (15 R434). -/
  scopeFault : Bool := false
  /-- SIGNALS (15 R457). -/
  signals : Nat := 0
  /-- ACQUIRES (15 R457). -/
  acquires : Nat := 0
  /-- SPURIOUS (15 R457). -/
  spurious : Nat := 0
  /-- LOST (15 R457). -/
  lost : Nat := 0
  /-- SCOPE_FAULTS (15 R457). -/
  scopeFaults : Nat := 0
  deriving DecidableEq, Repr

/-- A registered wait (R441, R442). -/
structure Waiter where
  /-- slot, numbered as a Clamp account (15 R435). -/
  a : Nat := 0
  /-- object (15 R441). -/
  obj : Nat := 0
  /-- a WAIT rather than an ACQUIRE (15 R442). -/
  wait : Bool := false
  /-- woken and not yet issued again (15 R441). -/
  woken : Bool := false
  /-- VID of the word (15 R442). -/
  vid : Nat := 0
  /-- TAG of the word (15 R443). -/
  tag : Nat := 0
  /-- partition of the slot at registration (15 R453). -/
  part : Nat := 0
  /-- clock of its registration (18 R519). -/
  since : Nat := 0
  deriving DecidableEq, Repr

/-- Synchronisation unit. -/
structure Sync where
  /-- objects that differ from the POR_N value, ascending (15 R434). -/
  objs : List SyncObj := []
  /-- (map, owner) of the maps that are owned, ascending (15 R435). -/
  mapOwner : List (Nat × Nat) := []
  /-- (map*256+virtual ID, entry) of the nonzero entries, ascending (15 R435). -/
  mapEntries : List (Nat × Nat) := []
  /-- (slot, map) of the bound slots, ascending (15 R435). -/
  bind_ : List (Nat × Nat) := []
  /-- registered waits in order of registration (15 R441). -/
  waiters : List Waiter := []
  /-- (tile, word) response and notice words of the latest event, in order (15 R438). -/
  notices : List (Nat × Nat) := []
  /-- (tile, word) of the words that wait in the region cells while STOP_IN holds (15 R452). -/
  cells : List (Nat × Nat) := []
  /-- SYNC_STAT bits 8-11, W1C (15 R456). -/
  flags : Nat := 0
  deriving DecidableEq, Repr

/-- A request a channel has issued and not seen answered. -/
structure DReq where
  /-- a write (16 R465). -/
  write : Bool := false
  /-- 8-byte-aligned address or window offset (16 R461). -/
  addr : Nat := 0
  /-- the device window (16 R461). -/
  space : Bool := false
  /-- write data (16 R464). -/
  data : Nat := 0
  /-- byte enables (16 R464). -/
  strb : Nat := 0
  /-- bytes of the transfer it carries (16 R464). -/
  bytes : Nat := 0
  /-- a read of a descriptor fetch (16 R468). -/
  fetch : Bool := false
  /-- first byte of the word that belongs to the transfer (16 R464). -/
  off : Nat := 0
  /-- 0 issued, 1 answered ACK, 2 failed or to be issued again (16 R469). -/
  st : Nat := 0
  /-- response code of a failed request (16 R469). -/
  code : Nat := 0
  deriving DecidableEq, Repr

/-- One DMA channel. -/
structure DmaCh where
  /-- DESC_SRC (16 R472). -/
  src : Nat := 0
  /-- DESC_DST (16 R472). -/
  dst : Nat := 0
  /-- DESC_LC (16 R472). -/
  lc : Nat := 0
  /-- DESC_NEXT (16 R472). -/
  next : Nat := 0
  /-- STATE but for disabled, which idle and ended read while DISABLE is 1 (16 R474). -/
  state : Nat := 0
  /-- PREEMPTED (16 R474). -/
  preempted : Bool := false
  /-- STATUS bits 8-10, W1C (16 R474). -/
  flags : Nat := 0
  /-- ERR_KIND (16 R474). -/
  errKind : Nat := 0
  /-- ERR_DIR (16 R474). -/
  errDir : Bool := false
  /-- ERR_RESP (16 R474). -/
  errResp : Nat := 0
  /-- DESC_CODE (16 R474). -/
  descCode : Nat := 0
  /-- ERR_ADDR (16 R472). -/
  errAddr : Nat := 0
  /-- PROGRESS [23:0] (16 R472). -/
  progBytes : Nat := 0
  /-- PROGRESS [63:24] (16 R472). -/
  progDescs : Nat := 0
  /-- bytes of the source already requested (16 R465). -/
  rdPos : Nat := 0
  /-- bytes of the destination already issued (16 R465). -/
  wrPos : Nat := 0
  /-- end of the present chunk (16 R465). -/
  chunkEnd : Nat := 0
  /-- buffered bytes, oldest first (16 R465). -/
  buf : List Byte := []
  /-- requests issued and not answered, in order of issue (16 R465). -/
  out : List DReq := []
  /-- words of the next descriptor still to request (0 none) (16 R468). -/
  fetching : Nat := 0
  /-- words of the next descriptor received (16 R468). -/
  fetchGot : List Nat := []
  /-- ERR_KIND with which the channel ends once its responses are collected (0 none) (16 R470). -/
  ending : Nat := 0
  /-- requests issued in the present window (16 R467). -/
  used : Nat := 0
  /-- a device use waits for the present descriptor (16 R460). -/
  hostDue : Bool := false
  /-- STATE that stands again when a device use ends (16 R460). -/
  prior : Nat := 0
  deriving DecidableEq, Repr

/-- DMA engine. -/
structure Dma where
  /-- channels (16 R459). -/
  ch : List DmaCh := (List.replicate 16 {})
  /-- DMA_CTL.DISABLE (16 R471). -/
  disable : Nat := 0
  /-- channel that issued last (16 R466). -/
  lastCh : Nat := 0
  /-- that channel is inside a chunk (16 R466). -/
  chunkLeft : Bool := false
  /-- share windows since the release of FAB (16 R467). -/
  windowNo : Nat := 0
  /-- (channel, use) of device uses: 1 hand-over, 2 engine reload, 3 table load, 4 flash write (16 R460). -/
  internalFor : List (Nat × Nat) := []
  deriving DecidableEq, Repr

/-- A flash header entry (R498). -/
structure HdrEntry where
  /-- ACTIVE (17 R498). -/
  active : Nat := 1
  /-- FIXED (17 R498). -/
  fixed : Nat := 0
  /-- ENTRY (17 R498). -/
  entry : Nat := 0
  /-- BOOT (17 R498). -/
  boot : Nat := 0
  /-- COMMISSIONED (17 R498). -/
  commissioned : Nat := 0
  deriving DecidableEq, Repr

/-- A copy of the defaults area (R499). -/
structure DefCopy where
  /-- header, CRC and MARK correct (17 R499). -/
  valid : Bool := false
  /-- STORE (17 R499). -/
  store : Nat := 0
  /-- values by key index*256+subindex, in the order stored (17 R499). -/
  entries : List (Nat × List Byte) := []
  deriving DecidableEq, Repr

/-- A record of the recorder (R477); CHECK is computed from the other bytes. -/
structure Record where
  /-- CODE (17 R477). -/
  code : Nat := 0
  /-- SEV (17 R477). -/
  sev : Nat := 0
  /-- FLAGS (17 R477). -/
  flags : Nat := 0
  /-- PART (17 R477). -/
  part : Nat := 0xFF
  /-- NODE (17 R477). -/
  node : Nat := 0
  /-- GEN (17 R477). -/
  gen : Nat := 0
  /-- TIME (17 R477). -/
  time : Nat := 0
  /-- FRACTION (17 R477). -/
  frac : Nat := 0
  /-- SEQ (17 R477). -/
  seq : Nat := 0
  /-- ARG0 (17 R477). -/
  arg0 : Nat := 0
  /-- ARG1 (17 R477). -/
  arg1 : Nat := 0
  /-- MARK (17 R477). -/
  mark : Nat := 0xA5
  deriving DecidableEq, Repr

/-- A slot of a flash event area. -/
structure FSlot where
  /-- the valid record it holds (17 R493). -/
  held : Option Record := none
  /-- holds programmed bytes without a valid record (17 R493). -/
  spoiled : Bool := false
  deriving DecidableEq, Repr

/-- A flash operation in progress or waiting (R503). -/
structure FOp where
  /-- order of service 1-7 (17 R503). -/
  cls : Nat := 0
  /-- an erase rather than a program (17 R503). -/
  erase : Bool := false
  /-- flash address (17 R497). -/
  addr : Nat := 0
  /-- 0 circulating program, 1 circulating erase, 2 fixed program, 3 commissioning (17 R503). -/
  kind : Nat := 0
  /-- clock at which its present attempt began (17 R503). -/
  since : Nat := 0
  /-- attempts after a timeout (17 R503). -/
  tries : Nat := 0
  deriving DecidableEq, Repr

/-- Flash port and the non-volatile store behind it. -/
structure Flash where
  /-- a flash device answers (02 R29, R30). -/
  present : Bool := true
  /-- boot record copy A (17 R497). -/
  bootA : List Byte := []
  /-- boot record copy B (17 R497). -/
  bootB : List Byte := []
  /-- valid header entries, newest first (17 R498). -/
  hdr : List HdrEntry := []
  /-- defaults copy A (17 R499). -/
  defA : DefCopy := {}
  /-- defaults copy B (17 R499). -/
  defB : DefCopy := {}
  /-- identity section (17 R500). -/
  serial : Option Nat := none
  /-- gauge placement: gauge, X, Y, kind, group, absent (17 R500). -/
  placement : List (Nat × Nat × Nat × Nat × Nat × Bool) := []
  /-- gauge calibration A: gauge, gain, offset (17 R500). -/
  calA : List (Nat × Nat × Int) := []
  /-- STORE of gauge calibration A (17 R500). -/
  calAStore : Nat := 0
  /-- gauge calibration B (17 R500). -/
  calB : List (Nat × Nat × Int) := []
  /-- STORE of gauge calibration B (17 R500). -/
  calBStore : Nat := 0
  /-- region calibration: region, shim trim, kerf trim, conductance (17 R500). -/
  regionCal : List (Nat × Int × Int × Nat) := []
  /-- estimator set (17 R500). -/
  estSet : List Byte := []
  /-- last-fault slots (07 R229, 17 R497). -/
  lastFault : List (Option LastFault) := (List.replicate 32 none)
  /-- slots that hold last-fault records, newest first (07 R229). -/
  lfOrder : List Nat := []
  /-- fixed event area, the slots written so far in order (17 R497). -/
  fixed_ : List FSlot := []
  /-- circulating area: (slot, content), newest first (17 R494). -/
  circ : List (Nat × FSlot) := []
  /-- next slot of the circulating area (17 R495). -/
  circNext : Nat := 0
  /-- the sector of circNext has been erased for its first slot (17 R494). -/
  circFresh : Bool := false
  /-- next flash sequence number (17 R495). -/
  seqNext : Nat := 1
  /-- FIXED_OPEN (17 R505). -/
  fixedOpen : Bool := false
  /-- NV_READY (17 R505). -/
  nvReady : Bool := false
  /-- operation in progress (17 R505). -/
  busy : Option FOp := none
  /-- waiting operations (17 R503). -/
  waiting : List FOp := []
  /-- consecutive failed operations (17 R503). -/
  failRun : Nat := 0
  /-- timeouts of the present operation of a boot-record, defaults, calibration or image write (17 R503). -/
  slowTries : Nat := 0
  /-- boot-record write: 0 none or the state of 0x9002.02 (17 R501). -/
  bootWrite : Nat := 0
  /-- record being written (17 R501). -/
  bootNew : List Byte := []
  /-- firmware slot A (17 R497). -/
  imgA : Image := {}
  /-- firmware slot B (17 R497). -/
  imgB : Image := {}
  /-- state of a flash image write, 0x2301.05 (14 R422). -/
  imgCopy : Nat := 0
  /-- its error, 0x2301.06 (14 R422). -/
  imgErr : Nat := 0
  deriving DecidableEq, Repr

/-- A cursor: blocks 0-63, the management port's and firmware's. -/
structure Cursor where
  /-- NEXT (17 R489). -/
  next : Nat := 1
  /-- SOURCE (17 R489). -/
  source : Nat := 0
  /-- MIN_SEV (17 R489). -/
  minSev : Nat := 0
  /-- GAP, W1C (17 R489). -/
  gap : Bool := false
  /-- LOST (17 R489). -/
  lost : Nat := 0
  /-- GEN_SEL (17 R489). -/
  genSel : Nat := 0
  /-- RECORD (17 R489). -/
  record : Option Record := none
  deriving DecidableEq, Repr

/-- Event recorder. -/
structure Rec where
  /-- input queue (17 R485). -/
  inQ : List Event := []
  /-- events dropped and not yet reported (17 R485). -/
  inDrop : Nat := 0
  /-- device ring, newest first (17 R486). -/
  dev : List Record := []
  /-- next SEQ of the device ring (17 R487). -/
  devSeq : Nat := 1
  /-- partition rings, newest first (entry 0 unused) (17 R486). -/
  rings : List (List Record) := (List.replicate 64 [])
  /-- next SEQ of each partition ring (17 R487). -/
  ringSeq : List Nat := (List.replicate 64 1)
  /-- flash queue, oldest first (17 R492). -/
  fq : List Record := []
  /-- records kept from flash and not yet reported (17 R492). -/
  nvDrop : Nat := 0
  /-- failed attempts of the record at the head (17 R493). -/
  nvTries : Nat := 0
  /-- REC_STAT bits 8-10, W1C (17 R505). -/
  flags : Nat := 0
  /-- cursor blocks 0-63, then 0x9010 and 0x9011 (17 R489, R491). -/
  cursors : List Cursor := ((List.range 64).map (fun p => ({ source := p } : Cursor))) ++ [({} : Cursor), {}]
  /-- calendar time is set (17 R483, R505). -/
  timeSet : Bool := false
  /-- calendar seconds (00 R14, 17 R483). -/
  calSec : Nat := 0
  /-- calendar fraction, 2^-48 s (17 R484). -/
  calFrac : Nat := 0
  deriving DecidableEq, Repr

/-- Observation: counters, Scribe, map dumps, graph, global stop. -/
structure Obs where
  /-- CNT_SEL registers (18 R509). -/
  cntSel : List Nat := (List.replicate 16 0xFF00)
  /-- counters (18 R508). -/
  cnt : List Nat := (List.replicate 20 0)
  /-- shadow bank (18 R510). -/
  shadow : List Nat := (List.replicate 20 0)
  /-- SNAP_SEQ (18 R510). -/
  snapSeq : Nat := 0
  /-- SNAP_TICK (18 R510). -/
  snapTick : Nat := 0
  /-- Scribe: 0 idle, 1 armed, 2 triggered, 3 done (18 R514). -/
  scrState : Nat := 0
  /-- pre-trigger records, oldest first (128-bit words) (18 R514). -/
  scrPre : List Nat := []
  /-- TRIGGER record and those after it, oldest first (18 R514). -/
  scrPost : List Nat := []
  /-- records taken into the input queue at the moment scrNowAt (18 R513). -/
  scrNow : Nat := 0
  /-- clock of the latest of them (18 R513). -/
  scrNowAt : Nat := 0
  /-- a trigger met during a stop is taken at release (18 R529). -/
  scrWait : Bool := false
  /-- records lost since the last record written (18 R513). -/
  scrLost : Nat := 0
  /-- stamp of the first of them (18 R513). -/
  scrLostAt : Nat := 0
  /-- matches since arming (18 R515). -/
  scrOcc : Nat := 0
  /-- clock of the last TIME record (18 R513). -/
  scrTimeAt : Nat := 0
  /-- SCR_PAGE.PAGE (18 R516). -/
  scrPage : Nat := 0
  /-- a trigger's stop request waits for the graph (18 R515). -/
  graphDue : Bool := false
  /-- map dump: 0 idle, 1 armed, 2 copying, 3 done (18 R517). -/
  dumpState : Nat := 0
  /-- its moment has come (18 R517). -/
  dumpMoment : Bool := false
  /-- MOMENT_TICK (18 R518). -/
  dumpMomentAt : Nat := 0
  /-- matching markers since arming (18 R517). -/
  dumpOcc : Nat := 0
  /-- dump slots, bytes (18 R518). -/
  dumpSlots : List (List Nat) := [[], [], [], []]
  /-- graph state (18 R519). -/
  graphState : Nat := 0
  /-- START_TICK (18 R520). -/
  graphStartAt : Nat := 0
  /-- the graph area, 64-bit words (18 R520). -/
  graphArea : List Nat := []
  /-- STOP_STAT.STOPPED (18 R523). -/
  stopped : Bool := false
  /-- the standing-still parts have received STOP_IN (18 R521). -/
  standing : Bool := false
  /-- RESTARTING (18 R523). -/
  restarting : Bool := false
  /-- STOP_STAT.REQ (18 R523). -/
  req : Bool := false
  /-- TRIG_REQ (18 R523). -/
  trigReq : Bool := false
  /-- STOP_STAT bits 8-12, W1C (18 R523). -/
  flags : Nat := 0
  /-- CROSSINGS (18 R523). -/
  crossings : Nat := 0
  /-- SMEAR (18 R523). -/
  smear : Nat := 0
  /-- STOP_CUT (18 R523). -/
  cuts : List Nat := [0, 0, 0]
  /-- clock at which STOP_IN was delivered (18 R524). -/
  stopInAt : Nat := 0
  /-- clock at which the stop was delivered (18 R531). -/
  stopAt : Nat := 0
  /-- DBG_ADDR (18 R525). -/
  dbgAddr : Nat := 0
  /-- debug queue: index, subindex, value (18 R525). -/
  dbgQ : List (Nat × Nat × List Byte) := []
  /-- entries applied at the latest release (18 R525). -/
  dbgApplied : Nat := 0
  /-- abort code of the latest aborted entry (18 R525). -/
  dbgAbort : Nat := 0
  /-- SCAN_SEL (18 R527). -/
  scanSel : Nat := 0
  deriving DecidableEq, Repr

/-- One auxiliary regulator as the PMBus host knows it. -/
structure Pmb where
  /-- exponent of VOUT_MODE (19 R549). -/
  exp : Int := 0
  /-- VOUT_MODE is in linear mode (19 R549). -/
  linear : Bool := true
  /-- STATUS_WORD of the latest poll (19 R551). -/
  status : Nat := 0
  /-- READ_VOUT (19 R554). -/
  vout : Nat := 0
  /-- READ_VIN (19 R554). -/
  vin : Nat := 0
  /-- READ_IOUT (19 R554). -/
  iout : Int := 0
  /-- READ_TEMPERATURE_1 (19 R554). -/
  temp : Int := 0
  /-- consecutive failed polls (19 R550). -/
  fails : Nat := 0
  deriving DecidableEq, Repr

/-- Management port and PMBus host. -/
structure Mgt where
  /-- MODE (19 R553). -/
  i3c : Bool := false
  /-- DYN_ADDR (19 R553). -/
  dynAddr : Nat := 0
  /-- events enabled (ENEC, DISEC) (19 R547, R534). -/
  ibiOn : Bool := true
  /-- EID in use, 0 none (19 R553). -/
  eid : Nat := 0
  /-- TID (19 R544). -/
  tid : Nat := 0
  /-- maximum write length (19 R534). -/
  mwl : Nat := 72
  /-- maximum read length (19 R534). -/
  mrl : Nat := 72
  /-- packet waiting for fetch (19 R532). -/
  rsp : Option (List Byte) := none
  /-- clock at which it began to wait (19 R532). -/
  rspAt : Nat := 0
  /-- the waiting packet makes an alert pending (19 R547). -/
  rspAlert : Bool := false
  /-- a Cut List request of the port is in service (19 R538). -/
  busy : Bool := false
  /-- MCTP and message fields the response echoes (19 R540). -/
  reqHdr : List Byte := []
  /-- a record alert is pending (19 R547). -/
  alertRec : Bool := false
  /-- highest SEV pending (19 R547). -/
  alertSev : Nat := 0
  /-- alerting records since the last acknowledged interrupt (19 R547). -/
  alertCnt : Nat := 0
  /-- MGT_ALERT_N (02 table, 19 R547). -/
  alertN : Bool := true
  /-- clock at which the alert is raised again (19 R547). -/
  retryAt : Option Nat := none
  /-- bytes the port last drove on the bus (19 R533). -/
  busOut : List Byte := []
  /-- the last transaction was NACKed (19 R533). -/
  nack : Bool := false
  /-- MGT_STAT bits 8-12, W1C (19 R553). -/
  flags : Nat := 0
  /-- auxiliary regulators (19 R548). -/
  pmb : List Pmb := (List.replicate 8 {})
  /-- latest commands of the PMBus host: device, command, data (19 R548). -/
  pmbOut : List (Nat × Nat × Nat) := []
  /-- clock of the latest poll (19 R550). -/
  pollAt : Option Nat := none
  deriving DecidableEq, Repr

/-- Violation log. -/
structure Viol where
  /-- VIOL, W1C (20 R566). -/
  viol : Bool := false
  /-- SUPPRESS, W1C (20 R566). -/
  suppress : Bool := false
  /-- FIRST_VALID (20 R566). -/
  firstValid : Bool := false
  /-- LAST_PART (20 R566). -/
  lastPart : Nat := 0
  /-- COUNT (20 R566). -/
  count : Nat := 0
  /-- SEQ of the latest entry (20 R567). -/
  seq : Nat := 0
  /-- VIOL_FIRST word A (20 R567). -/
  firstA : Nat := 0
  /-- VIOL_FIRST word B (20 R567). -/
  firstB : Nat := 0
  /-- VIOL_LAST word A (20 R567). -/
  lastA : Nat := 0
  /-- VIOL_LAST word B (20 R567). -/
  lastB : Nat := 0
  /-- (partition, clock) of its latest ACCESS_VIOLATION (20 R564). -/
  evAt : List (Nat × Nat) := []
  /-- (partition, violations suppressed since) (20 R564). -/
  evSupp : List (Nat × Nat) := []
  deriving DecidableEq, Repr

/-- Fabric target port. -/
structure Host_ where
  /-- FT_RSP_CODE of the latest response (02 R23). -/
  rspCode : Nat := 0
  /-- FT_RSP_TAG of the latest response (02 R22). -/
  rspTag : Nat := 0
  /-- FT_RDATA of the latest response (02 R22). -/
  rdata : Nat := 0
  /-- generation of each partition (20 R555). -/
  gens : List Nat := (List.replicate 64 1)
  /-- violation log (20 R566). -/
  viol : Viol := {}
  deriving DecidableEq, Repr

/-- What the instance is built as (R53, R108). -/
structure Inst where
  /-- satellite instance (02 R53, 04 R108). -/
  sat : Bool := false
  /-- gauge cells (02 R51, R53). -/
  gauges : Nat := 1280
  deriving DecidableEq, Repr

/-- Why a command ends the run. No meaning of this model raises it: it stands for the closed set of faults, which is
empty of causes here. Safe: the machine would stop where the hardware goes on. -/
inductive Fault where
  /-- Raised by no command: every command of the manual has an effect (safe). -/
  | none
  deriving DecidableEq, Repr

/-- Why a command has no meaning. -/
inductive Refusal where
  /-- The command has no meaning in this model yet (safe: the run stops). Every command of the table has its meaning, so no arm of `exec` raises it. -/
  | notModelled (mnemonic : String)
  deriving DecidableEq, Repr

/-- The whole state of one instance of the block. -/
structure State where
  /-- always-on island, bring-up sequencer and sideband pins. -/
  aon : Aon := {}
  /-- stored Cut List values. -/
  obj : Obj := {}
  /-- Cut List engine. -/
  cl : ClEng := {}
  /-- Batten chain port and membership. -/
  chain : Chain := {}
  /-- rail controllers 0-5. -/
  rails : List Rail := List.replicate 6 {}
  /-- phase outputs 0-15. -/
  phases : List Phase := List.replicate 16 {}
  /-- protection state of the instance. -/
  prot : Prot := {}
  /-- schedule-locked feed-forward. -/
  ff : Ff := {}
  /-- region cells 0-255. -/
  regions : List Region := List.replicate 256 {}
  /-- state common to the shims and kerf units. -/
  shim : Shim := {}
  /-- clock, droop and DVFS unit. -/
  clk : Clk := {}
  /-- power estimator, cap controller, budgets and arbiter. -/
  cap : Cap := {}
  /-- the Clamp. -/
  cla : Clamp := {}
  /-- Dovetail. -/
  dove : Dove := {}
  /-- thermal unit. -/
  therm : Therm := {}
  /-- Dowel engines and jigs. -/
  dowel : Dowel := {}
  /-- synchronisation unit. -/
  sync : Sync := {}
  /-- DMA engine. -/
  dma : Dma := {}
  /-- event recorder. -/
  rcd : Rec := {}
  /-- flash port and non-volatile store. -/
  flash : Flash := {}
  /-- observation. -/
  obs : Obs := {}
  /-- management port and PMBus host. -/
  mgt : Mgt := {}
  /-- fabric target port. -/
  host : Host_ := {}
  /-- what the instance is built as. -/
  inst : Inst := {}
  /-- the model's own: how many free values have been taken (the manual names no such register). -/
  free : Nat := 0
  /-- the model's own: commands that wait, first in, first out. -/
  pending : List Instr := []
  deriving DecidableEq, Repr

/-- The machine right after reset: VDD_AON within its limits, POR_N low, every island in its reset state (R20, R21,
R56), nothing in any queue, every object at its default. -/
def State.reset : State := {}

end Sys2Proof.Machine
end

