-- ==== Sys2Proof/Machine/Ops.lean ====
section
/-! DEFINITION. Named operations on the state: bit fields and byte orders, the stored objects, counters, the passing of
time, events and readiness. -/

namespace Sys2Proof.Machine

open Sys2Proof

/-! Bits and bytes. -/

/-- The field [hi:lo] of a word (R7). -/
def bits (x hi lo : Nat) : Nat := x / 2 ^ lo % 2 ^ (hi + 1 - lo)

/-- Bit n of a word (R7). -/
def bit (x n : Nat) : Bool := decide (x / 2 ^ n % 2 = 1)

/-- The word with bit n set or cleared. -/
def putBit (x n : Nat) (b : Bool) : Nat :=
  x - x / 2 ^ n % 2 * 2 ^ n + (if b then 2 ^ n else 0)

/-- A Boolean as a bit. -/
def b2n (b : Bool) : Nat := if b then 1 else 0

/-- The bits below n of a word. -/
def bitsOf (n x : Nat) : List Nat := (List.range n).filter (fun k => bit x k)

/-- The mask of the given bit numbers. -/
def maskOf (l : List Nat) : Nat := l.foldl (fun a k => putBit a k true) 0

/-- A little-endian value (R6). -/
def leVal : List Byte → Nat
  | [] => 0
  | b :: bs => b.toNat + 256 * leVal bs

/-- The n bytes of a value, little-endian (R6). -/
def leBytes : Nat → Nat → List Byte
  | 0, _ => []
  | n + 1, v => BitVec.ofNat 8 v :: leBytes n (v / 256)

/-- A two's complement value of n bits as an integer. -/
def sx (n x : Nat) : Int :=
  if x % 2 ^ n < 2 ^ (n - 1) then Int.ofNat (x % 2 ^ n) else Int.ofNat (x % 2 ^ n) - 2 ^ n

/-- The two's complement encoding of an integer in n bits. -/
def ux (n : Nat) (v : Int) : Nat := (v % 2 ^ n).toNat

/-- The little-endian value of n bytes at an offset of a byte list. -/
def leAt (l : List Byte) (o n : Nat) : Nat := leVal ((l.drop o).take n)

/-- The value held between two bounds. -/
def clampI (lo hi v : Int) : Int := if v < lo then lo else if hi < v then hi else v

/-- The quotient rounded half up (R330). -/
def divHalfUp (a : Int) (b : Nat) : Int := (2 * a + b) / (2 * b)

/-- One reflected bit step of the CRC-32 of IEEE 802.3 (R573). -/
def crcBit : Nat → Nat → Nat
  | 0, c => c
  | n + 1, c => crcBit n (if c % 2 = 1 then Nat.xor (c / 2) 0xEDB8_8320 else c / 2)

/-- CRC-32 of a byte list (R573). -/
def crc32 (l : List Byte) : Nat :=
  Nat.xor (l.foldl (fun c b => crcBit 8 (Nat.xor c b.toNat)) 0xFFFF_FFFF) 0xFFFF_FFFF

/-- One bit step of the CRC-8 of a record (R477). -/
def crc8Bit : Nat → Nat → Nat
  | 0, c => c
  | n + 1, c => crc8Bit n (if c / 128 % 2 = 1 then Nat.xor (c * 2 % 256) 0x07 else c * 2 % 256)

/-- CHECK of a record (R477). -/
def crc8 (l : List Byte) : Nat := l.foldl (fun c b => crc8Bit 8 (Nat.xor c b.toNat)) 0

/-! Lists of numbered things. -/

/-- The value under a key. -/
def kvGet {α : Type} : List (Nat × α) → Nat → Option α
  | [], _ => none
  | (k, v) :: l, n => if k = n then some v else kvGet l n

/-- The list with a value put under a key; keys strictly rising stay so. -/
def kvPut {α : Type} : List (Nat × α) → Nat → α → List (Nat × α)
  | [], n, v => [(n, v)]
  | (k, w) :: l, n, v =>
    if n < k then (n, v) :: (k, w) :: l else if n = k then (n, v) :: l else (k, w) :: kvPut l n v

/-- The list without a key. -/
def kvDel {α : Type} : List (Nat × α) → Nat → List (Nat × α)
  | [], _ => []
  | (k, w) :: l, n => if n = k then l else (k, w) :: kvDel l n

/-- Keys strictly rising. -/
def kvSorted {α : Type} : List (Nat × α) → Bool
  | [] => true
  | [_] => true
  | (k, _) :: (k', w) :: l => decide (k < k') && kvSorted ((k', w) :: l)

/-- Rail controller k. -/
def State.rail (s : State) (k : Nat) : Rail := s.rails.getD k {}

/-- The state with rail controller k changed. -/
def State.updRail (s : State) (k : Nat) (f : Rail → Rail) : State := { s with rails := s.rails.modify k f }

/-- Phase n. -/
def State.phase (s : State) (n : Nat) : Phase := s.phases.getD n {}

/-- The state with phase n changed. -/
def State.updPhase (s : State) (n : Nat) (f : Phase → Phase) : State := { s with phases := s.phases.modify n f }

/-- The flash as the sequencer and the units read it: without a device, or under STRAP_BOOT 0b10, nothing that is valid
(R30, R32, R59). -/
def State.flashRead (s : State) : Flash := if s.flash.present && s.aon.strapBoot != 2 then s.flash else {}

/-- Region n. -/
def State.region (s : State) (n : Nat) : Region := s.regions.getD n {}

/-- The state with region n changed. -/
def State.updRegion (s : State) (n : Nat) (f : Region → Region) : State := { s with regions := s.regions.modify n f }

/-- Partition p's estimate and telemetry. -/
def State.partEst (s : State) (p : Nat) : PartEst := s.cap.parts.getD p {}

/-- Program slot n. -/
def State.fslot (s : State) (n : Nat) : Slot := s.ff.slots.getD n {}

/-- Engine e. -/
def State.engine (s : State) (e : Nat) : Engine := s.dowel.engines.getD e {}

/-- The state with engine e changed. -/
def State.updEngine (s : State) (e : Nat) (f : Engine → Engine) : State :=
  { s with dowel := { s.dowel with engines := s.dowel.engines.modify e f } }

/-- Jig slot j. -/
def State.jig (s : State) (j : Nat) : Jig := s.dowel.jigs.getD j {}

/-- The state with jig slot j changed. -/
def State.updJig (s : State) (j : Nat) (f : Jig → Jig) : State :=
  { s with dowel := { s.dowel with jigs := s.dowel.jigs.modify j f } }

/-- DMA channel c. -/
def State.dmaCh (s : State) (c : Nat) : DmaCh := s.dma.ch.getD c {}

/-- The state with DMA channel c changed. -/
def State.updDma (s : State) (c : Nat) (f : DmaCh → DmaCh) : State :=
  { s with dma := { s.dma with ch := s.dma.ch.modify c f } }

/-! Stored objects. -/

/-- The store's key of an object. -/
def okey (i sub : Nat) : Nat := i * 256 + sub

/-- The number in an object's Default column (0 where it shows none). -/
def dfNum (i sub : Nat) : Int :=
  match dictRow i sub with
  | some r => r.df
  | none => 0

/-- The stored number of an object, or its built-in default. -/
def State.num (s : State) (i sub : Nat) : Int :=
  match kvGet s.obj.nums (okey i sub) with
  | some v => v
  | none => dfNum i sub

/-- The stored number of an unsigned object. -/
def State.pn (s : State) (i sub : Nat) : Nat := (s.num i sub).toNat

/-- The state with a number stored. -/
def State.put (s : State) (i sub : Nat) (v : Int) : State :=
  { s with obj := { s.obj with nums := kvPut s.obj.nums (okey i sub) v } }

/-- The stored octets of an object, or none while it stands at its default. -/
def State.dom (s : State) (i sub : Nat) : Option (List Byte) := kvGet s.obj.doms (okey i sub)

/-- The state with octets stored. -/
def State.putDom (s : State) (i sub : Nat) (v : List Byte) : State :=
  { s with obj := { s.obj with doms := kvPut s.obj.doms (okey i sub) v } }

/-- A count that saturates at 2^32 - 1. -/
def State.bump32 (s : State) (i sub : Nat) : State := s.put i sub (min 0xFFFF_FFFF (s.num i sub + 1))

/-- A count that saturates at 2^16 - 1. -/
def State.bump16 (s : State) (i sub : Nat) : State := s.put i sub (min 0xFFFF (s.num i sub + 1))

/-- A count that wraps at 2^64, raised by n. -/
def State.add64 (s : State) (i sub n : Nat) : State := s.put i sub ((s.num i sub + n) % 2 ^ 64)

/-- A count that saturates at 2^32 - 1, raised by n. -/
def State.add32 (s : State) (i sub n : Nat) : State := s.put i sub (min 0xFFFF_FFFF (s.num i sub + n))

/-- The next free value of the model (log entry 4). -/
def State.takeFree (s : State) : State := { s with free := s.free + 1 }

/-! Counters of the observation unit (R508, R509). -/

/-- Counter n counts d events of a source that concern partition p (0xFF: no partition). -/
def countOne (code p d sel c : Nat) : Nat :=
  if sel % 64 = code && (sel / 256 = 0xFF || sel / 256 = p) then (c + d) % 2 ^ 64 else c

/-- Every programmable counter that selects the source counts d events of partition p. -/
def State.countP (s : State) (code p d : Nat) : State :=
  let l := (s.obs.cntSel.zip (s.obs.cnt.take 16)).map (fun x => countOne code p d x.1 x.2)
  { s with obs := { s.obs with cnt := l ++ s.obs.cnt.drop 16 } }

/-- Every programmable counter that selects the source (not marked P) counts d events. -/
def State.count (s : State) (code d : Nat) : State :=
  let l := (s.obs.cntSel.zip (s.obs.cnt.take 16)).map
    (fun x => if x.1 % 64 = code then (x.2 + d) % 2 ^ 64 else x.2)
  { s with obs := { s.obs with cnt := l ++ s.obs.cnt.drop 16 } }

/-- Fixed counter n counts d events. -/
def State.countFixed (s : State) (n d : Nat) : State :=
  { s with obs := { s.obs with cnt := s.obs.cnt.modify n (fun c => (c + d) % 2 ^ 64) } }

/-! Time. -/

/-- Microseconds in CTL cycles of 2.5 ns (R13, R20). -/
def us (n : Nat) : Nat := 400 * n

/-- Milliseconds in CTL cycles. -/
def ms (n : Nat) : Nat := 400000 * n

/-- The tick count (R13, R54). -/
def State.tick (s : State) : Nat := s.aon.clock / 4

/-- The nominal or measured frequency of the selected tile source in kHz (R288). -/
def State.tileKhz (s : State) : Nat :=
  let q := if s.clk.tileB then s.clk.pllB else s.clk.pllA
  if q.freq = 0 then 1000 * s.pn 0x2200 (if s.clk.tileB then 2 else 1) else q.freq

/-- The tile clock's count stands still: TCLK_OUT is stopped (R575). -/
def State.tileStopped (s : State) : Bool :=
  !s.clk.running || s.clk.stopHeld || s.clk.tripHeld

/-- The calendar's advance in one tick, in units of 2^-48 s (R484). -/
def State.calInc (s : State) : Nat :=
  let khz := s.pn 0x2200 6
  if s.aon.ctlReleased && !s.clk.ctlRc && khz != 0 then 2 ^ 48 / (1000 * khz) else 2 ^ 48 / 10 ^ 8

/-- Calendar time after n ticks (R484). -/
def elapseCalendar (n : Nat) (s : State) : State :=
  if s.rcd.timeSet then
    let f := s.rcd.calFrac + n * s.calInc
    { s with rcd := { s.rcd with calSec := (s.rcd.calSec + f / 2 ^ 48) % 2 ^ 64, calFrac := f % 2 ^ 48 } }
  else s

/-- Durations with the accruing ones raised by n (R326). -/
def accrue (accr n m : Nat) (l : List Nat) : List Nat :=
  l.mapIdx (fun k d => if bit accr k then (d + n) % 2 ^ m else d)

/-- The reasons' durations after n ticks; none accrues while the standing-still parts stand still (R326, R334). -/
def elapseReasons (n : Nat) (s : State) : State :=
  if s.obs.standing then s else
    { s with cap := { s.cap with
        dur := accrue s.cap.accr n 64 s.cap.dur
        durMs := accrue s.cap.accr n 32 s.cap.durMs
        parts := s.cap.parts.map (fun p => if p.accr = 0 then p else { p with dur := accrue p.accr n 64 p.dur }) } }

/-- Times that the objects report after n ticks: on the internal clock (0x2200.0D), stretching and holding (0x4001.07,
0x4001.08), held by the die (0x7001.07) and stopped (counter 17). -/
def elapseTimes (n : Nat) (s : State) : State :=
  let s := if s.clk.tileInt || s.clk.engInt then s.add64 0x2200 0x0D n else s
  let s := if s.regions.any (·.str) then s.add64 0x4001 7 n else s
  let s := if s.shim.hold then s.add64 0x4001 8 n else s
  let s := if s.cla.queue.any (fun q => q.reason = 2 || q.reason = 3) then s.add64 0x7001 7 n else s
  if s.obs.stopped then s.countFixed 17 n else s

/-- Active times of the phases after n ticks (0x3200.07): a phase is active while it is in the state active, code 3 (R158). -/
def elapsePhases (n : Nat) (s : State) : State :=
  (List.range 16).foldl (fun s k => if (s.phase k).state = 3 then s.add64 (0x3200 + k) 7 n else s) s

/-- Tile cycles after dt CTL cycles (R575, R288), and their counts as counters 1 and 2. -/
def elapseTiles (dt : Nat) (s : State) : State :=
  if s.tileStopped then s
  else if s.clk.tileInt then
    ({ s with clk := { s.clk with tileCycles := s.clk.tileCycles + dt } } : State).count 1 dt
  else if s.clk.m = 0 then s
  else
    let x := s.clk.tileFrac + dt * s.tileKhz * 16
    let d := s.clk.m * 400000
    let n := x / d
    ((({ s with clk := { s.clk with tileCycles := s.clk.tileCycles + n, tileFrac := x % d } } : State).count 1
      (n - n * s.clk.skip / 32)).count 2 (n * s.clk.skip / 32))

/-- dt CTL cycles pass. -/
def elapse (dt : Nat) (s : State) : State :=
  if !s.aon.porN then s else
    let n := (s.aon.clock + dt) / 4 - s.aon.clock / 4
    let s := elapseCalendar n s
    let s := elapseReasons n s
    let s := elapseTimes n s
    let s := elapsePhases n s
    let s := elapseTiles dt s
    { s with aon := { s.aon with clock := s.aon.clock + dt } }

/-- Time passes up to the moment t, if it has not come yet. -/
def advanceTo (t : Nat) (s : State) : State := if s.aon.clock < t then elapse (t - s.aon.clock) s else s

/-- Time passes until so many tile cycles have been counted, while they can be counted (R575). -/
def advanceTiles (c : Nat) (s : State) : State :=
  if s.tileStopped || c ≤ s.clk.tileCycles then s
  else if s.clk.tileInt then elapse (c - s.clk.tileCycles) s
  else if s.tileKhz = 0 || s.clk.m = 0 then s
  else elapse (((c - s.clk.tileCycles) * s.clk.m * 400000 - s.clk.tileFrac) / (s.tileKhz * 16) + 1) s

/-- The next boundary of a period: the present moment if it is one that has not been taken, else the next. -/
def State.nextBound (s : State) (per : Nat) (last : Option Nat) : Nat :=
  if s.aon.clock % per = 0 && last != some s.aon.clock then s.aon.clock else (s.aon.clock / per + 1) * per

/-- What a step does with no command waiting: one tick of 10 ns passes (log entry 1). -/
def idleTick (s : State) : State := elapse 4 s

/-! Events (R477, R479, R485, R60). -/

/-- Bit f of the READY mask (R80, R82). -/
def State.isReady (s : State) (f : Nat) : Bool := bit s.aon.ready f

/-- The generation of a partition; 0 for the device (R477). -/
def State.genOf (s : State) (p : Nat) : Nat := if p < 64 then s.host.gens.getD p 1 else 0

/-- The node address that records and messages carry: 0 before CHAIN is ready (R477). -/
def State.nodeAddr (s : State) : Nat := if s.isReady 8 then s.chain.addr else 0

/-- An event with the stamps of its capture (R479). -/
def State.stampEvent (s : State) (e : Event) : Event :=
  { e with clock := s.aon.clock, calSec := s.rcd.calSec, calFrac := s.rcd.calFrac / 2 ^ 16,
           timeSet := s.rcd.timeSet, node := s.nodeAddr, gen := s.genOf e.part }

/-- Take an event in: the early event buffer before RECORDER is ready (R60), the input queue of 64 after (R485). -/
def captureEvent (e : Event) (s : State) : State :=
  let e := s.stampEvent e
  if s.isReady 11 then
    if s.rcd.inQ.length < 64 then { s with rcd := { s.rcd with inQ := s.rcd.inQ ++ [e] } }
    else
      let s := (s.bump32 0x9000 3).bump32 0x9003 1
      { s with rcd := { s.rcd with inDrop := s.rcd.inDrop + 1, flags := putBit s.rcd.flags 0 true } }
  else if s.aon.earlyBuf.length < 32 then { s with aon := { s.aon with earlyBuf := s.aon.earlyBuf ++ [e] } }
  else { s with aon := { s.aon with earlyLost := s.aon.earlyLost + 1 } }

/-- An event of the device (PART 0xFF) with its arguments (R479, R482). -/
def raise (code sev arg0 arg1 : Nat) (s : State) : State :=
  captureEvent { code := code, sev := sev, part := 0xFF, arg0 := arg0, arg1 := arg1 } s

/-- An event that concerns a partition (R479). -/
def raiseP (code sev part arg0 arg1 : Nat) (s : State) : State :=
  captureEvent { code := code, sev := sev, part := part, arg0 := arg0, arg1 := arg1 } s

/-- FQ_IRQ is asserted. -/
def assertIrq (s : State) : State := { s with aon := { s.aon with fqIrq := true } }

/-! Readiness (R80, R81). -/

/-- A function reports ready: its stamp, then its bit, then the change count and the event. -/
def setReady (f : Nat) (s : State) : State :=
  if s.isReady f then s else
    raise 0x0101 0 f 1 { s with aon := { s.aon with
      stamps := s.aon.stamps.set f s.tick, ready := putBit s.aon.ready f true,
      changeCnt := (s.aon.changeCnt + 1) % 2 ^ 32 } }

/-- A function loses readiness; its stamp stays. -/
def clearReady (f : Nat) (s : State) : State :=
  if s.isReady f then
    raise 0x0101 0 f 0 { s with aon := { s.aon with
      ready := putBit s.aon.ready f false, changeCnt := (s.aon.changeCnt + 1) % 2 ^ 32 } }
  else s

/-- A clock enable of CLK_EN (R77). -/
def State.enabled (s : State) (b : Nat) : Bool := bit s.aon.clkEn b

/-- Set or clear a clock enable. -/
def State.setEnable (s : State) (b : Nat) (v : Bool) : State :=
  { s with aon := { s.aon with clkEn := putBit s.aon.clkEn b v } }

/-- The present instance is the root: its latched strap or an assumed role (R30, R153). -/
def State.isRoot (s : State) : Bool := s.chain.role = 1

/-- Apply an update to each of a list of numbers in turn. -/
def forEach (l : List Nat) (f : Nat → State → State) (s : State) : State := l.foldl (fun s k => f k s) s

end Sys2Proof.Machine
end

