-- ==== Sys2Proof/Machine/BootLib.lean ====
section
/-! DEFINITION. The boot record: its layout, its checks and the built-in record (R62, R63). -/

namespace Sys2Proof.Machine

open Sys2Proof

/-- Field X[k] of the controller entries of a boot record (R62). -/
def bootCtrl (l : List Byte) (k o n : Nat) : Nat := leAt l (8 + 16 * k + o) n

/-- The fields of a boot record (R62). -/
def bootParse (l : List Byte) : BootRec :=
  { phMask := (List.range 6).map (fun k => bootCtrl l k 0 2), setpoint := (List.range 6).map (fun k => bootCtrl l k 2 2),
    fsw := (List.range 6).map (fun k => bootCtrl l k 4 2), group := (List.range 6).map (fun k => bootCtrl l k 6 1),
    railId := (List.range 6).map (fun k => bootCtrl l k 7 1), shimSet := leAt l 0x68 2, kerfOfs := leAt l 0x6A 1,
    gdelay := (List.range 4).map (fun g => leAt l (0x6C + 4 * g) 2),
    gmode := (List.range 4).map (fun g => leAt l (0x6E + 4 * g) 1),
    gslew := (List.range 4).map (fun g => leAt l (0x6F + 4 * g) 1) }

/-- Controller k's entry lies in its ranges; an unused controller's FSW, GROUP and RAIL_ID are not checked (R62). -/
def bootCtrlOk (l : List Byte) (k : Nat) : Bool :=
  let m := bootCtrl l k 0 2
  let v := bootCtrl l k 2 2
  decide (bootCtrl l k 8 8 = 0) && decide ((m = 0) = (v = 0)) && decide ((bitsOf 16 m).length ≤ 12) &&
    (v = 0 || (decide (200 ≤ v) && decide (v ≤ 2000) && decide (400 ≤ bootCtrl l k 4 2) && decide (bootCtrl l k 4 2 ≤ 2000) &&
      decide (bootCtrl l k 6 1 ≤ 3) && decide (bootCtrl l k 7 1 ≤ 5)))

/-- Group g's entry lies in its ranges (R62). -/
def bootGroupOk (l : List Byte) (g : Nat) : Bool :=
  decide (leAt l (0x6C + 4 * g) 2 ≤ 100) && decide (leAt l (0x6E + 4 * g) 1 ≤ 1) &&
    decide (1 ≤ leAt l (0x6F + 4 * g) 1) && decide (leAt l (0x6F + 4 * g) 1 ≤ 100)

/-- SHIM_SET is 0, or 550 to 950 mV in steps of 5 (R62). -/
def shimSetOk (v : Nat) : Bool := v = 0 || (decide (550 ≤ v) && decide (v ≤ 950) && v % 5 = 0)

/-- No phase appears in two masks (R62). -/
def masksApart (l : List Byte) : Bool :=
  (List.range 16).all (fun n => decide (((List.range 6).filter (fun k => bit (bootCtrl l k 0 2) n)).length ≤ 1))

/-- A copy of the boot record passes every check of R62. -/
def bootValid (l : List Byte) : Bool :=
  l.length = 128 && leAt l 0 4 = 0x0B007C02 && leAt l 5 1 = 2 && leAt l 6 2 = 128 && leAt l 0x7C 4 = crc32 (l.take 0x7C) &&
  (List.range 6).all (bootCtrlOk l) && (List.range 4).all (bootGroupOk l) && shimSetOk (leAt l 0x68 2) &&
  decide (1 ≤ leAt l 0x6A 1) && decide (leAt l 0x6A 1 ≤ 25) && leAt l 0x6B 1 = 0 && masksApart l

/-- The bytes of a boot record up to its CRC. -/
def bootBody (r : BootRec) : List Byte :=
  leBytes 4 0x0B007C02 ++ leBytes 2 0x0200 ++ leBytes 2 128 ++
  ((List.range 6).map (fun k => leBytes 2 (r.phMask.getD k 0) ++ leBytes 2 (r.setpoint.getD k 0) ++
    leBytes 2 (r.fsw.getD k 0) ++ leBytes 1 (r.group.getD k 0) ++ leBytes 1 (r.railId.getD k 0) ++ leBytes 8 0)).flatten ++
  leBytes 2 r.shimSet ++ leBytes 1 r.kerfOfs ++ leBytes 1 0 ++
  ((List.range 4).map (fun g => leBytes 2 (r.gdelay.getD g 0) ++ leBytes 1 (r.gmode.getD g 0) ++
    leBytes 1 (r.gslew.getD g 0))).flatten

/-- The 128 bytes of a boot record. -/
def bootBytes (r : BootRec) : List Byte := bootBody r ++ leBytes 4 (crc32 (bootBody r))

/-- The built-in record of STRAP_BOOT 0b10 (R63, R32). -/
def builtinBoot : BootRec :=
  { phMask := [0x000F, 0x0010, 0x0020, 0x0040, 0, 0], setpoint := [750, 750, 750, 1200, 0, 0],
    fsw := [500, 500, 500, 500, 0, 0], group := [0, 0, 0, 0, 0, 0], railId := [0, 1, 2, 3, 0, 0],
    shimSet := 0, kerfOfs := 5, gdelay := [0, 0, 0, 0], gmode := [0, 0, 0, 0], gslew := [10, 10, 10, 10] }

/-- The record of the flash that the sequencer uses: copy A if valid, else copy B if valid (R62). -/
def State.flashBoot (s : State) : Option BootRec :=
  if bootValid s.flashRead.bootA then some (bootParse s.flashRead.bootA)
  else if bootValid s.flashRead.bootB then some (bootParse s.flashRead.bootB)
  else none

end Sys2Proof.Machine
end

