-- ==== Sys2Proof/Machine/Operands.lean ====
section
/-! DEFINITION. Operand forms: values of the Cut List types and the words of requests and packets as they travel. -/

namespace Sys2Proof.Machine

open Sys2Proof

/-! Abort codes (R118). -/

/-- LEVEL, NO_OBJECT and the others are written where they arise; RANGE and STATE end a write's own checks. -/
def abRange : Nat := 0x0609

/-- STATE. -/
def abState : Nat := 0x060A

/-! Values (R91). -/

/-- The size of a numeric type in bytes; none for STRING and DOMAIN. -/
def Ty.size : Ty → Option Nat
  | .u n => some n
  | .i n => some n
  | .uq m n => some ((m + n) / 8)
  | .sq m n => some ((m + n) / 8)
  | .str _ => none
  | .dom _ _ _ => none

/-- The type is signed. -/
def Ty.signed : Ty → Bool
  | .i _ => true
  | .sq _ _ => true
  | _ => false

/-- The number that a value's bytes carry. -/
def Ty.num (t : Ty) (b : List Byte) : Int :=
  if t.signed then sx (8 * b.length) (leVal b) else (leVal b : Nat)

/-- A number as the bytes of its type, little-endian. -/
def Ty.bytes (t : Ty) (v : Int) : List Byte :=
  let n := t.size.getD 0
  leBytes n (ux (8 * n) v)

/-- Store a written value as its row's type has it. -/
def storeVal (i sub : Nat) (v : Int) (b : List Byte) (s : State) : State :=
  match dictRow i sub with
  | some r => if r.ty.size.isSome then s.put i sub v else s.putDom i sub b
  | none => s

/-- A write that ends with RANGE where `c` fails. -/
def needRange (c : Bool) (k : Except Nat State) : Except Nat State := if c then k else .error abRange

/-- A write that ends with STATE where `c` fails. -/
def needState (c : Bool) (k : Except Nat State) : Except Nat State := if c then k else .error abState

/-- An integer within a span, for reports. -/
def held (lo hi v : Int) : Int := clampI lo hi v

/-! REQ words of a mailbox (R110). -/

/-- A request as the REQ register carries it: OPCODE, SUBINDEX, INDEX, LENGTH, LAST, SEQ and NODE. -/
def reqWord (op : Nat) (r : ClReq) : Nat :=
  op % 256 + 256 * (r.sub % 256) + 65536 * (r.idx % 65536) +
    2 ^ 32 * (r.len % 64 + 64 * b2n r.last) + 2 ^ 40 * (r.seq % 256) + 2 ^ 48 * (r.node % 32)

/-! PMBus numbers (R549). -/

/-- Mantissa and exponent as a value times k, exact and then rounded half up (R549). -/
def scaled (k m e : Int) : Int :=
  if 0 ≤ e then m * k * 2 ^ e.toNat else divHalfUp (m * k) (2 ^ (-e).toNat)

/-- A value in LINEAR11, exponent [15:11] and mantissa [10:0], both two's complement; the value times k. -/
def linear11 (k : Int) (w : Nat) : Int := scaled k (sx 11 w) (sx 5 (w / 2048))

/-- A value in ULINEAR16 with the exponent of VOUT_MODE; the value times k. -/
def ulinear16 (k exp : Int) (w : Nat) : Int := scaled k (w % 65536 : Nat) exp

end Sys2Proof.Machine
end

