-- ==== Sys2Proof/Machine/Flags.lean ====
section
/-! DEFINITION. Flags that software clears by writing 1 (R10): each is set by one operation here, which also raises the
flag's set counter, and cleared by `w1c`. -/

namespace Sys2Proof.Machine

open Sys2Proof

/-- What a write of `w` leaves of the flag bits `f` (R10): writing 1 clears. -/
def w1c (n f w : Nat) : Nat := maskOf ((List.range n).filter (fun k => bit f k && !bit w k))

/-- RAIL_FLT[k] bit n is set; its set counter is 0x3320 + k, subindex n + 1 (R231, R232). -/
def setRailFlt (k n : Nat) (s : State) : State :=
  (s.updRail k (fun r => { r with flt := putBit r.flt n true })).bump32 (0x3320 + k) (n + 1)

/-- KERF_STAT bit 8 + n is set; its set counter is 0x4002.01 + n (R282, R285). -/
def setKerfFlag (n : Nat) (s : State) : State :=
  ({ s with shim := { s.shim with flags := putBit s.shim.flags n true } } : State).bump32 0x4002 (n + 1)

/-- CLK_STAT bit 8 + n is set; its set counter is 0x2200.08 + n (R305, R306). -/
def setClkFlag (n : Nat) (s : State) : State :=
  ({ s with clk := { s.clk with flags := putBit s.clk.flags n true } } : State).bump32 0x2200 (8 + n)

/-- CAP_STAT bit 8 + n is set; its set counter is 0x6007.01 + n (R335, R337). -/
def setCapFlag (n : Nat) (s : State) : State :=
  ({ s with cap := { s.cap with flags := putBit s.cap.flags n true } } : State).bump32 0x6007 (n + 1)

/-- CLAMP_STAT bit 8 + n is set; its set counter is 0x7002.01 + n (R367, R369). -/
def setClampFlag (n : Nat) (s : State) : State :=
  ({ s with cla := { s.cla with flags := putBit s.cla.flags n true } } : State).bump32 0x7002 (n + 1)

/-- DOVE_STAT bit 8 + n is set; its set counter is 0x7103.01 + n (R368, R369). -/
def setDoveFlag (n : Nat) (s : State) : State :=
  ({ s with dove := { s.dove with flags := putBit s.dove.flags n true } } : State).bump32 0x7103 (n + 1)

/-- THERM_STAT bit 8 + n is set; its set counter is 0x5310.01 + n (R402, R405). -/
def setThermFlag (n : Nat) (s : State) : State :=
  ({ s with therm := { s.therm with flags := putBit s.therm.flags n true } } : State).bump32 0x5310 (n + 1)

/-- FF_STAT bit 16 + n is set; its set counter is 0x8040.0E + n (R256, R257). -/
def setFfFlag (n : Nat) (s : State) : State :=
  ({ s with ff := { s.ff with flags := putBit s.ff.flags n true } } : State).bump32 0x8040 (0x0E + n)

/-- DOWEL_STAT bit 8 + n is set; its set counter is 0x2300.0C + n (R430). -/
def setDowelFlag (n : Nat) (s : State) : State :=
  ({ s with dowel := { s.dowel with flags := putBit s.dowel.flags n true } } : State).bump32 0x2300 (0x0C + n)

/-- SYNC_STAT bit 8 + n is set; its set counter is 0x2402.01 + n (R456, R457). -/
def setSyncFlag (n : Nat) (s : State) : State :=
  ({ s with sync := { s.sync with flags := putBit s.sync.flags n true } } : State).bump32 0x2402 (n + 1)

/-- REC_STAT bit 8 + n is set; its set counter is 0x9003.01 + n (R505, R506). -/
def setRecFlag (n : Nat) (s : State) : State :=
  ({ s with rcd := { s.rcd with flags := putBit s.rcd.flags n true } } : State).bump32 0x9003 (n + 1)

/-- STOP_STAT bit 8 + n is set; its set counter is 0x9130.01 + n (R523, R530). -/
def setStopFlag (n : Nat) (s : State) : State :=
  ({ s with obs := { s.obs with flags := putBit s.obs.flags n true } } : State).bump32 0x9130 (n + 1)

/-- MGT_STAT bit 8 + n is set; its set counter is 0x2600.0A + n (R553, R554). -/
def setMgtFlag (n : Nat) (s : State) : State :=
  ({ s with mgt := { s.mgt with flags := putBit s.mgt.flags n true } } : State).bump32 0x2600 (0x0A + n)

/-- STRAPS.STEP_OVF is set and counted (R33, R39). -/
def setStepOvf (s : State) : State :=
  { s with aon := { s.aon with stepOvf := true, stepOvfCnt := min 0xFFFF (s.aon.stepOvfCnt + 1) } }

/-- STRAPS.BAR_EARLY is set and counted (R33, R41). -/
def setBarEarly (s : State) : State :=
  { s with aon := { s.aon with barEarly := true, barEarlyCnt := min 0xFFFF (s.aon.barEarlyCnt + 1) } }

end Sys2Proof.Machine
end

