-- ==== Sys2Proof/Machine/Predict.lean ====
section
/-! DEFINITION. What feed-forward predicts for a rail (R244 to R246) and the rail's current limits (R201), as functions of
the state. Currents of rails are in units of 0.1 A / 40,960; currents of steps in 1/256 A, which is 1,600 of them. -/

namespace Sys2Proof.Machine

open Sys2Proof

/-- Nanoseconds in CTL cycles, rounded down. -/
def nsCycles (n : Nat) : Nat := n * 2 / 5

/-- The current that a step predicts for controller k, in 1/256 A (R245). -/
def Ann.curOf (a : Ann) (k : Nat) : Option Nat :=
  if a.predicted then
    match a.cols.findIdx? (fun c => c = k) with
    | some c => some (a.cur.getD c 0)
    | none => none
  else none

/-- The voltage offset of a step for controller k, in mV (R238). -/
def Ann.vofsOf (a : Ann) (k : Nat) : Nat :=
  match a.cols.findIdx? (fun c => c = k) with
  | some c => a.vofs.getD c 0
  | none => 0

/-- The steps whose lookup has completed: the pending ones and the latest that left the queue by a match (R245). -/
def State.ffSteps (s : State) : List Ann := s.ff.annQ.filter (·.looked) ++ s.ff.lastDue

/-- The later of two steps by due time. -/
def laterDue (t : Nat) (b : Option Ann) (a : Ann) : Option Ann :=
  if a.due ≤ t then
    match b with
    | none => some a
    | some c => if c.due ≤ a.due then some a else some c
  else b

/-- The step in effect at t: the latest whose due time is at or before t (R245). -/
def State.stepAt (s : State) (t : Nat) : Option Ann := s.ffSteps.foldl (laterDue t) none

/-- The predicted current of rail k at t, in 1/256 A (R245). -/
def State.predAt (s : State) (k t : Nat) : Option Nat :=
  match s.stepAt t with
  | some a => a.curOf k
  | none => none

/-- The steps that rail k considers at boundary b (R246). -/
def State.considered (s : State) (k b : Nat) : List Ann :=
  (s.stepAt b).toList ++
    s.ffSteps.filter (fun a => decide (b < a.due) && decide (a.due ≤ b + nsCycles (s.pn (0x8100 + k) 1)))

/-- The horizon maximum of rail k at boundary b, in 1/256 A; none when no considered step predicts (R246). -/
def State.hMax (s : State) (k b : Nat) : Option Nat := ((s.considered k b).filterMap (fun a => a.curOf k)).max?

/-- The highest voltage offset among the considered steps that predict (R246). -/
def State.vofsMax (s : State) (k b : Nat) : Nat :=
  (((s.considered k b).filter (fun a => (a.curOf k).isSome)).map (fun a => a.vofsOf k)).foldl max 0

/-- The phases that controller k holds. -/
def State.phasesOf (s : State) (k : Nat) : List Nat :=
  (List.range 16).filter (fun n => decide ((s.phase n).ctrl = k))

/-- The phases of controller k in one of the given states (R158). -/
def State.phasesIn (s : State) (k : Nat) (st : List Nat) : List Nat :=
  (s.phasesOf k).filter (fun n => st.contains (s.phase n).state)

/-- A controller that drives a rail: it holds phases (R156). -/
def State.railUsed (s : State) (k : Nat) : Bool := !(s.phasesOf k).isEmpty

/-- The lowest-numbered used controller whose RAIL_ID is the given one (R262, R298). -/
def State.ctrlOf (s : State) (id : Nat) : Option Nat :=
  (List.range 6).find? (fun k => s.railUsed k && decide ((s.rail k).railId = id))

/-- I_lim of rail k (R201), in 0.1 A / 40,960. -/
def State.iLim (s : State) (k : Nat) : Int :=
  let nh := (s.phasesIn k [2, 3, 4]).length
  let ns := (s.phasesIn k [6]).length
  let derate := if s.prot.stgWarn then s.pn 0x3310 4 else 100
  Int.ofNat (s.pn (0x3300 + k) 1 * (4 * nh + 3 * ns) * derate * 40960 / 400)

/-- I_cont of rail k (R201). -/
def State.iCont (s : State) (k : Nat) : Int := s.iLim k * s.num (0x3300 + k) 2 / 100

/-- I_rail or the highest current predicted within the horizon exceeds I_cont (R217, R225). -/
def State.overCont (s : State) (k : Nat) : Bool :=
  decide (s.iCont k < (s.rail k).iRail) ||
    ((s.rail k).ffForce && (match s.hMax k s.aon.clock with
      | some i => decide (s.iCont k < 1600 * (i : Int))
      | none => false))

/-- Active and shedding phases of controller k (R192). -/
def State.nAct (s : State) (k : Nat) : Nat := (s.phasesIn k [3, 4]).length

/-- The mean of the latest 16 conversions of PS_TMON as a stage temperature, in 0.1 degrees C (R210, R34): 0.6 V at 0,
8 mV per degree; a conversion is in units of 0.5 mV. -/
def State.stageTemp (s : State) : Int :=
  let l := s.prot.tmon.take 16
  if l.isEmpty then 0 else ((l.foldl (· + ·) 0 : Nat) * 10 - 12000 * (l.length : Int)) / (16 * (l.length : Int))

/-- The working target of rail k in 1/256 mV: the highest of its requests between its minimum and maximum (R162). In
STARTING and STOPPING only the ramp counts, and the headroom request counts on the rail that R262 names. -/
def State.workTarget (s : State) (k : Nat) : Int :=
  let r := s.rail k
  if r.state = 1 || r.state = 4 then r.ref
  else
    let h := if r.railId = 0 && s.ctrlOf 0 = some k then r.headroom else 0
    let p := if r.ffForce then r.prepos else 0
    clampI (256 * s.num (0x3100 + k) 2) (256 * s.num (0x3100 + k) 3) (max r.setNow (max h p))

end Sys2Proof.Machine
end

