-- ==== Sys2Proof/Machine/Arb.lean ====
section
/-! DEFINITION. Throttle request words, their combination and the reasons that accrue (R321 to R328, R388), and the
points and goals that the clock unit takes from them (R296 to R302). -/

namespace Sys2Proof.Machine

open Sys2Proof

/-! Request words (R323). -/

/-- A request word: ceiling [4:0], skip [9:5], divide [10]. -/
def packWord (ceil skip : Nat) (div : Bool) : Nat := ceil % 32 + 32 * (skip % 32) + 1024 * b2n div

/-- The lowest ceiling, the highest skip and the OR of the divide bits of two words (R323). -/
def combWord (a b : Nat) : Nat :=
  packWord (min (bits a 4 0) (bits b 4 0)) (max (bits a 9 5) (bits b 9 5)) (bit a 10 || bit b 10)

/-- The combination of a list of words; none is 0x1F. -/
def combWords (l : List Nat) : Nat := l.foldl combWord 31

/-- A posted word as a number. -/
def ReqWord.word (w : ReqWord) : Nat := packWord w.ceil w.skip w.div

/-- The posted words of a reason. -/
def State.posted (s : State) (r : Nat) : List Nat := (s.cap.words.filter (fun w => w.reason = r)).map ReqWord.word

/-- Post a word of a reason under a poster's key; it replaces the poster's earlier one. -/
def postWord (w : ReqWord) (s : State) : State :=
  { s with cap := { s.cap with
      words := s.cap.words.filter (fun x => !(x.reason = w.reason && x.who = w.who)) ++ [w] } }

/-- Withdraw the word that a poster holds for a reason. -/
def withdrawWord (r who : Nat) (s : State) : State :=
  { s with cap := { s.cap with words := s.cap.words.filter (fun x => !(x.reason = r && x.who = who)) } }

/-- The reason-3 requests of the hardware of the groups (R386). -/
def State.groupWords3 (s : State) : List Nat :=
  (s.therm.groups.filter (·.engaged)).map (fun g => packWord g.ceil 0 g.div)

/-- The reason-4 requests of the hardware of the groups (R387). -/
def State.groupWords4 (s : State) : List Nat :=
  (s.therm.groups.zipIdx.filter (fun x => x.1.rateOn)).map (fun x => packWord 31 (s.pn (0x5200 + x.2) 8) x.1.rateDiv)

/-- Firmware's contribution by prediction (R394) and the jigs' posts for reason 3 (R417), with 0x6004.03 as written; none
while THMODEL is not ready (R394). -/
def State.fwWord3 (s : State) : Nat :=
  if !s.isReady 14 then 31 else combWords (s.therm.fw3 :: (s.therm.groups.filter (·.predict)).map (fun g => packWord g.predCeil 0 false) ++
    s.dowel.jigs.filterMap (·.post3))

/-- Firmware's contribution to reason 4: 0x6004.04 as written and the jigs' posts (R388, R417). -/
def State.fwWord4 (s : State) : Nat := combWords (s.therm.fw4 :: s.dowel.jigs.filterMap (·.post4))

/-- The word in force for a reason (R324, R388). Reason 1 holds no request before ESTIM is ready or with the cap
controller off (R322); reason 2 has none. -/
def State.reasonWord (s : State) (r : Nat) : Nat :=
  if r = 1 then
    if s.isReady 15 && s.pn 0x6000 1 = 1 then packWord s.cap.ceiling s.cap.skip s.cap.divide else 31
  else if r = 3 then
    combWords (s.groupWords3 ++ (s.therm.relays.filter (·.r3)).map (fun w => packWord w.ceil w.skip w.div) ++
      s.posted 3 ++ [s.fwWord3])
  else if r = 4 then
    combWords (s.groupWords4 ++ (s.therm.relays.filter (·.r4)).map (fun w => packWord w.ceil w.skip w.div) ++
      s.posted 4 ++ [s.fwWord4])
  else if r = 6 then combWords (s.cap.loops.map (fun l => packWord 31 l.skip l.div))
  else if r = 7 then s.cap.extWord
  else if r = 10 then s.cap.mgtWord
  else combWords (s.posted r)

/-! Operating points (R296, R327, R328). -/

/-- The built-in point table: entry 0 has DIV 64 and BASE 750, the others are unused (R306). -/
def defaultPoints : List Byte := leBytes 2 64 ++ leBytes 2 750 ++ List.replicate 124 0

/-- The point table in use. -/
def State.pointTable (s : State) : List Byte := (s.dom 0x2202 0).getD defaultPoints

/-- DIV of a point; 0 marks an unused entry (R296). -/
def State.pointDiv (s : State) (i : Nat) : Nat := leAt s.pointTable (8 * i) 2

/-- BASE of a point, mV. -/
def State.pointBase (s : State) (i : Nat) : Nat := leAt s.pointTable (8 * i + 2) 2

/-- SRAM of a point, mV; 0 leaves the SRAM rail unchanged. -/
def State.pointSram (s : State) (i : Nat) : Nat := leAt s.pointTable (8 * i + 4) 2

/-- The number of used points: entries 0 to n - 1. -/
def State.usedPoints (s : State) : Nat := ((List.range 16).filter (fun i => s.pointDiv i != 0)).length

/-- The boost band: the used points whose frequency lies within 0.96 to 1.04 x the boost nominal (R328), bit per point. -/
def State.boostBand (s : State) : Nat :=
  let n := s.pn 0x6003 3
  maskOf ((List.range 16).filter (fun i =>
    let d := s.pointDiv i
    n != 0 && d != 0 && decide (96 * n * 1000 * d ≤ 100 * s.tileKhz * 16) &&
      decide (100 * s.tileKhz * 16 ≤ 104 * n * 1000 * d)))

/-- Tiles that the map gives to partition p (R326). -/
def State.tilesOf (s : State) (p : Nat) : Nat := (s.cap.tileMap.filter (fun x => x = p)).length

/-- Budget in force for a kind and a node or partition (R316); unlisted is the object's default. -/
def State.budget (s : State) (kind n : Nat) : Nat :=
  match kvGet s.cap.budgets (kind * 4096 + n) with
  | some v => v
  | none => match kind with
    | 0 => 96000
    | 1 => 144000
    | 2 => 12000
    | 5 => 0
    | 6 => s.pn 0x2100 7
    | _ => 262143

/-- The boost condition: every partition that holds a tile has boost approval; partition 0 counts as approved (R328). -/
def State.boostCond (s : State) : Bool :=
  (List.range 64).all (fun p => p = 0 || s.tilesOf p = 0 || s.budget 5 p = 1)

/-- The highest point of a mask. -/
def topPoint (m : Nat) : Nat := ((List.range 16).filter (fun i => bit m i)).foldl max 0

/-- The point request under the policy (R327). -/
def State.pointReq (s : State) : Nat :=
  let pol := s.pn 0x6003 1
  if pol = 0 then s.pn 0x2201 2
  else if pol = 2 && s.boostCond && s.boostBand != 0 then topPoint s.boostBand
  else s.pn 0x6003 2

/-- The ceiling that the arbiter hands to the sequencer, 15 for none (R323). -/
def State.seqCeiling (s : State) : Nat := if bits s.cap.comb 4 0 < 16 then bits s.cap.comb 4 0 else 15

/-- The target point: the lower of request and ceiling (R298), and no higher than the last used point. A change ends the
sequencer's wait after a timeout. -/
def setTarget (s : State) : State :=
  let t := min (min s.pointReq s.seqCeiling) (s.usedPoints - 1)
  if t = s.clk.target then s else { s with clk := { s.clk with target := t, blocked := false } }

/-- Goal of the divider: M_seq, or twice it while an immediate divide stands (R301). -/
def State.divGoal (s : State) : Nat := if s.clk.immDiv then min 1023 (2 * s.clk.mSeq) else s.clk.mSeq

/-- Boost state of 0x6003.05: 1 boosting, 2 fallen back (R327, R334). -/
def State.boostState (s : State) : Nat :=
  if s.pn 0x6003 1 = 2 && s.boostCond then (if bit s.boostBand s.clk.point then 1 else 2) else 0

/-! Accruing reasons (R324, R326). -/

/-- The partition of a Clamp account. -/
def State.acctPart (s : State) (a : Nat) : Nat :=
  match s.cla.accounts.find? (fun x => x.a = a) with
  | some x => x.part
  | none => 0

/-- The reasons that accrue for the die: bit k - 1 for reason k. -/
def State.dieReasons (s : State) : Nat :=
  maskOf ((List.range 10).filter (fun i =>
    let r := i + 1
    if r = 2 then s.cla.queue.any (fun q => q.reason = 1)
    else if r = 5 then s.regions.any (·.str) || s.reasonWord 5 != 31
    else if r = 6 then !s.cap.loops.isEmpty
    else if r = 9 then s.clk.tileInt || s.clk.engInt || s.reasonWord 9 != 31
    else s.reasonWord r != 31))

/-- A region that holds a tile of partition p stretches. -/
def State.partStretch (s : State) (p : Nat) : Bool :=
  s.regions.zipIdx.any (fun x => x.1.str && ((s.cap.tileMap.drop (4 * x.2)).take 4).contains p)

/-- The reasons that accrue for partition p, given those of the die (R326). -/
def State.partReasons (s : State) (die p : Nat) : Nat :=
  maskOf ((List.range 10).filter (fun i =>
    let r := i + 1
    if r = 2 then s.cla.queue.any (fun q => q.reason = 1 && s.acctPart q.a = p)
    else if r = 5 then s.partStretch p || s.reasonWord 5 != 31
    else bit die i && s.tilesOf p != 0))

/-- Counts raised where a reason begins to accrue, saturating at `m`. -/
def countBegun (old new m : Nat) (l : List Nat) : List Nat :=
  l.mapIdx (fun k c => if bit new k && !bit old k then min m (c + 1) else c)

/-- The mask of either of two masks of ten bits. -/
def orMask (a b : Nat) : Nat := maskOf ((List.range 10).filter (fun k => bit a k || bit b k))

/-- The reasons of a partition taken afresh. -/
def State.updPart (s : State) (die : Nat) (p : PartEst) : PartEst :=
  let n := s.partReasons die p.p
  { p with accr := n, cnt := countBegun p.accr n 0xFFFF_FFFF p.cnt, reasonsMs := orMask p.reasonsMs n }

/-- Take afresh which reasons accrue, and count those that begin (R326). CAP_THR is set when reason 1 begins (R335). -/
def updAccr (s : State) : State :=
  let n := s.dieReasons
  let old := s.cap.accr
  let s := { s with cap := { s.cap with
    accr := n, cnt := countBegun old n 0xFFFF_FFFF s.cap.cnt, cntMs := countBegun old n 7 s.cap.cntMs,
    accrMs := orMask s.cap.accrMs n, parts := s.cap.parts.map (s.updPart n) } }
  if bit n 0 && !bit old 0 then setCapFlag 1 s else s

/-- The arbiter combines the words at a sample boundary (R323): the lowest ceiling to the sequencer, the highest skip to
the skip goal, any divide bit to the immediate divide. -/
def combine (s : State) : State :=
  let w := combWords ((List.range 10).map (fun i => s.reasonWord (i + 1)))
  let s := { s with cap := { s.cap with comb := w },
                    clk := { s.clk with skipGoal := bits w 9 5, immDiv := bit w 10 } }
  let s := (s.put 0x2201 3 s.seqCeiling).put 0x2201 6 (bits w 9 5)
  updAccr (setTarget s)

/-! Current loops (R325). -/

/-- A rail posts a current-limit request with a target current, in the name of a fault code. -/
def postLoop (k code : Nat) (target : Int) (s : State) : State :=
  { s with cap := { s.cap with
      loops := s.cap.loops.filter (fun l => !(l.rail = k && l.code = code)) ++ [{ rail := k, code := code, target := target }] } }

/-- The request of a fault code is withdrawn; the loop's share clears. -/
def withdrawLoop (k code : Nat) (s : State) : State :=
  { s with cap := { s.cap with loops := s.cap.loops.filter (fun l => !(l.rail = k && l.code = code)) } }

/-! TCLK_OUT (R300). -/

/-- TCLK_OUT is stopped in the name of rail k (R189, R221); a move in progress stops. -/
def stopTclk (k : Nat) (s : State) : State :=
  { s with clk := { s.clk with
      running := false, moving := false, moveStage := 0,
      stops := if s.clk.stops.contains k then s.clk.stops else s.clk.stops ++ [k] } }

/-- The restart divider: the larger of DIV of the point in force and the divider that gives 400 MHz (R299). -/
def State.restartDiv (s : State) : Nat :=
  max (s.pointDiv s.clk.point) ((s.tileKhz * 16 + 399999) / 400000)

end Sys2Proof.Machine
end

