-- ==== Sys2Proof/Machine/ChainLib.lean ====
section
/-! DEFINITION. Sending on the Batten chain: lanes, retry, routing and the loss action (R119 to R130, R147 to R149). -/

namespace Sys2Proof.Machine

open Sys2Proof

/-- One link of the node. -/
def State.link (s : State) : Side → Link
  | .up => s.chain.up
  | .dn => s.chain.dn

/-- The state with one link changed. -/
def State.updLink (s : State) (l : Side) (f : Link → Link) : State :=
  match l with
  | .up => { s with chain := { s.chain with up := f s.chain.up } }
  | .dn => { s with chain := { s.chain with dn := f s.chain.dn } }

/-- The other link. -/
def otherSide : Side → Side
  | .up => .dn
  | .dn => .up

/-- One lane of a link. -/
def Link.lane (l : Link) (prio : Bool) : Lane := if prio then l.prio else l.bulk

/-- The link with one lane changed. -/
def Link.updLane (l : Link) (prio : Bool) (f : Lane → Lane) : Link :=
  if prio then { l with prio := f l.prio } else { l with bulk := f l.bulk }

/-- The subindex base of a link's counts in 0x2101 (R155). -/
def linkBase : Side → Nat
  | .up => 0
  | .dn => 6

/-- Rank of a waiting priority frame: BARRIER, NODE_LOST, BUD_*; forwarded before local within a type (R130). -/
def prioRank (f : Frame) : Nat :=
  (if f.type = 8 then 0 else if f.type = 4 then 2 else 4) + (if f.fwd then 0 else 1)

/-- Put a frame behind those of its rank or a lower one. -/
def insertPrio (f : Frame) : List Frame → List Frame
  | [] => [f]
  | g :: l => if prioRank g ≤ prioRank f then g :: insertPrio f l else f :: g :: l

/-- The bulk frame that starts next: forwarded and local frames alternate (R130). -/
def nextBulk (lastFwd : Bool) (l : List Frame) : Option (Frame × List Frame) :=
  match l.find? (fun f => f.fwd != lastFwd) with
  | some f => some (f, l.erase f)
  | none => match l with
    | [] => none
    | f :: r => some (f, r)

/-- The priority frame that starts next. -/
def nextPrio : List Frame → Option (Frame × List Frame)
  | [] => none
  | f :: r => some (f, r)

/-- Start waiting frames while the lane holds fewer than 8 unacknowledged ones (R127); `fuel` bounds the frames. -/
def pumpLane (prio : Bool) (now : Nat) : Nat → Lane → Lane
  | 0, l => l
  | n + 1, l =>
    if l.replay.length < 8 then
      match (if prio then nextPrio l.waiting else nextBulk l.lastFwd l.waiting) with
      | none => l
      | some (f, r) =>
        pumpLane prio now n { l with
          waiting := r, replay := l.replay ++ [{ f with seq := l.nextSeq }], nextSeq := (l.nextSeq + 1) % 256,
          sentAts := l.sentAts ++ [now], lastFwd := if prio then l.lastFwd else f.fwd }
    else l

/-- Start what may start on a link; nothing new while STOP_IN is asserted (R154). -/
def pumpLink (l : Side) (s : State) : State :=
  if s.obs.standing || !(s.link l).linkUp then s else
    let k := s.link l
    let p := pumpLane true s.aon.clock k.prio.waiting.length k.prio
    let b := pumpLane false s.aon.clock k.bulk.waiting.length k.bulk
    let sent := k.prio.waiting.length - p.waiting.length
    ((s.updLink l (fun k => { k with prio := p, bulk := b })) : State).count 17 sent

/-- A frame is discarded for want of an onward link, and counted (R126). -/
def discardFrame (s : State) : State :=
  { s with chain := { s.chain with discarded := min 0xFFFF_FFFF (s.chain.discarded + 1) } }

/-- Hand a frame to one link's lane. A root sends no frame upstream (R132). -/
def sendOn (l : Side) (f : Frame) (s : State) : State :=
  if !(s.link l).linkUp || (l = .up && s.isRoot) then discardFrame s else
    pumpLink l (s.updLink l (fun k => k.updLane f.prio (fun a =>
      { a with waiting := if f.prio then insertPrio f a.waiting else a.waiting ++ [f] })))

/-- Position of an address in the member order. -/
def State.posOf (s : State) (a : Nat) : Option Nat := s.chain.order.findIdx? (fun x => x = a)

/-- The link towards an address along the member order (R126). -/
def State.sideTo (s : State) (a : Nat) : Option Side :=
  match s.posOf s.chain.addr, s.posOf a with
  | some i, some k => if k < i then some .up else if i < k then some .dn else none
  | _, _ => if a = 1 && s.chain.addr != 1 then some .up else none

/-- Cut a message into frames of at most 64 payload symbols (R125). -/
def splitMsg (type dst src : Nat) (prio : Bool) : Nat → List Nat → List Frame
  | 0, p => [{ dst := dst, src := src, prio := prio, type := type, payload := p }]
  | n + 1, p =>
    if p.length ≤ 64 then [{ dst := dst, src := src, prio := prio, type := type, payload := p }]
    else { dst := dst, src := src, prio := prio, type := type, more := true, payload := p.take 64 }
      :: splitMsg type dst src prio n (p.drop 64)

/-- Send a list of frames on one link. -/
def sendAll (l : Side) (fs : List Frame) (s : State) : State := fs.foldl (fun s f => sendOn l f s) s

/-- Send a message to one address (R126). -/
def sendTo (type dst : Nat) (prio : Bool) (payload : List Nat) (s : State) : State :=
  match s.sideTo dst with
  | some l => sendAll l (splitMsg type dst s.chain.addr prio 17 payload) s
  | none => discardFrame s

/-- Broadcast a message: the originating node sends it on both links; a root has no link upstream (R126, R132). -/
def broadcast (type : Nat) (prio : Bool) (payload : List Nat) (s : State) : State :=
  let fs := splitMsg type 0x1F s.chain.addr prio 17 payload
  let s := if s.isRoot then s else sendAll .up fs s
  sendAll .dn fs s

/-- Take the isolated role: the die is limited to the isolated die budget from the next estimator boundary (R148, R318).
A root keeps its role (R153) and a held-out member its own (R152). -/
def isolate (s : State) : State :=
  if s.chain.role = 4 || s.chain.role = 1 then { s with chain := { s.chain with isolated := true } }
  else { s with chain := { s.chain with role := 3, isolated := true } }

/-- The package's NODE_LOST of the instance itself, with reason 1, before it stops (R147, R221): a member tells the root;
the root tells the members beyond it. The instance's own die counts as lost from then on. -/
def loseSelf (s : State) : State :=
  if s.chain.role = 1 || s.chain.role = 2 then
    let a := s.chain.addr
    let s := if s.chain.role = 1 then
        sendOn .dn { dst := 0x1F, src := a, prio := true, type := 4, payload := [2 ^ a, 1] } s
      else sendTo 4 1 true [2 ^ a, 1] s
    isolate { s with chain := { s.chain with
      memberMask := putBit s.chain.memberMask a false, lostMask := putBit s.chain.lostMask a true } }
  else s

end Sys2Proof.Machine
end

