-- ==== Sys2Proof/Machine/ScribeLib.lean ====
section
/-! DEFINITION. The Scribe: its records, areas, trigger and the trigger's actions (R510 to R516). -/

namespace Sys2Proof.Machine

open Sys2Proof

/-- A record of the Scribe: STAMP, SOURCE, SUB, INFO and DATA from bit 0 up (R511). -/
def scribeRec (stamp src sub info data : Nat) : Nat :=
  stamp % 2 ^ 32 + 2 ^ 32 * (src % 64) + 2 ^ 40 * (sub % 256) + 2 ^ 48 * (info % 65536) + 2 ^ 64 * (data % 2 ^ 64)

/-- The counters go to the shadow bank as of one instant (R510). -/
def snapshot (s : State) : State :=
  let c := s.obs.cnt
  let t := s.tick % 2 ^ 32
  { s with obs := { s.obs with shadow := c, snapSeq := (s.obs.snapSeq + 1) % 65536, snapTick := t } }

/-- The pre-trigger area's slots (R514). -/
def State.scrCap (s : State) : Nat := 262144 - s.pn 0x9100 3

/-- A record offered is lost: counter 19 and 0x9100.0E count it (R513, R508). -/
def scribeLose (s : State) : State :=
  let t := if s.obs.scrLost = 0 then s.aon.clock % 2 ^ 32 else s.obs.scrLostAt
  let s := (s.countFixed 19 1).add64 0x9100 0x0E 1
  { s with obs := { s.obs with scrLost := s.obs.scrLost + 1, scrLostAt := t } }

/-- A record is written: counter 18. -/
def scribeCount (s : State) : State := s.countFixed 18 1

/-- Write a record into its area (R514): the pre-trigger area while armed, where ring mode overwrites the oldest and fill
mode loses what comes after it is full; the reserve once triggered, whose last slot ends the capture. -/
def scribeWrite (x : Nat) (s : State) : State :=
  if s.obs.scrState = 1 then
    if s.obs.scrPre.length < s.scrCap then
      scribeCount { s with obs := { s.obs with scrPre := s.obs.scrPre ++ [x] } }
    else if s.pn 0x9100 2 = 0 then
      scribeCount { s with obs := { s.obs with scrPre := s.obs.scrPre.drop 1 ++ [x] } }
    else scribeLose s
  else if s.obs.scrState = 2 && decide (s.obs.scrPost.length < s.pn 0x9100 3) then
    let l := s.obs.scrPost ++ [x]
    let st := if s.pn 0x9100 3 ≤ l.length then 3 else 2
    scribeCount { s with obs := { s.obs with scrPost := l, scrState := st } }
  else s

/-- A TIME record (R512, R513). -/
def scribeTime (s : State) : State :=
  let c := s.aon.clock
  scribeWrite (scribeRec c 0 0 0 s.tick) { s with obs := { s.obs with scrTimeAt := c } }

/-- The pre-trigger area is full in fill mode. -/
def State.scrFull (s : State) : Bool :=
  s.obs.scrState = 1 && s.pn 0x9100 2 = 1 && decide (s.scrCap ≤ s.obs.scrPre.length)

/-- A GAP record for the records lost since the last one written (R513, R514). -/
def scribeGap (s : State) : State :=
  if s.obs.scrLost = 0 then s else
    let x := scribeRec s.obs.scrLostAt 0x3F 0 0 s.obs.scrLost
    scribeWrite x { s with obs := { s.obs with scrLost := 0 } }

/-- With room again after a loss, the GAP record and then a TIME record (R513). -/
def scribeRecover (s : State) : State := if s.obs.scrLost = 0 || s.scrFull then s else scribeTime (scribeGap s)

/-- STOP_REQ_OUT is high while REQ is 1 or TRIG_REQ is 1 (R524). -/
def stopReqPin (s : State) : State :=
  { s with aon := { s.aon with stopReqOut := s.obs.req || s.obs.trigReq } }

/-- A trigger requests a stop (R515, R524). -/
def trigStop (s : State) : State := stopReqPin { s with obs := { s.obs with trigReq := true } }

/-- Firmware starts to assemble the wait-for graph, unless FW and SYNC are not both ready (R519). -/
def graphBegin (s : State) : State :=
  if s.isReady 13 && s.isReady 19 then { s with obs := { s.obs with graphState := 1, graphStartAt := s.tick } }
  else { s with obs := { s.obs with graphState := 3 } }

/-- An armed map dump's moment has come (R517). -/
def dumpMoment (s : State) : State :=
  { s with obs := { s.obs with dumpMoment := true, dumpMomentAt := s.tick } }

/-- A matched marker of the named program and step index: at the occurrence-th the moment of an armed dump comes (R517). -/
def dumpMarker (prog idx : Nat) (s : State) : State :=
  if s.obs.dumpState = 1 && !s.obs.dumpMoment && s.pn 0x9110 2 = 1 && prog = s.pn 0x9110 3 && idx = s.pn 0x9110 4 then
    let s := { s with obs := { s.obs with dumpOcc := s.obs.dumpOcc + 1 } }
    if s.obs.dumpOcc = s.pn 0x9110 5 then dumpMoment s else s
  else s

/-- The actions of 0x9100.09 in their order (R515). -/
def triggerActions (s : State) : State :=
  let a := s.pn 0x9100 9
  let s := if bit a 1 then snapshot s else s
  let s := if bit a 2 && s.obs.dumpState = 1 && s.pn 0x9110 2 = 2 && s.enabled 15 then dumpMoment s else s
  let s := if bit a 3 then graphBegin s else s
  let s := if bit a 4 then assertIrq s else s
  if bit a 0 then
    if bit a 3 && s.obs.graphState = 1 then { s with obs := { s.obs with graphDue := true } } else trigStop s
  else s

/-- The trigger: into the reserve go a GAP record if any record has been lost, then the TRIGGER record (R514, R515). -/
def scribeTrigger (s : State) : State :=
  let k := s.pn 0x9100 5
  let s := scribeGap { s with obs := { s.obs with scrState := 2, scrWait := false } }
  let s := scribeWrite (scribeRec s.aon.clock 0x3E k 0 s.obs.scrOcc) s
  let s := setStopFlag 1 (s.put 0x9100 0x0D (s.tick : Nat))
  triggerActions (raise 0x0912 0 s.obs.scrOcc k s)

/-- A match of the trigger kind: the occurrence-th acts, at once or, during a stop, at its release (R515, R529). -/
def scribeMatch (s : State) : State :=
  if s.obs.scrState = 1 && s.enabled 14 then
    let s := { s with obs := { s.obs with scrOcc := s.obs.scrOcc + 1 } }
    if s.obs.scrOcc = s.pn 0x9100 8 then
      if s.obs.standing then { s with obs := { s.obs with scrWait := true } } else scribeTrigger s
    else s
  else s

/-- A captured record matches the trigger of kind 1, 2 or 3 (R515). -/
def State.scribeHit (s : State) (src sub info data : Nat) : Bool :=
  let k := s.pn 0x9100 5
  let v := s.pn 0x9100 6
  let m := s.pn 0x9100 7
  if k = 1 then src = 0x0B && Nat.land info (m % 65536) = Nat.land (v % 65536) (m % 65536)
  else if k = 2 then src = 2 && bit data 32 && info = v % 65536 && data % 2 ^ 32 = bits v 47 16
  else if k = 3 then
    src = v % 64 && sub = bits v 15 8 && Nat.land (data % 2 ^ 32) m = Nat.land (bits v 63 32) m &&
      (src = 0x0C || (1 ≤ src && src ≤ 14 && bit (s.pn 0x9100 1) src))
  else false

/-- The input queue of 512 has room at the present moment (R513; log entry 35). -/
def State.scrRoom (s : State) : Bool := s.obs.scrNowAt != s.aon.clock || decide (s.obs.scrNow < 512)

/-- A record enters the input queue and is written, or is lost when the queue is full or the Scribe stands still (R513,
R516). -/
def scribeEnter (x : Nat) (s : State) : State :=
  if s.obs.standing || !s.scrRoom then scribeLose s
  else
    let n := if s.obs.scrNowAt = s.aon.clock then s.obs.scrNow + 1 else 1
    let c := s.aon.clock
    scribeWrite x (scribeRecover { s with obs := { s.obs with scrNow := n, scrNowAt := c } })

/-- A source hands a record to the Scribe (R512 to R515): it is taken while the Scribe is armed or triggered and the mask
enables its source; the trigger then sees it. JIG records are taken whatever the mask. -/
def scribePut (src sub info data : Nat) (s : State) : State :=
  if (s.obs.scrState = 1 || s.obs.scrState = 2) && s.enabled 14 then
    let on := src = 0x0C || (decide (1 ≤ src) && decide (src ≤ 14) && bit (s.pn 0x9100 1) src)
    let t := if on then scribeEnter (scribeRec s.aon.clock src sub info data) s else s
    if s.scribeHit src sub info data then scribeMatch t else t
  else s

/-- FQ_NMI is asserted; a trigger of kind 5 sees it (R515). -/
def assertNmi (s : State) : State :=
  let s := { s with aon := { s.aon with fqNmi := true } }
  if s.pn 0x9100 5 = 5 then scribeMatch s else s

end Sys2Proof.Machine
end

