-- ==== Sys2Proof/Machine/Fault.lean ====
section
/-! DEFINITION. Faults: protective actions by severity, recovery contexts, compound faults and last-fault records
(R221 to R230). Context k < 6 is rail k's; context 6 is the instance's. -/

namespace Sys2Proof.Machine

open Sys2Proof

/-- Recovery context c. -/
def State.ctx (s : State) (c : Nat) : Ctx := s.prot.ctxs.getD c {}

/-- The state with a recovery context changed. -/
def State.updCtx (s : State) (c : Nat) (f : Ctx → Ctx) : State :=
  { s with prot := { s.prot with ctxs := s.prot.ctxs.modify c f } }

/-! Last-fault records (R228, R230). -/

/-- The power-on count of the header entry in use (R498). -/
def State.bootCount (s : State) : Nat :=
  match s.flashRead.hdr with
  | e :: _ => e.boot
  | [] => 0

/-- A last-fault record of the present moment; the instance's takes the rail fields of the lowest-numbered CORE
controller (R230, R398). -/
def State.lastRec (s : State) (c code sev flags phase prior priorSev : Nat) : LastFault :=
  let k := if c < 6 then c else (s.ctrlOf 0).getD 0
  let r := s.rail k
  { code := code, sev := sev, flags := flags + b2n (!s.rcd.timeSet), ctrl := if c < 6 then c else 0xFF, phase := phase,
    tick := s.tick, sec := if s.rcd.timeSet then s.rcd.calSec else 0,
    frac := if s.rcd.timeSet then s.rcd.calFrac / 2 ^ 16 else 0,
    vout := r.vout, target := (s.workTarget k / 128).toNat, iout := (r.iRail / 40960).toNat,
    icont := (s.iCont k / 40960).toNat, stageT := s.stageTemp,
    inserv := maskOf (s.phasesIn k [2, 3, 4, 5, 6]), failed := maskOf (s.phasesIn k [5, 6]),
    prior := prior, priorSev := priorSev, nAct := s.nAct k, prog := s.prot.lastProg, stepIdx := s.prot.lastIdx,
    boot := s.bootCount }

/-- Drop the oldest record that is not of S4. -/
def dropNonS4 : List LastFault → List LastFault
  | [] => []
  | r :: l => if r.sev = 4 then r :: dropNonS4 l else l

/-- Capture a record in retention RAM, which holds 4 (R228). -/
def retain (r : LastFault) (s : State) : State :=
  let l := s.prot.retention ++ [r]
  if l.length ≤ 4 then { s with prot := { s.prot with retention := l } }
  else
    ({ s with prot := { s.prot with retention := (dropNonS4 l).take 4 } } : State).bump32 0x3330 5

/-! Events of faults (R480). -/

/-- ARG0 of a fault's event: controller, phase and region, gauge or comparator. -/
def faultArg0 (c phase item : Nat) : Nat := (if c < 6 then c else 0xFF) + 256 * phase + 65536 * item

/-- ARG1 of a rail fault's event: the rail current in 0.1 A for the codes 0x03xx, else what the source gives. -/
def State.faultArg1 (s : State) (c code arg1 : Nat) : Nat :=
  if code / 256 = 3 && c < 6 then ((s.rail c).iRail / 40960).toNat else arg1

/-- The event of a fault. -/
def faultEvent (c code sev phase item arg1 flags : Nat) (s : State) : State :=
  captureEvent { code := code, sev := sev, part := 0xFF, arg0 := faultArg0 c phase item,
                 arg1 := s.faultArg1 c code arg1, flags := flags } s

/-- The bit of RAIL_FLT of a rail fault is set (R200, R231). -/
def markRailFlt (c code : Nat) (s : State) : State :=
  if c < 6 && 0x0301 ≤ code && code ≤ 0x0310 then setRailFlt c (code - 0x0301) s else s

/-! Leaving regulation. -/

/-- Edges of a stretched region clock in so many tile cycles: each takes 1 + (code + 1)/8 of them (R270, R271). -/
def edgesIn (cycles code : Nat) : Nat := cycles * 8 / (9 + code)

/-- The edges since STR_EN or the code last rose are counted (R273). -/
def countEdges (n : Nat) (s : State) : State :=
  let r := s.region n
  let e := edgesIn (s.clk.tileCycles - r.strSince) r.amt
  let s := (s.add64 (0x4100 + n) 0x0D (e * (r.amt + 1))).count 3 (e * (r.amt + 1))
  s.updRegion n (fun r => { r with strEdges := r.strEdges + e, strSince := s.clk.tileCycles })

/-- STR_EN of region n falls, and STR_AMT with it; the last to fall starts the count of the stretch hold (R271, R272). -/
def endStretch (n : Nat) (s : State) : State :=
  let s := countEdges n s
  let s := s.put (0x4100 + n) 0x0E (max (s.num (0x4100 + n) 0x0E) (min 0xFFFF_FFFF (s.region n).strEdges))
  let s := s.updRegion n (fun r => { r with str := false, amt := 0, strLevel := 0, strEdges := 0, strEndAt := some s.clk.tileCycles })
  { s with shim := { s.shim with hold := true, holdFrom := s.clk.tileCycles } }

/-- A region whose CORE controller has left regulation: its preload is cancelled and its kerf unit disarms (R265). -/
def Region.coreLeft (r : Region) : Region :=
  { r with preArmed := false, preN := 0, preActed := false, armed := false, regulating := false, upAt := none }

/-- The CORE controller leaves regulation (R265). -/
def coreLeave (s : State) : State :=
  let n := (s.regions.filter (fun r => r.preN != 0)).length
  let s := s.add32 0x4002 9 n
  let s := forEach ((List.range 256).filter (fun n => (s.region n).str)) endStretch s
  { s with regions := s.regions.map Region.coreLeft }

/-- Remove the first fault of a code and item. -/
def dropCode (code item : Nat) : List Fault_ → List Fault_
  | [] => []
  | f :: l => if f.code = code && f.item = item then l else f :: dropCode code item l

/-- The first fault of the highest severity in a queue (R226). -/
def topFault : List Fault_ → Option Fault_
  | [] => none
  | f :: l => match topFault l with
    | none => some f
    | some g => if f.sev < g.sev then some g else some f

/-- With no fault in recovery, the latched queue is served (R226). -/
def Ctx.serve (now : Nat) (c : Ctx) : Ctx :=
  match c.cur, topFault c.latched with
  | none, some f => { c with cur := some { f with since := now }, latched := dropCode f.code f.item c.latched }
  | _, _ => c

/-- A fault leaves a context: its recovery ends, or it leaves the queue or the unqueued faults. -/
def Ctx.finish (now code item : Nat) (c : Ctx) : Ctx :=
  let d : Ctx := { c with latched := dropCode code item c.latched, loose := dropCode code item c.loose }
  match c.cur with
  | some f => if f.code = code && f.item = item then ({ c with cur := none } : Ctx).serve now else d
  | none => d

/-- The recovery of a fault of context c ends. -/
def endFault (c code item : Nat) (s : State) : State := s.updCtx c (Ctx.finish s.aon.clock code item)

/-- GAUGES loses readiness as the SRAM rail leaves regulation: the groups hold no request (R376, R401). -/
def gaugesLost (s : State) : State :=
  let s := clearReady 7 s
  let s := (s.ctx 6).latched.foldl (fun s f => if f.code = 0x0502 || f.code = 0x0503 then endFault 6 f.code f.item s else s) s
  let s := match (s.ctx 6).cur with
    | some f => if f.code = 0x0502 || f.code = 0x0503 then endFault 6 f.code f.item s else s
    | none => s
  { s with therm := { s.therm with instAt := none, groups := s.therm.groups.map (fun g =>
      { g with engaged := false, ceil := 31, div := false, rateOn := false, rateDiv := false, raiseFrom := none,
               warn := false, critRun := 0 }) } }

/-- Rail k leaves REGULATING and MOVING (R265, R376). -/
def leaveRegulation (k : Nat) (s : State) : State :=
  let s := if s.ctrlOf 0 = some k then coreLeave s else s
  if s.ctrlOf 1 = some k then gaugesLost s else s

/-- A group move that rail k takes part in ends and counts as complete; the others keep their present setpoints (R227). -/
def endGroupMove (k : Nat) (s : State) : State :=
  let g := (s.rail k).group
  if (s.rail k).moveRate.isSome then
    { s with rails := s.rails.map (fun r => if r.group = g then { r with moveRate := none } else r),
             prot := { s.prot with ramps := s.prot.ramps.filter (fun x => x != g) } }
  else s

/-- Phases of rail k that fired stop firing: PH_PWM in high impedance; active and shedding phases leave the run. -/
def stopFiring (k : Nat) (s : State) : State :=
  { s with phases := s.phases.map (fun p =>
      if p.ctrl = k && (p.state = 3 || p.state = 4) then { p with state := 2, pos := 0xF, onTime := 0 }
      else if p.ctrl = k then { p with pos := 0xF, onTime := 0 } else p) }

/-- Rail k enters SAFE (R207, R221): a used rail not already there. TCLK_OUT stops on CORE, SRAM and D2D; on CORE the
member is lost. -/
def enterSafe (k code : Nat) (s : State) : State :=
  if !s.railUsed k || (s.rail k).state = 5 then s else
    let r := s.rail k
    let s := if r.state = 1 || r.state = 2 || r.state = 3 then leaveRegulation k s else s
    let s := stopFiring k (endGroupMove k s)
    let s := s.updRail k (fun r => { r with
      state := 5, safeAt := s.aon.clock, safeCode := code, s3At := some s.aon.clock,
      moveRate := none, rampRate := 0, skip := false, skipLow := 0, shedding := none,
      rotBusy := false, ffForce := false, ffDutyLeft := 0, vsCount := 0, uvFrom := none, uvRaised := 0, prebias := false,
      fold := false, foldTimer := 0, foldLowFrom := none, peakTimer := 0, overLim := 0, feTimer := 0,
      restartAt := if r.retries != 0 && r.enable then some (s.aon.clock + ms (s.pn (0x3300 + k) 0x13)) else none })
    let s := if r.railId < 3 then stopTclk k s else s
    if r.railId = 0 then loseSelf s else s

/-- Package shutdown (R221, R389): THERMTRIP_N goes low, every rail enters SAFE, TCLK_OUT stops, the member is lost. -/
def shutdown (code : Nat) (s : State) : State :=
  let s := { s with aon := { s.aon with thermtripN := false } }
  let s := forEach [0, 1, 2, 3, 4, 5] (fun k s => enterSafe k code s) s
  let s := { s with clk := { s.clk with running := false, moving := false, moveStage := 0 } }
  loseSelf s

/-! Throttle requests of faults (R204, R208, R217, R226, R275, R292). -/

/-- The poster's key of a fault's request. -/
def faultKey (c code item : Nat) : Nat := code * 65536 + c * 4096 + item % 4096

/-- The request that a fault of S2 posts. -/
def postFor (c code item : Nat) (s : State) : State :=
  if code = 0x0302 then postLoop c code (s.iCont c) s
  else if code = 0x0305 || code = 0x0307 || code = 0x0308 || code = 0x0402 then
    postWord { reason := 8, who := faultKey c code item, div := true } s
  else if code = 0x0403 then postWord { reason := 5, who := faultKey c code item, skip := 8 } s
  else if code = 0x0A04 then postWord { reason := 9, who := faultKey c code item, ceil := s.clk.point } s
  else s

/-- The request of a fault that escalation brings to S2: the rail's current limit, or for the instance reason 3 with a
ceiling one point below the point in force (R226). -/
def postEscalated (c code : Nat) (s : State) : State :=
  if c < 6 then postLoop c code (s.iCont c) s
  else postWord { reason := 3, who := 0x10000 + code, ceil := s.clk.point - 1 } s

/-- Every request that a fault posted is withdrawn. -/
def withdrawFor (c code item : Nat) (s : State) : State :=
  let s := withdrawLoop c code s
  let s := withdrawWord 8 (faultKey c code item) s
  let s := withdrawWord 5 (faultKey c code item) s
  let s := withdrawWord 9 (faultKey c code item) s
  if c < 6 then s else withdrawWord 3 (0x10000 + code) s

/-- The protective action of a severity (R221). -/
def protect (c code sev item : Nat) (s : State) : State :=
  if sev = 2 then postFor c code item s
  else if sev = 3 then enterSafe c code s
  else if sev = 4 then shutdown code s
  else s

/-- The action that an escalation adds. -/
def protectEscalated (c code sev : Nat) (s : State) : State :=
  if sev = 2 then postEscalated c code s
  else if sev = 3 then enterSafe c code s
  else if sev = 4 then shutdown code s
  else s

/-- A group's hottest used result lies within the critical margin of its critical level (R390). -/
def State.nearCritical (s : State) : Bool :=
  s.therm.groups.zipIdx.any (fun x => x.1.hot != -32768 &&
    decide (16 * (s.num (0x5200 + x.2) 3 - s.num 0x5000 5) ≤ x.1.hot))

/-- The severity of a second fault after step 2 of R225; in the instance context the thermal margin decides (R390). -/
def State.escalate (s : State) (c sev : Nat) : Nat :=
  if (if c < 6 then s.overCont c else s.nearCritical) then min 4 (sev + 1) else sev

/-- Interrupts of a severity (R221). -/
def notify (sev : Nat) (s : State) : State :=
  let s := if 1 ≤ sev then assertIrq s else s
  if 3 ≤ sev then assertNmi s else s

/-- A fault that arrives with none in recovery. -/
def firstFault (c code sev phase item arg1 : Nat) (s : State) : State :=
  let s := s.updCtx c (fun x => { x with cur := some { code := code, sev := sev, phase := phase, item := item, since := s.aon.clock } })
  let s := faultEvent c code sev phase item arg1 0 (notify sev s)
  if 3 ≤ sev then retain (s.lastRec c code sev (if sev = 4 then 8 else 0) phase 0 0) s else s

/-- Where a later fault B goes: it pre-empts A, is latched, or finds the queue full (R225, R226). -/
def Ctx.second (now : Nat) (a b : Fault_) (c : Ctx) : Ctx :=
  if a.sev < b.sev then
    if c.latched.length < 8 then { c with cur := some { b with since := now }, latched := a :: c.latched }
    else { c with cur := some { b with since := now }, loose := c.loose ++ [a] }
  else if c.latched.length < 8 then { c with latched := c.latched ++ [b] }
  else { c with loose := c.loose ++ [{ b with since := now }] }

/-- A fault B that arrives while A is in recovery (R225, R226). -/
def secondFault (c : Nat) (a : Fault_) (code sev phase item arg1 : Nat) (s : State) : State :=
  let v := s.escalate c sev
  let esc := decide (v ≠ sev)
  let s := if esc then protectEscalated c code v s else s
  let full := decide (8 ≤ (s.ctx c).latched.length)
  let b : Fault_ := { code := code, sev := v, phase := phase, item := item, since := s.aon.clock }
  let s := s.updCtx c (Ctx.second s.aon.clock a b)
  let s := if full && c < 6 then s.bump32 (0x3320 + c) 0x11 else s
  let s := faultEvent c code v phase item arg1 (if esc then 8 else 0) (notify v s)
  let fl := (if esc then 4 else 0) + (if v = 4 then 8 else 0) + (if a.sev < v then 32 else 16)
  let s := if 3 ≤ v then retain (s.lastRec c code v fl phase 0 0) s else s
  let s := retain (s.lastRec c code v (fl + 2) phase a.code a.sev) s
  let s := markRailFlt c 0x0310 s
  faultEvent c 0x0310 v phase item 0 4 s

/-- Raise a fault in context c (R221 to R226). An S0 fault takes its event alone. -/
def raiseFault (c code sev phase item arg1 : Nat) (s : State) : State :=
  let s := markRailFlt c code s
  if sev = 0 then faultEvent c code 0 phase item arg1 0 s
  else
    let s := protect c code sev item s
    match (s.ctx c).cur with
    | none => updAccr (firstFault c code sev phase item arg1 s)
    | some a => updAccr (secondFault c a code sev phase item arg1 s)

/-- A fault of S4 of the instance that counts in every context (R222): it enters the rails' contexts without a further
event or record. -/
def enterAll (code : Nat) (s : State) : State :=
  forEach ([0, 1, 2, 3, 4, 5].filter s.railUsed) (fun c s =>
    let b : Fault_ := { code := code, sev := 4, since := s.aon.clock }
    match (s.ctx c).cur with
    | none => s.updCtx c (fun x => { x with cur := some b })
    | some a => s.updCtx c (Ctx.second s.aon.clock a b)) s

/-- The request of a fault is withdrawn and its recovery ends. -/
def clearFault (c code item : Nat) (s : State) : State := updAccr (endFault c code item (withdrawFor c code item s))

end Sys2Proof.Machine
end

