-- ==== Sys2Proof/Machine/RailLib.lean ====
section
/-! DEFINITION. Rail controllers and phases: the ring and the firing run, ramps and the reference, the compensator, PWM,
adding and shedding, synchronisation, and feed-forward as it acts on a rail (R156 to R191, R244 to R254). -/

namespace Sys2Proof.Machine

open Sys2Proof

/-! The ring and the firing run (R158, R175). -/

/-- Phases of controller k that fire: active, shedding and sense failed. -/
def State.firing (s : State) (k : Nat) : List Nat := s.phasesIn k [3, 4, 6]

/-- The ring of controller k in the order of the run, from its head (R175). Failed-open phases have left it (R215). -/
def State.ringFrom (s : State) (k : Nat) : List Nat :=
  let l := s.phasesIn k [2, 3, 4, 6]
  l.filter (fun n => decide ((s.rail k).head ≤ n)) ++ l.filter (fun n => decide (n < (s.rail k).head))

/-- Rotation positions of controller k's phases taken afresh: the distance from the head in the run (R175, R193). -/
def respace (k : Nat) (s : State) : State :=
  let l := s.ringFrom k
  let f := s.firing k
  forEach (s.phasesOf k) (fun n s => s.updPhase n (fun p =>
    { p with pos := if f.contains n then (l.findIdx? (fun x => x = n)).getD 0xF else 0xF })) s

/-- The idle member that joins next: the first after the run's end (R175). -/
def State.nextIdle (s : State) (k : Nat) : Option Nat := (s.ringFrom k).find? (fun n => (s.phase n).state = 2)

/-- N with a shedding phase counted as already gone (R180, R181). -/
def State.nFire (s : State) (k : Nat) : Nat := (s.phasesIn k [3, 6]).length

/-- The required count (R178). -/
def State.nReq (s : State) (k : Nat) : Nat :=
  let add := s.pn (0x3100 + k) 0x0A * 40960
  max (s.pn (0x3100 + k) 8)
    (max (((s.rail k).iRail.toNat + add - 1) / add) (if (s.rail k).ffForce then (s.rail k).ffPhases else 0))

/-- The latest error lies more than the step trip above zero: a droop (R173, R181). -/
def State.droop (s : State) (k : Nat) : Bool :=
  decide (2 * s.num (0x3100 + k) 0x0D < (s.rail k).eHist.headD 0)

/-- The latest error lies more than the step trip below zero: an overshoot (R173). -/
def State.overshoot (s : State) (k : Nat) : Bool :=
  decide ((s.rail k).eHist.headD 0 < -(2 * s.num (0x3100 + k) 0x0D))

/-- Inhibit (a): the horizon rises above the present rail current (R181, R246). -/
def State.horizonRises (s : State) (k : Nat) : Bool :=
  (s.rail k).ffForce && (match s.hMax k s.aon.clock with
    | some i => decide ((s.rail k).iRail < 1600 * (i : Int))
    | none => false)

/-- Inhibit (c): an add is due (R181). -/
def State.addDue (s : State) (k : Nat) : Bool := decide (s.nFire k < s.nReq k)

/-- An inhibit of R181 holds. -/
def State.inhibited (s : State) (k : Nat) : Bool := s.horizonRises k || s.droop k || s.addDue k

/-! PWM (R169 to R173). -/

/-- The switching period of a frequency in kHz, in steps of 78.125 ps (R169). -/
def fswPeriod (khz : Nat) : Nat := if khz = 0 then 0 else (12800000 + khz / 2) / khz

/-- The maximum duty of rail k as SQ8.24 (R164). -/
def State.dMax (s : State) (k : Nat) : Int := 256 * s.num (0x3100 + k) 0x11

/-- The feed-forward duty term at present, SQ8.24 (R247, R220). -/
def Rail.ffTerm (r : Rail) : Int := r.ffDuty * r.ffDutyLeft / r.ffDutyOf

/-- The mean of the share trims of rail k's active phases of weight 1 (R216). -/
def State.meanTrim (s : State) (k : Nat) : Int :=
  let l := s.phasesIn k [3]
  if l.isEmpty then 0 else (l.map (fun n => (s.phase n).trim)).foldl (· + ·) 0 / (l.length : Int)

/-- The duty of phase n of rail k, SQ8.24: u, trim and feed-forward term, within 0 and the maximum duty (R171, R247). -/
def State.dutyOf (s : State) (k n : Nat) : Int :=
  let r := s.rail k
  let t := if (s.phase n).state = 6 then s.meanTrim k else (s.phase n).trim
  clampI 0 (s.dMax k) (r.uHist.headD 0 + t + r.ffTerm)

/-- The on-time of a duty in a period of T steps: rounded, none below 20 ns, and at least 40 ns off (R170). -/
def onTimeOf (d : Int) (T : Nat) : Nat :=
  let x := ((d * T + 2 ^ 23) / 2 ^ 24).toNat
  if x < 256 then 0 else if T < x + 512 then T - 512 else x

/-- PH_PWM of rail k's phases is in high impedance: outside STARTING to STOPPING, under pre-bias, or skipping with the
sample at or above the reference (R66, R177). -/
def State.pwmOff (s : State) (k : Nat) : Bool :=
  let r := s.rail k
  r.state = 0 || r.state = 5 || (r.state = 1 && r.prebias) ||
    (r.skip && decide ((r.ref + 64) / 128 ≤ (r.vout : Int)))

/-- The on-time that phase n takes at the boundary: held to the previous one while an over-current hold stands (R202). -/
def State.newOnTime (s : State) (k n : Nat) : Nat :=
  if s.pwmOff k || !(s.firing k).contains n then 0
  else
    let x := onTimeOf (s.dutyOf k n) (s.rail k).period
    if (s.phase n).ocAt.isSome then min (s.phase n).onTime x else x

/-- Start of the present period of phase n's slot before moment t (steps): position j at j x T / N (R175). -/
def State.slotStart (s : State) (k n t : Nat) : Nat :=
  let T := (s.rail k).period
  let N := (s.firing k).length
  if T = 0 || N = 0 then t
  else
    let o := (2 * (s.phase n).pos * T + N) / (2 * N)
    let b := (s.rail k).p0At + o
    if t < b then t else b + (t - b) / T * T

/-- PH_PWM of phase n drives high at moment t: its slot pulse or its entry or out-of-turn pulse runs (R172, R173). -/
def State.pwmHigh (s : State) (n t : Nat) : Bool :=
  let p := s.phase n
  let c := (s.rail p.ctrl).cutAt
  let a := s.slotStart p.ctrl n t
  decide (p.ctrl < 6) && p.pos != 0xF &&
    ((decide (c ≤ a) && decide (t < a + p.onTime)) ||
      (match p.outAt with
        | some b => decide (c ≤ b) && decide (b ≤ t) && decide (t < b + p.onTime)
        | none => false))

/-- PH_EN of phase n (R158, R37): high in states 2, 3, 4 and 6 while its rail runs, low while a hard trip or STG_FLT
forces it. -/
def State.phEn (s : State) (n : Nat) : Bool :=
  let p := s.phase n
  let r := (s.rail p.ctrl).state
  decide (p.ctrl < 6) && (p.state = 2 || p.state = 3 || p.state = 4 || p.state = 6) && r != 0 && r != 5 &&
    !s.prot.tripHold && !s.prot.stgFlt

/-- Mode 1 (R173): at an overshoot every pulse in progress ends; at a droop the next phase in firing order that has been
low for 40 ns and has not fired out of turn in its present period fires. -/
def adaptive (k : Nat) (s : State) : State :=
  let t := s.aon.clock * 32 + 640
  if s.overshoot k then s.updRail k (fun r => { r with cutAt := t })
  else if s.droop k then
    match (s.firing k).find? (fun n =>
        let p := s.phase n
        let a := s.slotStart k n t
        decide (a + p.onTime + 512 ≤ t) && (match p.outAt with
          | some b => decide (b < a)
          | none => true)) with
    | some n => s.updPhase n (fun p => { p with outAt := some t })
    | none => s
  else s

/-! Adding and shedding (R175 to R183). -/

/-- Phase n of rail k joins the run and issues its entry pulse (R178). -/
def joinPhase (k n : Nat) (s : State) : State :=
  let s := s.updPhase n (fun p => { p with state := 3, outAt := some (s.aon.clock * 32) })
  let s := s.put (0x3100 + k) 0x17 ((s.num (0x3100 + k) 0x17 + 1) % 2 ^ 32)
  let s := s.put (0x3200 + n) 8 ((s.num (0x3200 + n) 8 + 1) % 2 ^ 32)
  respace k (s.count 5 1)

/-- The next idle member of rail k joins, if there is one. -/
def joinNext (k : Nat) (s : State) : State :=
  match s.nextIdle k with
  | some n => joinPhase k n s
  | none => s

/-- Phase n of rail k enters shedding (R180); a sheds count is of sheds started (log entry 20). -/
def startShed (k n : Nat) (s : State) : State :=
  let s := s.updPhase n (fun p => { p with state := 4 })
  let s := s.put (0x3100 + k) 0x15 ((s.num (0x3100 + k) 0x15 + 1) % 2 ^ 32)
  let s := s.put (0x3200 + n) 9 ((s.num (0x3200 + n) 9 + 1) % 2 ^ 32)
  (s.count 6 1).updRail k (fun r => { r with shedding := some n, shedAt := s.aon.clock })

/-- A shed in progress is aborted: the phase returns to active at weight 1 and the hold restarts (R181). -/
def abortShed (k : Nat) (s : State) : State :=
  match (s.rail k).shedding with
  | some n =>
    let s := s.updPhase n (fun p => if p.state = 4 then { p with state := 3 } else p)
    let s := s.put (0x3100 + k) 0x16 ((s.num (0x3100 + k) 0x16 + 1) % 2 ^ 32)
    s.updRail k (fun r => { r with shedding := none, shedFrom := none })
  | none => s

/-- The head of the run: its first firing member. -/
def State.headPhase (s : State) (k : Nat) : Option Nat :=
  (s.ringFrom k).find? (fun n => (s.phase n).state = 3 || (s.phase n).state = 6)

/-- The head of rail k moves past phase n to the next member of the ring. -/
def passHead (k n : Nat) (s : State) : State :=
  if (s.rail k).head = n then
    let l := (s.phasesIn k [2, 3, 4, 6]).filter (fun m => m != n)
    let h := match l.find? (fun m => decide (n < m)) with
      | some m => m
      | none => l.headD 0
    s.updRail k (fun r => { r with head := h })
  else s

/-- Removals and rotation steps that an inhibit held up go on once none holds (R176, R182). -/
def resumePlanned (k : Nat) (s : State) : State :=
  if (s.rail k).shedding.isSome || s.inhibited k then s
  else
    match (s.phasesIn k [3, 6]).find? (fun n => (s.phase n).removing) with
    | some n => startShed k n (joinNext k s)
    | none =>
      if (s.rail k).rotBusy then
        match s.headPhase k with
        | some n => startShed k n s
        | none => s
      else s

/-- What becomes of phase counts at a boundary: aborts, then joins, then what waited (R190). -/
def phaseCounts (k : Nat) (s : State) : State :=
  let r := s.rail k
  if r.state = 2 || r.state = 3 then
    let s := if r.shedding.isSome && s.inhibited k then abortShed k s
      else if s.addDue k then joinNext k s else s
    resumePlanned k s
  else s

/-! Pulse skipping (R177). -/

/-- Rail k leaves pulse skipping where R177 says so. -/
def skipLeave (k : Nat) (s : State) : State :=
  let r := s.rail k
  if r.skip && (decide (110 * s.num (0x3100 + k) 0x10 * 40960 ≤ 100 * r.iRail) || s.inhibited k || r.state != 2) then
    s.updRail k (fun r => { r with skip := false, skipLow := 0 })
  else s

/-- Rail k enters pulse skipping after two conversions below the skip level (R177). -/
def skipEnter (k : Nat) (s : State) : State :=
  let r := s.rail k
  let low := decide (r.iRail < s.num (0x3100 + k) 0x10 * 40960)
  let n := if low then min 2 (r.skipLow + 1) else 0
  let go := decide (n = 2) && s.pn (0x3100 + k) 0x0F = 1 && r.state = 2 && !s.inhibited k
  s.updRail k (fun r => { r with skipLow := n, skip := r.skip || go })

/-! Feed-forward on a rail (R220, R244 to R254). -/

/-- Controller k is named in COL_CTRL of an enabled slot (R244). -/
def State.named (s : State) (k : Nat) : Bool :=
  s.ff.slots.any (fun x => x.enabled && (match x.actHdr with
    | some h => h.colCtrl.contains k
    | none => false))

/-- The conditions of R244 apart from withdrawal. -/
def State.ffCan (s : State) (k : Nat) : Bool :=
  s.isReady 16 && s.enabled 11 && bit (s.pn 0x8000 1) k && s.named k && ((s.rail k).state = 2 || (s.rail k).state = 3)

/-- Settling has ended (R253). -/
def State.settled (s : State) : Bool :=
  match s.ff.settling with
  | some t => decide (t ≤ s.aon.clock)
  | none => true

/-- A withdrawn rail may return (R254). -/
def State.ffMayReturn (s : State) (k : Nat) : Bool :=
  let conf := s.settled && decide (s.pn 0x8000 6 ≤ s.ff.matchRun)
  let fe := match (s.rail k).feAt with
    | some t => decide (t + ms (s.pn (0x3300 + k) 0x12) ≤ s.aon.clock)
    | none => true
  (!s.ff.withdrawnSfe.contains k || (conf && fe)) && (!s.ff.withdrawn.contains k || conf)

/-- Feed-forward comes into force for rail k, or leaves it, at the boundary (R244, R254). -/
def ffForceStep (k : Nat) (s : State) : State :=
  if s.ffCan k then
    if (s.rail k).ffForce then s
    else if s.ffMayReturn k then
      ({ s with ff := { s.ff with withdrawnSfe := s.ff.withdrawnSfe.filter (fun x => x != k),
                                  withdrawn := s.ff.withdrawn.filter (fun x => x != k) } } : State).updRail k
        (fun r => { r with ffForce := true, feTimer := 0 })
    else s
  else s.updRail k (fun r => { r with ffForce := false, prepos := 0, ffPhases := 0, ffDutyLeft := 0, feTimer := 0 })

/-- V_base of R246, 1/256 mV: the headroom request on the CORE rail that has one, else the operating setpoint. -/
def State.vBase (s : State) (k : Nat) : Int :=
  let r := s.rail k
  if s.ctrlOf 0 = some k && r.headroom != 0 then r.headroom else r.setNow

/-- The feed-forward phase request (R246). -/
def State.ffPhaseReq (s : State) (k i : Nat) : Nat :=
  let d := 256 * s.pn (0x3300 + k) 1
  min 12 ((10 * i + d - 1) / d + s.pn (0x8100 + k) 2)

/-- The terms of R246 recomputed at the boundary, and the duty term one sample on (R247). -/
def ffTerms (k : Nat) (s : State) : State :=
  let h := if (s.rail k).ffForce then s.hMax k s.aon.clock else none
  let pre := match h with
    | some _ => s.vBase k + 256 * (s.vofsMax k s.aon.clock : Nat)
    | none => 0
  let ph := match h with
    | some i => s.ffPhaseReq k i
    | none => 0
  s.updRail k (fun r => { r with prepos := pre, ffPhases := ph, ffDutyLeft := r.ffDutyLeft - 1 })

/-- Feed-forward ceases to be in force for rail k (R220). -/
def ffLeave (k : Nat) (s : State) : State :=
  s.updRail k (fun r => { r with ffForce := false, prepos := 0, ffPhases := 0, feTimer := 0,
                                 ffDuty := r.ffTerm, ffDutyOf := 8, ffDutyLeft := 8 })

/-! Ramps, group moves and the reference (R65, R163, R187, R189). -/

/-- A rate of x x 0.1 mV/us as 2^-16 of 1/256 mV per sample of 125 ns. -/
def rateOf (x : Nat) : Nat := x * 16 * 65536 / 5

/-- How far a rate has carried after the samples since a moment, 1/256 mV. -/
def carried (rate at_ now : Nat) : Int := ((rate * ((now - at_) / 50) / 65536 : Nat) : Int)

/-- The value moved from a towards b by at most d. -/
def towards (a b d : Int) : Int := if a ≤ b then min b (a + d) else max b (a - d)

/-- The operating setpoint of rail k goes on with its group move (R187). -/
def moveStep (k : Nat) (s : State) : State :=
  let r := s.rail k
  match r.moveRate with
  | some rate =>
    let v := towards r.moveFrom (256 * (r.setGoal : Int)) (carried rate r.moveAt s.aon.clock)
    s.updRail k (fun r => { r with setNow := v, moveRate := if v = 256 * (r.setGoal : Int) then none else some rate })
  | none => s

/-- Groups whose moves have ended leave the list (R187). -/
def movesDone (s : State) : State :=
  { s with prot := { s.prot with
      ramps := s.prot.ramps.filter (fun g => s.rails.any (fun r => r.group = g && r.moveRate.isSome)) } }

/-- The reference of rail k at the boundary (R163, R65, R189), and its state (R159). -/
def refStep (k : Nat) (s : State) : State :=
  let r := s.rail k
  if r.state = 1 then
    s.updRail k (fun r => { r with ref := towards r.rampFrom r.setNow (carried r.rampRate r.startAt s.aon.clock) })
  else if r.state = 4 then
    let v := towards r.rampFrom (min r.rampFrom 51200) (carried r.rampRate r.startAt s.aon.clock)
    s.updRail k (fun r => { r with ref := v })
  else if r.state = 2 || r.state = 3 then
    let t := s.workTarget k
    let v := towards r.ref t (s.num (0x3100 + k) 4 * 16 / 5)
    s.updRail k (fun r => { r with ref := v, state := if v = t then 2 else 3 })
  else s

/-- A STOPPING rail at 200 mV puts PH_PWM in high impedance, drops PH_EN and enters OFF (R189). -/
def railStopped (k : Nat) (s : State) : State :=
  if (s.rail k).state = 4 && decide ((s.rail k).vout ≤ 400) then
    respace k ((stopFiring k s).updRail k (fun r => { r with state := 0, ref := 0, rampRate := 0 }))
  else s

/-- Rail k starts to ramp from 0 V at a rate; every in-service phase is active (R65, R67, R189). -/
def startRail (k rate : Nat) (s : State) : State :=
  let s := forEach (s.phasesIn k [2, 3, 4]) (fun n s => s.updPhase n (fun p => { p with state := 3 })) s
  let h := (s.phasesIn k [3, 6]).headD 0
  let s := s.updRail k (fun r => { r with
    state := 1, ref := 0, rampFrom := 0, rampRate := rate, startAt := s.aon.clock, prebias := true,
    setNow := 256 * (r.setGoal : Int), moveRate := none, head := h,
    period := fswPeriod r.fsw, p0At := s.aon.clock * 32, ovCount := 0, vsCount := 0, uvFrom := none, uvRaised := 0,
    shedding := none, shedFrom := none, rotBusy := false, skip := false, skipLow := 0 })
  respace k s

/-- Rail k begins to stop at a rate (R189): a group move of its ends, sheds end, and TCLK_OUT stops for CORE. -/
def stopRail (k rate : Nat) (s : State) : State :=
  let st := (s.rail k).state
  if st = 1 || st = 2 || st = 3 then
    let s := endGroupMove k s
    let s := forEach (s.phasesIn k [4]) (fun n s => s.updPhase n (fun p => { p with state := 3 })) s
    let s := if st = 1 then s else leaveRegulation k s
    let s := if s.ctrlOf 0 = some k || (s.rail k).railId = 0 then stopTclk k s else s
    s.updRail k (fun r => { r with state := 4, rampFrom := r.ref, rampRate := rate, startAt := s.aon.clock,
                                   moveRate := none, ffForce := false, prepos := 0, ffPhases := 0, ffDutyLeft := 0,
                                   feTimer := 0, skip := false, rotBusy := false, uvFrom := none, uvRaised := 0,
                                   shedding := none, shedFrom := none, regSync := 0, prebias := false })
  else s

/-! The compensator (R164 to R168). -/

/-- The built-in coefficient set (R166). -/
def builtinBank : List Int := [0x8000, -0x7800, 0, 0, 0x100_0000, 0, 0]

/-- A coefficient bank as written (R165). -/
def bankOf (l : List Byte) : List Int := (List.range 7).map (fun n => sx 32 (leAt l (4 * n) 4))

/-- The coefficients in use by controller k. -/
def State.coeffs (s : State) (k : Nat) : List Int :=
  let r := s.rail k
  if r.builtin then builtinBank
  else match s.dom (0x3110 + k) (if r.bankB then 2 else 1) with
    | some l => bankOf l
    | none => builtinBank

/-- The sum of products of two lists. -/
def dotI : List Int → List Int → Int
  | a :: l, b :: m => a * b + dotI l m
  | _, _ => 0

/-- The compensator of one sample: the error enters the history, and u follows (R164). -/
def compensate (k : Nat) (s : State) : State :=
  let r := s.rail k
  let e := (r.ref + 64) / 128 - (r.vout : Int)
  let c := s.coeffs k
  let acc := dotI (c.take 4) (e :: r.eHist) * 2 ^ 24 + dotI (c.drop 4) r.uHist
  let u := min (max ((acc + 2 ^ 23) / 2 ^ 24) 0) (s.dMax k)
  s.updRail k (fun r => { r with eHist := (e :: r.eHist).take 3, uHist := (u :: r.uHist).take 3 })

/-! Voltage checks (R206 to R209). -/

/-- The rounded reference in 0.5 mV. -/
def Rail.rref (r : Rail) : Int := (r.ref + 64) / 128

/-- The sample lies above the OV level (R206). -/
def State.aboveOv (s : State) (k : Nat) : Bool :=
  decide ((s.rail k).rref * (100 + s.num (0x3300 + k) 8) < 100 * ((s.rail k).vout : Int))

/-- The sample lies below the UV level (R208). -/
def State.belowUv (s : State) (k : Nat) : Bool :=
  decide (100 * ((s.rail k).vout : Int) < (s.rail k).rref * (100 - s.num (0x3300 + k) 9))

/-- Note where the condition of a fault went away, or that it stands. -/
def Fault_.cond (code item now : Nat) (here : Bool) (f : Fault_) : Fault_ :=
  if f.code = code && f.item = item then { f with clearFrom := if here then none else some (f.clearFrom.getD now) } else f

/-- The same for every such fault in a context. -/
def Ctx.cond (code item now : Nat) (here : Bool) (c : Ctx) : Ctx :=
  { c with cur := c.cur.map (Fault_.cond code item now here), latched := c.latched.map (Fault_.cond code item now here),
           loose := c.loose.map (Fault_.cond code item now here) }

/-- Counts of OV, VSENSE and UV after a sample; OV and VSENSE raise their faults at the second and fourth sample. -/
def voltageChecks (k : Nat) (s : State) : State :=
  let r := s.rail k
  let ov := if s.aboveOv k && !(r.state = 1 && r.prebias) then min 3 (r.ovCount + 1) else 0
  let vs := if (r.vout = 0 || r.vout = 0xFFF) && r.state != 0 && r.state != 5 && decide (25600 < r.ref)
    then min 5 (r.vsCount + 1) else 0
  let low := s.belowUv k && (r.state = 2 || r.state = 3)
  let s := s.updRail k (fun r => { r with
    ovCount := ov, vsCount := vs,
    uvFrom := if low then some (r.uvFrom.getD s.aon.clock) else none,
    uvRaised := if low then r.uvRaised else 0 })
  let s := s.updCtx k (Ctx.cond 0x0305 0xFFFF s.aon.clock low)
  let s := if ov = 2 then raiseFault k 0x0304 3 0xFF 0xFFFF 0 s else s
  if vs = 4 then raiseFault k 0x0306 3 0xFF 0xFFFF 0 s else s

/-! External synchronisation (R184 to R186). -/

/-- The input frequency in kHz; 0 while not qualified. -/
def State.syncKhz (s : State) : Nat := if s.prot.syncOk && s.prot.syncPeriod != 0 then 12800000 / s.prot.syncPeriod else 0

/-- The input frequency lies within 10 % of the rail's FSW (R184). -/
def State.syncNear (s : State) (k : Nat) : Bool :=
  decide (90 * (s.rail k).fsw ≤ 100 * s.syncKhz) && decide (100 * s.syncKhz ≤ 110 * (s.rail k).fsw)

/-- Rail k may acquire the input (R184). -/
def State.syncCan (s : State) (k : Nat) : Bool :=
  bit (s.pn 0x3000 1) k && s.prot.syncOk && s.syncNear k && ((s.rail k).state = 2 || (s.rail k).state = 3)

/-- The period goes towards a goal by at most 1 % a period, so many periods (R184, R185). -/
def periodTowards : Nat → Nat → Nat → Nat
  | 0, T, _ => T
  | n + 1, T, g => if T = g then T else periodTowards n ((towards T g (max 1 (T / 100 : Nat))).toNat) g

/-- Period starts of position 0 that have passed, and the period on its way to its goal. -/
def periodStep (k : Nat) (s : State) : State :=
  let r := s.rail k
  if r.period = 0 then s
  else
    let n := (s.aon.clock * 32 - r.p0At) / r.period
    let g := if r.regSync = 0 then fswPeriod r.fsw else s.prot.syncPeriod
    s.updRail k (fun r => { r with p0At := r.p0At + n * r.period, period := periodTowards (min n 256) r.period g })

/-- A rail whose conditions hold begins to acquire the input; one disabled leaves it. -/
def syncStep (k : Nat) (s : State) : State :=
  let r := s.rail k
  if r.regSync = 0 && s.syncCan k then s.updRail k (fun r => { r with regSync := 1 })
  else if r.regSync != 0 && !bit (s.pn 0x3000 1) k then s.updRail k (fun r => { r with regSync := 0 })
  else s

/-! The boundary as a whole (R190). -/

/-- One controller at a sample boundary with its voltage sample. -/
def railSample (k v : Nat) (s : State) : State :=
  if (s.rail k).state = 0 || !s.railUsed k then s
  else
    let s := s.updRail k (fun r => { r with vout := v % 4096 })
    let s := ffTerms k (ffForceStep k s)
    let s := refStep k (moveStep k s)
    let s := s.updRail k (fun r => { r with prebias := r.prebias && decide (r.rref < (r.vout : Int)) })
    let s := voltageChecks k (compensate k s)
    let s := railStopped k s
    let s := skipLeave k (phaseCounts k s)
    let s := syncStep k (periodStep k s)
    let s := if s.pn (0x3100 + k) 5 = 1 && !s.pwmOff k then adaptive k s else s
    forEach (s.phasesOf k) (fun n s => s.updPhase n (fun p => { p with onTime := s.newOnTime k n })) s

/-! Failed phases (R213 to R216). -/

/-- A phase of rail k leaves the shed or rotation in progress as it fails (R227). -/
def failDuringShed (k n : Nat) (s : State) : State :=
  let s := if (s.rail k).shedding = some n then s.updRail k (fun r => { r with shedding := none, shedFrom := none })
    else abortShed k s
  s.updRail k (fun r => { r with rotBusy := false, rotFrom := s.aon.clock })

/-- A failure at S2 instead of S1 (R217). -/
def State.failSev (s : State) (k : Nat) : Nat := if s.overCont k then 2 else 1

/-- NO_PHASE (R216): a sense-failed phase with no active phase of weight 1 beside it, or no healthy in-service phase left
to fire or to join. -/
def State.noPhase (s : State) (k : Nat) : Bool :=
  (s.phasesIn k [2, 3, 4]).isEmpty || (!(s.phasesIn k [6]).isEmpty && (s.phasesIn k [3]).isEmpty)

/-- Phase n is classified failed open (5) or sense failed (6) (R214 to R217). -/
def failPhase (n st : Nat) (s : State) : State :=
  let k := (s.phase n).ctrl
  let s := failDuringShed k n s
  let again := match (s.phase n).reinstAt with
    | some t => decide (s.aon.clock ≤ t + ms 10)
    | none => false
  let s := s.updPhase n (fun p => { p with
    state := st, wasFailed := true, suspect := false, count := 0, barred := p.barred || again, trim := 0, trimLim := false,
    onTime := 0, removing := false, ocAt := none, ocLong := false })
  let s := respace k (if st = 5 then passHead k n s else s)
  let s := raiseFault k (if st = 5 then 0x0307 else 0x0308) (s.failSev k) n 0xFFFF 0 s
  if s.noPhase k then raiseFault k 0x030E 3 0xFF 0xFFFF 0 s else s

/-- The sum check (R214): true for failed open. -/
def State.sumCheckOpen (s : State) (k : Nat) : Bool :=
  let r := s.rail k
  let est := (s.cap.iEst.getD r.railId 0) * 8
  let sum := (s.firing k).map (fun m => (s.phase m).cur)
  let tot := sum.foldl (· + ·) 0
  !s.isReady 15 || decide (2 < r.railId) || decide ((s.firing k).length ≤ 1) ||
    decide ((5 * tot - est).natAbs * 100 ≤ s.pn (0x3300 + k) 0x0E * est.natAbs)

end Sys2Proof.Machine
end

