-- ==== Sys2Proof/Machine/RailConv.lean ====
section
/-! DEFINITION. The current conversion: phase and rail currents, the limits' timers, the stage temperature, the share
loop and its checks, the current loops (R161, R171, R201 to R219, R325). -/

namespace Sys2Proof.Machine

open Sys2Proof

/-! Currents (R161). -/

/-- Phase n's conversion: gain x (V_IMON - V_REF) + offset, in 0.1 A / 40,960 (a step is 1.2 V / 4,096). -/
def State.phaseCur (s : State) (n imon iref : Nat) : Int :=
  s.num (0x3200 + n) 4 * ((imon : Int) - (iref : Int)) * 12 + s.num (0x3200 + n) 5 * 40960

/-- Every phase takes its conversion. -/
def takeCurrents (imon : List Nat) (iref : Nat) (s : State) : State :=
  forEach (List.range 16) (fun n s =>
    let x := imon.getD n 0 % 4096
    s.updPhase n (fun p => { p with imon := x, cur := s.phaseCur n x (iref % 4096) })) s

/-- The mean current of rail k's active phases of weight 1 (R216). -/
def State.meanCur (s : State) (k : Nat) : Int :=
  let l := s.phasesIn k [3]
  if l.isEmpty then 0 else (l.map (fun n => (s.phase n).cur)).foldl (· + ·) 0 / (l.length : Int)

/-- The rail current: active and shedding phases as measured, sense-failed ones at the mean, held at or above zero. -/
def State.railCur (s : State) (k : Nat) : Int :=
  max 0 (((s.phasesIn k [3, 4]).map (fun n => (s.phase n).cur)).foldl (· + ·) 0 +
    ((s.phasesIn k [6]).length : Int) * s.meanCur k)

/-! Stage temperature (R210 to R212). -/

/-- A conversion of PS_TMON enters the mean; STG_WARN stands or falls. -/
def takeStage (tmon : Nat) (s : State) : State :=
  let s := { s with prot := { s.prot with tmon := (tmon :: s.prot.tmon).take 16 } }
  let t := s.stageTemp
  let w := s.num 0x3310 1
  { s with prot := { s.prot with
      stgWarn := decide (10 * w ≤ t) || (s.prot.stgWarn && decide (10 * (w - s.num 0x3310 3) ≤ t)),
      stgShut := decide (10 * s.num 0x3310 2 ≤ t) } }

/-! The share loop and the share check (R171, R213). -/

/-- The bound of a share trim, 82/4,096 of duty, SQ8.24 (R171). -/
def trimMax : Int := 82 * 4096

/-- The share loop sets phase n's trim: a free value within its bound, for R171 gives the goal and not the law. -/
def shareTrim (n : Nat) (s : State) : State :=
  let t := clampI (-trimMax) trimMax (sx 64 (Config.shareTrim s.free).toNat)
  s.takeFree.updPhase n (fun p => { p with trim := t, trimLim := decide (t = trimMax) || decide (t = -trimMax) })

/-- The share loop of rail k. -/
def shareLoop (k : Nat) (s : State) : State := forEach (s.phasesIn k [3, 4]) shareTrim s

/-- The conversion counts against phase n of rail k (R213). -/
def State.sharesBad (s : State) (k n : Nat) : Bool :=
  let o := (s.phasesIn k [3]).filter (fun m => m != n)
  let sum := (o.map (fun m => (s.phase m).cur)).foldl (· + ·) 0
  let c : Int := o.length
  !o.isEmpty && decide (s.num (0x3300 + k) 0x0C * 40960 * c ≤ sum) && (s.phase n).trimLim &&
    decide (s.num (0x3300 + k) 0x0B * sum < 100 * ((s.phase n).cur * c - sum).natAbs)

/-- The share check of rail k's active phases: counts, and suspects at the detection count. -/
def shareCheck (k : Nat) (s : State) : State :=
  forEach (s.phasesIn k [3]) (fun n s' =>
    let c := if s.sharesBad k n then (s.phase n).count + 1 else 0
    s'.updPhase n (fun p => { p with
      count := min 255 c, suspect := p.suspect || decide (s.pn (0x3300 + k) 0x0D ≤ c) })) s

/-! Current limits (R202 to R205). -/

/-- Phases of rail k whose over-current hold starts at this conversion (R202). -/
def State.newHolds (s : State) (k : Nat) : List Nat :=
  (s.phasesIn k [2, 3, 4]).filter (fun n =>
    (s.phase n).ocAt.isNone && decide (s.num (0x3300 + k) 4 * 40960 < (s.phase n).cur))

/-- Holds start and end (R202). -/
def phaseHolds (k : Nat) (s : State) : State :=
  forEach (s.phasesOf k) (fun n s =>
    let p := s.phase n
    if p.ocAt.isSome then
      if p.cur ≤ s.num (0x3300 + k) 1 * 40960 then s.updPhase n (fun p => { p with ocAt := none, ocLong := false }) else s
    else if (s.newHolds k).contains n then s.updPhase n (fun p => { p with ocAt := some s.aon.clock, ocLong := false })
    else s) s

/-- The peak timer, the count above I_lim and the fold-back timers after a conversion (R203, R204). -/
def limitTimers (k : Nat) (s : State) : State :=
  let r := s.rail k
  let hi := decide (s.iCont k < r.iRail)
  let ov := decide (s.iLim k < r.iRail)
  s.updRail k (fun r => { r with
    peakTimer := if hi then r.peakTimer + 1 else r.peakTimer - 1,
    overLim := if ov then min 2 (r.overLim + 1) else 0,
    foldTimer := if r.fold && hi then r.foldTimer + 1 else r.foldTimer,
    foldLowFrom := if r.fold && !hi then some (r.foldLowFrom.getD s.aon.clock) else none })

/-- Rail k enters fold-back (R204): its FOLD is raised by the caller. -/
def markFold (k : Nat) (s : State) : State :=
  s.updRail k (fun r => { r with fold := true, foldTimer := 0, foldLowFrom := none, overLim := 0 })

/-- I_rail lies above I_lim x the hard level (R205). -/
def State.aboveHard (s : State) (k : Nat) : Bool :=
  decide (s.iLim k * s.num (0x3300 + k) 5 < 100 * (s.rail k).iRail)

/-- The FE timer after a conversion (R219). -/
def feStep (k : Nat) (s : State) : State :=
  let r := s.rail k
  if r.ffForce then
    match s.predAt k s.aon.clock with
    | some p =>
      let i : Int := 1600 * (p : Int)
      let bad := decide (max (s.num (0x3300 + k) 0x0F * i / 100) (s.num (0x3300 + k) 0x10 * 40960) <
        ((r.iRail - i).natAbs : Int))
      s.updRail k (fun r => { r with feTimer := if bad then r.feTimer + 1 else r.feTimer - 1 })
    | none => s
  else s

/-- The shed hold of rail k: since when the level has held (R180). -/
def shedHold (k : Nat) (s : State) : State :=
  let r := s.rail k
  let n := s.nFire k
  let low := decide (2 ≤ n) && decide (r.iRail < s.num (0x3100 + k) 9 * 40960 * ((n - 1 : Nat) : Int)) &&
    r.state = 2 && r.shedding.isNone
  s.updRail k (fun r => { r with shedFrom := if low then some (r.shedFrom.getD s.aon.clock) else none })

/-- A current loop at a conversion (R325). -/
def Loop_.step (i : Int) (l : Loop_) : Loop_ :=
  if l.target < i then
    let k := min 24 (l.skip + 2)
    { l with skip := k, div := l.div || decide (k = 24) }
  else if 100 * i ≤ 95 * l.target then
    if l.div then { l with div := false } else { l with skip := l.skip - 1 }
  else l

/-- Every current loop acts against its rail's current. -/
def loopsStep (s : State) : State :=
  { s with cap := { s.cap with loops := s.cap.loops.map (fun l => l.step (s.rail l.rail).iRail) } }

/-! The conversion as a whole. -/

/-- A fault as a conversion finds it. -/
structure Found where
  /-- fault code. -/
  code : Nat
  /-- severity. -/
  sev : Nat
  /-- phase, 0xFF none. -/
  phase : Nat := 0xFF
  deriving DecidableEq, Repr

/-- Put a fault in the order of R226: severity first, then code. -/
def insFound (f : Found) : List Found → List Found
  | [] => [f]
  | g :: l => if g.sev < f.sev || (g.sev = f.sev && f.code < g.code) then f :: g :: l else g :: insFound f l

/-- Raise faults of one context that one boundary found, in the order of R226. -/
def raiseFound (c : Nat) (l : List Found) (s : State) : State :=
  (l.foldl (fun a f => insFound f a) []).foldl (fun s f => raiseFault c f.code f.sev f.phase 0xFFFF 0 s) s

/-- The faults that rail k finds at a conversion. -/
def State.convFound (s : State) (k : Nat) (warn shut : Bool) : List Found :=
  let run := (s.rail k).state != 0 && (s.rail k).state != 5
  (if run && s.aboveHard k then [{ code := 0x0303, sev := 3 }] else []) ++
    (if shut then [{ code := 0x030B, sev := 3 }] else []) ++
    (if run && (s.rail k).overLim = 2 && !(s.rail k).fold then [{ code := 0x0302, sev := 2 }] else []) ++
    (if warn then [{ code := 0x030A, sev := 1 }] else []) ++
    (if run then (s.newHolds k).map (fun n => { code := 0x0301, sev := 0, phase := n }) else [])

/-- Rail k at a conversion; `warn` and `shut` say that STG_WARN and STG_SHUT arise at it. -/
def railConv (warn shut : Bool) (k : Nat) (s : State) : State :=
  if !s.railUsed k then s
  else
    let s := s.updRail k (fun r => { r with iRail := s.railCur k })
    let run := (s.rail k).state != 0 && (s.rail k).state != 5
    let s := if run then limitTimers k (shareCheck k (shareLoop k s)) else s
    let l := s.convFound k warn shut
    let s := if run then phaseHolds k s else s
    let s := if l.any (fun f => f.code = 0x0302) then markFold k s else s
    let s := raiseFound k l s
    if run then skipEnter k (skipLeave k (shedHold k (feStep k s))) else s

/-- The conversion of all phase currents and of PS_TMON at one instant. -/
def conversion (imon : List Nat) (iref tmon : Nat) (s : State) : State :=
  if !s.aon.ctlReleased then s
  else
    let s := advanceTo (s.nextBound 400 s.prot.convAt) s
    let s := { s with prot := { s.prot with convAt := some s.aon.clock } }
    let w := s.prot.stgWarn
    let h := s.prot.stgShut
    let s := takeStage tmon (takeCurrents imon iref s)
    let s := forEach [0, 1, 2, 3, 4, 5] (railConv (s.prot.stgWarn && !w) (s.prot.stgShut && !h)) s
    loopsStep s

end Sys2Proof.Machine
end

