-- ==== Sys2Proof/Machine/RailObj.lean ====
section
/-! DEFINITION. The objects of the rails and of their protection: what they read and what writing them does
(R156 to R159, R168, R182 to R189, R194 to R198, R223, R232). -/

namespace Sys2Proof.Machine

open Sys2Proof

/-! Last-fault records as bytes (R230). -/

/-- The 60 bytes before MARK of a last-fault record. -/
def LastFault.body (r : LastFault) : List Byte :=
  leBytes 2 0x0200 ++ leBytes 2 r.code ++ leBytes 1 r.sev ++ leBytes 1 r.flags ++ leBytes 1 r.ctrl ++ leBytes 1 r.phase ++
    leBytes 8 r.tick ++ leBytes 8 r.sec ++ leBytes 4 r.frac ++ leBytes 2 r.vout ++ leBytes 2 r.target ++ leBytes 2 r.iout ++
    leBytes 2 r.icont ++ leBytes 2 (ux 16 r.stageT) ++ leBytes 2 r.inserv ++ leBytes 2 r.failed ++ leBytes 2 r.prior ++
    leBytes 1 r.priorSev ++ leBytes 1 r.nAct ++ leBytes 2 r.prog ++ leBytes 4 r.stepIdx ++ leBytes 4 r.boot

/-- A last-fault record as it stands in flash. -/
def LastFault.bytes (r : LastFault) : List Byte := r.body ++ leBytes 4 (crc32 r.body) ++ leBytes 4 0x4C46_0702

/-- A slot of the last-fault area; an erased one reads ones. -/
def slotBytes (r : Option LastFault) : List Byte :=
  match r with
  | some r => r.bytes
  | none => List.replicate 64 0xFF

/-! Reads. -/

/-- The phase's in-service object reads 1 (R158, R182). -/
def Phase.inService (p : Phase) : Bool := decide (2 ≤ p.state) && !p.removing

/-- The number of an object of 0x3000 to 0x33FF, where it is not a stored value. -/
def railsRead (i sub : Nat) (s : State) : Option Int :=
  if i = 0x3000 then
    if sub = 2 then some s.syncKhz else if sub = 3 then some (b2n s.prot.syncOk) else none
  else if 0x3100 ≤ i && i < 0x3106 then
    let k := i - 0x3100
    let r := s.rail k
    if sub = 1 then some ((r.setNow + 128) / 256)
    else if sub = 6 then some r.fsw
    else if sub = 7 then some (maskOf (s.phasesOf k))
    else if sub = 0x12 then some r.group
    else if sub = 0x13 then some (b2n r.enable)
    else if sub = 0x18 then some (if s.railUsed k then s.workTarget k / 256 else 0)
    else none
  else if 0x3110 ≤ i && i < 0x3116 then
    if sub = 3 then some (b2n (s.rail (i - 0x3110)).bankB) else none
  else if 0x3200 ≤ i && i < 0x3210 then
    let p := s.phase (i - 0x3200)
    if sub = 1 then some p.ctrl
    else if sub = 2 then some (b2n p.inService)
    else if sub = 3 then some p.state
    else if sub = 6 then some (held (-32768) 32767 (p.cur / 40960))
    else if sub = 0x0A then some (if p.pos = 0xF then 0xFF else p.pos)
    else none
  else if 0x3300 ≤ i && i < 0x3306 then
    let k := i - 0x3300
    if sub = 0x15 then some (held 0 65535 (s.iLim k / 40960))
    else if sub = 0x16 then some (held 0 65535 (s.iCont k / 40960))
    else none
  else if i = 0x3310 then
    if sub = 5 then some (held 0 1750 s.stageTemp) else none
  else if i = 0x3330 then
    if sub = 2 then some (s.flash.lfOrder.headD 0xFF) else none
  else none

/-- The octets of a DOMAIN of 0x3000 to 0x33FF. -/
def railsReadDom (i sub : Nat) (s : State) : Option (List Byte) :=
  if i = 0x3330 && sub = 3 then some ((s.flashRead.lastFault.map slotBytes).flatten)
  else if 0x3110 ≤ i && i < 0x3116 then
    some ((s.dom i sub).getD ((builtinBank.map (fun v => leBytes 4 (ux 32 v))).flatten))
  else none

/-! Writes. -/

/-- The setpoints that a group move names: (controller, mV) (R187). -/
def movesOf (b : List Byte) : List (Nat × Nat) :=
  ((List.range 6).map (fun k => (k, leAt b (2 * k) 2))).filter (fun x => x.2 != 0)

/-- The rate of one rail of a coincident or ratiometric group whose largest change is M (R187, R189). -/
def State.groupRate (s : State) (g : Nat) (d m : Nat) : Nat :=
  let r := rateOf (s.pn 0x3001 (5 + g))
  if s.pn 0x3001 (1 + g) = 1 && m != 0 then r * d / m else r

/-- The values of a group move lie within their rails' limits. -/
def State.movesInRange (s : State) (l : List (Nat × Nat)) : Bool :=
  l.all (fun x => decide (s.num (0x3100 + x.1) 2 ≤ (x.2 : Int)) && decide ((x.2 : Int) ≤ s.num (0x3100 + x.1) 3))

/-- The rails named by a group move may move: one group, REGULATING or MOVING, no move of the group in progress. -/
def State.movesAllowed (s : State) (l : List (Nat × Nat)) : Bool :=
  match l with
  | [] => true
  | x :: _ =>
    let g := (s.rail x.1).group
    l.all (fun y => (s.rail y.1).group = g && ((s.rail y.1).state = 2 || (s.rail y.1).state = 3)) && !s.prot.ramps.contains g

/-- The named rails begin to move (R187). -/
def startMoves (l : List (Nat × Nat)) (s : State) : State :=
  match l with
  | [] => s
  | x :: _ =>
    let g := (s.rail x.1).group
    let m := (l.map (fun y => (256 * (y.2 : Int) - (s.rail y.1).setNow).natAbs)).foldl max 0
    let s' := forEach (List.range 6) (fun k s' =>
      match l.find? (fun y => y.1 = k) with
      | some y =>
        let d := (256 * (y.2 : Int) - (s.rail k).setNow).natAbs
        let rate := s.groupRate g d m
        s'.updRail k (fun r => { r with setGoal := y.2, moveFrom := r.setNow, moveAt := s.aon.clock,
                                        moveRate := if d = 0 then none else some rate })
      | none => s') s
    movesDone { s' with prot := { s'.prot with ramps := s'.prot.ramps ++ [g] } }

/-- A group move written (R187). -/
def groupMove (b : List Byte) (s : State) : Except Nat State :=
  let l := movesOf b
  needRange (s.movesInRange l) (needState (s.movesAllowed l) (.ok (startMoves l s)))

/-- A group stop: every rail of the group stops at the group's rates, referred to 200 mV (R189). -/
def groupStop (g : Nat) (s : State) : State :=
  let l := (List.range 6).filter (fun k => s.railUsed k && decide ((s.rail k).group = g))
  let dist := fun k => ((s.rail k).ref - 51200).toNat
  let m := (l.map dist).foldl max 0
  forEach l (fun k s' => stopRail k (s.groupRate g (dist k) m) s') s

/-- The operating setpoint of rail k written alone (R188). -/
def writeSetpoint (k : Nat) (v : Int) (s : State) : Except Nat State :=
  needRange (decide (s.num (0x3100 + k) 2 ≤ v) && decide (v ≤ s.num (0x3100 + k) 3))
    (needState (!s.prot.ramps.contains (s.rail k).group)
      (.ok (s.updRail k (fun r => { r with setGoal := v.toNat, setNow := 256 * v }))))

/-- Rail enable of rail k written (R189). -/
def writeEnable (k : Nat) (v : Int) (s : State) : Except Nat State :=
  let r := s.rail k
  if v = 1 then
    needState (s.railUsed k && r.state != 5)
      (let s := s.updRail k (fun r => { r with enable := true })
       .ok (if r.state = 0 then startRail k (rateOf (s.pn (0x3100 + k) 4)) s else s))
  else
    let s := s.updRail k (fun r => { r with enable := false })
    .ok (if r.state = 5 then s else stopRail k (rateOf (s.pn (0x3100 + k) 4)) s)

/-- The swap object of rail k written (R168): the other bank is active from the next boundary. -/
def bankSwap (k : Nat) (s : State) : State :=
  let s := s.updRail k (fun r => { r with bankB := !r.bankB, builtin := false })
  let s := s.put (0x3110 + k) 5 ((s.num (0x3110 + k) 5 + 1) % 2 ^ 32)
  raise 0x0320 0 k (b2n (s.rail k).bankB) s

/-- The controller of phase n written (R157). -/
def writePhaseCtrl (n : Nat) (v : Int) (s : State) : Except Nat State :=
  let p := s.phase n
  let k := v.toNat
  needState ((p.state = 0 || p.state = 1) && (k = 7 || decide ((s.phasesOf k).length < 12) || p.ctrl = k))
    (.ok (s.updPhase n (fun p => { p with ctrl := k, state := if k = 7 then 0 else 1, pos := 0xF, removing := false })))

/-- In-service phases of controller k that have not failed. -/
def State.healthy (s : State) (k : Nat) : List Nat := (s.phasesIn k [2, 3, 4]).filter (fun n => !(s.phase n).removing)

/-- The in-service object of phase n written 0 (R182, R218). -/
def phaseOut (n : Nat) (s : State) : Except Nat State :=
  let p := s.phase n
  let k := p.ctrl
  let m := ((s.healthy k).filter (fun x => x != n)).length
  needState (p.state != 0)
    (if p.state = 1 || p.state = 5 || p.removing then
      .ok (respace k (s.updPhase n (fun p => { p with state := 1, removing := false })))
    else
      needState (decide (s.pn (0x3100 + k) 8 ≤ m) && decide ((s.rail k).iRail ≤ (m : Int) * s.num (0x3100 + k) 0x0A * 40960))
        (.ok (if p.state = 2 then respace k (passHead k n (s.updPhase n (fun p => { p with state := 1 })))
          else resumePlanned k (s.updPhase n (fun p => { p with removing := true })))))

/-- The in-service object of phase n written 1 (R183, R218). -/
def phaseIn (n : Nat) (s : State) : Except Nat State :=
  let p := s.phase n
  needState (p.state != 0 && !p.barred)
    (if p.state = 1 then
      .ok (respace p.ctrl (s.updPhase n (fun p => { p with
        state := 2, count := 0, reinstAt := if p.wasFailed then some s.aon.clock else none, wasFailed := false })))
    else .ok (s.updPhase n (fun p => { p with removing := false })))

/-- The fault that put rail k in SAFE is still detected (R223). -/
def State.causeStands (s : State) (k : Nat) : Bool :=
  let c := (s.rail k).safeCode
  if !s.aon.thermtripN then true
  else if c = 0x0304 || c = 0x030F then s.aboveOv k
  else if c = 0x030B then s.prot.stgShut
  else if c = 0x030C then s.prot.stgFlt
  else if c = 0x030E then s.noPhase k
  else false

/-- SAFE of rail k may be released (R223). -/
def State.mayRelease (s : State) (k : Nat) : Bool :=
  (s.rail k).state = 5 && decide ((s.rail k).vout ≤ 400) && !s.causeStands k

/-- Release puts rail k in OFF and empties its context's queue (R223). -/
def releaseSafe (k : Nat) (s : State) : State :=
  let fs := (s.ctx k).cur.toList ++ (s.ctx k).latched
  let s := fs.foldl (fun s f => if f.sev = 4 then s else withdrawFor k f.code f.item s) s
  let s := s.updCtx k (fun c => { c with
    cur := match c.cur with
      | some f => if f.sev = 3 then none else some f
      | none => none,
    latched := [] })
  updAccr (s.updRail k (fun r => { r with state := 0, ref := 0, restartAt := none, safeCode := 0 }))

/-- Writes of 0x3000 and 0x3001. -/
def railsCommonWrite (i sub : Nat) (v : Int) (b : List Byte) (s : State) : Except Nat State :=
  if i = 0x3000 && sub = 6 then groupMove b s
  else if i = 0x3000 && sub = 1 then
    let new := (List.range 6).filter (fun k =>
      bit v.toNat k && !bit (s.pn 0x3000 1) k && s.prot.syncOk && s.railUsed k && !s.syncNear k)
    .ok (forEach new (fun k s => raise 0x0322 0 k s.syncKhz s) (storeVal i sub v b s))
  else if i = 0x3001 && sub = 9 then .ok (groupStop v.toNat s)
  else .ok (storeVal i sub v b s)

/-- Writes of rail objects 0x3100 + k. -/
def railWrite (k sub : Nat) (v : Int) (b : List Byte) (s : State) : Except Nat State :=
  let i := 0x3100 + k
  if sub = 1 then writeSetpoint k v s
  else if sub = 3 then needRange (decide (s.num i 2 ≤ v)) (.ok (storeVal i sub v b s))
  else if sub = 6 then .ok (s.updRail k (fun r => { r with fsw := v.toNat }))
  else if sub = 9 then needRange (decide (v < s.num i 0x0A)) (.ok (storeVal i sub v b s))
  else if sub = 0x0A then needRange (decide (s.num i 9 < v)) (.ok (storeVal i sub v b s))
  else if sub = 0x13 then writeEnable k v s
  else .ok (storeVal i sub v b s)

/-- Writes of protection objects. -/
def protWrite (i sub : Nat) (v : Int) (b : List Byte) (s : State) : Except Nat State :=
  if 0x3300 ≤ i && i < 0x3306 then
    if sub = 1 then needRange (decide (v < s.num i 4)) (.ok (storeVal i sub v b s))
    else if sub = 4 then needRange (decide (s.num i 1 < v)) (.ok (storeVal i sub v b s))
    else if sub = 0x14 then
      .ok ((storeVal i sub v b s).updRail (i - 0x3300) (fun r => { r with retries := v.toNat }))
    else if sub = 0x17 then needState (s.mayRelease (i - 0x3300)) (.ok (releaseSafe (i - 0x3300) s))
    else .ok (storeVal i sub v b s)
  else if i = 0x3310 && sub = 1 then needRange (decide (v < s.num i 2)) (.ok (storeVal i sub v b s))
  else if i = 0x3310 && sub = 2 then needRange (decide (s.num i 1 < v)) (.ok (storeVal i sub v b s))
  else .ok (storeVal i sub v b s)

/-- A write of an object of 0x3000 to 0x33FF that has passed the checks before its range. -/
def railsWrite (i sub : Nat) (v : Int) (b : List Byte) (s : State) : Except Nat State :=
  if i < 0x3100 then railsCommonWrite i sub v b s
  else if i < 0x3106 then railWrite (i - 0x3100) sub v b s
  else if 0x3110 ≤ i && i < 0x3116 then
    let k := i - 0x3110
    if sub = 4 then .ok (bankSwap k s)
    else needState (decide (sub ≠ (if (s.rail k).bankB then 2 else 1))) (.ok (storeVal i sub v b s))
  else if 0x3200 ≤ i && i < 0x3210 then
    let n := i - 0x3200
    if sub = 1 then writePhaseCtrl n v s
    else if sub = 2 then (if v = 0 then phaseOut n s else phaseIn n s)
    else .ok (storeVal i sub v b s)
  else protWrite i sub v b s

end Sys2Proof.Machine
end

