-- ==== Sys2Proof/Machine/ShimLib.lean ====
section
/-! DEFINITION. Shim regulators and kerf units: the control cycle, references and headroom, preloads, stretches, trims
(R259 to R286). -/

namespace Sys2Proof.Machine

open Sys2Proof

/-- The controller that feeds the shims (R262). -/
def State.core (s : State) : Nat := (s.ctrlOf 0).getD 0

/-- Latest sample of the CORE rail, 0.5 mV. -/
def State.coreV (s : State) : Nat := (s.rail s.core).vout

/-- SHIM_SET of the boot record in use; 0 selects bypass (R62). -/
def State.shimSet (s : State) : Nat :=
  match s.aon.bootRec with
  | some r => r.shimSet
  | none => 0

/-- The highest target that R261 admits: the CORE maximum less the dropout target. -/
def State.targetMax (s : State) : Int := s.num (0x3100 + s.core) 3 - s.num 0x4000 1

/-- The operating setpoint of CORE in mV, for bypass (R269). -/
def State.coreSet (s : State) : Int := ((s.rail s.core).setNow + 128) / 256

/-- r_k of region n in mV: the lower of its reference and the one a step interval earlier, or the CORE setpoint (R269). -/
def State.rK (s : State) (n : Nat) : Int :=
  let r := s.region n
  if r.bypass then s.coreSet
  else if s.aon.clock < r.refAt + nsCycles (s.pn 0x4000 5) then (min r.ref r.refOld : Nat) else (r.ref : Nat)

/-- The kerf threshold T of region n in mV (R269). -/
def State.kerfT (s : State) (n : Nat) : Int := s.rK n - 4 * ((s.region n).kerfOfs : Nat) + (s.region n).kerfTrim

/-- A tile of the setpoint map takes a new content (R281). -/
def bumpTile (t : Nat) (s : State) : State :=
  { s with shim := { s.shim with tileSeq := s.shim.tileSeq.modify t (fun x => (x + 1) % 2 ^ 32) } }

/-- Region n takes a target: a move upwards waits for headroom, one downwards starts at once (R261, R263). -/
def setTarget1 (n mv : Nat) (s : State) : State :=
  s.updRegion n (fun r => { r with
    target := mv,
    upAt := if r.bypass || mv ≤ r.ref then none else if mv = r.target && r.upAt.isNone then none else some s.aon.clock })

/-- The entry of region n in its setpoint map tile (R281). -/
def Region.entry (r : Region) : Nat := if r.bypass then 0xFE else (r.target - 550) / 5

/-- The eight-entry word w of setpoint map tile t (R281). -/
def State.tileEntries (s : State) (t : Nat) : List Byte :=
  ((s.regions.drop (64 * t)).take 64).map (fun r => BitVec.ofNat 8 r.entry)

/-- Region n is put in bypass or in regulate mode (R260): it leaves bypass from n = 128 towards its target. -/
def setBypass (n : Nat) (b : Bool) (s : State) : State :=
  if (s.region n).bypass = b then s
  else s.updRegion n (fun r => { r with bypass := b, satRun := 0, sat := false, lowFrom := none,
                                        upAt := if b then none else if r.ref < r.target then some s.aon.clock else none,
                                        seg := if b then r.seg else 128 })

/-! Headroom (R262 to R264). -/

/-- H in mV; 0 when no region regulates (R262). -/
def State.headroomReq (s : State) : Nat :=
  let l := s.regions.filter (fun r => !r.bypass)
  if l.isEmpty || !s.isReady 6 then 0
  else (l.map (fun r => max r.ref r.target)).foldl max 0 + s.pn 0x4000 1 + s.pn 0x4000 2 +
    (if s.shim.boost then s.pn 0x4000 3 else 0)

/-- H is posted at the boundary to the rail of R262. -/
def headroomStep (s : State) : State :=
  let h := s.headroomReq
  let s := { s with shim := { s.shim with headroom := h } }
  match s.ctrlOf 0 with
  | some k => s.updRail k (fun r => { r with headroom := 256 * (h : Int) })
  | none => s

/-- The CORE rail's latest sample lets region n start upwards (R263). -/
def State.headroomMet (s : State) (n : Nat) : Bool :=
  decide (2 * ((s.region n).target + s.pn 0x4000 1) ≤ s.coreV + 10)

/-! The control cycle (R259, R265, R267, R279, R280). -/

/-- A trim in use goes 1 mV towards its object. -/
def trimStep (a goal : Int) : Int := towards a goal 1

/-- The CORE rail is powered and its sample exceeds what the shim starts at: SHIM_SET at start-up, then the reference
(R68, R265). -/
def State.mayRegulate (s : State) (n : Nat) : Bool :=
  let st := (s.rail s.core).state
  (st = 1 || st = 2 || st = 3) && !(s.rail s.core).prebias &&
    decide (2 * (if s.isReady 6 then (s.region n).ref else s.shimSet) < s.coreV)

/-- A shim starts to regulate and its kerf unit arms (R68). -/
def startRegulate (n : Nat) (s : State) : State :=
  let r := s.region n
  if !r.bypass && !r.regulating && s.mayRegulate n && (s.isReady 6 || s.shimSet != 0) then
    s.updRegion n (fun r => { r with regulating := true, armed := true,
                                     upAt := if r.ref < r.target then some s.aon.clock else none })
  else s

/-- The change of the segment count for a supply in uV against r (R259). -/
def segDelta (uv : Nat) (r : Int) : Int :=
  let v : Int := uv
  if v < 1000 * r - 5000 then 4 else if v < 1000 * r then 1 else if v ≤ 1000 * r + 5000 then 0 else -4

/-- Segment count after one cycle (R259, R260, R265, R267). -/
def State.newSeg (s : State) (n uv : Nat) : Nat :=
  let r := s.region n
  let m := s.pn 0x4000 0x0B
  let v := r.ref + r.shimTrim
  if r.bypass || !r.regulating then min 128 (r.seg + 4)
  else
    let x := (clampI m 128 ((r.seg : Int) + segDelta uv v)).toNat
    if r.preArmed && decide ((uv : Int) < 1000 * v - 5000) then max x r.preN else x

/-- One cycle of a kerf test: a supply below the test threshold counts (R280). -/
def State.testStep (s : State) (n uv : Nat) (r : Region) : Region :=
  match r.testLeft with
  | some (k + 1) =>
    let low := decide ((uv : Int) < 1000 * (s.rK n + s.num (0x4100 + n) 9 + r.kerfTrim))
    { r with testLeft := some k, testCnt := if low then r.testCnt + 1 else r.testCnt }
  | _ => r

/-- One control cycle of region n with its supply in uV. -/
def controlCycle (n uv : Nat) (s : State) : State :=
  let s := startRegulate n s
  let r := s.region n
  let v := r.ref + r.shimTrim
  let full := !r.bypass && r.regulating && r.seg = 128
  let below := decide ((uv : Int) < 1000 * v)
  let low := full && decide ((uv : Int) < 1000 * s.kerfT n)
  let acts := r.preArmed && r.regulating && !r.bypass && decide ((uv : Int) < 1000 * v - 5000)
  let g := s.newSeg n uv
  let s' := if acts && !r.preActed then (s.add64 0x4002 8 1).count 4 1 else s
  let s' := s'.updRegion n (fun r => s.testStep n uv { r with
    seg := g, preActed := r.preActed || acts,
    satRun := if full && below then min 64 (r.satRun + 1) else if below && r.sat then r.satRun else 0,
    sat := r.sat && below,
    lowFrom := if low then some (r.lowFrom.getD s.aon.clock) else none,
    shimTrim := trimStep r.shimTrim (s.num (0x4100 + n) 6),
    kerfTrim := trimStep r.kerfTrim (s.num (0x4100 + n) 7) })
  let s' := s'.updCtx s.core (Ctx.cond 0x0402 n s.aon.clock low)
  if s'.regions.any (·.sat) || !r.sat then s' else { s' with shim := { s'.shim with boostFrom := s.aon.clock } }

/-! Kerf units (R269 to R275). -/

/-- A fault of the shims and kerf units: its flag of KERF_STAT and its fault in the CORE context (R275, R276). -/
def shimFault (flag code sev n : Nat) (s : State) : State :=
  raiseFault s.core code sev 0xFF n 0 (setKerfFlag flag s)

/-- The STR_AMT code of a level (R270). -/
def State.strCode (s : State) (n level : Nat) : Nat := min 3 (s.pn (0x4100 + n) 5 + level - 1)

/-- The supply of region n crosses level 1 (R270). -/
def crossKerf (n : Nat) (s : State) : State :=
  let c := s.strCode n 1
  let s := s.put (0x4100 + n) 0x0C ((s.num (0x4100 + n) 0x0C + 1) % 2 ^ 32)
  let s := s.put (0x4100 + n) 0x0F (max 1 (s.num (0x4100 + n) 0x0F))
  let s := s.updRegion n (fun r => { r with str := true, amt := c, strLevel := 1, strEdges := 0, strSince := s.clk.tileCycles })
  updAccr { s with shim := { s.shim with hold := true } }

/-- The supply of region n crosses a deeper level during a stretch (R270). -/
def deepen (n level : Nat) (s : State) : State :=
  let s := countEdges n s
  let s := s.put (0x4100 + n) 0x0F (max (level : Int) (s.num (0x4100 + n) 0x0F))
  let c := s.strCode n level
  s.updRegion n (fun r => { r with strLevel := level, amt := max r.amt c })

/-! Preloads (R266 to R268). -/

/-- The preload count of region n for a group current in 1/256 A and so many regions (R266). -/
def State.preCount (s : State) (n ig ng : Nat) : Nat :=
  let dv := max ((s.coreV / 2 : Int) - (s.region n).ref) (s.num 0x4000 1)
  let d := ng * s.pn (0x4100 + n) 8 * dv.toNat
  let need := (ig * 4000 + d - 1) / d
  min 128 (((need + s.pn 0x4000 7) * s.pn 0x4000 0x0A + 15) / 16)

/-- A posting reaches region n: it replaces the preload that the region holds (R266, R268). -/
def postPreload (n ig ng due : Nat) (s : State) : State :=
  if (s.region n).bypass || ig = 0 || ng = 0 then s
  else
    let c := s.preCount n ig ng
    s.updRegion n (fun r => { r with preN := c, preDue := due, preArmed := false, preActed := false })

/-- Every preload of the die is cancelled (R268). -/
def cancelPreloads (s : State) : State :=
  let n := (s.regions.filter (fun r => r.preN != 0)).length
  let s := s.add32 0x4002 9 n
  { s with regions := s.regions.map (fun r => { r with preN := 0, preArmed := false, preActed := false }) }

/-! Trimming (R278, R279). -/

/-- One reading enters the group of 16 of automatic trimming; a full group may move the shim trim. -/
def autoTrim (n mv : Nat) (s : State) : State :=
  let r := s.region n
  if s.pn 0x4000 0x0D = 1 && !r.bypass && !r.str && !r.devStop then
    if r.trimCnt = 15 then
      let x := r.trimSum + mv - 16 * (r.ref : Int) - 40
      let t := s.num (0x4100 + n) 6
      let t := if 40 < x then t - 1 else if x < -40 then t + 1 else t
      (s.put (0x4100 + n) 6 (clampI (-31) 31 t)).updRegion n (fun r => { r with trimSum := 0, trimCnt := 0 })
    else s.updRegion n (fun r => { r with trimSum := r.trimSum + mv, trimCnt := r.trimCnt + 1 })
  else s

/-- A reading of region n's sense point: SHIM_DEV and automatic trimming (R275, R278, R279). -/
def monitorReading (n mv : Nat) (s : State) : State :=
  let s := s.updRegion n (fun r => { r with mon := mv })
  let r := s.region n
  if r.bypass || r.str then s
  else
    let dev := decide (20 < ((mv : Int) - r.ref).natAbs)
    let c := if dev then min 16 (r.devRun + 1) else 0
    let s := s.updRegion n (fun r => { r with devRun := c, devStop := r.devStop || decide (c = 16) })
    let s := if c = 16 && r.devRun != 16 then shimFault 4 0x0405 1 n s else s
    autoTrim n mv s

/-! Objects (R284 to R286). -/

/-- The number of an object of 0x4000 to 0x41FF, where it is not a stored value. -/
def shimsRead (i sub : Nat) (s : State) : Option Int :=
  if i = 0x4000 then if sub = 0x0E then some s.shim.headroom else none
  else if 0x4100 ≤ i && i < 0x4200 then
    let r := s.region (i - 0x4100)
    if sub = 1 then some (b2n r.bypass)
    else if sub = 2 then some r.target
    else if sub = 3 then some r.ref
    else if sub = 4 then some r.kerfOfs
    else if sub = 0x10 then some r.mon
    else none
  else none

/-- The octets of a setpoint map tile. -/
def shimsReadDom (i : Nat) (s : State) : Option (List Byte) :=
  if 0x4010 ≤ i && i < 0x4014 then some (s.tileEntries (i - 0x4010)) else none

/-- The targets of a tile's codes lie in the range of R261. -/
def State.tileInRange (s : State) (b : List Byte) : Bool :=
  b.all (fun c => decide (c.toNat ≤ 80) && decide ((550 + 5 * c.toNat : Int) ≤ s.targetMax) || c.toNat = 0xFE || c.toNat = 0xFF)

/-- A tile write takes effect as one flip (R286). -/
def writeTile (t : Nat) (b : List Byte) (s : State) : State :=
  bumpTile t (forEach (List.range 64) (fun j s =>
    let c := (b.getD j 0xFF).toNat
    let n := 64 * t + j
    if c = 0xFF then s
    else if c = 0xFE then setBypass n true s
    else setTarget1 n (550 + 5 * c) s) s)

/-- A write of an object of 0x4000 to 0x41FF. -/
def shimsWrite (i sub : Nat) (v : Int) (b : List Byte) (s : State) : Except Nat State :=
  if 0x4010 ≤ i && i < 0x4014 then needRange (s.tileInRange b) (.ok (writeTile (i - 0x4010) b s))
  else if 0x4100 ≤ i && i < 0x4200 then
    let n := i - 0x4100
    if sub = 1 then .ok (bumpTile (n / 64) (setBypass n (v = 1) s))
    else if sub = 2 then needRange (decide (v ≤ s.targetMax)) (.ok (bumpTile (n / 64) (setTarget1 n v.toNat s)))
    else if sub = 4 then .ok (s.updRegion n (fun r => { r with kerfOfs := v.toNat }))
    else if sub = 6 then .ok ((storeVal i sub v b s).updRegion n (fun r => { r with devStop := false, trimSum := 0, trimCnt := 0 }))
    else if sub = 0x0A then
      needState (s.region n).testLeft.isNone
        (.ok (s.updRegion n (fun r => { r with testLeft := some (s.pn 0x4001 6), testCnt := 0 })))
    else .ok (storeVal i sub v b s)
  else .ok (storeVal i sub v b s)

end Sys2Proof.Machine
end

