-- ==== Sys2Proof/Machine/ClkLib.lean ====
section
/-! DEFINITION. Clock sources and their monitors, the tile-clock divider and the voltage-frequency sequencer
(R287 to R306). -/

namespace Sys2Proof.Machine

open Sys2Proof

/-! Sources (R291 to R295). -/

/-- One monitored source. -/
def State.src (s : State) : SrcId → Src
  | .ref100 => s.clk.ref100
  | .xtal => s.clk.xtal
  | .pllA => s.clk.pllA
  | .pllB => s.clk.pllB
  | .rc => s.clk.rc

/-- The state with one source changed; XTAL_OK and REF100_OK follow their monitors (R33). -/
def State.updSrc (s : State) (i : SrcId) (f : Src → Src) : State :=
  match i with
  | .ref100 => { s with clk := { s.clk with ref100 := f s.clk.ref100 }, aon := { s.aon with ref100Ok := (f s.clk.ref100).ok } }
  | .xtal => { s with clk := { s.clk with xtal := f s.clk.xtal }, aon := { s.aon with xtalOk := (f s.clk.xtal).ok } }
  | .pllA => { s with clk := { s.clk with pllA := f s.clk.pllA } }
  | .pllB => { s with clk := { s.clk with pllB := f s.clk.pllB } }
  | .rc => { s with clk := { s.clk with rc := f s.clk.rc } }

/-- Nominal frequency of a source in kHz: 100 MHz, the 25 MHz crystal, or the PLL's object. -/
def State.srcNominal (s : State) : SrcId → Nat
  | .ref100 => 100000
  | .xtal => 25000
  | .pllA => 1000 * s.pn 0x2200 1
  | .pllB => 1000 * s.pn 0x2200 2
  | .rc => 100000

/-- Tolerance of a source in percent (R291). -/
def State.srcTol (s : State) : SrcId → Nat
  | .ref100 => 5
  | .xtal => 5
  | .pllA => s.pn 0x2200 3 + (if s.clk.ctlRc then 3 else 0)
  | .pllB => s.pn 0x2200 3 + (if s.clk.ctlRc then 3 else 0)
  | .rc => 4

/-- A measured frequency lies within tolerance of nominal. -/
def State.srcGood (s : State) (i : SrcId) (khz : Nat) : Bool :=
  let n := s.srcNominal i
  decide (100 * n ≤ 100 * khz + s.srcTol i * n) && decide (100 * khz ≤ 100 * n + s.srcTol i * n)

/-- A monitor can run: a reference against the RC oscillator from POR_N, the others against the CTL clock; the RC
oscillator only while CTL runs from a reference (R291). -/
def State.srcWatched (s : State) : SrcId → Bool
  | .ref100 => s.aon.porN
  | .xtal => s.aon.porN
  | .pllA => s.aon.ctlReleased
  | .pllB => s.aon.ctlReleased
  | .rc => s.aon.ctlReleased && !s.clk.ctlRc

/-- The tile clock uses a PLL input now. -/
def State.tileUses (s : State) (b : Bool) : Bool := s.clk.running && !s.clk.tileInt && s.clk.tileB = b

/-- A clock fault enters the instance context, and FQ_NMI is asserted (R292). -/
def clockFault (code sev : Nat) (s : State) : State := raiseFault 6 code sev 0xFF 0xFFFF 0 (assertNmi s)

/-- The tile clock switches to the internal clock; the sequencer is suspended (R292, R293). -/
def tileToInt (s : State) : State :=
  updAccr (clockFault 0x0A01 2 { s with clk := { s.clk with tileInt := true } })

/-- ENG switches to the internal clock (R292). -/
def engToInt (s : State) : State :=
  updAccr (clockFault 0x0A02 2 { s with clk := { s.clk with engInt := true } })

/-- The reference of the CTL PLL fails: the other one takes over, or the RC oscillator does (R292, R295). -/
def refFail (s : State) : State :=
  let other := if s.aon.refSel then s.clk.xtal.ok else s.clk.ref100.ok
  let s := (setClkFlag 2 s).bump32 0x2200 7
  if other then
    clockFault 0x0A03 1 { s with aon := { s.aon with refSel := !s.aon.refSel } }
  else
    clockFault 0x0A04 2 (clockFault 0x0A03 1
      { s with clk := { s.clk with ctlRc := true }, aon := { s.aon with ctlSource := 2 } })

/-- A PLL input fails. -/
def pllFail (b : Bool) (s : State) : State :=
  let eng := !b && s.aon.engReleased && !s.aon.engOnCtl && !s.clk.engInt
  let tile := s.tileUses b
  let s := setClkFlag (if b then 1 else 0) s
  let s := if eng || tile then s.bump32 0x2200 7 else s
  let s := if tile then tileToInt s else s
  if eng then engToInt s else s

/-- A source that was qualified fails. -/
def srcFail (i : SrcId) (s : State) : State :=
  let s := s.updSrc i (fun q => { q with ok := false, good := 0, failed := true })
  match i with
  | .ref100 => if s.aon.ctlSource = 1 && s.aon.refSel then refFail s else s
  | .xtal => if s.aon.ctlSource = 1 && !s.aon.refSel then refFail s else s
  | .pllA => pllFail false s
  | .pllB => pllFail true s
  | .rc => clockFault 0x0A05 1 (setClkFlag 3 s)

/-- A source qualifies; a reference takes the CTL PLL back from the RC oscillator, REF100_IN first (R295). -/
def srcQualify (i : SrcId) (s : State) : State :=
  let s := s.updSrc i (fun q => { q with ok := true, failed := false })
  if (i = .ref100 || i = .xtal) && s.aon.ctlReleased && s.clk.ctlRc then
    clearFault 6 0x0A04 0xFFFF { s with
      clk := { s.clk with ctlRc := false }, aon := { s.aon with ctlSource := 1, refSel := s.clk.ref100.ok } }
  else s

/-- One monitor window of a source (R291). -/
def srcWindow (i : SrcId) (khz : Nat) (s : State) : State :=
  if !s.srcWatched i then s
  else
    let good := s.srcGood i khz
    let was := (s.src i).ok
    let s := s.updSrc i (fun q => { q with freq := khz, good := if good then min 5 (q.good + 1) else 0 })
    if good then (if (s.src i).good = 5 && !was then srcQualify i s else s)
    else if was then srcFail i s else s

/-! Operating points (R296 to R300). -/

/-- The region offset of region n in 5 mV steps (R297). -/
def State.regionOfs (s : State) (n : Nat) : Int :=
  match s.dom 0x2203 0 with
  | some l => sx 8 (l.getD n 0).toNat
  | none => 0

/-- The target of region n at point p, held within R261 (R297). -/
def State.pointTarget (s : State) (p n : Nat) : Nat :=
  (clampI 550 (min 950 (s.targetMax / 5 * 5)) ((s.pointBase p : Int) + 5 * s.regionOfs n)).toNat

/-- The controller of the SRAM rail (R298). -/
def State.sramCtrl (s : State) : Option Nat := s.ctrlOf 1

/-- The SRAM rail's group move to a point's setpoint; refused, it is repeated (R298). -/
def sramMove (p : Nat) (s : State) : State :=
  match s.sramCtrl with
  | some k =>
    let mv := s.pointSram p
    if mv = 0 || (s.rail k).setGoal = mv then { s with clk := { s.clk with sramPending := false } }
    else if s.movesInRange [(k, mv)] && s.movesAllowed [(k, mv)] then
      let s := startMoves [(k, mv)] s
      { s with clk := { s.clk with sramPending := false } }
    else { s with clk := { s.clk with sramPending := true } }
  | none => { s with clk := { s.clk with sramPending := false } }

/-- The voltage step of point p: the targets of the regulate-mode regions and the SRAM setpoint (R297, R298). -/
def voltageStep (p : Nat) (s : State) : State :=
  let s := forEach (List.range 256) (fun n s => if (s.region n).bypass then s else setTarget1 n (s.pointTarget p n) s) s
  let s := forEach [0, 1, 2, 3] bumpTile s
  let s := sramMove p s
  { s with clk := { s.clk with moveStage := 1, voltAt := s.aon.clock } }

/-- Every regulate-mode region's reference equals its target, and the SRAM move is complete (R298). -/
def State.voltageDone (s : State) : Bool :=
  s.regions.all (fun r => r.bypass || decide (r.ref = r.target)) && !s.clk.sramPending &&
    (match s.sramCtrl with
      | some k => (s.rail k).moveRate.isNone
      | none => true)

/-- The sequencer may act: TCLK_OUT runs from a PLL, nothing stands still and no immediate divide stands (R293, R301). -/
def State.seqFree (s : State) : Bool :=
  s.clk.running && !s.clk.stopHeld && !s.clk.tripHeld && !s.clk.tileInt && !s.clk.immDiv

/-- The sequencer begins its next point if the target differs from the point in force (R298). -/
def seqBegin (s : State) : State :=
  if s.seqFree && !s.clk.moving && !s.clk.blocked && s.clk.target != s.clk.point then
    let up := decide (s.clk.point < s.clk.target)
    let p := if up then s.clk.point + 1 else s.clk.point - 1
    { s with clk := { s.clk with moving := true, movePoint := p, moveUp := up,
                                 moveStage := if up then 0 else 2, mSeq := if up then s.clk.mSeq else s.pointDiv p } }
  else s

/-- The step in progress ends with its point in force. -/
def seqArrive (s : State) : State :=
  seqBegin { s with clk := { s.clk with point := s.clk.movePoint, moving := false, moveStage := 0 } }

/-- The divider has reached what the sequencer commands: an upward point is in force, a downward one takes its voltage. -/
def seqDivided (s : State) : State :=
  if s.clk.moving && s.clk.moveStage = 2 && s.clk.m = s.clk.mSeq then
    if s.clk.moveUp then seqArrive s else { s with clk := { s.clk with moveStage := 0 } }
  else s

/-- The voltage step before the first start may be made: RAILS and SHIMS are ready and TCLK_OUT has never run (R300). -/
def State.startDue (s : State) : Bool := !s.clk.everRan && !s.clk.startOk && s.isReady 5 && s.isReady 6

/-- The sequencer's voltage step at the next sample boundary; held, it counts (R298, R299, R300). -/
def seqVoltage (s : State) : State :=
  let s := seqBegin s
  if s.startDue then
    if s.clk.moveStage = 1 then s
    else
      let s := advanceTo ((s.aon.clock + 49) / 50 * 50) s
      let p := s.pn 0x2201 2
      voltageStep p { s with clk := { s.clk with moving := true, movePoint := p, moveUp := true } }
  else if s.clk.moving && s.clk.moveStage = 0 && s.seqFree then
    if s.shim.hold then s.bump32 0x2201 8
    else
      let s := advanceTo ((s.aon.clock + 49) / 50 * 50) s
      voltageStep s.clk.movePoint s
  else s

/-- The voltage step is complete (R298, R300). -/
def seqVoltageEnd (s : State) : State :=
  if s.clk.moving && s.clk.moveStage = 1 && s.voltageDone then
    if !s.clk.everRan then
      { s with clk := { s.clk with startOk := true, moving := false, moveStage := 0, point := s.clk.movePoint } }
    else if s.clk.moveUp then
      seqDivided { s with clk := { s.clk with moveStage := 2, mSeq := s.pointDiv s.clk.movePoint } }
    else seqArrive s
  else s

/-- A voltage step times out (R298, R300): the move ends; the step before the first start is issued again. -/
def seqTimeout (s : State) : State :=
  if s.clk.moving && s.clk.moveStage = 1 && !s.voltageDone then
    let s := advanceTo (s.clk.voltAt + us (s.pn 0x2201 0x0A)) s
    let s := raiseFault 6 0x0A06 1 0xFF 0xFFFF 0 (setClkFlag 4 s)
    if !s.clk.everRan then voltageStep s.clk.movePoint s
    else { s with clk := { s.clk with moving := false, moveStage := 0, blocked := true, sramPending := false } }
  else s

/-- A group move that the SRAM rail refused is repeated at a sample boundary (R298). -/
def seqRetry (s : State) : State :=
  if s.clk.sramPending && s.clk.moving && s.clk.moveStage = 1 then sramMove s.clk.movePoint s else s

/-- The rails and regions that R300 asks of a restart. -/
def State.restartReady (s : State) : Bool :=
  let ok := fun k => (s.rail k).state = 2 || (s.rail k).state = 3
  ok s.core && s.clk.stops.all ok && s.regions.all (fun r => r.bypass || (r.regulating && decide (r.ref = r.target)))

/-- TCLK_OUT may start (R300). -/
def State.tclkMayStart (s : State) : Bool :=
  !s.clk.running && !s.clk.stopHeld && !s.clk.tripHeld && s.isReady 5 && s.isReady 6 &&
    (if s.clk.everRan then s.restartReady else s.clk.startOk)

/-- M at a restart: the restart divider, doubled while an immediate divide stands (R299, R303). -/
def State.startM (s : State) : Nat := min 1023 (if s.clk.immDiv then 2 * s.restartDiv else s.restartDiv)

/-- TCLK_OUT starts at the restart divider (R299, R300). -/
def tclkGo (s : State) : State :=
  let m := s.startM
  seqBegin { s with clk := { s.clk with
    running := true, everRan := true, stops := [], m := m, mSeq := s.pointDiv s.clk.point,
    divAt := s.clk.tileCycles, skipAt := s.clk.tileCycles, moving := false, moveStage := 0 } }

/-! Divider and skip steps (R289, R290, R299, R301, R302). -/

/-- One divider step from m towards a goal (R289). -/
def divStep (m g : Nat) : Nat :=
  let d := max 1 (m / 32)
  if m < g then min g (m + d) else max g (m - d)

/-- The divider takes its next step when 64 cycles have passed and nothing holds it. -/
def dividerStep (s : State) : State :=
  let s := seqBegin s
  if s.tileStopped || s.clk.tileInt || s.clk.m = s.divGoal then seqDivided s
  else
    let s := advanceTiles (s.clk.divAt + 64) s
    if s.shim.hold && !(s.clk.immDiv && decide (s.clk.m < s.divGoal)) then s.bump32 0x2201 8
    else
      seqDivided { s with clk := { s.clk with m := divStep s.clk.m s.divGoal, divAt := s.clk.tileCycles } }

/-- The skip count moves by 1 towards its goal; a fall waits on the stretch hold. -/
def skipStep (s : State) : State :=
  if s.tileStopped || s.clk.tileInt || s.clk.skip = s.clk.skipGoal then s
  else
    let s := advanceTiles (s.clk.skipAt + 64) s
    let up := decide (s.clk.skip < s.clk.skipGoal)
    if s.shim.hold && !up then s.bump32 0x2201 8
    else { s with clk := { s.clk with skip := if up then s.clk.skip + 1 else s.clk.skip - 1, skipAt := s.clk.tileCycles } }

/-! Objects (R296, R297, R306). -/

/-- The number of an object of 0x2200 to 0x2203, where it is not a stored value. -/
def clkRead (i sub : Nat) (s : State) : Option Int :=
  if i = 0x2200 then
    if sub = 4 then some (min 8000 (s.clk.pllA.freq / 1000) : Nat)
    else if sub = 5 then some (min 8000 (s.clk.pllB.freq / 1000) : Nat)
    else if sub = 6 then some (min 200000 s.clk.rc.freq : Nat)
    else none
  else if i = 0x2201 then
    if sub = 1 then some (b2n s.clk.tileB)
    else if sub = 2 then some s.pointReq
    else if sub = 4 then some s.clk.point
    else if sub = 5 then some (if s.tileStopped || s.clk.tileInt then 0 else s.clk.m)
    else if sub = 7 then some (b2n s.clk.immDiv)
    else if sub = 9 then some s.clk.engDiv
    else none
  else none

/-- Octets of the point table and the region offsets. -/
def clkReadDom (i : Nat) (s : State) : Option (List Byte) :=
  if i = 0x2202 then some s.pointTable
  else if i = 0x2203 then some ((s.dom 0x2203 0).getD (List.replicate 256 0))
  else none

/-- Entry i of a point table: (DIV, BASE, SRAM, reserved). -/
def ptEntry (b : List Byte) (i : Nat) : Nat × Nat × Nat × Nat :=
  (leAt b (8 * i) 2, leAt b (8 * i + 2) 2, leAt b (8 * i + 4) 2, leAt b (8 * i + 6) 2)

/-- Strictly decreasing. -/
def decreasing : List Nat → Bool
  | a :: b :: l => decide (b < a) && decreasing (b :: l)
  | _ => true

/-- Non-decreasing. -/
def nonDecreasing : List Nat → Bool
  | a :: b :: l => decide (a ≤ b) && nonDecreasing (b :: l)
  | _ => true

/-- A point table obeys R296. -/
def pointTableOk (b : List Byte) : Bool :=
  let e := (List.range 16).map (ptEntry b)
  let u := e.takeWhile (fun x => x.1 != 0)
  let w := e.dropWhile (fun x => x.1 != 0)
  !u.isEmpty && w.all (fun x => x.1 = 0) &&
    u.all (fun x => decide (16 ≤ x.1) && decide (x.1 ≤ 1023) && decide (550 ≤ x.2.1) && decide (x.2.1 ≤ 950) &&
      x.2.1 % 5 = 0 && (x.2.2.1 = 0 || decide (200 ≤ x.2.2.1) && decide (x.2.2.1 ≤ 2000))) &&
    decreasing (u.map (·.1)) && nonDecreasing (u.map (·.2.1)) && nonDecreasing ((u.map (·.2.2.1)).filter (fun x => x != 0))

/-- A table write leaves the entries of the point in force, and of the target point while a move runs, as they are. -/
def State.pointsKept (s : State) (b : List Byte) : Bool :=
  let same := fun i => ptEntry b i = ptEntry s.pointTable i
  same s.clk.point && (!s.clk.moving || same s.clk.target)

/-- A point request written under R298, R306 and R327. -/
def writePointReq (fw : Bool) (v : Int) (s : State) : Except Nat State :=
  needRange (decide (v < s.usedPoints)) (needState (fw || s.pn 0x6003 1 = 0) (.ok (seqBegin (setTarget (s.put 0x2201 2 v)))))

/-- The tile source select written (R294). -/
def writeTileSrc (b : Bool) (s : State) : Except Nat State :=
  needState (s.src (if b then .pllB else .pllA)).ok
    (let s := { s with clk := { s.clk with tileB := b, tileInt := false } }
     let s := s.put 0x2201 1 (b2n b)
     let s := { s with clk := { s.clk with m := if s.clk.running then s.startM else s.clk.m, divAt := s.clk.tileCycles } }
     .ok (updAccr (seqBegin s)))

/-- A write of an object of 0x2200 to 0x2203; `fw`: firmware's own. -/
def clkWrite (fw : Bool) (i sub : Nat) (v : Int) (b : List Byte) (s : State) : Except Nat State :=
  if i = 0x2201 then
    if sub = 1 then writeTileSrc (v = 1) s
    else if sub = 2 then writePointReq fw v s
    else if sub = 3 || sub = 6 then needState (!s.isReady 13) (.ok (storeVal i sub v b s))
    else .ok (storeVal i sub v b s)
  else if i = 0x2202 then
    needRange (pointTableOk b) (needState (s.pointsKept b) (.ok (seqBegin (setTarget (s.putDom 0x2202 0 b)))))
  else if i = 0x2203 then
    needRange (b.all (fun x => decide (-8 ≤ sx 8 x.toNat) && decide (sx 8 x.toNat ≤ 8))) (.ok (storeVal i sub v b s))
  else .ok (storeVal i sub v b s)

end Sys2Proof.Machine
end

