-- ==== Sys2Proof/Machine/FfLib.lean ====
section
/-! DEFINITION. Schedule-locked feed-forward: announcements, markers, lookups, tables and their loading (R233 to R257). -/

namespace Sys2Proof.Machine

open Sys2Proof

/-! Announcements and markers (R234, R250 to R254). -/

/-- The lead times P, in CTL cycles, rounded to the nearest: P is 6,400 cycles over the edges of the latest window. Before
the first window no rule gives P: a free value (R234). -/
def State.leadP (s : State) : Nat :=
  let l := s.pn 0x8000 2
  if s.ff.period = 0 then (Config.freeValue s.free).toNat else (2 * l * 6400 + s.ff.period) / (2 * s.ff.period)

/-- The marker window in CTL cycles. -/
def State.markerWindow (s : State) : Nat := nsCycles (s.pn 0x8000 4)

/-- Settling starts (R253). -/
def startSettling (s : State) : State :=
  let t := s.aon.clock + s.leadP + s.markerWindow
  { s.takeFree with ff := { s.ff with settling := some t, matchRun := 0 } }

/-- Every pending announcement is discarded and counted. -/
def discardPending (s : State) : State :=
  let s := s.add32 0x8040 0x0D s.ff.annQ.length
  { s with ff := { s.ff with annQ := [] } }

/-- An armed barrier plan is disarmed (R358). -/
def disarmPlan (s : State) : State := { s with dove := { s.dove with armed := false } }

/-- Controllers with feed-forward in force. -/
def State.inForce (s : State) : List Nat := (List.range 6).filter (fun k => (s.rail k).ffForce)

/-- A step following error (R251): its fault enters the context of every rail in force. -/
def stepError (s : State) : State :=
  let s := (setFfFlag 0 (s.bump32 0x8040 0x0B)).count 15 1
  let s := disarmPlan (cancelPreloads (startSettling (discardPending s)))
  forEach s.inForce (fun k s =>
    let s := ffLeave k s
    let s := { s with ff := { s.ff with withdrawnSfe := k :: s.ff.withdrawnSfe.filter (fun x => x != k) } }
    let s := (s.updRail k (fun r => { r with feAt := some s.aon.clock })).bump32 (0x8100 + k) 0x0B
    raiseFault k 0x0801 1 0xFF 0xFFFF 0 s) s

/-- A withdrawal of feed-forward, no fault (R252). -/
def ffWithdraw (s : State) : State :=
  let s := setFfFlag 1 (s.bump32 0x8040 0x0C)
  let s := disarmPlan (cancelPreloads (startSettling (discardPending s)))
  let s := forEach s.inForce (fun k s =>
    let s := ffLeave k s
    { s with ff := { s.ff with withdrawn := k :: s.ff.withdrawn.filter (fun x => x != k) } }) s
  raise 0x0802 0 0 0 s

/-- FE on rail k (R219, R220): the rail leaves feed-forward, and the fault enters its context. -/
def followingError (k : Nat) (s : State) : State :=
  let s := ffLeave k s
  let s := { s with ff := { s.ff with withdrawnSfe := k :: s.ff.withdrawnSfe.filter (fun x => x != k) } }
  raiseFault k 0x0309 1 0xFF 0xFFFF 0 (s.updRail k (fun r => { r with feAt := some s.aon.clock }))

/-- An announcement is latched, or dropped with STEP_OVF when the queue is full (R39, R234). -/
def announce (prog idx pos : Nat) (s : State) : State :=
  if !s.isReady 16 || !s.enabled 11 then s
  else if 256 ≤ s.ff.annQ.length then ffWithdraw (setStepOvf s)
  else
    let a : Ann := { prog := prog, idx := idx, pos := pos, since := s.aon.clock, due := s.aon.clock + s.leadP }
    let s := (s.takeFree.add64 0x8040 1 1).count 13 1
    { s with ff := { s.ff with annQ := s.ff.annQ ++ [a] }, prot := { s.prot with lastProg := prog, lastIdx := idx } }

/-- An announcement fits a marker (R250). -/
def State.annFits (s : State) (prog idx : Nat) (a : Ann) : Bool :=
  a.prog = prog && decide (((a.idx : Int) - idx).natAbs ≤ s.pn 0x8000 5) &&
    decide (5 * ((a.due : Int) - s.aon.clock).natAbs ≤ 2 * s.pn 0x8000 4)

/-- The difference P_pred - P_est of a matched step is reported (R311). -/
def reportDiff (a : Ann) (s : State) : State :=
  match s.cap.predDiff with
  | some (i, d) => if i = a.idx then s.put 0x6009 0x0B (clampI (-2147483648) 2147483647 d) else s
  | none => s

/-- Announcement a, at the head of the queue, is matched by a marker of step idx. -/
def matchAnn (a : Ann) (rest : List Ann) (idx : Nat) (s : State) : State :=
  let s := (s.add64 0x8040 6 1).count 14 1
  let s := if a.idx = idx then s else s.bump32 0x8040 7
  reportDiff a { (dumpMarker a.prog idx s) with ff := { s.ff with
    annQ := rest, lastDue := (a :: s.ff.lastDue).take 2, matchRun := min 0xFFFF (s.ff.matchRun + 1) } }

/-- One marker (R250). -/
def marker (prog idx : Nat) (s : State) : State :=
  if s.ff.settling.isSome then s.bump32 0x8040 9
  else
    match s.ff.annQ.findIdx? (s.annFits prog idx) with
    | some (n + 1) => stepError (s.add32 0x8040 0x0A (n + 1))
    | some 0 =>
      match s.ff.annQ with
      | a :: rest => matchAnn a rest idx s
      | [] => s
    | none =>
      match s.ff.annQ with
      | q :: _ => if q.due ≤ s.aon.clock + s.markerWindow then stepError s else setFfFlag 3 (s.bump32 0x8040 8)
      | [] => setFfFlag 3 (s.bump32 0x8040 8)

/-- The markers of the queue are handled in order. -/
def handleMarkers : Nat → State → State
  | 0, s => s
  | n + 1, s =>
    match s.ff.markQ with
    | [] => s
    | m :: l => handleMarkers n (marker m.1 m.2.1 { s with ff := { s.ff with markQ := l } })

/-- A marker is latched and handled (R38, R39, R250). -/
def execMark (prog idx : Nat) (s : State) : State :=
  if !s.isReady 16 || !s.enabled 11 || 256 ≤ s.ff.markQ.length then s
  else handleMarkers 256 { s with ff := { s.ff with markQ := s.ff.markQ ++ [(prog, idx, s.aon.clock)] } }

/-- A pending announcement's due time plus the window lies before a boundary: it is missed (R250). -/
def missed (s : State) : State :=
  match s.ff.annQ with
  | a :: _ =>
    let s := advanceTo ((a.due + s.markerWindow) / 50 * 50 + 50) s
    stepError (s.bump32 0x8040 0x0A)
  | [] => s

/-! Lookups (R235 to R239). -/

/-- The enabled slot of a program. -/
def State.slotOf (s : State) (prog : Nat) : Option Nat :=
  (List.range 16).find? (fun n => (s.fslot n).enabled && decide ((s.fslot n).program = prog))

/-- The image page and byte offset of a step's entry (R236, R239). -/
def entryAt (i : Nat) : Nat × Nat :=
  if i < 2032 then (0, 0x200 + 32 * i) else (1 + (i - 2032) / 2048, 32 * ((i - 2032) % 2048))

/-- The 32 bytes of a step's entry in a slot's active table. -/
def State.entry (s : State) (n i : Nat) : List Byte :=
  let p := (s.fslot n).active.getD (entryAt i).1 0
  (((kvGet s.ff.pageMem p).getD []).drop (entryAt i).2).take 32

/-- The current of column c of an entry at a sequence position, 1/256 A (R239). -/
def columnCur (e : List Byte) (c pos : Nat) : Nat :=
  (clampI 0 1048575 (16 * (leAt e (4 * c) 2 : Nat) + sx 16 (leAt e (4 * c + 2) 2) * pos / 1024)).toNat

/-- The sum of an entry's shares. -/
def shareSum (e : List Byte) : Nat := ((e.drop 16).map (·.toNat)).foldl (· + ·) 0

/-- A step without prediction: its cause is counted and UNPRED is set (R239). -/
def unpredicted (sub : Nat) (a : Ann) (s : State) : Ann × State :=
  ({ a with looked := true }, setFfFlag 2 (s.bump32 0x8040 sub))

/-- A step's currents from its entry and its slot's header. -/
def Ann.predict (a : Ann) (h : TabHdr) (e : List Byte) : Ann :=
  { a with looked := true, predicted := true, cols := h.colCtrl,
           cur := (List.range 3).map (fun c => if h.colCtrl.getD c 0xFF = 0xFF then 0 else columnCur e c a.pos),
           vofs := (List.range 3).map (fun c => leAt e (0x0C + c) 1),
           share := (List.range 16).map (fun g => leAt e (0x10 + g) 1), groupMap := h.groupMap,
           barrier := bit (leAt e 0x0F 1) 1 }

/-- The lookup of an announcement (R239). -/
def lookup (a : Ann) (s : State) : Ann × State :=
  match s.slotOf a.prog with
  | none => unpredicted 2 a s
  | some n =>
    let s := s.add64 (0x8020 + n) 0x0B 1
    match (s.fslot n).actHdr with
    | none => unpredicted 3 a s
    | some h =>
      if h.steps ≤ a.idx && !h.wrap then unpredicted 3 a s
      else
        let e := s.entry n (if h.steps ≤ a.idx then a.idx % h.steps else a.idx)
        if bit (leAt e 0x0F 1) 0 then unpredicted 4 a s
        else if leAt e 0x0F 1 / 4 != 0 || 256 < shareSum e then unpredicted 5 a s
        else (a.predict h e, s)

/-- P_pred of a step in uW: its columns' currents times their controllers' operating setpoints (R311). -/
def State.pPred (s : State) (a : Ann) : Nat :=
  ((List.range 3).map (fun c =>
    let k := a.cols.getD c 0xFF
    if k < 6 then a.cur.getD c 0 * ((s.rail k).setNow.toNat / 256) * 1000 / 256 else 0)).foldl (· + ·) 0

/-- The oldest announcement without a lookup gets it; its currents go to the estimator (R239, R249). -/
def lookupNext (s : State) : State :=
  match s.ff.annQ.findIdx? (fun a => !a.looked) with
  | none => s
  | some i =>
    match s.ff.annQ[i]? with
    | none => s
    | some a =>
      let (b, s) := lookup a s
      let s := s.put 0x8000 8 (max (s.num 0x8000 8) (min 65535 ((s.aon.clock - a.since) * 5 / 2 : Nat)))
      let s := { s with ff := { s.ff with annQ := s.ff.annQ.set i b } }
      if b.predicted then { s with cap := { s.cap with predDue := s.cap.predDue ++ [(b.due, s.pPred b, b.idx)] } } else s

/-! The duty term and the posting to the shims (R247, R248). -/

/-- The next step that gives rail k a duty term. -/
def State.dutyStepOf (s : State) (k : Nat) : Option Ann :=
  s.ffSteps.find? (fun a => (a.curOf k).isSome && !a.dutyDone.contains k)

/-- Mark a step's duty term as taken for rail k. -/
def markDuty (k since idx : Nat) (s : State) : State :=
  let f := fun (a : Ann) => if a.since = since && a.idx = idx then { a with dutyDone := k :: a.dutyDone } else a
  { s with ff := { s.ff with annQ := s.ff.annQ.map f, lastDue := s.ff.lastDue.map f } }

/-- The duty term of rail k takes D0 of its next step (R247). -/
def dutyStart (k : Nat) (s : State) : State :=
  match s.dutyStepOf k with
  | none => s
  | some a =>
    let s := advanceTo ((a.due - nsCycles (s.pn (0x8100 + k) 4)) / 50 * 50) s
    let s := markDuty k a.since a.idx s
    let n := s.nAct k
    if a.due < s.aon.clock || !(s.rail k).ffForce || n = 0 then s
    else
      let before : Int := match s.predAt k (a.due - 1) with
        | some i => i
        | none => (s.rail k).iRail / 1600
      let d0 := s.num (0x8100 + k) 3 * (((a.curOf k).getD 0 : Nat) - before) / (n : Int)
      let m := s.pn (0x8100 + k) 5
      s.updRail k (fun r => { r with ffDuty := d0, ffDutyOf := m, ffDutyLeft := m })

/-- Regions of group g in a step's group map (R237, R248). -/
def Ann.regionsOf (a : Ann) (g : Nat) : List Nat :=
  (List.range 256).filter (fun n => decide (a.groupMap.getD n 0x80 % 16 = g) && decide (a.groupMap.getD n 0x80 < 128))

/-- The step whose posting to the shims falls due next (R248). -/
def State.shimStepOf (s : State) : Option Ann := s.ff.annQ.find? (fun a => a.looked && !a.shimDone)

/-- The group currents of a step go to the shims of their groups (R248, R266). -/
def postShims (a : Ann) (s : State) : State :=
  if s.inst.sat then s
  else forEach (List.range 16) (fun g s =>
    let l := a.regionsOf g
    forEach l (fun n s => postPreload n (a.cur.getD 0 0 * a.share.getD g 0 / 256) l.length a.due s) s) s

/-! Tables (R240 to R243). -/

/-- The header of an image (R237). -/
def parseHdr (b : List Byte) : TabHdr :=
  { prog := leAt b 8 2, wrap := bit (leAt b 0x0A 2) 0, steps := leAt b 0x0C 4, pages := leAt b 0x10 1,
    colCtrl := (List.range 3).map (fun c => leAt b (0x11 + c) 1), programId := leAt b 0x20 8,
    groupMap := ((b.drop 0x40).take 256).map (·.toNat),
    pageCrc := (List.range 33).map (fun k => leAt b (0x140 + 4 * k) 4) }

/-- The page count of R236 for a number of steps. -/
def pagesFor (n : Nat) : Nat := if n ≤ 2032 then 1 else 1 + (n - 2032 + 2047) / 2048

/-- Octets are all zero. -/
def zeros (b : List Byte) (o n : Nat) : Bool := ((b.drop o).take n).all (fun x => x = 0)

/-- The header's fields and CRC are right (R240, error 1). -/
def hdrOk (b : List Byte) : Bool :=
  let h := parseHdr b
  b.length = 512 && leAt b 0 4 = 0x4646_0802 && leAt b 4 2 = 0x0200 && leAt b 6 2 = 512 &&
    decide (leAt b 0x0A 2 ≤ 1) && decide (1 ≤ h.steps) && decide (h.steps ≤ 65536) && h.pages = pagesFor h.steps &&
    zeros b 0x14 4 && zeros b 0x28 24 && zeros b 0x1C4 56 && h.groupMap.all (fun x => x / 16 % 8 = 0) &&
    leAt b 0x1FC 4 = crc32 (b.take 0x1FC)

/-- COL_CTRL names no controller twice and holds legal values (R240, error 6). -/
def colsOk (l : List Nat) : Bool :=
  l.all (fun x => decide (x ≤ 5) || x = 0xFF) && decide (((l.filter (fun x => x != 0xFF)).eraseDups).length =
    (l.filter (fun x => x != 0xFF)).length)

/-- Pages that no slot and no load holds. -/
def State.freePages (s : State) : List Nat :=
  let used := (s.ff.slots.map (fun x => x.active ++ x.shadow ++ x.dying)).flatten ++ (match s.ff.load with
    | some l => l.got.map (·.2)
    | none => [])
  (List.range 128).filter (fun p => !used.contains p)

/-- The load in progress fails with an error; it returns its pages (R241). -/
def loadFail (e : Nat) (s : State) : State :=
  let s := { s with ff := { s.ff with load := none } }
  setFfFlag 5 ((s.put 0x8010 5 3).put 0x8010 6 e)

/-- The load in progress completes: its pages are the slot's shadow list (R240, R241). -/
def loadDone (l : Load) (h : TabHdr) (s : State) : State :=
  let pages := (List.range h.pages).map (fun k => (kvGet l.got k).getD 0)
  let slots := s.ff.slots.modify l.slot (fun x => { x with shadow := pages, shHdr := some h })
  let s := { s with ff := { s.ff with load := none, slots := slots } }
  setFfFlag 4 ((s.put 0x8010 5 2).put 0x8010 6 0)

/-- The header of the load in progress has been read (R240, R241). -/
def loadHeader (b : List Byte) (busOk : Bool) (s : State) : State :=
  match s.ff.load with
  | none => s
  | some l =>
    let h := parseHdr b
    let x := s.fslot l.slot
    let named := (List.range h.pages).filter (fun k => l.mask = 0 || bit l.mask k)
    let shared := (List.range h.pages).filter (fun k => !(l.mask = 0 || bit l.mask k))
    let own := fun k => match x.active[k]? with
      | some p => decide ((kvGet s.ff.pageCrc p).getD 0 = h.pageCrc.getD k 0)
      | none => false
    if !busOk then loadFail 5 s
    else if !hdrOk b then loadFail 1 s
    else if !colsOk h.colCtrl then loadFail 6 s
    else if 2 ^ h.pages ≤ l.mask then loadFail 7 s
    else if (l.mask != 0 && x.actHdr.isNone) || !shared.all own then loadFail 4 s
    else if s.freePages.length < named.length then loadFail 3 s
    else
      let got := shared.map (fun k => (k, x.active.getD k 0))
      let l := { l with hdr := some h, left := named, got := got }
      let s := { s with ff := { s.ff with load := some l } }
      if named.isEmpty then loadDone l h s else s

/-- A page of the load in progress has been copied into the lowest free page, and its CRC checked (R240). -/
def loadPage (b : List Byte) (busOk : Bool) (s : State) : State :=
  match s.ff.load with
  | none => s
  | some l =>
    match l.hdr, l.left with
    | some h, k :: rest =>
      match s.freePages with
      | [] => loadFail 3 s
      | p :: _ =>
        let c := crc32 (if k = 0 then b.drop 0x200 else b)
        if !busOk then loadFail 5 s
        else
          let s := { s with ff := { s.ff with pageMem := kvPut s.ff.pageMem p b, pageCrc := kvPut s.ff.pageCrc p c } }
          if c = h.pageCrc.getD k 0 then
            let l := { l with left := rest, got := kvPut l.got k p }
            let s := s.put 0x8010 8 (s.num 0x8010 8 + 1)
            let s := { s with ff := { s.ff with load := some l } }
            if rest.isEmpty then loadDone l h s else s
          else loadFail 2 s
    | _, _ => s

/-- What a copy of the loader delivers: the header first, then the pages. -/
def loadData (b : List Byte) (busOk : Bool) (s : State) : State :=
  match s.ff.load with
  | none => s
  | some l => if l.hdr.isNone then loadHeader b busOk s else loadPage b busOk s

/-- The slot with a change. -/
def State.updSlot (s : State) (n : Nat) (f : Slot → Slot) : State :=
  { s with ff := { s.ff with slots := s.ff.slots.modify n f } }

/-- A write of 1 to 0x8010.04 starts a load (R240, R241). -/
def startLoad (s : State) : Except Nat State :=
  needState s.ff.load.isNone
    (let l : Load := { slot := s.pn 0x8010 2, mask := s.pn 0x8010 3 % 2 ^ 33, addr := s.pn 0x8010 1 }
     let s := ((s.put 0x8010 5 1).put 0x8010 6 0).put 0x8010 8 0
     .ok { s with ff := { s.ff with load := some l } })

/-- The swap object of slot n written (R242). -/
def slotSwap (n : Nat) (s : State) : Except Nat State :=
  let x := s.fslot n
  needState x.shHdr.isSome
    (let old := x.active.filter (fun p => !x.shadow.contains p)
     let s := s.updSlot n (fun x => { x with active := x.shadow, actHdr := x.shHdr, shadow := [], shHdr := none,
                                             dying := x.dying ++ old })
     let s := s.put (0x8020 + n) 0x0A ((s.num (0x8020 + n) 0x0A + 1) % 2 ^ 32)
     .ok (raise 0x0804 0 0 0 s))

/-- The enable object of slot n written (R243). -/
def slotEnable (n : Nat) (v : Int) (s : State) : Except Nat State :=
  let x := s.fslot n
  let dup := (List.range 16).any (fun m => m != n && (s.fslot m).enabled && decide ((s.fslot m).program = x.program))
  needState (v = 0 || (x.actHdr.isSome && !dup)) (.ok (s.updSlot n (fun x => { x with enabled := v = 1 })))

/-- The release object of slot n written (R243). -/
def slotRelease (n : Nat) (s : State) : Except Nat State :=
  needState (!(s.fslot n).enabled)
    (.ok (s.updSlot n (fun x => { x with active := [], shadow := [], actHdr := none, shHdr := none })))

/-! Objects (R257). -/

/-- A predicted current in 0.1 A for a report; 0 where there is none. -/
def capOf (i : Option Nat) : Int := (min 40959 (i.getD 0 * 10 / 256) : Nat)

/-- The rail's feed-forward terms as its object reports them. -/
def railFfRead (k sub : Nat) (s : State) : Option Int :=
  let r := s.rail k
  if sub = 6 then some (b2n r.ffForce)
  else if sub = 7 then some (capOf (s.predAt k s.aon.clock))
  else if sub = 8 then some (capOf (s.hMax k s.aon.clock))
  else if sub = 9 then some r.ffPhases
  else if sub = 0x0A then some (held 0 2000 (r.prepos / 256))
  else none

/-- The number of an object of 0x8000 to 0x8105, where it is not a stored value. -/
def ffRead (i sub : Nat) (s : State) : Option Int :=
  if i = 0x8000 && sub = 3 then some (min 1500000 (s.ff.period * 125 / 2) : Nat)
  else if 0x8020 ≤ i && i < 0x8030 then
    let x := s.fslot (i - 0x8020)
    if sub = 1 then some x.program
    else if sub = 2 then some (b2n x.enabled)
    else match x.actHdr with
      | some h =>
        if sub = 3 then some h.steps
        else if sub = 4 then some (b2n h.wrap + 256 * (h.colCtrl.getD 0 0 + 256 * (h.colCtrl.getD 1 0 + 256 * h.colCtrl.getD 2 0)) : Nat)
        else if sub = 9 then some h.programId
        else none
      | none => none
  else if i = 0x8030 && sub = 1 then some s.freePages.length
  else if 0x8100 ≤ i && i < 0x8106 then railFfRead (i - 0x8100) sub s
  else none

/-- A page list as 33 bytes. -/
def pageList (l : List Nat) : List Byte := (List.range 33).map (fun k => BitVec.ofNat 8 (l.getD k 0xFF))

/-- Octets of page lists and of the free page mask. -/
def ffReadDom (i sub : Nat) (s : State) : Option (List Byte) :=
  if 0x8020 ≤ i && i < 0x8030 then
    let x := s.fslot (i - 0x8020)
    if sub = 5 then some (if x.active.isEmpty then [] else pageList x.active)
    else if sub = 6 then some (if x.shadow.isEmpty then [] else pageList x.shadow)
    else none
  else if i = 0x8030 && sub = 2 then some (leBytes 16 (maskOf s.freePages))
  else none

/-- A write of an object of 0x8000 to 0x8105. -/
def ffWrite (i sub : Nat) (v : Int) (b : List Byte) (s : State) : Except Nat State :=
  if i = 0x8010 && sub = 4 then startLoad s
  else if i = 0x8010 && sub = 1 then needRange (v % 4096 = 0) (.ok (storeVal i sub v b s))
  else if 0x8020 ≤ i && i < 0x8030 then
    let n := i - 0x8020
    if sub = 1 then needState (!(s.fslot n).enabled) (.ok (s.updSlot n (fun x => { x with program := v.toNat })))
    else if sub = 2 then slotEnable n v s
    else if sub = 7 then slotSwap n s
    else if sub = 8 then slotRelease n s
    else .ok (storeVal i sub v b s)
  else .ok (storeVal i sub v b s)

end Sys2Proof.Machine
end

