-- ==== Sys2Proof/Machine/CapLib.lean ====
section
/-! DEFINITION. The power estimator, its calibration and telemetry, the effective limits and the cap controller
(R307 to R338). Energies of an interval and powers are in 2^-16 pJ and 2^-16 uW, currents in 1/256 mA, voltages in
0.5 mV. -/

namespace Sys2Proof.Machine

open Sys2Proof

/-! Coefficient sets (R310). -/

/-- A byte of the commissioning set that stands in for calibration data that flash does not hold. Free value: no rule
gives a set without valid calibration data. -/
def freeSetByte (k : Nat) : Byte := BitVec.ofNat 8 (Config.freeValue k).toNat

/-- The commissioning set: 0x6008.01 as written, or the calibration data's (R337, R500). -/
def State.comSet (s : State) : List Byte :=
  match s.dom 0x6008 1 with
  | some b => b
  | none => if s.flashRead.estSet.length = 152 then s.flashRead.estSet else (List.range 152).map freeSetByte

/-- w[r][k], UQ16.16 pJ. -/
def coefW (c : List Byte) (r k : Nat) : Nat := leAt c (40 * r + 4 * k) 4

/-- s[r], UQ8.24. -/
def coefS (c : List Byte) (r : Nat) : Nat := leAt c (40 * r + 0x20) 4

/-- o[r], SQ16.16 mA. -/
def coefO (c : List Byte) (r : Nat) : Int := sx 32 (leAt c (40 * r + 0x24) 4)

/-- leak at 10j degrees, UQ8.8 mA. -/
def coefLeak (c : List Byte) (j : Nat) : Nat := leAt c (0x78 + 2 * j) 2

/-- leak() at a temperature in 1/16 degrees, interpolated and clamped to 0 to 150 (R308); in mA / (256 x 160). -/
def leak (c : List Byte) (temp : Int) : Nat :=
  let t := (clampI 0 2400 temp).toNat
  coefLeak c (t / 160) * (160 - t % 160) + coefLeak c (t / 160 + 1) * (t % 160)

/-! The estimate (R308, R309). -/

/-- A tile's energy on rail r in an interval. -/
def tileEnergy (c : List Byte) (r : Nat) (n : List Nat) : Nat :=
  ((List.range 8).map (fun k => coefW c r k * min 65535 (n.getD k 0))).foldl (· + ·) 0

/-- A tile's leakage current on rail r, floored to 1/256 mA. -/
def tileLeak (c : List Byte) (r : Nat) (temp : Int) (v : Nat) : Nat :=
  coefS c r * leak c temp * v / (2 ^ 24 * 240000)

/-- A temperature for a tile that has none yet: no rule states it. Free value. -/
def freeTemp (t : Nat) : Int := sx 16 (Config.freeValue t).toNat

/-- temp[t]: the used result of the tile's gauge, in 1/16 degrees (R308, R375). -/
def State.tileTempNow (s : State) (t : Nat) : Int :=
  match s.therm.gauges[t]? with
  | some g => if g.state = 5 then freeTemp t else g.used
  | none => freeTemp t

/-- The temperature of a tile as last reported (R330). -/
def State.tileTempRep (s : State) (t : Nat) : Int :=
  match s.cap.tileTemp[t]? with
  | some x => x
  | none => freeTemp t

/-- The latest sample of rail r (0 CORE, 1 SRAM, 2 D2D); 0 where no controller drives it. -/
def State.railMv (s : State) (r : Nat) : Nat :=
  match s.ctrlOf r with
  | some k => (s.rail k).vout
  | none => 0

/-- v of a tile for rail r: the region reference for CORE, the rail's latest sample for the others (R308). -/
def State.tileMv (s : State) (r t : Nat) : Nat := if r = 0 then 2 * (s.region (t / 4)).ref else s.railMv r

/-- The activity that a boundary takes for a tile; a tile that hands nothing counted nothing. -/
def actOf (acts : List TileAct) (t : Nat) : List Nat :=
  match acts.find? (fun a => a.tile = t) with
  | some a => a.counts
  | none => []

/-- The tiles in use: those that the map does not mark 0xFF (R308). -/
def State.tilesInUse (s : State) : List Nat := (List.range 1024).filter (fun t => s.cap.tileMap.getD t 0xFF != 0xFF)

/-- A tile's contribution to the current of rail r. -/
def State.tileCur (s : State) (acts : List TileAct) (r t : Nat) : Int :=
  let v := s.tileMv r t
  ((tileEnergy s.cap.coefCal r (actOf acts t) / (128 * v) + tileLeak s.cap.coefCal r (s.tileTempNow t) v : Nat) : Int)

/-- i[r]: the offset and every tile's contribution. A rail that reads 0 mV has no quotient: its current is a free value. -/
def State.railEst (s : State) (acts : List TileAct) (r : Nat) : Int :=
  if (s.ctrlOf r).isNone then 0
  else if s.railMv r = 0 && r != 0 then sx 32 (Config.freeValue (s.free + r)).toNat
  else (s.tilesInUse.map (s.tileCur acts r)).foldl (· + ·) (coefO s.cap.coefCal r / 256)

/-- A tile's power: its energy over the three rails and its leakage terms at their voltages (R309). -/
def State.tilePower (s : State) (acts : List TileAct) (t : Nat) : Nat :=
  ([0, 1, 2].map (fun r =>
    let v := s.tileMv r t
    tileEnergy s.cap.coefCal r (actOf acts t) + tileLeak s.cap.coefCal r (s.tileTempNow t) v * v * 128)).foldl (· + ·) 0

/-- A tile's reporting-set power: the region reference stands for every rail's voltage (R330). -/
def State.tileReport (s : State) (acts : List TileAct) (t : Nat) : Nat :=
  let v := 2 * (s.region (t / 4)).ref
  ([0, 1, 2].map (fun r =>
    tileEnergy s.cap.coefRep r (actOf acts t) + tileLeak s.cap.coefRep r (s.tileTempRep t) v * v * 128)).foldl (· + ·) 0

/-- Every tile's power, 0 for a tile out of use. -/
def State.tilePowers (s : State) (acts : List TileAct) : List Nat :=
  (List.range 1024).map (fun t => if s.cap.tileMap.getD t 0xFF = 0xFF then 0 else s.tilePower acts t)

/-- The rails that are not estimated and regulate (R309). -/
def State.otherRails (s : State) : List Nat :=
  (List.range 6).filter (fun k => s.ctrlOf 0 != some k && s.ctrlOf 1 != some k && s.ctrlOf 2 != some k &&
    s.railUsed k && ((s.rail k).state = 2 || (s.rail k).state = 3))

/-- I_rail x VOUT of the rails not estimated, in 0.1 A / 40,960 x 0.5 mV. -/
def State.otherPower (s : State) : Int :=
  (s.otherRails.map (fun k => (s.rail k).iRail * ((s.rail k).vout : Int))).foldl (· + ·) 0

/-- P_est in uW (R309). -/
def State.pEst (s : State) (i : List Int) : Nat :=
  let e := ([0, 1, 2].map (fun r => i.getD r 0 * (s.railMv r : Int))).foldl (· + ·) 0
  ((e * 80 + s.otherPower * 50) / 40960).toNat

/-- Per-partition sums of a list of tile values. -/
def State.partSums (s : State) (l : List Nat) : List Nat :=
  (l.zip s.cap.tileMap).foldl (fun a x => a.modify x.2 (· + x.1)) (List.replicate 64 0)

/-- What partition 0 is charged besides its tiles: the offsets and the rails not estimated (R309). -/
def State.zeroExtra (s : State) : Int :=
  ([0, 1, 2].map (fun r => coefO s.cap.coefCal r * (s.railMv r : Int))).foldl (· + ·) 0 / 2 + s.otherPower * 80

/-- A partition takes its power of the interval in uW and its reporting-set power. -/
def PartEst.take (p : PartEst) (uw rep : Nat) : PartEst :=
  { p with pw := uw, sumMs := p.sumMs + uw, energy := (p.energy + uw) % 2 ^ 64, repSum := p.repSum + rep }

/-- A saturated count sets EST_SAT and is counted (R307). -/
def saturated (acts : List TileAct) (s : State) : State :=
  let n := (acts.map (fun a => (a.counts.filter (fun c => 65535 ≤ c)).length)).foldl (· + ·) 0
  if n = 0 then s else (setCapFlag 0 s).add32 0x6009 0x0A n

/-- The estimator forms the powers of an interval (R308, R309, R330, R332). -/
def estimate (acts : List TileAct) (s : State) : State :=
  let i := [0, 1, 2].map (s.railEst acts)
  let pe := s.pEst i
  let pw := s.tilePowers acts
  let sums := s.partSums pw
  let z := ((sums.getD 0 0 : Nat) + s.zeroExtra).toNat
  let sums := sums.set 0 z
  let rep := s.partSums ((List.range 1024).map (s.tileReport acts))
  let parts := s.cap.parts.mapIdx (fun k p => p.take (sums.getD k 0 / 65536) (rep.getD k 0))
  let pm := pw.map (fun x => min 65535 (x / 65536000))
  let sq := s.cap.mapSeq.map (fun x => (x + 1) % 2 ^ 32)
  let en := s.cap.regionEn.mapIdx (fun n x => x + ([0, 1, 2, 3].map (fun j => pw.getD (4 * n + j) 0 / 65536)).foldl (· + ·) 0)
  { s with free := s.free + 3,
           cap := { s.cap with regionEn := en, iEst := i, pDie := pe, pDieSum := s.cap.pDieSum + pe, parts := parts, powerMap := pm, mapSeq := sq } }

/-! Predicted steps (R311). -/

/-- The posted steps whose due time lies before the present boundary. -/
def State.predTaken (s : State) : List (Nat × Nat × Nat) := s.cap.predDue.filter (fun x => x.1 < s.aon.clock)

/-- P of the interval in uW: P_est, or P_pred where that is higher. -/
def State.pInterval (s : State) : Nat := (s.predTaken.map (fun x => x.2.1)).foldl max s.cap.pDie

/-- The step of due time t and index i has been matched already. -/
def State.alreadyMatched (s : State) (t i : Nat) : Bool := s.ff.lastDue.any (fun a => a.due = t && a.idx = i)

/-- The posted steps of the interval are used up; the difference of a matched one is reported (R311). -/
def usePreds (s : State) : State :=
  let f := fun (s : State) (x : Nat × Nat × Nat) =>
    let d : Int := ((x.2.1 : Int) - s.cap.pDie) / 1000
    if s.alreadyMatched x.1 x.2.2 then s.put 0x6009 0x0B (clampI (-2147483648) 2147483647 d)
    else { s with cap := { s.cap with predDiff := some (x.2.2, d) } }
  let l := s.predTaken
  let s := { s with cap := { s.cap with predDue := s.cap.predDue.filter (fun x => !(x.1 < s.aon.clock)) } }
  l.foldl f s

/-! The effective limits (R318). -/

/-- The members, or the members and lost members, of a mask between two addresses. -/
def maskIn (m lo hi : Nat) : Nat := ((List.range 32).filter (fun a => bit m a && decide (lo ≤ a) && decide (a ≤ hi))).length

/-- Lost members, less those whose reserve the operator has released (R149), and missing instances (0x6001.04). -/
def State.reserves (s : State) : Nat :=
  let kept := maskOf ((bitsOf 32 s.chain.lostMask).filter (fun a => !bit s.chain.released a))
  let lost := maskIn kept 1 0x18
  let die := s.pn 0x2100 5 - (maskIn s.chain.memberMask 1 8 + maskIn s.chain.lostMask 1 8)
  let sat := s.pn 0x2100 6 - (maskIn s.chain.memberMask 0x11 0x18 + maskIn s.chain.lostMask 0x11 0x18)
  lost + die + sat

/-- The sum of the members' die budgets and the reserves. -/
def State.sumD (s : State) : Nat :=
  (((List.range 32).filter (fun a => bit s.chain.memberMask a)).map (s.budget 2)).foldl (· + ·) 0 +
    s.reserves * s.budget 6 0

/-- The isolated limits apply: the isolated or held-out role, or no role yet (R148, R318). -/
def State.isolatedNow (s : State) : Bool := s.chain.isolated || !(s.chain.role = 1 || s.chain.role = 2)

/-- L_d. -/
def State.limitL (s : State) : Nat :=
  if s.isolatedNow then s.budget 6 0
  else
    let own := s.budget 2 s.chain.addr
    min own (s.budget 0 0 * own / s.sumD)

/-- B_d. -/
def State.limitB (s : State) : Nat :=
  if s.isolatedNow then s.budget 6 0
  else s.limitL * max (s.budget 1 0) (s.budget 0 0) / s.budget 0 0

/-- The limits come into force at a boundary. -/
def takeLimits (s : State) : State :=
  (((s.put 0x6000 9 s.limitL).put 0x6000 0x0A s.limitB).put 0x6001 3 s.sumD).put 0x6001 4 (min 255 s.reserves)

/-! The cap controller (R321). -/

/-- C_max. -/
def State.cMax (s : State) : Nat := (s.pn 0x6000 0x0A - s.pn 0x6000 9) * s.pn 0x6000 2

/-- The credit and the burst after an interval of power p (25 mW). -/
def capCredit (p : Nat) (s : State) : State :=
  let c := min s.cMax (s.cap.credit + s.pn 0x6000 9 - p)
  let b := if c = 0 then false else s.cap.burstOpen
  { s with cap := { s.cap with credit := c, burstOpen := b || decide (s.cMax * s.pn 0x6000 3 / 100 ≤ c) } }

/-- a: the limit that the interval is held to. -/
def State.capA (s : State) : Nat := if s.cap.burstOpen then s.pn 0x6000 0x0A else s.pn 0x6000 9

/-- The level below which the controller releases. -/
def State.capRelease (s : State) : Nat := s.capA * (100 - s.pn 0x6000 4) / 100

/-- The skip after an interval, and the clocks from which the escalate time and the raise hold count. -/
def capSkip (p : Nat) (s : State) : State :=
  let lim := s.pn 0x6000 5
  let sk := if s.capA < p then min (s.cap.skip + 1) lim else if p < s.capRelease then s.cap.skip - 1 else s.cap.skip
  let esc := if sk = lim then some (s.cap.escFrom.getD s.aon.clock) else none
  let rel := if p < s.capRelease then some (s.cap.relFrom.getD s.aon.clock) else none
  let ok := if p ≤ s.capA then some (s.cap.okFrom.getD s.aon.clock) else none
  { s with cap := { s.cap with skip := sk, escFrom := esc, relFrom := rel, okFrom := ok } }

/-- The divide after an interval: set after two intervals in a row above its level. -/
def capDivide (p : Nat) (s : State) : State :=
  let n := if s.pn 0x6000 0x0A * (100 + s.pn 0x6000 8) / 100 < p then min 2 (s.cap.overRun + 1) else 0
  let s := { s with cap := { s.cap with overRun := n } }
  if n = 2 && !s.cap.divide then setCapFlag 3 { s with cap := { s.cap with divide := true } } else s

/-- The cap controller takes P of an interval in uW. -/
def capController (uw : Nat) (s : State) : State :=
  let p := (uw + 24999) / 25000
  capDivide p (capSkip p (capCredit p s))

/-! Milliseconds (R312, R313, R332, R337). -/

/-- What one conversion means to the calibration of rail r: its current enters the mean, and it may mark the
millisecond as skipped (R312, R313). -/
def calibNote (r : Nat) (s : State) : State :=
  match s.ctrlOf r with
  | none => { s with cap := { s.cap with skipRail := s.cap.skipRail.set r true } }
  | some k =>
    let bad := (s.phasesOf k).any (fun n => (s.phase n).suspect || (s.phase n).state = 6) ||
      !((s.rail k).state = 2 || (s.rail k).state = 3) || s.pn 0x6008 6 = 0
    let i := (s.rail k).iRail
    { s with cap := { s.cap with
        iSum := s.cap.iSum.modify r (· + i), skipRail := s.cap.skipRail.modify r (fun b => b || bad) } }

/-- The thousandth interval ends a millisecond: the means are taken and calibration falls due; a new commissioning set
restarts it here. -/
def endMs (s : State) : State :=
  if s.cap.msCount + 1 < 1000 then { s with cap := { s.cap with msCount := s.cap.msCount + 1 } }
  else
    let parts := s.cap.parts.map (fun p => { p with meanMs := p.sumMs / 1000, sumMs := 0 })
    let im := s.cap.iSum.map (fun x => x / 1000)
    let cal := if s.cap.calRestart then s.comSet else s.cap.coefCal
    { s with cap := { s.cap with
        msCount := 0, pDieMs := s.cap.pDieSum / 1000, pDieSum := 0, parts := parts, calDue := true, msMean := im,
        msSkip := s.cap.skipRail, iSum := [0, 0, 0], skipRail := [false, false, false], coefCal := cal, calRestart := false } }

/-- The regressed value of a coefficient of commissioning value c: a free value between half and twice c (R312). -/
def boundedCoef (c f : Int) : Int := if 0 ≤ c then clampI ((c + 1) / 2) (2 * c) f else clampI (2 * c) ((c - 1) / 2) f

/-- A coefficient stands at either of its bounds; one that stays 0 has none. -/
def atBound (c v : Int) : Bool := c != 0 && boundedCoef c v = v && (boundedCoef c (v - 1) = v || boundedCoef c (v + 1) = v)

/-- The ten coefficients of rail r as integers: w[r][0..7], s[r], o[r]. -/
def coefAt (c : List Byte) (r j : Nat) : Int :=
  if j = 9 then coefO c r else (leAt c (40 * r + 4 * j) 4 : Nat)

/-- Put a coefficient into a set. -/
def putCoef (r j : Nat) (v : Int) (c : List Byte) : List Byte :=
  c.take (40 * r + 4 * j) ++ leBytes 4 (ux 32 v) ++ c.drop (40 * r + 4 * j + 4)

/-- The set after rail r's update, from free value f on. -/
def State.newCoefs (s : State) (r : Nat) : List Byte :=
  (List.range 10).foldl (fun c j =>
    putCoef r j (boundedCoef (coefAt s.comSet r j) (sx 33 (Config.rlsCoefficient (s.free + j)).toNat)) c) s.cap.coefCal

/-- A coefficient of rail r has reached a bound at which it did not stand before. -/
def reachesBound (com old new : List Byte) (r : Nat) : Bool :=
  (List.range 10).any (fun j =>
    atBound (coefAt com r j) (coefAt new r j) && !atBound (coefAt com r j) (coefAt old r j))

/-- The context of rail r's estimator faults: its controller's. -/
def State.estCtx (s : State) (r : Nat) : Nat := (s.ctrlOf r).getD 6

/-- Rail r's millisecond is used: its coefficients take free values within their bounds (R312), and the residual is
checked (R314). -/
def calUse (r : Nat) (s : State) : State :=
  let old := s.cap.coefCal
  let new := s.newCoefs r
  let s := s.add64 0x6009 (4 + r) 1
  let s := { s with free := s.free + 10, cap := { s.cap with coefCal := new } }
  let s := if reachesBound s.comSet old new r then raiseFault (s.estCtx r) 0x0B01 1 0xFF 0xFFFF 0 (setCapFlag 4 s) else s
  let e := clampI (-10000) 10000 (sx 64 (Config.rlsResidual s.free).toNat)
  let run := if e.natAbs ≤ 500 then 0 else min 100 (s.cap.usedRun.getD r 0 + 1)
  let was := s.cap.usedRun.getD r 0
  let s := ({ s.takeFree with cap := { s.cap with usedRun := s.cap.usedRun.set r run } } : State).put 0x6009 (1 + r) e
  if run = 100 && was != 100 then raiseFault (s.estCtx r) 0x0B02 1 0xFF 0xFFFF 0 (setCapFlag 5 s) else s

/-- Rail r's millisecond is skipped (R313). -/
def State.calSkips (s : State) (r : Nat) : Bool :=
  s.cap.msSkip.getD r true || (match s.ctrlOf r with
    | some k => decide (10 * s.cap.msMean.getD r 0 < s.iCont k)
    | none => true)

/-- Calibration takes a millisecond of rail r. -/
def calRail (r : Nat) (s : State) : State := if s.calSkips r then s.bump32 0x6009 (7 + r) else calUse r s

/-! Telemetry (R330, R331, R338). -/

/-- The reporting set takes a copy of the calibrated one (R315). -/
def adoptSet (s : State) : State :=
  let e := (s.cap.epoch + 1) % 65536
  raise 0x0B03 0 0 e { s with cap := { s.cap with coefRep := s.cap.coefCal, epoch := e } }

/-- The tiles of partition p. -/
def State.tileList (s : State) (p : Nat) : List Nat := (List.range 1024).filter (fun t => s.cap.tileMap.getD t 0xFF = p)

/-- POWER in 0.5 W: the mean over 1,000 intervals, rounded half up. -/
def PartEst.reportPower (p : PartEst) (tiles : Nat) : Nat :=
  if tiles = 0 then 0 else min 65535 (divHalfUp p.repSum (65536 * 500000000)).toNat

/-- A partition at a power instant. -/
def PartEst.instant (p : PartEst) (epoch tiles : Nat) : PartEst :=
  let w := p.reportPower tiles
  { p with power := w, energyT := (p.energyT + w) % 2 ^ 64, seqP := (p.seqP + 1) % 65536, epoch := epoch, repSum := 0,
           reasons := p.reasonsMs, reasonsMs := p.accr, durShown := p.dur, cntShown := p.cnt }

/-- The temperatures of partition p at a temperature instant. -/
def State.partTemps (s : State) (p : PartEst) : PartEst :=
  let l := (s.tileList p.p).map s.tileTempNow
  let q := { p with seqT := (p.seqT + 1) % 65536 }
  match l with
  | [] => { q with tMax := -32768, tMean := -32768 }
  | t :: _ => { q with tMax := divHalfUp (l.foldl max t) 16, tMean := divHalfUp (l.foldl (· + ·) 0) (16 * l.length) }

/-- A telemetry instant; every tenth is a temperature instant too. -/
def telemInstant (s : State) : State :=
  let n := s.cap.instants + 1
  let parts := s.cap.parts.map (fun p => p.instant s.cap.epoch (s.tilesOf p.p))
  let s := { s with cap := { s.cap with instants := n, parts := parts } }
  if n % 10 = 0 then
    let parts := s.cap.parts.map s.partTemps
    let tt := (List.range 1024).map s.tileTempNow
    { s with cap := { s.cap with parts := parts, tileTemp := tt } }
  else s

/-- The moment of the next telemetry instant: 100,000 ticks after the last, counted from ESTIM's stamp. -/
def State.nextInstant (s : State) : Nat := 4 * s.aon.stamps.getD 15 0 + (s.cap.instants + 1) * 400000

/-- ESTIM starts: the calibrated set starts from the commissioning set and the reporting set from it (R315, R337). -/
def estimStart (s : State) : State :=
  let c := s.comSet
  adoptSet { s with cap := { s.cap with
    coefCal := c, instants := 0, msCount := 0, pDieSum := 0, iSum := [0, 0, 0], skipRail := [false, false, false],
    calDue := false, calRestart := false, overRun := 0, escFrom := none, relFrom := none, okFrom := none,
    predDue := [], parts := s.cap.parts.map (fun p => { p with sumMs := 0, repSum := 0 }) } }

/-! Registers (R331, R332, R335). -/

/-- CAP_STAT. -/
def State.capStat (s : State) : Nat :=
  b2n (s.isReady 15 && s.pn 0x6000 1 = 1) + 2 * b2n s.cap.burstOpen + 4 * b2n s.isolatedNow +
    8 * b2n (s.boostState = 1) + 2 ^ 8 * s.cap.flags + 2 ^ 16 * s.cap.accr

/-- A current of the operator page in 0.1 A. -/
def pageCur (i : Int) : Nat := min 65535 (i / 25600).toNat

/-- A word of the operator page, by its offset in the page. -/
def State.capPage (s : State) (o : Nat) : Nat :=
  let c := s.cap
  if o = 0 then c.pDie % 2 ^ 32 + 2 ^ 32 * (c.pDieMs % 2 ^ 32)
  else if o = 8 then pageCur (c.iEst.getD 0 0) + 2 ^ 16 * pageCur (c.iEst.getD 1 0) + 2 ^ 32 * pageCur (c.iEst.getD 2 0)
  else if o = 0x10 then s.pn 0x6000 9 + 2 ^ 18 * s.pn 0x6000 0x0A + 2 ^ 36 * b2n c.burstOpen
  else if o = 0x18 then c.credit
  else if o = 0x20 then
    c.accr + 2 ^ 10 * bits c.comb 9 5 + 2 ^ 15 * bits c.comb 10 10 + 2 ^ 16 * bits c.comb 4 0
  else if o = 0x28 then c.pPkg % 2 ^ 32 + 2 ^ 32 * c.fresh
  else if 0x100 ≤ o && o < 0x300 then
    let p := s.partEst ((o - 0x100) / 8)
    p.pw % 2 ^ 32 + 2 ^ 32 * (p.meanMs % 2 ^ 32)
  else if 0x300 ≤ o && o < 0x300 + 0x88 * 16 then
    let t := (o - 0x300) / 0x88
    let w := (o - 0x300) % 0x88 / 8
    if w = 0 then c.mapSeq.getD t 0
    else ((List.range 4).map (fun j => 2 ^ (16 * j) * c.powerMap.getD (64 * t + 4 * (w - 1) + j) 0)).foldl (· + ·) 0
  else 0

/-- Word w (0 to 7) of the tenant record of partition p. -/
def State.tenantWord (s : State) (p w : Nat) : Nat :=
  let q := s.partEst p
  if w = 0 then q.seqP + 2 ^ 16 * q.seqT + 2 ^ 32 * q.epoch
  else if w = 1 then q.power + 2 ^ 16 * ux 16 q.tMax + 2 ^ 32 * ux 16 q.tMean
  else if w = 2 then q.energyT
  else if w = 3 then q.reasons
  else 0

/-! Objects (R336 to R338). -/

/-- Values of this chapter's objects that the units hold. -/
def capRead (i sub : Nat) (s : State) : Option Int :=
  let c := s.cap
  if i = 0x6000 then
    (if sub = 0x0B then some c.credit else if sub = 0x0C then some (min 0xFFFF_FFFF c.pDie : Nat)
     else if sub = 0x0D then some c.pPkg else none)
  else if i = 0x6001 then
    (if sub = 1 then some (s.budget 0 0) else if sub = 2 then some (s.budget 1 0) else none)
  else if i = 0x6002 then (if sub = 0 then none else some (s.budget 2 sub))
  else if i = 0x6003 then
    (if sub = 5 then some s.boostState else if sub = 6 then some s.boostBand else none)
  else if i = 0x6004 then
    (if sub = 3 then some (s.reasonWord 3) else if 1 ≤ sub && sub ≤ 0x0A then some (s.reasonWord sub) else none)
  else if i = 0x6005 then
    (if sub = 0 then none else if sub ≤ 0x0A then some (c.dur.getD (sub - 1) 0) else some (c.cnt.getD (sub - 0x0B) 0))
  else if i = 0x6006 then
    (if sub = 0 then none else if !s.isRoot then some 0
     else if sub ≤ 0x0A then some (c.pkgDur.getD (sub - 1) 0) else some (c.pkgCnt.getD (sub - 0x0B) 0))
  else if i = 0x6008 then (if sub = 5 then some c.epoch else none)
  else if 0x6040 ≤ i && i < 0x6080 then
    let p := i - 0x6040
    let q := s.partEst p
    match sub with
    | 1 => some (s.budget 3 p)
    | 2 => some (s.budget 4 p)
    | 3 => some (s.budget 5 p)
    | 4 => some (s.tilesOf p)
    | 5 => some (min 0xFFFF_FFFF q.pw : Nat)
    | 6 => some q.power
    | 7 => some q.energyT
    | 8 => some q.tMax
    | 9 => some q.tMean
    | 0x0A => some q.seqP
    | _ => none
  else if 0x6080 ≤ i && i < 0x60C0 then
    let q := s.partEst (i - 0x6080)
    if sub = 0 then none else if sub ≤ 0x0A then some (q.durShown.getD (sub - 1) 0) else some (q.cntShown.getD (sub - 0x0B) 0)
  else none

/-- Octets of this chapter's objects. The tile partition map shows what was last written. -/
def capReadDom (i sub : Nat) (s : State) : Option (List Byte) :=
  if i = 0x6008 then
    (if sub = 1 then some s.comSet else if sub = 2 then some s.cap.coefCal else if sub = 3 then some s.cap.coefRep else none)
  else if i = 0x6010 then some ((s.cap.tileMapNext.getD s.cap.tileMap).map (BitVec.ofNat 8))
  else none

/-- A request word that may be written: its fields within R323. -/
def wordOk (v : Nat) : Bool :=
  decide (v < 2048) && (decide (bits v 4 0 ≤ 15) || bits v 4 0 = 31) && decide (bits v 9 5 ≤ 24)

/-- The word of reason 7 while THR_IN_N takes effect (R46, 0x6004.0B). -/
def State.extAction (s : State) : Nat := if s.pn 0x6004 0x0B = 0 then packWord 31 0 true else packWord 31 (s.pn 0x6004 0x0B) false

/-- Writes of 0x6003: policy, fixed point and boost nominal (R327, R328). -/
def policyWrite (sub : Nat) (v : Int) (b : List Byte) (s : State) : Except Nat State :=
  let t := storeVal 0x6003 sub v b s
  if sub = 1 then needState (v != 2 || t.boostBand != 0) (.ok (setTarget t))
  else if sub = 2 then needRange (decide (v < 16) && s.pointDiv v.toNat != 0) (.ok (setTarget t))
  else needRange (v = 0 || decide (100 ≤ v) && decide (v ≤ 6000))
    (needState (s.pn 0x6003 1 != 2 || t.boostBand != 0) (.ok (setTarget t)))

/-- Writes of this chapter's objects that need no budget transaction. -/
def capWrite (i sub : Nat) (v : Int) (b : List Byte) (s : State) : Except Nat State :=
  if i = 0x6003 then policyWrite sub v b s
  else if i = 0x6004 then
    (if sub = 0x0B then
      let t := storeVal i sub v b s
      needRange (decide (v ≤ 24)) (.ok (if s.aon.thrInAct then updAccr { t with cap := { t.cap with extWord := t.extAction } } else t))
     else needRange (wordOk v.toNat) (.ok (updAccr (
      if sub = 3 then { s with therm := { s.therm with fw3 := v.toNat } }
      else if sub = 4 then { s with therm := { s.therm with fw4 := v.toNat } }
      else { s with cap := { s.cap with mgtWord := v.toNat } }))))
  else if i = 0x6008 then
    (if sub = 1 then .ok (let t := s.putDom i sub b; { t with cap := { t.cap with calRestart := true } })
     else if sub = 4 then needRange (v = 1) (.ok (adoptSet s))
     else .ok (storeVal i sub v b s))
  else if i = 0x6010 then
    needRange (b.all (fun x => decide (x.toNat < 64) || x.toNat = 0xFF))
      (.ok { s with cap := { s.cap with tileMapNext := some (b.map (·.toNat)) } })
  else .ok (storeVal i sub v b s)

end Sys2Proof.Machine
end

