-- ==== Sys2Proof/Machine/SyncLib.lean ====
section
/-! DEFINITION. The synchronisation unit: objects, translation, request words, doorbells, bindings and remapping (R434 to
R458). -/

namespace Sys2Proof.Machine

open Sys2Proof

/-! Objects (R434). -/

/-- Sync object n. -/
def State.sobj (s : State) (n : Nat) : SyncObj :=
  match s.sync.objs.find? (fun o => o.n = n) with
  | some o => o
  | none => { n := n }

/-- An object put in its place of the ascending list. -/
def sobjInsert (o : SyncObj) : List SyncObj → List SyncObj
  | [] => [o]
  | x :: l => if o.n < x.n then o :: x :: l else x :: sobjInsert o l

/-- Put an object into the ascending list; one at its POR_N values is not listed. -/
def putSobjL (o : SyncObj) (l : List SyncObj) : List SyncObj :=
  if o = { n := o.n } then l.filter (fun x => x.n ≠ o.n) else sobjInsert o (l.filter (fun x => x.n ≠ o.n))

/-- The state with an object changed. -/
def State.putSobj (s : State) (o : SyncObj) : State := { s with sync := { s.sync with objs := putSobjL o s.sync.objs } }

/-- Registered waits on object n. -/
def State.waitersOn (s : State) (n : Nat) : Nat := (s.sync.waiters.filter (fun w => w.obj = n)).length

/-- The registered wait of slot a. -/
def State.waitOf (s : State) (a : Nat) : Option Waiter := s.sync.waiters.find? (fun w => w.a = a)

/-- The registered wait of slot a is gone. -/
def dropWait (a : Nat) (s : State) : State :=
  { s with sync := { s.sync with waiters := s.sync.waiters.filter (fun w => w.a != a) } }

/-- Owner of a map; none when free (R435). -/
def State.mapOwner (s : State) (m : Nat) : Option Nat := kvGet s.sync.mapOwner m

/-- Entry of virtual ID v of map m (R435). -/
def State.mapEnt (s : State) (m v : Nat) : Nat := (kvGet s.sync.mapEntries (m * 256 + v)).getD 0

/-- An object's owner is the partition, and its generation the present one (R436, checks 3 and 4). -/
def State.ownCheck (s : State) (part n : Nat) : Nat :=
  let o := s.sobj n
  if o.owner != part then 4 else if o.gen != s.genOf part then 5 else 0

/-- Translation of a virtual ID through a map for a partition: the object, or the reason of the refusal (R436). -/
def State.xlate (s : State) (part : Nat) (map : Option Nat) (vid : Nat) : Except Nat Nat :=
  match map with
  | none => .error 2
  | some m =>
    let e := s.mapEnt m vid
    if !bit e 15 then .error 3
    else
      let n := bits e 11 0
      let r := s.ownCheck part n
      if r = 0 then .ok n else .error r

/-- A failed translation is counted (R436). -/
def xlateFault (part : Nat) (s : State) : State :=
  setSyncFlag 2 ((s.bump32 (0x2440 + part) 8).bump32 0x2400 0x0D)

/-- The host map of a partition (R435). -/
def State.hostMap (s : State) (p : Nat) : Option Nat :=
  let m := s.pn (0x2440 + p) 1
  if m < 1024 then some m else none

/-! Words (R437, R438). -/

/-- A response or notice word. -/
def syncWordOf (op : Nat) (notice fault sat : Bool) (slot result reason value tag : Nat) : Nat :=
  op + 8 * b2n notice + 16 * b2n fault + 32 * b2n sat + 256 * slot + 2 ^ 16 * result + 2 ^ 19 * reason + 2 ^ 24 * value +
    2 ^ 56 * tag

/-- A response or notice leaves for a tile. -/
def syncSend (tile w : Nat) (s : State) : State :=
  { s with sync := { s.sync with notices := s.sync.notices ++ [(tile, w)] } }

/-- A new event: the words of the one before have left. -/
def syncClear (s : State) : State := { s with sync := { s.sync with notices := [] } }

/-- A notice about a registered wait. -/
def waitNotice (w : Waiter) (fault : Bool) (result reason value : Nat) (s : State) : State :=
  syncSend (w.a / 40) (syncWordOf (if w.wait then 3 else 2) true fault false (w.a % 40) result reason value w.tag) s

/-! Scopes (R444, R445). -/

/-- The release record of the object includes an acquirer: a tile of this die, or none for a fabric requester. -/
def SyncObj.includes (o : SyncObj) (tile : Option Nat) : Bool :=
  match tile with
  | some t => if o.relScope = 0 then o.relTile = t else true
  | none => decide (2 ≤ o.relScope)

/-- A scope fault is recorded for object n and a partition. -/
def scopeFault (n part : Nat) (s : State) : State :=
  let o := s.sobj n
  let s := s.putSobj { o with scopeFault := true, scopeFaults := min 65535 (o.scopeFaults + 1) }
  setSyncFlag 1 ((s.bump32 (0x2440 + part) 7).bump32 0x2400 0x0C)

/-- Strict mode of a partition. -/
def State.strict (s : State) (p : Nat) : Bool := s.pn (0x2440 + p) 2 = 1

/-! Signals and wakes (R440). -/

/-- One gated waiter of object n is woken: an ACQUIRE receives WAKE and stays; a WAIT completes on the release. -/
def wakeOne (n : Nat) (w : Waiter) (s : State) : State :=
  let o := s.sobj n
  if !w.wait then
    let l := s.sync.waiters.map (fun x => if x.a = w.a then { x with woken := true } else x)
    waitNotice w false 3 0 o.value { s with sync := { s.sync with waiters := l } }
  else
    let ok := o.includes (some (w.a / 40))
    let s := dropWait w.a (if ok then s else scopeFault n w.part s)
    if ok then waitNotice w false 0 0 o.value s
    else if s.strict w.part then waitNotice w true 5 6 o.value s
    else waitNotice w true 0 0 o.value s

/-- Every gated waiter of object n is woken, in order of registration. -/
def wakeAll (n : Nat) (s : State) : State :=
  (s.sync.waiters.filter (fun w => w.obj = n && !w.woken)).foldl (fun s w => wakeOne n w s) s

/-- The object after a signal of a scope from a tile (0xFFFF: none). -/
def SyncObj.signal (scope tile : Nat) (o : SyncObj) : SyncObj :=
  let o := { o with relScope := scope, relTile := tile, signals := (o.signals + 1) % 2 ^ 32 }
  if o.value = 65535 then { o with sat := true, lost := min 65535 (o.lost + 1) } else { o with value := o.value + 1 }

/-- A signal applies to object n; the waiters are woken after `after` (the response of the word) has left. -/
def signalObj (n scope tile : Nat) (after : State → State) (s : State) : State :=
  let full := decide ((s.sobj n).value = 65535)
  let o := (s.sobj n).signal scope tile
  let s := ((s.putSobj o).add64 0x2400 0x0A 1).countP 10 o.owner 1
  let s := if full then setSyncFlag 0 s else s
  wakeAll n (after s)

/-- A set of object n's value by hand (R452). -/
def setObj (n v : Nat) (s : State) : State :=
  let s := s.putSobj { s.sobj n with value := v, relScope := 2, relTile := 0xFFFF }
  if v = 0 then s else wakeAll n s

/-! Acquires and waits (R441, R442, R445). -/

/-- How an operation on an object ends: result, reason, and whether it carries a scope fault. -/
structure SyncEnd where
  result : Nat := 0
  reason : Nat := 0
  fault : Bool := false
  deriving DecidableEq, Repr

/-- An ACQUIRE (or, with `wait`, a WAIT) of a non-zero object n by an acquirer of partition part completes, or strict mode
refuses it. -/
def takeObj (n part : Nat) (tile : Option Nat) (wait : Bool) (s : State) : SyncEnd × State :=
  let ok := (s.sobj n).includes tile
  let s := if ok then s else scopeFault n part s
  if !ok && s.strict part then ({ result := 5, reason := 6, fault := true }, s)
  else if wait then ({ result := 0, fault := !ok }, s)
  else
    let o := s.sobj n
    ({ result := 1, fault := !ok }, s.putSobj { o with value := o.value - 1, acquires := (o.acquires + 1) % 2 ^ 32 })

/-- A spurious wake of a waiter on object n (R441). -/
def spuriousWake (n part : Nat) (s : State) : State :=
  let o := s.sobj n
  let s := s.putSobj { o with spurious := (o.spurious + 1) % 2 ^ 32 }
  setSyncFlag 3 (((s.add64 (0x2440 + part) 6 1).add64 0x2400 0x0B 1).countP 11 part 1)

/-- The response to a word w of operation op from a tile. -/
def syncReply (tile op w : Nat) (fault sat : Bool) (result reason value : Nat) (s : State) : State :=
  syncSend tile (syncWordOf op false fault sat (bits w 13 8) result reason value (bits w 63 56)) s

/-- The fields of a word that must be zero, or hold no reserved code (R437, R438). -/
def syncBad (op w : Nat) : Bool :=
  decide (5 ≤ op) || (op = 1 && bits w 5 4 = 3) || decide (40 ≤ bits w 13 8) || bits w 7 6 != 0 || bits w 15 14 != 0 ||
    bits w 31 24 != 0 || bits w 55 42 != 0

/-- The word is the identical ACQUIRE of a woken registration (R442). -/
def sameAcquire (r : Waiter) (op w : Nat) : Bool :=
  op = 2 && !r.wait && r.vid = bits w 23 16 && r.tag = bits w 63 56 && !bit w 3

/-- An ACQUIRE or WAIT that has passed the slot's own check; `again` says that it retries a woken registration. -/
def syncTake (tile op w part : Nat) (again : Bool) (s : State) : State :=
  let a := 40 * tile + bits w 13 8
  match s.xlate part (kvGet s.sync.bind_ a) (bits w 23 16) with
  | .error r => syncReply tile op w false false 5 r 0 (xlateFault part s)
  | .ok n =>
    if (s.sobj n).value != 0 then
      let x := takeObj n part (some tile) (op = 3) s
      syncReply tile op w x.1.fault false x.1.result x.1.reason (x.2.sobj n).value x.2
    else
      let s := if again then spuriousWake n part s else s
      if bit w 3 then syncReply tile op w false false 5 12 0 s
      else
        let r : Waiter := { a := a, obj := n, wait := op = 3, vid := bits w 23 16, tag := bits w 63 56, part := part, since := s.aon.clock }
        syncReply tile op w false false 2 0 0 { s with sync := { s.sync with waiters := s.sync.waiters ++ [r] } }

/-- BIND (R442). -/
def syncBindWord (tile w part : Nat) (s : State) : State :=
  let m := bits w 41 32
  if s.mapOwner m = some part then
    let l := kvPut s.sync.bind_ (40 * tile + bits w 13 8) m
    syncReply tile 0 w false false 0 0 0 { s with sync := { s.sync with bind_ := l } }
  else syncReply tile 0 w false false 5 11 0 s

/-- CANCEL (R442). -/
def syncCancelWord (tile w : Nat) (s : State) : State :=
  let a := 40 * tile + bits w 13 8
  match s.waitOf a with
  | some r => waitNotice r false 4 0 (s.sobj r.obj).value (syncReply tile 4 w false false 0 0 0 (dropWait a s))
  | none => syncReply tile 4 w false false 5 8 0 s

/-- SIGNAL (R440). -/
def syncSignalWord (tile w part : Nat) (s : State) : State :=
  match s.xlate part (kvGet s.sync.bind_ (40 * tile + bits w 13 8)) (bits w 23 16) with
  | .error r => syncReply tile 1 w false false 5 r 0 (xlateFault part s)
  | .ok n =>
    let full := decide ((s.sobj n).value = 65535)
    signalObj n (bits w 5 4) tile (fun s => syncReply tile 1 w false full 0 0 (s.sobj n).value s) s

/-- ACQUIRE, WAIT or BIND of a slot with a registered wait (R442): only the identical ACQUIRE of a woken one goes on. -/
def syncSlot (tile op w part : Nat) (s : State) : State :=
  match s.waitOf (40 * tile + bits w 13 8) with
  | none => if op = 0 then syncBindWord tile w part s else syncTake tile op w part false s
  | some r =>
    if r.woken && sameAcquire r op w then syncTake tile op w part true (dropWait r.a s)
    else syncReply tile op w false false 5 7 0 s

/-- The unit is available (R454). -/
def State.syncOn (s : State) : Bool := s.isReady 19 && s.enabled 8

/-- The unit accepts a word (R436 to R442, R454). -/
def syncAccept (tile op w : Nat) (s : State) : State :=
  let part := s.cap.tileMap.getD tile 0xFF
  if !s.syncOn then syncReply tile op w false false 5 10 0 s
  else if syncBad op w then syncReply tile op w false false 7 1 0 s
  else if op = 1 then syncSignalWord tile w part s
  else if op = 4 then syncCancelWord tile w s
  else syncSlot tile op w part s

/-- A tile in use sends a word of operation op (a word of a reserved OP keeps it); while STOP_IN holds it waits in its region
cell (R452). A satellite has no tiles. -/
def syncWord (tile op w : Nat) (s : State) : State :=
  let o := if 5 ≤ bits w 2 0 then bits w 2 0 else op
  if s.inst.sat || 1024 ≤ tile || s.cap.tileMap.getD tile 0xFF = 0xFF then s
  else if s.obs.standing then { s with sync := { s.sync with cells := s.sync.cells ++ [(tile, w - bits w 2 0 + o)] } }
  else syncAccept tile o w (syncClear s)

/-- The words that waited out a stop are accepted in their order (R452). -/
def syncResume (s : State) : State :=
  let l := s.sync.cells
  let s := syncClear { s with sync := { s.sync with cells := [] } }
  l.foldl (fun s x => syncAccept x.1 (bits x.2 2 0) x.2 s) s

/-! Fabric requesters and bindings (R446 to R451). -/

/-- A signal of virtual ID v by a fabric requester of a partition; the error is the reason of R436. -/
def fabricSignal (part v scope : Nat) (s : State) : Except Nat State :=
  match s.xlate part (s.hostMap part) v with
  | .ok n => .ok (signalObj n scope 0xFFFF id s)
  | .error r => .error r

/-- The word of a TRY_ACQUIRE read, with the object as it leaves it (R447). -/
def tryAcquire (part v : Nat) (s : State) : Except Nat (Nat × State) :=
  match s.xlate part (s.hostMap part) v with
  | .error r => .error r
  | .ok n =>
    if (s.sobj n).value = 0 then .ok (0, s)
    else
      let x := takeObj n part none false s
      .ok (b2n (x.1.result = 1) + 2 * b2n x.1.fault + 4 * b2n (x.1.result = 5) + 2 ^ 16 * (x.2.sobj n).value, x.2)

/-- The STATUS word of an object (R448). -/
def State.statusWord (s : State) (n : Nat) : Nat :=
  let o := s.sobj n
  o.value + 2 ^ 16 * o.relScope + 2 ^ 18 * b2n o.sat + 2 ^ 19 * b2n o.scopeFault + 2 ^ 32 * s.waitersOn n

/-- A barrier binding signals its object: subindex 8 the die's, 9 the package's (R451). -/
def bindingSignal (sub scope : Nat) (s : State) : State :=
  let n := s.pn 0x2400 sub
  if s.syncOn && n < 4096 && (s.sobj n).owner != 0xFF then signalObj n scope 0xFFFF id (syncClear s) else s

/-! Remapping and generations (R453). -/

/-- The waits of the slots that `c` names end with reason 9, and the slots lose their bindings. -/
def syncEvict (c : Nat → Nat → Bool) (s : State) : State :=
  let part := fun a => s.cap.tileMap.getD (a / 40) 0xFF
  let out := s.sync.waiters.filter (fun w => c w.a w.part)
  let ws := s.sync.waiters.filter (fun w => !c w.a w.part)
  let bs := s.sync.bind_.filter (fun b => !c b.1 (part b.1))
  let s := { s with sync := { s.sync with waiters := ws, bind_ := bs } }
  out.foldl (fun s w => waitNotice w false 4 9 (s.sobj w.obj).value s) s

/-- Tiles that a new map moves to another partition (R453). -/
def syncMoved (new : List Nat) (s : State) : State :=
  let old := s.cap.tileMap
  syncEvict (fun a _ => new.getD (a / 40) 0xFF != old.getD (a / 40) 0xFF) (syncClear s)

/-- The generation of partition p advances (R453). -/
def syncGeneration (p : Nat) (s : State) : State := syncEvict (fun _ q => q = p) (syncClear s)

/-! Objects and registers (R456 to R458). -/

/-- SYNC_STAT. -/
def State.syncStat (s : State) : Nat :=
  b2n s.obs.standing + 256 * s.sync.flags + 65536 * s.sync.waiters.length

/-- The object record of 32 bytes (R457). -/
def State.objBytes (s : State) (n : Nat) : List Byte :=
  let o := s.sobj n
  leBytes 2 n ++ leBytes 2 o.value ++ leBytes 1 o.owner ++
    leBytes 1 (b2n o.sat + 2 * b2n o.scopeFault + 4 * b2n (s.pn 0x2400 8 = n || s.pn 0x2400 9 = n)) ++ leBytes 2 o.gen ++
    leBytes 1 o.relScope ++ leBytes 1 0 ++ leBytes 2 o.relTile ++ leBytes 2 (s.waitersOn n) ++ leBytes 2 0 ++
    leBytes 4 o.signals ++ leBytes 4 o.acquires ++ leBytes 4 o.spurious ++ leBytes 2 o.lost ++ leBytes 2 o.scopeFaults

/-- Numbers of 0x2400 to 0x247F that are not stored. -/
def syncRead (i sub : Nat) (s : State) : Option Int :=
  if i = 0x2400 then
    if sub = 3 then some ((s.sobj (s.pn 0x2400 1)).owner : Nat)
    else if sub = 7 then some (((s.mapOwner (s.pn 0x2400 6)).getD 0xFF : Nat) : Int)
    else none
  else if 0x2440 ≤ i && i < 0x2480 then
    if sub = 5 then some ((s.sync.objs.filter (fun o => o.owner = i - 0x2440)).length : Nat) else none
  else none

/-- The map that partition p has selected, while it owns it. -/
def State.selMap (s : State) (p : Nat) : Option Nat :=
  let m := s.pn (0x2440 + p) 3
  if s.mapOwner m = some p then some m else none

/-- Octets of 0x2400 to 0x247F. -/
def syncReadDom (i sub : Nat) (s : State) : Option (List Byte) :=
  if i = 0x2400 && sub = 2 then some (s.objBytes (s.pn 0x2400 1))
  else if 0x2440 ≤ i && i < 0x2480 && sub = 4 then
    match s.selMap (i - 0x2440) with
    | some m => some (((List.range 256).map (fun v => leBytes 2 (s.mapEnt m v))).flatten)
    | none => none
  else none

/-- A read that ends with STATE: map entries with no map selected (R458). -/
def syncReadState (i sub : Nat) (s : State) : Bool :=
  decide (0x2440 ≤ i) && decide (i < 0x2480) && sub = 4 && (s.selMap (i - 0x2440)).isNone

/-- Entry v of a written list of entries, without its reserved bits. -/
def entAt (b : List Byte) (v : Nat) : Nat :=
  let e := leAt b (2 * v) 2
  bits e 11 0 + 32768 * b2n (bit e 15)

/-- Map m with its entries replaced. -/
def putMap (m : Nat) (b : List Byte) (s : State) : State :=
  let l := (List.range 256).foldl (fun l v =>
    let e := entAt b v
    if e = 0 then kvDel l (m * 256 + v) else kvPut l (m * 256 + v) e) s.sync.mapEntries
  { s with sync := { s.sync with mapEntries := l } }

/-- A write of map entries by partition p: no VALID entry may fail check 3 or 4 (R436). -/
def writeMap (p : Nat) (b : List Byte) (s : State) : Except Nat State :=
  match s.selMap p with
  | none => .error abState
  | some m =>
    needRange ((List.range 256).all (fun v => !bit (entAt b v) 15 || s.ownCheck p (bits (entAt b v) 11 0) = 0))
      (.ok (putMap m b s))

/-- An assignment of the selected object (R434). -/
def assignObj (v : Nat) (s : State) : Except Nat State :=
  let n := s.pn 0x2400 1
  needState (s.waitersOn n = 0)
    (.ok (s.putSobj { s.sobj n with owner := v, gen := if v = 0xFF then 0 else s.genOf v }))

/-- A write of the owner of the selected map. -/
def assignMap (v : Nat) (s : State) : Except Nat State :=
  let m := s.pn 0x2400 6
  needState (!s.sync.bind_.any (fun b => b.2 = m))
    (let l := if v = 0xFF then kvDel s.sync.mapOwner m else kvPut s.sync.mapOwner m v
     .ok { s with sync := { s.sync with mapOwner := l } })

/-- Writes of 0x2400 to 0x247F. -/
def syncWrite (i sub : Nat) (v : Int) (b : List Byte) (s : State) : Except Nat State :=
  if i = 0x2400 then
    if sub = 3 then assignObj v.toNat s
    else if sub = 4 then .ok (setObj (s.pn 0x2400 1) v.toNat (syncClear s))
    else if sub = 5 then
      let o := s.sobj (s.pn 0x2400 1)
      .ok (s.putSobj { o with sat := o.sat && !bit v.toNat 0, scopeFault := o.scopeFault && !bit v.toNat 1 })
    else if sub = 7 then assignMap v.toNat s
    else if sub = 8 || sub = 9 then
      needRange (v = 0xFFFF || (s.sobj v.toNat).owner != 0xFF) (.ok (storeVal i sub v b s))
    else .ok (storeVal i sub v b s)
  else if 0x2440 ≤ i && i < 0x2480 then
    let p := i - 0x2440
    if sub = 1 then needRange (v = 0xFFFF || s.mapOwner v.toNat = some p) (.ok (storeVal i sub v b s))
    else if sub = 3 then needRange (s.mapOwner v.toNat = some p) (.ok (storeVal i sub v b s))
    else if sub = 4 then writeMap p b s
    else .ok (storeVal i sub v b s)
  else .ok (storeVal i sub v b s)

end Sys2Proof.Machine
end

