-- ==== Sys2Proof/Machine/DoveLib.lean ====
section
/-! DEFINITION. Dovetail: plans, waves and package barriers (R355 to R365). -/

namespace Sys2Proof.Machine

open Sys2Proof

/-! Plans (R355, R359). -/

/-- The number of waves for an increase di (1/256 A) under a wave step limit (0.1 A), from w on. -/
def wavesFor (di : Int) (limit : Nat) : Nat → Nat → Nat
  | 0, w => w
  | n + 1, w => if w < 16 && decide (256 * (limit * w : Nat) < 10 * di) then wavesFor di limit n (2 * w) else w

/-- The quotient of two naturals rounded up. -/
def ceilDiv (a b : Nat) : Nat := (a + b - 1) / b

/-- f_src in MHz and m of R359: the selected PLL input and the divider in force, or 400 and 16 on the internal clock. -/
def State.planClock (s : State) : Nat × Nat :=
  if s.clk.tileInt then (400, 16) else (s.pn 0x2200 (if s.clk.tileB then 2 else 1), s.clk.m)

/-- W, d and whether the plan is limited, for an increase di (R359). -/
def State.planFor (s : State) (di : Int) : Nat × Nat × Bool :=
  if di ≤ 0 then (1, 0, false)
  else
    let limit := s.pn 0x7100 3
    let w := wavesFor di limit 4 1
    let lim := decide (256 * (limit * w : Nat) < 10 * di)
    if w = 1 then (1, 0, lim)
    else
      let (f, m) := s.planClock
      let raw := ceilDiv (di.toNat * 16 * f * 10) (256 * 1000 * (w - 1) * s.pn 0x7100 2 * m)
      let g := s.pn 0x7100 6
      let d := max 2 (g * ceilDiv raw g)
      if 256 < d then (w, 256, true) else (w, d, lim)

/-- The armed plan's waves and spacing are computed; a limited plan is counted. -/
def computePlan (s : State) : State :=
  let (w, d, lim) := s.planFor (s.dove.planStep - s.dove.planPrev)
  let s := { s with dove := { s.dove with planW := w, planD := d } }
  if lim then setDoveFlag 0 (s.bump32 0x7101 4) else s

/-- A posting arms a plan until the step's due time plus the plan window (R358). -/
def armPlan (step prev : Int) (due : Nat) (s : State) : State :=
  let t := due + nsCycles (s.pn 0x7100 7)
  computePlan { s with dove := { s.dove with armed := true, planStep := step, planPrev := prev, planUntil := t } }

/-- The armed plan is recomputed after a change of m (R359). -/
def replan (s : State) : State := if s.dove.armed then computePlan s else s

/-! Releases (R355, R356). -/

/-- Dovetail paces barriers (R41, R360). -/
def State.paced (s : State) : Bool := s.isReady 18 && s.enabled 10 && s.pn 0x7100 1 = 1

/-- The wave to which line l belongs for start line st and w waves (R355). -/
def waveOf (st w l : Nat) : Nat := 1 + (l + 16 - st) % 16 % w

/-- BAR_WAVE once the waves up to k have risen. -/
def waveMask (st w k : Nat) : Nat := maskOf ((List.range 16).filter (fun l => decide (waveOf st w l ≤ k)))

/-- A release begins at the present edge e0, with the armed plan or the default one (R356, R358). -/
def startRelease (s : State) : State :=
  let a := s.dove.armed
  let w := if a then s.dove.planW else s.pn 0x7100 4
  let d := if a then s.dove.planD else if w = 1 then 0 else s.pn 0x7100 5
  let s := ((s.add64 0x7101 (if a then 2 else 3) 1).add64 0x7101 1 1).count 12 1
  { s with dove := { s.dove with
      releasing := true, e0 := s.clk.tileCycles, wave := 0, w := w, d := d, armed := false, curStart := s.dove.start } }

/-! Package barriers (R361 to R365). -/

/-- The epoch after one that skips 0. -/
def nextEpoch (e : Nat) : Nat := if e = 0xFFFF then 1 else e + 1

/-- A BARRIER frame's payload (R362). -/
def barrierPayload (op epoch mask : Nat) : List Nat :=
  if op = 0 then [epoch] else [epoch + 2 ^ 16 * op, mask]

/-- The instance acts on a RELEASE or CANCEL of an epoch; a RELEASE signals the package binding (R451). -/
def actBarrier (op epoch : Nat) (s : State) : State :=
  let ns := (s.aon.clock - s.dove.pkgWaitAt) * 5 / 2
  let s := s.put 0x7101 7 (max (s.num 0x7101 7) (min 0xFFFF_FFFF ns : Nat))
  let s := { s with dove := { s.dove with pkgWait := false, late := false, epoch := epoch } }
  let s := if op = 2 then raise 0x0703 0 0 0 (setDoveFlag 2 s) else bindingSignal 9 2 (s.add64 0x7101 5 1)
  startRelease s

/-- A RELEASE or CANCEL reaches the instance (R363, R365). -/
def hearBarrier (op epoch mask : Nat) (s : State) : State :=
  if !s.dove.pkgWait then s.bump32 0x7101 6
  else if bit mask s.chain.addr then actBarrier op epoch s
  else s

/-- The package mask of the root. -/
def State.pkgMask (s : State) : Nat := s.pn 0x7102 1

/-- Every address of one mask stands in another. -/
def covers (a m : Nat) : Bool := (bitsOf 32 m).all (fun k => bit a k)

/-- The root sends RELEASE once the arrived mask covers the package mask (R363). -/
def rootComplete (s : State) : State :=
  let m := s.pkgMask
  if m != 0 && covers s.dove.arrived m then
    let e := s.dove.rootEpoch
    let s := broadcast 8 true (barrierPayload 1 e m) s
    let s := { s with dove := { s.dove with arrived := 0, rootEpoch := nextEpoch e } }
    if bit m s.chain.addr && s.dove.pkgWait then hearBarrier 1 e m s else s
  else s

/-- An ARRIVE of member a reaches the root (R363). -/
def rootArrive (a epoch : Nat) (s : State) : State :=
  let s := if epoch = s.dove.rootEpoch then s else s.bump32 0x7101 8
  if bit s.pkgMask a then
    (if bit s.dove.arrived a then s.bump32 0x7001 0x0A
     else rootComplete { s with dove := { s.dove with arrived := putBit s.dove.arrived a true } })
  else
    let e := s.dove.rootEpoch
    let s := raiseFault 6 0x0701 1 0xFF 0xFFFF 0 (setDoveFlag 3 s)
    if a = s.chain.addr then hearBarrier 1 e (2 ^ a) s else sendTo 8 a true (barrierPayload 1 e (2 ^ a)) s

/-- A compute die with package scope arrives: it sends ARRIVE and waits (R361). -/
def arrive (s : State) : State :=
  let e := nextEpoch s.dove.epoch
  let s := { s with dove := { s.dove with pkgWait := true, pkgWaitAt := s.aon.clock, late := false } }
  if s.isRoot then rootArrive s.chain.addr e s else sendTo 8 1 true (barrierPayload 0 e 0) s

/-- The root cancels a package barrier (R365). -/
def cancelBarrier (s : State) : State :=
  let e := s.dove.rootEpoch
  let m := s.dove.arrived
  let lost := s.pn 0x7102 5
  let s := broadcast 8 true (barrierPayload 2 e m) s
  let keep := maskOf ((bitsOf 32 s.pkgMask).filter (fun k => !bit lost k))
  let s := ((s.put 0x7102 1 keep).put 0x7102 5 0)
  let s := { s with dove := { s.dove with arrived := 0, rootEpoch := nextEpoch e } }
  if bit m s.chain.addr && s.dove.pkgWait then hearBarrier 2 e m s else s

/-- Lost members of the package mask are recorded at the root (R365). -/
def noteLost (mask : Nat) (s : State) : State :=
  if s.isRoot then
    s.put 0x7102 5 (maskOf ((List.range 32).filter (fun k => bit (s.pn 0x7102 5) k || (bit mask k && bit s.pkgMask k))))
  else s

/-- A rising edge of BAR_IN (R41, R356, R361). -/
def barInRise (s : State) : State :=
  let s := { s with dove := { s.dove with barIn := true } }
  if s.dove.releasing then setBarEarly s
  else if !s.paced then { s with dove := { s.dove with bypassRise := true, e0 := s.clk.tileCycles } }
  else if s.pn 0x7100 8 = 1 then arrive s
  else startRelease s

/-- BAR_OUT rises two cycles after e0 (R41, R356), which signals the die binding (R451). -/
def barOutRise (s : State) : State :=
  if s.dove.releasing && s.dove.wave = 0 then
    let s := advanceTiles (s.dove.e0 + 2) s
    let m := waveMask s.dove.curStart s.dove.w 1
    bindingSignal 8 1 { s with dove := { s.dove with barOut := true, barWave := m, wave := 1 } }
  else if s.dove.bypassRise then
    let s := advanceTiles (s.dove.e0 + 2) s
    bindingSignal 8 1 { s with dove := { s.dove with barOut := true, barWave := 0xFFFF, bypassRise := false } }
  else s

/-- The next wave's lines rise (R356). -/
def nextWave (s : State) : State :=
  let s := advanceTiles (s.dove.e0 + 2 + s.dove.wave * s.dove.d) s
  let m := waveMask s.dove.curStart s.dove.w (s.dove.wave + 1)
  { s with dove := { s.dove with barWave := m, wave := s.dove.wave + 1 } }

/-- BAR_OUT falls four cycles after the last wave, and the next barrier's start line moves on (R355, R356). -/
def barOutFall (s : State) : State :=
  if s.dove.releasing then
    let s := advanceTiles (s.dove.e0 + 2 + (s.dove.w - 1) * s.dove.d + 4) s
    let n := if s.pn 0x7100 0x0A = 1 then (s.dove.start + 1) % 16 else 0
    { s with dove := { s.dove with barOut := false, barWave := 0xFFFF, releasing := false, start := n, barIn := false } }
  else { s with dove := { s.dove with barOut := false, barIn := false } }

/-! Registers and objects (R368, R371). -/

/-- DOVE_STAT. -/
def State.doveStat (s : State) : Nat :=
  b2n s.paced + 2 * b2n s.dove.releasing + 4 * b2n s.dove.armed + 8 * b2n s.dove.pkgWait + 16 * s.dove.start +
    2 ^ 8 * s.dove.flags + 2 ^ 16 * s.dove.w + 2 ^ 24 * s.dove.d + 2 ^ 48 * s.dove.epoch

/-- Values of Dovetail's objects that the unit holds. -/
def doveRead (i sub : Nat) (s : State) : Option Int :=
  if i = 0x7102 then
    (if sub = 2 then some s.dove.rootEpoch else if sub = 3 then some s.dove.arrived else none)
  else none

/-- One of 1, 2, 4, 8 and 16. -/
def powerTo16 (v : Int) : Bool := v = 1 || v = 2 || v = 4 || v = 8 || v = 16

/-- Writes of Dovetail's objects. -/
def doveWrite (i sub : Nat) (v : Int) (b : List Byte) (s : State) : Except Nat State :=
  let t := storeVal i sub v b s
  if i = 0x7100 && (sub = 4 || sub = 6) then needRange (powerTo16 v) (.ok t)
  else if i = 0x7100 && sub = 0x0A then
    .ok (if v = 0 then { t with dove := { t.dove with start := 0 } } else t)
  else if i = 0x7102 && sub = 1 then
    needRange ((bitsOf 32 v.toNat).all (fun k => decide (1 ≤ k) && decide (k ≤ 8) && bit s.chain.memberMask k))
      (.ok (rootComplete t))
  else if i = 0x7102 && sub = 4 then
    needRange (v = 1) (needState (s.dove.arrived != 0) (.ok (cancelBarrier s)))
  else .ok t

end Sys2Proof.Machine
end

