-- ==== Sys2Proof/Machine/LinkLib.lean ====
section
/-! DEFINITION. The chain's receive side and its links: retry on each hop, frame checks, routing, reassembly, lock and
link loss (R121, R125 to R129, R154). -/

namespace Sys2Proof.Machine

open Sys2Proof

/-! Counts of a link (R155). -/

/-- Count n of a link: 1 code errors, 2 CRC errors, 3 replays, 4 link downs. -/
def linkCount (l : Side) (n d : Nat) (s : State) : State := s.add32 0x2101 (linkBase l + n) d

/-- The state with one lane of one link changed. -/
def State.updLane (s : State) (l : Side) (prio : Bool) (f : Lane → Lane) : State := s.updLink l (fun k => k.updLane prio f)

/-- The chain port takes symbols of a link: the CTL island is released and the link counts as up. -/
def State.linkOn (s : State) (l : Side) : Bool := s.aon.ctlReleased && (s.link l).linkUp

/-! Frame types (R124, R125). -/

/-- Least and most payload symbols of a type, and its lane; none for a reserved type. -/
def frameForm (type : Nat) : Option (Nat × Nat × Bool) :=
  match type with
  | 1 => some (1, 49, false)
  | 2 => some (1, 49, false)
  | 3 => some (6, 6, false)
  | 4 => some (2, 2, true)
  | 5 => some (3, 3, false)
  | 8 => some (1, 2, true)
  | 9 => some (1, 15, false)
  | 10 => some (2, 16, true)
  | 11 => some (1, 1, true)
  | 12 => some (1, 1, true)
  | 13 => some (1, 1, true)
  | 16 => some (1, 64, false)
  | 17 => some (3, 64, false)
  | 18 => some (2, 64, false)
  | _ => none

/-- A BARRIER's OP fits its length: an ARRIVE has one symbol, a RELEASE or CANCEL two (R362). -/
def barrierFits (p : List Nat) : Bool :=
  let op := p.headD 0 / 65536 % 4
  if op = 0 then p.length = 1 else if op = 3 then false else p.length = 2

/-- The key of a partial message (R125). -/
def partialKey (f : Frame) : Nat := f.src * 32 + f.type

/-- A frame that R125 discards: a reserved type, the wrong lane or an illegal length. The least length holds for a
message's first frame. -/
def State.frameOk (s : State) (f : Frame) : Bool :=
  match frameForm f.type with
  | none => false
  | some (lo, hi, p) =>
    f.prio = p && decide (f.payload.length ≤ hi) &&
      (decide (lo ≤ f.payload.length) || (kvGet s.chain.partial_ (partialKey f)).isSome) &&
      (f.type != 8 || barrierFits f.payload)

/-! Routing (R126, R132, R133, R151). -/

/-- The instance consumes a unicast frame: its own address, an ENUM token, or an ENUM_CLOSE that gives it an address. -/
def State.consumes (s : State) (f : Frame) : Bool :=
  (f.dst = s.chain.addr && f.dst != 0) || f.type = 1 || (f.type = 3 && !(s.chain.role = 1 || s.chain.role = 2))

/-- The link on which a unicast frame travels on; an unknown destination lies away from where it came from. -/
def State.onward (s : State) (l : Side) (f : Frame) : Side := (s.sideTo f.dst).getD (otherSide l)

/-- A frame goes on: a broadcast or a unicast for another node. -/
def forward (l : Side) (f : Frame) (s : State) : State :=
  let g := { f with fwd := true }
  if f.dst = 0x1F then sendOn (otherSide l) g s
  else if s.consumes f then s
  else if s.onward l f = l then discardFrame s
  else sendOn (s.onward l f) g s

/-- A frame whose outgoing copy ends with POISON: nothing of it enters a replay buffer. -/
def forwardVoid (l : Side) (f : Frame) (s : State) : State :=
  let out := if f.dst = 0x1F then otherSide l else s.onward l f
  if (f.dst != 0x1F && s.consumes f) || out = l || !(s.link out).linkUp || (out = .up && s.isRoot) then s
  else s.updLane out f.prio (fun a => { a with voided := a.voided + 1 })

/-! Receiving. -/

/-- The parts of a message come together by source and type (R125): `k` takes the whole message. -/
def reassemble (f : Frame) (k : List Nat → State → State) (s : State) : State :=
  let key := partialKey f
  let p := (kvGet s.chain.partial_ key).getD [] ++ f.payload
  if f.more then { s with chain := { s.chain with partial_ := kvPut s.chain.partial_ key p } }
  else k p { s with chain := { s.chain with partial_ := kvDel s.chain.partial_ key } }

/-- A frame that passed its CRC: checked, routed, and delivered if it is the instance's (R125, R126). A root ignores
what it receives from upstream (R132). -/
def frameGood (l : Side) (f : Frame) (k : List Nat → State → State) (s : State) : State :=
  if l = .up && s.isRoot then s
  else if !s.frameOk f then linkCount l 1 1 s
  else
    let mine := f.dst = 0x1F || s.consumes f
    let s := forward l f s
    if mine then reassemble f k s else s

/-- A frame arrives intact on a link (R127, R128): while the replay of a bad frame is awaited, later frames of the lane
are discarded and their copies poisoned. -/
def frameIn (l : Side) (type : Nat) (f : Frame) (k : List Nat → State → State) (s : State) : State :=
  if !s.linkOn l || (f.type != type && (frameForm f.type).isSome) then s
  else
    match ((s.link l).lane f.prio).awaitSeq with
    | some q =>
      if f.seq = q then
        frameGood l f k (s.updLane l f.prio (fun a => { a with awaitSeq := none, answer := some (true, f.seq) }))
      else forwardVoid l f s
    | none => frameGood l f k (s.updLane l f.prio (fun a => { a with answer := some (true, f.seq) }))

/-- A frame arrives with a bad CRC (R127, R128). -/
def frameBad (l : Side) (f : Frame) (s : State) : State :=
  if !s.linkOn l then s
  else
    let s := linkCount l 2 1 s
    let s := if l = .up && s.isRoot then s else forwardVoid l f s
    let a := (s.link l).lane f.prio
    if a.awaitSeq.isSome && a.awaitSeq != some f.seq then s
    else s.updLane l f.prio (fun a => { a with awaitSeq := some f.seq, answer := some (false, f.seq) })

/-- A frame arrives that ends in POISON: it is void, and so is the copy that was going on. -/
def framePoison (l : Side) (f : Frame) (s : State) : State :=
  if !s.linkOn l || (l = .up && s.isRoot) then s else forwardVoid l f s

/-! Losing a member (R147 to R149). -/

/-- The members beyond the instance in the member order. -/
def State.beyond (s : State) : Nat :=
  match s.posOf s.chain.addr with
  | some i => maskOf ((s.chain.order.drop (i + 1)).filter (fun a => bit s.chain.memberMask a))
  | none => 0

/-- A link is down (R129): the replay buffers and the frames that wait are discarded. -/
def dropLink (l : Side) (s : State) : State :=
  let k := s.link l
  let n := k.prio.waiting.length + k.bulk.waiting.length
  let clear (a : Lane) : Lane := { a with waiting := [], replay := [], sentAts := [], naks := 0, awaitSeq := none, answer := none }
  let s := linkCount l 4 1 (s.updLink l (fun k =>
    { k with lock := false, linkUp := false, lockLostAt := none, bulk := clear k.bulk, prio := clear k.prio }))
  { s with chain := { s.chain with discarded := min 0xFFFF_FFFF (s.chain.discarded + n) } }

/-! Acknowledgement (R127). -/

/-- Position of a frame in a replay buffer. -/
def Lane.find (a : Lane) (seq : Nat) : Option Nat := a.replay.findIdx? (fun f => f.seq = seq)

/-- An ACK frees the frames up to the one acknowledged. -/
def ackIn (l : Side) (prio : Bool) (seq : Nat) (s : State) : State :=
  if !s.linkOn l then s else
    match ((s.link l).lane prio).find seq with
    | none => s
    | some i => pumpLink l (s.updLane l prio (fun a =>
        { a with replay := a.replay.drop (i + 1), sentAts := a.sentAts.drop (i + 1), naks := 0 }))

/-- A NAK counts against its frame; the frame and every later one are sent again. -/
def nakLane (now seq i : Nat) (a : Lane) : Lane :=
  { a with naks := (if a.nakSeq = seq then a.naks + 1 else 1), nakSeq := seq,
           sentAts := a.sentAts.take i ++ (a.sentAts.drop i).map (fun _ => now) }

/-! Lock (R121). -/

/-- The receiver loses lock. -/
def loseLock (l : Side) (s : State) : State := s.updLink l (fun k => { k with lock := false, lockLostAt := some s.aon.clock })

end Sys2Proof.Machine
end

