-- ==== Sys2Proof/Machine/FlashLib.lean ====
section
/-! DEFINITION. The flash port: the header log, failed operations and the copies of a store (R496 to R503). -/

namespace Sys2Proof.Machine

open Sys2Proof

/-- The header entry in use; without a valid one, ACTIVE 1, BOOT 0, ENTRY 0, and FIXED 1 if the fixed area holds a
record (R498). -/
def State.hdrUse (s : State) : HdrEntry :=
  match s.flashRead.hdr with
  | e :: _ => e
  | [] => { fixed := b2n (s.flash.fixed_.any (·.held.isSome)) }

/-- A new entry follows the one in use; when both sectors are full the older is erased (R498). -/
def hdrAppend (f : HdrEntry → HdrEntry) (s : State) : State :=
  let e := f { s.hdrUse with entry := (s.hdrUse.entry + 1) % 2 ^ 32 }
  let l := if s.flash.hdr.length < 256 then s.flash.hdr else s.flash.hdr.take 128
  { s with flash := { s.flash with hdr := e :: l } }

/-- The bytes of a header entry up to its CRC (R498). -/
def HdrEntry.body (e : HdrEntry) : List Byte :=
  leBytes 4 0x4E564802 ++ leBytes 2 0x0200 ++ leBytes 1 e.active ++ leBytes 1 e.fixed ++ leBytes 4 e.entry ++
  leBytes 4 e.boot ++ leBytes 8 e.commissioned

/-- The 32 bytes of a header entry (R498). -/
def HdrEntry.bytes (e : HdrEntry) : List Byte := e.body ++ leBytes 4 (crc32 e.body) ++ leBytes 4 0x4E564D4B

/-- An operation of the flash succeeds. -/
def flashOk (s : State) : State := { s with flash := { s.flash with failRun := 0 } }

/-- An operation fails; after 8 in succession FLASH loses readiness (R503). -/
def flashRun (s : State) : State :=
  let n := s.flash.failRun + 1
  let s := { s with flash := { s.flash with failRun := min 8 n } }
  if 8 ≤ n then clearReady 3 s else s

/-- FLASH_FAIL with its address and what failed: 1 program, 2 erase, 3 read-back, 4 timeout (R482, R493, R503). -/
def flashFailed (addr why : Nat) (s : State) : State :=
  flashRun (raise 0x0904 2 addr why ((setRecFlag 2 s).bump32 0x9002 7))

/-- A write of several operations ends: its success or failure counts as one operation's. -/
def flashDone (ok : Bool) (s : State) : State :=
  let s := { s with flash := { s.flash with slowTries := 0 } }
  if ok then flashOk s else flashRun s

/-- A program or erase is in progress (R505). -/
def State.flashBusy (s : State) : Bool :=
  s.flash.busy.isSome || s.flash.bootWrite = 1 || s.cl.storeState = 1 || s.therm.calStore = 1 || s.flash.imgCopy = 1

end Sys2Proof.Machine
end

