-- ==== Sys2Proof/Machine/ThermLib.lean ====
section
/-! DEFINITION. The thermal unit: gauges and their cross-check, groups, the thermal model, hard trips, relays, the
last-fault area and the re-arm procedure, and their objects and registers (R372 to R405, R229). -/

namespace Sys2Proof.Machine

open Sys2Proof

/-! Gauges (R372 to R374, R381). -/

/-- Kind of gauge n of a compute die by its number (R372). -/
def gaugeKind (n : Nat) : Nat :=
  if n < 1024 then 0 else if n < 1120 then 1 else if n < 1184 then 2 else if n < 1248 then 3 else 4

/-- The gauge calibration in use: the valid copy with the higher STORE, as (gauge, gain, offset) (R500). -/
def State.gaugeCal (s : State) : List (Nat × Nat × Int) :=
  if s.flashRead.calAStore = 0 && s.flashRead.calBStore = 0 then []
  else if s.flashRead.calBStore < s.flashRead.calAStore then s.flashRead.calA else s.flashRead.calB

/-- Gauge n as the unit builds it from the placement table and the calibration, or without them (R374, R381). -/
def State.buildGauge (s : State) (n : Nat) : Gauge :=
  let g : Gauge := match s.flashRead.placement.find? (fun x => x.1 = n) with
    | some (_, x, y, k, gr, absent) =>
      { n := n, x := x, y := y, kind := k, group := gr, placed := true, state := if absent then 5 else 0 }
    | none =>
      if s.flashRead.placement.isEmpty then
        let k := if s.inst.sat then 6 else gaugeKind n
        { n := n, kind := k, group := k }
      else { n := n, state := 5 }
  match s.gaugeCal.find? (fun x => x.1 = n) with
  | some (_, gain, ofs) => { g with gain := gain, offset := ofs }
  | none => g

/-- The gauges of the instance, built when GAUGES first becomes ready. -/
def buildGauges (s : State) : State :=
  if s.therm.gauges.isEmpty then
    let l := (List.range s.inst.gauges).map s.buildGauge
    { s with therm := { s.therm with gauges := l } }
  else s

/-- The gauge has checked results: normal or unchecked (R377). -/
def Gauge.checked (g : Gauge) : Bool := g.state = 0 || g.state = 1

/-- Square of the distance of two gauges in units of 10 um. -/
def dist2 (g h : Gauge) : Nat :=
  ((((g.x : Int) - h.x) * ((g.x : Int) - h.x) + ((g.y : Int) - h.y) * ((g.y : Int) - h.y))).toNat

/-- Insert a neighbour by distance, ties to the lower number. -/
def insertNear (d : Nat) (h : Gauge) : List (Nat × Gauge) → List (Nat × Gauge)
  | [] => [(d, h)]
  | (e, k) :: l => if d < e then (d, h) :: (e, k) :: l else (e, k) :: insertNear d h l

/-- The neighbours of a gauge: up to the 8 nearest within 1.5 mm, not absent and not off (R377). -/
def nbrs (l : List Gauge) (g : Gauge) : List (Nat × Gauge) :=
  if !g.placed then [] else
    ((l.filter (fun h => h.n != g.n && h.placed && h.state != 4 && h.state != 5 && decide (dist2 g h ≤ 22500))).foldl
      (fun a h => insertNear (dist2 g h) h a) []).take 8

/-- Insert a number in rising order. -/
def insertInt (x : Int) : List Int → List Int
  | [] => [x]
  | y :: l => if x ≤ y then x :: y :: l else y :: insertInt x l

/-- The median; with an even count the mean of the middle two, floored (R378). -/
def median (l : List Int) : Int :=
  let a := l.foldl (fun acc x => insertInt x acc) []
  let n := a.length
  if n % 2 = 1 then a.getD (n / 2) 0 else (a.getD (n / 2 - 1) 0 + a.getD (n / 2) 0) / 2

/-- The hottest of a list of (gauge, value): the highest value, ties to the lower gauge. -/
def hottestOf : List (Nat × Int) → Option (Nat × Int)
  | [] => none
  | (n, v) :: l => match hottestOf l with
    | none => some (n, v)
    | some (m, w) => if v < w then some (m, w) else some (n, v)

/-- A gauge's own result of the instant: T = gain x raw + offset, clamped to -40 to 150 degrees (R373). While command 1
converts the references the cell has no new result. -/
def Gauge.takeOwn (raw : Int) (g : Gauge) : Gauge :=
  if g.state = 5 || ((g.cmd = 1 || g.cmd = 5) && decide (16 < g.cmdLeft)) then g
  else { g with own := clampI (-640) 2400 (divHalfUp ((g.gain : Int) * raw) 32768 + g.offset) }

/-- The result lies outside the span (R373). -/
def Gauge.outOfSpan (raw : Int) (g : Gauge) : Bool :=
  g.state != 5 && !((g.cmd = 1 || g.cmd = 5) && decide (16 < g.cmdLeft)) &&
    (let t := divHalfUp ((g.gain : Int) * raw) 32768 + g.offset
     decide (t < -640) || decide (2400 < t))

/-- A gauge takes a state; its rate window starts afresh (R387). -/
def Gauge.enter (st : Nat) (g : Gauge) : Gauge :=
  if g.state = st then g else { g with state := st, hist := [], rateRun := 0, rate2Run := 0, rate := 0 }

/-- The learned offset follows the deviation d, both in 1/16,384 degrees, within 8 degrees (R378). -/
def learnStep (L d : Int) : Int := clampI (-131072) 131072 (L + (1024 * d - L) / 1024)

/-- The deviation is suspicious: beyond 8 degrees and beyond the gradient limit times the distance to the nearest checked
neighbour (R379). -/
def deviates (grad : Nat) (d2 : Nat) (d : Int) : Bool :=
  decide (128 < d.natAbs) && decide ((16 * grad) * (16 * grad) * d2 < (100 * d.natAbs) * (100 * d.natAbs))

/-- The progress of a command at an instant, with the median (or the estimate) m, and free values for what a reference
cycle restores (R382). -/
def Gauge.progress (m est : Int) (fr : Nat) (g : Gauge) : Gauge :=
  if g.cmdLeft = 0 then g
  else if g.cmd = 2 then
    { g with cmdLeft := g.cmdLeft - 1, cmdAcc := g.cmdAcc + (1024 * m + g.learned - 1024 * g.own) }
  else if 17 < g.cmdLeft then { g with cmdLeft := g.cmdLeft - 1 }
  else if g.cmdLeft = 17 then
    { g with cmdLeft := 16, gain := (Config.refCycleGain (fr + g.n)).toNat % 65536,
             offset := sx 16 (Config.refCycleOffset (fr + g.n)).toNat }
  else { g with cmdLeft := g.cmdLeft - 1, cmdBad := g.cmdBad || decide (32 < (g.own - est).natAbs) }

/-- The cross-check of one gauge at an instant, against all gauges' own results; `hot` is the hottest checked result of
its group (R375 to R379). -/
def Gauge.cross (l : List Gauge) (grad : Nat) (hot : Nat → Int) (fr : Nat) (g : Gauge) : Gauge :=
  if g.state = 5 then g else
    let c := (nbrs l g).filter (fun x => x.2.checked)
    let g := if g.state = 2 && g.clearing then { g.enter 0 with clearing := false, devRun := 0 } else g
    if c.length < 3 then
      let g := if g.checked then { g.enter 1 with devRun := 0 } else g
      let est := hot g.group
      let g := g.progress est est fr
      { g with est := est, used := if g.checked then g.own else est }
    else
      let g := if g.state = 1 then g.enter 0 else g
      let m := median (c.map (fun x => x.2.own))
      let d := g.own - m
      let run := if g.state != 0 then g.devRun else if g.devRun = 16 then 16
        else if deviates grad (match c with
          | x :: _ => x.1
          | [] => 0) d then g.devRun + 1 else 0
      let L := if g.state = 0 && run != 16 then learnStep g.learned d else g.learned
      let est := m + divHalfUp L 1024
      let g := g.progress m est fr
      { g with devRun := run, learned := L, est := est, used := if g.state = 0 && run != 16 then g.own else est }

/-- What follows from the used result: HIGHEST, the rate window and the rates (R387). `k` is the group's window, `lim` its
limit in 0.5 degrees/ms. -/
def Gauge.rates (k lim : Nat) (g : Gauge) : Gauge :=
  if g.state = 5 then g else
    let h := (g.used :: g.hist).take 257
    let g := { g with hist := h, highest := max g.highest g.used }
    if h.length ≤ k || k = 0 then { g with rateRun := 0, rate2Run := 0, rate := 0 }
    else
      let d := (g.used - h.getD k 0) * 1000
      { g with rate := clampI (-32768) 32767 (divHalfUp d (2 * k)),
               rateRun := if (lim * 64 * k : Nat) < d then min 2 (g.rateRun + 1) else 0,
               rate2Run := if (lim * 128 * k : Nat) < d then min 2 (g.rate2Run + 1) else 0 }

/-- A suspect gauge's own result against its group's critical level (R380). -/
def Gauge.ownCrit (crit : Int) (g : Gauge) : Gauge :=
  if g.state = 2 then { g with critRun := if 16 * crit ≤ g.own then min 3 (g.critRun + 1) else 0 }
  else { g with critRun := 0 }

/-! Groups (R385 to R387, R389). -/

/-- The levels and settings of a group as an instant uses them. -/
def State.lvl (s : State) (g sub : Nat) : Int := s.num (0x5200 + g) sub

/-- A group takes its hottest used result. -/
def Group.takeHot (h : Option (Nat × Int)) (g : Group) : Group :=
  match h with
  | some (n, v) => { g with hot := v, hotGauge := n }
  | none => { g with hot := -32768, hotGauge := 0 }

/-- The warning and the critical level (R385, R389). -/
def Group.levels (warn crit hyst : Int) (g : Group) : Group :=
  { g with warn := decide (16 * warn ≤ g.hot),
           warned := if 16 * warn ≤ g.hot then true else if g.hot < 16 * (warn - hyst) then false else g.warned,
           critRun := if 16 * crit ≤ g.hot then min 3 (g.critRun + 1) else 0 }

/-- The reason-3 request: engagement, urgent divide, the raise hold and the step time (R386). `old` is the previous hottest
result, `point` the point in force; a stop takes no new ceiling step (R401). -/
def Group.throttle (now point : Nat) (thr hyst urgent old : Int) (standing : Bool) (g : Group) : Group :=
  let hi := decide (16 * thr ≤ g.hot)
  if !g.engaged then
    if hi && !standing then
      { g with engaged := true, ceil := point - 1, ePoint := point, div := decide (16 * (thr + urgent) ≤ g.hot),
               stepFrom := now, raiseFrom := none, thrItem := g.hotGauge }
    else g
  else
    { g with div := if 16 * (thr + urgent) ≤ g.hot then true else if hi then g.div else false,
             stepFrom := if hi && decide (old < 16 * thr) then now else g.stepFrom,
             raiseFrom := if g.hot < 16 * (thr - hyst) then some (g.raiseFrom.getD now) else none }

/-- The reason-4 request from the gauges of the group (R387). -/
def Group.rateCheck (now : Nat) (l : List Gauge) (exc : Bool) (g : Group) : Group :=
  let det := l.find? (fun x => x.rateRun = 2)
  let g := { g with rateMax := (l.map (·.rate)).max?.getD 0, rateAt := if exc then now else g.rateAt }
  let g := match det with
    | some x => if g.rateOn then g else { g with rateOn := true, rateDiv := false, rateItem := x.n }
    | none => g
  if g.rateOn && l.any (fun x => x.rate2Run = 2) then { g with rateDiv := true } else g

/-! A result instant (R373 to R391). -/

/-- The used result of each group's hottest checked gauge, or 150 degrees (R379). -/
def groupEst (l : List Gauge) (grp : Nat) : Int :=
  match hottestOf ((l.filter (fun g => g.group = grp && g.checked)).map (fun g => (g.n, g.own))) with
  | some (_, v) => v
  | none => 2400

/-- The gauges after an instant. -/
def State.gaugesAfter (s : State) (raw : List Int) : List Gauge :=
  let l := s.therm.gauges.mapIdx (fun i g => g.takeOwn (raw.getD i 0))
  let hot := (List.range 16).map (groupEst l)
  let grad := s.pn 0x5000 1
  l.map (fun g => ((g.cross l grad (fun k => hot.getD k 2400) s.free).rates (s.lvl g.group 7).toNat (s.lvl g.group 6).toNat).ownCrit
    (s.lvl g.group 3))

/-- A group after an instant, given the gauges after it. -/
def State.groupAfter (s : State) (l : List Gauge) (k : Nat) (g : Group) : Group :=
  let mine := l.filter (fun x => x.group = k && x.state != 5)
  let lim := (s.lvl k 6).toNat
  let kw := (s.lvl k 7).toNat
  let exc := mine.any (fun x => x.rateRun != 0 && decide (kw < x.hist.length) && lim != 0)
  (((g.takeHot (hottestOf (mine.map (fun x => (x.n, x.used))))).levels (s.lvl k 1) (s.lvl k 3) (s.lvl k 4)).throttle s.aon.clock
    s.clk.point (s.lvl k 2) (s.lvl k 4) (s.lvl k 5) g.hot s.obs.standing).rateCheck s.aon.clock mine exc

/-- A temperature in whole degrees as an event's ARG1 (R480). -/
def tempArg (v : Int) : Nat := ux 32 (divHalfUp v 16)

/-- A thermal fault of the instance that names a gauge (R385). -/
def thermFault (code sev gauge : Nat) (v : Int) (s : State) : State := raiseFault 6 code sev 0xFF gauge (tempArg v) s

/-- Raise a fault for each group at which `c` holds between its states before and after. -/
def forGroups (old : List Group) (c : Group → Group → Bool) (f : Nat → Group → State → State) (s : State) : State :=
  (old.zip s.therm.groups).zipIdx.foldl (fun s x => if c x.1.1 x.1.2 then f x.2 x.1.2 s else s) s

/-- THERM_CRIT: S4 in every recovery context (R389, R222). -/
def thermCrit (gauge : Nat) (v : Int) (s : State) : State := enterAll 0x0504 (thermFault 0x0504 4 gauge v s)

/-- With GAUGES lost, no request of a group stands (R376). -/
def settleGauges (s : State) : State := if s.isReady 7 then s else gaugesLost s

/-- The faults of an instant, in order of severity and then of code (R226, R401). -/
def instantFaults (raw : List Int) (oldG : List Gauge) (old : List Group) (s : State) : State :=
  let gs := s.therm.groups
  let ls := s.therm.gauges
  let s := match (old.zip gs).find? (fun x => x.1.critRun = 1 && x.2.critRun = 2) with
    | some (_, g) => thermCrit g.hotGauge g.hot s
    | none => s
  let s := (old.zip gs).zipIdx.foldl (fun s x =>
    if !x.1.1.engaged && x.1.2.engaged then
      (setThermFlag 1 (thermFault 0x0502 2 x.1.2.thrItem x.1.2.hot s)).bump32 (0x5200 + x.2) 0x0B else s) s
  let s := (old.zip gs).zipIdx.foldl (fun s x =>
    if !x.1.1.rateOn && x.1.2.rateOn then
      (setThermFlag 2 (thermFault 0x0503 2 x.1.2.rateItem (match ls.find? (fun g => g.n = x.1.2.rateItem) with
        | some g => g.used
        | none => 0) s)).bump32 (0x5200 + x.2) 0x0C else s) s
  let s := (old.zip gs).foldl (fun s x =>
    if !x.1.warned && x.2.warned then setThermFlag 0 (thermFault 0x0501 1 x.2.hotGauge x.2.hot s) else s) s
  let s := (oldG.zip ls).foldl (fun s x =>
    if x.1.critRun = 1 && x.2.critRun = 2 then thermFault 0x050A 1 x.2.n x.2.own s else s) s
  let s := (oldG.zip raw).foldl (fun s x =>
    if x.1.outOfSpan x.2 then setThermFlag 4 (thermFault 0x0507 0 x.1.n (clampI (-640) 2400
      (divHalfUp ((x.1.gain : Int) * x.2) 32768 + x.1.offset)) s) else s) s
  let s := (oldG.zip ls).foldl (fun s x =>
    if x.1.state != 1 && x.2.state = 1 then thermFault 0x050B 0 x.2.n x.2.used s else s) s
  settleGauges s

/-- The SRAM rail regulates or moves (R376). -/
def State.sramOk (s : State) : Bool :=
  match s.ctrlOf 1 with
  | some k => (s.rail k).state = 2 || (s.rail k).state = 3
  | none => false

/-- The moment of the next result instant: every 8 us on the sample boundaries; the first is the first full result after
the SRAM rail's power-good (R373, R376). -/
def State.nextResult (s : State) : Nat :=
  let t := s.nextBound 3200 s.therm.instAt
  if s.isReady 7 then t else max t ((s.therm.fullFrom + 3200 + 3199) / 3200 * 3200)

/-- A result instant with the cells' averaged raw results. -/
def gaugeInstant (raw : List Int) (s : State) : State :=
  let s := buildGauges (advanceTo s.nextResult s)
  let s := setReady 7 s
  let oldG := s.therm.gauges
  let old := s.therm.groups
  let l := s.gaugesAfter raw
  let gs := old.mapIdx (s.groupAfter l)
  let now := s.aon.clock
  let sq := s.therm.mapSeq.map (fun x => (x + 1) % 2 ^ 32)
  let s := { s with free := s.free + 1280,
                    therm := { s.therm with gauges := l, groups := gs, instAt := some now, mapSeq := sq } }
  updAccr (instantFaults raw oldG old s)

/-- GAUGE_SUSPECT: a normal gauge with 16 deviating instants (R379). -/
def gaugeSuspect (n : Nat) (s : State) : State :=
  match s.therm.gauges.find? (fun g => g.n = n) with
  | some g =>
    if g.state = 0 && g.devRun = 16 then
      let l := s.therm.gauges.map (fun g =>
        if g.n = n then { g.enter 2 with devRun := 0, critRun := 0, clearing := false, suspects := min 65535 (g.suspects + 1) } else g)
      setThermFlag 3 (thermFault 0x0506 1 n g.used { s with therm := { s.therm with gauges := l } })
    else s
  | none => s

/-- The state with group g changed. -/
def updGroup (g : Nat) (f : Group → Group) (s : State) : State :=
  { s with therm := { s.therm with groups := s.therm.groups.modify g f } }

/-- Group g. -/
def State.group (s : State) (g : Nat) : Group := s.therm.groups.getD g {}

/-- One thermal step time after the last (R386). -/
def thermalStep (g : Nat) (s : State) : State :=
  let s := advanceTo ((s.group g).stepFrom + us (s.pn 0x5000 2)) s
  let now := s.aon.clock
  let hi := decide (16 * s.lvl g 2 ≤ (s.group g).hot)
  updAccr (updGroup g (fun x => { x with stepFrom := now, ceil := if hi then x.ceil - 1 else x.ceil }) s)

/-- The request of group g is withdrawn and the group disengages (R386). -/
def disengage (g : Nat) (s : State) : State :=
  let it := (s.group g).thrItem
  clearFault 6 0x0502 it (updGroup g (fun x => { x with engaged := false, ceil := 31, div := false, raiseFrom := none }) s)

/-- The raise hold has passed since `t` (R386). -/
def thermalRaise (g t : Nat) (s : State) : State :=
  let s := advanceTo (t + us (s.pn 0x5000 3)) s
  let now := s.aon.clock
  let x := s.group g
  if x.ePoint ≤ x.ceil + 1 then disengage g s
  else updAccr (updGroup g (fun x => { x with ceil := x.ceil + 1, raiseFrom := some now }) s)

/-- The rate hold has passed (R387). -/
def rateHoldEnd (g : Nat) (s : State) : State :=
  let s := advanceTo ((s.group g).rateAt + us (s.pn 0x5000 4)) s
  let it := (s.group g).rateItem
  clearFault 6 0x0503 it (updGroup g (fun x => { x with rateOn := false, rateDiv := false }) s)

/-! Gauge commands (R382, R383). -/

/-- The gauges covered now. -/
def State.covered (s : State) : Nat := (s.therm.gauges.filter (fun g => g.state = 3)).length

/-- A gauge becomes covered for a command of so many instants. -/
def Gauge.cover (c left : Nat) (g : Gauge) : Gauge :=
  { g.enter 3 with cmd := c, cmdLeft := left, cmdAcc := 0, cmdBad := false, clearing := false, devRun := 0 }

/-- The gauge's change of state by command c (R382). -/
def Gauge.start (c : Nat) (g : Gauge) : Gauge :=
  let g := { g with commands := min 65535 (g.commands + 1) }
  if c = 1 || c = 5 then g.cover c 80
  else if c = 2 then g.cover 2 1024
  else if c = 3 then { g with clearing := true }
  else { g.enter 4 with clearing := false, devRun := 0 }

/-- A write of command c to 0x5010.03 (R383). -/
def gaugeCommand (c : Nat) (s : State) : Except Nat State :=
  let n := s.pn 0x5010 1
  match s.therm.gauges.find? (fun g => g.n = n) with
  | none => .error abState
  | some g =>
    let nb := nbrs s.therm.gauges g
    let ok := g.cmd = 0 && g.state != 5 && (c != 3 || g.state = 2) && (c != 5 || g.state = 4) &&
      ((c = 3 || c = 4) || (decide (3 ≤ (nb.filter (fun x => x.2.checked)).length) && !nb.any (fun x => x.2.state = 3) &&
        decide (s.covered < 16)))
    needState ok
      (let l := s.therm.gauges.map (fun g => if g.n = n then g.start c else g)
       .ok (({ s with therm := { s.therm with gauges := l } } : State).put 0x5010 4 (if c = 3 || c = 4 then 2 else 1)))

/-- A reference or align command that has run its instants ends (R382). -/
def gaugeDone (n : Nat) (s : State) : State :=
  match s.therm.gauges.find? (fun g => g.n = n) with
  | some g =>
    if g.cmd != 0 && g.cmdLeft = 0 then
      let bad := g.cmd != 2 && g.cmdBad
      let ofs := if g.cmd = 2 then clampI (-32768) 32767 (g.offset + divHalfUp g.cmdAcc 1048576) else g.offset
      let l := s.therm.gauges.map (fun g => if g.n = n then
        { g.enter (if bad then 2 else 0) with cmd := 0, offset := ofs, devRun := 0, critRun := 0,
                                              suspects := if bad then min 65535 (g.suspects + 1) else g.suspects } else g)
      let s := ({ s with therm := { s.therm with gauges := l } } : State).put 0x5010 4 (if bad then 3 else 2)
      if bad then setThermFlag 3 (thermFault 0x0506 1 n g.used s) else s
    else s
  | none => s

/-- No flash for writes: absent, not ready, or STRAP_BOOT 0b10 (R32, R384). -/
def State.noFlash (s : State) : Bool := !s.flash.present || s.aon.strapBoot = 2 || !s.isReady 3

/-- A write of the store key to 0x5000.09 (R384). -/
def gaugeCalStore (s : State) : Except Nat State :=
  if s.noFlash then .error 0x060E
  else
    let l := s.therm.gauges.map (fun g => (g.n, g.gain, g.offset))
    .ok { s with therm := { s.therm with calStore := 1, calSnap := l } }

/-- The store ends: the copy not in use holds the snapshot, or lies erased after a failure (R384, R500). -/
def gaugeCalStored (ok : Bool) (s : State) : State :=
  if s.therm.calStore != 1 then s else
    let a := s.flash.calAStore
    let b := s.flash.calBStore
    let s := flashDone ok s
    let n := if ok then max a b + 1 else 0
    let l := if ok then s.therm.calSnap else []
    let s := if a ≤ b && !(a = 0 && b = 0) then { s with flash := { s.flash with calA := l, calAStore := n } }
      else if a = 0 && b = 0 then { s with flash := { s.flash with calA := l, calAStore := n } }
      else { s with flash := { s.flash with calB := l, calBStore := n } }
    { s with therm := { s.therm with calStore := if ok then 2 else 3, calSnap := [] } }

/-! Relays (R392). -/

/-- A TELEM's throttle word from a partner satellite: ceiling, skip and divide as a word, and the reasons mask. -/
def relayTake (sat word reasons : Nat) (s : State) : State :=
  if !s.inst.sat && bit (s.pn 0x5002 1) sat then
    let r : Relay := { sat := sat, ceil := bits word 4 0, skip := bits word 9 5, div := bit word 10,
                       r3 := bit reasons 2, r4 := bit reasons 3, since := s.aon.clock }
    updAccr { s with therm := { s.therm with relays := s.therm.relays.filter (fun x => x.sat != sat) ++ [r] } }
  else s

/-- RELAY_LOST for a relayed word whose TELEM fails to arrive or whose satellite is lost; the word stays in force. -/
def relayLost (sat : Nat) (s : State) : State :=
  if s.therm.relays.any (fun r => r.sat = sat && !r.lost) then
    let l := s.therm.relays.map (fun r => if r.sat = sat then { r with lost := true } else r)
    setThermFlag 6 (raiseFault 6 0x0509 1 0xFF 0xFFFF 0 { s with therm := { s.therm with relays := l } })
  else s

/-- The relayed words of the named satellites end. -/
def relayClear (mask : Nat) (s : State) : State :=
  updAccr { s with therm := { s.therm with relays := s.therm.relays.filter (fun r => !bit mask r.sat) } }

/-- The relayed word of 0x5002.03. -/
def State.relayedWord (s : State) : Nat := combWords (s.therm.relays.map (fun r => packWord r.ceil r.skip r.div))

/-! The thermal model (R393, R394). -/

/-- R_TH and TAU of a region: the stored parameters or the built-in ones. -/
def State.regionPar (s : State) (n : Nat) : Nat × Nat :=
  match s.dom 0x5001 3 with
  | some b => (leAt b (4 * n) 2, leAt b (4 * n + 2) 2)
  | none => (0x1800, 500)

/-- The regions adjacent to region n, at most four (the implementation's placement). -/
def adjacent (n : Nat) : List Nat :=
  ((List.range 256).filter (fun m => m != n && (Config.regionAdjacent n).getLsbD m)).take 4

/-- The mean used result of a region's tile gauges, 1/4,096 degrees; none with no gauge present. -/
def State.regionMean (s : State) (n : Nat) : Option Int :=
  let l := ((s.therm.gauges.drop (4 * n)).take 4).filter (fun g => g.state != 5)
  if l.isEmpty then none else some ((l.map (fun g => 256 * g.used)).foldl (· + ·) 0 / l.length)

/-- One region's step of the law without the observer: x + (x_inf - x) x 10 / tau, in 1/4,096 degrees; `p` is the energy
of 100 us in pJ. -/
def State.lawStep (s : State) (p : Nat) (x : List Int) (n : Nat) : Int :=
  let (rth, tau) := s.regionPar n
  let v := x.getD n 0
  let c := ((adjacent n).map (fun m => x.getD m 0 - v)).foldl (· + ·) 0
  let inf := 256 * s.num 0x5001 4 + ((rth * p * 16 / 100000000 : Nat) : Int) + s.num 0x5001 9 * c / 65536
  v + (inf - v) * 10 / tau

/-- An update of every region in turn with the observer step (R393). -/
def State.modelStep (s : State) (x : List Int) : List Int :=
  (List.range 256).foldl (fun x n =>
    let v := s.lawStep (s.cap.regionEn.getD n 0) x n
    let v := match s.regionMean n with
      | some g => v + s.num 0x5001 2 * (g - v) / 65536
      | none => v
    x.set n v) x

/-- The energy scaled by the predicted CORE current of the moment t over the present estimate (R394). -/
def State.scaledEn (s : State) (t e : Nat) : Nat :=
  match s.ctrlOf 0 with
  | some k => match s.predAt k t with
    | some i => if 0 < s.cap.iEst.getD 0 0 then e * i * 1000 / (s.cap.iEst.getD 0 0).toNat else e
    | none => e
  | none => e

/-- The prediction: the law without the observer over so many steps. -/
def State.predictSteps (s : State) : Nat → Nat → List Int → List Int
  | 0, _, x => x
  | n + 1, t, x =>
    s.predictSteps n (t + 40000)
      ((List.range 256).foldl (fun x r => x.set r (s.lawStep (s.scaledEn (t + 40000) (s.cap.regionEn.getD r 0)) x r)) x)

/-- The predicted maximum of a group over the regions that hold one of its tile gauges, 1/16 degrees (R394). -/
def State.groupPred (s : State) (x : List Int) (g : Nat) : Int :=
  ((x.zipIdx.filter (fun y => ((s.therm.gauges.drop (4 * y.2)).take 4).any (fun a => a.state != 5 && a.group = g))).map
    (fun y => clampI (-640) 2400 (y.1 / 256))).max?.getD (-32768)

/-- A group takes its prediction: an episode begins at the throttle level (R394). -/
def Group.takePred (now point : Nat) (thr hyst v : Int) (g : Group) : Group :=
  let hi := v != -32768 && decide (16 * thr ≤ v)
  let low := v = -32768 || decide (v < 16 * (thr - hyst))
  { g with pred := v, predict := g.predict || hi, predCeil := if hi && !g.predict then point - 1 else g.predCeil,
           predLowFrom := if low then some (g.predLowFrom.getD now) else none }

/-- The prediction is off: no predicted value, no episode, no contribution. -/
def Group.noPred (g : Group) : Group := { g with pred := -32768, predict := false, predCeil := 31, predLowFrom := none }

/-- The hottest region of a prediction: (region, 1/16 degrees). -/
def hotRegion (x : List Int) : Nat × Int :=
  match hottestOf (x.zipIdx.map (fun y => (y.2, clampI (-640) 2400 (y.1 / 256)))) with
  | some r => r
  | none => (0, -32768)

/-- PREDICT for each group whose episode begins (R394). -/
def raisePredict (old : List Group) (s : State) : State :=
  (old.zip s.therm.groups).foldl (fun s x =>
    if !x.1.predict && x.2.predict then
      (setThermFlag 5 (thermFault 0x0508 0 0xFFFF x.2.pred s)).bump32 0x5001 8 else s) s

/-- An update of the thermal model and the prediction that follows it. -/
def modelUpdate (s : State) : State :=
  let s := match s.therm.modelAt with
    | some t => advanceTo (t + 40000) s
    | none => s
  let now := s.aon.clock
  let x0 := if s.therm.model.isEmpty then List.replicate 256 (256 * s.num 0x5001 4) else s.therm.model
  let x := s.modelStep x0
  let r := ((List.range 256).map (fun n => match s.regionMean n with
    | some g => ((g - x.getD n 0).natAbs : Int)
    | none => 0)).foldl (· + ·) 0 / 256 / 256
  let hz := s.pn 0x5001 1 / 100
  let y := s.predictSteps hz now x
  let old := s.therm.groups
  let gs := old.mapIdx (fun k g =>
    if hz = 0 then g.noPred else g.takePred now s.clk.point (s.lvl k 2) (s.lvl k 4) (s.groupPred y k))
  let en := s.cap.regionEn.map (fun _ => 0)
  let h := hotRegion y
  let s := { s with therm := { s.therm with model := x, modelAt := some now, groups := gs },
                    cap := { s.cap with regionEn := en } }
  let s := ((s.put 0x5001 5 (if hz = 0 then -32768 else h.2)).put 0x5001 6 (if hz = 0 then 0 else h.1)).put 0x5001 7 (min 2400 r)
  updAccr (raisePredict old s)

/-- The prediction has stayed low for the raise hold since t: the episode ends (R394). -/
def predictEnd (g t : Nat) (s : State) : State :=
  let s := advanceTo (t + us (s.pn 0x5000 3)) s
  updAccr (updGroup g (fun x => { x with predict := false, predCeil := 31, predLowFrom := none }) s)

/-- THMODEL loses readiness: the firmware contribution is no request (R394). -/
def thmodelLost (s : State) : State :=
  let gs := s.therm.groups.map Group.noPred
  updAccr { s with therm := { s.therm with fw3 := 31, groups := gs, modelAt := none } }

/-! Hard trips (R395 to R398). -/

/-- Comparator c. -/
def State.trip (s : State) (c : Nat) : Trip := s.therm.trips.getD c {}

/-- The state with comparator c changed. -/
def updTrip (c : Nat) (f : Trip → Trip) (s : State) : State :=
  { s with therm := { s.therm with trips := s.therm.trips.modify c f } }

/-- A comparator qualifies between its rise and its qualification. -/
def Trip.qualifying (t : Trip) : Bool := t.out && (match t.qualAt with
  | some q => decide (q < t.riseAt + 400)
  | none => true)

/-- A thermal S4 of this sample boundary is in recovery: a trip that meets it compounds with it (R401). -/
def State.meetsCrit (s : State) : Bool :=
  match (s.ctx 6).cur with
  | some f => f.code = 0x0504 && decide (s.aon.clock < f.since + 50)
  | none => false

/-- Comparator c qualifies: THERMTRIP_N low, PH_EN low, TCLK_OUT held low, the tripped bit; then S4 (R395, R222). While a
hold stands the latch is already low and nothing further happens (R398). -/
def hardTrip (c : Nat) (s : State) : State :=
  let s := advanceTo ((s.trip c).riseAt + 400) s
  let now := s.aon.clock
  let s := (updTrip c (fun t => { t with tripped := true, qualAt := some now }) s).bump32 0x5300 6
  if !s.aon.thermtripN && !s.meetsCrit then s
  else
    let s := { s with aon := { s.aon with thermtripN := false }, prot := { s.prot with tripHold := true },
                      clk := { s.clk with tripHeld := true } }
    enterAll 0x0505 (raiseFault 6 0x0505 4 0xFF (c + 1) (s.pn 0x5300 1) s)

/-- Comparator c's sensor crosses its re-arm level (R399, R402). -/
def rearmCross (c : Nat) (above : Bool) (s : State) : State :=
  let s := updTrip c (fun t => { t with above := above }) s
  let now := s.aon.clock
  let f := if s.therm.trips.any (·.above) then none else some (s.therm.belowFrom.getD now)
  { s with therm := { s.therm with belowFrom := f } }

/-! The last-fault area (R228, R229). -/

/-- The record carries the hold flag and is no REARM record. -/
def LastFault.held (r : LastFault) : Bool := bit r.flags 3 && r.code != 0x0311 && !r.rearmed

/-- A REARM record written later than slot p names it. -/
def Flash.rearmedSlot (f : Flash) (p : Nat) : Bool :=
  (f.lfOrder.takeWhile (fun q => q != p)).any (fun q => match f.lastFault.getD q none with
    | some r => r.code = 0x0311 && r.prior = p
    | none => false)

/-- The slots that hold a record with the hold flag and no REARM. -/
def Flash.heldSlots (f : Flash) : List Nat :=
  (List.range 32).filter (fun p => (match f.lastFault.getD p none with
    | some r => r.held
    | none => false) && !f.rearmedSlot p)

/-- The slot that the next record takes: after the newest, skipping held ones (R229). -/
def Flash.lfNext (f : Flash) : Option Nat :=
  let n := f.lfOrder.headD 31
  ((List.range 32).map (fun i => (n + 1 + i) % 32)).find? (fun p => !f.heldSlots.contains p)

/-- Write a record into the last-fault area; none where every slot holds an unre-armed record. -/
def lfWrite (r : LastFault) (s : State) : Option State :=
  match s.flash.lfNext with
  | some p =>
    let l := s.flash.lastFault.set p (some r)
    let o := p :: s.flash.lfOrder.erase p
    let s := { s with flash := { s.flash with lastFault := l, lfOrder := o } }
    some (s.put 0x3330 1 ((s.num 0x3330 1 + 1) % 2 ^ 32))
  | none => none

/-- Write a list of records in turn. -/
def lfWriteAll : List LastFault → State → Option State
  | [], s => some s
  | r :: l, s => match lfWrite r s with
    | some t => lfWriteAll l t
    | none => none

/-- The held records still in retention. -/
def State.heldRet (s : State) : List LastFault := s.prot.retention.filter (·.held)

/-- The records with the hold flag that no REARM names, in flash and in retention. -/
def State.heldRecs (s : State) : List LastFault :=
  s.flashRead.heldSlots.filterMap (fun p => s.flashRead.lastFault.getD p none) ++ s.heldRet

/-- An S4 fault is in recovery in some context. -/
def State.s4Stands (s : State) : Bool := s.prot.ctxs.any (fun c => match c.cur with
  | some f => f.sev = 4
  | none => false)

/-! Re-arming (R399, R400). -/

/-- A code of a thermal shutdown (R398). -/
def thermCode (c : Nat) : Bool := c = 0x0504 || c = 0x0505

/-- The shutdown to re-arm is a thermal one. -/
def State.thermalHeld (s : State) : Bool :=
  s.heldRecs.any (fun r => thermCode r.code) || s.therm.trips.any (·.tripped) || (match (s.ctx 6).cur with
    | some f => thermCode f.code
    | none => false)

/-- The cooling conditions of a thermal shutdown (R399). -/
def State.cooled (s : State) : Bool :=
  (match s.therm.belowFrom with
    | some t => decide (t + ms (s.pn 0x5300 4) ≤ s.aon.clock) && !s.therm.trips.any (fun x => x.qualifying ||
        (match x.qualAt with
          | some q => decide (t ≤ q)
          | none => false))
    | none => false) &&
  !(s.isReady 7 && s.therm.gauges.any (fun g => g.state != 5 && decide (16 * s.num 0x5300 2 ≤ g.used)))

/-- A write of the re-arm key: its checks (R399). On acceptance the marks are written (R400). -/
def rearmWrite (s : State) : Except Nat State :=
  if s.heldRecs.isEmpty && !s.s4Stands then .error abState
  else if s.thermalHeld && !s.cooled then .error abState
  else if s.aon.strapBoot != 2 && s.noFlash then .error 0x060E
  else .ok { s with therm := { s.therm with rearming := true } }

/-- A REARM record with PRIOR (R400). -/
def State.rearmRec (s : State) (prior : Nat) : LastFault := s.lastRec 6 0x0311 0 0 0xFF prior 0

/-- The records of a re-arm: held records first leave retention for slots, then a REARM record names each held slot; under
STRAP_BOOT 0b10 everything stays in retention (R400). None where the area has no slot for them. -/
def rearmRecords (s : State) : Option State :=
  if s.aon.strapBoot = 2 then
    let n := s.heldRet.length
    let l := s.prot.retention.map (fun r => if r.held then { r with rearmed := true } else r)
    let s := { s with prot := { s.prot with retention := l } }
    some ((List.range n).foldl (fun s _ => retain (s.rearmRec 0xFFFF) s) s)
  else
    match lfWriteAll s.heldRet s with
    | some s =>
      let l := s.prot.retention.filter (fun r => !r.held)
      let s := { s with prot := { s.prot with retention := l } }
      lfWriteAll (s.flash.heldSlots.map s.rearmRec) s
    | none => none

/-- A context without its S4 faults. -/
def Ctx.dropS4 (now : Nat) (c : Ctx) : Ctx :=
  let c := { c with latched := c.latched.filter (fun f => f.sev != 4), loose := c.loose.filter (fun f => f.sev != 4) }
  match c.cur with
  | some f => if f.sev = 4 then ({ c with cur := none } : Ctx).serve now else c
  | none => c

/-- The sequencer is to run step 2 afresh (R400). -/
def restartStep2 (s : State) : State :=
  { s with aon := { s.aon with step2At := none, curGroup := 0, groupDelayAt := none, groupRampAt := none } }

/-- What follows once every mark is confirmed (R400). -/
def rearmed (s : State) : State :=
  let s := { s with aon := { s.aon with thermtripN := true }, prot := { s.prot with tripHold := false },
                    clk := { s.clk with tripHeld := false },
                    therm := { s.therm with rearming := false, trips := s.therm.trips.map (fun t => { t with tripped := false }) } }
  let s := forEach ((List.range 6).filter (fun k => (s.rail k).state = 5)) releaseSafe s
  let now := s.aon.clock
  let cs := s.prot.ctxs.map (Ctx.dropS4 now)
  let s := { s with prot := { s.prot with ctxs := cs } }
  restartStep2 (s.bump32 0x5300 9)

/-- The marks of a re-arm are confirmed or fail; the answer is the request's abort code, 0 for success (R399, R400). -/
def rearmEnd (ok : Bool) (s : State) : Nat × State :=
  let f := (0x060E, { s with therm := { s.therm with rearming := false } })
  if ok then
    match rearmRecords s with
    | some t => (0, rearmed t)
    | none => f
  else f

/-! Objects and registers (R402 to R405). -/

/-- The hottest used result and its gauge. -/
def State.hottest (s : State) : Nat × Int :=
  match hottestOf ((s.therm.gauges.filter (fun g => g.state != 5)).map (fun g => (g.n, g.used))) with
  | some x => x
  | none => (0, -32768)

/-- The number of gauges in a state. -/
def State.gaugesIn (s : State) (st : Nat) : Nat := (s.therm.gauges.filter (fun g => g.state = st)).length

/-- A signed value of 16 bits as bytes. -/
def i16 (v : Int) : List Byte := leBytes 2 (ux 16 v)

/-- The gauge record of 0x5010.02 (R405). -/
def State.gaugeRecord (s : State) (n : Nat) : List Byte :=
  match s.therm.gauges.find? (fun g => g.n = n) with
  | some g =>
    leBytes 2 n ++ leBytes 1 g.kind ++ leBytes 1 g.group ++ leBytes 1 g.state ++
    leBytes 1 (nbrs s.therm.gauges g).length ++ leBytes 2 0 ++
    i16 g.used ++ i16 g.own ++ i16 g.est ++ i16 (divHalfUp g.learned 1024) ++
    i16 g.offset ++ leBytes 2 g.gain ++ i16 g.highest ++ i16 g.rate ++
    leBytes 2 g.suspects ++ leBytes 2 g.commands ++ leBytes 2 g.x ++ leBytes 2 g.y
  | none => leBytes 2 n ++ leBytes 2 0 ++ leBytes 1 5 ++ List.replicate 27 0

/-- Entry n of the thermal map: the used result, 0x8000 for an absent gauge (R404). -/
def State.mapEntry (s : State) (n : Nat) : Int :=
  match s.therm.gauges[n]? with
  | some g => if g.state = 5 then -32768 else g.used
  | none => -32768

/-- Thermal map tile t (R404). -/
def State.mapTile (s : State) (t : Nat) : List Byte :=
  leBytes 4 (s.therm.mapSeq.getD t 0) ++ leBytes 4 0 ++ ((List.range 64).map (fun j => i16 (s.mapEntry (64 * t + j)))).flatten

/-- ABOVE or TRIPPED as a mask of the three comparators. -/
def State.tripMask (s : State) (f : Trip → Bool) : Nat := maskOf ((List.range 3).filter (fun c => f (s.trip c)))

/-- THERM_STAT (R402). -/
def State.thermStat (s : State) : Nat :=
  let h := if s.enabled 2 && s.isReady 7 then s.hottest else (0, -32768)
  b2n (!s.aon.thermtripN) + 2 * s.tripMask (·.above) + 16 * s.tripMask (·.tripped) + 256 * s.therm.flags +
    65536 * (if s.enabled 2 && s.isReady 7 then s.gaugesIn 2 else 0) + 2 ^ 32 * ux 16 h.2 + 2 ^ 48 * h.1

/-- GROUP_STAT[g] (R403). -/
def State.groupStat (s : State) (k : Nat) : Nat :=
  let g := s.group k
  ux 16 g.hot + 65536 * g.hotGauge + 2 ^ 27 * b2n g.warn + 2 ^ 28 * b2n g.engaged + 2 ^ 29 * b2n g.rateOn +
    2 ^ 30 * b2n g.predict + 2 ^ 32 * ux 16 g.rateMax + 2 ^ 48 * ux 16 g.pred

/-- Numbers of 0x5000 to 0x53FF that are not stored. -/
def thermRead (i sub : Nat) (s : State) : Option Int :=
  if i = 0x5000 then
    if sub = 6 then some (s.gaugesIn 2 : Nat)
    else if sub = 7 then some (s.gaugesIn 3 : Nat)
    else if sub = 8 then some (s.gaugesIn 1 : Nat)
    else if sub = 0x0A then some (s.therm.calStore : Nat)
    else if sub = 0x0B then some s.hottest.2
    else if sub = 0x0C then some (s.hottest.1 : Nat)
    else none
  else if i = 0x5002 then (if sub = 3 then some (s.relayedWord : Nat) else none)
  else if 0x5200 ≤ i && i < 0x5210 then
    let k := i - 0x5200
    if sub = 9 then some ((s.therm.gauges.filter (fun g => g.group = k && g.state != 5)).length : Nat)
    else if sub = 0x0A then some (s.group k).hot
    else none
  else if i = 0x5300 then
    if sub = 3 then some ((s.tripMask (·.above) + 8 * s.tripMask (·.tripped) + 64 * b2n (!s.aon.thermtripN) : Nat) : Int)
    else if sub = 7 then some (match s.therm.belowFrom with
      | some t => held 0 0xFFFF_FFFF (((s.aon.clock - t) / 400000 : Nat) : Int)
      | none => 0)
    else none
  else none

/-- Octets of 0x5000 to 0x53FF. -/
def thermReadDom (i sub : Nat) (s : State) : Option (List Byte) :=
  if i = 0x5001 && sub = 3 then
    some ((s.dom i sub).getD (((List.range 256).map (fun _ => leBytes 2 0x1800 ++ leBytes 2 500)).flatten))
  else if i = 0x5010 && sub = 2 then some (s.gaugeRecord (s.pn 0x5010 1))
  else if 0x5100 ≤ i && i < 0x5114 then some (s.mapTile (i - 0x5100))
  else none

/-- A group's levels with one of them replaced ascend strictly (R391). -/
def State.levelsOk (s : State) (i sub : Nat) (v : Int) : Bool :=
  let l := [1, 2, 3].map (fun k => if k = sub then v else s.num i k)
  decide (l.getD 0 0 < l.getD 1 0) && decide (l.getD 1 0 < l.getD 2 0)

/-- Writes of 0x5000 to 0x53FF. -/
def thermWrite (i sub : Nat) (v : Int) (b : List Byte) (s : State) : Except Nat State :=
  if i = 0x5000 && sub = 9 then gaugeCalStore s
  else if i = 0x5001 && sub = 3 then
    needRange ((List.range 256).all (fun n => decide (10 ≤ leAt b (4 * n + 2) 2))) (.ok (storeVal i sub v b s))
  else if i = 0x5002 && sub = 4 then .ok (relayClear v.toNat s)
  else if i = 0x5010 && sub = 3 then gaugeCommand v.toNat s
  else if 0x5200 ≤ i && i < 0x5210 && 1 ≤ sub && sub ≤ 3 then needRange (s.levelsOk i sub v) (.ok (storeVal i sub v b s))
  else if i = 0x5300 && sub = 2 then needRange (decide (v + 10 ≤ s.num 0x5300 1)) (.ok (storeVal i sub v b s))
  else if i = 0x5300 && sub = 5 then rearmWrite s
  else .ok (storeVal i sub v b s)

end Sys2Proof.Machine
end

