-- ==== Sys2Proof/Machine/MemberLib.lean ====
section
/-! DEFINITION. Membership of the chain: enumeration tokens, budget transactions, loss and re-entry, telemetry and the
chain's objects (R132 to R155, R316 to R319, R332, R333). -/

namespace Sys2Proof.Machine

open Sys2Proof

/-! Stored commissioning values (R98 to R100, R499). -/

/-- The current copy of the defaults area: the valid one with the higher STORE. -/
def State.defCur (s : State) : Option DefCopy :=
  if s.flashRead.defA.valid && (!s.flashRead.defB.valid || decide (s.flashRead.defB.store ≤ s.flashRead.defA.store)) then some s.flashRead.defA
  else if s.flashRead.defB.valid then some s.flashRead.defB else none

/-- The stored commissioning value of an object. -/
def State.stored (s : State) (i sub : Nat) : Option (List Byte) :=
  match s.defCur with
  | some d => (d.entries.find? (fun e => e.1 = okey i sub)).map (fun e => e.2)
  | none => none

/-- A chain setting: before CUTLIST is ready the loader's stored value serves (R100, R137). -/
def State.chainCfg (s : State) (sub : Nat) : Nat :=
  if s.isReady 10 then s.pn 0x2100 sub
  else match s.stored 0x2100 sub with
    | some b => leVal b
    | none => s.pn 0x2100 sub

/-! Descriptors and records as symbols (R133, R136, R139). -/

/-- The instance serial (0x1000.0F). -/
def State.serial (s : State) : Nat := s.flashRead.serial.getD 0

/-- A descriptor's three symbols. -/
def Desc.syms (d : Desc) : List Nat :=
  [d.addr + 32 * b2n d.sat + 64 * b2n d.root, d.serial % 2 ^ 32, d.serial / 2 ^ 32 % 2 ^ 32]

/-- A descriptor from its symbols. -/
def descOf (a b c : Nat) : Desc := { addr := a % 32, sat := bit a 5, root := bit a 6, serial := b % 2 ^ 32 + 2 ^ 32 * c }

/-- The descriptors of a list of symbols. -/
def descsOf : List Nat → List Desc
  | a :: b :: c :: l => descOf a b c :: descsOf l
  | _ => []

/-- The instance's own descriptor. -/
def State.ownDesc (s : State) (a : Nat) : Desc := { addr := a, sat := s.inst.sat, root := s.aon.strapRoot, serial := s.serial }

/-- A budget record as a symbol. -/
def BudRec.sym (r : BudRec) : Nat := r.node % 32 + 32 * (r.part % 64) + 2048 * (r.kind % 8) + 16384 * (r.value % 2 ^ 18)

/-- A budget record from a symbol. -/
def recOf (x : Nat) : BudRec := { node := x % 32, part := bits x 10 5, kind := bits x 13 11, value := bits x 31 14 }

/-! Enumeration (R132 to R136). -/

/-- The payload of ENUM and ENUM_REPORT. -/
def State.tokenSyms (s : State) : List Nat := s.chain.tokenNext :: (s.chain.token.map Desc.syms).flatten

/-- The root's event of a conflict (R132). -/
def rootConflict (s : State) : State := raise 0x0601 2 0 0 s

/-- ENUM leaves downstream. -/
def sendEnum (s : State) : State :=
  let s := { s with chain := { s.chain with
    enumSent := s.chain.enumSent + 1, enumFirstAt := some (s.chain.enumFirstAt.getD s.aon.clock) } }
  sendAll .dn (splitMsg 1 0 0 false 1 s.tokenSyms) s

/-- The instance takes address 0x01 as root and holds the first token (R133). -/
def takeRoot (s : State) : State :=
  let s := { s with chain := { s.chain with
    role := 1, addr := 1, token := [s.ownDesc 1], tokenNext := 2 + 32 * 0x11 + 1024, tokenAt := some s.aon.clock,
    enumFirstAt := none, enumSent := 0, enumClosed := false } }
  if s.chain.dn.linkUp then sendEnum s else s

/-- A node that receives ENUM takes the next address of its kind, or none (R133, R134). -/
def takeToken (p : List Nat) (s : State) : State :=
  if s.chain.role = 1 || s.chain.role = 2 then s
  else
    let w := p.headD 0
    let a := if s.inst.sat then bits w 9 5 else w % 32
    let full := decide ((if s.inst.sat then 0x18 else 8) < a)
    let next := if full then w else w + (if s.inst.sat then 32 else 1) + 1024
    let a := if full then 0 else a
    let s := { s with chain := { s.chain with
      addr := a, overpop := full, token := descsOf (p.drop 1) ++ [s.ownDesc a], tokenNext := next, tokenAt := some s.aon.clock } }
    if full then isolate (raise 0x0603 2 0 0 s) else s

/-- A held token goes on once RAILS is ready and BCH_DN has lock; the root keeps its own to repeat it (R133, R135). -/
def forwardToken (s : State) : State :=
  if s.chain.tokenAt.isNone || !s.isReady 5 || !s.chain.dn.linkUp || s.obs.standing then s
  else if s.chain.role = 1 then (if s.chain.enumSent = 0 && !s.chain.enumClosed then sendEnum s else s)
  else
    let s := sendAll .dn (splitMsg 1 0 0 false 1 s.tokenSyms) s
    { s with chain := { s.chain with tokenAt := none, token := [] } }

/-- The far end sends ENUM_REPORT upstream (R135). -/
def reportToken (s : State) : State :=
  let s := sendAll .up (splitMsg 2 1 0 false 1 s.tokenSyms) s
  { s with chain := { s.chain with tokenAt := none, token := [] } }

/-- The payload of ENUM_CLOSE (R136). -/
def State.closeSyms (s : State) (iso : Nat) : List Nat :=
  s.chain.memberMask :: (List.range 4).map (fun w =>
    leVal ((List.range 4).map (fun j => BitVec.ofNat 8 (s.chain.order.getD (4 * w + j) 0)))) ++
    [BudRec.sym { node := 0x1F, kind := 6, value := iso }]

/-- The member order of an ENUM_CLOSE's four symbols. -/
def orderOf (l : List Nat) : List Nat := ((l.map (leBytes 4)).flatten.map (·.toNat)).filter (fun a => a != 0)

/-- An isolated node asks to return (R151): BCH_UP up, RAILS ready, neither a member nor held out. -/
def rejoinTry (s : State) : State :=
  if s.isReady 5 && s.chain.up.linkUp && s.chain.role = 3 && !s.chain.overpop then
    sendOn .up { dst := 1, src := s.chain.addr, type := 5, payload := (s.ownDesc s.chain.addr).syms } s
  else s

/-! Budget records (R138 to R143, R316, R317). -/

/-- PART is ignored by kinds 0, 1, 2 and 6. -/
def BudRec.same (a b : BudRec) : Bool :=
  a.kind = b.kind && a.node = b.node && (a.part = b.part || a.kind < 3 || a.kind = 6)

/-- A record joins the queue; a pending one for the same node, partition and kind is replaced. -/
def putRec (r : BudRec) (q : List BudRec) : List BudRec :=
  if q.any (fun x => x.same r) then q.map (fun x => if x.same r then r else x) else q ++ [r]

/-- Records join the root's queue of 64, all or none. -/
def queueRecs (rs : List BudRec) (s : State) : Option State :=
  let q := rs.foldl (fun q r => putRec r q) s.chain.budQueue
  if q.length ≤ 64 then some { s with chain := { s.chain with budQueue := q } } else none

/-- Records join the queue as far as it has room: the root's own. -/
def queueOwn (rs : List BudRec) (s : State) : State :=
  { s with chain := { s.chain with budQueue := (rs.foldl (fun q r => putRec r q) s.chain.budQueue).take 64 } }

/-- A record's value lies within the range of its kind (R316). -/
def BudRec.inRange (r : BudRec) : Bool :=
  if r.kind = 0 || r.kind = 1 then decide (400 ≤ r.value)
  else if r.kind = 2 then decide (40 ≤ r.value)
  else if r.kind = 5 then decide (r.value ≤ 1)
  else r.kind != 7

/-- A record is addressed to the instance. -/
def State.hears (s : State) (r : BudRec) : Bool := r.node = 0x1F || r.node = s.chain.addr

/-- The partitions of 1 to 63 with boost approval after a transaction. -/
def State.boostAfter (s : State) (rs : List BudRec) : Nat :=
  ((List.range 64).filter (fun p => p != 0 &&
    (match (rs.filter (fun r => r.kind = 5 && r.part = p && s.hears r)).getLast? with
      | some r => r.value = 1
      | none => s.budget 5 p = 1))).length

/-- A member's vote: 0 YES, else the reason of its NO (R140). -/
def State.voteOf (s : State) (rs : List BudRec) : Nat :=
  if decide (2 ≤ s.chain.preps.length) then 1
  else if (rs.any (fun r => s.hears r && !r.inRange)) || decide (8 < s.boostAfter rs) then 2
  else if !(s.chain.role = 1 || s.chain.role = 2) then 3 else 0

/-- The vote's symbol. -/
def voteSym (txid why : Nat) : Nat := txid + (if why = 0 then 2 ^ 16 else 2 ^ 17 * why)

/-- A member takes BUD_PREPARE and forms its vote. -/
def prepare (txid : Nat) (rs : List BudRec) (s : State) : Nat × State :=
  let w := s.voteOf rs
  if w = 0 then
    (0, { s with chain := { s.chain with preps := s.chain.preps ++ [{ txid := txid, recs := rs, votedAt := s.aon.clock }] } })
  else (w, s.bump32 0x2102 3)

/-- A transaction is committed: its buffer begins to be applied (R141). -/
def hearCommit (txid : Nat) (s : State) : State :=
  if s.chain.preps.any (fun p => p.txid = txid && !p.committed) then
    let n := (s.num 0x2102 1 + 1) % 2 ^ 32
    let s := (s.put 0x2102 1 n).put 0x2102 4 txid
    { s with chain := { s.chain with preps := s.chain.preps.map (fun p => if p.txid = txid then { p with committed := true } else p) } }
  else s

/-- A transaction is aborted: its buffer is free at once. -/
def hearAbort (txid : Nat) (s : State) : State :=
  if s.chain.preps.any (fun p => p.txid = txid && !p.committed) then
    let n := (s.num 0x2102 2 + 1) % 2 ^ 32
    let s := s.put 0x2102 2 n
    { s with chain := { s.chain with preps := s.chain.preps.filter (fun p => p.txid != txid || p.committed) } }
  else s

/-- The root's decision is kept to repeat it (R142). -/
def noteDecision (txid : Nat) (yes : Bool) (s : State) : State :=
  { s with chain := { s.chain with decisions := ((txid, yes) :: s.chain.decisions).take 16 } }

/-- The root commits the open transaction. -/
def commitTxn (t : Txn) (s : State) : State :=
  hearCommit t.txid (broadcast 12 true [t.txid] (noteDecision t.txid true { s with chain := { s.chain with txn := none } }))

/-- The root aborts the open transaction; the counts include one whose buffer the root itself had refused. -/
def abortTxn (t : Txn) (s : State) : State :=
  let held := s.chain.preps.any (fun p => p.txid = t.txid && !p.committed)
  let s := if held then hearAbort t.txid s else s.put 0x2102 2 ((s.num 0x2102 2 + 1) % 2 ^ 32)
  broadcast 13 true [t.txid] (noteDecision t.txid false { s with chain := { s.chain with txn := none } })

/-- The root aborts and waits 50 us to try the same records again (R143). -/
def abortRetry (t : Txn) (s : State) : State :=
  let s := abortTxn t s
  { s with chain := { s.chain with retryRecs := t.recs, retryAt := some (s.aon.clock + us 50) } }

/-- A vote on the open transaction (R141). -/
def takeVote (a : Nat) (yes : Bool) (s : State) : State :=
  match s.chain.txn with
  | none => s
  | some t =>
    if !yes then abortRetry t s
    else
      let t := { t with votes := putBit t.votes a true }
      let s := { s with chain := { s.chain with txn := some t } }
      if covers t.votes s.chain.memberMask then commitTxn t s else s

/-- The root opens a transaction with the given records (R140). -/
def openTxn (rs : List BudRec) (s : State) : State :=
  let id := s.chain.nextTxid
  let s := { s with chain := { s.chain with
    txn := some { txid := id, recs := rs, openedAt := s.aon.clock }, nextTxid := if id = 0xFFFF then 1 else id + 1,
    retryRecs := [], retryAt := none } }
  let s := broadcast 10 true ([id + 2 ^ 16 * rs.length] ++ rs.map BudRec.sym) s
  let (w, s) := prepare id rs s
  takeVote s.chain.addr (w = 0) s

/-- Up to 15 pending records in order of arrival. -/
def openNext (s : State) : State :=
  if s.chain.role = 1 && s.chain.txn.isNone && s.chain.retryAt.isNone && !s.chain.budQueue.isEmpty && s.chain.enumClosed then
    let rs := s.chain.budQueue.take 15
    openTxn rs { s with chain := { s.chain with budQueue := s.chain.budQueue.drop 15 } }
  else s

/-- The retry: the same records less the superseded ones, and newer pending ones up to 15 (R143). -/
def retryTxn (s : State) : State :=
  let old := s.chain.retryRecs.filter (fun r => !s.chain.budQueue.any (fun x => x.same r))
  let new := s.chain.budQueue.take (15 - old.length)
  let s := { s with chain := { s.chain with budQueue := s.chain.budQueue.drop (15 - old.length), retryAt := none, retryRecs := [] } }
  openTxn (old ++ new) s

/-- A budget as stored: by kind and the node or partition it concerns; kind 7 holds the root's view of KIND 4. -/
def State.setBudget (s : State) (kind n v : Nat) : State :=
  { s with cap := { s.cap with budgets := kvPut s.cap.budgets (kind * 4096 + n) v } }

/-- A record comes into force at a member (R139, R141, R317). -/
def applyRec (r : BudRec) (s : State) : State :=
  if r.kind = 2 then
    (if r.node = 0x1F then forEach ((List.range 25).drop 1) (fun a s => s.setBudget 2 a r.value) s
     else s.setBudget 2 r.node r.value)
  else if r.kind = 4 then
    let s := s.setBudget 7 (64 * r.node + r.part) r.value
    if s.hears r then s.setBudget 4 r.part r.value else s
  else if !s.hears r then s
  else if r.kind = 6 then s.put 0x2100 7 r.value
  else if r.kind = 3 || r.kind = 5 then s.setBudget r.kind r.part r.value
  else s.setBudget r.kind 0 r.value

/-- A committed transaction comes into force, all its records together, and its buffer is free. The commit of its die
budget ends the isolated budget of a node that has come back (R151). -/
def applyTxn (p : Prep) (s : State) : State :=
  let s := { s with chain := { s.chain with preps := s.chain.preps.filter (fun q => q.txid != p.txid) } }
  let s := p.recs.foldl (fun s r => applyRec r s) s
  let mine := p.recs.any (fun r => r.kind = 2 && s.hears r)
  let s := if mine && s.chain.role = 2 then { s with chain := { s.chain with isolated := false } } else s
  updAccr (setTarget s)

/-- Ask for a budget change (R138): the root queues the records; a member sends them to the root. none: queue full. -/
def budAsk (rs : List BudRec) (s : State) : Option State :=
  if s.isRoot then queueRecs rs s else some (sendTo 9 1 false (rs.map BudRec.sym) s)

/-- The root is reachable from the instance. -/
def State.rootReach (s : State) : Bool := s.isRoot || (s.chain.role = 2 && s.chain.up.linkUp)

/-- The root's stored values of 0x6001 and 0x6002, which it commits (R317). -/
def State.storedBudgets (s : State) : List BudRec :=
  let one (i sub : Nat) (r : BudRec) : List BudRec :=
    match s.stored i sub with
    | some b => [{ r with value := leVal b }]
    | none => []
  one 0x6001 1 { node := 0x1F, kind := 0 } ++ one 0x6001 2 { node := 0x1F, kind := 1 } ++
    ((List.range 25).filter (fun a => bit s.chain.memberMask a)).flatMap (fun a => one 0x6002 a { node := a, kind := 2 })

/-! Loss of a member (R147 to R149, R152). -/

/-- The named members move from the member mask to the lost mask. -/
def moveLost (m : Nat) (s : State) : State :=
  { s with chain := { s.chain with
      memberMask := maskOf ((bitsOf 32 s.chain.memberMask).filter (fun a => !bit m a)),
      lostMask := maskOf (bitsOf 32 s.chain.lostMask ++ bitsOf 32 m),
      released := maskOf ((bitsOf 32 s.chain.released).filter (fun a => !bit m a)) } }

/-- What a remaining member does at a loss: its masks, the event, FQ_IRQ, the barrier's record and the relays. -/
def memberLost (m reason : Nat) (s : State) : State :=
  let s := assertIrq (raise 0x0605 2 m reason (moveLost m s))
  let s := noteLost m s
  forEach (bitsOf 32 m) (fun a s => relayLost a s) s

/-- The share of each remaining member in what the lost members held: no rule divides it. Free values whose sum is the
whole (R149). -/
def freeShares (base total : Nat) : List Nat → Nat → List (Nat × Nat)
  | [], _ => []
  | [a], _ => [(a, total)]
  | a :: l, k =>
    let x := min total (Config.freeValue (base + k)).toNat
    (a, x) :: freeShares base (total - x) l (k + 1)

/-- The records of the redistribution (R149). -/
def State.redistribution (s : State) (m : Nat) : List BudRec :=
  let iso := s.budget 6 0
  let total := (((bitsOf 32 m).map (fun a => s.budget 2 a - iso))).foldl (· + ·) 0
  let l := bitsOf 32 s.chain.memberMask
  (freeShares s.free total l 0).map (fun x => { node := x.1, kind := 2, value := min 262143 (s.budget 2 x.1 + x.2) })

/-- The losses within the last second, with those of the mask. -/
def State.lossesAfter (s : State) (m : Nat) : List (Nat × Nat) :=
  s.chain.losses.filter (fun x => s.aon.clock < x.2 + ms 1000) ++ (bitsOf 32 m).map (fun a => (a, s.aon.clock))

/-- A member lost more than four times within a second is held out (R152). -/
def holdOut (a : Nat) (s : State) : State :=
  if decide (4 < (s.chain.losses.filter (fun x => x.1 = a)).length) && !bit s.chain.heldMask a then
    raise 0x0607 2 a 0 { s with chain := { s.chain with heldMask := putBit s.chain.heldMask a true } }
  else s

/-- NODE_LOST at the root (R143, R149, R152): masks, broadcast, event, and the redistribution ahead of any change in
progress. -/
def rootLost (mask reason : Nat) (s : State) : State :=
  let m := maskOf ((bitsOf 32 mask).filter (fun a => bit s.chain.memberMask a && a != s.chain.addr))
  if m = 0 then s
  else
    let s := { s with chain := { s.chain with losses := s.lossesAfter m } }
    let s := broadcast 4 true [m, reason] (memberLost m reason s)
    let s := forEach (bitsOf 32 m) holdOut s
    let s := { s with cap := { s.cap with memTelem := s.cap.memTelem.filter (fun x => !bit m x.1) } }
    let (again, s) := match s.chain.txn with
      | some t => (t.recs, abortTxn t s)
      | none => (s.chain.retryRecs, s)
    let n := s.redistribution m
    let keep := again.filter (fun r => !s.chain.budQueue.any (fun x => x.same r))
    let q := (n ++ (keep ++ s.chain.budQueue).filter (fun r => !n.any (fun x => x.same r))).take 64
    { s with free := s.free + n.length, chain := { s.chain with budQueue := q, retryRecs := [], retryAt := none } }

/-- NODE_LOST at a member: one that names the member itself or the root isolates it; else a remaining member notes it. -/
def hearLost (mask reason : Nat) (s : State) : State :=
  if s.isRoot then rootLost mask reason s
  else if s.chain.role != 2 then s
  else if bit mask s.chain.addr || bit mask 1 then isolate s
  else memberLost mask reason s

/-- The loss action of a link's end (R148): the end towards the root reports the members beyond, the far end tells those
beyond it and is isolated. -/
def lossAction (l : Side) (s : State) : State :=
  if !(s.chain.role = 1 || s.chain.role = 2) then s
  else match l with
    | .dn =>
      let m := s.beyond
      if m = 0 then s else if s.isRoot then rootLost m 0 s else sendTo 4 1 true [m, 0] s
    | .up =>
      if s.isRoot then s
      else
        let m := putBit s.beyond s.chain.addr true
        isolate (sendOn .dn { dst := 0x1F, src := s.chain.addr, prio := true, type := 4, payload := [m, 0] } s)

/-- A link goes down (R129, R148). -/
def linkDown (l : Side) (s : State) : State := lossAction l (dropLink l s)

/-! Telemetry (R144, R319, R326, R332, R333). -/

/-- The instance's TELEM payload. -/
def State.telemSyms (s : State) : List Nat :=
  let c := s.cap
  [s.chain.telemSeq, min 0xFFFF_FFFF ((c.pDieMs + 24999) / 25000), s.pn 0x6000 9,
    c.accrMs + 2 ^ 10 * bits c.comb 9 5 + 2 ^ 15 * bits c.comb 10 10 + 2 ^ 16 * bits c.comb 4 0, ux 16 s.hottest.2] ++
  (List.range 32).map (fun k => s.tilesOf (2 * k) + 2 ^ 16 * s.tilesOf (2 * k + 1)) ++
  (List.range 10).map (fun k => c.durMs.getD k 0 % 2 ^ 32) ++
  [((List.range 10).map (fun k => 2 ^ (3 * k) * min 7 (c.cntMs.getD k 0))).foldl (· + ·) 0]

/-- Tiles of partition p on a member, by its latest TELEM. -/
def tilesIn (p : Nat) (t : List Nat) : Nat := t.getD (5 + p / 2) 0 / 2 ^ (16 * (p % 2)) % 2 ^ 16

/-- The KIND 4 records that R319 gives partition p. -/
def State.kind4Of (s : State) (p : Nat) : List BudRec :=
  let v := s.budget 3 p
  if v = 262143 then []
  else
    let tot := (s.cap.memTelem.map (fun x => tilesIn p x.2)).foldl (· + ·) 0
    if tot = 0 then []
    else (s.cap.memTelem.map (fun x => ({ node := x.1, part := p, kind := 4, value := v * tilesIn p x.2 / tot } : BudRec))).filter
      (fun r => kvGet s.cap.budgets (7 * 4096 + 64 * r.node + p) != some r.value)

/-- With a fresh TELEM from every member the root recomputes the partition budgets and queues what changed (R319). -/
def recompute4 (s : State) : State :=
  if s.isRoot && covers s.cap.fresh s.chain.memberMask then queueOwn ((List.range 64).flatMap s.kind4Of) s else s

/-- The root takes a member's TELEM: P_PKG, FRESH, 0x6006 and R319. -/
def rootTelem (a : Nat) (p : List Nat) (s : State) : State :=
  if !bit s.chain.memberMask a then s
  else
    let dur := s.cap.pkgDur.mapIdx (fun k d => (d + p.getD (37 + k) 0) % 2 ^ 64)
    let cnt := s.cap.pkgCnt.mapIdx (fun k d => min 0xFFFF_FFFF (d + p.getD 47 0 / 2 ^ (3 * k) % 8))
    let was := bit s.cap.fresh a
    let tel := kvPut s.cap.memTelem a p
    let fr := putBit s.cap.fresh a true
    let sum := ((tel.filter (fun x => bit fr x.1)).map (fun x => x.2.getD 1 0)).foldl (· + ·) 0
    let s := { s with cap := { s.cap with pkgDur := dur, pkgCnt := cnt, memTelem := tel, fresh := fr, pPkg := min 0xFFFF_FFFF sum } }
    if was then s else recompute4 s

/-- A member's TELEM leaves at its 1 ms instant; the root takes its own. -/
def telemSend (s : State) : State :=
  if !(s.chain.role = 1 || s.chain.role = 2) || !s.isReady 8 || s.obs.standing then s
  else
    let s := advanceTo s.chain.telemNextAt s
    let p := s.telemSyms
    let s := broadcast 16 false p s
    let s := { s with
      chain := { s.chain with telemSeq := (s.chain.telemSeq + 1) % 65536, telemNextAt := s.aon.clock + ms 1 },
      cap := { s.cap with durMs := List.replicate 10 0, cntMs := List.replicate 10 0, accrMs := s.cap.accr } }
    if s.isRoot then
      rootTelem s.chain.addr p { s with cap := { s.cap with fresh := 0 } }
    else s

/-- A TELEM message comes whole (R144): gaps are counted, a partner's throttle word is relayed, the root takes its data. -/
def telemTake (a : Nat) (p : List Nat) (s : State) : State :=
  let q := p.headD 0 % 65536
  let gap := match kvGet s.chain.telemLast a with
    | some x => decide (q != (x + 1) % 65536)
    | none => false
  let s := if gap then s.bump32 0x2101 0x0E else s
  let s := { s with chain := { s.chain with telemLast := kvPut s.chain.telemLast a q } }
  let w := p.getD 3 0
  let s := if 0x11 ≤ a && a ≤ 0x18 then relayTake a (packWord (bits w 20 16) (bits w 14 10) (bit w 15)) (w % 1024) s else s
  if s.isRoot then rootTelem a p s else s

/-- Buffers that hold part of a TELEM message; a member has 4 (R144). -/
def State.telemHeld (s : State) : Nat := (s.chain.partial_.filter (fun x => x.1 % 32 = 16)).length

/-! Objects (R155). -/

/-- Values of the chain's objects that the port holds. -/
def chainRead (i sub : Nat) (s : State) : Option Int :=
  if i = 0x2100 then
    (if sub = 1 then some s.chain.role else if sub = 2 then some s.chain.memberMask
     else if sub = 3 then some s.chain.lostMask else none)
  else none

/-- Octets of the chain's objects: the member order is empty until enumeration has closed. -/
def chainReadDom (i sub : Nat) (s : State) : Option (List Byte) :=
  if i = 0x2100 && sub = 4 then
    some (if s.chain.order.isEmpty then [] else (List.range 16).map (fun k => BitVec.ofNat 8 (s.chain.order.getD k 0)))
  else none

/-- The instance becomes root and enumerates its downstream side afresh (R153). -/
def assumeRoot (s : State) : State :=
  let s := { s with
    chain := { s.chain with memberMask := 0, lostMask := 0, heldMask := 0, released := 0, order := [], descs := [], budQueue := [],
                            txn := none, retryRecs := [], retryAt := none, decisions := [], losses := [], preps := [] },
    dove := { s.dove with rootEpoch := 1, epoch := 0, arrived := 0 } }
  takeRoot (raise 0x0608 2 0 0 s)

/-- Writes of the chain's objects; the isolated die budget is a budget change and does not come here. -/
def chainWrite (i sub : Nat) (v : Int) (b : List Byte) (s : State) : Except Nat State :=
  let m := v.toNat
  if i = 0x2100 && sub = 8 then
    .ok { s with chain := { s.chain with heldMask := maskOf ((bitsOf 32 s.chain.heldMask).filter (fun a => !bit m a)) } }
  else if i = 0x2100 && sub = 9 then needState (!s.inst.sat && !s.chain.up.linkUp) (.ok (assumeRoot s))
  else if i = 0x2100 && sub = 0x0B then
    needRange (covers s.chain.lostMask m)
      (.ok { s with chain := { s.chain with released := maskOf (bitsOf 32 s.chain.released ++ bitsOf 32 m) } })
  else .ok (storeVal i sub v b s)

end Sys2Proof.Machine
end

