-- ==== Sys2Proof/Machine/RecLib.lean ====
section
/-! DEFINITION. The event recorder and its non-volatile records: rings, cursors, the flash areas, calendar time and the
boot-record write (R477 to R506). -/

namespace Sys2Proof.Machine

open Sys2Proof

/-! Records (R477, R478). -/

/-- The bytes of a record before CHECK. -/
def Record.body (r : Record) : List Byte :=
  leBytes 2 r.code ++ leBytes 1 r.sev ++ leBytes 1 r.flags ++ leBytes 1 r.part ++ leBytes 1 r.node ++ leBytes 2 r.gen ++
  leBytes 8 r.time ++ leBytes 4 r.frac ++ leBytes 4 r.seq ++ leBytes 4 r.arg0 ++ leBytes 2 r.arg1

/-- The 32 bytes of a record: CHECK, then MARK last. -/
def Record.bytes (r : Record) : List Byte := r.body ++ leBytes 1 (crc8 r.body) ++ leBytes 1 r.mark

/-- The next SEQ after n: wraps to 1 and never takes 0 (R487). -/
def seqNext (n : Nat) : Nat := if 0xFFFFFFFF ≤ n then 1 else n + 1

/-- a precedes b in the serial number arithmetic of RFC 1982 (R487). -/
def seqBefore (a b : Nat) : Bool :=
  let d := (b + 2 ^ 32 - a) % 2 ^ 32
  decide (0 < d) && decide (d < 2 ^ 31)

/-- The event qualifies for flash: S2 and above, and COMMISSIONED (R492). -/
def nvEvent (code sev : Nat) : Bool := decide (2 ≤ sev) || code = 0x0907

/-- The record of an event, with its SEQ (R477, R479). -/
def recordOf (e : Event) (seq : Nat) : Record :=
  { code := e.code % 65536, sev := e.sev % 8,
    flags := b2n (!e.timeSet) + (if nvEvent e.code e.sev then 2 else 0) + 4 * b2n (bit e.flags 2) +
      8 * b2n (bit e.flags 3) + 16 * b2n (bit e.flags 4),
    part := e.part % 256, node := e.node, gen := if e.part = 0xFF then 0 else e.gen,
    time := if e.timeSet then e.calSec else e.clock / 4, frac := if e.timeSet then e.calFrac else 0,
    seq := seq, arg0 := e.arg0 % 2 ^ 32, arg1 := e.arg1 % 65536 }

/-! Alerts of the management port (R547). -/

/-- MGT_ALERT_N is low while an alert is pending in SMBus mode. -/
def alertPin (s : State) : State :=
  { s with mgt := { s.mgt with alertN := s.mgt.i3c || !(s.mgt.alertRec || s.mgt.rspAlert) } }

/-- A record of the device ring with SEV at or above the threshold makes an alert pending. -/
def recordAlert (r : Record) (s : State) : State :=
  if s.pn 0x2600 7 ≤ r.sev then
    alertPin { s with mgt := { s.mgt with alertRec := true, alertSev := max s.mgt.alertSev r.sev,
                                          alertCnt := min 255 (s.mgt.alertCnt + 1) } }
  else s

/-! The rings and the flash queue (R485 to R487, R492). -/

/-- Non-volatile records are kept: not under STRAP_BOOT 0b10, and FLASH is ready (R492). -/
def State.nvKeeps (s : State) : Bool := s.aon.strapBoot != 2 && s.isReady 3

/-- A qualifying record enters the flash queue of 64, or is counted (R492). -/
def nvQueue (r : Record) (s : State) : State :=
  if nvEvent r.code r.sev && s.nvKeeps then
    if s.rcd.fq.length < 64 then { s with rcd := { s.rcd with fq := s.rcd.fq ++ [r] } }
    else
      let s := setRecFlag 1 (s.bump32 0x9000 5)
      { s with rcd := { s.rcd with nvDrop := s.rcd.nvDrop + 1 } }
  else s

/-- A record is written: counted, and an overwritten oldest one with it. -/
def recCount (full : Bool) (s : State) : State :=
  let s := (s.add64 0x9000 1 1).count 18 1
  if full then s.add64 0x9000 2 1 else s

/-- Write an event's record into its ring: partitions 1-63 have rings of 32, everything else the device ring of 6,176
(R486). -/
def ringWrite (e : Event) (s : State) : State :=
  let p := e.part
  if 1 ≤ p && p ≤ 63 then
    let r := recordOf e (s.rcd.ringSeq.getD p 1)
    let l := s.rcd.rings.getD p []
    let s := { s with rcd := { s.rcd with rings := s.rcd.rings.set p ((r :: l).take 32),
                                          ringSeq := s.rcd.ringSeq.set p (seqNext r.seq) } }
    nvQueue r (recCount (decide (32 ≤ l.length)) s)
  else
    let r := recordOf e s.rcd.devSeq
    let l := s.rcd.dev
    let s := { s with rcd := { s.rcd with dev := (r :: l).take 6176, devSeq := seqNext r.seq } }
    recordAlert r (nvQueue r (recCount (decide (6176 ≤ l.length)) s))

/-- Drops at capture are reported once the queue has room (R485). -/
def reportInput (s : State) : State :=
  if s.rcd.inDrop != 0 && decide (s.rcd.inQ.length < 64) then
    let n := s.rcd.inDrop
    raise 0x0902 0 n 0 { s with rcd := { s.rcd with inDrop := 0 } }
  else s

/-- Records kept from flash are reported once the flash queue has room (R492). -/
def reportNv (s : State) : State :=
  if s.rcd.nvDrop != 0 && decide (s.rcd.fq.length < 64) then
    let n := s.rcd.nvDrop
    raise 0x0903 0 n 0 { s with rcd := { s.rcd with nvDrop := 0 } }
  else s

/-- RECORDER starts: SEQ of every ring from 1, RECORDER_START first, then the records of the early event buffer (R60,
R487). -/
def recorderStart (s : State) : State :=
  let n := s.aon.earlyLost
  let l := s.aon.earlyBuf.map (fun e => { e with flags := e.flags + 16 })
  let e0 : Event := s.stampEvent { code := 0x0901, sev := 0, part := 0xFF, arg0 := n }
  let s := { s with aon := { s.aon with earlyBuf := [], earlyLost := 0 } }
  (e0 :: l).foldl (fun s e => ringWrite e s) s

/-! The flash areas (R492 to R496). -/

/-- The present moment's operation is to begin. -/
def flashBegin (f : FOp) (s : State) : State :=
  let c := s.aon.clock
  { s with flash := { s.flash with busy := some { f with since := c, tries := 0 } } }

/-- The fixed area takes the record: it is open, and no earlier record goes before COMMISSIONED (R492, R496). -/
def State.fixedTakes (s : State) (r : Record) : Bool :=
  s.flash.fixedOpen && (r.code = 0x0907 || !(s.rcd.fq.any (·.code = 0x0907) || s.rcd.inQ.any (·.code = 0x0907)))

/-- The steps of commissioning: the fixed area is erased, a header entry with FIXED 1 follows, COMMISSIONED is raised
(R496). -/
def doCommission (s : State) : State :=
  let t := if s.rcd.timeSet then s.rcd.calSec else 0
  let s := { s with flash := { s.flash with fixed_ := [], fixedOpen := true,
                                            waiting := s.flash.waiting.filter (fun f => f.kind != 3) } }
  raise 0x0907 2 0 0 (hdrAppend (fun e => { e with fixed := 1, commissioned := t }) s)

/-- Commissioning waits for its turn (R503). -/
def State.commWaits (s : State) : Bool := s.flash.waiting.any (fun f => f.kind = 3)

/-- The port may start a write of the recorder: the scan has ended, nothing runs, no stop stands (R492, R503, R504). -/
def State.portFree (s : State) : Bool :=
  s.flash.busy.isNone && !s.obs.standing && s.isReady 3 && s.isReady 11 && s.flash.nvReady && s.aon.strapBoot != 2

/-- A last-fault write that can proceed goes first (R503, R504). -/
def State.lfWaits (s : State) : Bool := !s.prot.retention.isEmpty && s.flash.lfNext.isSome

/-- Records of a sector of the circulating area go with its erase (R494). -/
def dropSector (n : Nat) (l : List (Nat × FSlot)) : List (Nat × FSlot) := l.filter (fun x => x.1 / 128 != n)

/-- The next operation of the event areas starts: commissioning, the erase before the first slot of a sector, or the
program of the oldest waiting record (R492 to R496). -/
def flashNext (s : State) : State :=
  if !s.portFree || s.lfWaits then s else
    let s := if s.commWaits then doCommission s else s
    if s.rcd.fq.isEmpty then s
    else if s.flash.circNext % 128 = 0 && !s.flash.circFresh then
      let n := s.flash.circNext / 128
      let s := { s with flash := { s.flash with circ := dropSector n s.flash.circ } }
      flashBegin { cls := 5, erase := true, addr := 0xD4000 + 4096 * n, kind := 1 } s
    else flashBegin { cls := 5, addr := 0xD4000 + 32 * s.flash.circNext, kind := 0 } s

/-- The record at the head of the flash queue is done with. -/
def nvDone (s : State) : State :=
  let s := { s with flash := { s.flash with busy := none }, rcd := { s.rcd with fq := s.rcd.fq.drop 1, nvTries := 0 } }
  flashNext (reportNv s)

/-- The next circulating slot; `x` is what the present one holds. -/
def circPut (x : FSlot) (s : State) : State :=
  let n := s.flash.circNext
  { s with flash := { s.flash with circ := (n, x) :: s.flash.circ, circNext := (n + 1) % 2176, circFresh := false } }

/-- The next fixed slot; the last one ends the area with FIXED_FULL (R492, R496). -/
def fixedPut (x : FSlot) (s : State) : State :=
  let s := { s with flash := { s.flash with fixed_ := s.flash.fixed_ ++ [x] } }
  if 512 ≤ s.flash.fixed_.length then raise 0x0906 0 0 0 { s with flash := { s.flash with fixedOpen := false } } else s

/-- The flash copy of a record (R492). -/
def Record.flashCopy (r : Record) (seq : Nat) : Record := { r with flags := putBit r.flags 1 true, seq := seq }

/-- The record stands in a flash slot: after the circulating area comes the fixed area while it is open (R492). -/
def recordStored (f : FOp) (r : Record) (s : State) : State :=
  let x : FSlot := { held := some (r.flashCopy s.flash.seqNext) }
  let s := flashOk s
  if f.kind = 0 then
    let s := (circPut x s).add64 0x9000 4 1
    if s.fixedTakes r then
      let s := { s with rcd := { s.rcd with nvTries := 0 } }
      flashBegin { cls := 5, addr := 0xD0000 + 32 * s.flash.fixed_.length, kind := 2 } s
    else nvDone { s with flash := { s.flash with seqNext := seqNext s.flash.seqNext } }
  else nvDone (fixedPut x { s with flash := { s.flash with seqNext := seqNext s.flash.seqNext } })

/-- A failed attempt: its slot is passed over, and after 3 of them the record is dropped (R493). -/
def recordFailed (f : FOp) (why : Nat) (s : State) : State :=
  let x : FSlot := { spoiled := true }
  let s := flashFailed f.addr why s
  let s := if f.kind = 0 then circPut x s else if f.kind = 2 then fixedPut x s
    else
      let n := (s.flash.circNext / 128 + 1) % 17 * 128
      { s with flash := { s.flash with circNext := n } }
  let s := { s with rcd := { s.rcd with nvTries := s.rcd.nvTries + 1 }, flash := { s.flash with busy := none } }
  if 3 ≤ s.rcd.nvTries || (f.kind = 2 && !s.flash.fixedOpen) then
    let s := if f.kind = 2 then { s with flash := { s.flash with seqNext := seqNext s.flash.seqNext } } else s
    nvDone (setRecFlag 1 (s.bump32 0x9000 5))
  else if f.kind = 2 then
    flashBegin { cls := 5, addr := 0xD0000 + 32 * s.flash.fixed_.length, kind := 2 } s
  else flashNext s

/-- The programs of a flash record and its read-back end (R493). -/
def recordProgram (ok : Bool) (s : State) : State :=
  match s.flash.busy, s.rcd.fq with
  | some f, r :: _ => if f.erase then s else if ok then recordStored f r s else recordFailed f 3 s
  | _, _ => s

/-- A sector's erase ends (R494). -/
def eraseDone (s : State) : State :=
  match s.flash.busy with
  | some f =>
    if f.erase then
      let s := { s with flash := { s.flash with busy := none, circFresh := true } }
      flashNext ((flashOk s).bump32 0x9002 8)
    else s
  | none => s

/-- The operation's limit: 5 ms for a program, 1 s for an erase (R503). -/
def FOp.limit (f : FOp) : Nat := f.since + (if f.erase then ms 1000 else ms 5)

/-- The recorder's operation stays busy beyond its limit: the port resets the flash and retries once; a second failure
raises FLASH_FAIL (R503). -/
def portTimeout (f : FOp) (s : State) : State :=
  let s := advanceTo f.limit s
  if f.tries = 0 then
    let c := s.aon.clock
    { s with flash := { s.flash with busy := some { f with tries := 1, since := c } } }
  else recordFailed f 4 s

/-- The newest record of an area. -/
def newestSeq (l : List FSlot) : Option Nat := (l.filterMap (·.held)).head?.map (·.seq)

/-- The highest flash sequence number of both areas (R495). -/
def State.flashSeq (s : State) : Option Nat :=
  match newestSeq (s.flash.circ.map (·.2)), newestSeq s.flash.fixed_.reverse with
  | some a, some b => some (if seqBefore a b then b else a)
  | some a, none => some a
  | none, b => b

/-- The scan of header and event areas ends (R495, R505). -/
def scanDone (s : State) : State :=
  let n := match s.flash.circ with
    | x :: _ => (x.1 + 1) % 2176
    | [] => 0
  let q := match s.flashSeq with
    | some a => seqNext a
    | none => 1
  let o := s.hdrUse.fixed = 1 && decide (s.flash.fixed_.length < 512)
  flashNext { s with flash := { s.flash with nvReady := true, circNext := n, circFresh := false, seqNext := q, fixedOpen := o } }

/-- The operation in progress is cut by a reset or a loss of power: the slot of a program is spoiled, the slots of an
erase hold nothing (R493, R504). -/
def flashCut (s : State) : State :=
  match s.flash.busy with
  | some f =>
    let x : FSlot := { spoiled := true }
    if f.erase then s
    else if f.kind = 0 then circPut x s
    else { s with flash := { s.flash with fixed_ := s.flash.fixed_ ++ [x] } }
  | none => s

/-! Cursors (R488 to R491). -/

/-- Cursor n: blocks 0-63, 64 the management port's, 65 firmware's. -/
def State.cursor (s : State) (n : Nat) : Cursor := s.rcd.cursors.getD n {}

/-- The state with a cursor changed. -/
def State.updCursor (s : State) (n : Nat) (f : Cursor → Cursor) : State :=
  { s with rcd := { s.rcd with cursors := s.rcd.cursors.modify n f } }

/-- The generation whose records a cursor sees of partition p's ring (R490). -/
def State.cursorGen (s : State) (c : Cursor) (p : Nat) : Nat := if c.genSel = 0 then s.genOf p else c.genSel

/-- The visible records of a cursor's source, oldest first (R490). -/
def State.visible (s : State) (c : Cursor) : List Record :=
  if c.source = 0 then s.rcd.dev.reverse
  else if c.source ≤ 63 then (s.rcd.rings.getD c.source []).reverse.filter (fun r => r.gen = s.cursorGen c c.source)
  else if c.source = 64 then s.flash.fixed_.filterMap (·.held)
  else (s.flash.circ.map (·.2)).reverse.filterMap (·.held)

/-- OLDEST: SEQ of the oldest visible record, 0 none. -/
def State.oldest (s : State) (c : Cursor) : Nat := match (s.visible c).head? with
  | some r => r.seq
  | none => 0

/-- NEWEST: SEQ of the newest visible record, 0 none. -/
def State.newest (s : State) (c : Cursor) : Nat := match (s.visible c).getLast? with
  | some r => r.seq
  | none => 0

/-- The SEQ that the next record written to the source will take (R490). -/
def State.comingSeq (s : State) (c : Cursor) : Nat :=
  if c.source = 0 then s.rcd.devSeq
  else if c.source ≤ 63 then
    if c.genSel != 0 && c.genSel != s.genOf c.source then 1 else s.rcd.ringSeq.getD c.source 1
  else s.flash.seqNext

/-- Step 1 of a fetch: records that were overwritten are passed (R490). -/
def Cursor.passLost (old : Nat) (c : Cursor) : Cursor :=
  if old != 0 && seqBefore c.next old then
    { c with lost := min 0xFFFFFFFF (c.lost + (old + 2 ^ 32 - c.next) % 2 ^ 32), gap := true, next := old }
  else c

/-- A fetch (R490). -/
def cursorFetch (n : Nat) (s : State) : State :=
  let c := s.cursor n
  let d := c.passLost (s.oldest c)
  match (s.visible c).find? (fun r => !seqBefore r.seq d.next && decide (d.minSev ≤ r.sev)) with
  | some r => s.updCursor n (fun _ => { d with record := some r, next := seqNext r.seq })
  | none => s.updCursor n (fun _ => { d with record := none })

/-- A fetch from a flash source while the flash is busy has no effect (R490). -/
def State.fetchBusy (s : State) (n : Nat) : Bool := decide (64 ≤ (s.cursor n).source) && s.flashBusy

/-- SEEK_OLD (R489, R490). -/
def seekOld (n : Nat) (s : State) : State :=
  let c := s.cursor n
  let v := if s.oldest c = 0 then s.comingSeq c else s.oldest c
  s.updCursor n (fun c => { c with next := v })

/-- SEEK_NEW (R489, R490). -/
def seekNew (n : Nat) (s : State) : State :=
  let c := s.cursor n
  let v := if s.newest c = 0 then s.comingSeq c else seqNext (s.newest c)
  s.updCursor n (fun c => { c with next := v })

/-- The events captured so far are written to their rings (R485). -/
def drainInput (s : State) : State :=
  let l := s.rcd.inQ
  l.foldl (fun s e => ringWrite e s) { s with rcd := { s.rcd with inQ := [] } }

/-- The generation of partition p increments: what was captured under the old one is written first; its ring's SEQ and its
block start afresh (R487, R490). -/
def recGeneration (p : Nat) (s : State) : State :=
  let s := if s.isReady 11 then drainInput s else s
  let s := { s with rcd := { s.rcd with ringSeq := s.rcd.ringSeq.set p 1 } }
  s.updCursor p (fun c => { c with next := 1, lost := 0, gap := false })

/-- The fetched record's bytes, zeros when there is none. -/
def Cursor.bytes (c : Cursor) : List Byte := match c.record with
  | some r => r.bytes
  | none => List.replicate 32 0

/-- Word `off` of cursor block p (R489); the fetch of +0x20 comes before the read. -/
def State.cursorWord (s : State) (p off : Nat) : Nat :=
  let c := s.cursor p
  if off = 0 then c.next
  else if off = 8 then c.source + 256 * c.minSev + 65536 * b2n c.gap + 2 ^ 32 * (if p = 0 then c.genSel else 0)
  else if off = 0x10 then s.oldest c + 2 ^ 32 * s.newest c
  else if off = 0x18 then c.lost
  else leAt c.bytes (off - 0x20) 8

/-- A write of word +0x08 of block p (R489): the strobed fields, W1C of GAP, then a seek. -/
def cursorCtlWrite (p w strb : Nat) (s : State) : State :=
  let src := w % 128
  let ok := p = 0 && bit strb 0 && decide (src ≤ 0x41)
  let g := p = 0 && bit strb 4
  let g2 := p = 0 && bit strb 5
  let s := s.updCursor p (fun c => { c with
    source := if ok then src else c.source
    minSev := if bit strb 1 then bits w 10 8 else c.minSev
    gap := c.gap && !(bit strb 2 && bit w 16)
    genSel := (if g then bits w 39 32 else c.genSel % 256) + 256 * (if g2 then bits w 47 40 else c.genSel / 256) })
  let s := if bit strb 1 && bit w 11 then seekOld p s else s
  if bit strb 1 && bit w 12 then seekNew p s else s

/-- A write of NEXT of block p. -/
def cursorNextWrite (p v : Nat) (s : State) : State := s.updCursor p (fun c => { c with next := v % 2 ^ 32 })

/-! REC_STAT (R505). -/

/-- REC_STAT. -/
def State.recStat (s : State) : Nat :=
  b2n s.rcd.timeSet + 2 * b2n s.flash.nvReady + 4 * b2n s.flash.fixedOpen +
    8 * b2n (decide (512 ≤ s.flash.fixed_.length)) + 16 * b2n s.flashBusy + 256 * s.rcd.flags +
    65536 * s.rcd.fq.length + 2 ^ 32 * s.newest {}

/-! Objects (R483, R496, R501, R506). -/

/-- Calendar time is set; the value takes effect at once (R483). -/
def setTime (sec frac cls : Nat) (s : State) : State :=
  let s := { s with rcd := { s.rcd with timeSet := true, calSec := sec, calFrac := frac * 65536 } }
  raise 0x0905 0 (sec % 2 ^ 32) cls (s.bump32 0x9001 3)

/-- A write of 0x9002.01 starts a boot-record write (R501). -/
def bootWrite (b : List Byte) (s : State) : Except Nat State :=
  if !bootValid b then .error abRange
  else if s.flash.bootWrite = 1 then .error abState
  else if s.noFlash then .error 0x060E
  else .ok { s with flash := { s.flash with bootWrite := 1, bootNew := b } }

/-- The boot-record write ends: both copies hold the new record, or copy B was left without one (R501). -/
def bootWritten (ok : Bool) (s : State) : State :=
  if s.flash.bootWrite != 1 then s else
    let b := s.flash.bootNew
    let s := flashDone ok s
    if ok then { s with flash := { s.flash with bootA := b, bootB := b, bootWrite := 2, bootNew := [] } }
    else { s with flash := { s.flash with bootB := [], bootWrite := 3, bootNew := [] } }

/-- A write of the commission key (R496). -/
def commission (s : State) : Except Nat State :=
  if s.hdrUse.fixed = 1 || s.commWaits then .error abState
  else if s.noFlash then .error 0x060E
  else
    let f : FOp := { cls := 5, erase := true, addr := 0xD0000, kind := 3 }
    .ok (flashNext { s with flash := { s.flash with waiting := s.flash.waiting ++ [f] } })

/-- The cursor behind 0x9010 or 0x9011. -/
def objCursor (i : Nat) : Nat := if i = 0x9010 then 64 else 65

/-- Numbers of this chapter's objects (R506). -/
def recRead (i sub : Nat) (s : State) : Option Int :=
  if i = 0x9000 then
    if sub = 6 then some ((s.flashSeq.getD 0 : Nat) : Int)
    else if sub = 7 then some ((s.flash.fixed_.filterMap (·.held)).length : Nat)
    else none
  else if i = 0x9001 then if sub = 2 then some (b2n s.rcd.timeSet : Nat) else none
  else if i = 0x9002 then
    if sub = 2 then some (s.flash.bootWrite : Nat)
    else if sub = 4 then some (s.hdrUse.boot : Nat)
    else if sub = 5 then
      some ((if s.hdrUse.fixed = 0 then 0 else if s.flash.fixed_.length < 512 then 1 else 2 : Nat) : Int)
    else none
  else if i = 0x9010 || i = 0x9011 then
    let c := s.cursor (objCursor i)
    if sub = 1 then some (c.source : Nat) else if sub = 2 then some (c.next : Nat) else if sub = 3 then some (c.minSev : Nat)
    else if sub = 5 then some (c.lost : Nat) else if sub = 6 then some (c.genSel : Nat) else none
  else none

/-- Byte n of the boot record while no copy is in use: a free value (log entry 5). -/
def freeBootByte (n : Nat) : Byte := (Config.freeValue (0x900200 + n)).setWidth 8

/-- Octets of this chapter's objects (R501, R506). -/
def recReadDom (i sub : Nat) (s : State) : Option (List Byte) :=
  if i = 0x9001 && sub = 1 then
    some (if s.rcd.timeSet then leBytes 8 s.rcd.calSec ++ leBytes 4 (s.rcd.calFrac / 65536) else List.replicate 12 0)
  else if i = 0x9002 && sub = 1 then
    some (match s.aon.bootRec with
      | some r => bootBytes r
      | none => (List.range 128).map freeBootByte)
  else if i = 0x9002 && sub = 3 then some s.hdrUse.bytes
  else if (i = 0x9010 || i = 0x9011) && sub = 4 then some (s.cursor (objCursor i)).bytes
  else none

/-- What a READ does before its snapshot: the record subindex fetches (R491). -/
def recReadState (i sub : Nat) (s : State) : Except Nat State :=
  if (i = 0x9010 || i = 0x9011) && sub = 4 then
    let n := objCursor i
    if s.fetchBusy n then .error 0x060D else .ok (cursorFetch n s)
  else .ok s

/-- Writes of this chapter's objects by a requester of class `cls` (R483, R496, R501, R506). -/
def recWrite (i sub : Nat) (v : Int) (b : List Byte) (cls : Nat) (s : State) : Except Nat State :=
  if i = 0x9001 then needRange (leAt b 0 8 != 0) (.ok (setTime (leAt b 0 8) (leAt b 8 4) cls s))
  else if i = 0x9002 then if sub = 1 then bootWrite b s else commission s
  else if i = 0x9010 || i = 0x9011 then
    let n := objCursor i
    let x := v.toNat
    if sub = 1 then .ok (s.updCursor n (fun c => { c with source := x }))
    else if sub = 2 then .ok (s.updCursor n (fun c => { c with next := x }))
    else if sub = 3 then .ok (s.updCursor n (fun c => { c with minSev := x }))
    else .ok (s.updCursor n (fun c => { c with genSel := x }))
  else .ok (storeVal i sub v b s)

end Sys2Proof.Machine
end

