-- ==== Sys2Proof/Machine/MgtLib.lean ====
section
/-! DEFINITION. The management port and the PMBus host: packets, MCTP control and PLDM answers, alerts, CCC answers and
the regulators' commands (R532 to R551, R553, R554). -/

namespace Sys2Proof.Machine

open Sys2Proof

/-! The bus. -/

/-- Bytes driven on the bus; the transaction was acknowledged. -/
def drive (b : List Byte) (s : State) : State := { s with mgt := { s.mgt with busOut := b, nack := false } }

/-- The transaction was NACKed. -/
def refuseBus (s : State) : State := { s with mgt := { s.mgt with busOut := [], nack := true } }

/-- A byte of a number. -/
def byte (n : Nat) : Byte := BitVec.ofNat 8 n

/-- n bytes for which no rule states a value. Free values. -/
def freeBytes (base n : Nat) : List Byte := (List.range n).map (fun k => byte (Config.freeValue (base + k)).toNat)

/-- A number as n bytes, most significant first. -/
def beBytes (n v : Nat) : List Byte := (leBytes n v).reverse

/-- A packet or request is discarded (R536, R538). -/
def discardPacket (s : State) : State := setMgtFlag 0 s

/-- The port handles one request at a time (R538). -/
def State.portBusy (s : State) : Bool := s.mgt.busy || s.mgt.rsp.isSome

/-- A packet begins to wait for its fetch and makes an alert pending (R532, R547). -/
def putPacket (b : List Byte) (s : State) : State :=
  alertPin { s with mgt := { s.mgt with rsp := some b, rspAt := s.aon.clock, rspAlert := true, busy := false } }

/-- The packet that waits has been fetched or dropped. -/
def dropPacket (s : State) : State := alertPin { s with mgt := { s.mgt with rsp := none, rspAlert := false } }

/-- The SMBus block read's bytes: byte count, source address and the packet (R533). -/
def State.blockBytes (s : State) (b : List Byte) : List Byte := byte (1 + b.length) :: byte (2 * s.aon.strapSmb + 1) :: b

/-! Packets (R536, R537). -/

/-- An accepted packet: its addressing and its message body. -/
def packetOf (b : List Byte) : Packet × List Byte :=
  ({ dst := leAt b 1 1, src := leAt b 2 1, tag := leAt b 3 1 % 8, inst := leAt b 5 1 % 32 }, b.drop 4)

/-- The port takes a packet: header version 1, one packet with SOM and EOM, at most 64 bytes, no integrity check, and
addressed to the null EID or, once one is set, to its EID. -/
def State.takesPacket (s : State) (b : List Byte) : Bool :=
  decide (5 ≤ b.length) && decide (b.length ≤ 68) && leAt b 0 1 % 16 = 1 && bits (leAt b 3 1) 7 6 = 3 &&
    !bit (leAt b 4 1) 7 && (leAt b 1 1 = 0 || (s.mgt.eid != 0 && leAt b 1 1 = s.mgt.eid))

/-- A response packet of a message body. -/
def State.reply (s : State) (p : Packet) (body : List Byte) : List Byte :=
  [byte 1, byte p.src, byte s.mgt.eid, byte (0xC0 + p.tag % 8)] ++ body

/-- The port answers a control or PLDM request; while it is occupied the request is discarded (R538). -/
def answer (p : Packet) (f : State → List Byte × State) (s : State) : State :=
  if !s.isReady 2 || !(p.dst = 0 || (s.mgt.eid != 0 && p.dst = s.mgt.eid)) then s
  else if s.portBusy then discardPacket s
  else
    let (body, s) := f (s.add64 0x2600 0x0F 1)
    putPacket (s.reply p body) s

/-! MCTP control (R537). -/

/-- A control response: type, instance, command, completion code and data. -/
def ctlRsp (p : Packet) (cmd cc : Nat) (data : List Byte) : List Byte :=
  [byte 0, byte (p.inst % 32), byte cmd, byte cc] ++ data

/-- Set Endpoint ID: operation 0 sets, 1 forces, 2 returns to the static EID. -/
def ctlSetEid (p : Packet) (op eid : Nat) (s : State) : List Byte × State :=
  let use (e : Nat) (s : State) : List Byte × State :=
    (ctlRsp p 1 0 [byte 0, byte e, byte 0], { s with mgt := { s.mgt with eid := e } })
  if (op = 0 || op = 1) && 8 ≤ eid && eid ≤ 0xFE then use eid s
  else if op = 2 && s.pn 0x2600 3 != 0 then use (s.pn 0x2600 3) s
  else (ctlRsp p 1 2 [], s)

/-- Get Endpoint ID: a simple endpoint, with or without a static EID. -/
def ctlGetEid (p : Packet) (s : State) : List Byte × State :=
  let st := s.pn 0x2600 3
  let kind := if st = 0 then 0 else if st = s.mgt.eid then 2 else 3
  (ctlRsp p 2 0 [byte s.mgt.eid, byte kind, byte 0], s)

/-- The UUID of version 8: the serial's bits in order, the rest free, and the version and variant marks. No rule gives
the order of the bits: free values. -/
def State.uuid (s : State) : List Byte :=
  let f (k : Nat) : Nat := (Config.freeValue ((s.flashRead.serial.getD 0) * 16 + k)).toNat % 256
  (List.range 16).map (fun k => byte (if k = 6 then 0x80 + f k % 16 else if k = 8 then 0x80 + f k % 64 else f k))

/-- Get Endpoint UUID. -/
def ctlGetUuid (p : Packet) (s : State) : List Byte × State := (ctlRsp p 3 0 s.uuid, s)

/-- Get MCTP Version Support: version 1.3 for the base and control; the versions of the other types are not stated. -/
def ctlGetVersion (p : Packet) (type : Nat) (s : State) : List Byte × State :=
  if type = 0xFF || type = 0 then (ctlRsp p 4 0 [byte 1, byte 0xF1, byte 0xF3, byte 0xF0, byte 0], s)
  else if type = 1 || type = 0x7F then (ctlRsp p 4 0 (byte 1 :: freeBytes (4 * type) 4), s)
  else (ctlRsp p 4 0x80 [], s)

/-- Get Message Type Support: PLDM and vendor defined. -/
def ctlGetTypes (p : Packet) (s : State) : List Byte × State := (ctlRsp p 5 0 [byte 2, byte 1, byte 0x7F], s)

/-- Get Vendor Defined Message Support: one set, of the enterprise number. -/
def ctlGetVendor (p : Packet) (sel : Nat) (s : State) : List Byte × State :=
  if sel = 0 then (ctlRsp p 6 0 ([byte 0xFF, byte 1] ++ beBytes 4 (s.pn 0x2600 5) ++ freeBytes 0x7F 2), s)
  else (ctlRsp p 6 2 [], s)

/-- A control request from its bytes; a command outside the table answers ERROR_UNSUPPORTED_CMD. -/
def ctlMessage (p : Packet) (b : List Byte) (s : State) : List Byte × State :=
  let x (k : Nat) : Nat := leAt b k 1
  match x 2 with
  | 1 => ctlSetEid p (x 3 % 4) (x 4) s
  | 2 => ctlGetEid p s
  | 3 => ctlGetUuid p s
  | 4 => ctlGetVersion p (x 3) s
  | 5 => ctlGetTypes p s
  | 6 => ctlGetVendor p (x 3) s
  | c => (ctlRsp p c 5 [], s)

/-! PLDM (R544 to R546). -/

/-- A PLDM response: type, instance, PLDM type, command, completion code and data. -/
def pldmRsp (p : Packet) (type cmd cc : Nat) (data : List Byte) : List Byte :=
  [byte 1, byte (p.inst % 32), byte type, byte cmd, byte cc] ++ data

/-- SetTID. -/
def pldmSetTid (p : Packet) (tid : Nat) (s : State) : List Byte × State :=
  if tid = 0 || tid = 0xFF then (pldmRsp p 0 1 2 [], s)
  else (pldmRsp p 0 1 0 [], { s with mgt := { s.mgt with tid := tid } })

/-- GetTID. -/
def pldmGetTid (p : Packet) (s : State) : List Byte × State := (pldmRsp p 0 2 0 [byte s.mgt.tid], s)

/-- GetPLDMVersion: the versions themselves are not stated. -/
def pldmVersion (p : Packet) (type : Nat) (s : State) : List Byte × State :=
  if type = 0 || type = 2 then
    let v := freeBytes (0x1000 + 4 * type) 4
    (pldmRsp p 0 3 0 (leBytes 4 0 ++ [byte 5] ++ v ++ leBytes 4 (crc32 v)), s)
  else (pldmRsp p 0 3 0x83 [], s)

/-- GetPLDMTypes: types 0 and 2. -/
def pldmTypes (p : Packet) (s : State) : List Byte × State := (pldmRsp p 0 4 0 (leBytes 8 5), s)

/-- GetPLDMCommands. -/
def pldmCommands (p : Packet) (type : Nat) (s : State) : List Byte × State :=
  if type = 0 then (pldmRsp p 0 5 0 (leBytes 32 0x3E), s)
  else if type = 2 then (pldmRsp p 0 5 0 (leBytes 32 (2 ^ 0x11 + 2 ^ 0x50 + 2 ^ 0x51)), s)
  else (pldmRsp p 0 5 0x83 [], s)

/-- Group of sensors 1 to 17: that of the hottest gauge for sensor 1. -/
def State.sensorGroup (s : State) (id : Nat) : Nat :=
  if id = 1 then (match s.therm.gauges.find? (fun g => g.n = s.hottest.1) with
    | some g => g.group
    | none => 0)
  else id - 2

/-- The reading of a sensor in its unit (R545). -/
def State.sensorValue (s : State) (id : Nat) : Int :=
  if id = 1 then divHalfUp (10 * s.hottest.2) 16
  else if id ≤ 17 then divHalfUp (10 * (s.group (id - 2)).hot) 16
  else if id = 18 then s.stageTemp
  else if id ≤ 24 then divHalfUp (s.rail (id - 19)).vout 2
  else if id ≤ 30 then divHalfUp (s.rail (id - 25)).iRail 40960
  else if id = 31 then divHalfUp s.cap.pDieMs 100000
  else divHalfUp s.cap.pPkg 4

/-- The reading as 16 bits: signed for sensors 1 to 18. -/
def State.sensorWord (s : State) (id : Nat) : Nat :=
  if id ≤ 18 then ux 16 (clampI (-32768) 32767 (s.sensorValue id)) else (clampI 0 65535 (s.sensorValue id)).toNat

/-- Operational state: 0 enabled, 1 disabled, 2 unavailable (R546). -/
def State.sensorState (s : State) (id : Nat) : Nat :=
  if id = 1 then (if s.isReady 7 then 0 else 2)
  else if id ≤ 17 then
    (if s.isReady 7 && s.therm.gauges.any (fun g => g.group = id - 2 && g.state != 5) then 0 else 2)
  else if id = 18 then (if s.isReady 5 then 0 else 2)
  else if id ≤ 30 then
    (if !s.isReady 5 then 2 else if s.railUsed ((id - 19) % 6) then 0 else 1)
  else if id = 31 then (if s.isReady 15 then 0 else 2)
  else if s.isReady 15 && s.isRoot then 0 else 2

/-- A threshold of sensors 1 to 17 in tenths of a degree: 1 warning, 2 throttle, 3 critical. -/
def State.sensorLevel (s : State) (id n : Nat) : Int := 10 * s.num (0x5200 + s.sensorGroup id) n

/-- Present state: 1 normal, 8 upperWarning, 9 upperCritical, 10 upperFatal (R546). -/
def State.sensorPresent (s : State) (id : Nat) : Nat :=
  if 17 < id then 1
  else
    let v := s.sensorValue id
    if s.sensorLevel id 3 ≤ v then 10 else if s.sensorLevel id 2 ≤ v then 9 else if s.sensorLevel id 1 ≤ v then 8 else 1

/-- GetSensorReading. The previous state is not stated: a free value. -/
def pldmReading (p : Packet) (id : Nat) (s : State) : List Byte × State :=
  if id = 0 || 32 < id then (pldmRsp p 2 0x11 0x80 [], s)
  else
    let ps := byte (s.sensorPresent id)
    (pldmRsp p 2 0x11 0 ([byte (if id ≤ 18 then 3 else 2), byte (s.sensorState id), byte 0, ps] ++
      freeBytes s.free 1 ++ [ps] ++ leBytes 2 (s.sensorWord id)), s.takeFree)

/-- Base unit and modifier of a sensor (R545). -/
def sensorUnit (id : Nat) : List Byte :=
  if id ≤ 18 then [byte 2, byte 0xFF] else if id ≤ 24 then [byte 5, byte 0xFD]
  else if id ≤ 30 then [byte 6, byte 0xFF] else [byte 7, byte 0xFF]

/-- The numeric sensor PDR of a sensor, as this model lays it out: handle, version, type, change number and length, then
sensor ID, unit, modifier, data size, and the three thresholds of sensors 1 to 17. -/
def State.pdr (s : State) (id : Nat) : List Byte :=
  let th := if id ≤ 17 then [1, 2, 3].flatMap (fun n => leBytes 2 (ux 16 (s.sensorLevel id n))) else []
  let body := leBytes 2 id ++ sensorUnit id ++ [byte (if id ≤ 18 then 3 else 2)] ++ th
  leBytes 4 id ++ [byte 1, byte 2] ++ leBytes 2 0 ++ leBytes 2 body.length ++ body

/-- GetPDRRepositoryInfo. The update times are not stated: free values. -/
def pldmRepository (p : Packet) (s : State) : List Byte × State :=
  let l := (List.range 32).map (fun k => (s.pdr (k + 1)).length)
  (pldmRsp p 2 0x50 0 (byte 0 :: freeBytes 0x2000 26 ++ leBytes 4 32 ++ leBytes 4 (l.foldl (· + ·) 0) ++
    leBytes 4 (l.foldl max 0) ++ [byte 0]), s)

/-- GetPDR: the record handle equals the sensor ID, 0 asks for the first. -/
def pldmPdr (p : Packet) (rec : Nat) (s : State) : List Byte × State :=
  let id := if rec = 0 then 1 else rec
  if 32 < id then (pldmRsp p 2 0x51 0x82 [], s)
  else
    let d := s.pdr id
    (pldmRsp p 2 0x51 0 (leBytes 4 (if id = 32 then 0 else id + 1) ++ leBytes 4 0 ++ [byte 5] ++ leBytes 2 d.length ++ d), s)

/-- A PLDM request from its bytes; an unsupported type or command answers with its completion code. -/
def pldmMessage (p : Packet) (b : List Byte) (s : State) : List Byte × State :=
  let x (k n : Nat) : Nat := leAt b k n
  let t := x 2 1 % 64
  let c := x 3 1
  if t = 0 then
    match c with
    | 1 => pldmSetTid p (x 4 1) s
    | 2 => pldmGetTid p s
    | 3 => pldmVersion p (x 9 1) s
    | 4 => pldmTypes p s
    | 5 => pldmCommands p (x 4 1) s
    | _ => (pldmRsp p t c 5 [], s)
  else if t = 2 then
    match c with
    | 0x11 => pldmReading p (x 4 2) s
    | 0x50 => pldmRepository p s
    | 0x51 => pldmPdr p (x 4 4) s
    | _ => (pldmRsp p t c 5 [], s)
  else (pldmRsp p t c 0x20 [], s)

/-! The Cut List message (R539, R540). -/

/-- The request of a message body. -/
def clMessage (b : List Byte) : Nat × ClReq :=
  let n := leAt b 13 1
  (leAt b 7 1, { idx := leAt b 8 2, sub := leAt b 10 1, node := leAt b 11 1 % 32, seq := leAt b 12 1, len := n % 64,
                 last := bit n 6, data := (b.drop 14).take (n % 64) })

/-- The body is a Cut List request that the port serves: CODE 1, a request, and the enterprise number. -/
def State.clTakes (s : State) (b : List Byte) : Bool :=
  let iana := leVal ((b.drop 1).take 4).reverse
  decide (14 ≤ b.length) && bit (leAt b 5 1) 7 && leAt b 6 1 = 1 && (s.pn 0x2600 5 = 0 || s.pn 0x2600 5 = iana)

/-- What the response echoes: source EID and tag, the enterprise number, instance, opcode and SEQ. -/
def clEcho (p : Packet) (b : List Byte) : List Byte :=
  [byte p.src, byte p.tag] ++ (b.drop 1).take 4 ++ [byte (leAt b 5 1 % 32), byte (leAt b 7 1), byte (leAt b 12 1)]

/-- The packet of a Cut List response (R540). -/
def State.clReply (s : State) (abort total : Nat) (more : Bool) (data : List Byte) : List Byte :=
  let h := s.mgt.reqHdr
  s.reply { src := leAt h 0 1, tag := leAt h 1 1 }
    ([byte 0x7F] ++ (h.drop 2).take 4 ++ [byte (leAt h 6 1), byte 1, byte (leAt h 7 1)] ++ leBytes 2 abort ++
      [byte (leAt h 8 1), byte (data.length % 64 + 64 * b2n more)] ++ leBytes 2 total ++ data)

/-! Modes and CCCs (R534, R535). -/

/-- The port enters I3C mode at a dynamic address; a partial packet is abandoned. -/
def enterI3c (addr : Nat) (s : State) : State :=
  alertPin { s with mgt := { s.mgt with i3c := true, dynAddr := addr, nack := false } }

/-- The provisioned ID (R535). -/
def State.pid (s : State) : Nat := s.pn 0x2600 6 * 2 ^ 33 + 0xF002 * 2 ^ 16 + s.aon.strapSmb % 16 * 2 ^ 12

/-- The port answers a CCC with bytes: MGT ready and I3C mode. -/
def cccAnswer (b : List Byte) (s : State) : State := if s.isReady 2 && s.mgt.i3c then drive b s else s

/-- A dynamic address is assigned where the port has none (R534). -/
def assignAddr (addr : Nat) (out : List Byte) (s : State) : State :=
  if s.isReady 2 && !s.mgt.i3c then enterI3c addr (drive out s) else s

/-- SETMWL and SETMRL below 72 bytes are NACKed; the lengths stay at 72, the maximum. -/
def setLength (n : Nat) (s : State) : State :=
  if s.isReady 2 && s.mgt.i3c then (if n < 72 then refuseBus s else drive [] s) else s

/-! Alerts (R547). -/

/-- An interrupt's bytes: the waiting packet's MDB first, else the record alert's. -/
def State.ibiBytes (s : State) : List Byte :=
  if s.mgt.rspAlert then [byte 0xAE] else [byte 1, byte s.mgt.alertSev, byte s.mgt.alertCnt]

/-- The controller acknowledges the interrupt, or refuses it until the retry. -/
def ibi (acked : Bool) (s : State) : State :=
  if !s.isReady 2 || !s.mgt.i3c || !s.mgt.ibiOn || !(s.mgt.alertRec || s.mgt.rspAlert) || s.mgt.retryAt.isSome then s
  else
    let b := s.ibiBytes
    if !acked then { s with mgt := { s.mgt with busOut := b, nack := true, retryAt := some (s.aon.clock + ms 1) } }
    else if s.mgt.rspAlert then drive b { s with mgt := { s.mgt with rspAlert := false } }
    else drive b { s with mgt := { s.mgt with alertRec := false, alertSev := 0, alertCnt := 0 } }

/-- A read of the Alert Response Address. -/
def araRead (s : State) : State :=
  if !s.isReady 2 || s.mgt.i3c then s
  else if s.mgt.alertN then refuseBus s
  else alertPin (drive [byte (2 * s.aon.strapSmb)] { s with mgt := { s.mgt with
    alertRec := false, alertSev := 0, alertCnt := 0, rspAlert := false,
    retryAt := if s.mgt.rsp.isSome then some (s.aon.clock + ms 1) else s.mgt.retryAt } })

/-- The alert is raised again. -/
def ibiRetry (s : State) : State :=
  match s.mgt.retryAt with
  | none => s
  | some t =>
    let s := advanceTo t s
    alertPin { s with mgt := { s.mgt with retryAt := none, rspAlert := s.mgt.rspAlert || (!s.mgt.i3c && s.mgt.rsp.isSome) } }

/-! The PMBus host (R548 to R551). -/

/-- Regulator d. -/
def State.pmb (s : State) (d : Nat) : Pmb := s.mgt.pmb.getD d {}

/-- The state with a regulator changed. -/
def State.updPmb (s : State) (d : Nat) (f : Pmb → Pmb) : State := { s with mgt := { s.mgt with pmb := s.mgt.pmb.modify d f } }

/-- Transactions of the host, and the failed ones among them. -/
def pmbCount (n bad : Nat) (s : State) : State := (s.add64 0x2610 3 n).add32 0x2610 4 bad

/-- Commands go to device d, each after PAGE where the device has a page. -/
def pmbSend (d : Nat) (cmds : List (Nat × Nat)) (acked : Bool) (s : State) : State :=
  let page := s.pn (0x2620 + d) 2
  let l := cmds.flatMap (fun c => if page = 0xFF then [(d, c.1, c.2)] else [(d, 0, page), (d, c.1, c.2)])
  let s := { s with mgt := { s.mgt with pmbOut := l } }
  if acked then pmbCount l.length 0 s else pmbCount (2 * l.length) 2 s

/-- VOUT_COMMAND's data for a setpoint in mV, with the exponent of VOUT_MODE. -/
def voutData (exp : Int) (mv : Nat) : Nat :=
  (clampI 0 65535 (if 0 ≤ exp then divHalfUp mv (1000 * 2 ^ exp.toNat) else divHalfUp ((mv : Int) * 2 ^ (-exp).toNat) 1000)).toNat

/-- The command that a write of 0x2620 + d, subindex 4, 5 or 6, sends. -/
def State.pmbCmd (s : State) (d sub v : Nat) : Nat × Nat :=
  if sub = 4 then (0x21, voutData (s.pmb d).exp v) else if sub = 5 then (1, if v = 1 then 0x80 else 0) else (3, 0)

/-- VOUT_MODE has been read: bits 7 to 5 zero for linear mode, bits 4 to 0 the exponent. -/
def takeMode (d mode : Nat) (s : State) : State :=
  s.updPmb d (fun p => { p with linear := decide (mode / 32 % 8 = 0), exp := sx 5 mode })

/-- STATUS_WORD is taken: every bit that was clear before counts a fault (R551). -/
def takeStatus (d status : Nat) (s : State) : State :=
  let n := ((bitsOf 16 status).filter (fun k => !bit (s.pmb d).status k)).length
  (s.add32 (0x2620 + d) 0x0C n).updPmb d (fun p => { p with status := status % 65536 })

/-- The measurements of a poll; a device not in linear mode reads 0. -/
def Pmb.measure (a : PmbAns) (p : Pmb) : Pmb :=
  if p.linear then
    { p with fails := 0, vin := (clampI 0 65535 (linear11 1000 a.vin)).toNat, vout := (clampI 0 65535 (ulinear16 1000 p.exp a.vout)).toNat,
             iout := clampI 0 0xFFFF_FFFF (linear11 1000 a.iout), temp := clampI (-550) 2000 (linear11 10 a.temp) }
  else { p with fails := 0, vin := 0, vout := 0, iout := 0, temp := 0 }

/-- One device is polled. -/
def pollOne (d : Nat) (a : PmbAns) (s : State) : State :=
  let s := pmbSend d [(0x79, 0), (0x88, 0), (0x8B, 0), (0x8C, 0), (0x8D, 0)] a.ok s
  if a.ok then (takeStatus d a.status s).updPmb d (Pmb.measure a)
  else
    let n := (s.pmb d).fails + 1
    let s := s.updPmb d (fun p => { p with fails := min 3 n })
    if n = 3 then setMgtFlag 4 s else s

/-- The devices that the host polls. -/
def State.pmbDevices (s : State) : List Nat := (List.range 8).filter (fun d => s.pn (0x2620 + d) 1 != 0)

/-- The host runs: CLK_EN.PMBUS (R548). -/
def State.pmbRuns (s : State) : Bool := s.isReady 2 && s.enabled 16

/-- A poll of every device (R550). -/
def pollAll (answers : List PmbAns) (s : State) : State :=
  let s := match s.mgt.pollAt with
    | some t => advanceTo (t + ms (s.pn 0x2610 2)) s
    | none => s
  let s := { s with mgt := { s.mgt with pollAt := some s.aon.clock } }
  forEach s.pmbDevices (fun d s => pollOne d (answers.getD d {}) s) s

/-- PMB_ALERT_N is served (R550). -/
def serveAlert (d status : Nat) (s : State) : State :=
  if !s.pmbRuns then s else takeStatus d status (pmbSend d [(0x79, 0)] true (setMgtFlag 3 s))

/-! Objects (R554). -/

/-- Values of the port's objects that the port holds. -/
def mgtRead (i sub : Nat) (s : State) : Option Int :=
  if i = 0x2600 then
    (if sub = 1 then some (b2n s.mgt.i3c) else if sub = 2 then some s.mgt.dynAddr else if sub = 4 then some s.mgt.eid
     else if sub = 8 then some s.mgt.tid else none)
  else if 0x2620 ≤ i && i < 0x2628 then
    let p := s.pmb (i - 0x2620)
    (if sub = 7 then some p.status else if sub = 8 then some p.vin else if sub = 9 then some p.vout
     else if sub = 0x0A then some p.iout else if sub = 0x0B then some p.temp else none)
  else none

/-- Writes of the port's objects; those that command a regulator end with its acknowledgement and do not come here. A new
address is followed by a read of VOUT_MODE, whose answer no rule states: a free value. -/
def mgtWrite (i sub : Nat) (v : Int) (b : List Byte) (s : State) : Except Nat State :=
  let t := storeVal i sub v b s
  if 0x2620 ≤ i && i < 0x2628 && sub = 1 then
    .ok (if v = 0 then t else
      takeMode (i - 0x2620) (Config.freeValue s.free).toNat (pmbSend (i - 0x2620) [(0x20, 0)] true t.takeFree))
  else .ok t

end Sys2Proof.Machine
end

