-- ==== Sys2Proof/Machine/ClampLib.lean ====
section
/-! DEFINITION. The Clamp: context accounts, admission, the queue and the tracker (R339 to R354). Powers are in mW,
windows in us, energies in pJ. -/

namespace Sys2Proof.Machine

open Sys2Proof

/-! Accounts (R339). -/

/-- The record of account a; one that was never opened is closed. -/
def State.acct (s : State) (a : Nat) : Account := (s.cla.accounts.find? (fun x => x.a = a)).getD { a := a }

/-- Put an account record in its place, accounts ascending. -/
def insAcct (x : Account) : List Account → List Account
  | [] => [x]
  | y :: l => if x.a < y.a then x :: y :: l else if x.a = y.a then x :: l else y :: insAcct x l

/-- The state with an account record put. -/
def State.putAcct (s : State) (x : Account) : State :=
  { s with cla := { s.cla with accounts := insAcct x s.cla.accounts } }

/-- The grant in force of account a. -/
def State.grantOf (s : State) (a : Nat) : Option Grant := s.cla.grants.find? (fun g => g.a = a && !g.orphan)

/-- The queued request of account a. -/
def State.queuedOf (s : State) (a : Nat) : Option Queued := s.cla.queue.find? (fun q => q.a = a)

/-- Admission is in effect (R354). -/
def State.enforceOn (s : State) : Bool := s.isReady 17 && s.enabled 9 && s.pn 0x7000 8 = 1

/-! Committed power and limits (R340). -/

/-- The allowance of a live account. -/
def State.allowance (s : State) (x : Account) : Nat :=
  match s.grantOf x.a with
  | some g => max x.base g.g
  | none => x.base

/-- K_d. -/
def State.kDie (s : State) : Nat := ((s.cla.accounts.filter (·.live)).map s.allowance).foldl (· + ·) 0

/-- K_p. -/
def State.kPart (s : State) (p : Nat) : Nat :=
  ((s.cla.accounts.filter (fun x => x.live && x.part = p)).map s.allowance).foldl (· + ·) 0

/-- A_d. -/
def State.admitDie (s : State) : Nat := 25 * s.pn 0x6000 9 * s.pn 0x7000 1 / 100

/-- A committed power of partition p of k is beyond V_p. -/
def State.overPart (s : State) (p k : Nat) : Bool :=
  s.budget 4 p != 262143 && decide (25 * s.budget 4 p < k)

/-- Tracker entries in use (R353). -/
def State.tracker (s : State) : Nat := s.cla.grants.length + s.cla.queue.length

/-- Tracker entries of partition p. -/
def State.trackerOf (s : State) (p : Nat) : Nat :=
  (s.cla.grants.filter (fun g => (s.acct g.a).part = p)).length + (s.cla.queue.filter (fun q => (s.acct q.a).part = p)).length

/-! Words (R342, R343). -/

/-- A response or notice word. -/
def clampAnswer (op : Nat) (notice unchecked : Bool) (slot result reason window tag : Nat) : Nat :=
  op + 8 * b2n notice + 16 * b2n unchecked + 2 ^ 8 * slot + 2 ^ 16 * result + 2 ^ 19 * reason +
    2 ^ 32 * (if result = 0 then window else 0) + 2 ^ 56 * tag

/-- The Clamp sends a word to a tile. -/
def clampSend (tile w : Nat) (s : State) : State :=
  { s with cla := { s.cla with notices := s.cla.notices ++ [(tile, w)] } }

/-- A notice about a REQUEST of account a (R343). -/
def clampNotice (a result reason window tag : Nat) (s : State) : State :=
  clampSend (a / 40) (clampAnswer 2 true false (a % 40) result reason window tag) s

/-- The words of the latest step leave the list. -/
def clearNotices (s : State) : State := { s with cla := { s.cla with notices := [] } }

/-! Grants. -/

/-- The overdraw check of a grant that ends (R341). -/
def overdrawCheck (g : Grant) (s : State) : State :=
  if g.g * g.window * (100 + s.pn 0x7000 3) / 100 * 1000 < g.energy then
    let x := s.acct g.a
    let s := setClampFlag 3 (s.putAcct { x with overdraws := min 0xFFFF_FFFF (x.overdraws + 1) })
    s.bump32 (0x7040 + x.part) 0x0C
  else s

/-- A grant ends: its entry and its part of the burst reservation return (R347, R350). -/
def endGrant (g : Grant) (s : State) : State :=
  let s := if g.orphan then s else overdrawCheck g s
  { s with cla := { s.cla with grants := s.cla.grants.erase g, resv := s.cla.resv - g.resv } }

/-- The grant of account a ends, if it holds one. -/
def endGrantOf (a : Nat) (s : State) : State :=
  match s.grantOf a with
  | some g => endGrant g s
  | none => s

/-- A request leaves the queue; its wait enters the longest wait. -/
def leaveQueue (q : Queued) (s : State) : State :=
  let s := { s with cla := { s.cla with queue := s.cla.queue.erase q } }
  s.put 0x7001 9 (max (s.num 0x7001 9) (min 0xFFFF_FFFF ((s.aon.clock - q.since) / 400 : Nat)))

/-- The increase that a power asks of an account (R346). -/
def State.increase (s : State) (a g : Nat) : Nat := g - s.allowance (s.acct a)

/-- The burst path admits an increase d over a window (R347). -/
def State.burstAdmits (s : State) (d window : Nat) : Bool :=
  s.cap.burstOpen && decide (s.kDie + d ≤ 25 * s.pn 0x6000 0x0A) &&
    decide (s.cla.resv + (s.kDie + d - s.admitDie) * window ≤ 25 * s.cap.credit)

/-- Why a request is held: 0 admitted, 1 partition budget, 2 die limit, 3 burst credit (R346). -/
def State.holdOf (s : State) (a g window : Nat) (burst : Bool) : Nat :=
  let d := s.increase a g
  let p := (s.acct a).part
  if s.overPart p (s.kPart p + d) then 1
  else if s.kDie + d ≤ s.admitDie then 0
  else if burst && s.burstAdmits d window then 0
  else if burst && decide (s.kDie + d ≤ 25 * s.pn 0x6000 0x0A) then 3
  else 2

/-- An admitted request becomes the grant of its account, in place of an earlier one (R346, R347). -/
def grantNow (a g window tag : Nat) (s : State) : State :=
  let d := s.increase a g
  let r := if s.kDie + d ≤ s.admitDie then 0 else (s.kDie + d - s.admitDie) * window
  let s := endGrantOf a s
  let x : Grant := { a := a, g := g, window := window, endAt := s.aon.clock + us window, tag := tag, resv := r }
  let p := (s.acct a).part
  let s := { s with cla := { s.cla with grants := s.cla.grants ++ [x], resv := s.cla.resv + r } }
  (s.add64 (0x7040 + p) 8 1).countP 7 p 1

/-- A request is held by the die limit or the burst path: DIE_HOLD (R367). -/
def dieHold (hold : Nat) (s : State) : State := if hold = 2 || hold = 3 then setClampFlag 1 s else s

/-! Request words (R345, R346, R350, R354). -/

/-- A refusal: its response and its counts. -/
def clampRefuse (tile op slot tag reason p : Nat) (s : State) : State :=
  let s := (s.bump32 0x7001 5).countP 9 p 1
  let s := if p < 64 then s.bump32 (0x7040 + p) 0x0A else s
  clampSend tile (clampAnswer op false false slot 2 reason 0 tag) s

/-- A response DONE. -/
def clampDone (tile op slot tag : Nat) (s : State) : State :=
  clampSend tile (clampAnswer op false false slot 5 0 0 tag) s

/-- OPEN (R345). -/
def clampOpen (tile slot tag : Nat) (s : State) : State :=
  let a := 40 * tile + slot
  let p := s.cap.tileMap.getD tile 0xFF
  let b := s.pn (0x7040 + p) 1
  let x := s.acct a
  if x.live then clampRefuse tile 0 slot tag 7 x.part s
  else if s.overPart p (s.kPart p + b) then clampRefuse tile 0 slot tag 1 p s
  else if s.admitDie < s.kDie + b then clampRefuse tile 0 slot tag 2 p s
  else clampDone tile 0 slot tag
    (s.putAcct { x with live := true, part := p, gen := s.genOf p, base := b, msEnergy := 0 })

/-- Account a closes; grant and queued request end without notices (R345). -/
def closeAcct (a : Nat) (s : State) : State :=
  let s := endGrantOf a s
  let s := match s.queuedOf a with
    | some q => leaveQueue q s
    | none => s
  s.putAcct { s.acct a with live := false }

/-- CLOSE (R345). -/
def clampClose (tile slot tag : Nat) (s : State) : State :=
  let a := 40 * tile + slot
  if (s.acct a).live then clampDone tile 1 slot tag (closeAcct a s)
  else clampRefuse tile 1 slot tag 6 (s.cap.tileMap.getD tile 0xFF) s

/-- A request is queued (R349). -/
def clampQueue (tile slot g window tag hold : Nat) (burst : Bool) (s : State) : State :=
  let a := 40 * tile + slot
  let p := (s.acct a).part
  let q : Queued := { a := a, g := g, window := window, tag := tag, burst := burst, since := s.aon.clock, reason := hold }
  let s := { s with cla := { s.cla with queue := s.cla.queue ++ [q] } }
  let s := ((s.add64 0x7001 3 1).bump32 (0x7040 + p) 9).countP 8 p 1
  clampSend tile (clampAnswer 2 false false slot 1 hold 0 tag) (dieHold hold s)

/-- REQUEST (R346). -/
def clampRequest (tile slot g window tag : Nat) (burst nowait : Bool) (s : State) : State :=
  let a := 40 * tile + slot
  let x := s.acct a
  let s := s.add64 0x7001 1 1
  if !x.live then clampRefuse tile 2 slot tag 6 (s.cap.tileMap.getD tile 0xFF) s
  else if (s.queuedOf a).isSome then clampRefuse tile 2 slot tag 12 x.part s
  else if s.pn (0x7040 + x.part) 3 ≤ s.trackerOf x.part then clampRefuse tile 2 slot tag 4 x.part s
  else if 8192 ≤ s.tracker then clampRefuse tile 2 slot tag 5 x.part (setClampFlag 0 s)
  else
    let h := s.holdOf a g window burst
    if h = 0 then
      clampSend tile (clampAnswer 2 false false slot 0 0 window tag) ((grantNow a g window tag s).add64 0x7001 2 1)
    else if nowait then clampRefuse tile 2 slot tag h x.part (dieHold h s)
    else clampQueue tile slot g window tag h burst s

/-- RELEASE (R350). -/
def clampRelease (tile slot tag : Nat) (s : State) : State :=
  let a := 40 * tile + slot
  match s.grantOf a with
  | some g => clampDone tile 3 slot tag (endGrant g s)
  | none => clampRefuse tile 3 slot tag 11 (s.cap.tileMap.getD tile 0xFF) s

/-- CANCEL (R350). -/
def clampCancel (tile slot tag : Nat) (s : State) : State :=
  let a := 40 * tile + slot
  match s.queuedOf a with
  | some q => clampDone tile 4 slot tag (leaveQueue q s)
  | none => clampRefuse tile 4 slot tag 11 (s.cap.tileMap.getD tile 0xFF) s

/-- A word that R343 answers with ERROR. -/
def clampBad (op w : Nat) : Bool :=
  decide (4 < op) || decide (39 < bits w 13 8) || bits w 7 5 != 0 || bits w 15 14 != 0 ||
    (op = 2 && (bits w 31 16 = 0 || bits w 55 32 = 0 || decide (1000000 < bits w 55 32)))

/-- A well-formed word while admission is in effect. -/
def clampServe (tile op w : Nat) (s : State) : State :=
  let slot := bits w 13 8
  let tag := bits w 63 56
  if op = 0 then clampOpen tile slot tag s
  else if op = 1 then clampClose tile slot tag s
  else if op = 2 then clampRequest tile slot (bits w 31 16) (bits w 55 32) tag (bit w 3) (bit w 4) s
  else if op = 3 then clampRelease tile slot tag s
  else clampCancel tile slot tag s

/-- A well-formed word while admission is not in effect (R354). -/
def clampBypass (tile op w : Nat) (s : State) : State :=
  if op = 2 then
    clampSend tile (clampAnswer 2 false true (bits w 13 8) 0 0 (bits w 55 32) (bits w 63 56))
      ((s.add64 0x7001 1 1).add64 0x7001 8 1)
  else clampDone tile op (bits w 13 8) (bits w 63 56) s

/-- The Clamp accepts a request word (R343, R344). -/
def clampAccept (tile op w : Nat) (s : State) : State :=
  if clampBad op w then
    clampSend tile (clampAnswer op false false (bits w 13 8) 7 8 0 (bits w 63 56)) s
  else if s.enforceOn then updAccr (clampServe tile op w s)
  else clampBypass tile op w s

/-- Words that wait in the region cell of a tile. -/
def State.cellWords (s : State) (tile : Nat) : Nat := (s.cla.cells.filter (fun x => x.1 / 4 = tile / 4)).length

/-- A tile in use sends a request word of operation op (a word of a reserved OP keeps it). While STOP_IN stands it waits
in its region cell; a full cell stalls the tile (R344, R366). A satellite has no Clamp. -/
def clampWord (tile op w : Nat) (s : State) : State :=
  let o := if 5 ≤ bits w 2 0 then bits w 2 0 else op
  if s.inst.sat || 1024 ≤ tile || s.cap.tileMap.getD tile 0xFF = 0xFF then s
  else if s.obs.standing then
    (if 8 ≤ s.cellWords tile then s
     else { s with cla := { s.cla with cells := s.cla.cells ++ [(tile, w - bits w 2 0 + o)] } })
  else clampAccept tile o w (clearNotices s)

/-- The words that waited out a stop are accepted in their order. -/
def clampResume (s : State) : State :=
  let l := s.cla.cells
  let s := clearNotices { s with cla := { s.cla with cells := [] } }
  l.foldl (fun s x => clampAccept x.1 (bits x.2 2 0) x.2 s) s

/-! Boundaries (R341, R349, R350). -/

/-- The tile's energy of the interval goes to its slot's account and grant, or to its partition (R341). -/
def chargeTile (tile slot pj : Nat) (s : State) : State :=
  let a := 40 * tile + slot
  let x := s.acct a
  let p := s.cap.tileMap.getD tile 0xFF
  if x.live then
    let s := s.putAcct { x with energy := (x.energy + pj) % 2 ^ 64, msEnergy := x.msEnergy + pj }
    { s with cla := { s.cla with grants := s.cla.grants.map (fun g =>
        if g.a = a && !g.orphan then { g with energy := (g.energy + pj) % 2 ^ 64 } else g) } }
  else if p < 64 then s.add64 (0x7040 + p) 0x0E pj
  else s

/-- The slot that held a tile for the most cycles. -/
def slotOf (acts : List TileAct) (t : Nat) : Nat :=
  match acts.find? (fun a => a.tile = t) with
  | some a => a.slot
  | none => 0

/-- The Clamp charges every tile's energy of the interval, given the tiles' powers in 2^-16 uW (R341). -/
def chargeAll (acts : List TileAct) (pw : List Nat) (s : State) : State :=
  if !s.isReady 17 then s
  else forEach ((List.range 1024).filter (fun t => pw.getD t 0 / 65536 != 0))
    (fun t s => chargeTile t (slotOf acts t) (pw.getD t 0 / 65536) s) s

/-- Account a closes with reason 10: its queued request is cancelled and its grant ends, with notices (R350). -/
def remapAcct (a : Nat) (s : State) : State :=
  let s := match s.queuedOf a with
    | some q => clampNotice a 6 10 0 q.tag (leaveQueue q s)
    | none => s
  let s := match s.grantOf a with
    | some g => clampNotice a 4 10 0 g.tag (endGrant g s)
    | none => s
  s.putAcct { s.acct a with live := false }

/-- Live accounts whose partition's generation has advanced close (R350). -/
def closeStale (s : State) : State :=
  forEach ((s.cla.accounts.filter (fun x => x.live && x.gen != s.genOf x.part)).map (·.a)) remapAcct s

/-- Live accounts of tiles that a new map moves to another partition close (R350). -/
def closeMoved (new : List Nat) (s : State) : State :=
  forEach ((s.cla.accounts.filter (fun x => x.live &&
    new.getD (x.a / 40) 0xFF != s.cap.tileMap.getD (x.a / 40) 0xFF)).map (·.a)) remapAcct s

/-- One queued request at a scan: granted, passed over, or the end of the scan (R349). The Boolean says that the scan
goes on. -/
def scanOne (q : Queued) (x : State × Bool) : State × Bool :=
  if !x.2 then x
  else
    let s := x.1
    let h := s.holdOf q.a q.g q.window q.burst
    if h = 0 then
      (clampNotice q.a 0 0 q.window q.tag ((grantNow q.a q.g q.window q.tag (leaveQueue q s)).add64 0x7001 4 1), true)
    else
      let s := if h = q.reason then s else dieHold h s
      let s := { s with cla := { s.cla with queue := s.cla.queue.map (fun y => if y.a = q.a then { y with reason := h } else y) } }
      if h != 1 && decide (us (s.pn 0x7000 2) ≤ s.aon.clock - q.since) then (setClampFlag 2 s, false) else (s, true)

/-- The scan of the queue at a boundary. -/
def scanQueue (s : State) : State := (s.cla.queue.foldl (fun x q => scanOne q x) (s, true)).1

/-- What the Clamp does at an estimator boundary after the cap controller has acted. -/
def clampBoundary (acts : List TileAct) (pw : List Nat) (s : State) : State :=
  let s := chargeAll acts pw (clearNotices s)
  if s.enforceOn then updAccr (scanQueue (closeStale s)) else s

/-- A new tile partition map counts from this boundary (R334, R350). -/
def takeMap (s : State) : State :=
  match s.cap.tileMapNext with
  | none => s
  | some m =>
    let s := closeMoved m (syncMoved m s)
    updAccr { s with cap := { s.cap with tileMap := m, tileMapNext := none } }

/-- The baseline check of the live contexts without a grant at a 1 ms instant (R341). -/
def baselineCheck (s : State) : State :=
  let l := s.cla.accounts.filter (fun x => x.live && (s.grantOf x.a).isNone &&
    decide (x.base * 1000 * (100 + s.pn 0x7000 3) / 100 * 1000 < x.msEnergy))
  let s := l.foldl (fun s x => s.bump32 (0x7040 + x.part) 0x0D) s
  { s with cla := { s.cla with accounts := s.cla.accounts.map (fun x => { x with msEnergy := 0 }) } }

/-- Admission ceases (R354): no account is kept and nothing waits; grants hold their tracker entries until they end. -/
def clampStop (s : State) : State :=
  updAccr { s with cla := { s.cla with
    accounts := s.cla.accounts.map (fun x => { x with live := false }), queue := [], resv := 0,
    grants := s.cla.grants.map (fun g => { g with orphan := true, resv := 0 }) } }

/-! Registers and objects (R367, R369, R370). -/

/-- CLAMP_STAT. -/
def State.clampStat (s : State) : Nat :=
  b2n s.enforceOn + 2 * b2n (s.cla.grants.any (fun g => g.resv != 0)) + 2 ^ 8 * s.cla.flags +
    2 ^ 16 * s.tracker + 2 ^ 32 * (min 0xFFFF_FFFF s.kDie)

/-- STATE of an account record. -/
def State.acctState (s : State) (x : Account) : Nat :=
  if !x.live then 0
  else match s.grantOf x.a, s.queuedOf x.a with
    | some _, some _ => 4
    | none, some _ => 3
    | some _, none => 2
    | none, none => 1

/-- The account record of 32 bytes (R369). -/
def State.acctBytes (s : State) (a : Nat) : List Byte :=
  let x := s.acct a
  let g := s.grantOf a
  leBytes 2 a ++ leBytes 1 (s.acctState x) ++ leBytes 1 x.part ++ leBytes 2 x.gen ++ leBytes 2 x.base ++
    leBytes 2 ((g.map (·.g)).getD 0) ++ leBytes 2 (((s.queuedOf a).map (·.g)).getD 0) ++
    leBytes 4 ((g.map (fun g => (g.endAt - s.aon.clock) / 400)).getD 0) ++ leBytes 8 x.energy ++
    leBytes 4 x.overdraws ++ leBytes 4 0

/-- Values of the Clamp's objects that the unit holds. -/
def clampRead (i sub : Nat) (s : State) : Option Int :=
  if i = 0x7000 then
    (if sub = 4 then some s.admitDie else if sub = 5 then some (min 0xFFFF_FFFF s.kDie : Nat)
     else if sub = 6 then some (s.cla.resv % 2 ^ 64 : Nat) else if sub = 7 then some s.tracker else none)
  else if 0x7040 ≤ i && i < 0x7080 then
    let p := i - 0x7040
    if sub = 4 then some (s.cla.accounts.filter (fun x => x.live && x.part = p)).length
    else if sub = 5 then some (min 0xFFFF_FFFF (s.kPart p) : Nat)
    else if sub = 6 then some (s.cla.grants.filter (fun g => (s.acct g.a).part = p)).length
    else if sub = 7 then some (s.cla.queue.filter (fun q => (s.acct q.a).part = p)).length
    else none
  else none

/-- The account record of the selected account. -/
def clampReadDom (i sub : Nat) (s : State) : Option (List Byte) :=
  if i = 0x7000 && sub = 0x0A then some (s.acctBytes (s.pn 0x7000 9)) else none

/-- Writes of the Clamp's objects. -/
def clampWrite (i sub : Nat) (v : Int) (b : List Byte) (s : State) : Except Nat State :=
  let t := storeVal i sub v b s
  if i = 0x7000 && sub = 8 then .ok (if v = 0 then clampStop t else t) else .ok t

end Sys2Proof.Machine
end

