-- ==== Sys2Proof/Machine/DmaLib.lean ====
section
/-! DEFINITION. The DMA engine: descriptors, requests, completion, errors, disabling and the device's own uses (R459 to
R476). -/

namespace Sys2Proof.Machine

open Sys2Proof

/-! The descriptor in the registers (R461, R462). -/

/-- LEN. -/
def DmaCh.len (d : DmaCh) : Nat := bits d.lc 23 0

/-- Bit n of CFG. -/
def DmaCh.cfg (d : DmaCh) (n : Nat) : Bool := bit d.lc (32 + n)

/-- VID. -/
def DmaCh.vid (d : DmaCh) : Nat := bits d.lc 47 40

/-- An end of the transfer: its address, SPACE and FIXED. -/
def DmaCh.srcAddr (d : DmaCh) : Nat := bits d.src 47 0

/-- The destination address. -/
def DmaCh.dstAddr (d : DmaCh) : Nat := bits d.dst 47 0

/-- Check 3 of an end. -/
def fixedBad (fixed : Bool) (addr len : Nat) : Bool := fixed && (addr % 8 != 0 || len % 8 != 0)

/-- Check 4 of an end: a device-window end beyond 0xF_FFFF at its first or its last byte. -/
def windowBad (space fixed : Bool) (addr len : Nat) : Bool :=
  space && (decide (0xFFFFF < addr) || decide (0xFFFFF < addr + (if fixed then 8 else len) - 1))

/-- The first check that fails, 0 for none (R462). -/
def DmaCh.check (d : DmaCh) : Nat :=
  if d.len = 0 then 1
  else if bits d.src 63 48 != 0 || bits d.dst 63 48 != 0 || bits d.lc 31 24 != 0 || bits d.lc 63 48 != 0 ||
      bits d.next 4 0 != 0 || bits d.next 63 48 != 0 then 2
  else if fixedBad (d.cfg 1) d.srcAddr d.len || fixedBad (d.cfg 3) d.dstAddr d.len then 3
  else if windowBad (d.cfg 0) (d.cfg 1) d.srcAddr d.len || windowBad (d.cfg 2) (d.cfg 3) d.dstAddr d.len then 4
  else 0

/-- Owner of channel c (R459). -/
def State.dmaOwner (s : State) (c : Nat) : Nat := s.pn (0x2510 + c) 1

/-- DISABLE of channel c (R471). -/
def State.dmaDisabled (s : State) (c : Nat) : Bool := bit s.dma.disable c

/-- STATE of channel c (R474). -/
def State.dmaState (s : State) (c : Nat) : Nat :=
  let d := s.dmaCh c
  if s.dmaDisabled c && (d.state = 0 || d.state = 3) then 4 else d.state

/-- STATUS bit 8 + n of channel c is set; its set counter is 0x2510 + c, subindex 9 + n (R474, R476). -/
def setDmaFlag (c n : Nat) (s : State) : State :=
  (s.updDma c (fun d => { d with flags := putBit d.flags n true })).bump32 (0x2510 + c) (9 + n)

/-! Halting and ending (R469, R470). -/

/-- A halt: STATUS.HALT, FQ_IRQ, event 0x0C01 and the counts (R469). -/
def dmaHalt (c : Nat) (s : State) : State :=
  let s := s.updDma c (fun d => { d with state := 2 })
  let s := assertIrq ((setDmaFlag c 1 s).bump32 0x2500 4)
  raiseP 0x0C01 0 (s.dmaOwner c) (c + 256 * s.dmaOwner c) ((s.dmaCh c).errAddr % 2 ^ 32) s

/-- The channel's position before its first request. -/
def DmaCh.rewind (d : DmaCh) : DmaCh :=
  { d with rdPos := 0, wrPos := 0, chunkEnd := 0, buf := [], out := [], fetching := 0, fetchGot := [], progBytes := 0,
           preempted := false, ending := 0 }

/-- The descriptor in the registers is checked and started (R462). -/
def dmaBegin (c : Nat) (s : State) : State :=
  let k := (s.dmaCh c).check
  if k = 0 then s.updDma c (fun d => { d.rewind with state := 1 })
  else dmaHalt c (s.updDma c (fun d => { d.rewind with errKind := 2, descCode := k }))

/-- The channel ends with a kind of error; its buffer is discarded (R470). -/
def dmaStop (c kind : Nat) (s : State) : State :=
  s.updDma c (fun d => { d.rewind with state := 3, errKind := kind, progBytes := d.progBytes })

/-- Requests issued and not answered. -/
def DmaCh.waiting (d : DmaCh) : Nat := (d.out.filter (fun r => r.st = 0)).length

/-- A running or halted channel is to end with a kind of error, once its responses are collected (R470). -/
def dmaEnd (c kind : Nat) (s : State) : State :=
  let d := s.dmaCh c
  if d.state = 1 || d.state = 2 then
    if d.waiting = 0 then dmaStop c kind s else s.updDma c (fun d => { d with ending := kind })
  else s

/-! Completion (R468). -/

/-- The channel's signal with a scope; a failed translation is reported on the channel (R450, R468). -/
def dmaSignal (c scope : Nat) (s : State) : State :=
  let o := s.dmaOwner c
  match fabricSignal o (s.dmaCh c).vid scope s with
  | .ok t => t
  | .error _ =>
    let s := (setDmaFlag c 2 (xlateFault o s)).bump32 0x2500 5
    raiseP 0x0C02 0 o (c + 256 * o) 0 s

/-- The descriptor ends: it is counted, signals, raises IRQ and chains (R468). A device use that waits for channel 0 ends the
chain (R475). -/
def dmaDescEnd (c : Nat) (s : State) : State :=
  let d := s.dmaCh c
  let s := (s.updDma c (fun d => { d with progDescs := (d.progDescs + 1) % 2 ^ 40 })).add64 (0x2510 + c) 6 1
  let s := if d.cfg 4 && !d.cfg 5 then dmaSignal c 2 s else s
  let s := if d.cfg 6 then assertIrq (setDmaFlag c 0 s) else s
  if d.cfg 7 && d.hostDue then dmaStop c 3 s
  else if d.cfg 7 && s.dmaDisabled c then dmaStop c 4 s
  else if d.cfg 7 then s.updDma c (fun d => { d with fetching := 4, fetchGot := [] })
  else s.updDma c (fun d => { d with state := 3 })

/-- Take answered requests off the front, in order of issue: data read enters the buffer (R465). -/
def DmaCh.drain : Nat → DmaCh → DmaCh
  | 0, d => d
  | n + 1, d =>
    match d.out with
    | r :: l =>
      if r.st != 1 then d
      else if r.write then DmaCh.drain n { d with out := l }
      else if r.fetch then DmaCh.drain n { d with out := l, fetchGot := d.fetchGot ++ [r.data] }
      else DmaCh.drain n { d with out := l, buf := d.buf ++ ((leBytes 8 r.data).drop r.off).take r.bytes }
    | [] => d

/-- A fetched descriptor of four words enters the registers and starts (R468). -/
def dmaFetched (c : Nat) (s : State) : State :=
  let g := (s.dmaCh c).fetchGot
  dmaBegin c (s.updDma c (fun d => { d with
    src := g.getD 0 0, dst := g.getD 1 0, lc := g.getD 2 0, next := g.getD 3 0 }))

/-- A failed request latches and halts the channel: the earliest in order of issue (R469). A fetch that the fabric answers
ERR_ADDR names a reserved range (R462). -/
def dmaBusError (c : Nat) (r : DReq) (s : State) : State :=
  dmaHalt c (s.updDma c (fun d => { d with
    errKind := 1, errAddr := r.addr, errDir := r.write, errResp := r.code,
    descCode := if r.fetch && r.code = 1 then 5 else d.descCode }))

/-- What follows once a response has been collected. -/
def dmaSettle (c : Nat) (s : State) : State :=
  let d := s.dmaCh c
  if d.ending != 0 then (if d.waiting = 0 then dmaStop c d.ending s else s)
  else match d.out.find? (fun r => r.st = 2) with
    | some r => if d.waiting = 0 && d.state = 1 then dmaBusError c r s else s
    | none =>
      let s := s.updDma c (fun d => d.drain d.out.length)
      let d := s.dmaCh c
      if d.state != 1 then s
      else if d.fetchGot.length = 4 then dmaFetched c s
      else if d.fetching = 0 && d.out.isEmpty && d.fetchGot.isEmpty && d.wrPos = d.len then dmaDescEnd c s
      else s

/-- Request n of channel c is answered with a code and data (R469); a write answered ACK counts its bytes. -/
def dmaAnswer (c n code data : Nat) (s : State) : State :=
  match (s.dmaCh c).out[n]? with
  | some r =>
    if r.st != 0 then s
    else
      let r' := if code = 0 then { r with st := 1, data := if r.write then r.data else data } else { r with st := 2, code := code }
      let s := s.updDma c (fun d => { d with out := d.out.set n r' })
      let s := if r.write && code = 0 then
          ((s.updDma c (fun d => { d with progBytes := (d.progBytes + r.bytes) % 2 ^ 24 })).add64 (0x2510 + c) 7 r.bytes).add64 0x2500 2 r.bytes
        else s
      dmaSettle c s
  | none => s

/-! Issuing (R464 to R467). -/

/-- Address of the word at a position of an end. -/
def wordAddr (fixed : Bool) (addr pos : Nat) : Nat := if fixed then addr else (addr + pos) / 8 * 8

/-- First byte of that word that belongs to the transfer. -/
def wordOff (fixed : Bool) (addr pos : Nat) : Nat := if fixed then 0 else (addr + pos) % 8

/-- The read of the source word at the present position. -/
def DmaCh.readReq (d : DmaCh) : DReq :=
  let o := wordOff (d.cfg 1) d.srcAddr d.rdPos
  { addr := wordAddr (d.cfg 1) d.srcAddr d.rdPos, space := d.cfg 0, off := o, bytes := min (8 - o) (d.len - d.rdPos) }

/-- The write of the destination word at the present position, with only the bytes of the range enabled (R464). -/
def DmaCh.writeReq (d : DmaCh) : DReq :=
  let o := wordOff (d.cfg 3) d.dstAddr d.wrPos
  let n := min (8 - o) (d.len - d.wrPos)
  { write := true, addr := wordAddr (d.cfg 3) d.dstAddr d.wrPos, space := d.cfg 2, off := o, bytes := n,
    data := leVal (d.buf.take n) * 2 ^ (8 * o), strb := (2 ^ n - 1) * 2 ^ o }

/-- A whole destination word is in the buffer. -/
def DmaCh.mayWrite (d : DmaCh) : Bool := decide (d.wrPos < d.len) && decide (d.writeReq.bytes ≤ d.buf.length)

/-- The end of the next chunk: up to 64 words, as the buffer has room (R465). -/
def DmaCh.nextChunk (d : DmaCh) : Nat :=
  let n0 := 8 - wordOff (d.cfg 1) d.srcAddr d.rdPos
  min d.len (d.rdPos + n0 + (if n0 + 504 + d.buf.length ≤ 512 then 504 else 496))

/-- Reads of data that have not been answered or taken off. -/
def DmaCh.reading (d : DmaCh) : Bool := d.out.any (fun r => !r.write)

/-- The next request of a channel and the channel after issuing it: a request to repeat first, then a descriptor fetch, the
reads of the chunk, the writes, and the next chunk. -/
def DmaCh.nextReq (d : DmaCh) : Option (DReq × DmaCh) :=
  match d.out.findIdx? (fun r => r.st = 2) with
  | some n => match d.out[n]? with
    | some r => some (r, { d with out := d.out.set n { r with st := 0 } })
    | none => none
  | none =>
    if d.fetching != 0 then
      let r : DReq := { addr := bits d.next 47 5 * 32 + 8 * (4 - d.fetching), fetch := true, bytes := 8 }
      some (r, { d with fetching := d.fetching - 1, out := d.out ++ [r] })
    else if d.out.any (·.fetch) then none
    else if d.rdPos < d.chunkEnd then
      some (d.readReq, { d with rdPos := d.rdPos + d.readReq.bytes, out := d.out ++ [d.readReq] })
    else if d.mayWrite then
      let r := d.writeReq
      some (r, { d with wrPos := d.wrPos + r.bytes, buf := d.buf.drop r.bytes, out := d.out ++ [r] })
    else if d.rdPos < d.len && !d.reading then
      some (d.readReq, { d with chunkEnd := d.nextChunk, rdPos := d.rdPos + d.readReq.bytes, out := d.out ++ [d.readReq] })
    else none

/-- Share of channel c in 1/64 (R467). -/
def State.dmaShare (s : State) (c : Nat) : Nat := s.pn (0x2510 + c) 3

/-- Channel c has used its share of the window. -/
def State.shareGone (s : State) (c : Nat) : Bool := s.dmaShare c != 64 && decide (16 * s.dmaShare c ≤ (s.dmaCh c).used)

/-- The channel has a request ready (R466). -/
def State.dmaReady (s : State) (c : Nat) : Bool :=
  let d := s.dmaCh c
  d.state = 1 && d.ending = 0 && !(d.out.any (fun r => r.st = 2) && decide (0 < d.waiting) && d.errKind = 0) &&
    decide (d.waiting < 8) && d.nextReq.isSome

/-- The channel is inside a chunk (R466). -/
def DmaCh.inChunk (d : DmaCh) : Bool := decide (d.rdPos < d.chunkEnd) || d.reading || d.mayWrite

/-- Priority of channel c. -/
def State.dmaPrio (s : State) (c : Nat) : Nat := s.pn (0x2510 + c) 2

/-- The channels that take part in arbitration. -/
def State.dmaRunners (s : State) : List Nat := (List.range 16).filter (fun c => s.dmaReady c && !s.shareGone c)

/-- The channel that issues next: the highest priority; among equals the present one within its chunk, else the next in
rotation (R466). -/
def State.dmaPick (s : State) : Option Nat :=
  let l := s.dmaRunners
  let p := l.foldl (fun a c => max a (s.dmaPrio c)) 0
  let l := l.filter (fun c => s.dmaPrio c = p)
  if s.dma.chunkLeft && l.contains s.dma.lastCh then some s.dma.lastCh
  else ((List.range 16).map (fun i => (s.dma.lastCh + 1 + i) % 16)).find? (fun c => l.contains c)

/-- Channel c takes the next slot; a channel of lower priority that held it is pre-empted (R466). -/
def dmaTakeSlot (c : Nat) (s : State) : State :=
  let p := s.dma.lastCh
  let s := if p != c && s.dma.chunkLeft && s.dmaReady p && decide (s.dmaPrio p < s.dmaPrio c) && !(s.dmaCh p).preempted then
      ((s.updDma p (fun d => { d with preempted := true })).bump32 (0x2510 + p) 8).add64 0x2500 3 1
    else s
  { s with dma := { s.dma with lastCh := c } }

/-- Channel c issues its next request, which is counted against its share; in the compatibility mode the last write carries
the signal (R466 to R468). The request is answered with the state. -/
def dmaIssueOn (c : Nat) (s : State) : Option DReq × State :=
  match (s.dmaCh c).nextReq with
  | none => (none, s)
  | some (r, d) =>
    let s := dmaTakeSlot c s
    let s := s.updDma c (fun _ => { d with preempted := false, used := d.used + 1 })
    let s := ((s.add64 0x2500 1 1).count 16 1)
    let d := s.dmaCh c
    let s := { s with dma := { s.dma with chunkLeft := d.inChunk } }
    let s := if r.write && r.st = 0 && d.wrPos = d.len && d.cfg 4 && d.cfg 5 then dmaSignal c 1 s else s
    (some r, s)

/-! The device's own uses (R460). -/

/-- The channel may be named for a table load or a flash write. -/
def State.dmaFree (s : State) (c : Nat) : Bool :=
  ((s.dmaCh c).state = 0 || (s.dmaCh c).state = 3) && s.dmaOwner c = 0 && !s.dmaDisabled c

/-- The device holds channel c for a use. -/
def dmaTake (c use : Nat) (s : State) : State :=
  let s := s.updDma c (fun d => { d with prior := d.state, state := 5, hostDue := false })
  { s with dma := { s.dma with internalFor := kvPut s.dma.internalFor c use } }

/-- The device wants channel 0: it takes it at once, or once the host descriptor has ended. -/
def dmaWant (use : Nat) (s : State) : State :=
  let d := s.dmaCh 0
  if d.state = 5 then { s with dma := { s.dma with internalFor := kvPut s.dma.internalFor 0 use } }
  else if d.state = 0 || d.state = 3 then dmaTake 0 use s
  else s.updDma 0 (fun d => { d with hostDue := true })

/-- A device use of channel c ends. -/
def dmaGive (c : Nat) (s : State) : State :=
  let s := if (s.dmaCh c).state = 5 then s.updDma c (fun d => { d with state := d.prior }) else s.updDma c (fun d => { d with hostDue := false })
  { s with dma := { s.dma with internalFor := kvDel s.dma.internalFor c } }

/-- The device use of a kind ends. -/
def dmaGiveUse (use : Nat) (s : State) : State :=
  match s.dma.internalFor.find? (fun x => x.2 = use) with
  | some x => dmaGive x.1 s
  | none => s

/-- The device holds channel 0 for the hand-over or a reload. -/
def State.dmaHeld0 (s : State) : Bool := (s.dmaCh 0).state = 5

/-! Registers and objects (R471 to R476). -/

/-- A write of CTRL; the answer is the response code (R473). -/
def dmaCtrl (c w : Nat) (s : State) : Nat × State :=
  let d := s.dmaCh c
  if bit w 0 && (bit w 1 || bit w 2) || bit w 1 && bit w 2 then (2, s)
  else if d.state = 5 then (4, s)
  else if bit w 0 then
    if s.dmaDisabled c || d.state = 1 then (4, s)
    else (0, dmaBegin c (s.updDma c (fun d => { d with errKind := 0, errDir := false, errResp := 0, descCode := 0, errAddr := 0 })))
  else if bit w 1 then
    if s.dmaDisabled c then (4, s)
    else if d.state = 2 then
      (0, if d.errKind = 2 then dmaBegin c s else s.updDma c (fun d => { d with state := 1 }))
    else (0, s)
  else if bit w 2 then (0, dmaEnd c 3 s)
  else (0, s)

/-- The word written over a register with the enabled bytes (R22). -/
def mergeBytes (old w strb : Nat) : Nat :=
  leVal ((leBytes 8 old).mapIdx (fun k b => if bit strb k then (leBytes 8 w).getD k 0 else b))

/-- A write of a channel register; the answer is the response code (R472). -/
def dmaRegWrite (c off w strb : Nat) (s : State) : Nat × State :=
  let d := s.dmaCh c
  let desc := d.state = 0 || d.state = 3 || d.state = 2
  let now := s.dmaState c
  if d.state = 5 then (4, s)
  else if off < 0x20 then
    if !desc || now = 4 then (4, s)
    else if off = 0 then (0, s.updDma c (fun d => { d with src := mergeBytes d.src w strb }))
    else if off = 8 then (0, s.updDma c (fun d => { d with dst := mergeBytes d.dst w strb }))
    else if off = 0x10 then (0, s.updDma c (fun d => { d with lc := mergeBytes d.lc w strb }))
    else (0, s.updDma c (fun d => { d with next := mergeBytes d.next w strb }))
  else if off = 0x20 then (if bit strb 0 then dmaCtrl c (w % 8) s else (0, s))
  else if off = 0x28 then
    (0, if bit strb 1 then s.updDma c (fun d => { d with flags := w1c 3 d.flags (bits w 10 8) }) else s)
  else (0, s)

/-- STATUS of channel c (R474). -/
def State.dmaStatus (s : State) (c : Nat) : Nat :=
  let d := s.dmaCh c
  let held := d.state = 1 && s.shareGone c && d.nextReq.isSome
  s.dmaState c + 8 * b2n d.preempted + 16 * b2n held + 256 * d.flags + 2 ^ 16 * d.errKind + 2 ^ 19 * b2n d.errDir +
    2 ^ 20 * d.errResp + 2 ^ 24 * d.descCode + 2 ^ 32 * d.waiting

/-- A channel register (R472). -/
def State.dmaReg (s : State) (c off : Nat) : Nat :=
  let d := s.dmaCh c
  if off = 0 then d.src
  else if off = 8 then d.dst
  else if off = 0x10 then d.lc
  else if off = 0x18 then d.next
  else if off = 0x28 then s.dmaStatus c
  else if off = 0x30 then d.errAddr / 8 * 8
  else if off = 0x38 then d.progBytes + 2 ^ 24 * d.progDescs
  else 0

/-- DMA_CTL (R471). -/
def State.dmaCtl (s : State) : Nat :=
  s.dma.disable + 2 ^ 32 * maskOf ((List.range 16).filter (fun c => let d := s.dmaCh c; d.state = 1 || d.state = 2 || d.state = 5))

/-- A write of DMA_CTL: channels newly disabled end (R470, R471). -/
def dmaCtlPut (w strb : Nat) (s : State) : State :=
  let new := mergeBytes s.dma.disable w strb % 65536
  let s := { s with dma := { s.dma with disable := new } }
  forEach (bitsOf 16 new) (fun c s => dmaEnd c 4 s) s

/-- The channels of partition p end with its generation (R470, R555). -/
def dmaGeneration (p : Nat) (s : State) : State :=
  forEach ((List.range 16).filter (fun c => s.dmaOwner c = p)) (fun c s => dmaEnd c 5 s) s

/-- Numbers of 0x2500 to 0x251F that are not stored. -/
def dmaRead (i sub : Nat) (s : State) : Option Int :=
  if 0x2510 ≤ i && i < 0x2520 then
    let c := i - 0x2510
    if sub = 4 then some (s.dmaState c : Nat)
    else if sub = 5 then
      some ((match kvGet s.dma.internalFor c with
        | some u => if u ≤ 1 then u else u - 1
        | none => 0 : Nat) : Int)
    else none
  else none

/-- Writes of 0x2510 to 0x251F (R475). -/
def dmaWrite (i sub : Nat) (v : Int) (b : List Byte) (s : State) : Except Nat State :=
  if 0x2510 ≤ i && i < 0x2520 && sub = 1 then
    let d := s.dmaCh (i - 0x2510)
    needState (d.state = 0 || d.state = 3) (.ok (storeVal i sub v b s))
  else .ok (storeVal i sub v b s)

end Sys2Proof.Machine
end

