-- ==== Sys2Proof/Machine/DowelLib.lean ====
section
/-! DEFINITION. The Dowel engines: pinned and background tasks, jigs and their images, update in service and watchdogs
(R406 to R433). -/

namespace Sys2Proof.Machine

open Sys2Proof

/-! Engines and tasks (R406 to R410). -/

/-- The partner of engine e (R406). -/
def partner (e : Nat) : Nat := 4 * (e / 4) + (e + 1) % 4

/-- Engine e runs tasks. -/
def State.engRuns (s : State) (e : Nat) : Bool := (s.engine e).state = 1

/-- The engine that jig j is pinned to. -/
def State.jigEng (s : State) (j : Nat) : Nat := s.pn (0x2310 + j) 2

/-- The engine that carries a pinned task of engine e. -/
def carrier (e : Nat) (onPartner : Bool) : Nat := if onPartner then partner e else e

/-- A pinned activation that runs now is carried by engine e (R407). -/
def State.pinBusy (s : State) (e : Nat) : Bool :=
  (s.dowel.jigs.zipIdx.any (fun x => x.1.active && decide (carrier (s.jigEng x.2) x.1.onPartner = e))) ||
    s.dowel.pins.any (fun p => p.late && decide (carrier p.eng p.onPartner = e))

/-- Pinned tasks on engine e, those of its partner that it carries included (R431). -/
def State.pinnedOn (s : State) (e : Nat) : Nat :=
  (s.dowel.jigs.zipIdx.filter (fun x => x.1.state = 2 && decide (carrier (s.jigEng x.2) x.1.onPartner = e))).length +
    (s.dowel.pins.filter (fun p => carrier p.eng p.onPartner = e)).length

/-- The engine's deque is the longest of its group among the others, ties to the lower number (R408). -/
def State.victim (s : State) (e : Nat) : Option Nat :=
  let l := ([0, 1, 2, 3].map (fun i => 4 * (e / 4) + i)).filter (fun v => v != e && !(s.engine v).deque.isEmpty)
  l.foldl (fun b v => match b with
    | none => some v
    | some w => if (s.engine w).deque.length < (s.engine v).deque.length then some v else some w) none

/-- An idle engine takes from the overflow queue, or steals the tail of the longest deque of its group (R408, R409). -/
def engineSteal (e : Nat) (s : State) : State :=
  match s.dowel.overflow with
  | t :: l => ({ s with dowel := { s.dowel with overflow := l } } : State).updEngine e (fun g => { g with running := some t })
  | [] => match s.victim e with
    | some v => match (s.engine v).deque.getLast? with
      | some t =>
        let s := s.updEngine v (fun g => { g with deque := g.deque.dropLast })
        (s.updEngine e (fun g => { g with running := some t })).add64 0x2300 5 1
      | none => s
    | none => s

/-- A task that engine e spawns: its own deque, the overflow queue, or inline (R409). A draining engine takes none (R423). -/
def taskSpawn (e task : Nat) (s : State) : State :=
  if (s.engine e).deque.length < 64 && (s.engine e).state = 1 then s.updEngine e (fun g => { g with deque := task :: g.deque })
  else if s.dowel.overflow.length < 1024 then { s with dowel := { s.dowel with overflow := s.dowel.overflow ++ [task] } }
  else s.bump32 0x2300 4

/-! Jig images (R411, R412, R418). -/

/-- The fields of an operation word (R412). -/
def opOf (w : Nat) : Nat := bits w 5 0

/-- IMM of a word. -/
def immOf (w : Nat) : Nat := bits w 63 32

/-- The operation words of an image. -/
def imageWords (b : List Byte) : List Nat := (List.range ((b.length - 64) / 8)).map (fun w => leAt b (64 + 8 * w) 8)

/-- Check 1: the header (R411). -/
def jigHeaderOk (b : List Byte) : Bool :=
  let ops := leAt b 8 2
  leAt b 0 4 = 0x4A49_0E02 && leAt b 4 2 = 0x0200 && leAt b 6 2 = 64 && decide (1 ≤ ops) && decide (ops ≤ 504) &&
    decide (leAt b 0x0A 2 ≤ 128) && decide (1 ≤ leAt b 0x0C 4) && decide (leAt b 0x0C 4 ≤ 100000) &&
    decide (leAt b 0x10 2 ≤ 64) && leAt b 0x12 2 = 0 && leAt b 0x1C 32 = 0 && b.length = 64 + 8 * ops &&
    leAt b 0x3C 4 = crc32 (b.take 0x3C ++ b.drop 64)

/-- The word is a branch or a jump (R414). -/
def isBranch (w : Nat) : Bool := decide (0x1D ≤ opOf w) && decide (opOf w ≤ 0x22)

/-- The word names an object. -/
def isObjOp (w : Nat) : Bool := opOf w = 0x29 || opOf w = 0x2A

/-- The code of the first check that fails, 0 for none (R418). -/
def jigImageCheck (b : List Byte) : Nat :=
  let l := imageWords b
  if !jigHeaderOk b then 1
  else if l.any (fun w => decide (0x2F < opOf w) || bits w 7 6 != 0 || bits w 31 26 != 0) then 2
  else if l.any (fun w => isBranch w && decide (l.length ≤ immOf w)) then 3
  else if l.any (fun w => isObjOp w && bits w 39 32 != 0) then 4
  else 0

/-- An accepted load of jig j: data words and counts clear (R418). -/
def jigLoad (j : Nat) (b : List Byte) (s : State) : State :=
  let s := s.updJig j (fun _ => {
    state := 1, image := imageWords b, rawImage := b, stepLimit := leAt b 0x0C 4,
    objLimit := leAt b 0x10 2, jigId := leAt b 0x14 8 })
  ((((s.put (0x2310 + j) 8 0).put (0x2310 + j) 0x0B 0).put (0x2310 + j) 0x0C 0).put (0x2310 + j) 0x0D 0)

/-! Starting and stopping (R416 to R420). -/

/-- An object that firmware owns (R96, R116). -/
def fwOwned (i sub : Nat) : Bool :=
  match dictRow i sub with
  | some r => r.own = 13 || r.own = 14
  | none => false

/-- Index and subindex that IMM names (R416). -/
def objOf (imm : Nat) : Nat × Nat := (bits imm 31 16, bits imm 15 8)

/-- The objects that no jig may write (R416). -/
def jigBarred (i sub : Nat) : Bool :=
  (decide (0x1000 ≤ i) && decide (i < 0x2000)) || (decide (0x2100 ≤ i) && decide (i < 0x2200)) ||
    (decide (0x2300 ≤ i) && decide (i < 0x2320)) || (i = 0x3000 && sub = 6) || (i = 0x3001 && sub = 9) ||
    (decide (0x3100 ≤ i) && decide (i < 0x3106) && sub = 0x13) ||
    (decide (0x3200 ≤ i) && decide (i < 0x3210) && (sub = 1 || sub = 2)) ||
    (decide (0x4100 ≤ i) && decide (i < 0x4200) && sub = 1) || (i = 0x6004 && (sub = 3 || sub = 4)) || i = 0x8010

/-- The permit list of jig j as (index, subindex). -/
def State.permits (s : State) (j : Nat) : List (Nat × Nat) :=
  let b := (s.dom (0x2310 + j) 5).getD []
  (List.range (b.length / 4)).map (fun k => (leAt b (4 * k) 2, leAt b (4 * k + 2) 1))

/-- Jig j may write the object (R416). -/
def State.jigMayWrite (s : State) (j i sub : Nat) : Bool :=
  (match dictRow i sub with
    | some r => r.code 3 = 2 || r.code 3 = 3
    | none => false) && (s.permits j).contains (i, sub) && !jigBarred i sub

/-- W of a jig in ns (R419). -/
def Jig.cost (g : Jig) : Nat :=
  let slow := g.image.any (fun w => isObjOp w && fwOwned (objOf (immOf w)).1 (objOf (immOf w)).2)
  g.stepLimit * 100 + g.objLimit * (if slow then 470000 else 270000)

/-- The sum of W / period over a list of jigs stays within 50 % (R419): numerator and denominator. -/
def State.loadSum (s : State) (l : List Nat) : Nat × Nat :=
  l.foldl (fun a j =>
    let p := s.pn (0x2310 + j) 3 * 1000
    (a.1 * p + (s.jig j).cost * a.2, a.2 * p)) (0, 1)

/-- The conditions of a start of jig j (R419). -/
def State.jigMayStart (s : State) (j : Nat) : Bool :=
  let g := s.jig j
  let e := s.jigEng j
  let l := (List.range 16).filter (fun k => k = j || ((s.jig k).state = 2 && s.jigEng k = e))
  let q := s.loadSum l
  g.state != 0 && g.state != 2 && decide (16 ≤ e) && decide (e < 32) && (s.engine e).state != 5 &&
    !g.image.any (fun w => opOf w = 0x2A && !s.jigMayWrite j (objOf (immOf w)).1 (objOf (immOf w)).2) &&
    decide (g.cost ≤ s.pn (0x2310 + j) 4 * 1000) && decide (2 * q.1 ≤ q.2)

/-- Jig j starts: its first activation falls at the next instant of its period (R419). -/
def jigGo (j : Nat) (s : State) : State :=
  let p := us (s.pn (0x2310 + j) 3)
  let n := (s.aon.clock / p + 1) * p
  s.updJig j (fun g => { g with state := 2, active := false, nextAt := n, badRun := 0, onPartner := false })

/-- The posts of jig j are withdrawn. -/
def jigUnpost (j : Nat) (s : State) : State := updAccr (s.updJig j (fun g => { g with post3 := none, post4 := none }))

/-- Data words written while an activation ran come into force (R429). -/
def Jig.settle (g : Jig) : Jig :=
  match g.dataNext with
  | some d => { g with data := d, dataNext := none }
  | none => g

/-- Jig j stops (R420, R429). -/
def jigHalt (j : Nat) (s : State) : State := jigUnpost j (s.updJig j (fun g => { g.settle with state := 1, active := false }))

/-- Jig j stops with a fault at the present word (R420). -/
def jigFault (j code : Nat) (s : State) : State :=
  let w := (s.jig j).pc
  let s := s.updJig j (fun g => { g.settle with state := 3, active := false, faultCode := code, faultWord := w })
  raise 0x0E06 1 (j + 256 * code + 65536 * w) 0 (setDowelFlag 2 (jigUnpost j s))

/-! Activations (R407, R410). -/

/-- An activation becomes a miss or an overrun; the sixteenth in a row faults the jig (R420). -/
def jigBad (j : Nat) (s : State) : State :=
  if (s.jig j).bad then s else
    let s := s.updJig j (fun g => { g with bad := true, badRun := g.badRun + 1 })
    if 16 ≤ (s.jig j).badRun then jigFault j 8 s else s

/-- An instant of jig j's period: an activation starts, or is skipped while one runs (R410). -/
def jigActivate (j : Nat) (s : State) : State :=
  let p := us (s.pn (0x2310 + j) 3)
  let t := (s.jig j).nextAt
  let s := advanceTo t s
  if (s.jig j).active then
    jigBad j ((s.updJig j (fun g => { g with nextAt := t + p })).bump32 (0x2310 + j) 0x0D)
  else
    let tk := s.tick
    let away := !s.engRuns (s.jigEng j)
    let s := s.updJig j (fun g => { g with
      active := true, regs := List.replicate 16 0, pc := 0, steps := 0, objs := 0, missed := false, bad := false,
      gap := g.prevStart.map (fun q => tk - q), prevStart := some tk, actStart := tk, startAt := t, nextAt := t + p,
      onPartner := away })
    s.put (0x2310 + j) 0x0B ((s.num (0x2310 + j) 0x0B + 1) % 2 ^ 64)

/-- The activation of jig j ends (R410, R433). -/
def jigEnd (j : Nat) (s : State) : State :=
  let g := s.jig j
  let ns := (s.aon.clock - 4 * g.actStart) * 5 / 2
  s.updJig j (fun g => { g.settle with
    active := false, badRun := if g.bad then g.badRun else 0, longest := max g.longest (min 0xFFFF_FFFF ns) })

/-- Jig j's activation passes its deadline (R410). -/
def jigMiss (j : Nat) (s : State) : State :=
  let s := advanceTo ((s.jig j).startAt + us (s.pn (0x2310 + j) 4)) s
  let s := s.updJig j (fun g => { g with missed := true })
  jigBad j (setDowelFlag 1 (s.bump32 (0x2310 + j) 0x0C))

/-- A firmware task that shows itself for the first time: its engine among 0 to 15, period and deadline are firmware's
own. -/
def newPin (id fr now : Nat) : PinTask :=
  let p := (Config.freeValue fr).toNat % 1000000 + 1
  { id := id, eng := (Config.freeValue (fr + 1)).toNat % 16, period := p,
    deadline := (Config.freeValue (fr + 2)).toNat % p + 1, nextAt := now }

/-- An instant of a firmware task: an activation starts, or is skipped while a late one still runs (R410). -/
def PinTask.activate (away : Bool) (t : PinTask) : PinTask :=
  if t.late then { t with late := false, startAt := none, skips := min 0xFFFF_FFFF (t.skips + 1), nextAt := t.nextAt + 4 * t.period }
  else { t with startAt := some t.nextAt, nextAt := t.nextAt + 4 * t.period, onPartner := away }

/-- The list of pinned tasks holds the task. -/
def withPin (id : Nat) (s : State) : State :=
  if s.dowel.pins.any (fun p => p.id = id) then s
  else
    let n := newPin id s.free s.aon.clock
    { s with free := s.free + 3, dowel := { s.dowel with pins := s.dowel.pins ++ [n] } }

/-- An instant of firmware task `id`. -/
def pinActivate (id : Nat) (s : State) : State :=
  let s := withPin id s
  match s.dowel.pins.find? (fun p => p.id = id) with
  | some p =>
    let s := advanceTo p.nextAt s
    let away := !s.engRuns p.eng
    let l := s.dowel.pins.map (fun q => if q.id = id then q.activate away else q)
    let s := { s with dowel := { s.dowel with pins := l } }
    if p.late then s.bump32 0x2300 0x0B else s
  | none => s

/-- A firmware task's activation passes its deadline. -/
def pinMiss (id : Nat) (s : State) : State :=
  match s.dowel.pins.find? (fun p => p.id = id && !p.late && p.startAt.isSome) with
  | some p =>
    let s := advanceTo (p.startAt.getD 0 + 4 * p.deadline) s
    let l := s.dowel.pins.map (fun q => if q.id = id then { q with late := true, misses := min 0xFFFF_FFFF (q.misses + 1) } else q)
    setDowelFlag 1 (({ s with dowel := { s.dowel with pins := l } } : State).bump32 0x2300 0x0A)
  | none => s

/-! Operation words (R413, R414). -/

/-- The word about to execute; the one after the last executes as END (R413). -/
def State.jigWord (s : State) (j : Nat) : Nat := (s.jig j).image.getD (s.jig j).pc 0x23

/-- The word carries the operation and the operands that the operation has (R412). -/
def wordIs (w op : Nat) (d a b sh : Option Nat) (imm : Option (BitVec 32)) : Bool :=
  opOf w = op && (match d with
    | some x => bits w 11 8 = x
    | none => true) && (match a with
    | some x => bits w 15 12 = x
    | none => true) && (match b with
    | some x => bits w 19 16 = x
    | none => true) && (match sh with
    | some x => bits w 25 20 = x
    | none => true) && (match imm with
    | some x => immOf w = x.toNat
    | none => true)

/-- Jig j is about to execute the operation: it runs, and no request of its own is outstanding (R407, R115, R429). -/
def State.jigAt (s : State) (j op : Nat) (d a b sh : Option Nat) (imm : Option (BitVec 32)) : Bool :=
  (s.jig j).state = 2 && (s.jig j).active && !s.obs.standing && (s.cl.jig.getD j {}).pend.isNone && wordIs (s.jigWord j) op d a b sh imm

/-- Register n. -/
def Jig.reg (g : Jig) (n : Nat) : BitVec 64 := g.regs.getD n 0

/-- The register as an integer. -/
def Jig.int (g : Jig) (n : Nat) : Int := (g.reg n).toInt

/-- The jig with register n set. -/
def Jig.setReg (g : Jig) (n : Nat) (v : BitVec 64) : Jig := { g with regs := g.regs.set n v }

/-- An integer as a register holds it, saturated (R413). -/
def sat64 (v : Int) : BitVec 64 := BitVec.ofInt 64 (clampI (-(2 ^ 63)) (2 ^ 63 - 1) v)

/-- The integer lies outside 64 bits. -/
def overflows (v : Int) : Bool := decide (v < -(2 ^ 63)) || decide (2 ^ 63 - 1 < v)

/-- The jig with register n set to an exact result, a saturation being counted (R413). -/
def Jig.setInt (g : Jig) (n : Nat) (v : Int) : Jig :=
  { g.setReg n (sat64 v) with sats := if overflows v then min 0xFFFF_FFFF (g.sats + 1) else g.sats }

/-- round(v >> SH) (R413). -/
def roundShift (v : Int) (sh : Nat) : Int := if sh = 0 then v else (v + 2 ^ (sh - 1)) / 2 ^ sh

/-- A word has been executed: it counts one step, and the step limit without END faults the jig (R413, R420). -/
def jigCount (j : Nat) (s : State) : State :=
  if (s.jig j).stepLimit ≤ (s.jig j).steps + 1 then jigFault j 1 s
  else s.updJig j (fun g => { g with steps := g.steps + 1 })

/-- A word that changes registers and data and continues with the next word. -/
def jigDo (j : Nat) (f : Jig → Jig) (s : State) : State :=
  let w := (s.jig j).pc
  let s := jigCount j (s.updJig j f)
  s.updJig j (fun g => { g with pc := w + 1 })

/-- A word that continues at a target or with the next word. -/
def jigGoto (j : Nat) (c : Bool) (imm : BitVec 32) (s : State) : State :=
  let w := (s.jig j).pc
  (jigCount j s).updJig j (fun g => { g with pc := if c then imm.toNat else w + 1 })

/-- The live value that IMM of RDTEL names; none where kind or item is out of range (R415). -/
def State.live (s : State) (imm : Nat) : Option Int :=
  let kind := bits imm 31 24
  let n := bits imm 15 0
  if kind = 0 then some s.tick
  else if kind = 1 then (if n < 6 then some (s.rail n).vout else none)
  else if kind = 2 then (if n < 6 then some ((s.rail n).iRail / 40960) else none)
  else if kind = 3 then (if n < s.inst.gauges then some (s.mapEntry n) else none)
  else if kind = 4 then some s.cap.pDie
  else if kind = 5 then
    (if n < 6 then some (match s.predAt n s.aon.clock with
      | some i => i * 10 / 256
      | none => 0) else none)
  else if kind = 6 then (if n < 256 then some (s.region n).mon else none)
  else if kind = 7 then (if n < 64 then some (s.partEst n).pw else none)
  else if kind = 8 then (if n < 16 then some (s.group n).hot else none)
  else none

/-! Firmware: starting, update in service and watchdogs (R421 to R428). -/

/-- Every engine that is not off runs (R72, R427). -/
def enginesStart (s : State) : State :=
  let l := s.dowel.engines.map (fun e => { e with state := if e.state = 5 then 5 else 1, new := false, running := none })
  { s with dowel := { s.dowel with engines := l } }

/-- The next engine of an update in ascending order after `from`, skipping engines that are off (R423). -/
def State.nextUp (s : State) (start : Nat) : Option Nat :=
  (List.range 32).find? (fun e => decide (start ≤ e) && (s.engine e).state != 5)

/-- The next engine of a rollback: the highest that runs the new image (R424). -/
def State.nextBack (s : State) : Option Nat :=
  ((List.range 32).reverse).find? (fun e => (s.engine e).new && (s.engine e).state != 5)

/-- Engine e starts to drain (R423). -/
def startDrain (e : Nat) (s : State) : State :=
  let now := s.aon.clock
  let s := s.updEngine e (fun g => { g with state := 2, stepAt := now })
  { s with dowel := { s.dowel with updEng := some e } }

/-- Pinned tasks of engine e move to its partner (R423, R427). -/
def movePins (e : Nat) (s : State) : State :=
  let js := s.dowel.jigs.mapIdx (fun j g => if s.jigEng j = e then { g with onPartner := true } else g)
  let ps := s.dowel.pins.map (fun p => if p.eng = e then { p with onPartner := true } else p)
  { s with dowel := { s.dowel with jigs := js, pins := ps } }

/-- The running background task of engine e returns to the tail of the partner's deque (R423). -/
def moveRunning (e : Nat) (s : State) : State :=
  match (s.engine e).running with
  | some t => (s.updEngine e (fun g => { g with running := none })).updEngine (partner e) (fun g => { g with deque := g.deque ++ [t] })
  | none => s

/-- The new image runs on every engine (R423). -/
def updateComplete (s : State) : State :=
  let now := s.aon.clock
  let img := s.dowel.newImg
  let slot := s.aon.slotUsed
  let l := s.dowel.engines.map (fun e => if e.state = 5 then { e with state := 1, new := true } else e)
  let s := { s with
    aon := { s.aon with imgState := 4 },
    dowel := { s.dowel with
      updating := false, updEng := none, updLastAt := some now, oldImg := s.dowel.runImg, oldSlot := s.dowel.runSlot,
      runImg := img, runSlot := slot, engines := l } }
  raise 0x0E04 0 0 0 (setDowelFlag 3 s)

/-- A rollback has ended: the previous image runs (R424). -/
def rollbackEnd (s : State) : State :=
  let l := s.dowel.engines.map (fun e => { e with new := false })
  let s := { s with aon := { s.aon with imgState := 4 },
                    dowel := { s.dowel with updating := false, rollback := false, updEng := none, updLastAt := none, engines := l } }
  raise 0x0E05 1 0 0 (setDowelFlag 4 s)

/-- The next engine of a rollback drains, or the rollback ends. -/
def rollbackNext (s : State) : State :=
  match s.nextBack with
  | some e => startDrain e s
  | none => rollbackEnd s

/-- An update rolls back for a cause (0x2300.06). After a completed update the previous image becomes the running one
again. -/
def rollbackStart (cause : Nat) (s : State) : State :=
  let done := !s.dowel.updating
  let old := s.dowel.oldImg
  let oldS := s.dowel.oldSlot
  let s := if done then { s with dowel := { s.dowel with runImg := old, runSlot := oldS } } else s
  rollbackNext (({ s with dowel := { s.dowel with updating := true, rollback := true, updLastAt := none } } : State).put 0x2300 6 cause)

/-- An update ends at once for a cause, with no engine changed. -/
def updateFail (cause : Nat) (s : State) : State :=
  setDowelFlag 4 (({ s with dowel := { s.dowel with updating := false, updEng := none } } : State).put 0x2300 6 cause)

/-- The engines begin to take the new image one by one (R423). -/
def updateBegin (s : State) : State :=
  let l := s.dowel.engines.map (fun e => { e with new := false })
  let s := ({ s with dowel := { s.dowel with updating := true, engines := l } } : State).put 0x2300 6 0
  match s.nextUp 0 with
  | some e => startDrain e s
  | none => updateComplete s

/-- Engine e has drained (R423). -/
def drainDone (e : Nat) (s : State) : State :=
  let now := s.aon.clock
  (moveRunning e (movePins e s)).updEngine e (fun g => { g with state := 3, stepAt := now })

/-- Engine e has its image; it starts (R423, R427). -/
def reloadDone (e : Nat) (s : State) : State :=
  let now := s.aon.clock
  s.updEngine e (fun g => { g with state := 4, stepAt := now })

/-- Engine e runs; the next engine of an update or a rollback follows (R423, R424). -/
def startDone (e : Nat) (s : State) : State :=
  let now := s.aon.clock
  let back := s.dowel.rollback
  let mine := s.dowel.updEng = some e
  let s := s.updEngine e (fun g => { g with state := 1, new := if mine then !back else g.new })
  if !mine then s
  else if back then rollbackNext s
  else match s.nextUp (e + 1) with
    | some n => startDrain n s
    | none => updateComplete s

/-- The drain of engine e exceeds its limit: the update rolls back and the engine goes on with its image. -/
def drainTimeout (e : Nat) (s : State) : State :=
  let s := advanceTo ((s.engine e).stepAt + us 500) s
  rollbackStart 2 (s.updEngine e (fun g => { g with state := 1 }))

/-- The start of engine e exceeds its limit: the update rolls back, engine e included. -/
def startTimeout (e : Nat) (s : State) : State :=
  let s := advanceTo ((s.engine e).stepAt + us 50) s
  rollbackStart 3 (s.updEngine e (fun g => { g with new := true }))

/-- An activation of a jig on engine e is abandoned and counts as a miss (R427). -/
def abandonOn (e : Nat) (s : State) : State :=
  forEach ((List.range 16).filter (fun j => (s.jig j).active && decide (carrier (s.jigEng j) (s.jig j).onPartner = e))) (fun j s =>
    let s := if (s.jig j).missed then s else setDowelFlag 1 (s.bump32 (0x2310 + j) 0x0C)
    let s := jigBad j s
    s.updJig j (fun g => { g.settle with active := false })) s

/-- Engine e's watchdog expires (R427, R424, R429). -/
def engineWatchdog (e : Nat) (s : State) : State :=
  let now := s.aon.clock
  let h := (now :: (s.engine e).wdogHist).filter (fun t => decide (now < t + ms 1000))
  let s := setDowelFlag 0 (raise 0x0E01 1 e 0 (movePins e (abandonOn e s)))
  let s := s.updEngine e (fun g => { g with running := none, wdogCnt := min 65535 (g.wdogCnt + 1), wdogHist := h })
  if 3 ≤ h.length then
    let s := raise 0x0E02 1 e 0 (s.updEngine e (fun g => { g with state := 5 }))
    if s.dowel.updating && !s.dowel.rollback then rollbackStart 4 s else s
  else
    let recent := match s.dowel.updLastAt with
      | some t => (s.engine e).new && decide (now < t + ms 10)
      | none => false
    let s := s.updEngine e (fun g => { g with state := 3, stepAt := now, new := g.new })
    if (s.dowel.updating && !s.dowel.rollback) || recent then rollbackStart 4 s else s

/-! Objects and registers (R430 to R433). -/

/-- DOWEL_STAT (R430). -/
def State.dowelStat (s : State) : Nat :=
  let off := maskOf ((List.range 32).filter (fun e => (s.engine e).state = 5))
  b2n s.dowel.updating + 2 * b2n s.dowel.rollback + 4 * s.dowel.runSlot + 256 * s.dowel.flags +
    65536 * (s.dowel.engines.filter (fun e => e.state = 1)).length + 2 ^ 32 * off

/-- ENG_STAT[e] (R431); LOAD is firmware's own. -/
def State.engStat (s : State) (e : Nat) : Nat :=
  let g := s.engine e
  let load := if g.state = 1 then (Config.freeValue (s.free + e)).toNat % 1001 else 0
  (if s.obs.stopped && g.state = 1 then 6 else g.state) + 8 * b2n (g.new && s.dowel.updating) + 256 * g.deque.length +
    65536 * s.pinnedOn e + 2 ^ 32 * load + 2 ^ 48 * g.wdogCnt

/-- A data word's bytes. -/
def dataBytes (l : List (BitVec 64)) : List Byte := (l.map (fun w => leBytes 8 w.toNat)).flatten

/-- Numbers of 0x2300 to 0x231F that are not stored. -/
def dowelRead (i sub : Nat) (s : State) : Option Int :=
  if i = 0x2300 then
    if sub = 1 then some (maskOf ((List.range 32).filter (fun e => (s.engine e).state = 1)) : Nat)
    else if sub = 2 then some (maskOf ((List.range 32).filter (fun e => (s.engine e).state = 5)) : Nat)
    else if sub = 3 then some (s.dowel.overflow.length : Nat)
    else none
  else if i = 0x2301 then
    if sub = 5 then some (s.flash.imgCopy : Nat) else if sub = 6 then some (s.flash.imgErr : Nat) else none
  else if 0x2310 ≤ i && i < 0x2320 then
    let g := s.jig (i - 0x2310)
    if sub = 7 then some (g.state : Nat)
    else if sub = 9 then some (g.faultCode : Nat)
    else if sub = 0x0A then some (g.faultWord : Nat)
    else if sub = 0x10 then some (g.longest : Nat)
    else if sub = 0x11 then some (g.sats : Nat)
    else if sub = 0x12 then some (g.jigId : Nat)
    else none
  else none

/-- Octets of 0x2310 to 0x231F. -/
def dowelReadDom (i sub : Nat) (s : State) : Option (List Byte) :=
  if 0x2310 ≤ i && i < 0x2320 then
    if sub = 1 then some (s.jig (i - 0x2310)).rawImage
    else if sub = 0x0E then some (dataBytes (s.jig (i - 0x2310)).data)
    else none
  else none

/-- A write of control code v of jig j (R419, R420, R433). -/
def jigControl (j : Nat) (v : Int) (s : State) : Except Nat State :=
  if v = 1 then needState (s.jigMayStart j) (.ok (jigGo j s))
  else if v = 2 then needState ((s.jig j).state = 2) (.ok (jigHalt j s))
  else needState ((s.jig j).state != 2)
    (.ok (s.updJig j (fun g => { g with state := if g.state = 0 then 0 else 1, data := List.replicate 128 0, dataNext := none })))

/-- A write of the data words of jig j (R413, R429). -/
def jigData (j : Nat) (b : List Byte) (s : State) : State :=
  let d := (List.range 128).map (fun k => BitVec.ofNat 64 (leAt b (8 * k) 8))
  s.updJig j (fun g => if g.active then { g with dataNext := some d } else { g with data := d })

/-- A start of a flash image write (R422). -/
def flashImageStart (s : State) : Except Nat State :=
  let slot := s.pn 0x2301 3
  let active := s.hdrUse.active
  if s.noFlash then .error 0x060E
  else needState (slot != active && slot != s.dowel.runSlot && s.dowel.flashCopy.isNone)
    (let c := (s.pn 0x2301 1, s.pn 0x2301 2, slot)
     let f := if slot = 1 then { s.flash with imgA := {}, imgCopy := 1, imgErr := 0 } else { s.flash with imgB := {}, imgCopy := 1, imgErr := 0 }
     .ok { s with dowel := { s.dowel with flashCopy := some c }, flash := f })

/-- The flash image copy ends: with an error code, or with the image it wrote (R422). -/
def flashImageEnd (err : Nat) (img : Image) (s : State) : State :=
  match s.dowel.flashCopy with
  | some (_, _, slot) =>
    let s := flashDone (err != 2 && err != 3) s
    let f := if err != 0 then { s.flash with imgCopy := 3, imgErr := err }
      else if slot = 1 then { s.flash with imgA := img, imgCopy := 2, imgErr := 0 }
      else { s.flash with imgB := img, imgCopy := 2, imgErr := 0 }
    { s with dowel := { s.dowel with flashCopy := none }, flash := f }
  | none => s

/-- Writes of 0x2300 to 0x231F but for the commit (R426). -/
def dowelWrite (i sub : Nat) (v : Int) (b : List Byte) (s : State) : Except Nat State :=
  if i = 0x2301 && sub = 4 then flashImageStart s
  else if i = 0x2301 && sub = 7 then .ok (storeVal i sub v b s)
  else if 0x2310 ≤ i && i < 0x2320 then
    let j := i - 0x2310
    let idle := (s.jig j).state != 2
    if sub = 1 then needRange (jigImageCheck b = 0) (needState idle (.ok (jigLoad j b s)))
    else if sub = 2 || sub = 3 || sub = 5 then needState idle (.ok (storeVal i sub v b s))
    else if sub = 4 then needRange (decide (v ≤ s.num i 3)) (needState idle (.ok (storeVal i sub v b s)))
    else if sub = 6 then jigControl j v s
    else if sub = 0x0E then .ok (jigData j b s)
    else .ok (storeVal i sub v b s)
  else .ok (storeVal i sub v b s)

/-- What a refused write of an image leaves: its load error (R418). -/
def dowelRefused (i sub : Nat) (b : List Byte) (s : State) : State :=
  if 0x2310 ≤ i && i < 0x2320 && sub = 1 && jigImageCheck b != 0 then s.put i 8 (jigImageCheck b) else s

end Sys2Proof.Machine
end

