-- ==== Sys2Proof/Machine/RegLib.lean ====
section
/-! DEFINITION. The status registers of the identity-and-control range: what each reads and what a write of 1 clears
(R33, R192, R193, R231, R256, R282, R283, R305, R335, R367, R368, R402, R430, R456, R553, R566). -/

namespace Sys2Proof.Machine

open Sys2Proof

/-- STRAPS (R33). -/
def State.strapsWord (s : State) : Nat :=
  let a := s.aon
  b2n a.strapRoot + 2 * a.strapSmb + 256 * a.strapBoot + 1024 * b2n (a.strapBoot = 3) + 2 ^ 16 * b2n a.xtalOk +
    2 ^ 17 * b2n a.ref100Ok + 2 ^ 18 * b2n a.refSel + 2 ^ 24 * b2n a.stepOvf + 2 ^ 25 * b2n a.barEarly +
    2 ^ 26 * b2n a.thrInAct + 2 ^ 27 * b2n a.stopInAct + 2 ^ 32 * a.stepOvfCnt + 2 ^ 48 * a.barEarlyCnt

/-- READY (R80). -/
def State.readyWord (s : State) : Nat := s.aon.ready + 2 ^ 32 * s.aon.changeCnt

/-- RAIL_STAT[k] (R192). -/
def State.railStat (s : State) (k : Nat) : Nat :=
  let r := s.rail k
  r.state + 8 * b2n (r.bankB && !r.builtin) + 16 * b2n (r.regSync = 2) + 32 * b2n r.ffForce +
    64 * b2n (s.inhibited k) + 128 * b2n r.skip + 256 * s.nAct k + 2 ^ 16 * r.vout +
    2 ^ 32 * (held 0 65535 (r.iRail / 40960)).toNat + 2 ^ 48 * (held 0 4095 (s.workTarget k / 128)).toNat

/-- PH_STAT[n] (R193). -/
def State.phStat (s : State) (n : Nat) : Nat :=
  let p := s.phase n
  p.ctrl + 8 * p.state + 64 * p.pos + 1024 * b2n p.trimLim + 2 ^ 16 * p.imon +
    2 ^ 32 * ux 16 (held (-32768) 32767 (p.cur / 40960)) + 2 ^ 48 * ux 8 (held (-128) 127 (p.trim / 4096))

/-- RAIL_FLT[k] (R231). -/
def State.railFlt (s : State) (k : Nat) : Nat :=
  let c := s.ctx k
  let f := match c.cur with
    | some f => (f.sev, f.code)
    | none => (7, 0)
  (s.rail k).flt + 2 ^ 16 * f.1 + 2 ^ 19 * b2n ((s.rail k).state = 5) + 2 ^ 24 * c.latched.length + 2 ^ 32 * f.2

/-- FF_STAT (R256). -/
def State.ffStat (s : State) : Nat :=
  maskOf s.inForce + 64 * b2n s.ff.settling.isSome + 128 * b2n s.ff.load.isSome + 2 ^ 16 * s.ff.flags +
    2 ^ 32 * s.ff.annQ.length + 2 ^ 48 * s.ff.matchRun

/-- KERF_STAT (R282). -/
def State.kerfStat (s : State) : Nat :=
  let n := (s.regions.filter (·.str)).length
  b2n s.shim.hold + 2 * b2n s.shim.boost + 4 * b2n (n != 0) + 256 * s.shim.flags + 2 ^ 16 * n + 2 ^ 32 * s.shim.headroom

/-- REGION_STAT[n] (R283). -/
def State.regionStat (s : State) (n : Nat) : Nat :=
  let r := s.region n
  b2n r.bypass + 2 * b2n r.armed + 4 * b2n r.str + 8 * r.amt + 32 * b2n r.preArmed + 64 * b2n r.sat + 256 * r.seg +
    2 ^ 16 * ((r.ref - 550) / 5) + 2 ^ 32 * r.mon + 2 ^ 48 * (s.pn (0x4100 + n) 0x0C % 65536)

/-- The frequency of TCLK_OUT before skipping, in MHz (R288, R305). -/
def State.tileMhz (s : State) : Nat :=
  if s.tileStopped then 0 else if s.clk.tileInt then 400 else if s.clk.m = 0 then 0 else s.tileKhz * 16 / s.clk.m / 1000

/-- CLK_STAT (R305). -/
def State.clkStat (s : State) : Nat :=
  let c := s.clk
  b2n c.tileB + 2 * b2n c.tileInt + 4 * b2n c.engInt + 8 * b2n c.ctlRc + 16 * b2n c.moving + 32 * b2n c.immDiv +
    256 * c.flags + 2 ^ 16 * c.point + 2 ^ 20 * c.target + 2 ^ 24 * c.skip +
    2 ^ 32 * (if s.tileStopped || c.tileInt then 0 else c.m) + 2 ^ 48 * s.tileMhz

/-- An alert is pending (R547). -/
def State.alertPending (s : State) : Bool := s.mgt.alertRec || s.mgt.rspAlert

/-- MGT_STAT (R553). -/
def State.mgtStat (s : State) : Nat :=
  let m := s.mgt
  b2n m.i3c + 2 * b2n (m.eid != 0) + 4 * b2n s.alertPending + 8 * b2n m.rsp.isSome + 256 * m.flags +
    2 ^ 16 * m.dynAddr + 2 ^ 24 * m.eid

/-- VIOL_STAT (R566). -/
def State.violStat (s : State) : Nat :=
  let v := s.host.viol
  b2n v.viol + 2 * b2n v.suppress + 256 * b2n v.firstValid + 2 ^ 16 * v.lastPart + 2 ^ 32 * v.count

/-- What a register of the identity-and-control range reads; an offset that no table defines reads zero (R8, R24). -/
def State.idWord (s : State) (o : Nat) : Nat :=
  if o = 0x008 then s.strapsWord
  else if o = 0x010 then s.aon.clkEn
  else if o = 0x018 then s.readyWord
  else if 0x100 ≤ o && o < 0x130 then s.railStat ((o - 0x100) / 8)
  else if 0x140 ≤ o && o < 0x1C0 then s.phStat ((o - 0x140) / 8)
  else if 0x1C0 ≤ o && o < 0x1F0 then s.railFlt ((o - 0x1C0) / 8)
  else if o = 0x200 then s.ffStat
  else if o = 0x210 then s.kerfStat
  else if o = 0x220 then s.clkStat
  else if o = 0x230 then s.capStat
  else if o = 0x240 then s.clampStat
  else if o = 0x248 then s.doveStat
  else if o = 0x250 then s.thermStat
  else if 0x260 ≤ o && o < 0x2E0 then s.groupStat ((o - 0x260) / 8)
  else if o = 0x300 then s.dowelStat
  else if o = 0x310 then s.syncStat
  else if o = 0x320 then s.mgtStat
  else if o = 0x330 then s.violStat
  else if o = 0x338 then s.host.viol.firstA
  else if o = 0x340 then s.host.viol.firstB
  else if o = 0x348 then s.host.viol.lastA
  else if o = 0x350 then s.host.viol.lastB
  else if 0x380 ≤ o && o < 0x480 then s.engStat ((o - 0x380) / 8)
  else if 0x800 ≤ o then s.regionStat ((o - 0x800) / 8)
  else 0

/-- The bits of a write's data in the bytes that it enables (R22). -/
def strobed (w strb : Nat) : Nat :=
  ((List.range 8).map (fun k => if bit strb k then w / 2 ^ (8 * k) % 256 * 2 ^ (8 * k) else 0)).foldl (· + ·) 0

/-- A write of VIOL_STAT: W1C of its flags, then REARM (R566). -/
def violStatWrite (w : Nat) (s : State) : State :=
  let v := s.host.viol
  { s with host := { s.host with viol := { v with
    viol := v.viol && !bit w 0, suppress := v.suppress && !bit w 1, firstValid := v.firstValid && !bit w 9 } } }

/-- A write to a status register clears the flags it writes 1 to (R10); `w` holds the enabled bytes alone. -/
def idWrite (o w : Nat) (s : State) : State :=
  if o = 0x008 then
    { s with aon := { s.aon with stepOvf := s.aon.stepOvf && !bit w 24, barEarly := s.aon.barEarly && !bit w 25 } }
  else if 0x1C0 ≤ o && o < 0x1F0 then s.updRail ((o - 0x1C0) / 8) (fun r => { r with flt := w1c 16 r.flt w })
  else if o = 0x200 then { s with ff := { s.ff with flags := w1c 6 s.ff.flags (w / 2 ^ 16) } }
  else if o = 0x210 then { s with shim := { s.shim with flags := w1c 6 s.shim.flags (w / 256) } }
  else if o = 0x220 then { s with clk := { s.clk with flags := w1c 5 s.clk.flags (w / 256) } }
  else if o = 0x230 then { s with cap := { s.cap with flags := w1c 6 s.cap.flags (w / 256) } }
  else if o = 0x240 then { s with cla := { s.cla with flags := w1c 4 s.cla.flags (w / 256) } }
  else if o = 0x248 then { s with dove := { s.dove with flags := w1c 4 s.dove.flags (w / 256) } }
  else if o = 0x250 then { s with therm := { s.therm with flags := w1c 7 s.therm.flags (w / 256) } }
  else if o = 0x300 then { s with dowel := { s.dowel with flags := w1c 6 s.dowel.flags (w / 256) } }
  else if o = 0x310 then { s with sync := { s.sync with flags := w1c 4 s.sync.flags (w / 256) } }
  else if o = 0x320 then { s with mgt := { s.mgt with flags := w1c 5 s.mgt.flags (w / 256) } }
  else if o = 0x330 then violStatWrite w s
  else s

end Sys2Proof.Machine
end

