-- ==== Sys2Proof/Machine/ObsLib.lean ====
section
/-! DEFINITION. Observation: counters, the control of the Scribe, map dumps, the wait-for graph, the stop's cut and the
observation range (R507 to R531). -/

namespace Sys2Proof.Machine

open Sys2Proof

/-! Control of the Scribe (R514, R515, R530). -/

/-- Control 1: the areas start empty, the counts of losses and matches start at 0, and a TIME record is written. -/
def scribeArm (s : State) : State :=
  let s := s.put 0x9100 0x0E 0
  scribeTime { s with obs := { s.obs with scrState := 1, scrPre := [], scrPost := [], scrLost := 0, scrOcc := 0, scrWait := false } }

/-- Control 2: capture ends and TRIG_REQ clears (R524). -/
def scribeDisarm (s : State) : State :=
  let st := if s.obs.scrState = 1 || s.obs.scrState = 2 then 0 else s.obs.scrState
  stopReqPin { s with obs := { s.obs with scrState := st, trigReq := false, graphDue := false, scrWait := false } }

/-- Control 4: no record is held; an armed Scribe stays armed, any other is idle (log entry 36). -/
def scribeClear (s : State) : State :=
  let st := if s.obs.scrState = 1 then 1 else 0
  { s with obs := { s.obs with scrPre := [], scrPost := [], scrLost := 0, scrState := st } }

/-- A write of the control object 0x9100.0A. -/
def scribeControl (v : Nat) (s : State) : Except Nat State :=
  if v = 1 then needState (s.obs.scrState != 1) (.ok (scribeArm s))
  else if v = 2 then .ok (scribeDisarm s)
  else if v = 3 then .ok (if s.obs.scrState = 1 then scribeTrigger s else s)
  else .ok (scribeClear s)

/-- 2^30 CTL cycles have passed since the last TIME record: another is written (R513). -/
def scribeTimeMark (s : State) : State :=
  if (s.obs.scrState = 1 || s.obs.scrState = 2) && s.enabled 14 && !s.obs.standing then
    scribeTime (scribeRecover (advanceTo (s.obs.scrTimeAt + 2 ^ 30) s))
  else s

/-- Records held, oldest first. -/
def State.scrHeld (s : State) : Nat := s.obs.scrPre.length + s.obs.scrPost.length

/-- Logical record n, 0 beyond the records held (R516). -/
def State.scrAt (s : State) (n : Nat) : Nat :=
  if n < s.obs.scrPre.length then s.obs.scrPre.getD n 0 else s.obs.scrPost.getD (n - s.obs.scrPre.length) 0

/-! Map dumps (R517, R518). -/

/-- Control 1 of 0x9110: the dump is armed; with moment 0 its moment is now. -/
def dumpArm (s : State) : State :=
  let s := { s with obs := { s.obs with dumpState := 1, dumpMoment := false, dumpOcc := 0 } }
  if s.pn 0x9110 2 = 0 then dumpMoment s else s

/-- Control 2 of 0x9110. -/
def dumpDisarm (s : State) : State :=
  if s.obs.dumpState = 1 then { s with obs := { s.obs with dumpState := 0, dumpMoment := false } } else s

/-- A write of the control object 0x9110.07. -/
def dumpControl (v : Nat) (s : State) : Except Nat State :=
  if v = 1 then needState (s.obs.dumpState != 1 && s.obs.dumpState != 2) (.ok (dumpArm s)) else .ok (dumpDisarm s)

/-- The clock of a map's latest flip: the thermal map's at a result instant, the power map's at an estimator boundary. -/
def State.flipAt (s : State) (map : Nat) : Option Nat := if map = 1 then s.therm.instAt else s.cap.estAt

/-- A tile of a map as the dump holds it: SEQ in 8 bytes and 128 bytes of entries (R518). -/
def State.dumpTile (s : State) (map t : Nat) : List Byte :=
  if map = 1 then s.mapTile t
  else if map = 2 then
    leBytes 8 (s.cap.mapSeq.getD t 0) ++ ((List.range 64).map (fun j => leBytes 2 (s.cap.powerMap.getD (64 * t + j) 0))).flatten
  else leBytes 8 (s.shim.tileSeq.getD t 0) ++ s.tileEntries t ++ List.replicate 64 0

/-- Tiles of a map. -/
def mapTiles (map : Nat) : Nat := if map = 1 then 20 else if map = 2 then 16 else 4

/-- The bytes of a dump slot (R518). -/
def State.dumpBytes (s : State) (map flip : Nat) : List Byte :=
  let m := s.pn 0x9110 2
  leBytes 1 map ++ leBytes 1 (mapTiles map) ++ leBytes 1 (b2n (m = 1) + 2 * b2n (m = 2)) ++ leBytes 1 0 ++
  leBytes 2 (s.pn 0x9110 3) ++ leBytes 2 0 ++ leBytes 4 (s.pn 0x9110 4) ++ leBytes 4 0 ++
  leBytes 8 s.obs.dumpMomentAt ++ leBytes 8 flip ++ List.replicate 32 0 ++
  ((List.range (mapTiles map)).map (s.dumpTile map)).flatten

/-- The copy of an armed dump starts at the first flip at or after its moment, or for the setpoint map at the moment
itself (R517). -/
def dumpCopy (s : State) : State :=
  let map := s.pn 0x9110 1
  let start (flip : Nat) : State :=
    let b := (s.dumpBytes map flip).map (·.toNat)
    let l := s.obs.dumpSlots.set (s.pn 0x9110 6) b
    { s with obs := { s.obs with dumpState := 2, dumpSlots := l } }
  if s.obs.dumpState = 1 && s.obs.dumpMoment && s.enabled 15 then
    if map = 3 then start s.obs.dumpMomentAt
    else match s.flipAt map with
      | some t => if 4 * s.obs.dumpMomentAt ≤ t then start (t / 4) else s
      | none => s
  else s

/-- The copy ends: the state reads done and MAP_DUMP is recorded. -/
def dumpDone (s : State) : State :=
  if s.obs.dumpState = 2 then
    let s := setStopFlag 2 { s with obs := { s.obs with dumpState := 3, dumpMoment := false } }
    raise 0x0913 0 (s.pn 0x9110 1 + 256 * s.pn 0x9110 6) 0 s
  else s

/-! The wait-for graph (R519, R520). -/

/-- An entry: FROM, TO, KIND and AGE. -/
def graphEntry (frm dst kind age : Nat) : Nat :=
  frm % 65536 + 2 ^ 16 * (dst % 65536) + 2 ^ 32 * kind + 2 ^ 48 * (min 65535 age)

/-- Microseconds since a moment. -/
def State.ageUs (s : State) (since : Nat) : Nat := (s.aon.clock - since) / 400

/-- The wait edges that are older than the threshold, as (account, object, age). -/
def State.waitEdges (s : State) : List (Nat × Nat × Nat) :=
  (s.sync.waiters.map (fun w => (w.a, w.obj, s.ageUs w.since))).filter (fun e => decide (s.pn 0x9120 3 < e.2.2))

/-- The release edges of the objects waited on, as (object, tile). -/
def State.releaseEdges (s : State) : List (Nat × Nat) :=
  (((s.sync.waiters.map (·.obj)).eraseDups).map (fun n => (n, (s.sobj n).relTile))).filter (fun e => e.2 != 0xFFFF)

/-- The tiles that follow from a set of tiles by wait and release edges. -/
def tilesNext (ws : List (Nat × Nat × Nat)) (rs : List (Nat × Nat)) (ts : List Nat) : List Nat :=
  let os := (ws.filter (fun w => ts.contains (w.1 / 40))).map (·.2.1)
  (ts ++ (rs.filter (fun r => os.contains r.1)).map (·.2)).eraseDups

/-- The tiles reached from a set of tiles. -/
def tilesReach (ws : List (Nat × Nat × Nat)) (rs : List (Nat × Nat)) : Nat → List Nat → List Nat
  | 0, ts => ts
  | n + 1, ts => tilesReach ws rs n (tilesNext ws rs ts)

/-- The tiles reached from an object through its release edge. -/
def tilesFrom (ws : List (Nat × Nat × Nat)) (rs : List (Nat × Nat)) (o : Nat) : List Nat :=
  tilesReach ws rs rs.length ((rs.filter (fun r => r.1 = o)).map (·.2))

/-- The wait edge lies on a closed path: its object leads back to the account's tile. -/
def waitCyclic (ws : List (Nat × Nat × Nat)) (rs : List (Nat × Nat)) (w : Nat × Nat × Nat) : Bool :=
  (tilesFrom ws rs w.2.1).contains (w.1 / 40)

/-- The release edge lies on a closed path: its tile leads back to a wait on its object. -/
def releaseCyclic (ws : List (Nat × Nat × Nat)) (rs : List (Nat × Nat)) (r : Nat × Nat) : Bool :=
  let ts := tilesReach ws rs rs.length [r.2]
  ws.any (fun w => w.2.1 = r.1 && ts.contains (w.1 / 40))

/-- Members waiting on a package barrier, as (node, age): the instance itself, and at the root the other members that have
arrived, whose age is a free value (log entry 37). -/
def State.barrierWaits (s : State) : List (Nat × Nat) :=
  let own := if s.dove.pkgWait then [(s.nodeAddr, s.ageUs s.dove.pkgWaitAt)] else []
  let others := if s.isRoot then (bitsOf 32 s.dove.arrived).filter (fun n => n != s.nodeAddr) else []
  own ++ others.map (fun n => (n, (Config.freeValue (s.free + n)).toNat % 65536))

/-- The entries of the graph. -/
def State.graphEntries (s : State) : List Nat :=
  let ws := s.waitEdges
  let rs := s.releaseEdges
  let th := s.pn 0x9120 3
  ws.map (fun w => graphEntry w.1 w.2.1 (8 * b2n (waitCyclic ws rs w)) w.2.2) ++
  ((s.cla.queue.filter (fun q => decide (th < s.ageUs q.since))).map (fun q =>
    graphEntry q.a ((s.acct q.a).part % 64 + 256 * q.reason) 1 (s.ageUs q.since))) ++
  s.barrierWaits.map (fun m => graphEntry m.1 s.dove.epoch 2 m.2) ++
  rs.map (fun r => graphEntry r.1 r.2 (3 + 8 * b2n (releaseCyclic ws rs r)) 0)

/-- A write of 1 to 0x9120.01 (R519). -/
def graphStart (s : State) : Except Nat State :=
  if s.obs.graphState = 1 then .error abState
  else
    let t := graphBegin s
    if t.obs.graphState = 1 then .ok t else .error abState

/-- The state that a refused start leaves: the graph reads not available (R519). -/
def graphRefused (s : State) : State :=
  if s.obs.graphState = 1 then s else { s with obs := { s.obs with graphState := 3 } }

/-- The graph is complete (R519, R520): header, entries, GRAPH_DONE, and the stop request that waited for it (R515). -/
def graphDone (s : State) : State :=
  if s.obs.graphState != 1 || s.obs.standing then s else
    let all := s.graphEntries
    let es := all.take 4088
    let c := (es.filter (fun e => bit e 35)).length
    let h := [s.obs.graphStartAt, s.tick, es.length + 2 ^ 16 * c + 2 ^ 32 * b2n (decide (4088 < all.length)), 0, 0, 0, 0, 0]
    let s := (s.put 0x9120 4 (es.length : Nat)).put 0x9120 5 (c : Nat)
    let s := setStopFlag 3 { s.takeFree with obs := { s.obs with graphState := 2, graphArea := h ++ es } }
    let s := raise 0x0914 0 es.length c s
    if s.obs.graphDue then trigStop { s with obs := { s.obs with graphDue := false } } else s

/-! The global stop (R521, R523, R524). -/

/-- STOP_IN is delivered, with the crossings held at the cut and how many CTL cycles after its first island each of ENG,
STP and TIL stopped (R521, R523): a trigger of kind 4 acts at the cut; feed-forward is withdrawn; the standing-still parts
stand. -/
def stopDeliver (crossings eng stp til : Nat) (s : State) : State :=
  let s := if s.pn 0x9100 5 = 4 then scribeMatch s else s
  let s := if s.isReady 16 && s.enabled 11 then ffWithdraw s else s
  let c := s.aon.clock
  let cut (d : Nat) : Nat := (c + d) % 2 ^ 48
  let sm := max eng (max stp til) - min eng (min stp til)
  { s with aon := { s.aon with stopInAct := true }, clk := { s.clk with stopHeld := true },
           obs := { s.obs with standing := true, restarting := false, crossings := crossings % 256, smear := sm % 256,
                               cuts := [cut eng, cut stp, cut til], stopInAt := c } }

/-- STOP_ENTER: every standing-still part has stopped (R523, R531). -/
def stopEnter (s : State) : State :=
  if s.obs.standing && !s.obs.stopped then
    let c := s.aon.clock
    let s := setStopFlag 0 (s.countFixed 16 1)
    raise 0x0910 0 (s.obs.cnt.getD 16 0 % 2 ^ 32) s.obs.crossings
      { s with obs := { s.obs with stopped := true, stopAt := c } }
  else s

/-- STOP_IN has been seen asserted for 16 ticks: TRIG_REQ clears (R524). -/
def trigReqClear (s : State) : State :=
  if s.aon.stopInAct && s.obs.trigReq then
    let s := advanceTo (s.obs.stopInAt + 64) s
    stopReqPin { s with obs := { s.obs with trigReq := false } }
  else s

/-- A write of STOP_STAT: REQ, and W1C of its flags (R523, R524). -/
def stopStatWrite (w strb : Nat) (s : State) : State :=
  let r := if bit strb 0 then bit w 0 else s.obs.req
  let f := w1c 5 s.obs.flags (strobed w strb / 256)
  stopReqPin { s with obs := { s.obs with req := r, flags := f } }

/-- STOP_STAT (R523). -/
def State.stopStat (s : State) : Nat :=
  let o := s.obs
  b2n o.req + 2 * b2n o.stopped + 4 * b2n o.restarting + 8 * b2n o.trigReq + 256 * o.flags + 2 ^ 16 * o.crossings + 2 ^ 24 * o.smear

/-! Counters and the debug queue (R508 to R510, R525). -/

/-- A write of CNT_SEL[n]: a reserved source is refused; otherwise the source is set and the counter clears (R508, R509). -/
def counterSelect (n w strb : Nat) (s : State) : Option State :=
  let v := mergeBytes (s.obs.cntSel.getD n 0xFF00) w strb
  if 19 ≤ v % 64 then none
  else
    let x := v % 64 + 256 * bits v 15 8
    some { s with obs := { s.obs with cntSel := s.obs.cntSel.set n x, cnt := s.obs.cnt.set n 0 } }

/-- A write of DBG_DATA: an entry of the address and the low LENGTH bytes; none outside a stop or with the queue full
(R525). -/
def debugPush (w : Nat) (s : State) : Option State :=
  if s.obs.standing && decide (s.obs.dbgQ.length < 32) then
    let a := s.obs.dbgAddr
    let e := (bits a 31 16, bits a 15 8, leBytes (a % 16) w)
    some { s with obs := { s.obs with dbgQ := s.obs.dbgQ ++ [e] } }
  else none

/-- DBG_STAT (R525). -/
def State.dbgStat (s : State) : Nat := s.obs.dbgQ.length + 256 * s.obs.dbgApplied + 2 ^ 16 * s.obs.dbgAbort

/-! Scan-out (R527). -/

/-- Word n of a group, 0 beyond its end. -/
def State.scanWord (s : State) (g n : Nat) : Nat :=
  if g = 1 then if n < 163840 then leAt (s.acctBytes (n / 4)) (8 * (n % 4)) 8 else 0
  else if g = 2 then if n < 16384 then leAt (s.objBytes (n / 4)) (8 * (n % 4)) 8 else 0
  else if g = 3 then
    match s.ff.annQ[n / 2]? with
    | some a => if n % 2 = 0 then a.prog + 2 ^ 32 * a.idx else a.pos + 2 ^ 32 * (a.due % 2 ^ 32)
    | none => 0
  else if g = 4 then if n < 1024 then leAt (s.dmaCh (n / 64)).buf (8 * (n % 64)) 8 else 0
  else if g = 5 then if n < 256 then s.regionStat n else 0
  else 0

/-! The observation range (R507). -/

/-- Word `o` of a dump slot area, offsets from 0x3_2000. -/
def State.dumpWord (s : State) (o : Nat) : Nat :=
  leAt ((((s.obs.dumpSlots.getD (o / 4096) []).drop (o % 4096)).take 8).map (BitVec.ofNat 8)) 0 8

/-- A register of the first page of the observation range. -/
def State.obsReg (s : State) (o : Nat) : Nat :=
  let b := s.obs
  if o = 0x008 then s.stopStat
  else if 0x010 ≤ o && o < 0x028 then b.cuts.getD ((o - 0x010) / 8) 0
  else if o = 0x040 then 2 ^ 16 * b.snapSeq + 2 ^ 32 * b.snapTick
  else if 0x080 ≤ o && o < 0x100 then b.cntSel.getD ((o - 0x080) / 8) 0
  else if 0x100 ≤ o && o < 0x1A0 then b.cnt.getD ((o - 0x100) / 8) 0
  else if 0x200 ≤ o && o < 0x2A0 then b.shadow.getD ((o - 0x200) / 8) 0
  else if o = 0x300 then b.scrPage
  else if o = 0x500 then b.dbgAddr
  else if o = 0x510 then s.dbgStat
  else if o = 0x700 then b.scanSel
  else 0

/-- The Scribe's aperture answers: not while armed or triggered, except during a global stop (R516). -/
def State.scrOpen (s : State) : Bool := s.obs.standing || !(s.obs.scrState = 1 || s.obs.scrState = 2)

/-- A read of the observation range at an offset from 0x3_0000: a response code and data (R23, R507, R516, R527). -/
def State.obsRead (s : State) (o : Nat) : Nat × Nat :=
  if o < 0x1000 then
    if o = 0x300 && !s.enabled 14 then (3, 0) else (0, s.obsReg o)
  else if o < 0x2000 then
    if !s.enabled 14 then (3, 0)
    else if !s.scrOpen then (4, 0)
    else (0, s.scrAt (256 * s.obs.scrPage + (o - 0x1000) / 16) / 2 ^ (8 * (o % 16)) % 2 ^ 64)
  else if o < 0x6000 then if !s.enabled 15 then (3, 0) else (0, s.dumpWord (o - 0x2000))
  else if o < 0xE000 then (0, s.obs.graphArea.getD ((o - 0x6000) / 8) 0)
  else if o < 0xF000 then (1, 0)
  else if s.obs.standing then (0, s.scanWord (s.obs.scanSel % 16) (512 * bits s.obs.scanSel 19 8 + (o - 0xF000) / 8))
  else (4, 0)

/-- A write of the observation range: a response code and the state it leaves (R507 to R527). -/
def obsWriteReg (o w strb : Nat) (s : State) : Nat × State :=
  if o = 0x008 then (0, stopStatWrite w strb s)
  else if o = 0x040 then (0, if bit strb 0 && bit w 0 then snapshot s else s)
  else if 0x080 ≤ o && o < 0x100 then
    (if strb % 256 = 0 then (0, s) else
      match counterSelect ((o - 0x080) / 8) w strb s with
      | some t => (0, t)
      | none => (2, s))
  else if o = 0x300 then
    (if !s.enabled 14 then (3, s)
     else (0, { s with obs := { s.obs with scrPage := mergeBytes s.obs.scrPage w strb % 1024 } }))
  else if o = 0x500 then
    let v := mergeBytes s.obs.dbgAddr w strb
    (0, { s with obs := { s.obs with dbgAddr := v % 16 + 256 * bits v 15 8 + 2 ^ 16 * bits v 31 16 } })
  else if o = 0x508 then
    (if strb % 256 = 0 then (0, s) else
      match debugPush (strobed w strb) s with
      | some t => (0, t)
      | none => (4, s))
  else if o = 0x700 then
    let v := mergeBytes s.obs.scanSel w strb
    (0, { s with obs := { s.obs with scanSel := v % 16 + 256 * bits v 19 8 } })
  else if o < 0x1000 then (0, s)
  else if o < 0x2000 then (if !s.enabled 14 then (3, s) else if !s.scrOpen then (4, s) else (0, s))
  else if o < 0x6000 then (if !s.enabled 15 then (3, s) else (0, s))
  else if o < 0xE000 then (0, s)
  else if o < 0xF000 then (1, s)
  else if s.obs.standing then (0, s) else (4, s)

/-! Objects (R530). -/

/-- Numbers of 0x9100 to 0x913F that are not stored. -/
def obsRead_ (i sub : Nat) (s : State) : Option Int :=
  if i = 0x9100 then
    if sub = 0x0B then some (s.obs.scrState : Nat) else if sub = 0x0C then some (s.scrHeld : Nat) else none
  else if i = 0x9110 then if sub = 8 then some (s.obs.dumpState : Nat) else none
  else if i = 0x9120 then if sub = 2 then some (s.obs.graphState : Nat) else none
  else none

/-- Writes of 0x9100 to 0x913F. -/
def obsWrite (i sub : Nat) (v : Int) (b : List Byte) (s : State) : Except Nat State :=
  if i = 0x9100 && sub = 0x0A then scribeControl v.toNat s
  else if i = 0x9100 then needState (s.obs.scrState != 1 && s.obs.scrState != 2) (.ok (storeVal i sub v b s))
  else if i = 0x9110 && sub = 7 then dumpControl v.toNat s
  else if i = 0x9120 && sub = 1 then graphStart s
  else .ok (storeVal i sub v b s)

end Sys2Proof.Machine
end

