-- ==== Sys2Proof/Machine/ViolLib.lean ====
section
/-! DEFINITION. Violations and their log, and the advance of a partition's generation (R555 to R567, R571, R572). -/

namespace Sys2Proof.Machine

open Sys2Proof

/-- An access that is answered ERR_ACCESS: offset, direction, whether a DMA channel made it, FT_SEC, partition and source. -/
structure Access where
  /-- window offset. -/
  off : Nat
  /-- a write. -/
  write : Bool
  /-- made by a DMA channel. -/
  dma : Bool
  /-- FT_SEC. -/
  sec : Bool
  /-- FT_PART, or the channel's owner. -/
  part : Nat
  /-- FT_SRC, or the channel's number. -/
  src : Nat
  deriving DecidableEq, Repr

/-- A fabric request as an access. -/
def accessOf (q : FabReq) : Access :=
  { off := q.addr, write := q.write, dma := false, sec := q.sec, part := q.part, src := q.src }

/-- Word A of an entry (R567). -/
def violA (a : Access) (cause reason seq : Nat) : Nat :=
  a.off / 8 * 8 % 2 ^ 20 + 2 ^ 20 * b2n a.write + 2 ^ 21 * b2n a.dma + 2 ^ 22 * b2n a.sec + 2 ^ 24 * (a.part % 64) +
    2 ^ 32 * (a.src % 256) + 2 ^ 40 * cause + 2 ^ 44 * reason + 2 ^ 52 * seq

/-- The log takes an entry (R563, R566, R567). -/
def logViolation (a : Access) (cause reason : Nat) (s : State) : State :=
  let v := s.host.viol
  let q := (v.seq + 1) % 4096
  let wa := violA a cause reason q
  let wb := s.tick % 2 ^ 52 + 2 ^ 52 * q
  let v' : Viol := { v with
    viol := true, firstValid := true, lastPart := a.part % 64, count := min 0xFFFFFFFF (v.count + 1), seq := q,
    lastA := wa, lastB := wb, firstA := if v.firstValid then v.firstA else wa, firstB := if v.firstValid then v.firstB else wb }
  ({ s with host := { s.host with viol := v' } } : State).bump32 0x6100 4

/-- The event interval of the partition has passed since its latest raised event, or there is no limit (R564). -/
def State.violEventDue (s : State) (p : Nat) : Bool :=
  match kvGet s.host.viol.evAt p with
  | none => true
  | some t => decide (t + 4 * s.pn 0x6100 3 ≤ s.aon.clock)

/-- ACCESS_VIOLATION, or its suppression (R564, R565). -/
def violEvent (a : Access) (cause reason : Nat) (s : State) : State :=
  let p := a.part % 64
  let n := (kvGet s.host.viol.evSupp p).getD 0
  if s.violEventDue p then
    let v := s.host.viol
    let v : Viol := { v with evAt := kvPut v.evAt p s.aon.clock, evSupp := kvPut v.evSupp p 0 }
    raiseP 0x0F01 0 p (a.off % 2 ^ 20 + 2 ^ 20 * cause + 2 ^ 24 * (a.src % 256))
      (b2n a.write + 2 * b2n a.dma + 4 * b2n a.sec + 16 * reason + 256 * min 255 n) { s with host := { s.host with viol := v } }
  else
    let v := s.host.viol
    let v : Viol := { v with suppress := true, evSupp := kvPut v.evSupp p (n + 1) }
    (({ s with host := { s.host with viol := v } } : State).bump32 0x6100 5).bump32 (0x60C0 + p) 5

/-- A violation (R562 to R565). -/
def violate (a : Access) (cause reason : Nat) (s : State) : State :=
  violEvent a cause reason ((logViolation a cause reason s).bump32 (0x60C0 + a.part % 64) 4)

/-- REARM (R566). -/
def violRearm (s : State) : State := { s with host := { s.host with viol := { s.host.viol with firstValid := false } } }

/-- A mailbox slot with its agreed level back at 0x0100 and no open transfer; a pending request stays (R105, R112). -/
def ClChan.generation (c : ClChan) : ClChan :=
  { c with level := 0x0100, reqLevel := 0x0100, openDir := 0, openBuf := [], openPos := 0 }

/-- The generation of partition p advances (R555, R557): the accounts of p close at the next estimator boundary, which sees
their old generation. -/
def genAdvance (p cls : Nat) (s : State) : State :=
  let g := if s.genOf p = 0xFFFF then 1 else s.genOf p + 1
  let s := recGeneration p s
  let s := { s with host := { s.host with gens := s.host.gens.set p g },
                    cl := { s.cl with slots := s.cl.slots.modify p ClChan.generation } }
  let s := syncGeneration p (dmaGeneration p (s.put (0x60C0 + p) 6 (s.tick : Nat)))
  raiseP 0x0F02 0 p cls g s

/-- A write of 0x60C0 + p, subindex 0x02 (R555). -/
def genWrite (p v cls : Nat) (s : State) : Except Nat State :=
  needState (p != 0 && v = s.genOf p) (.ok (genAdvance p cls s))

/-- Numbers of 0x60C0 to 0x60FF and 0x6100 that are not stored. -/
def violRead (i sub : Nat) (s : State) : Option Int :=
  if 0x60C0 ≤ i && i < 0x6100 then if sub = 1 then some (s.genOf (i - 0x60C0) : Nat) else none
  else if i = 0x6100 && sub = 1 then some (s.host.viol.count : Nat)
  else none

/-- Entries of the log as octets (R572). -/
def violReadDom (i sub : Nat) (s : State) : Option (List Byte) :=
  let v := s.host.viol
  if i = 0x6100 && sub = 2 then some (leBytes 8 v.lastA ++ leBytes 8 v.lastB)
  else if i = 0x6100 && sub = 6 then
    some (if v.firstValid then leBytes 8 v.firstA ++ leBytes 8 v.firstB else List.replicate 16 0)
  else none

/-- Writes of 0x60C0 to 0x60FF and 0x6100. -/
def violWrite (i sub : Nat) (v : Int) (b : List Byte) (cls : Nat) (s : State) : Except Nat State :=
  if 0x60C0 ≤ i && i < 0x6100 then genWrite (i - 0x60C0) v.toNat cls s
  else if i = 0x6100 && sub = 7 then .ok (violRearm s)
  else .ok (storeVal i sub v b s)

end Sys2Proof.Machine
end

