-- ==== Sys2Proof/Machine/ObjLib.lean ====
section
/-! DEFINITION. The Cut List's objects as one space: visibility and access, what an object reads, what a write does,
descriptions, defaults and commissioning values (R84 to R103, R106 to R108, R113). -/

namespace Sys2Proof.Machine

open Sys2Proof

/-! Requesters and access (R84, R86 to R89, R106, R107). -/

/-- A requester: class (0 Op, 1 Ten, 2 Mgt, 3 Fw), partition, agreed level and the channel it uses. -/
structure Who where
  /-- class. -/
  cls : Nat := 0
  /-- partition. -/
  part : Nat := 0
  /-- agreed level. -/
  level : Nat := 0x0100
  /-- channel. -/
  ch : ChanId := .slot 0
  deriving DecidableEq, Repr

/-- The bases of partition-scoped objects (R86). -/
def partScoped (i : Nat) : Bool :=
  (decide (0x6040 ≤ i) && decide (i < 0x6100)) || (decide (0x7040 ≤ i) && decide (i < 0x7080)) ||
    (decide (0x2440 ≤ i) && decide (i < 0x2480))

/-- The partition of a partition-scoped index. -/
def scopeOf (i : Nat) : Nat := i % 64

/-- An index that this instance does not have: shims, kerf units, Clamp and Dovetail on a satellite, and the root's
barrier objects elsewhere. -/
def State.lacks (s : State) (i : Nat) : Bool :=
  (s.inst.sat && ((decide (0x4000 ≤ i) && decide (i < 0x5000)) || (decide (0x7000 ≤ i) && decide (i < 0x8000)))) ||
    (i = 0x7102 && !s.isRoot)

/-- Access code of an object for a requester: subindex 0 of an index with subindices is CONST for all who see it (R84). -/
def accCode (i sub cls : Nat) : Nat :=
  let l := dictRows i
  let many := l.any (fun r => r.s + r.n != 1)
  match dictRow i sub with
  | none => 0
  | some r => if sub = 0 && many then (if l.any (fun r => r.s != 0 && r.code cls != 0) then 4 else 0) else r.code cls

/-- The index is visible to the requester (R84, R86, R87). -/
def State.sees (s : State) (w : Who) (i : Nat) : Bool :=
  let l := dictRows i
  let many := l.any (fun r => r.s + r.n != 1)
  l.any (fun r => r.code w.cls != 0 && (r.s != 0 || !many)) && !s.lacks i &&
    !(w.cls = 1 && partScoped i && scopeOf i != w.part)

/-- The level at which an object was introduced (R107). -/
def introLevel (i : Nat) : Nat := if (decide (0x1000 ≤ i) && decide (i < 0x2000)) || i = 0xF000 then 0x0100 else 0x0200

/-- The CLK_EN bit that gates an object of a function (R97). -/
def gateBit (own i : Nat) : Option Nat :=
  match own with
  | 5 => some 1
  | 7 => some 2
  | 8 => some 3
  | 10 => some 4
  | 11 => some 5
  | 12 => some 6
  | 13 => some 7
  | 14 => some 13
  | 15 => some 12
  | 16 => some 11
  | 17 => some 9
  | 18 => some 10
  | 19 => some 8
  | 20 => if i = 0x9100 then some 14 else if i = 0x9110 then some 15 else none
  | 2 => if 0x2610 ≤ i && i ≤ 0x2627 then some 16 else none
  | _ => none

/-- Check 8: the owning block's clock enable is 0. -/
def State.gatedObj (s : State) (own i : Nat) : Bool :=
  match gateBit own i with
  | some b => !s.enabled b
  | none => false

/-- Objects that the always-on responder serves before CUTLIST is ready (R542). -/
def early (i own : Nat) : Bool := i = 0x1000 || i = 0x1001 || i = 0x1010 || decide (own ≤ 3)

/-- Check 9: the owning function is not ready; before CUTLIST is ready the responder serves its own objects alone. -/
def State.unready (s : State) (own i : Nat) : Bool :=
  if s.isReady 10 then !s.isReady own
  else if i = 0x1000 || i = 0x1001 || i = 0x1010 then false
  else !(early i own) || !s.isReady own

/-- Checks 4 to 9 of R96; 0 when a request passes them. A DESCRIBE ends after check 6. -/
def State.checks (s : State) (w : Who) (op i sub : Nat) : Nat :=
  if !s.sees w i then 0x0601
  else
    match dictRow i sub with
    | none => 0x0602
    | some r =>
      let c := accCode i sub w.cls
      if c = 0 then 0x0601
      else if w.level < introLevel i then 0x0603
      else if op = 6 then 0
      else if op = 1 && c = 3 then 0x0605
      else if op = 3 && (c = 1 || c = 4) then 0x0604
      else if s.gatedObj r.own i then 0x0606
      else if s.unready r.own i then 0x0607
      else 0

/-! Sizes and ranges (R91 to R93). -/

/-- The greatest length of a value in bytes. -/
def Ty.most : Ty → Nat
  | .str m => m
  | .dom _ hi _ => hi
  | t => t.size.getD 0

/-- Check 10: the size of a written value. -/
def Ty.fits (t : Ty) (n : Nat) : Bool :=
  match t with
  | .str m => decide (n ≤ m)
  | .dom lo hi g => decide (lo ≤ n) && decide (n ≤ hi) && n % g = 0
  | t => t.size = some n

/-- The value lies in the Range column. -/
def Rg.holds (v : Int) : Rg → Bool
  | .any => true
  | .ivs l st => l.any (fun p => decide (p.1 ≤ v) && decide (v ≤ p.2)) && v % st = 0
  | .mask _ => true

/-- Reserved bits of a written value are stored as zero (R8, R93). -/
def Rg.clip (v : Int) : Rg → Int
  | .mask m => ((List.range 64).foldl (fun a k => if bit m k && bit v.toNat k then a + 2 ^ k else a) (0 : Nat) : Nat)
  | _ => v

/-- Check 11 as far as the Range column and the type go. -/
def Row.inRange (r : Row) (b : List Byte) : Bool :=
  match r.ty with
  | .str _ => b.all (fun c => decide (0x20 ≤ c.toNat) && decide (c.toNat ≤ 0x7E))
  | .dom _ _ _ => true
  | t => r.rg.holds (t.num b)

/-! What objects read. -/

/-- The channel of the Cut List engine. -/
def State.chan (s : State) : ChanId → ClChan
  | .slot p => s.cl.slots.getD p {}
  | .mgt => s.cl.mgt
  | .chain => s.cl.chain
  | .fw => s.cl.fw
  | .jig j => s.cl.jig.getD j {}

/-- The state with a channel changed. -/
def State.updChan (s : State) (ch : ChanId) (f : ClChan → ClChan) : State :=
  match ch with
  | .slot p => { s with cl := { s.cl with slots := s.cl.slots.modify p f } }
  | .mgt => { s with cl := { s.cl with mgt := f s.cl.mgt } }
  | .chain => { s with cl := { s.cl with chain := f s.cl.chain } }
  | .fw => { s with cl := { s.cl with fw := f s.cl.fw } }
  | .jig j => { s with cl := { s.cl with jig := s.cl.jig.modify j f } }

/-- The bytes of a defaults entry (R499). -/
def entryBytes (e : Nat × List Byte) : List Byte :=
  leBytes 2 (e.1 / 256) ++ leBytes 1 (e.1 % 256) ++ leBytes 1 0 ++ leBytes 2 e.2.length ++ leBytes 2 0 ++ e.2 ++
    List.replicate ((8 - e.2.length % 8) % 8) 0

/-- The CRC of the stored set, 0 when none is stored (R101). -/
def State.setCrc (s : State) : Nat :=
  match s.defCur with
  | some d => crc32 (d.entries.map entryBytes).flatten
  | none => 0

/-- Numbers of this chapter's objects (R80, R101, R106, R108, R117). -/
def sysRead (i sub : Nat) (ch : ChanId) (s : State) : Option Int :=
  if i = 0x1000 then
    let up := s.isReady 13
    if sub = 5 then some (if up then s.dowel.runImg.major else 0)
    else if sub = 6 then some (if up then s.dowel.runImg.minor else 0)
    else if sub = 7 then some (if up then s.dowel.runImg.build else 0)
    else if sub = 8 then some (if up then s.dowel.runSlot else 0)
    else if sub = 9 then some s.nodeAddr
    else if sub = 0x0A then some (b2n s.inst.sat)
    else if sub = 0x0B || sub = 0x0C then some (if s.inst.sat then 0 else 256)
    else if sub = 0x0D then some s.inst.gauges
    else if sub = 0x0F then some s.serial
    else none
  else if i = 0x1001 then
    if sub = 1 then some (s.chan ch).reqLevel else if sub = 2 then some (s.chan ch).level else none
  else if i = 0x1010 then
    if sub = 1 then some s.aon.ready
    else if sub = 2 then some s.aon.changeCnt
    else if 0x10 ≤ sub then some (s.aon.stamps.getD (sub - 0x10) 0)
    else none
  else if i = 0x1020 then
    if sub = 7 then some (s.num (0x60C0 + s.pn 0x1020 6) 3) else none
  else if i = 0x1030 then
    if sub = 3 then some s.cl.storeState else if sub = 4 then some s.cl.storeNo else if sub = 5 then some s.setCrc else none
  else none

/-- The number that an object reads. -/
def State.objNum (s : State) (ch : ChanId) (i sub : Nat) : Int :=
  let live : Option Int :=
    if i < 0x2000 then sysRead i sub ch s
    else if i < 0x2200 then chainRead i sub s
    else if i < 0x2300 then clkRead i sub s
    else if i < 0x2400 then dowelRead i sub s
    else if i < 0x2500 then syncRead i sub s
    else if i < 0x2600 then dmaRead i sub s
    else if i < 0x3000 then mgtRead i sub s
    else if i < 0x4000 then railsRead i sub s
    else if i < 0x5000 then shimsRead i sub s
    else if i < 0x6000 then thermRead i sub s
    else if i < 0x60C0 then capRead i sub s
    else if i < 0x7000 then violRead i sub s
    else if i < 0x7100 then clampRead i sub s
    else if i < 0x8000 then doveRead i sub s
    else if i < 0x9000 then ffRead i sub s
    else if i < 0x9100 then recRead i sub s
    else if i < 0xA000 then obsRead_ i sub s
    else some (b2n s.cl.diagOpen)
  live.getD (s.num i sub)

/-- The characters of a STRING. -/
def chars (t : String) : List Byte := t.toList.map (fun c => BitVec.ofNat 8 c.toNat)

/-- The octets or characters that an object reads. -/
def State.objDom (s : State) (i sub : Nat) : List Byte :=
  let live : Option (List Byte) :=
    if i = 0x1000 then some (chars (if sub = 1 then "Rhavasan" else "Filquel FQ2"))
    else if i < 0x2200 then chainReadDom i sub s
    else if i < 0x2300 then clkReadDom i s
    else if i < 0x2400 then dowelReadDom i sub s
    else if i < 0x2500 then syncReadDom i sub s
    else if i < 0x4000 then railsReadDom i sub s
    else if i < 0x5000 then shimsReadDom i s
    else if i < 0x6000 then thermReadDom i sub s
    else if i < 0x60C0 then capReadDom i sub s
    else if i < 0x7000 then violReadDom i sub s
    else if i < 0x8000 then clampReadDom i sub s
    else if i < 0x9000 then ffReadDom i sub s
    else recReadDom i sub s
  live.getD ((s.dom i sub).getD [])

/-- The whole value of an object as it travels (R91). -/
def State.clBytes (s : State) (ch : ChanId) (i sub : Nat) : List Byte :=
  match dictRow i sub with
  | none => []
  | some r => if r.ty.size.isSome then r.ty.bytes (s.objNum ch i sub) else s.objDom i sub

/-! Levels (R104, R106). -/

/-- The highest offered level that does not exceed a request. -/
def agree (v : Nat) : Nat := if 0x0200 ≤ v then 0x0200 else min v 0x0103

/-! The commissioning set (R101 to R103). -/

/-- The persistent objects, in the order of the dictionary. -/
def persistent : List (Nat × Nat) :=
  ([0x21, 0x22, 0x23, 0x24, 0x25, 0x26, 0x30, 0x31, 0x32, 0x33, 0x40, 0x41, 0x50, 0x51, 0x52, 0x53, 0x60, 0x61, 0x70, 0x71, 0x80,
    0x81, 0x90, 0x91].flatMap dictPage).flatMap (fun r =>
      if r.pers then (List.range r.cnt).flatMap (fun a => (List.range r.n).map (fun b => (r.i + a, r.s + b))) else [])

/-- A snapshot of every persistent object: 0x6001 and 0x6002 at the root alone (R317). -/
def State.snapshot (s : State) : List (Nat × List Byte) :=
  (persistent.filter (fun o => s.isRoot || !(o.1 = 0x6001 || o.1 = 0x6002))).map
    (fun o => (okey o.1 o.2, s.clBytes .fw o.1 o.2))

/-- A store begins (R102). -/
def storeBegin (s : State) : Except Nat State :=
  if s.cl.storeState = 1 then .error abState
  else if s.noFlash then .error 0x060E
  else .ok { s with cl := { s.cl with storeState := 1, storeSnap := s.snapshot } }

/-- A store ends: its copy becomes current, or the set before stays (R102, R499, R503). -/
def storeEnd (ok : Bool) (s : State) : State :=
  if s.cl.storeState != 1 then s
  else
    let big := decide (262104 < ((s.cl.storeSnap.map entryBytes).flatten).length)
    let ok := ok && !big
    let s := flashDone ok s
    let n := (s.cl.storeNo + 1) % 2 ^ 32
    let toB := s.flash.defA.valid && (!s.flash.defB.valid || decide (s.flash.defB.store ≤ s.flash.defA.store))
    let d : DefCopy := if ok then { valid := true, store := n, entries := s.cl.storeSnap } else {}
    let s := { s with flash := if toB then { s.flash with defB := d } else { s.flash with defA := d } }
    let s := { s with cl := { s.cl with storeSnap := [], storeState := if ok then 2 else 3, storeNo := if ok then n else s.cl.storeNo } }
    if ok then s else raise 0x0203 2 (if toB then 0x50000 else 0x10000) 0 s

/-- A wipe marks both copies invalid (R103). -/
def storeWipe (s : State) : Except Nat State :=
  if s.cl.storeState = 1 then .error abState
  else if s.noFlash then .error 0x060E
  else .ok { s with
    flash := { s.flash with defA := { s.flash.defA with valid := false }, defB := { s.flash.defB with valid := false } },
    cl := { s.cl with storeNo := (s.cl.storeNo + 1) % 2 ^ 32, storeState := 4 } }

/-! What writes do. -/

/-- Writes of this chapter's objects. -/
def sysWrite (w : Who) (i sub : Nat) (v : Int) (b : List Byte) (s : State) : Except Nat State :=
  if i = 0x1001 then .ok (s.updChan w.ch (fun c => { c with reqLevel := v.toNat, level := agree v.toNat }))
  else if i = 0x1030 then (if sub = 1 then storeBegin s else storeWipe s)
  else .ok (storeVal i sub v b s)

/-- A write of the diagnostics lock (R87). -/
def diagWrite (v : Int) (s : State) : Except Nat State :=
  if v = 1 && !s.cl.diagOpen then .ok (raise 0x0204 0 0 0 { s with cl := { s.cl with diagOpen := true } })
  else .ok { s with cl := { s.cl with diagOpen := decide (v = 1) } }

/-- Commit (R426): the slot in use is marked active. -/
def commitSlot (s : State) : Except Nat State :=
  needState (!s.dowel.updating && s.dowel.runSlot != 0)
    (if s.noFlash then .error 0x060E else
      let n := s.dowel.runSlot
      .ok (hdrAppend (fun e => { e with active := n }) s))

/-- A load by the device's own DMA use begins: its channel must be free for it (R240, R422, R470). -/
def takeChannel (c use : Nat) (k : Except Nat State) (s : State) : Except Nat State :=
  match k with
  | .ok t => if s.dmaFree c then .ok (dmaTake c use t) else .error abState
  | .error e => .error e

/-- A write that has passed checks 4 to 10 and the Range column takes effect, or ends with the abort of check 11 or 12. -/
def objWrite (w : Who) (i sub : Nat) (v : Int) (b : List Byte) (s : State) : Except Nat State :=
  if i < 0x2000 then sysWrite w i sub v b s
  else if i < 0x2200 then chainWrite i sub v b s
  else if i < 0x2300 then clkWrite (w.cls = 3) i sub v b s
  else if i = 0x2300 && sub = 7 then commitSlot s
  else if i = 0x2301 && sub = 4 then takeChannel (s.pn 0x2301 7) 4 (dowelWrite i sub v b s) s
  else if i < 0x2400 then dowelWrite i sub v b s
  else if i < 0x2500 then syncWrite i sub v b s
  else if i < 0x2600 then dmaWrite i sub v b s
  else if i < 0x3000 then mgtWrite i sub v b s
  else if i < 0x4000 then railsWrite i sub v b s
  else if i < 0x5000 then shimsWrite i sub v b s
  else if i < 0x6000 then thermWrite i sub v b s
  else if i < 0x60C0 then capWrite i sub v b s
  else if i < 0x7000 then violWrite i sub v b w.cls s
  else if i < 0x7100 then clampWrite i sub v b s
  else if i < 0x8000 then doveWrite i sub v b s
  else if i = 0x8010 && sub = 4 then takeChannel (s.pn 0x8010 7) 3 (ffWrite i sub v b s) s
  else if i < 0x9000 then ffWrite i sub v b s
  else if i < 0x9100 then recWrite i sub v b w.cls s
  else if i < 0xA000 then obsWrite i sub v b s
  else diagWrite v s

/-- What a refused write leaves behind: a jig image's load error (R418), the wait-for graph's state (R519). -/
def objRefused (i sub : Nat) (b : List Byte) (s : State) : State :=
  if i = 0x9120 && sub = 1 then graphRefused s else dowelRefused i sub b s

/-- Checks 10 and 11 by the dictionary, then the write. -/
def checkedWrite (w : Who) (i sub : Nat) (b : List Byte) (s : State) : Except Nat State :=
  match dictRow i sub with
  | none => .error 0x0602
  | some r =>
    if !r.ty.fits b.length then .error 0x0608
    else if !r.inRange b then .error abRange
    else objWrite w i sub (r.rg.clip (r.ty.num b)) b s

/-! Budgets (R138, R316, R317). -/

/-- The record that a write of a budget object asks for. -/
def State.budgetRec (s : State) (i sub v : Nat) : Option BudRec :=
  if i = 0x6001 && sub = 1 then some { node := 0x1F, kind := 0, value := v }
  else if i = 0x6001 && sub = 2 then some { node := 0x1F, kind := 1, value := v }
  else if i = 0x6002 && sub != 0 then some { node := sub, kind := 2, value := v }
  else if 0x6040 ≤ i && i < 0x6080 && 1 ≤ sub && sub ≤ 3 then
    some { node := if sub = 2 then s.chain.addr else 0x1F, part := i - 0x6040, kind := 2 + sub, value := v }
  else if i = 0x2100 && sub = 7 then some { node := 0x1F, kind := 6, value := v }
  else none

/-- The local engine refuses the change with STATE (R317). -/
def State.budgetBarred (s : State) (r : BudRec) (cls : Nat) : Bool :=
  (r.kind = 2 && !bit s.chain.memberMask r.node) || (r.kind = 4 && s.budget 3 r.part != 262143) ||
    ((r.kind = 3 || r.kind = 4) && cls != 0 && cls != 2)

/-! Descriptions (R113). -/

/-- The CORE setpoint of a boot record, on the 5 mV grid and within 550 to 950 mV (R260). -/
def BootRec.coreGrid (r : BootRec) : Nat :=
  let k := ((List.range 6).find? (fun k => r.setpoint.getD k 0 != 0 && r.railId.getD k 0 = 0)).getD 6
  max 550 (min 950 (r.setpoint.getD k 0 / 5 * 5))

/-- What the boot record in use gives an object (R99). -/
def State.bootDefault (s : State) (i sub : Nat) : Nat :=
  let r := s.aon.bootRec.getD builtinBoot
  if i = 0x3001 then (if sub ≤ 4 then r.gmode.getD (sub - 1) 0 else r.gslew.getD (sub - 5) 0)
  else if 0x3100 ≤ i && i < 0x3106 then
    let k := i - 0x3100
    if sub = 1 then r.setpoint.getD k 0 else if sub = 6 then r.fsw.getD k 0 else if sub = 7 then r.phMask.getD k 0
    else if sub = 0x12 then r.group.getD k 0 else b2n (r.setpoint.getD k 0 != 0)
  else if 0x3200 ≤ i && i < 0x3210 then
    let k := (r.phMask.findIdx? (fun m => bit m (i - 0x3200))).getD 7
    if sub = 1 then k else b2n (k != 7)
  else if 0x4100 ≤ i && i < 0x4200 then
    (if sub = 1 then b2n (r.shimSet = 0) else if sub = 2 then (if r.shimSet = 0 then r.coreGrid else r.shimSet) else r.kerfOfs)
  else 0

/-- Type code, integer bits and fraction bits (R91). -/
def Ty.code : Ty → Nat × Nat × Nat
  | .u n => (if n = 1 then 1 else if n = 2 then 2 else if n = 4 then 3 else 4, 0, 0)
  | .i n => (if n = 2 then 5 else 6, 0, 0)
  | .uq m n => (7, m, n)
  | .sq m n => (8, m, n)
  | .str _ => (0x0A, 0, 0)
  | .dom _ _ _ => (0x0B, 0, 0)

/-- Minimum and maximum of a numeric object. -/
def Row.span (r : Row) : Int × Int :=
  match r.rg with
  | .ivs l _ => ((l.map (·.1)).foldl min ((l.headD (0, 0)).1), (l.map (·.2)).foldl max ((l.headD (0, 0)).2))
  | .mask m => (0, m)
  | .any => let n := 8 * r.ty.size.getD 0
    if r.ty.signed then (-(2 ^ (n - 1)), 2 ^ (n - 1) - 1) else (0, 2 ^ n - 1)

/-- The built-in default of a numeric object as DESCRIBE gives it. -/
def State.describedDefault (s : State) (r : Row) (i sub : Nat) : Int :=
  match r.dk with
  | .boot => s.bootDefault i sub
  | .inst => s.objNum .fw i sub
  | .absent => 0
  | _ => r.df

/-- The 48 bytes of a description. -/
def State.describe (s : State) (i sub : Nat) : List Byte :=
  match dictRow i sub with
  | none => []
  | some r =>
    let (c, m, n) := r.ty.code
    let num := r.ty.size.isSome
    let wr := [0, 1, 2, 3].any (fun k => accCode i sub k = 3)
    let sp := if num then r.span else (0, 0)
    let df := if num && !wr then s.describedDefault r i sub else 0
    let a (k : Nat) : Nat := accCode i sub k
    let fl := b2n r.pers + 2 * b2n (partScoped i) + 8 * b2n (r.dk = .boot || r.dk = .cal)
    [byte c, byte m, byte n, byte (a 0 + 16 * a 1), byte (a 2 + 16 * a 3), byte fl] ++ leBytes 2 (introLevel i) ++
      leBytes 2 r.ty.most ++ [byte r.own] ++ List.replicate 5 0 ++ leBytes 8 (ux 64 sp.1) ++ leBytes 8 (ux 64 sp.2) ++
      leBytes 8 (ux 64 df) ++ List.replicate 8 0

/-! Readiness and commissioning values (R98 to R100). -/

/-- The engine as a requester of its own. -/
def engineWho : Who := { cls := 3, level := 0x0200, ch := .fw }

/-- Objects whose stored values come into force by a transaction, or with the root's (R155, R317). -/
def byCommit (i sub : Nat) : Bool := i = 0x6001 || i = 0x6002 || (i = 0x2100 && sub = 7)

/-- The owner of an object. -/
def ownerOf (i sub : Nat) : Option Nat := (dictRow i sub).map (fun r => if r.pers then r.own else 99)

/-- The stored values of a function, in the order stored. -/
def State.storedOf (s : State) (f : Nat) : List (Nat × List Byte) :=
  match s.defCur with
  | some d => d.entries.filter (fun e => ownerOf (e.1 / 256) (e.1 % 256) = some f && !byCommit (e.1 / 256) (e.1 % 256))
  | none => []

/-- A stored value put in place unchecked, for the check of the whole set. -/
def putRaw (e : Nat × List Byte) (s : State) : State :=
  match dictRow (e.1 / 256) (e.1 % 256) with
  | some r => storeVal (e.1 / 256) (e.1 % 256) (r.ty.num e.2) e.2 s
  | none => s

/-- The values of a set that pass checks 10 to 12 with the others in place; `fuel` bounds the rounds. -/
def soundSet : Nat → List (Nat × List Byte) → State → List (Nat × List Byte)
  | 0, l, _ => l
  | n + 1, l, s =>
    let t := l.foldl (fun t e => putRaw e t) s
    let g := l.filter (fun e => match checkedWrite engineWho (e.1 / 256) (e.1 % 256) e.2 t with
      | .ok _ => true
      | .error _ => false)
    if g.length = l.length then g else soundSet n g s

/-- The built-in default of an object: a region's trims and conductance come from the calibration data (R99, R279). -/
def State.builtIn (s : State) (i sub : Nat) (df : Int) : Int :=
  if 0x4100 ≤ i && i < 0x4200 then
    match s.flashRead.regionCal.find? (fun x => x.1 = i - 0x4100) with
    | some (_, st, kt, g) => if sub = 6 then st else if sub = 7 then kt else if sub = 8 then (g : Int) else df
    | none => df
  else df

/-- An object of a function takes its built-in default, where it has moved from it. -/
def toDefault (i sub : Nat) (s : State) : State :=
  match dictRow i sub with
  | none => s
  | some r =>
    if r.ty.size.isSome then
      let v := s.builtIn i sub r.df
      if s.objNum .fw i sub = v then s
      else match objWrite engineWho i sub v (r.ty.bytes v) s with
        | .ok t => t
        | .error _ => s.put i sub v
    else { s with obj := { s.obj with doms := kvDel s.obj.doms (okey i sub) } }

/-- A stored value that fell back to its default is recorded (R99). -/
def noteDefault (e : Nat × List Byte) (s : State) : State := raise 0x0202 0 (e.1 / 256 * 65536 + e.1 % 256 * 256) 0 s

/-- A stored value comes into force. -/
def applyStored (e : Nat × List Byte) (s : State) : State :=
  match checkedWrite engineWho (e.1 / 256) (e.1 % 256) e.2 s with
  | .ok t => t
  | .error _ => putRaw e s

/-- The persistent objects of a function take their commissioning values or built-in defaults (R99). -/
def functionDefaults (f : Nat) (s : State) : State :=
  let l := s.storedOf f
  let g := soundSet l.length l s
  let bad := l.filter (fun e => !g.contains e)
  let rest := persistent.filter (fun o => ownerOf o.1 o.2 = some f && !byCommit o.1 o.2 && !g.any (fun e => e.1 = okey o.1 o.2))
  let s := rest.foldl (fun s o => toDefault o.1 o.2 s) s
  bad.foldl (fun s e => noteDefault e s) (g.foldl (fun s e => applyStored e s) s)

/-- The isolated die budget takes its commissioning value, unless a root's stands in its place (R137, R155). -/
def isolatedDefault (s : State) : State :=
  if s.chain.role = 2 then s
  else match s.stored 0x2100 7 with
    | some b => if b.length = 4 && decide (leVal b ≤ 262143) then s.put 0x2100 7 (leVal b : Nat) else s
    | none => s

/-- A function becomes ready: its defaults first, then its stamp and bit (R81, R99). The loader of step 1a has applied
those of AON, HARDTRIP, MGT, FLASH and CTLCLK (R100). When the root's ESTIM becomes ready it commits its stored values
(R317). -/
def becomeReady (f : Nat) (s : State) : State :=
  if s.isReady f then s
  else
    let s := if f ≤ 4 then s else functionDefaults f s
    let s := if f = 10 then isolatedDefault s else s
    let s := if f = 15 && s.isRoot then queueOwn s.storedBudgets s else s
    setReady f s

/-- The loader applies the stored values of the functions that are up before CUTLIST (R100). -/
def loaderApply (s : State) : State := [0, 1, 2, 3, 4].foldl (fun s f => functionDefaults f s) s

end Sys2Proof.Machine
end

