-- ==== Sys2Proof/Machine/ClEngine.lean ====
section
/-! DEFINITION. The Cut List engine: its channels, segmented transfers, the checks of a request in their order, requests
that wait elsewhere, and the answers (R109 to R118, R145, R146, R522, R541, R542). -/

namespace Sys2Proof.Machine

open Sys2Proof

/-! Answers. -/

/-- The requester of a request. -/
def ClPend.who (a : ClPend) (ch : ChanId) : Who := { cls := a.cls, part := a.part, level := a.level, ch := ch }

/-- The class and partition of a channel's own requester (R88). -/
def chanClass : ChanId → Nat × Nat
  | .slot p => (if p = 0 then 0 else 1, p)
  | .mgt => (2, 0)
  | _ => (3, 0)

/-- Requests served, and those that ended with an abort (R117). -/
def clCount (abort : Nat) (s : State) : State :=
  let s := s.add64 0x1020 1 1
  if abort = 0 then s else s.add64 0x1020 2 1

/-- A request that is denied counts, and a tenant's is recorded (R90). -/
def clDeny (a : ClPend) (abort : Nat) (s : State) : State :=
  if abort = 0x0601 || abort = 0x0604 then
    let s := s.bump32 0x1020 3
    if a.cls = 1 then raiseP 0x0201 0 a.part (a.idx * 65536 + a.sub * 256) abort (s.bump32 (0x60C0 + a.part) 3) else s
  else s

/-- Octets as 32-bit symbols, the last one filled with zeros. -/
def symsOf (b : List Byte) : List Nat := (List.range ((b.length + 3) / 4)).map (fun k => leAt b (4 * k) 4)

/-- The octets of 32-bit symbols. -/
def octetsOf (l : List Nat) : List Byte := (l.map (leBytes 4)).flatten

/-- STATUS, DATA and the transfer of a channel after a segment. -/
def ClChan.finish (abort total : Nat) (more : Bool) (seg : List Byte) (c : ClChan) : ClChan :=
  { c with state := 2, abort := abort, segLen := seg.length, more := more, total := total, doneCnt := (c.doneCnt + 1) % 256,
           data := seg ++ c.data.drop seg.length, pend := none }

/-- A jig's request ends: RDOBJ sets x_D to the value and x_B to the abort code, WROBJ sets x_D to the abort code (R416). A
value that no rule states after an abort is free. -/
def jigAnswer (j abort : Nat) (v : Option Int) (s : State) : State :=
  let w := s.jigWord j
  if !(s.jig j).active then s
  else if opOf w = 0x29 then
    let x : BitVec 64 := match v with
      | some n => BitVec.ofInt 64 n
      | none => Config.freeValue s.free
    jigDo j (fun g => (g.setReg (bits w 11 8) x).setReg (bits w 19 16) (BitVec.ofNat 64 abort)) s.takeFree
  else if opOf w = 0x2A then jigDo j (fun g => g.setReg (bits w 11 8) (BitVec.ofNat 64 abort)) s
  else s

/-- CL_RSP to the node that asked (R145). -/
def clRsp (dst tag abort : Nat) (v : List Byte) (s : State) : State :=
  sendTo 0x12 dst false ([abort + 2 ^ 16 * tag, v.length] ++ symsOf v) s

/-- A request of a channel ends: an abort code, the whole length, whether more segments follow, and this segment. -/
def clEnd (ch : ChanId) (abort total : Nat) (more : Bool) (seg : List Byte) (s : State) : State :=
  let s := clCount abort s
  match ch with
  | .mgt => putPacket (s.clReply abort total more seg) (s.updChan .mgt (ClChan.finish abort total more seg))
  | _ => s.updChan ch (ClChan.finish abort total more seg)

/-- A request ends with an abort. -/
def clAbort (ch : ChanId) (a : ClPend) (abort : Nat) (s : State) : State :=
  let s := clDeny a abort s
  match ch with
  | .jig j => jigAnswer j abort none ((clCount abort s).updChan ch (fun c => { c with state := 0, pend := none }))
  | .chain => clRsp a.src a.tag abort [] ((clCount abort s).updChan ch (fun c => { c with state := 0, pend := none }))
  | _ => clEnd ch abort 0 false [] s

/-- A request ends with success and a whole value. A channel with segments returns its first 48 bytes; what is left opens a
read (R111, R112). -/
def clOk (ch : ChanId) (a : ClPend) (v : List Byte) (s : State) : State :=
  match ch with
  | .jig j =>
    let n : Int := match dictRow a.idx a.sub with
      | some r => r.ty.num v
      | none => 0
    jigAnswer j 0 (some n) ((clCount 0 s).updChan ch (fun c => { c with state := 0, pend := none }))
  | .chain => clRsp a.src a.tag 0 v ((clCount 0 s).updChan ch (fun c => { c with state := 0, pend := none }))
  | _ =>
    let long := decide (48 < v.length)
    let now := s.aon.clock
    let s := if a.op = 1 && long then s.updChan ch (fun c =>
        { c with openDir := 1, openIdx := a.idx, openSub := a.sub, openNode := a.node, openBuf := v, openPos := 48, openAt := now })
      else s
    clEnd ch 0 v.length long (v.take 48) s

/-- A request waits elsewhere. -/
def clWait (ch : ChanId) (a : ClPend) (why : Nat) (s : State) : State :=
  let now := s.aon.clock
  s.updChan ch (fun c => { c with state := 1, pend := some { a with why := why, since := now } })

/-! Service (R96, R114, R116). -/

/-- A write that has passed checks 1 to 10 and the Range column takes effect, waits, or ends with its abort. -/
def clEffect (ch : ChanId) (a : ClPend) (r : Row) (s : State) : State :=
  let v := r.rg.clip (r.ty.num a.val)
  let refuse (e : Nat) (s : State) : State := clAbort ch a e (objRefused a.idx a.sub a.val s)
  if a.idx = 0x5300 && a.sub = 5 then
    match rearmWrite s with
    | .ok t => clWait ch a 4 t
    | .error e => refuse e s
  else if 0x2620 ≤ a.idx && a.idx < 0x2628 && 4 ≤ a.sub && a.sub ≤ 6 then
    if a.sub = 4 && !(s.pmb (a.idx - 0x2620)).linear then refuse 0x0607 s else clWait ch a 5 s
  else
    match s.budgetRec a.idx a.sub v.toNat with
    | some b =>
      if !b.inRange then refuse abRange s
      else if s.budgetBarred b a.cls then refuse abState s
      else if !s.rootReach then refuse 0x060F s
      else
        match budAsk [b] s with
        | none => refuse 0x060D (s.bump32 0x2102 5)
        | some t => if s.isRoot then clOk ch a [] t else clWait ch a 3 t
    | none =>
      match objWrite (a.who ch) a.idx a.sub v a.val s with
      | .ok t => clOk ch a [] t
      | .error e => refuse e s

/-- A request for an object of this instance (checks 4 to 12). -/
def clLocal (ch : ChanId) (a : ClPend) (s : State) : State :=
  let x := s.checks (a.who ch) a.op a.idx a.sub
  if x != 0 then clAbort ch a x s
  else
    match dictRow a.idx a.sub with
    | none => clAbort ch a 0x0602 s
    | some r =>
      if a.op = 6 then clOk ch a (s.describe a.idx a.sub) s
      else if a.op = 1 then
        if syncReadState a.idx a.sub s then clAbort ch a abState s
        else if fwOwned a.idx a.sub then clWait ch a 0 s
        else
          match recReadState a.idx a.sub s with
          | .ok t => clOk ch a (t.clBytes ch a.idx a.sub) t
          | .error e => clAbort ch a e s
      else if !r.ty.fits a.val.length then clAbort ch a 0x0608 (objRefused a.idx a.sub a.val s)
      else if !r.inRange a.val then clAbort ch a abRange (objRefused a.idx a.sub a.val s)
      else if fwOwned a.idx a.sub then clWait ch a 0 s
      else clEffect ch a r s

/-- The request's node can be asked (R114, R150): a member on a link that is up. -/
def State.reaches (s : State) (n : Nat) : Bool :=
  n != 0x1F && s.isReady 8 && s.isReady 10 && (s.chain.role = 1 || s.chain.role = 2) && bit s.chain.memberMask n &&
    (match s.sideTo n with
      | some l => (s.link l).linkUp
      | none => false)

/-- CL_REQ with the whole value (R145). -/
def clSend (ch : ChanId) (a : ClPend) (s : State) : State :=
  let t := s.cl.clTag
  let s := { s with cl := { s.cl with clTag := (t + 1) % 256 } }
  let s := sendTo 0x11 a.node false ([a.op + 256 * a.sub + 65536 * a.idx,
    a.cls + 4 * a.part + 256 * a.level + 2 ^ 24 * t, a.val.length] ++ symsOf a.val) s
  clWait ch { a with tag := t } 1 s

/-- A whole request is served here or passed to its node (R114). While the engine stands still it waits (R522). -/
def clServe (ch : ChanId) (a : ClPend) (s : State) : State :=
  let s := s.updChan ch (fun c => { c with state := 1, pend := some a })
  if s.obs.standing then clWait ch a 2 s
  else if a.node = 0 || (a.node = s.nodeAddr && s.isReady 10) then clLocal ch a s
  else if s.reaches a.node then clSend ch a s
  else clAbort ch a 0x060F s

/-! Segments (R111, R112). -/

/-- The channel's open transfer ends. -/
def clClose (ch : ChanId) (s : State) : State :=
  if (s.chan ch).openDir = 0 then s
  else (s.bump32 0x1020 4).updChan ch (fun c => { c with openDir := 0, openBuf := [], openPos := 0 })

/-- A transfer without a segment for 10 ms has ended (R112). -/
def clExpire (ch : ChanId) (s : State) : State :=
  if (s.chan ch).openDir != 0 && decide ((s.chan ch).openAt + ms 10 ≤ s.aon.clock) then clClose ch s else s

/-- The longest value of an object; 0 where there is none. -/
def mostOf (i sub : Nat) : Nat :=
  match dictRow i sub with
  | some r => r.ty.most
  | none => 0

/-- A WRITE that opens a segmented write. -/
def clOpen (ch : ChanId) (a : ClPend) (s : State) : State :=
  let here := a.node = 0 || a.node = s.nodeAddr
  let x := if here then s.checks (a.who ch) 3 a.idx a.sub else if s.reaches a.node then 0 else 0x060F
  if x != 0 then clAbort ch a x s
  else if mostOf a.idx a.sub < a.val.length then clAbort ch a 0x060C s
  else
    let now := s.aon.clock
    clEnd ch 0 0 false [] (s.updChan ch (fun c =>
      { c with openDir := 2, openIdx := a.idx, openSub := a.sub, openNode := a.node, openBuf := a.val, openPos := 0, openAt := now }))

/-- A WRITE_NEXT adds its segment; with LAST the whole value is served. -/
def clMore (ch : ChanId) (a : ClPend) (last : Bool) (s : State) : State :=
  let c := s.chan ch
  if c.openDir != 2 then clAbort ch a 0x060C s
  else
    let v := c.openBuf ++ a.val
    let now := s.aon.clock
    if mostOf c.openIdx c.openSub < v.length then clAbort ch a 0x060C (clClose ch s)
    else if last then
      clServe ch { a with op := 3, idx := c.openIdx, sub := c.openSub, node := c.openNode, val := v }
        (s.updChan ch (fun c => { c with openDir := 0, openBuf := [], openPos := 0 }))
    else clEnd ch 0 0 false [] (s.updChan ch (fun c => { c with openBuf := v, openAt := now }))

/-- A READ_NEXT returns the next 48 bytes of the snapshot. -/
def clNext (ch : ChanId) (a : ClPend) (s : State) : State :=
  let c := s.chan ch
  if c.openDir != 1 then clAbort ch a 0x060C s
  else
    let rest := c.openBuf.drop c.openPos
    let more := decide (48 < rest.length)
    let now := s.aon.clock
    clEnd ch 0 c.openBuf.length more (rest.take 48) (s.updChan ch (fun c =>
      if more then { c with openPos := c.openPos + 48, openAt := now } else { c with openDir := 0, openBuf := [], openPos := 0 }))

/-- A channel takes a request (checks 1 and 2, R111, R112). -/
def clStart (ch : ChanId) (op : Nat) (r : ClReq) (s : State) : State :=
  let seg := r.data.take (min 48 r.len)
  let (cls, part) := chanClass ch
  let a : ClPend := { op := op, idx := r.idx, sub := r.sub, val := seg, cls := cls, part := part,
                      level := (s.chan ch).level, node := r.node, req := reqWord op r }
  let s := s.updChan ch (fun c => { c with seq := r.seq, req := reqWord op r })
  let s := clExpire ch s
  if s.obs.standing then clWait ch { a with tag := b2n r.last } 2 s
  else match op with
    | 1 => clServe ch { a with val := [] } (clClose ch s)
    | 2 => clNext ch a s
    | 3 => if r.last then clServe ch a (clClose ch s) else clOpen ch a (clClose ch s)
    | 4 => clMore ch a r.last s
    | 5 => clEnd ch 0 0 false [] (clClose ch s)
    | 6 => clServe ch { a with val := [] } s
    | _ => clAbort ch a 0x060B s

/-! Queues (R115). -/

/-- The waiting requests of firmware's own channel and of the chain channel are served while the channel is free; the
number bounds them. -/
def clDrain : Nat → State → State
  | 0, s => s
  | n + 1, s =>
    if s.obs.standing then s
    else match s.cl.fwQ, s.cl.chainQ with
      | a :: l, q =>
        if (s.chan .fw).state != 1 then
          clDrain n (clStart .fw a.op { idx := a.idx, sub := a.sub, len := a.val.length, last := a.tag = 1, node := a.node,
                                        seq := bits a.req 47 40, data := a.val } { s with cl := { s.cl with fwQ := l } })
        else match q with
          | b :: q => if (s.chan .chain).state != 1 then clDrain n (clServe .chain b { s with cl := { s.cl with chainQ := q } }) else s
          | [] => s
      | [], b :: q => if (s.chan .chain).state != 1 then clDrain n (clServe .chain b { s with cl := { s.cl with chainQ := q } }) else s
      | [], [] => s

/-- Serve what waits for a free channel. -/
def clTurn (s : State) : State := clDrain (s.cl.fwQ.length + s.cl.chainQ.length) s

/-- A request of firmware that finds its channel occupied queues, up to 32 (R115). -/
def fwRequest (op : Nat) (r : ClReq) (s : State) : State :=
  if (s.chan .fw).state != 1 then clStart .fw op r s
  else if s.cl.fwQ.length < 32 then
    let a : ClPend := { op := op, idx := r.idx, sub := r.sub, val := r.data.take (min 48 r.len), node := r.node, cls := 3,
                        tag := b2n r.last, req := reqWord op r }
    { s with cl := { s.cl with fwQ := s.cl.fwQ ++ [a] } }
  else clCount 0x060D s

/-- A request of another node arrives in the chain channel, whose queue holds 16 (R115, R146). -/
def chainRequest (src : Nat) (p : List Nat) (s : State) : State :=
  let x := p.headD 0
  let y := p.getD 1 0
  let a : ClPend := { op := x % 256, sub := bits x 15 8, idx := bits x 31 16, cls := y % 4, part := bits y 7 2, level := bits y 23 8,
                      tag := bits y 31 24, val := (octetsOf (p.drop 3)).take (p.getD 2 0), src := src }
  if !(a.op = 1 || a.op = 3 || a.op = 6) then clRsp src a.tag 0x060B [] (clCount 0x060B s)
  else if (s.chan .chain).state = 1 then
    (if s.cl.chainQ.length < 16 then { s with cl := { s.cl with chainQ := s.cl.chainQ ++ [a] } }
     else clRsp src a.tag 0x060D [] (clCount 0x060D s))
  else clServe .chain a s

/-! Submission (R22, R110, R115, R538). -/

/-- The mailbox takes requests: the host interface and the engine are ready (R82). -/
def State.mailbox (s : State) : Bool := s.aon.fabReleased && s.isReady 9 && s.isReady 10

/-- A channel is handed a request: a slot that is pending returns ERR_BUSY; the port discards one that finds it occupied; the
chain's and the jigs' requests come as frames and words of their own. -/
def clSubmit (ch : ChanId) (op : Nat) (r : ClReq) (s : State) : State :=
  match ch with
  | .slot p =>
    if !s.mailbox then s
    else if (s.chan ch).state = 1 then { s with host := { s.host with rspCode := 4 } }
    else
      let d := (r.data.take 48) ++ (s.chan ch).data.drop (min 48 r.data.length)
      let s := s.updChan (.slot p) (fun c => { c with data := d })
      clTurn (clStart ch op { r with data := d } { s with host := { s.host with rspCode := 0 } })
  | .mgt =>
    if !s.isReady 2 then s
    else if s.portBusy then discardPacket s
    else clTurn (clStart .mgt op r { (s.add64 0x2600 0x0F 1) with mgt := { s.mgt with busy := true } })
  | .fw => if s.isReady 10 && s.isReady 13 then clTurn (fwRequest op r s) else s
  | _ => s

/-- A channel writes a whole value, as the last request of its transfer. -/
def clWhole (ch : ChanId) (i sub : Nat) (v : List Byte) (s : State) : State :=
  let go (ch : ChanId) (s : State) : State :=
    let (cls, part) := chanClass ch
    let n := if v.isEmpty then 0 else (v.length - 1) % 48 + 1
    let seg := v.drop (v.length - n)
    let r : ClReq := { idx := i, sub := sub, len := n, last := true, data := seg }
    let op := if v.length ≤ 48 then 3 else 4
    let a : ClPend := { op := 3, idx := i, sub := sub, val := v, cls := cls, part := part, level := (s.chan ch).level,
                        tag := 1, req := reqWord op r }
    clTurn (clServe ch a (clClose ch (s.updChan ch (fun c => { c with seq := 0, req := reqWord op r, data := seg ++ c.data.drop n }))))
  match ch with
  | .slot _ =>
    if !s.mailbox then s
    else if (s.chan ch).state = 1 then { s with host := { s.host with rspCode := 4 } }
    else go ch { s with host := { s.host with rspCode := 0 } }
  | .mgt =>
    if !s.isReady 2 then s
    else if s.portBusy then discardPacket s
    else go .mgt { (s.add64 0x2600 0x0F 1) with mgt := { s.mgt with busy := true } }
  | .fw => if s.isReady 10 && s.isReady 13 && (s.chan .fw).state != 1 then go .fw s else s
  | _ => s

/-! Answers from elsewhere. -/

/-- The waiting request of a channel, if it waits for `why`. -/
def State.waits (s : State) (ch : ChanId) (why : Nat) : Option ClPend :=
  match (s.chan ch).pend with
  | some a => if a.why = why && (s.chan ch).state = 1 then some a else none
  | none => none

/-- Firmware answers a request that the engine passed to it (R116): with an abort of its own, or by doing what was asked if
the function is still ready (R97). -/
def clFirmware (ch : ChanId) (abort : Nat) (s : State) : State :=
  match s.waits ch 0 with
  | none => s
  | some a =>
    match dictRow a.idx a.sub with
    | none => clTurn (clAbort ch a 0x0602 s)
    | some r =>
      clTurn (if abort != 0 then clAbort ch a abort (if a.op = 3 then objRefused a.idx a.sub a.val s else s)
        else if s.unready r.own a.idx then clAbort ch a 0x0607 s
        else if a.op = 1 then clOk ch a (s.clBytes ch a.idx a.sub) s
        else clEffect ch a r s)

/-- Firmware has not taken the request (R116). -/
def clWithdraw (ch : ChanId) (s : State) : State :=
  match s.waits ch 0 with
  | none => s
  | some a =>
    let s := advanceTo (a.since + us 100) s
    clTurn (clAbort ch a 0x0611 (raise 0x0205 1 (a.idx * 65536 + a.sub * 256) 0x0611 (s.bump32 0x1020 5)))

/-- No response came within 1 ms (R114, R146). -/
def clNoAnswer (ch : ChanId) (s : State) : State :=
  match s.waits ch 1 with
  | none => s
  | some a => if s.obs.standing then s else clTurn (clAbort ch a 0x0610 (advanceTo (a.since + ms 1) s))

/-- Every channel of the engine. -/
def allChans : List ChanId :=
  (List.range 64).map ChanId.slot ++ [.mgt, .chain, .fw] ++ (List.range 16).map ChanId.jig

/-- A response from a node: it completes the request of its tag unless 1 ms has passed (R146). -/
def clResponse (src : Nat) (p : List Nat) (s : State) : State :=
  let x := p.headD 0
  let ask (ch : ChanId) : Bool := match s.waits ch 1 with
    | some a => a.tag = bits x 23 16 && a.node = src && decide (s.aon.clock ≤ a.since + ms 1)
    | none => false
  match allChans.find? ask with
  | none => s
  | some ch =>
    match s.waits ch 1 with
    | none => s
    | some a =>
      let abort := x % 65536
      let v := (octetsOf (p.drop 2)).take (p.getD 1 0)
      clTurn (if abort = 0 then clOk ch a (if a.op = 3 then [] else v) s else clAbort ch a abort s)

/-- The earliest request that waits for the root's acceptance of its BUD_REQ. -/
def State.firstAsk (s : State) : Option (ChanId × ClPend) :=
  let l := allChans.filterMap (fun ch => (s.waits ch 3).map (fun a => (ch, a)))
  l.foldl (fun m x => match m with
    | none => some x
    | some y => if x.2.since < y.2.since then some x else some y) none

/-- A BUD_VOTE with TXID 0 answers a waiting budget write (R138). -/
def clAccepted (yes : Bool) (s : State) : State :=
  match s.firstAsk with
  | none => s
  | some (ch, a) => clTurn (if yes then clOk ch a [] s else clAbort ch a 0x060D s)

/-- The re-arm's marks are confirmed or fail (R400): the request that asked for it ends. -/
def clRearmed (ok : Bool) (s : State) : State :=
  if !s.therm.rearming then s
  else
    let (abort, s) := rearmEnd ok s
    match allChans.find? (fun ch => (s.waits ch 4).isSome) with
    | none => s
    | some ch =>
      match s.waits ch 4 with
      | none => s
      | some a => clTurn (if abort = 0 then clOk ch a [] s else clAbort ch a abort s)

/-- A regulator's command completes (R550): the setpoint last written is what 0x2620.04 reads. -/
def clRegulator (ch : ChanId) (acked : Bool) (s : State) : State :=
  match s.waits ch 5 with
  | none => s
  | some a =>
    let d := a.idx - 0x2620
    let v := leVal a.val
    let s := pmbSend d [s.pmbCmd d a.sub v] acked s
    clTurn (if acked then clOk ch a [] (if a.sub = 4 then s.put a.idx 4 v else s) else clAbort ch a abState s)

/-- The regulators' commands that wait are sent before a poll, in the order written (R550). -/
def clRegulators (acked : Bool) (s : State) : State :=
  allChans.foldl (fun s ch => if (s.waits ch 5).isSome then clRegulator ch acked s else s) s

/-- A request that waited out a stop begins (R526): a whole one is served, a segment goes through its checks. -/
def clResumeOne (ch : ChanId) (s : State) : State :=
  match s.waits ch 2 with
  | none => s
  | some a =>
    let s := s.updChan ch (fun c => { c with state := 0, pend := none })
    match ch with
    | .jig _ => clServe ch a s
    | .chain => clServe ch a s
    | _ =>
      if a.req = 0 || (a.op = 3 && 48 < a.val.length) then clServe ch a s
      else clStart ch a.op { idx := a.idx, sub := a.sub, len := a.val.length, last := a.tag = 1, seq := bits a.req 47 40,
                             node := a.node, data := a.val } s

/-- The waiting channels are served after a stop. -/
def clResume (s : State) : State := clTurn (allChans.foldl (fun s ch => clResumeOne ch s) s)

/-- A debug entry's effect (R525): nothing of it waits, so a budget record goes to the root and a regulator's command is sent at
once. -/
def debugEffect (w : Who) (r : Row) (i sub : Nat) (b : List Byte) (s : State) : Except Nat State :=
  let v := r.rg.clip (r.ty.num b)
  if 0x2620 ≤ i && i < 0x2628 && 4 ≤ sub && sub ≤ 6 then
    if sub = 4 && !(s.pmb (i - 0x2620)).linear then .error 0x0607
    else
      let t := pmbSend (i - 0x2620) [s.pmbCmd (i - 0x2620) sub v.toNat] true s
      .ok (if sub = 4 then t.put i 4 v else t)
  else
    match s.budgetRec i sub v.toNat with
    | some q =>
      if !q.inRange then .error abRange
      else if s.budgetBarred q w.cls then .error abState
      else if !s.rootReach then .error 0x060F
      else
        match budAsk [q] s with
        | some t => .ok t
        | none => .error 0x060D
    | none => objWrite w i sub v b s

/-- A debug entry is applied as the operator's write at level 2.0 under every check of R96 (R525). -/
def debugApply (i sub : Nat) (b : List Byte) (s : State) : Nat × State :=
  let w : Who := { cls := 0, level := 0x0200 }
  let x := s.checks w 3 i sub
  match dictRow i sub with
  | none => (if x = 0 then 0x0602 else x, s)
  | some r =>
    if x != 0 then (x, s)
    else if !r.ty.fits b.length then (0x0608, s)
    else if !r.inRange b then (abRange, s)
    else match debugEffect w r i sub b s with
      | .ok t => (0, t)
      | .error e => (e, objRefused i sub b s)

end Sys2Proof.Machine
end

