-- ==== Sys2Proof/Machine/EnumLib.lean ====
section
/-! DEFINITION. What the root and the nodes do with the frames of enumeration, re-entry, budgets and telemetry once they are
whole (R132 to R144, R151, R362). -/

namespace Sys2Proof.Machine

open Sys2Proof

/-! Closing enumeration (R135, R136). -/

/-- Fewer members of a kind than expected (0: any number). -/
def State.short (s : State) (sat : Bool) (want : Nat) : Bool :=
  want != 0 && decide ((s.chain.descs.filter (fun d => d.sat = sat)).length < want)

/-- CHAIN is ready at a member: step 3 is done and its telemetry begins (R59, R136, R144). -/
def joinChain (s : State) : State :=
  let t := s.aon.clock + ms 1
  becomeReady 8 { s with chain := { s.chain with telemNextAt := t, tokenAt := none }, aon := { s.aon with step3Done := true } }

/-- The root closes enumeration with the nodes of a list (R136). -/
def rootClose (l : List Desc) (s : State) : State :=
  let l := l.filter (fun d => d.addr != 0)
  let order := l.map (fun d => d.addr)
  let s := { s with chain := { s.chain with
    memberMask := maskOf order, order := order, descs := l, enumClosed := true, token := [], isolated := false } }
  let s := s.put 0x2100 0x0A ((s.num 0x2100 0x0A + 1) % 2 ^ 32)
  let s := joinChain (broadcast 3 false (s.closeSyms (s.chainCfg 7)) s)
  let s := if s.short false (s.chainCfg 5) || s.short true (s.chainCfg 6) then raise 0x0604 2 s.chain.memberMask 0 s else s
  queueOwn s.storedBudgets s

/-- The far end's list reaches the root. -/
def takeReport (p : List Nat) (s : State) : State :=
  if s.isRoot && !s.chain.enumClosed then rootClose (descsOf (p.drop 1)) s else s

/-- ENUM_CLOSE: a frame for one node gives it its address; a node that holds an address of the mask is a member, takes the
root's isolated die budget and reports CHAIN ready (R136, R151). -/
def hearClose (dst : Nat) (p : List Nat) (s : State) : State :=
  if s.isRoot then s
  else
    let one := dst != 0x1F
    let s := if one then { s with chain := { s.chain with addr := dst, overpop := false } } else s
    let m := p.headD 0
    if s.chain.addr != 0 && bit m s.chain.addr then
      let was := s.chain.role = 2
      let iso := if was then s.chain.isolated else one
      let lost := maskOf ((bitsOf 32 s.chain.lostMask).filter (fun a => !bit m a))
      let s := { s with
        chain := { s.chain with role := 2, memberMask := m, lostMask := lost, order := orderOf ((p.drop 1).take 4), isolated := iso },
        dove := { s.dove with epoch := if was then s.dove.epoch else 0 } }
      joinChain (s.put 0x2100 7 (recOf (p.getD 5 0)).value)
    else rejoinTry s

/-! Re-entry at the root (R151, R152). -/

/-- The first free address of a kind. -/
def State.freeAddr (s : State) (sat : Bool) : Option Nat :=
  ((List.range 8).map (fun k => k + (if sat then 0x11 else 1))).find?
    (fun a => a != 1 && !bit s.chain.memberMask a && !bit s.chain.lostMask a)

/-- The root admits a node at an address. -/
def admitNode (d : Desc) (a : Nat) (s : State) : State :=
  let d := { d with addr := a }
  let s := { s with chain := { s.chain with
    memberMask := putBit s.chain.memberMask a true, lostMask := putBit s.chain.lostMask a false,
    released := putBit s.chain.released a false,
    order := if s.chain.order.contains a then s.chain.order else s.chain.order ++ [a],
    descs := s.chain.descs.filter (fun x => x.addr != a) ++ [d] } }
  let p := s.closeSyms (s.chainCfg 7)
  let s := broadcast 3 false p (sendTo 3 a false p s)
  queueOwn [{ node := a, kind := 2, value := s.budget 2 a }] s

/-- NODE_REJOIN at the root: a lost member's serial gives back its address, any other node takes the first free one. -/
def takeRejoin (p : List Nat) (s : State) : State :=
  if !s.isRoot || !s.chain.enumClosed then s
  else
    let d := descOf (p.headD 0) (p.getD 1 0) (p.getD 2 0)
    match s.chain.descs.find? (fun x => x.serial = d.serial && bit s.chain.lostMask x.addr) with
    | some x => if bit s.chain.heldMask x.addr then s else admitNode d x.addr s
    | none =>
      match s.freeAddr d.sat with
      | some a => admitNode d a (raise 0x0606 1 a 0 s)
      | none => s

/-! Budget transactions (R138 to R142). -/

/-- BUD_REQ at the root: all its records are queued or none. -/
def takeBudReq (src : Nat) (p : List Nat) (s : State) : State :=
  if !s.isRoot then s
  else
    match queueRecs (p.map recOf) s with
    | some t => sendTo 0x0B src true [voteSym 0 0] t
    | none => sendTo 0x0B src true [voteSym 0 1] (s.bump32 0x2102 5)

/-- BUD_PREPARE at a node: its vote. -/
def takePrepare (p : List Nat) (s : State) : State :=
  if s.isRoot then s
  else
    let id := p.headD 0 % 65536
    let (w, s) := prepare id (((p.drop 1).take (bits (p.headD 0) 19 16)).map recOf) s
    sendTo 0x0B 1 true [voteSym id w] s

/-- BUD_VOTE: the root collects it, or repeats a decision it has made; TXID 0 answers a BUD_REQ. -/
def hearVote (src : Nat) (p : List Nat) (s : State) : State :=
  let id := p.headD 0 % 65536
  let yes := bit (p.headD 0) 16
  if id = 0 then clAccepted yes s
  else if !s.isRoot then s
  else if s.chain.txn.map (fun t => t.txid) = some id then takeVote src yes s
  else
    match s.chain.decisions.find? (fun x => x.1 = id) with
    | some x => sendTo (if x.2 then 0x0C else 0x0D) src true [id] s
    | none => s

/-- 10 us pass without every vote. -/
def votesExpire (s : State) : State :=
  match s.chain.txn with
  | some t => if s.isRoot && !s.obs.standing then abortRetry t (advanceTo (t.openedAt + us 10) s) else s
  | none => s

/-- A member hears no outcome of its vote within 50 us (R142). -/
def outcomeExpire (txid : Nat) (s : State) : State :=
  match s.chain.preps.find? (fun p => p.txid = txid && !p.committed) with
  | none => s
  | some p =>
    if s.isRoot || s.obs.standing then s
    else
      let s := advanceTo (p.votedAt + us 50) s
      if s.rootReach then
        let t := s.aon.clock
        sendTo 0x0B 1 true [voteSym txid 0] { s with chain := { s.chain with
          preps := s.chain.preps.map (fun q => if q.txid = txid then { q with votedAt := t } else q) } }
      else isolate { s with chain := { s.chain with preps := s.chain.preps.filter (fun q => q.txid != txid) } }

/-- A committed transaction comes into force within its window (R141). -/
def applyDue (txid : Nat) (s : State) : State :=
  match s.chain.preps.find? (fun p => p.txid = txid && p.committed) with
  | some p => if s.obs.standing then s else applyTxn p s
  | none => s

/-! Telemetry (R144) and barriers (R362). -/

/-- A whole TELEM message at a member; a partial one changes nothing. -/
def hearTelem (src : Nat) (p : List Nat) (s : State) : State :=
  if p.length = 48 && (s.chain.role = 1 || s.chain.role = 2) then telemTake src p s else s

/-- A member with its four buffers in use drops its own copy, and counts it. -/
def telemIn (l : Side) (f : Frame) (s : State) : State :=
  let full := (kvGet s.chain.partial_ (partialKey f)).isNone && decide (4 ≤ s.telemHeld)
  let t := frameIn l 0x10 f (hearTelem f.src) s
  if full && (kvGet t.chain.partial_ (partialKey f)).isSome then
    ({ t with chain := { t.chain with partial_ := kvDel t.chain.partial_ (partialKey f) } } : State).bump32 0x2101 0x0D
  else t

/-- A BARRIER frame: ARRIVE at the root, RELEASE and CANCEL at the members. -/
def hearBarrierFrame (src : Nat) (p : List Nat) (s : State) : State :=
  let op := p.headD 0 / 65536 % 4
  let e := p.headD 0 % 65536
  if op = 0 then (if s.isRoot then rootArrive src e s else s) else hearBarrier op e (p.getD 1 0) s

end Sys2Proof.Machine
end

