-- ==== Sys2Proof/Machine/BringLib.lean ====
section
/-! DEFINITION. Bring-up: what a power-on reset leaves, the boot record as it comes into force, the tracking groups, and
what follows power-good (R54 to R68, R132, R137, R167, R260). -/

namespace Sys2Proof.Machine

open Sys2Proof

/-! Reset (R21, R47, R56, R228, R493, R501). -/

/-- The flash after a reset or a loss of power: what was being written is lost, and the port starts afresh (R83, R102, R422,
R493, R501). -/
def State.flashLost (s : State) : Flash :=
  let f := (flashCut s).flash
  let f := if f.bootWrite = 1 then { f with bootB := [] } else f
  let toB := f.defA.valid && (!f.defB.valid || decide (f.defB.store ≤ f.defA.store))
  let f := if s.cl.storeState = 1 then (if toB then { f with defB := {} } else { f with defA := {} }) else f
  let f := if s.therm.calStore = 1 then
      (if f.calAStore ≤ f.calBStore then { f with calA := [], calAStore := 0 } else { f with calB := [], calBStore := 0 })
    else f
  { f with busy := none, waiting := [], failRun := 0, slowTries := 0, nvReady := false, fixedOpen := false, circNext := 0,
           circFresh := false, seqNext := 1, bootWrite := 0, bootNew := [], imgCopy := 0, imgErr := 0 }

/-- A comparator across a reset of the islands: its output and its latch stay; moments count from the new tick 0. -/
def Trip.across (t : Trip) : Trip := { t with riseAt := 0, qualAt := t.qualAt.map (fun _ => 0) }

/-- Every island is in reset. Retention, the hard-trip path with its latches, the flash and the pins stay (R21, R37, R47,
R228). -/
def State.afterPor (s : State) : State :=
  let ts := s.therm.trips.map Trip.across
  { obj := {}, cl := {},
    aon := { vddAon := s.aon.vddAon, porN := false, hostRstN := s.aon.hostRstN, thermtripN := s.aon.thermtripN },
    prot := { retention := s.prot.retention, tripHold := s.prot.tripHold },
    clk := { tripHeld := s.clk.tripHeld },
    therm := { trips := ts, belowFrom := if ts.any (·.above) then none else some 0 },
    flash := s.flashLost, inst := s.inst, free := s.free, pending := s.pending }

/-- VDD_AON is lost: nothing but the flash stays. The level of THERMTRIP_N until the next rise is open (R56, R228). -/
def State.afterLoss (s : State) : State :=
  { obj := {}, cl := {},
    aon := { vddAon := false, porN := false, hostRstN := s.aon.hostRstN, thermtripN := (Config.freeValue s.free).getLsbD 0 },
    flash := s.flashLost, inst := s.inst, free := s.free + 1, pending := s.pending }

/-! The boot record in force (R62, R63, R194, R260). -/

/-- The boot record in use. -/
def State.boot (s : State) : BootRec := s.aon.bootRec.getD {}

/-- The controller that a boot record gives a phase; 7 for none. -/
def BootRec.ctrlOf (b : BootRec) (n : Nat) : Nat := ((List.range 6).find? (fun k => bit (b.phMask.getD k 0) n)).getD 7

/-- A phase takes its controller and its in-service state; a failed phase stays failed. -/
def Phase.boot (b : BootRec) (n : Nat) (p : Phase) : Phase :=
  let c := b.ctrlOf n
  { p with ctrl := c, state := if c = 7 then 0 else if p.state = 5 || p.state = 6 then p.state else 2 }

/-- A rail controller takes its identity, group, frequency, setpoint and enable. -/
def Rail.boot (b : BootRec) (k : Nat) (r : Rail) : Rail :=
  let v := b.setpoint.getD k 0
  { r with railId := b.railId.getD k 0, group := b.group.getD k 0, fsw := b.fsw.getD k 0, enable := v != 0, setGoal := v,
           setNow := 256 * (v : Int) }

/-- The target that the regions take: SHIM_SET, or the CORE setpoint on the grid (R260). -/
def State.bootTarget (s : State) : Nat :=
  if s.shimSet != 0 then s.shimSet else max 550 (min 950 ((s.rail s.core).setGoal / 5 * 5))

/-- A region takes its mode, target, reference and kerf offset (R260). -/
def Region.boot (v ofs : Nat) (byp : Bool) (r : Region) : Region :=
  { r with bypass := byp, target := v, ref := v, refOld := v, kerfOfs := ofs }

/-- The rails, phases, groups and, before SHIMS is ready, the regions take what the boot record gives (R64, R194, R260). -/
def loadBoot (b : BootRec) (s : State) : State :=
  let s := { s with aon := { s.aon with bootRec := some b }, phases := s.phases.mapIdx (Phase.boot b),
                    rails := s.rails.mapIdx (Rail.boot b) }
  let s := forEach [0, 1, 2, 3] (fun g s =>
    (s.put 0x3001 (1 + g) (b.gmode.getD g 0 : Nat)).put 0x3001 (5 + g) (b.gslew.getD g 0 : Nat)) s
  if s.isReady 6 || s.inst.sat then s
  else
    let v := s.bootTarget
    { s with regions := s.regions.map (Region.boot v b.kerfOfs (b.shimSet = 0)) }

/-! Tracking groups (R64 to R67). -/

/-- The rails of a tracking group. -/
def State.groupRails (s : State) (g : Nat) : List Nat :=
  (List.range 6).filter (fun k => s.railUsed k && (s.rail k).group = g)

/-- The highest setpoint of a group, mV. -/
def State.groupTop (s : State) (g : Nat) : Nat := ((s.groupRails g).map (fun k => (s.rail k).setGoal)).foldl max 0

/-- The ramp rate of rail k in its group's start: GSLEW, or its share of it (R65). -/
def State.startRate (s : State) (g k : Nat) : Nat :=
  let x := rateOf (s.boot.gslew.getD g 0)
  if s.boot.gmode.getD g 0 = 0 then x else x * (s.rail k).setGoal / max 1 (s.groupTop g)

/-- CTL cycles of a ramp from 0 V to a voltage of 1/256 mV, in whole sample intervals. -/
def rampCycles (v rate : Nat) : Nat := if rate = 0 then 0 else (v * 65536 + rate - 1) / rate * 50

/-- The nominal ramp time of a group (R67). -/
def State.groupRamp (s : State) (g : Nat) : Nat :=
  ((s.groupRails g).map (fun k => rampCycles (256 * (s.rail k).setGoal) (s.startRate g k))).foldl max 0

/-- What a root strap comes to as RAILS becomes ready (R132). -/
def strapCheck (s : State) : State :=
  if s.aon.strapRoot && (s.inst.sat || s.chain.up.lock) then
    rootConflict { s with chain := { s.chain with conflict := true } }
  else s

/-- Every group has reached power-good: the controllers take bank A with its commissioning values, RAILS reports ready and
step 3 begins (R59, R64, R132, R151, R167). In a start after a re-arm the instance tries to rejoin (R400). -/
def railsReady (s : State) : State :=
  if s.isReady 5 then rejoinTry s
  else
    let s := functionDefaults 5 s
    let s := setReady 5 { s with rails := s.rails.map (fun r => { r with builtin := false, bankB := false }) }
    let now := s.aon.clock
    let s := strapCheck ((s.setEnable 3 true))
    rejoinTry { s with aon := { s.aon with step3At := some now } }

/-- The turn of group g or, where it has no rails, of the next that has; after the last, RAILS is ready (R64). -/
def groupTurn (g : Nat) (s : State) : State :=
  match [0, 1, 2, 3].find? (fun h => decide (g ≤ h) && !(s.groupRails h).isEmpty) with
  | some h =>
    let t := s.aon.clock + us (10 * s.boot.gdelay.getD h 0)
    { s with aon := { s.aon with curGroup := h, groupDelayAt := some t, groupRampAt := none } }
  | none => railsReady { s with aon := { s.aon with curGroup := 4, groupDelayAt := none, groupRampAt := none } }

/-- The rails of the present group that stand in OFF begin to ramp (R64, R65). -/
def groupGo (s : State) : State :=
  let g := s.aon.curGroup
  let now := s.aon.clock
  let l := (s.groupRails g).filter (fun k => (s.rail k).state = 0)
  let s := { s with aon := { s.aon with groupDelayAt := none, groupRampAt := some now } }
  forEach l (fun k s => startRail k (s.startRate g k) s) s

/-- The rail regulates or moves. -/
def State.railUp (s : State) (k : Nat) : Bool := (s.rail k).state = 2 || (s.rail k).state = 3

/-- Every rail of the present group has reached power-good (R64). -/
def State.groupUp (s : State) : Bool :=
  s.aon.groupRampAt.isSome && decide (s.aon.curGroup < 4) && (s.groupRails s.aon.curGroup).all s.railUp

/-- CORE is at power-good: SHIMS is ready; in bypass the kerf units arm, else each shim whose input exceeds its reference
regulates (R68, R265). -/
def coreGood (s : State) : State :=
  let s := becomeReady 6 s
  if s.inst.sat then s
  else
    let s := { s with regions := s.regions.map (fun r => if r.bypass then { r with armed := true } else r) }
    forEach (List.range 256) startRegulate s

/-- Rail k reaches power-good and REGULATING (R67), and what that brings with it. -/
def powerGood (k : Nat) (s : State) : State :=
  let r := s.rail k
  let s := advanceTo (r.startAt + rampCycles r.setNow.toNat r.rampRate + us 10) s
  let s := s.updRail k (fun r => { r with state := 2, ref := r.setNow, rampRate := 0, prebias := false })
  let now := s.aon.clock
  let s := if s.ctrlOf 1 = some k then
      { s with aon := { s.aon with sramPgAt := some (s.aon.sramPgAt.getD now) }, therm := { s.therm with fullFrom := now } }
    else s
  let s := if s.ctrlOf 0 = some k then coreGood s else s
  if s.groupUp then groupTurn (s.aon.curGroup + 1) s else s

/-- The present group has missed power-good: each of its rails raises PG_TIMEOUT and enters SAFE; later groups do not start
(R67). -/
def groupMissed (s : State) : State :=
  let l := s.groupRails s.aon.curGroup
  let s := { s with aon := { s.aon with groupRampAt := none } }
  forEach l (fun k s => raiseFault k 0x030D 3 0xFF 0xFFFF 0 s) s

/-! Islands (R54, R55, R287). -/

/-- FAB is released once ENG is released and HOST_RST_N is high (R54). -/
def fabTry (s : State) : State :=
  { s with aon := { s.aon with fabReleased := s.aon.engReleased && s.aon.hostRstN } }

/-- The smallest divider in sixteenths that keeps ENG at or below 1.0 GHz (R287). -/
def engDivider (khz : Nat) : Nat := max 16 ((16 * khz + 999999) / 1000000)

/-- ENG is released, on PLL_A_IN or on the CTL clock; STP and FAB follow where their conditions hold (R54, R55, R287). -/
def engGo (onCtl : Bool) (s : State) : State :=
  let d := if onCtl then 16 else engDivider s.clk.pllA.freq
  fabTry { s with aon := { s.aon with engReleased := true, engOnCtl := onCtl, stpReleased := true },
                  clk := { s.clk with engDiv := d, engInt := onCtl } }

/-- The next step may start: no trip holds it and STOP_IN is not asserted (R61, R83). -/
def State.mayStep (s : State) : Bool := s.aon.porN && s.aon.thermtripN && !s.aon.stopInAct

/-- The static EID is in use from MGT ready while none has been set (R540). -/
def staticEid (s : State) : State :=
  if s.isReady 2 && s.mgt.eid = 0 then { s with mgt := { s.mgt with eid := s.pn 0x2600 3 } } else s

/-- What the reads of step 1a find (R59, R61, R62, R100, R498). -/
def bootReads (s : State) : State :=
  let b := s.flashBoot
  let s := { s with aon := { s.aon with bootReading := false, bootRec := b } }
  let s := if b.isNone then raise 0x0104 3 3 0 s else s
  let s := if s.flash.present then hdrAppend (fun e => { e with boot := (e.boot + 1) % 2 ^ 32 }) s else s
  let s := if s.flashRead.heldSlots.isEmpty then s else { s with aon := { s.aon with thermtripN := false } }
  let s := match s.defCur with
    | some d => { s with cl := { s.cl with storeState := 0, storeNo := d.store } }
    | none => s
  becomeReady 3 (staticEid (loaderApply s))

end Sys2Proof.Machine
end

