-- ==== Sys2Proof/Machine/HandLib.lean ====
section
/-! DEFINITION. Firmware hand-over, the start of firmware and the global watchdog (R69 to R76, R419, R421, R423, R428, R460). -/

namespace Sys2Proof.Machine

open Sys2Proof

/-- Channel 0 as the device needs it: for the hand-over from FETCH or ACCEPT until STATE reads loaded or failed (1), for the
reload of an engine (2), or not at all (R72, R423, R427, R460). -/
def channel0 (s : State) : State :=
  if s.aon.imgState = 1 || s.aon.imgState = 2 || s.aon.imgState = 3 then
    (if kvGet s.dma.internalFor 0 = some 1 then s else dmaWant 1 s)
  else if s.dowel.engines.any (fun e => e.state = 3) then (if kvGet s.dma.internalFor 0 = some 2 then s else dmaWant 2 s)
  else if s.dmaHeld0 || (s.dmaCh 0).hostDue then dmaGive 0 s
  else s

/-- A hand-over ends in failure: IMAGE_FAIL with its cause and the slot (R73, R482). -/
def imgFail (cause : Nat) (s : State) : State :=
  channel0 (raise 0x0107 2 cause s.aon.slotUsed { s with aon := { s.aon with imgState := 5 } })

/-- The flags of IMG_STATUS clear (R71). -/
def imgClear (s : State) : State := { s with aon := { s.aon with fetchErr := false, mismatch := false, imgRejected := false } }

/-- Staging from a flash slot starts (R70, R72). -/
def imgStage (slot : Nat) (s : State) : State := channel0 { s with aon := { s.aon with imgState := 1, slotUsed := slot } }

/-- The slot that SLOT names: A, B, or the active one (R70). -/
def State.imgSlotOf (s : State) : Nat := if s.aon.imgSlot = 1 || s.aon.imgSlot = 2 then s.aon.imgSlot else s.hdrUse.active

/-- FETCH (R70, R71, R73, R74, R428). While engines take an image in an update it has no effect. -/
def imgFetch (s : State) : State :=
  if s.dowel.updating then s
  else
    let s := imgClear { s with dowel := { s.dowel with fwBarred := false, reloading := false } }
    if s.aon.strapBoot = 2 then imgFail 4 { s with aon := { s.aon with fetchErr := true, slotUsed := 0 } }
    else imgStage s.imgSlotOf { s with aon := { s.aon with imgOtherTried := false } }

/-- The staging copy ends (R71, R73). -/
def imgStaged (readOk : Bool) (s : State) : State :=
  let img := if s.aon.slotUsed = 2 then s.flashRead.imgB else s.flashRead.imgA
  if readOk && img.valid then
    { s with aon := { s.aon with imgState := 2, imgLen := img.length, imgCrc := img.crc }, dowel := { s.dowel with newImg := img } }
  else imgFail 4 { s with aon := { s.aon with fetchErr := true } }

/-- An accepted image while FW is ready: its CRC and TASK_ABI are checked, and the engines take it one by one (R423). -/
def imgUpdate (crc : Nat) (s : State) : State :=
  if crc != s.aon.imgCrc then updateFail 5 (imgFail 1 { s with aon := { s.aon with mismatch := true } })
  else if s.dowel.newImg.taskAbi != s.dowel.runImg.taskAbi then
    channel0 (updateFail 1 { s with aon := { s.aon with imgState := 4 } })
  else channel0 (updateBegin { s with aon := { s.aon with imgState := 3 } })

/-- The load of an accepted image starts: from the buffer through channel 0, or engine by engine while FW is ready (R72,
R423). -/
def imgLoad (crc : Nat) (s : State) : State :=
  if s.isReady 13 then imgUpdate crc s else channel0 { s with aon := { s.aon with imgState := 3 } }

/-- ACCEPT of the image that the buffer holds (R72, R74). After a second expiry of the global watchdog within 1 s only a
FETCH lets FW start again (R428). -/
def imgAccept (img : Image) (s : State) : State :=
  if s.dowel.updating || s.dowel.fwBarred then s
  else if s.aon.strapBoot = 2 then
    let s := imgClear { s with aon := { s.aon with slotUsed := 0 } }
    if s.aon.imgLenReg < 64 || s.aon.imgLenReg != img.length || !img.valid then
      imgFail 4 { s with aon := { s.aon with fetchErr := true } }
    else
      let n := s.aon.imgLenReg
      let c := if s.isReady 13 then img.crc else s.aon.imgCrc
      imgLoad img.crc { s with aon := { s.aon with imgLen := n, imgCrc := c },
                               dowel := { s.dowel with newImg := img, reloading := false } }
  else if s.aon.imgState = 2 then imgLoad img.crc s
  else s

/-- REJECT (R73). -/
def imgReject (s : State) : State :=
  if s.aon.imgState != 2 then s
  else
    let s := { s with aon := { s.aon with imgRejected := true } }
    if s.aon.imgSlot = 1 || s.aon.imgSlot = 2 then imgFail 3 s
    else if s.aon.imgOtherTried then imgFail 2 s
    else imgStage (if s.aon.slotUsed = 2 then 1 else 2) { s with aon := { s.aon with imgOtherTried := true } }

/-- A write of IMG_CTRL: SLOT and LEN, then FETCH, ACCEPT of the image in the buffer, or REJECT (R70, R74). -/
def imgCtrlWrite (w strb : Nat) (img : Image) (s : State) : State :=
  let b := bit strb 0
  let n := mergeBytes (2 ^ 32 * s.aon.imgLenReg) w strb
  let s := { s with aon := { s.aon with imgSlot := if b then bits w 2 1 else s.aon.imgSlot, imgLenReg := bits n 55 32 } }
  let s := if b && bit w 0 then imgFetch s else s
  let s := if b && bit w 3 then imgAccept img s else s
  if b && bit w 4 then imgReject s else s

/-- IMG_CTRL as it reads (R70). -/
def State.imgCtrl (s : State) : Nat := 2 * s.aon.imgSlot + 2 ^ 32 * s.aon.imgLenReg

/-- IMG_STATUS (R71). -/
def State.imgStatus (s : State) : Nat :=
  let a := s.aon
  a.imgState + 8 * a.slotUsed + 32 * b2n a.fetchErr + 64 * b2n a.mismatch + 128 * b2n a.imgRejected + 256 * a.imgLen + 2 ^ 32 * a.imgCrc

/-- Jigs with autostart start as FW becomes ready (R419, R432). -/
def autostart (s : State) : State :=
  forEach (List.range 16) (fun j s =>
    if s.num (0x2310 + j) 0x0F = 1 then
      match jigControl j 1 s with
      | .ok t => t
      | .error _ => s
    else s) s

/-- The engines start from a matching image and FW becomes ready (R72, R77, R548). -/
def fwStart (s : State) : State :=
  let img := s.dowel.newImg
  let slot := s.aon.slotUsed
  let s := { s with aon := { s.aon with imgState := 4 },
                    dowel := { s.dowel with runImg := img, runSlot := slot, reloading := false, updLastAt := none } }
  autostart (becomeReady 13 (channel0 (((enginesStart s).setEnable 7 true).setEnable 16 true)))

/-- The CRC of a first load under STRAP_BOOT 0b10 is stored as it is computed (R74). -/
def imgCrcTake (busOk : Bool) (crc : Nat) (s : State) : State :=
  if s.aon.strapBoot = 2 && busOk && !s.dowel.reloading then
    let img := { s.dowel.newImg with crc := crc }
    { s with aon := { s.aon with imgCrc := crc }, dowel := { s.dowel with newImg := img } }
  else s

/-- The read-back of a load ends with its CRC (R72, R74). -/
def imgLoaded (busOk : Bool) (crc : Nat) (s : State) : State :=
  let s := imgCrcTake busOk crc s
  if busOk && crc = s.aon.imgCrc then fwStart s
  else imgFail 1 { s with aon := { s.aon with mismatch := true }, dowel := { s.dowel with reloading := false } }

/-! The global watchdog (R428). -/

/-- Every request that waits on firmware ends with FW_TIMEOUT. -/
def fwRequestsEnd (s : State) : State :=
  allChans.foldl (fun s ch => clFirmware ch 0x0611 s) s

/-- An engine resets: nothing runs on it, and its background tasks are lost with it. One that is off stays off (R427). -/
def Engine.reset (e : Engine) : Engine :=
  { e with state := if e.state = 5 then 5 else 0, new := false, running := none, deque := [] }

/-- Every engine resets (R428). -/
def enginesReset (s : State) : State :=
  { s with dowel := { s.dowel with engines := s.dowel.engines.map Engine.reset, overflow := [], pins := [] } }

/-- The global watchdog expires (R428): a second expiry within 1 s leaves FW not ready until FETCH. -/
def globalWatchdog (s : State) : State :=
  let now := s.aon.clock
  let again := s.dowel.gwdogHist.any (fun t => decide (now < t + ms 1000))
  let s := if s.dowel.updating then updateFail 4 { s with dowel := { s.dowel with rollback := false } } else s
  let s := forEach ((List.range 16).filter (fun j => (s.jig j).state = 2)) jigHalt (enginesReset s)
  let s := thmodelLost (clearReady 14 (clearReady 13 { s with therm := { s.therm with fw4 := 31 } }))
  let s := fwRequestsEnd s
  let s := setDowelFlag 5 (raise 0x0E03 1 0 0 (assertNmi s))
  let s := { s with dowel := { s.dowel with gwdogHist := [now], fwBarred := again, reloading := !again } }
  if again then channel0 { s with aon := { s.aon with imgState := 5 } }
  else
    let r := s.dowel.runImg
    let n := s.dowel.runSlot
    channel0 { s with aon := { s.aon with imgState := 3, imgLen := r.length, imgCrc := r.crc, slotUsed := n },
                      dowel := { s.dowel with newImg := r } }

end Sys2Proof.Machine
end

