-- ==== Sys2Proof/Machine/BringUp.lean ====
section
/-! DEFINITION. The commands of bring-up: supplies, resets, the start-up sequence and the firmware hand-over's events (R21,
R54 to R82, R228, R428). -/

namespace Sys2Proof.Machine

open Sys2Proof

/-- VDD_AON_RISE (R56). -/
def execVddAonRise (s : State) : Host.Outcome State Fault Refusal :=
  if s.aon.vddAon then .next s
  else .next { s with aon := { s.aon with vddAon := true, thermtripN := true }, prot := { s.prot with retention := [] },
                      therm := { s.therm with trips := List.replicate 3 {} } }

/-- VDD_AON_LOSS (R228). -/
def execVddAonLoss (s : State) : Host.Outcome State Fault Refusal :=
  if s.aon.vddAon then .next s.afterLoss else .next s

/-- POR_N_ASSERT (R21). -/
def execPorNAssert (s : State) : Host.Outcome State Fault Refusal :=
  if s.aon.porN then .next s.afterPor else .next s

/-- POR_N_RELEASE (R54, R80). -/
def execPorNRelease (s : State) : Host.Outcome State Fault Refusal :=
  if s.aon.vddAon && !s.aon.porN then .next (becomeReady 1 { s with aon := { s.aon with porN := true, clock := 0 } })
  else .next s

/-- STRAP_LATCH (R30): 16 ticks after POR_N rises. -/
def execStrapLatch (root : Bool) (smb boot : Nat) (s : State) : Host.Outcome State Fault Refusal :=
  if s.aon.porN && !s.aon.strapsLatched then
    let s := advanceTo 64 s
    let a := { s.aon with strapsLatched := true, strapRoot := root, strapSmb := smb % 128, strapBoot := boot % 4 }
    .next (becomeReady 0 { s with aon := a })
  else .next s

/-- MGT_READY (R82): 1,000 ticks after POR_N rises. -/
def execMgtReady (s : State) : Host.Outcome State Fault Refusal :=
  if s.aon.strapsLatched && !s.isReady 2 then .next (staticEid (becomeReady 2 (advanceTo 4000 s))) else .next s

/-- XSPI_RESET_END (R29). -/
def execXspiResetEnd (s : State) : Host.Outcome State Fault Refusal :=
  if s.aon.porN && !s.aon.xspiRstN then
    let s := advanceTo (us 10) s
    let now := s.aon.clock
    .next { s with aon := { s.aon with xspiRstN := true, flashWaitFrom := some now } }
  else .next s

/-- BOOT_FLASH_READ_START (R59): not with STRAP_BOOT 0b10. -/
def execBootFlashReadStart (s : State) : Host.Outcome State Fault Refusal :=
  match s.aon.flashWaitFrom with
  | some t =>
    if s.aon.strapsLatched && s.aon.strapBoot != 2 && !s.aon.bootReading && !s.isReady 3 then
      let s := advanceTo (t + ms 1) s
      .next { s with aon := { s.aon with bootReading := true } }
    else .next s
  | none => .next s

/-- BOOT_READS_DONE (R59, R61). -/
def execBootReadsDone (s : State) : Host.Outcome State Fault Refusal :=
  if s.aon.bootReading then .next (bootReads s) else .next s

/-- A reference has passed its monitor: it becomes the source of the CTL PLL, or REF100_IN takes it over (R44). -/
def refQualified (ref100 : Bool) (s : State) : State :=
  let s := srcQualify (if ref100 then .ref100 else .xtal) s
  if s.aon.ctlSource = 0 then { s with aon := { s.aon with ctlSource := 1, refSel := ref100 } }
  else if s.aon.ctlSource = 1 && ref100 then { s with aon := { s.aon with refSel := true } }
  else s

/-- REFERENCE_QUALIFIED (R44). -/
def execReferenceQualified (ref100 : Bool) (s : State) : Host.Outcome State Fault Refusal :=
  if s.aon.porN then .next (refQualified ref100 s) else .next s

/-- REFERENCE_LIMIT_EXPIRY (R44): 2 ms after POR_N rises. -/
def execReferenceLimitExpiry (s : State) : Host.Outcome State Fault Refusal :=
  if s.aon.porN && s.aon.ctlSource = 0 then
    let s := advanceTo (ms 2) s
    .next (raise 0x0105 2 0 0 { s with aon := { s.aon with ctlSource := 2 }, clk := { s.clk with ctlRc := true } })
  else .next s

/-- CTL_PLL_LOCK (R54). -/
def execCtlPllLock (s : State) : Host.Outcome State Fault Refusal :=
  if s.aon.porN && s.aon.ctlSource != 0 && !s.aon.ctlReleased then
    .next (becomeReady 4 { s with aon := { s.aon with ctlReleased := true } })
  else .next s

/-- The boot record that step 2 uses: the built-in one with STRAP_BOOT 0b10, else the one of step 1a (R59, R63). -/
def State.step2Rec (s : State) : Option BootRec :=
  if s.aon.strapBoot = 2 then some builtinBoot else if s.isReady 3 then s.aon.bootRec else none

/-- Step 2 starts: the record comes into force and the first tracking group takes its turn (R59, R64, R79). -/
def trackedStart (b : BootRec) (s : State) : State :=
  let s := if s.aon.strapBoot = 2 && !s.enabled 1 then raise 0x0103 2 0 0 s else s
  let now := s.aon.clock
  let s := loadBoot b ((s.setEnable 1 true).setEnable 2 true)
  groupTurn 0 { s with aon := { s.aon with step2At := some now } }

/-- TRACKED_START (R59). -/
def execTrackedStart (s : State) : Host.Outcome State Fault Refusal :=
  if s.mayStep && s.isReady 4 && s.aon.step2At.isNone && s.aon.strapsLatched then
    match s.step2Rec with
    | some b => .next (trackedStart b s)
    | none => .next s
  else .next s

/-- GROUP_DELAY_EXPIRY (R64, R65). -/
def execGroupDelayExpiry (s : State) : Host.Outcome State Fault Refusal :=
  match s.aon.groupDelayAt with
  | some t => if s.aon.thermtripN then .next (groupGo (advanceTo t s)) else .next s
  | none => .next s

/-- RAIL_POWER_GOOD (R67). -/
def execRailPowerGood (k : Nat) (s : State) : Host.Outcome State Fault Refusal :=
  if (s.rail k).state = 1 then .next (powerGood k s) else .next s

/-- PG_TIMEOUT (R67). -/
def execPgTimeout (s : State) : Host.Outcome State Fault Refusal :=
  match s.aon.groupRampAt with
  | some t =>
    if s.aon.thermtripN && !s.groupUp then .next (groupMissed (advanceTo (t + s.groupRamp s.aon.curGroup + ms 1) s)) else .next s
  | none => .next s

/-- ENG_RELEASE (R54). -/
def execEngRelease (s : State) : Host.Outcome State Fault Refusal :=
  match s.aon.sramPgAt with
  | some t =>
    if s.aon.ctlReleased && !s.aon.engReleased && s.clk.pllA.ok then .next (engGo false (advanceTo (t + us 20) s)) else .next s
  | none => .next s

/-- PLL_A_TIMEOUT (R55): 5 ms after SRAM power-good. -/
def execPllATimeout (s : State) : Host.Outcome State Fault Refusal :=
  match s.aon.sramPgAt with
  | some t =>
    if s.aon.ctlReleased && !s.aon.engReleased && !s.clk.pllA.ok then
      .next (engGo true (raise 0x0106 2 0 0 (advanceTo (t + ms 5) s)))
    else .next s
  | none => .next s

/-- The FAB island resets: the last response is withdrawn and every mailbox slot returns to the level of its reset (R21,
R109). -/
def fabReset (s : State) : State :=
  let sl := s.cl.slots.map (fun c => { c with level := 0x0100, reqLevel := 0x0100 })
  { s with aon := { s.aon with hostRstN := false, fabReleased := false },
           host := { s.host with rspCode := 0, rspTag := 0, rdata := 0 }, cl := { s.cl with slots := sl } }

/-- HOST_RST_N_ASSERT (R21). -/
def execHostRstNAssert (s : State) : Host.Outcome State Fault Refusal :=
  if s.aon.hostRstN then .next (fabReset s) else .next s

/-- HOST_RST_N_RELEASE (R54). -/
def execHostRstNRelease (s : State) : Host.Outcome State Fault Refusal :=
  if s.aon.hostRstN then .next s else .next (fabTry { s with aon := { s.aon with hostRstN := true } })

/-- ENUM_START (R133). -/
def execEnumStart (s : State) : Host.Outcome State Fault Refusal :=
  if s.mayStep && s.isReady 5 && s.aon.strapRoot && !s.inst.sat && s.chain.role = 0 && !s.chain.conflict then .next (takeRoot s)
  else .next s

/-- CHAIN_TIMEOUT (R59): 10 ms after step 3 begins. -/
def execChainTimeout (s : State) : Host.Outcome State Fault Refusal :=
  match s.aon.step3At with
  | some t =>
    if !s.aon.step3Done && !s.obs.standing then
      let s := advanceTo (t + ms 10) s
      .next (rejoinTry (raise 0x0602 2 0 0 (isolate { s with aon := { s.aon with step3Done := true } })))
    else .next s
  | none => .next s

/-- Step 4: the host interface, the Cut List engine, the recorder and the DMA engine report ready (R59, R60, R77). -/
def hostStart (s : State) : State :=
  let s := becomeReady 10 (becomeReady 9 (((s.setEnable 4 true).setEnable 5 true).setEnable 6 true))
  becomeReady 12 (setReady 11 (recorderStart (functionDefaults 11 s)))

/-- HOST_INTERFACE_START (R59). -/
def execHostInterfaceStart (s : State) : Host.Outcome State Fault Refusal :=
  if s.mayStep && s.aon.engReleased && s.aon.fabReleased && s.aon.step3Done && !s.isReady 9 then .next (hostStart s)
  else .next s

/-- IMG_STAGING_DONE (R71). -/
def execImgStagingDone (readOk : Bool) (s : State) : Host.Outcome State Fault Refusal :=
  if s.aon.imgState = 1 && !s.obs.standing then .next (imgStaged readOk s) else .next s

/-- IMG_LOAD_DONE (R72). -/
def execImgLoadDone (busOk : Bool) (crc : Nat) (s : State) : Host.Outcome State Fault Refusal :=
  if s.aon.imgState = 3 && !s.dowel.updating && !s.obs.standing && !s.isReady 13 then .next (imgLoaded busOk crc s)
  else .next s

/-- GLOBAL_WATCHDOG_EXPIRY (R428). -/
def execGlobalWatchdogExpiry (s : State) : Host.Outcome State Fault Refusal :=
  if (s.isReady 13 || s.dowel.engines.any (fun e => e.state = 1)) && !s.obs.standing then .next (globalWatchdog s) else .next s

end Sys2Proof.Machine
end

