-- ==== Sys2Proof/Machine/ChainRows.lean ====
section
/-! DEFINITION. The commands of the Batten chain (R119 to R155). -/

namespace Sys2Proof.Machine

open Sys2Proof

/-- LINK_LOCK_GAIN (R121, R132, R151): the link counts as up. -/
def execLinkLockGain (l : Side) (s : State) : Host.Outcome State Fault Refusal :=
  if !s.aon.ctlReleased || ((s.link l).lock && (s.link l).linkUp) then .next s
  else
    let new := !(s.link l).linkUp
    let s := s.updLink l (fun k => { k with lock := true, linkUp := true, lockLostAt := none })
    let s := if !new then s
      else match l with
        | .up => if s.isRoot then rootConflict s else rejoinTry s
        | .dn => forwardToken s
    .next (pumpLink l s)

/-- LINK_CODE_ERROR_LOSS (R121): 4 code errors. -/
def execLinkCodeErrorLoss (l : Side) (s : State) : Host.Outcome State Fault Refusal :=
  if (s.link l).lock then .next (loseLock l (linkCount l 1 4 s)) else .next s

/-- LINK_K285_TIMEOUT (R121). -/
def execLinkK285Timeout (l : Side) (s : State) : Host.Outcome State Fault Refusal :=
  if (s.link l).lock then .next (loseLock l s) else .next s

/-- LINK_RELOCK_TIMEOUT (R129). -/
def execLinkRelockTimeout (l : Side) (s : State) : Host.Outcome State Fault Refusal :=
  match (s.link l).lockLostAt with
  | some t => if (s.link l).linkUp then .next (linkDown l (advanceTo (t + us 2) s)) else .next s
  | none => .next s

/-- LINK_ACK_TIMEOUT (R129). -/
def execLinkAckTimeout (l : Side) (prio : Bool) (s : State) : Host.Outcome State Fault Refusal :=
  match ((s.link l).lane prio).sentAts with
  | t :: _ => if (s.link l).linkUp then .next (linkDown l (advanceTo (t + us 2) s)) else .next s
  | [] => .next s

/-- ACK_RECEIVE (R127). -/
def execAckReceive (l : Side) (prio : Bool) (seq : Nat) (s : State) : Host.Outcome State Fault Refusal := .next (ackIn l prio seq s)

/-- NAK_RECEIVE (R127, R129): the fourth NAK of one frame in succession takes the link down. -/
def execNakReceive (l : Side) (prio : Bool) (seq : Nat) (s : State) : Host.Outcome State Fault Refusal :=
  if !s.linkOn l then .next s
  else
    match ((s.link l).lane prio).find seq with
    | none => .next s
    | some i =>
      let n := ((s.link l).lane prio).replay.length - i
      let s := s.updLane l prio (nakLane s.aon.clock seq i)
      if 4 ≤ ((s.link l).lane prio).naks then .next (linkDown l s) else .next (linkCount l 3 n s)

/-- FRAME_RECEIVE_BAD_CRC (R128). -/
def execFrameReceiveBadCrc (l : Side) (f : Frame) (s : State) : Host.Outcome State Fault Refusal := .next (frameBad l f s)

/-- POISON_RECEIVE (R127, R128). -/
def execPoisonReceive (l : Side) (f : Frame) (s : State) : Host.Outcome State Fault Refusal := .next (framePoison l f s)

/-- ENUM_RECEIVE (R133, R134). -/
def execEnumReceive (l : Side) (f : Frame) (s : State) : Host.Outcome State Fault Refusal := .next (frameIn l 0x01 f takeToken s)

/-- ENUM_FORWARD (R133). -/
def execEnumForward (s : State) : Host.Outcome State Fault Refusal := .next (forwardToken s)

/-- FAR_END_TIMEOUT (R135): 100 us with the token held and RAILS ready; the root alone on its line closes with itself. -/
def execFarEndTimeout (s : State) : Host.Outcome State Fault Refusal :=
  match s.chain.tokenAt with
  | none => .next s
  | some t =>
    if !s.isReady 5 || s.chain.dn.linkUp || s.obs.standing then .next s
    else
      let s := advanceTo (max t (4 * s.aon.stamps.getD 5 0) + us 100) s
      if s.isRoot then .next (if s.chain.enumClosed then s else rootClose [s.ownDesc 1] s) else .next (reportToken s)

/-- ENUM_REPEAT (R135). -/
def execEnumRepeat (s : State) : Host.Outcome State Fault Refusal :=
  match s.chain.enumFirstAt with
  | some t =>
    if s.isRoot && !s.chain.enumClosed && decide (s.chain.enumSent < 3) && !s.obs.standing then
      .next (sendEnum (advanceTo (t + ms 3 * s.chain.enumSent) s))
    else .next s
  | none => .next s

/-- ENUM_TIMEOUT (R135): the root closes enumeration with itself as the only member. -/
def execEnumTimeout (s : State) : Host.Outcome State Fault Refusal :=
  match s.chain.enumFirstAt with
  | some t =>
    if s.isRoot && !s.chain.enumClosed && !s.obs.standing then .next (rootClose [s.ownDesc 1] (advanceTo (t + ms 10) s)) else .next s
  | none => .next s

/-- ENUM_REPORT_RECEIVE (R136). -/
def execEnumReportReceive (l : Side) (f : Frame) (s : State) : Host.Outcome State Fault Refusal := .next (frameIn l 0x02 f takeReport s)

/-- ENUM_CLOSE_RECEIVE (R136, R151). -/
def execEnumCloseReceive (l : Side) (f : Frame) (s : State) : Host.Outcome State Fault Refusal :=
  .next (frameIn l 0x03 f (hearClose f.dst) s)

/-- NODE_LOST_RECEIVE (R148, R149). -/
def execNodeLostReceive (l : Side) (f : Frame) (s : State) : Host.Outcome State Fault Refusal :=
  .next (frameIn l 0x04 f (fun p s => hearLost (p.headD 0) (p.getD 1 0) s) s)

/-- NODE_REJOIN_RECEIVE (R151): a node that has not been admitted itself sends its own instead, since nodes rejoin in the order
of the line. -/
def execNodeRejoinReceive (l : Side) (f : Frame) (s : State) : Host.Outcome State Fault Refusal :=
  if s.isRoot || s.chain.role = 2 || f.type != 0x05 then .next (frameIn l 0x05 f takeRejoin s)
  else if s.linkOn l then .next (rejoinTry (s.updLane l f.prio (fun a => { a with answer := some (true, f.seq) })))
  else .next s

/-- HOLD_OUT_CLEAR: a write of 0x2100.08 (R152). -/
def execHoldOutClear (ch : ChanId) (val : List Byte) (s : State) : Host.Outcome State Fault Refusal := .next (clWhole ch 0x2100 8 val s)

/-- ASSUME_ROOT: a write of 0x2100.09 (R153). -/
def execAssumeRoot (ch : ChanId) (val : List Byte) (s : State) : Host.Outcome State Fault Refusal := .next (clWhole ch 0x2100 9 val s)

/-- RESERVE_RELEASE: a write of 0x2100.0B (R149). -/
def execReserveRelease (ch : ChanId) (val : List Byte) (s : State) : Host.Outcome State Fault Refusal :=
  .next (clWhole ch 0x2100 0x0B val s)

/-- BUD_REQ_RECEIVE (R138). -/
def execBudReqReceive (l : Side) (f : Frame) (s : State) : Host.Outcome State Fault Refusal :=
  .next (frameIn l 0x09 f (takeBudReq f.src) s)

/-- BUD_TRANSACTION_OPEN (R138, R140). -/
def execBudTransactionOpen (s : State) : Host.Outcome State Fault Refusal := if s.obs.standing then .next s else .next (openNext s)

/-- BUD_PREPARE_RECEIVE (R140). -/
def execBudPrepareReceive (l : Side) (f : Frame) (s : State) : Host.Outcome State Fault Refusal := .next (frameIn l 0x0A f takePrepare s)

/-- BUD_VOTE_RECEIVE (R138, R141, R142). -/
def execBudVoteReceive (l : Side) (f : Frame) (s : State) : Host.Outcome State Fault Refusal :=
  .next (frameIn l 0x0B f (hearVote f.src) s)

/-- BUD_VOTE_TIMEOUT (R141). -/
def execBudVoteTimeout (s : State) : Host.Outcome State Fault Refusal := .next (votesExpire s)

/-- BUD_COMMIT_RECEIVE (R141). -/
def execBudCommitReceive (l : Side) (f : Frame) (s : State) : Host.Outcome State Fault Refusal :=
  .next (frameIn l 0x0C f (fun p s => hearCommit (p.headD 0 % 65536) s) s)

/-- BUD_COMMIT_APPLY (R141). -/
def execBudCommitApply (txid : Nat) (s : State) : Host.Outcome State Fault Refusal := .next (applyDue txid s)

/-- BUD_ABORT_RECEIVE (R141). -/
def execBudAbortReceive (l : Side) (f : Frame) (s : State) : Host.Outcome State Fault Refusal :=
  .next (frameIn l 0x0D f (fun p s => hearAbort (p.headD 0 % 65536) s) s)

/-- BUD_OUTCOME_TIMEOUT (R142). -/
def execBudOutcomeTimeout (txid : Nat) (s : State) : Host.Outcome State Fault Refusal := .next (outcomeExpire txid s)

/-- BUD_RETRY (R143). -/
def execBudRetry (s : State) : Host.Outcome State Fault Refusal :=
  match s.chain.retryAt with
  | some t => if s.isRoot && !s.obs.standing then .next (retryTxn (advanceTo t s)) else .next s
  | none => .next s

/-- TELEM_SEND (R144). -/
def execTelemSend (s : State) : Host.Outcome State Fault Refusal := .next (telemSend s)

/-- TELEM_RECEIVE (R144, R319, R392). -/
def execTelemReceive (l : Side) (f : Frame) (s : State) : Host.Outcome State Fault Refusal := .next (telemIn l f s)

/-- CL_REQ_RECEIVE (R146). -/
def execClReqReceive (l : Side) (f : Frame) (s : State) : Host.Outcome State Fault Refusal :=
  .next (frameIn l 0x11 f (chainRequest f.src) s)

/-- CL_RSP_RECEIVE (R146). -/
def execClRspReceive (l : Side) (f : Frame) (s : State) : Host.Outcome State Fault Refusal :=
  .next (frameIn l 0x12 f (clResponse f.src) s)

/-- BARRIER_ARRIVE_RECEIVE (R363). -/
def execBarrierArriveReceive (l : Side) (f : Frame) (s : State) : Host.Outcome State Fault Refusal :=
  .next (frameIn l 0x08 f (hearBarrierFrame f.src) s)

/-- BARRIER_RELEASE_RECEIVE (R363). -/
def execBarrierReleaseReceive (l : Side) (f : Frame) (s : State) : Host.Outcome State Fault Refusal :=
  .next (frameIn l 0x08 f (hearBarrierFrame f.src) s)

/-- BARRIER_CANCEL_RECEIVE (R365). -/
def execBarrierCancelReceive (l : Side) (f : Frame) (s : State) : Host.Outcome State Fault Refusal :=
  .next (frameIn l 0x08 f (hearBarrierFrame f.src) s)

end Sys2Proof.Machine
end

