-- ==== Sys2Proof/Machine/ClRows.lean ====
section
/-! DEFINITION. The commands of the Cut List engine: requests on a channel, its timeouts and answers, and the writes of
whole values that the table names (R84 to R118). -/

namespace Sys2Proof.Machine

open Sys2Proof

/-- CL_READ (R111). -/
def execClRead (ch : ChanId) (r : ClReq) (s : State) : Host.Outcome State Fault Refusal := .next (clSubmit ch 1 r s)

/-- CL_READ_NEXT (R112). -/
def execClReadNext (ch : ChanId) (r : ClReq) (s : State) : Host.Outcome State Fault Refusal := .next (clSubmit ch 2 r s)

/-- CL_WRITE (R112). -/
def execClWrite (ch : ChanId) (r : ClReq) (s : State) : Host.Outcome State Fault Refusal := .next (clSubmit ch 3 r s)

/-- CL_WRITE_NEXT (R112). -/
def execClWriteNext (ch : ChanId) (r : ClReq) (s : State) : Host.Outcome State Fault Refusal := .next (clSubmit ch 4 r s)

/-- CL_CANCEL (R111). -/
def execClCancel (ch : ChanId) (r : ClReq) (s : State) : Host.Outcome State Fault Refusal := .next (clSubmit ch 5 r s)

/-- CL_DESCRIBE (R113). -/
def execClDescribe (ch : ChanId) (r : ClReq) (s : State) : Host.Outcome State Fault Refusal := .next (clSubmit ch 6 r s)

/-- CL_TRANSFER_TIMEOUT (R112). -/
def execClTransferTimeout (ch : ChanId) (s : State) : Host.Outcome State Fault Refusal :=
  if (s.chan ch).openDir = 0 || s.obs.standing then .next s
  else .next (clClose ch (advanceTo ((s.chan ch).openAt + ms 10) s))

/-- CL_FW_TIMEOUT (R116). -/
def execClFwTimeout (ch : ChanId) (s : State) : Host.Outcome State Fault Refusal := .next (clWithdraw ch s)

/-- CL_FW_RESPONSE with firmware's abort code, 0 for success (R116). -/
def execClFwResponse (ch : ChanId) (abort : Nat) (s : State) : Host.Outcome State Fault Refusal := .next (clFirmware ch abort s)

/-- CL_REMOTE_TIMEOUT (R146). -/
def execClRemoteTimeout (ch : ChanId) (s : State) : Host.Outcome State Fault Refusal := .next (clNoAnswer ch s)

/-- LEVEL_REQUEST: a write of 0x1001.01 (R104, R106). -/
def execLevelRequest (ch : ChanId) (val : List Byte) (s : State) : Host.Outcome State Fault Refusal := .next (clWhole ch 0x1001 1 val s)

/-- DIAG_LOCK_OPEN: the management port writes 0xF000 (R87). -/
def execDiagLockOpen (val : List Byte) (s : State) : Host.Outcome State Fault Refusal := .next (clWhole .mgt 0xF000 0 val s)

/-- COMMISSIONING_STORE: a write of 0x1030.01 (R102). -/
def execCommissioningStore (ch : ChanId) (val : List Byte) (s : State) : Host.Outcome State Fault Refusal :=
  .next (clWhole ch 0x1030 1 val s)

/-- COMMISSIONING_STORE_DONE (R102). -/
def execCommissioningStoreDone (ok : Bool) (s : State) : Host.Outcome State Fault Refusal := .next (storeEnd ok s)

/-- COMMISSIONING_WIPE: a write of 0x1030.02 (R103). -/
def execCommissioningWipe (ch : ChanId) (val : List Byte) (s : State) : Host.Outcome State Fault Refusal :=
  .next (clWhole ch 0x1030 2 val s)

/-- BUDGET_WRITE: a write of a budget object (R317). -/
def execBudgetWrite (ch : ChanId) (idx sub : Nat) (val : List Byte) (s : State) : Host.Outcome State Fault Refusal :=
  .next (clWhole ch idx sub val s)

/-- SAFE_RELEASE: a write of 0x3300 + k, subindex 0x17 (R224). -/
def execSafeRelease (ch : ChanId) (k : Nat) (val : List Byte) (s : State) : Host.Outcome State Fault Refusal :=
  .next (clWhole ch (0x3300 + k) 0x17 val s)

/-- GENERATION_ADVANCE: a write of 0x60C0 + p, subindex 0x02 (R555). -/
def execGenerationAdvance (ch : ChanId) (p : Nat) (val : List Byte) (s : State) : Host.Outcome State Fault Refusal :=
  .next (clWhole ch (0x60C0 + p) 2 val s)

end Sys2Proof.Machine
end

