-- ==== Sys2Proof/Machine/Clocks.lean ====
section
/-! DEFINITION. The commands of the clock, droop and DVFS unit that no requester writes (R287 to R303). -/

namespace Sys2Proof.Machine

open Sys2Proof

/-- SOURCE_MONITOR_WINDOW with the frequency measured in it (R291). -/
def execSourceMonitorWindow (src : SrcId) (khz : Nat) (s : State) : Host.Outcome State Fault Refusal :=
  .next (srcWindow src khz s)

/-- SOURCE_MISSING_EDGE (R291). -/
def execSourceMissingEdge (src : SrcId) (s : State) : Host.Outcome State Fault Refusal :=
  if s.srcWatched src && (s.src src).ok then .next (srcFail src s) else .next s

/-- The divider of a released stop is back where it stood: RESTARTING clears (R523, R526). -/
def restarted (s : State) : State :=
  if s.obs.restarting && (s.tileStopped || s.clk.tileInt || s.clk.m = s.divGoal) then
    { s with obs := { s.obs with restarting := false } }
  else s

/-- DIVIDER_STEP (R289, R359). -/
def execDividerStep (s : State) : Host.Outcome State Fault Refusal := .next (restarted (replan (dividerStep s)))

/-- SKIP_STEP (R290, R302). -/
def execSkipStep (s : State) : Host.Outcome State Fault Refusal := .next (skipStep s)

/-- SEQ_VOLTAGE_STEP (R298). -/
def execSeqVoltageStep (s : State) : Host.Outcome State Fault Refusal := .next (seqVoltage s)

/-- SEQ_VOLTAGE_DONE (R298). -/
def execSeqVoltageDone (s : State) : Host.Outcome State Fault Refusal := .next (seqVoltageEnd s)

/-- V_TIMEOUT (R298). -/
def execVTimeout (s : State) : Host.Outcome State Fault Refusal := .next (seqTimeout s)

/-- TCLK_START (R300). -/
def execTclkStart (s : State) : Host.Outcome State Fault Refusal :=
  if s.tclkMayStart then .next (replan (tclkGo s)) else .next s

end Sys2Proof.Machine
end

