-- ==== Sys2Proof/Machine/GateLib.lean ====
section
/-! DEFINITION. Clock enables and the functions that firmware brings up (R59, R77 to R79, R82, R252, R315, R393, R454). -/

namespace Sys2Proof.Machine

open Sys2Proof

/-- The function that an RW enable carries; none for the parts without a readiness bit (R79). -/
def gateFn (b : Nat) : Option Nat := kvGet [(6, 12), (8, 19), (9, 17), (10, 18), (11, 16), (12, 15), (13, 14)] b

/-- The enables that the operator may change (R77). -/
def rwEnables : List Nat := [6, 8, 9, 10, 11, 12, 13, 14, 15, 16]

/-- The block holds outstanding state: active channels, waits, grants, a barrier's release, a load, an armed trigger (R79, R252,
R354, R360, R454, R471). -/
def State.holdsState (s : State) (b : Nat) : Bool :=
  if b = 6 then s.dma.ch.any (fun d => d.state = 1 || d.state = 2 || d.state = 5)
  else if b = 8 then !s.sync.waiters.isEmpty
  else if b = 9 then !s.cla.grants.isEmpty || !s.cla.queue.isEmpty
  else if b = 10 then s.dove.releasing || s.dove.pkgWait
  else if b = 11 then s.ff.load.isSome
  else if b = 14 then s.obs.scrState = 1 || s.obs.scrState = 2
  else if b = 15 then s.obs.dumpState = 1 || s.obs.dumpState = 2
  else false

/-- A write of 0 to an enable that reads 1 (R79). -/
def gateOff (b : Nat) (s : State) : State :=
  if !s.enabled b then s
  else if s.holdsState b then raise 0x0102 0 b 0 s
  else
    let s := if b = 11 then ffWithdraw s else s
    let s := s.setEnable b false
    { s with aon := { s.aon with gating := s.aon.gating ++ [b] } }

/-- A write of 1 to an enable that reads 0 (R79). A block that had not stopped yet goes on. -/
def gateOn (b : Nat) (s : State) : State :=
  if s.enabled b then s
  else
    let s := s.setEnable b true
    let s := { s with aon := { s.aon with gating := s.aon.gating.filter (fun x => x != b) } }
    if b = 6 then becomeReady 12 s else s

/-- The limits of the capping loop go with ESTIM (R315, R323). -/
def estimLost (s : State) : State :=
  updAccr { s with cap := { s.cap with skip := 0, ceiling := 31, divide := false, escFrom := none, relFrom := none, okFrom := none } }

/-- A block stops: its function is no longer ready (R79). -/
def gateStop (b : Nat) (s : State) : State :=
  let s := { s with aon := { s.aon with gating := s.aon.gating.filter (fun x => x != b) } }
  match gateFn b with
  | none => s
  | some f =>
    let s := clearReady f s
    if b = 13 then thmodelLost s
    else if b = 12 then estimLost s
    else if b = 10 then disarmPlan s
    else if b = 9 then { s with cla := { s.cla with accounts := [] } }
    else s

/-- The enables of a function that firmware brings up: its own, and for OBS those of the Scribe and the map dump (R77, R82). -/
def fnEnables (f : Nat) : List Nat :=
  (kvGet [(14, [13]), (15, [12]), (16, [11]), (17, [9]), (18, [10]), (19, [8]), (20, [14, 15])] f).getD []

/-- Firmware may bring up a function: at its first start, or while its enable is set and it does not stop (R59, R79). -/
def State.fwMayStart (s : State) (f : Nat) : Bool :=
  decide (14 ≤ f) && decide (f ≤ 20) && s.isReady 13 && !s.isReady f && !s.obs.standing &&
    (fnEnables f).all (fun b => !s.aon.gating.contains b) &&
    (s.aon.stamps.getD f 0 = 0 || f = 20 || (fnEnables f).all s.enabled)

/-- Firmware brings up a function, which reports ready (R82). -/
def fwFunction (f : Nat) (s : State) : State :=
  let s := forEach (fnEnables f) (fun b s => s.setEnable b true) s
  let s := becomeReady f (if f = 15 then estimStart s else s)
  if f = 16 then startSettling s else s

end Sys2Proof.Machine
end

