-- ==== Sys2Proof/Machine/FabLib.lean ====
section
/-! DEFINITION. The host window: the checks of a fabric access in their order, what each offset reads and what a write of it
does (R21 to R26, R69 to R78, R110, R446, R459, R488, R507, R522, R559 to R563, R574). -/

namespace Sys2Proof.Machine

open Sys2Proof

/-- The offset of a request's word. -/
def wordOf (q : FabReq) : Nat := q.addr % 2 ^ 20 / 8 * 8

/-! ERR_ADDR (R24, R284, R446, R488, R507, R574). -/

/-- The offset lies in a reserved range. -/
def addrBad (o : Nat) : Bool :=
  decide (0x40000 ≤ o) || (decide (0x8000 ≤ o) && decide (o < 0x10000)) || (decide (0x12000 ≤ o) && decide (o < 0x20000)) ||
    (decide (0x4000 ≤ o) && decide (o < 0x8000) && decide (0x800 ≤ o % 0x1000)) || (decide (0x3E000 ≤ o) && decide (o < 0x3F000))

/-- A register that a satellite instance does not have. -/
def notOnSat (o : Nat) : Bool :=
  o = 0x210 || o = 0x240 || o = 0x248 || (decide (0x600 ≤ o) && decide (o < 0x1000))

/-! ERR_ACCESS (R26, R446, R463, R473, R507, R509, R559, R562). -/

/-- The offset is that of a hand-over register: IMG_ADDR, IMG_CTRL or IMG_STATUS (R69 to R71). -/
def handOff (o : Nat) : Bool := o = 0x20F00 || o = 0x20F08 || o = 0x20F10

/-- The check of a doorbell access: the operation first, then the translation. -/
def State.doorBad (s : State) (q : FabReq) : Option (Nat × Nat) :=
  let o := wordOf q
  if q.write && decide (0x5000 ≤ o) && decide (o < 0x7000) then some (3, 0)
  else match s.xlate q.part (s.hostMap q.part) (o % 0x1000 / 8) with
    | .ok _ => none
    | .error r => some (4, r)

/-- The check of an access to the DMA range. -/
def State.dmaBad (s : State) (q : FabReq) : Option (Nat × Nat) :=
  let o := wordOf q
  let c := (o - 0x20000) / 0x1000
  if handOff o then
    (if q.write then (if q.sec then none else some (5, 0))
     else if q.part = 0 || q.sec then none else some (1, 0))
  else if o = 0x20F20 then (if q.part = 0 then none else some (1, 0))
  else if q.part != 0 && s.dmaOwner c != q.part then some (2, 0)
  else if q.write && o % 0x1000 = 0x20 && bit q.wstrb 0 && decide (1 < (bitsOf 3 q.wdata.toNat).length) then some (3, 0)
  else none

/-- The violation of an access: its cause and, for a failed translation, the reason; none when the view allows it. A DMA
channel never reaches the DMA range (R463). -/
def State.accessBad (s : State) (dma : Bool) (q : FabReq) : Option (Nat × Nat) :=
  let o := wordOf q
  let tenant := q.part != 0
  if dma && decide (0x20000 ≤ o) && decide (o < 0x30000) then some (6, 0)
  else if o < 0x1000 then (if tenant && (q.write || o != 0x18) then some (1, 0) else none)
  else if o < 0x2000 then (if (o - 0x1000) / 0x40 = q.part then none else some (2, 0))
  else if o < 0x3000 then (if tenant then some (1, 0) else none)
  else if o < 0x4000 then (if tenant && (o - 0x3000) / 0x40 != q.part then some (2, 0) else none)
  else if o < 0x8000 then s.doorBad q
  else if o < 0x11000 then (if tenant then some (1, 0) else none)
  else if o < 0x12000 then (if (o - 0x11000) / 0x40 = q.part then none else some (2, 0))
  else if o < 0x30000 then s.dmaBad q
  else if tenant then some (1, 0)
  else if q.write && (obsWriteReg (o - 0x30000) q.wdata.toNat q.wstrb s).1 = 2 then some (3, 0)
  else none

/-! ERR_GATED and ERR_BUSY (R25, R78, R110, R490, R522, R574). -/

/-- The enable and the function of the block behind an offset outside the observation range; none where the access needs
neither. -/
def blockOf (o : Nat) : Option (Nat × Option Nat) :=
  if o = 0x200 then some (11, some 16)
  else if o = 0x230 then some (12, some 15)
  else if o = 0x240 then some (9, some 17)
  else if o = 0x248 then some (10, some 18)
  else if 0x260 ≤ o && o < 0x2E0 then some (2, some 7)
  else if o = 0x300 || (0x380 ≤ o && o < 0x480) then some (7, none)
  else if o = 0x310 then some (8, some 19)
  else if o < 0x1000 then none
  else if o < 0x2000 then some (4, some 10)
  else if o < 0x4000 then some (12, some 15)
  else if o < 0x8000 then some (8, some 19)
  else if o < 0x12000 then some (5, some 11)
  else if o < 0x30000 then some (6, some 12)
  else none

/-- The block's clock enable is off. -/
def State.gatedAt (s : State) (o : Nat) : Bool := match blockOf o with
  | some (b, _) => !s.enabled b
  | none => false

/-- The block's function is not ready. -/
def State.unreadyAt (s : State) (o : Nat) : Bool := match blockOf o with
  | some (_, some f) => !s.isReady f
  | _ => false

/-- A pending slot returns ERR_BUSY to a write of REQ or DATA and to a read of DATA (R110). -/
def State.slotBusy (s : State) (write : Bool) (o : Nat) : Bool :=
  let w := o % 0x40
  decide (0x1000 ≤ o) && decide (o < 0x2000) && (s.chan (.slot ((o - 0x1000) / 0x40))).state = 1 &&
    (if write then w != 8 else decide (0x10 ≤ w))

/-- An access with a side effect on a part that stands still (R522). -/
def State.stillBusy (s : State) (write : Bool) (o : Nat) : Bool :=
  s.obs.standing &&
    (if write then decide (o < 0x1000) || (decide (0x2000 ≤ o) && decide (o < 0x30000)) else decide (0x5000 ≤ o) && decide (o < 0x6000))

/-- A fetch from a flash area that is busy (R490). -/
def State.cursorBusy (s : State) (write : Bool) (o : Nat) : Bool :=
  !write && decide (0x11000 ≤ o) && decide (o < 0x12000) && o % 0x40 = 0x20 && s.fetchBusy ((o - 0x11000) / 0x40)

/-- The block cannot take the access now. -/
def State.busyAt (s : State) (write : Bool) (o : Nat) : Bool :=
  s.unreadyAt o || s.slotBusy write o || s.stillBusy write o || s.cursorBusy write o

/-! Reads and writes of each range. The answers are a response code, data and the state left. -/

/-- A word of the mailbox (R110). -/
def State.slotWord (s : State) (p w : Nat) : Nat :=
  let c := s.chan (.slot p)
  if w = 0 then c.req
  else if w = 8 then
    c.state + 256 * c.seq + 2 ^ 16 * c.abort + 2 ^ 32 * c.segLen + 2 ^ 38 * b2n c.more + 2 ^ 40 * (c.total % 65536) + 2 ^ 56 * c.doneCnt
  else leAt c.data (w - 0x10) 8

/-- The request that REQ and DATA of a slot spell (R110). -/
def reqOf (req : Nat) (data : List Byte) : ClReq :=
  { idx := bits req 31 16, sub := bits req 15 8, len := bits req 37 32, last := bit req 38, seq := bits req 47 40,
    node := bits req 52 48, data := data }

/-- A write of REQ: the enabled bytes are stored, and a request starts when byte 0 is enabled and OPCODE is not 0 (R110). -/
def reqWrite (p w strb : Nat) (s : State) : State :=
  let m := mergeBytes (s.chan (.slot p)).req w strb
  let r := m - bits m 39 39 * 2 ^ 39 - bits m 63 53 * 2 ^ 53
  let s := s.updChan (.slot p) (fun c => { c with req := r })
  if bit strb 0 && r % 256 != 0 then clTurn (clStart (.slot p) (r % 256) (reqOf r (s.chan (.slot p)).data) s) else s

/-- A write of a slot's word (R110); STATUS ignores it. -/
def slotWrite (p w d strb : Nat) (s : State) : State :=
  if w = 0 then reqWrite p d strb s
  else if w = 8 then s
  else s.updChan (.slot p) (fun c =>
    let v := mergeBytes (leAt c.data (w - 0x10) 8) d strb
    { c with data := c.data.take (w - 0x10) ++ leBytes 8 v ++ c.data.drop (w - 8) })

/-- A word of setpoint map tile t: SEQ, then 64 entries (R261, R281). -/
def State.mapTileWord (s : State) (t w : Nat) : Nat :=
  if w = 0 then s.shim.tileSeq.getD t 0 else if w ≤ 0x40 then leAt (s.tileEntries t) (w - 8) 8 else 0

/-- A word of the identity-and-control range. -/
def State.ctlWord (s : State) (o : Nat) : Nat :=
  if 0x600 ≤ o && o < 0x800 then s.mapTileWord ((o - 0x600) / 0x80) (o % 0x80) else s.idWord o

/-- A write of CLK_EN changes the RW enables that it carries (R77, R79). -/
def clkEnWrite (w strb : Nat) (s : State) : State :=
  let n := mergeBytes s.aon.clkEn w strb
  forEach rwEnables (fun b s => if bit n b then gateOn b s else gateOff b s) s

/-- A word of the DMA range (R69 to R72, R471, R472). -/
def State.dmaWord (s : State) (o : Nat) : Nat :=
  if o = 0x20F00 then s.aon.stageAddr
  else if o = 0x20F08 then s.imgCtrl
  else if o = 0x20F10 then s.imgStatus
  else if o = 0x20F20 then s.dmaCtl
  else if o % 0x1000 < 0x40 then s.dmaReg ((o - 0x20000) / 0x1000) (o % 0x1000)
  else 0

/-- A write of the DMA range. -/
def dmaWordWrite (o w strb : Nat) (img : Image) (s : State) : Nat × State :=
  if o = 0x20F00 then (0, { s with aon := { s.aon with stageAddr := bits (mergeBytes s.aon.stageAddr w strb) 47 12 * 4096 } })
  else if o = 0x20F08 then (0, imgCtrlWrite w strb img s)
  else if o = 0x20F20 then (0, dmaCtlPut w strb s)
  else if o % 0x1000 < 0x40 then dmaRegWrite ((o - 0x20000) / 0x1000) (o % 0x1000) w strb s
  else (0, s)

/-- A read of a doorbell that passes every check (R446 to R448). -/
def doorRead (q : FabReq) (s : State) : Nat × Nat × State :=
  let o := wordOf q
  let v := o % 0x1000 / 8
  if o < 0x5000 then (0, 0, s)
  else if o < 0x6000 then
    (match tryAcquire q.part v (syncClear s) with
     | .ok (w, t) => (0, w, t)
     | .error _ => (0, 0, s))
  else if o < 0x7000 then
    (match s.xlate q.part (s.hostMap q.part) v with
     | .ok n => (0, s.statusWord n, s)
     | .error _ => (0, 0, s))
  else (0, 0, s)

/-- A write of a doorbell that passes every check: SIGNAL with package scope (R446). -/
def doorWrite (q : FabReq) (s : State) : Nat × State :=
  let o := wordOf q
  if o < 0x5000 then
    (match fabricSignal q.part (o % 0x1000 / 8) 2 (syncClear s) with
     | .ok t => (0, t)
     | .error _ => (0, s))
  else (0, s)

/-- A read that passes every check. -/
def fabRead (q : FabReq) (s : State) : Nat × Nat × State :=
  let o := wordOf q
  if o < 0x1000 then (0, s.ctlWord o, s)
  else if o < 0x2000 then (0, s.slotWord ((o - 0x1000) / 0x40) (o % 0x40), s)
  else if o < 0x3000 then (0, s.capPage (o - 0x2000), s)
  else if o < 0x4000 then (0, s.tenantWord ((o - 0x3000) / 0x40) (o % 0x40 / 8), s)
  else if o < 0x8000 then doorRead q s
  else if o < 0x11000 then (0, if o = 0x10000 then s.recStat else 0, s)
  else if o < 0x12000 then
    let p := (o - 0x11000) / 0x40
    let s := if o % 0x40 = 0x20 then cursorFetch p s else s
    (0, s.cursorWord p (o % 0x40), s)
  else if o < 0x30000 then (0, s.dmaWord o, s)
  else
    let x := s.obsRead (o - 0x30000)
    (x.1, x.2, s)

/-- A write that passes every check, with the image that the staging buffer holds. -/
def fabWrite (q : FabReq) (img : Image) (s : State) : Nat × State :=
  let o := wordOf q
  let w := q.wdata.toNat
  if o < 0x1000 then (0, if o = 0x10 then clkEnWrite w q.wstrb s else idWrite o (strobed w q.wstrb) s)
  else if o < 0x2000 then (0, slotWrite ((o - 0x1000) / 0x40) (o % 0x40) w q.wstrb s)
  else if o < 0x4000 then (0, s)
  else if o < 0x8000 then doorWrite q s
  else if o < 0x11000 then
    (0, if o = 0x10000 then { s with rcd := { s.rcd with flags := w1c 4 s.rcd.flags (strobed w q.wstrb / 256) } } else s)
  else if o < 0x12000 then
    let p := (o - 0x11000) / 0x40
    (0, if o % 0x40 = 0 then cursorNextWrite p (mergeBytes (s.cursor p).next w q.wstrb) s
        else if o % 0x40 = 8 then cursorCtlWrite p w q.wstrb s else s)
  else if o < 0x30000 then dmaWordWrite o w q.wstrb img s
  else obsWriteReg (o - 0x30000) w q.wstrb s

/-- A fabric access, made by a DMA channel or not (R22, R25): the first error of the order, or what the access does. A write
without an enabled byte that passes the checks has no effect. -/
def fabAccess (dma : Bool) (q : FabReq) (img : Image) (s : State) : Nat × Nat × State :=
  let o := wordOf q
  if addrBad o || (s.inst.sat && notOnSat o) then (1, 0, s)
  else match s.accessBad dma q with
    | some (cause, reason) =>
      let s := if cause = 4 then xlateFault q.part s else s
      (2, 0, violate { accessOf q with dma := dma } cause reason s)
    | none =>
      if s.gatedAt o then (3, 0, s)
      else if s.busyAt q.write o then (4, 0, s)
      else if !q.write then fabRead q s
      else
        let x := fabWrite q img s
        if q.wstrb % 256 = 0 && x.1 = 0 then (0, 0, s) else (x.1, 0, x.2)

/-- A request at the fabric target port, accepted while FAB is released and HOSTIF is ready; the response follows it (R22,
R54, R82). -/
def fabRequest (q : FabReq) (img : Image) (s : State) : State :=
  if s.aon.fabReleased && s.isReady 9 then
    let x := fabAccess false q img s
    let s := x.2.2
    { s with host := { s.host with rspCode := x.1, rspTag := q.tag, rdata := x.2.1 } }
  else s

end Sys2Proof.Machine
end

