-- ==== Sys2Proof/Machine/DmaRows.lean ====
section
/-! DEFINITION. The commands of the DMA engine that no requester writes (R460, R463 to R469). -/

namespace Sys2Proof.Machine

open Sys2Proof

/-- The port can take a request: fewer than 16 of all channels are outstanding (R465). -/
def State.portRoom (s : State) : Bool := decide (((s.dma.ch.map DmaCh.waiting).foldl (· + ·) 0) < 16)

/-- Where the request that a channel issues stands among its requests: the one it repeats, or the last. -/
def State.issueAt (s : State) (c : Nat) : Nat :=
  ((s.dmaCh c).out.findIdx? (fun r => r.st = 2)).getD (s.dmaCh c).out.length

/-- A device-window request is served as the owner's own fabric request and answered at once (R463). -/
def dmaWindow (c n : Nat) (r : DReq) (s : State) : State :=
  let q : FabReq := { write := r.write, addr := r.addr, wdata := BitVec.ofNat 64 r.data, wstrb := r.strb, part := s.dmaOwner c, src := c }
  let x := fabAccess true q s.dowel.newImg s
  dmaAnswer c n x.1 x.2.1 x.2.2

/-- Channel c issues its next request (R466). -/
def dmaIssue (c : Nat) (s : State) : State :=
  let n := s.issueAt c
  match dmaIssueOn c s with
  | (some r, t) => if r.space then dmaWindow c n r t else t
  | (none, t) => t

/-- DMA_REQUEST_ISSUE (R465, R466, R475). -/
def execDmaRequestIssue (s : State) : Host.Outcome State Fault Refusal :=
  if s.isReady 12 && s.enabled 6 && !s.obs.standing && s.portRoom then
    match s.dmaPick with
    | some c => .next (channel0 (dmaIssue c s))
    | none => .next s
  else .next s

/-- DMA_RESPONSE to request n of channel c (R469). -/
def execDmaResponse (c n code : Nat) (data : BitVec 64) (s : State) : Host.Outcome State Fault Refusal :=
  .next (dmaAnswer c n (code % 8) data.toNat s)

/-- DMA_SHARE_WINDOW (R467). -/
def execDmaShareWindow (s : State) : Host.Outcome State Fault Refusal :=
  if s.aon.fabReleased && !s.obs.standing then
    let l := s.dma.ch.map (fun d => { d with used := 0 })
    let n := s.dma.windowNo + 1
    .next { s with dma := { s.dma with ch := l, windowNo := n } }
  else .next s

/-- DMA_DEVICE_TAKE: a use of channel 0 that waited for a host descriptor takes the channel (R460). -/
def execDmaDeviceTake (c use : Nat) (s : State) : Host.Outcome State Fault Refusal :=
  let d := s.dmaCh c
  if d.hostDue && (d.state = 0 || d.state = 3) then .next (dmaTake c use s) else .next s

end Sys2Proof.Machine
end

