-- ==== Sys2Proof/Machine/FabricRows.lean ====
section
/-! DEFINITION. The commands that are fabric requests. A row that names an operation gives the request that operation's
offset, direction and bit; every request passes the same checks (R22 to R26). -/

namespace Sys2Proof.Machine

open Sys2Proof

/-- A read at an offset. -/
def readAt (q : FabReq) (o : Nat) : FabReq := { q with write := false, addr := o }

/-- A write at an offset. -/
def writeAt (q : FabReq) (o : Nat) : FabReq := { q with write := true, addr := o }

/-- A write at an offset with bit n of the data set and its byte enabled. -/
def writeBit (q : FabReq) (o n : Nat) : FabReq :=
  { q with write := true, addr := o, wdata := BitVec.ofNat 64 (putBit q.wdata.toNat n true), wstrb := putBit q.wstrb (n / 8) true }

/-- A request answered as the image of the staging buffer stands. -/
def fabNext (q : FabReq) (s : State) : Host.Outcome State Fault Refusal := .next (fabRequest q s.dowel.newImg s)

/-- The offset of the word `w` of the cursor block that a request names. -/
def blockWord (q : FabReq) (w : Nat) : Nat := 0x11000 + 0x40 * (q.addr % 0x1000 / 0x40) + w

/-- FABRIC_READ (R559). -/
def execFabricRead (q : FabReq) (s : State) : Host.Outcome State Fault Refusal := fabNext { q with write := false } s

/-- FABRIC_WRITE (R24). -/
def execFabricWrite (q : FabReq) (s : State) : Host.Outcome State Fault Refusal := fabNext { q with write := true } s

/-- IMG_FETCH (R70). -/
def execImgFetch (q : FabReq) (s : State) : Host.Outcome State Fault Refusal := fabNext (writeBit q 0x20F08 0) s

/-- IMG_ACCEPT with the image that the staging buffer holds (R72, R74). -/
def execImgAccept (q : FabReq) (img : Image) (s : State) : Host.Outcome State Fault Refusal :=
  .next (fabRequest (writeBit q 0x20F08 3) img s)

/-- IMG_REJECT (R73). -/
def execImgReject (q : FabReq) (s : State) : Host.Outcome State Fault Refusal := fabNext (writeBit q 0x20F08 4) s

/-- The write of CLK_EN that leaves every enable but b as it stands (R77). -/
def enableWrite (q : FabReq) (b : Nat) (v : Bool) (s : State) : FabReq :=
  { q with write := true, addr := 0x10, wdata := BitVec.ofNat 64 (putBit s.aon.clkEn b v), wstrb := 0xFF }

/-- CLK_EN_GATE (R79). -/
def execClkEnGate (q : FabReq) (b : Nat) (s : State) : Host.Outcome State Fault Refusal := fabNext (enableWrite q b false s) s

/-- CLK_EN_UNGATE (R79). -/
def execClkEnUngate (q : FabReq) (b : Nat) (s : State) : Host.Outcome State Fault Refusal := fabNext (enableWrite q b true s) s

/-- GATE_STOP (R79). -/
def execGateStop (b : Nat) (s : State) : Host.Outcome State Fault Refusal :=
  if s.aon.gating.contains b then .next (gateStop b s) else .next s

/-- FW_FUNCTION_START (R59, R82). -/
def execFwFunctionStart (f : Nat) (s : State) : Host.Outcome State Fault Refusal :=
  if s.fwMayStart f then .next (fwFunction f s) else .next s

/-- DOORBELL_SIGNAL of virtual ID v (R446). -/
def execDoorbellSignal (q : FabReq) (v : Nat) (s : State) : Host.Outcome State Fault Refusal :=
  fabNext { writeAt q (0x4000 + 8 * (v % 256)) with wstrb := putBit q.wstrb 0 true } s

/-- DOORBELL_TRY_ACQUIRE of virtual ID v (R447). -/
def execDoorbellTryAcquire (q : FabReq) (v : Nat) (s : State) : Host.Outcome State Fault Refusal :=
  fabNext (readAt q (0x5000 + 8 * (v % 256))) s

/-- DMA_START of channel c (R473). -/
def execDmaStart (q : FabReq) (c : Nat) (s : State) : Host.Outcome State Fault Refusal :=
  fabNext (writeBit q (0x20020 + 0x1000 * (c % 16)) 0) s

/-- DMA_RESUME of channel c (R469, R473). -/
def execDmaResume (q : FabReq) (c : Nat) (s : State) : Host.Outcome State Fault Refusal :=
  fabNext (writeBit q (0x20020 + 0x1000 * (c % 16)) 1) s

/-- DMA_ABORT of channel c (R470, R473). -/
def execDmaAbort (q : FabReq) (c : Nat) (s : State) : Host.Outcome State Fault Refusal :=
  fabNext (writeBit q (0x20020 + 0x1000 * (c % 16)) 2) s

/-- DMA_CTL_WRITE (R471). -/
def execDmaCtlWrite (q : FabReq) (s : State) : Host.Outcome State Fault Refusal := fabNext (writeAt q 0x20F20) s

/-- CURSOR_FETCH of the block that the request names (R490). -/
def execCursorFetch (q : FabReq) (s : State) : Host.Outcome State Fault Refusal := fabNext (readAt q (blockWord q 0x20)) s

/-- CURSOR_SEEK_OLD (R489). -/
def execCursorSeekOld (q : FabReq) (s : State) : Host.Outcome State Fault Refusal := fabNext (writeBit q (blockWord q 8) 11) s

/-- CURSOR_SEEK_NEW (R489). -/
def execCursorSeekNew (q : FabReq) (s : State) : Host.Outcome State Fault Refusal := fabNext (writeBit q (blockWord q 8) 12) s

/-- COUNTER_SNAPSHOT (R510). -/
def execCounterSnapshot (q : FabReq) (s : State) : Host.Outcome State Fault Refusal := fabNext (writeBit q 0x30040 0) s

/-- COUNTER_SELECT of counter n (R508, R509). -/
def execCounterSelect (q : FabReq) (n : Nat) (s : State) : Host.Outcome State Fault Refusal :=
  fabNext (writeAt q (0x30080 + 8 * (n % 16))) s

/-- STOP_REQUEST_WRITE (R523). -/
def execStopRequestWrite (q : FabReq) (s : State) : Host.Outcome State Fault Refusal := fabNext (writeAt q 0x30008) s

/-- DEBUG_PUSH (R525). -/
def execDebugPush (q : FabReq) (s : State) : Host.Outcome State Fault Refusal := fabNext (writeAt q 0x30508) s

/-- VIOL_REARM by a write of VIOL_STAT (R566). -/
def execViolRearm (q : FabReq) (s : State) : Host.Outcome State Fault Refusal := fabNext (writeBit q 0x330 9) s

end Sys2Proof.Machine
end

