-- ==== Sys2Proof/Machine/JigObj.lean ====
section
/-! DEFINITION. The operation words of jigs that reach the Cut List or the Scribe (R413 to R416, R420). -/

namespace Sys2Proof.Machine

open Sys2Proof

/-- A further RDOBJ or WROBJ of the activation exceeds OBJ_LIMIT (R420). -/
def State.objsSpent (s : State) (j : Nat) : Bool := decide ((s.jig j).objLimit < (s.jig j).objs + 1)

/-- A numeric object's type (R91); none for a STRING, a DOMAIN, or no object. -/
def numType (i sub : Nat) : Option Ty :=
  match dictRow i sub with
  | some r => if r.ty.size.isSome then some r.ty else none
  | none => none

/-- The object is a STRING or a DOMAIN. -/
def octetType (i sub : Nat) : Bool := (dictRow i sub).isSome && (numType i sub).isNone

/-- The request of jig j goes through its place of the firmware channel (R115, R416). -/
def jigAsk (j op i sub : Nat) (v : List Byte) (s : State) : State :=
  let s := s.updJig j (fun g => { g with objs := g.objs + 1 })
  clTurn (clServe (.jig j) { op := op, idx := i, sub := sub, val := v, cls := 3, level := 0x0200 } s)

/-- A word that ends without being sent: its abort code stands where R416 puts it. -/
def jigUnsent (j abort : Nat) (s : State) : State :=
  jigAnswer j abort none (s.updJig j (fun g => { g with objs := g.objs + 1 }))

/-- The value fits the type (R416). -/
def Ty.holds (t : Ty) (v : Int) : Bool :=
  let n := 8 * t.size.getD 0
  if t.signed then decide (-(2 ^ (n - 1)) ≤ v) && decide (v < 2 ^ (n - 1)) else decide (0 ≤ v) && decide (v < 2 ^ n)

/-- RDOBJ: x_D = the object that IMM names; x_B = the abort code (R414, R416). -/
def execRdobj (j d b : Nat) (imm : BitVec 32) (s : State) : Host.Outcome State Fault Refusal :=
  if s.jigAt j 0x29 (some d) none (some b) none (some imm) then
    let o := objOf imm.toNat
    if s.objsSpent j then .next (jigFault j 2 s)
    else if octetType o.1 o.2 then .next (jigUnsent j 0x0608 s)
    else .next (jigAsk j 1 o.1 o.2 [] s)
  else .next s

/-- WROBJ: the object that IMM names = x_A; x_D = the abort code (R414, R416). -/
def execWrobj (j d a : Nat) (imm : BitVec 32) (s : State) : Host.Outcome State Fault Refusal :=
  if s.jigAt j 0x2A (some d) (some a) none none (some imm) then
    let o := objOf imm.toNat
    let v := (s.jig j).int a
    if s.objsSpent j then .next (jigFault j 2 s)
    else if !s.jigMayWrite j o.1 o.2 then .next (jigFault j 7 s)
    else
      match numType o.1 o.2 with
      | none => .next (jigUnsent j 0x0608 s)
      | some t => if t.holds v then .next (jigAsk j 3 o.1 o.2 (t.bytes v) s) else .next (jigUnsent j abRange s)
  else .next s

/-- TRACE: the slot, the word number and x_A go to an armed Scribe (R414, R512). -/
def execTrace (j a : Nat) (s : State) : Host.Outcome State Fault Refusal :=
  if s.jigAt j 0x2D none (some a) none none none then
    let w := (s.jig j).pc
    let v := ((s.jig j).reg a).toNat
    .next (jigDo j id (scribePut 0x0C j w v s))
  else .next s

end Sys2Proof.Machine
end

