-- ==== Sys2Proof/Machine/Jigs.lean ====
section
/-! DEFINITION. The commands of the Dowel engines and the operation words of jigs but those that reach the Cut List or the
Scribe (R407 to R429). A jig's word acts where it is the word that the jig is about to execute. -/

namespace Sys2Proof.Machine

open Sys2Proof

/-- PINNED_ACTIVATION (R407, R410). -/
def execPinnedActivation (task : PinId) (s : State) : Host.Outcome State Fault Refusal :=
  match task with
  | .jig j => if (s.jig j).state = 2 && s.isReady 13 && !s.obs.standing then .next (jigActivate j s) else .next s
  | .firm id => if s.isReady 13 && !s.obs.standing then .next (pinActivate id s) else .next s

/-- ACTIVATION_DEADLINE_MISS (R410). -/
def execActivationDeadlineMiss (task : PinId) (s : State) : Host.Outcome State Fault Refusal :=
  match task with
  | .jig j =>
    if (s.jig j).state = 2 && (s.jig j).active && !(s.jig j).missed && !s.obs.standing then .next (jigMiss j s) else .next s
  | .firm id => if s.obs.standing then .next s else .next (pinMiss id s)

/-- ENGINE_STEAL (R408, R409). -/
def execEngineSteal (e : Nat) (s : State) : Host.Outcome State Fault Refusal :=
  if s.engRuns e && (s.engine e).deque.isEmpty && !s.pinBusy e && !s.obs.standing then
    .next (engineSteal e (advanceTo (s.nextBound 40 none) s))
  else .next s

/-- TASK_SPAWN (R409). -/
def execTaskSpawn (e task : Nat) (s : State) : Host.Outcome State Fault Refusal :=
  if ((s.engine e).state = 1 || (s.engine e).state = 2) && !s.obs.standing then .next (taskSpawn e task s) else .next s

/-- NOP: none (R414). -/
def execNop (j : Nat) (s : State) : Host.Outcome State Fault Refusal :=
  if s.jigAt j 0x00 none none none none none then
    .next (jigDo j (fun g => g) s)
  else .next s

/-- LDI: x_D = sext(IMM) (R414). -/
def execLdi (j d : Nat) (imm : BitVec 32) (s : State) : Host.Outcome State Fault Refusal :=
  if s.jigAt j 0x01 (some d) none none none (some imm) then
    .next (jigDo j (fun g => g.setReg d (imm.signExtend 64)) s)
  else .next s

/-- LDIH: x_D[63:32] = IMM, x_D[31:0] unchanged (R414). -/
def execLdih (j d : Nat) (imm : BitVec 32) (s : State) : Host.Outcome State Fault Refusal :=
  if s.jigAt j 0x02 (some d) none none none (some imm) then
    .next (jigDo j (fun g => g.setReg d (imm ++ (g.reg d).setWidth 32)) s)
  else .next s

/-- MOV: x_D = x_A (R414). -/
def execMov (j d a : Nat) (s : State) : Host.Outcome State Fault Refusal :=
  if s.jigAt j 0x03 (some d) (some a) none none none then
    .next (jigDo j (fun g => g.setReg d (g.reg a)) s)
  else .next s

/-- LDM: x_D = data[x_A + IMM]; an address outside 0 to 127 faults (R414, R420). -/
def execLdm (j d a : Nat) (imm : BitVec 32) (s : State) : Host.Outcome State Fault Refusal :=
  if s.jigAt j 0x04 (some d) (some a) none none (some imm) then
    let k := (s.jig j).int a + imm.toInt
    if 0 ≤ k && k < 128 then .next (jigDo j (fun g => g.setReg d (g.data.getD k.toNat 0)) s) else .next (jigFault j 3 s)
  else .next s

/-- STM: data[x_A + IMM] = x_B; an address outside 0 to 127 faults (R414, R420). -/
def execStm (j a b : Nat) (imm : BitVec 32) (s : State) : Host.Outcome State Fault Refusal :=
  if s.jigAt j 0x05 none (some a) (some b) none (some imm) then
    let k := (s.jig j).int a + imm.toInt
    if 0 ≤ k && k < 128 then .next (jigDo j (fun g => { g with data := g.data.set k.toNat (g.reg b) }) s)
    else .next (jigFault j 3 s)
  else .next s

/-- ADD: x_D = x_A + x_B (R414). -/
def execAdd (j d a b : Nat) (s : State) : Host.Outcome State Fault Refusal :=
  if s.jigAt j 0x06 (some d) (some a) (some b) none none then
    .next (jigDo j (fun g => g.setInt d (g.int a + g.int b)) s)
  else .next s

/-- ADDI: x_D = x_A + sext(IMM) (R414). -/
def execAddi (j d a : Nat) (imm : BitVec 32) (s : State) : Host.Outcome State Fault Refusal :=
  if s.jigAt j 0x07 (some d) (some a) none none (some imm) then
    .next (jigDo j (fun g => g.setInt d (g.int a + imm.toInt)) s)
  else .next s

/-- SUB: x_D = x_A - x_B (R414). -/
def execSub (j d a b : Nat) (s : State) : Host.Outcome State Fault Refusal :=
  if s.jigAt j 0x08 (some d) (some a) (some b) none none then
    .next (jigDo j (fun g => g.setInt d (g.int a - g.int b)) s)
  else .next s

/-- NEG: x_D = -x_A (R414). -/
def execNeg (j d a : Nat) (s : State) : Host.Outcome State Fault Refusal :=
  if s.jigAt j 0x09 (some d) (some a) none none none then
    .next (jigDo j (fun g => g.setInt d (-(g.int a))) s)
  else .next s

/-- ABS: x_D = |x_A| (R414). -/
def execAbs (j d a : Nat) (s : State) : Host.Outcome State Fault Refusal :=
  if s.jigAt j 0x0A (some d) (some a) none none none then
    .next (jigDo j (fun g => g.setInt d (((g.int a).natAbs : Int))) s)
  else .next s

/-- MUL: x_D = x_A * x_B (R414). -/
def execMul (j d a b : Nat) (s : State) : Host.Outcome State Fault Refusal :=
  if s.jigAt j 0x0B (some d) (some a) (some b) none none then
    .next (jigDo j (fun g => g.setInt d (g.int a * g.int b)) s)
  else .next s

/-- MULSH: x_D = round((x_A * x_B) >> SH) (R414). -/
def execMulsh (j d a b sh : Nat) (s : State) : Host.Outcome State Fault Refusal :=
  if s.jigAt j 0x0C (some d) (some a) (some b) (some sh) none then
    .next (jigDo j (fun g => g.setInt d (roundShift (g.int a * g.int b) sh)) s)
  else .next s

/-- MULISH: x_D = round((x_A * sext(IMM)) >> SH) (R414). -/
def execMulish (j d a sh : Nat) (imm : BitVec 32) (s : State) : Host.Outcome State Fault Refusal :=
  if s.jigAt j 0x0D (some d) (some a) none (some sh) (some imm) then
    .next (jigDo j (fun g => g.setInt d (roundShift (g.int a * imm.toInt) sh)) s)
  else .next s

/-- DIV: x_D = x_A / x_B, truncated towards zero; by zero it faults (R414, R420). -/
def execDiv (j d a b : Nat) (s : State) : Host.Outcome State Fault Refusal :=
  if s.jigAt j 0x0E (some d) (some a) (some b) none none then
    if (s.jig j).int b = 0 then .next (jigFault j 4 s)
    else .next (jigDo j (fun g => g.setInt d (Int.tdiv (g.int a) (g.int b))) s)
  else .next s

/-- MIN: x_D = min(x_A, x_B) (R414). -/
def execMin (j d a b : Nat) (s : State) : Host.Outcome State Fault Refusal :=
  if s.jigAt j 0x0F (some d) (some a) (some b) none none then
    .next (jigDo j (fun g => g.setInt d (min (g.int a) (g.int b))) s)
  else .next s

/-- MAX: x_D = max(x_A, x_B) (R414). -/
def execMax (j d a b : Nat) (s : State) : Host.Outcome State Fault Refusal :=
  if s.jigAt j 0x10 (some d) (some a) (some b) none none then
    .next (jigDo j (fun g => g.setInt d (max (g.int a) (g.int b))) s)
  else .next s

/-- CLAMP: x_D = min(max(x_D, x_A), x_B) (R414). -/
def execClamp (j d a b : Nat) (s : State) : Host.Outcome State Fault Refusal :=
  if s.jigAt j 0x11 (some d) (some a) (some b) none none then
    .next (jigDo j (fun g => g.setInt d (min (max (g.int d) (g.int a)) (g.int b))) s)
  else .next s

/-- AND: x_D = x_A AND x_B (R414). -/
def execAnd (j d a b : Nat) (s : State) : Host.Outcome State Fault Refusal :=
  if s.jigAt j 0x12 (some d) (some a) (some b) none none then
    .next (jigDo j (fun g => g.setReg d (g.reg a &&& g.reg b)) s)
  else .next s

/-- OR: x_D = x_A OR x_B (R414). -/
def execOr (j d a b : Nat) (s : State) : Host.Outcome State Fault Refusal :=
  if s.jigAt j 0x13 (some d) (some a) (some b) none none then
    .next (jigDo j (fun g => g.setReg d (g.reg a ||| g.reg b)) s)
  else .next s

/-- XOR: x_D = x_A XOR x_B (R414). -/
def execXor (j d a b : Nat) (s : State) : Host.Outcome State Fault Refusal :=
  if s.jigAt j 0x14 (some d) (some a) (some b) none none then
    .next (jigDo j (fun g => g.setReg d (g.reg a ^^^ g.reg b)) s)
  else .next s

/-- NOT: x_D = NOT x_A (R414). -/
def execNot (j d a : Nat) (s : State) : Host.Outcome State Fault Refusal :=
  if s.jigAt j 0x15 (some d) (some a) none none none then
    .next (jigDo j (fun g => g.setReg d (~~~ (g.reg a))) s)
  else .next s

/-- SHL: x_D = x_A shifted left by SH; no saturation (R414). -/
def execShl (j d a sh : Nat) (s : State) : Host.Outcome State Fault Refusal :=
  if s.jigAt j 0x16 (some d) (some a) none (some sh) none then
    .next (jigDo j (fun g => g.setReg d (g.reg a <<< sh)) s)
  else .next s

/-- SHR: x_D = x_A shifted right by SH, zeros entering (R414). -/
def execShr (j d a sh : Nat) (s : State) : Host.Outcome State Fault Refusal :=
  if s.jigAt j 0x17 (some d) (some a) none (some sh) none then
    .next (jigDo j (fun g => g.setReg d (g.reg a >>> sh)) s)
  else .next s

/-- SAR: x_D = x_A shifted right by SH, sign entering (R414). -/
def execSar (j d a sh : Nat) (s : State) : Host.Outcome State Fault Refusal :=
  if s.jigAt j 0x18 (some d) (some a) none (some sh) none then
    .next (jigDo j (fun g => g.setReg d ((g.reg a).sshiftRight sh)) s)
  else .next s

/-- ANDI: x_D = x_A AND sext(IMM) (R414). -/
def execAndi (j d a : Nat) (imm : BitVec 32) (s : State) : Host.Outcome State Fault Refusal :=
  if s.jigAt j 0x19 (some d) (some a) none none (some imm) then
    .next (jigDo j (fun g => g.setReg d (g.reg a &&& imm.signExtend 64)) s)
  else .next s

/-- SEL: x_D = x_A if x_D is not 0, else x_B (R414). -/
def execSel (j d a b : Nat) (s : State) : Host.Outcome State Fault Refusal :=
  if s.jigAt j 0x1A (some d) (some a) (some b) none none then
    .next (jigDo j (fun g => g.setReg d (if g.reg d != 0 then g.reg a else g.reg b)) s)
  else .next s

/-- SLT: x_D = 1 if x_A < x_B, else 0 (R414). -/
def execSlt (j d a b : Nat) (s : State) : Host.Outcome State Fault Refusal :=
  if s.jigAt j 0x1B (some d) (some a) (some b) none none then
    .next (jigDo j (fun g => g.setReg d (if g.int a < g.int b then 1 else 0)) s)
  else .next s

/-- SEQ: x_D = 1 if x_A = x_B, else 0 (R414). -/
def execSeq (j d a b : Nat) (s : State) : Host.Outcome State Fault Refusal :=
  if s.jigAt j 0x1C (some d) (some a) (some b) none none then
    .next (jigDo j (fun g => g.setReg d (if g.int a = g.int b then 1 else 0)) s)
  else .next s

/-- BEQ: goto IMM if x_A = x_B (R414). -/
def execBeq (j a b : Nat) (imm : BitVec 32) (s : State) : Host.Outcome State Fault Refusal :=
  if s.jigAt j 0x1D none (some a) (some b) none (some imm) then
    .next (jigGoto j (decide ((s.jig j).int a = (s.jig j).int b)) imm s)
  else .next s

/-- BNE: goto IMM if x_A differs from x_B (R414). -/
def execBne (j a b : Nat) (imm : BitVec 32) (s : State) : Host.Outcome State Fault Refusal :=
  if s.jigAt j 0x1E none (some a) (some b) none (some imm) then
    .next (jigGoto j (decide ((s.jig j).int a ≠ (s.jig j).int b)) imm s)
  else .next s

/-- BLT: goto IMM if x_A < x_B (R414). -/
def execBlt (j a b : Nat) (imm : BitVec 32) (s : State) : Host.Outcome State Fault Refusal :=
  if s.jigAt j 0x1F none (some a) (some b) none (some imm) then
    .next (jigGoto j (decide ((s.jig j).int a < (s.jig j).int b)) imm s)
  else .next s

/-- BGE: goto IMM if x_A >= x_B (R414). -/
def execBge (j a b : Nat) (imm : BitVec 32) (s : State) : Host.Outcome State Fault Refusal :=
  if s.jigAt j 0x20 none (some a) (some b) none (some imm) then
    .next (jigGoto j (decide ((s.jig j).int b ≤ (s.jig j).int a)) imm s)
  else .next s

/-- BZ: goto IMM if x_A = 0 (R414). -/
def execBz (j a : Nat) (imm : BitVec 32) (s : State) : Host.Outcome State Fault Refusal :=
  if s.jigAt j 0x21 none (some a) none none (some imm) then
    .next (jigGoto j (decide ((s.jig j).int a = 0)) imm s)
  else .next s

/-- JMP: goto IMM (R414). -/
def execJmp (j : Nat) (imm : BitVec 32) (s : State) : Host.Outcome State Fault Refusal :=
  if s.jigAt j 0x22 none none none none (some imm) then
    .next (jigGoto j true imm s)
  else .next s

/-- END: the activation ends (R414). -/
def execEnd (j : Nat) (s : State) : Host.Outcome State Fault Refusal :=
  if s.jigAt j 0x23 none none none none none then
    .next (jigEnd j s)
  else .next s

/-- FILT: x_D = x_D + round(((x_A - x_D) * sext(IMM)) >> SH) (R414). -/
def execFilt (j d a sh : Nat) (imm : BitVec 32) (s : State) : Host.Outcome State Fault Refusal :=
  if s.jigAt j 0x24 (some d) (some a) none (some sh) (some imm) then
    .next (jigDo j (fun g => g.setInt d (g.int d + roundShift ((g.int a - g.int d) * imm.toInt) sh)) s)
  else .next s

/-- INTEG: x_D = x_D + round((x_A * sext(IMM)) >> SH), held within |x_B| (R414). -/
def execInteg (j d a b sh : Nat) (imm : BitVec 32) (s : State) : Host.Outcome State Fault Refusal :=
  if s.jigAt j 0x25 (some d) (some a) (some b) (some sh) (some imm) then
    .next (jigDo j (fun g => g.setInt d (clampI (-(((g.int b).natAbs : Nat) : Int)) (g.int b).natAbs (g.int d + roundShift (g.int a * imm.toInt) sh))) s)
  else .next s

/-- DEADB: x_D = 0 if |x_A| <= |x_B|, else x_A - |x_B| with the sign of x_A (R414). -/
def execDeadb (j d a b : Nat) (s : State) : Host.Outcome State Fault Refusal :=
  if s.jigAt j 0x26 (some d) (some a) (some b) none none then
    .next (jigDo j (fun g => g.setInt d (if (g.int a).natAbs ≤ (g.int b).natAbs then 0 else (g.int a).sign * (((g.int a).natAbs : Int) - (g.int b).natAbs))) s)
  else .next s

/-- SLEW: x_D = x_D + (x_A - x_D) held within |x_B| (R414). -/
def execSlew (j d a b : Nat) (s : State) : Host.Outcome State Fault Refusal :=
  if s.jigAt j 0x27 (some d) (some a) (some b) none none then
    .next (jigDo j (fun g => g.setInt d (g.int d + clampI (-(((g.int b).natAbs : Nat) : Int)) (g.int b).natAbs (g.int a - g.int d))) s)
  else .next s

/-- RDTEL: x_D = the live value that IMM names; an unknown kind or item faults (R415, R420). -/
def execRdtel (j d : Nat) (imm : BitVec 32) (s : State) : Host.Outcome State Fault Refusal :=
  if s.jigAt j 0x28 (some d) none none none (some imm) then
    match s.live imm.toNat with
    | some v => .next (jigDo j (fun g => g.setReg d (BitVec.ofInt 64 v)) s)
    | none => .next (jigFault j 5 s)
  else .next s

/-- POST: posts x_A[31:0] as the jig's request for reason 3 or 4; another reason faults (R417, R420). -/
def execPost (j a : Nat) (imm : BitVec 32) (s : State) : Host.Outcome State Fault Refusal :=
  if s.jigAt j 0x2B none (some a) none none (some imm) then
    let w := ((s.jig j).reg a).toNat % 2 ^ 32
    if imm.toNat = 3 then .next (updAccr (jigDo j (fun g => { g with post3 := some w }) s))
    else if imm.toNat = 4 then .next (updAccr (jigDo j (fun g => { g with post4 := some w }) s))
    else .next (jigFault j 6 s)
  else .next s

/-- EVENT: records S0 event 0x0E10 with the slot, IMM[15:0] and x_A (R414). -/
def execEvent (j a : Nat) (imm : BitVec 32) (s : State) : Host.Outcome State Fault Refusal :=
  if s.jigAt j 0x2C none (some a) none none (some imm) then
    let v := ((s.jig j).reg a).toNat % 2 ^ 32
    .next (jigDo j id (raise 0x0E10 0 (j + 65536 * (imm.toNat % 65536)) v s))
  else .next s

/-- ACTN: x_D = the activations of this jig (R414). -/
def execActn (j d : Nat) (s : State) : Host.Outcome State Fault Refusal :=
  if s.jigAt j 0x2E (some d) none none none none then
    .next (jigDo j (fun g => g.setReg d (BitVec.ofInt 64 (s.num (0x2310 + j) 0x0B))) s)
  else .next s

/-- ELAPSED: x_D = ticks from the previous activation's start to this one's; of a first activation the manual states none, and
the value is free (R414). -/
def execElapsed (j d : Nat) (s : State) : Host.Outcome State Fault Refusal :=
  if s.jigAt j 0x2F (some d) none none none none then
    match (s.jig j).gap with
    | some t => .next (jigDo j (fun g => g.setReg d (BitVec.ofNat 64 t)) s)
    | none => .next (jigDo j (fun g => g.setReg d (Config.freeValue s.free)) s.takeFree)
  else .next s

/-- FLASH_IMAGE_WRITE_DONE with the error code, 0 for none, and the image written; the channel is given back (R422, R460). -/
def execFlashImageWriteDone (err : Nat) (img : Image) (s : State) : Host.Outcome State Fault Refusal :=
  if s.dowel.flashCopy.isNone then .next s else .next (dmaGiveUse 4 (flashImageEnd err img s))

/-- ENGINE_DRAIN_DONE (R423). -/
def execEngineDrainDone (e : Nat) (s : State) : Host.Outcome State Fault Refusal :=
  if (s.engine e).state = 2 && !s.obs.standing then .next (channel0 (drainDone e s)) else .next s

/-- ENGINE_RELOAD_DONE (R423, R427). -/
def execEngineReloadDone (e : Nat) (s : State) : Host.Outcome State Fault Refusal :=
  if (s.engine e).state = 3 && !s.obs.standing then .next (channel0 (reloadDone e s)) else .next s

/-- ENGINE_START_DONE (R423, R427). -/
def execEngineStartDone (e : Nat) (s : State) : Host.Outcome State Fault Refusal :=
  if (s.engine e).state = 4 && !s.obs.standing then .next (channel0 (startDone e s)) else .next s

/-- ENGINE_DRAIN_TIMEOUT (R424). -/
def execEngineDrainTimeout (e : Nat) (s : State) : Host.Outcome State Fault Refusal :=
  if (s.engine e).state = 2 && s.dowel.updating && !s.dowel.rollback && !s.obs.standing then .next (channel0 (drainTimeout e s)) else .next s

/-- ENGINE_START_TIMEOUT (R424). -/
def execEngineStartTimeout (e : Nat) (s : State) : Host.Outcome State Fault Refusal :=
  if (s.engine e).state = 4 && s.dowel.updEng = some e && !s.dowel.rollback && !s.obs.standing then .next (channel0 (startTimeout e s))
  else .next s

/-- ENGINE_WATCHDOG_EXPIRY (R427). -/
def execEngineWatchdogExpiry (e : Nat) (s : State) : Host.Outcome State Fault Refusal :=
  if ((s.engine e).state = 1 || (s.engine e).state = 2) && !s.obs.standing then .next (channel0 (engineWatchdog e s)) else .next s

end Sys2Proof.Machine
end

