-- ==== Sys2Proof/Machine/MgtRows.lean ====
section
/-! DEFINITION. The commands of the management port and the PMBus host (R532 to R551). -/

namespace Sys2Proof.Machine

open Sys2Proof

/-- A packet from the controller: a control or PLDM request is answered, a Cut List request goes to its channel, and everything
else is discarded (R536 to R539). -/
def packetIn (b : List Byte) (s : State) : State :=
  if !s.takesPacket b || s.portBusy then discardPacket s
  else
    let (p, body) := packetOf b
    let type := leAt body 0 1
    let request := bit (leAt body 1 1) 7
    if type = 0 && request then answer p (ctlMessage p body) s
    else if type = 1 && request then answer p (pldmMessage p body) s
    else if type = 0x7F && s.clTakes body then
      let (op, r) := clMessage body
      clSubmit .mgt op r { s with mgt := { s.mgt with reqHdr := clEcho p body } }
    else discardPacket s

/-- SMBUS_BLOCK_WRITE with command 0x0F: byte count, source address, MCTP header and body (R533, R536). -/
def execSmbusBlockWrite (data : List Byte) (pecOk : Bool) (s : State) : Host.Outcome State Fault Refusal :=
  if !s.isReady 2 || s.mgt.i3c then .next s
  else if !pecOk then .next (refuseBus (setMgtFlag 1 s))
  else if leAt data 0 1 + 1 != data.length then .next (drive [] (discardPacket s))
  else .next (packetIn (data.drop 2) (drive [] s))

/-- SMBUS_BLOCK_READ with command 0x0F (R532, R533). -/
def execSmbusBlockRead (s : State) : Host.Outcome State Fault Refusal :=
  if !s.isReady 2 || s.mgt.i3c then .next s
  else
    match s.mgt.rsp with
    | some b => .next (dropPacket (drive (s.blockBytes b) s))
    | none => .next (drive [byte 0] s)

/-- SMBUS_ARA_READ (R547). -/
def execSmbusAraRead (s : State) : Host.Outcome State Fault Refusal := .next (araRead s)

/-- SMBUS_TIMEOUT (R533): a partial packet is abandoned, a response stays (R552). -/
def execSmbusTimeout (s : State) : Host.Outcome State Fault Refusal :=
  if s.isReady 2 && !s.mgt.i3c then .next (setMgtFlag 2 s) else .next s

/-- I3C_PRIVATE_READ (R532): the waiting packet; with none the read is NACKed. -/
def execI3cPrivateRead (s : State) : Host.Outcome State Fault Refusal :=
  if !s.isReady 2 || !s.mgt.i3c then .next s
  else
    match s.mgt.rsp with
    | some b => .next (dropPacket (drive b s))
    | none => .next (refuseBus s)

/-- I3C_PRIVATE_WRITE (R536): the MCTP header and body of a packet. -/
def execI3cPrivateWrite (data : List Byte) (s : State) : Host.Outcome State Fault Refusal :=
  if s.isReady 2 && s.mgt.i3c then .next (packetIn data (drive [] s)) else .next s

/-- ENTDAA (R534, R535): PID, BCR and DCR, and the address assigned. -/
def execEntdaa (addr : Nat) (s : State) : Host.Outcome State Fault Refusal :=
  .next (assignAddr addr (beBytes 6 s.pid ++ [byte 0x06, byte 0]) s)

/-- SETDASA (R534). -/
def execSetdasa (addr : Nat) (s : State) : Host.Outcome State Fault Refusal := .next (assignAddr addr [] s)

/-- SETAASA (R534): the static address is the dynamic address. -/
def execSetaasa (s : State) : Host.Outcome State Fault Refusal := .next (assignAddr s.aon.strapSmb [] s)

/-- RSTDAA (R535): back to SMBus mode; a waiting response stays. -/
def execRstdaa (s : State) : Host.Outcome State Fault Refusal :=
  if s.isReady 2 && s.mgt.i3c then .next (alertPin (drive [] { s with mgt := { s.mgt with i3c := false, dynAddr := 0 } })) else .next s

/-- ENEC (R534, R547). -/
def execEnec (s : State) : Host.Outcome State Fault Refusal :=
  if s.isReady 2 && s.mgt.i3c then .next (drive [] { s with mgt := { s.mgt with ibiOn := true } }) else .next s

/-- DISEC (R534, R547). -/
def execDisec (s : State) : Host.Outcome State Fault Refusal :=
  if s.isReady 2 && s.mgt.i3c then .next (drive [] { s with mgt := { s.mgt with ibiOn := false } }) else .next s

/-- GETPID (R535). -/
def execGetpid (s : State) : Host.Outcome State Fault Refusal := .next (cccAnswer (beBytes 6 s.pid) s)

/-- GETBCR (R535). -/
def execGetbcr (s : State) : Host.Outcome State Fault Refusal := .next (cccAnswer [byte 0x06] s)

/-- GETDCR (R535). -/
def execGetdcr (s : State) : Host.Outcome State Fault Refusal := .next (cccAnswer [byte 0x00] s)

/-- GETSTATUS (R534): no rule states the value, and the two bytes are free. -/
def execGetstatus (s : State) : Host.Outcome State Fault Refusal :=
  if s.isReady 2 && s.mgt.i3c then .next (drive (freeBytes s.free 2) s.takeFree) else .next s

/-- GETMWL (R534). -/
def execGetmwl (s : State) : Host.Outcome State Fault Refusal := .next (cccAnswer (beBytes 2 s.mgt.mwl) s)

/-- SETMWL (R534). -/
def execSetmwl (n : Nat) (s : State) : Host.Outcome State Fault Refusal := .next (setLength n s)

/-- GETMRL (R534): the length, and the three bytes of an interrupt's payload. -/
def execGetmrl (s : State) : Host.Outcome State Fault Refusal := .next (cccAnswer (beBytes 2 s.mgt.mrl ++ [byte 3]) s)

/-- SETMRL (R534). -/
def execSetmrl (n : Nat) (s : State) : Host.Outcome State Fault Refusal := .next (setLength n s)

/-- GETMXDS (R534, R535): no speed limitation. -/
def execGetmxds (s : State) : Host.Outcome State Fault Refusal := .next (cccAnswer [byte 0, byte 0] s)

/-- IBI_RETRY (R547). -/
def execIbiRetry (s : State) : Host.Outcome State Fault Refusal := .next (ibiRetry s)

/-- IN_BAND_INTERRUPT (R547). -/
def execInBandInterrupt (acked : Bool) (s : State) : Host.Outcome State Fault Refusal := .next (ibi acked s)

/-- PACKET_FETCH_TIMEOUT (R532). -/
def execPacketFetchTimeout (s : State) : Host.Outcome State Fault Refusal :=
  if s.mgt.rsp.isSome then .next (dropPacket ((advanceTo (s.mgt.rspAt + ms 100) s).bump32 0x2600 9)) else .next s

/-- SET_ENDPOINT_ID (R537). -/
def execSetEndpointId (pkt : Packet) (op eid : Nat) (s : State) : Host.Outcome State Fault Refusal :=
  .next (answer pkt (ctlSetEid pkt op eid) s)

/-- GET_ENDPOINT_ID (R537). -/
def execGetEndpointId (pkt : Packet) (s : State) : Host.Outcome State Fault Refusal := .next (answer pkt (ctlGetEid pkt) s)

/-- GET_ENDPOINT_UUID (R537). -/
def execGetEndpointUuid (pkt : Packet) (s : State) : Host.Outcome State Fault Refusal := .next (answer pkt (ctlGetUuid pkt) s)

/-- GET_MCTP_VERSION_SUPPORT (R536, R537). -/
def execGetMctpVersionSupport (pkt : Packet) (type : Nat) (s : State) : Host.Outcome State Fault Refusal :=
  .next (answer pkt (ctlGetVersion pkt type) s)

/-- GET_MESSAGE_TYPE_SUPPORT (R537). -/
def execGetMessageTypeSupport (pkt : Packet) (s : State) : Host.Outcome State Fault Refusal := .next (answer pkt (ctlGetTypes pkt) s)

/-- GET_VENDOR_MESSAGE_SUPPORT (R537). -/
def execGetVendorMessageSupport (pkt : Packet) (sel : Nat) (s : State) : Host.Outcome State Fault Refusal :=
  .next (answer pkt (ctlGetVendor pkt sel) s)

/-- SETTID (R544). -/
def execSettid (pkt : Packet) (tid : Nat) (s : State) : Host.Outcome State Fault Refusal := .next (answer pkt (pldmSetTid pkt tid) s)

/-- GETTID (R544). -/
def execGettid (pkt : Packet) (s : State) : Host.Outcome State Fault Refusal := .next (answer pkt (pldmGetTid pkt) s)

/-- GETPLDMVERSION (R544). -/
def execGetpldmversion (pkt : Packet) (type : Nat) (s : State) : Host.Outcome State Fault Refusal :=
  .next (answer pkt (pldmVersion pkt type) s)

/-- GETPLDMTYPES (R544). -/
def execGetpldmtypes (pkt : Packet) (s : State) : Host.Outcome State Fault Refusal := .next (answer pkt (pldmTypes pkt) s)

/-- GETPLDMCOMMANDS (R544). -/
def execGetpldmcommands (pkt : Packet) (type : Nat) (s : State) : Host.Outcome State Fault Refusal :=
  .next (answer pkt (pldmCommands pkt type) s)

/-- GETSENSORREADING (R545, R546). -/
def execGetsensorreading (pkt : Packet) (id : Nat) (s : State) : Host.Outcome State Fault Refusal :=
  .next (answer pkt (pldmReading pkt id) s)

/-- GETPDRREPOSITORYINFO (R544). -/
def execGetpdrrepositoryinfo (pkt : Packet) (s : State) : Host.Outcome State Fault Refusal := .next (answer pkt (pldmRepository pkt) s)

/-- GETPDR (R544, R545). -/
def execGetpdr (pkt : Packet) (rec : Nat) (s : State) : Host.Outcome State Fault Refusal := .next (answer pkt (pldmPdr pkt rec) s)

/-- PMBUS_POLL (R548, R550): commands that wait go first. -/
def execPmbusPoll (answers : List PmbAns) (s : State) : Host.Outcome State Fault Refusal :=
  if s.pmbRuns then .next (pollAll answers (clRegulators true s)) else .next s

/-- PMB_ALERT with the responding device and its STATUS_WORD (R550, R551). -/
def execPmbAlert (d status : Nat) (s : State) : Host.Outcome State Fault Refusal := .next (serveAlert d status s)

/-- A command object of regulator d is written, and its command completes. -/
def pmbWrite (ch : ChanId) (d sub : Nat) (val : List Byte) (acked : Bool) (s : State) : State :=
  let t := clWhole ch (0x2620 + d) sub val s
  if (s.waits ch 5).isNone then clRegulator ch acked t else t

/-- PMBUS_OPERATION: a write of 0x2620 + d, subindex 0x05 (R548, R550). -/
def execPmbusOperation (ch : ChanId) (d : Nat) (val : List Byte) (acked : Bool) (s : State) : Host.Outcome State Fault Refusal :=
  .next (pmbWrite ch d 5 val acked s)

/-- PMBUS_CLEAR_FAULTS: a write of 0x2620 + d, subindex 0x06 (R548, R550). -/
def execPmbusClearFaults (ch : ChanId) (d : Nat) (val : List Byte) (acked : Bool) (s : State) : Host.Outcome State Fault Refusal :=
  .next (pmbWrite ch d 6 val acked s)

/-- PMBUS_VOUT_COMMAND: a write of 0x2620 + d, subindex 0x04 (R548 to R550). -/
def execPmbusVoutCommand (ch : ChanId) (d : Nat) (val : List Byte) (acked : Bool) (s : State) : Host.Outcome State Fault Refusal :=
  .next (pmbWrite ch d 4 val acked s)

/-- PMBUS_ADDRESS_WRITE: a write of a device's address, after which VOUT_MODE is read once (R548, R549). -/
def execPmbusAddressWrite (ch : ChanId) (d : Nat) (val : List Byte) (mode : Nat) (acked : Bool) (s : State) :
    Host.Outcome State Fault Refusal :=
  let t := clWhole ch (0x2620 + d) 1 val s
  if s.num 0x2610 3 = t.num 0x2610 3 then .next t
  else if acked then .next (takeMode d mode t)
  else .next (pmbCount 1 2 t)

end Sys2Proof.Machine
end

