-- ==== Sys2Proof/Machine/ObsRows.lean ====
section
/-! DEFINITION. The commands of the observation unit that no requester writes: the Scribe's input, map dumps, the wait-for
graph and the global stop (R511 to R531). -/

namespace Sys2Proof.Machine

open Sys2Proof

/-- SCRIBE_RECORD handed over by a source (R512, R513). -/
def execScribeRecord (src sub info : Nat) (data : BitVec 64) (s : State) : Host.Outcome State Fault Refusal :=
  .next (scribePut src sub info data.toNat s)

/-- SCRIBE_TIME_MARK (R513). -/
def execScribeTimeMark (s : State) : Host.Outcome State Fault Refusal := .next (scribeTimeMark s)

/-- MAP_DUMP_COPY (R517). -/
def execMapDumpCopy (s : State) : Host.Outcome State Fault Refusal := .next (dumpCopy s)

/-- MAP_DUMP (R517). -/
def execMapDump (s : State) : Host.Outcome State Fault Refusal := .next (dumpDone s)

/-- GRAPH_DONE (R519). -/
def execGraphDone (s : State) : Host.Outcome State Fault Refusal := .next (graphDone s)

/-- STOP_IN_ASSERT with the crossings held and each island's delay (R521, R523). -/
def execStopInAssert (crossings eng stp til : Nat) (s : State) : Host.Outcome State Fault Refusal :=
  if s.aon.ctlReleased && !s.aon.stopInAct then .next (stopDeliver crossings eng stp til s) else .next s

/-- STOP_ENTER (R523). -/
def execStopEnter (s : State) : Host.Outcome State Fault Refusal := .next (stopEnter s)

/-- TRIG_REQ_CLEAR (R524). -/
def execTrigReqClear (s : State) : Host.Outcome State Fault Refusal := .next (trigReqClear s)

/-! Release (R526). -/

/-- A channel whose waiting request and open transfer start d later. -/
def ClChan.later (d : Nat) (c : ClChan) : ClChan :=
  { c with openAt := c.openAt + d, pend := c.pend.map (fun a => { a with since := a.since + d }) }

/-- The timers of the chain and of the Cut List channels that stood still for d (R154). -/
def chainLater (d : Nat) (s : State) : State :=
  let k := s.chain
  let k := { k with
    tokenAt := k.tokenAt.map (· + d), enumFirstAt := k.enumFirstAt.map (· + d), retryAt := k.retryAt.map (· + d),
    txn := k.txn.map (fun t => { t with openedAt := t.openedAt + d }),
    preps := k.preps.map (fun p => { p with votedAt := p.votedAt + d }) }
  let c := s.cl
  let c := { c with slots := c.slots.map (ClChan.later d), mgt := c.mgt.later d, fw := c.fw.later d, chain := c.chain.later d,
                    jig := c.jig.map (ClChan.later d) }
  { s with chain := k, cl := c }

/-- The windows and wait limits of the Clamp, the controller's holds, a barrier's package wait, and the periods and deadlines
of engines and jigs that stood still for d (R318, R366, R429). -/
def unitsLater (d : Nat) (s : State) : State :=
  let gs := s.cla.grants.map (fun g => { g with endAt := g.endAt + d })
  let qs := s.cla.queue.map (fun q => { q with since := q.since + d })
  let js := s.dowel.jigs.map (fun j => { j with nextAt := j.nextAt + d, startAt := j.startAt + d })
  let ps := s.dowel.pins.map (fun p => { p with nextAt := p.nextAt + d, startAt := p.startAt.map (· + d) })
  { s with cla := { s.cla with grants := gs, queue := qs },
           cap := { s.cap with escFrom := s.cap.escFrom.map (· + d), relFrom := s.cap.relFrom.map (· + d),
                               okFrom := s.cap.okFrom.map (· + d) },
           dove := { s.dove with pkgWaitAt := s.dove.pkgWaitAt + d },
           dowel := { s.dowel with jigs := js, pins := ps } }

/-- The ENG blocks and the engines resume (R526, step 1). -/
def stopResume (s : State) : State :=
  let d := s.aon.clock - s.obs.stopInAt
  let s := unitsLater d (chainLater d s)
  { s with aon := { s.aon with stopInAct := false }, obs := { s.obs with standing := false, stopped := false } }

/-- One entry of the debug queue is applied; one that aborts sets DBG_FAIL and records DEBUG_WRITE (R525). -/
def debugOne (e : Nat × Nat × List Byte) (s : State) : State :=
  let x := debugApply e.1 e.2.1 e.2.2 s
  let s := x.2
  if x.1 = 0 then { s with obs := { s.obs with dbgApplied := s.obs.dbgApplied + 1 } }
  else
    let s := setStopFlag 4 { s with obs := { s.obs with dbgAbort := x.1 } }
    raise 0x0915 0 (e.1 * 65536 + e.2.1 * 256) x.1 s

/-- The debug queue is applied in the order posted (R525; R526, step 2). -/
def debugRun (s : State) : State :=
  let l := s.obs.dbgQ
  l.foldl (fun s e => debugOne e s) { s with obs := { s.obs with dbgQ := [], dbgApplied := 0 } }

/-- TCLK_OUT restarts at the restart divider (R299; R526, step 4); the release stays in progress until the divider is back. -/
def stopClock (s : State) : State :=
  let c := s.clk
  if c.running && !c.tripHeld && !c.tileInt then
    let m := s.startM
    { s with clk := { c with stopHeld := false, m := m, divAt := c.tileCycles, skipAt := c.tileCycles },
             obs := { s.obs with restarting := decide (m != s.divGoal) } }
  else { s with clk := { c with stopHeld := false } }

/-- The Scribe writes its GAP and TIME records and resumes; a trigger taken during the stop follows (R516; R526, step 6;
R529). -/
def scribeResume (s : State) : State :=
  if (s.obs.scrState = 1 || s.obs.scrState = 2) && s.enabled 14 then
    let s := scribeTime (scribeGap s)
    if s.obs.scrWait then scribeTrigger s else s
  else s

/-- The release of a stop (R526). -/
def stopRelease (s : State) : State :=
  let n := if s.obs.stopped then (s.aon.clock - s.obs.stopAt) / 4 else 0
  let s := clResume (debugRun (stopResume s))
  let s := pumpLink .dn (pumpLink .up (clampResume (syncResume s)))
  let s := stopClock s
  let s := if s.isReady 16 then startSettling s else s
  raise 0x0911 0 (n % 2 ^ 32) 0 (scribeResume s)

/-- STOP_IN_RELEASE (R526). -/
def execStopInRelease (s : State) : Host.Outcome State Fault Refusal :=
  if s.aon.stopInAct then .next (stopRelease s) else .next s

end Sys2Proof.Machine
end

