-- ==== Sys2Proof/Machine/Power.lean ====
section
/-! DEFINITION. The commands of the estimator, the cap controller, the Clamp and Dovetail that no requester writes
(R307 to R365). -/

namespace Sys2Proof.Machine

open Sys2Proof

/-- The estimator runs: ESTIM is ready and the standing-still parts do not stand still (R322, R334). -/
def State.estimRuns (s : State) : Bool := s.isReady 15 && !s.obs.standing

/-- ESTIMATOR_BOUNDARY with the tiles' activity (R307 to R332, R341, R349). -/
def execEstimatorBoundary (acts : List TileAct) (s : State) : Host.Outcome State Fault Refusal :=
  if !s.estimRuns then .next s
  else
    let s := advanceTo (s.nextBound 400 s.cap.estAt) s
    let t := s.aon.clock
    let s := { s with cap := { s.cap with estAt := some t } }
    let pw := s.tilePowers acts
    let s := takeLimits (estimate acts (saturated acts s))
    let p := s.pInterval
    let s := usePreds s
    let s := if s.pn 0x6000 1 = 1 then capController p s else s
    .next (updAccr (takeMap (clampBoundary acts pw (endMs s))))

/-- CAP_ESCALATE_EXPIRY (R321): the skip has stood at its limit for the escalate time. -/
def execCapEscalateExpiry (s : State) : Host.Outcome State Fault Refusal :=
  match s.cap.escFrom with
  | some t =>
    if s.estimRuns && s.pn 0x6000 1 = 1 && s.cap.okFrom.isNone then
      let s := advanceTo (t + us (s.pn 0x6000 6)) s
      let n := s.aon.clock
      let c := s.clk.point - 1
      .next (updAccr (setCapFlag 2 { s with cap := { s.cap with ceiling := c, escFrom := some n } }))
    else .next s
  | none => .next s

/-- CAP_RAISE_HOLD_EXPIRY (R321): below the release level the ceiling rises one point; at or below a the divide clears. -/
def execCapRaiseHoldExpiry (s : State) : Host.Outcome State Fault Refusal :=
  let hold := us (s.pn 0x6000 7)
  if !s.estimRuns || s.pn 0x6000 1 != 1 then .next s
  else
    match s.cap.relFrom, s.cap.okFrom with
    | some t, ok =>
      if s.cap.skip = 0 && s.cap.ceiling != 31 then
        let s := advanceTo (t + hold) s
        let n := s.aon.clock
        let c := if s.usedPoints ≤ s.cap.ceiling + 1 then 31 else s.cap.ceiling + 1
        let d := s.cap.divide && !(match ok with
          | some u => decide (u + hold ≤ n)
          | none => false)
        .next (updAccr { s with cap := { s.cap with ceiling := c, relFrom := some n, divide := d } })
      else if s.cap.divide then
        let s := advanceTo (ok.getD t + hold) s
        .next (updAccr { s with cap := { s.cap with divide := false } })
      else .next s
    | none, some u =>
      if s.cap.divide then
        let s := advanceTo (u + hold) s
        .next (updAccr { s with cap := { s.cap with divide := false } })
      else .next s
    | none, none => .next s

/-- CALIBRATION_UPDATE (R312 to R314). -/
def execCalibrationUpdate (s : State) : Host.Outcome State Fault Refusal :=
  if s.estimRuns && s.cap.calDue then
    .next (forEach [0, 1, 2] calRail { s with cap := { s.cap with calDue := false } })
  else .next s

/-- TELEMETRY_INSTANT (R330, R341). -/
def execTelemetryInstant (s : State) : Host.Outcome State Fault Refusal :=
  if s.estimRuns then
    let s := telemInstant (advanceTo s.nextInstant s)
    .next (if s.enforceOn then baselineCheck s else s)
  else .next s

/-- THR_IN_ASSERT (R46). -/
def execThrInAssert (s : State) : Host.Outcome State Fault Refusal :=
  if s.aon.ctlReleased && !s.aon.thrInAct then
    let w := s.extAction
    .next (updAccr { s with aon := { s.aon with thrInAct := true }, cap := { s.cap with extWord := w } })
  else .next s

/-- THR_IN_RELEASE (R46). -/
def execThrInRelease (s : State) : Host.Outcome State Fault Refusal :=
  if s.aon.thrInAct then
    .next (updAccr { s with aon := { s.aon with thrInAct := false }, cap := { s.cap with extWord := 31 } })
  else .next s

/-! The Clamp. -/

/-- CLAMP_OPEN (R345). -/
def execClampOpen (tile : Nat) (w : BitVec 64) (s : State) : Host.Outcome State Fault Refusal := .next (clampWord tile 0 w.toNat s)

/-- CLAMP_CLOSE (R345). -/
def execClampClose (tile : Nat) (w : BitVec 64) (s : State) : Host.Outcome State Fault Refusal := .next (clampWord tile 1 w.toNat s)

/-- CLAMP_REQUEST (R346). -/
def execClampRequest (tile : Nat) (w : BitVec 64) (s : State) : Host.Outcome State Fault Refusal := .next (clampWord tile 2 w.toNat s)

/-- CLAMP_RELEASE (R350). -/
def execClampRelease (tile : Nat) (w : BitVec 64) (s : State) : Host.Outcome State Fault Refusal := .next (clampWord tile 3 w.toNat s)

/-- CLAMP_CANCEL (R350). -/
def execClampCancel (tile : Nat) (w : BitVec 64) (s : State) : Host.Outcome State Fault Refusal := .next (clampWord tile 4 w.toNat s)

/-- GRANT_WINDOW_END of account a (R341, R350). -/
def execGrantWindowEnd (a : Nat) (s : State) : Host.Outcome State Fault Refusal :=
  if s.obs.standing then .next s
  else
    match s.cla.grants.find? (fun g => g.a = a) with
    | some g =>
      let s := endGrant g (advanceTo g.endAt (clearNotices s))
      .next (updAccr (if g.orphan then s else clampNotice a 4 0 0 g.tag s))
    | none => .next s

/-- REQUEST_WAIT_EXPIRY of account a (R350). -/
def execRequestWaitExpiry (a : Nat) (s : State) : Host.Outcome State Fault Refusal :=
  match s.queuedOf a with
  | some q =>
    let p := (s.acct a).part
    let w := s.pn (0x7040 + p) 2
    if w = 0 || s.obs.standing then .next s
    else
      let s := leaveQueue q (advanceTo (q.since + us w) (clearNotices s))
      let s := (s.bump32 0x7001 6).bump32 (0x7040 + p) 0x0B
      .next (updAccr (clampNotice a 3 9 0 q.tag s))
  | none => .next s

/-! Dovetail. -/

/-- BAR_IN_RISE (R41, R356, R361). -/
def execBarInRise (s : State) : Host.Outcome State Fault Refusal :=
  if s.inst.sat || !s.aon.ctlReleased then .next s else .next (barInRise s)

/-- BAR_OUT_RISE (R356). -/
def execBarOutRise (s : State) : Host.Outcome State Fault Refusal :=
  if s.tileStopped then .next s else .next (barOutRise s)

/-- DOVETAIL_WAVE (R356). -/
def execDovetailWave (s : State) : Host.Outcome State Fault Refusal :=
  if !s.tileStopped && s.dove.releasing && s.dove.wave != 0 && decide (s.dove.wave < s.dove.w) then .next (nextWave s)
  else .next s

/-- BAR_OUT_FALL (R356). -/
def execBarOutFall (s : State) : Host.Outcome State Fault Refusal :=
  if !s.tileStopped && s.dove.barOut && (!s.dove.releasing || s.dove.wave = s.dove.w) then .next (barOutFall s)
  else .next s

/-- PLAN_WINDOW_EXPIRY (R358). -/
def execPlanWindowExpiry (s : State) : Host.Outcome State Fault Refusal :=
  if s.dove.armed then .next (disarmPlan (advanceTo s.dove.planUntil s)) else .next s

/-- BARRIER_TIMEOUT (R364). -/
def execBarrierTimeout (s : State) : Host.Outcome State Fault Refusal :=
  if s.dove.pkgWait && !s.dove.late && s.pn 0x7100 9 != 0 then
    let s := advanceTo (s.dove.pkgWaitAt + us (s.pn 0x7100 9)) s
    .next (raiseFault 6 0x0702 1 0xFF 0xFFFF 0 (setDoveFlag 1 { s with dove := { s.dove with late := true } }))
  else .next s

end Sys2Proof.Machine
end

