-- ==== Sys2Proof/Machine/Rails.lean ====
section
/-! DEFINITION. The commands of rail control and rail protection that no requester writes: samples, conversions and the
expiries of their timers (R156 to R230). Each advances time to the moment at which it falls due; where its own
precondition does not hold it cannot occur, and nothing changes. -/

namespace Sys2Proof.Machine

open Sys2Proof

/-- COMPENSATOR_SAMPLE (R190): the six samples of one boundary. -/
def execCompensatorSample (v : List Nat) (s : State) : Host.Outcome State Fault Refusal :=
  if !s.aon.ctlReleased then .next s
  else
    let s := advanceTo (s.nextBound 50 s.prot.sampAt) s
    let t := s.aon.clock
    let s := headroomStep { s with prot := { s.prot with sampAt := some t } }
    let on := [0, 1, 2, 3, 4, 5].filter (fun k => (s.rail k).state != 0 && s.railUsed k)
    let s := forEach on (fun k s => railSample k (v.getD k 0) s) s
    .next (seqBegin (combine (seqRetry (movesDone s))))

/-- CURRENT_CONVERSION (R161). -/
def execCurrentConversion (imon : List Nat) (iref tmon : Nat) (s : State) : Host.Outcome State Fault Refusal :=
  if !s.aon.ctlReleased then .next s
  else .next (forEach [0, 1, 2] calibNote (conversion imon iref tmon s))

/-- PH_OC_PEAK_EXPIRY (R202): the first conversion at which the hold has lasted longer than the peak time. -/
def execPhOcPeakExpiry (n : Nat) (s : State) : Host.Outcome State Fault Refusal :=
  let k := (s.phase n).ctrl
  match (s.phase n).ocAt with
  | some t =>
    if (s.phase n).ocLong || 6 ≤ k then .next s
    else
      let s := advanceTo (t + us (s.pn (0x3300 + k) 3) + us 1) s
      let c := min 255 ((s.phase n).count + 1)
      let s := s.updPhase n (fun p => { p with
        ocLong := true, count := c, suspect := p.suspect || decide (s.pn (0x3300 + k) 0x0D ≤ c) })
      .next (raiseFault k 0x0301 1 n 0xFFFF 0 s)
  | none => .next s

/-- PEAK_TIMER_EXPIRY (R203, R204). -/
def execPeakTimerExpiry (k : Nat) (s : State) : Host.Outcome State Fault Refusal :=
  if s.railUsed k && decide (s.pn (0x3300 + k) 3 ≤ (s.rail k).peakTimer) && !(s.rail k).fold then
    .next (raiseFault k 0x0302 2 0xFF 0xFFFF 0 (markFold k s))
  else .next s

/-- FOLDBACK_HOLD_EXPIRY (R204). -/
def execFoldbackHoldExpiry (k : Nat) (s : State) : Host.Outcome State Fault Refusal :=
  match (s.rail k).foldLowFrom with
  | some t =>
    if (s.rail k).fold then
      let s := advanceTo (t + ms (s.pn (0x3300 + k) 6)) s
      let s := s.updRail k (fun r => { r with fold := false, foldTimer := 0, foldLowFrom := none, peakTimer := 0 })
      .next (clearFault k 0x0302 0xFFFF s)
    else .next s
  | none => .next s

/-- FOLDBACK_LIMIT_EXPIRY (R204, R205). -/
def execFoldbackLimitExpiry (k : Nat) (s : State) : Host.Outcome State Fault Refusal :=
  if (s.rail k).fold && decide (s.pn (0x3300 + k) 7 ≤ (s.rail k).foldTimer) then
    .next (raiseFault k 0x0303 3 0xFF 0xFFFF 0 s)
  else .next s

/-- OV_PERSIST (R207). -/
def execOvPersist (k : Nat) (s : State) : Host.Outcome State Fault Refusal :=
  if s.railUsed k && (s.rail k).state = 5 && s.aboveOv k then
    .next (raiseFault k 0x030F 4 0xFF 0xFFFF 0 (advanceTo ((s.rail k).safeAt + us 10) s))
  else .next s

/-- UV at S2 (R208). -/
def execUv (k : Nat) (s : State) : Host.Outcome State Fault Refusal :=
  match (s.rail k).uvFrom with
  | some t =>
    if (s.rail k).uvRaised = 0 then
      let s := advanceTo (t + us (s.pn (0x3300 + k) 0x0A)) s
      .next (raiseFault k 0x0305 2 0xFF 0xFFFF 0 (s.updRail k (fun r => { r with uvRaised := 1 })))
    else .next s
  | none => .next s

/-- UV_S3_EXPIRY (R208): UV has persisted for ten UV times. -/
def execUvS3Expiry (k : Nat) (s : State) : Host.Outcome State Fault Refusal :=
  match (s.rail k).uvFrom with
  | some t =>
    if (s.rail k).uvRaised = 1 then
      let s := advanceTo (t + us (10 * s.pn (0x3300 + k) 0x0A)) s
      .next (raiseFault k 0x0305 3 0xFF 0xFFFF 0 (s.updRail k (fun r => { r with uvRaised := 2 })))
    else .next s
  | none => .next s

/-- STG_FLT (R212): it enters the context of every rail controller that runs. -/
def execStgFlt (s : State) : Host.Outcome State Fault Refusal :=
  if s.aon.porN && !s.prot.stgFlt then
    let run := [0, 1, 2, 3, 4, 5].filter (fun k => s.railUsed k && (s.rail k).state != 0)
    let s := { s with prot := { s.prot with stgFlt := true } }
    .next (forEach run (fun k s => raiseFault k 0x030C 3 0xFF 0xFFFF 0 s) s)
  else .next s

/-- PHASE_SUSPECT (R213 to R216). -/
def execPhaseSuspect (n : Nat) (s : State) : Host.Outcome State Fault Refusal :=
  let k := (s.phase n).ctrl
  if (s.phase n).suspect && k < 6 then .next (failPhase n (if s.sumCheckOpen k then 5 else 6) s) else .next s

/-- FE_TIMER_EXPIRY (R219, R220). -/
def execFeTimerExpiry (k : Nat) (s : State) : Host.Outcome State Fault Refusal :=
  if (s.rail k).ffForce && decide (s.pn (0x3300 + k) 0x11 ≤ (s.rail k).feTimer) then .next (followingError k s)
  else .next s

/-- The faults of a context that are in recovery or run unqueued. -/
def Ctx.running (c : Ctx) : List Fault_ := c.cur.toList ++ c.loose

/-- S1_HOLD_EXPIRY (R221, R226). -/
def execS1HoldExpiry (c : Nat) (s : State) : Host.Outcome State Fault Refusal :=
  match (s.ctx c).running.find? (fun f => f.sev = 1) with
  | some f => .next (endFault c f.code f.item (advanceTo (f.since + ms (s.pn 0x3310 6)) s))
  | none => .next s

/-- When the S2 hold of a fault ends: counted from the end of its condition where the condition decides (R208, R275),
else from the start of its recovery. Fold-back, the loss of the references and the thermal throttles have ends of their
own (R204, R295, R386, R387). -/
def Fault_.s2End (hold : Nat) (running : Bool) (f : Fault_) : Option Nat :=
  if f.sev != 2 || f.code = 0x0302 || f.code = 0x0A04 || f.code = 0x0502 || f.code = 0x0503 then none
  else if f.code = 0x0305 || f.code = 0x0402 || f.code = 0x0403 then f.clearFrom.map (· + hold)
  else if running then some (f.since + hold)
  else none

/-- The faults of a context with an end of their S2 hold, and that moment. -/
def Ctx.s2Ends (hold : Nat) (c : Ctx) : List (Nat × Fault_) :=
  c.running.filterMap (fun f => (f.s2End hold true).map (fun t => (t, f))) ++
    c.latched.filterMap (fun f => (f.s2End hold false).map (fun t => (t, f)))

/-- The earliest of a list of moments. -/
def earliest : List (Nat × Fault_) → Option (Nat × Fault_)
  | [] => none
  | x :: l => match earliest l with
    | none => some x
    | some y => if y.1 < x.1 then some y else some x

/-- S2_HOLD_EXPIRY (R208, R217, R226, R275). -/
def execS2HoldExpiry (c : Nat) (s : State) : Host.Outcome State Fault Refusal :=
  match earliest ((s.ctx c).s2Ends (ms (s.pn 0x3310 7))) with
  | some (t, f) => .next (clearFault c f.code f.item (advanceTo t s))
  | none => .next s

/-- RESTART_DELAY_EXPIRY (R223). -/
def execRestartDelayExpiry (k : Nat) (s : State) : Host.Outcome State Fault Refusal :=
  match (s.rail k).restartAt with
  | some t =>
    if (s.rail k).state = 5 && (s.rail k).retries != 0 && (s.rail k).enable then
      let s := advanceTo t s
      if s.mayRelease k then
        let s := releaseSafe k (s.updRail k (fun r => { r with retries := r.retries - 1 }))
        .next (startRail k (rateOf (s.pn (0x3100 + k) 4)) s)
      else
        let n := s.aon.clock + ms (s.pn (0x3300 + k) 0x13)
        .next (s.updRail k (fun r => { r with restartAt := some n }))
    else .next s
  | none => .next s

/-- RETRY_REFILL (R223). -/
def execRetryRefill (k : Nat) (s : State) : Host.Outcome State Fault Refusal :=
  match (s.rail k).s3At with
  | some t =>
    let s := advanceTo (t + ms 10000) s
    .next (s.updRail k (fun r => { r with retries := s.pn (0x3300 + k) 0x14, s3At := none }))
  | none => .next s

/-- The clock of the first period start of position 0 at or after the present moment (R175). -/
def State.nextPeriod (s : State) (k : Nat) : Nat :=
  let r := s.rail k
  let t := s.aon.clock * 32
  if r.period = 0 || t ≤ r.p0At then s.aon.clock
  else (r.p0At + (t - r.p0At + r.period - 1) / r.period * r.period + 31) / 32

/-- CTL cycles of so many periods of rail k. -/
def State.periodsOf (s : State) (k n : Nat) : Nat := ((s.rail k).period * n + 31) / 32

/-- SHED_START (R180). -/
def execShedStart (k : Nat) (s : State) : Host.Outcome State Fault Refusal :=
  match (s.rail k).shedFrom, s.headPhase k with
  | some t, some n =>
    if (s.rail k).state = 2 && (s.rail k).shedding.isNone && s.pn (0x3100 + k) 0x0E = 1 &&
        decide (s.nReq k + 1 ≤ s.nFire k) && !s.inhibited k then
      let s := advanceTo (t + us (s.pn (0x3100 + k) 0x0B)) s
      .next (startShed k n (advanceTo (s.nextPeriod k) s))
    else .next s
  | _, _ => .next s

/-- SHED_RAMP_END (R176, R180, R182). -/
def execShedRampEnd (k : Nat) (s : State) : Host.Outcome State Fault Refusal :=
  match (s.rail k).shedding with
  | some n =>
    let s := advanceTo ((s.rail k).shedAt + s.periodsOf k (s.pn (0x3100 + k) 0x0C)) s
    let s := passHead k n s
    let s := s.updPhase n (fun p => { p with
      state := if p.removing then 1 else 2, removing := false, pos := 0xF, onTime := 0, outAt := none })
    let s := s.updRail k (fun r => { r with
      shedding := none, shedFrom := none, rotBusy := false,
      rotFrom := if r.rotBusy then s.aon.clock else r.rotFrom })
    .next (respace k s)
  | none => .next s

/-- ROTATION_STEP (R176). -/
def execRotationStep (k : Nat) (s : State) : Host.Outcome State Fault Refusal :=
  match s.nextIdle k, s.headPhase k with
  | some i, some h =>
    if (s.rail k).state = 2 && s.pn 0x3000 5 != 0 && (s.rail k).shedding.isNone && !(s.rail k).rotBusy && !s.inhibited k then
      let s := advanceTo ((s.rail k).rotFrom + s.periodsOf k (s.pn 0x3000 5)) s
      .next (startShed k h (joinPhase k i (s.updRail k (fun r => { r with rotBusy := true }))))
    else .next s
  | _, _ => .next s

/-- REG_SYNC_QUALIFY with the input's period in steps of 78.125 ps (R184). -/
def execRegSyncQualify (period : Nat) (s : State) : Host.Outcome State Fault Refusal :=
  if s.aon.ctlReleased && !s.prot.syncOk && decide (6400 ≤ period) && decide (period ≤ 32000) then
    let s := { s with prot := { s.prot with syncOk := true, syncPeriod := period } }
    let far := [0, 1, 2, 3, 4, 5].filter (fun k => bit (s.pn 0x3000 1) k && s.railUsed k && !s.syncNear k)
    let s := forEach far (fun k s => raise 0x0322 0 k s.syncKhz s) s
    .next (forEach [0, 1, 2, 3, 4, 5] syncStep s)
  else .next s

/-- REG_SYNC_LOCK (R184). -/
def execRegSyncLock (k : Nat) (s : State) : Host.Outcome State Fault Refusal :=
  if s.prot.syncOk && (s.rail k).regSync = 1 then
    let p := s.prot.syncPeriod
    .next (s.updRail k (fun r => { r with regSync := 2, period := p }))
  else .next s

/-- REG_SYNC_LOSS (R185). -/
def execRegSyncLoss (s : State) : Host.Outcome State Fault Refusal :=
  if s.prot.syncOk then
    let l := [0, 1, 2, 3, 4, 5].filter (fun k => (s.rail k).regSync = 2)
    let s := { s with prot := { s.prot with syncOk := false }, rails := s.rails.map (fun r => { r with regSync := 0 }) }
    let s := if l.isEmpty then s else s.bump32 0x3000 4
    .next (forEach l (fun k s => raise 0x0321 0 k 0 s) s)
  else .next s

end Sys2Proof.Machine
end

