-- ==== Sys2Proof/Machine/RecRows.lean ====
section
/-! DEFINITION. The commands of the event recorder and the flash that no requester writes (R477 to R504). -/

namespace Sys2Proof.Machine

open Sys2Proof

/-- EVENT_CAPTURE (R60, R479, R485). -/
def execEventCapture (ev : Event) (s : State) : Host.Outcome State Fault Refusal := .next (captureEvent ev s)

/-- The oldest event of the input queue is written to its ring; with room again, drops are reported (R478, R485). -/
def recordWrite (s : State) : State :=
  match s.rcd.inQ with
  | e :: l => flashNext (reportInput (ringWrite e { s with rcd := { s.rcd with inQ := l } }))
  | [] => s

/-- RECORD_WRITE (R478, R485). -/
def execRecordWrite (s : State) : Host.Outcome State Fault Refusal := if s.isReady 11 then .next (recordWrite s) else .next s

/-- FLASH_RECORD_PROGRAM (R493). -/
def execFlashRecordProgram (ok : Bool) (s : State) : Host.Outcome State Fault Refusal := .next (recordProgram ok s)

/-- FLASH_ERASE_DONE (R494). -/
def execFlashEraseDone (s : State) : Host.Outcome State Fault Refusal := .next (eraseDone s)

/-- A write of several operations runs: a store, a boot-record, calibration or last-fault write, or a copy of an image. -/
def State.slowWrite (s : State) : Bool :=
  s.cl.storeState = 1 || s.flash.bootWrite = 1 || s.therm.calStore = 1 || s.dowel.flashCopy.isSome || s.lfWaits

/-- The write of several operations that runs has failed twice: FLASH_FAIL, and the write ends as failed (R229, R384, R422,
R501, R503). -/
def slowFailed (s : State) : State :=
  let s := raise 0x0904 2 0 4 ((setRecFlag 2 s).bump32 0x9002 7)
  if s.lfWaits then flashRun (s.bump32 0x3330 4)
  else if s.flash.bootWrite = 1 then bootWritten false s
  else if s.therm.calStore = 1 then gaugeCalStored false s
  else if s.cl.storeState = 1 then storeEnd false s
  else dmaGiveUse 4 (flashImageEnd 2 {} s)

/-- A time limit of the port passes: the operation is retried once; a second failure raises FLASH_FAIL (R503). -/
def flashLimit (s : State) : State :=
  match s.flash.busy with
  | some f => portTimeout f s
  | none =>
    if !s.slowWrite then s
    else if s.flash.slowTries = 0 then { s with flash := { s.flash with slowTries := 1 } }
    else slowFailed { s with flash := { s.flash with slowTries := 0 } }

/-- FLASH_TIMEOUT (R503). -/
def execFlashTimeout (s : State) : Host.Outcome State Fault Refusal := .next (flashLimit s)

/-- FLASH_SCAN_DONE (R495). -/
def execFlashScanDone (s : State) : Host.Outcome State Fault Refusal :=
  if s.isReady 3 && s.isReady 11 && s.aon.strapBoot != 2 && !s.flash.nvReady then .next (scanDone s) else .next s

/-- BOOT_RECORD_WRITE_DONE (R501). -/
def execBootRecordWriteDone (ok : Bool) (s : State) : Host.Outcome State Fault Refusal :=
  if s.isReady 11 then .next (bootWritten ok s) else .next s

end Sys2Proof.Machine
end

