-- ==== Sys2Proof/Machine/Regions.lean ====
section
/-! DEFINITION. The commands of the shims and kerf units that no requester writes (R259 to R280). -/

namespace Sys2Proof.Machine

open Sys2Proof

/-- SHIM_CONTROL_CYCLE of region n with its supply in uV (R259). -/
def execShimControlCycle (n uv : Nat) (s : State) : Host.Outcome State Fault Refusal :=
  if s.inst.sat || !s.aon.ctlReleased then .next s else .next (controlCycle n uv s)

/-- A downward step waits for the region's stretch and for 16 cycles after it (R261). -/
def State.downHeld (s : State) (n : Nat) : Bool :=
  (s.region n).str || (match (s.region n).strEndAt with
    | some t => decide (s.clk.tileCycles < t + 16)
    | none => false)

/-- The reference of region n takes one step of 5 mV. -/
def refStep1 (n : Nat) (s : State) : State :=
  let s := advanceTo ((s.region n).refAt + nsCycles (s.pn 0x4000 5)) s
  let t := s.aon.clock
  s.updRegion n (fun r => { r with
    refOld := r.ref, ref := if r.ref < r.target then min r.target (r.ref + 5) else max r.target (r.ref - 5),
    refAt := t, upAt := none })

/-- SHIM_REF_STEP (R261, R263). -/
def execShimRefStep (n : Nat) (s : State) : Host.Outcome State Fault Refusal :=
  let r := s.region n
  if s.inst.sat || r.bypass || !r.regulating || r.ref = r.target then .next s
  else if r.target < r.ref then
    (if s.downHeld n then .next s else .next (refStep1 n s))
  else if r.upAt.isSome && !s.headroomMet n then .next s
  else .next (refStep1 n s)

/-- SHIM_SATURATION (R264). -/
def execShimSaturation (n : Nat) (s : State) : Host.Outcome State Fault Refusal :=
  if 64 ≤ (s.region n).satRun && !(s.region n).sat then
    let s := s.updRegion n (fun r => { r with sat := true })
    .next (shimFault 0 0x0401 0 n { s with shim := { s.shim with boost := true } })
  else .next s

/-- BOOST_HOLD_EXPIRY (R264). -/
def execBoostHoldExpiry (s : State) : Host.Outcome State Fault Refusal :=
  if s.shim.boost && !s.regions.any (·.sat) then
    let s := advanceTo (s.shim.boostFrom + us (s.pn 0x4000 4)) s
    .next { s with shim := { s.shim with boost := false } }
  else .next s

/-- HEADROOM_WAIT_EXPIRY (R263). -/
def execHeadroomWaitExpiry (n : Nat) (s : State) : Host.Outcome State Fault Refusal :=
  match (s.region n).upAt with
  | some t =>
    if (s.region n).regulating then
      let s := advanceTo (t + us (s.pn 0x4000 6)) s
      .next (shimFault 3 0x0404 0 n (s.updRegion n (fun r => { r with upAt := none })))
    else .next s
  | none => .next s

/-- PRELOAD_ARM (R267). -/
def execPreloadArm (n : Nat) (s : State) : Host.Outcome State Fault Refusal :=
  let r := s.region n
  if r.preN != 0 && !r.preArmed then
    let s := advanceTo (r.preDue - nsCycles (s.pn 0x4000 8)) s
    .next ((s.updRegion n (fun r => { r with preArmed := true, preActed := false })).add64 0x4002 7 1)
  else .next s

/-- PRELOAD_DISARM (R267). -/
def execPreloadDisarm (n : Nat) (s : State) : Host.Outcome State Fault Refusal :=
  let r := s.region n
  if r.preArmed then
    let s := advanceTo (r.preDue + nsCycles (s.pn 0x4000 9)) s
    let s := s.updRegion n (fun r => { r with preArmed := false, preN := 0, preActed := false })
    .next (if r.preActed then s else setKerfFlag 5 s)
  else .next s

/-- KERF_CROSSING (R270). -/
def execKerfCrossing (n : Nat) (s : State) : Host.Outcome State Fault Refusal :=
  if (s.region n).armed && !(s.region n).str then .next (crossKerf n s) else .next s

/-- KERF_LEVEL_RAISE to a deeper level (R270). -/
def execKerfLevelRaise (n level : Nat) (s : State) : Host.Outcome State Fault Refusal :=
  let r := s.region n
  if r.str && decide (r.strLevel < level) && decide (level ≤ 4) then .next (deepen n level s) else .next s

/-- Tile cycles in which so many edges of a stretched region clock pass: each takes (9 + code)/8 of them. -/
def cyclesFor (edges code : Nat) : Nat := (edges * (9 + code) + 7) / 8

/-- KERF_STRETCH_END (R271): the supply has stayed above its level; the minimum hold of edges passes first. -/
def execKerfStretchEnd (n : Nat) (s : State) : Host.Outcome State Fault Refusal :=
  let r := s.region n
  if r.str && !s.tileStopped then
    .next (updAccr (endStretch n (advanceTiles (r.strSince + cyclesFor (s.pn 0x4001 3) r.amt) s)))
  else .next s

/-- STRETCH_HOLD_CLEAR (R272). -/
def execStretchHoldClear (s : State) : Host.Outcome State Fault Refusal :=
  if s.shim.hold && !s.regions.any (·.str) && !s.tileStopped then
    let s := advanceTiles (s.shim.holdFrom + 16) s
    .next { s with shim := { s.shim with hold := false } }
  else .next s

/-- SHIM_LOW (R275). -/
def execShimLow (n : Nat) (s : State) : Host.Outcome State Fault Refusal :=
  match (s.region n).lowFrom with
  | some t => .next (shimFault 1 0x0402 2 n (advanceTo (t + us (s.pn 0x4000 0x0C)) s))
  | none => .next s

/-- KERF_DUTY (R275): the region's duty has exceeded the limit in each of its windows. -/
def execKerfDuty (n : Nat) (s : State) : Host.Outcome State Fault Refusal :=
  if !s.inst.sat && s.pn 0x4001 4 != 100 && (s.region n).armed then .next (shimFault 2 0x0403 2 n s) else .next s

/-- REGION_MONITOR_CONVERSION (R278). -/
def execRegionMonitorConversion (mv : Nat) (s : State) : Host.Outcome State Fault Refusal :=
  if s.inst.sat || !s.aon.ctlReleased then .next s
  else
    let s := advanceTo (s.nextBound 400 s.shim.monAt) s
    let n := s.shim.monNext
    let t := s.aon.clock
    .next (monitorReading n (mv % 1024) { s with shim := { s.shim with monNext := (n + 1) % 256, monAt := some t } })

/-- KERF_TEST_END (R280). -/
def execKerfTestEnd (n : Nat) (s : State) : Host.Outcome State Fault Refusal :=
  match (s.region n).testLeft with
  | some 0 =>
    let c := (s.region n).testCnt
    .next ((s.put (0x4100 + n) 0x0B c).updRegion n (fun r => { r with testLeft := none, testCnt := 0 }))
  | _ => .next s

end Sys2Proof.Machine
end

