-- ==== Sys2Proof/Machine/Steps.lean ====
section
/-! DEFINITION. The commands of schedule-locked feed-forward that no requester writes (R234 to R255). -/

namespace Sys2Proof.Machine

open Sys2Proof

/-- STEP_ANNOUNCE (R39, R234). -/
def execStepAnnounce (prog idx pos : Nat) (s : State) : Host.Outcome State Fault Refusal :=
  if s.obs.standing then .next s else .next (announce prog idx pos s)

/-- EXEC_MARKER (R250). -/
def execExecMarker (prog idx : Nat) (s : State) : Host.Outcome State Fault Refusal :=
  if s.obs.standing then .next s else .next (execMark prog idx s)

/-- FF_LOOKUP_DONE (R239, R249). -/
def execFfLookupDone (s : State) : Host.Outcome State Fault Refusal :=
  if s.isReady 16 && s.enabled 11 then .next (lookupNext s) else .next s

/-- ANNOUNCEMENT_MISSED (R250). -/
def execAnnouncementMissed (s : State) : Host.Outcome State Fault Refusal :=
  if s.isReady 16 && s.enabled 11 then .next (missed s) else .next s

/-- SETTLING_END (R253). -/
def execSettlingEnd (s : State) : Host.Outcome State Fault Refusal :=
  match s.ff.settling with
  | some t =>
    let s := advanceTo t s
    .next { s with ff := { s.ff with settling := none } }
  | none => .next s

/-- STEP_CLK_WINDOW with the edges counted in it (R234). -/
def execStepClkWindow (edges : Nat) (s : State) : Host.Outcome State Fault Refusal :=
  if s.isReady 16 then
    let s := advanceTo (s.ff.windowAt + 6400) s
    let t := s.aon.clock
    .next { s with ff := { s.ff with period := edges, windowAt := t } }
  else .next s

/-- FF_DUTY_START (R247). -/
def execFfDutyStart (k : Nat) (s : State) : Host.Outcome State Fault Refusal := .next (dutyStart k s)

/-- The step in effect before another one. -/
def State.stepBefore (s : State) (a : Ann) : Option Ann := s.stepAt (a.due - 1)

/-- FF_SHIM_POST (R248): the posting to the shims and, for a barrier step, to Dovetail, while feed-forward is in force
for the rail that column 0 names (R249). -/
def execFfShimPost (s : State) : Host.Outcome State Fault Refusal :=
  match s.shimStepOf with
  | some a =>
    let s := advanceTo ((a.due - nsCycles (s.pn 0x8000 7)) / 50 * 50) s
    let f := fun (x : Ann) => if x.since = a.since && x.idx = a.idx then { x with shimDone := true } else x
    let s := { s with ff := { s.ff with annQ := s.ff.annQ.map f } }
    if a.predicted && (s.rail (a.cols.getD 0 0xFF)).ffForce then
      let s := postShims a s
      let prev := match s.stepBefore a with
        | some b => b.cur.getD 0 0
        | none => 0
      .next (if a.barrier && !s.inst.sat then armPlan (a.cur.getD 0 0 : Nat) (prev : Nat) a.due s else s)
    else .next s
  | none => .next s

/-- TABLE_PAGE_COPIED (R240, R460): the first copy of a load is the image's header; the channel is given back when the load
ends. -/
def execTablePageCopied (data : List Byte) (busOk : Bool) (s : State) : Host.Outcome State Fault Refusal :=
  if s.ff.load.isNone then .next s
  else
    let s := loadData data busOk s
    .next (if s.ff.load.isNone then dmaGiveUse 3 s else s)

/-- PAGE_FREE: the lookups begun before slot n's swap have completed (R242). -/
def execPageFree (n : Nat) (s : State) : Host.Outcome State Fault Refusal :=
  .next (s.updSlot n (fun x => { x with dying := [] }))

end Sys2Proof.Machine
end

