-- ==== Sys2Proof/Machine/SyncRows.lean ====
section
/-! DEFINITION. The request words of tiles to the synchronisation unit (R437 to R445). -/

namespace Sys2Proof.Machine

open Sys2Proof

/-- SYNC_BIND (R442). -/
def execSyncBind (tile : Nat) (w : BitVec 64) (s : State) : Host.Outcome State Fault Refusal := .next (syncWord tile 0 w.toNat s)

/-- SYNC_SIGNAL (R440). -/
def execSyncSignal (tile : Nat) (w : BitVec 64) (s : State) : Host.Outcome State Fault Refusal := .next (syncWord tile 1 w.toNat s)

/-- SYNC_ACQUIRE (R441). -/
def execSyncAcquire (tile : Nat) (w : BitVec 64) (s : State) : Host.Outcome State Fault Refusal := .next (syncWord tile 2 w.toNat s)

/-- SYNC_WAIT (R442). -/
def execSyncWait (tile : Nat) (w : BitVec 64) (s : State) : Host.Outcome State Fault Refusal := .next (syncWord tile 3 w.toNat s)

/-- SYNC_CANCEL (R442). -/
def execSyncCancel (tile : Nat) (w : BitVec 64) (s : State) : Host.Outcome State Fault Refusal := .next (syncWord tile 4 w.toNat s)

end Sys2Proof.Machine
end

