-- ==== Sys2Proof/Machine/Thermal.lean ====
section
/-! DEFINITION. The commands of the thermal unit that no requester writes (R373 to R400), and the writing of last-fault
records (R229). -/

namespace Sys2Proof.Machine

open Sys2Proof

/-- The first results make GAUGES ready with its commissioning values (R100, R376). -/
def gaugesCome (s : State) : State :=
  if s.isReady 7 then s else functionDefaults 7 (buildGauges (advanceTo s.nextResult s))

/-- GAUGE_INSTANT with each gauge's averaged raw result in 1/16 degrees (R373). -/
def execGaugeInstant (raw : List Int) (s : State) : Host.Outcome State Fault Refusal :=
  if s.aon.ctlReleased && s.sramOk && s.enabled 2 then .next (gaugeInstant raw (gaugesCome s)) else .next s

/-- GAUGE_SUSPECT (R379). -/
def execGaugeSuspect (g : Nat) (s : State) : Host.Outcome State Fault Refusal := .next (gaugeSuspect g s)

/-- THERMAL_STEP_EXPIRY (R386, R401). -/
def execThermalStepExpiry (g : Nat) (s : State) : Host.Outcome State Fault Refusal :=
  if (s.group g).engaged && !s.obs.standing then .next (thermalStep g s) else .next s

/-- THERMAL_RAISE_HOLD_EXPIRY (R386, R401). -/
def execThermalRaiseHoldExpiry (g : Nat) (s : State) : Host.Outcome State Fault Refusal :=
  match (s.group g).raiseFrom with
  | some t => if (s.group g).engaged && !s.obs.standing then .next (thermalRaise g t s) else .next s
  | none => .next s

/-- RATE_HOLD_EXPIRY (R387, R401). -/
def execRateHoldExpiry (g : Nat) (s : State) : Host.Outcome State Fault Refusal :=
  if (s.group g).rateOn && !s.obs.standing then .next (rateHoldEnd g s) else .next s

/-- HARD_TRIP_COMPARATOR_RISE (R395). -/
def execHardTripComparatorRise (c : Nat) (s : State) : Host.Outcome State Fault Refusal :=
  let now := s.aon.clock
  if s.aon.vddAon && !(s.trip c).out then .next (updTrip c (fun t => { t with out := true, riseAt := now }) s) else .next s

/-- HARD_TRIP_COMPARATOR_FALL (R395). -/
def execHardTripComparatorFall (c : Nat) (s : State) : Host.Outcome State Fault Refusal :=
  .next (updTrip c (fun t => { t with out := false }) s)

/-- HARD_TRIP (R395). -/
def execHardTrip (c : Nat) (s : State) : Host.Outcome State Fault Refusal :=
  if s.aon.vddAon && (s.trip c).qualifying then .next (hardTrip c s) else .next s

/-- GAUGE_COMMAND_DONE (R382). -/
def execGaugeCommandDone (g : Nat) (s : State) : Host.Outcome State Fault Refusal := .next (gaugeDone g s)

/-- GAUGE_CAL_STORE_DONE (R384). -/
def execGaugeCalStoreDone (ok : Bool) (s : State) : Host.Outcome State Fault Refusal := .next (gaugeCalStored ok s)

/-- RELAY_TIMEOUT (R392). -/
def execRelayTimeout (sat : Nat) (s : State) : Host.Outcome State Fault Refusal :=
  match s.therm.relays.find? (fun r => r.sat = sat && !r.lost) with
  | some r => .next (relayLost sat (advanceTo (r.since + ms (s.pn 0x5002 2)) s))
  | none => .next s

/-- THERMAL_MODEL_UPDATE (R393, R394). -/
def execThermalModelUpdate (s : State) : Host.Outcome State Fault Refusal :=
  if s.isReady 14 && !s.obs.standing && !s.inst.sat then .next (modelUpdate s) else .next s

/-- PREDICT_HOLD_EXPIRY (R394). -/
def execPredictHoldExpiry (g : Nat) (s : State) : Host.Outcome State Fault Refusal :=
  match (s.group g).predLowFrom with
  | some t => if (s.group g).predict && !s.obs.standing then .next (predictEnd g t s) else .next s
  | none => .next s

/-- REARM_LEVEL_CROSSING (R399). -/
def execRearmLevelCrossing (c : Nat) (above : Bool) (s : State) : Host.Outcome State Fault Refusal :=
  if s.aon.vddAon then .next (rearmCross c above s) else .next s

/-- LAST_FAULT_WRITE: the oldest retained record goes to the next slot; a write that fails is counted and the record stays
(R229). -/
def execLastFaultWrite (ok : Bool) (s : State) : Host.Outcome State Fault Refusal :=
  match s.prot.retention with
  | r :: l =>
    if s.isReady 3 && s.isReady 11 && s.aon.strapBoot != 2 && s.flash.present && !s.obs.standing then
      match (if ok then lfWrite r s else none) with
      | some t => .next (flashNext (flashOk { t with prot := { t.prot with retention := l } }))
      | none => .next (flashRun (s.bump32 0x3330 4))
    else .next s
  | [] => .next s

end Sys2Proof.Machine
end

