-- ==== Sys2Proof/Machine/Writes.lean ====
section
/-! DEFINITION. The commands that are writes of one Cut List object: each is a whole value that a channel writes, under every
check of R96; what the write does stands with the object's chapter. -/

namespace Sys2Proof.Machine

open Sys2Proof

/-- RAIL_ENABLE_ON: a write of 1 to rail enable (R189). -/
def execRailEnableOn (ch : ChanId) (k : Nat) (val : List Byte) (s : State) : Host.Outcome State Fault Refusal :=
  .next (clWhole ch (0x3100 + k) 0x13 val s)

/-- RAIL_ENABLE_OFF: a write of 0 to rail enable (R189). -/
def execRailEnableOff (ch : ChanId) (k : Nat) (val : List Byte) (s : State) : Host.Outcome State Fault Refusal :=
  .next (clWhole ch (0x3100 + k) 0x13 val s)

/-- GROUP_MOVE: a write of 0x3000.06 (R187). -/
def execGroupMove (ch : ChanId) (val : List Byte) (s : State) : Host.Outcome State Fault Refusal :=
  .next (clWhole ch 0x3000 6 val s)

/-- GROUP_STOP: a write of 0x3001.09 (R189). -/
def execGroupStop (ch : ChanId) (val : List Byte) (s : State) : Host.Outcome State Fault Refusal :=
  .next (clWhole ch 0x3001 9 val s)

/-- SETPOINT_WRITE: a write of an operating setpoint (R188). -/
def execSetpointWrite (ch : ChanId) (k : Nat) (val : List Byte) (s : State) : Host.Outcome State Fault Refusal :=
  .next (clWhole ch (0x3100 + k) 1 val s)

/-- BANK_SWAP: a write of swap (R168). -/
def execBankSwap (ch : ChanId) (k : Nat) (val : List Byte) (s : State) : Host.Outcome State Fault Refusal :=
  .next (clWhole ch (0x3110 + k) 4 val s)

/-- PHASE_CONTROLLER_WRITE: a write of a phase's controller (R157). -/
def execPhaseControllerWrite (ch : ChanId) (n : Nat) (val : List Byte) (s : State) : Host.Outcome State Fault Refusal :=
  .next (clWhole ch (0x3200 + n) 1 val s)

/-- PHASE_OUT_OF_SERVICE: a write of 0 to in service (R182). -/
def execPhaseOutOfService (ch : ChanId) (n : Nat) (val : List Byte) (s : State) : Host.Outcome State Fault Refusal :=
  .next (clWhole ch (0x3200 + n) 2 val s)

/-- PHASE_REINSTATE: a write of 1 to in service (R183). -/
def execPhaseReinstate (ch : ChanId) (n : Nat) (val : List Byte) (s : State) : Host.Outcome State Fault Refusal :=
  .next (clWhole ch (0x3200 + n) 2 val s)

/-- SLOT_SWAP: a write of swap (R242). -/
def execSlotSwap (ch : ChanId) (n : Nat) (val : List Byte) (s : State) : Host.Outcome State Fault Refusal :=
  .next (clWhole ch (0x8020 + n) 7 val s)

/-- SLOT_ENABLE: a write of enable (R243). -/
def execSlotEnable (ch : ChanId) (n : Nat) (val : List Byte) (s : State) : Host.Outcome State Fault Refusal :=
  .next (clWhole ch (0x8020 + n) 2 val s)

/-- SLOT_PROGRAM_WRITE: a write of a slot's program (R243). -/
def execSlotProgramWrite (ch : ChanId) (n : Nat) (val : List Byte) (s : State) : Host.Outcome State Fault Refusal :=
  .next (clWhole ch (0x8020 + n) 1 val s)

/-- SLOT_RELEASE: a write of release (R243). -/
def execSlotRelease (ch : ChanId) (n : Nat) (val : List Byte) (s : State) : Host.Outcome State Fault Refusal :=
  .next (clWhole ch (0x8020 + n) 8 val s)

/-- KERF_TEST_START: a write of test start (R280). -/
def execKerfTestStart (ch : ChanId) (n : Nat) (val : List Byte) (s : State) : Host.Outcome State Fault Refusal :=
  .next (clWhole ch (0x4100 + n) 0x0A val s)

/-- REGION_TARGET_WRITE: a write of a region's target (R261). -/
def execRegionTargetWrite (ch : ChanId) (n : Nat) (val : List Byte) (s : State) : Host.Outcome State Fault Refusal :=
  .next (clWhole ch (0x4100 + n) 2 val s)

/-- SETPOINT_MAP_TILE_WRITE: a write of a tile of the setpoint map (R286). -/
def execSetpointMapTileWrite (ch : ChanId) (t : Nat) (val : List Byte) (s : State) : Host.Outcome State Fault Refusal :=
  .next (clWhole ch (0x4010 + t) 0 val s)

/-- REGION_MODE_WRITE: a write of a region's mode (R260). -/
def execRegionModeWrite (ch : ChanId) (n : Nat) (val : List Byte) (s : State) : Host.Outcome State Fault Refusal :=
  .next (clWhole ch (0x4100 + n) 1 val s)

/-- TILE_SOURCE_SELECT: a write of 0x2201.01 (R294). -/
def execTileSourceSelect (ch : ChanId) (val : List Byte) (s : State) : Host.Outcome State Fault Refusal :=
  .next (clWhole ch 0x2201 1 val s)

/-- POINT_REQUEST_WRITE: a write of the point request (R298). -/
def execPointRequestWrite (ch : ChanId) (val : List Byte) (s : State) : Host.Outcome State Fault Refusal :=
  .next (clWhole ch 0x2201 2 val s)

/-- ADOPT: a write of 0x6008.04 (R315). -/
def execAdopt (ch : ChanId) (val : List Byte) (s : State) : Host.Outcome State Fault Refusal :=
  .next (clWhole ch 0x6008 4 val s)

/-- POLICY_WRITE: a write of the policy (R327). -/
def execPolicyWrite (ch : ChanId) (val : List Byte) (s : State) : Host.Outcome State Fault Refusal :=
  .next (clWhole ch 0x6003 1 val s)

/-- ENFORCE_WRITE: a write of enforce (R354). -/
def execEnforceWrite (ch : ChanId) (val : List Byte) (s : State) : Host.Outcome State Fault Refusal :=
  .next (clWhole ch 0x7000 8 val s)

/-- TILE_PARTITION_MAP_WRITE: a write of the tile partition map (R309, R350). -/
def execTilePartitionMapWrite (ch : ChanId) (val : List Byte) (s : State) : Host.Outcome State Fault Refusal :=
  .next (clWhole ch 0x6010 0 val s)

/-- PACKAGE_BARRIER_CANCEL: a write of 0x7102.04 (R365). -/
def execPackageBarrierCancel (ch : ChanId) (val : List Byte) (s : State) : Host.Outcome State Fault Refusal :=
  .next (clWhole ch 0x7102 4 val s)

/-- GAUGE_REFERENCE_CYCLE: command 1 (R382). -/
def execGaugeReferenceCycle (ch : ChanId) (val : List Byte) (s : State) : Host.Outcome State Fault Refusal :=
  .next (clWhole ch 0x5010 3 val s)

/-- GAUGE_ALIGN: command 2 (R382). -/
def execGaugeAlign (ch : ChanId) (val : List Byte) (s : State) : Host.Outcome State Fault Refusal :=
  .next (clWhole ch 0x5010 3 val s)

/-- GAUGE_CLEAR: command 3 (R382). -/
def execGaugeClear (ch : ChanId) (val : List Byte) (s : State) : Host.Outcome State Fault Refusal :=
  .next (clWhole ch 0x5010 3 val s)

/-- GAUGE_TAKE_OFF: command 4 (R382). -/
def execGaugeTakeOff (ch : ChanId) (val : List Byte) (s : State) : Host.Outcome State Fault Refusal :=
  .next (clWhole ch 0x5010 3 val s)

/-- GAUGE_RETURN: command 5 (R382). -/
def execGaugeReturn (ch : ChanId) (val : List Byte) (s : State) : Host.Outcome State Fault Refusal :=
  .next (clWhole ch 0x5010 3 val s)

/-- GAUGE_CAL_STORE: a write of the store key (R384). -/
def execGaugeCalStore (ch : ChanId) (val : List Byte) (s : State) : Host.Outcome State Fault Refusal :=
  .next (clWhole ch 0x5000 9 val s)

/-- RELAY_CLEAR: a write of 0x5002.04 (R392). -/
def execRelayClear (ch : ChanId) (val : List Byte) (s : State) : Host.Outcome State Fault Refusal :=
  .next (clWhole ch 0x5002 4 val s)

/-- JIG_IMAGE_WRITE: a write of a jig's image (R418). -/
def execJigImageWrite (ch : ChanId) (j : Nat) (val : List Byte) (s : State) : Host.Outcome State Fault Refusal :=
  .next (clWhole ch (0x2310 + j) 1 val s)

/-- JIG_START: control code 1 (R419). -/
def execJigStart (ch : ChanId) (j : Nat) (val : List Byte) (s : State) : Host.Outcome State Fault Refusal :=
  .next (clWhole ch (0x2310 + j) 6 val s)

/-- JIG_STOP: control code 2 (R433). -/
def execJigStop (ch : ChanId) (j : Nat) (val : List Byte) (s : State) : Host.Outcome State Fault Refusal :=
  .next (clWhole ch (0x2310 + j) 6 val s)

/-- JIG_RESET: control code 3 (R420). -/
def execJigReset (ch : ChanId) (j : Nat) (val : List Byte) (s : State) : Host.Outcome State Fault Refusal :=
  .next (clWhole ch (0x2310 + j) 6 val s)

/-- FLASH_IMAGE_WRITE: a write of 0x2301.04 (R422). -/
def execFlashImageWrite (ch : ChanId) (val : List Byte) (s : State) : Host.Outcome State Fault Refusal :=
  .next (clWhole ch 0x2301 4 val s)

/-- COMMIT_SLOT: a write of 0x2300.07 (R426). -/
def execCommitSlot (ch : ChanId) (val : List Byte) (s : State) : Host.Outcome State Fault Refusal :=
  .next (clWhole ch 0x2300 7 val s)

/-- SYNC_SET_VALUE: a write of 0x2400.04 (R452). -/
def execSyncSetValue (ch : ChanId) (val : List Byte) (s : State) : Host.Outcome State Fault Refusal :=
  .next (clWhole ch 0x2400 4 val s)

/-- SYNC_CLEAR_FLAGS: a write of 0x2400.05 (R452). -/
def execSyncClearFlags (ch : ChanId) (val : List Byte) (s : State) : Host.Outcome State Fault Refusal :=
  .next (clWhole ch 0x2400 5 val s)

/-- SYNC_OWNER_ASSIGN: a write of 0x2400.03 (R434). -/
def execSyncOwnerAssign (ch : ChanId) (val : List Byte) (s : State) : Host.Outcome State Fault Refusal :=
  .next (clWhole ch 0x2400 3 val s)

/-- CALENDAR_TIME_SET: a write of 0x9001.01 (R483). -/
def execCalendarTimeSet (ch : ChanId) (val : List Byte) (s : State) : Host.Outcome State Fault Refusal :=
  .next (clWhole ch 0x9001 1 val s)

/-- COMMISSION: a write of the commission key (R496). -/
def execCommission (ch : ChanId) (val : List Byte) (s : State) : Host.Outcome State Fault Refusal :=
  .next (clWhole ch 0x9002 6 val s)

/-- BOOT_RECORD_WRITE: a write of 0x9002.01 (R501). -/
def execBootRecordWrite (ch : ChanId) (val : List Byte) (s : State) : Host.Outcome State Fault Refusal :=
  .next (clWhole ch 0x9002 1 val s)

/-- SCRIBE_ARM: control 1 (R530). -/
def execScribeArm (ch : ChanId) (val : List Byte) (s : State) : Host.Outcome State Fault Refusal :=
  .next (clWhole ch 0x9100 0x0A val s)

/-- SCRIBE_DISARM: control 2 (R530). -/
def execScribeDisarm (ch : ChanId) (val : List Byte) (s : State) : Host.Outcome State Fault Refusal :=
  .next (clWhole ch 0x9100 0x0A val s)

/-- SCRIBE_CONTROL_TRIGGER: control 3 (R515). -/
def execScribeControlTrigger (ch : ChanId) (val : List Byte) (s : State) : Host.Outcome State Fault Refusal :=
  .next (clWhole ch 0x9100 0x0A val s)

/-- SCRIBE_CLEAR: control 4 (R530). -/
def execScribeClear (ch : ChanId) (val : List Byte) (s : State) : Host.Outcome State Fault Refusal :=
  .next (clWhole ch 0x9100 0x0A val s)

/-- MAP_DUMP_ARM: control 1 of 0x9110 (R517). -/
def execMapDumpArm (ch : ChanId) (val : List Byte) (s : State) : Host.Outcome State Fault Refusal :=
  .next (clWhole ch 0x9110 7 val s)

/-- MAP_DUMP_DISARM: control 2 of 0x9110 (R530). -/
def execMapDumpDisarm (ch : ChanId) (val : List Byte) (s : State) : Host.Outcome State Fault Refusal :=
  .next (clWhole ch 0x9110 7 val s)

/-- GRAPH_START: a write of 0x9120.01 (R519). -/
def execGraphStart (ch : ChanId) (val : List Byte) (s : State) : Host.Outcome State Fault Refusal :=
  .next (clWhole ch 0x9120 1 val s)

/-- TRIM_WRITE: a write of a region's shim or kerf trim (R279). -/
def execTrimWrite (ch : ChanId) (n : Nat) (kerf : Bool) (val : List Byte) (s : State) : Host.Outcome State Fault Refusal :=
  .next (clWhole ch (0x4100 + n) (if kerf then 7 else 6) val s)

/-- TABLE_LOAD_START: a write of 0x8010.04; the loader reads the image's header first (R240). -/
def execTableLoadStart (ch : ChanId) (val hdr : List Byte) (busOk : Bool) (s : State) : Host.Outcome State Fault Refusal :=
  let t := clWhole ch 0x8010 4 val s
  if s.ff.load.isNone && t.ff.load.isSome then
    let t := loadHeader hdr busOk t
    .next (if t.ff.load.isNone then dmaGiveUse 3 t else t)
  else .next t

/-- THERMAL_REARM: the management port writes the re-arm key (R399). -/
def execThermalRearm (val : List Byte) (s : State) : Host.Outcome State Fault Refusal := .next (clWhole .mgt 0x5300 5 val s)

/-- REARM_COMPLETE: the marks of a re-arm are confirmed, or fail (R400). -/
def execRearmComplete (ok : Bool) (s : State) : Host.Outcome State Fault Refusal := .next (clRearmed ok s)

end Sys2Proof.Machine
end

