-- ==== Sys2Proof/Machine/Dispatch.lean ====
section
/-! DEFINITION. One arm per command. -/

namespace Sys2Proof.Machine

open Sys2Proof

def exec (i : Instr) (s : State) : Host.Outcome State Fault Refusal :=
  match i with
  | .vddAonRise => Sys2Proof.Machine.execVddAonRise s
  | .porNAssert => Sys2Proof.Machine.execPorNAssert s
  | .porNRelease => Sys2Proof.Machine.execPorNRelease s
  | .strapLatch root smb boot => Sys2Proof.Machine.execStrapLatch root smb boot s
  | .mgtReady => Sys2Proof.Machine.execMgtReady s
  | .xspiResetEnd => Sys2Proof.Machine.execXspiResetEnd s
  | .bootFlashReadStart => Sys2Proof.Machine.execBootFlashReadStart s
  | .bootReadsDone => Sys2Proof.Machine.execBootReadsDone s
  | .referenceQualified ref100 => Sys2Proof.Machine.execReferenceQualified ref100 s
  | .referenceLimitExpiry => Sys2Proof.Machine.execReferenceLimitExpiry s
  | .ctlPllLock => Sys2Proof.Machine.execCtlPllLock s
  | .trackedStart => Sys2Proof.Machine.execTrackedStart s
  | .groupDelayExpiry => Sys2Proof.Machine.execGroupDelayExpiry s
  | .railPowerGood k => Sys2Proof.Machine.execRailPowerGood k s
  | .pgTimeout => Sys2Proof.Machine.execPgTimeout s
  | .engRelease => Sys2Proof.Machine.execEngRelease s
  | .pllATimeout => Sys2Proof.Machine.execPllATimeout s
  | .hostRstNAssert => Sys2Proof.Machine.execHostRstNAssert s
  | .hostRstNRelease => Sys2Proof.Machine.execHostRstNRelease s
  | .enumStart => Sys2Proof.Machine.execEnumStart s
  | .chainTimeout => Sys2Proof.Machine.execChainTimeout s
  | .hostInterfaceStart => Sys2Proof.Machine.execHostInterfaceStart s
  | .imgFetch q => Sys2Proof.Machine.execImgFetch q s
  | .imgStagingDone readOk => Sys2Proof.Machine.execImgStagingDone readOk s
  | .imgAccept q img => Sys2Proof.Machine.execImgAccept q img s
  | .imgReject q => Sys2Proof.Machine.execImgReject q s
  | .imgLoadDone busOk crc => Sys2Proof.Machine.execImgLoadDone busOk crc s
  | .fwFunctionStart f => Sys2Proof.Machine.execFwFunctionStart f s
  | .clkEnGate q b => Sys2Proof.Machine.execClkEnGate q b s
  | .gateStop b => Sys2Proof.Machine.execGateStop b s
  | .clkEnUngate q b => Sys2Proof.Machine.execClkEnUngate q b s
  | .fabricWrite q => Sys2Proof.Machine.execFabricWrite q s
  | .clRead ch r => Sys2Proof.Machine.execClRead ch r s
  | .clReadNext ch r => Sys2Proof.Machine.execClReadNext ch r s
  | .clWrite ch r => Sys2Proof.Machine.execClWrite ch r s
  | .clWriteNext ch r => Sys2Proof.Machine.execClWriteNext ch r s
  | .clCancel ch r => Sys2Proof.Machine.execClCancel ch r s
  | .clDescribe ch r => Sys2Proof.Machine.execClDescribe ch r s
  | .clTransferTimeout ch => Sys2Proof.Machine.execClTransferTimeout ch s
  | .clFwTimeout ch => Sys2Proof.Machine.execClFwTimeout ch s
  | .clFwResponse ch abort => Sys2Proof.Machine.execClFwResponse ch abort s
  | .clRemoteTimeout ch => Sys2Proof.Machine.execClRemoteTimeout ch s
  | .levelRequest ch val => Sys2Proof.Machine.execLevelRequest ch val s
  | .diagLockOpen val => Sys2Proof.Machine.execDiagLockOpen val s
  | .commissioningStore ch val => Sys2Proof.Machine.execCommissioningStore ch val s
  | .commissioningStoreDone ok => Sys2Proof.Machine.execCommissioningStoreDone ok s
  | .commissioningWipe ch val => Sys2Proof.Machine.execCommissioningWipe ch val s
  | .linkLockGain l => Sys2Proof.Machine.execLinkLockGain l s
  | .linkCodeErrorLoss l => Sys2Proof.Machine.execLinkCodeErrorLoss l s
  | .linkK285Timeout l => Sys2Proof.Machine.execLinkK285Timeout l s
  | .linkRelockTimeout l => Sys2Proof.Machine.execLinkRelockTimeout l s
  | .linkAckTimeout l prio => Sys2Proof.Machine.execLinkAckTimeout l prio s
  | .ackReceive l prio seq => Sys2Proof.Machine.execAckReceive l prio seq s
  | .nakReceive l prio seq => Sys2Proof.Machine.execNakReceive l prio seq s
  | .frameReceiveBadCrc l f => Sys2Proof.Machine.execFrameReceiveBadCrc l f s
  | .poisonReceive l f => Sys2Proof.Machine.execPoisonReceive l f s
  | .enumReceive l f => Sys2Proof.Machine.execEnumReceive l f s
  | .enumForward => Sys2Proof.Machine.execEnumForward s
  | .farEndTimeout => Sys2Proof.Machine.execFarEndTimeout s
  | .enumRepeat => Sys2Proof.Machine.execEnumRepeat s
  | .enumTimeout => Sys2Proof.Machine.execEnumTimeout s
  | .enumReportReceive l f => Sys2Proof.Machine.execEnumReportReceive l f s
  | .enumCloseReceive l f => Sys2Proof.Machine.execEnumCloseReceive l f s
  | .nodeLostReceive l f => Sys2Proof.Machine.execNodeLostReceive l f s
  | .nodeRejoinReceive l f => Sys2Proof.Machine.execNodeRejoinReceive l f s
  | .holdOutClear ch val => Sys2Proof.Machine.execHoldOutClear ch val s
  | .assumeRoot ch val => Sys2Proof.Machine.execAssumeRoot ch val s
  | .reserveRelease ch val => Sys2Proof.Machine.execReserveRelease ch val s
  | .budReqReceive l f => Sys2Proof.Machine.execBudReqReceive l f s
  | .budTransactionOpen => Sys2Proof.Machine.execBudTransactionOpen s
  | .budPrepareReceive l f => Sys2Proof.Machine.execBudPrepareReceive l f s
  | .budVoteReceive l f => Sys2Proof.Machine.execBudVoteReceive l f s
  | .budVoteTimeout => Sys2Proof.Machine.execBudVoteTimeout s
  | .budCommitReceive l f => Sys2Proof.Machine.execBudCommitReceive l f s
  | .budCommitApply txid => Sys2Proof.Machine.execBudCommitApply txid s
  | .budAbortReceive l f => Sys2Proof.Machine.execBudAbortReceive l f s
  | .budOutcomeTimeout txid => Sys2Proof.Machine.execBudOutcomeTimeout txid s
  | .budRetry => Sys2Proof.Machine.execBudRetry s
  | .telemSend => Sys2Proof.Machine.execTelemSend s
  | .telemReceive l f => Sys2Proof.Machine.execTelemReceive l f s
  | .clReqReceive l f => Sys2Proof.Machine.execClReqReceive l f s
  | .clRspReceive l f => Sys2Proof.Machine.execClRspReceive l f s
  | .compensatorSample v => Sys2Proof.Machine.execCompensatorSample v s
  | .currentConversion imon iref tmon => Sys2Proof.Machine.execCurrentConversion imon iref tmon s
  | .phOcPeakExpiry n => Sys2Proof.Machine.execPhOcPeakExpiry n s
  | .peakTimerExpiry k => Sys2Proof.Machine.execPeakTimerExpiry k s
  | .foldbackHoldExpiry k => Sys2Proof.Machine.execFoldbackHoldExpiry k s
  | .foldbackLimitExpiry k => Sys2Proof.Machine.execFoldbackLimitExpiry k s
  | .ovPersist k => Sys2Proof.Machine.execOvPersist k s
  | .uv k => Sys2Proof.Machine.execUv k s
  | .uvS3Expiry k => Sys2Proof.Machine.execUvS3Expiry k s
  | .stgFlt => Sys2Proof.Machine.execStgFlt s
  | .phaseSuspect n => Sys2Proof.Machine.execPhaseSuspect n s
  | .feTimerExpiry k => Sys2Proof.Machine.execFeTimerExpiry k s
  | .s1HoldExpiry c => Sys2Proof.Machine.execS1HoldExpiry c s
  | .s2HoldExpiry c => Sys2Proof.Machine.execS2HoldExpiry c s
  | .safeRelease ch k val => Sys2Proof.Machine.execSafeRelease ch k val s
  | .restartDelayExpiry k => Sys2Proof.Machine.execRestartDelayExpiry k s
  | .retryRefill k => Sys2Proof.Machine.execRetryRefill k s
  | .lastFaultWrite ok => Sys2Proof.Machine.execLastFaultWrite ok s
  | .shedStart k => Sys2Proof.Machine.execShedStart k s
  | .shedRampEnd k => Sys2Proof.Machine.execShedRampEnd k s
  | .rotationStep k => Sys2Proof.Machine.execRotationStep k s
  | .regSyncQualify period => Sys2Proof.Machine.execRegSyncQualify period s
  | .regSyncLock k => Sys2Proof.Machine.execRegSyncLock k s
  | .regSyncLoss => Sys2Proof.Machine.execRegSyncLoss s
  | .railEnableOn ch k val => Sys2Proof.Machine.execRailEnableOn ch k val s
  | .railEnableOff ch k val => Sys2Proof.Machine.execRailEnableOff ch k val s
  | .groupMove ch val => Sys2Proof.Machine.execGroupMove ch val s
  | .groupStop ch val => Sys2Proof.Machine.execGroupStop ch val s
  | .setpointWrite ch k val => Sys2Proof.Machine.execSetpointWrite ch k val s
  | .bankSwap ch k val => Sys2Proof.Machine.execBankSwap ch k val s
  | .phaseControllerWrite ch n val => Sys2Proof.Machine.execPhaseControllerWrite ch n val s
  | .phaseOutOfService ch n val => Sys2Proof.Machine.execPhaseOutOfService ch n val s
  | .phaseReinstate ch n val => Sys2Proof.Machine.execPhaseReinstate ch n val s
  | .stepAnnounce prog idx pos => Sys2Proof.Machine.execStepAnnounce prog idx pos s
  | .execMarker prog idx => Sys2Proof.Machine.execExecMarker prog idx s
  | .ffLookupDone => Sys2Proof.Machine.execFfLookupDone s
  | .announcementMissed => Sys2Proof.Machine.execAnnouncementMissed s
  | .settlingEnd => Sys2Proof.Machine.execSettlingEnd s
  | .stepClkWindow edges => Sys2Proof.Machine.execStepClkWindow edges s
  | .ffDutyStart k => Sys2Proof.Machine.execFfDutyStart k s
  | .ffShimPost => Sys2Proof.Machine.execFfShimPost s
  | .tableLoadStart ch val hdr busOk => Sys2Proof.Machine.execTableLoadStart ch val hdr busOk s
  | .tablePageCopied data busOk => Sys2Proof.Machine.execTablePageCopied data busOk s
  | .slotSwap ch n val => Sys2Proof.Machine.execSlotSwap ch n val s
  | .pageFree n => Sys2Proof.Machine.execPageFree n s
  | .slotEnable ch n val => Sys2Proof.Machine.execSlotEnable ch n val s
  | .slotProgramWrite ch n val => Sys2Proof.Machine.execSlotProgramWrite ch n val s
  | .slotRelease ch n val => Sys2Proof.Machine.execSlotRelease ch n val s
  | .shimControlCycle n uv => Sys2Proof.Machine.execShimControlCycle n uv s
  | .shimRefStep n => Sys2Proof.Machine.execShimRefStep n s
  | .shimSaturation n => Sys2Proof.Machine.execShimSaturation n s
  | .boostHoldExpiry => Sys2Proof.Machine.execBoostHoldExpiry s
  | .headroomWaitExpiry n => Sys2Proof.Machine.execHeadroomWaitExpiry n s
  | .preloadArm n => Sys2Proof.Machine.execPreloadArm n s
  | .preloadDisarm n => Sys2Proof.Machine.execPreloadDisarm n s
  | .kerfCrossing n => Sys2Proof.Machine.execKerfCrossing n s
  | .kerfLevelRaise n level => Sys2Proof.Machine.execKerfLevelRaise n level s
  | .kerfStretchEnd n => Sys2Proof.Machine.execKerfStretchEnd n s
  | .stretchHoldClear => Sys2Proof.Machine.execStretchHoldClear s
  | .shimLow n => Sys2Proof.Machine.execShimLow n s
  | .kerfDuty n => Sys2Proof.Machine.execKerfDuty n s
  | .regionMonitorConversion mv => Sys2Proof.Machine.execRegionMonitorConversion mv s
  | .trimWrite ch n kerf val => Sys2Proof.Machine.execTrimWrite ch n kerf val s
  | .kerfTestStart ch n val => Sys2Proof.Machine.execKerfTestStart ch n val s
  | .kerfTestEnd n => Sys2Proof.Machine.execKerfTestEnd n s
  | .regionTargetWrite ch n val => Sys2Proof.Machine.execRegionTargetWrite ch n val s
  | .setpointMapTileWrite ch t val => Sys2Proof.Machine.execSetpointMapTileWrite ch t val s
  | .regionModeWrite ch n val => Sys2Proof.Machine.execRegionModeWrite ch n val s
  | .sourceMonitorWindow src khz => Sys2Proof.Machine.execSourceMonitorWindow src khz s
  | .sourceMissingEdge src => Sys2Proof.Machine.execSourceMissingEdge src s
  | .tileSourceSelect ch val => Sys2Proof.Machine.execTileSourceSelect ch val s
  | .dividerStep => Sys2Proof.Machine.execDividerStep s
  | .skipStep => Sys2Proof.Machine.execSkipStep s
  | .pointRequestWrite ch val => Sys2Proof.Machine.execPointRequestWrite ch val s
  | .seqVoltageStep => Sys2Proof.Machine.execSeqVoltageStep s
  | .seqVoltageDone => Sys2Proof.Machine.execSeqVoltageDone s
  | .vTimeout => Sys2Proof.Machine.execVTimeout s
  | .tclkStart => Sys2Proof.Machine.execTclkStart s
  | .estimatorBoundary acts => Sys2Proof.Machine.execEstimatorBoundary acts s
  | .capEscalateExpiry => Sys2Proof.Machine.execCapEscalateExpiry s
  | .capRaiseHoldExpiry => Sys2Proof.Machine.execCapRaiseHoldExpiry s
  | .calibrationUpdate => Sys2Proof.Machine.execCalibrationUpdate s
  | .adopt ch val => Sys2Proof.Machine.execAdopt ch val s
  | .telemetryInstant => Sys2Proof.Machine.execTelemetryInstant s
  | .budgetWrite ch idx sub val => Sys2Proof.Machine.execBudgetWrite ch idx sub val s
  | .policyWrite ch val => Sys2Proof.Machine.execPolicyWrite ch val s
  | .thrInAssert => Sys2Proof.Machine.execThrInAssert s
  | .thrInRelease => Sys2Proof.Machine.execThrInRelease s
  | .clampOpen tile w => Sys2Proof.Machine.execClampOpen tile w s
  | .clampClose tile w => Sys2Proof.Machine.execClampClose tile w s
  | .clampRequest tile w => Sys2Proof.Machine.execClampRequest tile w s
  | .clampRelease tile w => Sys2Proof.Machine.execClampRelease tile w s
  | .clampCancel tile w => Sys2Proof.Machine.execClampCancel tile w s
  | .grantWindowEnd a => Sys2Proof.Machine.execGrantWindowEnd a s
  | .requestWaitExpiry a => Sys2Proof.Machine.execRequestWaitExpiry a s
  | .enforceWrite ch val => Sys2Proof.Machine.execEnforceWrite ch val s
  | .tilePartitionMapWrite ch val => Sys2Proof.Machine.execTilePartitionMapWrite ch val s
  | .barInRise => Sys2Proof.Machine.execBarInRise s
  | .barOutRise => Sys2Proof.Machine.execBarOutRise s
  | .dovetailWave => Sys2Proof.Machine.execDovetailWave s
  | .barOutFall => Sys2Proof.Machine.execBarOutFall s
  | .planWindowExpiry => Sys2Proof.Machine.execPlanWindowExpiry s
  | .barrierArriveReceive l f => Sys2Proof.Machine.execBarrierArriveReceive l f s
  | .barrierReleaseReceive l f => Sys2Proof.Machine.execBarrierReleaseReceive l f s
  | .barrierCancelReceive l f => Sys2Proof.Machine.execBarrierCancelReceive l f s
  | .barrierTimeout => Sys2Proof.Machine.execBarrierTimeout s
  | .packageBarrierCancel ch val => Sys2Proof.Machine.execPackageBarrierCancel ch val s
  | .gaugeInstant raw => Sys2Proof.Machine.execGaugeInstant raw s
  | .gaugeSuspect g => Sys2Proof.Machine.execGaugeSuspect g s
  | .thermalStepExpiry g => Sys2Proof.Machine.execThermalStepExpiry g s
  | .thermalRaiseHoldExpiry g => Sys2Proof.Machine.execThermalRaiseHoldExpiry g s
  | .rateHoldExpiry g => Sys2Proof.Machine.execRateHoldExpiry g s
  | .hardTripComparatorRise c => Sys2Proof.Machine.execHardTripComparatorRise c s
  | .hardTrip c => Sys2Proof.Machine.execHardTrip c s
  | .gaugeReferenceCycle ch val => Sys2Proof.Machine.execGaugeReferenceCycle ch val s
  | .gaugeAlign ch val => Sys2Proof.Machine.execGaugeAlign ch val s
  | .gaugeClear ch val => Sys2Proof.Machine.execGaugeClear ch val s
  | .gaugeTakeOff ch val => Sys2Proof.Machine.execGaugeTakeOff ch val s
  | .gaugeReturn ch val => Sys2Proof.Machine.execGaugeReturn ch val s
  | .gaugeCommandDone g => Sys2Proof.Machine.execGaugeCommandDone g s
  | .gaugeCalStore ch val => Sys2Proof.Machine.execGaugeCalStore ch val s
  | .gaugeCalStoreDone ok => Sys2Proof.Machine.execGaugeCalStoreDone ok s
  | .thermalRearm val => Sys2Proof.Machine.execThermalRearm val s
  | .rearmComplete ok => Sys2Proof.Machine.execRearmComplete ok s
  | .relayTimeout sat => Sys2Proof.Machine.execRelayTimeout sat s
  | .relayClear ch val => Sys2Proof.Machine.execRelayClear ch val s
  | .thermalModelUpdate => Sys2Proof.Machine.execThermalModelUpdate s
  | .predictHoldExpiry g => Sys2Proof.Machine.execPredictHoldExpiry g s
  | .pinnedActivation task => Sys2Proof.Machine.execPinnedActivation task s
  | .activationDeadlineMiss task => Sys2Proof.Machine.execActivationDeadlineMiss task s
  | .engineSteal e => Sys2Proof.Machine.execEngineSteal e s
  | .taskSpawn e task => Sys2Proof.Machine.execTaskSpawn e task s
  | .nop j => Sys2Proof.Machine.execNop j s
  | .ldi j d imm => Sys2Proof.Machine.execLdi j d imm s
  | .ldih j d imm => Sys2Proof.Machine.execLdih j d imm s
  | .mov j d a => Sys2Proof.Machine.execMov j d a s
  | .ldm j d a imm => Sys2Proof.Machine.execLdm j d a imm s
  | .stm j a b imm => Sys2Proof.Machine.execStm j a b imm s
  | .add j d a b => Sys2Proof.Machine.execAdd j d a b s
  | .addi j d a imm => Sys2Proof.Machine.execAddi j d a imm s
  | .sub j d a b => Sys2Proof.Machine.execSub j d a b s
  | .neg j d a => Sys2Proof.Machine.execNeg j d a s
  | .abs j d a => Sys2Proof.Machine.execAbs j d a s
  | .mul j d a b => Sys2Proof.Machine.execMul j d a b s
  | .mulsh j d a b sh => Sys2Proof.Machine.execMulsh j d a b sh s
  | .mulish j d a sh imm => Sys2Proof.Machine.execMulish j d a sh imm s
  | .div j d a b => Sys2Proof.Machine.execDiv j d a b s
  | .min j d a b => Sys2Proof.Machine.execMin j d a b s
  | .max j d a b => Sys2Proof.Machine.execMax j d a b s
  | .clamp j d a b => Sys2Proof.Machine.execClamp j d a b s
  | .and j d a b => Sys2Proof.Machine.execAnd j d a b s
  | .or j d a b => Sys2Proof.Machine.execOr j d a b s
  | .xor j d a b => Sys2Proof.Machine.execXor j d a b s
  | .not j d a => Sys2Proof.Machine.execNot j d a s
  | .shl j d a sh => Sys2Proof.Machine.execShl j d a sh s
  | .shr j d a sh => Sys2Proof.Machine.execShr j d a sh s
  | .sar j d a sh => Sys2Proof.Machine.execSar j d a sh s
  | .andi j d a imm => Sys2Proof.Machine.execAndi j d a imm s
  | .sel j d a b => Sys2Proof.Machine.execSel j d a b s
  | .slt j d a b => Sys2Proof.Machine.execSlt j d a b s
  | .seq j d a b => Sys2Proof.Machine.execSeq j d a b s
  | .beq j a b imm => Sys2Proof.Machine.execBeq j a b imm s
  | .bne j a b imm => Sys2Proof.Machine.execBne j a b imm s
  | .blt j a b imm => Sys2Proof.Machine.execBlt j a b imm s
  | .bge j a b imm => Sys2Proof.Machine.execBge j a b imm s
  | .bz j a imm => Sys2Proof.Machine.execBz j a imm s
  | .jmp j imm => Sys2Proof.Machine.execJmp j imm s
  | .end_ j => Sys2Proof.Machine.execEnd j s
  | .filt j d a sh imm => Sys2Proof.Machine.execFilt j d a sh imm s
  | .integ j d a b sh imm => Sys2Proof.Machine.execInteg j d a b sh imm s
  | .deadb j d a b => Sys2Proof.Machine.execDeadb j d a b s
  | .slew j d a b => Sys2Proof.Machine.execSlew j d a b s
  | .rdtel j d imm => Sys2Proof.Machine.execRdtel j d imm s
  | .rdobj j d b imm => Sys2Proof.Machine.execRdobj j d b imm s
  | .wrobj j d a imm => Sys2Proof.Machine.execWrobj j d a imm s
  | .post j a imm => Sys2Proof.Machine.execPost j a imm s
  | .event j a imm => Sys2Proof.Machine.execEvent j a imm s
  | .trace j a => Sys2Proof.Machine.execTrace j a s
  | .actn j d => Sys2Proof.Machine.execActn j d s
  | .elapsed j d => Sys2Proof.Machine.execElapsed j d s
  | .jigImageWrite ch j val => Sys2Proof.Machine.execJigImageWrite ch j val s
  | .jigStart ch j val => Sys2Proof.Machine.execJigStart ch j val s
  | .jigStop ch j val => Sys2Proof.Machine.execJigStop ch j val s
  | .jigReset ch j val => Sys2Proof.Machine.execJigReset ch j val s
  | .flashImageWrite ch val => Sys2Proof.Machine.execFlashImageWrite ch val s
  | .flashImageWriteDone err img => Sys2Proof.Machine.execFlashImageWriteDone err img s
  | .engineDrainDone e => Sys2Proof.Machine.execEngineDrainDone e s
  | .engineReloadDone e => Sys2Proof.Machine.execEngineReloadDone e s
  | .engineStartDone e => Sys2Proof.Machine.execEngineStartDone e s
  | .engineDrainTimeout e => Sys2Proof.Machine.execEngineDrainTimeout e s
  | .engineStartTimeout e => Sys2Proof.Machine.execEngineStartTimeout e s
  | .commitSlot ch val => Sys2Proof.Machine.execCommitSlot ch val s
  | .engineWatchdogExpiry e => Sys2Proof.Machine.execEngineWatchdogExpiry e s
  | .globalWatchdogExpiry => Sys2Proof.Machine.execGlobalWatchdogExpiry s
  | .syncBind tile w => Sys2Proof.Machine.execSyncBind tile w s
  | .syncSignal tile w => Sys2Proof.Machine.execSyncSignal tile w s
  | .syncAcquire tile w => Sys2Proof.Machine.execSyncAcquire tile w s
  | .syncWait tile w => Sys2Proof.Machine.execSyncWait tile w s
  | .syncCancel tile w => Sys2Proof.Machine.execSyncCancel tile w s
  | .doorbellSignal q v => Sys2Proof.Machine.execDoorbellSignal q v s
  | .doorbellTryAcquire q v => Sys2Proof.Machine.execDoorbellTryAcquire q v s
  | .syncSetValue ch val => Sys2Proof.Machine.execSyncSetValue ch val s
  | .syncClearFlags ch val => Sys2Proof.Machine.execSyncClearFlags ch val s
  | .syncOwnerAssign ch val => Sys2Proof.Machine.execSyncOwnerAssign ch val s
  | .dmaStart q c => Sys2Proof.Machine.execDmaStart q c s
  | .dmaResume q c => Sys2Proof.Machine.execDmaResume q c s
  | .dmaAbort q c => Sys2Proof.Machine.execDmaAbort q c s
  | .dmaRequestIssue => Sys2Proof.Machine.execDmaRequestIssue s
  | .dmaResponse c n code data => Sys2Proof.Machine.execDmaResponse c n code data s
  | .dmaShareWindow => Sys2Proof.Machine.execDmaShareWindow s
  | .dmaCtlWrite q => Sys2Proof.Machine.execDmaCtlWrite q s
  | .dmaDeviceTake c use => Sys2Proof.Machine.execDmaDeviceTake c use s
  | .eventCapture ev => Sys2Proof.Machine.execEventCapture ev s
  | .recordWrite => Sys2Proof.Machine.execRecordWrite s
  | .flashRecordProgram ok => Sys2Proof.Machine.execFlashRecordProgram ok s
  | .flashEraseDone => Sys2Proof.Machine.execFlashEraseDone s
  | .flashTimeout => Sys2Proof.Machine.execFlashTimeout s
  | .flashScanDone => Sys2Proof.Machine.execFlashScanDone s
  | .cursorFetch q => Sys2Proof.Machine.execCursorFetch q s
  | .cursorSeekOld q => Sys2Proof.Machine.execCursorSeekOld q s
  | .cursorSeekNew q => Sys2Proof.Machine.execCursorSeekNew q s
  | .calendarTimeSet ch val => Sys2Proof.Machine.execCalendarTimeSet ch val s
  | .commission ch val => Sys2Proof.Machine.execCommission ch val s
  | .bootRecordWrite ch val => Sys2Proof.Machine.execBootRecordWrite ch val s
  | .bootRecordWriteDone ok => Sys2Proof.Machine.execBootRecordWriteDone ok s
  | .counterSnapshot q => Sys2Proof.Machine.execCounterSnapshot q s
  | .counterSelect q n => Sys2Proof.Machine.execCounterSelect q n s
  | .scribeArm ch val => Sys2Proof.Machine.execScribeArm ch val s
  | .scribeDisarm ch val => Sys2Proof.Machine.execScribeDisarm ch val s
  | .scribeControlTrigger ch val => Sys2Proof.Machine.execScribeControlTrigger ch val s
  | .scribeClear ch val => Sys2Proof.Machine.execScribeClear ch val s
  | .scribeRecord src sub info data => Sys2Proof.Machine.execScribeRecord src sub info data s
  | .scribeTimeMark => Sys2Proof.Machine.execScribeTimeMark s
  | .mapDumpArm ch val => Sys2Proof.Machine.execMapDumpArm ch val s
  | .mapDumpDisarm ch val => Sys2Proof.Machine.execMapDumpDisarm ch val s
  | .mapDumpCopy => Sys2Proof.Machine.execMapDumpCopy s
  | .mapDump => Sys2Proof.Machine.execMapDump s
  | .graphStart ch val => Sys2Proof.Machine.execGraphStart ch val s
  | .graphDone => Sys2Proof.Machine.execGraphDone s
  | .stopInAssert crossings eng stp til => Sys2Proof.Machine.execStopInAssert crossings eng stp til s
  | .stopEnter => Sys2Proof.Machine.execStopEnter s
  | .stopInRelease => Sys2Proof.Machine.execStopInRelease s
  | .stopRequestWrite q => Sys2Proof.Machine.execStopRequestWrite q s
  | .trigReqClear => Sys2Proof.Machine.execTrigReqClear s
  | .debugPush q => Sys2Proof.Machine.execDebugPush q s
  | .smbusBlockWrite data pecOk => Sys2Proof.Machine.execSmbusBlockWrite data pecOk s
  | .smbusBlockRead => Sys2Proof.Machine.execSmbusBlockRead s
  | .smbusAraRead => Sys2Proof.Machine.execSmbusAraRead s
  | .smbusTimeout => Sys2Proof.Machine.execSmbusTimeout s
  | .i3cPrivateRead => Sys2Proof.Machine.execI3cPrivateRead s
  | .entdaa addr => Sys2Proof.Machine.execEntdaa addr s
  | .setdasa addr => Sys2Proof.Machine.execSetdasa addr s
  | .setaasa => Sys2Proof.Machine.execSetaasa s
  | .rstdaa => Sys2Proof.Machine.execRstdaa s
  | .enec => Sys2Proof.Machine.execEnec s
  | .disec => Sys2Proof.Machine.execDisec s
  | .getpid => Sys2Proof.Machine.execGetpid s
  | .getbcr => Sys2Proof.Machine.execGetbcr s
  | .getdcr => Sys2Proof.Machine.execGetdcr s
  | .getstatus => Sys2Proof.Machine.execGetstatus s
  | .getmwl => Sys2Proof.Machine.execGetmwl s
  | .setmwl n => Sys2Proof.Machine.execSetmwl n s
  | .getmrl => Sys2Proof.Machine.execGetmrl s
  | .setmrl n => Sys2Proof.Machine.execSetmrl n s
  | .getmxds => Sys2Proof.Machine.execGetmxds s
  | .ibiRetry => Sys2Proof.Machine.execIbiRetry s
  | .packetFetchTimeout => Sys2Proof.Machine.execPacketFetchTimeout s
  | .setEndpointId pkt op eid => Sys2Proof.Machine.execSetEndpointId pkt op eid s
  | .getEndpointId pkt => Sys2Proof.Machine.execGetEndpointId pkt s
  | .getEndpointUuid pkt => Sys2Proof.Machine.execGetEndpointUuid pkt s
  | .getMctpVersionSupport pkt type => Sys2Proof.Machine.execGetMctpVersionSupport pkt type s
  | .getMessageTypeSupport pkt => Sys2Proof.Machine.execGetMessageTypeSupport pkt s
  | .getVendorMessageSupport pkt sel => Sys2Proof.Machine.execGetVendorMessageSupport pkt sel s
  | .settid pkt tid => Sys2Proof.Machine.execSettid pkt tid s
  | .gettid pkt => Sys2Proof.Machine.execGettid pkt s
  | .getpldmversion pkt type => Sys2Proof.Machine.execGetpldmversion pkt type s
  | .getpldmtypes pkt => Sys2Proof.Machine.execGetpldmtypes pkt s
  | .getpldmcommands pkt type => Sys2Proof.Machine.execGetpldmcommands pkt type s
  | .getsensorreading pkt id => Sys2Proof.Machine.execGetsensorreading pkt id s
  | .getpdrrepositoryinfo pkt => Sys2Proof.Machine.execGetpdrrepositoryinfo pkt s
  | .getpdr pkt rec => Sys2Proof.Machine.execGetpdr pkt rec s
  | .pmbusPoll answers => Sys2Proof.Machine.execPmbusPoll answers s
  | .pmbAlert d status => Sys2Proof.Machine.execPmbAlert d status s
  | .pmbusOperation ch d val acked => Sys2Proof.Machine.execPmbusOperation ch d val acked s
  | .pmbusClearFaults ch d val acked => Sys2Proof.Machine.execPmbusClearFaults ch d val acked s
  | .pmbusVoutCommand ch d val acked => Sys2Proof.Machine.execPmbusVoutCommand ch d val acked s
  | .pmbusAddressWrite ch d val mode acked => Sys2Proof.Machine.execPmbusAddressWrite ch d val mode acked s
  | .generationAdvance ch p val => Sys2Proof.Machine.execGenerationAdvance ch p val s
  | .violRearm q => Sys2Proof.Machine.execViolRearm q s
  | .vddAonLoss => Sys2Proof.Machine.execVddAonLoss s
  | .i3cPrivateWrite data => Sys2Proof.Machine.execI3cPrivateWrite data s
  | .inBandInterrupt acked => Sys2Proof.Machine.execInBandInterrupt acked s
  | .fabricRead q => Sys2Proof.Machine.execFabricRead q s
  | .hardTripComparatorFall c => Sys2Proof.Machine.execHardTripComparatorFall c s
  | .rearmLevelCrossing c above => Sys2Proof.Machine.execRearmLevelCrossing c above s

end Sys2Proof.Machine
end

