-- ==== Sys2Proof/Safety.lean ====
section
/-! DEFINITION. What a safe run is: each command answers a next state, and the state stays well formed: the block has the
cells the spec gives it, the stored object values stay in their one order, and POR_N is never high without VDD_AON. -/

namespace Sys2Proof

open Machine

/-- The command runs to a next state: it neither faults nor is refused. -/
def runs (i : Instr) (s : State) : Prop := ∃ t, exec i s = .next t

namespace Machine

/-- What no command changes but those of the supply and reset pins: the queue, the build of the instance, the number of cells
of every unit, whether the stored values are in order, and the levels of VDD_AON, POR_N and HOST_RST_N. -/
def State.fixed (s : State) :
    List Instr × Inst × Nat × Nat × Nat × Nat × Nat × Nat × Nat × Nat × Nat × Nat × Nat × Nat × Bool × Bool × Bool × Bool :=
  (s.pending, s.inst, s.rails.length, s.phases.length, s.regions.length, s.prot.ctxs.length, s.ff.slots.length,
    s.dowel.engines.length, s.dowel.jigs.length, s.dma.ch.length, s.cl.slots.length, s.host.gens.length,
    s.rcd.rings.length, s.rcd.cursors.length, kvSorted s.obj.nums, s.aon.vddAon, s.aon.porN, s.aon.hostRstN)

/-- A well-formed state: the cells of every unit that the spec counts (R105, R156, R222, R240, R278, R406, R411, R459, R486,
R489, R491, R555), stored values with rising keys, and POR_N high only while VDD_AON is within its limits (R21, R56). -/
structure State.WF (s : State) : Prop where
  /-- Six rail controllers. -/
  rails : s.rails.length = 6
  /-- Sixteen phase outputs. -/
  phases : s.phases.length = 16
  /-- 256 regions. -/
  regions : s.regions.length = 256
  /-- Seven containment contexts: six rails and the domain. -/
  ctxs : s.prot.ctxs.length = 7
  /-- Sixteen program slots. -/
  slots : s.ff.slots.length = 16
  /-- 32 Dowel engines. -/
  engines : s.dowel.engines.length = 32
  /-- Sixteen jig slots. -/
  jigs : s.dowel.jigs.length = 16
  /-- Sixteen DMA channels. -/
  channels : s.dma.ch.length = 16
  /-- 64 mailbox slots. -/
  mailbox : s.cl.slots.length = 64
  /-- 64 partition generations. -/
  gens : s.host.gens.length = 64
  /-- 64 partition rings. -/
  rings : s.rcd.rings.length = 64
  /-- 66 cursors. -/
  cursors : s.rcd.cursors.length = 66
  /-- The stored values are in order. -/
  nums : kvSorted s.obj.nums = true
  /-- POR_N is high only with the supply. -/
  pins : s.aon.porN = true → s.aon.vddAon = true

/-- The command answers a next state of which P holds. -/
def Answers (c : Instr) (s : State) (P : State → Prop) : Prop := ∃ t, exec c s = .next t ∧ P t

/-- The command's request is passed to firmware and waits on its channel, and firmware's answer of success has the effect P (R116). -/
def AnswersByFirmware (c : Instr) (ch : ChanId) (s : State) (P : State → Prop) : Prop :=
  ∃ u, exec c s = .next u ∧ (u.waits ch 0).isSome = true ∧ Answers (.clFwResponse ch 0) u P

/-- A fabric request passes every check (R22, R24 to R26): FAB is released and HOSTIF ready, the offset exists, the requester's
view allows the access, and the block behind it is neither gated nor busy. -/
abbrev State.granted (s : State) (q : FabReq) : Prop :=
  s.aon.fabReleased = true ∧ s.isReady 9 = true ∧ (addrBad (wordOf q) || s.inst.sat && notOnSat (wordOf q)) = false ∧
    s.accessBad false q = none ∧ s.gatedAt (wordOf q) = false ∧ s.busyAt q.write (wordOf q) = false

/-- The SYNC unit takes a tile's word of operation `op` for partition `p` (R437 to R439, R454): the tile is in use, the unit is
on and not standing, and the word has no reserved field. -/
abbrev State.syncTakes (s : State) (tile op w p : Nat) : Prop :=
  s.inst.sat = false ∧ tile < 1024 ∧ s.cap.tileMap.getD tile 0xFF = p ∧ p ≠ 0xFF ∧ s.obs.standing = false ∧ s.syncOn = true ∧
    bits w 2 0 < 5 ∧ syncBad op w = false

/-- Jig j is about to execute the word of operation `op` with these operands, and the step limit is not reached by it (R412,
R413, R420). -/
abbrev State.jigNext (s : State) (j op : Nat) (d a b sh : Option Nat) (imm : Option (BitVec 32)) : Prop :=
  s.jigAt j op d a b sh imm = true ∧ j < s.dowel.jigs.length ∧ (s.jig j).steps + 1 < (s.jig j).stepLimit

/-- A word of jig j has set x_D to a 64-bit word and goes on with the next word; nothing else of the block changes. -/
def wordSets (s : State) (j d : Nat) (x : BitVec 64) (t : State) : Prop :=
  t = s.updJig j (fun g => { g with regs := g.regs.set d x, steps := g.steps + 1, pc := g.pc + 1 })

/-- A word of jig j has set x_D to an exact result, saturated to 64 bits and then counted (R413), and goes on with the next
word; nothing else of the block changes. -/
def wordSetsInt (s : State) (j d : Nat) (v : Int) (t : State) : Prop :=
  if -(2 ^ 63) ≤ v ∧ v < 2 ^ 63 then wordSets s j d (BitVec.ofInt 64 v) t
  else t = s.updJig j (fun g => { g with regs := g.regs.set d (if v < 0 then BitVec.intMin 64 else BitVec.intMax 64),
                                         sats := min 0xFFFFFFFF (g.sats + 1), steps := g.steps + 1, pc := g.pc + 1 })

/-- A word of jig j goes on with word n of the image; nothing else of the block changes. -/
def wordGoes (s : State) (j n : Nat) (t : State) : Prop := t = s.updJig j (fun g => { g with steps := g.steps + 1, pc := n })

/-- Jig j has stopped with a fault code at the word it was about to execute (R420). -/
def jigFaulted (s : State) (j code : Nat) (t : State) : Prop :=
  (t.jig j).state = 3 ∧ (t.jig j).active = false ∧ (t.jig j).faultCode = code ∧ (t.jig j).faultWord = (s.jig j).pc ∧
    (t.jig j).post3 = none ∧ (t.jig j).post4 = none ∧ bit t.dowel.flags 2 = true ∧ ∀ k, k ≠ j → t.jig k = s.jig k

/-- The state in which the engine serves a request of jig j: one object step more, and its place of the channel taken. -/
def State.jigAsking (s : State) (j op i sub : Nat) (v : List Byte) : State :=
  (s.updJig j (fun g => { g with objs := g.objs + 1 })).updChan (.jig j)
    (fun c => { c with state := 1, pend := some { op := op, idx := i, sub := sub, val := v, cls := 3, level := 0x0200 } })

/-- Nothing waits for the firmware channel or the chain channel, and the device does not stand still. -/
abbrev State.clQuiet (s : State) : Prop := s.cl.fwQ = [] ∧ s.cl.chainQ = [] ∧ s.obs.standing = false

/-- The object is served by the engine itself, without firmware, the sequencer's marks, a regulator or the root (R96, R114, R116,
R138, R400, R550). -/
abbrev State.servedHere (s : State) (i sub v : Nat) : Prop :=
  fwOwned i sub = false ∧ ¬(i = 0x5300 ∧ sub = 5) ∧ ¬(0x2620 ≤ i ∧ i < 0x2628 ∧ 4 ≤ sub ∧ sub ≤ 6) ∧ s.budgetRec i sub v = none

/-- v >> n with ties towards plus infinity (R413): the integer next below v / 2^n + 1/2. -/
def rounded (v : Int) (n : Nat) : Int := (2 * v + 2 ^ n) / 2 ^ (n + 1)

/-- The requester of a channel. -/
def State.whoOn (s : State) (ch : ChanId) : Who :=
  { cls := (chanClass ch).1, part := (chanClass ch).2, level := (s.chan ch).level, ch := ch }

/-- The channel takes a request (R82, R110, R115, R538): a mailbox slot that is not pending, with the host interface and the
engine ready; the management port with no request and no answer of it at hand; firmware's own channel while firmware runs. -/
def State.channelFree (s : State) : ChanId → Bool
  | .slot p => decide (p < s.cl.slots.length) && s.mailbox && (s.chan (.slot p)).state != 1
  | .mgt => s.isReady 2 && !s.portBusy
  | .fw => s.isReady 10 && s.isReady 13 && (s.chan .fw).state != 1
  | _ => false

/-- A write of the object passes checks 4 to 10 of R96 and the Range column. -/
def State.writePasses (s : State) (ch : ChanId) (i sub : Nat) (val : List Byte) : Bool :=
  match dictRow i sub with
  | some r => s.checks (s.whoOn ch) 3 i sub = 0 && r.ty.fits val.length && r.inRange val
  | none => false

/-- A channel that takes a request writes an object of this instance, and the write passes checks 1 to 10 of R96 and the Range
column. -/
abbrev State.takes (s : State) (ch : ChanId) (i sub : Nat) (val : List Byte) : Prop :=
  s.clQuiet ∧ s.channelFree ch = true ∧ s.writePasses ch i sub val = true

/-- The channel's request has ended with success (R109, R118). -/
abbrev State.doneOn (t : State) (ch : ChanId) : Prop := (t.chan ch).state = 2 ∧ (t.chan ch).abort = 0

/-- The channel's request has ended with an abort code (R109, R118). -/
abbrev State.abortedOn (t : State) (ch : ChanId) (code : Nat) : Prop := (t.chan ch).state = 2 ∧ (t.chan ch).abort = code

/-- The value that a request brings with it: what stands in the slot's data after the write of the request, else the request's own
bytes; 48 at most (R110, R112). -/
def State.segment (s : State) (ch : ChanId) (r : ClReq) : List Byte :=
  let d := match ch with
    | .slot _ => r.data.take 48 ++ (s.chan ch).data.drop (min 48 r.data.length)
    | _ => r.data
  d.take (min 48 r.len)

/-- The state in which the engine serves a whole request: the fabric has taken a slot's, a message of the port is counted, the request
stands in the channel and is pending, and a transfer that READ or WRITE ends or that has expired is closed (R109 to R112). -/
def State.asks (s : State) (ch : ChanId) (op : Nat) (r : ClReq) : State :=
  let s0 := match ch with
    | .slot _ => (s.updChan ch (fun c => { c with data := r.data.take 48 ++ c.data.drop (min 48 r.data.length) }))
    | _ => s
  let s1 := match ch with
    | .slot _ => { s0 with host := { s0.host with rspCode := 0 } }
    | .mgt => { s0.add64 0x2600 0x0F 1 with mgt := { s0.mgt with busy := true } }
    | _ => s0
  let s2 := clExpire ch (s1.updChan ch (fun c => { c with seq := r.seq, req := reqWord op r }))
  let s3 := if op = 6 then s2 else clClose ch s2
  s3.updChan ch (fun c => { c with state := 1, pend := some {
    op := op, idx := r.idx, sub := r.sub, val := if op = 3 then s.segment ch r else [], cls := (chanClass ch).1,
    part := (chanClass ch).2, level := (s.chan ch).level, node := r.node, req := reqWord op r } })

/-- The channel's request has ended with this value: its first 48 bytes stand in DATA, MORE says whether others follow (R109, R112). -/
abbrev State.valueOn (t : State) (ch : ChanId) (v : List Byte) (more : Bool) : Prop :=
  t.doneOn ch ∧ (t.chan ch).segLen = min 48 v.length ∧ (t.chan ch).data.take (min 48 v.length) = v.take 48 ∧ (t.chan ch).more = more

/-- A channel of the engine whose answers a requester outside reads: a mailbox slot, the management port or firmware's. -/
def outer : ChanId → Bool
  | .slot _ => true
  | .mgt => true
  | .fw => true
  | _ => false

/-- A whole message of one frame reaches the instance on link l (R125 to R128): the link is up, the root does not hear upstream, no
replay is awaited on the frame's lane, its form is legal, it is for the instance or for all, and no other part of it is held. -/
abbrev State.hearsFrame (s : State) (l : Side) (type : Nat) (f : Frame) : Prop :=
  s.linkOn l = true ∧ ¬(l = .up ∧ s.isRoot = true) ∧ f.type = type ∧ ((s.link l).lane f.prio).awaitSeq = none ∧
    s.frameOk f = true ∧ f.more = false ∧ kvGet s.chain.partial_ (partialKey f) = none ∧ (f.dst = 0x1F ∨ s.consumes f = true)

/-- The root's own vote on the records it is about to commit is YES (R140). -/
abbrev State.votesYes (s : State) (rs : List BudRec) : Prop := s.voteOf rs = 0

/-- The gauge that SELECTED_GAUGE names, with no command in progress and not absent (R383). -/
abbrev State.gaugeIdle (s : State) (g : Gauge) : Prop :=
  s.therm.gauges.find? (fun x => x.n = s.pn 0x5010 1) = some g ∧ g.cmd = 0 ∧ g.state ≠ 5

/-- The gauge may be covered: three checked neighbours, none of its neighbours covered, and fewer than 16 gauges covered (R383). -/
abbrev State.coverable (s : State) (g : Gauge) : Prop :=
  3 ≤ ((nbrs s.therm.gauges g).filter (fun x => x.2.checked)).length ∧
    (nbrs s.therm.gauges g).any (fun x => x.2.state = 3) = false ∧ s.covered < 16

/-- After a write of a command its channel is done, the selected gauge has become h, and every other is as it was. -/
abbrev State.gaugeBecomes (s t : State) (ch : ChanId) (h : Gauge) : Prop :=
  t.doneOn ch ∧ t.therm.gauges.find? (fun x => x.n = s.pn 0x5010 1) = some h ∧
    ∀ m, m ≠ s.pn 0x5010 1 → t.therm.gauges.find? (fun x => x.n = m) = s.therm.gauges.find? (fun x => x.n = m)

/-- The state at a result instant, before the results are taken: GAUGES is ready with its gauges built (R373, R376). -/
def State.atInstant (s : State) : State :=
  setReady 7 (buildGauges (advanceTo (gaugesCome s).nextResult (gaugesCome s)))

/-- The gauges and groups of an instant with these raw results in place, before its faults. -/
def State.instantTaken (s : State) (raw : List Int) : State :=
  let l := s.gaugesAfter raw
  { s with free := s.free + 1280, therm := { s.therm with
      gauges := l, groups := s.therm.groups.mapIdx (s.groupAfter l), instAt := some s.aon.clock,
      mapSeq := s.therm.mapSeq.map (fun x => (x + 1) % 2 ^ 32) } }

/-- No fault begins at the instant: no group engages, detects a rate, warns or turns critical, and no gauge leaves its span or its
check (R385 to R391). -/
abbrev State.quietInstant (s : State) (raw : List Int) : Prop :=
  instantFaults raw s.therm.gauges s.therm.groups (s.instantTaken raw) = s.instantTaken raw

/-- The port takes a message for this endpoint: MGT is ready, the destination is the null EID or the endpoint's own, and no request or
answer stands (R536 to R538). -/
abbrev State.portTakes (s : State) (pkt : Packet) : Prop :=
  s.isReady 2 = true ∧ (pkt.dst = 0 ∨ s.mgt.eid ≠ 0 ∧ pkt.dst = s.mgt.eid) ∧ s.portBusy = false

/-- The port's answer to the packet waits for its fetch, with an alert pending (R532, R547). -/
abbrev State.sends (t : State) (pkt : Packet) (body : List Byte) : Prop :=
  t.mgt.rsp = some (t.reply pkt body) ∧ t.mgt.rspAlert = true ∧ t.mgt.busy = false ∧ t.mgt.rspAt = t.aon.clock

/-- The port is in I3C mode and answers CCCs (R534, R535). -/
abbrev State.i3cOn (s : State) : Prop := s.isReady 2 = true ∧ s.mgt.i3c = true

/-- The bytes driven on the bus, acknowledged, and nothing else of the block changed. -/
abbrev State.drives (s t : State) (b : List Byte) : Prop := t = { s with mgt := { s.mgt with busOut := b, nack := false } }

/-- The fault that names an item is in recovery in context c, begun at the present moment (R222). -/
abbrev State.recoversOf (t : State) (c code sev phase item : Nat) : Prop :=
  (t.ctx c).cur = some { code := code, sev := sev, phase := phase, item := item, since := t.aon.clock }

/-- The fault is in recovery in context c, begun at the present moment, and names no item (R222). -/
abbrev State.recovers (t : State) (c code sev phase : Nat) : Prop := t.recoversOf c code sev phase 0xFFFF

/-- The Clamp accepts a tile's word of operation `op` while admission is in effect (R342 to R344, R354): the tile is in use, the
device does not stand still, and the word has no reserved field. -/
abbrev State.clampTakes (s : State) (tile op w : Nat) : Prop :=
  s.inst.sat = false ∧ tile < 1024 ∧ s.cap.tileMap.getD tile 0xFF ≠ 0xFF ∧ s.obs.standing = false ∧ s.enforceOn = true ∧
    bits w 2 0 < 5 ∧ clampBad op w = false

/-- The Clamp's only word to the tiles is an answer to this word (R343). -/
abbrev State.answered (t : State) (tile op slot result reason window tag : Nat) : Prop :=
  t.cla.notices = [(tile, clampAnswer op false false slot result reason window tag)]

/-- The units of State, as frames name them. -/
inductive Part where
  /-- Always-on island and sideband pins. -/
  | aon
  /-- Stored object values. -/
  | obj
  /-- Cut List engine. -/
  | cl
  /-- Chain port and membership. -/
  | chain
  /-- Rail controllers. -/
  | rails
  /-- Phase outputs. -/
  | phases
  /-- Protection. -/
  | prot
  /-- Feed-forward. -/
  | ff
  /-- Shims and kerf units. -/
  | regions
  /-- What the shims share. -/
  | shim
  /-- Clocks and operating points. -/
  | clk
  /-- Estimator, caps and budgets. -/
  | cap
  /-- The Clamp. -/
  | cla
  /-- Dovetail. -/
  | dove
  /-- Thermal unit. -/
  | therm
  /-- Dowel engines, jigs and images. -/
  | dowel
  /-- SYNC. -/
  | sync
  /-- DMA engine. -/
  | dma
  /-- Recorder. -/
  | rcd
  /-- Flash. -/
  | flash
  /-- Observation. -/
  | obs
  /-- Management port. -/
  | mgt
  /-- Host window. -/
  | host
  /-- The count of free values taken. -/
  | free
  deriving DecidableEq, Repr

/-- The unit is the same in two states. -/
def Part.same (p : Part) (s t : State) : Prop :=
  match p with
  | .aon => t.aon = s.aon
  | .obj => t.obj = s.obj
  | .cl => t.cl = s.cl
  | .chain => t.chain = s.chain
  | .rails => t.rails = s.rails
  | .phases => t.phases = s.phases
  | .prot => t.prot = s.prot
  | .ff => t.ff = s.ff
  | .regions => t.regions = s.regions
  | .shim => t.shim = s.shim
  | .clk => t.clk = s.clk
  | .cap => t.cap = s.cap
  | .cla => t.cla = s.cla
  | .dove => t.dove = s.dove
  | .therm => t.therm = s.therm
  | .dowel => t.dowel = s.dowel
  | .sync => t.sync = s.sync
  | .dma => t.dma = s.dma
  | .rcd => t.rcd = s.rcd
  | .flash => t.flash = s.flash
  | .obs => t.obs = s.obs
  | .mgt => t.mgt = s.mgt
  | .host => t.host = s.host
  | .free => t.free = s.free

/-- Every unit but those named is the same in two states. -/
def State.sameBut (s t : State) (l : List Part) : Prop := ∀ p, p ∉ l → p.same s t

/-- Every unit: what a command may reach that runs the Cut List engine or writes objects. -/
def Part.all : List Part :=
  [.aon, .obj, .cl, .chain, .rails, .phases, .prot, .ff, .regions, .shim, .clk, .cap, .cla, .dove, .therm, .dowel, .sync,
   .dma, .rcd, .flash, .obs, .mgt, .host, .free]

/-- What the passing of time and an event change: the clock and its pins, counted values, accruing times, the calendar and
the event queues, the counters. -/
def Part.timed : List Part := [.aon, .obj, .clk, .cap, .rcd, .obs]

/-- The units that a command may change; it leaves every other unit as it was. -/
def touched (c : Instr) : List Part :=
  match c with
  | .hostRstNRelease => [.aon]
  | .linkK285Timeout _ | .poisonReceive _ _ => [.chain]
  | .seqVoltageDone => [.clk]
  | .dmaShareWindow | .dmaDeviceTake _ _ => [.dma]
  | .end_ _ => [.dowel]
  | .pageFree _ => [.ff]
  | .smbusBlockRead | .smbusAraRead | .i3cPrivateRead | .entdaa _ | .setdasa _ | .setaasa | .rstdaa | .enec | .disec | .getpid
    | .getbcr | .getdcr | .getmwl | .setmwl _ | .getmrl | .setmrl _ | .getmxds | .inBandInterrupt _ => [.mgt]
  | .mapDumpCopy => [.obs]
  | .regSyncLock _ => [.rails]
  | .hardTripComparatorRise _ | .hardTripComparatorFall _ | .rearmLevelCrossing _ _ => [.therm]
  | .enumStart | .ackReceive _ _ _ | .enumForward => [.chain, .obs]
  | .engineDrainDone _ | .engineReloadDone _ => [.dowel, .dma]
  | .getstatus => [.mgt, .free]
  | .linkCodeErrorLoss _ | .frameReceiveBadCrc _ _ => [.obj, .chain]
  | .taskSpawn _ _ => [.obj, .dowel]
  | .smbusTimeout | .setEndpointId _ _ _ | .getEndpointId _ | .getEndpointUuid _ | .getMctpVersionSupport _ _ |
    .getMessageTypeSupport _ | .getVendorMessageSupport _ _ | .settid _ _ | .gettid _ | .getpldmversion _ _ | .getpldmtypes _ |
    .getpldmcommands _ _ | .getpdrrepositoryinfo _ | .getpdr _ _ | .pmbAlert _ _ => [.obj, .mgt]
  | .kerfTestEnd _ => [.obj, .regions]
  | .hostRstNAssert => [.aon, .cl, .host]
  | .thrInAssert | .thrInRelease => [.aon, .obj, .cap]
  | .eventCapture _ => [.aon, .obj, .rcd]
  | .vddAonRise => [.aon, .prot, .therm]
  | .budReqReceive _ _ | .budTransactionOpen | .budPrepareReceive _ _ | .budCommitReceive _ _ | .budAbortReceive _ _ => [.obj,
    .chain, .obs]
  | .tclkStart => [.obj, .clk, .dove]
  | .ffLookupDone => [.obj, .ff, .cap]
  | .tablePageCopied _ _ => [.obj, .ff, .dma]
  | .getsensorreading _ _ => [.obj, .mgt, .free]
  | .kerfLevelRaise _ _ => [.obj, .regions, .obs]
  | .syncBind _ _ | .syncSignal _ _ | .syncAcquire _ _ | .syncWait _ _ | .syncCancel _ _ => [.obj, .sync, .obs]
  | .flashRecordProgram _ | .flashEraseDone | .flashScanDone | .bootRecordWriteDone _ => [.aon, .obj, .rcd, .flash]
  | .scribeRecord _ _ _ _ | .mapDump | .stopEnter => [.aon, .obj, .rcd, .obs]
  | .clampOpen _ _ | .clampClose _ _ | .clampRequest _ _ | .clampRelease _ _ | .clampCancel _ _ => [.obj, .cap, .cla, .obs]
  | .budCommitApply _ => [.obj, .chain, .clk, .cap]
  | .kerfCrossing _ => [.obj, .regions, .shim, .cap]
  | .nop _ | .ldi _ _ _ | .ldih _ _ _ | .mov _ _ _ | .ldm _ _ _ _ | .stm _ _ _ _ | .add _ _ _ _ | .addi _ _ _ _ | .sub _ _ _ _
    | .neg _ _ _ | .abs _ _ _ | .mul _ _ _ _ | .mulsh _ _ _ _ _ | .mulish _ _ _ _ _ | .div _ _ _ _ | .min _ _ _ _ | .max _ _ _ _
    | .clamp _ _ _ _ | .and _ _ _ _ | .or _ _ _ _ | .xor _ _ _ _ | .not _ _ _ | .shl _ _ _ _ | .shr _ _ _ _ | .sar _ _ _ _ |
    .andi _ _ _ _ | .sel _ _ _ _ | .slt _ _ _ _ | .seq _ _ _ _ | .beq _ _ _ _ | .bne _ _ _ _ | .blt _ _ _ _ | .bge _ _ _ _ | .bz
    _ _ _ | .jmp _ _ | .filt _ _ _ _ _ | .integ _ _ _ _ _ _ | .deadb _ _ _ _ | .slew _ _ _ _ | .rdtel _ _ _ | .post _ _ _ |
    .event _ _ _ | .actn _ _ => [.aon, .obj, .cap, .dowel, .rcd]
  | .linkLockGain _ | .enumReceive _ _ | .nodeRejoinReceive _ _ => [.aon, .obj, .chain, .rcd, .obs]
  | .commissioningStoreDone _ => [.aon, .obj, .cl, .rcd, .flash]
  | .imgStagingDone _ | .engineStartDone _ => [.aon, .obj, .dowel, .dma, .rcd]
  | .referenceQualified _ => [.aon, .obj, .prot, .clk, .cap]
  | .lastFaultWrite _ => [.aon, .obj, .prot, .rcd, .flash]
  | .regSyncQualify _ | .regSyncLoss => [.aon, .obj, .rails, .prot, .rcd]
  | .graphDone => [.aon, .obj, .rcd, .obs, .free]
  | .gaugeCalStoreDone _ => [.aon, .obj, .therm, .rcd, .flash]
  | .telemReceive _ _ => [.obj, .chain, .cap, .therm, .obs]
  | .shimControlCycle _ _ => [.obj, .prot, .regions, .shim, .obs]
  | .engineWatchdogExpiry _ => [.aon, .obj, .cap, .dowel, .dma, .rcd]
  | .elapsed _ _ => [.aon, .obj, .cap, .dowel, .rcd, .free]
  | .trace _ _ => [.aon, .obj, .cap, .dowel, .rcd, .obs]
  | .xspiResetEnd | .bootFlashReadStart | .referenceLimitExpiry | .engRelease | .pllATimeout | .skipStep | .capEscalateExpiry
    | .capRaiseHoldExpiry | .scribeTimeMark | .trigReqClear => Part.timed
  | .flashImageWriteDone _ _ => [.aon, .obj, .dowel, .dma, .rcd, .flash]
  | .recordWrite => [.aon, .obj, .rcd, .flash, .obs, .mgt]
  | .dmaResponse _ _ _ _ => [.aon, .obj, .sync, .dma, .rcd, .obs]
  | .gateStop _ => [.aon, .obj, .cap, .cla, .dove, .therm, .rcd]
  | .chainTimeout | .enumRepeat | .budVoteTimeout | .budOutcomeTimeout _ | .budRetry | .telemSend => Part.timed ++ [.chain]
  | .clTransferTimeout _ => Part.timed ++ [.cl]
  | .telemetryInstant | .grantWindowEnd _ | .requestWaitExpiry _ => Part.timed ++ [.cla]
  | .dividerStep | .dovetailWave | .barOutFall | .planWindowExpiry => Part.timed ++ [.dove]
  | .activationDeadlineMiss _ | .engineSteal _ => Part.timed ++ [.dowel]
  | .ibiRetry | .packetFetchTimeout => Part.timed ++ [.mgt]
  | .thermalStepExpiry _ | .predictHoldExpiry _ => Part.timed ++ [.therm]
  | .settlingEnd | .stepClkWindow _ => Part.timed ++ [.ff]
  | .s1HoldExpiry _ | .s2HoldExpiry _ => Part.timed ++ [.prot]
  | .retryRefill _ => Part.timed ++ [.rails]
  | .shimRefStep _ | .preloadArm _ => Part.timed ++ [.regions]
  | .boostHoldExpiry | .stretchHoldClear => Part.timed ++ [.shim]
  | .barOutRise => Part.timed ++ [.dove, .sync]
  | .engineDrainTimeout _ | .engineStartTimeout _ => Part.timed ++ [.dowel, .dma]
  | .pinnedActivation _ => Part.timed ++ [.dowel, .free]
  | .thermalRaiseHoldExpiry _ | .rateHoldExpiry _ => Part.timed ++ [.prot, .therm]
  | .ffDutyStart _ => Part.timed ++ [.rails, .ff]
  | .groupDelayExpiry | .shedStart _ | .shedRampEnd _ | .rotationStep _ => Part.timed ++ [.rails, .phases]
  | .foldbackHoldExpiry _ => Part.timed ++ [.rails, .prot]
  | .preloadDisarm _ | .kerfStretchEnd _ => Part.timed ++ [.regions, .shim]
  | .estimatorBoundary _ => Part.timed ++ [.cla, .sync, .free]
  | .ffShimPost => Part.timed ++ [.ff, .regions, .dove]
  | .restartDelayExpiry _ => Part.timed ++ [.rails, .phases, .prot]
  | .stopInAssert _ _ _ _ => [.aon, .obj, .rails, .ff, .regions, .clk, .dove, .rcd, .obs, .free]
  | .stepAnnounce _ _ _ => [.aon, .obj, .rails, .prot, .ff, .regions, .dove, .rcd, .obs, .free]
  | .seqVoltageStep => Part.timed ++ [.rails, .prot, .regions, .shim]
  | .flashTimeout => Part.timed ++ [.cl, .therm, .dowel, .dma, .flash]
  | .pgTimeout | .phOcPeakExpiry _ | .peakTimerExpiry _ | .foldbackLimitExpiry _ | .ovPersist _ | .uv _ | .uvS3Expiry _ |
    .stgFlt | .phaseSuspect _ | .shimSaturation _ | .headroomWaitExpiry _ | .shimLow _ | .kerfDuty _ | .regionMonitorConversion
    _ | .sourceMonitorWindow _ _ | .sourceMissingEdge _ | .vTimeout | .gaugeSuspect _ | .hardTrip _ | .gaugeCommandDone _ |
    .relayTimeout _ | .thermalModelUpdate => Part.timed ++ [.chain, .rails, .phases, .prot, .regions, .shim, .therm]
  | .compensatorSample _ | .feTimerExpiry _ => Part.timed ++ [.chain, .rails, .phases, .prot, .ff, .regions, .shim, .therm]
  | .barrierTimeout => Part.timed ++ [.chain, .rails, .phases, .prot, .regions, .shim, .dove, .therm]
  | .linkRelockTimeout _ | .linkAckTimeout _ _ | .nakReceive _ _ _ | .nodeLostReceive _ _ | .currentConversion _ _ _ |
    .calibrationUpdate => Part.timed ++ [.chain, .rails, .phases, .prot, .regions, .shim, .therm, .free]
  | .barInRise | .barrierArriveReceive _ _ | .barrierReleaseReceive _ _ | .barrierCancelReceive _ _ => Part.timed ++ [.chain,
    .rails, .phases, .prot, .regions, .shim, .dove, .therm, .sync]
  | .execMarker _ _ | .announcementMissed => Part.timed ++ [.chain, .rails, .phases, .prot, .ff, .regions, .shim, .dove,
    .therm, .free]
  | .porNAssert | .porNRelease | .strapLatch _ _ _ | .mgtReady | .bootReadsDone | .ctlPllLock | .trackedStart | .railPowerGood
    _ | .hostInterfaceStart | .imgFetch _ | .imgAccept _ _ | .imgReject _ | .imgLoadDone _ _ | .fwFunctionStart _ | .clkEnGate _
    _ | .clkEnUngate _ _ | .fabricWrite _ | .clRead _ _ | .clReadNext _ _ | .clWrite _ _ | .clWriteNext _ _ | .clCancel _ _ |
    .clDescribe _ _ | .clFwTimeout _ | .clFwResponse _ _ | .clRemoteTimeout _ | .levelRequest _ _ | .diagLockOpen _ |
    .commissioningStore _ _ | .commissioningWipe _ _ | .farEndTimeout | .enumTimeout | .enumReportReceive _ _ |
    .enumCloseReceive _ _ | .holdOutClear _ _ | .assumeRoot _ _ | .reserveRelease _ _ | .budVoteReceive _ _ | .clReqReceive _ _
    | .clRspReceive _ _ | .safeRelease _ _ _ | .railEnableOn _ _ _ | .railEnableOff _ _ _ | .groupMove _ _ | .groupStop _ _ |
    .setpointWrite _ _ _ | .bankSwap _ _ _ | .phaseControllerWrite _ _ _ | .phaseOutOfService _ _ _ | .phaseReinstate _ _ _ |
    .tableLoadStart _ _ _ _ | .slotSwap _ _ _ | .slotEnable _ _ _ | .slotProgramWrite _ _ _ | .slotRelease _ _ _ | .trimWrite _
    _ _ _ | .kerfTestStart _ _ _ | .regionTargetWrite _ _ _ | .setpointMapTileWrite _ _ _ | .regionModeWrite _ _ _ |
    .tileSourceSelect _ _ | .pointRequestWrite _ _ | .adopt _ _ | .budgetWrite _ _ _ _ | .policyWrite _ _ | .enforceWrite _ _ |
    .tilePartitionMapWrite _ _ | .packageBarrierCancel _ _ | .gaugeInstant _ | .gaugeReferenceCycle _ _ | .gaugeAlign _ _ |
    .gaugeClear _ _ | .gaugeTakeOff _ _ | .gaugeReturn _ _ | .gaugeCalStore _ _ | .thermalRearm _ | .rearmComplete _ |
    .relayClear _ _ | .rdobj _ _ _ _ | .wrobj _ _ _ _ | .jigImageWrite _ _ _ | .jigStart _ _ _ | .jigStop _ _ _ | .jigReset _ _
    _ | .flashImageWrite _ _ | .commitSlot _ _ | .globalWatchdogExpiry | .doorbellSignal _ _ | .doorbellTryAcquire _ _ |
    .syncSetValue _ _ | .syncClearFlags _ _ | .syncOwnerAssign _ _ | .dmaStart _ _ | .dmaResume _ _ | .dmaAbort _ _ |
    .dmaRequestIssue | .dmaCtlWrite _ | .cursorFetch _ | .cursorSeekOld _ | .cursorSeekNew _ | .calendarTimeSet _ _ |
    .commission _ _ | .bootRecordWrite _ _ | .counterSnapshot _ | .counterSelect _ _ | .scribeArm _ _ | .scribeDisarm _ _ |
    .scribeControlTrigger _ _ | .scribeClear _ _ | .mapDumpArm _ _ | .mapDumpDisarm _ _ | .graphStart _ _ | .stopInRelease |
    .stopRequestWrite _ | .debugPush _ | .smbusBlockWrite _ _ | .pmbusPoll _ | .pmbusOperation _ _ _ _ | .pmbusClearFaults _ _ _
    _ | .pmbusVoutCommand _ _ _ _ | .pmbusAddressWrite _ _ _ _ _ | .generationAdvance _ _ _ | .violRearm _ | .vddAonLoss |
    .i3cPrivateWrite _ | .fabricRead _ => Part.all

end Machine

end Sys2Proof
end

