-- ==== Sys2Proof/Certificates/Slice0/Obligations.lean ====
section
/-! DEFINITION. The statements for the provers. -/

open Sys2Proof Sys2Proof.Machine

/-- For every command and state, a step of the state with the command at the front of its queue is the command's effect on the
state with the queue's rest. With nothing waiting, a step answers a next state, whose queue is empty: the idle tick is the
model's choice (log entry 1). -/
def Obligations.StepRunsFrontCommand : Prop :=
  (∀ (c : Instr) (rest : List Instr) (s : State), step { s with pending := c :: rest } = exec c { s with pending := rest }) ∧
  (∀ s : State, s.pending = [] → ∃ t, step s = .next t ∧ t.pending = [])

/-- No command of the table faults or is refused in any state: each answers a next state, since an access that the spec turns away is
answered with a code or an abort, which is an effect (R23, R96). -/
def Obligations.EveryCommandAnswers : Prop := ∀ (c : Instr) (s : State), runs c s

/-- A command changes neither the commands that wait behind it nor what is fixed at synthesis: the instance's ports and numbers. -/
def Obligations.QueueAndBuildKept : Prop :=
  ∀ (c : Instr) (s t : State), exec c s = .next t → t.pending = s.pending ∧ t.inst = s.inst

/-- The frame of every command: a unit that the table `touched` does not name for the command holds exactly what it held: its
registers, queues, counters and flags. `touched` names the units that the spec's sections say the command acts on, and those
whose counters run with the clock where the command falls due at a time. -/
def Obligations.UnitFrame : Prop :=
  ∀ (c : Instr) (s t : State) (p : Part), exec c s = .next t → p ∉ touched c → p.same s t

/-- From every well-formed state, a step whose outcome is a next state gives a well-formed state: six rails, sixteen phases, 256
regions and the other cells the spec counts, object values stored in one order, and POR_N high only while VDD_AON is within
its limits. That POR_N rises only with the supply present is the integrator's side of R21 and R56, and a command that says otherwise
changes nothing. -/
def Obligations.StepKeepsWellFormed : Prop := ∀ s t : State, s.WF → step s = .next t → t.WF

/-- The state after reset is well formed and its queue is empty. The reset values that the spec leaves open are the model's choice (log
entry 2), and no clause rests on one. -/
def Obligations.ResetWellFormed : Prop := State.reset.WF ∧ State.reset.pending = []

/-- What the commands of VDD_AON, POR_N and HOST_RST_N do (R21, R54, R56, R228). That a fall of POR_N leaves THERMTRIP_N and the
retention buffer as they are is R21's and R228's; the level of a mailbox slot after HOST_RST_N is R109's. -/
def Obligations.SupplyAndResetPins : Prop :=
  (∀ s : State, s.aon.vddAon = false → Answers .vddAonRise s (fun t =>
    t.aon = { s.aon with vddAon := true, thermtripN := true } ∧ t.prot.retention = [] ∧ t.therm.trips = List.replicate 3 {})) ∧
  (∀ s : State, s.aon.vddAon = true → Answers .vddAonLoss s (fun t =>
    t.aon.vddAon = false ∧ t.aon.porN = false ∧ t.prot.retention = [] ∧ t.obj = {} ∧ t.inst = s.inst)) ∧
  (∀ s : State, s.aon.porN = true → Answers .porNAssert s (fun t =>
    t.aon.porN = false ∧ t.aon.ready = 0 ∧ t.aon.ctlReleased = false ∧ t.aon.engReleased = false ∧ t.obj = {} ∧
    t.rails = List.replicate 6 {} ∧ t.phases = List.replicate 16 {} ∧ t.host.rspCode = 0 ∧
    t.aon.vddAon = s.aon.vddAon ∧ t.aon.hostRstN = s.aon.hostRstN ∧ t.aon.thermtripN = s.aon.thermtripN ∧
    t.prot.retention = s.prot.retention)) ∧
  (∀ s : State, s.aon.vddAon = true → s.aon.porN = false → Answers .porNRelease s (fun t =>
    t.aon.porN = true ∧ t.aon.clock = 0 ∧ t.isReady 1 = true ∧ t.rails = s.rails ∧ t.flash = s.flash ∧ t.therm = s.therm)) ∧
  (∀ s : State, s.aon.hostRstN = true → Answers .hostRstNAssert s (fun t =>
    t.aon = { s.aon with hostRstN := false, fabReleased := false } ∧ t.host.rspCode = 0 ∧ t.host.rdata = 0 ∧
    (∀ c ∈ t.cl.slots, c.level = 0x0100 ∧ c.reqLevel = 0x0100) ∧ t.cl.slots.length = s.cl.slots.length)) ∧
  (∀ s : State, s.aon.hostRstN = false → Answers .hostRstNRelease s (fun t =>
    t.aon = { s.aon with hostRstN := true, fabReleased := s.aon.engReleased }))

/-- The commands of the always-on island's start: the strap latch 16 ticks after POR_N rises (R30), MGT 1,000 ticks after (R82),
the flash's reset and its reads (R29, R59), the CTL PLL's source and its lock (R44, R54). -/
def Obligations.AlwaysOnStart : Prop :=
  (∀ (root : Bool) (smb boot : Nat) (s : State), s.aon.porN = true → s.aon.strapsLatched = false →
    Answers (.strapLatch root smb boot) s (fun t =>
      t.aon.strapsLatched = true ∧ t.aon.strapRoot = root ∧ t.aon.strapSmb = smb % 128 ∧ t.aon.strapBoot = boot % 4 ∧
      t.isReady 0 = true ∧ 64 ≤ t.aon.clock)) ∧
  (∀ s : State, s.aon.porN = true → s.aon.strapsLatched = true → s.isReady 2 = false → Answers .mgtReady s (fun t =>
    t.isReady 2 = true ∧ 4000 ≤ t.aon.clock ∧ (s.mgt.eid ≠ 0 → t.mgt = s.mgt))) ∧
  (∀ s : State, s.aon.porN = true → s.aon.xspiRstN = false → Answers .xspiResetEnd s (fun t =>
    t.aon.xspiRstN = true ∧ t.aon.flashWaitFrom = some t.aon.clock ∧ t.aon.clock = max s.aon.clock (us 10))) ∧
  (∀ (s : State) (w : Nat), s.aon.porN = true → s.aon.flashWaitFrom = some w → s.aon.strapsLatched = true →
    s.aon.strapBoot ≠ 2 → s.aon.bootReading = false → s.isReady 3 = false → Answers .bootFlashReadStart s (fun t =>
      t.aon.bootReading = true ∧ t.aon.clock = max s.aon.clock (w + ms 1))) ∧
  (∀ s : State, s.aon.bootReading = true → Answers .bootReadsDone s (fun t => t.isReady 3 = true)) ∧
  (∀ (ref100 : Bool) (s : State), s.aon.porN = true → s.aon.ctlSource = 0 → s.clk.ctlRc = false →
    Answers (.referenceQualified ref100) s (fun t =>
      t.aon.ctlSource = 1 ∧ t.aon.refSel = ref100 ∧ (if ref100 then t.clk.ref100.ok else t.clk.xtal.ok) = true)) ∧
  (∀ s : State, s.aon.porN = true → s.aon.ctlSource = 0 → Answers .referenceLimitExpiry s (fun t =>
    t.aon.ctlSource = 2 ∧ t.clk.ctlRc = true ∧ t.aon.clock = max s.aon.clock (ms 2))) ∧
  (∀ s : State, s.aon.porN = true → s.aon.ctlSource ≠ 0 → s.aon.ctlReleased = false → Answers .ctlPllLock s (fun t =>
    t.aon.ctlReleased = true ∧ t.isReady 4 = true ∧ t.clk = s.clk))

/-- The commands of the rails' start and the islands' release: the boot record comes into force and the first group that has
rails takes its turn (R59, R64); its rails ramp after the group's delay (R65); a rail that reaches power-good regulates (R67);
a group that misses power-good faults on each of its rails (R67); ENG follows PLL A, or the CTL clock after 5 ms (R54, R55). -/
def Obligations.RailsComeUp : Prop :=
  (∀ (s : State) (b : BootRec), s.mayStep = true → s.isReady 4 = true → s.aon.step2At = none → s.aon.strapsLatched = true →
    s.step2Rec = some b → (loadBoot b ((s.setEnable 1 true).setEnable 2 true)).groupRails 0 ≠ [] → s.aon.strapBoot ≠ 2 →
    Answers .trackedStart s (fun t =>
      t.aon.bootRec = some b ∧ t.aon.step2At = some s.aon.clock ∧ t.aon.curGroup = 0 ∧
      t.aon.groupDelayAt = some (s.aon.clock + us (10 * b.gdelay.getD 0 0)) ∧
      t.rails = s.rails.mapIdx (Rail.boot b) ∧ t.phases = s.phases.mapIdx (Phase.boot b))) ∧
  (∀ (s : State) (d : Nat), s.aon.porN = true → s.aon.groupDelayAt = some d → s.aon.thermtripN = true →
    Answers .groupDelayExpiry s (fun t =>
      t.aon.groupDelayAt = none ∧ t.aon.groupRampAt = some t.aon.clock ∧ t.aon.clock = max s.aon.clock d)) ∧
  (∀ (s : State) (k : Nat), k < s.rails.length → (s.rail k).state = 1 → s.ctrlOf 0 ≠ some k →
    (∃ j ∈ s.groupRails s.aon.curGroup, j ≠ k ∧ s.railUp j = false) →
    Answers (.railPowerGood k) s (fun t =>
      (t.rail k).state = 2 ∧ (t.rail k).rampRate = 0 ∧ (t.rail k).ref = (s.rail k).setNow ∧
      (s.ctrlOf 1 = some k → t.aon.sramPgAt ≠ none) ∧ ∀ j, j ≠ k → t.rail j = s.rail j)) ∧
  (∀ (s : State) (d : Nat), s.aon.groupRampAt = some d → s.aon.thermtripN = true → s.groupUp = false →
    exec .pgTimeout s = .next (groupMissed (advanceTo (d + s.groupRamp s.aon.curGroup + ms 1) s))) ∧
  (∀ (s : State) (d : Nat), s.aon.porN = true → s.aon.sramPgAt = some d → s.aon.ctlReleased = true → s.aon.engReleased = false →
    s.clk.pllA.ok = true → Answers .engRelease s (fun t =>
      t.aon.engReleased = true ∧ t.aon.stpReleased = true ∧ t.aon.engOnCtl = false ∧ t.aon.fabReleased = s.aon.hostRstN ∧
      t.clk.engDiv = engDivider s.clk.pllA.freq ∧ t.aon.clock = max s.aon.clock (d + us 20))) ∧
  (∀ (s : State) (d : Nat), s.aon.porN = true → s.aon.sramPgAt = some d → s.aon.ctlReleased = true → s.aon.engReleased = false →
    s.clk.pllA.ok = false → Answers .pllATimeout s (fun t =>
      t.aon.engReleased = true ∧ t.aon.engOnCtl = true ∧ t.clk.engInt = true ∧ t.clk.engDiv = 16 ∧
      t.aon.fabReleased = s.aon.hostRstN ∧ t.aon.clock = max s.aon.clock (d + ms 5)))

/-- The commands that end bring-up: a root takes address 1 and the first token (R133); after 10 ms without the chain the
instance isolates (R59, R151); the host interface, the Cut List engine, the recorder and the DMA engine become ready (R59). -/
def Obligations.InterfacesStart : Prop :=
  (∀ s : State, s.mayStep = true → s.isReady 5 = true → s.aon.strapRoot = true → s.inst.sat = false → s.chain.role = 0 →
    s.chain.conflict = false → s.chain.dn.linkUp = false → Answers .enumStart s (fun t =>
      t.chain.role = 1 ∧ t.chain.addr = 1 ∧ t.chain.token = [s.ownDesc 1] ∧ t.chain.enumClosed = false)) ∧
  (∀ (s : State) (d : Nat), s.aon.porN = true → s.aon.step3At = some d → s.aon.step3Done = false → s.obs.standing = false →
    s.isReady 5 = false → Answers .chainTimeout s (fun t =>
      t.aon.step3Done = true ∧ t.chain.isolated = true ∧ t.aon.clock = max s.aon.clock (d + ms 10) ∧
      t.chain.role = (if s.chain.role = 4 || s.chain.role = 1 then s.chain.role else 3))) ∧
  (∀ s : State, s.mayStep = true → s.aon.engReleased = true → s.aon.fabReleased = true → s.aon.step3Done = true →
    s.isReady 9 = false → Answers .hostInterfaceStart s (fun t => t.isReady 12 = true))

/-- R25: with FAB released and HOSTIF ready, a read or a write is answered with ERR_ADDR (1) where its offset is reserved,
else with ERR_ACCESS (2) where the requester's view refuses it, else with ERR_GATED (3) where its block is gated; and an
answer of ERR_BUSY (4) is given only to an access that passes all three checks. -/
def Obligations.FabricErrorOrder : Prop :=
  ∀ (q : FabReq) (s : State) (c : Instr), s.aon.fabReleased = true → s.isReady 9 = true →
    (q.write = false ∧ c = .fabricRead q ∨ q.write = true ∧ c = .fabricWrite q) →
    Answers c s (fun t =>
      t.host.rspTag = q.tag ∧
      (if (addrBad (wordOf q) || s.inst.sat && notOnSat (wordOf q)) = true then t.host.rspCode = 1
       else if s.accessBad false q ≠ none then t.host.rspCode = 2
       else if s.gatedAt (wordOf q) = true then t.host.rspCode = 3
       else (s.busyAt q.write (wordOf q) = true → t.host.rspCode = 4)) ∧
      (t.host.rspCode = 4 → (addrBad (wordOf q) || s.inst.sat && notOnSat (wordOf q)) = false ∧ s.accessBad false q = none ∧
        s.gatedAt (wordOf q) = false))

/-- A read that passes every check answers the word that its offset reads as, whatever FT_WSTRB carries; a write does what the
range does with its enabled bytes; a write without an enabled byte answers ACK and changes nothing else (R22, R24, R559). -/
def Obligations.FabricAccessCompletes : Prop :=
  (∀ (q : FabReq) (s : State), s.granted { q with write := false } → Answers (.fabricRead q) s (fun t =>
    t.host.rspTag = q.tag ∧ t.host.rspCode = (fabRead { q with write := false } s).1 ∧
    t.host.rdata = (fabRead { q with write := false } s).2.1 ∧
    ∀ b, Answers (.fabricRead { q with wstrb := b }) s (fun u => u = t))) ∧
  (∀ (q : FabReq) (s : State), s.granted { q with write := true } → q.wstrb % 256 ≠ 0 → Answers (.fabricWrite q) s (fun t =>
    t.host.rspTag = q.tag ∧ t.host.rspCode = (fabWrite { q with write := true } s.dowel.newImg s).1 ∧ t.host.rdata = 0 ∧
    ∃ h, t = { (fabWrite { q with write := true } s.dowel.newImg s).2 with host := h })) ∧
  (∀ (q : FabReq) (s : State), s.granted { q with write := true } → q.wstrb % 256 = 0 →
    (fabWrite { q with write := true } s.dowel.newImg s).1 = 0 → Answers (.fabricWrite q) s (fun t =>
      t.host.rspCode = 0 ∧ t = { s with host := t.host } ∧ t.host = { s.host with rspCode := 0, rspTag := q.tag, rdata := 0 }))

/-- FETCH starts the staging of the slot that SLOT names and clears the status's flags (R70, R71); ACCEPT of a staged image
starts its load (R72); REJECT marks the image and stages the other slot, or fails where SLOT named one (R73); the end of a
staging holds the image or fails (R71, R73); the end of a load with a matching CRC starts firmware (R72); the global watchdog
leaves FW not ready (R428). In each case the request's data sets one bit of IMG_CTRL beside SLOT and LEN. -/
def Obligations.ImageHandOver : Prop :=
  (∀ (q : FabReq) (s : State), s.granted (writeBit q 0x20F08 0) → q.wdata.toNat % 32 = 0 → s.dowel.updating = false → s.aon.strapBoot ≠ 2 →
    Answers (.imgFetch q) s (fun t =>
      t.host.rspCode = 0 ∧ t.aon.imgState = 1 ∧ t.aon.fetchErr = false ∧ t.aon.mismatch = false ∧ t.aon.imgRejected = false ∧
      t.aon.slotUsed = s.hdrUse.active ∧ t.dowel.fwBarred = false)) ∧
  (∀ (q : FabReq) (img : Image) (s : State), s.granted (writeBit q 0x20F08 3) → q.wdata.toNat % 32 = 0 → s.dowel.updating = false →
    s.dowel.fwBarred = false → s.aon.strapBoot ≠ 2 → s.aon.imgState = 2 → s.isReady 13 = false →
    Answers (.imgAccept q img) s (fun t => t.host.rspCode = 0 ∧ t.aon.imgState = 3)) ∧
  (∀ (q : FabReq) (s : State), s.granted (writeBit q 0x20F08 4) → q.wdata.toNat % 32 = 0 → s.aon.imgState = 2 →
    s.aon.imgOtherTried = false → Answers (.imgReject q) s (fun t =>
      t.host.rspCode = 0 ∧ t.aon.imgRejected = true ∧ t.aon.imgState = 1 ∧ t.aon.imgOtherTried = true ∧
      t.aon.slotUsed = (if s.aon.slotUsed = 2 then 1 else 2))) ∧
  (∀ s : State, s.aon.imgState = 1 → s.obs.standing = false →
    (if s.aon.slotUsed = 2 then s.flashRead.imgB else s.flashRead.imgA).valid = true →
    Answers (.imgStagingDone true) s (fun t =>
      t.aon.imgState = 2 ∧ t.dowel.newImg = (if s.aon.slotUsed = 2 then s.flashRead.imgB else s.flashRead.imgA) ∧
      t.aon.imgLen = t.dowel.newImg.length ∧ t.aon.imgCrc = t.dowel.newImg.crc)) ∧
  (∀ s : State, s.aon.imgState = 1 → s.obs.standing = false → Answers (.imgStagingDone false) s (fun t =>
    t.aon.imgState = 5 ∧ t.aon.fetchErr = true ∧ t.dowel.newImg = s.dowel.newImg)) ∧
  (∀ (s : State), s.aon.imgState = 3 → s.dowel.updating = false → s.obs.standing = false → s.isReady 13 = false →
    s.aon.strapBoot ≠ 2 → exec (.imgLoadDone true s.aon.imgCrc) s = .next (fwStart s)) ∧
  (∀ (s : State) (crc : Nat), s.aon.imgState = 3 → s.dowel.updating = false → s.obs.standing = false → s.isReady 13 = false →
    s.aon.strapBoot ≠ 2 → crc ≠ s.aon.imgCrc → Answers (.imgLoadDone true crc) s (fun t =>
      t.aon.imgState = 5 ∧ t.aon.mismatch = true ∧ t.isReady 13 = false)) ∧
  (∀ s : State, s.isReady 13 = true → s.obs.standing = false → exec .globalWatchdogExpiry s = .next (globalWatchdog s))

/-- A write of 0 to an enable of a block that holds no outstanding state starts its gating, and of 1 takes it back (R79); the
block's stop ends its function's readiness (R79); firmware's start of a function makes it ready with its enables (R59, R82). -/
def Obligations.BlockEnables : Prop :=
  (∀ (q : FabReq) (b : Nat) (s : State), b ∈ rwEnables → s.granted (enableWrite q b false s) → s.aon.clkEn < 2 ^ 64 → s.enabled b = true →
    s.holdsState b = false → b ≠ 11 → Answers (.clkEnGate q b) s (fun t =>
      t.host.rspCode = 0 ∧ t.enabled b = false ∧ t.aon.gating.contains b = true ∧ ∀ f, t.isReady f = s.isReady f)) ∧
  (∀ (q : FabReq) (b : Nat) (s : State), b ∈ rwEnables → s.granted (enableWrite q b true s) → s.aon.clkEn < 2 ^ 64 → b ≠ 6 → Answers (.clkEnUngate q b) s
    (fun t => t.host.rspCode = 0 ∧ t.enabled b = true ∧ t.aon.clkEn = putBit s.aon.clkEn b true)) ∧
  (∀ (b f : Nat) (s : State), gateFn b = some f → s.aon.gating.contains b = true → Answers (.gateStop b) s (fun t =>
    t.isReady f = false ∧ t.aon.gating.contains b = false)) ∧
  (∀ (f : Nat) (s : State), s.fwMayStart f = true → Answers (.fwFunctionStart f) s (fun t => t.isReady f = true))

/-- START checks the descriptor and runs the channel (R462, R473); RESUME goes on after a bus error (R469); ABORT ends it once
its responses are in (R470); DISABLE ends the channels it names (R471); an answer is taken by the request it belongs to (R469);
a share window clears every channel's count (R467); the device takes a channel that waited for its host descriptor (R460). -/
def Obligations.DmaChannelCommands : Prop :=
  (∀ (q : FabReq) (c : Nat) (s : State), c < 16 → s.dma.ch.length = 16 → s.granted (writeBit q (0x20020 + 0x1000 * c) 0) →
    q.wdata.toNat % 8 = 0 → s.dmaDisabled c = false → ((s.dmaCh c).state = 0 ∨ (s.dmaCh c).state = 2 ∨ (s.dmaCh c).state = 3) →
    (s.dmaCh c).check = 0 → Answers (.dmaStart q c) s (fun t =>
      t.host.rspCode = 0 ∧ (t.dmaCh c).state = 1 ∧ (t.dmaCh c).errKind = 0 ∧ (t.dmaCh c).wrPos = 0 ∧
      (t.dmaCh c).src = (s.dmaCh c).src ∧ (t.dmaCh c).dst = (s.dmaCh c).dst ∧ (t.dmaCh c).lc = (s.dmaCh c).lc ∧
      ∀ d, d ≠ c → t.dmaCh d = s.dmaCh d)) ∧
  (∀ (q : FabReq) (c : Nat) (s : State), c < 16 → s.dma.ch.length = 16 → s.granted (writeBit q (0x20020 + 0x1000 * c) 1) →
    q.wdata.toNat % 8 = 0 → s.dmaDisabled c = false → (s.dmaCh c).state = 2 → (s.dmaCh c).errKind ≠ 2 →
    Answers (.dmaResume q c) s (fun t =>
      t.host.rspCode = 0 ∧ t.dmaCh c = { s.dmaCh c with state := 1 } ∧ ∀ d, d ≠ c → t.dmaCh d = s.dmaCh d)) ∧
  (∀ (q : FabReq) (c : Nat) (s : State), c < 16 → s.dma.ch.length = 16 → s.granted (writeBit q (0x20020 + 0x1000 * c) 2) →
    q.wdata.toNat % 8 = 0 → ((s.dmaCh c).state = 1 ∨ (s.dmaCh c).state = 2) → Answers (.dmaAbort q c) s (fun t =>
      t.host.rspCode = 0 ∧ (∀ d, d ≠ c → t.dmaCh d = s.dmaCh d) ∧
      (if (s.dmaCh c).waiting = 0 then (t.dmaCh c).state = 3 ∧ (t.dmaCh c).errKind = 3
       else t.dmaCh c = { s.dmaCh c with ending := 3 }))) ∧
  (∀ (q : FabReq) (s : State), s.granted (writeAt q 0x20F20) → q.wstrb % 256 ≠ 0 →
    (∀ c, (s.dmaCh c).state ≠ 1 ∧ (s.dmaCh c).state ≠ 2) → Answers (.dmaCtlWrite q) s (fun t =>
      t.host.rspCode = 0 ∧ t.dma = { s.dma with disable := mergeBytes s.dma.disable q.wdata.toNat q.wstrb % 65536 })) ∧
  (∀ (s : State) (c : Nat), s.isReady 12 = true → s.enabled 6 = true → s.obs.standing = false → s.portRoom = true →
    s.dmaPick = some c → exec .dmaRequestIssue s = .next (channel0 (dmaIssue c s))) ∧
  (∀ (s : State) (c n code : Nat) (data : BitVec 64) (r : DReq), c < s.dma.ch.length → (s.dmaCh c).out[n]? = some r → r.st = 0 →
    code % 8 ≠ 0 → 1 < (s.dmaCh c).waiting → (s.dmaCh c).ending = 0 → Answers (.dmaResponse c n code data) s (fun t =>
      (t.dmaCh c).out[n]? = some { r with st := 2, code := code % 8 } ∧ (t.dmaCh c).state = (s.dmaCh c).state ∧
      ∀ d, d ≠ c → t.dmaCh d = s.dmaCh d)) ∧
  (∀ s : State, s.aon.fabReleased = true → s.obs.standing = false → Answers .dmaShareWindow s (fun t =>
    (∀ c, (t.dmaCh c).used = 0 ∧ (t.dmaCh c).state = (s.dmaCh c).state) ∧ t.dma.windowNo = s.dma.windowNo + 1)) ∧
  (∀ (s : State) (c use : Nat), c < s.dma.ch.length → (s.dmaCh c).hostDue = true → ((s.dmaCh c).state = 0 ∨ (s.dmaCh c).state = 3) →
    Answers (.dmaDeviceTake c use) s (fun t =>
      (t.dmaCh c).state = 5 ∧ (t.dmaCh c).prior = (s.dmaCh c).state ∧ (t.dmaCh c).hostDue = false ∧
      kvGet t.dma.internalFor c = some use))

/-- Writes and reads of the observation range and the recorder's cursor blocks: the snapshot copies every counter at one instant
(R510); a select clears its counter (R508, R509); REQ drives STOP_REQ_OUT (R523, R524); a debug push is queued while the die
stands still (R525); a fetch takes the next visible record or none (R490); the seeks set NEXT (R489); REARM frees the first
violation's record (R566). -/
def Obligations.ObservationRegisterWrites : Prop :=
  (∀ (q : FabReq) (s : State), s.granted (writeBit q 0x30040 0) → Answers (.counterSnapshot q) s (fun t =>
    t.host.rspCode = 0 ∧ t.obs = { s.obs with shadow := s.obs.cnt, snapSeq := (s.obs.snapSeq + 1) % 65536, snapTick := s.tick % 2 ^ 32 })) ∧
  (∀ (q : FabReq) (n : Nat) (s : State), n < 16 → s.granted (writeAt q (0x30080 + 8 * n)) → q.wstrb % 256 ≠ 0 →
    Answers (.counterSelect q n) s (fun t =>
      t.host.rspCode = 0 ∧ t.obs.cnt = s.obs.cnt.set n 0 ∧
      t.obs.cntSel = s.obs.cntSel.set n (mergeBytes (s.obs.cntSel.getD n 0xFF00) q.wdata.toNat q.wstrb % 64 +
        256 * bits (mergeBytes (s.obs.cntSel.getD n 0xFF00) q.wdata.toNat q.wstrb) 15 8))) ∧
  (∀ (q : FabReq) (s : State), s.granted (writeAt q 0x30008) → bit q.wstrb 0 = true → Answers (.stopRequestWrite q) s (fun t =>
    t.host.rspCode = 0 ∧ t.obs.req = bit q.wdata.toNat 0 ∧ t.aon.stopReqOut = (bit q.wdata.toNat 0 || s.obs.trigReq))) ∧
  (∀ (q : FabReq) (s : State), s.granted (writeAt q 0x30508) → q.wstrb % 256 = 255 → s.obs.standing = true → s.obs.dbgQ.length < 32 →
    Answers (.debugPush q) s (fun t =>
      t.host.rspCode = 0 ∧ ∃ e, t.obs.dbgQ = s.obs.dbgQ ++ [e] ∧ e.1 = bits s.obs.dbgAddr 31 16 ∧ e.2.1 = bits s.obs.dbgAddr 15 8 ∧
        e.2.2.length = s.obs.dbgAddr % 16)) ∧
  (∀ (q : FabReq) (s : State), s.rcd.cursors.length = 66 →
    s.granted (readAt q (blockWord q 0x20)) → Answers (.cursorFetch q) s (fun t =>
      t.host.rspCode = 0 ∧ t.cursor (q.addr % 0x1000 / 0x40) = (cursorFetch (q.addr % 0x1000 / 0x40) s).cursor (q.addr % 0x1000 / 0x40) ∧
      t.host.rdata = (cursorFetch (q.addr % 0x1000 / 0x40) s).cursorWord (q.addr % 0x1000 / 0x40) 0x20 ∧
      ∀ n, n ≠ q.addr % 0x1000 / 0x40 → t.cursor n = s.cursor n)) ∧
  (∀ (q : FabReq) (s : State), s.rcd.cursors.length = 66 → s.granted (writeBit q (blockWord q 8) 11) → q.wdata = 0 → q.wstrb = 2 →
    Answers (.cursorSeekOld q) s (fun t =>
      t.host.rspCode = 0 ∧
      let c := s.cursor (q.addr % 0x1000 / 0x40)
      (t.cursor (q.addr % 0x1000 / 0x40)).next = (if s.oldest c = 0 then s.comingSeq c else s.oldest c))) ∧
  (∀ (q : FabReq) (s : State), s.rcd.cursors.length = 66 → s.granted (writeBit q (blockWord q 8) 12) → q.wdata = 0 → q.wstrb = 2 →
    Answers (.cursorSeekNew q) s (fun t =>
      t.host.rspCode = 0 ∧
      let c := s.cursor (q.addr % 0x1000 / 0x40)
      (t.cursor (q.addr % 0x1000 / 0x40)).next = (if s.newest c = 0 then s.comingSeq c else seqNext (s.newest c)))) ∧
  (∀ (q : FabReq) (s : State), s.granted (writeBit q 0x330 9) → Answers (.violRearm q) s (fun t =>
    t.host.rspCode = 0 ∧ t.host.viol.firstValid = false ∧ t.host.viol.count = s.host.viol.count ∧
    t.host.viol.firstA = s.host.viol.firstA ∧ t.host.viol.lastA = s.host.viol.lastA))

/-- The five words of a tile's SYNC client, for a well-formed word of a tile in use while the unit is on: BIND takes the map that
its partition owns (R442); SIGNAL raises the object's value by one, or counts it lost at 65,535 (R440); ACQUIRE of a non-zero
object takes one (R441); WAIT of one completes and takes nothing (R442); CANCEL drops the slot's wait (R442). The object is
the one that the slot's map gives the virtual ID (R436). -/
def Obligations.SyncTileWords : Prop :=
  (∀ (tile m p : Nat) (w : BitVec 64) (s : State), s.syncTakes tile 0 w.toNat p →
    s.waitOf (40 * tile + bits w.toNat 13 8) = none → bits w.toNat 41 32 = m → s.mapOwner m = some p →
    Answers (.syncBind tile w) s (fun t =>
      kvGet t.sync.bind_ (40 * tile + bits w.toNat 13 8) = some m ∧ t.sync.objs = s.sync.objs ∧ t.sync.waiters = s.sync.waiters ∧
      t.sync.notices = [(tile, syncWordOf 0 false false false (bits w.toNat 13 8) 0 0 0 (bits w.toNat 63 56))])) ∧
  (∀ (tile n p : Nat) (w : BitVec 64) (s : State), s.syncTakes tile 1 w.toNat p →
    s.xlate p (kvGet s.sync.bind_ (40 * tile + bits w.toNat 13 8)) (bits w.toNat 23 16) = .ok n → (s.sobj n).n = n →
    (s.sync.waiters.filter (fun x => x.obj = n && !x.woken)) = [] →
    Answers (.syncSignal tile w) s (fun t =>
      t.sobj n = (s.sobj n).signal (bits w.toNat 5 4) tile ∧ t.sync.waiters = s.sync.waiters ∧
      (if (s.sobj n).value = 65535 then (t.sobj n).value = 65535 ∧ (t.sobj n).sat = true ∧ (t.sobj n).lost = min 65535 ((s.sobj n).lost + 1)
       else (t.sobj n).value = (s.sobj n).value + 1) ∧ ∀ m, m ≠ n → t.sobj m = s.sobj m)) ∧
  (∀ (tile n p : Nat) (w : BitVec 64) (s : State), s.syncTakes tile 2 w.toNat p →
    s.waitOf (40 * tile + bits w.toNat 13 8) = none →
    s.xlate p (kvGet s.sync.bind_ (40 * tile + bits w.toNat 13 8)) (bits w.toNat 23 16) = .ok n → (s.sobj n).n = n →
    (s.sobj n).value ≠ 0 → (s.sobj n).includes (some tile) = true → Answers (.syncAcquire tile w) s (fun t =>
      (t.sobj n).value = (s.sobj n).value - 1 ∧ t.sync.waiters = s.sync.waiters ∧
      t.sync.notices = [(tile, syncWordOf 2 false false false (bits w.toNat 13 8) 1 0 ((s.sobj n).value - 1) (bits w.toNat 63 56))])) ∧
  (∀ (tile n p : Nat) (w : BitVec 64) (s : State), s.syncTakes tile 3 w.toNat p →
    s.waitOf (40 * tile + bits w.toNat 13 8) = none →
    s.xlate p (kvGet s.sync.bind_ (40 * tile + bits w.toNat 13 8)) (bits w.toNat 23 16) = .ok n →
    (s.sobj n).value ≠ 0 → (s.sobj n).includes (some tile) = true → Answers (.syncWait tile w) s (fun t =>
      t.sync.objs = s.sync.objs ∧ t.sync.waiters = s.sync.waiters ∧
      t.sync.notices = [(tile, syncWordOf 3 false false false (bits w.toNat 13 8) 0 0 (s.sobj n).value (bits w.toNat 63 56))])) ∧
  (∀ (tile p : Nat) (w : BitVec 64) (s : State) (r : Waiter), s.syncTakes tile 4 w.toNat p →
    s.waitOf (40 * tile + bits w.toNat 13 8) = some r → Answers (.syncCancel tile w) s (fun t =>
      t.sync.waiters = s.sync.waiters.filter (fun x => x.a ≠ 40 * tile + bits w.toNat 13 8) ∧ t.sync.objs = s.sync.objs))

/-- A doorbell write signals the object of the virtual ID with package scope (R446); a read of TRY_ACQUIRE takes one of an object
that the requester's scope includes and answers with what is left, and answers zero where there is none (R447).
The writes of the selected object (R434, R452): an assignment needs no registered wait on it and takes the
partition and its present generation, or none; a set of the value has package scope and the host's release; 1s written to
CLEAR clear SAT and SCOPE_FAULT. Every other object is as it was. -/
def Obligations.SyncDoorbellsAndWrites : Prop :=
  (∀ (q : FabReq) (v n : Nat) (s : State), v < 256 → s.granted { writeAt q (0x4000 + 8 * v) with wstrb := putBit q.wstrb 0 true } →
    s.xlate q.part (s.hostMap q.part) v = .ok n → (s.sobj n).n = n → (s.sync.waiters.filter (fun x => x.obj = n && !x.woken)) = [] →
    Answers (.doorbellSignal q v) s (fun t =>
      t.host.rspCode = 0 ∧ t.sobj n = (s.sobj n).signal 2 0xFFFF ∧ t.sync.waiters = s.sync.waiters)) ∧
  (∀ (q : FabReq) (v n : Nat) (s : State), v < 256 → s.granted (readAt q (0x5000 + 8 * v)) →
    s.xlate q.part (s.hostMap q.part) v = .ok n → (s.sobj n).n = n → (s.sobj n).value ≠ 0 → (s.sobj n).includes none = true →
    Answers (.doorbellTryAcquire q v) s (fun t =>
      t.host.rspCode = 0 ∧ (t.sobj n).value = (s.sobj n).value - 1 ∧ t.host.rdata = 1 + 2 ^ 16 * ((s.sobj n).value - 1))) ∧
  (∀ (q : FabReq) (v n : Nat) (s : State), v < 256 → s.granted (readAt q (0x5000 + 8 * v)) →
    s.xlate q.part (s.hostMap q.part) v = .ok n → (s.sobj n).value = 0 → Answers (.doorbellTryAcquire q v) s (fun t =>
      t.host.rspCode = 0 ∧ t.host.rdata = 0 ∧ t.sync.objs = s.sync.objs)) ∧
  (∀ (ch : ChanId) (val : List Byte) (s : State), s.takes ch 0x2400 3 val → s.waitersOn (s.pn 0x2400 1) = 0 →
    Answers (.syncOwnerAssign ch val) s (fun t =>
      t.doneOn ch ∧ (t.sobj (s.pn 0x2400 1)).owner = leVal val ∧
      (t.sobj (s.pn 0x2400 1)).gen = (if leVal val = 0xFF then 0 else s.genOf (leVal val)) ∧
      (t.sobj (s.pn 0x2400 1)).value = (s.sobj (s.pn 0x2400 1)).value ∧
      ∀ m, m ≠ s.pn 0x2400 1 → t.sobj m = s.sobj m)) ∧
  (∀ (ch : ChanId) (val : List Byte) (s : State), s.takes ch 0x2400 4 val →
    (leVal val = 0 ∨ s.sync.waiters = []) → Answers (.syncSetValue ch val) s (fun t =>
      t.doneOn ch ∧ t.sobj (s.pn 0x2400 1) =
        { s.sobj (s.pn 0x2400 1) with n := s.pn 0x2400 1, value := leVal val, relScope := 2, relTile := 0xFFFF } ∧
      ∀ m, m ≠ s.pn 0x2400 1 → t.sobj m = s.sobj m)) ∧
  (∀ (ch : ChanId) (val : List Byte) (s : State), s.takes ch 0x2400 5 val → Answers (.syncClearFlags ch val) s (fun t =>
    t.doneOn ch ∧ (t.sobj (s.pn 0x2400 1)).sat = ((s.sobj (s.pn 0x2400 1)).sat && !bit (leVal val) 0) ∧
    (t.sobj (s.pn 0x2400 1)).scopeFault = ((s.sobj (s.pn 0x2400 1)).scopeFault && !bit (leVal val) 1) ∧
    (t.sobj (s.pn 0x2400 1)).value = (s.sobj (s.pn 0x2400 1)).value ∧ ∀ m, m ≠ s.pn 0x2400 1 → t.sobj m = s.sobj m))

/-- R414's words that set x_D to a 64-bit word, each with the operands its word carries and below the step limit: NOP, LDI, LDIH,
MOV, LDM within the data words, AND, OR, XOR, NOT, SHL, SHR, SAR, ANDI, SEL, SLT, SEQ; and STM, which sets one data word.
Nothing else of the block changes. -/
def Obligations.JigMoveAndLogicWords : Prop :=
  (∀ (j : Nat) (s : State), s.jigNext j 0x00 none none none none none → Answers (.nop j) s (wordGoes s j ((s.jig j).pc + 1))) ∧
  (∀ (j d : Nat) (imm : BitVec 32) (s : State), s.jigNext j 0x01 (some d) none none none (some imm) →
    Answers (.ldi j d imm) s (wordSets s j d (imm.signExtend 64))) ∧
  (∀ (j d : Nat) (imm : BitVec 32) (s : State), s.jigNext j 0x02 (some d) none none none (some imm) →
    Answers (.ldih j d imm) s (wordSets s j d (imm ++ ((s.jig j).reg d).setWidth 32))) ∧
  (∀ (j d a : Nat) (s : State), s.jigNext j 0x03 (some d) (some a) none none none →
    Answers (.mov j d a) s (wordSets s j d ((s.jig j).reg a))) ∧
  (∀ (j d a n : Nat) (imm : BitVec 32) (s : State), s.jigNext j 0x04 (some d) (some a) none none (some imm) →
    ((s.jig j).reg a).toInt + imm.toInt = n → n < 128 →
    Answers (.ldm j d a imm) s (wordSets s j d ((s.jig j).data.getD n 0))) ∧
  (∀ (j a b n : Nat) (imm : BitVec 32) (s : State), s.jigNext j 0x05 none (some a) (some b) none (some imm) →
    ((s.jig j).reg a).toInt + imm.toInt = n → n < 128 → Answers (.stm j a b imm) s (fun t =>
      t = s.updJig j (fun g => { g with data := g.data.set n (g.reg b), steps := g.steps + 1, pc := g.pc + 1 }))) ∧
  (∀ (j d a b : Nat) (s : State), s.jigNext j 0x12 (some d) (some a) (some b) none none →
    Answers (.and j d a b) s (wordSets s j d ((s.jig j).reg a &&& (s.jig j).reg b))) ∧
  (∀ (j d a b : Nat) (s : State), s.jigNext j 0x13 (some d) (some a) (some b) none none →
    Answers (.or j d a b) s (wordSets s j d ((s.jig j).reg a ||| (s.jig j).reg b))) ∧
  (∀ (j d a b : Nat) (s : State), s.jigNext j 0x14 (some d) (some a) (some b) none none →
    Answers (.xor j d a b) s (wordSets s j d ((s.jig j).reg a ^^^ (s.jig j).reg b))) ∧
  (∀ (j d a : Nat) (s : State), s.jigNext j 0x15 (some d) (some a) none none none →
    Answers (.not j d a) s (wordSets s j d (~~~((s.jig j).reg a)))) ∧
  (∀ (j d a sh : Nat) (s : State), s.jigNext j 0x16 (some d) (some a) none (some sh) none →
    Answers (.shl j d a sh) s (wordSets s j d ((s.jig j).reg a <<< sh))) ∧
  (∀ (j d a sh : Nat) (s : State), s.jigNext j 0x17 (some d) (some a) none (some sh) none →
    Answers (.shr j d a sh) s (wordSets s j d ((s.jig j).reg a >>> sh))) ∧
  (∀ (j d a sh : Nat) (s : State), s.jigNext j 0x18 (some d) (some a) none (some sh) none →
    Answers (.sar j d a sh) s (wordSets s j d (((s.jig j).reg a).sshiftRight sh))) ∧
  (∀ (j d a : Nat) (imm : BitVec 32) (s : State), s.jigNext j 0x19 (some d) (some a) none none (some imm) →
    Answers (.andi j d a imm) s (wordSets s j d ((s.jig j).reg a &&& imm.signExtend 64))) ∧
  (∀ (j d a b : Nat) (s : State), s.jigNext j 0x1A (some d) (some a) (some b) none none →
    Answers (.sel j d a b) s (wordSets s j d (if (s.jig j).reg d ≠ 0 then (s.jig j).reg a else (s.jig j).reg b))) ∧
  (∀ (j d a b : Nat) (s : State), s.jigNext j 0x1B (some d) (some a) (some b) none none →
    Answers (.slt j d a b) s (wordSets s j d (if ((s.jig j).reg a).slt ((s.jig j).reg b) then 1 else 0))) ∧
  (∀ (j d a b : Nat) (s : State), s.jigNext j 0x1C (some d) (some a) (some b) none none →
    Answers (.seq j d a b) s (wordSets s j d (if (s.jig j).reg a = (s.jig j).reg b then 1 else 0)))

/-- R414's arithmetic words on signed 64-bit integers: each result is exact, a result outside 64 bits is the nearest bound and
counts one saturation (R413); a shift right rounds half towards plus infinity. Nothing else of the block changes. -/
def Obligations.JigArithmeticWords : Prop :=
  (∀ (j d a b : Nat) (s : State), s.jigNext j 0x06 (some d) (some a) (some b) none none →
    Answers (.add j d a b) s (wordSetsInt s j d (((s.jig j).reg a).toInt + ((s.jig j).reg b).toInt))) ∧
  (∀ (j d a : Nat) (imm : BitVec 32) (s : State), s.jigNext j 0x07 (some d) (some a) none none (some imm) →
    Answers (.addi j d a imm) s (wordSetsInt s j d (((s.jig j).reg a).toInt + imm.toInt))) ∧
  (∀ (j d a b : Nat) (s : State), s.jigNext j 0x08 (some d) (some a) (some b) none none →
    Answers (.sub j d a b) s (wordSetsInt s j d (((s.jig j).reg a).toInt - ((s.jig j).reg b).toInt))) ∧
  (∀ (j d a : Nat) (s : State), s.jigNext j 0x09 (some d) (some a) none none none →
    Answers (.neg j d a) s (wordSetsInt s j d (-((s.jig j).reg a).toInt))) ∧
  (∀ (j d a : Nat) (s : State), s.jigNext j 0x0A (some d) (some a) none none none →
    Answers (.abs j d a) s (wordSetsInt s j d (max ((s.jig j).reg a).toInt (-((s.jig j).reg a).toInt)))) ∧
  (∀ (j d a b : Nat) (s : State), s.jigNext j 0x0B (some d) (some a) (some b) none none →
    Answers (.mul j d a b) s (wordSetsInt s j d (((s.jig j).reg a).toInt * ((s.jig j).reg b).toInt))) ∧
  (∀ (j d a b sh : Nat) (s : State), s.jigNext j 0x0C (some d) (some a) (some b) (some sh) none →
    Answers (.mulsh j d a b sh) s (wordSetsInt s j d (rounded (((s.jig j).reg a).toInt * ((s.jig j).reg b).toInt) sh))) ∧
  (∀ (j d a sh : Nat) (imm : BitVec 32) (s : State), s.jigNext j 0x0D (some d) (some a) none (some sh) (some imm) →
    Answers (.mulish j d a sh imm) s (wordSetsInt s j d (rounded (((s.jig j).reg a).toInt * imm.toInt) sh))) ∧
  (∀ (j d a b : Nat) (s : State), s.jigNext j 0x0E (some d) (some a) (some b) none none → (s.jig j).reg b ≠ 0 →
    Answers (.div j d a b) s (wordSetsInt s j d (((s.jig j).reg a).toInt.tdiv ((s.jig j).reg b).toInt))) ∧
  (∀ (j d a b : Nat) (s : State), s.jigNext j 0x0F (some d) (some a) (some b) none none →
    Answers (.min j d a b) s (wordSetsInt s j d (min ((s.jig j).reg a).toInt ((s.jig j).reg b).toInt))) ∧
  (∀ (j d a b : Nat) (s : State), s.jigNext j 0x10 (some d) (some a) (some b) none none →
    Answers (.max j d a b) s (wordSetsInt s j d (max ((s.jig j).reg a).toInt ((s.jig j).reg b).toInt))) ∧
  (∀ (j d a b : Nat) (s : State), s.jigNext j 0x11 (some d) (some a) (some b) none none → Answers (.clamp j d a b) s
    (wordSetsInt s j d (min (max ((s.jig j).reg d).toInt ((s.jig j).reg a).toInt) ((s.jig j).reg b).toInt))) ∧
  (∀ (j d a sh : Nat) (imm : BitVec 32) (s : State), s.jigNext j 0x24 (some d) (some a) none (some sh) (some imm) →
    Answers (.filt j d a sh imm) s (wordSetsInt s j d (((s.jig j).reg d).toInt +
      rounded ((((s.jig j).reg a).toInt - ((s.jig j).reg d).toInt) * imm.toInt) sh))) ∧
  (∀ (j d a b sh : Nat) (imm : BitVec 32) (s : State), s.jigNext j 0x25 (some d) (some a) (some b) (some sh) (some imm) →
    Answers (.integ j d a b sh imm) s (wordSetsInt s j d (max (-|((s.jig j).reg b).toInt|) (min |((s.jig j).reg b).toInt|
      (((s.jig j).reg d).toInt + rounded (((s.jig j).reg a).toInt * imm.toInt) sh))))) ∧
  (∀ (j d a b : Nat) (s : State), s.jigNext j 0x26 (some d) (some a) (some b) none none →
    Answers (.deadb j d a b) s (wordSetsInt s j d (if |((s.jig j).reg a).toInt| ≤ |((s.jig j).reg b).toInt| then 0
      else if 0 < ((s.jig j).reg a).toInt then ((s.jig j).reg a).toInt - |((s.jig j).reg b).toInt|
      else ((s.jig j).reg a).toInt + |((s.jig j).reg b).toInt|))) ∧
  (∀ (j d a b : Nat) (s : State), s.jigNext j 0x27 (some d) (some a) (some b) none none →
    Answers (.slew j d a b) s (wordSetsInt s j d (((s.jig j).reg d).toInt + max (-|((s.jig j).reg b).toInt|)
      (min |((s.jig j).reg b).toInt| (((s.jig j).reg a).toInt - ((s.jig j).reg d).toInt)))))

/-- R414's branches go on with word IMM where their condition holds and with the next word otherwise; JMP always goes to IMM; END
ends the activation, whose data words written meanwhile come into force (R433). -/
def Obligations.JigBranchWords : Prop :=
  (∀ (j a b : Nat) (imm : BitVec 32) (s : State), s.jigNext j 0x1D none (some a) (some b) none (some imm) →
    Answers (.beq j a b imm) s (wordGoes s j (if (s.jig j).reg a = (s.jig j).reg b then imm.toNat else (s.jig j).pc + 1))) ∧
  (∀ (j a b : Nat) (imm : BitVec 32) (s : State), s.jigNext j 0x1E none (some a) (some b) none (some imm) →
    Answers (.bne j a b imm) s (wordGoes s j (if (s.jig j).reg a = (s.jig j).reg b then (s.jig j).pc + 1 else imm.toNat))) ∧
  (∀ (j a b : Nat) (imm : BitVec 32) (s : State), s.jigNext j 0x1F none (some a) (some b) none (some imm) →
    Answers (.blt j a b imm) s
      (wordGoes s j (if ((s.jig j).reg a).slt ((s.jig j).reg b) then imm.toNat else (s.jig j).pc + 1))) ∧
  (∀ (j a b : Nat) (imm : BitVec 32) (s : State), s.jigNext j 0x20 none (some a) (some b) none (some imm) →
    Answers (.bge j a b imm) s
      (wordGoes s j (if ((s.jig j).reg a).slt ((s.jig j).reg b) then (s.jig j).pc + 1 else imm.toNat))) ∧
  (∀ (j a : Nat) (imm : BitVec 32) (s : State), s.jigNext j 0x21 none (some a) none none (some imm) →
    Answers (.bz j a imm) s (wordGoes s j (if (s.jig j).reg a = 0 then imm.toNat else (s.jig j).pc + 1))) ∧
  (∀ (j : Nat) (imm : BitVec 32) (s : State), s.jigNext j 0x22 none none none none (some imm) →
    Answers (.jmp j imm) s (wordGoes s j imm.toNat)) ∧
  (∀ (j : Nat) (s : State), s.jigNext j 0x23 none none none none none → Answers (.end_ j) s (fun t =>
    (t.jig j).active = false ∧ (t.jig j).state = 2 ∧ (t.jig j).dataNext = none ∧
    (t.jig j).data = (s.jig j).dataNext.getD (s.jig j).data ∧ (∀ k, k ≠ j → t.jig k = s.jig k) ∧
    t.cl = s.cl ∧ t.obj = s.obj))

/-- RDTEL reads the live value of its kind (R415); POST posts its word as reason 3 or 4 (R417); EVENT records 0x0E10; ACTN and
ELAPSED read the activation's numbers, of which the first activation's ELAPSED is any value; TRACE hands the Scribe a record;
RDOBJ and WROBJ of a plain numeric object go through the Cut List engine and leave their abort code 0 (R416). -/
def Obligations.JigWordsOutside : Prop :=
  (∀ (j d : Nat) (imm : BitVec 32) (s : State), s.jigNext j 0x28 (some d) none none none (some imm) →
    let kind := imm.toNat / 2 ^ 24
    let n := imm.toNat % 65536
    (kind = 0 → Answers (.rdtel j d imm) s (wordSets s j d (BitVec.ofNat 64 s.tick))) ∧
    (kind = 1 → n < 6 → Answers (.rdtel j d imm) s (wordSets s j d (BitVec.ofNat 64 (s.rail n).vout))) ∧
    (kind = 4 → Answers (.rdtel j d imm) s (wordSets s j d (BitVec.ofNat 64 s.cap.pDie))) ∧
    (kind = 6 → n < 256 → Answers (.rdtel j d imm) s (wordSets s j d (BitVec.ofNat 64 (s.region n).mon)))) ∧
  (∀ (j a : Nat) (imm : BitVec 32) (s : State), s.jigNext j 0x2B none (some a) none none (some imm) → imm = 3 →
    Answers (.post j a imm) s (fun t => (t.jig j).post3 = some (((s.jig j).reg a).toNat % 2 ^ 32) ∧
      (t.jig j).post4 = (s.jig j).post4 ∧ (t.jig j).regs = (s.jig j).regs ∧ (t.jig j).pc = (s.jig j).pc + 1)) ∧
  (∀ (j a : Nat) (imm : BitVec 32) (s : State), s.jigNext j 0x2B none (some a) none none (some imm) → imm = 4 →
    Answers (.post j a imm) s (fun t => (t.jig j).post4 = some (((s.jig j).reg a).toNat % 2 ^ 32) ∧
      (t.jig j).post3 = (s.jig j).post3 ∧ (t.jig j).regs = (s.jig j).regs ∧ (t.jig j).pc = (s.jig j).pc + 1)) ∧
  (∀ (j a : Nat) (imm : BitVec 32) (s : State), s.jigNext j 0x2C none (some a) none none (some imm) →
    Answers (.event j a imm) s (fun t =>
      t.rcd = (raise 0x0E10 0 (j + 65536 * (imm.toNat % 65536)) (((s.jig j).reg a).toNat % 2 ^ 32) s).rcd ∧
      t.jig j = { s.jig j with steps := (s.jig j).steps + 1, pc := (s.jig j).pc + 1 })) ∧
  (∀ (j d : Nat) (s : State), s.jigNext j 0x2E (some d) none none none none →
    Answers (.actn j d) s (wordSets s j d (BitVec.ofInt 64 (s.num (0x2310 + j) 0x0B)))) ∧
  (∀ (j d : Nat) (s : State), s.jigNext j 0x2F (some d) none none none none →
    (∀ n, (s.jig j).gap = some n → Answers (.elapsed j d) s (wordSets s j d (BitVec.ofNat 64 n))) ∧
    ((s.jig j).gap = none → Answers (.elapsed j d) s (fun t => ∃ x, wordSets s.takeFree j d x t))) ∧
  (∀ (j a : Nat) (s : State), s.jigNext j 0x2D none (some a) none none none → Answers (.trace j a) s (fun t =>
    t.obs = (scribePut 0x0C j (s.jig j).pc ((s.jig j).reg a).toNat s).obs ∧
    t.jig j = { s.jig j with steps := (s.jig j).steps + 1, pc := (s.jig j).pc + 1 })) ∧
  (∀ (j d b i sub : Nat) (imm : BitVec 32) (s : State) (r : Row), s.jigNext j 0x29 (some d) none (some b) none (some imm) →
    i = imm.toNat / 65536 → sub = imm.toNat / 256 % 256 → j < s.cl.jig.length → s.clQuiet → (s.jig j).objs < (s.jig j).objLimit →
    d < (s.jig j).regs.length → b < (s.jig j).regs.length → b ≠ d →
    dictRow i sub = some r → r.ty.size.isSome = true → i < 0x2400 → fwOwned i sub = false →
    (s.jigAsking j 1 i sub []).checks { cls := 3, part := 0, level := 0x0200, ch := .jig j } 1 i sub = 0 →
    Answers (.rdobj j d b imm) s (fun t => (t.jig j).reg b = 0 ∧ (t.jig j).objs = (s.jig j).objs + 1 ∧
      (t.jig j).reg d = BitVec.ofInt 64 (r.ty.num (r.ty.bytes ((s.jigAsking j 1 i sub []).objNum (.jig j) i sub))))) ∧
  (∀ (j d a i sub : Nat) (imm : BitVec 32) (s u : State) (r : Row), s.jigNext j 0x2A (some d) (some a) none none (some imm) →
    i = imm.toNat / 65536 → sub = imm.toNat / 256 % 256 → j < s.cl.jig.length → s.clQuiet → (s.jig j).objs < (s.jig j).objLimit →
    d < (s.jig j).regs.length → s.jigMayWrite j i sub = true → dictRow i sub = some r → r.ty.size.isSome = true →
    r.ty.holds ((s.jig j).int a) = true →
    let b := r.ty.bytes ((s.jig j).int a)
    let w : Who := { cls := 3, part := 0, level := 0x0200, ch := .jig j }
    let v := r.rg.clip (r.ty.num b)
    r.ty.fits b.length = true → r.inRange b = true → (s.jigAsking j 3 i sub b).servedHere i sub v.toNat →
    (s.jigAsking j 3 i sub b).checks w 3 i sub = 0 → objWrite w i sub v b (s.jigAsking j 3 i sub b) = .ok u →
    u.dowel = (s.jigAsking j 3 i sub b).dowel → u.cl = (s.jigAsking j 3 i sub b).cl →
    Answers (.wrobj j d a imm) s (fun t => (t.jig j).reg d = 0 ∧ (t.jig j).objs = (s.jig j).objs + 1 ∧
      ∀ p, p ∉ [Part.cl, .obj, .dowel] → p.same u t))

/-- Where R420 makes a word fault its jig: the word that reaches the step limit (1), an object step beyond the limit (2), a data
address outside 0 to 127 (3), a division by zero (4), an unknown telemetry kind (5), a reason other than 3 and 4 (6), and a
write that the jig may not make (7). The jig stops at that word, its posts are withdrawn, and no other jig changes. -/
def Obligations.JigFaultCodes : Prop :=
  (∀ (j d a b : Nat) (s : State), s.jigAt j 0x06 (some d) (some a) (some b) none none = true → j < s.dowel.jigs.length →
    (s.jig j).stepLimit ≤ (s.jig j).steps + 1 → Answers (.add j d a b) s (fun t =>
      (t.jig j).state = 3 ∧ (t.jig j).active = false ∧ (t.jig j).faultCode = 1 ∧ (t.jig j).faultWord = (s.jig j).pc)) ∧
  (∀ (j d b : Nat) (imm : BitVec 32) (s : State), s.jigNext j 0x29 (some d) none (some b) none (some imm) →
    (s.jig j).objLimit ≤ (s.jig j).objs → Answers (.rdobj j d b imm) s (jigFaulted s j 2)) ∧
  (∀ (j d a : Nat) (imm : BitVec 32) (s : State), s.jigNext j 0x04 (some d) (some a) none none (some imm) →
    (((s.jig j).reg a).toInt + imm.toInt < 0 ∨ 128 ≤ ((s.jig j).reg a).toInt + imm.toInt) →
    Answers (.ldm j d a imm) s (jigFaulted s j 3)) ∧
  (∀ (j a b : Nat) (imm : BitVec 32) (s : State), s.jigNext j 0x05 none (some a) (some b) none (some imm) →
    (((s.jig j).reg a).toInt + imm.toInt < 0 ∨ 128 ≤ ((s.jig j).reg a).toInt + imm.toInt) →
    Answers (.stm j a b imm) s (fun t => jigFaulted s j 3 t ∧ (t.jig j).settle.data = (s.jig j).settle.data)) ∧
  (∀ (j d a b : Nat) (s : State), s.jigNext j 0x0E (some d) (some a) (some b) none none → (s.jig j).reg b = 0 →
    Answers (.div j d a b) s (fun t => jigFaulted s j 4 t ∧ (t.jig j).regs = (s.jig j).regs)) ∧
  (∀ (j d : Nat) (imm : BitVec 32) (s : State), s.jigNext j 0x28 (some d) none none none (some imm) →
    (9 ≤ imm.toNat / 2 ^ 24 ∨ imm.toNat / 2 ^ 24 = 1 ∧ 6 ≤ imm.toNat % 65536 ∨ imm.toNat / 2 ^ 24 = 6 ∧ 256 ≤ imm.toNat % 65536) →
    Answers (.rdtel j d imm) s (jigFaulted s j 5)) ∧
  (∀ (j a : Nat) (imm : BitVec 32) (s : State), s.jigNext j 0x2B none (some a) none none (some imm) → imm ≠ 3 → imm ≠ 4 →
    Answers (.post j a imm) s (jigFaulted s j 6)) ∧
  (∀ (j d a : Nat) (imm : BitVec 32) (s : State), s.jigNext j 0x2A (some d) (some a) none none (some imm) →
    (s.jig j).objs < (s.jig j).objLimit → (s.permits j).contains (imm.toNat / 65536, imm.toNat / 256 % 256) = false →
    Answers (.wrobj j d a imm) s (jigFaulted s j 7))

/-- R409: a task spawned on an engine whose deque of 64 is full goes to the overflow queue of 1,024; with that full too it runs
inline, so no queue takes it, and the overflow count 0x2300.04 rises (to its limit). An idle engine takes the first task of the
overflow queue; only from an empty one does it steal. -/
def Obligations.TaskSpawnAndSteal : Prop :=
  (∀ (e task : Nat) (s : State), (s.engine e).state = 1 → s.obs.standing = false → 64 ≤ (s.engine e).deque.length →
    s.dowel.overflow.length < 1024 → Answers (.taskSpawn e task) s (fun t =>
      t.dowel = { s.dowel with overflow := s.dowel.overflow ++ [task] } ∧ t.obj = s.obj)) ∧
  (∀ (e task : Nat) (s : State), (s.engine e).state = 1 → s.obs.standing = false → 64 ≤ (s.engine e).deque.length →
    1024 ≤ s.dowel.overflow.length → Answers (.taskSpawn e task) s (fun t =>
      t.dowel = s.dowel ∧ t.num 0x2300 4 = min 0xFFFFFFFF (s.num 0x2300 4 + 1))) ∧
  (∀ (e x : Nat) (l : List Nat) (s : State), e < s.dowel.engines.length → (s.engine e).state = 1 → s.obs.standing = false →
    (s.engine e).deque = [] → s.pinBusy e = false → s.dowel.overflow = x :: l → Answers (.engineSteal e) s (fun t =>
      (t.engine e).running = some x ∧ t.dowel.overflow = l ∧ ∀ k, k ≠ e → t.engine k = s.engine k)) ∧
  (∀ (e v x : Nat) (l : List Nat) (s : State), e < s.dowel.engines.length → v < s.dowel.engines.length → (s.engine e).state = 1 →
    s.obs.standing = false → (s.engine e).deque = [] → s.pinBusy e = false → s.dowel.overflow = [] → s.victim e = some v →
    (s.engine v).deque = l ++ [x] → Answers (.engineSteal e) s (fun t =>
      (t.engine e).running = some x ∧ (t.engine v).deque = l ∧ ∀ k, k ≠ e → k ≠ v → t.engine k = s.engine k))

/-- At an instant of its period a started jig begins an activation with its registers at zero (R407, R410); an activation that
passes its deadline is a miss (R410); a spawned task goes to its engine's deque (R408). A firmware task's own numbers are
firmware's: the statement holds for each. -/
def Obligations.PinnedActivations : Prop :=
  (∀ (j : Nat) (s : State), j < s.dowel.jigs.length → (s.jig j).state = 2 → (s.jig j).active = false → s.isReady 13 = true →
    s.obs.standing = false → Answers (.pinnedActivation (.jig j)) s (fun t =>
      (t.jig j).active = true ∧ (t.jig j).regs = List.replicate 16 0 ∧ (t.jig j).pc = 0 ∧ (t.jig j).steps = 0 ∧ (t.jig j).objs = 0 ∧
      (t.jig j).startAt = (s.jig j).nextAt ∧ (t.jig j).data = (s.jig j).data ∧ (t.jig j).image = (s.jig j).image ∧
      (t.jig j).nextAt = (s.jig j).nextAt + us (s.pn (0x2310 + j) 3) ∧ ∀ k, k ≠ j → t.jig k = s.jig k)) ∧
  (∀ (id : Nat) (s : State), s.isReady 13 = true → s.obs.standing = false → (∀ p ∈ s.dowel.pins, p.id ≠ id) →
    Answers (.pinnedActivation (.firm id)) s (fun t => ∃ p, t.dowel.pins = s.dowel.pins ++ [p] ∧ p.id = id ∧ p.late = false ∧
      p.startAt = some s.aon.clock ∧ p.eng < 16 ∧ 0 < p.deadline ∧ p.deadline ≤ p.period ∧
      p.nextAt = s.aon.clock + 4 * p.period)) ∧
  (∀ (j : Nat) (s : State), j < s.dowel.jigs.length → (s.jig j).state = 2 → (s.jig j).active = true → (s.jig j).missed = false →
    s.obs.standing = false → (s.jig j).badRun < 15 → Answers (.activationDeadlineMiss (.jig j)) s (fun t =>
      (t.jig j).missed = true ∧ (t.jig j).bad = true ∧ (t.jig j).state = 2 ∧ (t.jig j).active = true ∧
      bit t.dowel.flags 1 = true)) ∧
  (∀ (e task : Nat) (s : State), e < s.dowel.engines.length → (s.engine e).state = 1 → s.obs.standing = false →
    (s.engine e).deque.length < 64 → Answers (.taskSpawn e task) s (fun t =>
      (t.engine e).deque = task :: (s.engine e).deque ∧ t.dowel.overflow = s.dowel.overflow ∧ ∀ k, k ≠ e → t.engine k = s.engine k))

/-- A drained engine reloads, with its pinned tasks on its partner (R423); a reloaded engine starts; a started engine runs the new
image and the next engine drains (R423); a drain or a start beyond its limit rolls the update back (R424); a watchdog expiry
reloads its engine (R427); the copy of an image to flash ends with the image in its slot, or with an error (R422). -/
def Obligations.EngineUpdates : Prop :=
  (∀ (e : Nat) (s : State), e < s.dowel.engines.length → (s.engine e).state = 2 → s.obs.standing = false →
    (s.engine e).running = none → Answers (.engineDrainDone e) s (fun t =>
      (t.engine e).state = 3 ∧ (t.engine e).stepAt = s.aon.clock ∧ (t.engine e).deque = (s.engine e).deque ∧
      (∀ j, j < s.dowel.jigs.length → s.jigEng j = e → (t.jig j).onPartner = true) ∧ ∀ k, k ≠ e → t.engine k = s.engine k)) ∧
  (∀ (e : Nat) (s : State), e < s.dowel.engines.length → (s.engine e).state = 3 → s.obs.standing = false →
    Answers (.engineReloadDone e) s (fun t =>
      (t.engine e).state = 4 ∧ (t.engine e).stepAt = s.aon.clock ∧ ∀ k, k ≠ e → t.engine k = s.engine k)) ∧
  (∀ (e n : Nat) (s : State), e < s.dowel.engines.length → n < s.dowel.engines.length → (s.engine e).state = 4 → s.obs.standing = false →
    s.dowel.updEng = some e → s.dowel.rollback = false → e < n → (s.engine n).state ≠ 5 →
    (∀ k, e < k → k < n → (s.engine k).state = 5) → n < 32 → Answers (.engineStartDone e) s (fun t =>
      (t.engine e).state = 1 ∧ (t.engine e).new = true ∧ (t.engine n).state = 2 ∧ t.dowel.updEng = some n)) ∧
  (∀ (e : Nat) (s : State), e < s.dowel.engines.length → (s.engine e).state = 2 → s.dowel.updating = true → s.dowel.rollback = false →
    s.obs.standing = false → (∀ k, k < 32 → (s.engine k).new = false) → Answers (.engineDrainTimeout e) s (fun t =>
      (t.engine e).state = 1 ∧ t.dowel.updating = false ∧ t.dowel.rollback = false ∧ t.num 0x2300 6 = 2 ∧
      bit t.dowel.flags 4 = true)) ∧
  (∀ (e : Nat) (s : State), e < 32 → s.dowel.engines.length = 32 → (s.engine e).state = 4 → s.dowel.updating = true →
    s.dowel.updEng = some e → s.dowel.rollback = false → s.obs.standing = false →
    (∀ k, e < k → k < 32 → (s.engine k).new = false) → Answers (.engineStartTimeout e) s (fun t =>
      (t.engine e).state = 2 ∧ t.dowel.rollback = true ∧ t.dowel.updEng = some e ∧ t.num 0x2300 6 = 3)) ∧
  (∀ (e : Nat) (s : State), e < s.dowel.engines.length → (s.engine e).state = 1 → s.obs.standing = false →
    s.dowel.updating = false → s.dowel.updLastAt = none → (s.engine e).wdogHist = [] → Answers (.engineWatchdogExpiry e) s (fun t =>
      (t.engine e).state = 3 ∧ (t.engine e).running = none ∧ (t.engine e).wdogCnt = min 65535 ((s.engine e).wdogCnt + 1) ∧
      (t.engine e).wdogHist = [s.aon.clock] ∧ bit t.dowel.flags 0 = true)) ∧
  (∀ (a b : Nat) (img : Image) (s : State), s.dowel.flashCopy = some (a, b, 1) → Answers (.flashImageWriteDone 0 img) s (fun t =>
    t.dowel.flashCopy = none ∧ t.flash.imgA = img ∧ t.flash.imgCopy = 2 ∧ t.flash.imgErr = 0 ∧ t.flash.imgB = s.flash.imgB)) ∧
  (∀ (a b c err : Nat) (img : Image) (s : State), s.dowel.flashCopy = some (a, b, c) → err ≠ 0 →
    Answers (.flashImageWriteDone err img) s (fun t =>
      t.dowel.flashCopy = none ∧ t.flash.imgCopy = 3 ∧ t.flash.imgErr = err ∧ t.flash.imgA = s.flash.imgA ∧ t.flash.imgB = s.flash.imgB))

/-- The timers of rail protection that run out raise their fault, which is in recovery where the rail's context was free: an
over-current hold beyond the peak time (PH_OC, S1), fold-back (S2), the fold-back limit (HARD_OC, S3), OV_PERSIST (S4), UV at S2
and at S3, a phase found failed open, and FE (S1). S3 puts the rail in SAFE, S4 takes THERMTRIP_N low, and STG_FLT takes every
running rail to SAFE. -/
def Obligations.RailFaultsRaised : Prop :=
  (∀ (n k a : Nat) (s : State), n < s.phases.length → (s.phase n).ctrl = k → k < 6 → k < s.prot.ctxs.length →
    (s.phase n).ocAt = some a → (s.phase n).ocLong = false → (s.ctx k).cur = none → Answers (.phOcPeakExpiry n) s (fun t =>
      (t.phase n).ocLong = true ∧ (t.phase n).count = min 255 ((s.phase n).count + 1) ∧ t.recovers k 0x0301 1 n)) ∧
  (∀ (k : Nat) (s : State), k < s.rails.length → k < 6 → k < s.prot.ctxs.length → s.railUsed k = true →
    s.pn (0x3300 + k) 3 ≤ (s.rail k).peakTimer → (s.rail k).fold = false → (s.ctx k).cur = none →
    Answers (.peakTimerExpiry k) s (fun t => (t.rail k).fold = true ∧ (t.rail k).foldTimer = 0 ∧ t.recovers k 0x0302 2 0xFF)) ∧
  (∀ (k : Nat) (s : State), k < s.rails.length → k < 6 → k < s.prot.ctxs.length → s.railUsed k = true → (s.rail k).fold = true →
    s.pn (0x3300 + k) 7 ≤ (s.rail k).foldTimer → (s.ctx k).cur = none → Answers (.foldbackLimitExpiry k) s (fun t =>
      (t.rail k).state = 5 ∧ t.recovers k 0x0303 3 0xFF)) ∧
  (∀ (k : Nat) (s : State), k < s.rails.length → k < 6 → k < s.prot.ctxs.length → s.railUsed k = true → (s.rail k).state = 5 →
    s.aboveOv k = true → (s.ctx k).cur = none → Answers (.ovPersist k) s (fun t =>
      t.aon.thermtripN = false ∧ t.clk.running = false ∧ t.recovers k 0x030F 4 0xFF)) ∧
  (∀ (k a : Nat) (s : State), k < s.rails.length → k < 6 → k < s.prot.ctxs.length → (s.rail k).uvFrom = some a →
    (s.rail k).uvRaised = 0 → (s.ctx k).cur = none → Answers (.uv k) s (fun t =>
      (t.rail k).uvRaised = 1 ∧ (t.rail k).uvFrom = some a ∧ t.recovers k 0x0305 2 0xFF)) ∧
  (∀ (k a : Nat) (s : State), k < s.rails.length → k < 6 → k < s.prot.ctxs.length → s.railUsed k = true → (s.rail k).uvFrom = some a →
    (s.rail k).uvRaised = 1 → (s.ctx k).cur = none → Answers (.uvS3Expiry k) s (fun t =>
      (t.rail k).state = 5 ∧ t.recovers k 0x0305 3 0xFF)) ∧
  (∀ s : State, s.aon.porN = true → s.prot.stgFlt = false → s.rails.length = 6 → Answers .stgFlt s (fun t =>
    t.prot.stgFlt = true ∧ ∀ k, k < 6 → s.railUsed k = true → (s.rail k).state ≠ 0 → (t.rail k).state = 5)) ∧
  (∀ (n k : Nat) (s : State), n < s.phases.length → (s.phase n).ctrl = k → k < 6 → (s.phase n).suspect = true →
    Answers (.phaseSuspect n) s (fun t =>
      (t.phase n).state = (if s.sumCheckOpen k = true then 5 else 6) ∧ (t.phase n).wasFailed = true ∧ (t.phase n).suspect = false)) ∧
  (∀ (k : Nat) (s : State), k < s.rails.length → k < 6 → k < s.prot.ctxs.length → (s.rail k).ffForce = true →
    s.pn (0x3300 + k) 0x11 ≤ (s.rail k).feTimer → (s.ctx k).cur = none → Answers (.feTimerExpiry k) s (fun t =>
      (t.rail k).ffForce = false ∧ (t.rail k).prepos = 0 ∧ (t.rail k).feAt = some s.aon.clock ∧ k ∈ t.ff.withdrawnSfe ∧
      t.recovers k 0x0309 1 0xFF))

/-- Fold-back ends with its timers cleared (R204); an S1 fault leaves recovery after the S1 hold and an S2 fault at the end of its
hold (R221, R226); a rail in SAFE with retries left, enabled and whose SAFE may be released starts again and uses one retry;
10 s after an S3 the retries are full again (R223). -/
def Obligations.RailHoldsEnd : Prop :=
  (∀ (k a : Nat) (s : State), k < s.rails.length → (s.rail k).fold = true → (s.rail k).foldLowFrom = some a →
    Answers (.foldbackHoldExpiry k) s (fun t => t.rail k =
      { s.rail k with fold := false, foldTimer := 0, foldLowFrom := none, peakTimer := 0 } ∧ ∀ j, j ≠ k → t.rail j = s.rail j)) ∧
  (∀ (c : Nat) (f : Fault_) (s : State), c < s.prot.ctxs.length → s.ctx c = { cur := some f } → f.sev = 1 →
    Answers (.s1HoldExpiry c) s (fun t => t.ctx c = {} ∧ ∀ d, d ≠ c → t.ctx d = s.ctx d)) ∧
  (∀ (c : Nat) (f g : Fault_) (s : State), c < s.prot.ctxs.length → s.ctx c = { cur := some f, latched := [g] } → f.sev = 1 →
    Answers (.s1HoldExpiry c) s (fun t =>
      ∃ n, t.ctx c = { cur := some { g with since := n } } ∧ s.aon.clock ≤ n)) ∧
  (∀ (c : Nat) (f : Fault_) (s : State), c < s.prot.ctxs.length → s.ctx c = { cur := some f } → f.sev = 2 → f.code = 0x0307 →
    Answers (.s2HoldExpiry c) s (fun t => t.ctx c = {})) ∧
  (∀ (k a : Nat) (s : State), k < s.rails.length → (s.rail k).state = 5 → (s.rail k).restartAt = some a → (s.rail k).retries ≠ 0 →
    (s.rail k).enable = true → (advanceTo a s).mayRelease k = true → Answers (.restartDelayExpiry k) s (fun t =>
      (t.rail k).state = 1 ∧ (t.rail k).retries = (s.rail k).retries - 1 ∧ (t.rail k).ref = 0 ∧ (t.rail k).prebias = true ∧
      ∀ j, j ≠ k → t.rail j = s.rail j)) ∧
  (∀ (k a : Nat) (s : State), k < s.rails.length → (s.rail k).s3At = some a → Answers (.retryRefill k) s (fun t =>
    (t.rail k).retries = (advanceTo (a + ms 10000) s).pn (0x3300 + k) 0x14 ∧ (t.rail k).s3At = none ∧
    (t.rail k).state = (s.rail k).state ∧ ∀ j, j ≠ k → t.rail j = s.rail j))

/-- A shed starts on the head of the run (R180); its ramp's end leaves the phase idle, or out of service where it was to be
removed (R180, R182); a rotation step joins the next idle member and sheds the head (R176); the synchronisation input qualifies,
a rail locks to it, and its loss releases every rail (R184, R185). -/
def Obligations.RailPhasesMove : Prop :=
  (∀ (k n a : Nat) (s : State), k < s.rails.length → n < s.phases.length → (s.rail k).shedFrom = some a → s.headPhase k = some n →
    (s.rail k).state = 2 → (s.rail k).shedding = none → s.pn (0x3100 + k) 0x0E = 1 → s.nReq k + 1 ≤ s.nFire k →
    s.inhibited k = false → Answers (.shedStart k) s (fun t =>
      (t.phase n).state = 4 ∧ (t.rail k).shedding = some n ∧ (∀ m, m ≠ n → t.phase m = s.phase m) ∧
      ∀ j, j ≠ k → t.rail j = s.rail j)) ∧
  (∀ (k n : Nat) (s : State), k < s.rails.length → n < s.phases.length → (s.rail k).shedding = some n →
    Answers (.shedRampEnd k) s (fun t =>
      (t.phase n).state = (if (s.phase n).removing then 1 else 2) ∧ (t.phase n).removing = false ∧ (t.phase n).onTime = 0 ∧
      (t.rail k).shedding = none ∧ (t.rail k).rotBusy = false ∧ (∀ m, m ≠ n → (t.phase m).state = (s.phase m).state) ∧
      ∀ j, j ≠ k → t.rail j = s.rail j)) ∧
  (∀ (k i n : Nat) (s : State), k < s.rails.length → i < s.phases.length → n < s.phases.length → i ≠ n → s.nextIdle k = some i →
    s.headPhase k = some n → (s.rail k).state = 2 → s.pn 0x3000 5 ≠ 0 → (s.rail k).shedding = none → (s.rail k).rotBusy = false →
    s.inhibited k = false → Answers (.rotationStep k) s (fun t =>
      (t.phase i).state = 3 ∧ (t.phase n).state = 4 ∧ (t.rail k).shedding = some n ∧ (t.rail k).rotBusy = true)) ∧
  (∀ (period : Nat) (s : State), s.aon.ctlReleased = true → s.prot.syncOk = false → 6400 ≤ period → period ≤ 32000 →
    Answers (.regSyncQualify period) s (fun t =>
      t.prot = { s.prot with syncOk := true, syncPeriod := period } ∧
      ∀ k, k < 6 → k < s.rails.length → (s.rail k).regSync = 0 → t.syncCan k = true → (t.rail k).regSync = 1)) ∧
  (∀ (k : Nat) (s : State), k < s.rails.length → s.prot.syncOk = true → (s.rail k).regSync = 1 → Answers (.regSyncLock k) s (fun t =>
    t.rail k = { s.rail k with regSync := 2, period := s.prot.syncPeriod } ∧ (∀ j, j ≠ k → t.rail j = s.rail j) ∧ t.prot = s.prot)) ∧
  (∀ s : State, s.prot.syncOk = true → Answers .regSyncLoss s (fun t =>
    t.prot = { s.prot with syncOk := false } ∧ t.rails = s.rails.map (fun r => { r with regSync := 0 }) ∧ t.phases = s.phases))

/-- At a sample boundary every controller that is not OFF takes its sample of 12 bits (R160, R190); a conversion takes the 16
phase currents, each its gain times the difference of its input and the reference plus its offset (R161). -/
def Obligations.RailSamples : Prop :=
  (∀ (v : List Nat) (s : State), s.aon.porN = true → s.aon.ctlReleased = true → s.rails.length = 6 →
    Answers (.compensatorSample v) s (fun t =>
      t.prot.sampAt = some (s.nextBound 50 s.prot.sampAt) ∧ t.aon.clock = s.nextBound 50 s.prot.sampAt ∧
      ∀ k, k < 6 → (t.rail k).vout =
        (if s.railUsed k = true ∧ (s.rail k).state ≠ 0 then v.getD k 0 % 4096 else (s.rail k).vout))) ∧
  (∀ (imon : List Nat) (iref tmon : Nat) (s : State), s.aon.porN = true → s.aon.ctlReleased = true → s.phases.length = 16 →
    Answers (.currentConversion imon iref tmon) s (fun t =>
      t.prot.convAt = some (s.nextBound 400 s.prot.convAt) ∧ t.aon.clock = s.nextBound 400 s.prot.convAt ∧
      t.prot.tmon = (tmon :: s.prot.tmon).take 16 ∧ ∀ n, n < 16 → (t.phase n).imon = imon.getD n 0 % 4096))

/-- What a write that passes its checks does on a rail: enabling an OFF rail starts it and disabling a running one stops it (R189);
a group move sets the goals that it names (R187); a group stop stops the group's running rails (R189); a swap changes the bank
(R168); a phase that no run holds takes its controller (R157); an idle phase goes out of service and a phase out of service
comes back (R182, R183); SAFE that may be released becomes OFF (R223). The channel's request ends with success. -/
def Obligations.RailWrites : Prop :=
  (∀ (ch : ChanId) (k : Nat) (val : List Byte) (s : State), k < 6 → k < s.rails.length → s.takes ch (0x3100 + k) 0x13 val →
    leVal val = 1 → s.railUsed k = true → (s.rail k).state ≠ 5 → Answers (.railEnableOn ch k val) s (fun t =>
      t.doneOn ch ∧ (t.rail k).enable = true ∧ (t.rail k).state = (if (s.rail k).state = 0 then 1 else (s.rail k).state) ∧
      ∀ j, j ≠ k → t.rail j = s.rail j)) ∧
  (∀ (ch : ChanId) (k : Nat) (val : List Byte) (s : State), k < 6 → k < s.rails.length → s.takes ch (0x3100 + k) 0x13 val →
    leVal val = 0 → Answers (.railEnableOff ch k val) s (fun t =>
      t.doneOn ch ∧ (t.rail k).enable = false ∧ (t.rail k).state =
        (if (s.rail k).state = 1 ∨ (s.rail k).state = 2 ∨ (s.rail k).state = 3 then 4 else (s.rail k).state))) ∧
  (∀ (ch : ChanId) (val : List Byte) (s : State), s.rails.length = 6 → s.takes ch 0x3000 6 val → s.movesInRange (movesOf val) = true →
    s.movesAllowed (movesOf val) = true → Answers (.groupMove ch val) s (fun t =>
      t.doneOn ch ∧ ∀ k, k < 6 → (t.rail k).setGoal = (if leAt val (2 * k) 2 = 0 then (s.rail k).setGoal else leAt val (2 * k) 2))) ∧
  (∀ (ch : ChanId) (val : List Byte) (s : State), s.rails.length = 6 → s.takes ch 0x3001 9 val → Answers (.groupStop ch val) s (fun t =>
    t.doneOn ch ∧ ∀ k, k < 6 → s.railUsed k = true → (s.rail k).group = leVal val →
      ((s.rail k).state = 1 ∨ (s.rail k).state = 2 ∨ (s.rail k).state = 3) → (t.rail k).state = 4)) ∧
  (∀ (ch : ChanId) (k : Nat) (val : List Byte) (s : State), k < 6 → k < s.rails.length → s.takes ch (0x3110 + k) 4 val →
    Answers (.bankSwap ch k val) s (fun t =>
      t.doneOn ch ∧ t.rail k = { s.rail k with bankB := !(s.rail k).bankB, builtin := false } ∧ ∀ j, j ≠ k → t.rail j = s.rail j)) ∧
  (∀ (ch : ChanId) (n : Nat) (val : List Byte) (s : State), n < 16 → n < s.phases.length → s.takes ch (0x3200 + n) 1 val →
    ((s.phase n).state = 0 ∨ (s.phase n).state = 1) → (leVal val = 7 ∨ (s.phasesOf (leVal val)).length < 12) →
    Answers (.phaseControllerWrite ch n val) s (fun t =>
      t.doneOn ch ∧ (t.phase n).ctrl = leVal val ∧ (t.phase n).state = (if leVal val = 7 then 0 else 1) ∧
      ∀ m, m ≠ n → t.phase m = s.phase m)) ∧
  (∀ (ch : ChanId) (n : Nat) (val : List Byte) (s : State), n < 16 → n < s.phases.length → s.takes ch (0x3200 + n) 2 val →
    leVal val = 0 → (s.phase n).state = 2 → (s.phase n).removing = false →
    let k := (s.phase n).ctrl
    let m := ((s.healthy k).filter (fun x => x != n)).length
    s.pn (0x3100 + k) 8 ≤ m → (s.rail k).iRail ≤ (m : Int) * s.num (0x3100 + k) 0x0A * 40960 →
    Answers (.phaseOutOfService ch n val) s (fun t =>
      t.doneOn ch ∧ (t.phase n).state = 1 ∧ ∀ m, m ≠ n → (t.phase m).state = (s.phase m).state)) ∧
  (∀ (ch : ChanId) (n : Nat) (val : List Byte) (s : State), n < 16 → n < s.phases.length → s.takes ch (0x3200 + n) 2 val →
    leVal val = 1 → (s.phase n).state = 1 → (s.phase n).barred = false → Answers (.phaseReinstate ch n val) s (fun t =>
      t.doneOn ch ∧ (t.phase n).state = 2 ∧ (t.phase n).count = 0 ∧ ∀ m, m ≠ n → (t.phase m).state = (s.phase m).state)) ∧
  (∀ (ch : ChanId) (k : Nat) (val : List Byte) (s : State), k < 6 → k < s.rails.length → s.takes ch (0x3300 + k) 0x17 val →
    s.mayRelease k = true → Answers (.safeRelease ch k val) s (fun t =>
      t.doneOn ch ∧ (t.rail k).state = 0 ∧ (t.rail k).ref = 0 ∧ (t.rail k).safeCode = 0 ∧ (t.rail k).restartAt = none ∧
      (t.ctx k).latched = [] ∧ ∀ j, j ≠ k → t.rail j = s.rail j))

/-- R188: within its limits, a write of an operating setpoint of a rail whose group moves ends with STATE (0x060A) and leaves every
rail as it was; of any other rail it sets that rail's setpoint alone, and the reference then goes from its value towards
the target by at most the slew x 125 ns at a sample. -/
def Obligations.SetpointWrites : Prop :=
  (∀ (ch : ChanId) (k : Nat) (val : List Byte) (s : State), k < 6 → k < s.rails.length → s.takes ch (0x3100 + k) 1 val →
    s.num (0x3100 + k) 2 ≤ leVal val → leVal val ≤ s.num (0x3100 + k) 3 → s.prot.ramps.contains (s.rail k).group = true →
    Answers (.setpointWrite ch k val) s (fun t => t.abortedOn ch 0x060A ∧ t.rails = s.rails)) ∧
  (∀ (ch : ChanId) (k : Nat) (val : List Byte) (s : State), k < 6 → k < s.rails.length → s.takes ch (0x3100 + k) 1 val →
    s.num (0x3100 + k) 2 ≤ leVal val → leVal val ≤ s.num (0x3100 + k) 3 → s.prot.ramps.contains (s.rail k).group = false →
    Answers (.setpointWrite ch k val) s (fun t =>
      t.doneOn ch ∧ t.rail k = { s.rail k with setGoal := leVal val, setNow := 256 * (leVal val : Int) } ∧
      ∀ j, j ≠ k → t.rail j = s.rail j)) ∧
  (∀ (k : Nat) (s : State), k < s.rails.length → ((s.rail k).state = 2 ∨ (s.rail k).state = 3) →
    ((refStep k s).rail k).ref = (if (s.rail k).ref ≤ s.workTarget k
      then min (s.workTarget k) ((s.rail k).ref + s.num (0x3100 + k) 4 * 16 / 5)
      else max (s.workTarget k) ((s.rail k).ref - s.num (0x3100 + k) 4 * 16 / 5)))

/-- A control cycle moves the segment count by R259's step for the supply in uV, within its minimum and 128, and by 4 upwards in
bypass (R260); a reference step is 5 mV towards the target (R261); a region that saturates raises the boost (R264), which falls
after its hold; a wait for headroom ends (R263); a preload arms and disarms (R267); the region monitor takes one region at a
time (R278); a kerf test ends with its count (R280). -/
def Obligations.ShimRegulators : Prop :=
  (∀ (n uv : Nat) (s : State), n < s.regions.length → s.inst.sat = false → s.aon.ctlReleased = true → (s.region n).bypass = false →
    (s.region n).regulating = true → (s.region n).preArmed = false → Answers (.shimControlCycle n uv) s (fun t =>
      let v : Int := 1000 * ((s.region n).ref + (s.region n).shimTrim)
      (t.region n).seg = (clampI (s.pn 0x4000 0x0B) 128 ((s.region n).seg +
        (if (uv : Int) < v - 5000 then 4 else if (uv : Int) < v then 1 else if (uv : Int) ≤ v + 5000 then 0 else -4))).toNat ∧
      (t.region n).ref = (s.region n).ref ∧ ∀ m, m ≠ n → t.region m = s.region m)) ∧
  (∀ (n uv : Nat) (s : State), n < s.regions.length → s.inst.sat = false → s.aon.ctlReleased = true → (s.region n).bypass = true →
    Answers (.shimControlCycle n uv) s (fun t => (t.region n).seg = min 128 ((s.region n).seg + 4))) ∧
  (∀ (n : Nat) (s : State), n < s.regions.length → s.inst.sat = false → (s.region n).bypass = false → (s.region n).regulating = true →
    (s.region n).ref < (s.region n).target → (s.region n).upAt = none → Answers (.shimRefStep n) s (fun t =>
      (t.region n).ref = min (s.region n).target ((s.region n).ref + 5) ∧ (t.region n).refOld = (s.region n).ref ∧
      ∀ m, m ≠ n → t.region m = s.region m)) ∧
  (∀ (n : Nat) (s : State), n < s.regions.length → s.inst.sat = false → (s.region n).bypass = false → (s.region n).regulating = true →
    (s.region n).target < (s.region n).ref → (s.region n).str = false → (s.region n).strEndAt = none →
    Answers (.shimRefStep n) s (fun t => (t.region n).ref = max (s.region n).target ((s.region n).ref - 5))) ∧
  (∀ (n : Nat) (s : State), n < s.regions.length → 64 ≤ (s.region n).satRun → (s.region n).sat = false →
    Answers (.shimSaturation n) s (fun t => (t.region n).sat = true ∧ t.shim.boost = true ∧ bit t.shim.flags 0 = true)) ∧
  (∀ s : State, s.shim.boost = true → (∀ r ∈ s.regions, r.sat = false) → Answers .boostHoldExpiry s (fun t =>
    t.shim = { s.shim with boost := false } ∧ t.regions = s.regions)) ∧
  (∀ (n a : Nat) (s : State), n < s.regions.length → (s.region n).upAt = some a → (s.region n).regulating = true →
    Answers (.headroomWaitExpiry n) s (fun t => (t.region n).upAt = none ∧ bit t.shim.flags 3 = true)) ∧
  (∀ (n : Nat) (s : State), n < s.regions.length → (s.region n).preN ≠ 0 → (s.region n).preArmed = false →
    Answers (.preloadArm n) s (fun t => t.region n = { s.region n with preArmed := true, preActed := false })) ∧
  (∀ (n : Nat) (s : State), n < s.regions.length → (s.region n).preArmed = true → Answers (.preloadDisarm n) s (fun t =>
    t.region n = { s.region n with preArmed := false, preN := 0, preActed := false } ∧
    ((s.region n).preActed = false → bit t.shim.flags 5 = true))) ∧
  (∀ (mv : Nat) (s : State), s.inst.sat = false → s.aon.ctlReleased = true → s.shim.monNext < s.regions.length →
    Answers (.regionMonitorConversion mv) s (fun t =>
      (t.region s.shim.monNext).mon = mv % 1024 ∧ t.shim.monNext = (s.shim.monNext + 1) % 256)) ∧
  (∀ (n : Nat) (s : State), n < s.regions.length → (s.region n).testLeft = some 0 → Answers (.kerfTestEnd n) s (fun t =>
    t.region n = { s.region n with testLeft := none, testCnt := 0 } ∧ t.num (0x4100 + n) 0x0B = (s.region n).testCnt))

/-- A crossing raises STR_EN with level 1 and its code, a deeper level raises level and code (R270); the end of a stretch drops
STR_EN and STR_AMT (R271); 16 tile cycles after the last, the stretch hold clears (R272); SHIM_LOW and KERF_DUTY are S2 faults
of the CORE context with the region's number (R275, R276). -/
def Obligations.KerfUnits : Prop :=
  (∀ (n : Nat) (s : State), n < s.regions.length → (s.region n).armed = true → (s.region n).str = false →
    Answers (.kerfCrossing n) s (fun t =>
      (t.region n).str = true ∧ (t.region n).strLevel = 1 ∧ (t.region n).amt = min 3 (s.pn (0x4100 + n) 5) ∧ t.shim.hold = true ∧
      ∀ m, m ≠ n → t.region m = s.region m)) ∧
  (∀ (n level : Nat) (s : State), n < s.regions.length → (s.region n).str = true → (s.region n).strLevel < level → level ≤ 4 →
    Answers (.kerfLevelRaise n level) s (fun t =>
      (t.region n).strLevel = level ∧ (t.region n).amt = max (s.region n).amt (min 3 (s.pn (0x4100 + n) 5 + level - 1)) ∧
      ∀ m, m ≠ n → t.region m = s.region m)) ∧
  (∀ (n : Nat) (s : State), n < s.regions.length → (s.region n).str = true → s.tileStopped = false →
    Answers (.kerfStretchEnd n) s (fun t =>
      (t.region n).str = false ∧ (t.region n).amt = 0 ∧ (t.region n).strLevel = 0 ∧ t.shim.hold = true ∧
      ∀ m, m ≠ n → t.region m = s.region m)) ∧
  (∀ s : State, s.shim.hold = true → (∀ r ∈ s.regions, r.str = false) → s.tileStopped = false → Answers .stretchHoldClear s (fun t =>
    t.shim = { s.shim with hold := false } ∧ t.regions = s.regions)) ∧
  (∀ (n a : Nat) (s : State), s.core < s.prot.ctxs.length → (s.region n).lowFrom = some a → (s.ctx s.core).cur = none →
    Answers (.shimLow n) s (fun t =>
      (t.ctx s.core).cur = some { code := 0x0402, sev := 2, item := n, since := t.aon.clock } ∧ bit t.shim.flags 1 = true)) ∧
  (∀ (n : Nat) (s : State), s.core < s.prot.ctxs.length → s.inst.sat = false → s.pn 0x4001 4 ≠ 100 → (s.region n).armed = true →
    (s.ctx s.core).cur = none → Answers (.kerfDuty n) s (fun t =>
      (t.ctx s.core).cur = some { code := 0x0403, sev := 2, item := n, since := t.aon.clock } ∧ bit t.shim.flags 2 = true))

/-- What a write that passes its checks does on a region: its target (R261), its mode (R260), one tile of the setpoint map as one
flip (R281, R286), its trims (R279) and the start of a kerf test (R280). -/
def Obligations.RegionWrites : Prop :=
  (∀ (ch : ChanId) (n : Nat) (val : List Byte) (s : State), n < 256 → n < s.regions.length → s.takes ch (0x4100 + n) 2 val →
    (leVal val : Int) ≤ s.targetMax → Answers (.regionTargetWrite ch n val) s (fun t =>
      t.doneOn ch ∧ (t.region n).target = leVal val ∧ (t.region n).ref = (s.region n).ref ∧ ∀ m, m ≠ n → t.region m = s.region m)) ∧
  (∀ (ch : ChanId) (n : Nat) (val : List Byte) (s : State), n < 256 → n < s.regions.length → s.takes ch (0x4100 + n) 1 val →
    Answers (.regionModeWrite ch n val) s (fun t =>
      t.doneOn ch ∧ (t.region n).bypass = decide (leVal val = 1) ∧ ∀ m, m ≠ n → t.region m = s.region m)) ∧
  (∀ (ch : ChanId) (w : Nat) (val : List Byte) (s : State), w < 4 → s.regions.length = 256 → s.takes ch (0x4010 + w) 0 val →
    s.tileInRange val = true → Answers (.setpointMapTileWrite ch w val) s (fun t =>
      t.doneOn ch ∧ ∀ j, j < 64 →
        let c := (val.getD j 0xFF).toNat
        let n := 64 * w + j
        (c = 0xFF → t.region n = s.region n) ∧ (c = 0xFE → (t.region n).bypass = true) ∧
        (c ≤ 80 → (t.region n).target = 550 + 5 * c ∧ (t.region n).bypass = (s.region n).bypass))) ∧
  (∀ (ch : ChanId) (n : Nat) (kerf : Bool) (val : List Byte) (s : State), n < 256 → n < s.regions.length →
    s.takes ch (0x4100 + n) (if kerf then 7 else 6) val → Answers (.trimWrite ch n kerf val) s (fun t =>
      t.doneOn ch ∧ t.num (0x4100 + n) (if kerf then 7 else 6) = sx 16 (leVal val) ∧
      (kerf = false → (t.region n).devStop = false))) ∧
  (∀ (ch : ChanId) (n : Nat) (val : List Byte) (s : State), n < 256 → n < s.regions.length → s.takes ch (0x4100 + n) 0x0A val →
    (s.region n).testLeft = none → Answers (.kerfTestStart ch n val) s (fun t =>
      t.doneOn ch ∧ t.region n = { s.region n with testLeft := some (s.pn 0x4001 6), testCnt := 0 }))

/-- An announcement is latched with its due time, or dropped with STEP_OVF and a withdrawal when the queue is full (R39, R234,
R252); a marker that fits the oldest announcement matches it (R250); a lookup predicts its step or leaves it without
prediction (R239, R249); a missed announcement is a step following error (R250, R251); settling ends (R253); the
edges of a STEP_CLK window give the lead time (R234); the duty term begins (R247); a step is posted to its groups' shims (R248). -/
def Obligations.FeedForwardSteps : Prop :=
  (∀ (prog idx pos : Nat) (s : State), s.obs.standing = false → s.isReady 16 = true → s.enabled 11 = true → s.ff.annQ.length < 256 →
    Answers (.stepAnnounce prog idx pos) s (fun t => ∃ a, t.ff.annQ = s.ff.annQ ++ [a] ∧ a.prog = prog ∧ a.idx = idx ∧ a.pos = pos ∧
      a.since = s.aon.clock ∧ a.due = s.aon.clock + s.leadP ∧ a.looked = false)) ∧
  (∀ (prog idx pos : Nat) (s : State), s.obs.standing = false → s.isReady 16 = true → s.enabled 11 = true → 256 ≤ s.ff.annQ.length →
    Answers (.stepAnnounce prog idx pos) s (fun t =>
      t.aon.stepOvf = true ∧ t.ff.annQ = [] ∧ t.ff.settling ≠ none ∧ bit t.ff.flags 1 = true)) ∧
  (∀ (prog idx : Nat) (a : Ann) (rest : List Ann) (s : State), s.obs.standing = false → s.isReady 16 = true → s.enabled 11 = true →
    s.ff.markQ = [] → s.ff.settling = none → s.ff.annQ = a :: rest → s.annFits prog idx a = true →
    Answers (.execMarker prog idx) s (fun t =>
      t.ff.annQ = rest ∧ t.ff.markQ = [] ∧ t.ff.lastDue = (a :: s.ff.lastDue).take 2 ∧ t.ff.matchRun = min 0xFFFF (s.ff.matchRun + 1))) ∧
  (∀ (a : Ann) (rest : List Ann) (s : State), s.isReady 16 = true → s.enabled 11 = true → s.ff.annQ = a :: rest → a.looked = false →
    s.slotOf a.prog = none → Answers .ffLookupDone s (fun t =>
      t.ff.annQ = { a with looked := true } :: rest ∧ bit t.ff.flags 2 = true)) ∧
  (∀ (a : Ann) (rest : List Ann) (n : Nat) (h : TabHdr) (s : State), s.isReady 16 = true → s.enabled 11 = true → s.ff.annQ = a :: rest →
    a.looked = false → s.slotOf a.prog = some n → (s.fslot n).actHdr = some h → a.idx < h.steps →
    leAt (s.entry n a.idx) 0x0F 1 / 4 = 0 → bit (leAt (s.entry n a.idx) 0x0F 1) 0 = false → shareSum (s.entry n a.idx) ≤ 256 →
    Answers .ffLookupDone s (fun t =>
      t.ff.annQ = a.predict h (s.entry n a.idx) :: rest ∧ ∃ p, t.cap.predDue = s.cap.predDue ++ [(a.due, p, a.idx)])) ∧
  (∀ (a : Ann) (rest : List Ann) (s : State), s.isReady 16 = true → s.enabled 11 = true → s.ff.annQ = a :: rest →
    s.rails.length = 6 → Answers .announcementMissed s (fun t =>
      t.ff.annQ = [] ∧ t.ff.settling ≠ none ∧ t.ff.matchRun = 0 ∧ bit t.ff.flags 0 = true ∧
      ∀ k, k < 6 → (t.rail k).ffForce = false)) ∧
  (∀ (a : Nat) (s : State), s.ff.settling = some a → Answers .settlingEnd s (fun t => t.ff = { s.ff with settling := none })) ∧
  (∀ (edges : Nat) (s : State), s.isReady 16 = true → Answers (.stepClkWindow edges) s (fun t =>
    t.ff.period = edges ∧ t.ff.windowAt = t.aon.clock ∧ t.ff.annQ = s.ff.annQ)) ∧
  (∀ (k : Nat) (a : Ann) (s : State), k < s.rails.length → s.dutyStepOf k = some a → s.aon.clock ≤ a.due → (s.rail k).ffForce = true →
    s.nAct k ≠ 0 → Answers (.ffDutyStart k) s (fun t =>
      (t.rail k).ffDutyLeft = s.pn (0x8100 + k) 5 ∧ (t.rail k).ffDutyOf = s.pn (0x8100 + k) 5)) ∧
  (∀ (a : Ann) (s : State), s.shimStepOf = some a → Answers .ffShimPost s (fun t =>
    t.ff.annQ = s.ff.annQ.map (fun x => if x.since = a.since ∧ x.idx = a.idx then { x with shimDone := true } else x) ∧
    (a.predicted = true → (s.rail (a.cols.getD 0 0xFF)).ffForce = true → s.inst.sat = false → ∀ n, n < 256 → n < s.regions.length →
      a.groupMap.getD n 0x80 < 128 → (s.region n).bypass = false →
      a.cur.getD 0 0 * a.share.getD (a.groupMap.getD n 0x80 % 16) 0 / 256 ≠ 0 →
      (t.region n).preDue = a.due ∧ (t.region n).preArmed = false)))

/-- A load starts with a correct header and has every page of the image to copy (R240); a page is copied into the lowest free page
(R240), and a bus error ends the load with error 5 (R241); a swap makes the shadow table active (R242); a slot is enabled,
named and released (R243); the pages of an old table become free (R242). -/
def Obligations.FeedForwardTables : Prop :=
  (∀ (ch : ChanId) (val hdr : List Byte) (s : State), s.takes ch 0x8010 4 val → s.ff.load = none → s.dmaFree (s.pn 0x8010 7) = true →
    s.pn 0x8010 3 % 2 ^ 33 = 0 → hdrOk hdr = true → colsOk (parseHdr hdr).colCtrl = true →
    (parseHdr hdr).pages ≤ s.freePages.length → Answers (.tableLoadStart ch val hdr true) s (fun t =>
      t.doneOn ch ∧ t.num 0x8010 5 = 1 ∧ ∃ l, t.ff.load = some l ∧ l.hdr = some (parseHdr hdr) ∧ l.slot = s.pn 0x8010 2 ∧
        l.left = List.range (parseHdr hdr).pages ∧ l.got = [])) ∧
  (∀ (data : List Byte) (l : Load) (h : TabHdr) (k p x : Nat) (rest q : List Nat) (s : State), s.ff.load = some l → l.hdr = some h →
    l.left = k :: x :: rest → s.freePages = p :: q → crc32 (if k = 0 then data.drop 0x200 else data) = h.pageCrc.getD k 0 →
    Answers (.tablePageCopied data true) s (fun t =>
      kvGet t.ff.pageMem p = some data ∧ t.ff.load = some { l with left := x :: rest, got := kvPut l.got k p } ∧
      t.ff.slots = s.ff.slots)) ∧
  (∀ (data : List Byte) (l : Load) (h : TabHdr) (k p : Nat) (rest q : List Nat) (s : State), s.ff.load = some l → l.hdr = some h →
    l.left = k :: rest → s.freePages = p :: q → Answers (.tablePageCopied data false) s (fun t =>
      t.ff.load = none ∧ t.num 0x8010 5 = 3 ∧ t.num 0x8010 6 = 5 ∧ t.ff.slots = s.ff.slots ∧ bit t.ff.flags 5 = true)) ∧
  (∀ (ch : ChanId) (n : Nat) (val : List Byte) (h : TabHdr) (s : State), n < 16 → n < s.ff.slots.length → s.takes ch (0x8020 + n) 7 val →
    (s.fslot n).shHdr = some h → Answers (.slotSwap ch n val) s (fun t =>
      t.doneOn ch ∧ (t.fslot n).active = (s.fslot n).shadow ∧ (t.fslot n).actHdr = some h ∧ (t.fslot n).shadow = [] ∧
      (t.fslot n).shHdr = none ∧ ∀ m, m ≠ n → t.fslot m = s.fslot m)) ∧
  (∀ (ch : ChanId) (n : Nat) (val : List Byte) (s : State), n < 16 → n < s.ff.slots.length → s.takes ch (0x8020 + n) 2 val →
    (leVal val = 1 → (s.fslot n).actHdr.isSome = true ∧
      ∀ m, m < 16 → m ≠ n → (s.fslot m).enabled = true → (s.fslot m).program ≠ (s.fslot n).program) →
    Answers (.slotEnable ch n val) s (fun t => t.doneOn ch ∧ t.fslot n = { s.fslot n with enabled := decide (leVal val = 1) })) ∧
  (∀ (ch : ChanId) (n : Nat) (val : List Byte) (s : State), n < 16 → n < s.ff.slots.length → s.takes ch (0x8020 + n) 1 val →
    (s.fslot n).enabled = false → Answers (.slotProgramWrite ch n val) s (fun t =>
      t.doneOn ch ∧ t.fslot n = { s.fslot n with program := leVal val })) ∧
  (∀ (ch : ChanId) (n : Nat) (val : List Byte) (s : State), n < 16 → n < s.ff.slots.length → s.takes ch (0x8020 + n) 8 val →
    (s.fslot n).enabled = false → Answers (.slotRelease ch n val) s (fun t =>
      t.doneOn ch ∧ t.fslot n = { s.fslot n with active := [], shadow := [], actHdr := none, shHdr := none })) ∧
  (∀ (n : Nat) (s : State), n < s.ff.slots.length → Answers (.pageFree n) s (fun t =>
    t.fslot n = { s.fslot n with dying := [] } ∧ ∀ m, m ≠ n → t.fslot m = s.fslot m))

/-- A window of a watched source measures its frequency; the fifth good one in a row qualifies the source and a bad one fails it; a
missing edge fails it at once (R291). A write selects a qualified source for the tile clock (R294). -/
def Obligations.ClockSources : Prop :=
  (∀ (src : SrcId) (khz : Nat) (s : State), s.srcWatched src = true → s.srcGood src khz = true → (s.src src).good = 4 →
    (s.src src).ok = false → Answers (.sourceMonitorWindow src khz) s (fun t =>
      (t.src src).freq = khz ∧ (t.src src).ok = true ∧ (t.src src).good = 5)) ∧
  (∀ (src : SrcId) (khz : Nat) (s : State), s.srcWatched src = true → s.srcGood src khz = false →
    Answers (.sourceMonitorWindow src khz) s (fun t =>
      (t.src src).freq = khz ∧ ((s.src src).ok = true → (t.src src).ok = false ∧ (t.src src).failed = true) ∧ (t.src src).good = 0)) ∧
  (∀ (src : SrcId) (s : State), s.srcWatched src = true → (s.src src).ok = true → Answers (.sourceMissingEdge src) s (fun t =>
    (t.src src).ok = false ∧ (t.src src).failed = true)) ∧
  (∀ (ch : ChanId) (val : List Byte) (s : State), s.takes ch 0x2201 1 val →
    (s.src (if leVal val = 1 then .pllB else .pllA)).ok = true → Answers (.tileSourceSelect ch val) s (fun t =>
      t.doneOn ch ∧ t.clk.tileB = decide (leVal val = 1) ∧ t.clk.tileInt = false)) ∧
  (∀ (ch : ChanId) (val : List Byte) (s : State), s.takes ch 0x2201 1 val →
    (s.src (if leVal val = 1 then .pllB else .pllA)).ok = false → Answers (.tileSourceSelect ch val) s (fun t =>
      t.abortedOn ch 0x060A ∧ t.clk = s.clk))

/-- A divider step moves M towards its goal by max(1, M div 32) and never past it (R289); a skip step moves the skip count by 1
(R290); a voltage step sets the regulated regions' targets of its point (R298); its end goes on to the divider upwards and puts
the point in force downwards (R298); a timeout ends the move and blocks the sequencer (R298); TCLK_OUT starts at the restart
divider (R299, R300). A point request is kept and within the used points (R298). -/
def Obligations.TileClockSteps : Prop :=
  (∀ s : State, s.tileStopped = false → s.clk.tileInt = false → s.shim.hold = false → s.clk.m ≠ (seqBegin s).divGoal →
    Answers .dividerStep s (fun t =>
      let g := (seqBegin s).divGoal
      t.clk.m = (if s.clk.m < g then min g (s.clk.m + max 1 (s.clk.m / 32)) else max g (s.clk.m - max 1 (s.clk.m / 32))) ∧
      t.rails = s.rails ∧ t.regions = s.regions)) ∧
  (∀ s : State, s.tileStopped = false → s.clk.tileInt = false → s.clk.skip ≠ s.clk.skipGoal →
    (s.shim.hold = false ∨ s.clk.skip < s.clk.skipGoal) → Answers .skipStep s (fun t =>
      t.clk.skip = (if s.clk.skip < s.clk.skipGoal then s.clk.skip + 1 else s.clk.skip - 1) ∧ t.clk.m = s.clk.m)) ∧
  (∀ s : State, s.regions.length = 256 → s.startDue = false → s.clk.moving = true → s.clk.moveStage = 0 → s.seqFree = true →
    s.shim.hold = false → Answers .seqVoltageStep s (fun t =>
      t.clk.moveStage = 1 ∧ ∀ n, n < 256 → (s.region n).bypass = false →
        (t.region n).target = s.pointTarget s.clk.movePoint n)) ∧
  (∀ s : State, s.clk.moving = true → s.clk.moveStage = 1 → s.voltageDone = true → s.clk.everRan = true → s.clk.moveUp = true →
    s.clk.m ≠ s.pointDiv s.clk.movePoint → Answers .seqVoltageDone s (fun t =>
      t.clk = { s.clk with moveStage := 2, mSeq := s.pointDiv s.clk.movePoint })) ∧
  (∀ s : State, s.clk.moving = true → s.clk.moveStage = 1 → s.voltageDone = true → s.clk.everRan = true → s.clk.moveUp = false →
    s.clk.target = s.clk.movePoint → Answers .seqVoltageDone s (fun t =>
      t.clk = { s.clk with point := s.clk.movePoint, moving := false, moveStage := 0 })) ∧
  (∀ s : State, s.clk.moving = true → s.clk.moveStage = 1 → s.voltageDone = false → s.clk.everRan = true → Answers .vTimeout s (fun t =>
    t.clk.moving = false ∧ t.clk.moveStage = 0 ∧ t.clk.blocked = true ∧ bit t.clk.flags 4 = true)) ∧
  (∀ s : State, s.tclkMayStart = true → Answers .tclkStart s (fun t =>
    t.clk.running = true ∧ t.clk.everRan = true ∧ t.clk.stops = [] ∧
    t.clk.m = min 1023 (if s.clk.immDiv = true then 2 * s.restartDiv else s.restartDiv))) ∧
  (∀ (ch : ChanId) (val : List Byte) (s : State), s.takes ch 0x2201 2 val → leVal val < s.usedPoints → s.pn 0x6003 1 = 0 →
    Answers (.pointRequestWrite ch val) s (fun t => t.doneOn ch ∧ t.num 0x2201 2 = leVal val))

/-- At a boundary the estimator forms P_est of the interval (R308, R309); the escalate time lowers the ceiling below the point in
force and the raise hold raises it by one point (R321); calibration takes its millisecond (R312, R313); a telemetry instant
counts (R330); THR_IN_N puts its action in force and takes it back (R46). -/
def Obligations.PowerCapping : Prop :=
  (∀ (acts : List TileAct) (s : State), s.isReady 15 = true → s.obs.standing = false → Answers (.estimatorBoundary acts) s (fun t =>
    let a := advanceTo (s.nextBound 400 s.cap.estAt) s
    let u := saturated acts { a with cap := { a.cap with estAt := some a.aon.clock } }
    t.cap.estAt = some a.aon.clock ∧ t.cap.iEst = [u.railEst acts 0, u.railEst acts 1, u.railEst acts 2] ∧
    t.cap.pDie = u.pEst [u.railEst acts 0, u.railEst acts 1, u.railEst acts 2] ∧
    t.cap.powerMap = (u.tilePowers acts).map (fun x => min 65535 (x / 65536000)))) ∧
  (∀ (a : Nat) (s : State), s.isReady 15 = true → s.obs.standing = false → s.pn 0x6000 1 = 1 → s.cap.escFrom = some a →
    s.cap.okFrom = none → Answers .capEscalateExpiry s (fun t =>
      t.cap.ceiling = s.clk.point - 1 ∧ t.cap.escFrom = some t.aon.clock ∧ t.cap.skip = s.cap.skip ∧ bit t.cap.flags 2 = true)) ∧
  (∀ (a : Nat) (s : State), s.isReady 15 = true → s.obs.standing = false → s.pn 0x6000 1 = 1 → s.cap.relFrom = some a →
    s.cap.skip = 0 → s.cap.ceiling ≠ 31 → Answers .capRaiseHoldExpiry s (fun t =>
      t.cap.ceiling = (if s.usedPoints ≤ s.cap.ceiling + 1 then 31 else s.cap.ceiling + 1) ∧ t.cap.relFrom = some t.aon.clock)) ∧
  (∀ (a : Nat) (s : State), s.isReady 15 = true → s.obs.standing = false → s.pn 0x6000 1 = 1 → s.cap.relFrom = none →
    s.cap.okFrom = some a → s.cap.divide = true → Answers .capRaiseHoldExpiry s (fun t =>
      t.cap.divide = false ∧ t.cap.ceiling = s.cap.ceiling)) ∧
  (∀ s : State, s.isReady 15 = true → s.obs.standing = false → s.cap.calDue = true →
    s.calSkips 0 = true → s.calSkips 1 = true → s.calSkips 2 = true → Answers .calibrationUpdate s (fun t =>
      t.cap = { s.cap with calDue := false } ∧ ∀ r, r < 3 → t.num 0x6009 (7 + r) = min 0xFFFFFFFF (s.num 0x6009 (7 + r) + 1))) ∧
  (∀ s : State, s.isReady 15 = true → s.obs.standing = false → Answers .telemetryInstant s (fun t =>
    let u := advanceTo s.nextInstant s
    t.cap.instants = s.cap.instants + 1 ∧
    ((s.cap.instants + 1) % 10 ≠ 0 → t.cap.parts = u.cap.parts.map (fun p => p.instant s.cap.epoch (u.tilesOf p.p))))) ∧
  (∀ s : State, s.aon.ctlReleased = true → s.aon.thrInAct = false → Answers .thrInAssert s (fun t =>
    t.aon = { s.aon with thrInAct := true } ∧
    t.cap.extWord = (if s.pn 0x6004 0x0B = 0 then packWord 31 0 true else packWord 31 (s.pn 0x6004 0x0B) false))) ∧
  (∀ s : State, s.aon.thrInAct = true → Answers .thrInRelease s (fun t =>
    t.aon = { s.aon with thrInAct := false } ∧ t.cap.extWord = 31))

/-- What a write that passes its checks does on power: the reporting set takes the calibrated one (R315, R337); the policy (R327);
admission begins or ceases, which drops accounts and queue (R354; that it drops them without notices is log entry 72's
choice); a partition map waits for its boundary (R309, R350); a budget change joins the root's queue (R138, R317). -/
def Obligations.CapWrites : Prop :=
  (∀ (ch : ChanId) (val : List Byte) (s : State), s.takes ch 0x6008 4 val → Answers (.adopt ch val) s (fun t =>
    t.doneOn ch ∧ t.cap = { s.cap with coefRep := s.cap.coefCal, epoch := (s.cap.epoch + 1) % 65536 })) ∧
  (∀ (ch : ChanId) (val : List Byte) (s : State), s.takes ch 0x6003 1 val → leVal val ≠ 2 → Answers (.policyWrite ch val) s (fun t =>
    t.doneOn ch ∧ t.num 0x6003 1 = leVal val ∧ t.cap = s.cap)) ∧
  (∀ (ch : ChanId) (val : List Byte) (s : State), s.takes ch 0x7000 8 val → leVal val = 1 → Answers (.enforceWrite ch val) s (fun t =>
    t.doneOn ch ∧ t.num 0x7000 8 = 1 ∧ t.cla = s.cla)) ∧
  (∀ (ch : ChanId) (val : List Byte) (s : State), s.takes ch 0x7000 8 val → leVal val = 0 → Answers (.enforceWrite ch val) s (fun t =>
    t.doneOn ch ∧ t.num 0x7000 8 = 0 ∧ t.cla.queue = [] ∧ (∀ x ∈ t.cla.accounts, x.live = false) ∧
    t.cla.grants.map (fun g => (g.a, g.g, g.endAt)) = s.cla.grants.map (fun g => (g.a, g.g, g.endAt)))) ∧
  (∀ (ch : ChanId) (val : List Byte) (s : State), s.takes ch 0x6010 0 val → (∀ x ∈ val, x.toNat < 64 ∨ x.toNat = 0xFF) →
    Answers (.tilePartitionMapWrite ch val) s (fun t =>
      t.doneOn ch ∧ t.cap.tileMapNext = some (val.map (·.toNat)) ∧ t.cap.tileMap = s.cap.tileMap)) ∧
  (∀ (ch : ChanId) (i sub : Nat) (val : List Byte) (r : BudRec) (s : State), s.takes ch i sub val →
    s.budgetRec i sub (leVal val) = some r → r.inRange = true → s.budgetBarred r (s.whoOn ch).cls = false → s.isRoot = true →
    (putRec r s.chain.budQueue).length ≤ 64 → Answers (.budgetWrite ch i sub val) s (fun t =>
      t.doneOn ch ∧ t.chain = { s.chain with budQueue := putRec r s.chain.budQueue })) ∧
  (∀ (ch : ChanId) (i sub : Nat) (val : List Byte) (r : BudRec) (s : State), s.takes ch i sub val →
    s.budgetRec i sub (leVal val) = some r → r.inRange = true → s.budgetBarred r (s.whoOn ch).cls = false → s.chain.role = 2 →
    s.chain.up.linkUp = true → Answers (.budgetWrite ch i sub val) s (fun t =>
      (t.chan ch).state = 1 ∧ ((t.chan ch).pend.map (fun a => a.why)) = some 3 ∧ t.chain.budQueue = s.chain.budQueue))

/-- OPEN opens the slot's account at the partition's baseline where both limits allow it (R345); CLOSE closes it; an admitted REQUEST
becomes its account's grant for its window, and a held one joins the queue with its reason (R346, R349); RELEASE ends the
grant and CANCEL the queued request (R350); without admission a REQUEST is answered unchecked (R354); a grant ends at its
window's end and a queued request at its wait's (R341, R350). -/
def Obligations.ClampWords : Prop :=
  (∀ (tile p : Nat) (w : BitVec 64) (s : State), s.clampTakes tile 0 w.toNat → p = s.cap.tileMap.getD tile 0xFF →
    (s.acct (40 * tile + bits w.toNat 13 8)).live = false → s.overPart p (s.kPart p + s.pn (0x7040 + p) 1) = false →
    s.kDie + s.pn (0x7040 + p) 1 ≤ s.admitDie → Answers (.clampOpen tile w) s (fun t =>
      let x := t.acct (40 * tile + bits w.toNat 13 8)
      x.live = true ∧ x.part = p ∧ x.gen = s.genOf p ∧ x.base = s.pn (0x7040 + p) 1 ∧
      t.answered tile 0 (bits w.toNat 13 8) 5 0 0 (bits w.toNat 63 56))) ∧
  (∀ (tile : Nat) (w : BitVec 64) (s : State), s.clampTakes tile 1 w.toNat →
    (s.acct (40 * tile + bits w.toNat 13 8)).live = true → Answers (.clampClose tile w) s (fun t =>
      (t.acct (40 * tile + bits w.toNat 13 8)).live = false ∧ t.answered tile 1 (bits w.toNat 13 8) 5 0 0 (bits w.toNat 63 56))) ∧
  (∀ (tile a p : Nat) (w : BitVec 64) (s : State), s.clampTakes tile 2 w.toNat → a = 40 * tile + bits w.toNat 13 8 →
    (s.acct a).live = true → p = (s.acct a).part → s.queuedOf a = none → s.grantOf a = none → s.trackerOf p < s.pn (0x7040 + p) 3 →
    s.tracker < 8192 → s.holdOf a (bits w.toNat 31 16) (bits w.toNat 55 32) (bit w.toNat 3) = 0 →
    Answers (.clampRequest tile w) s (fun t =>
      (∃ r, t.cla.grants = s.cla.grants ++ [{
          a := a, g := bits w.toNat 31 16, window := bits w.toNat 55 32,
          endAt := s.aon.clock + us (bits w.toNat 55 32), tag := bits w.toNat 63 56, resv := r }] ∧ t.cla.resv = s.cla.resv + r) ∧
      t.cla.queue = s.cla.queue ∧
      t.answered tile 2 (bits w.toNat 13 8) 0 0 (bits w.toNat 55 32) (bits w.toNat 63 56))) ∧
  (∀ (tile a p h : Nat) (w : BitVec 64) (s : State), s.clampTakes tile 2 w.toNat → a = 40 * tile + bits w.toNat 13 8 →
    (s.acct a).live = true → p = (s.acct a).part → s.queuedOf a = none → s.trackerOf p < s.pn (0x7040 + p) 3 → s.tracker < 8192 →
    s.holdOf a (bits w.toNat 31 16) (bits w.toNat 55 32) (bit w.toNat 3) = h → h ≠ 0 → bit w.toNat 4 = false →
    Answers (.clampRequest tile w) s (fun t =>
      t.cla.queue = s.cla.queue ++ [{
          a := a, g := bits w.toNat 31 16, window := bits w.toNat 55 32, tag := bits w.toNat 63 56,
          burst := bit w.toNat 3, since := s.aon.clock, reason := h }] ∧ t.cla.grants = s.cla.grants ∧
      t.answered tile 2 (bits w.toNat 13 8) 1 h 0 (bits w.toNat 63 56))) ∧
  (∀ (tile : Nat) (w : BitVec 64) (g : Grant) (s : State), s.clampTakes tile 3 w.toNat →
    s.grantOf (40 * tile + bits w.toNat 13 8) = some g → Answers (.clampRelease tile w) s (fun t =>
      t.cla.grants = s.cla.grants.erase g ∧ t.cla.resv = s.cla.resv - g.resv ∧
      t.answered tile 3 (bits w.toNat 13 8) 5 0 0 (bits w.toNat 63 56))) ∧
  (∀ (tile : Nat) (w : BitVec 64) (q : Queued) (s : State), s.clampTakes tile 4 w.toNat →
    s.queuedOf (40 * tile + bits w.toNat 13 8) = some q → Answers (.clampCancel tile w) s (fun t =>
      t.cla.queue = s.cla.queue.erase q ∧ t.cla.grants = s.cla.grants ∧
      t.answered tile 4 (bits w.toNat 13 8) 5 0 0 (bits w.toNat 63 56))) ∧
  (∀ (tile : Nat) (w : BitVec 64) (s : State), s.inst.sat = false → tile < 1024 → s.cap.tileMap.getD tile 0xFF ≠ 0xFF →
    s.obs.standing = false → s.enforceOn = false → bits w.toNat 2 0 < 5 → clampBad 2 w.toNat = false →
    Answers (.clampRequest tile w) s (fun t =>
      t.cla = { s.cla with notices := [(tile, clampAnswer 2 false true (bits w.toNat 13 8) 0 0 (bits w.toNat 55 32) (bits w.toNat 63 56))] })) ∧
  (∀ (a : Nat) (g : Grant) (s : State), s.obs.standing = false → s.cla.grants.find? (fun g => g.a = a) = some g →
    Answers (.grantWindowEnd a) s (fun t =>
      t.cla.grants = s.cla.grants.erase g ∧ t.cla.resv = s.cla.resv - g.resv ∧ t.cla.queue = s.cla.queue)) ∧
  (∀ (a : Nat) (q : Queued) (s : State), s.obs.standing = false → s.queuedOf a = some q → s.pn (0x7040 + (s.acct a).part) 2 ≠ 0 →
    Answers (.requestWaitExpiry a) s (fun t =>
      t.cla.queue = s.cla.queue.erase q ∧ t.cla.grants = s.cla.grants ∧
      t.cla.notices = [(a / 40, clampAnswer 2 true false (a % 40) 3 9 0 q.tag)]))

/-- A rise of BAR_IN starts a release with the armed plan or the default one, or passes straight through in bypass, or sets BAR_EARLY
during a release (R41, R356, R358, R360); BAR_OUT rises with the first wave, the next wave's lines rise, and BAR_OUT falls
with the start line moved on (R355, R356); a plan's window ends (R358); a late package barrier is a fault (R364); the root
cancels one (R365). -/
def Obligations.DovetailBarriers : Prop :=
  (∀ s : State, s.inst.sat = false → s.aon.ctlReleased = true → s.dove.releasing = true → Answers .barInRise s (fun t =>
    t.aon.barEarly = true ∧ t.dove = { s.dove with barIn := true })) ∧
  (∀ s : State, s.inst.sat = false → s.aon.ctlReleased = true → s.dove.releasing = false → s.paced = false → Answers .barInRise s (fun t =>
    t.dove = { s.dove with barIn := true, bypassRise := true, e0 := s.clk.tileCycles } ∧ t.aon = s.aon)) ∧
  (∀ s : State, s.inst.sat = false → s.aon.ctlReleased = true → s.dove.releasing = false → s.paced = true → s.pn 0x7100 8 ≠ 1 →
    Answers .barInRise s (fun t =>
      t.dove.releasing = true ∧ t.dove.e0 = s.clk.tileCycles ∧ t.dove.wave = 0 ∧ t.dove.armed = false ∧
      t.dove.w = (if s.dove.armed = true then s.dove.planW else s.pn 0x7100 4) ∧ t.dove.curStart = s.dove.start)) ∧
  (∀ s : State, s.tileStopped = false → s.dove.releasing = true → s.dove.wave = 0 → Answers .barOutRise s (fun t =>
    t.dove = { s.dove with barOut := true, wave := 1, barWave := waveMask s.dove.curStart s.dove.w 1 })) ∧
  (∀ s : State, s.tileStopped = false → s.dove.releasing = false → s.dove.bypassRise = true → Answers .barOutRise s (fun t =>
    t.dove = { s.dove with barOut := true, barWave := 0xFFFF, bypassRise := false })) ∧
  (∀ s : State, s.tileStopped = false → s.dove.releasing = true → s.dove.wave ≠ 0 → s.dove.wave < s.dove.w →
    Answers .dovetailWave s (fun t => t.dove =
      { s.dove with wave := s.dove.wave + 1, barWave := waveMask s.dove.curStart s.dove.w (s.dove.wave + 1) })) ∧
  (∀ s : State, s.tileStopped = false → s.dove.barOut = true → s.dove.releasing = true → s.dove.wave = s.dove.w →
    Answers .barOutFall s (fun t =>
      t.dove.barOut = false ∧ t.dove.barWave = 0xFFFF ∧ t.dove.releasing = false ∧
      t.dove.start = (if s.pn 0x7100 0x0A = 1 then (s.dove.start + 1) % 16 else 0))) ∧
  (∀ s : State, s.dove.armed = true → Answers .planWindowExpiry s (fun t => t.dove = { s.dove with armed := false })) ∧
  (∀ s : State, 6 < s.prot.ctxs.length → s.dove.pkgWait = true → s.dove.late = false → s.pn 0x7100 9 ≠ 0 → (s.ctx 6).cur = none →
    Answers .barrierTimeout s (fun t =>
      t.dove.late = true ∧ t.dove.pkgWait = true ∧ bit t.dove.flags 1 = true ∧ t.recovers 6 0x0702 1 0xFF)) ∧
  (∀ (ch : ChanId) (val : List Byte) (s : State), s.takes ch 0x7102 4 val → s.dove.arrived ≠ 0 →
    Answers (.packageBarrierCancel ch val) s (fun t =>
      t.doneOn ch ∧ t.dove.arrived = 0 ∧ t.dove.rootEpoch = nextEpoch s.dove.rootEpoch ∧ t.num 0x7102 5 = 0))

/-- A READ of an object that passes the checks and that the engine serves itself returns the value, or its first 48 bytes and
a transfer of the rest (R111, R112); READ_NEXT returns the next 48 (R112); a WRITE with LAST set has the effect of the write of
its object, one without opens a segmented write (R112); WRITE_NEXT adds its segment (R112); CANCEL ends the transfer (R111);
DESCRIBE returns the object's 48 bytes (R113); a request that fails a check of R96 ends with that check's abort code. -/
def Obligations.CutListRequests : Prop :=
  (∀ (ch : ChanId) (r : ClReq) (s : State), s.clQuiet → s.channelFree ch = true → r.node = 0 →
    s.checks (s.whoOn ch) 1 r.idx r.sub = 0 → fwOwned r.idx r.sub = false → (r.idx ≠ 0x9010 ∧ r.idx ≠ 0x9011 ∨ r.sub ≠ 4) →
    syncReadState r.idx r.sub (s.asks ch 1 r) = false → Answers (.clRead ch r) s (fun t =>
      let v := (s.asks ch 1 r).clBytes ch r.idx r.sub
      t.valueOn ch v (48 < v.length) ∧ (t.chan ch).total = v.length ∧
      (if 48 < v.length then (t.chan ch).openDir = 1 ∧ (t.chan ch).openBuf = v ∧ (t.chan ch).openPos = 48
       else (t.chan ch).openDir = 0))) ∧
  (∀ (ch : ChanId) (r : ClReq) (v : List Byte) (s : State), s.clQuiet → s.channelFree ch = true →
    (s.chan ch).openDir = 1 → s.aon.clock < (s.chan ch).openAt + ms 10 → v = (s.chan ch).openBuf.drop (s.chan ch).openPos →
    Answers (.clReadNext ch r) s (fun t =>
      t.valueOn ch v (48 < v.length) ∧ (t.chan ch).total = (s.chan ch).openBuf.length ∧
      (if 48 < v.length then (t.chan ch).openDir = 1 ∧ (t.chan ch).openBuf = (s.chan ch).openBuf ∧
         (t.chan ch).openPos = (s.chan ch).openPos + 48
       else (t.chan ch).openDir = 0))) ∧
  (∀ (ch : ChanId) (r : ClReq) (row : Row) (s u : State), s.clQuiet → s.channelFree ch = true → r.node = 0 → r.last = true →
    s.checks (s.whoOn ch) 3 r.idx r.sub = 0 → dictRow r.idx r.sub = some row → row.ty.fits (s.segment ch r).length = true →
    row.inRange (s.segment ch r) = true → s.servedHere r.idx r.sub (row.rg.clip (row.ty.num (s.segment ch r))).toNat →
    objWrite (s.whoOn ch) r.idx r.sub (row.rg.clip (row.ty.num (s.segment ch r))) (s.segment ch r) (s.asks ch 3 r) = .ok u →
    u.cl = (s.asks ch 3 r).cl → Answers (.clWrite ch r) s (fun t =>
      t.doneOn ch ∧ (t.chan ch).openDir = 0 ∧ u.sameBut t [.cl, .obj, .mgt])) ∧
  (∀ (ch : ChanId) (r : ClReq) (s : State), s.clQuiet → s.channelFree ch = true → r.node = 0 → r.last = false →
    s.checks (s.whoOn ch) 3 r.idx r.sub = 0 → (s.segment ch r).length ≤ mostOf r.idx r.sub → Answers (.clWrite ch r) s (fun t =>
      t.doneOn ch ∧ (t.chan ch).openDir = 2 ∧ (t.chan ch).openIdx = r.idx ∧ (t.chan ch).openSub = r.sub ∧
      (t.chan ch).openBuf = s.segment ch r ∧ (t.chan ch).openAt = s.aon.clock ∧
      s.sameBut t [.cl, .obj, .mgt, .host])) ∧
  (∀ (ch : ChanId) (r : ClReq) (s : State), s.clQuiet → s.channelFree ch = true → r.last = false → (s.chan ch).openDir = 2 →
    s.aon.clock < (s.chan ch).openAt + ms 10 →
    ((s.chan ch).openBuf ++ s.segment ch r).length ≤ mostOf (s.chan ch).openIdx (s.chan ch).openSub →
    Answers (.clWriteNext ch r) s (fun t =>
      t.doneOn ch ∧ (t.chan ch).openDir = 2 ∧ (t.chan ch).openBuf = (s.chan ch).openBuf ++ s.segment ch r ∧
      s.sameBut t [.cl, .obj, .mgt, .host])) ∧
  (∀ (ch : ChanId) (r : ClReq) (s : State), s.clQuiet → s.channelFree ch = true → Answers (.clCancel ch r) s (fun t =>
    t.doneOn ch ∧ (t.chan ch).openDir = 0 ∧ s.sameBut t [.cl, .obj, .mgt, .host])) ∧
  (∀ (ch : ChanId) (r : ClReq) (s : State), s.clQuiet → s.channelFree ch = true → r.node = 0 →
    s.checks (s.whoOn ch) 6 r.idx r.sub = 0 → Answers (.clDescribe ch r) s (fun t =>
      t.valueOn ch ((s.asks ch 6 r).describe r.idx r.sub) false ∧ (t.chan ch).total = 48)) ∧
  (∀ (ch : ChanId) (r : ClReq) (x : Nat) (s : State), s.clQuiet → s.channelFree ch = true → r.node = 0 →
    s.checks (s.whoOn ch) 1 r.idx r.sub = x → x ≠ 0 → Answers (.clRead ch r) s (fun t => t.abortedOn ch x)) ∧
  (∀ (ch : ChanId) (r : ClReq) (x : Nat) (s : State), s.clQuiet → s.channelFree ch = true → r.node = 0 →
    s.checks (s.whoOn ch) 3 r.idx r.sub = x → x ≠ 0 → Answers (.clWrite ch r) s (fun t => t.abortedOn ch x))

/-- A transfer without a segment for 10 ms ends (R112); firmware's answer ends the request that waits for it, with its abort code
or with the effect asked for, and so does its silence after 100 microseconds (R116); a node's silence after 1 ms (R146). -/
def Obligations.CutListAnswers : Prop :=
  (∀ (ch : ChanId) (s : State), (s.chan ch).openDir ≠ 0 → s.obs.standing = false → Answers (.clTransferTimeout ch) s (fun t =>
    (t.chan ch).openDir = 0 ∧ (t.chan ch).openBuf = [] ∧ (t.chan ch).state = (s.chan ch).state ∧
    (s.aon.porN = true → t.aon.clock = max s.aon.clock ((s.chan ch).openAt + ms 10)))) ∧
  (∀ (ch : ChanId) (a : ClPend) (s : State), s.clQuiet → outer ch = true → s.waits ch 0 = some a → Answers (.clFwTimeout ch) s (fun t =>
    t.abortedOn ch 0x0611 ∧ (s.aon.porN = true → t.aon.clock = max s.aon.clock (a.since + us 100)))) ∧
  (∀ (ch : ChanId) (a : ClPend) (x : Nat) (row : Row) (s : State), s.clQuiet → outer ch = true → s.waits ch 0 = some a →
    dictRow a.idx a.sub = some row → x ≠ 0 → Answers (.clFwResponse ch x) s (fun t => t.abortedOn ch x)) ∧
  (∀ (ch : ChanId) (a : ClPend) (row : Row) (s : State), s.clQuiet → outer ch = true → s.waits ch 0 = some a → a.op = 1 →
    dictRow a.idx a.sub = some row → s.unready row.own a.idx = false → Answers (.clFwResponse ch 0) s (fun t =>
      t.valueOn ch (s.clBytes ch a.idx a.sub) (48 < (s.clBytes ch a.idx a.sub).length))) ∧
  (∀ (ch : ChanId) (a : ClPend) (row : Row) (s u : State), s.clQuiet → outer ch = true → s.waits ch 0 = some a → a.op = 3 →
    dictRow a.idx a.sub = some row → s.unready row.own a.idx = false →
    s.budgetRec a.idx a.sub (row.rg.clip (row.ty.num a.val)).toNat = none → a.idx ≠ 0x5300 →
    ¬(0x2620 ≤ a.idx ∧ a.idx < 0x2628) →
    objWrite (a.who ch) a.idx a.sub (row.rg.clip (row.ty.num a.val)) a.val s = .ok u → u.cl = s.cl →
    Answers (.clFwResponse ch 0) s (fun t => t.doneOn ch ∧ u.sameBut t [.cl, .obj, .mgt])) ∧
  (∀ (ch : ChanId) (a : ClPend) (s : State), s.clQuiet → outer ch = true → s.waits ch 1 = some a → Answers (.clRemoteTimeout ch) s (fun t =>
    t.abortedOn ch 0x0610 ∧ (s.aon.porN = true → t.aon.clock = max s.aon.clock (a.since + ms 1))))

/-- A level is agreed (R106); the management port opens and closes the diagnostics lock (R87); a store takes its snapshot, ends with
its copy as the set in force or with the set before, and a wipe leaves no copy valid (R102, R103); an advance of a generation
raises it, 1 after 65,535, and drops the slot's level and transfer (R555). -/
def Obligations.EngineOwnWrites : Prop :=
  (∀ (ch : ChanId) (val : List Byte) (s : State), s.takes ch 0x1001 1 val → Answers (.levelRequest ch val) s (fun t =>
    t.doneOn ch ∧ (t.chan ch).reqLevel = leVal val ∧
    (t.chan ch).level = if 0x0200 ≤ leVal val then 0x0200 else min (leVal val) 0x0103)) ∧
  (∀ (val : List Byte) (s : State), s.takes .mgt 0xF000 0 val → Answers (.diagLockOpen val) s (fun t =>
    t.doneOn .mgt ∧ t.cl.diagOpen = decide (leVal val = 1))) ∧
  (∀ (ch : ChanId) (val : List Byte) (s : State), s.takes ch 0x1030 1 val → s.cl.storeState ≠ 1 → s.noFlash = false →
    Answers (.commissioningStore ch val) s (fun t =>
      t.doneOn ch ∧ t.cl.storeState = 1 ∧ t.cl.storeNo = s.cl.storeNo ∧ t.flash = s.flash)) ∧
  (∀ s : State, s.cl.storeState = 1 → ((s.cl.storeSnap.map entryBytes).flatten).length ≤ 262104 →
    Answers (.commissioningStoreDone true) s (fun t =>
      t.cl.storeState = 2 ∧ t.cl.storeNo = (s.cl.storeNo + 1) % 2 ^ 32 ∧
      (t.flash.defA = { valid := true, store := t.cl.storeNo, entries := s.cl.storeSnap } ∧ t.flash.defB = s.flash.defB ∨
       t.flash.defB = { valid := true, store := t.cl.storeNo, entries := s.cl.storeSnap } ∧ t.flash.defA = s.flash.defA))) ∧
  (∀ s : State, s.cl.storeState = 1 → Answers (.commissioningStoreDone false) s (fun t =>
    t.cl.storeState = 3 ∧ t.cl.storeNo = s.cl.storeNo ∧ (t.flash.defA = s.flash.defA ∨ t.flash.defB = s.flash.defB))) ∧
  (∀ (ch : ChanId) (val : List Byte) (s : State), s.takes ch 0x1030 2 val → s.cl.storeState ≠ 1 → s.noFlash = false →
    Answers (.commissioningWipe ch val) s (fun t =>
      t.doneOn ch ∧ t.cl.storeState = 4 ∧ t.flash.defA.valid = false ∧ t.flash.defB.valid = false)) ∧
  (∀ (ch : ChanId) (p : Nat) (val : List Byte) (s : State), p < 64 → s.takes ch (0x60C0 + p) 2 val → p ≠ 0 → leVal val = s.genOf p →
    s.host.gens.length = 64 → Answers (.generationAdvance ch p val) s (fun t =>
      t.doneOn ch ∧ t.genOf p = (if s.genOf p = 0xFFFF then 1 else s.genOf p + 1) ∧ (∀ q, q ≠ p → t.genOf q = s.genOf q) ∧
      (t.chan (.slot p)).level = 0x0100 ∧ (t.chan (.slot p)).openDir = 0))

/-- Lock gained brings a link up and lock lost starts the wait for its return (R121); 2 microseconds without lock or without an ACK take
it down, its waiting frames and replay buffers with it, and a fourth NAK of one frame does (R129); an ACK frees the frames up to
its own, a NAK sends them again, a frame with a bad CRC is answered with NAK and awaited, and one that ends in POISON is void and
so is its copy (R127, R128); a member whose end towards the root is lost is isolated (R148). -/
def Obligations.ChainLinks : Prop :=
  (∀ (l : Side) (s : State), s.aon.ctlReleased = true → ((s.link l).lock && (s.link l).linkUp) = false →
    Answers (.linkLockGain l) s (fun t =>
      (t.link l).lock = true ∧ (t.link l).linkUp = true ∧ (t.link l).lockLostAt = none ∧
      (t.link (otherSide l)).linkUp = (s.link (otherSide l)).linkUp)) ∧
  (∀ (l : Side) (s : State), (s.link l).lock = true → Answers (.linkCodeErrorLoss l) s (fun t =>
    t.link l = { s.link l with lock := false, lockLostAt := some s.aon.clock } ∧
    t.num 0x2101 (linkBase l + 1) = min 0xFFFFFFFF (s.num 0x2101 (linkBase l + 1) + 4))) ∧
  (∀ (l : Side) (s : State), (s.link l).lock = true → Answers (.linkK285Timeout l) s (fun t =>
    t.link l = { s.link l with lock := false, lockLostAt := some s.aon.clock } ∧ t.obj = s.obj)) ∧
  (∀ (l : Side) (u : Nat) (s : State), (s.link l).lockLostAt = some u → (s.link l).linkUp = true →
    (l = .up ∨ s.isRoot = false ∨ s.therm.relays = []) → Answers (.linkRelockTimeout l) s (fun t =>
      (t.link l).linkUp = false ∧ (t.link l).lock = false ∧ ((t.link l).lane true).replay = [] ∧ ((t.link l).lane false).replay = [] ∧
      (s.aon.porN = true → t.aon.clock = max s.aon.clock (u + us 2)) ∧
      (l = .up → s.chain.role = 2 → t.chain.role = 3 ∧ t.chain.isolated = true))) ∧
  (∀ (l : Side) (prio : Bool) (u : Nat) (r : List Nat) (s : State), ((s.link l).lane prio).sentAts = u :: r → (s.link l).linkUp = true →
    (l = .up ∨ s.isRoot = false ∨ s.therm.relays = []) → Answers (.linkAckTimeout l prio) s (fun t =>
      (t.link l).linkUp = false ∧ (t.link l).lock = false ∧ ((t.link l).lane true).replay = [] ∧ ((t.link l).lane false).replay = [] ∧
      (s.aon.porN = true → t.aon.clock = max s.aon.clock (u + us 2)))) ∧
  (∀ (l : Side) (prio : Bool) (seq i : Nat) (s : State), s.linkOn l = true → ((s.link l).lane prio).find seq = some i →
    ((s.link l).lane true).waiting = [] → ((s.link l).lane false).waiting = [] → Answers (.ackReceive l prio seq) s (fun t =>
      (t.link l).lane prio = { (s.link l).lane prio with
        replay := ((s.link l).lane prio).replay.drop (i + 1), sentAts := ((s.link l).lane prio).sentAts.drop (i + 1), naks := 0 } ∧
      (t.link l).lane (!prio) = (s.link l).lane (!prio))) ∧
  (∀ (l : Side) (prio : Bool) (seq i : Nat) (s : State), s.linkOn l = true → ((s.link l).lane prio).find seq = some i →
    (((s.link l).lane prio).nakSeq ≠ seq ∨ ((s.link l).lane prio).naks < 3) → Answers (.nakReceive l prio seq) s (fun t =>
      (t.link l).lane prio = nakLane s.aon.clock seq i ((s.link l).lane prio) ∧ (t.link l).linkUp = true ∧
      t.num 0x2101 (linkBase l + 3) =
        min 0xFFFFFFFF (s.num 0x2101 (linkBase l + 3) + (((s.link l).lane prio).replay.length - i : Nat)))) ∧
  (∀ (l : Side) (prio : Bool) (seq i : Nat) (s : State), s.linkOn l = true → ((s.link l).lane prio).find seq = some i →
    ((s.link l).lane prio).nakSeq = seq → ((s.link l).lane prio).naks = 3 → (l = .up ∨ s.isRoot = false ∨ s.therm.relays = []) →
    Answers (.nakReceive l prio seq) s (fun t => (t.link l).linkUp = false ∧ ((t.link l).lane prio).replay = [])) ∧
  (∀ (l : Side) (f : Frame) (s : State), s.linkOn l = true → ((s.link l).lane f.prio).awaitSeq = none →
    Answers (.frameReceiveBadCrc l f) s (fun t =>
      ((t.link l).lane f.prio).awaitSeq = some f.seq ∧ ((t.link l).lane f.prio).answer = some (false, f.seq) ∧
      ((t.link l).lane f.prio).replay = ((s.link l).lane f.prio).replay ∧
      t.num 0x2101 (linkBase l + 2) = min 0xFFFFFFFF (s.num 0x2101 (linkBase l + 2) + 1))) ∧
  (∀ (f : Frame) (s : State), s.linkOn .up = true → s.isRoot = false → s.chain.dn.linkUp = true → f.dst = 0x1F →
    Answers (.poisonReceive .up f) s (fun t =>
      (t.chain.dn.lane f.prio).voided = (s.chain.dn.lane f.prio).voided + 1 ∧
      (t.chain.dn.lane f.prio).waiting = (s.chain.dn.lane f.prio).waiting ∧ t.chain.up = s.chain.up ∧
      t.chain.partial_ = s.chain.partial_))

/-- A node takes the next address of its kind from the token, or none (R133, R134), and sends the token on (R133); the far end reports
it, and a root without a far end closes with itself (R135); the root repeats ENUM and closes after 10 ms (R135), or with the
far end's list (R136); ENUM_CLOSE makes a node of the mask a member in its order (R136). -/
def Obligations.ChainEnumeration : Prop :=
  (∀ (l : Side) (f : Frame) (w a : Nat) (s : State), s.hearsFrame l 1 f → f.dst ≠ 0x1F → s.chain.role ≠ 1 → s.chain.role ≠ 2 →
    w = f.payload.headD 0 → a = (if s.inst.sat = true then bits w 9 5 else w % 32) → a ≤ (if s.inst.sat = true then 0x18 else 8) →
    Answers (.enumReceive l f) s (fun t =>
      t.chain.addr = a ∧ t.chain.overpop = false ∧ t.chain.token = descsOf (f.payload.drop 1) ++ [s.ownDesc a] ∧
      t.chain.tokenNext = w + (if s.inst.sat = true then 32 else 1) + 1024 ∧ t.chain.tokenAt = some s.aon.clock)) ∧
  (∀ (l : Side) (f : Frame) (w : Nat) (s : State), s.hearsFrame l 1 f → f.dst ≠ 0x1F → s.chain.role ≠ 1 → s.chain.role ≠ 2 →
    w = f.payload.headD 0 → (if s.inst.sat = true then 0x18 else 8) < (if s.inst.sat = true then bits w 9 5 else w % 32) →
    Answers (.enumReceive l f) s (fun t =>
      t.chain.addr = 0 ∧ t.chain.overpop = true ∧ t.chain.tokenNext = w ∧ t.chain.isolated = true)) ∧
  (∀ (u : Nat) (s : State), s.chain.tokenAt = some u → s.isReady 5 = true → s.chain.dn.linkUp = true → s.obs.standing = false →
    s.chain.role ≠ 1 → Answers .enumForward s (fun t =>
      t.chain.tokenAt = none ∧ t.chain.token = [] ∧ t.chain.addr = s.chain.addr)) ∧
  (∀ (u : Nat) (s : State), s.chain.tokenAt = some u → s.isReady 5 = true → s.chain.dn.linkUp = true → s.obs.standing = false →
    s.chain.role = 1 → s.chain.enumSent = 0 → s.chain.enumClosed = false → Answers .enumForward s (fun t =>
      t.chain.tokenAt = some u ∧ t.chain.token = s.chain.token ∧ t.chain.enumSent = 1)) ∧
  (∀ (u : Nat) (s : State), s.aon.porN = true → s.chain.tokenAt = some u → s.isReady 5 = true → s.chain.dn.linkUp = false →
    s.obs.standing = false → Answers .farEndTimeout s (fun t =>
      t.chain.tokenAt = (if s.isRoot = true ∧ s.chain.enumClosed = true then some u else none) ∧
      t.aon.clock = max s.aon.clock (max u (4 * s.aon.stamps.getD 5 0) + us 100) ∧
      (s.isRoot = false → t.chain.token = [] ∧ t.chain.role = s.chain.role) ∧
      (s.isRoot = true → s.chain.enumClosed = false → t.chain.enumClosed = true ∧ t.chain.order = [1] ∧ t.isReady 8 = true))) ∧
  (∀ (u : Nat) (s : State), s.aon.porN = true → s.chain.enumFirstAt = some u → s.isRoot = true → s.chain.enumClosed = false →
    s.chain.enumSent < 3 → s.obs.standing = false → Answers .enumRepeat s (fun t =>
      t.chain.enumSent = s.chain.enumSent + 1 ∧ t.chain.enumFirstAt = some u ∧
      t.aon.clock = max s.aon.clock (u + ms 3 * s.chain.enumSent))) ∧
  (∀ (u : Nat) (s : State), s.aon.porN = true → s.chain.enumFirstAt = some u → s.isRoot = true → s.chain.enumClosed = false →
    s.obs.standing = false → Answers .enumTimeout s (fun t =>
      t.chain.enumClosed = true ∧ t.chain.order = [1] ∧ t.isReady 8 = true ∧ t.aon.clock = max s.aon.clock (u + ms 10))) ∧
  (∀ (l : Side) (f : Frame) (n : List Nat) (s : State), s.hearsFrame l 2 f → s.isRoot = true → s.chain.enumClosed = false →
    n = ((descsOf (f.payload.drop 1)).filter (fun d => d.addr != 0)).map (fun d => d.addr) → Answers (.enumReportReceive l f) s (fun t =>
      t.chain.enumClosed = true ∧ t.chain.order = n ∧ t.chain.memberMask = maskOf n ∧ t.isReady 8 = true ∧ t.chain.role = 1)) ∧
  (∀ (l : Side) (f : Frame) (s : State), s.hearsFrame l 3 f → f.dst = 0x1F → s.isRoot = false → s.chain.addr ≠ 0 →
    bit (f.payload.headD 0) s.chain.addr = true → Answers (.enumCloseReceive l f) s (fun t =>
      t.chain.role = 2 ∧ t.chain.memberMask = f.payload.headD 0 ∧ t.chain.order = orderOf ((f.payload.drop 1).take 4) ∧
      t.chain.addr = s.chain.addr ∧ t.isReady 8 = true))

/-- A member notes the loss of others with the event, FQ_IRQ and its masks (R149), and is isolated by a loss that names itself or the
root (R148); the root also ends a budget change in progress (R143, R149); a lost member that comes back gets its address
(R151); the operator clears hold-outs (R152), makes a node root (R153) and releases a lost member's reserve (R149). -/
def Obligations.ChainMembership : Prop :=
  (∀ (l : Side) (f : Frame) (m : Nat) (s : State), s.hearsFrame l 4 f → s.chain.role = 2 → s.therm.relays = [] →
    m = f.payload.headD 0 → bit m s.chain.addr = false → bit m 1 = false → Answers (.nodeLostReceive l f) s (fun t =>
      t.chain.memberMask = maskOf ((bitsOf 32 s.chain.memberMask).filter (fun a => !bit m a)) ∧
      t.chain.lostMask = maskOf (bitsOf 32 s.chain.lostMask ++ bitsOf 32 m) ∧ t.aon.fqIrq = true ∧ t.chain.role = 2)) ∧
  (∀ (l : Side) (f : Frame) (s : State), s.hearsFrame l 4 f → s.chain.role = 2 →
    (bit (f.payload.headD 0) s.chain.addr = true ∨ bit (f.payload.headD 0) 1 = true) → Answers (.nodeLostReceive l f) s (fun t =>
      t.chain.role = 3 ∧ t.chain.isolated = true ∧ t.chain.memberMask = s.chain.memberMask)) ∧
  (∀ (l : Side) (f : Frame) (m : Nat) (s : State), s.hearsFrame l 4 f → s.chain.role = 1 → s.therm.relays = [] →
    m = maskOf ((bitsOf 32 (f.payload.headD 0)).filter (fun a => bit s.chain.memberMask a && a != s.chain.addr)) → m ≠ 0 →
    Answers (.nodeLostReceive l f) s (fun t =>
      t.chain.memberMask = maskOf ((bitsOf 32 s.chain.memberMask).filter (fun a => !bit m a)) ∧ t.chain.txn = none ∧
      t.chain.retryAt = none ∧ t.chain.role = 1 ∧ t.aon.fqIrq = true)) ∧
  (∀ (l : Side) (f : Frame) (x : Desc) (s : State), s.hearsFrame l 5 f → s.chain.role = 1 → s.chain.enumClosed = true →
    s.chain.descs.find? (fun d => d.serial = (descOf (f.payload.headD 0) (f.payload.getD 1 0) (f.payload.getD 2 0)).serial &&
      bit s.chain.lostMask d.addr) = some x → bit s.chain.heldMask x.addr = false → Answers (.nodeRejoinReceive l f) s (fun t =>
      t.chain.memberMask = putBit s.chain.memberMask x.addr true ∧ t.chain.lostMask = putBit s.chain.lostMask x.addr false ∧
      t.chain.order = (if s.chain.order.contains x.addr then s.chain.order else s.chain.order ++ [x.addr]))) ∧
  (∀ (ch : ChanId) (val : List Byte) (m : Nat) (s : State), s.takes ch 0x2100 8 val → m = ((Rg.mask 0x1FFFFFE).clip (leVal val)).toNat → Answers (.holdOutClear ch val) s (fun t =>
    t.doneOn ch ∧ t.chain = { s.chain with heldMask := maskOf ((bitsOf 32 s.chain.heldMask).filter (fun a => !bit m a)) })) ∧
  (∀ (ch : ChanId) (val : List Byte) (s : State), s.takes ch 0x2100 9 val → s.inst.sat = false → s.chain.up.linkUp = false →
    Answers (.assumeRoot ch val) s (fun t =>
      t.doneOn ch ∧ t.chain.role = 1 ∧ t.chain.addr = 1 ∧ t.chain.memberMask = 0 ∧ t.chain.lostMask = 0 ∧ t.chain.enumClosed = false ∧
      t.chain.token = [s.ownDesc 1] ∧ t.chain.enumSent = (if s.chain.dn.linkUp = true then 1 else 0))) ∧
  (∀ (ch : ChanId) (val : List Byte) (s : State), s.takes ch 0x2100 9 val → (s.inst.sat = true ∨ s.chain.up.linkUp = true) →
    Answers (.assumeRoot ch val) s (fun t => t.abortedOn ch abState ∧ t.chain = s.chain)) ∧
  (∀ (ch : ChanId) (val : List Byte) (m : Nat) (s : State), s.takes ch 0x2100 0x0B val → m = ((Rg.mask 0x1FFFFFE).clip (leVal val)).toNat →
    covers s.chain.lostMask m = true →
    Answers (.reserveRelease ch val) s (fun t =>
      t.doneOn ch ∧ t.chain = { s.chain with released := maskOf (bitsOf 32 s.chain.released ++ bitsOf 32 m) }))

/-- The root queues the records of a BUD_REQ, all or none (R138), opens a transaction with up to 15 of them (R140), and commits it once every
member's YES is in, or aborts it on a NO or after 10 microseconds and tries again after 50 (R141, R143); a member prepares and
votes (R140), holds the transaction committed from BUD_COMMIT until it applies it (R141), frees it on BUD_ABORT, and without
an outcome for 50 microseconds repeats its vote, or is isolated where the root is out of reach (R142). -/
def Obligations.BudgetTransactions : Prop :=
  (∀ (l : Side) (f : Frame) (q : List BudRec) (s : State), s.hearsFrame l 9 f → s.chain.role = 1 →
    q = (f.payload.map recOf).foldl (fun q r => putRec r q) s.chain.budQueue → Answers (.budReqReceive l f) s (fun t =>
      t.chain.budQueue = if q.length ≤ 64 then q else s.chain.budQueue)) ∧
  (∀ s : State, s.obs.standing = false → s.chain.role = 1 → s.chain.txn = none → s.chain.retryAt = none → s.chain.budQueue ≠ [] →
    s.chain.enumClosed = true → s.votesYes (s.chain.budQueue.take 15) →
    covers (putBit 0 s.chain.addr true) s.chain.memberMask = false → Answers .budTransactionOpen s (fun t =>
      t.chain.txn = some { txid := s.chain.nextTxid, recs := s.chain.budQueue.take 15, openedAt := s.aon.clock,
                           votes := putBit 0 s.chain.addr true } ∧
      t.chain.budQueue = s.chain.budQueue.drop 15 ∧ t.chain.nextTxid = (if s.chain.nextTxid = 0xFFFF then 1 else s.chain.nextTxid + 1) ∧
      t.chain.preps = s.chain.preps ++ [{ txid := s.chain.nextTxid, recs := s.chain.budQueue.take 15, votedAt := s.aon.clock }])) ∧
  (∀ (l : Side) (f : Frame) (rs : List BudRec) (s : State), s.hearsFrame l 10 f → s.chain.role = 2 →
    rs = ((f.payload.drop 1).take (bits (f.payload.headD 0) 19 16)).map recOf → Answers (.budPrepareReceive l f) s (fun t =>
      t.chain.preps = if s.voteOf rs = 0 then
        s.chain.preps ++ [{ txid := f.payload.headD 0 % 65536, recs := rs, votedAt := s.aon.clock }] else s.chain.preps)) ∧
  (∀ (l : Side) (f : Frame) (u : Txn) (s : State), s.hearsFrame l 11 f → s.chain.role = 1 → s.chain.txn = some u →
    f.payload.headD 0 % 65536 = u.txid → u.txid ≠ 0 → Answers (.budVoteReceive l f) s (fun t =>
      if bit (f.payload.headD 0) 16 = false then
        t.chain.txn = none ∧ t.chain.retryRecs = u.recs ∧ t.chain.retryAt = some (s.aon.clock + us 50) ∧
          t.chain.decisions = ((u.txid, false) :: s.chain.decisions).take 16
      else if covers (putBit u.votes f.src true) s.chain.memberMask = true then
        t.chain.txn = none ∧ t.chain.decisions = ((u.txid, true) :: s.chain.decisions).take 16
      else t.chain.txn = some { u with votes := putBit u.votes f.src true })) ∧
  (∀ (l : Side) (f : Frame) (ch : ChanId) (a : ClPend) (s : State), s.hearsFrame l 11 f → s.clQuiet → f.payload.headD 0 % 65536 = 0 →
    s.firstAsk = some (ch, a) → outer ch = true → Answers (.budVoteReceive l f) s (fun t =>
      if bit (f.payload.headD 0) 16 = true then t.doneOn ch else t.abortedOn ch 0x060D)) ∧
  (∀ (u : Txn) (s : State), s.aon.porN = true → s.chain.txn = some u → s.isRoot = true → s.obs.standing = false →
    Answers .budVoteTimeout s (fun t =>
      t.chain.txn = none ∧ t.chain.retryRecs = u.recs ∧ t.chain.retryAt = some (t.aon.clock + us 50) ∧
      t.aon.clock = max s.aon.clock (u.openedAt + us 10))) ∧
  (∀ (l : Side) (f : Frame) (n : Nat) (s : State), s.hearsFrame l 12 f → n = f.payload.headD 0 % 65536 →
    s.chain.preps.any (fun p => p.txid = n && !p.committed) = true → Answers (.budCommitReceive l f) s (fun t =>
      t.chain.preps = s.chain.preps.map (fun p => if p.txid = n then { p with committed := true } else p) ∧
      t.num 0x2102 1 = (s.num 0x2102 1 + 1) % 2 ^ 32 ∧ t.num 0x2102 4 = n ∧ t.cap = s.cap)) ∧
  (∀ (n : Nat) (p : Prep) (u : State) (s : State), s.obs.standing = false →
    s.chain.preps.find? (fun p => p.txid = n && p.committed) = some p →
    u = { s with chain := { s.chain with preps := s.chain.preps.filter (fun q => q.txid != p.txid) } } →
    Answers (.budCommitApply n) s (fun t =>
      t.chain.preps = u.chain.preps ∧ t.cap.budgets = (p.recs.foldl (fun s r => applyRec r s) u).cap.budgets ∧
      (∀ r, p.recs = [r] → r.kind = 2 → r.node ≠ 0x1F → t.budget 2 r.node = r.value))) ∧
  (∀ (l : Side) (f : Frame) (n : Nat) (s : State), s.hearsFrame l 13 f → n = f.payload.headD 0 % 65536 →
    s.chain.preps.any (fun p => p.txid = n && !p.committed) = true → Answers (.budAbortReceive l f) s (fun t =>
      t.chain.preps = s.chain.preps.filter (fun p => p.txid != n || p.committed) ∧
      t.num 0x2102 2 = (s.num 0x2102 2 + 1) % 2 ^ 32 ∧ t.cap = s.cap)) ∧
  (∀ (n : Nat) (p : Prep) (s : State), s.aon.porN = true → s.isRoot = false → s.obs.standing = false →
    s.chain.preps.find? (fun p => p.txid = n && !p.committed) = some p → Answers (.budOutcomeTimeout n) s (fun t =>
      t.aon.clock = max s.aon.clock (p.votedAt + us 50) ∧
      (if s.rootReach = true then
         t.chain.preps = s.chain.preps.map (fun q => if q.txid = n then { q with votedAt := t.aon.clock } else q)
       else t.chain.preps = s.chain.preps.filter (fun q => q.txid != n) ∧ t.chain.isolated = true))) ∧
  (∀ (u : Nat) (rs : List BudRec) (s : State), s.aon.porN = true → s.chain.retryAt = some u → s.chain.role = 1 → s.obs.standing = false →
    rs = s.chain.retryRecs.filter (fun r => !s.chain.budQueue.any (fun x => x.same r)) ++ s.chain.budQueue.take
      (15 - (s.chain.retryRecs.filter (fun r => !s.chain.budQueue.any (fun x => x.same r))).length) →
    s.votesYes rs → covers (putBit 0 s.chain.addr true) s.chain.memberMask = false → Answers .budRetry s (fun t =>
      t.aon.clock = max s.aon.clock u ∧ t.chain.retryAt = none ∧
      t.chain.txn = some { txid := s.chain.nextTxid, recs := rs, openedAt := t.aon.clock, votes := putBit 0 s.chain.addr true }))

/-- A member's TELEM leaves each millisecond and clears what it has told (R144); a TELEM that comes whole is noted with its sequence number
(R144); a remote request that another node sends is answered with CL_RSP, and a CL_RSP ends the request it answers (R146); the
root counts the arrivals of its package barrier and releases it (R363); a RELEASE or CANCEL ends a member's wait (R363, R365). -/
def Obligations.ChainTraffic : Prop :=
  (∀ s : State, s.aon.porN = true → (s.chain.role = 1 ∨ s.chain.role = 2) → s.isReady 8 = true → s.obs.standing = false →
    Answers .telemSend s (fun t =>
      t.chain.telemSeq = (s.chain.telemSeq + 1) % 65536 ∧ t.chain.telemNextAt = t.aon.clock + ms 1 ∧
      t.aon.clock = max s.aon.clock s.chain.telemNextAt ∧ t.cap.durMs = List.replicate 10 0 ∧ t.cap.cntMs = List.replicate 10 0)) ∧
  (∀ (l : Side) (f : Frame) (s : State), s.hearsFrame l 0x10 f → f.payload.length = 48 → (s.chain.role = 1 ∨ s.chain.role = 2) →
    Answers (.telemReceive l f) s (fun t =>
      kvGet t.chain.telemLast f.src = some (f.payload.headD 0 % 65536) ∧
      (s.chain.role = 1 → bit s.chain.memberMask f.src = true → kvGet t.cap.memTelem f.src = some f.payload))) ∧
  (∀ (l : Side) (f : Frame) (s : State), s.hearsFrame l 0x11 f → s.clQuiet → s.cl.chain.state ≠ 1 →
    f.payload.headD 0 % 256 ≠ 1 → f.payload.headD 0 % 256 ≠ 3 → f.payload.headD 0 % 256 ≠ 6 → Answers (.clReqReceive l f) s (fun t =>
      ∃ u, u.cl = s.cl ∧ t = clRsp f.src (bits (f.payload.getD 1 0) 31 24) 0x060B [] u)) ∧
  (∀ (l : Side) (f : Frame) (i sub : Nat) (s : State), s.hearsFrame l 0x11 f → s.clQuiet → s.cl.chain.state ≠ 1 →
    f.payload.headD 0 % 256 = 6 → i = bits (f.payload.headD 0) 31 16 → sub = bits (f.payload.headD 0) 15 8 →
    s.checks { cls := f.payload.getD 1 0 % 4, part := bits (f.payload.getD 1 0) 7 2, level := bits (f.payload.getD 1 0) 23 8,
               ch := .chain } 6 i sub = 0 → Answers (.clReqReceive l f) s (fun t =>
      ∃ u v, v.length = 48 ∧ u.cl.chain.state = 0 ∧ t = clRsp f.src (bits (f.payload.getD 1 0) 31 24) 0 v u)) ∧
  (∀ (l : Side) (f : Frame) (ch : ChanId) (a : ClPend) (x : Nat) (s : State), s.hearsFrame l 0x12 f → s.clQuiet → ch ∈ allChans →
    outer ch = true → s.waits ch 1 = some a → a.tag = bits (f.payload.headD 0) 23 16 → a.node = f.src → a.op = 1 →
    s.aon.clock ≤ a.since + ms 1 → (∀ c, c ≠ ch → s.waits c 1 = none) → x = f.payload.headD 0 % 65536 →
    Answers (.clRspReceive l f) s (fun t =>
      let v := (octetsOf (f.payload.drop 2)).take (f.payload.getD 1 0)
      if x = 0 then t.valueOn ch v (48 < v.length) else t.abortedOn ch x)) ∧
  (∀ (l : Side) (f : Frame) (s : State), s.hearsFrame l 8 f → s.chain.role = 1 → f.payload.headD 0 / 65536 % 4 = 0 →
    bit s.pkgMask f.src = true → bit s.dove.arrived f.src = false → Answers (.barrierArriveReceive l f) s (fun t =>
      if s.pkgMask ≠ 0 ∧ covers (putBit s.dove.arrived f.src true) s.pkgMask = true then
        t.dove.arrived = 0 ∧ t.dove.rootEpoch = nextEpoch s.dove.rootEpoch
      else t.dove.arrived = putBit s.dove.arrived f.src true ∧ t.dove.rootEpoch = s.dove.rootEpoch)) ∧
  (∀ (l : Side) (f : Frame) (s : State), s.hearsFrame l 8 f → f.payload.headD 0 / 65536 % 4 = 1 → s.dove.pkgWait = true →
    bit (f.payload.getD 1 0) s.chain.addr = true → Answers (.barrierReleaseReceive l f) s (fun t =>
      t.dove.pkgWait = false ∧ t.dove.epoch = f.payload.headD 0 % 65536 ∧ t.dove.releasing = true)) ∧
  (∀ (l : Side) (f : Frame) (s : State), s.hearsFrame l 8 f → f.payload.headD 0 / 65536 % 4 = 2 → s.dove.pkgWait = true →
    bit (f.payload.getD 1 0) s.chain.addr = true → Answers (.barrierCancelReceive l f) s (fun t =>
      t.dove.pkgWait = false ∧ t.dove.epoch = f.payload.headD 0 % 65536 ∧ t.dove.releasing = true ∧ bit t.dove.flags 2 = true))

/-- A result instant makes GAUGES ready, and each gauge with a result of its own takes gain times raw plus offset, clamped, and its highest
used result (R373, R376); a gauge with 16 deviating instants becomes suspect, a fault of S1 (R379); a reference or align command
that has run leaves the gauge normal, or suspect where its results deviate (R382); a stored calibration takes the copy not
in use (R384).
The five commands of a gauge that may take them (R382, R383): a reference cycle covers it for 80 instants, an align for 1,024, a
clear waits for the next instant, a take-off puts it out of use, a return covers it for 80; the calibration store takes its
snapshot (R384); relayed words end as named (R392). -/
def Obligations.GaugeResultsAndCommands : Prop :=
  (∀ (raw : List Int) (u s : State), s.aon.ctlReleased = true → s.sramOk = true → s.enabled 2 = true → u = s.atInstant →
    u.quietInstant raw → Answers (.gaugeInstant raw) s (fun t =>
      t.isReady 7 = true ∧ t.aon.clock = u.aon.clock ∧ t.therm = (u.instantTaken raw).therm ∧
      (∀ n g, u.therm.gauges[n]? = some g → g.state ≠ 5 → g.cmd ≠ 1 → g.cmd ≠ 5 →
        ∃ h, t.therm.gauges[n]? = some h ∧
          h.own = clampI (-640) 2400 (divHalfUp ((g.gain : Int) * raw.getD n 0) 32768 + g.offset) ∧
          h.highest = max g.highest h.used ∧ h.hist.head? = some h.used))) ∧
  (∀ (n : Nat) (g : Gauge) (s : State), s.therm.gauges.find? (fun g => g.n = n) = some g → g.state = 0 → g.devRun = 16 →
    6 < s.prot.ctxs.length → (s.ctx 6).cur = none → Answers (.gaugeSuspect n) s (fun t =>
      (∃ h, t.therm.gauges.find? (fun g => g.n = n) = some h ∧ h.state = 2 ∧ h.devRun = 0 ∧ h.used = g.used) ∧
      t.recoversOf 6 0x0506 1 0xFF n ∧ bit t.therm.flags 3 = true ∧ t.aon.fqIrq = true)) ∧
  (∀ (n : Nat) (g : Gauge) (s : State), s.therm.gauges.find? (fun g => g.n = n) = some g → g.cmd ≠ 0 → g.cmdLeft = 0 →
    (g.cmd = 2 ∨ g.cmdBad = false) → Answers (.gaugeCommandDone n) s (fun t =>
      (∃ h, t.therm.gauges.find? (fun g => g.n = n) = some h ∧ h.state = 0 ∧ h.cmd = 0 ∧ h.gain = g.gain ∧
        h.offset = (if g.cmd = 2 then clampI (-32768) 32767 (g.offset + divHalfUp g.cmdAcc 1048576) else g.offset)) ∧
      t.num 0x5010 4 = 2 ∧ t.prot = s.prot)) ∧
  (∀ (n : Nat) (g : Gauge) (s : State), s.therm.gauges.find? (fun g => g.n = n) = some g → g.cmd ≠ 0 → g.cmdLeft = 0 →
    g.cmd ≠ 2 → g.cmdBad = true → 6 < s.prot.ctxs.length → (s.ctx 6).cur = none → Answers (.gaugeCommandDone n) s (fun t =>
      (∃ h, t.therm.gauges.find? (fun g => g.n = n) = some h ∧ h.state = 2 ∧ h.cmd = 0 ∧ h.offset = g.offset) ∧
      t.num 0x5010 4 = 3 ∧ t.recoversOf 6 0x0506 1 0xFF n)) ∧
  (∀ s : State, s.therm.calStore = 1 → Answers (.gaugeCalStoreDone true) s (fun t =>
    t.therm.calStore = 2 ∧
    (t.flash.calA = s.therm.calSnap ∧ t.flash.calAStore = max s.flash.calAStore s.flash.calBStore + 1 ∧ t.flash.calB = s.flash.calB ∨
     t.flash.calB = s.therm.calSnap ∧ t.flash.calBStore = max s.flash.calAStore s.flash.calBStore + 1 ∧ t.flash.calA = s.flash.calA))) ∧
  (∀ s : State, s.therm.calStore = 1 → Answers (.gaugeCalStoreDone false) s (fun t => t.therm.calStore = 3)) ∧
  (∀ (ch : ChanId) (val : List Byte) (g : Gauge) (s : State), s.takes ch 0x5010 3 val → leVal val = 1 → s.gaugeIdle g → s.coverable g →
    Answers (.gaugeReferenceCycle ch val) s (fun t => ∃ h, s.gaugeBecomes t ch h ∧ h.state = 3 ∧ h.cmd = 1 ∧ h.cmdLeft = 80 ∧
      h.gain = g.gain ∧ h.offset = g.offset ∧ h.commands = min 65535 (g.commands + 1))) ∧
  (∀ (ch : ChanId) (val : List Byte) (g : Gauge) (s : State), s.takes ch 0x5010 3 val → leVal val = 2 → s.gaugeIdle g → s.coverable g →
    Answers (.gaugeAlign ch val) s (fun t => ∃ h, s.gaugeBecomes t ch h ∧ h.state = 3 ∧ h.cmd = 2 ∧ h.cmdLeft = 1024 ∧ h.cmdAcc = 0)) ∧
  (∀ (ch : ChanId) (val : List Byte) (g : Gauge) (s : State), s.takes ch 0x5010 3 val → leVal val = 3 → s.gaugeIdle g → g.state = 2 →
    Answers (.gaugeClear ch val) s (fun t => ∃ h, s.gaugeBecomes t ch h ∧ h.state = 2 ∧ h.clearing = true ∧ h.cmd = 0)) ∧
  (∀ (ch : ChanId) (val : List Byte) (g : Gauge) (s : State), s.takes ch 0x5010 3 val → leVal val = 4 → s.gaugeIdle g →
    Answers (.gaugeTakeOff ch val) s (fun t => ∃ h, s.gaugeBecomes t ch h ∧ h.state = 4 ∧ h.cmd = 0)) ∧
  (∀ (ch : ChanId) (val : List Byte) (g : Gauge) (s : State), s.takes ch 0x5010 3 val → leVal val = 5 → s.gaugeIdle g → g.state = 4 →
    s.coverable g → Answers (.gaugeReturn ch val) s (fun t =>
      ∃ h, s.gaugeBecomes t ch h ∧ h.state = 3 ∧ h.cmd = 5 ∧ h.cmdLeft = 80)) ∧
  (∀ (ch : ChanId) (val : List Byte) (g : Gauge) (s : State), s.takes ch 0x5010 3 val →
    s.therm.gauges.find? (fun x => x.n = s.pn 0x5010 1) = some g → (g.cmd ≠ 0 ∨ g.state = 5) →
    Answers (.gaugeTakeOff ch val) s (fun t => t.abortedOn ch abState ∧ t.therm = s.therm)) ∧
  (∀ (ch : ChanId) (val : List Byte) (s : State), s.takes ch 0x5000 9 val → s.noFlash = false → Answers (.gaugeCalStore ch val) s (fun t =>
    t.doneOn ch ∧ t.therm = { s.therm with calStore := 1, calSnap := s.therm.gauges.map (fun g => (g.n, g.gain, g.offset)) })) ∧
  (∀ (ch : ChanId) (val : List Byte) (m : Nat) (s : State), s.takes ch 0x5002 4 val → m = ((Rg.mask 0x1FE0000).clip (leVal val)).toNat →
    Answers (.relayClear ch val) s (fun t =>
      t.doneOn ch ∧ t.therm = { s.therm with relays := s.therm.relays.filter (fun r => !bit m r.sat) }))

/-- A step time lowers the ceiling of an engaged group that is still hot, a raise hold raises it or disengages the group (R386); a rate
hold withdraws reason 4 (R387), a prediction's hold its contribution (R394); a relay that goes silent is a fault and its word
stays (R392); an update of the model follows the law with the observer (R393) and predicts nothing with a horizon of 0 (R394). -/
def Obligations.ThermalRequests : Prop :=
  (∀ (g : Nat) (s : State), s.aon.porN = true → g < s.therm.groups.length → (s.group g).engaged = true → s.obs.standing = false →
    Answers (.thermalStepExpiry g) s (fun t =>
      t.aon.clock = max s.aon.clock ((s.group g).stepFrom + us (s.pn 0x5000 2)) ∧
      t.group g = { s.group g with
        stepFrom := t.aon.clock,
        ceil := if 16 * s.lvl g 2 ≤ (s.group g).hot then (s.group g).ceil - 1 else (s.group g).ceil } ∧
      ∀ k, k ≠ g → t.group k = s.group k)) ∧
  (∀ (g u : Nat) (s : State), s.aon.porN = true → g < s.therm.groups.length → (s.group g).engaged = true → s.obs.standing = false →
    (s.group g).raiseFrom = some u → Answers (.thermalRaiseHoldExpiry g) s (fun t =>
      t.aon.clock = max s.aon.clock (u + us (s.pn 0x5000 3)) ∧
      (if (s.group g).ePoint ≤ (s.group g).ceil + 1 then
         (t.group g).engaged = false ∧ (t.group g).ceil = 31 ∧ (t.group g).div = false
       else t.group g = { s.group g with ceil := (s.group g).ceil + 1, raiseFrom := some t.aon.clock }))) ∧
  (∀ (g : Nat) (s : State), s.aon.porN = true → g < s.therm.groups.length → (s.group g).rateOn = true → s.obs.standing = false →
    Answers (.rateHoldExpiry g) s (fun t =>
      t.aon.clock = max s.aon.clock ((s.group g).rateAt + us (s.pn 0x5000 4)) ∧
      t.group g = { s.group g with rateOn := false, rateDiv := false })) ∧
  (∀ (g u : Nat) (s : State), s.aon.porN = true → g < s.therm.groups.length → (s.group g).predict = true → s.obs.standing = false →
    (s.group g).predLowFrom = some u → Answers (.predictHoldExpiry g) s (fun t =>
      t.aon.clock = max s.aon.clock (u + us (s.pn 0x5000 3)) ∧
      t.group g = { s.group g with predict := false, predCeil := 31, predLowFrom := none })) ∧
  (∀ (sat : Nat) (r : Relay) (s : State), s.aon.porN = true → 6 < s.prot.ctxs.length → (s.ctx 6).cur = none →
    s.therm.relays.find? (fun r => r.sat = sat && !r.lost) = some r → Answers (.relayTimeout sat) s (fun t =>
      t.aon.clock = max s.aon.clock (r.since + ms (s.pn 0x5002 2)) ∧ t.recovers 6 0x0509 1 0xFF ∧
      t.therm.relays = s.therm.relays.map (fun r => if r.sat = sat then { r with lost := true } else r))) ∧
  (∀ (u s : State), s.isReady 14 = true → s.obs.standing = false → s.inst.sat = false → s.therm.model ≠ [] →
    u = (match s.therm.modelAt with
      | some m => advanceTo (m + 40000) s
      | none => s) → Answers .thermalModelUpdate s (fun t =>
      t.therm.model = u.modelStep s.therm.model ∧ t.therm.modelAt = some u.aon.clock ∧
      t.therm.gauges = s.therm.gauges ∧ (s.pn 0x5001 1 = 0 → ∀ k, (t.group k).predict = false)))

/-- A comparator's rise starts its qualification, which drives THERMTRIP_N low with a fault of S4, or only latches while a hold stands
(R395, R398); the last-fault record that is due goes to the next slot (R229); the sensors' crossings keep the cool time (R399);
a re-arm is refused with nothing to re-arm and otherwise waits for its marks, and once they are confirmed THERMTRIP_N is
released, no rail stays in SAFE, and step 2 may run afresh (R399, R400). -/
def Obligations.HardTripsAndRearm : Prop :=
  (∀ (c : Nat) (s : State), c < s.therm.trips.length → s.aon.vddAon = true → (s.trip c).out = false →
    Answers (.hardTripComparatorRise c) s (fun t =>
      t.trip c = { s.trip c with out := true, riseAt := s.aon.clock } ∧ s.sameBut t [.therm] ∧ ∀ d, d ≠ c → t.trip d = s.trip d)) ∧
  (∀ (c : Nat) (s : State), Answers (.hardTripComparatorFall c) s (fun t =>
    (t.trip c).out = false ∧ (t.trip c).tripped = (s.trip c).tripped ∧ s.sameBut t [.therm])) ∧
  (∀ (c : Nat) (s : State), s.aon.vddAon = true → s.aon.porN = true → (s.trip c).qualifying = true → s.aon.thermtripN = true →
    6 < s.prot.ctxs.length → (s.ctx 6).cur = none → (s.ctx 6).latched = [] → Answers (.hardTrip c) s (fun t =>
      t.aon.thermtripN = false ∧ t.prot.tripHold = true ∧ t.clk.tripHeld = true ∧ t.clk.running = false ∧
      t.recoversOf 6 0x0505 4 0xFF (c + 1) ∧ t.aon.clock = max s.aon.clock ((s.trip c).riseAt + 400))) ∧
  (∀ (c : Nat) (s : State), c < s.therm.trips.length → s.aon.vddAon = true → s.aon.porN = true → (s.trip c).qualifying = true →
    s.aon.thermtripN = false → (s.ctx 6).cur = none → Answers (.hardTrip c) s (fun t =>
      t.trip c = { s.trip c with tripped := true, qualAt := some t.aon.clock } ∧ t.prot = s.prot ∧ t.rails = s.rails ∧
      t.aon.thermtripN = false)) ∧
  (∀ (r : LastFault) (l : List LastFault) (p : Nat) (s : State), s.prot.retention = r :: l → s.isReady 3 = true → s.isReady 11 = true →
    s.aon.strapBoot ≠ 2 → s.flash.present = true → s.obs.standing = false → s.flash.lfNext = some p →
    Answers (.lastFaultWrite true) s (fun t =>
      t.prot.retention = l ∧ t.flash.lastFault = s.flash.lastFault.set p (some r) ∧ t.flash.lfOrder = p :: s.flash.lfOrder.erase p)) ∧
  (∀ (r : LastFault) (l : List LastFault) (s : State), s.prot.retention = r :: l → s.isReady 3 = true → s.isReady 11 = true →
    s.aon.strapBoot ≠ 2 → s.flash.present = true → s.obs.standing = false → Answers (.lastFaultWrite false) s (fun t =>
      t.prot.retention = r :: l ∧ t.flash.lastFault = s.flash.lastFault ∧ t.num 0x3330 4 = min 0xFFFFFFFF (s.num 0x3330 4 + 1))) ∧
  (∀ (c : Nat) (above : Bool) (s : State), c < s.therm.trips.length → s.aon.vddAon = true → Answers (.rearmLevelCrossing c above) s (fun t =>
    (t.trip c).above = above ∧ s.sameBut t [.therm] ∧ (∀ d, d ≠ c → t.trip d = s.trip d) ∧
    t.therm.belowFrom = (if t.therm.trips.any (·.above) then none else some (s.therm.belowFrom.getD s.aon.clock)))) ∧
  (∀ (val : List Byte) (s : State), s.takes .mgt 0x5300 5 val → s.heldRecs = [] → s.s4Stands = false →
    Answers (.thermalRearm val) s (fun t => t.abortedOn .mgt abState ∧ t.therm = s.therm ∧ t.aon.thermtripN = s.aon.thermtripN)) ∧
  (∀ (val : List Byte) (s : State), s.takes .mgt 0x5300 5 val → (s.heldRecs ≠ [] ∨ s.s4Stands = true) →
    (s.thermalHeld = false ∨ s.cooled = true) → (s.aon.strapBoot = 2 ∨ s.noFlash = false) → Answers (.thermalRearm val) s (fun t =>
      t.therm = { s.therm with rearming := true } ∧ ∃ a, t.waits .mgt 4 = some a ∧ a.idx = 0x5300 ∧ a.sub = 5)) ∧
  (∀ (a : ClPend) (u s : State), s.clQuiet → s.therm.rearming = true → rearmRecords s = some u → s.waits .mgt 4 = some a →
    (∀ c, c ≠ .mgt → s.waits c 4 = none) → Answers (.rearmComplete true) s (fun t =>
      t.doneOn .mgt ∧ t.aon.thermtripN = true ∧ t.prot.tripHold = false ∧ t.clk.tripHeld = false ∧ t.aon.step2At = none ∧
      (∀ k, k < 6 → (t.rail k).state ≠ 5) ∧ t.therm.trips.all (fun x => !x.tripped) = true ∧ t.therm.rearming = false)) ∧
  (∀ (a : ClPend) (s : State), s.clQuiet → s.therm.rearming = true → s.waits .mgt 4 = some a →
    (∀ c, c ≠ .mgt → s.waits c 4 = none) → Answers (.rearmComplete false) s (fun t =>
      t.abortedOn .mgt 0x060E ∧ t.aon.thermtripN = s.aon.thermtripN ∧ t.therm = { s.therm with rearming := false }))

/-- The writes that firmware serves pass to it and have their effect with its answer (R116): a jig's image, start, stop and reset (R418,
R419, R420, R433), and the commit of the running slot (R426). A flash image write takes its channel, and the slot's image is
invalid until the copy ends (R422). -/
def Obligations.JigAndImageWrites : Prop :=
  (∀ (ch : ChanId) (j : Nat) (val : List Byte) (s : State), j < 16 → j < s.dowel.jigs.length → s.takes ch (0x2310 + j) 1 val →
    jigImageCheck val = 0 → (s.jig j).state ≠ 2 → AnswersByFirmware (.jigImageWrite ch j val) ch s (fun t =>
      t.doneOn ch ∧ (t.jig j).state = 1 ∧ (t.jig j).image = imageWords val ∧ (t.jig j).data = List.replicate 128 0 ∧
      (t.jig j).stepLimit = leAt val 0x0C 4 ∧ (t.jig j).objLimit = leAt val 0x10 2 ∧ ∀ k, k ≠ j → t.jig k = s.jig k)) ∧
  (∀ (ch : ChanId) (j : Nat) (val : List Byte) (s : State), j < 16 → j < s.dowel.jigs.length → s.takes ch (0x2310 + j) 6 val →
    leVal val = 1 → s.jigMayStart j = true → AnswersByFirmware (.jigStart ch j val) ch s (fun t =>
      t.doneOn ch ∧ t.jig j = { s.jig j with
        state := 2, active := false, badRun := 0, onPartner := false,
        nextAt := (s.aon.clock / us (s.pn (0x2310 + j) 3) + 1) * us (s.pn (0x2310 + j) 3) } ∧
      ∀ k, k ≠ j → t.jig k = s.jig k)) ∧
  (∀ (ch : ChanId) (j : Nat) (val : List Byte) (s : State), j < 16 → j < s.dowel.jigs.length → s.takes ch (0x2310 + j) 6 val →
    leVal val = 2 → (s.jig j).state = 2 → AnswersByFirmware (.jigStop ch j val) ch s (fun t =>
      t.doneOn ch ∧ (t.jig j).state = 1 ∧ (t.jig j).active = false ∧ (t.jig j).post3 = none ∧ (t.jig j).post4 = none ∧
      ∀ k, k ≠ j → t.jig k = s.jig k)) ∧
  (∀ (ch : ChanId) (j : Nat) (val : List Byte) (s : State), j < 16 → j < s.dowel.jigs.length → s.takes ch (0x2310 + j) 6 val →
    leVal val = 3 → (s.jig j).state = 3 → AnswersByFirmware (.jigReset ch j val) ch s (fun t =>
      t.doneOn ch ∧ (t.jig j).state = 1 ∧ (t.jig j).data = List.replicate 128 0 ∧ (t.jig j).image = (s.jig j).image ∧
      ∀ k, k ≠ j → t.jig k = s.jig k)) ∧
  (∀ (ch : ChanId) (val : List Byte) (s : State), s.takes ch 0x2300 7 val → s.dowel.updating = false → s.dowel.runSlot ≠ 0 →
    s.noFlash = false → AnswersByFirmware (.commitSlot ch val) ch s (fun t =>
      t.doneOn ch ∧ ∃ e l, t.flash.hdr = e :: l ∧ e = { s.hdrUse with active := s.dowel.runSlot, entry := (s.hdrUse.entry + 1) % 2 ^ 32 })) ∧
  (∀ (ch : ChanId) (val : List Byte) (c : Nat) (s : State), s.takes ch 0x2301 4 val → c = s.pn 0x2301 7 → c < s.dma.ch.length →
    s.dmaFree c = true → s.noFlash = false → s.pn 0x2301 3 ≠ s.hdrUse.active → s.pn 0x2301 3 ≠ s.dowel.runSlot →
    s.dowel.flashCopy = none → Answers (.flashImageWrite ch val) s (fun t =>
      t.doneOn ch ∧ t.dowel.flashCopy = some (s.pn 0x2301 1, s.pn 0x2301 2, s.pn 0x2301 3) ∧ t.flash.imgCopy = 1 ∧
      (t.dmaCh c).state = 5 ∧
      (if s.pn 0x2301 3 = 1 then t.flash.imgA = {} ∧ t.flash.imgB = s.flash.imgB
       else t.flash.imgB = {} ∧ t.flash.imgA = s.flash.imgA)))

/-- An event is captured into the input queue, or before RECORDER is ready into the early buffer, or dropped and counted (R60, R485); the
oldest of the queue is written to its ring (R478, R486); a record programmed stands in its slot (R493), an erase and the scan
end (R494, R495), a time limit retries once (R503), a boot-record write ends with both copies new or with copy A as it was
(R501); the writes set the calendar, commission the device and begin a boot-record write (R483, R496, R501). -/
def Obligations.RecorderCommands : Prop :=
  (∀ (ev : Event) (s : State), s.isReady 11 = true → s.rcd.inQ.length < 64 → Answers (.eventCapture ev) s (fun t =>
    t.rcd = { s.rcd with inQ := s.rcd.inQ ++ [s.stampEvent ev] } ∧ s.sameBut t [.rcd])) ∧
  (∀ (ev : Event) (s : State), s.isReady 11 = true → 64 ≤ s.rcd.inQ.length → Answers (.eventCapture ev) s (fun t =>
    t.rcd.inQ = s.rcd.inQ ∧ t.rcd.inDrop = s.rcd.inDrop + 1 ∧ bit t.rcd.flags 0 = true ∧
    t.num 0x9000 3 = min 0xFFFFFFFF (s.num 0x9000 3 + 1))) ∧
  (∀ (ev : Event) (s : State), s.isReady 11 = false → Answers (.eventCapture ev) s (fun t =>
    (if s.aon.earlyBuf.length < 32 then t.aon.earlyBuf = s.aon.earlyBuf ++ [s.stampEvent ev] ∧ t.aon.earlyLost = s.aon.earlyLost
     else t.aon.earlyBuf = s.aon.earlyBuf ∧ t.aon.earlyLost = s.aon.earlyLost + 1) ∧ s.sameBut t [.aon])) ∧
  (∀ (e : Event) (l : List Event) (s : State), s.isReady 11 = true → s.rcd.inQ = e :: l → s.rcd.inDrop = 0 →
    (e.part = 0 ∨ 64 ≤ e.part) → s.commWaits = false → Answers .recordWrite s (fun t =>
      t.rcd.inQ = l ∧ t.rcd.dev = (recordOf e s.rcd.devSeq :: s.rcd.dev).take 6176 ∧ t.rcd.devSeq = seqNext (recordOf e s.rcd.devSeq).seq)) ∧
  (∀ (e : Event) (l : List Event) (s : State), s.isReady 11 = true → s.rcd.inQ = e :: l → s.rcd.inDrop = 0 → 1 ≤ e.part → e.part ≤ 63 →
    s.rcd.rings.length = 64 → s.commWaits = false → Answers .recordWrite s (fun t =>
      t.rcd.inQ = l ∧ t.rcd.dev = s.rcd.dev ∧
      t.rcd.rings = s.rcd.rings.set e.part ((recordOf e (s.rcd.ringSeq.getD e.part 1) :: s.rcd.rings.getD e.part []).take 32))) ∧
  (∀ (f : FOp) (r : Record) (q : List Record) (s : State), s.flash.busy = some f → f.erase = false → f.kind = 0 → s.rcd.fq = r :: q →
    Answers (.flashRecordProgram true) s (fun t =>
      (s.flash.circNext, ({ held := some (r.flashCopy s.flash.seqNext) } : FSlot)) ∈ t.flash.circ ∧
      t.flash.circNext = (s.flash.circNext + 1) % 2176 ∧ t.rcd.fq = (if s.fixedTakes r = true then r :: q else q) ∧
      t.flash.failRun = 0)) ∧
  (∀ (f : FOp) (s : State), s.flash.busy = some f → f.erase = true → Answers .flashEraseDone s (fun t =>
    t.flash.circFresh = true ∧ t.num 0x9002 8 = min 0xFFFFFFFF (s.num 0x9002 8 + 1) ∧
    (∀ g, t.flash.busy = some g → g.erase = false))) ∧
  (∀ (f : FOp) (s : State), s.aon.porN = true → s.flash.busy = some f → f.tries = 0 → Answers .flashTimeout s (fun t =>
    t.flash.busy = some { f with tries := 1, since := t.aon.clock } ∧ t.aon.clock = max s.aon.clock f.limit)) ∧
  (∀ s : State, s.flash.busy = none → s.slowWrite = true → s.flash.slowTries = 0 → Answers .flashTimeout s (fun t =>
    t = { s with flash := { s.flash with slowTries := 1 } })) ∧
  (∀ s : State, s.isReady 3 = true → s.isReady 11 = true → s.aon.strapBoot ≠ 2 → s.flash.nvReady = false → Answers .flashScanDone s (fun t =>
    t.flash.nvReady = true ∧
    t.flash.circNext = (match s.flash.circ with
      | x :: _ => (x.1 + 1) % 2176
      | [] => 0) ∧
    t.flash.seqNext = (match s.flashSeq with
      | some a => seqNext a
      | none => 1))) ∧
  (∀ s : State, s.isReady 11 = true → s.flash.bootWrite = 1 → Answers (.bootRecordWriteDone true) s (fun t =>
    t.flash.bootA = s.flash.bootNew ∧ t.flash.bootB = s.flash.bootNew ∧ t.flash.bootWrite = 2)) ∧
  (∀ s : State, s.isReady 11 = true → s.flash.bootWrite = 1 → Answers (.bootRecordWriteDone false) s (fun t =>
    t.flash.bootA = s.flash.bootA ∧ t.flash.bootWrite = 3)) ∧
  (∀ (ch : ChanId) (val : List Byte) (s : State), s.takes ch 0x9001 1 val → leAt val 0 8 ≠ 0 → Answers (.calendarTimeSet ch val) s (fun t =>
    t.doneOn ch ∧ t.rcd.timeSet = true ∧ t.rcd.calSec = leAt val 0 8 ∧ t.rcd.calFrac = leAt val 8 4 * 65536)) ∧
  (∀ (ch : ChanId) (val : List Byte) (s : State), s.takes ch 0x9002 6 val → s.hdrUse.fixed ≠ 1 → s.commWaits = false → s.noFlash = false →
    Answers (.commission ch val) s (fun t =>
      t.doneOn ch ∧
      (if s.portFree = true ∧ s.lfWaits = false then
         t.flash.fixed_ = [] ∧ t.flash.fixedOpen = true ∧ ∃ e l, t.flash.hdr = e :: l ∧ e.fixed = 1
       else t.commWaits = true ∧ t.flash.fixed_ = s.flash.fixed_))) ∧
  (∀ (ch : ChanId) (val : List Byte) (s : State), s.takes ch 0x9002 1 val → bootValid val = true → s.flash.bootWrite ≠ 1 →
    s.noFlash = false → Answers (.bootRecordWrite ch val) s (fun t =>
      t.doneOn ch ∧ t.flash = { s.flash with bootWrite := 1, bootNew := val }))

/-- The Scribe's controls arm it with a TIME record, disarm it, trigger it and clear it (R513, R515, R530); a record of an enabled source
is written while it is armed (R511, R512, R514), and a time mark after 2^30 cycles (R513). A map dump is armed, takes its copy
and ends (R517); the wait-for graph begins with FW and SYNC ready and ends with its entries (R519).
STOP_IN stops the standing-still parts, with the cut of each island, the crossings held and the smear, and holds TCLK_OUT (R521,
R523); the stop is entered (R523); the trigger's request clears once STOP_IN has been seen (R524); the release lets the parts go
on (R526). -/
def Obligations.ScribeDumpsAndStop : Prop :=
  (∀ (ch : ChanId) (val : List Byte) (s : State), s.takes ch 0x9100 0x0A val → leVal val = 1 → s.obs.scrState ≠ 1 → 0 < s.scrCap →
    Answers (.scribeArm ch val) s (fun t =>
      t.doneOn ch ∧ t.obs.scrState = 1 ∧ t.obs.scrPre = [scribeRec s.aon.clock 0 0 0 s.tick] ∧ t.obs.scrPost = [] ∧ t.obs.scrLost = 0 ∧
      t.obs.scrOcc = 0)) ∧
  (∀ (ch : ChanId) (val : List Byte) (s : State), s.takes ch 0x9100 0x0A val → leVal val = 2 → Answers (.scribeDisarm ch val) s (fun t =>
    t.doneOn ch ∧ t.obs.scrState ≠ 1 ∧ t.obs.scrState ≠ 2 ∧ t.obs.scrPre = s.obs.scrPre ∧ t.obs.scrPost = s.obs.scrPost ∧
    t.obs.trigReq = false ∧ t.aon.stopReqOut = s.obs.req)) ∧
  (∀ (ch : ChanId) (val : List Byte) (s : State), s.takes ch 0x9100 0x0A val → leVal val = 3 → s.obs.scrState = 1 →
    Answers (.scribeControlTrigger ch val) s (fun t =>
      t.doneOn ch ∧ (t.obs.scrState = 2 ∨ t.obs.scrState = 3) ∧ t.obs.scrPre = s.obs.scrPre ∧ bit t.obs.flags 1 = true ∧
      t.num 0x9100 0x0D = s.tick)) ∧
  (∀ (ch : ChanId) (val : List Byte) (s : State), s.takes ch 0x9100 0x0A val → leVal val = 4 → Answers (.scribeClear ch val) s (fun t =>
    t.doneOn ch ∧ t.scrHeld = 0 ∧ t.obs.scrState = if s.obs.scrState = 1 then 1 else 0)) ∧
  (∀ (src sub info : Nat) (data : BitVec 64) (s : State), s.obs.scrState = 1 → s.enabled 14 = true → 1 ≤ src → src ≤ 14 →
    bit (s.pn 0x9100 1) src = true → s.obs.standing = false → s.scrRoom = true → s.obs.scrLost = 0 → s.obs.scrPre.length < s.scrCap →
    s.scribeHit src sub info data.toNat = false → Answers (.scribeRecord src sub info data) s (fun t =>
      t.obs.scrPre = s.obs.scrPre ++ [scribeRec s.aon.clock src sub info data.toNat] ∧ t.obs.scrState = 1 ∧ t.obs.scrPost = s.obs.scrPost)) ∧
  (∀ (src sub info : Nat) (data : BitVec 64) (s : State), s.obs.scrState ≠ 1 → s.obs.scrState ≠ 2 →
    Answers (.scribeRecord src sub info data) s (fun t => t = s)) ∧
  (∀ s : State, s.aon.porN = true → s.obs.scrState = 1 → s.enabled 14 = true → s.obs.standing = false → s.obs.scrLost = 0 →
    s.obs.scrPre.length < s.scrCap → Answers .scribeTimeMark s (fun t =>
      t.aon.clock = max s.aon.clock (s.obs.scrTimeAt + 2 ^ 30) ∧ t.obs.scrTimeAt = t.aon.clock ∧
      t.obs.scrPre = s.obs.scrPre ++ [scribeRec t.aon.clock 0 0 0 t.tick])) ∧
  (∀ (ch : ChanId) (val : List Byte) (s : State), s.takes ch 0x9110 7 val → leVal val = 1 → s.obs.dumpState ≠ 1 → s.obs.dumpState ≠ 2 →
    Answers (.mapDumpArm ch val) s (fun t =>
      t.doneOn ch ∧ t.obs.dumpState = 1 ∧ t.obs.dumpMoment = decide (s.pn 0x9110 2 = 0) ∧ t.obs.dumpOcc = 0)) ∧
  (∀ (ch : ChanId) (val : List Byte) (s : State), s.takes ch 0x9110 7 val → leVal val = 2 → Answers (.mapDumpDisarm ch val) s (fun t =>
    t.doneOn ch ∧ t.obs.dumpState = (if s.obs.dumpState = 1 then 0 else s.obs.dumpState) ∧ t.obs.dumpSlots = s.obs.dumpSlots)) ∧
  (∀ (flip : Nat) (s : State), s.obs.dumpState = 1 → s.obs.dumpMoment = true → s.enabled 15 = true →
    (s.pn 0x9110 1 = 3 ∧ flip = s.obs.dumpMomentAt ∨ s.pn 0x9110 1 ≠ 3 ∧ ∃ a, s.flipAt (s.pn 0x9110 1) = some a ∧
      4 * s.obs.dumpMomentAt ≤ a ∧ flip = a / 4) → Answers .mapDumpCopy s (fun t =>
      t.obs = { s.obs with
        dumpState := 2
        dumpSlots := s.obs.dumpSlots.set (s.pn 0x9110 6) ((s.dumpBytes (s.pn 0x9110 1) flip).map (·.toNat)) })) ∧
  (∀ s : State, s.obs.dumpState = 2 → Answers .mapDump s (fun t =>
    t.obs.dumpState = 3 ∧ t.obs.dumpMoment = false ∧ bit t.obs.flags 2 = true ∧ t.obs.dumpSlots = s.obs.dumpSlots)) ∧
  (∀ (ch : ChanId) (val : List Byte) (s : State), s.takes ch 0x9120 1 val → s.obs.graphState ≠ 1 → s.isReady 13 = true → s.isReady 19 = true →
    Answers (.graphStart ch val) s (fun t => t.doneOn ch ∧ t.obs.graphState = 1 ∧ t.obs.graphStartAt = s.tick)) ∧
  (∀ (ch : ChanId) (val : List Byte) (s : State), s.takes ch 0x9120 1 val → s.obs.graphState ≠ 1 →
    (s.isReady 13 && s.isReady 19) = false → Answers (.graphStart ch val) s (fun t =>
      t.abortedOn ch abState ∧ t.obs.graphState = 3)) ∧
  (∀ s : State, s.obs.graphState = 1 → s.obs.standing = false → Answers .graphDone s (fun t =>
    t.obs.graphState = 2 ∧ bit t.obs.flags 3 = true ∧ t.num 0x9120 4 = (s.graphEntries.take 4088).length ∧
    t.obs.graphArea.drop 8 = s.graphEntries.take 4088 ∧ (s.obs.graphDue = true → t.aon.stopReqOut = true))) ∧
  (∀ (x eng stp til : Nat) (s : State), s.aon.ctlReleased = true → s.aon.stopInAct = false → Answers (.stopInAssert x eng stp til) s (fun t =>
    t.aon.stopInAct = true ∧ t.obs.standing = true ∧ t.obs.restarting = false ∧ t.clk.stopHeld = true ∧ t.obs.crossings = x % 256 ∧
    t.obs.cuts = [(s.aon.clock + eng) % 2 ^ 48, (s.aon.clock + stp) % 2 ^ 48, (s.aon.clock + til) % 2 ^ 48] ∧
    t.obs.smear = (max eng (max stp til) - min eng (min stp til)) % 256 ∧ t.obs.stopInAt = s.aon.clock)) ∧
  (∀ s : State, s.obs.standing = true → s.obs.stopped = false → Answers .stopEnter s (fun t =>
    t.obs.stopped = true ∧ t.obs.stopAt = s.aon.clock ∧ bit t.obs.flags 0 = true ∧ t.obs.standing = true)) ∧
  (∀ s : State, s.aon.porN = true → s.aon.stopInAct = true → s.obs.trigReq = true → Answers .trigReqClear s (fun t =>
    t.obs.trigReq = false ∧ t.aon.stopReqOut = s.obs.req ∧ t.aon.clock = max s.aon.clock (s.obs.stopInAt + 64))) ∧
  (∀ s : State, s.aon.stopInAct = true → s.obs.dbgQ = [] → s.cl.fwQ = [] → s.cl.chainQ = [] → (∀ ch, s.waits ch 2 = none) →
    s.sync.cells = [] → s.cla.cells = [] → Answers .stopInRelease s (fun t =>
      t.aon.stopInAct = false ∧ t.obs.standing = false ∧ t.obs.stopped = false ∧ t.clk.stopHeld = false ∧
      t.aon.clock = s.aon.clock ∧ t.obs.dbgApplied = 0))

/-- A block write with a good PEC brings a packet, whose control request is answered, and one with a bad PEC is NACKed (R533, R536); a block
read fetches the answer that waits, and with none reads a count of 0 (R532, R533); a read of the Alert Response Address with
an alert pending gives the port's address (R547); a bus timeout sets its flag (R533); an answer not fetched in 100 ms is
dropped (R532), and an alert is raised again after 1 ms (R547).
The address assignments enter I3C mode and RSTDAA leaves it (R534, R535); the CCCs read and set what they name (R534, R535); a private
write brings a packet and a private read fetches the answer that waits, NACKed with none (R532, R536); an in-band interrupt
gives the waiting packet's byte or the record alert's three, and ends when the controller takes it (R547). -/
def Obligations.ManagementBuses : Prop :=
  (∀ (data body : List Byte) (pkt : Packet) (s : State), s.isReady 2 = true → s.mgt.i3c = false → leAt data 0 1 + 1 = data.length →
    packetOf (data.drop 2) = (pkt, body) → s.takesPacket (data.drop 2) = true → s.portBusy = false → leAt body 0 1 = 0 →
    bit (leAt body 1 1) 7 = true → leAt body 2 1 = 5 → Answers (.smbusBlockWrite data true) s (fun t =>
      t.sends pkt (ctlRsp pkt 5 0 [byte 2, byte 1, byte 0x7F]) ∧ t.mgt.nack = false)) ∧
  (∀ (data : List Byte) (s : State), s.isReady 2 = true → s.mgt.i3c = false → Answers (.smbusBlockWrite data false) s (fun t =>
    t.mgt.nack = true ∧ t.mgt.rsp = s.mgt.rsp ∧ bit t.mgt.flags 1 = true)) ∧
  (∀ (b : List Byte) (s : State), s.isReady 2 = true → s.mgt.i3c = false → s.mgt.rsp = some b → Answers .smbusBlockRead s (fun t =>
    t.mgt.busOut = s.blockBytes b ∧ t.mgt.nack = false ∧ t.mgt.rsp = none ∧ t.mgt.rspAlert = false)) ∧
  (∀ s : State, s.isReady 2 = true → s.mgt.i3c = false → s.mgt.rsp = none → Answers .smbusBlockRead s (fun t => s.drives t [byte 0])) ∧
  (∀ s : State, s.isReady 2 = true → s.mgt.i3c = false → s.mgt.alertN = false → Answers .smbusAraRead s (fun t =>
    t.mgt.busOut = [byte (2 * s.aon.strapSmb)] ∧ t.mgt.nack = false ∧ t.mgt.alertRec = false ∧ t.mgt.rspAlert = false ∧
    t.mgt.alertN = true ∧ t.mgt.rsp = s.mgt.rsp)) ∧
  (∀ s : State, s.isReady 2 = true → s.mgt.i3c = false → Answers .smbusTimeout s (fun t =>
    bit t.mgt.flags 2 = true ∧ t.mgt.rsp = s.mgt.rsp)) ∧
  (∀ (b : List Byte) (s : State), s.aon.porN = true → s.mgt.rsp = some b → Answers .packetFetchTimeout s (fun t =>
    t.mgt.rsp = none ∧ t.mgt.rspAlert = false ∧ t.aon.clock = max s.aon.clock (s.mgt.rspAt + ms 100) ∧
    t.num 0x2600 9 = min 0xFFFFFFFF (s.num 0x2600 9 + 1))) ∧
  (∀ (u : Nat) (s : State), s.aon.porN = true → s.mgt.retryAt = some u → Answers .ibiRetry s (fun t =>
    t.mgt.retryAt = none ∧ t.aon.clock = max s.aon.clock u ∧ t.mgt.alertRec = s.mgt.alertRec ∧
    t.mgt.rspAlert = (s.mgt.rspAlert || (!s.mgt.i3c && s.mgt.rsp.isSome)))) ∧
  (∀ (a : Nat) (s : State), s.isReady 2 = true → s.mgt.i3c = false → Answers (.entdaa a) s (fun t =>
    t.mgt.i3c = true ∧ t.mgt.dynAddr = a ∧ t.mgt.busOut = beBytes 6 s.pid ++ [byte 0x06, byte 0] ∧ t.mgt.nack = false)) ∧
  (∀ (a : Nat) (s : State), s.isReady 2 = true → s.mgt.i3c = false → Answers (.setdasa a) s (fun t =>
    t.mgt.i3c = true ∧ t.mgt.dynAddr = a ∧ t.mgt.nack = false)) ∧
  (∀ s : State, s.isReady 2 = true → s.mgt.i3c = false → Answers .setaasa s (fun t =>
    t.mgt.i3c = true ∧ t.mgt.dynAddr = s.aon.strapSmb ∧ t.mgt.nack = false)) ∧
  (∀ s : State, s.i3cOn → Answers .rstdaa s (fun t => t.mgt.i3c = false ∧ t.mgt.dynAddr = 0 ∧ t.mgt.rsp = s.mgt.rsp)) ∧
  (∀ s : State, s.i3cOn → Answers .enec s (fun t => t.mgt.ibiOn = true ∧ t.mgt.nack = false) ∧
    Answers .disec s (fun t => t.mgt.ibiOn = false ∧ t.mgt.nack = false)) ∧
  (∀ s : State, s.i3cOn → Answers .getpid s (fun t => s.drives t (beBytes 6 s.pid)) ∧
    Answers .getbcr s (fun t => s.drives t [byte 0x06]) ∧ Answers .getdcr s (fun t => s.drives t [byte 0x00]) ∧
    Answers .getmwl s (fun t => s.drives t (beBytes 2 s.mgt.mwl)) ∧
    Answers .getmrl s (fun t => s.drives t (beBytes 2 s.mgt.mrl ++ [byte 3])) ∧
    Answers .getmxds s (fun t => s.drives t [byte 0, byte 0]) ∧
    Answers .getstatus s (fun t => t.mgt.busOut.length = 2 ∧ t.mgt.nack = false ∧ s.sameBut t [.mgt, .free])) ∧
  (∀ (n : Nat) (s : State), s.i3cOn → 72 ≤ n → Answers (.setmwl n) s (fun t => s.drives t []) ∧
    Answers (.setmrl n) s (fun t => s.drives t [])) ∧
  (∀ (n : Nat) (s : State), s.i3cOn → n < 72 → Answers (.setmwl n) s (fun t => t.mgt.nack = true ∧ t.mgt.mwl = s.mgt.mwl) ∧
    Answers (.setmrl n) s (fun t => t.mgt.nack = true ∧ t.mgt.mrl = s.mgt.mrl)) ∧
  (∀ (b : List Byte) (s : State), s.i3cOn → s.mgt.rsp = some b → Answers .i3cPrivateRead s (fun t =>
    t.mgt.busOut = b ∧ t.mgt.nack = false ∧ t.mgt.rsp = none)) ∧
  (∀ s : State, s.i3cOn → s.mgt.rsp = none → Answers .i3cPrivateRead s (fun t => t.mgt.nack = true ∧ t.mgt.busOut = [])) ∧
  (∀ (data body : List Byte) (pkt : Packet) (s : State), s.i3cOn → packetOf data = (pkt, body) → s.takesPacket data = true →
    s.portBusy = false → leAt body 0 1 = 0 → bit (leAt body 1 1) 7 = true → leAt body 2 1 = 5 →
    Answers (.i3cPrivateWrite data) s (fun t => t.sends pkt (ctlRsp pkt 5 0 [byte 2, byte 1, byte 0x7F]))) ∧
  (∀ s : State, s.i3cOn → s.mgt.ibiOn = true → s.mgt.retryAt = none → s.mgt.rspAlert = true → Answers (.inBandInterrupt true) s (fun t =>
    t.mgt.busOut = [byte 0xAE] ∧ t.mgt.nack = false ∧ t.mgt.rspAlert = false ∧ t.mgt.alertRec = s.mgt.alertRec)) ∧
  (∀ s : State, s.i3cOn → s.mgt.ibiOn = true → s.mgt.retryAt = none → s.mgt.rspAlert = false → s.mgt.alertRec = true →
    Answers (.inBandInterrupt true) s (fun t =>
      t.mgt.busOut = [byte 1, byte s.mgt.alertSev, byte s.mgt.alertCnt] ∧ t.mgt.alertRec = false ∧ t.mgt.alertCnt = 0)) ∧
  (∀ s : State, s.i3cOn → s.mgt.ibiOn = true → s.mgt.retryAt = none → (s.mgt.rspAlert || s.mgt.alertRec) = true →
    Answers (.inBandInterrupt false) s (fun t =>
      t.mgt.nack = true ∧ t.mgt.retryAt = some (s.aon.clock + ms 1) ∧ t.mgt.rspAlert = s.mgt.rspAlert ∧ t.mgt.alertRec = s.mgt.alertRec))

/-- The control requests that the port takes are answered as R537 says: the endpoint ID is set or refused and read, the UUID is of version 8
and the standard's variant, the versions, message types and vendor set are told; what the spec leaves open is some value. A
request that finds the port occupied is discarded (R538).
The PLDM requests that the port takes are answered as R544 to R546 say: the TID is set and read, versions, types and commands are told, a
sensor gives its state and reading, and the repository its 32 records; what the spec leaves open is some value. -/
def Obligations.MctpAndPldmRequests : Prop :=
  (∀ (pkt : Packet) (op eid : Nat) (s : State), s.portTakes pkt → op ≤ 1 → 8 ≤ eid → eid ≤ 0xFE → Answers (.setEndpointId pkt op eid) s (fun t =>
    t.mgt.eid = eid ∧ t.sends pkt (ctlRsp pkt 1 0 [byte 0, byte eid, byte 0]))) ∧
  (∀ (pkt : Packet) (eid : Nat) (s : State), s.portTakes pkt → s.pn 0x2600 3 ≠ 0 → Answers (.setEndpointId pkt 2 eid) s (fun t =>
    t.mgt.eid = s.pn 0x2600 3 ∧ t.sends pkt (ctlRsp pkt 1 0 [byte 0, byte (s.pn 0x2600 3), byte 0]))) ∧
  (∀ (pkt : Packet) (op eid : Nat) (s : State), s.portTakes pkt → op ≤ 1 → (eid < 8 ∨ 0xFE < eid) → Answers (.setEndpointId pkt op eid) s (fun t =>
    t.mgt.eid = s.mgt.eid ∧ t.sends pkt (ctlRsp pkt 1 2 []))) ∧
  (∀ (pkt : Packet) (s : State), s.portTakes pkt → Answers (.getEndpointId pkt) s (fun t =>
    t.mgt.eid = s.mgt.eid ∧ t.sends pkt (ctlRsp pkt 2 0 [byte s.mgt.eid,
      byte (if s.pn 0x2600 3 = 0 then 0 else if s.pn 0x2600 3 = s.mgt.eid then 2 else 3), byte 0]))) ∧
  (∀ (pkt : Packet) (s : State), s.portTakes pkt → Answers (.getEndpointUuid pkt) s (fun t =>
    ∃ u, u.length = 16 ∧ leAt u 6 1 / 16 = 8 ∧ leAt u 8 1 / 64 = 2 ∧ t.sends pkt (ctlRsp pkt 3 0 u))) ∧
  (∀ (pkt : Packet) (type : Nat) (s : State), s.portTakes pkt → Answers (.getMctpVersionSupport pkt type) s (fun t =>
    if type = 0xFF ∨ type = 0 then t.sends pkt (ctlRsp pkt 4 0 [byte 1, byte 0xF1, byte 0xF3, byte 0xF0, byte 0])
    else if type = 1 ∨ type = 0x7F then ∃ v, v.length = 4 ∧ t.sends pkt (ctlRsp pkt 4 0 (byte 1 :: v))
    else t.sends pkt (ctlRsp pkt 4 0x80 []))) ∧
  (∀ (pkt : Packet) (s : State), s.portTakes pkt → Answers (.getMessageTypeSupport pkt) s (fun t =>
    t.sends pkt (ctlRsp pkt 5 0 [byte 2, byte 1, byte 0x7F]))) ∧
  (∀ (pkt : Packet) (sel : Nat) (s : State), s.portTakes pkt → Answers (.getVendorMessageSupport pkt sel) s (fun t =>
    if sel = 0 then ∃ v, v.length = 2 ∧ t.sends pkt (ctlRsp pkt 6 0 ([byte 0xFF, byte 1] ++ beBytes 4 (s.pn 0x2600 5) ++ v))
    else t.sends pkt (ctlRsp pkt 6 2 []))) ∧
  (∀ (pkt : Packet) (s : State), s.isReady 2 = true → pkt.dst = 0 → s.portBusy = true → Answers (.getEndpointId pkt) s (fun t =>
    t.mgt.rsp = s.mgt.rsp ∧ t.mgt.eid = s.mgt.eid ∧ bit t.mgt.flags 0 = true)) ∧
  (∀ (pkt : Packet) (tid : Nat) (s : State), s.portTakes pkt → Answers (.settid pkt tid) s (fun t =>
    if tid = 0 ∨ tid = 0xFF then t.mgt.tid = s.mgt.tid ∧ t.sends pkt (pldmRsp pkt 0 1 2 [])
    else t.mgt.tid = tid ∧ t.sends pkt (pldmRsp pkt 0 1 0 []))) ∧
  (∀ (pkt : Packet) (s : State), s.portTakes pkt → Answers (.gettid pkt) s (fun t => t.sends pkt (pldmRsp pkt 0 2 0 [byte s.mgt.tid]))) ∧
  (∀ (pkt : Packet) (type : Nat) (s : State), s.portTakes pkt → Answers (.getpldmversion pkt type) s (fun t =>
    if type = 0 ∨ type = 2 then ∃ v, v.length = 4 ∧
      t.sends pkt (pldmRsp pkt 0 3 0 (leBytes 4 0 ++ [byte 5] ++ v ++ leBytes 4 (crc32 v)))
    else t.sends pkt (pldmRsp pkt 0 3 0x83 []))) ∧
  (∀ (pkt : Packet) (s : State), s.portTakes pkt → Answers (.getpldmtypes pkt) s (fun t =>
    t.sends pkt (pldmRsp pkt 0 4 0 (leBytes 8 5)))) ∧
  (∀ (pkt : Packet) (type : Nat) (s : State), s.portTakes pkt → Answers (.getpldmcommands pkt type) s (fun t =>
    if type = 0 then t.sends pkt (pldmRsp pkt 0 5 0 (leBytes 32 0x3E))
    else if type = 2 then t.sends pkt (pldmRsp pkt 0 5 0 (leBytes 32 (2 ^ 0x11 + 2 ^ 0x50 + 2 ^ 0x51)))
    else t.sends pkt (pldmRsp pkt 0 5 0x83 []))) ∧
  (∀ (pkt : Packet) (id : Nat) (s : State), s.portTakes pkt → Answers (.getsensorreading pkt id) s (fun t =>
    if id = 0 ∨ 32 < id then t.sends pkt (pldmRsp pkt 2 0x11 0x80 [])
    else ∃ prev, t.sends pkt (pldmRsp pkt 2 0x11 0 ([byte (if id ≤ 18 then 3 else 2), byte (s.sensorState id), byte 0,
      byte (s.sensorPresent id), prev, byte (s.sensorPresent id)] ++ leBytes 2 (s.sensorWord id))))) ∧
  (∀ (pkt : Packet) (s : State), s.portTakes pkt → Answers (.getpdrrepositoryinfo pkt) s (fun t =>
    ∃ v n m, v.length = 26 ∧ t.sends pkt (pldmRsp pkt 2 0x50 0 (byte 0 :: v ++ leBytes 4 32 ++ leBytes 4 n ++ leBytes 4 m ++ [byte 0])) ∧
      ∀ id, 1 ≤ id → id ≤ 32 → (s.pdr id).length ≤ m)) ∧
  (∀ (pkt : Packet) (rec id : Nat) (s : State), s.portTakes pkt → id = (if rec = 0 then 1 else rec) → Answers (.getpdr pkt rec) s (fun t =>
    if 32 < id then t.sends pkt (pldmRsp pkt 2 0x51 0x82 [])
    else t.sends pkt (pldmRsp pkt 2 0x51 0 (leBytes 4 (if id = 32 then 0 else id + 1) ++ leBytes 4 0 ++ [byte 5] ++
      leBytes 2 (s.pdr id).length ++ s.pdr id))))

/-- A poll takes the status and measurements of each device that answers and counts those that do not (R550, R551); an alert sets its flag
and takes the device's status (R550, R551); the writes of a regulator's command objects send the command, after PAGE where
the device has one, and end with its acknowledgement (R548, R549, R550); an address written is followed by a read of
VOUT_MODE (R549). -/
def Obligations.PmbusHost : Prop :=
  (∀ (answers : List PmbAns) (s : State), s.pmbRuns = true → s.mgt.pmb.length = 8 → (∀ ch, s.waits ch 5 = none) →
    Answers (.pmbusPoll answers) s (fun t =>
      t.mgt.pollAt = some t.aon.clock ∧
      (∀ d, d < 8 → s.pn (0x2620 + d) 1 ≠ 0 → (answers.getD d {}).ok = true →
        (t.pmb d).status = (answers.getD d {}).status % 65536 ∧ (t.pmb d).fails = 0) ∧
      (∀ d, d < 8 → s.pn (0x2620 + d) 1 ≠ 0 → (answers.getD d {}).ok = false →
        (t.pmb d).status = (s.pmb d).status ∧ (t.pmb d).fails = min 3 ((s.pmb d).fails + 1)) ∧
      (∀ d, d < 8 → s.pn (0x2620 + d) 1 = 0 → t.pmb d = s.pmb d))) ∧
  (∀ (d status : Nat) (s : State), s.pmbRuns = true → d < s.mgt.pmb.length → Answers (.pmbAlert d status) s (fun t =>
    (t.pmb d).status = status % 65536 ∧ bit t.mgt.flags 3 = true ∧
    t.mgt.pmbOut = (if s.pn (0x2620 + d) 2 = 0xFF then [(d, 0x79, 0)] else [(d, 0, s.pn (0x2620 + d) 2), (d, 0x79, 0)]))) ∧
  (∀ (ch : ChanId) (d x : Nat) (val : List Byte) (acked : Bool) (s : State), d < 8 → s.takes ch (0x2620 + d) 5 val → s.waits ch 5 = none →
    x = (if leVal val = 1 then 0x80 else 0) → Answers (.pmbusOperation ch d val acked) s (fun t =>
      (if acked = true then t.doneOn ch else t.abortedOn ch abState) ∧
      t.mgt.pmbOut = (if s.pn (0x2620 + d) 2 = 0xFF then [(d, 1, x)] else [(d, 0, s.pn (0x2620 + d) 2), (d, 1, x)]))) ∧
  (∀ (ch : ChanId) (d : Nat) (val : List Byte) (acked : Bool) (s : State), d < 8 → s.takes ch (0x2620 + d) 6 val → s.waits ch 5 = none →
    Answers (.pmbusClearFaults ch d val acked) s (fun t =>
      (if acked = true then t.doneOn ch else t.abortedOn ch abState) ∧
      t.mgt.pmbOut = (if s.pn (0x2620 + d) 2 = 0xFF then [(d, 3, 0)] else [(d, 0, s.pn (0x2620 + d) 2), (d, 3, 0)]))) ∧
  (∀ (ch : ChanId) (d x : Nat) (val : List Byte) (acked : Bool) (s : State), d < 8 → s.takes ch (0x2620 + d) 4 val → s.waits ch 5 = none →
    (s.pmb d).linear = true → x = voutData (s.pmb d).exp (leVal val) → Answers (.pmbusVoutCommand ch d val acked) s (fun t =>
      (if acked = true then t.doneOn ch ∧ t.num (0x2620 + d) 4 = leVal val else t.abortedOn ch abState) ∧
      t.mgt.pmbOut = (if s.pn (0x2620 + d) 2 = 0xFF then [(d, 0x21, x)] else [(d, 0, s.pn (0x2620 + d) 2), (d, 0x21, x)]))) ∧
  (∀ (ch : ChanId) (d : Nat) (val : List Byte) (acked : Bool) (s : State), d < 8 → s.takes ch (0x2620 + d) 4 val → s.waits ch 5 = none →
    (s.pmb d).linear = false → Answers (.pmbusVoutCommand ch d val acked) s (fun t =>
      t.abortedOn ch 0x0607 ∧ t.mgt.pmbOut = s.mgt.pmbOut)) ∧
  (∀ (ch : ChanId) (d mode : Nat) (val : List Byte) (s : State), d < 8 → d < s.mgt.pmb.length → s.takes ch (0x2620 + d) 1 val →
    leVal val ≠ 0 → Answers (.pmbusAddressWrite ch d val mode true) s (fun t =>
      t.doneOn ch ∧ t.num (0x2620 + d) 1 = leVal val ∧ (t.pmb d).linear = decide (mode / 32 % 8 = 0) ∧ (t.pmb d).exp = sx 5 mode)) ∧
  (∀ (ch : ChanId) (d mode : Nat) (val : List Byte) (acked : Bool) (s : State), d < 8 → s.takes ch (0x2620 + d) 1 val → leVal val = 0 →
    Answers (.pmbusAddressWrite ch d val mode acked) s (fun t =>
      t.doneOn ch ∧ t.num (0x2620 + d) 1 = 0 ∧ t.pmb d = s.pmb d))
end

