-- ==== Sys2Proof/Laws/Dict.lean ====
section
/-! SUPPORT. Facts about the dictionary: a function without persistent objects takes no stored value as it becomes ready. -/

namespace Sys2Proof.Machine

open Sys2Proof

/-- No persistent object belongs to CHAIN (R155). -/
theorem dictPage_own8 (h : Nat) : (dictPage h).all (fun r => !(r.pers && r.own == 8)) = true := by
  unfold dictPage
  repeat' split
  all_goals rfl

theorem ownerOf_ne8 (i sub : Nat) : ownerOf i sub ≠ some 8 := by
  unfold ownerOf
  cases h : dictRow i sub with
  | none => simp
  | some r =>
    have hm : r ∈ dictPage (i / 256) := List.mem_of_find?_eq_some h
    have ha := List.all_eq_true.mp (dictPage_own8 (i / 256)) r hm
    cases hp : r.pers <;> simp_all

theorem functionDefaults_8 (s : State) : functionDefaults 8 s = s := by
  have h1 : s.storedOf 8 = [] := by
    unfold State.storedOf
    split <;> simp [ownerOf_ne8]
  simp [functionDefaults, h1, soundSet, ownerOf_ne8]

end Sys2Proof.Machine
end

