-- ==== Sys2Proof/Laws/View.lean ====
section
/-! SUPPORT. `State.view`: what a mask of units keeps of a state, beside `State.fixed`, which every command but those of the pins
keeps; and the lemmas over which functions are shown to keep them: of a record update, of the stored values, of folds and of
the forms in which functions answer. Bit n of a mask is unit n in the order of State's fields. -/

namespace Sys2Proof.Machine

open Sys2Proof

set_option linter.all false

/-- A unit of the state where the mask k keeps it: bit log2 d of k. -/
def part {α : Type} (k d : Nat) (x : α) : Option α := if k / d % 2 = 1 then some x else none
/-- The units of the state that the mask k keeps, and what every command but those of the pins keeps. -/
structure View where
  fix : List Instr × Inst × Nat × Nat × Nat × Nat × Nat × Nat × Nat × Nat × Nat × Nat × Nat × Nat × Bool × Bool × Bool × Bool
  aon : Option (Aon)
  obj : Option (Obj)
  cl : Option (ClEng)
  chain : Option (Chain)
  rails : Option (List Rail)
  phases : Option (List Phase)
  prot : Option (Prot)
  ff : Option (Ff)
  regions : Option (List Region)
  shim : Option (Shim)
  clk : Option (Clk)
  cap : Option (Cap)
  cla : Option (Clamp)
  dove : Option (Dove)
  therm : Option (Therm)
  dowel : Option (Dowel)
  sync : Option (Sync)
  dma : Option (Dma)
  rcd : Option (Rec)
  flash : Option (Flash)
  obs : Option (Obs)
  mgt : Option (Mgt)
  host : Option (Host_)
  free : Option (Nat)

/-- What the mask k keeps of a state. -/
def State.view (k : Nat) (s : State) : View where
  fix := s.fixed
  aon := part k 1 s.aon
  obj := part k 2 s.obj
  cl := part k 4 s.cl
  chain := part k 8 s.chain
  rails := part k 16 s.rails
  phases := part k 32 s.phases
  prot := part k 64 s.prot
  ff := part k 128 s.ff
  regions := part k 256 s.regions
  shim := part k 512 s.shim
  clk := part k 1024 s.clk
  cap := part k 2048 s.cap
  cla := part k 4096 s.cla
  dove := part k 8192 s.dove
  therm := part k 16384 s.therm
  dowel := part k 32768 s.dowel
  sync := part k 65536 s.sync
  dma := part k 131072 s.dma
  rcd := part k 262144 s.rcd
  flash := part k 524288 s.flash
  obs := part k 1048576 s.obs
  mgt := part k 2097152 s.mgt
  host := part k 4194304 s.host
  free := part k 8388608 s.free

theorem kvSorted_head {α : Type} (k : Nat) (v w : α) (l : List (Nat × α)) : kvSorted ((k, v) :: l) = kvSorted ((k, w) :: l)
    := by
  cases l <;> rfl

theorem kvSorted_kvPut {α : Type} (l : List (Nat × α)) (n : Nat) (v : α) : kvSorted (kvPut l n v) = kvSorted l := by
  induction l with
  | nil => rfl
  | cons p l ih =>
    obtain ⟨k, w⟩ := p
    unfold kvPut
    split
    · rename_i h; simp only [kvSorted, h, decide_true, Bool.true_and]
    · split
      · rename_i h; subst h; exact kvSorted_head _ _ _ _
      · rename_i h1 h2
        have hk : k < n := by omega
        cases l with
        | nil => simp only [kvPut, kvSorted, hk, decide_true, Bool.true_and]
        | cons q m =>
          obtain ⟨k2, w2⟩ := q
          unfold kvPut at ih ⊢
          split
          · rename_i h3
            have : k < k2 := by omega
            simp only [kvSorted, hk, h3, this, decide_true, Bool.true_and]
          · rename_i h3
            rw [if_neg h3] at ih
            split
            · rename_i h4; subst h4; simp only [kvSorted, kvSorted_head n v w2]
            · rename_i h4
              rw [if_neg h4] at ih
              simp only [kvSorted, ih]

theorem fixed_mk (aon obj cl chain rails phases prot ff regions shim clk cap cla dove therm dowel sync dma rcd flash obs mgt
    host inst free pending) :
    State.fixed (State.mk aon obj cl chain rails phases prot ff regions shim clk cap cla dove therm dowel sync dma rcd flash
        obs mgt host inst free pending) =
  (pending, inst, rails.length, phases.length, regions.length, prot.ctxs.length, ff.slots.length, dowel.engines.length,
    dowel.jigs.length, dma.ch.length, cl.slots.length, host.gens.length, rcd.rings.length, rcd.cursors.length, kvSorted
        obj.nums, aon.vddAon, aon.porN, aon.hostRstN) := by
  unfold State.fixed
  rfl

theorem fixed_eta (s : State) :
  (s.pending, s.inst, s.rails.length, s.phases.length, s.regions.length, s.prot.ctxs.length, s.ff.slots.length,
      s.dowel.engines.length,
    s.dowel.jigs.length, s.dma.ch.length, s.cl.slots.length, s.host.gens.length, s.rcd.rings.length, s.rcd.cursors.length,
        kvSorted s.obj.nums, s.aon.vddAon, s.aon.porN, s.aon.hostRstN) = s.fixed := by
  unfold State.fixed
  rfl

theorem part_le {k u d : Nat} {α : Type} {x y : α} (n : Nat) (hd : d = 2 ^ n) (h : k &&& u = k) (e : part u d x = part u d
    y) : part k d x = part k d y := by
  unfold part at *
  subst hd
  by_cases hk : k / 2 ^ n % 2 = 1
  · have ht : Nat.testBit k n = true := by rw [Nat.testBit_eq_decide_div_mod_eq]; exact decide_eq_true hk
    have hu : Nat.testBit u n = true := by rw [← h, Nat.testBit_and] at ht; exact (Bool.and_eq_true_iff.mp ht).2
    rw [Nat.testBit_eq_decide_div_mod_eq, decide_eq_true_eq] at hu
    rw [if_pos hu, if_pos hu] at e
    rw [if_pos hk, if_pos hk, e]
  · rw [if_neg hk, if_neg hk]

theorem part_congr {k d : Nat} {α : Type} {x y : α} (h : k / d % 2 = 1 → x = y) : part k d x = part k d y := by
  unfold part
  split
  · rename_i hk; rw [h hk]
  · rfl

theorem view_le {k u : Nat} {s t : State} (h : k &&& u = k) (e : t.view u = s.view u) : t.view k = s.view k := by
  simp only [State.view, View.mk.injEq] at e ⊢
  obtain ⟨e, e0, e1, e2, e3, e4, e5, e6, e7, e8, e9, e10, e11, e12, e13, e14, e15, e16, e17, e18, e19, e20, e21, e22, e23⟩ := e
  exact ⟨e, part_le 0 rfl h e0, part_le 1 rfl h e1, part_le 2 rfl h e2, part_le 3 rfl h e3, part_le 4 rfl h e4, part_le 5
      rfl h e5, part_le 6 rfl h e6, part_le 7 rfl h e7, part_le 8 rfl h e8, part_le 9 rfl h e9, part_le 10 rfl h e10, part_le 11
      rfl h e11, part_le 12 rfl h e12, part_le 13 rfl h e13, part_le 14 rfl h e14, part_le 15 rfl h e15, part_le 16 rfl h e16,
      part_le 17 rfl h e17, part_le 18 rfl h e18, part_le 19 rfl h e19, part_le 20 rfl h e20, part_le 21 rfl h e21, part_le 22
      rfl h e22, part_le 23 rfl h e23⟩

theorem view_fixed {k : Nat} {s t : State} (e : t.view k = s.view k) : t.fixed = s.fixed := congrArg View.fix e

theorem view_upd {k : Nat} {s : State} {aon obj cl chain rails phases prot ff regions shim clk cap cla dove therm dowel sync
    dma rcd flash obs mgt host free}
    (h : State.fixed (State.mk aon obj cl chain rails phases prot ff regions shim clk cap cla dove therm dowel sync dma rcd
        flash obs mgt host s.inst free s.pending) = s.fixed)
    (h0 : k / 1 % 2 = 1 → aon = s.aon)
    (h1 : k / 2 % 2 = 1 → obj = s.obj)
    (h2 : k / 4 % 2 = 1 → cl = s.cl)
    (h3 : k / 8 % 2 = 1 → chain = s.chain)
    (h4 : k / 16 % 2 = 1 → rails = s.rails)
    (h5 : k / 32 % 2 = 1 → phases = s.phases)
    (h6 : k / 64 % 2 = 1 → prot = s.prot)
    (h7 : k / 128 % 2 = 1 → ff = s.ff)
    (h8 : k / 256 % 2 = 1 → regions = s.regions)
    (h9 : k / 512 % 2 = 1 → shim = s.shim)
    (h10 : k / 1024 % 2 = 1 → clk = s.clk)
    (h11 : k / 2048 % 2 = 1 → cap = s.cap)
    (h12 : k / 4096 % 2 = 1 → cla = s.cla)
    (h13 : k / 8192 % 2 = 1 → dove = s.dove)
    (h14 : k / 16384 % 2 = 1 → therm = s.therm)
    (h15 : k / 32768 % 2 = 1 → dowel = s.dowel)
    (h16 : k / 65536 % 2 = 1 → sync = s.sync)
    (h17 : k / 131072 % 2 = 1 → dma = s.dma)
    (h18 : k / 262144 % 2 = 1 → rcd = s.rcd)
    (h19 : k / 524288 % 2 = 1 → flash = s.flash)
    (h20 : k / 1048576 % 2 = 1 → obs = s.obs)
    (h21 : k / 2097152 % 2 = 1 → mgt = s.mgt)
    (h22 : k / 4194304 % 2 = 1 → host = s.host)
    (h23 : k / 8388608 % 2 = 1 → free = s.free) :
    State.view k (State.mk aon obj cl chain rails phases prot ff regions shim clk cap cla dove therm dowel sync dma rcd
        flash obs mgt host s.inst free s.pending) = s.view k := by
  simp only [State.view, View.mk.injEq]
  exact ⟨h, part_congr h0, part_congr h1, part_congr h2, part_congr h3, part_congr h4, part_congr h5, part_congr h6,
      part_congr h7, part_congr h8, part_congr h9, part_congr h10, part_congr h11, part_congr h12, part_congr h13, part_congr
      h14, part_congr h15, part_congr h16, part_congr h17, part_congr h18, part_congr h19, part_congr h20, part_congr h21,
      part_congr h22, part_congr h23⟩

theorem view_trans {k u v : Nat} (h : k &&& u = k) (g : u &&& v = u) : k &&& v = k := by
  rw [← h, Nat.and_assoc, g]

theorem foldl_view {α : Type} {k : Nat} {f : State → α → State} (h : ∀ t x, (f t x).view k = t.view k) (l : List α) (s :
    State) : (l.foldl f s).view k = s.view k := by
  induction l generalizing s with
  | nil => rfl
  | cons x l ih => rw [List.foldl_cons, ih, h]

theorem forEach_view {k : Nat} {l : List Nat} {f : Nat → State → State} {s : State} (h : ∀ n t, (f n t).view k = t.view k) :
    (forEach l f s).view k = s.view k :=
  foldl_view (fun t n => h n t) l s

theorem needRange_ok {c : Bool} {k : Except Nat State} {t : State} (h : needRange c k = .ok t) : k = .ok t := by
  cases c <;> simp_all [needRange]

theorem needState_ok {c : Bool} {k : Except Nat State} {t : State} (h : needState c k = .ok t) : k = .ok t := by
  cases c <;> simp_all [needState]

theorem ite_ok_view {k : Nat} {c : Prop} [Decidable c] {a b : Except Nat State} {s t : State} (ha : a = .ok t → t.view k =
    s.view k)
    (hb : b = .ok t → t.view k = s.view k) (h : (if c then a else b) = .ok t) : t.view k = s.view k := by
  split at h
  · exact ha h
  · exact hb h

theorem ite_next_view {k : Nat} {c : Prop} [Decidable c] {a b : Host.Outcome State Fault Refusal} {s t : State}
    (ha : a = .next t → t.view k = s.view k) (hb : b = .next t → t.view k = s.view k) (h : (if c then a else b) = .next t) :
    t.view k = s.view k := by
  split at h
  · exact ha h
  · exact hb h

theorem fixed_aon {s u : State} {a : Aon} (h : u.fixed = s.fixed) (h1 : a.vddAon = u.aon.vddAon) (h2 : a.porN = u.aon.porN)
    (h3 : a.hostRstN = u.aon.hostRstN) : State.fixed { u with aon := a } = s.fixed := by
  rw [← h, fixed_mk, h1, h2, h3]
  exact fixed_eta u

theorem aon_view {k : Nat} {s u : State} {a : Aon} (h : u.view k = s.view k) (hk : k % 2 = 0) (h1 : a.vddAon = u.aon.vddAon)
    (h2 : a.porN = u.aon.porN)
    (h3 : a.hostRstN = u.aon.hostRstN) : State.view k { u with aon := a } = s.view k := by
  rw [← h]
  refine view_upd (fixed_aon rfl h1 h2 h3) (fun hh => absurd hh (by rw [Nat.div_one]; omega)) ?_ ?_ ?_ ?_ ?_ ?_ ?_ ?_ ?_ ?_ ?_ ?_ ?_ ?_ ?_ ?_ ?_ ?_ ?_ ?_ ?_ ?_ ?_ <;> exact fun _ => rfl

end Sys2Proof.Machine
end

