-- ==== Sys2Proof/Laws/ViewOps.lean ====
section
/-! SUPPORT. The frames of the functions of the named operations, operands, flags and faults: one lemma per function says which units of the state
it keeps (a mask of `State.view`), cited by the lemmas of its callers. -/

namespace Sys2Proof.Machine

open Sys2Proof

set_option linter.all false

theorem State.updRail_view {k} (hk : k &&& 16777199 = k) (s a1 a2) : (State.updRail s a1 a2).view k = s.view k := by
  refine view_le hk ?_
  unfold State.updRail
  simp only [view_upd, fixed_mk, fixed_eta, apply_ite (State.view _), ite_self, Nat.reduceAnd, Nat.reduceDiv, Nat.reduceMod,
      Nat.zero_ne_one, implies_true, false_implies, Nat.div_one, kvSorted_kvPut, List.length_modify, List.length_map,
      List.length_set, List.length_mapIdx]

theorem State.updPhase_view {k} (hk : k &&& 16777183 = k) (s a1 a2) : (State.updPhase s a1 a2).view k = s.view k := by
  refine view_le hk ?_
  unfold State.updPhase
  simp only [view_upd, fixed_mk, fixed_eta, apply_ite (State.view _), ite_self, Nat.reduceAnd, Nat.reduceDiv, Nat.reduceMod,
      Nat.zero_ne_one, implies_true, false_implies, Nat.div_one, kvSorted_kvPut, List.length_modify, List.length_map,
      List.length_set, List.length_mapIdx]

theorem State.updRegion_view {k} (hk : k &&& 16776959 = k) (s a1 a2) : (State.updRegion s a1 a2).view k = s.view k := by
  refine view_le hk ?_
  unfold State.updRegion
  simp only [view_upd, fixed_mk, fixed_eta, apply_ite (State.view _), ite_self, Nat.reduceAnd, Nat.reduceDiv, Nat.reduceMod,
      Nat.zero_ne_one, implies_true, false_implies, Nat.div_one, kvSorted_kvPut, List.length_modify, List.length_map,
      List.length_set, List.length_mapIdx]

theorem State.updEngine_view {k} (hk : k &&& 16744447 = k) (s a1 a2) : (State.updEngine s a1 a2).view k = s.view k := by
  refine view_le hk ?_
  unfold State.updEngine
  simp only [view_upd, fixed_mk, fixed_eta, apply_ite (State.view _), ite_self, Nat.reduceAnd, Nat.reduceDiv, Nat.reduceMod,
      Nat.zero_ne_one, implies_true, false_implies, Nat.div_one, kvSorted_kvPut, List.length_modify, List.length_map,
      List.length_set, List.length_mapIdx]

theorem State.updJig_view {k} (hk : k &&& 16744447 = k) (s a1 a2) : (State.updJig s a1 a2).view k = s.view k := by
  refine view_le hk ?_
  unfold State.updJig
  simp only [view_upd, fixed_mk, fixed_eta, apply_ite (State.view _), ite_self, Nat.reduceAnd, Nat.reduceDiv, Nat.reduceMod,
      Nat.zero_ne_one, implies_true, false_implies, Nat.div_one, kvSorted_kvPut, List.length_modify, List.length_map,
      List.length_set, List.length_mapIdx]

theorem State.updDma_view {k} (hk : k &&& 16646143 = k) (s a1 a2) : (State.updDma s a1 a2).view k = s.view k := by
  refine view_le hk ?_
  unfold State.updDma
  simp only [view_upd, fixed_mk, fixed_eta, apply_ite (State.view _), ite_self, Nat.reduceAnd, Nat.reduceDiv, Nat.reduceMod,
      Nat.zero_ne_one, implies_true, false_implies, Nat.div_one, kvSorted_kvPut, List.length_modify, List.length_map,
      List.length_set, List.length_mapIdx]

theorem State.put_view {k} (hk : k &&& 16777213 = k) (s a1 a2 a3) : (State.put s a1 a2 a3).view k = s.view k := by
  refine view_le hk ?_
  unfold State.put
  simp only [view_upd, fixed_mk, fixed_eta, apply_ite (State.view _), ite_self, Nat.reduceAnd, Nat.reduceDiv, Nat.reduceMod,
      Nat.zero_ne_one, implies_true, false_implies, Nat.div_one, kvSorted_kvPut, List.length_modify, List.length_map,
      List.length_set, List.length_mapIdx]

theorem State.putDom_view {k} (hk : k &&& 16777213 = k) (s a1 a2 a3) : (State.putDom s a1 a2 a3).view k = s.view k := by
  refine view_le hk ?_
  unfold State.putDom
  simp only [view_upd, fixed_mk, fixed_eta, apply_ite (State.view _), ite_self, Nat.reduceAnd, Nat.reduceDiv, Nat.reduceMod,
      Nat.zero_ne_one, implies_true, false_implies, Nat.div_one, kvSorted_kvPut, List.length_modify, List.length_map,
      List.length_set, List.length_mapIdx]

theorem State.bump32_view {k} (hk : k &&& 16777213 = k) (s a1 a2) : (State.bump32 s a1 a2).view k = s.view k := by
  refine view_le hk ?_
  unfold State.bump32
  simp only [State.put_view, view_upd, fixed_mk, fixed_eta, apply_ite (State.view _), ite_self, Nat.reduceAnd,
      Nat.reduceDiv, Nat.reduceMod, Nat.zero_ne_one, implies_true, false_implies, Nat.div_one, kvSorted_kvPut,
      List.length_modify, List.length_map, List.length_set, List.length_mapIdx]

theorem State.bump16_view {k} (hk : k &&& 16777213 = k) (s a1 a2) : (State.bump16 s a1 a2).view k = s.view k := by
  refine view_le hk ?_
  unfold State.bump16
  simp only [State.put_view, view_upd, fixed_mk, fixed_eta, apply_ite (State.view _), ite_self, Nat.reduceAnd,
      Nat.reduceDiv, Nat.reduceMod, Nat.zero_ne_one, implies_true, false_implies, Nat.div_one, kvSorted_kvPut,
      List.length_modify, List.length_map, List.length_set, List.length_mapIdx]

theorem State.add64_view {k} (hk : k &&& 16777213 = k) (s a1 a2 a3) : (State.add64 s a1 a2 a3).view k = s.view k := by
  refine view_le hk ?_
  unfold State.add64
  simp only [State.put_view, view_upd, fixed_mk, fixed_eta, apply_ite (State.view _), ite_self, Nat.reduceAnd,
      Nat.reduceDiv, Nat.reduceMod, Nat.zero_ne_one, implies_true, false_implies, Nat.div_one, kvSorted_kvPut,
      List.length_modify, List.length_map, List.length_set, List.length_mapIdx]

theorem State.add32_view {k} (hk : k &&& 16777213 = k) (s a1 a2 a3) : (State.add32 s a1 a2 a3).view k = s.view k := by
  refine view_le hk ?_
  unfold State.add32
  simp only [State.put_view, view_upd, fixed_mk, fixed_eta, apply_ite (State.view _), ite_self, Nat.reduceAnd,
      Nat.reduceDiv, Nat.reduceMod, Nat.zero_ne_one, implies_true, false_implies, Nat.div_one, kvSorted_kvPut,
      List.length_modify, List.length_map, List.length_set, List.length_mapIdx]

theorem State.takeFree_view {k} (hk : k &&& 8388607 = k) (s) : (State.takeFree s).view k = s.view k := by
  refine view_le hk ?_
  unfold State.takeFree
  simp only [view_upd, fixed_mk, fixed_eta, apply_ite (State.view _), ite_self, Nat.reduceAnd, Nat.reduceDiv, Nat.reduceMod,
      Nat.zero_ne_one, implies_true, false_implies, Nat.div_one, kvSorted_kvPut, List.length_modify, List.length_map,
      List.length_set, List.length_mapIdx]

theorem State.countP_view {k} (hk : k &&& 15728639 = k) (s a1 a2 a3) : (State.countP s a1 a2 a3).view k = s.view k := by
  refine view_le hk ?_
  unfold State.countP
  simp only [view_upd, fixed_mk, fixed_eta, apply_ite (State.view _), ite_self, Nat.reduceAnd, Nat.reduceDiv, Nat.reduceMod,
      Nat.zero_ne_one, implies_true, false_implies, Nat.div_one, kvSorted_kvPut, List.length_modify, List.length_map,
      List.length_set, List.length_mapIdx]

theorem State.count_view {k} (hk : k &&& 15728639 = k) (s a1 a2) : (State.count s a1 a2).view k = s.view k := by
  refine view_le hk ?_
  unfold State.count
  simp only [view_upd, fixed_mk, fixed_eta, apply_ite (State.view _), ite_self, Nat.reduceAnd, Nat.reduceDiv, Nat.reduceMod,
      Nat.zero_ne_one, implies_true, false_implies, Nat.div_one, kvSorted_kvPut, List.length_modify, List.length_map,
      List.length_set, List.length_mapIdx]

theorem State.countFixed_view {k} (hk : k &&& 15728639 = k) (s a1 a2) : (State.countFixed s a1 a2).view k = s.view k := by
  refine view_le hk ?_
  unfold State.countFixed
  simp only [view_upd, fixed_mk, fixed_eta, apply_ite (State.view _), ite_self, Nat.reduceAnd, Nat.reduceDiv, Nat.reduceMod,
      Nat.zero_ne_one, implies_true, false_implies, Nat.div_one, kvSorted_kvPut, List.length_modify, List.length_map,
      List.length_set, List.length_mapIdx]

theorem elapseCalendar_view {k} (hk : k &&& 16515071 = k) (a0 s) : (elapseCalendar a0 s).view k = s.view k := by
  refine view_le hk ?_
  unfold elapseCalendar
  simp only [view_upd, fixed_mk, fixed_eta, apply_ite (State.view _), ite_self, Nat.reduceAnd, Nat.reduceDiv, Nat.reduceMod,
      Nat.zero_ne_one, implies_true, false_implies, Nat.div_one, kvSorted_kvPut, List.length_modify, List.length_map,
      List.length_set, List.length_mapIdx]

theorem elapseReasons_view {k} (hk : k &&& 16775167 = k) (a0 s) : (elapseReasons a0 s).view k = s.view k := by
  refine view_le hk ?_
  unfold elapseReasons
  simp only [view_upd, fixed_mk, fixed_eta, apply_ite (State.view _), ite_self, Nat.reduceAnd, Nat.reduceDiv, Nat.reduceMod,
      Nat.zero_ne_one, implies_true, false_implies, Nat.div_one, kvSorted_kvPut, List.length_modify, List.length_map,
      List.length_set, List.length_mapIdx]

theorem elapseTimes_view {k} (hk : k &&& 15728637 = k) (a0 s) : (elapseTimes a0 s).view k = s.view k := by
  refine view_le hk ?_
  unfold elapseTimes
  simp only [State.add64_view, State.countFixed_view, view_upd, fixed_mk, fixed_eta, apply_ite (State.view _), ite_self,
      Nat.reduceAnd, Nat.reduceDiv, Nat.reduceMod, Nat.zero_ne_one, implies_true, false_implies, Nat.div_one, kvSorted_kvPut,
      List.length_modify, List.length_map, List.length_set, List.length_mapIdx]

theorem elapsePhases_view {k} (hk : k &&& 16777213 = k) (a0 s) : (elapsePhases a0 s).view k = s.view k := by
  refine view_le hk ?_
  unfold elapsePhases
  simp (disch := (intros; first | done | (simp only [State.add64_view, view_upd, fixed_mk, fixed_eta, apply_ite (State.view _), ite_self, Nat.reduceAnd, Nat.reduceDiv, Nat.reduceMod, Nat.zero_ne_one, implies_true, false_implies, Nat.div_one, kvSorted_kvPut, List.length_modify, List.length_map, List.length_set, List.length_mapIdx]; done) | ((repeat' split) <;> simp only [State.add64_view, view_upd, fixed_mk, fixed_eta, apply_ite (State.view _), ite_self, Nat.reduceAnd, Nat.reduceDiv, Nat.reduceMod, Nat.zero_ne_one, implies_true, false_implies, Nat.div_one, kvSorted_kvPut, List.length_modify, List.length_map, List.length_set, List.length_mapIdx]; done) | grind [view_upd, fixed_mk, fixed_eta, List.length_modify, State.add64_view])) only [State.add64_view, view_upd, fixed_mk, fixed_eta, apply_ite (State.view _), ite_self, Nat.reduceAnd, Nat.reduceDiv, Nat.reduceMod, Nat.zero_ne_one, implies_true, false_implies, Nat.div_one, kvSorted_kvPut, List.length_modify, List.length_map, List.length_set, List.length_mapIdx, forEach_view, foldl_view]

theorem elapseTiles_view {k} (hk : k &&& 15727615 = k) (a0 s) : (elapseTiles a0 s).view k = s.view k := by
  refine view_le hk ?_
  unfold elapseTiles
  simp only [State.count_view, view_upd, fixed_mk, fixed_eta, apply_ite (State.view _), ite_self, Nat.reduceAnd,
      Nat.reduceDiv, Nat.reduceMod, Nat.zero_ne_one, implies_true, false_implies, Nat.div_one, kvSorted_kvPut,
      List.length_modify, List.length_map, List.length_set, List.length_mapIdx]

theorem elapse_view {k} (hk : k &&& 15463420 = k) (a0 s) : (elapse a0 s).view k = s.view k := by
  refine view_le hk ?_
  unfold elapse
  simp only [elapseCalendar_view, elapseReasons_view, elapseTimes_view, elapsePhases_view, elapseTiles_view, view_upd,
      fixed_mk, fixed_eta, apply_ite (State.view _), ite_self, Nat.reduceAnd, Nat.reduceDiv, Nat.reduceMod, Nat.zero_ne_one,
      implies_true, false_implies, Nat.div_one, kvSorted_kvPut, List.length_modify, List.length_map, List.length_set,
      List.length_mapIdx]

theorem advanceTo_view {k} (hk : k &&& 15463420 = k) (a0 s) : (advanceTo a0 s).view k = s.view k := by
  refine view_le hk ?_
  unfold advanceTo
  simp only [elapse_view, view_upd, fixed_mk, fixed_eta, apply_ite (State.view _), ite_self, Nat.reduceAnd, Nat.reduceDiv,
      Nat.reduceMod, Nat.zero_ne_one, implies_true, false_implies, Nat.div_one, kvSorted_kvPut, List.length_modify,
      List.length_map, List.length_set, List.length_mapIdx]

theorem advanceTiles_view {k} (hk : k &&& 15463420 = k) (a0 s) : (advanceTiles a0 s).view k = s.view k := by
  refine view_le hk ?_
  unfold advanceTiles
  simp only [elapse_view, view_upd, fixed_mk, fixed_eta, apply_ite (State.view _), ite_self, Nat.reduceAnd, Nat.reduceDiv,
      Nat.reduceMod, Nat.zero_ne_one, implies_true, false_implies, Nat.div_one, kvSorted_kvPut, List.length_modify,
      List.length_map, List.length_set, List.length_mapIdx]

theorem idleTick_view {k} (hk : k &&& 15463420 = k) (s) : (idleTick s).view k = s.view k := by
  refine view_le hk ?_
  unfold idleTick
  simp only [elapse_view, view_upd, fixed_mk, fixed_eta, apply_ite (State.view _), ite_self, Nat.reduceAnd, Nat.reduceDiv,
      Nat.reduceMod, Nat.zero_ne_one, implies_true, false_implies, Nat.div_one, kvSorted_kvPut, List.length_modify,
      List.length_map, List.length_set, List.length_mapIdx]

theorem captureEvent_view {k} (hk : k &&& 16515068 = k) (a0 s) : (captureEvent a0 s).view k = s.view k := by
  refine view_le hk ?_
  unfold captureEvent
  simp only [State.bump32_view, view_upd, fixed_mk, fixed_eta, apply_ite (State.view _), ite_self, Nat.reduceAnd,
      Nat.reduceDiv, Nat.reduceMod, Nat.zero_ne_one, implies_true, false_implies, Nat.div_one, kvSorted_kvPut,
      List.length_modify, List.length_map, List.length_set, List.length_mapIdx]

theorem raise_view {k} (hk : k &&& 16515068 = k) (a0 a1 a2 a3 s) : (raise a0 a1 a2 a3 s).view k = s.view k := by
  refine view_le hk ?_
  unfold raise
  simp only [captureEvent_view, view_upd, fixed_mk, fixed_eta, apply_ite (State.view _), ite_self, Nat.reduceAnd,
      Nat.reduceDiv, Nat.reduceMod, Nat.zero_ne_one, implies_true, false_implies, Nat.div_one, kvSorted_kvPut,
      List.length_modify, List.length_map, List.length_set, List.length_mapIdx]

theorem raiseP_view {k} (hk : k &&& 16515068 = k) (a0 a1 a2 a3 a4 s) : (raiseP a0 a1 a2 a3 a4 s).view k = s.view k := by
  refine view_le hk ?_
  unfold raiseP
  simp only [captureEvent_view, view_upd, fixed_mk, fixed_eta, apply_ite (State.view _), ite_self, Nat.reduceAnd,
      Nat.reduceDiv, Nat.reduceMod, Nat.zero_ne_one, implies_true, false_implies, Nat.div_one, kvSorted_kvPut,
      List.length_modify, List.length_map, List.length_set, List.length_mapIdx]

theorem assertIrq_view {k} (hk : k &&& 16777214 = k) (s) : (assertIrq s).view k = s.view k := by
  refine view_le hk ?_
  unfold assertIrq
  simp only [view_upd, fixed_mk, fixed_eta, apply_ite (State.view _), ite_self, Nat.reduceAnd, Nat.reduceDiv, Nat.reduceMod,
      Nat.zero_ne_one, implies_true, false_implies, Nat.div_one, kvSorted_kvPut, List.length_modify, List.length_map,
      List.length_set, List.length_mapIdx]

theorem setReady_view {k} (hk : k &&& 16515068 = k) (a0 s) : (setReady a0 s).view k = s.view k := by
  refine view_le hk ?_
  unfold setReady
  simp only [raise_view, view_upd, fixed_mk, fixed_eta, apply_ite (State.view _), ite_self, Nat.reduceAnd, Nat.reduceDiv,
      Nat.reduceMod, Nat.zero_ne_one, implies_true, false_implies, Nat.div_one, kvSorted_kvPut, List.length_modify,
      List.length_map, List.length_set, List.length_mapIdx]

theorem clearReady_view {k} (hk : k &&& 16515068 = k) (a0 s) : (clearReady a0 s).view k = s.view k := by
  refine view_le hk ?_
  unfold clearReady
  simp only [raise_view, view_upd, fixed_mk, fixed_eta, apply_ite (State.view _), ite_self, Nat.reduceAnd, Nat.reduceDiv,
      Nat.reduceMod, Nat.zero_ne_one, implies_true, false_implies, Nat.div_one, kvSorted_kvPut, List.length_modify,
      List.length_map, List.length_set, List.length_mapIdx]

theorem State.setEnable_view {k} (hk : k &&& 16777214 = k) (s a1 a2) : (State.setEnable s a1 a2).view k = s.view k := by
  refine view_le hk ?_
  unfold State.setEnable
  simp only [view_upd, fixed_mk, fixed_eta, apply_ite (State.view _), ite_self, Nat.reduceAnd, Nat.reduceDiv, Nat.reduceMod,
      Nat.zero_ne_one, implies_true, false_implies, Nat.div_one, kvSorted_kvPut, List.length_modify, List.length_map,
      List.length_set, List.length_mapIdx]

theorem storeVal_view {k} (hk : k &&& 16777213 = k) (a0 a1 a2 a3 s) : (storeVal a0 a1 a2 a3 s).view k = s.view k := by
  refine view_le hk ?_
  unfold storeVal
  (repeat' split) <;> simp only [State.put_view, State.putDom_view, view_upd, fixed_mk, fixed_eta, apply_ite (State.view _), ite_self, Nat.reduceAnd, Nat.reduceDiv, Nat.reduceMod, Nat.zero_ne_one, implies_true, false_implies, Nat.div_one, kvSorted_kvPut, List.length_modify, List.length_map, List.length_set, List.length_mapIdx]

theorem setRailFlt_view {k} (hk : k &&& 16777197 = k) (a0 a1 s) : (setRailFlt a0 a1 s).view k = s.view k := by
  refine view_le hk ?_
  unfold setRailFlt
  simp only [State.bump32_view, State.updRail_view, view_upd, fixed_mk, fixed_eta, apply_ite (State.view _), ite_self,
      Nat.reduceAnd, Nat.reduceDiv, Nat.reduceMod, Nat.zero_ne_one, implies_true, false_implies, Nat.div_one, kvSorted_kvPut,
      List.length_modify, List.length_map, List.length_set, List.length_mapIdx]

theorem setKerfFlag_view {k} (hk : k &&& 16776701 = k) (a0 s) : (setKerfFlag a0 s).view k = s.view k := by
  refine view_le hk ?_
  unfold setKerfFlag
  simp only [State.bump32_view, view_upd, fixed_mk, fixed_eta, apply_ite (State.view _), ite_self, Nat.reduceAnd,
      Nat.reduceDiv, Nat.reduceMod, Nat.zero_ne_one, implies_true, false_implies, Nat.div_one, kvSorted_kvPut,
      List.length_modify, List.length_map, List.length_set, List.length_mapIdx]

theorem setClkFlag_view {k} (hk : k &&& 16776189 = k) (a0 s) : (setClkFlag a0 s).view k = s.view k := by
  refine view_le hk ?_
  unfold setClkFlag
  simp only [State.bump32_view, view_upd, fixed_mk, fixed_eta, apply_ite (State.view _), ite_self, Nat.reduceAnd,
      Nat.reduceDiv, Nat.reduceMod, Nat.zero_ne_one, implies_true, false_implies, Nat.div_one, kvSorted_kvPut,
      List.length_modify, List.length_map, List.length_set, List.length_mapIdx]

theorem setCapFlag_view {k} (hk : k &&& 16775165 = k) (a0 s) : (setCapFlag a0 s).view k = s.view k := by
  refine view_le hk ?_
  unfold setCapFlag
  simp only [State.bump32_view, view_upd, fixed_mk, fixed_eta, apply_ite (State.view _), ite_self, Nat.reduceAnd,
      Nat.reduceDiv, Nat.reduceMod, Nat.zero_ne_one, implies_true, false_implies, Nat.div_one, kvSorted_kvPut,
      List.length_modify, List.length_map, List.length_set, List.length_mapIdx]

theorem setClampFlag_view {k} (hk : k &&& 16773117 = k) (a0 s) : (setClampFlag a0 s).view k = s.view k := by
  refine view_le hk ?_
  unfold setClampFlag
  simp only [State.bump32_view, view_upd, fixed_mk, fixed_eta, apply_ite (State.view _), ite_self, Nat.reduceAnd,
      Nat.reduceDiv, Nat.reduceMod, Nat.zero_ne_one, implies_true, false_implies, Nat.div_one, kvSorted_kvPut,
      List.length_modify, List.length_map, List.length_set, List.length_mapIdx]

theorem setDoveFlag_view {k} (hk : k &&& 16769021 = k) (a0 s) : (setDoveFlag a0 s).view k = s.view k := by
  refine view_le hk ?_
  unfold setDoveFlag
  simp only [State.bump32_view, view_upd, fixed_mk, fixed_eta, apply_ite (State.view _), ite_self, Nat.reduceAnd,
      Nat.reduceDiv, Nat.reduceMod, Nat.zero_ne_one, implies_true, false_implies, Nat.div_one, kvSorted_kvPut,
      List.length_modify, List.length_map, List.length_set, List.length_mapIdx]

theorem setThermFlag_view {k} (hk : k &&& 16760829 = k) (a0 s) : (setThermFlag a0 s).view k = s.view k := by
  refine view_le hk ?_
  unfold setThermFlag
  simp only [State.bump32_view, view_upd, fixed_mk, fixed_eta, apply_ite (State.view _), ite_self, Nat.reduceAnd,
      Nat.reduceDiv, Nat.reduceMod, Nat.zero_ne_one, implies_true, false_implies, Nat.div_one, kvSorted_kvPut,
      List.length_modify, List.length_map, List.length_set, List.length_mapIdx]

theorem setFfFlag_view {k} (hk : k &&& 16777085 = k) (a0 s) : (setFfFlag a0 s).view k = s.view k := by
  refine view_le hk ?_
  unfold setFfFlag
  simp only [State.bump32_view, view_upd, fixed_mk, fixed_eta, apply_ite (State.view _), ite_self, Nat.reduceAnd,
      Nat.reduceDiv, Nat.reduceMod, Nat.zero_ne_one, implies_true, false_implies, Nat.div_one, kvSorted_kvPut,
      List.length_modify, List.length_map, List.length_set, List.length_mapIdx]

theorem setDowelFlag_view {k} (hk : k &&& 16744445 = k) (a0 s) : (setDowelFlag a0 s).view k = s.view k := by
  refine view_le hk ?_
  unfold setDowelFlag
  simp only [State.bump32_view, view_upd, fixed_mk, fixed_eta, apply_ite (State.view _), ite_self, Nat.reduceAnd,
      Nat.reduceDiv, Nat.reduceMod, Nat.zero_ne_one, implies_true, false_implies, Nat.div_one, kvSorted_kvPut,
      List.length_modify, List.length_map, List.length_set, List.length_mapIdx]

theorem setSyncFlag_view {k} (hk : k &&& 16711677 = k) (a0 s) : (setSyncFlag a0 s).view k = s.view k := by
  refine view_le hk ?_
  unfold setSyncFlag
  simp only [State.bump32_view, view_upd, fixed_mk, fixed_eta, apply_ite (State.view _), ite_self, Nat.reduceAnd,
      Nat.reduceDiv, Nat.reduceMod, Nat.zero_ne_one, implies_true, false_implies, Nat.div_one, kvSorted_kvPut,
      List.length_modify, List.length_map, List.length_set, List.length_mapIdx]

theorem setRecFlag_view {k} (hk : k &&& 16515069 = k) (a0 s) : (setRecFlag a0 s).view k = s.view k := by
  refine view_le hk ?_
  unfold setRecFlag
  simp only [State.bump32_view, view_upd, fixed_mk, fixed_eta, apply_ite (State.view _), ite_self, Nat.reduceAnd,
      Nat.reduceDiv, Nat.reduceMod, Nat.zero_ne_one, implies_true, false_implies, Nat.div_one, kvSorted_kvPut,
      List.length_modify, List.length_map, List.length_set, List.length_mapIdx]

theorem setStopFlag_view {k} (hk : k &&& 15728637 = k) (a0 s) : (setStopFlag a0 s).view k = s.view k := by
  refine view_le hk ?_
  unfold setStopFlag
  simp only [State.bump32_view, view_upd, fixed_mk, fixed_eta, apply_ite (State.view _), ite_self, Nat.reduceAnd,
      Nat.reduceDiv, Nat.reduceMod, Nat.zero_ne_one, implies_true, false_implies, Nat.div_one, kvSorted_kvPut,
      List.length_modify, List.length_map, List.length_set, List.length_mapIdx]

theorem setMgtFlag_view {k} (hk : k &&& 14680061 = k) (a0 s) : (setMgtFlag a0 s).view k = s.view k := by
  refine view_le hk ?_
  unfold setMgtFlag
  simp only [State.bump32_view, view_upd, fixed_mk, fixed_eta, apply_ite (State.view _), ite_self, Nat.reduceAnd,
      Nat.reduceDiv, Nat.reduceMod, Nat.zero_ne_one, implies_true, false_implies, Nat.div_one, kvSorted_kvPut,
      List.length_modify, List.length_map, List.length_set, List.length_mapIdx]

theorem setStepOvf_view {k} (hk : k &&& 16777214 = k) (s) : (setStepOvf s).view k = s.view k := by
  refine view_le hk ?_
  unfold setStepOvf
  simp only [view_upd, fixed_mk, fixed_eta, apply_ite (State.view _), ite_self, Nat.reduceAnd, Nat.reduceDiv, Nat.reduceMod,
      Nat.zero_ne_one, implies_true, false_implies, Nat.div_one, kvSorted_kvPut, List.length_modify, List.length_map,
      List.length_set, List.length_mapIdx]

theorem setBarEarly_view {k} (hk : k &&& 16777214 = k) (s) : (setBarEarly s).view k = s.view k := by
  refine view_le hk ?_
  unfold setBarEarly
  simp only [view_upd, fixed_mk, fixed_eta, apply_ite (State.view _), ite_self, Nat.reduceAnd, Nat.reduceDiv, Nat.reduceMod,
      Nat.zero_ne_one, implies_true, false_implies, Nat.div_one, kvSorted_kvPut, List.length_modify, List.length_map,
      List.length_set, List.length_mapIdx]

theorem postWord_view {k} (hk : k &&& 16775167 = k) (a0 s) : (postWord a0 s).view k = s.view k := by
  refine view_le hk ?_
  unfold postWord
  simp only [view_upd, fixed_mk, fixed_eta, apply_ite (State.view _), ite_self, Nat.reduceAnd, Nat.reduceDiv, Nat.reduceMod,
      Nat.zero_ne_one, implies_true, false_implies, Nat.div_one, kvSorted_kvPut, List.length_modify, List.length_map,
      List.length_set, List.length_mapIdx]

theorem withdrawWord_view {k} (hk : k &&& 16775167 = k) (a0 a1 s) : (withdrawWord a0 a1 s).view k = s.view k := by
  refine view_le hk ?_
  unfold withdrawWord
  simp only [view_upd, fixed_mk, fixed_eta, apply_ite (State.view _), ite_self, Nat.reduceAnd, Nat.reduceDiv, Nat.reduceMod,
      Nat.zero_ne_one, implies_true, false_implies, Nat.div_one, kvSorted_kvPut, List.length_modify, List.length_map,
      List.length_set, List.length_mapIdx]

theorem setTarget_view {k} (hk : k &&& 16776191 = k) (s) : (setTarget s).view k = s.view k := by
  refine view_le hk ?_
  unfold setTarget
  simp only [view_upd, fixed_mk, fixed_eta, apply_ite (State.view _), ite_self, Nat.reduceAnd, Nat.reduceDiv, Nat.reduceMod,
      Nat.zero_ne_one, implies_true, false_implies, Nat.div_one, kvSorted_kvPut, List.length_modify, List.length_map,
      List.length_set, List.length_mapIdx]

theorem updAccr_view {k} (hk : k &&& 16775165 = k) (s) : (updAccr s).view k = s.view k := by
  refine view_le hk ?_
  unfold updAccr
  simp only [setCapFlag_view, view_upd, fixed_mk, fixed_eta, apply_ite (State.view _), ite_self, Nat.reduceAnd,
      Nat.reduceDiv, Nat.reduceMod, Nat.zero_ne_one, implies_true, false_implies, Nat.div_one, kvSorted_kvPut,
      List.length_modify, List.length_map, List.length_set, List.length_mapIdx]

theorem combine_view {k} (hk : k &&& 16774141 = k) (s) : (combine s).view k = s.view k := by
  refine view_le hk ?_
  unfold combine
  simp only [State.put_view, updAccr_view, setTarget_view, view_upd, fixed_mk, fixed_eta, apply_ite (State.view _),
      ite_self, Nat.reduceAnd, Nat.reduceDiv, Nat.reduceMod, Nat.zero_ne_one, implies_true, false_implies, Nat.div_one,
      kvSorted_kvPut, List.length_modify, List.length_map, List.length_set, List.length_mapIdx]

theorem postLoop_view {k} (hk : k &&& 16775167 = k) (a0 a1 a2 s) : (postLoop a0 a1 a2 s).view k = s.view k := by
  refine view_le hk ?_
  unfold postLoop
  simp only [view_upd, fixed_mk, fixed_eta, apply_ite (State.view _), ite_self, Nat.reduceAnd, Nat.reduceDiv, Nat.reduceMod,
      Nat.zero_ne_one, implies_true, false_implies, Nat.div_one, kvSorted_kvPut, List.length_modify, List.length_map,
      List.length_set, List.length_mapIdx]

theorem withdrawLoop_view {k} (hk : k &&& 16775167 = k) (a0 a1 s) : (withdrawLoop a0 a1 s).view k = s.view k := by
  refine view_le hk ?_
  unfold withdrawLoop
  simp only [view_upd, fixed_mk, fixed_eta, apply_ite (State.view _), ite_self, Nat.reduceAnd, Nat.reduceDiv, Nat.reduceMod,
      Nat.zero_ne_one, implies_true, false_implies, Nat.div_one, kvSorted_kvPut, List.length_modify, List.length_map,
      List.length_set, List.length_mapIdx]

theorem stopTclk_view {k} (hk : k &&& 16776191 = k) (a0 s) : (stopTclk a0 s).view k = s.view k := by
  refine view_le hk ?_
  unfold stopTclk
  simp only [view_upd, fixed_mk, fixed_eta, apply_ite (State.view _), ite_self, Nat.reduceAnd, Nat.reduceDiv, Nat.reduceMod,
      Nat.zero_ne_one, implies_true, false_implies, Nat.div_one, kvSorted_kvPut, List.length_modify, List.length_map,
      List.length_set, List.length_mapIdx]

theorem State.updLink_view {k} (hk : k &&& 16777207 = k) (s a1 a2) : (State.updLink s a1 a2).view k = s.view k := by
  refine view_le hk ?_
  unfold State.updLink
  (repeat' split) <;> simp only [view_upd, fixed_mk, fixed_eta, apply_ite (State.view _), ite_self, Nat.reduceAnd, Nat.reduceDiv, Nat.reduceMod, Nat.zero_ne_one, implies_true, false_implies, Nat.div_one, kvSorted_kvPut, List.length_modify, List.length_map, List.length_set, List.length_mapIdx]

theorem pumpLink_view {k} (hk : k &&& 15728631 = k) (a0 s) : (pumpLink a0 s).view k = s.view k := by
  refine view_le hk ?_
  unfold pumpLink
  simp only [State.count_view, State.updLink_view, view_upd, fixed_mk, fixed_eta, apply_ite (State.view _), ite_self,
      Nat.reduceAnd, Nat.reduceDiv, Nat.reduceMod, Nat.zero_ne_one, implies_true, false_implies, Nat.div_one, kvSorted_kvPut,
      List.length_modify, List.length_map, List.length_set, List.length_mapIdx]

theorem discardFrame_view {k} (hk : k &&& 16777207 = k) (s) : (discardFrame s).view k = s.view k := by
  refine view_le hk ?_
  unfold discardFrame
  simp only [view_upd, fixed_mk, fixed_eta, apply_ite (State.view _), ite_self, Nat.reduceAnd, Nat.reduceDiv, Nat.reduceMod,
      Nat.zero_ne_one, implies_true, false_implies, Nat.div_one, kvSorted_kvPut, List.length_modify, List.length_map,
      List.length_set, List.length_mapIdx]

theorem sendOn_view {k} (hk : k &&& 15728631 = k) (a0 a1 s) : (sendOn a0 a1 s).view k = s.view k := by
  refine view_le hk ?_
  unfold sendOn
  simp only [discardFrame_view, pumpLink_view, State.updLink_view, view_upd, fixed_mk, fixed_eta, apply_ite (State.view _),
      ite_self, Nat.reduceAnd, Nat.reduceDiv, Nat.reduceMod, Nat.zero_ne_one, implies_true, false_implies, Nat.div_one,
      kvSorted_kvPut, List.length_modify, List.length_map, List.length_set, List.length_mapIdx]

theorem sendAll_view {k} (hk : k &&& 15728631 = k) (a0 a1 s) : (sendAll a0 a1 s).view k = s.view k := by
  refine view_le hk ?_
  unfold sendAll
  simp (disch := (intros; first | done | (simp only [sendOn_view, view_upd, fixed_mk, fixed_eta, apply_ite (State.view _), ite_self, Nat.reduceAnd, Nat.reduceDiv, Nat.reduceMod, Nat.zero_ne_one, implies_true, false_implies, Nat.div_one, kvSorted_kvPut, List.length_modify, List.length_map, List.length_set, List.length_mapIdx]; done) | ((repeat' split) <;> simp only [sendOn_view, view_upd, fixed_mk, fixed_eta, apply_ite (State.view _), ite_self, Nat.reduceAnd, Nat.reduceDiv, Nat.reduceMod, Nat.zero_ne_one, implies_true, false_implies, Nat.div_one, kvSorted_kvPut, List.length_modify, List.length_map, List.length_set, List.length_mapIdx]; done) | grind [view_upd, fixed_mk, fixed_eta, List.length_modify, sendOn_view])) only [sendOn_view, view_upd, fixed_mk, fixed_eta, apply_ite (State.view _), ite_self, Nat.reduceAnd, Nat.reduceDiv, Nat.reduceMod, Nat.zero_ne_one, implies_true, false_implies, Nat.div_one, kvSorted_kvPut, List.length_modify, List.length_map, List.length_set, List.length_mapIdx, forEach_view, foldl_view]

theorem sendTo_view {k} (hk : k &&& 15728631 = k) (a0 a1 a2 a3 s) : (sendTo a0 a1 a2 a3 s).view k = s.view k := by
  refine view_le hk ?_
  unfold sendTo
  (repeat' split) <;> simp only [sendAll_view, discardFrame_view, view_upd, fixed_mk, fixed_eta, apply_ite (State.view _), ite_self, Nat.reduceAnd, Nat.reduceDiv, Nat.reduceMod, Nat.zero_ne_one, implies_true, false_implies, Nat.div_one, kvSorted_kvPut, List.length_modify, List.length_map, List.length_set, List.length_mapIdx]

theorem broadcast_view {k} (hk : k &&& 15728631 = k) (a0 a1 a2 s) : (broadcast a0 a1 a2 s).view k = s.view k := by
  refine view_le hk ?_
  unfold broadcast
  simp only [sendAll_view, view_upd, fixed_mk, fixed_eta, apply_ite (State.view _), ite_self, Nat.reduceAnd, Nat.reduceDiv,
      Nat.reduceMod, Nat.zero_ne_one, implies_true, false_implies, Nat.div_one, kvSorted_kvPut, List.length_modify,
      List.length_map, List.length_set, List.length_mapIdx]

theorem isolate_view {k} (hk : k &&& 16777207 = k) (s) : (isolate s).view k = s.view k := by
  refine view_le hk ?_
  unfold isolate
  simp only [view_upd, fixed_mk, fixed_eta, apply_ite (State.view _), ite_self, Nat.reduceAnd, Nat.reduceDiv, Nat.reduceMod,
      Nat.zero_ne_one, implies_true, false_implies, Nat.div_one, kvSorted_kvPut, List.length_modify, List.length_map,
      List.length_set, List.length_mapIdx]

theorem loseSelf_view {k} (hk : k &&& 15728631 = k) (s) : (loseSelf s).view k = s.view k := by
  refine view_le hk ?_
  unfold loseSelf
  simp only [sendOn_view, sendTo_view, isolate_view, view_upd, fixed_mk, fixed_eta, apply_ite (State.view _), ite_self,
      Nat.reduceAnd, Nat.reduceDiv, Nat.reduceMod, Nat.zero_ne_one, implies_true, false_implies, Nat.div_one, kvSorted_kvPut,
      List.length_modify, List.length_map, List.length_set, List.length_mapIdx]

theorem snapshot_view {k} (hk : k &&& 15728639 = k) (s) : (snapshot s).view k = s.view k := by
  refine view_le hk ?_
  unfold snapshot
  simp only [view_upd, fixed_mk, fixed_eta, apply_ite (State.view _), ite_self, Nat.reduceAnd, Nat.reduceDiv, Nat.reduceMod,
      Nat.zero_ne_one, implies_true, false_implies, Nat.div_one, kvSorted_kvPut, List.length_modify, List.length_map,
      List.length_set, List.length_mapIdx]

theorem scribeLose_view {k} (hk : k &&& 15728637 = k) (s) : (scribeLose s).view k = s.view k := by
  refine view_le hk ?_
  unfold scribeLose
  simp only [State.add64_view, State.countFixed_view, view_upd, fixed_mk, fixed_eta, apply_ite (State.view _), ite_self,
      Nat.reduceAnd, Nat.reduceDiv, Nat.reduceMod, Nat.zero_ne_one, implies_true, false_implies, Nat.div_one, kvSorted_kvPut,
      List.length_modify, List.length_map, List.length_set, List.length_mapIdx]

theorem scribeCount_view {k} (hk : k &&& 15728639 = k) (s) : (scribeCount s).view k = s.view k := by
  refine view_le hk ?_
  unfold scribeCount
  simp only [State.countFixed_view, view_upd, fixed_mk, fixed_eta, apply_ite (State.view _), ite_self, Nat.reduceAnd,
      Nat.reduceDiv, Nat.reduceMod, Nat.zero_ne_one, implies_true, false_implies, Nat.div_one, kvSorted_kvPut,
      List.length_modify, List.length_map, List.length_set, List.length_mapIdx]

theorem scribeWrite_view {k} (hk : k &&& 15728637 = k) (a0 s) : (scribeWrite a0 s).view k = s.view k := by
  refine view_le hk ?_
  unfold scribeWrite
  simp only [scribeCount_view, scribeLose_view, view_upd, fixed_mk, fixed_eta, apply_ite (State.view _), ite_self,
      Nat.reduceAnd, Nat.reduceDiv, Nat.reduceMod, Nat.zero_ne_one, implies_true, false_implies, Nat.div_one, kvSorted_kvPut,
      List.length_modify, List.length_map, List.length_set, List.length_mapIdx]

theorem scribeTime_view {k} (hk : k &&& 15728637 = k) (s) : (scribeTime s).view k = s.view k := by
  refine view_le hk ?_
  unfold scribeTime
  simp only [scribeWrite_view, view_upd, fixed_mk, fixed_eta, apply_ite (State.view _), ite_self, Nat.reduceAnd,
      Nat.reduceDiv, Nat.reduceMod, Nat.zero_ne_one, implies_true, false_implies, Nat.div_one, kvSorted_kvPut,
      List.length_modify, List.length_map, List.length_set, List.length_mapIdx]

theorem scribeGap_view {k} (hk : k &&& 15728637 = k) (s) : (scribeGap s).view k = s.view k := by
  refine view_le hk ?_
  unfold scribeGap
  simp only [scribeWrite_view, view_upd, fixed_mk, fixed_eta, apply_ite (State.view _), ite_self, Nat.reduceAnd,
      Nat.reduceDiv, Nat.reduceMod, Nat.zero_ne_one, implies_true, false_implies, Nat.div_one, kvSorted_kvPut,
      List.length_modify, List.length_map, List.length_set, List.length_mapIdx]

theorem scribeRecover_view {k} (hk : k &&& 15728637 = k) (s) : (scribeRecover s).view k = s.view k := by
  refine view_le hk ?_
  unfold scribeRecover
  simp only [scribeTime_view, scribeGap_view, view_upd, fixed_mk, fixed_eta, apply_ite (State.view _), ite_self,
      Nat.reduceAnd, Nat.reduceDiv, Nat.reduceMod, Nat.zero_ne_one, implies_true, false_implies, Nat.div_one, kvSorted_kvPut,
      List.length_modify, List.length_map, List.length_set, List.length_mapIdx]

theorem stopReqPin_view {k} (hk : k &&& 16777214 = k) (s) : (stopReqPin s).view k = s.view k := by
  refine view_le hk ?_
  unfold stopReqPin
  simp only [view_upd, fixed_mk, fixed_eta, apply_ite (State.view _), ite_self, Nat.reduceAnd, Nat.reduceDiv, Nat.reduceMod,
      Nat.zero_ne_one, implies_true, false_implies, Nat.div_one, kvSorted_kvPut, List.length_modify, List.length_map,
      List.length_set, List.length_mapIdx]

theorem trigStop_view {k} (hk : k &&& 15728638 = k) (s) : (trigStop s).view k = s.view k := by
  refine view_le hk ?_
  unfold trigStop
  simp only [stopReqPin_view, view_upd, fixed_mk, fixed_eta, apply_ite (State.view _), ite_self, Nat.reduceAnd,
      Nat.reduceDiv, Nat.reduceMod, Nat.zero_ne_one, implies_true, false_implies, Nat.div_one, kvSorted_kvPut,
      List.length_modify, List.length_map, List.length_set, List.length_mapIdx]

theorem graphBegin_view {k} (hk : k &&& 15728639 = k) (s) : (graphBegin s).view k = s.view k := by
  refine view_le hk ?_
  unfold graphBegin
  simp only [view_upd, fixed_mk, fixed_eta, apply_ite (State.view _), ite_self, Nat.reduceAnd, Nat.reduceDiv, Nat.reduceMod,
      Nat.zero_ne_one, implies_true, false_implies, Nat.div_one, kvSorted_kvPut, List.length_modify, List.length_map,
      List.length_set, List.length_mapIdx]

theorem dumpMoment_view {k} (hk : k &&& 15728639 = k) (s) : (dumpMoment s).view k = s.view k := by
  refine view_le hk ?_
  unfold dumpMoment
  simp only [view_upd, fixed_mk, fixed_eta, apply_ite (State.view _), ite_self, Nat.reduceAnd, Nat.reduceDiv, Nat.reduceMod,
      Nat.zero_ne_one, implies_true, false_implies, Nat.div_one, kvSorted_kvPut, List.length_modify, List.length_map,
      List.length_set, List.length_mapIdx]

theorem dumpMarker_view {k} (hk : k &&& 15728639 = k) (a0 a1 s) : (dumpMarker a0 a1 s).view k = s.view k := by
  refine view_le hk ?_
  unfold dumpMarker
  simp only [dumpMoment_view, view_upd, fixed_mk, fixed_eta, apply_ite (State.view _), ite_self, Nat.reduceAnd,
      Nat.reduceDiv, Nat.reduceMod, Nat.zero_ne_one, implies_true, false_implies, Nat.div_one, kvSorted_kvPut,
      List.length_modify, List.length_map, List.length_set, List.length_mapIdx]

theorem triggerActions_view {k} (hk : k &&& 15728638 = k) (s) : (triggerActions s).view k = s.view k := by
  refine view_le hk ?_
  unfold triggerActions
  simp only [snapshot_view, dumpMoment_view, graphBegin_view, assertIrq_view, trigStop_view, view_upd, fixed_mk, fixed_eta,
      apply_ite (State.view _), ite_self, Nat.reduceAnd, Nat.reduceDiv, Nat.reduceMod, Nat.zero_ne_one, implies_true,
      false_implies, Nat.div_one, kvSorted_kvPut, List.length_modify, List.length_map, List.length_set, List.length_mapIdx]

theorem scribeTrigger_view {k} (hk : k &&& 15466492 = k) (s) : (scribeTrigger s).view k = s.view k := by
  refine view_le hk ?_
  unfold scribeTrigger
  simp only [scribeGap_view, scribeWrite_view, setStopFlag_view, State.put_view, triggerActions_view, raise_view, view_upd,
      fixed_mk, fixed_eta, apply_ite (State.view _), ite_self, Nat.reduceAnd, Nat.reduceDiv, Nat.reduceMod, Nat.zero_ne_one,
      implies_true, false_implies, Nat.div_one, kvSorted_kvPut, List.length_modify, List.length_map, List.length_set,
      List.length_mapIdx]

theorem scribeMatch_view {k} (hk : k &&& 15466492 = k) (s) : (scribeMatch s).view k = s.view k := by
  refine view_le hk ?_
  unfold scribeMatch
  simp only [scribeTrigger_view, view_upd, fixed_mk, fixed_eta, apply_ite (State.view _), ite_self, Nat.reduceAnd,
      Nat.reduceDiv, Nat.reduceMod, Nat.zero_ne_one, implies_true, false_implies, Nat.div_one, kvSorted_kvPut,
      List.length_modify, List.length_map, List.length_set, List.length_mapIdx]

theorem scribeEnter_view {k} (hk : k &&& 15728637 = k) (a0 s) : (scribeEnter a0 s).view k = s.view k := by
  refine view_le hk ?_
  unfold scribeEnter
  simp only [scribeLose_view, scribeWrite_view, scribeRecover_view, view_upd, fixed_mk, fixed_eta, apply_ite (State.view _),
      ite_self, Nat.reduceAnd, Nat.reduceDiv, Nat.reduceMod, Nat.zero_ne_one, implies_true, false_implies, Nat.div_one,
      kvSorted_kvPut, List.length_modify, List.length_map, List.length_set, List.length_mapIdx]

theorem scribePut_view {k} (hk : k &&& 15466492 = k) (a0 a1 a2 a3 s) : (scribePut a0 a1 a2 a3 s).view k = s.view k := by
  refine view_le hk ?_
  unfold scribePut
  simp only [scribeEnter_view, scribeMatch_view, view_upd, fixed_mk, fixed_eta, apply_ite (State.view _), ite_self,
      Nat.reduceAnd, Nat.reduceDiv, Nat.reduceMod, Nat.zero_ne_one, implies_true, false_implies, Nat.div_one, kvSorted_kvPut,
      List.length_modify, List.length_map, List.length_set, List.length_mapIdx]

theorem assertNmi_view {k} (hk : k &&& 15466492 = k) (s) : (assertNmi s).view k = s.view k := by
  refine view_le hk ?_
  unfold assertNmi
  simp only [scribeMatch_view, view_upd, fixed_mk, fixed_eta, apply_ite (State.view _), ite_self, Nat.reduceAnd,
      Nat.reduceDiv, Nat.reduceMod, Nat.zero_ne_one, implies_true, false_implies, Nat.div_one, kvSorted_kvPut,
      List.length_modify, List.length_map, List.length_set, List.length_mapIdx]

theorem State.updCtx_view {k} (hk : k &&& 16777151 = k) (s a1 a2) : (State.updCtx s a1 a2).view k = s.view k := by
  refine view_le hk ?_
  unfold State.updCtx
  simp only [view_upd, fixed_mk, fixed_eta, apply_ite (State.view _), ite_self, Nat.reduceAnd, Nat.reduceDiv, Nat.reduceMod,
      Nat.zero_ne_one, implies_true, false_implies, Nat.div_one, kvSorted_kvPut, List.length_modify, List.length_map,
      List.length_set, List.length_mapIdx]

theorem retain_view {k} (hk : k &&& 16777149 = k) (a0 s) : (retain a0 s).view k = s.view k := by
  refine view_le hk ?_
  unfold retain
  simp only [State.bump32_view, view_upd, fixed_mk, fixed_eta, apply_ite (State.view _), ite_self, Nat.reduceAnd,
      Nat.reduceDiv, Nat.reduceMod, Nat.zero_ne_one, implies_true, false_implies, Nat.div_one, kvSorted_kvPut,
      List.length_modify, List.length_map, List.length_set, List.length_mapIdx]

theorem faultEvent_view {k} (hk : k &&& 16515068 = k) (a0 a1 a2 a3 a4 a5 a6 s) : (faultEvent a0 a1 a2 a3 a4 a5 a6 s).view k
    = s.view k := by
  refine view_le hk ?_
  unfold faultEvent
  simp only [captureEvent_view, view_upd, fixed_mk, fixed_eta, apply_ite (State.view _), ite_self, Nat.reduceAnd,
      Nat.reduceDiv, Nat.reduceMod, Nat.zero_ne_one, implies_true, false_implies, Nat.div_one, kvSorted_kvPut,
      List.length_modify, List.length_map, List.length_set, List.length_mapIdx]

theorem markRailFlt_view {k} (hk : k &&& 16777197 = k) (a0 a1 s) : (markRailFlt a0 a1 s).view k = s.view k := by
  refine view_le hk ?_
  unfold markRailFlt
  simp only [setRailFlt_view, view_upd, fixed_mk, fixed_eta, apply_ite (State.view _), ite_self, Nat.reduceAnd,
      Nat.reduceDiv, Nat.reduceMod, Nat.zero_ne_one, implies_true, false_implies, Nat.div_one, kvSorted_kvPut,
      List.length_modify, List.length_map, List.length_set, List.length_mapIdx]

theorem countEdges_view {k} (hk : k &&& 15728381 = k) (a0 s) : (countEdges a0 s).view k = s.view k := by
  refine view_le hk ?_
  unfold countEdges
  simp only [State.count_view, State.add64_view, State.updRegion_view, view_upd, fixed_mk, fixed_eta, apply_ite (State.view
      _), ite_self, Nat.reduceAnd, Nat.reduceDiv, Nat.reduceMod, Nat.zero_ne_one, implies_true, false_implies, Nat.div_one,
      kvSorted_kvPut, List.length_modify, List.length_map, List.length_set, List.length_mapIdx]

theorem endStretch_view {k} (hk : k &&& 15727869 = k) (a0 s) : (endStretch a0 s).view k = s.view k := by
  refine view_le hk ?_
  unfold endStretch
  simp only [countEdges_view, State.put_view, State.updRegion_view, view_upd, fixed_mk, fixed_eta, apply_ite (State.view _),
      ite_self, Nat.reduceAnd, Nat.reduceDiv, Nat.reduceMod, Nat.zero_ne_one, implies_true, false_implies, Nat.div_one,
      kvSorted_kvPut, List.length_modify, List.length_map, List.length_set, List.length_mapIdx]

theorem coreLeave_view {k} (hk : k &&& 15727869 = k) (s) : (coreLeave s).view k = s.view k := by
  refine view_le hk ?_
  unfold coreLeave
  simp (disch := (intros; first | done | (simp only [State.add32_view, endStretch_view, view_upd, fixed_mk, fixed_eta, apply_ite (State.view _), ite_self, Nat.reduceAnd, Nat.reduceDiv, Nat.reduceMod, Nat.zero_ne_one, implies_true, false_implies, Nat.div_one, kvSorted_kvPut, List.length_modify, List.length_map, List.length_set, List.length_mapIdx]; done) | ((repeat' split) <;> simp only [State.add32_view, endStretch_view, view_upd, fixed_mk, fixed_eta, apply_ite (State.view _), ite_self, Nat.reduceAnd, Nat.reduceDiv, Nat.reduceMod, Nat.zero_ne_one, implies_true, false_implies, Nat.div_one, kvSorted_kvPut, List.length_modify, List.length_map, List.length_set, List.length_mapIdx]; done) | grind [view_upd, fixed_mk, fixed_eta, List.length_modify, State.add32_view, endStretch_view])) only [State.add32_view, endStretch_view, view_upd, fixed_mk, fixed_eta, apply_ite (State.view _), ite_self, Nat.reduceAnd, Nat.reduceDiv, Nat.reduceMod, Nat.zero_ne_one, implies_true, false_implies, Nat.div_one, kvSorted_kvPut, List.length_modify, List.length_map, List.length_set, List.length_mapIdx, forEach_view, foldl_view]

theorem endFault_view {k} (hk : k &&& 16777151 = k) (a0 a1 a2 s) : (endFault a0 a1 a2 s).view k = s.view k := by
  refine view_le hk ?_
  unfold endFault
  simp only [State.updCtx_view, view_upd, fixed_mk, fixed_eta, apply_ite (State.view _), ite_self, Nat.reduceAnd,
      Nat.reduceDiv, Nat.reduceMod, Nat.zero_ne_one, implies_true, false_implies, Nat.div_one, kvSorted_kvPut,
      List.length_modify, List.length_map, List.length_set, List.length_mapIdx]

theorem gaugesLost_view {k} (hk : k &&& 16498620 = k) (s) : (gaugesLost s).view k = s.view k := by
  refine view_le hk ?_
  unfold gaugesLost
  simp (disch := (intros; first | done | (simp only [clearReady_view, endFault_view, view_upd, fixed_mk, fixed_eta, apply_ite (State.view _), ite_self, Nat.reduceAnd, Nat.reduceDiv, Nat.reduceMod, Nat.zero_ne_one, implies_true, false_implies, Nat.div_one, kvSorted_kvPut, List.length_modify, List.length_map, List.length_set, List.length_mapIdx]; done) | ((repeat' split) <;> simp only [clearReady_view, endFault_view, view_upd, fixed_mk, fixed_eta, apply_ite (State.view _), ite_self, Nat.reduceAnd, Nat.reduceDiv, Nat.reduceMod, Nat.zero_ne_one, implies_true, false_implies, Nat.div_one, kvSorted_kvPut, List.length_modify, List.length_map, List.length_set, List.length_mapIdx]; done) | grind [view_upd, fixed_mk, fixed_eta, List.length_modify, clearReady_view, endFault_view])) only [clearReady_view, endFault_view, view_upd, fixed_mk, fixed_eta, apply_ite (State.view _), ite_self, Nat.reduceAnd, Nat.reduceDiv, Nat.reduceMod, Nat.zero_ne_one, implies_true, false_implies, Nat.div_one, kvSorted_kvPut, List.length_modify, List.length_map, List.length_set, List.length_mapIdx, forEach_view, foldl_view] <;> (repeat' split) <;> simp (disch := (intros; first | done | (simp only [clearReady_view, endFault_view, view_upd, fixed_mk, fixed_eta, apply_ite (State.view _), ite_self, Nat.reduceAnd, Nat.reduceDiv, Nat.reduceMod, Nat.zero_ne_one, implies_true, false_implies, Nat.div_one, kvSorted_kvPut, List.length_modify, List.length_map, List.length_set, List.length_mapIdx]; done) | ((repeat' split) <;> simp only [clearReady_view, endFault_view, view_upd, fixed_mk, fixed_eta, apply_ite (State.view _), ite_self, Nat.reduceAnd, Nat.reduceDiv, Nat.reduceMod, Nat.zero_ne_one, implies_true, false_implies, Nat.div_one, kvSorted_kvPut, List.length_modify, List.length_map, List.length_set, List.length_mapIdx]; done) | grind [view_upd, fixed_mk, fixed_eta, List.length_modify, clearReady_view, endFault_view])) only [clearReady_view, endFault_view, view_upd, fixed_mk, fixed_eta, apply_ite (State.view _), ite_self, Nat.reduceAnd, Nat.reduceDiv, Nat.reduceMod, Nat.zero_ne_one, implies_true, false_implies, Nat.div_one, kvSorted_kvPut, List.length_modify, List.length_map, List.length_set, List.length_mapIdx, forEach_view, foldl_view]

theorem leaveRegulation_view {k} (hk : k &&& 15449276 = k) (a0 s) : (leaveRegulation a0 s).view k = s.view k := by
  refine view_le hk ?_
  unfold leaveRegulation
  simp only [coreLeave_view, gaugesLost_view, view_upd, fixed_mk, fixed_eta, apply_ite (State.view _), ite_self,
      Nat.reduceAnd, Nat.reduceDiv, Nat.reduceMod, Nat.zero_ne_one, implies_true, false_implies, Nat.div_one, kvSorted_kvPut,
      List.length_modify, List.length_map, List.length_set, List.length_mapIdx]

theorem endGroupMove_view {k} (hk : k &&& 16777135 = k) (a0 s) : (endGroupMove a0 s).view k = s.view k := by
  refine view_le hk ?_
  unfold endGroupMove
  simp only [view_upd, fixed_mk, fixed_eta, apply_ite (State.view _), ite_self, Nat.reduceAnd, Nat.reduceDiv, Nat.reduceMod,
      Nat.zero_ne_one, implies_true, false_implies, Nat.div_one, kvSorted_kvPut, List.length_modify, List.length_map,
      List.length_set, List.length_mapIdx]

theorem stopFiring_view {k} (hk : k &&& 16777183 = k) (a0 s) : (stopFiring a0 s).view k = s.view k := by
  refine view_le hk ?_
  unfold stopFiring
  simp only [view_upd, fixed_mk, fixed_eta, apply_ite (State.view _), ite_self, Nat.reduceAnd, Nat.reduceDiv, Nat.reduceMod,
      Nat.zero_ne_one, implies_true, false_implies, Nat.div_one, kvSorted_kvPut, List.length_modify, List.length_map,
      List.length_set, List.length_mapIdx]

theorem enterSafe_view {k} (hk : k &&& 15448196 = k) (a0 a1 s) : (enterSafe a0 a1 s).view k = s.view k := by
  refine view_le hk ?_
  unfold enterSafe
  simp only [leaveRegulation_view, stopFiring_view, endGroupMove_view, State.updRail_view, stopTclk_view, loseSelf_view,
      view_upd, fixed_mk, fixed_eta, apply_ite (State.view _), ite_self, Nat.reduceAnd, Nat.reduceDiv, Nat.reduceMod,
      Nat.zero_ne_one, implies_true, false_implies, Nat.div_one, kvSorted_kvPut, List.length_modify, List.length_map,
      List.length_set, List.length_mapIdx]

theorem shutdown_view {k} (hk : k &&& 15448196 = k) (a0 s) : (shutdown a0 s).view k = s.view k := by
  refine view_le hk ?_
  unfold shutdown
  simp (disch := (intros; first | done | (simp only [enterSafe_view, loseSelf_view, view_upd, fixed_mk, fixed_eta, apply_ite (State.view _), ite_self, Nat.reduceAnd, Nat.reduceDiv, Nat.reduceMod, Nat.zero_ne_one, implies_true, false_implies, Nat.div_one, kvSorted_kvPut, List.length_modify, List.length_map, List.length_set, List.length_mapIdx]; done) | ((repeat' split) <;> simp only [enterSafe_view, loseSelf_view, view_upd, fixed_mk, fixed_eta, apply_ite (State.view _), ite_self, Nat.reduceAnd, Nat.reduceDiv, Nat.reduceMod, Nat.zero_ne_one, implies_true, false_implies, Nat.div_one, kvSorted_kvPut, List.length_modify, List.length_map, List.length_set, List.length_mapIdx]; done) | grind [view_upd, fixed_mk, fixed_eta, List.length_modify, enterSafe_view, loseSelf_view])) only [enterSafe_view, loseSelf_view, view_upd, fixed_mk, fixed_eta, apply_ite (State.view _), ite_self, Nat.reduceAnd, Nat.reduceDiv, Nat.reduceMod, Nat.zero_ne_one, implies_true, false_implies, Nat.div_one, kvSorted_kvPut, List.length_modify, List.length_map, List.length_set, List.length_mapIdx, forEach_view, foldl_view]

theorem postFor_view {k} (hk : k &&& 16775167 = k) (a0 a1 a2 s) : (postFor a0 a1 a2 s).view k = s.view k := by
  refine view_le hk ?_
  unfold postFor
  simp only [postLoop_view, postWord_view, view_upd, fixed_mk, fixed_eta, apply_ite (State.view _), ite_self, Nat.reduceAnd,
      Nat.reduceDiv, Nat.reduceMod, Nat.zero_ne_one, implies_true, false_implies, Nat.div_one, kvSorted_kvPut,
      List.length_modify, List.length_map, List.length_set, List.length_mapIdx]

theorem postEscalated_view {k} (hk : k &&& 16775167 = k) (a0 a1 s) : (postEscalated a0 a1 s).view k = s.view k := by
  refine view_le hk ?_
  unfold postEscalated
  simp only [postLoop_view, postWord_view, view_upd, fixed_mk, fixed_eta, apply_ite (State.view _), ite_self, Nat.reduceAnd,
      Nat.reduceDiv, Nat.reduceMod, Nat.zero_ne_one, implies_true, false_implies, Nat.div_one, kvSorted_kvPut,
      List.length_modify, List.length_map, List.length_set, List.length_mapIdx]

theorem withdrawFor_view {k} (hk : k &&& 16775167 = k) (a0 a1 a2 s) : (withdrawFor a0 a1 a2 s).view k = s.view k := by
  refine view_le hk ?_
  unfold withdrawFor
  simp only [withdrawLoop_view, withdrawWord_view, view_upd, fixed_mk, fixed_eta, apply_ite (State.view _), ite_self,
      Nat.reduceAnd, Nat.reduceDiv, Nat.reduceMod, Nat.zero_ne_one, implies_true, false_implies, Nat.div_one, kvSorted_kvPut,
      List.length_modify, List.length_map, List.length_set, List.length_mapIdx]

theorem protect_view {k} (hk : k &&& 15446148 = k) (a0 a1 a2 a3 s) : (protect a0 a1 a2 a3 s).view k = s.view k := by
  refine view_le hk ?_
  unfold protect
  simp only [postFor_view, enterSafe_view, shutdown_view, view_upd, fixed_mk, fixed_eta, apply_ite (State.view _), ite_self,
      Nat.reduceAnd, Nat.reduceDiv, Nat.reduceMod, Nat.zero_ne_one, implies_true, false_implies, Nat.div_one, kvSorted_kvPut,
      List.length_modify, List.length_map, List.length_set, List.length_mapIdx]

theorem protectEscalated_view {k} (hk : k &&& 15446148 = k) (a0 a1 a2 s) : (protectEscalated a0 a1 a2 s).view k = s.view k := by
  refine view_le hk ?_
  unfold protectEscalated
  simp only [postEscalated_view, enterSafe_view, shutdown_view, view_upd, fixed_mk, fixed_eta, apply_ite (State.view _),
      ite_self, Nat.reduceAnd, Nat.reduceDiv, Nat.reduceMod, Nat.zero_ne_one, implies_true, false_implies, Nat.div_one,
      kvSorted_kvPut, List.length_modify, List.length_map, List.length_set, List.length_mapIdx]

theorem notify_view {k} (hk : k &&& 15466492 = k) (a0 s) : (notify a0 s).view k = s.view k := by
  refine view_le hk ?_
  unfold notify
  simp only [assertIrq_view, assertNmi_view, view_upd, fixed_mk, fixed_eta, apply_ite (State.view _), ite_self,
      Nat.reduceAnd, Nat.reduceDiv, Nat.reduceMod, Nat.zero_ne_one, implies_true, false_implies, Nat.div_one, kvSorted_kvPut,
      List.length_modify, List.length_map, List.length_set, List.length_mapIdx]

theorem firstFault_view {k} (hk : k &&& 15466428 = k) (a0 a1 a2 a3 a4 a5 s) : (firstFault a0 a1 a2 a3 a4 a5 s).view k =
    s.view k := by
  refine view_le hk ?_
  unfold firstFault
  simp only [State.updCtx_view, faultEvent_view, notify_view, retain_view, view_upd, fixed_mk, fixed_eta, apply_ite
      (State.view _), ite_self, Nat.reduceAnd, Nat.reduceDiv, Nat.reduceMod, Nat.zero_ne_one, implies_true, false_implies,
      Nat.div_one, kvSorted_kvPut, List.length_modify, List.length_map, List.length_set, List.length_mapIdx]

theorem secondFault_view {k} (hk : k &&& 15446148 = k) (a0 a1 a2 a3 a4 a5 a6 s) : (secondFault a0 a1 a2 a3 a4 a5 a6 s).view
    k = s.view k := by
  refine view_le hk ?_
  unfold secondFault
  simp only [protectEscalated_view, State.updCtx_view, State.bump32_view, faultEvent_view, notify_view, retain_view,
      markRailFlt_view, view_upd, fixed_mk, fixed_eta, apply_ite (State.view _), ite_self, Nat.reduceAnd, Nat.reduceDiv,
      Nat.reduceMod, Nat.zero_ne_one, implies_true, false_implies, Nat.div_one, kvSorted_kvPut, List.length_modify,
      List.length_map, List.length_set, List.length_mapIdx]

theorem raiseFault_view {k} (hk : k &&& 15446148 = k) (a0 a1 a2 a3 a4 a5 s) : (raiseFault a0 a1 a2 a3 a4 a5 s).view k =
    s.view k := by
  refine view_le hk ?_
  unfold raiseFault
  grind [view_upd, fixed_mk, fixed_eta, List.length_modify, markRailFlt_view, faultEvent_view, protect_view, updAccr_view,
      firstFault_view, secondFault_view]

theorem enterAll_view {k} (hk : k &&& 16777151 = k) (a0 s) : (enterAll a0 s).view k = s.view k := by
  refine view_le hk ?_
  unfold enterAll
  simp (disch := (intros; first | done | (simp only [State.updCtx_view, view_upd, fixed_mk, fixed_eta, apply_ite (State.view _), ite_self, Nat.reduceAnd, Nat.reduceDiv, Nat.reduceMod, Nat.zero_ne_one, implies_true, false_implies, Nat.div_one, kvSorted_kvPut, List.length_modify, List.length_map, List.length_set, List.length_mapIdx]; done) | ((repeat' split) <;> simp only [State.updCtx_view, view_upd, fixed_mk, fixed_eta, apply_ite (State.view _), ite_self, Nat.reduceAnd, Nat.reduceDiv, Nat.reduceMod, Nat.zero_ne_one, implies_true, false_implies, Nat.div_one, kvSorted_kvPut, List.length_modify, List.length_map, List.length_set, List.length_mapIdx]; done) | grind [view_upd, fixed_mk, fixed_eta, List.length_modify, State.updCtx_view])) only [State.updCtx_view, view_upd, fixed_mk, fixed_eta, apply_ite (State.view _), ite_self, Nat.reduceAnd, Nat.reduceDiv, Nat.reduceMod, Nat.zero_ne_one, implies_true, false_implies, Nat.div_one, kvSorted_kvPut, List.length_modify, List.length_map, List.length_set, List.length_mapIdx, forEach_view, foldl_view]

theorem clearFault_view {k} (hk : k &&& 16775101 = k) (a0 a1 a2 s) : (clearFault a0 a1 a2 s).view k = s.view k := by
  refine view_le hk ?_
  unfold clearFault
  simp only [updAccr_view, endFault_view, withdrawFor_view, view_upd, fixed_mk, fixed_eta, apply_ite (State.view _),
      ite_self, Nat.reduceAnd, Nat.reduceDiv, Nat.reduceMod, Nat.zero_ne_one, implies_true, false_implies, Nat.div_one,
      kvSorted_kvPut, List.length_modify, List.length_map, List.length_set, List.length_mapIdx]

end Sys2Proof.Machine
end

