-- ==== Sys2Proof/Laws/Ops.lean ====
section
/-! SUPPORT. What the named operations keep and what they do to the always-on island: one lemma per unit and operation. -/

namespace Sys2Proof.Machine

open Sys2Proof

/-! A unit that a mask keeps is the same. -/

theorem view_aon {k : Nat} {s t : State} (h : t.view k = s.view k) (hk : k / 1 % 2 = 1) : t.aon = s.aon := by
  have e : part k 1 t.aon = part k 1 s.aon := congrArg View.aon h
  unfold part at e
  rw [if_pos hk, if_pos hk] at e
  exact Option.some.inj e

theorem view_obj {k : Nat} {s t : State} (h : t.view k = s.view k) (hk : k / 2 % 2 = 1) : t.obj = s.obj := by
  have e : part k 2 t.obj = part k 2 s.obj := congrArg View.obj h
  unfold part at e
  rw [if_pos hk, if_pos hk] at e
  exact Option.some.inj e

theorem view_cl {k : Nat} {s t : State} (h : t.view k = s.view k) (hk : k / 4 % 2 = 1) : t.cl = s.cl := by
  have e : part k 4 t.cl = part k 4 s.cl := congrArg View.cl h
  unfold part at e
  rw [if_pos hk, if_pos hk] at e
  exact Option.some.inj e

theorem view_chain {k : Nat} {s t : State} (h : t.view k = s.view k) (hk : k / 8 % 2 = 1) : t.chain = s.chain := by
  have e : part k 8 t.chain = part k 8 s.chain := congrArg View.chain h
  unfold part at e
  rw [if_pos hk, if_pos hk] at e
  exact Option.some.inj e

theorem view_rails {k : Nat} {s t : State} (h : t.view k = s.view k) (hk : k / 16 % 2 = 1) : t.rails = s.rails := by
  have e : part k 16 t.rails = part k 16 s.rails := congrArg View.rails h
  unfold part at e
  rw [if_pos hk, if_pos hk] at e
  exact Option.some.inj e

theorem view_phases {k : Nat} {s t : State} (h : t.view k = s.view k) (hk : k / 32 % 2 = 1) : t.phases = s.phases := by
  have e : part k 32 t.phases = part k 32 s.phases := congrArg View.phases h
  unfold part at e
  rw [if_pos hk, if_pos hk] at e
  exact Option.some.inj e

theorem view_prot {k : Nat} {s t : State} (h : t.view k = s.view k) (hk : k / 64 % 2 = 1) : t.prot = s.prot := by
  have e : part k 64 t.prot = part k 64 s.prot := congrArg View.prot h
  unfold part at e
  rw [if_pos hk, if_pos hk] at e
  exact Option.some.inj e

theorem view_ff {k : Nat} {s t : State} (h : t.view k = s.view k) (hk : k / 128 % 2 = 1) : t.ff = s.ff := by
  have e : part k 128 t.ff = part k 128 s.ff := congrArg View.ff h
  unfold part at e
  rw [if_pos hk, if_pos hk] at e
  exact Option.some.inj e

theorem view_regions {k : Nat} {s t : State} (h : t.view k = s.view k) (hk : k / 256 % 2 = 1) : t.regions = s.regions := by
  have e : part k 256 t.regions = part k 256 s.regions := congrArg View.regions h
  unfold part at e
  rw [if_pos hk, if_pos hk] at e
  exact Option.some.inj e

theorem view_shim {k : Nat} {s t : State} (h : t.view k = s.view k) (hk : k / 512 % 2 = 1) : t.shim = s.shim := by
  have e : part k 512 t.shim = part k 512 s.shim := congrArg View.shim h
  unfold part at e
  rw [if_pos hk, if_pos hk] at e
  exact Option.some.inj e

theorem view_clk {k : Nat} {s t : State} (h : t.view k = s.view k) (hk : k / 1024 % 2 = 1) : t.clk = s.clk := by
  have e : part k 1024 t.clk = part k 1024 s.clk := congrArg View.clk h
  unfold part at e
  rw [if_pos hk, if_pos hk] at e
  exact Option.some.inj e

theorem view_cap {k : Nat} {s t : State} (h : t.view k = s.view k) (hk : k / 2048 % 2 = 1) : t.cap = s.cap := by
  have e : part k 2048 t.cap = part k 2048 s.cap := congrArg View.cap h
  unfold part at e
  rw [if_pos hk, if_pos hk] at e
  exact Option.some.inj e

theorem view_cla {k : Nat} {s t : State} (h : t.view k = s.view k) (hk : k / 4096 % 2 = 1) : t.cla = s.cla := by
  have e : part k 4096 t.cla = part k 4096 s.cla := congrArg View.cla h
  unfold part at e
  rw [if_pos hk, if_pos hk] at e
  exact Option.some.inj e

theorem view_dove {k : Nat} {s t : State} (h : t.view k = s.view k) (hk : k / 8192 % 2 = 1) : t.dove = s.dove := by
  have e : part k 8192 t.dove = part k 8192 s.dove := congrArg View.dove h
  unfold part at e
  rw [if_pos hk, if_pos hk] at e
  exact Option.some.inj e

theorem view_therm {k : Nat} {s t : State} (h : t.view k = s.view k) (hk : k / 16384 % 2 = 1) : t.therm = s.therm := by
  have e : part k 16384 t.therm = part k 16384 s.therm := congrArg View.therm h
  unfold part at e
  rw [if_pos hk, if_pos hk] at e
  exact Option.some.inj e

theorem view_dowel {k : Nat} {s t : State} (h : t.view k = s.view k) (hk : k / 32768 % 2 = 1) : t.dowel = s.dowel := by
  have e : part k 32768 t.dowel = part k 32768 s.dowel := congrArg View.dowel h
  unfold part at e
  rw [if_pos hk, if_pos hk] at e
  exact Option.some.inj e

theorem view_sync {k : Nat} {s t : State} (h : t.view k = s.view k) (hk : k / 65536 % 2 = 1) : t.sync = s.sync := by
  have e : part k 65536 t.sync = part k 65536 s.sync := congrArg View.sync h
  unfold part at e
  rw [if_pos hk, if_pos hk] at e
  exact Option.some.inj e

theorem view_dma {k : Nat} {s t : State} (h : t.view k = s.view k) (hk : k / 131072 % 2 = 1) : t.dma = s.dma := by
  have e : part k 131072 t.dma = part k 131072 s.dma := congrArg View.dma h
  unfold part at e
  rw [if_pos hk, if_pos hk] at e
  exact Option.some.inj e

theorem view_rcd {k : Nat} {s t : State} (h : t.view k = s.view k) (hk : k / 262144 % 2 = 1) : t.rcd = s.rcd := by
  have e : part k 262144 t.rcd = part k 262144 s.rcd := congrArg View.rcd h
  unfold part at e
  rw [if_pos hk, if_pos hk] at e
  exact Option.some.inj e

theorem view_flash {k : Nat} {s t : State} (h : t.view k = s.view k) (hk : k / 524288 % 2 = 1) : t.flash = s.flash := by
  have e : part k 524288 t.flash = part k 524288 s.flash := congrArg View.flash h
  unfold part at e
  rw [if_pos hk, if_pos hk] at e
  exact Option.some.inj e

theorem view_obs {k : Nat} {s t : State} (h : t.view k = s.view k) (hk : k / 1048576 % 2 = 1) : t.obs = s.obs := by
  have e : part k 1048576 t.obs = part k 1048576 s.obs := congrArg View.obs h
  unfold part at e
  rw [if_pos hk, if_pos hk] at e
  exact Option.some.inj e

theorem view_mgt {k : Nat} {s t : State} (h : t.view k = s.view k) (hk : k / 2097152 % 2 = 1) : t.mgt = s.mgt := by
  have e : part k 2097152 t.mgt = part k 2097152 s.mgt := congrArg View.mgt h
  unfold part at e
  rw [if_pos hk, if_pos hk] at e
  exact Option.some.inj e

theorem view_host {k : Nat} {s t : State} (h : t.view k = s.view k) (hk : k / 4194304 % 2 = 1) : t.host = s.host := by
  have e : part k 4194304 t.host = part k 4194304 s.host := congrArg View.host h
  unfold part at e
  rw [if_pos hk, if_pos hk] at e
  exact Option.some.inj e

theorem view_free {k : Nat} {s t : State} (h : t.view k = s.view k) (hk : k / 8388608 % 2 = 1) : t.free = s.free := by
  have e : part k 8388608 t.free = part k 8388608 s.free := congrArg View.free h
  unfold part at e
  rw [if_pos hk, if_pos hk] at e
  exact Option.some.inj e

theorem view_pending {k : Nat} {s t : State} (h : t.view k = s.view k) : t.pending = s.pending := congrArg Prod.fst (view_fixed h)

theorem view_inst {k : Nat} {s t : State} (h : t.view k = s.view k) : t.inst = s.inst :=
  congrArg (fun x => x.2.1) (view_fixed h)

/-! The units that the named operations keep. -/

@[simp] theorem captureEvent_cl (e : Event) (s : State) : (captureEvent e s).cl = s.cl := view_cl (captureEvent_view (k := 16515068) (by decide) e s) (by decide)

@[simp] theorem captureEvent_chain (e : Event) (s : State) : (captureEvent e s).chain = s.chain := view_chain (captureEvent_view (k := 16515068) (by decide) e s) (by decide)

@[simp] theorem captureEvent_rails (e : Event) (s : State) : (captureEvent e s).rails = s.rails := view_rails (captureEvent_view (k := 16515068) (by decide) e s) (by decide)

@[simp] theorem captureEvent_phases (e : Event) (s : State) : (captureEvent e s).phases = s.phases := view_phases (captureEvent_view (k := 16515068) (by decide) e s) (by decide)

@[simp] theorem captureEvent_prot (e : Event) (s : State) : (captureEvent e s).prot = s.prot := view_prot (captureEvent_view (k := 16515068) (by decide) e s) (by decide)

@[simp] theorem captureEvent_ff (e : Event) (s : State) : (captureEvent e s).ff = s.ff := view_ff (captureEvent_view (k := 16515068) (by decide) e s) (by decide)

@[simp] theorem captureEvent_regions (e : Event) (s : State) : (captureEvent e s).regions = s.regions := view_regions (captureEvent_view (k := 16515068) (by decide) e s) (by decide)

@[simp] theorem captureEvent_shim (e : Event) (s : State) : (captureEvent e s).shim = s.shim := view_shim (captureEvent_view (k := 16515068) (by decide) e s) (by decide)

@[simp] theorem captureEvent_clk (e : Event) (s : State) : (captureEvent e s).clk = s.clk := view_clk (captureEvent_view (k := 16515068) (by decide) e s) (by decide)

@[simp] theorem captureEvent_cap (e : Event) (s : State) : (captureEvent e s).cap = s.cap := view_cap (captureEvent_view (k := 16515068) (by decide) e s) (by decide)

@[simp] theorem captureEvent_cla (e : Event) (s : State) : (captureEvent e s).cla = s.cla := view_cla (captureEvent_view (k := 16515068) (by decide) e s) (by decide)

@[simp] theorem captureEvent_dove (e : Event) (s : State) : (captureEvent e s).dove = s.dove := view_dove (captureEvent_view (k := 16515068) (by decide) e s) (by decide)

@[simp] theorem captureEvent_therm (e : Event) (s : State) : (captureEvent e s).therm = s.therm := view_therm (captureEvent_view (k := 16515068) (by decide) e s) (by decide)

@[simp] theorem captureEvent_dowel (e : Event) (s : State) : (captureEvent e s).dowel = s.dowel := view_dowel (captureEvent_view (k := 16515068) (by decide) e s) (by decide)

@[simp] theorem captureEvent_sync (e : Event) (s : State) : (captureEvent e s).sync = s.sync := view_sync (captureEvent_view (k := 16515068) (by decide) e s) (by decide)

@[simp] theorem captureEvent_dma (e : Event) (s : State) : (captureEvent e s).dma = s.dma := view_dma (captureEvent_view (k := 16515068) (by decide) e s) (by decide)

@[simp] theorem captureEvent_flash (e : Event) (s : State) : (captureEvent e s).flash = s.flash := view_flash (captureEvent_view (k := 16515068) (by decide) e s) (by decide)

@[simp] theorem captureEvent_obs (e : Event) (s : State) : (captureEvent e s).obs = s.obs := view_obs (captureEvent_view (k := 16515068) (by decide) e s) (by decide)

@[simp] theorem captureEvent_mgt (e : Event) (s : State) : (captureEvent e s).mgt = s.mgt := view_mgt (captureEvent_view (k := 16515068) (by decide) e s) (by decide)

@[simp] theorem captureEvent_host (e : Event) (s : State) : (captureEvent e s).host = s.host := view_host (captureEvent_view (k := 16515068) (by decide) e s) (by decide)

@[simp] theorem captureEvent_free (e : Event) (s : State) : (captureEvent e s).free = s.free := view_free (captureEvent_view (k := 16515068) (by decide) e s) (by decide)

@[simp] theorem captureEvent_pending (e : Event) (s : State) : (captureEvent e s).pending = s.pending := view_pending (captureEvent_view (k := 16515068) (by decide) e s)

@[simp] theorem captureEvent_inst (e : Event) (s : State) : (captureEvent e s).inst = s.inst := view_inst (captureEvent_view (k := 16515068) (by decide) e s)

@[simp] theorem raise_cl (c v a b : Nat) (s : State) : (raise c v a b s).cl = s.cl := view_cl (raise_view (k := 16515068) (by decide) c v a b s) (by decide)

@[simp] theorem raise_chain (c v a b : Nat) (s : State) : (raise c v a b s).chain = s.chain := view_chain (raise_view (k := 16515068) (by decide) c v a b s) (by decide)

@[simp] theorem raise_rails (c v a b : Nat) (s : State) : (raise c v a b s).rails = s.rails := view_rails (raise_view (k := 16515068) (by decide) c v a b s) (by decide)

@[simp] theorem raise_phases (c v a b : Nat) (s : State) : (raise c v a b s).phases = s.phases := view_phases (raise_view (k := 16515068) (by decide) c v a b s) (by decide)

@[simp] theorem raise_prot (c v a b : Nat) (s : State) : (raise c v a b s).prot = s.prot := view_prot (raise_view (k := 16515068) (by decide) c v a b s) (by decide)

@[simp] theorem raise_ff (c v a b : Nat) (s : State) : (raise c v a b s).ff = s.ff := view_ff (raise_view (k := 16515068) (by decide) c v a b s) (by decide)

@[simp] theorem raise_regions (c v a b : Nat) (s : State) : (raise c v a b s).regions = s.regions := view_regions (raise_view (k := 16515068) (by decide) c v a b s) (by decide)

@[simp] theorem raise_shim (c v a b : Nat) (s : State) : (raise c v a b s).shim = s.shim := view_shim (raise_view (k := 16515068) (by decide) c v a b s) (by decide)

@[simp] theorem raise_clk (c v a b : Nat) (s : State) : (raise c v a b s).clk = s.clk := view_clk (raise_view (k := 16515068) (by decide) c v a b s) (by decide)

@[simp] theorem raise_cap (c v a b : Nat) (s : State) : (raise c v a b s).cap = s.cap := view_cap (raise_view (k := 16515068) (by decide) c v a b s) (by decide)

@[simp] theorem raise_cla (c v a b : Nat) (s : State) : (raise c v a b s).cla = s.cla := view_cla (raise_view (k := 16515068) (by decide) c v a b s) (by decide)

@[simp] theorem raise_dove (c v a b : Nat) (s : State) : (raise c v a b s).dove = s.dove := view_dove (raise_view (k := 16515068) (by decide) c v a b s) (by decide)

@[simp] theorem raise_therm (c v a b : Nat) (s : State) : (raise c v a b s).therm = s.therm := view_therm (raise_view (k := 16515068) (by decide) c v a b s) (by decide)

@[simp] theorem raise_dowel (c v a b : Nat) (s : State) : (raise c v a b s).dowel = s.dowel := view_dowel (raise_view (k := 16515068) (by decide) c v a b s) (by decide)

@[simp] theorem raise_sync (c v a b : Nat) (s : State) : (raise c v a b s).sync = s.sync := view_sync (raise_view (k := 16515068) (by decide) c v a b s) (by decide)

@[simp] theorem raise_dma (c v a b : Nat) (s : State) : (raise c v a b s).dma = s.dma := view_dma (raise_view (k := 16515068) (by decide) c v a b s) (by decide)

@[simp] theorem raise_flash (c v a b : Nat) (s : State) : (raise c v a b s).flash = s.flash := view_flash (raise_view (k := 16515068) (by decide) c v a b s) (by decide)

@[simp] theorem raise_obs (c v a b : Nat) (s : State) : (raise c v a b s).obs = s.obs := view_obs (raise_view (k := 16515068) (by decide) c v a b s) (by decide)

@[simp] theorem raise_mgt (c v a b : Nat) (s : State) : (raise c v a b s).mgt = s.mgt := view_mgt (raise_view (k := 16515068) (by decide) c v a b s) (by decide)

@[simp] theorem raise_host (c v a b : Nat) (s : State) : (raise c v a b s).host = s.host := view_host (raise_view (k := 16515068) (by decide) c v a b s) (by decide)

@[simp] theorem raise_free (c v a b : Nat) (s : State) : (raise c v a b s).free = s.free := view_free (raise_view (k := 16515068) (by decide) c v a b s) (by decide)

@[simp] theorem raise_pending (c v a b : Nat) (s : State) : (raise c v a b s).pending = s.pending := view_pending (raise_view (k := 16515068) (by decide) c v a b s)

@[simp] theorem raise_inst (c v a b : Nat) (s : State) : (raise c v a b s).inst = s.inst := view_inst (raise_view (k := 16515068) (by decide) c v a b s)

@[simp] theorem raiseP_cl (c v p a b : Nat) (s : State) : (raiseP c v p a b s).cl = s.cl := view_cl (raiseP_view (k := 16515068) (by decide) c v p a b s) (by decide)

@[simp] theorem raiseP_chain (c v p a b : Nat) (s : State) : (raiseP c v p a b s).chain = s.chain := view_chain (raiseP_view (k := 16515068) (by decide) c v p a b s) (by decide)

@[simp] theorem raiseP_rails (c v p a b : Nat) (s : State) : (raiseP c v p a b s).rails = s.rails := view_rails (raiseP_view (k := 16515068) (by decide) c v p a b s) (by decide)

@[simp] theorem raiseP_phases (c v p a b : Nat) (s : State) : (raiseP c v p a b s).phases = s.phases := view_phases (raiseP_view (k := 16515068) (by decide) c v p a b s) (by decide)

@[simp] theorem raiseP_prot (c v p a b : Nat) (s : State) : (raiseP c v p a b s).prot = s.prot := view_prot (raiseP_view (k := 16515068) (by decide) c v p a b s) (by decide)

@[simp] theorem raiseP_ff (c v p a b : Nat) (s : State) : (raiseP c v p a b s).ff = s.ff := view_ff (raiseP_view (k := 16515068) (by decide) c v p a b s) (by decide)

@[simp] theorem raiseP_regions (c v p a b : Nat) (s : State) : (raiseP c v p a b s).regions = s.regions := view_regions (raiseP_view (k := 16515068) (by decide) c v p a b s) (by decide)

@[simp] theorem raiseP_shim (c v p a b : Nat) (s : State) : (raiseP c v p a b s).shim = s.shim := view_shim (raiseP_view (k := 16515068) (by decide) c v p a b s) (by decide)

@[simp] theorem raiseP_clk (c v p a b : Nat) (s : State) : (raiseP c v p a b s).clk = s.clk := view_clk (raiseP_view (k := 16515068) (by decide) c v p a b s) (by decide)

@[simp] theorem raiseP_cap (c v p a b : Nat) (s : State) : (raiseP c v p a b s).cap = s.cap := view_cap (raiseP_view (k := 16515068) (by decide) c v p a b s) (by decide)

@[simp] theorem raiseP_cla (c v p a b : Nat) (s : State) : (raiseP c v p a b s).cla = s.cla := view_cla (raiseP_view (k := 16515068) (by decide) c v p a b s) (by decide)

@[simp] theorem raiseP_dove (c v p a b : Nat) (s : State) : (raiseP c v p a b s).dove = s.dove := view_dove (raiseP_view (k := 16515068) (by decide) c v p a b s) (by decide)

@[simp] theorem raiseP_therm (c v p a b : Nat) (s : State) : (raiseP c v p a b s).therm = s.therm := view_therm (raiseP_view (k := 16515068) (by decide) c v p a b s) (by decide)

@[simp] theorem raiseP_dowel (c v p a b : Nat) (s : State) : (raiseP c v p a b s).dowel = s.dowel := view_dowel (raiseP_view (k := 16515068) (by decide) c v p a b s) (by decide)

@[simp] theorem raiseP_sync (c v p a b : Nat) (s : State) : (raiseP c v p a b s).sync = s.sync := view_sync (raiseP_view (k := 16515068) (by decide) c v p a b s) (by decide)

@[simp] theorem raiseP_dma (c v p a b : Nat) (s : State) : (raiseP c v p a b s).dma = s.dma := view_dma (raiseP_view (k := 16515068) (by decide) c v p a b s) (by decide)

@[simp] theorem raiseP_flash (c v p a b : Nat) (s : State) : (raiseP c v p a b s).flash = s.flash := view_flash (raiseP_view (k := 16515068) (by decide) c v p a b s) (by decide)

@[simp] theorem raiseP_obs (c v p a b : Nat) (s : State) : (raiseP c v p a b s).obs = s.obs := view_obs (raiseP_view (k := 16515068) (by decide) c v p a b s) (by decide)

@[simp] theorem raiseP_mgt (c v p a b : Nat) (s : State) : (raiseP c v p a b s).mgt = s.mgt := view_mgt (raiseP_view (k := 16515068) (by decide) c v p a b s) (by decide)

@[simp] theorem raiseP_host (c v p a b : Nat) (s : State) : (raiseP c v p a b s).host = s.host := view_host (raiseP_view (k := 16515068) (by decide) c v p a b s) (by decide)

@[simp] theorem raiseP_free (c v p a b : Nat) (s : State) : (raiseP c v p a b s).free = s.free := view_free (raiseP_view (k := 16515068) (by decide) c v p a b s) (by decide)

@[simp] theorem raiseP_pending (c v p a b : Nat) (s : State) : (raiseP c v p a b s).pending = s.pending := view_pending (raiseP_view (k := 16515068) (by decide) c v p a b s)

@[simp] theorem raiseP_inst (c v p a b : Nat) (s : State) : (raiseP c v p a b s).inst = s.inst := view_inst (raiseP_view (k := 16515068) (by decide) c v p a b s)

@[simp] theorem setReady_cl (f : Nat) (s : State) : (setReady f s).cl = s.cl := view_cl (setReady_view (k := 16515068) (by decide) f s) (by decide)

@[simp] theorem setReady_chain (f : Nat) (s : State) : (setReady f s).chain = s.chain := view_chain (setReady_view (k := 16515068) (by decide) f s) (by decide)

@[simp] theorem setReady_rails (f : Nat) (s : State) : (setReady f s).rails = s.rails := view_rails (setReady_view (k := 16515068) (by decide) f s) (by decide)

@[simp] theorem setReady_phases (f : Nat) (s : State) : (setReady f s).phases = s.phases := view_phases (setReady_view (k := 16515068) (by decide) f s) (by decide)

@[simp] theorem setReady_prot (f : Nat) (s : State) : (setReady f s).prot = s.prot := view_prot (setReady_view (k := 16515068) (by decide) f s) (by decide)

@[simp] theorem setReady_ff (f : Nat) (s : State) : (setReady f s).ff = s.ff := view_ff (setReady_view (k := 16515068) (by decide) f s) (by decide)

@[simp] theorem setReady_regions (f : Nat) (s : State) : (setReady f s).regions = s.regions := view_regions (setReady_view (k := 16515068) (by decide) f s) (by decide)

@[simp] theorem setReady_shim (f : Nat) (s : State) : (setReady f s).shim = s.shim := view_shim (setReady_view (k := 16515068) (by decide) f s) (by decide)

@[simp] theorem setReady_clk (f : Nat) (s : State) : (setReady f s).clk = s.clk := view_clk (setReady_view (k := 16515068) (by decide) f s) (by decide)

@[simp] theorem setReady_cap (f : Nat) (s : State) : (setReady f s).cap = s.cap := view_cap (setReady_view (k := 16515068) (by decide) f s) (by decide)

@[simp] theorem setReady_cla (f : Nat) (s : State) : (setReady f s).cla = s.cla := view_cla (setReady_view (k := 16515068) (by decide) f s) (by decide)

@[simp] theorem setReady_dove (f : Nat) (s : State) : (setReady f s).dove = s.dove := view_dove (setReady_view (k := 16515068) (by decide) f s) (by decide)

@[simp] theorem setReady_therm (f : Nat) (s : State) : (setReady f s).therm = s.therm := view_therm (setReady_view (k := 16515068) (by decide) f s) (by decide)

@[simp] theorem setReady_dowel (f : Nat) (s : State) : (setReady f s).dowel = s.dowel := view_dowel (setReady_view (k := 16515068) (by decide) f s) (by decide)

@[simp] theorem setReady_sync (f : Nat) (s : State) : (setReady f s).sync = s.sync := view_sync (setReady_view (k := 16515068) (by decide) f s) (by decide)

@[simp] theorem setReady_dma (f : Nat) (s : State) : (setReady f s).dma = s.dma := view_dma (setReady_view (k := 16515068) (by decide) f s) (by decide)

@[simp] theorem setReady_flash (f : Nat) (s : State) : (setReady f s).flash = s.flash := view_flash (setReady_view (k := 16515068) (by decide) f s) (by decide)

@[simp] theorem setReady_obs (f : Nat) (s : State) : (setReady f s).obs = s.obs := view_obs (setReady_view (k := 16515068) (by decide) f s) (by decide)

@[simp] theorem setReady_mgt (f : Nat) (s : State) : (setReady f s).mgt = s.mgt := view_mgt (setReady_view (k := 16515068) (by decide) f s) (by decide)

@[simp] theorem setReady_host (f : Nat) (s : State) : (setReady f s).host = s.host := view_host (setReady_view (k := 16515068) (by decide) f s) (by decide)

@[simp] theorem setReady_free (f : Nat) (s : State) : (setReady f s).free = s.free := view_free (setReady_view (k := 16515068) (by decide) f s) (by decide)

@[simp] theorem setReady_pending (f : Nat) (s : State) : (setReady f s).pending = s.pending := view_pending (setReady_view (k := 16515068) (by decide) f s)

@[simp] theorem setReady_inst (f : Nat) (s : State) : (setReady f s).inst = s.inst := view_inst (setReady_view (k := 16515068) (by decide) f s)

@[simp] theorem clearReady_cl (f : Nat) (s : State) : (clearReady f s).cl = s.cl := view_cl (clearReady_view (k := 16515068) (by decide) f s) (by decide)

@[simp] theorem clearReady_chain (f : Nat) (s : State) : (clearReady f s).chain = s.chain := view_chain (clearReady_view (k := 16515068) (by decide) f s) (by decide)

@[simp] theorem clearReady_rails (f : Nat) (s : State) : (clearReady f s).rails = s.rails := view_rails (clearReady_view (k := 16515068) (by decide) f s) (by decide)

@[simp] theorem clearReady_phases (f : Nat) (s : State) : (clearReady f s).phases = s.phases := view_phases (clearReady_view (k := 16515068) (by decide) f s) (by decide)

@[simp] theorem clearReady_prot (f : Nat) (s : State) : (clearReady f s).prot = s.prot := view_prot (clearReady_view (k := 16515068) (by decide) f s) (by decide)

@[simp] theorem clearReady_ff (f : Nat) (s : State) : (clearReady f s).ff = s.ff := view_ff (clearReady_view (k := 16515068) (by decide) f s) (by decide)

@[simp] theorem clearReady_regions (f : Nat) (s : State) : (clearReady f s).regions = s.regions := view_regions (clearReady_view (k := 16515068) (by decide) f s) (by decide)

@[simp] theorem clearReady_shim (f : Nat) (s : State) : (clearReady f s).shim = s.shim := view_shim (clearReady_view (k := 16515068) (by decide) f s) (by decide)

@[simp] theorem clearReady_clk (f : Nat) (s : State) : (clearReady f s).clk = s.clk := view_clk (clearReady_view (k := 16515068) (by decide) f s) (by decide)

@[simp] theorem clearReady_cap (f : Nat) (s : State) : (clearReady f s).cap = s.cap := view_cap (clearReady_view (k := 16515068) (by decide) f s) (by decide)

@[simp] theorem clearReady_cla (f : Nat) (s : State) : (clearReady f s).cla = s.cla := view_cla (clearReady_view (k := 16515068) (by decide) f s) (by decide)

@[simp] theorem clearReady_dove (f : Nat) (s : State) : (clearReady f s).dove = s.dove := view_dove (clearReady_view (k := 16515068) (by decide) f s) (by decide)

@[simp] theorem clearReady_therm (f : Nat) (s : State) : (clearReady f s).therm = s.therm := view_therm (clearReady_view (k := 16515068) (by decide) f s) (by decide)

@[simp] theorem clearReady_dowel (f : Nat) (s : State) : (clearReady f s).dowel = s.dowel := view_dowel (clearReady_view (k := 16515068) (by decide) f s) (by decide)

@[simp] theorem clearReady_sync (f : Nat) (s : State) : (clearReady f s).sync = s.sync := view_sync (clearReady_view (k := 16515068) (by decide) f s) (by decide)

@[simp] theorem clearReady_dma (f : Nat) (s : State) : (clearReady f s).dma = s.dma := view_dma (clearReady_view (k := 16515068) (by decide) f s) (by decide)

@[simp] theorem clearReady_flash (f : Nat) (s : State) : (clearReady f s).flash = s.flash := view_flash (clearReady_view (k := 16515068) (by decide) f s) (by decide)

@[simp] theorem clearReady_obs (f : Nat) (s : State) : (clearReady f s).obs = s.obs := view_obs (clearReady_view (k := 16515068) (by decide) f s) (by decide)

@[simp] theorem clearReady_mgt (f : Nat) (s : State) : (clearReady f s).mgt = s.mgt := view_mgt (clearReady_view (k := 16515068) (by decide) f s) (by decide)

@[simp] theorem clearReady_host (f : Nat) (s : State) : (clearReady f s).host = s.host := view_host (clearReady_view (k := 16515068) (by decide) f s) (by decide)

@[simp] theorem clearReady_free (f : Nat) (s : State) : (clearReady f s).free = s.free := view_free (clearReady_view (k := 16515068) (by decide) f s) (by decide)

@[simp] theorem clearReady_pending (f : Nat) (s : State) : (clearReady f s).pending = s.pending := view_pending (clearReady_view (k := 16515068) (by decide) f s)

@[simp] theorem clearReady_inst (f : Nat) (s : State) : (clearReady f s).inst = s.inst := view_inst (clearReady_view (k := 16515068) (by decide) f s)

@[simp] theorem elapse_cl (d : Nat) (s : State) : (elapse d s).cl = s.cl := view_cl (elapse_view (k := 15463420) (by decide) d s) (by decide)

@[simp] theorem elapse_chain (d : Nat) (s : State) : (elapse d s).chain = s.chain := view_chain (elapse_view (k := 15463420) (by decide) d s) (by decide)

@[simp] theorem elapse_rails (d : Nat) (s : State) : (elapse d s).rails = s.rails := view_rails (elapse_view (k := 15463420) (by decide) d s) (by decide)

@[simp] theorem elapse_phases (d : Nat) (s : State) : (elapse d s).phases = s.phases := view_phases (elapse_view (k := 15463420) (by decide) d s) (by decide)

@[simp] theorem elapse_prot (d : Nat) (s : State) : (elapse d s).prot = s.prot := view_prot (elapse_view (k := 15463420) (by decide) d s) (by decide)

@[simp] theorem elapse_ff (d : Nat) (s : State) : (elapse d s).ff = s.ff := view_ff (elapse_view (k := 15463420) (by decide) d s) (by decide)

@[simp] theorem elapse_regions (d : Nat) (s : State) : (elapse d s).regions = s.regions := view_regions (elapse_view (k := 15463420) (by decide) d s) (by decide)

@[simp] theorem elapse_shim (d : Nat) (s : State) : (elapse d s).shim = s.shim := view_shim (elapse_view (k := 15463420) (by decide) d s) (by decide)

@[simp] theorem elapse_cla (d : Nat) (s : State) : (elapse d s).cla = s.cla := view_cla (elapse_view (k := 15463420) (by decide) d s) (by decide)

@[simp] theorem elapse_dove (d : Nat) (s : State) : (elapse d s).dove = s.dove := view_dove (elapse_view (k := 15463420) (by decide) d s) (by decide)

@[simp] theorem elapse_therm (d : Nat) (s : State) : (elapse d s).therm = s.therm := view_therm (elapse_view (k := 15463420) (by decide) d s) (by decide)

@[simp] theorem elapse_dowel (d : Nat) (s : State) : (elapse d s).dowel = s.dowel := view_dowel (elapse_view (k := 15463420) (by decide) d s) (by decide)

@[simp] theorem elapse_sync (d : Nat) (s : State) : (elapse d s).sync = s.sync := view_sync (elapse_view (k := 15463420) (by decide) d s) (by decide)

@[simp] theorem elapse_dma (d : Nat) (s : State) : (elapse d s).dma = s.dma := view_dma (elapse_view (k := 15463420) (by decide) d s) (by decide)

@[simp] theorem elapse_flash (d : Nat) (s : State) : (elapse d s).flash = s.flash := view_flash (elapse_view (k := 15463420) (by decide) d s) (by decide)

@[simp] theorem elapse_mgt (d : Nat) (s : State) : (elapse d s).mgt = s.mgt := view_mgt (elapse_view (k := 15463420) (by decide) d s) (by decide)

@[simp] theorem elapse_host (d : Nat) (s : State) : (elapse d s).host = s.host := view_host (elapse_view (k := 15463420) (by decide) d s) (by decide)

@[simp] theorem elapse_free (d : Nat) (s : State) : (elapse d s).free = s.free := view_free (elapse_view (k := 15463420) (by decide) d s) (by decide)

@[simp] theorem elapse_pending (d : Nat) (s : State) : (elapse d s).pending = s.pending := view_pending (elapse_view (k := 15463420) (by decide) d s)

@[simp] theorem elapse_inst (d : Nat) (s : State) : (elapse d s).inst = s.inst := view_inst (elapse_view (k := 15463420) (by decide) d s)

@[simp] theorem advanceTo_cl (d : Nat) (s : State) : (advanceTo d s).cl = s.cl := view_cl (advanceTo_view (k := 15463420) (by decide) d s) (by decide)

@[simp] theorem advanceTo_chain (d : Nat) (s : State) : (advanceTo d s).chain = s.chain := view_chain (advanceTo_view (k := 15463420) (by decide) d s) (by decide)

@[simp] theorem advanceTo_rails (d : Nat) (s : State) : (advanceTo d s).rails = s.rails := view_rails (advanceTo_view (k := 15463420) (by decide) d s) (by decide)

@[simp] theorem advanceTo_phases (d : Nat) (s : State) : (advanceTo d s).phases = s.phases := view_phases (advanceTo_view (k := 15463420) (by decide) d s) (by decide)

@[simp] theorem advanceTo_prot (d : Nat) (s : State) : (advanceTo d s).prot = s.prot := view_prot (advanceTo_view (k := 15463420) (by decide) d s) (by decide)

@[simp] theorem advanceTo_ff (d : Nat) (s : State) : (advanceTo d s).ff = s.ff := view_ff (advanceTo_view (k := 15463420) (by decide) d s) (by decide)

@[simp] theorem advanceTo_regions (d : Nat) (s : State) : (advanceTo d s).regions = s.regions := view_regions (advanceTo_view (k := 15463420) (by decide) d s) (by decide)

@[simp] theorem advanceTo_shim (d : Nat) (s : State) : (advanceTo d s).shim = s.shim := view_shim (advanceTo_view (k := 15463420) (by decide) d s) (by decide)

@[simp] theorem advanceTo_cla (d : Nat) (s : State) : (advanceTo d s).cla = s.cla := view_cla (advanceTo_view (k := 15463420) (by decide) d s) (by decide)

@[simp] theorem advanceTo_dove (d : Nat) (s : State) : (advanceTo d s).dove = s.dove := view_dove (advanceTo_view (k := 15463420) (by decide) d s) (by decide)

@[simp] theorem advanceTo_therm (d : Nat) (s : State) : (advanceTo d s).therm = s.therm := view_therm (advanceTo_view (k := 15463420) (by decide) d s) (by decide)

@[simp] theorem advanceTo_dowel (d : Nat) (s : State) : (advanceTo d s).dowel = s.dowel := view_dowel (advanceTo_view (k := 15463420) (by decide) d s) (by decide)

@[simp] theorem advanceTo_sync (d : Nat) (s : State) : (advanceTo d s).sync = s.sync := view_sync (advanceTo_view (k := 15463420) (by decide) d s) (by decide)

@[simp] theorem advanceTo_dma (d : Nat) (s : State) : (advanceTo d s).dma = s.dma := view_dma (advanceTo_view (k := 15463420) (by decide) d s) (by decide)

@[simp] theorem advanceTo_flash (d : Nat) (s : State) : (advanceTo d s).flash = s.flash := view_flash (advanceTo_view (k := 15463420) (by decide) d s) (by decide)

@[simp] theorem advanceTo_mgt (d : Nat) (s : State) : (advanceTo d s).mgt = s.mgt := view_mgt (advanceTo_view (k := 15463420) (by decide) d s) (by decide)

@[simp] theorem advanceTo_host (d : Nat) (s : State) : (advanceTo d s).host = s.host := view_host (advanceTo_view (k := 15463420) (by decide) d s) (by decide)

@[simp] theorem advanceTo_free (d : Nat) (s : State) : (advanceTo d s).free = s.free := view_free (advanceTo_view (k := 15463420) (by decide) d s) (by decide)

@[simp] theorem advanceTo_pending (d : Nat) (s : State) : (advanceTo d s).pending = s.pending := view_pending (advanceTo_view (k := 15463420) (by decide) d s)

@[simp] theorem advanceTo_inst (d : Nat) (s : State) : (advanceTo d s).inst = s.inst := view_inst (advanceTo_view (k := 15463420) (by decide) d s)

@[simp] theorem State.count_aon (s : State) (c d : Nat) : (State.count s c d).aon = s.aon := view_aon (State.count_view (k := 15728639) (by decide) s c d) (by decide)

@[simp] theorem State.count_obj (s : State) (c d : Nat) : (State.count s c d).obj = s.obj := view_obj (State.count_view (k := 15728639) (by decide) s c d) (by decide)

@[simp] theorem State.count_cl (s : State) (c d : Nat) : (State.count s c d).cl = s.cl := view_cl (State.count_view (k := 15728639) (by decide) s c d) (by decide)

@[simp] theorem State.count_chain (s : State) (c d : Nat) : (State.count s c d).chain = s.chain := view_chain (State.count_view (k := 15728639) (by decide) s c d) (by decide)

@[simp] theorem State.count_rails (s : State) (c d : Nat) : (State.count s c d).rails = s.rails := view_rails (State.count_view (k := 15728639) (by decide) s c d) (by decide)

@[simp] theorem State.count_phases (s : State) (c d : Nat) : (State.count s c d).phases = s.phases := view_phases (State.count_view (k := 15728639) (by decide) s c d) (by decide)

@[simp] theorem State.count_prot (s : State) (c d : Nat) : (State.count s c d).prot = s.prot := view_prot (State.count_view (k := 15728639) (by decide) s c d) (by decide)

@[simp] theorem State.count_ff (s : State) (c d : Nat) : (State.count s c d).ff = s.ff := view_ff (State.count_view (k := 15728639) (by decide) s c d) (by decide)

@[simp] theorem State.count_regions (s : State) (c d : Nat) : (State.count s c d).regions = s.regions := view_regions (State.count_view (k := 15728639) (by decide) s c d) (by decide)

@[simp] theorem State.count_shim (s : State) (c d : Nat) : (State.count s c d).shim = s.shim := view_shim (State.count_view (k := 15728639) (by decide) s c d) (by decide)

@[simp] theorem State.count_clk (s : State) (c d : Nat) : (State.count s c d).clk = s.clk := view_clk (State.count_view (k := 15728639) (by decide) s c d) (by decide)

@[simp] theorem State.count_cap (s : State) (c d : Nat) : (State.count s c d).cap = s.cap := view_cap (State.count_view (k := 15728639) (by decide) s c d) (by decide)

@[simp] theorem State.count_cla (s : State) (c d : Nat) : (State.count s c d).cla = s.cla := view_cla (State.count_view (k := 15728639) (by decide) s c d) (by decide)

@[simp] theorem State.count_dove (s : State) (c d : Nat) : (State.count s c d).dove = s.dove := view_dove (State.count_view (k := 15728639) (by decide) s c d) (by decide)

@[simp] theorem State.count_therm (s : State) (c d : Nat) : (State.count s c d).therm = s.therm := view_therm (State.count_view (k := 15728639) (by decide) s c d) (by decide)

@[simp] theorem State.count_dowel (s : State) (c d : Nat) : (State.count s c d).dowel = s.dowel := view_dowel (State.count_view (k := 15728639) (by decide) s c d) (by decide)

@[simp] theorem State.count_sync (s : State) (c d : Nat) : (State.count s c d).sync = s.sync := view_sync (State.count_view (k := 15728639) (by decide) s c d) (by decide)

@[simp] theorem State.count_dma (s : State) (c d : Nat) : (State.count s c d).dma = s.dma := view_dma (State.count_view (k := 15728639) (by decide) s c d) (by decide)

@[simp] theorem State.count_rcd (s : State) (c d : Nat) : (State.count s c d).rcd = s.rcd := view_rcd (State.count_view (k := 15728639) (by decide) s c d) (by decide)

@[simp] theorem State.count_flash (s : State) (c d : Nat) : (State.count s c d).flash = s.flash := view_flash (State.count_view (k := 15728639) (by decide) s c d) (by decide)

@[simp] theorem State.count_mgt (s : State) (c d : Nat) : (State.count s c d).mgt = s.mgt := view_mgt (State.count_view (k := 15728639) (by decide) s c d) (by decide)

@[simp] theorem State.count_host (s : State) (c d : Nat) : (State.count s c d).host = s.host := view_host (State.count_view (k := 15728639) (by decide) s c d) (by decide)

@[simp] theorem State.count_free (s : State) (c d : Nat) : (State.count s c d).free = s.free := view_free (State.count_view (k := 15728639) (by decide) s c d) (by decide)

@[simp] theorem State.count_pending (s : State) (c d : Nat) : (State.count s c d).pending = s.pending := view_pending (State.count_view (k := 15728639) (by decide) s c d)

@[simp] theorem State.count_inst (s : State) (c d : Nat) : (State.count s c d).inst = s.inst := view_inst (State.count_view (k := 15728639) (by decide) s c d)

@[simp] theorem State.countP_aon (s : State) (c p d : Nat) : (State.countP s c p d).aon = s.aon := view_aon (State.countP_view (k := 15728639) (by decide) s c p d) (by decide)

@[simp] theorem State.countP_obj (s : State) (c p d : Nat) : (State.countP s c p d).obj = s.obj := view_obj (State.countP_view (k := 15728639) (by decide) s c p d) (by decide)

@[simp] theorem State.countP_cl (s : State) (c p d : Nat) : (State.countP s c p d).cl = s.cl := view_cl (State.countP_view (k := 15728639) (by decide) s c p d) (by decide)

@[simp] theorem State.countP_chain (s : State) (c p d : Nat) : (State.countP s c p d).chain = s.chain := view_chain (State.countP_view (k := 15728639) (by decide) s c p d) (by decide)

@[simp] theorem State.countP_rails (s : State) (c p d : Nat) : (State.countP s c p d).rails = s.rails := view_rails (State.countP_view (k := 15728639) (by decide) s c p d) (by decide)

@[simp] theorem State.countP_phases (s : State) (c p d : Nat) : (State.countP s c p d).phases = s.phases := view_phases (State.countP_view (k := 15728639) (by decide) s c p d) (by decide)

@[simp] theorem State.countP_prot (s : State) (c p d : Nat) : (State.countP s c p d).prot = s.prot := view_prot (State.countP_view (k := 15728639) (by decide) s c p d) (by decide)

@[simp] theorem State.countP_ff (s : State) (c p d : Nat) : (State.countP s c p d).ff = s.ff := view_ff (State.countP_view (k := 15728639) (by decide) s c p d) (by decide)

@[simp] theorem State.countP_regions (s : State) (c p d : Nat) : (State.countP s c p d).regions = s.regions := view_regions (State.countP_view (k := 15728639) (by decide) s c p d) (by decide)

@[simp] theorem State.countP_shim (s : State) (c p d : Nat) : (State.countP s c p d).shim = s.shim := view_shim (State.countP_view (k := 15728639) (by decide) s c p d) (by decide)

@[simp] theorem State.countP_clk (s : State) (c p d : Nat) : (State.countP s c p d).clk = s.clk := view_clk (State.countP_view (k := 15728639) (by decide) s c p d) (by decide)

@[simp] theorem State.countP_cap (s : State) (c p d : Nat) : (State.countP s c p d).cap = s.cap := view_cap (State.countP_view (k := 15728639) (by decide) s c p d) (by decide)

@[simp] theorem State.countP_cla (s : State) (c p d : Nat) : (State.countP s c p d).cla = s.cla := view_cla (State.countP_view (k := 15728639) (by decide) s c p d) (by decide)

@[simp] theorem State.countP_dove (s : State) (c p d : Nat) : (State.countP s c p d).dove = s.dove := view_dove (State.countP_view (k := 15728639) (by decide) s c p d) (by decide)

@[simp] theorem State.countP_therm (s : State) (c p d : Nat) : (State.countP s c p d).therm = s.therm := view_therm (State.countP_view (k := 15728639) (by decide) s c p d) (by decide)

@[simp] theorem State.countP_dowel (s : State) (c p d : Nat) : (State.countP s c p d).dowel = s.dowel := view_dowel (State.countP_view (k := 15728639) (by decide) s c p d) (by decide)

@[simp] theorem State.countP_sync (s : State) (c p d : Nat) : (State.countP s c p d).sync = s.sync := view_sync (State.countP_view (k := 15728639) (by decide) s c p d) (by decide)

@[simp] theorem State.countP_dma (s : State) (c p d : Nat) : (State.countP s c p d).dma = s.dma := view_dma (State.countP_view (k := 15728639) (by decide) s c p d) (by decide)

@[simp] theorem State.countP_rcd (s : State) (c p d : Nat) : (State.countP s c p d).rcd = s.rcd := view_rcd (State.countP_view (k := 15728639) (by decide) s c p d) (by decide)

@[simp] theorem State.countP_flash (s : State) (c p d : Nat) : (State.countP s c p d).flash = s.flash := view_flash (State.countP_view (k := 15728639) (by decide) s c p d) (by decide)

@[simp] theorem State.countP_mgt (s : State) (c p d : Nat) : (State.countP s c p d).mgt = s.mgt := view_mgt (State.countP_view (k := 15728639) (by decide) s c p d) (by decide)

@[simp] theorem State.countP_host (s : State) (c p d : Nat) : (State.countP s c p d).host = s.host := view_host (State.countP_view (k := 15728639) (by decide) s c p d) (by decide)

@[simp] theorem State.countP_free (s : State) (c p d : Nat) : (State.countP s c p d).free = s.free := view_free (State.countP_view (k := 15728639) (by decide) s c p d) (by decide)

@[simp] theorem State.countP_pending (s : State) (c p d : Nat) : (State.countP s c p d).pending = s.pending := view_pending (State.countP_view (k := 15728639) (by decide) s c p d)

@[simp] theorem State.countP_inst (s : State) (c p d : Nat) : (State.countP s c p d).inst = s.inst := view_inst (State.countP_view (k := 15728639) (by decide) s c p d)

@[simp] theorem State.countFixed_aon (s : State) (n d : Nat) : (State.countFixed s n d).aon = s.aon := view_aon (State.countFixed_view (k := 15728639) (by decide) s n d) (by decide)

@[simp] theorem State.countFixed_obj (s : State) (n d : Nat) : (State.countFixed s n d).obj = s.obj := view_obj (State.countFixed_view (k := 15728639) (by decide) s n d) (by decide)

@[simp] theorem State.countFixed_cl (s : State) (n d : Nat) : (State.countFixed s n d).cl = s.cl := view_cl (State.countFixed_view (k := 15728639) (by decide) s n d) (by decide)

@[simp] theorem State.countFixed_chain (s : State) (n d : Nat) : (State.countFixed s n d).chain = s.chain := view_chain (State.countFixed_view (k := 15728639) (by decide) s n d) (by decide)

@[simp] theorem State.countFixed_rails (s : State) (n d : Nat) : (State.countFixed s n d).rails = s.rails := view_rails (State.countFixed_view (k := 15728639) (by decide) s n d) (by decide)

@[simp] theorem State.countFixed_phases (s : State) (n d : Nat) : (State.countFixed s n d).phases = s.phases := view_phases (State.countFixed_view (k := 15728639) (by decide) s n d) (by decide)

@[simp] theorem State.countFixed_prot (s : State) (n d : Nat) : (State.countFixed s n d).prot = s.prot := view_prot (State.countFixed_view (k := 15728639) (by decide) s n d) (by decide)

@[simp] theorem State.countFixed_ff (s : State) (n d : Nat) : (State.countFixed s n d).ff = s.ff := view_ff (State.countFixed_view (k := 15728639) (by decide) s n d) (by decide)

@[simp] theorem State.countFixed_regions (s : State) (n d : Nat) : (State.countFixed s n d).regions = s.regions := view_regions (State.countFixed_view (k := 15728639) (by decide) s n d) (by decide)

@[simp] theorem State.countFixed_shim (s : State) (n d : Nat) : (State.countFixed s n d).shim = s.shim := view_shim (State.countFixed_view (k := 15728639) (by decide) s n d) (by decide)

@[simp] theorem State.countFixed_clk (s : State) (n d : Nat) : (State.countFixed s n d).clk = s.clk := view_clk (State.countFixed_view (k := 15728639) (by decide) s n d) (by decide)

@[simp] theorem State.countFixed_cap (s : State) (n d : Nat) : (State.countFixed s n d).cap = s.cap := view_cap (State.countFixed_view (k := 15728639) (by decide) s n d) (by decide)

@[simp] theorem State.countFixed_cla (s : State) (n d : Nat) : (State.countFixed s n d).cla = s.cla := view_cla (State.countFixed_view (k := 15728639) (by decide) s n d) (by decide)

@[simp] theorem State.countFixed_dove (s : State) (n d : Nat) : (State.countFixed s n d).dove = s.dove := view_dove (State.countFixed_view (k := 15728639) (by decide) s n d) (by decide)

@[simp] theorem State.countFixed_therm (s : State) (n d : Nat) : (State.countFixed s n d).therm = s.therm := view_therm (State.countFixed_view (k := 15728639) (by decide) s n d) (by decide)

@[simp] theorem State.countFixed_dowel (s : State) (n d : Nat) : (State.countFixed s n d).dowel = s.dowel := view_dowel (State.countFixed_view (k := 15728639) (by decide) s n d) (by decide)

@[simp] theorem State.countFixed_sync (s : State) (n d : Nat) : (State.countFixed s n d).sync = s.sync := view_sync (State.countFixed_view (k := 15728639) (by decide) s n d) (by decide)

@[simp] theorem State.countFixed_dma (s : State) (n d : Nat) : (State.countFixed s n d).dma = s.dma := view_dma (State.countFixed_view (k := 15728639) (by decide) s n d) (by decide)

@[simp] theorem State.countFixed_rcd (s : State) (n d : Nat) : (State.countFixed s n d).rcd = s.rcd := view_rcd (State.countFixed_view (k := 15728639) (by decide) s n d) (by decide)

@[simp] theorem State.countFixed_flash (s : State) (n d : Nat) : (State.countFixed s n d).flash = s.flash := view_flash (State.countFixed_view (k := 15728639) (by decide) s n d) (by decide)

@[simp] theorem State.countFixed_mgt (s : State) (n d : Nat) : (State.countFixed s n d).mgt = s.mgt := view_mgt (State.countFixed_view (k := 15728639) (by decide) s n d) (by decide)

@[simp] theorem State.countFixed_host (s : State) (n d : Nat) : (State.countFixed s n d).host = s.host := view_host (State.countFixed_view (k := 15728639) (by decide) s n d) (by decide)

@[simp] theorem State.countFixed_free (s : State) (n d : Nat) : (State.countFixed s n d).free = s.free := view_free (State.countFixed_view (k := 15728639) (by decide) s n d) (by decide)

@[simp] theorem State.countFixed_pending (s : State) (n d : Nat) : (State.countFixed s n d).pending = s.pending := view_pending (State.countFixed_view (k := 15728639) (by decide) s n d)

@[simp] theorem State.countFixed_inst (s : State) (n d : Nat) : (State.countFixed s n d).inst = s.inst := view_inst (State.countFixed_view (k := 15728639) (by decide) s n d)

@[simp] theorem State.put_aon (s : State) (i b : Nat) (v : Int) : (State.put s i b v).aon = s.aon := view_aon (State.put_view (k := 16777213) (by decide) s i b v) (by decide)

@[simp] theorem State.put_cl (s : State) (i b : Nat) (v : Int) : (State.put s i b v).cl = s.cl := view_cl (State.put_view (k := 16777213) (by decide) s i b v) (by decide)

@[simp] theorem State.put_chain (s : State) (i b : Nat) (v : Int) : (State.put s i b v).chain = s.chain := view_chain (State.put_view (k := 16777213) (by decide) s i b v) (by decide)

@[simp] theorem State.put_rails (s : State) (i b : Nat) (v : Int) : (State.put s i b v).rails = s.rails := view_rails (State.put_view (k := 16777213) (by decide) s i b v) (by decide)

@[simp] theorem State.put_phases (s : State) (i b : Nat) (v : Int) : (State.put s i b v).phases = s.phases := view_phases (State.put_view (k := 16777213) (by decide) s i b v) (by decide)

@[simp] theorem State.put_prot (s : State) (i b : Nat) (v : Int) : (State.put s i b v).prot = s.prot := view_prot (State.put_view (k := 16777213) (by decide) s i b v) (by decide)

@[simp] theorem State.put_ff (s : State) (i b : Nat) (v : Int) : (State.put s i b v).ff = s.ff := view_ff (State.put_view (k := 16777213) (by decide) s i b v) (by decide)

@[simp] theorem State.put_regions (s : State) (i b : Nat) (v : Int) : (State.put s i b v).regions = s.regions := view_regions (State.put_view (k := 16777213) (by decide) s i b v) (by decide)

@[simp] theorem State.put_shim (s : State) (i b : Nat) (v : Int) : (State.put s i b v).shim = s.shim := view_shim (State.put_view (k := 16777213) (by decide) s i b v) (by decide)

@[simp] theorem State.put_clk (s : State) (i b : Nat) (v : Int) : (State.put s i b v).clk = s.clk := view_clk (State.put_view (k := 16777213) (by decide) s i b v) (by decide)

@[simp] theorem State.put_cap (s : State) (i b : Nat) (v : Int) : (State.put s i b v).cap = s.cap := view_cap (State.put_view (k := 16777213) (by decide) s i b v) (by decide)

@[simp] theorem State.put_cla (s : State) (i b : Nat) (v : Int) : (State.put s i b v).cla = s.cla := view_cla (State.put_view (k := 16777213) (by decide) s i b v) (by decide)

@[simp] theorem State.put_dove (s : State) (i b : Nat) (v : Int) : (State.put s i b v).dove = s.dove := view_dove (State.put_view (k := 16777213) (by decide) s i b v) (by decide)

@[simp] theorem State.put_therm (s : State) (i b : Nat) (v : Int) : (State.put s i b v).therm = s.therm := view_therm (State.put_view (k := 16777213) (by decide) s i b v) (by decide)

@[simp] theorem State.put_dowel (s : State) (i b : Nat) (v : Int) : (State.put s i b v).dowel = s.dowel := view_dowel (State.put_view (k := 16777213) (by decide) s i b v) (by decide)

@[simp] theorem State.put_sync (s : State) (i b : Nat) (v : Int) : (State.put s i b v).sync = s.sync := view_sync (State.put_view (k := 16777213) (by decide) s i b v) (by decide)

@[simp] theorem State.put_dma (s : State) (i b : Nat) (v : Int) : (State.put s i b v).dma = s.dma := view_dma (State.put_view (k := 16777213) (by decide) s i b v) (by decide)

@[simp] theorem State.put_rcd (s : State) (i b : Nat) (v : Int) : (State.put s i b v).rcd = s.rcd := view_rcd (State.put_view (k := 16777213) (by decide) s i b v) (by decide)

@[simp] theorem State.put_flash (s : State) (i b : Nat) (v : Int) : (State.put s i b v).flash = s.flash := view_flash (State.put_view (k := 16777213) (by decide) s i b v) (by decide)

@[simp] theorem State.put_obs (s : State) (i b : Nat) (v : Int) : (State.put s i b v).obs = s.obs := view_obs (State.put_view (k := 16777213) (by decide) s i b v) (by decide)

@[simp] theorem State.put_mgt (s : State) (i b : Nat) (v : Int) : (State.put s i b v).mgt = s.mgt := view_mgt (State.put_view (k := 16777213) (by decide) s i b v) (by decide)

@[simp] theorem State.put_host (s : State) (i b : Nat) (v : Int) : (State.put s i b v).host = s.host := view_host (State.put_view (k := 16777213) (by decide) s i b v) (by decide)

@[simp] theorem State.put_free (s : State) (i b : Nat) (v : Int) : (State.put s i b v).free = s.free := view_free (State.put_view (k := 16777213) (by decide) s i b v) (by decide)

@[simp] theorem State.put_pending (s : State) (i b : Nat) (v : Int) : (State.put s i b v).pending = s.pending := view_pending (State.put_view (k := 16777213) (by decide) s i b v)

@[simp] theorem State.put_inst (s : State) (i b : Nat) (v : Int) : (State.put s i b v).inst = s.inst := view_inst (State.put_view (k := 16777213) (by decide) s i b v)

@[simp] theorem State.bump32_aon (s : State) (i b : Nat) : (State.bump32 s i b).aon = s.aon := view_aon (State.bump32_view (k := 16777213) (by decide) s i b) (by decide)

@[simp] theorem State.bump32_cl (s : State) (i b : Nat) : (State.bump32 s i b).cl = s.cl := view_cl (State.bump32_view (k := 16777213) (by decide) s i b) (by decide)

@[simp] theorem State.bump32_chain (s : State) (i b : Nat) : (State.bump32 s i b).chain = s.chain := view_chain (State.bump32_view (k := 16777213) (by decide) s i b) (by decide)

@[simp] theorem State.bump32_rails (s : State) (i b : Nat) : (State.bump32 s i b).rails = s.rails := view_rails (State.bump32_view (k := 16777213) (by decide) s i b) (by decide)

@[simp] theorem State.bump32_phases (s : State) (i b : Nat) : (State.bump32 s i b).phases = s.phases := view_phases (State.bump32_view (k := 16777213) (by decide) s i b) (by decide)

@[simp] theorem State.bump32_prot (s : State) (i b : Nat) : (State.bump32 s i b).prot = s.prot := view_prot (State.bump32_view (k := 16777213) (by decide) s i b) (by decide)

@[simp] theorem State.bump32_ff (s : State) (i b : Nat) : (State.bump32 s i b).ff = s.ff := view_ff (State.bump32_view (k := 16777213) (by decide) s i b) (by decide)

@[simp] theorem State.bump32_regions (s : State) (i b : Nat) : (State.bump32 s i b).regions = s.regions := view_regions (State.bump32_view (k := 16777213) (by decide) s i b) (by decide)

@[simp] theorem State.bump32_shim (s : State) (i b : Nat) : (State.bump32 s i b).shim = s.shim := view_shim (State.bump32_view (k := 16777213) (by decide) s i b) (by decide)

@[simp] theorem State.bump32_clk (s : State) (i b : Nat) : (State.bump32 s i b).clk = s.clk := view_clk (State.bump32_view (k := 16777213) (by decide) s i b) (by decide)

@[simp] theorem State.bump32_cap (s : State) (i b : Nat) : (State.bump32 s i b).cap = s.cap := view_cap (State.bump32_view (k := 16777213) (by decide) s i b) (by decide)

@[simp] theorem State.bump32_cla (s : State) (i b : Nat) : (State.bump32 s i b).cla = s.cla := view_cla (State.bump32_view (k := 16777213) (by decide) s i b) (by decide)

@[simp] theorem State.bump32_dove (s : State) (i b : Nat) : (State.bump32 s i b).dove = s.dove := view_dove (State.bump32_view (k := 16777213) (by decide) s i b) (by decide)

@[simp] theorem State.bump32_therm (s : State) (i b : Nat) : (State.bump32 s i b).therm = s.therm := view_therm (State.bump32_view (k := 16777213) (by decide) s i b) (by decide)

@[simp] theorem State.bump32_dowel (s : State) (i b : Nat) : (State.bump32 s i b).dowel = s.dowel := view_dowel (State.bump32_view (k := 16777213) (by decide) s i b) (by decide)

@[simp] theorem State.bump32_sync (s : State) (i b : Nat) : (State.bump32 s i b).sync = s.sync := view_sync (State.bump32_view (k := 16777213) (by decide) s i b) (by decide)

@[simp] theorem State.bump32_dma (s : State) (i b : Nat) : (State.bump32 s i b).dma = s.dma := view_dma (State.bump32_view (k := 16777213) (by decide) s i b) (by decide)

@[simp] theorem State.bump32_rcd (s : State) (i b : Nat) : (State.bump32 s i b).rcd = s.rcd := view_rcd (State.bump32_view (k := 16777213) (by decide) s i b) (by decide)

@[simp] theorem State.bump32_flash (s : State) (i b : Nat) : (State.bump32 s i b).flash = s.flash := view_flash (State.bump32_view (k := 16777213) (by decide) s i b) (by decide)

@[simp] theorem State.bump32_obs (s : State) (i b : Nat) : (State.bump32 s i b).obs = s.obs := view_obs (State.bump32_view (k := 16777213) (by decide) s i b) (by decide)

@[simp] theorem State.bump32_mgt (s : State) (i b : Nat) : (State.bump32 s i b).mgt = s.mgt := view_mgt (State.bump32_view (k := 16777213) (by decide) s i b) (by decide)

@[simp] theorem State.bump32_host (s : State) (i b : Nat) : (State.bump32 s i b).host = s.host := view_host (State.bump32_view (k := 16777213) (by decide) s i b) (by decide)

@[simp] theorem State.bump32_free (s : State) (i b : Nat) : (State.bump32 s i b).free = s.free := view_free (State.bump32_view (k := 16777213) (by decide) s i b) (by decide)

@[simp] theorem State.bump32_pending (s : State) (i b : Nat) : (State.bump32 s i b).pending = s.pending := view_pending (State.bump32_view (k := 16777213) (by decide) s i b)

@[simp] theorem State.bump32_inst (s : State) (i b : Nat) : (State.bump32 s i b).inst = s.inst := view_inst (State.bump32_view (k := 16777213) (by decide) s i b)

@[simp] theorem State.bump16_aon (s : State) (i b : Nat) : (State.bump16 s i b).aon = s.aon := view_aon (State.bump16_view (k := 16777213) (by decide) s i b) (by decide)

@[simp] theorem State.bump16_cl (s : State) (i b : Nat) : (State.bump16 s i b).cl = s.cl := view_cl (State.bump16_view (k := 16777213) (by decide) s i b) (by decide)

@[simp] theorem State.bump16_chain (s : State) (i b : Nat) : (State.bump16 s i b).chain = s.chain := view_chain (State.bump16_view (k := 16777213) (by decide) s i b) (by decide)

@[simp] theorem State.bump16_rails (s : State) (i b : Nat) : (State.bump16 s i b).rails = s.rails := view_rails (State.bump16_view (k := 16777213) (by decide) s i b) (by decide)

@[simp] theorem State.bump16_phases (s : State) (i b : Nat) : (State.bump16 s i b).phases = s.phases := view_phases (State.bump16_view (k := 16777213) (by decide) s i b) (by decide)

@[simp] theorem State.bump16_prot (s : State) (i b : Nat) : (State.bump16 s i b).prot = s.prot := view_prot (State.bump16_view (k := 16777213) (by decide) s i b) (by decide)

@[simp] theorem State.bump16_ff (s : State) (i b : Nat) : (State.bump16 s i b).ff = s.ff := view_ff (State.bump16_view (k := 16777213) (by decide) s i b) (by decide)

@[simp] theorem State.bump16_regions (s : State) (i b : Nat) : (State.bump16 s i b).regions = s.regions := view_regions (State.bump16_view (k := 16777213) (by decide) s i b) (by decide)

@[simp] theorem State.bump16_shim (s : State) (i b : Nat) : (State.bump16 s i b).shim = s.shim := view_shim (State.bump16_view (k := 16777213) (by decide) s i b) (by decide)

@[simp] theorem State.bump16_clk (s : State) (i b : Nat) : (State.bump16 s i b).clk = s.clk := view_clk (State.bump16_view (k := 16777213) (by decide) s i b) (by decide)

@[simp] theorem State.bump16_cap (s : State) (i b : Nat) : (State.bump16 s i b).cap = s.cap := view_cap (State.bump16_view (k := 16777213) (by decide) s i b) (by decide)

@[simp] theorem State.bump16_cla (s : State) (i b : Nat) : (State.bump16 s i b).cla = s.cla := view_cla (State.bump16_view (k := 16777213) (by decide) s i b) (by decide)

@[simp] theorem State.bump16_dove (s : State) (i b : Nat) : (State.bump16 s i b).dove = s.dove := view_dove (State.bump16_view (k := 16777213) (by decide) s i b) (by decide)

@[simp] theorem State.bump16_therm (s : State) (i b : Nat) : (State.bump16 s i b).therm = s.therm := view_therm (State.bump16_view (k := 16777213) (by decide) s i b) (by decide)

@[simp] theorem State.bump16_dowel (s : State) (i b : Nat) : (State.bump16 s i b).dowel = s.dowel := view_dowel (State.bump16_view (k := 16777213) (by decide) s i b) (by decide)

@[simp] theorem State.bump16_sync (s : State) (i b : Nat) : (State.bump16 s i b).sync = s.sync := view_sync (State.bump16_view (k := 16777213) (by decide) s i b) (by decide)

@[simp] theorem State.bump16_dma (s : State) (i b : Nat) : (State.bump16 s i b).dma = s.dma := view_dma (State.bump16_view (k := 16777213) (by decide) s i b) (by decide)

@[simp] theorem State.bump16_rcd (s : State) (i b : Nat) : (State.bump16 s i b).rcd = s.rcd := view_rcd (State.bump16_view (k := 16777213) (by decide) s i b) (by decide)

@[simp] theorem State.bump16_flash (s : State) (i b : Nat) : (State.bump16 s i b).flash = s.flash := view_flash (State.bump16_view (k := 16777213) (by decide) s i b) (by decide)

@[simp] theorem State.bump16_obs (s : State) (i b : Nat) : (State.bump16 s i b).obs = s.obs := view_obs (State.bump16_view (k := 16777213) (by decide) s i b) (by decide)

@[simp] theorem State.bump16_mgt (s : State) (i b : Nat) : (State.bump16 s i b).mgt = s.mgt := view_mgt (State.bump16_view (k := 16777213) (by decide) s i b) (by decide)

@[simp] theorem State.bump16_host (s : State) (i b : Nat) : (State.bump16 s i b).host = s.host := view_host (State.bump16_view (k := 16777213) (by decide) s i b) (by decide)

@[simp] theorem State.bump16_free (s : State) (i b : Nat) : (State.bump16 s i b).free = s.free := view_free (State.bump16_view (k := 16777213) (by decide) s i b) (by decide)

@[simp] theorem State.bump16_pending (s : State) (i b : Nat) : (State.bump16 s i b).pending = s.pending := view_pending (State.bump16_view (k := 16777213) (by decide) s i b)

@[simp] theorem State.bump16_inst (s : State) (i b : Nat) : (State.bump16 s i b).inst = s.inst := view_inst (State.bump16_view (k := 16777213) (by decide) s i b)

@[simp] theorem State.add64_aon (s : State) (i b n : Nat) : (State.add64 s i b n).aon = s.aon := view_aon (State.add64_view (k := 16777213) (by decide) s i b n) (by decide)

@[simp] theorem State.add64_cl (s : State) (i b n : Nat) : (State.add64 s i b n).cl = s.cl := view_cl (State.add64_view (k := 16777213) (by decide) s i b n) (by decide)

@[simp] theorem State.add64_chain (s : State) (i b n : Nat) : (State.add64 s i b n).chain = s.chain := view_chain (State.add64_view (k := 16777213) (by decide) s i b n) (by decide)

@[simp] theorem State.add64_rails (s : State) (i b n : Nat) : (State.add64 s i b n).rails = s.rails := view_rails (State.add64_view (k := 16777213) (by decide) s i b n) (by decide)

@[simp] theorem State.add64_phases (s : State) (i b n : Nat) : (State.add64 s i b n).phases = s.phases := view_phases (State.add64_view (k := 16777213) (by decide) s i b n) (by decide)

@[simp] theorem State.add64_prot (s : State) (i b n : Nat) : (State.add64 s i b n).prot = s.prot := view_prot (State.add64_view (k := 16777213) (by decide) s i b n) (by decide)

@[simp] theorem State.add64_ff (s : State) (i b n : Nat) : (State.add64 s i b n).ff = s.ff := view_ff (State.add64_view (k := 16777213) (by decide) s i b n) (by decide)

@[simp] theorem State.add64_regions (s : State) (i b n : Nat) : (State.add64 s i b n).regions = s.regions := view_regions (State.add64_view (k := 16777213) (by decide) s i b n) (by decide)

@[simp] theorem State.add64_shim (s : State) (i b n : Nat) : (State.add64 s i b n).shim = s.shim := view_shim (State.add64_view (k := 16777213) (by decide) s i b n) (by decide)

@[simp] theorem State.add64_clk (s : State) (i b n : Nat) : (State.add64 s i b n).clk = s.clk := view_clk (State.add64_view (k := 16777213) (by decide) s i b n) (by decide)

@[simp] theorem State.add64_cap (s : State) (i b n : Nat) : (State.add64 s i b n).cap = s.cap := view_cap (State.add64_view (k := 16777213) (by decide) s i b n) (by decide)

@[simp] theorem State.add64_cla (s : State) (i b n : Nat) : (State.add64 s i b n).cla = s.cla := view_cla (State.add64_view (k := 16777213) (by decide) s i b n) (by decide)

@[simp] theorem State.add64_dove (s : State) (i b n : Nat) : (State.add64 s i b n).dove = s.dove := view_dove (State.add64_view (k := 16777213) (by decide) s i b n) (by decide)

@[simp] theorem State.add64_therm (s : State) (i b n : Nat) : (State.add64 s i b n).therm = s.therm := view_therm (State.add64_view (k := 16777213) (by decide) s i b n) (by decide)

@[simp] theorem State.add64_dowel (s : State) (i b n : Nat) : (State.add64 s i b n).dowel = s.dowel := view_dowel (State.add64_view (k := 16777213) (by decide) s i b n) (by decide)

@[simp] theorem State.add64_sync (s : State) (i b n : Nat) : (State.add64 s i b n).sync = s.sync := view_sync (State.add64_view (k := 16777213) (by decide) s i b n) (by decide)

@[simp] theorem State.add64_dma (s : State) (i b n : Nat) : (State.add64 s i b n).dma = s.dma := view_dma (State.add64_view (k := 16777213) (by decide) s i b n) (by decide)

@[simp] theorem State.add64_rcd (s : State) (i b n : Nat) : (State.add64 s i b n).rcd = s.rcd := view_rcd (State.add64_view (k := 16777213) (by decide) s i b n) (by decide)

@[simp] theorem State.add64_flash (s : State) (i b n : Nat) : (State.add64 s i b n).flash = s.flash := view_flash (State.add64_view (k := 16777213) (by decide) s i b n) (by decide)

@[simp] theorem State.add64_obs (s : State) (i b n : Nat) : (State.add64 s i b n).obs = s.obs := view_obs (State.add64_view (k := 16777213) (by decide) s i b n) (by decide)

@[simp] theorem State.add64_mgt (s : State) (i b n : Nat) : (State.add64 s i b n).mgt = s.mgt := view_mgt (State.add64_view (k := 16777213) (by decide) s i b n) (by decide)

@[simp] theorem State.add64_host (s : State) (i b n : Nat) : (State.add64 s i b n).host = s.host := view_host (State.add64_view (k := 16777213) (by decide) s i b n) (by decide)

@[simp] theorem State.add64_free (s : State) (i b n : Nat) : (State.add64 s i b n).free = s.free := view_free (State.add64_view (k := 16777213) (by decide) s i b n) (by decide)

@[simp] theorem State.add64_pending (s : State) (i b n : Nat) : (State.add64 s i b n).pending = s.pending := view_pending (State.add64_view (k := 16777213) (by decide) s i b n)

@[simp] theorem State.add64_inst (s : State) (i b n : Nat) : (State.add64 s i b n).inst = s.inst := view_inst (State.add64_view (k := 16777213) (by decide) s i b n)

@[simp] theorem State.add32_aon (s : State) (i b n : Nat) : (State.add32 s i b n).aon = s.aon := view_aon (State.add32_view (k := 16777213) (by decide) s i b n) (by decide)

@[simp] theorem State.add32_cl (s : State) (i b n : Nat) : (State.add32 s i b n).cl = s.cl := view_cl (State.add32_view (k := 16777213) (by decide) s i b n) (by decide)

@[simp] theorem State.add32_chain (s : State) (i b n : Nat) : (State.add32 s i b n).chain = s.chain := view_chain (State.add32_view (k := 16777213) (by decide) s i b n) (by decide)

@[simp] theorem State.add32_rails (s : State) (i b n : Nat) : (State.add32 s i b n).rails = s.rails := view_rails (State.add32_view (k := 16777213) (by decide) s i b n) (by decide)

@[simp] theorem State.add32_phases (s : State) (i b n : Nat) : (State.add32 s i b n).phases = s.phases := view_phases (State.add32_view (k := 16777213) (by decide) s i b n) (by decide)

@[simp] theorem State.add32_prot (s : State) (i b n : Nat) : (State.add32 s i b n).prot = s.prot := view_prot (State.add32_view (k := 16777213) (by decide) s i b n) (by decide)

@[simp] theorem State.add32_ff (s : State) (i b n : Nat) : (State.add32 s i b n).ff = s.ff := view_ff (State.add32_view (k := 16777213) (by decide) s i b n) (by decide)

@[simp] theorem State.add32_regions (s : State) (i b n : Nat) : (State.add32 s i b n).regions = s.regions := view_regions (State.add32_view (k := 16777213) (by decide) s i b n) (by decide)

@[simp] theorem State.add32_shim (s : State) (i b n : Nat) : (State.add32 s i b n).shim = s.shim := view_shim (State.add32_view (k := 16777213) (by decide) s i b n) (by decide)

@[simp] theorem State.add32_clk (s : State) (i b n : Nat) : (State.add32 s i b n).clk = s.clk := view_clk (State.add32_view (k := 16777213) (by decide) s i b n) (by decide)

@[simp] theorem State.add32_cap (s : State) (i b n : Nat) : (State.add32 s i b n).cap = s.cap := view_cap (State.add32_view (k := 16777213) (by decide) s i b n) (by decide)

@[simp] theorem State.add32_cla (s : State) (i b n : Nat) : (State.add32 s i b n).cla = s.cla := view_cla (State.add32_view (k := 16777213) (by decide) s i b n) (by decide)

@[simp] theorem State.add32_dove (s : State) (i b n : Nat) : (State.add32 s i b n).dove = s.dove := view_dove (State.add32_view (k := 16777213) (by decide) s i b n) (by decide)

@[simp] theorem State.add32_therm (s : State) (i b n : Nat) : (State.add32 s i b n).therm = s.therm := view_therm (State.add32_view (k := 16777213) (by decide) s i b n) (by decide)

@[simp] theorem State.add32_dowel (s : State) (i b n : Nat) : (State.add32 s i b n).dowel = s.dowel := view_dowel (State.add32_view (k := 16777213) (by decide) s i b n) (by decide)

@[simp] theorem State.add32_sync (s : State) (i b n : Nat) : (State.add32 s i b n).sync = s.sync := view_sync (State.add32_view (k := 16777213) (by decide) s i b n) (by decide)

@[simp] theorem State.add32_dma (s : State) (i b n : Nat) : (State.add32 s i b n).dma = s.dma := view_dma (State.add32_view (k := 16777213) (by decide) s i b n) (by decide)

@[simp] theorem State.add32_rcd (s : State) (i b n : Nat) : (State.add32 s i b n).rcd = s.rcd := view_rcd (State.add32_view (k := 16777213) (by decide) s i b n) (by decide)

@[simp] theorem State.add32_flash (s : State) (i b n : Nat) : (State.add32 s i b n).flash = s.flash := view_flash (State.add32_view (k := 16777213) (by decide) s i b n) (by decide)

@[simp] theorem State.add32_obs (s : State) (i b n : Nat) : (State.add32 s i b n).obs = s.obs := view_obs (State.add32_view (k := 16777213) (by decide) s i b n) (by decide)

@[simp] theorem State.add32_mgt (s : State) (i b n : Nat) : (State.add32 s i b n).mgt = s.mgt := view_mgt (State.add32_view (k := 16777213) (by decide) s i b n) (by decide)

@[simp] theorem State.add32_host (s : State) (i b n : Nat) : (State.add32 s i b n).host = s.host := view_host (State.add32_view (k := 16777213) (by decide) s i b n) (by decide)

@[simp] theorem State.add32_free (s : State) (i b n : Nat) : (State.add32 s i b n).free = s.free := view_free (State.add32_view (k := 16777213) (by decide) s i b n) (by decide)

@[simp] theorem State.add32_pending (s : State) (i b n : Nat) : (State.add32 s i b n).pending = s.pending := view_pending (State.add32_view (k := 16777213) (by decide) s i b n)

@[simp] theorem State.add32_inst (s : State) (i b n : Nat) : (State.add32 s i b n).inst = s.inst := view_inst (State.add32_view (k := 16777213) (by decide) s i b n)

@[simp] theorem assertIrq_obj (s : State) : (assertIrq s).obj = s.obj := view_obj (assertIrq_view (k := 16777214) (by decide) s) (by decide)

@[simp] theorem assertIrq_cl (s : State) : (assertIrq s).cl = s.cl := view_cl (assertIrq_view (k := 16777214) (by decide) s) (by decide)

@[simp] theorem assertIrq_chain (s : State) : (assertIrq s).chain = s.chain := view_chain (assertIrq_view (k := 16777214) (by decide) s) (by decide)

@[simp] theorem assertIrq_rails (s : State) : (assertIrq s).rails = s.rails := view_rails (assertIrq_view (k := 16777214) (by decide) s) (by decide)

@[simp] theorem assertIrq_phases (s : State) : (assertIrq s).phases = s.phases := view_phases (assertIrq_view (k := 16777214) (by decide) s) (by decide)

@[simp] theorem assertIrq_prot (s : State) : (assertIrq s).prot = s.prot := view_prot (assertIrq_view (k := 16777214) (by decide) s) (by decide)

@[simp] theorem assertIrq_ff (s : State) : (assertIrq s).ff = s.ff := view_ff (assertIrq_view (k := 16777214) (by decide) s) (by decide)

@[simp] theorem assertIrq_regions (s : State) : (assertIrq s).regions = s.regions := view_regions (assertIrq_view (k := 16777214) (by decide) s) (by decide)

@[simp] theorem assertIrq_shim (s : State) : (assertIrq s).shim = s.shim := view_shim (assertIrq_view (k := 16777214) (by decide) s) (by decide)

@[simp] theorem assertIrq_clk (s : State) : (assertIrq s).clk = s.clk := view_clk (assertIrq_view (k := 16777214) (by decide) s) (by decide)

@[simp] theorem assertIrq_cap (s : State) : (assertIrq s).cap = s.cap := view_cap (assertIrq_view (k := 16777214) (by decide) s) (by decide)

@[simp] theorem assertIrq_cla (s : State) : (assertIrq s).cla = s.cla := view_cla (assertIrq_view (k := 16777214) (by decide) s) (by decide)

@[simp] theorem assertIrq_dove (s : State) : (assertIrq s).dove = s.dove := view_dove (assertIrq_view (k := 16777214) (by decide) s) (by decide)

@[simp] theorem assertIrq_therm (s : State) : (assertIrq s).therm = s.therm := view_therm (assertIrq_view (k := 16777214) (by decide) s) (by decide)

@[simp] theorem assertIrq_dowel (s : State) : (assertIrq s).dowel = s.dowel := view_dowel (assertIrq_view (k := 16777214) (by decide) s) (by decide)

@[simp] theorem assertIrq_sync (s : State) : (assertIrq s).sync = s.sync := view_sync (assertIrq_view (k := 16777214) (by decide) s) (by decide)

@[simp] theorem assertIrq_dma (s : State) : (assertIrq s).dma = s.dma := view_dma (assertIrq_view (k := 16777214) (by decide) s) (by decide)

@[simp] theorem assertIrq_rcd (s : State) : (assertIrq s).rcd = s.rcd := view_rcd (assertIrq_view (k := 16777214) (by decide) s) (by decide)

@[simp] theorem assertIrq_flash (s : State) : (assertIrq s).flash = s.flash := view_flash (assertIrq_view (k := 16777214) (by decide) s) (by decide)

@[simp] theorem assertIrq_obs (s : State) : (assertIrq s).obs = s.obs := view_obs (assertIrq_view (k := 16777214) (by decide) s) (by decide)

@[simp] theorem assertIrq_mgt (s : State) : (assertIrq s).mgt = s.mgt := view_mgt (assertIrq_view (k := 16777214) (by decide) s) (by decide)

@[simp] theorem assertIrq_host (s : State) : (assertIrq s).host = s.host := view_host (assertIrq_view (k := 16777214) (by decide) s) (by decide)

@[simp] theorem assertIrq_free (s : State) : (assertIrq s).free = s.free := view_free (assertIrq_view (k := 16777214) (by decide) s) (by decide)

@[simp] theorem assertIrq_pending (s : State) : (assertIrq s).pending = s.pending := view_pending (assertIrq_view (k := 16777214) (by decide) s)

@[simp] theorem assertIrq_inst (s : State) : (assertIrq s).inst = s.inst := view_inst (assertIrq_view (k := 16777214) (by decide) s)

@[simp] theorem State.setEnable_obj (s : State) (b : Nat) (v : Bool) : (State.setEnable s b v).obj = s.obj := view_obj (State.setEnable_view (k := 16777214) (by decide) s b v) (by decide)

@[simp] theorem State.setEnable_cl (s : State) (b : Nat) (v : Bool) : (State.setEnable s b v).cl = s.cl := view_cl (State.setEnable_view (k := 16777214) (by decide) s b v) (by decide)

@[simp] theorem State.setEnable_chain (s : State) (b : Nat) (v : Bool) : (State.setEnable s b v).chain = s.chain := view_chain (State.setEnable_view (k := 16777214) (by decide) s b v) (by decide)

@[simp] theorem State.setEnable_rails (s : State) (b : Nat) (v : Bool) : (State.setEnable s b v).rails = s.rails := view_rails (State.setEnable_view (k := 16777214) (by decide) s b v) (by decide)

@[simp] theorem State.setEnable_phases (s : State) (b : Nat) (v : Bool) : (State.setEnable s b v).phases = s.phases := view_phases (State.setEnable_view (k := 16777214) (by decide) s b v) (by decide)

@[simp] theorem State.setEnable_prot (s : State) (b : Nat) (v : Bool) : (State.setEnable s b v).prot = s.prot := view_prot (State.setEnable_view (k := 16777214) (by decide) s b v) (by decide)

@[simp] theorem State.setEnable_ff (s : State) (b : Nat) (v : Bool) : (State.setEnable s b v).ff = s.ff := view_ff (State.setEnable_view (k := 16777214) (by decide) s b v) (by decide)

@[simp] theorem State.setEnable_regions (s : State) (b : Nat) (v : Bool) : (State.setEnable s b v).regions = s.regions := view_regions (State.setEnable_view (k := 16777214) (by decide) s b v) (by decide)

@[simp] theorem State.setEnable_shim (s : State) (b : Nat) (v : Bool) : (State.setEnable s b v).shim = s.shim := view_shim (State.setEnable_view (k := 16777214) (by decide) s b v) (by decide)

@[simp] theorem State.setEnable_clk (s : State) (b : Nat) (v : Bool) : (State.setEnable s b v).clk = s.clk := view_clk (State.setEnable_view (k := 16777214) (by decide) s b v) (by decide)

@[simp] theorem State.setEnable_cap (s : State) (b : Nat) (v : Bool) : (State.setEnable s b v).cap = s.cap := view_cap (State.setEnable_view (k := 16777214) (by decide) s b v) (by decide)

@[simp] theorem State.setEnable_cla (s : State) (b : Nat) (v : Bool) : (State.setEnable s b v).cla = s.cla := view_cla (State.setEnable_view (k := 16777214) (by decide) s b v) (by decide)

@[simp] theorem State.setEnable_dove (s : State) (b : Nat) (v : Bool) : (State.setEnable s b v).dove = s.dove := view_dove (State.setEnable_view (k := 16777214) (by decide) s b v) (by decide)

@[simp] theorem State.setEnable_therm (s : State) (b : Nat) (v : Bool) : (State.setEnable s b v).therm = s.therm := view_therm (State.setEnable_view (k := 16777214) (by decide) s b v) (by decide)

@[simp] theorem State.setEnable_dowel (s : State) (b : Nat) (v : Bool) : (State.setEnable s b v).dowel = s.dowel := view_dowel (State.setEnable_view (k := 16777214) (by decide) s b v) (by decide)

@[simp] theorem State.setEnable_sync (s : State) (b : Nat) (v : Bool) : (State.setEnable s b v).sync = s.sync := view_sync (State.setEnable_view (k := 16777214) (by decide) s b v) (by decide)

@[simp] theorem State.setEnable_dma (s : State) (b : Nat) (v : Bool) : (State.setEnable s b v).dma = s.dma := view_dma (State.setEnable_view (k := 16777214) (by decide) s b v) (by decide)

@[simp] theorem State.setEnable_rcd (s : State) (b : Nat) (v : Bool) : (State.setEnable s b v).rcd = s.rcd := view_rcd (State.setEnable_view (k := 16777214) (by decide) s b v) (by decide)

@[simp] theorem State.setEnable_flash (s : State) (b : Nat) (v : Bool) : (State.setEnable s b v).flash = s.flash := view_flash (State.setEnable_view (k := 16777214) (by decide) s b v) (by decide)

@[simp] theorem State.setEnable_obs (s : State) (b : Nat) (v : Bool) : (State.setEnable s b v).obs = s.obs := view_obs (State.setEnable_view (k := 16777214) (by decide) s b v) (by decide)

@[simp] theorem State.setEnable_mgt (s : State) (b : Nat) (v : Bool) : (State.setEnable s b v).mgt = s.mgt := view_mgt (State.setEnable_view (k := 16777214) (by decide) s b v) (by decide)

@[simp] theorem State.setEnable_host (s : State) (b : Nat) (v : Bool) : (State.setEnable s b v).host = s.host := view_host (State.setEnable_view (k := 16777214) (by decide) s b v) (by decide)

@[simp] theorem State.setEnable_free (s : State) (b : Nat) (v : Bool) : (State.setEnable s b v).free = s.free := view_free (State.setEnable_view (k := 16777214) (by decide) s b v) (by decide)

@[simp] theorem State.setEnable_pending (s : State) (b : Nat) (v : Bool) : (State.setEnable s b v).pending = s.pending := view_pending (State.setEnable_view (k := 16777214) (by decide) s b v)

@[simp] theorem State.setEnable_inst (s : State) (b : Nat) (v : Bool) : (State.setEnable s b v).inst = s.inst := view_inst (State.setEnable_view (k := 16777214) (by decide) s b v)

/-! What the named operations do to the always-on island. -/

theorem captureEvent_aon (e : Event) (s : State) :
    ∃ b l, (captureEvent e s).aon = { s.aon with earlyBuf := b, earlyLost := l } := by
  unfold captureEvent
  dsimp only
  split
  · split
    · exact ⟨_, _, rfl⟩
    · exact ⟨s.aon.earlyBuf, s.aon.earlyLost, by simp only [State.bump32_aon]⟩
  · split
    · exact ⟨_, _, rfl⟩
    · exact ⟨_, _, rfl⟩

theorem raise_aon (c v a b : Nat) (s : State) : ∃ x y, (raise c v a b s).aon = { s.aon with earlyBuf := x, earlyLost := y } :=
  captureEvent_aon _ s

theorem raiseP_aon (c v p a b : Nat) (s : State) :
    ∃ x y, (raiseP c v p a b s).aon = { s.aon with earlyBuf := x, earlyLost := y } :=
  captureEvent_aon _ s

theorem setReady_aon (f : Nat) (s : State) (h : s.isReady f = false) :
    ∃ x y, (setReady f s).aon =
      { s.aon with
        earlyBuf := x, earlyLost := y, stamps := s.aon.stamps.set f s.tick, ready := putBit s.aon.ready f true,
        changeCnt := (s.aon.changeCnt + 1) % 2 ^ 32 } := by
  unfold setReady
  rw [h]
  exact raise_aon _ _ _ _ _

theorem elapse_aon (d : Nat) (s : State) (h : s.aon.porN = true) :
    (elapse d s).aon = { s.aon with clock := s.aon.clock + d } := by
  unfold elapse
  rw [h]
  have h1 : ∀ n t, (elapseCalendar n t).aon = t.aon := fun n t => view_aon (elapseCalendar_view (k := 1) (by decide) n t) (by decide)
  have h2 : ∀ n t, (elapseReasons n t).aon = t.aon := fun n t => view_aon (elapseReasons_view (k := 1) (by decide) n t) (by decide)
  have h3 : ∀ n t, (elapseTimes n t).aon = t.aon := fun n t => view_aon (elapseTimes_view (k := 1) (by decide) n t) (by decide)
  have h4 : ∀ n t, (elapsePhases n t).aon = t.aon := fun n t => view_aon (elapsePhases_view (k := 1) (by decide) n t) (by decide)
  have h5 : ∀ n t, (elapseTiles n t).aon = t.aon := fun n t => view_aon (elapseTiles_view (k := 1) (by decide) n t) (by decide)
  simp only [Bool.not_true, Bool.false_eq_true, if_false, h1, h2, h3, h4, h5]

theorem advanceTo_aon (d : Nat) (s : State) (h : s.aon.porN = true) :
    (advanceTo d s).aon = { s.aon with clock := max s.aon.clock d } := by
  unfold advanceTo
  split
  · rw [elapse_aon _ _ h, Nat.max_eq_right (by omega), Nat.add_sub_cancel' (by omega)]
  · rw [Nat.max_eq_left (by omega)]

theorem putBit_div (x n : Nat) (v : Bool) : putBit x n v / 2 ^ n = x / 2 ^ n - x / 2 ^ n % 2 + b2n v := by
  have hp : 0 < 2 ^ n := Nat.two_pow_pos n
  have hm := Nat.div_add_mod x (2 ^ n)
  have hr := Nat.mod_lt x hp
  generalize x / 2 ^ n = q at *
  generalize x % 2 ^ n = r at *
  have hq := Nat.mod_le q 2
  have e : x - q % 2 * 2 ^ n = 2 ^ n * (q - q % 2) + r := by
    rw [← hm, Nat.mul_sub, Nat.mul_comm (q % 2)]
    have := Nat.mul_le_mul_left (2 ^ n) hq
    omega
  unfold putBit b2n
  rw [show x / 2 ^ n = q by rw [← hm, Nat.mul_add_div hp, Nat.div_eq_of_lt hr, Nat.add_zero], e]
  cases v
  · rw [if_neg (by decide), if_neg (by decide), Nat.add_zero, Nat.mul_add_div hp, Nat.div_eq_of_lt hr]
  · rw [if_pos rfl, if_pos rfl, Nat.add_assoc, Nat.add_comm r, ← Nat.add_assoc, ← Nat.mul_succ, Nat.mul_add_div hp, Nat.div_eq_of_lt hr]

@[simp] theorem putBit_bit (x n : Nat) (v : Bool) : bit (putBit x n v) n = v := by
  unfold bit
  rw [putBit_div]
  cases v <;> simp [b2n] <;> omega

theorem becomeReady_low (f : Nat) (s : State) (h : f ≤ 4) : becomeReady f s = setReady f s := by
  unfold becomeReady
  cases hr : s.isReady f with
  | true => unfold setReady; rw [if_pos rfl, if_pos hr]
  | false =>
    have h10 : ¬ f = 10 := by omega
    have h15 : ¬ f = 15 := by omega
    simp only [Bool.false_eq_true, if_false, if_pos h, h10, h15, decide_false, Bool.false_and]

/-- What readiness and events leave of the always-on island. -/
theorem setReady_keep (f : Nat) (s : State) :
    ∃ x y st r c, (setReady f s).aon =
      { s.aon with earlyBuf := x, earlyLost := y, stamps := st, ready := r, changeCnt := c } := by
  cases hr : s.isReady f with
  | true => exact ⟨_, _, _, _, _, by unfold setReady; rw [if_pos hr]⟩
  | false => obtain ⟨x, y, e⟩ := setReady_aon f s hr; exact ⟨_, _, _, _, _, e⟩

theorem becomeReady_isReady (f : Nat) (s : State) : (becomeReady f s).isReady f = true := by
  have h : ∀ t : State, (setReady f t).isReady f = true := fun t => by
    cases hr : t.isReady f with
    | true => unfold setReady; rw [if_pos hr]; exact hr
    | false =>
      obtain ⟨x, y, e⟩ := setReady_aon f t hr
      unfold State.isReady
      rw [e]
      exact putBit_bit _ _ _
  unfold becomeReady
  split
  · assumption
  · exact h _

end Sys2Proof.Machine
end

