-- ==== Sys2Proof/Laws/State.lean ====
section
/-! SUPPORT. One lemma per field of `State` per update of another field. -/

namespace Sys2Proof.Machine

@[simp] theorem State.with_aon_aon (s : State) (v : Aon) : { s with aon := v }.aon = v := rfl
@[simp] theorem State.with_aon_obj (s : State) (v : Aon) : { s with aon := v }.obj = s.obj := rfl
@[simp] theorem State.with_aon_cl (s : State) (v : Aon) : { s with aon := v }.cl = s.cl := rfl
@[simp] theorem State.with_aon_chain (s : State) (v : Aon) : { s with aon := v }.chain = s.chain := rfl
@[simp] theorem State.with_aon_rails (s : State) (v : Aon) : { s with aon := v }.rails = s.rails := rfl
@[simp] theorem State.with_aon_phases (s : State) (v : Aon) : { s with aon := v }.phases = s.phases := rfl
@[simp] theorem State.with_aon_prot (s : State) (v : Aon) : { s with aon := v }.prot = s.prot := rfl
@[simp] theorem State.with_aon_ff (s : State) (v : Aon) : { s with aon := v }.ff = s.ff := rfl
@[simp] theorem State.with_aon_regions (s : State) (v : Aon) : { s with aon := v }.regions = s.regions := rfl
@[simp] theorem State.with_aon_shim (s : State) (v : Aon) : { s with aon := v }.shim = s.shim := rfl
@[simp] theorem State.with_aon_clk (s : State) (v : Aon) : { s with aon := v }.clk = s.clk := rfl
@[simp] theorem State.with_aon_cap (s : State) (v : Aon) : { s with aon := v }.cap = s.cap := rfl
@[simp] theorem State.with_aon_cla (s : State) (v : Aon) : { s with aon := v }.cla = s.cla := rfl
@[simp] theorem State.with_aon_dove (s : State) (v : Aon) : { s with aon := v }.dove = s.dove := rfl
@[simp] theorem State.with_aon_therm (s : State) (v : Aon) : { s with aon := v }.therm = s.therm := rfl
@[simp] theorem State.with_aon_dowel (s : State) (v : Aon) : { s with aon := v }.dowel = s.dowel := rfl
@[simp] theorem State.with_aon_sync (s : State) (v : Aon) : { s with aon := v }.sync = s.sync := rfl
@[simp] theorem State.with_aon_dma (s : State) (v : Aon) : { s with aon := v }.dma = s.dma := rfl
@[simp] theorem State.with_aon_rcd (s : State) (v : Aon) : { s with aon := v }.rcd = s.rcd := rfl
@[simp] theorem State.with_aon_flash (s : State) (v : Aon) : { s with aon := v }.flash = s.flash := rfl
@[simp] theorem State.with_aon_obs (s : State) (v : Aon) : { s with aon := v }.obs = s.obs := rfl
@[simp] theorem State.with_aon_mgt (s : State) (v : Aon) : { s with aon := v }.mgt = s.mgt := rfl
@[simp] theorem State.with_aon_host (s : State) (v : Aon) : { s with aon := v }.host = s.host := rfl
@[simp] theorem State.with_aon_inst (s : State) (v : Aon) : { s with aon := v }.inst = s.inst := rfl
@[simp] theorem State.with_aon_free (s : State) (v : Aon) : { s with aon := v }.free = s.free := rfl
@[simp] theorem State.with_aon_pending (s : State) (v : Aon) : { s with aon := v }.pending = s.pending := rfl
@[simp] theorem State.with_obj_obj (s : State) (v : Obj) : { s with obj := v }.obj = v := rfl
@[simp] theorem State.with_obj_aon (s : State) (v : Obj) : { s with obj := v }.aon = s.aon := rfl
@[simp] theorem State.with_obj_cl (s : State) (v : Obj) : { s with obj := v }.cl = s.cl := rfl
@[simp] theorem State.with_obj_chain (s : State) (v : Obj) : { s with obj := v }.chain = s.chain := rfl
@[simp] theorem State.with_obj_rails (s : State) (v : Obj) : { s with obj := v }.rails = s.rails := rfl
@[simp] theorem State.with_obj_phases (s : State) (v : Obj) : { s with obj := v }.phases = s.phases := rfl
@[simp] theorem State.with_obj_prot (s : State) (v : Obj) : { s with obj := v }.prot = s.prot := rfl
@[simp] theorem State.with_obj_ff (s : State) (v : Obj) : { s with obj := v }.ff = s.ff := rfl
@[simp] theorem State.with_obj_regions (s : State) (v : Obj) : { s with obj := v }.regions = s.regions := rfl
@[simp] theorem State.with_obj_shim (s : State) (v : Obj) : { s with obj := v }.shim = s.shim := rfl
@[simp] theorem State.with_obj_clk (s : State) (v : Obj) : { s with obj := v }.clk = s.clk := rfl
@[simp] theorem State.with_obj_cap (s : State) (v : Obj) : { s with obj := v }.cap = s.cap := rfl
@[simp] theorem State.with_obj_cla (s : State) (v : Obj) : { s with obj := v }.cla = s.cla := rfl
@[simp] theorem State.with_obj_dove (s : State) (v : Obj) : { s with obj := v }.dove = s.dove := rfl
@[simp] theorem State.with_obj_therm (s : State) (v : Obj) : { s with obj := v }.therm = s.therm := rfl
@[simp] theorem State.with_obj_dowel (s : State) (v : Obj) : { s with obj := v }.dowel = s.dowel := rfl
@[simp] theorem State.with_obj_sync (s : State) (v : Obj) : { s with obj := v }.sync = s.sync := rfl
@[simp] theorem State.with_obj_dma (s : State) (v : Obj) : { s with obj := v }.dma = s.dma := rfl
@[simp] theorem State.with_obj_rcd (s : State) (v : Obj) : { s with obj := v }.rcd = s.rcd := rfl
@[simp] theorem State.with_obj_flash (s : State) (v : Obj) : { s with obj := v }.flash = s.flash := rfl
@[simp] theorem State.with_obj_obs (s : State) (v : Obj) : { s with obj := v }.obs = s.obs := rfl
@[simp] theorem State.with_obj_mgt (s : State) (v : Obj) : { s with obj := v }.mgt = s.mgt := rfl
@[simp] theorem State.with_obj_host (s : State) (v : Obj) : { s with obj := v }.host = s.host := rfl
@[simp] theorem State.with_obj_inst (s : State) (v : Obj) : { s with obj := v }.inst = s.inst := rfl
@[simp] theorem State.with_obj_free (s : State) (v : Obj) : { s with obj := v }.free = s.free := rfl
@[simp] theorem State.with_obj_pending (s : State) (v : Obj) : { s with obj := v }.pending = s.pending := rfl
@[simp] theorem State.with_cl_cl (s : State) (v : ClEng) : { s with cl := v }.cl = v := rfl
@[simp] theorem State.with_cl_aon (s : State) (v : ClEng) : { s with cl := v }.aon = s.aon := rfl
@[simp] theorem State.with_cl_obj (s : State) (v : ClEng) : { s with cl := v }.obj = s.obj := rfl
@[simp] theorem State.with_cl_chain (s : State) (v : ClEng) : { s with cl := v }.chain = s.chain := rfl
@[simp] theorem State.with_cl_rails (s : State) (v : ClEng) : { s with cl := v }.rails = s.rails := rfl
@[simp] theorem State.with_cl_phases (s : State) (v : ClEng) : { s with cl := v }.phases = s.phases := rfl
@[simp] theorem State.with_cl_prot (s : State) (v : ClEng) : { s with cl := v }.prot = s.prot := rfl
@[simp] theorem State.with_cl_ff (s : State) (v : ClEng) : { s with cl := v }.ff = s.ff := rfl
@[simp] theorem State.with_cl_regions (s : State) (v : ClEng) : { s with cl := v }.regions = s.regions := rfl
@[simp] theorem State.with_cl_shim (s : State) (v : ClEng) : { s with cl := v }.shim = s.shim := rfl
@[simp] theorem State.with_cl_clk (s : State) (v : ClEng) : { s with cl := v }.clk = s.clk := rfl
@[simp] theorem State.with_cl_cap (s : State) (v : ClEng) : { s with cl := v }.cap = s.cap := rfl
@[simp] theorem State.with_cl_cla (s : State) (v : ClEng) : { s with cl := v }.cla = s.cla := rfl
@[simp] theorem State.with_cl_dove (s : State) (v : ClEng) : { s with cl := v }.dove = s.dove := rfl
@[simp] theorem State.with_cl_therm (s : State) (v : ClEng) : { s with cl := v }.therm = s.therm := rfl
@[simp] theorem State.with_cl_dowel (s : State) (v : ClEng) : { s with cl := v }.dowel = s.dowel := rfl
@[simp] theorem State.with_cl_sync (s : State) (v : ClEng) : { s with cl := v }.sync = s.sync := rfl
@[simp] theorem State.with_cl_dma (s : State) (v : ClEng) : { s with cl := v }.dma = s.dma := rfl
@[simp] theorem State.with_cl_rcd (s : State) (v : ClEng) : { s with cl := v }.rcd = s.rcd := rfl
@[simp] theorem State.with_cl_flash (s : State) (v : ClEng) : { s with cl := v }.flash = s.flash := rfl
@[simp] theorem State.with_cl_obs (s : State) (v : ClEng) : { s with cl := v }.obs = s.obs := rfl
@[simp] theorem State.with_cl_mgt (s : State) (v : ClEng) : { s with cl := v }.mgt = s.mgt := rfl
@[simp] theorem State.with_cl_host (s : State) (v : ClEng) : { s with cl := v }.host = s.host := rfl
@[simp] theorem State.with_cl_inst (s : State) (v : ClEng) : { s with cl := v }.inst = s.inst := rfl
@[simp] theorem State.with_cl_free (s : State) (v : ClEng) : { s with cl := v }.free = s.free := rfl
@[simp] theorem State.with_cl_pending (s : State) (v : ClEng) : { s with cl := v }.pending = s.pending := rfl
@[simp] theorem State.with_chain_chain (s : State) (v : Chain) : { s with chain := v }.chain = v := rfl
@[simp] theorem State.with_chain_aon (s : State) (v : Chain) : { s with chain := v }.aon = s.aon := rfl
@[simp] theorem State.with_chain_obj (s : State) (v : Chain) : { s with chain := v }.obj = s.obj := rfl
@[simp] theorem State.with_chain_cl (s : State) (v : Chain) : { s with chain := v }.cl = s.cl := rfl
@[simp] theorem State.with_chain_rails (s : State) (v : Chain) : { s with chain := v }.rails = s.rails := rfl
@[simp] theorem State.with_chain_phases (s : State) (v : Chain) : { s with chain := v }.phases = s.phases := rfl
@[simp] theorem State.with_chain_prot (s : State) (v : Chain) : { s with chain := v }.prot = s.prot := rfl
@[simp] theorem State.with_chain_ff (s : State) (v : Chain) : { s with chain := v }.ff = s.ff := rfl
@[simp] theorem State.with_chain_regions (s : State) (v : Chain) : { s with chain := v }.regions = s.regions := rfl
@[simp] theorem State.with_chain_shim (s : State) (v : Chain) : { s with chain := v }.shim = s.shim := rfl
@[simp] theorem State.with_chain_clk (s : State) (v : Chain) : { s with chain := v }.clk = s.clk := rfl
@[simp] theorem State.with_chain_cap (s : State) (v : Chain) : { s with chain := v }.cap = s.cap := rfl
@[simp] theorem State.with_chain_cla (s : State) (v : Chain) : { s with chain := v }.cla = s.cla := rfl
@[simp] theorem State.with_chain_dove (s : State) (v : Chain) : { s with chain := v }.dove = s.dove := rfl
@[simp] theorem State.with_chain_therm (s : State) (v : Chain) : { s with chain := v }.therm = s.therm := rfl
@[simp] theorem State.with_chain_dowel (s : State) (v : Chain) : { s with chain := v }.dowel = s.dowel := rfl
@[simp] theorem State.with_chain_sync (s : State) (v : Chain) : { s with chain := v }.sync = s.sync := rfl
@[simp] theorem State.with_chain_dma (s : State) (v : Chain) : { s with chain := v }.dma = s.dma := rfl
@[simp] theorem State.with_chain_rcd (s : State) (v : Chain) : { s with chain := v }.rcd = s.rcd := rfl
@[simp] theorem State.with_chain_flash (s : State) (v : Chain) : { s with chain := v }.flash = s.flash := rfl
@[simp] theorem State.with_chain_obs (s : State) (v : Chain) : { s with chain := v }.obs = s.obs := rfl
@[simp] theorem State.with_chain_mgt (s : State) (v : Chain) : { s with chain := v }.mgt = s.mgt := rfl
@[simp] theorem State.with_chain_host (s : State) (v : Chain) : { s with chain := v }.host = s.host := rfl
@[simp] theorem State.with_chain_inst (s : State) (v : Chain) : { s with chain := v }.inst = s.inst := rfl
@[simp] theorem State.with_chain_free (s : State) (v : Chain) : { s with chain := v }.free = s.free := rfl
@[simp] theorem State.with_chain_pending (s : State) (v : Chain) : { s with chain := v }.pending = s.pending := rfl
@[simp] theorem State.with_rails_rails (s : State) (v : List Rail) : { s with rails := v }.rails = v := rfl
@[simp] theorem State.with_rails_aon (s : State) (v : List Rail) : { s with rails := v }.aon = s.aon := rfl
@[simp] theorem State.with_rails_obj (s : State) (v : List Rail) : { s with rails := v }.obj = s.obj := rfl
@[simp] theorem State.with_rails_cl (s : State) (v : List Rail) : { s with rails := v }.cl = s.cl := rfl
@[simp] theorem State.with_rails_chain (s : State) (v : List Rail) : { s with rails := v }.chain = s.chain := rfl
@[simp] theorem State.with_rails_phases (s : State) (v : List Rail) : { s with rails := v }.phases = s.phases := rfl
@[simp] theorem State.with_rails_prot (s : State) (v : List Rail) : { s with rails := v }.prot = s.prot := rfl
@[simp] theorem State.with_rails_ff (s : State) (v : List Rail) : { s with rails := v }.ff = s.ff := rfl
@[simp] theorem State.with_rails_regions (s : State) (v : List Rail) : { s with rails := v }.regions = s.regions := rfl
@[simp] theorem State.with_rails_shim (s : State) (v : List Rail) : { s with rails := v }.shim = s.shim := rfl
@[simp] theorem State.with_rails_clk (s : State) (v : List Rail) : { s with rails := v }.clk = s.clk := rfl
@[simp] theorem State.with_rails_cap (s : State) (v : List Rail) : { s with rails := v }.cap = s.cap := rfl
@[simp] theorem State.with_rails_cla (s : State) (v : List Rail) : { s with rails := v }.cla = s.cla := rfl
@[simp] theorem State.with_rails_dove (s : State) (v : List Rail) : { s with rails := v }.dove = s.dove := rfl
@[simp] theorem State.with_rails_therm (s : State) (v : List Rail) : { s with rails := v }.therm = s.therm := rfl
@[simp] theorem State.with_rails_dowel (s : State) (v : List Rail) : { s with rails := v }.dowel = s.dowel := rfl
@[simp] theorem State.with_rails_sync (s : State) (v : List Rail) : { s with rails := v }.sync = s.sync := rfl
@[simp] theorem State.with_rails_dma (s : State) (v : List Rail) : { s with rails := v }.dma = s.dma := rfl
@[simp] theorem State.with_rails_rcd (s : State) (v : List Rail) : { s with rails := v }.rcd = s.rcd := rfl
@[simp] theorem State.with_rails_flash (s : State) (v : List Rail) : { s with rails := v }.flash = s.flash := rfl
@[simp] theorem State.with_rails_obs (s : State) (v : List Rail) : { s with rails := v }.obs = s.obs := rfl
@[simp] theorem State.with_rails_mgt (s : State) (v : List Rail) : { s with rails := v }.mgt = s.mgt := rfl
@[simp] theorem State.with_rails_host (s : State) (v : List Rail) : { s with rails := v }.host = s.host := rfl
@[simp] theorem State.with_rails_inst (s : State) (v : List Rail) : { s with rails := v }.inst = s.inst := rfl
@[simp] theorem State.with_rails_free (s : State) (v : List Rail) : { s with rails := v }.free = s.free := rfl
@[simp] theorem State.with_rails_pending (s : State) (v : List Rail) : { s with rails := v }.pending = s.pending := rfl
@[simp] theorem State.with_phases_phases (s : State) (v : List Phase) : { s with phases := v }.phases = v := rfl
@[simp] theorem State.with_phases_aon (s : State) (v : List Phase) : { s with phases := v }.aon = s.aon := rfl
@[simp] theorem State.with_phases_obj (s : State) (v : List Phase) : { s with phases := v }.obj = s.obj := rfl
@[simp] theorem State.with_phases_cl (s : State) (v : List Phase) : { s with phases := v }.cl = s.cl := rfl
@[simp] theorem State.with_phases_chain (s : State) (v : List Phase) : { s with phases := v }.chain = s.chain := rfl
@[simp] theorem State.with_phases_rails (s : State) (v : List Phase) : { s with phases := v }.rails = s.rails := rfl
@[simp] theorem State.with_phases_prot (s : State) (v : List Phase) : { s with phases := v }.prot = s.prot := rfl
@[simp] theorem State.with_phases_ff (s : State) (v : List Phase) : { s with phases := v }.ff = s.ff := rfl
@[simp] theorem State.with_phases_regions (s : State) (v : List Phase) : { s with phases := v }.regions = s.regions := rfl
@[simp] theorem State.with_phases_shim (s : State) (v : List Phase) : { s with phases := v }.shim = s.shim := rfl
@[simp] theorem State.with_phases_clk (s : State) (v : List Phase) : { s with phases := v }.clk = s.clk := rfl
@[simp] theorem State.with_phases_cap (s : State) (v : List Phase) : { s with phases := v }.cap = s.cap := rfl
@[simp] theorem State.with_phases_cla (s : State) (v : List Phase) : { s with phases := v }.cla = s.cla := rfl
@[simp] theorem State.with_phases_dove (s : State) (v : List Phase) : { s with phases := v }.dove = s.dove := rfl
@[simp] theorem State.with_phases_therm (s : State) (v : List Phase) : { s with phases := v }.therm = s.therm := rfl
@[simp] theorem State.with_phases_dowel (s : State) (v : List Phase) : { s with phases := v }.dowel = s.dowel := rfl
@[simp] theorem State.with_phases_sync (s : State) (v : List Phase) : { s with phases := v }.sync = s.sync := rfl
@[simp] theorem State.with_phases_dma (s : State) (v : List Phase) : { s with phases := v }.dma = s.dma := rfl
@[simp] theorem State.with_phases_rcd (s : State) (v : List Phase) : { s with phases := v }.rcd = s.rcd := rfl
@[simp] theorem State.with_phases_flash (s : State) (v : List Phase) : { s with phases := v }.flash = s.flash := rfl
@[simp] theorem State.with_phases_obs (s : State) (v : List Phase) : { s with phases := v }.obs = s.obs := rfl
@[simp] theorem State.with_phases_mgt (s : State) (v : List Phase) : { s with phases := v }.mgt = s.mgt := rfl
@[simp] theorem State.with_phases_host (s : State) (v : List Phase) : { s with phases := v }.host = s.host := rfl
@[simp] theorem State.with_phases_inst (s : State) (v : List Phase) : { s with phases := v }.inst = s.inst := rfl
@[simp] theorem State.with_phases_free (s : State) (v : List Phase) : { s with phases := v }.free = s.free := rfl
@[simp] theorem State.with_phases_pending (s : State) (v : List Phase) : { s with phases := v }.pending = s.pending := rfl
@[simp] theorem State.with_prot_prot (s : State) (v : Prot) : { s with prot := v }.prot = v := rfl
@[simp] theorem State.with_prot_aon (s : State) (v : Prot) : { s with prot := v }.aon = s.aon := rfl
@[simp] theorem State.with_prot_obj (s : State) (v : Prot) : { s with prot := v }.obj = s.obj := rfl
@[simp] theorem State.with_prot_cl (s : State) (v : Prot) : { s with prot := v }.cl = s.cl := rfl
@[simp] theorem State.with_prot_chain (s : State) (v : Prot) : { s with prot := v }.chain = s.chain := rfl
@[simp] theorem State.with_prot_rails (s : State) (v : Prot) : { s with prot := v }.rails = s.rails := rfl
@[simp] theorem State.with_prot_phases (s : State) (v : Prot) : { s with prot := v }.phases = s.phases := rfl
@[simp] theorem State.with_prot_ff (s : State) (v : Prot) : { s with prot := v }.ff = s.ff := rfl
@[simp] theorem State.with_prot_regions (s : State) (v : Prot) : { s with prot := v }.regions = s.regions := rfl
@[simp] theorem State.with_prot_shim (s : State) (v : Prot) : { s with prot := v }.shim = s.shim := rfl
@[simp] theorem State.with_prot_clk (s : State) (v : Prot) : { s with prot := v }.clk = s.clk := rfl
@[simp] theorem State.with_prot_cap (s : State) (v : Prot) : { s with prot := v }.cap = s.cap := rfl
@[simp] theorem State.with_prot_cla (s : State) (v : Prot) : { s with prot := v }.cla = s.cla := rfl
@[simp] theorem State.with_prot_dove (s : State) (v : Prot) : { s with prot := v }.dove = s.dove := rfl
@[simp] theorem State.with_prot_therm (s : State) (v : Prot) : { s with prot := v }.therm = s.therm := rfl
@[simp] theorem State.with_prot_dowel (s : State) (v : Prot) : { s with prot := v }.dowel = s.dowel := rfl
@[simp] theorem State.with_prot_sync (s : State) (v : Prot) : { s with prot := v }.sync = s.sync := rfl
@[simp] theorem State.with_prot_dma (s : State) (v : Prot) : { s with prot := v }.dma = s.dma := rfl
@[simp] theorem State.with_prot_rcd (s : State) (v : Prot) : { s with prot := v }.rcd = s.rcd := rfl
@[simp] theorem State.with_prot_flash (s : State) (v : Prot) : { s with prot := v }.flash = s.flash := rfl
@[simp] theorem State.with_prot_obs (s : State) (v : Prot) : { s with prot := v }.obs = s.obs := rfl
@[simp] theorem State.with_prot_mgt (s : State) (v : Prot) : { s with prot := v }.mgt = s.mgt := rfl
@[simp] theorem State.with_prot_host (s : State) (v : Prot) : { s with prot := v }.host = s.host := rfl
@[simp] theorem State.with_prot_inst (s : State) (v : Prot) : { s with prot := v }.inst = s.inst := rfl
@[simp] theorem State.with_prot_free (s : State) (v : Prot) : { s with prot := v }.free = s.free := rfl
@[simp] theorem State.with_prot_pending (s : State) (v : Prot) : { s with prot := v }.pending = s.pending := rfl
@[simp] theorem State.with_ff_ff (s : State) (v : Ff) : { s with ff := v }.ff = v := rfl
@[simp] theorem State.with_ff_aon (s : State) (v : Ff) : { s with ff := v }.aon = s.aon := rfl
@[simp] theorem State.with_ff_obj (s : State) (v : Ff) : { s with ff := v }.obj = s.obj := rfl
@[simp] theorem State.with_ff_cl (s : State) (v : Ff) : { s with ff := v }.cl = s.cl := rfl
@[simp] theorem State.with_ff_chain (s : State) (v : Ff) : { s with ff := v }.chain = s.chain := rfl
@[simp] theorem State.with_ff_rails (s : State) (v : Ff) : { s with ff := v }.rails = s.rails := rfl
@[simp] theorem State.with_ff_phases (s : State) (v : Ff) : { s with ff := v }.phases = s.phases := rfl
@[simp] theorem State.with_ff_prot (s : State) (v : Ff) : { s with ff := v }.prot = s.prot := rfl
@[simp] theorem State.with_ff_regions (s : State) (v : Ff) : { s with ff := v }.regions = s.regions := rfl
@[simp] theorem State.with_ff_shim (s : State) (v : Ff) : { s with ff := v }.shim = s.shim := rfl
@[simp] theorem State.with_ff_clk (s : State) (v : Ff) : { s with ff := v }.clk = s.clk := rfl
@[simp] theorem State.with_ff_cap (s : State) (v : Ff) : { s with ff := v }.cap = s.cap := rfl
@[simp] theorem State.with_ff_cla (s : State) (v : Ff) : { s with ff := v }.cla = s.cla := rfl
@[simp] theorem State.with_ff_dove (s : State) (v : Ff) : { s with ff := v }.dove = s.dove := rfl
@[simp] theorem State.with_ff_therm (s : State) (v : Ff) : { s with ff := v }.therm = s.therm := rfl
@[simp] theorem State.with_ff_dowel (s : State) (v : Ff) : { s with ff := v }.dowel = s.dowel := rfl
@[simp] theorem State.with_ff_sync (s : State) (v : Ff) : { s with ff := v }.sync = s.sync := rfl
@[simp] theorem State.with_ff_dma (s : State) (v : Ff) : { s with ff := v }.dma = s.dma := rfl
@[simp] theorem State.with_ff_rcd (s : State) (v : Ff) : { s with ff := v }.rcd = s.rcd := rfl
@[simp] theorem State.with_ff_flash (s : State) (v : Ff) : { s with ff := v }.flash = s.flash := rfl
@[simp] theorem State.with_ff_obs (s : State) (v : Ff) : { s with ff := v }.obs = s.obs := rfl
@[simp] theorem State.with_ff_mgt (s : State) (v : Ff) : { s with ff := v }.mgt = s.mgt := rfl
@[simp] theorem State.with_ff_host (s : State) (v : Ff) : { s with ff := v }.host = s.host := rfl
@[simp] theorem State.with_ff_inst (s : State) (v : Ff) : { s with ff := v }.inst = s.inst := rfl
@[simp] theorem State.with_ff_free (s : State) (v : Ff) : { s with ff := v }.free = s.free := rfl
@[simp] theorem State.with_ff_pending (s : State) (v : Ff) : { s with ff := v }.pending = s.pending := rfl
@[simp] theorem State.with_regions_regions (s : State) (v : List Region) : { s with regions := v }.regions = v := rfl
@[simp] theorem State.with_regions_aon (s : State) (v : List Region) : { s with regions := v }.aon = s.aon := rfl
@[simp] theorem State.with_regions_obj (s : State) (v : List Region) : { s with regions := v }.obj = s.obj := rfl
@[simp] theorem State.with_regions_cl (s : State) (v : List Region) : { s with regions := v }.cl = s.cl := rfl
@[simp] theorem State.with_regions_chain (s : State) (v : List Region) : { s with regions := v }.chain = s.chain := rfl
@[simp] theorem State.with_regions_rails (s : State) (v : List Region) : { s with regions := v }.rails = s.rails := rfl
@[simp] theorem State.with_regions_phases (s : State) (v : List Region) : { s with regions := v }.phases = s.phases := rfl
@[simp] theorem State.with_regions_prot (s : State) (v : List Region) : { s with regions := v }.prot = s.prot := rfl
@[simp] theorem State.with_regions_ff (s : State) (v : List Region) : { s with regions := v }.ff = s.ff := rfl
@[simp] theorem State.with_regions_shim (s : State) (v : List Region) : { s with regions := v }.shim = s.shim := rfl
@[simp] theorem State.with_regions_clk (s : State) (v : List Region) : { s with regions := v }.clk = s.clk := rfl
@[simp] theorem State.with_regions_cap (s : State) (v : List Region) : { s with regions := v }.cap = s.cap := rfl
@[simp] theorem State.with_regions_cla (s : State) (v : List Region) : { s with regions := v }.cla = s.cla := rfl
@[simp] theorem State.with_regions_dove (s : State) (v : List Region) : { s with regions := v }.dove = s.dove := rfl
@[simp] theorem State.with_regions_therm (s : State) (v : List Region) : { s with regions := v }.therm = s.therm := rfl
@[simp] theorem State.with_regions_dowel (s : State) (v : List Region) : { s with regions := v }.dowel = s.dowel := rfl
@[simp] theorem State.with_regions_sync (s : State) (v : List Region) : { s with regions := v }.sync = s.sync := rfl
@[simp] theorem State.with_regions_dma (s : State) (v : List Region) : { s with regions := v }.dma = s.dma := rfl
@[simp] theorem State.with_regions_rcd (s : State) (v : List Region) : { s with regions := v }.rcd = s.rcd := rfl
@[simp] theorem State.with_regions_flash (s : State) (v : List Region) : { s with regions := v }.flash = s.flash := rfl
@[simp] theorem State.with_regions_obs (s : State) (v : List Region) : { s with regions := v }.obs = s.obs := rfl
@[simp] theorem State.with_regions_mgt (s : State) (v : List Region) : { s with regions := v }.mgt = s.mgt := rfl
@[simp] theorem State.with_regions_host (s : State) (v : List Region) : { s with regions := v }.host = s.host := rfl
@[simp] theorem State.with_regions_inst (s : State) (v : List Region) : { s with regions := v }.inst = s.inst := rfl
@[simp] theorem State.with_regions_free (s : State) (v : List Region) : { s with regions := v }.free = s.free := rfl
@[simp] theorem State.with_regions_pending (s : State) (v : List Region) : { s with regions := v }.pending = s.pending := rfl
@[simp] theorem State.with_shim_shim (s : State) (v : Shim) : { s with shim := v }.shim = v := rfl
@[simp] theorem State.with_shim_aon (s : State) (v : Shim) : { s with shim := v }.aon = s.aon := rfl
@[simp] theorem State.with_shim_obj (s : State) (v : Shim) : { s with shim := v }.obj = s.obj := rfl
@[simp] theorem State.with_shim_cl (s : State) (v : Shim) : { s with shim := v }.cl = s.cl := rfl
@[simp] theorem State.with_shim_chain (s : State) (v : Shim) : { s with shim := v }.chain = s.chain := rfl
@[simp] theorem State.with_shim_rails (s : State) (v : Shim) : { s with shim := v }.rails = s.rails := rfl
@[simp] theorem State.with_shim_phases (s : State) (v : Shim) : { s with shim := v }.phases = s.phases := rfl
@[simp] theorem State.with_shim_prot (s : State) (v : Shim) : { s with shim := v }.prot = s.prot := rfl
@[simp] theorem State.with_shim_ff (s : State) (v : Shim) : { s with shim := v }.ff = s.ff := rfl
@[simp] theorem State.with_shim_regions (s : State) (v : Shim) : { s with shim := v }.regions = s.regions := rfl
@[simp] theorem State.with_shim_clk (s : State) (v : Shim) : { s with shim := v }.clk = s.clk := rfl
@[simp] theorem State.with_shim_cap (s : State) (v : Shim) : { s with shim := v }.cap = s.cap := rfl
@[simp] theorem State.with_shim_cla (s : State) (v : Shim) : { s with shim := v }.cla = s.cla := rfl
@[simp] theorem State.with_shim_dove (s : State) (v : Shim) : { s with shim := v }.dove = s.dove := rfl
@[simp] theorem State.with_shim_therm (s : State) (v : Shim) : { s with shim := v }.therm = s.therm := rfl
@[simp] theorem State.with_shim_dowel (s : State) (v : Shim) : { s with shim := v }.dowel = s.dowel := rfl
@[simp] theorem State.with_shim_sync (s : State) (v : Shim) : { s with shim := v }.sync = s.sync := rfl
@[simp] theorem State.with_shim_dma (s : State) (v : Shim) : { s with shim := v }.dma = s.dma := rfl
@[simp] theorem State.with_shim_rcd (s : State) (v : Shim) : { s with shim := v }.rcd = s.rcd := rfl
@[simp] theorem State.with_shim_flash (s : State) (v : Shim) : { s with shim := v }.flash = s.flash := rfl
@[simp] theorem State.with_shim_obs (s : State) (v : Shim) : { s with shim := v }.obs = s.obs := rfl
@[simp] theorem State.with_shim_mgt (s : State) (v : Shim) : { s with shim := v }.mgt = s.mgt := rfl
@[simp] theorem State.with_shim_host (s : State) (v : Shim) : { s with shim := v }.host = s.host := rfl
@[simp] theorem State.with_shim_inst (s : State) (v : Shim) : { s with shim := v }.inst = s.inst := rfl
@[simp] theorem State.with_shim_free (s : State) (v : Shim) : { s with shim := v }.free = s.free := rfl
@[simp] theorem State.with_shim_pending (s : State) (v : Shim) : { s with shim := v }.pending = s.pending := rfl
@[simp] theorem State.with_clk_clk (s : State) (v : Clk) : { s with clk := v }.clk = v := rfl
@[simp] theorem State.with_clk_aon (s : State) (v : Clk) : { s with clk := v }.aon = s.aon := rfl
@[simp] theorem State.with_clk_obj (s : State) (v : Clk) : { s with clk := v }.obj = s.obj := rfl
@[simp] theorem State.with_clk_cl (s : State) (v : Clk) : { s with clk := v }.cl = s.cl := rfl
@[simp] theorem State.with_clk_chain (s : State) (v : Clk) : { s with clk := v }.chain = s.chain := rfl
@[simp] theorem State.with_clk_rails (s : State) (v : Clk) : { s with clk := v }.rails = s.rails := rfl
@[simp] theorem State.with_clk_phases (s : State) (v : Clk) : { s with clk := v }.phases = s.phases := rfl
@[simp] theorem State.with_clk_prot (s : State) (v : Clk) : { s with clk := v }.prot = s.prot := rfl
@[simp] theorem State.with_clk_ff (s : State) (v : Clk) : { s with clk := v }.ff = s.ff := rfl
@[simp] theorem State.with_clk_regions (s : State) (v : Clk) : { s with clk := v }.regions = s.regions := rfl
@[simp] theorem State.with_clk_shim (s : State) (v : Clk) : { s with clk := v }.shim = s.shim := rfl
@[simp] theorem State.with_clk_cap (s : State) (v : Clk) : { s with clk := v }.cap = s.cap := rfl
@[simp] theorem State.with_clk_cla (s : State) (v : Clk) : { s with clk := v }.cla = s.cla := rfl
@[simp] theorem State.with_clk_dove (s : State) (v : Clk) : { s with clk := v }.dove = s.dove := rfl
@[simp] theorem State.with_clk_therm (s : State) (v : Clk) : { s with clk := v }.therm = s.therm := rfl
@[simp] theorem State.with_clk_dowel (s : State) (v : Clk) : { s with clk := v }.dowel = s.dowel := rfl
@[simp] theorem State.with_clk_sync (s : State) (v : Clk) : { s with clk := v }.sync = s.sync := rfl
@[simp] theorem State.with_clk_dma (s : State) (v : Clk) : { s with clk := v }.dma = s.dma := rfl
@[simp] theorem State.with_clk_rcd (s : State) (v : Clk) : { s with clk := v }.rcd = s.rcd := rfl
@[simp] theorem State.with_clk_flash (s : State) (v : Clk) : { s with clk := v }.flash = s.flash := rfl
@[simp] theorem State.with_clk_obs (s : State) (v : Clk) : { s with clk := v }.obs = s.obs := rfl
@[simp] theorem State.with_clk_mgt (s : State) (v : Clk) : { s with clk := v }.mgt = s.mgt := rfl
@[simp] theorem State.with_clk_host (s : State) (v : Clk) : { s with clk := v }.host = s.host := rfl
@[simp] theorem State.with_clk_inst (s : State) (v : Clk) : { s with clk := v }.inst = s.inst := rfl
@[simp] theorem State.with_clk_free (s : State) (v : Clk) : { s with clk := v }.free = s.free := rfl
@[simp] theorem State.with_clk_pending (s : State) (v : Clk) : { s with clk := v }.pending = s.pending := rfl
@[simp] theorem State.with_cap_cap (s : State) (v : Cap) : { s with cap := v }.cap = v := rfl
@[simp] theorem State.with_cap_aon (s : State) (v : Cap) : { s with cap := v }.aon = s.aon := rfl
@[simp] theorem State.with_cap_obj (s : State) (v : Cap) : { s with cap := v }.obj = s.obj := rfl
@[simp] theorem State.with_cap_cl (s : State) (v : Cap) : { s with cap := v }.cl = s.cl := rfl
@[simp] theorem State.with_cap_chain (s : State) (v : Cap) : { s with cap := v }.chain = s.chain := rfl
@[simp] theorem State.with_cap_rails (s : State) (v : Cap) : { s with cap := v }.rails = s.rails := rfl
@[simp] theorem State.with_cap_phases (s : State) (v : Cap) : { s with cap := v }.phases = s.phases := rfl
@[simp] theorem State.with_cap_prot (s : State) (v : Cap) : { s with cap := v }.prot = s.prot := rfl
@[simp] theorem State.with_cap_ff (s : State) (v : Cap) : { s with cap := v }.ff = s.ff := rfl
@[simp] theorem State.with_cap_regions (s : State) (v : Cap) : { s with cap := v }.regions = s.regions := rfl
@[simp] theorem State.with_cap_shim (s : State) (v : Cap) : { s with cap := v }.shim = s.shim := rfl
@[simp] theorem State.with_cap_clk (s : State) (v : Cap) : { s with cap := v }.clk = s.clk := rfl
@[simp] theorem State.with_cap_cla (s : State) (v : Cap) : { s with cap := v }.cla = s.cla := rfl
@[simp] theorem State.with_cap_dove (s : State) (v : Cap) : { s with cap := v }.dove = s.dove := rfl
@[simp] theorem State.with_cap_therm (s : State) (v : Cap) : { s with cap := v }.therm = s.therm := rfl
@[simp] theorem State.with_cap_dowel (s : State) (v : Cap) : { s with cap := v }.dowel = s.dowel := rfl
@[simp] theorem State.with_cap_sync (s : State) (v : Cap) : { s with cap := v }.sync = s.sync := rfl
@[simp] theorem State.with_cap_dma (s : State) (v : Cap) : { s with cap := v }.dma = s.dma := rfl
@[simp] theorem State.with_cap_rcd (s : State) (v : Cap) : { s with cap := v }.rcd = s.rcd := rfl
@[simp] theorem State.with_cap_flash (s : State) (v : Cap) : { s with cap := v }.flash = s.flash := rfl
@[simp] theorem State.with_cap_obs (s : State) (v : Cap) : { s with cap := v }.obs = s.obs := rfl
@[simp] theorem State.with_cap_mgt (s : State) (v : Cap) : { s with cap := v }.mgt = s.mgt := rfl
@[simp] theorem State.with_cap_host (s : State) (v : Cap) : { s with cap := v }.host = s.host := rfl
@[simp] theorem State.with_cap_inst (s : State) (v : Cap) : { s with cap := v }.inst = s.inst := rfl
@[simp] theorem State.with_cap_free (s : State) (v : Cap) : { s with cap := v }.free = s.free := rfl
@[simp] theorem State.with_cap_pending (s : State) (v : Cap) : { s with cap := v }.pending = s.pending := rfl
@[simp] theorem State.with_cla_cla (s : State) (v : Clamp) : { s with cla := v }.cla = v := rfl
@[simp] theorem State.with_cla_aon (s : State) (v : Clamp) : { s with cla := v }.aon = s.aon := rfl
@[simp] theorem State.with_cla_obj (s : State) (v : Clamp) : { s with cla := v }.obj = s.obj := rfl
@[simp] theorem State.with_cla_cl (s : State) (v : Clamp) : { s with cla := v }.cl = s.cl := rfl
@[simp] theorem State.with_cla_chain (s : State) (v : Clamp) : { s with cla := v }.chain = s.chain := rfl
@[simp] theorem State.with_cla_rails (s : State) (v : Clamp) : { s with cla := v }.rails = s.rails := rfl
@[simp] theorem State.with_cla_phases (s : State) (v : Clamp) : { s with cla := v }.phases = s.phases := rfl
@[simp] theorem State.with_cla_prot (s : State) (v : Clamp) : { s with cla := v }.prot = s.prot := rfl
@[simp] theorem State.with_cla_ff (s : State) (v : Clamp) : { s with cla := v }.ff = s.ff := rfl
@[simp] theorem State.with_cla_regions (s : State) (v : Clamp) : { s with cla := v }.regions = s.regions := rfl
@[simp] theorem State.with_cla_shim (s : State) (v : Clamp) : { s with cla := v }.shim = s.shim := rfl
@[simp] theorem State.with_cla_clk (s : State) (v : Clamp) : { s with cla := v }.clk = s.clk := rfl
@[simp] theorem State.with_cla_cap (s : State) (v : Clamp) : { s with cla := v }.cap = s.cap := rfl
@[simp] theorem State.with_cla_dove (s : State) (v : Clamp) : { s with cla := v }.dove = s.dove := rfl
@[simp] theorem State.with_cla_therm (s : State) (v : Clamp) : { s with cla := v }.therm = s.therm := rfl
@[simp] theorem State.with_cla_dowel (s : State) (v : Clamp) : { s with cla := v }.dowel = s.dowel := rfl
@[simp] theorem State.with_cla_sync (s : State) (v : Clamp) : { s with cla := v }.sync = s.sync := rfl
@[simp] theorem State.with_cla_dma (s : State) (v : Clamp) : { s with cla := v }.dma = s.dma := rfl
@[simp] theorem State.with_cla_rcd (s : State) (v : Clamp) : { s with cla := v }.rcd = s.rcd := rfl
@[simp] theorem State.with_cla_flash (s : State) (v : Clamp) : { s with cla := v }.flash = s.flash := rfl
@[simp] theorem State.with_cla_obs (s : State) (v : Clamp) : { s with cla := v }.obs = s.obs := rfl
@[simp] theorem State.with_cla_mgt (s : State) (v : Clamp) : { s with cla := v }.mgt = s.mgt := rfl
@[simp] theorem State.with_cla_host (s : State) (v : Clamp) : { s with cla := v }.host = s.host := rfl
@[simp] theorem State.with_cla_inst (s : State) (v : Clamp) : { s with cla := v }.inst = s.inst := rfl
@[simp] theorem State.with_cla_free (s : State) (v : Clamp) : { s with cla := v }.free = s.free := rfl
@[simp] theorem State.with_cla_pending (s : State) (v : Clamp) : { s with cla := v }.pending = s.pending := rfl
@[simp] theorem State.with_dove_dove (s : State) (v : Dove) : { s with dove := v }.dove = v := rfl
@[simp] theorem State.with_dove_aon (s : State) (v : Dove) : { s with dove := v }.aon = s.aon := rfl
@[simp] theorem State.with_dove_obj (s : State) (v : Dove) : { s with dove := v }.obj = s.obj := rfl
@[simp] theorem State.with_dove_cl (s : State) (v : Dove) : { s with dove := v }.cl = s.cl := rfl
@[simp] theorem State.with_dove_chain (s : State) (v : Dove) : { s with dove := v }.chain = s.chain := rfl
@[simp] theorem State.with_dove_rails (s : State) (v : Dove) : { s with dove := v }.rails = s.rails := rfl
@[simp] theorem State.with_dove_phases (s : State) (v : Dove) : { s with dove := v }.phases = s.phases := rfl
@[simp] theorem State.with_dove_prot (s : State) (v : Dove) : { s with dove := v }.prot = s.prot := rfl
@[simp] theorem State.with_dove_ff (s : State) (v : Dove) : { s with dove := v }.ff = s.ff := rfl
@[simp] theorem State.with_dove_regions (s : State) (v : Dove) : { s with dove := v }.regions = s.regions := rfl
@[simp] theorem State.with_dove_shim (s : State) (v : Dove) : { s with dove := v }.shim = s.shim := rfl
@[simp] theorem State.with_dove_clk (s : State) (v : Dove) : { s with dove := v }.clk = s.clk := rfl
@[simp] theorem State.with_dove_cap (s : State) (v : Dove) : { s with dove := v }.cap = s.cap := rfl
@[simp] theorem State.with_dove_cla (s : State) (v : Dove) : { s with dove := v }.cla = s.cla := rfl
@[simp] theorem State.with_dove_therm (s : State) (v : Dove) : { s with dove := v }.therm = s.therm := rfl
@[simp] theorem State.with_dove_dowel (s : State) (v : Dove) : { s with dove := v }.dowel = s.dowel := rfl
@[simp] theorem State.with_dove_sync (s : State) (v : Dove) : { s with dove := v }.sync = s.sync := rfl
@[simp] theorem State.with_dove_dma (s : State) (v : Dove) : { s with dove := v }.dma = s.dma := rfl
@[simp] theorem State.with_dove_rcd (s : State) (v : Dove) : { s with dove := v }.rcd = s.rcd := rfl
@[simp] theorem State.with_dove_flash (s : State) (v : Dove) : { s with dove := v }.flash = s.flash := rfl
@[simp] theorem State.with_dove_obs (s : State) (v : Dove) : { s with dove := v }.obs = s.obs := rfl
@[simp] theorem State.with_dove_mgt (s : State) (v : Dove) : { s with dove := v }.mgt = s.mgt := rfl
@[simp] theorem State.with_dove_host (s : State) (v : Dove) : { s with dove := v }.host = s.host := rfl
@[simp] theorem State.with_dove_inst (s : State) (v : Dove) : { s with dove := v }.inst = s.inst := rfl
@[simp] theorem State.with_dove_free (s : State) (v : Dove) : { s with dove := v }.free = s.free := rfl
@[simp] theorem State.with_dove_pending (s : State) (v : Dove) : { s with dove := v }.pending = s.pending := rfl
@[simp] theorem State.with_therm_therm (s : State) (v : Therm) : { s with therm := v }.therm = v := rfl
@[simp] theorem State.with_therm_aon (s : State) (v : Therm) : { s with therm := v }.aon = s.aon := rfl
@[simp] theorem State.with_therm_obj (s : State) (v : Therm) : { s with therm := v }.obj = s.obj := rfl
@[simp] theorem State.with_therm_cl (s : State) (v : Therm) : { s with therm := v }.cl = s.cl := rfl
@[simp] theorem State.with_therm_chain (s : State) (v : Therm) : { s with therm := v }.chain = s.chain := rfl
@[simp] theorem State.with_therm_rails (s : State) (v : Therm) : { s with therm := v }.rails = s.rails := rfl
@[simp] theorem State.with_therm_phases (s : State) (v : Therm) : { s with therm := v }.phases = s.phases := rfl
@[simp] theorem State.with_therm_prot (s : State) (v : Therm) : { s with therm := v }.prot = s.prot := rfl
@[simp] theorem State.with_therm_ff (s : State) (v : Therm) : { s with therm := v }.ff = s.ff := rfl
@[simp] theorem State.with_therm_regions (s : State) (v : Therm) : { s with therm := v }.regions = s.regions := rfl
@[simp] theorem State.with_therm_shim (s : State) (v : Therm) : { s with therm := v }.shim = s.shim := rfl
@[simp] theorem State.with_therm_clk (s : State) (v : Therm) : { s with therm := v }.clk = s.clk := rfl
@[simp] theorem State.with_therm_cap (s : State) (v : Therm) : { s with therm := v }.cap = s.cap := rfl
@[simp] theorem State.with_therm_cla (s : State) (v : Therm) : { s with therm := v }.cla = s.cla := rfl
@[simp] theorem State.with_therm_dove (s : State) (v : Therm) : { s with therm := v }.dove = s.dove := rfl
@[simp] theorem State.with_therm_dowel (s : State) (v : Therm) : { s with therm := v }.dowel = s.dowel := rfl
@[simp] theorem State.with_therm_sync (s : State) (v : Therm) : { s with therm := v }.sync = s.sync := rfl
@[simp] theorem State.with_therm_dma (s : State) (v : Therm) : { s with therm := v }.dma = s.dma := rfl
@[simp] theorem State.with_therm_rcd (s : State) (v : Therm) : { s with therm := v }.rcd = s.rcd := rfl
@[simp] theorem State.with_therm_flash (s : State) (v : Therm) : { s with therm := v }.flash = s.flash := rfl
@[simp] theorem State.with_therm_obs (s : State) (v : Therm) : { s with therm := v }.obs = s.obs := rfl
@[simp] theorem State.with_therm_mgt (s : State) (v : Therm) : { s with therm := v }.mgt = s.mgt := rfl
@[simp] theorem State.with_therm_host (s : State) (v : Therm) : { s with therm := v }.host = s.host := rfl
@[simp] theorem State.with_therm_inst (s : State) (v : Therm) : { s with therm := v }.inst = s.inst := rfl
@[simp] theorem State.with_therm_free (s : State) (v : Therm) : { s with therm := v }.free = s.free := rfl
@[simp] theorem State.with_therm_pending (s : State) (v : Therm) : { s with therm := v }.pending = s.pending := rfl
@[simp] theorem State.with_dowel_dowel (s : State) (v : Dowel) : { s with dowel := v }.dowel = v := rfl
@[simp] theorem State.with_dowel_aon (s : State) (v : Dowel) : { s with dowel := v }.aon = s.aon := rfl
@[simp] theorem State.with_dowel_obj (s : State) (v : Dowel) : { s with dowel := v }.obj = s.obj := rfl
@[simp] theorem State.with_dowel_cl (s : State) (v : Dowel) : { s with dowel := v }.cl = s.cl := rfl
@[simp] theorem State.with_dowel_chain (s : State) (v : Dowel) : { s with dowel := v }.chain = s.chain := rfl
@[simp] theorem State.with_dowel_rails (s : State) (v : Dowel) : { s with dowel := v }.rails = s.rails := rfl
@[simp] theorem State.with_dowel_phases (s : State) (v : Dowel) : { s with dowel := v }.phases = s.phases := rfl
@[simp] theorem State.with_dowel_prot (s : State) (v : Dowel) : { s with dowel := v }.prot = s.prot := rfl
@[simp] theorem State.with_dowel_ff (s : State) (v : Dowel) : { s with dowel := v }.ff = s.ff := rfl
@[simp] theorem State.with_dowel_regions (s : State) (v : Dowel) : { s with dowel := v }.regions = s.regions := rfl
@[simp] theorem State.with_dowel_shim (s : State) (v : Dowel) : { s with dowel := v }.shim = s.shim := rfl
@[simp] theorem State.with_dowel_clk (s : State) (v : Dowel) : { s with dowel := v }.clk = s.clk := rfl
@[simp] theorem State.with_dowel_cap (s : State) (v : Dowel) : { s with dowel := v }.cap = s.cap := rfl
@[simp] theorem State.with_dowel_cla (s : State) (v : Dowel) : { s with dowel := v }.cla = s.cla := rfl
@[simp] theorem State.with_dowel_dove (s : State) (v : Dowel) : { s with dowel := v }.dove = s.dove := rfl
@[simp] theorem State.with_dowel_therm (s : State) (v : Dowel) : { s with dowel := v }.therm = s.therm := rfl
@[simp] theorem State.with_dowel_sync (s : State) (v : Dowel) : { s with dowel := v }.sync = s.sync := rfl
@[simp] theorem State.with_dowel_dma (s : State) (v : Dowel) : { s with dowel := v }.dma = s.dma := rfl
@[simp] theorem State.with_dowel_rcd (s : State) (v : Dowel) : { s with dowel := v }.rcd = s.rcd := rfl
@[simp] theorem State.with_dowel_flash (s : State) (v : Dowel) : { s with dowel := v }.flash = s.flash := rfl
@[simp] theorem State.with_dowel_obs (s : State) (v : Dowel) : { s with dowel := v }.obs = s.obs := rfl
@[simp] theorem State.with_dowel_mgt (s : State) (v : Dowel) : { s with dowel := v }.mgt = s.mgt := rfl
@[simp] theorem State.with_dowel_host (s : State) (v : Dowel) : { s with dowel := v }.host = s.host := rfl
@[simp] theorem State.with_dowel_inst (s : State) (v : Dowel) : { s with dowel := v }.inst = s.inst := rfl
@[simp] theorem State.with_dowel_free (s : State) (v : Dowel) : { s with dowel := v }.free = s.free := rfl
@[simp] theorem State.with_dowel_pending (s : State) (v : Dowel) : { s with dowel := v }.pending = s.pending := rfl
@[simp] theorem State.with_sync_sync (s : State) (v : Sync) : { s with sync := v }.sync = v := rfl
@[simp] theorem State.with_sync_aon (s : State) (v : Sync) : { s with sync := v }.aon = s.aon := rfl
@[simp] theorem State.with_sync_obj (s : State) (v : Sync) : { s with sync := v }.obj = s.obj := rfl
@[simp] theorem State.with_sync_cl (s : State) (v : Sync) : { s with sync := v }.cl = s.cl := rfl
@[simp] theorem State.with_sync_chain (s : State) (v : Sync) : { s with sync := v }.chain = s.chain := rfl
@[simp] theorem State.with_sync_rails (s : State) (v : Sync) : { s with sync := v }.rails = s.rails := rfl
@[simp] theorem State.with_sync_phases (s : State) (v : Sync) : { s with sync := v }.phases = s.phases := rfl
@[simp] theorem State.with_sync_prot (s : State) (v : Sync) : { s with sync := v }.prot = s.prot := rfl
@[simp] theorem State.with_sync_ff (s : State) (v : Sync) : { s with sync := v }.ff = s.ff := rfl
@[simp] theorem State.with_sync_regions (s : State) (v : Sync) : { s with sync := v }.regions = s.regions := rfl
@[simp] theorem State.with_sync_shim (s : State) (v : Sync) : { s with sync := v }.shim = s.shim := rfl
@[simp] theorem State.with_sync_clk (s : State) (v : Sync) : { s with sync := v }.clk = s.clk := rfl
@[simp] theorem State.with_sync_cap (s : State) (v : Sync) : { s with sync := v }.cap = s.cap := rfl
@[simp] theorem State.with_sync_cla (s : State) (v : Sync) : { s with sync := v }.cla = s.cla := rfl
@[simp] theorem State.with_sync_dove (s : State) (v : Sync) : { s with sync := v }.dove = s.dove := rfl
@[simp] theorem State.with_sync_therm (s : State) (v : Sync) : { s with sync := v }.therm = s.therm := rfl
@[simp] theorem State.with_sync_dowel (s : State) (v : Sync) : { s with sync := v }.dowel = s.dowel := rfl
@[simp] theorem State.with_sync_dma (s : State) (v : Sync) : { s with sync := v }.dma = s.dma := rfl
@[simp] theorem State.with_sync_rcd (s : State) (v : Sync) : { s with sync := v }.rcd = s.rcd := rfl
@[simp] theorem State.with_sync_flash (s : State) (v : Sync) : { s with sync := v }.flash = s.flash := rfl
@[simp] theorem State.with_sync_obs (s : State) (v : Sync) : { s with sync := v }.obs = s.obs := rfl
@[simp] theorem State.with_sync_mgt (s : State) (v : Sync) : { s with sync := v }.mgt = s.mgt := rfl
@[simp] theorem State.with_sync_host (s : State) (v : Sync) : { s with sync := v }.host = s.host := rfl
@[simp] theorem State.with_sync_inst (s : State) (v : Sync) : { s with sync := v }.inst = s.inst := rfl
@[simp] theorem State.with_sync_free (s : State) (v : Sync) : { s with sync := v }.free = s.free := rfl
@[simp] theorem State.with_sync_pending (s : State) (v : Sync) : { s with sync := v }.pending = s.pending := rfl
@[simp] theorem State.with_dma_dma (s : State) (v : Dma) : { s with dma := v }.dma = v := rfl
@[simp] theorem State.with_dma_aon (s : State) (v : Dma) : { s with dma := v }.aon = s.aon := rfl
@[simp] theorem State.with_dma_obj (s : State) (v : Dma) : { s with dma := v }.obj = s.obj := rfl
@[simp] theorem State.with_dma_cl (s : State) (v : Dma) : { s with dma := v }.cl = s.cl := rfl
@[simp] theorem State.with_dma_chain (s : State) (v : Dma) : { s with dma := v }.chain = s.chain := rfl
@[simp] theorem State.with_dma_rails (s : State) (v : Dma) : { s with dma := v }.rails = s.rails := rfl
@[simp] theorem State.with_dma_phases (s : State) (v : Dma) : { s with dma := v }.phases = s.phases := rfl
@[simp] theorem State.with_dma_prot (s : State) (v : Dma) : { s with dma := v }.prot = s.prot := rfl
@[simp] theorem State.with_dma_ff (s : State) (v : Dma) : { s with dma := v }.ff = s.ff := rfl
@[simp] theorem State.with_dma_regions (s : State) (v : Dma) : { s with dma := v }.regions = s.regions := rfl
@[simp] theorem State.with_dma_shim (s : State) (v : Dma) : { s with dma := v }.shim = s.shim := rfl
@[simp] theorem State.with_dma_clk (s : State) (v : Dma) : { s with dma := v }.clk = s.clk := rfl
@[simp] theorem State.with_dma_cap (s : State) (v : Dma) : { s with dma := v }.cap = s.cap := rfl
@[simp] theorem State.with_dma_cla (s : State) (v : Dma) : { s with dma := v }.cla = s.cla := rfl
@[simp] theorem State.with_dma_dove (s : State) (v : Dma) : { s with dma := v }.dove = s.dove := rfl
@[simp] theorem State.with_dma_therm (s : State) (v : Dma) : { s with dma := v }.therm = s.therm := rfl
@[simp] theorem State.with_dma_dowel (s : State) (v : Dma) : { s with dma := v }.dowel = s.dowel := rfl
@[simp] theorem State.with_dma_sync (s : State) (v : Dma) : { s with dma := v }.sync = s.sync := rfl
@[simp] theorem State.with_dma_rcd (s : State) (v : Dma) : { s with dma := v }.rcd = s.rcd := rfl
@[simp] theorem State.with_dma_flash (s : State) (v : Dma) : { s with dma := v }.flash = s.flash := rfl
@[simp] theorem State.with_dma_obs (s : State) (v : Dma) : { s with dma := v }.obs = s.obs := rfl
@[simp] theorem State.with_dma_mgt (s : State) (v : Dma) : { s with dma := v }.mgt = s.mgt := rfl
@[simp] theorem State.with_dma_host (s : State) (v : Dma) : { s with dma := v }.host = s.host := rfl
@[simp] theorem State.with_dma_inst (s : State) (v : Dma) : { s with dma := v }.inst = s.inst := rfl
@[simp] theorem State.with_dma_free (s : State) (v : Dma) : { s with dma := v }.free = s.free := rfl
@[simp] theorem State.with_dma_pending (s : State) (v : Dma) : { s with dma := v }.pending = s.pending := rfl
@[simp] theorem State.with_rcd_rcd (s : State) (v : Rec) : { s with rcd := v }.rcd = v := rfl
@[simp] theorem State.with_rcd_aon (s : State) (v : Rec) : { s with rcd := v }.aon = s.aon := rfl
@[simp] theorem State.with_rcd_obj (s : State) (v : Rec) : { s with rcd := v }.obj = s.obj := rfl
@[simp] theorem State.with_rcd_cl (s : State) (v : Rec) : { s with rcd := v }.cl = s.cl := rfl
@[simp] theorem State.with_rcd_chain (s : State) (v : Rec) : { s with rcd := v }.chain = s.chain := rfl
@[simp] theorem State.with_rcd_rails (s : State) (v : Rec) : { s with rcd := v }.rails = s.rails := rfl
@[simp] theorem State.with_rcd_phases (s : State) (v : Rec) : { s with rcd := v }.phases = s.phases := rfl
@[simp] theorem State.with_rcd_prot (s : State) (v : Rec) : { s with rcd := v }.prot = s.prot := rfl
@[simp] theorem State.with_rcd_ff (s : State) (v : Rec) : { s with rcd := v }.ff = s.ff := rfl
@[simp] theorem State.with_rcd_regions (s : State) (v : Rec) : { s with rcd := v }.regions = s.regions := rfl
@[simp] theorem State.with_rcd_shim (s : State) (v : Rec) : { s with rcd := v }.shim = s.shim := rfl
@[simp] theorem State.with_rcd_clk (s : State) (v : Rec) : { s with rcd := v }.clk = s.clk := rfl
@[simp] theorem State.with_rcd_cap (s : State) (v : Rec) : { s with rcd := v }.cap = s.cap := rfl
@[simp] theorem State.with_rcd_cla (s : State) (v : Rec) : { s with rcd := v }.cla = s.cla := rfl
@[simp] theorem State.with_rcd_dove (s : State) (v : Rec) : { s with rcd := v }.dove = s.dove := rfl
@[simp] theorem State.with_rcd_therm (s : State) (v : Rec) : { s with rcd := v }.therm = s.therm := rfl
@[simp] theorem State.with_rcd_dowel (s : State) (v : Rec) : { s with rcd := v }.dowel = s.dowel := rfl
@[simp] theorem State.with_rcd_sync (s : State) (v : Rec) : { s with rcd := v }.sync = s.sync := rfl
@[simp] theorem State.with_rcd_dma (s : State) (v : Rec) : { s with rcd := v }.dma = s.dma := rfl
@[simp] theorem State.with_rcd_flash (s : State) (v : Rec) : { s with rcd := v }.flash = s.flash := rfl
@[simp] theorem State.with_rcd_obs (s : State) (v : Rec) : { s with rcd := v }.obs = s.obs := rfl
@[simp] theorem State.with_rcd_mgt (s : State) (v : Rec) : { s with rcd := v }.mgt = s.mgt := rfl
@[simp] theorem State.with_rcd_host (s : State) (v : Rec) : { s with rcd := v }.host = s.host := rfl
@[simp] theorem State.with_rcd_inst (s : State) (v : Rec) : { s with rcd := v }.inst = s.inst := rfl
@[simp] theorem State.with_rcd_free (s : State) (v : Rec) : { s with rcd := v }.free = s.free := rfl
@[simp] theorem State.with_rcd_pending (s : State) (v : Rec) : { s with rcd := v }.pending = s.pending := rfl
@[simp] theorem State.with_flash_flash (s : State) (v : Flash) : { s with flash := v }.flash = v := rfl
@[simp] theorem State.with_flash_aon (s : State) (v : Flash) : { s with flash := v }.aon = s.aon := rfl
@[simp] theorem State.with_flash_obj (s : State) (v : Flash) : { s with flash := v }.obj = s.obj := rfl
@[simp] theorem State.with_flash_cl (s : State) (v : Flash) : { s with flash := v }.cl = s.cl := rfl
@[simp] theorem State.with_flash_chain (s : State) (v : Flash) : { s with flash := v }.chain = s.chain := rfl
@[simp] theorem State.with_flash_rails (s : State) (v : Flash) : { s with flash := v }.rails = s.rails := rfl
@[simp] theorem State.with_flash_phases (s : State) (v : Flash) : { s with flash := v }.phases = s.phases := rfl
@[simp] theorem State.with_flash_prot (s : State) (v : Flash) : { s with flash := v }.prot = s.prot := rfl
@[simp] theorem State.with_flash_ff (s : State) (v : Flash) : { s with flash := v }.ff = s.ff := rfl
@[simp] theorem State.with_flash_regions (s : State) (v : Flash) : { s with flash := v }.regions = s.regions := rfl
@[simp] theorem State.with_flash_shim (s : State) (v : Flash) : { s with flash := v }.shim = s.shim := rfl
@[simp] theorem State.with_flash_clk (s : State) (v : Flash) : { s with flash := v }.clk = s.clk := rfl
@[simp] theorem State.with_flash_cap (s : State) (v : Flash) : { s with flash := v }.cap = s.cap := rfl
@[simp] theorem State.with_flash_cla (s : State) (v : Flash) : { s with flash := v }.cla = s.cla := rfl
@[simp] theorem State.with_flash_dove (s : State) (v : Flash) : { s with flash := v }.dove = s.dove := rfl
@[simp] theorem State.with_flash_therm (s : State) (v : Flash) : { s with flash := v }.therm = s.therm := rfl
@[simp] theorem State.with_flash_dowel (s : State) (v : Flash) : { s with flash := v }.dowel = s.dowel := rfl
@[simp] theorem State.with_flash_sync (s : State) (v : Flash) : { s with flash := v }.sync = s.sync := rfl
@[simp] theorem State.with_flash_dma (s : State) (v : Flash) : { s with flash := v }.dma = s.dma := rfl
@[simp] theorem State.with_flash_rcd (s : State) (v : Flash) : { s with flash := v }.rcd = s.rcd := rfl
@[simp] theorem State.with_flash_obs (s : State) (v : Flash) : { s with flash := v }.obs = s.obs := rfl
@[simp] theorem State.with_flash_mgt (s : State) (v : Flash) : { s with flash := v }.mgt = s.mgt := rfl
@[simp] theorem State.with_flash_host (s : State) (v : Flash) : { s with flash := v }.host = s.host := rfl
@[simp] theorem State.with_flash_inst (s : State) (v : Flash) : { s with flash := v }.inst = s.inst := rfl
@[simp] theorem State.with_flash_free (s : State) (v : Flash) : { s with flash := v }.free = s.free := rfl
@[simp] theorem State.with_flash_pending (s : State) (v : Flash) : { s with flash := v }.pending = s.pending := rfl
@[simp] theorem State.with_obs_obs (s : State) (v : Obs) : { s with obs := v }.obs = v := rfl
@[simp] theorem State.with_obs_aon (s : State) (v : Obs) : { s with obs := v }.aon = s.aon := rfl
@[simp] theorem State.with_obs_obj (s : State) (v : Obs) : { s with obs := v }.obj = s.obj := rfl
@[simp] theorem State.with_obs_cl (s : State) (v : Obs) : { s with obs := v }.cl = s.cl := rfl
@[simp] theorem State.with_obs_chain (s : State) (v : Obs) : { s with obs := v }.chain = s.chain := rfl
@[simp] theorem State.with_obs_rails (s : State) (v : Obs) : { s with obs := v }.rails = s.rails := rfl
@[simp] theorem State.with_obs_phases (s : State) (v : Obs) : { s with obs := v }.phases = s.phases := rfl
@[simp] theorem State.with_obs_prot (s : State) (v : Obs) : { s with obs := v }.prot = s.prot := rfl
@[simp] theorem State.with_obs_ff (s : State) (v : Obs) : { s with obs := v }.ff = s.ff := rfl
@[simp] theorem State.with_obs_regions (s : State) (v : Obs) : { s with obs := v }.regions = s.regions := rfl
@[simp] theorem State.with_obs_shim (s : State) (v : Obs) : { s with obs := v }.shim = s.shim := rfl
@[simp] theorem State.with_obs_clk (s : State) (v : Obs) : { s with obs := v }.clk = s.clk := rfl
@[simp] theorem State.with_obs_cap (s : State) (v : Obs) : { s with obs := v }.cap = s.cap := rfl
@[simp] theorem State.with_obs_cla (s : State) (v : Obs) : { s with obs := v }.cla = s.cla := rfl
@[simp] theorem State.with_obs_dove (s : State) (v : Obs) : { s with obs := v }.dove = s.dove := rfl
@[simp] theorem State.with_obs_therm (s : State) (v : Obs) : { s with obs := v }.therm = s.therm := rfl
@[simp] theorem State.with_obs_dowel (s : State) (v : Obs) : { s with obs := v }.dowel = s.dowel := rfl
@[simp] theorem State.with_obs_sync (s : State) (v : Obs) : { s with obs := v }.sync = s.sync := rfl
@[simp] theorem State.with_obs_dma (s : State) (v : Obs) : { s with obs := v }.dma = s.dma := rfl
@[simp] theorem State.with_obs_rcd (s : State) (v : Obs) : { s with obs := v }.rcd = s.rcd := rfl
@[simp] theorem State.with_obs_flash (s : State) (v : Obs) : { s with obs := v }.flash = s.flash := rfl
@[simp] theorem State.with_obs_mgt (s : State) (v : Obs) : { s with obs := v }.mgt = s.mgt := rfl
@[simp] theorem State.with_obs_host (s : State) (v : Obs) : { s with obs := v }.host = s.host := rfl
@[simp] theorem State.with_obs_inst (s : State) (v : Obs) : { s with obs := v }.inst = s.inst := rfl
@[simp] theorem State.with_obs_free (s : State) (v : Obs) : { s with obs := v }.free = s.free := rfl
@[simp] theorem State.with_obs_pending (s : State) (v : Obs) : { s with obs := v }.pending = s.pending := rfl
@[simp] theorem State.with_mgt_mgt (s : State) (v : Mgt) : { s with mgt := v }.mgt = v := rfl
@[simp] theorem State.with_mgt_aon (s : State) (v : Mgt) : { s with mgt := v }.aon = s.aon := rfl
@[simp] theorem State.with_mgt_obj (s : State) (v : Mgt) : { s with mgt := v }.obj = s.obj := rfl
@[simp] theorem State.with_mgt_cl (s : State) (v : Mgt) : { s with mgt := v }.cl = s.cl := rfl
@[simp] theorem State.with_mgt_chain (s : State) (v : Mgt) : { s with mgt := v }.chain = s.chain := rfl
@[simp] theorem State.with_mgt_rails (s : State) (v : Mgt) : { s with mgt := v }.rails = s.rails := rfl
@[simp] theorem State.with_mgt_phases (s : State) (v : Mgt) : { s with mgt := v }.phases = s.phases := rfl
@[simp] theorem State.with_mgt_prot (s : State) (v : Mgt) : { s with mgt := v }.prot = s.prot := rfl
@[simp] theorem State.with_mgt_ff (s : State) (v : Mgt) : { s with mgt := v }.ff = s.ff := rfl
@[simp] theorem State.with_mgt_regions (s : State) (v : Mgt) : { s with mgt := v }.regions = s.regions := rfl
@[simp] theorem State.with_mgt_shim (s : State) (v : Mgt) : { s with mgt := v }.shim = s.shim := rfl
@[simp] theorem State.with_mgt_clk (s : State) (v : Mgt) : { s with mgt := v }.clk = s.clk := rfl
@[simp] theorem State.with_mgt_cap (s : State) (v : Mgt) : { s with mgt := v }.cap = s.cap := rfl
@[simp] theorem State.with_mgt_cla (s : State) (v : Mgt) : { s with mgt := v }.cla = s.cla := rfl
@[simp] theorem State.with_mgt_dove (s : State) (v : Mgt) : { s with mgt := v }.dove = s.dove := rfl
@[simp] theorem State.with_mgt_therm (s : State) (v : Mgt) : { s with mgt := v }.therm = s.therm := rfl
@[simp] theorem State.with_mgt_dowel (s : State) (v : Mgt) : { s with mgt := v }.dowel = s.dowel := rfl
@[simp] theorem State.with_mgt_sync (s : State) (v : Mgt) : { s with mgt := v }.sync = s.sync := rfl
@[simp] theorem State.with_mgt_dma (s : State) (v : Mgt) : { s with mgt := v }.dma = s.dma := rfl
@[simp] theorem State.with_mgt_rcd (s : State) (v : Mgt) : { s with mgt := v }.rcd = s.rcd := rfl
@[simp] theorem State.with_mgt_flash (s : State) (v : Mgt) : { s with mgt := v }.flash = s.flash := rfl
@[simp] theorem State.with_mgt_obs (s : State) (v : Mgt) : { s with mgt := v }.obs = s.obs := rfl
@[simp] theorem State.with_mgt_host (s : State) (v : Mgt) : { s with mgt := v }.host = s.host := rfl
@[simp] theorem State.with_mgt_inst (s : State) (v : Mgt) : { s with mgt := v }.inst = s.inst := rfl
@[simp] theorem State.with_mgt_free (s : State) (v : Mgt) : { s with mgt := v }.free = s.free := rfl
@[simp] theorem State.with_mgt_pending (s : State) (v : Mgt) : { s with mgt := v }.pending = s.pending := rfl
@[simp] theorem State.with_host_host (s : State) (v : Host_) : { s with host := v }.host = v := rfl
@[simp] theorem State.with_host_aon (s : State) (v : Host_) : { s with host := v }.aon = s.aon := rfl
@[simp] theorem State.with_host_obj (s : State) (v : Host_) : { s with host := v }.obj = s.obj := rfl
@[simp] theorem State.with_host_cl (s : State) (v : Host_) : { s with host := v }.cl = s.cl := rfl
@[simp] theorem State.with_host_chain (s : State) (v : Host_) : { s with host := v }.chain = s.chain := rfl
@[simp] theorem State.with_host_rails (s : State) (v : Host_) : { s with host := v }.rails = s.rails := rfl
@[simp] theorem State.with_host_phases (s : State) (v : Host_) : { s with host := v }.phases = s.phases := rfl
@[simp] theorem State.with_host_prot (s : State) (v : Host_) : { s with host := v }.prot = s.prot := rfl
@[simp] theorem State.with_host_ff (s : State) (v : Host_) : { s with host := v }.ff = s.ff := rfl
@[simp] theorem State.with_host_regions (s : State) (v : Host_) : { s with host := v }.regions = s.regions := rfl
@[simp] theorem State.with_host_shim (s : State) (v : Host_) : { s with host := v }.shim = s.shim := rfl
@[simp] theorem State.with_host_clk (s : State) (v : Host_) : { s with host := v }.clk = s.clk := rfl
@[simp] theorem State.with_host_cap (s : State) (v : Host_) : { s with host := v }.cap = s.cap := rfl
@[simp] theorem State.with_host_cla (s : State) (v : Host_) : { s with host := v }.cla = s.cla := rfl
@[simp] theorem State.with_host_dove (s : State) (v : Host_) : { s with host := v }.dove = s.dove := rfl
@[simp] theorem State.with_host_therm (s : State) (v : Host_) : { s with host := v }.therm = s.therm := rfl
@[simp] theorem State.with_host_dowel (s : State) (v : Host_) : { s with host := v }.dowel = s.dowel := rfl
@[simp] theorem State.with_host_sync (s : State) (v : Host_) : { s with host := v }.sync = s.sync := rfl
@[simp] theorem State.with_host_dma (s : State) (v : Host_) : { s with host := v }.dma = s.dma := rfl
@[simp] theorem State.with_host_rcd (s : State) (v : Host_) : { s with host := v }.rcd = s.rcd := rfl
@[simp] theorem State.with_host_flash (s : State) (v : Host_) : { s with host := v }.flash = s.flash := rfl
@[simp] theorem State.with_host_obs (s : State) (v : Host_) : { s with host := v }.obs = s.obs := rfl
@[simp] theorem State.with_host_mgt (s : State) (v : Host_) : { s with host := v }.mgt = s.mgt := rfl
@[simp] theorem State.with_host_inst (s : State) (v : Host_) : { s with host := v }.inst = s.inst := rfl
@[simp] theorem State.with_host_free (s : State) (v : Host_) : { s with host := v }.free = s.free := rfl
@[simp] theorem State.with_host_pending (s : State) (v : Host_) : { s with host := v }.pending = s.pending := rfl
@[simp] theorem State.with_inst_inst (s : State) (v : Inst) : { s with inst := v }.inst = v := rfl
@[simp] theorem State.with_inst_aon (s : State) (v : Inst) : { s with inst := v }.aon = s.aon := rfl
@[simp] theorem State.with_inst_obj (s : State) (v : Inst) : { s with inst := v }.obj = s.obj := rfl
@[simp] theorem State.with_inst_cl (s : State) (v : Inst) : { s with inst := v }.cl = s.cl := rfl
@[simp] theorem State.with_inst_chain (s : State) (v : Inst) : { s with inst := v }.chain = s.chain := rfl
@[simp] theorem State.with_inst_rails (s : State) (v : Inst) : { s with inst := v }.rails = s.rails := rfl
@[simp] theorem State.with_inst_phases (s : State) (v : Inst) : { s with inst := v }.phases = s.phases := rfl
@[simp] theorem State.with_inst_prot (s : State) (v : Inst) : { s with inst := v }.prot = s.prot := rfl
@[simp] theorem State.with_inst_ff (s : State) (v : Inst) : { s with inst := v }.ff = s.ff := rfl
@[simp] theorem State.with_inst_regions (s : State) (v : Inst) : { s with inst := v }.regions = s.regions := rfl
@[simp] theorem State.with_inst_shim (s : State) (v : Inst) : { s with inst := v }.shim = s.shim := rfl
@[simp] theorem State.with_inst_clk (s : State) (v : Inst) : { s with inst := v }.clk = s.clk := rfl
@[simp] theorem State.with_inst_cap (s : State) (v : Inst) : { s with inst := v }.cap = s.cap := rfl
@[simp] theorem State.with_inst_cla (s : State) (v : Inst) : { s with inst := v }.cla = s.cla := rfl
@[simp] theorem State.with_inst_dove (s : State) (v : Inst) : { s with inst := v }.dove = s.dove := rfl
@[simp] theorem State.with_inst_therm (s : State) (v : Inst) : { s with inst := v }.therm = s.therm := rfl
@[simp] theorem State.with_inst_dowel (s : State) (v : Inst) : { s with inst := v }.dowel = s.dowel := rfl
@[simp] theorem State.with_inst_sync (s : State) (v : Inst) : { s with inst := v }.sync = s.sync := rfl
@[simp] theorem State.with_inst_dma (s : State) (v : Inst) : { s with inst := v }.dma = s.dma := rfl
@[simp] theorem State.with_inst_rcd (s : State) (v : Inst) : { s with inst := v }.rcd = s.rcd := rfl
@[simp] theorem State.with_inst_flash (s : State) (v : Inst) : { s with inst := v }.flash = s.flash := rfl
@[simp] theorem State.with_inst_obs (s : State) (v : Inst) : { s with inst := v }.obs = s.obs := rfl
@[simp] theorem State.with_inst_mgt (s : State) (v : Inst) : { s with inst := v }.mgt = s.mgt := rfl
@[simp] theorem State.with_inst_host (s : State) (v : Inst) : { s with inst := v }.host = s.host := rfl
@[simp] theorem State.with_inst_free (s : State) (v : Inst) : { s with inst := v }.free = s.free := rfl
@[simp] theorem State.with_inst_pending (s : State) (v : Inst) : { s with inst := v }.pending = s.pending := rfl
@[simp] theorem State.with_free_free (s : State) (v : Nat) : { s with free := v }.free = v := rfl
@[simp] theorem State.with_free_aon (s : State) (v : Nat) : { s with free := v }.aon = s.aon := rfl
@[simp] theorem State.with_free_obj (s : State) (v : Nat) : { s with free := v }.obj = s.obj := rfl
@[simp] theorem State.with_free_cl (s : State) (v : Nat) : { s with free := v }.cl = s.cl := rfl
@[simp] theorem State.with_free_chain (s : State) (v : Nat) : { s with free := v }.chain = s.chain := rfl
@[simp] theorem State.with_free_rails (s : State) (v : Nat) : { s with free := v }.rails = s.rails := rfl
@[simp] theorem State.with_free_phases (s : State) (v : Nat) : { s with free := v }.phases = s.phases := rfl
@[simp] theorem State.with_free_prot (s : State) (v : Nat) : { s with free := v }.prot = s.prot := rfl
@[simp] theorem State.with_free_ff (s : State) (v : Nat) : { s with free := v }.ff = s.ff := rfl
@[simp] theorem State.with_free_regions (s : State) (v : Nat) : { s with free := v }.regions = s.regions := rfl
@[simp] theorem State.with_free_shim (s : State) (v : Nat) : { s with free := v }.shim = s.shim := rfl
@[simp] theorem State.with_free_clk (s : State) (v : Nat) : { s with free := v }.clk = s.clk := rfl
@[simp] theorem State.with_free_cap (s : State) (v : Nat) : { s with free := v }.cap = s.cap := rfl
@[simp] theorem State.with_free_cla (s : State) (v : Nat) : { s with free := v }.cla = s.cla := rfl
@[simp] theorem State.with_free_dove (s : State) (v : Nat) : { s with free := v }.dove = s.dove := rfl
@[simp] theorem State.with_free_therm (s : State) (v : Nat) : { s with free := v }.therm = s.therm := rfl
@[simp] theorem State.with_free_dowel (s : State) (v : Nat) : { s with free := v }.dowel = s.dowel := rfl
@[simp] theorem State.with_free_sync (s : State) (v : Nat) : { s with free := v }.sync = s.sync := rfl
@[simp] theorem State.with_free_dma (s : State) (v : Nat) : { s with free := v }.dma = s.dma := rfl
@[simp] theorem State.with_free_rcd (s : State) (v : Nat) : { s with free := v }.rcd = s.rcd := rfl
@[simp] theorem State.with_free_flash (s : State) (v : Nat) : { s with free := v }.flash = s.flash := rfl
@[simp] theorem State.with_free_obs (s : State) (v : Nat) : { s with free := v }.obs = s.obs := rfl
@[simp] theorem State.with_free_mgt (s : State) (v : Nat) : { s with free := v }.mgt = s.mgt := rfl
@[simp] theorem State.with_free_host (s : State) (v : Nat) : { s with free := v }.host = s.host := rfl
@[simp] theorem State.with_free_inst (s : State) (v : Nat) : { s with free := v }.inst = s.inst := rfl
@[simp] theorem State.with_free_pending (s : State) (v : Nat) : { s with free := v }.pending = s.pending := rfl
@[simp] theorem State.with_pending_pending (s : State) (v : List Instr) : { s with pending := v }.pending = v := rfl
@[simp] theorem State.with_pending_aon (s : State) (v : List Instr) : { s with pending := v }.aon = s.aon := rfl
@[simp] theorem State.with_pending_obj (s : State) (v : List Instr) : { s with pending := v }.obj = s.obj := rfl
@[simp] theorem State.with_pending_cl (s : State) (v : List Instr) : { s with pending := v }.cl = s.cl := rfl
@[simp] theorem State.with_pending_chain (s : State) (v : List Instr) : { s with pending := v }.chain = s.chain := rfl
@[simp] theorem State.with_pending_rails (s : State) (v : List Instr) : { s with pending := v }.rails = s.rails := rfl
@[simp] theorem State.with_pending_phases (s : State) (v : List Instr) : { s with pending := v }.phases = s.phases := rfl
@[simp] theorem State.with_pending_prot (s : State) (v : List Instr) : { s with pending := v }.prot = s.prot := rfl
@[simp] theorem State.with_pending_ff (s : State) (v : List Instr) : { s with pending := v }.ff = s.ff := rfl
@[simp] theorem State.with_pending_regions (s : State) (v : List Instr) : { s with pending := v }.regions = s.regions := rfl
@[simp] theorem State.with_pending_shim (s : State) (v : List Instr) : { s with pending := v }.shim = s.shim := rfl
@[simp] theorem State.with_pending_clk (s : State) (v : List Instr) : { s with pending := v }.clk = s.clk := rfl
@[simp] theorem State.with_pending_cap (s : State) (v : List Instr) : { s with pending := v }.cap = s.cap := rfl
@[simp] theorem State.with_pending_cla (s : State) (v : List Instr) : { s with pending := v }.cla = s.cla := rfl
@[simp] theorem State.with_pending_dove (s : State) (v : List Instr) : { s with pending := v }.dove = s.dove := rfl
@[simp] theorem State.with_pending_therm (s : State) (v : List Instr) : { s with pending := v }.therm = s.therm := rfl
@[simp] theorem State.with_pending_dowel (s : State) (v : List Instr) : { s with pending := v }.dowel = s.dowel := rfl
@[simp] theorem State.with_pending_sync (s : State) (v : List Instr) : { s with pending := v }.sync = s.sync := rfl
@[simp] theorem State.with_pending_dma (s : State) (v : List Instr) : { s with pending := v }.dma = s.dma := rfl
@[simp] theorem State.with_pending_rcd (s : State) (v : List Instr) : { s with pending := v }.rcd = s.rcd := rfl
@[simp] theorem State.with_pending_flash (s : State) (v : List Instr) : { s with pending := v }.flash = s.flash := rfl
@[simp] theorem State.with_pending_obs (s : State) (v : List Instr) : { s with pending := v }.obs = s.obs := rfl
@[simp] theorem State.with_pending_mgt (s : State) (v : List Instr) : { s with pending := v }.mgt = s.mgt := rfl
@[simp] theorem State.with_pending_host (s : State) (v : List Instr) : { s with pending := v }.host = s.host := rfl
@[simp] theorem State.with_pending_inst (s : State) (v : List Instr) : { s with pending := v }.inst = s.inst := rfl
@[simp] theorem State.with_pending_free (s : State) (v : List Instr) : { s with pending := v }.free = s.free := rfl

end Sys2Proof.Machine
end

