-- ==== Sys2Proof/Laws/Jig.lean ====
section
/-! SUPPORT. What the words of jigs do: one word that leaves the step limit unreached changes its own jig alone. -/

namespace Sys2Proof.Machine

open Sys2Proof

theorem jig_updJig_self (s : State) (j : Nat) (f : Jig → Jig) (h : j < s.dowel.jigs.length) :
    (s.updJig j f).jig j = f (s.jig j) := by
  simp [State.jig, State.updJig, List.getElem?_modify_eq, List.getElem?_eq_getElem h]

theorem jig_updJig_ne (s : State) (j k : Nat) (f : Jig → Jig) (h : k ≠ j) : (s.updJig j f).jig k = s.jig k := by
  simp [State.jig, State.updJig, Ne.symm h]

theorem updJig_length (s : State) (j : Nat) (f : Jig → Jig) : (s.updJig j f).dowel.jigs.length = s.dowel.jigs.length := by
  simp [State.updJig]

theorem updJig_updJig (s : State) (j : Nat) (f g : Jig → Jig) : (s.updJig j f).updJig j g = s.updJig j (fun x => g (f x)) := by
  simp [State.updJig, List.modify_modify_eq, Function.comp_def]

/-- Below the step limit, a word that keeps limit and step count changes its jig alone and goes on with the next word. -/
theorem jigDo_eq (s : State) (j : Nat) (f : Jig → Jig) (hj : j < s.dowel.jigs.length)
    (hs : (s.jig j).steps + 1 < (s.jig j).stepLimit) (h1 : ∀ g, (f g).steps = g.steps) (h2 : ∀ g, (f g).stepLimit = g.stepLimit) :
    jigDo j f s = s.updJig j (fun g => { f g with steps := g.steps + 1, pc := g.pc + 1 }) := by
  have hc : ¬ ((s.updJig j f).jig j).stepLimit ≤ ((s.updJig j f).jig j).steps + 1 := by
    rw [jig_updJig_self _ _ _ hj, h1, h2]; omega
  unfold jigDo jigCount
  simp only [if_neg hc, updJig_updJig]
  simp only [State.updJig]
  congr 2
  apply List.ext_getElem?
  intro k
  simp only [List.getElem?_modify]
  by_cases hk : j = k
  · subst hk
    simp [State.jig, List.getElem?_eq_getElem hj, h1]
  · simp [hk]

/-- Below the step limit, a branch changes its jig alone. -/
theorem jigGoto_eq (s : State) (j : Nat) (c : Bool) (imm : BitVec 32)
    (hs : (s.jig j).steps + 1 < (s.jig j).stepLimit) :
    jigGoto j c imm s = s.updJig j (fun g =>
      { g with steps := g.steps + 1, pc := if c = true then imm.toNat else (s.jig j).pc + 1 }) := by
  have hc : ¬ (s.jig j).stepLimit ≤ (s.jig j).steps + 1 := by omega
  unfold jigGoto jigCount
  simp only [if_neg hc, updJig_updJig]

/-- A word that sets x_D to a 64-bit word. -/
theorem jigDo_setReg (s : State) (j d : Nat) (f : Jig → BitVec 64) (hj : j < s.dowel.jigs.length)
    (hs : (s.jig j).steps + 1 < (s.jig j).stepLimit) :
    wordSets s j d (f (s.jig j)) (jigDo j (fun g => g.setReg d (f g)) s) := by
  rw [jigDo_eq s j (fun g => g.setReg d (f g)) hj hs (fun _ => rfl) (fun _ => rfl)]
  unfold wordSets
  simp only [State.updJig]
  congr 2
  apply List.ext_getElem?
  intro k
  simp only [List.getElem?_modify]
  by_cases hk : j = k
  · subst hk
    simp [State.jig, List.getElem?_eq_getElem hj, Jig.setReg]
  · simp [hk]

/-- A word that sets x_D to an exact result. -/
theorem jigDo_setInt (s : State) (j d : Nat) (f : Jig → Int) (v : Int) (hv : f (s.jig j) = v) (hj : j < s.dowel.jigs.length)
    (hs : (s.jig j).steps + 1 < (s.jig j).stepLimit) :
    wordSetsInt s j d v (jigDo j (fun g => g.setInt d (f g)) s) := by
  rw [jigDo_eq s j (fun g => g.setInt d (f g)) hj hs (fun _ => rfl) (fun _ => rfl)]
  unfold wordSetsInt wordSets
  have key : ∀ h : Jig → Jig, h (s.jig j) = { (s.jig j).setInt d (f (s.jig j)) with steps := (s.jig j).steps + 1, pc := (s.jig j).pc + 1 } →
     (s.updJig j fun g => { g.setInt d (f g) with steps := g.steps + 1, pc := g.pc + 1 }) = s.updJig j h := by
    intro h hh
    simp only [State.updJig]
    congr 2
    apply List.ext_getElem?
    intro k
    simp only [List.getElem?_modify]
    by_cases hk : j = k
    · subst hk
      simp [State.jig, List.getElem?_eq_getElem hj] at hh ⊢
      exact hh.symm
    · simp [hk]
  split
  · rename_i h
    apply key
    have h1 : ¬ v < -9223372036854775808 := by omega
    have h2 : ¬ 9223372036854775807 < v := by omega
    simp [Jig.setInt, Jig.setReg, hv, sat64, overflows, clampI, h1, h2]
  · rename_i h
    apply key
    by_cases h0 : v < 0
    · have h1 : v < -9223372036854775808 := by omega
      have h2 : ¬ 9223372036854775807 < v := by omega
      simp [Jig.setInt, Jig.setReg, hv, sat64, overflows, clampI, h0, h1]
      rfl
    · have h1 : ¬ v < -9223372036854775808 := by omega
      have h2 : 9223372036854775807 < v := by omega
      simp [Jig.setInt, Jig.setReg, hv, sat64, overflows, clampI, h0, h1, h2]
      rfl

/-- A branch goes on with word n. -/
theorem jigGoto_goes (s : State) (j : Nat) (c : Bool) (imm : BitVec 32) (n : Nat) (h : n = if c = true then imm.toNat else (s.jig j).pc + 1)
    (hs : (s.jig j).steps + 1 < (s.jig j).stepLimit) : wordGoes s j n (jigGoto j c imm s) := by
  rw [jigGoto_eq s j c imm hs, h]; rfl

/-- A word with no other effect goes on with the next one. -/
theorem jigDo_nop (s : State) (j : Nat) (hj : j < s.dowel.jigs.length)
    (hs : (s.jig j).steps + 1 < (s.jig j).stepLimit) : wordGoes s j ((s.jig j).pc + 1) (jigDo j (fun g => g) s) := by
  rw [jigDo_eq s j (fun g => g) hj hs (fun _ => rfl) (fun _ => rfl)]
  unfold wordGoes
  simp only [State.updJig]
  congr 2
  apply List.ext_getElem?
  intro k
  simp only [List.getElem?_modify]
  by_cases hk : j = k
  · subst hk
    simp [State.jig, List.getElem?_eq_getElem hj]
  · simp [hk]

/-- The rounded shift is the rounding of R413. -/
theorem roundShift_eq_rounded (v : Int) (n : Nat) : roundShift v n = rounded v n := by
  unfold roundShift rounded
  split
  · subst_vars; simp; omega
  · rename_i h
    obtain ⟨m, rfl⟩ : ∃ m, n = m + 1 := ⟨n - 1, by omega⟩
    simp only [Nat.add_sub_cancel]
    have h2 : (0:Int) < 2 ^ (m+1) := by positivity
    have : (2:Int) ^ (m + 1 + 1) = 2 * 2 ^ (m + 1) := by ring
    rw [this]
    have h3 : 2 * v + 2 ^ (m+1) = 2 * (v + 2 ^ m) := by ring
    rw [h3, Int.mul_ediv_mul_of_pos _ _ (by norm_num)]

end Sys2Proof.Machine
end

