-- ==== Sys2Proof/Laws/ViewRails.lean ====
section
/-! SUPPORT. The frames of the functions of the rails, phases, shims and clocks: one lemma per function says which units of the state
it keeps (a mask of `State.view`), cited by the lemmas of its callers. -/

namespace Sys2Proof.Machine

open Sys2Proof

set_option linter.all false

theorem respace_view {k} (hk : k &&& 16777183 = k) (a0 s) : (respace a0 s).view k = s.view k := by
  refine view_le hk ?_
  unfold respace
  simp (disch := (intros; first | done | (simp only [State.updPhase_view, view_upd, fixed_mk, fixed_eta, apply_ite (State.view _), ite_self, Nat.reduceAnd, Nat.reduceDiv, Nat.reduceMod, Nat.zero_ne_one, implies_true, false_implies, Nat.div_one, kvSorted_kvPut, List.length_modify, List.length_map, List.length_set, List.length_mapIdx]; done) | ((repeat' split) <;> simp only [State.updPhase_view, view_upd, fixed_mk, fixed_eta, apply_ite (State.view _), ite_self, Nat.reduceAnd, Nat.reduceDiv, Nat.reduceMod, Nat.zero_ne_one, implies_true, false_implies, Nat.div_one, kvSorted_kvPut, List.length_modify, List.length_map, List.length_set, List.length_mapIdx]; done) | grind [view_upd, fixed_mk, fixed_eta, List.length_modify, State.updPhase_view])) only [State.updPhase_view, view_upd, fixed_mk, fixed_eta, apply_ite (State.view _), ite_self, Nat.reduceAnd, Nat.reduceDiv, Nat.reduceMod, Nat.zero_ne_one, implies_true, false_implies, Nat.div_one, kvSorted_kvPut, List.length_modify, List.length_map, List.length_set, List.length_mapIdx, forEach_view, foldl_view]

theorem adaptive_view {k} (hk : k &&& 16777167 = k) (a0 s) : (adaptive a0 s).view k = s.view k := by
  refine view_le hk ?_
  unfold adaptive
  grind [view_upd, fixed_mk, fixed_eta, List.length_modify, State.updRail_view, State.updPhase_view]

theorem joinPhase_view {k} (hk : k &&& 15728605 = k) (a0 a1 s) : (joinPhase a0 a1 s).view k = s.view k := by
  refine view_le hk ?_
  unfold joinPhase
  simp only [State.updPhase_view, State.put_view, respace_view, State.count_view, view_upd, fixed_mk, fixed_eta, apply_ite
      (State.view _), ite_self, Nat.reduceAnd, Nat.reduceDiv, Nat.reduceMod, Nat.zero_ne_one, implies_true, false_implies,
      Nat.div_one, kvSorted_kvPut, List.length_modify, List.length_map, List.length_set, List.length_mapIdx]

theorem joinNext_view {k} (hk : k &&& 15728605 = k) (a0 s) : (joinNext a0 s).view k = s.view k := by
  refine view_le hk ?_
  unfold joinNext
  (repeat' split) <;> simp only [joinPhase_view, view_upd, fixed_mk, fixed_eta, apply_ite (State.view _), ite_self, Nat.reduceAnd, Nat.reduceDiv, Nat.reduceMod, Nat.zero_ne_one, implies_true, false_implies, Nat.div_one, kvSorted_kvPut, List.length_modify, List.length_map, List.length_set, List.length_mapIdx]

theorem startShed_view {k} (hk : k &&& 15728589 = k) (a0 a1 s) : (startShed a0 a1 s).view k = s.view k := by
  refine view_le hk ?_
  unfold startShed
  simp only [State.updPhase_view, State.put_view, State.updRail_view, State.count_view, view_upd, fixed_mk, fixed_eta,
      apply_ite (State.view _), ite_self, Nat.reduceAnd, Nat.reduceDiv, Nat.reduceMod, Nat.zero_ne_one, implies_true,
      false_implies, Nat.div_one, kvSorted_kvPut, List.length_modify, List.length_map, List.length_set, List.length_mapIdx]

theorem abortShed_view {k} (hk : k &&& 16777165 = k) (a0 s) : (abortShed a0 s).view k = s.view k := by
  refine view_le hk ?_
  unfold abortShed
  (repeat' split) <;> simp only [State.updPhase_view, State.put_view, State.updRail_view, view_upd, fixed_mk, fixed_eta, apply_ite (State.view _), ite_self, Nat.reduceAnd, Nat.reduceDiv, Nat.reduceMod, Nat.zero_ne_one, implies_true, false_implies, Nat.div_one, kvSorted_kvPut, List.length_modify, List.length_map, List.length_set, List.length_mapIdx]

theorem passHead_view {k} (hk : k &&& 16777199 = k) (a0 a1 s) : (passHead a0 a1 s).view k = s.view k := by
  refine view_le hk ?_
  unfold passHead
  simp only [State.updRail_view, view_upd, fixed_mk, fixed_eta, apply_ite (State.view _), ite_self, Nat.reduceAnd,
      Nat.reduceDiv, Nat.reduceMod, Nat.zero_ne_one, implies_true, false_implies, Nat.div_one, kvSorted_kvPut,
      List.length_modify, List.length_map, List.length_set, List.length_mapIdx]

theorem resumePlanned_view {k} (hk : k &&& 15728589 = k) (a0 s) : (resumePlanned a0 s).view k = s.view k := by
  refine view_le hk ?_
  unfold resumePlanned
  (repeat' split) <;> simp only [startShed_view, joinNext_view, view_upd, fixed_mk, fixed_eta, apply_ite (State.view _), ite_self, Nat.reduceAnd, Nat.reduceDiv, Nat.reduceMod, Nat.zero_ne_one, implies_true, false_implies, Nat.div_one, kvSorted_kvPut, List.length_modify, List.length_map, List.length_set, List.length_mapIdx]

theorem phaseCounts_view {k} (hk : k &&& 15728589 = k) (a0 s) : (phaseCounts a0 s).view k = s.view k := by
  refine view_le hk ?_
  unfold phaseCounts
  simp only [abortShed_view, joinNext_view, resumePlanned_view, view_upd, fixed_mk, fixed_eta, apply_ite (State.view _),
      ite_self, Nat.reduceAnd, Nat.reduceDiv, Nat.reduceMod, Nat.zero_ne_one, implies_true, false_implies, Nat.div_one,
      kvSorted_kvPut, List.length_modify, List.length_map, List.length_set, List.length_mapIdx]

theorem skipLeave_view {k} (hk : k &&& 16777199 = k) (a0 s) : (skipLeave a0 s).view k = s.view k := by
  refine view_le hk ?_
  unfold skipLeave
  simp only [State.updRail_view, view_upd, fixed_mk, fixed_eta, apply_ite (State.view _), ite_self, Nat.reduceAnd,
      Nat.reduceDiv, Nat.reduceMod, Nat.zero_ne_one, implies_true, false_implies, Nat.div_one, kvSorted_kvPut,
      List.length_modify, List.length_map, List.length_set, List.length_mapIdx]

theorem skipEnter_view {k} (hk : k &&& 16777199 = k) (a0 s) : (skipEnter a0 s).view k = s.view k := by
  refine view_le hk ?_
  unfold skipEnter
  simp only [State.updRail_view, view_upd, fixed_mk, fixed_eta, apply_ite (State.view _), ite_self, Nat.reduceAnd,
      Nat.reduceDiv, Nat.reduceMod, Nat.zero_ne_one, implies_true, false_implies, Nat.div_one, kvSorted_kvPut,
      List.length_modify, List.length_map, List.length_set, List.length_mapIdx]

theorem ffForceStep_view {k} (hk : k &&& 16777071 = k) (a0 s) : (ffForceStep a0 s).view k = s.view k := by
  refine view_le hk ?_
  unfold ffForceStep
  simp only [State.updRail_view, view_upd, fixed_mk, fixed_eta, apply_ite (State.view _), ite_self, Nat.reduceAnd,
      Nat.reduceDiv, Nat.reduceMod, Nat.zero_ne_one, implies_true, false_implies, Nat.div_one, kvSorted_kvPut,
      List.length_modify, List.length_map, List.length_set, List.length_mapIdx]

theorem ffTerms_view {k} (hk : k &&& 16777199 = k) (a0 s) : (ffTerms a0 s).view k = s.view k := by
  refine view_le hk ?_
  unfold ffTerms
  simp only [State.updRail_view, view_upd, fixed_mk, fixed_eta, apply_ite (State.view _), ite_self, Nat.reduceAnd,
      Nat.reduceDiv, Nat.reduceMod, Nat.zero_ne_one, implies_true, false_implies, Nat.div_one, kvSorted_kvPut,
      List.length_modify, List.length_map, List.length_set, List.length_mapIdx]

theorem ffLeave_view {k} (hk : k &&& 16777199 = k) (a0 s) : (ffLeave a0 s).view k = s.view k := by
  refine view_le hk ?_
  unfold ffLeave
  simp only [State.updRail_view, view_upd, fixed_mk, fixed_eta, apply_ite (State.view _), ite_self, Nat.reduceAnd,
      Nat.reduceDiv, Nat.reduceMod, Nat.zero_ne_one, implies_true, false_implies, Nat.div_one, kvSorted_kvPut,
      List.length_modify, List.length_map, List.length_set, List.length_mapIdx]

theorem moveStep_view {k} (hk : k &&& 16777199 = k) (a0 s) : (moveStep a0 s).view k = s.view k := by
  refine view_le hk ?_
  unfold moveStep
  grind [view_upd, fixed_mk, fixed_eta, List.length_modify, State.updRail_view]

theorem movesDone_view {k} (hk : k &&& 16777151 = k) (s) : (movesDone s).view k = s.view k := by
  refine view_le hk ?_
  unfold movesDone
  simp only [view_upd, fixed_mk, fixed_eta, apply_ite (State.view _), ite_self, Nat.reduceAnd, Nat.reduceDiv, Nat.reduceMod,
      Nat.zero_ne_one, implies_true, false_implies, Nat.div_one, kvSorted_kvPut, List.length_modify, List.length_map,
      List.length_set, List.length_mapIdx]

theorem refStep_view {k} (hk : k &&& 16777199 = k) (a0 s) : (refStep a0 s).view k = s.view k := by
  refine view_le hk ?_
  unfold refStep
  simp only [State.updRail_view, view_upd, fixed_mk, fixed_eta, apply_ite (State.view _), ite_self, Nat.reduceAnd,
      Nat.reduceDiv, Nat.reduceMod, Nat.zero_ne_one, implies_true, false_implies, Nat.div_one, kvSorted_kvPut,
      List.length_modify, List.length_map, List.length_set, List.length_mapIdx]

theorem railStopped_view {k} (hk : k &&& 16777167 = k) (a0 s) : (railStopped a0 s).view k = s.view k := by
  refine view_le hk ?_
  unfold railStopped
  simp only [respace_view, State.updRail_view, stopFiring_view, view_upd, fixed_mk, fixed_eta, apply_ite (State.view _),
      ite_self, Nat.reduceAnd, Nat.reduceDiv, Nat.reduceMod, Nat.zero_ne_one, implies_true, false_implies, Nat.div_one,
      kvSorted_kvPut, List.length_modify, List.length_map, List.length_set, List.length_mapIdx]

theorem startRail_view {k} (hk : k &&& 16777167 = k) (a0 a1 s) : (startRail a0 a1 s).view k = s.view k := by
  refine view_le hk ?_
  unfold startRail
  simp (disch := (intros; first | done | (simp only [State.updPhase_view, State.updRail_view, respace_view, view_upd, fixed_mk, fixed_eta, apply_ite (State.view _), ite_self, Nat.reduceAnd, Nat.reduceDiv, Nat.reduceMod, Nat.zero_ne_one, implies_true, false_implies, Nat.div_one, kvSorted_kvPut, List.length_modify, List.length_map, List.length_set, List.length_mapIdx]; done) | ((repeat' split) <;> simp only [State.updPhase_view, State.updRail_view, respace_view, view_upd, fixed_mk, fixed_eta, apply_ite (State.view _), ite_self, Nat.reduceAnd, Nat.reduceDiv, Nat.reduceMod, Nat.zero_ne_one, implies_true, false_implies, Nat.div_one, kvSorted_kvPut, List.length_modify, List.length_map, List.length_set, List.length_mapIdx]; done) | grind [view_upd, fixed_mk, fixed_eta, List.length_modify, State.updPhase_view, State.updRail_view, respace_view])) only [State.updPhase_view, State.updRail_view, respace_view, view_upd, fixed_mk, fixed_eta, apply_ite (State.view _), ite_self, Nat.reduceAnd, Nat.reduceDiv, Nat.reduceMod, Nat.zero_ne_one, implies_true, false_implies, Nat.div_one, kvSorted_kvPut, List.length_modify, List.length_map, List.length_set, List.length_mapIdx, forEach_view, foldl_view]

theorem stopRail_view {k} (hk : k &&& 15448204 = k) (a0 a1 s) : (stopRail a0 a1 s).view k = s.view k := by
  refine view_le hk ?_
  unfold stopRail
  simp (disch := (intros; first | done | (simp only [endGroupMove_view, State.updPhase_view, leaveRegulation_view, stopTclk_view, State.updRail_view, view_upd, fixed_mk, fixed_eta, apply_ite (State.view _), ite_self, Nat.reduceAnd, Nat.reduceDiv, Nat.reduceMod, Nat.zero_ne_one, implies_true, false_implies, Nat.div_one, kvSorted_kvPut, List.length_modify, List.length_map, List.length_set, List.length_mapIdx]; done) | ((repeat' split) <;> simp only [endGroupMove_view, State.updPhase_view, leaveRegulation_view, stopTclk_view, State.updRail_view, view_upd, fixed_mk, fixed_eta, apply_ite (State.view _), ite_self, Nat.reduceAnd, Nat.reduceDiv, Nat.reduceMod, Nat.zero_ne_one, implies_true, false_implies, Nat.div_one, kvSorted_kvPut, List.length_modify, List.length_map, List.length_set, List.length_mapIdx]; done) | grind [view_upd, fixed_mk, fixed_eta, List.length_modify, endGroupMove_view, State.updPhase_view, leaveRegulation_view, stopTclk_view, State.updRail_view])) only [endGroupMove_view, State.updPhase_view, leaveRegulation_view, stopTclk_view, State.updRail_view, view_upd, fixed_mk, fixed_eta, apply_ite (State.view _), ite_self, Nat.reduceAnd, Nat.reduceDiv, Nat.reduceMod, Nat.zero_ne_one, implies_true, false_implies, Nat.div_one, kvSorted_kvPut, List.length_modify, List.length_map, List.length_set, List.length_mapIdx, forEach_view, foldl_view]

theorem compensate_view {k} (hk : k &&& 16777199 = k) (a0 s) : (compensate a0 s).view k = s.view k := by
  refine view_le hk ?_
  unfold compensate
  simp only [State.updRail_view, view_upd, fixed_mk, fixed_eta, apply_ite (State.view _), ite_self, Nat.reduceAnd,
      Nat.reduceDiv, Nat.reduceMod, Nat.zero_ne_one, implies_true, false_implies, Nat.div_one, kvSorted_kvPut,
      List.length_modify, List.length_map, List.length_set, List.length_mapIdx]

theorem voltageChecks_view {k} (hk : k &&& 15446148 = k) (a0 s) : (voltageChecks a0 s).view k = s.view k := by
  refine view_le hk ?_
  unfold voltageChecks
  simp only [State.updRail_view, State.updCtx_view, raiseFault_view, view_upd, fixed_mk, fixed_eta, apply_ite (State.view
      _), ite_self, Nat.reduceAnd, Nat.reduceDiv, Nat.reduceMod, Nat.zero_ne_one, implies_true, false_implies, Nat.div_one,
      kvSorted_kvPut, List.length_modify, List.length_map, List.length_set, List.length_mapIdx]

theorem periodStep_view {k} (hk : k &&& 16777199 = k) (a0 s) : (periodStep a0 s).view k = s.view k := by
  refine view_le hk ?_
  unfold periodStep
  simp only [State.updRail_view, view_upd, fixed_mk, fixed_eta, apply_ite (State.view _), ite_self, Nat.reduceAnd,
      Nat.reduceDiv, Nat.reduceMod, Nat.zero_ne_one, implies_true, false_implies, Nat.div_one, kvSorted_kvPut,
      List.length_modify, List.length_map, List.length_set, List.length_mapIdx]

theorem syncStep_view {k} (hk : k &&& 16777199 = k) (a0 s) : (syncStep a0 s).view k = s.view k := by
  refine view_le hk ?_
  unfold syncStep
  simp only [State.updRail_view, view_upd, fixed_mk, fixed_eta, apply_ite (State.view _), ite_self, Nat.reduceAnd,
      Nat.reduceDiv, Nat.reduceMod, Nat.zero_ne_one, implies_true, false_implies, Nat.div_one, kvSorted_kvPut,
      List.length_modify, List.length_map, List.length_set, List.length_mapIdx]

theorem railSample_view {k} (hk : k &&& 15446020 = k) (a0 a1 s) : (railSample a0 a1 s).view k = s.view k := by
  refine view_le hk ?_
  unfold railSample
  simp (disch := (intros; first | done | (simp only [State.updRail_view, ffTerms_view, ffForceStep_view, refStep_view, moveStep_view, voltageChecks_view, compensate_view, railStopped_view, skipLeave_view, phaseCounts_view, syncStep_view, periodStep_view, adaptive_view, State.updPhase_view, view_upd, fixed_mk, fixed_eta, apply_ite (State.view _), ite_self, Nat.reduceAnd, Nat.reduceDiv, Nat.reduceMod, Nat.zero_ne_one, implies_true, false_implies, Nat.div_one, kvSorted_kvPut, List.length_modify, List.length_map, List.length_set, List.length_mapIdx]; done) | ((repeat' split) <;> simp only [State.updRail_view, ffTerms_view, ffForceStep_view, refStep_view, moveStep_view, voltageChecks_view, compensate_view, railStopped_view, skipLeave_view, phaseCounts_view, syncStep_view, periodStep_view, adaptive_view, State.updPhase_view, view_upd, fixed_mk, fixed_eta, apply_ite (State.view _), ite_self, Nat.reduceAnd, Nat.reduceDiv, Nat.reduceMod, Nat.zero_ne_one, implies_true, false_implies, Nat.div_one, kvSorted_kvPut, List.length_modify, List.length_map, List.length_set, List.length_mapIdx]; done) | grind [view_upd, fixed_mk, fixed_eta, List.length_modify, State.updRail_view, ffTerms_view, ffForceStep_view, refStep_view, moveStep_view, voltageChecks_view, compensate_view, railStopped_view, skipLeave_view, phaseCounts_view, syncStep_view, periodStep_view, adaptive_view, State.updPhase_view])) only [State.updRail_view, ffTerms_view, ffForceStep_view, refStep_view, moveStep_view, voltageChecks_view, compensate_view, railStopped_view, skipLeave_view, phaseCounts_view, syncStep_view, periodStep_view, adaptive_view, State.updPhase_view, view_upd, fixed_mk, fixed_eta, apply_ite (State.view _), ite_self, Nat.reduceAnd, Nat.reduceDiv, Nat.reduceMod, Nat.zero_ne_one, implies_true, false_implies, Nat.div_one, kvSorted_kvPut, List.length_modify, List.length_map, List.length_set, List.length_mapIdx, forEach_view, foldl_view]

theorem failDuringShed_view {k} (hk : k &&& 16777165 = k) (a0 a1 s) : (failDuringShed a0 a1 s).view k = s.view k := by
  refine view_le hk ?_
  unfold failDuringShed
  simp only [State.updRail_view, abortShed_view, view_upd, fixed_mk, fixed_eta, apply_ite (State.view _), ite_self,
      Nat.reduceAnd, Nat.reduceDiv, Nat.reduceMod, Nat.zero_ne_one, implies_true, false_implies, Nat.div_one, kvSorted_kvPut,
      List.length_modify, List.length_map, List.length_set, List.length_mapIdx]

theorem failPhase_view {k} (hk : k &&& 15446148 = k) (a0 a1 s) : (failPhase a0 a1 s).view k = s.view k := by
  refine view_le hk ?_
  unfold failPhase
  simp only [failDuringShed_view, State.updPhase_view, respace_view, passHead_view, raiseFault_view, view_upd, fixed_mk,
      fixed_eta, apply_ite (State.view _), ite_self, Nat.reduceAnd, Nat.reduceDiv, Nat.reduceMod, Nat.zero_ne_one, implies_true,
      false_implies, Nat.div_one, kvSorted_kvPut, List.length_modify, List.length_map, List.length_set, List.length_mapIdx]

theorem takeCurrents_view {k} (hk : k &&& 16777183 = k) (a0 a1 s) : (takeCurrents a0 a1 s).view k = s.view k := by
  refine view_le hk ?_
  unfold takeCurrents
  simp (disch := (intros; first | done | (simp only [State.updPhase_view, view_upd, fixed_mk, fixed_eta, apply_ite (State.view _), ite_self, Nat.reduceAnd, Nat.reduceDiv, Nat.reduceMod, Nat.zero_ne_one, implies_true, false_implies, Nat.div_one, kvSorted_kvPut, List.length_modify, List.length_map, List.length_set, List.length_mapIdx]; done) | ((repeat' split) <;> simp only [State.updPhase_view, view_upd, fixed_mk, fixed_eta, apply_ite (State.view _), ite_self, Nat.reduceAnd, Nat.reduceDiv, Nat.reduceMod, Nat.zero_ne_one, implies_true, false_implies, Nat.div_one, kvSorted_kvPut, List.length_modify, List.length_map, List.length_set, List.length_mapIdx]; done) | grind [view_upd, fixed_mk, fixed_eta, List.length_modify, State.updPhase_view])) only [State.updPhase_view, view_upd, fixed_mk, fixed_eta, apply_ite (State.view _), ite_self, Nat.reduceAnd, Nat.reduceDiv, Nat.reduceMod, Nat.zero_ne_one, implies_true, false_implies, Nat.div_one, kvSorted_kvPut, List.length_modify, List.length_map, List.length_set, List.length_mapIdx, forEach_view, foldl_view]

theorem takeStage_view {k} (hk : k &&& 16777151 = k) (a0 s) : (takeStage a0 s).view k = s.view k := by
  refine view_le hk ?_
  unfold takeStage
  simp only [view_upd, fixed_mk, fixed_eta, apply_ite (State.view _), ite_self, Nat.reduceAnd, Nat.reduceDiv, Nat.reduceMod,
      Nat.zero_ne_one, implies_true, false_implies, Nat.div_one, kvSorted_kvPut, List.length_modify, List.length_map,
      List.length_set, List.length_mapIdx]

theorem shareTrim_view {k} (hk : k &&& 8388575 = k) (a0 s) : (shareTrim a0 s).view k = s.view k := by
  refine view_le hk ?_
  unfold shareTrim
  simp only [State.updPhase_view, State.takeFree_view, view_upd, fixed_mk, fixed_eta, apply_ite (State.view _), ite_self,
      Nat.reduceAnd, Nat.reduceDiv, Nat.reduceMod, Nat.zero_ne_one, implies_true, false_implies, Nat.div_one, kvSorted_kvPut,
      List.length_modify, List.length_map, List.length_set, List.length_mapIdx]

theorem shareLoop_view {k} (hk : k &&& 8388575 = k) (a0 s) : (shareLoop a0 s).view k = s.view k := by
  refine view_le hk ?_
  unfold shareLoop
  simp (disch := (intros; first | done | (simp only [shareTrim_view, view_upd, fixed_mk, fixed_eta, apply_ite (State.view _), ite_self, Nat.reduceAnd, Nat.reduceDiv, Nat.reduceMod, Nat.zero_ne_one, implies_true, false_implies, Nat.div_one, kvSorted_kvPut, List.length_modify, List.length_map, List.length_set, List.length_mapIdx]; done) | ((repeat' split) <;> simp only [shareTrim_view, view_upd, fixed_mk, fixed_eta, apply_ite (State.view _), ite_self, Nat.reduceAnd, Nat.reduceDiv, Nat.reduceMod, Nat.zero_ne_one, implies_true, false_implies, Nat.div_one, kvSorted_kvPut, List.length_modify, List.length_map, List.length_set, List.length_mapIdx]; done) | grind [view_upd, fixed_mk, fixed_eta, List.length_modify, shareTrim_view])) only [shareTrim_view, view_upd, fixed_mk, fixed_eta, apply_ite (State.view _), ite_self, Nat.reduceAnd, Nat.reduceDiv, Nat.reduceMod, Nat.zero_ne_one, implies_true, false_implies, Nat.div_one, kvSorted_kvPut, List.length_modify, List.length_map, List.length_set, List.length_mapIdx, forEach_view, foldl_view]

theorem shareCheck_view {k} (hk : k &&& 16777183 = k) (a0 s) : (shareCheck a0 s).view k = s.view k := by
  refine view_le hk ?_
  unfold shareCheck
  simp (disch := (intros; first | done | (simp only [State.updPhase_view, view_upd, fixed_mk, fixed_eta, apply_ite (State.view _), ite_self, Nat.reduceAnd, Nat.reduceDiv, Nat.reduceMod, Nat.zero_ne_one, implies_true, false_implies, Nat.div_one, kvSorted_kvPut, List.length_modify, List.length_map, List.length_set, List.length_mapIdx]; done) | ((repeat' split) <;> simp only [State.updPhase_view, view_upd, fixed_mk, fixed_eta, apply_ite (State.view _), ite_self, Nat.reduceAnd, Nat.reduceDiv, Nat.reduceMod, Nat.zero_ne_one, implies_true, false_implies, Nat.div_one, kvSorted_kvPut, List.length_modify, List.length_map, List.length_set, List.length_mapIdx]; done) | grind [view_upd, fixed_mk, fixed_eta, List.length_modify, State.updPhase_view])) only [State.updPhase_view, view_upd, fixed_mk, fixed_eta, apply_ite (State.view _), ite_self, Nat.reduceAnd, Nat.reduceDiv, Nat.reduceMod, Nat.zero_ne_one, implies_true, false_implies, Nat.div_one, kvSorted_kvPut, List.length_modify, List.length_map, List.length_set, List.length_mapIdx, forEach_view, foldl_view]

theorem phaseHolds_view {k} (hk : k &&& 16777183 = k) (a0 s) : (phaseHolds a0 s).view k = s.view k := by
  refine view_le hk ?_
  unfold phaseHolds
  simp (disch := (intros; first | done | (simp only [State.updPhase_view, view_upd, fixed_mk, fixed_eta, apply_ite (State.view _), ite_self, Nat.reduceAnd, Nat.reduceDiv, Nat.reduceMod, Nat.zero_ne_one, implies_true, false_implies, Nat.div_one, kvSorted_kvPut, List.length_modify, List.length_map, List.length_set, List.length_mapIdx]; done) | ((repeat' split) <;> simp only [State.updPhase_view, view_upd, fixed_mk, fixed_eta, apply_ite (State.view _), ite_self, Nat.reduceAnd, Nat.reduceDiv, Nat.reduceMod, Nat.zero_ne_one, implies_true, false_implies, Nat.div_one, kvSorted_kvPut, List.length_modify, List.length_map, List.length_set, List.length_mapIdx]; done) | grind [view_upd, fixed_mk, fixed_eta, List.length_modify, State.updPhase_view])) only [State.updPhase_view, view_upd, fixed_mk, fixed_eta, apply_ite (State.view _), ite_self, Nat.reduceAnd, Nat.reduceDiv, Nat.reduceMod, Nat.zero_ne_one, implies_true, false_implies, Nat.div_one, kvSorted_kvPut, List.length_modify, List.length_map, List.length_set, List.length_mapIdx, forEach_view, foldl_view]

theorem limitTimers_view {k} (hk : k &&& 16777199 = k) (a0 s) : (limitTimers a0 s).view k = s.view k := by
  refine view_le hk ?_
  unfold limitTimers
  simp only [State.updRail_view, view_upd, fixed_mk, fixed_eta, apply_ite (State.view _), ite_self, Nat.reduceAnd,
      Nat.reduceDiv, Nat.reduceMod, Nat.zero_ne_one, implies_true, false_implies, Nat.div_one, kvSorted_kvPut,
      List.length_modify, List.length_map, List.length_set, List.length_mapIdx]

theorem markFold_view {k} (hk : k &&& 16777199 = k) (a0 s) : (markFold a0 s).view k = s.view k := by
  refine view_le hk ?_
  unfold markFold
  simp only [State.updRail_view, view_upd, fixed_mk, fixed_eta, apply_ite (State.view _), ite_self, Nat.reduceAnd,
      Nat.reduceDiv, Nat.reduceMod, Nat.zero_ne_one, implies_true, false_implies, Nat.div_one, kvSorted_kvPut,
      List.length_modify, List.length_map, List.length_set, List.length_mapIdx]

theorem feStep_view {k} (hk : k &&& 16777199 = k) (a0 s) : (feStep a0 s).view k = s.view k := by
  refine view_le hk ?_
  unfold feStep
  (repeat' split) <;> simp only [State.updRail_view, view_upd, fixed_mk, fixed_eta, apply_ite (State.view _), ite_self, Nat.reduceAnd, Nat.reduceDiv, Nat.reduceMod, Nat.zero_ne_one, implies_true, false_implies, Nat.div_one, kvSorted_kvPut, List.length_modify, List.length_map, List.length_set, List.length_mapIdx]

theorem shedHold_view {k} (hk : k &&& 16777199 = k) (a0 s) : (shedHold a0 s).view k = s.view k := by
  refine view_le hk ?_
  unfold shedHold
  simp only [State.updRail_view, view_upd, fixed_mk, fixed_eta, apply_ite (State.view _), ite_self, Nat.reduceAnd,
      Nat.reduceDiv, Nat.reduceMod, Nat.zero_ne_one, implies_true, false_implies, Nat.div_one, kvSorted_kvPut,
      List.length_modify, List.length_map, List.length_set, List.length_mapIdx]

theorem loopsStep_view {k} (hk : k &&& 16775167 = k) (s) : (loopsStep s).view k = s.view k := by
  refine view_le hk ?_
  unfold loopsStep
  simp only [view_upd, fixed_mk, fixed_eta, apply_ite (State.view _), ite_self, Nat.reduceAnd, Nat.reduceDiv, Nat.reduceMod,
      Nat.zero_ne_one, implies_true, false_implies, Nat.div_one, kvSorted_kvPut, List.length_modify, List.length_map,
      List.length_set, List.length_mapIdx]

theorem raiseFound_view {k} (hk : k &&& 15446148 = k) (a0 a1 s) : (raiseFound a0 a1 s).view k = s.view k := by
  refine view_le hk ?_
  unfold raiseFound
  simp (disch := (intros; first | done | (simp only [raiseFault_view, view_upd, fixed_mk, fixed_eta, apply_ite (State.view _), ite_self, Nat.reduceAnd, Nat.reduceDiv, Nat.reduceMod, Nat.zero_ne_one, implies_true, false_implies, Nat.div_one, kvSorted_kvPut, List.length_modify, List.length_map, List.length_set, List.length_mapIdx]; done) | ((repeat' split) <;> simp only [raiseFault_view, view_upd, fixed_mk, fixed_eta, apply_ite (State.view _), ite_self, Nat.reduceAnd, Nat.reduceDiv, Nat.reduceMod, Nat.zero_ne_one, implies_true, false_implies, Nat.div_one, kvSorted_kvPut, List.length_modify, List.length_map, List.length_set, List.length_mapIdx]; done) | grind [view_upd, fixed_mk, fixed_eta, List.length_modify, raiseFault_view])) only [raiseFault_view, view_upd, fixed_mk, fixed_eta, apply_ite (State.view _), ite_self, Nat.reduceAnd, Nat.reduceDiv, Nat.reduceMod, Nat.zero_ne_one, implies_true, false_implies, Nat.div_one, kvSorted_kvPut, List.length_modify, List.length_map, List.length_set, List.length_mapIdx, forEach_view, foldl_view]

theorem railConv_view {k} (hk : k &&& 7057540 = k) (a0 a1 a2 s) : (railConv a0 a1 a2 s).view k = s.view k := by
  refine view_le hk ?_
  unfold railConv
  simp only [State.updRail_view, limitTimers_view, shareCheck_view, shareLoop_view, phaseHolds_view, markFold_view,
      raiseFound_view, skipEnter_view, skipLeave_view, shedHold_view, feStep_view, view_upd, fixed_mk, fixed_eta, apply_ite
      (State.view _), ite_self, Nat.reduceAnd, Nat.reduceDiv, Nat.reduceMod, Nat.zero_ne_one, implies_true, false_implies,
      Nat.div_one, kvSorted_kvPut, List.length_modify, List.length_map, List.length_set, List.length_mapIdx]

theorem conversion_view {k} (hk : k &&& 7057540 = k) (a0 a1 a2 s) : (conversion a0 a1 a2 s).view k = s.view k := by
  refine view_le hk ?_
  unfold conversion
  simp (disch := (intros; first | done | (simp only [advanceTo_view, takeStage_view, takeCurrents_view, railConv_view, loopsStep_view, view_upd, fixed_mk, fixed_eta, apply_ite (State.view _), ite_self, Nat.reduceAnd, Nat.reduceDiv, Nat.reduceMod, Nat.zero_ne_one, implies_true, false_implies, Nat.div_one, kvSorted_kvPut, List.length_modify, List.length_map, List.length_set, List.length_mapIdx]; done) | ((repeat' split) <;> simp only [advanceTo_view, takeStage_view, takeCurrents_view, railConv_view, loopsStep_view, view_upd, fixed_mk, fixed_eta, apply_ite (State.view _), ite_self, Nat.reduceAnd, Nat.reduceDiv, Nat.reduceMod, Nat.zero_ne_one, implies_true, false_implies, Nat.div_one, kvSorted_kvPut, List.length_modify, List.length_map, List.length_set, List.length_mapIdx]; done) | grind [view_upd, fixed_mk, fixed_eta, List.length_modify, advanceTo_view, takeStage_view, takeCurrents_view, railConv_view, loopsStep_view])) only [advanceTo_view, takeStage_view, takeCurrents_view, railConv_view, loopsStep_view, view_upd, fixed_mk, fixed_eta, apply_ite (State.view _), ite_self, Nat.reduceAnd, Nat.reduceDiv, Nat.reduceMod, Nat.zero_ne_one, implies_true, false_implies, Nat.div_one, kvSorted_kvPut, List.length_modify, List.length_map, List.length_set, List.length_mapIdx, forEach_view, foldl_view]

theorem startMoves_view {k} (hk : k &&& 16777135 = k) (a0 s) : (startMoves a0 s).view k = s.view k := by
  refine view_le hk ?_
  unfold startMoves
  simp (disch := (intros; first | done | (simp only [State.updRail_view, movesDone_view, view_upd, fixed_mk, fixed_eta, apply_ite (State.view _), ite_self, Nat.reduceAnd, Nat.reduceDiv, Nat.reduceMod, Nat.zero_ne_one, implies_true, false_implies, Nat.div_one, kvSorted_kvPut, List.length_modify, List.length_map, List.length_set, List.length_mapIdx]; done) | ((repeat' split) <;> simp only [State.updRail_view, movesDone_view, view_upd, fixed_mk, fixed_eta, apply_ite (State.view _), ite_self, Nat.reduceAnd, Nat.reduceDiv, Nat.reduceMod, Nat.zero_ne_one, implies_true, false_implies, Nat.div_one, kvSorted_kvPut, List.length_modify, List.length_map, List.length_set, List.length_mapIdx]; done) | grind [view_upd, fixed_mk, fixed_eta, List.length_modify, State.updRail_view, movesDone_view])) only [State.updRail_view, movesDone_view, view_upd, fixed_mk, fixed_eta, apply_ite (State.view _), ite_self, Nat.reduceAnd, Nat.reduceDiv, Nat.reduceMod, Nat.zero_ne_one, implies_true, false_implies, Nat.div_one, kvSorted_kvPut, List.length_modify, List.length_map, List.length_set, List.length_mapIdx, forEach_view, foldl_view] <;> (repeat' split) <;> simp (disch := (intros; first | done | (simp only [State.updRail_view, movesDone_view, view_upd, fixed_mk, fixed_eta, apply_ite (State.view _), ite_self, Nat.reduceAnd, Nat.reduceDiv, Nat.reduceMod, Nat.zero_ne_one, implies_true, false_implies, Nat.div_one, kvSorted_kvPut, List.length_modify, List.length_map, List.length_set, List.length_mapIdx]; done) | ((repeat' split) <;> simp only [State.updRail_view, movesDone_view, view_upd, fixed_mk, fixed_eta, apply_ite (State.view _), ite_self, Nat.reduceAnd, Nat.reduceDiv, Nat.reduceMod, Nat.zero_ne_one, implies_true, false_implies, Nat.div_one, kvSorted_kvPut, List.length_modify, List.length_map, List.length_set, List.length_mapIdx]; done) | grind [view_upd, fixed_mk, fixed_eta, List.length_modify, State.updRail_view, movesDone_view])) only [State.updRail_view, movesDone_view, view_upd, fixed_mk, fixed_eta, apply_ite (State.view _), ite_self, Nat.reduceAnd, Nat.reduceDiv, Nat.reduceMod, Nat.zero_ne_one, implies_true, false_implies, Nat.div_one, kvSorted_kvPut, List.length_modify, List.length_map, List.length_set, List.length_mapIdx, forEach_view, foldl_view]

theorem groupMove_view {k} (hk : k &&& 16777135 = k) {a0 s t} (h : groupMove a0 s = .ok t) : t.view k = s.view k := by
  refine view_le hk ?_
  unfold groupMove at h
  (repeat' split at h) <;> (try replace h := needRange_ok h) <;> (try replace h := needState_ok h) <;> (try replace h := needRange_ok h) <;> (repeat' split at h) <;> first | (simp only [Host.Outcome.next.injEq, Except.ok.injEq, Option.some.injEq, reduceCtorEq] at h; (try subst h); (repeat' split); all_goals simp only [startMoves_view, view_upd, fixed_mk, fixed_eta, apply_ite (State.view _), ite_self, Nat.reduceAnd, Nat.reduceDiv, Nat.reduceMod, Nat.zero_ne_one, implies_true, false_implies, Nat.div_one, kvSorted_kvPut, List.length_modify, List.length_map, List.length_set, List.length_mapIdx])

theorem groupStop_view {k} (hk : k &&& 15448204 = k) (a0 s) : (groupStop a0 s).view k = s.view k := by
  refine view_le hk ?_
  unfold groupStop
  simp (disch := (intros; first | done | (simp only [stopRail_view, view_upd, fixed_mk, fixed_eta, apply_ite (State.view _), ite_self, Nat.reduceAnd, Nat.reduceDiv, Nat.reduceMod, Nat.zero_ne_one, implies_true, false_implies, Nat.div_one, kvSorted_kvPut, List.length_modify, List.length_map, List.length_set, List.length_mapIdx]; done) | ((repeat' split) <;> simp only [stopRail_view, view_upd, fixed_mk, fixed_eta, apply_ite (State.view _), ite_self, Nat.reduceAnd, Nat.reduceDiv, Nat.reduceMod, Nat.zero_ne_one, implies_true, false_implies, Nat.div_one, kvSorted_kvPut, List.length_modify, List.length_map, List.length_set, List.length_mapIdx]; done) | grind [view_upd, fixed_mk, fixed_eta, List.length_modify, stopRail_view])) only [stopRail_view, view_upd, fixed_mk, fixed_eta, apply_ite (State.view _), ite_self, Nat.reduceAnd, Nat.reduceDiv, Nat.reduceMod, Nat.zero_ne_one, implies_true, false_implies, Nat.div_one, kvSorted_kvPut, List.length_modify, List.length_map, List.length_set, List.length_mapIdx, forEach_view, foldl_view]

theorem writeSetpoint_view {k} (hk : k &&& 16777199 = k) {a0 a1 s t} (h : writeSetpoint a0 a1 s = .ok t) : t.view k = s.view
    k := by
  refine view_le hk ?_
  unfold writeSetpoint at h
  (repeat' split at h) <;> (try replace h := needRange_ok h) <;> (try replace h := needState_ok h) <;> (try replace h := needRange_ok h) <;> (repeat' split at h) <;> first | (simp only [Host.Outcome.next.injEq, Except.ok.injEq, Option.some.injEq, reduceCtorEq] at h; (try subst h); (repeat' split); all_goals simp only [State.updRail_view, view_upd, fixed_mk, fixed_eta, apply_ite (State.view _), ite_self, Nat.reduceAnd, Nat.reduceDiv, Nat.reduceMod, Nat.zero_ne_one, implies_true, false_implies, Nat.div_one, kvSorted_kvPut, List.length_modify, List.length_map, List.length_set, List.length_mapIdx])

theorem writeEnable_view {k} (hk : k &&& 15448204 = k) {a0 a1 s t} (h : writeEnable a0 a1 s = .ok t) : t.view k = s.view k := by
  refine view_le hk ?_
  unfold writeEnable at h
  (repeat' split at h) <;> (try replace h := needRange_ok h) <;> (try replace h := needState_ok h) <;> (try replace h := needRange_ok h) <;> (repeat' split at h) <;> first | (simp only [Host.Outcome.next.injEq, Except.ok.injEq, Option.some.injEq, reduceCtorEq] at h; (try subst h); (repeat' split); all_goals simp only [State.updRail_view, startRail_view, stopRail_view, view_upd, fixed_mk, fixed_eta, apply_ite (State.view _), ite_self, Nat.reduceAnd, Nat.reduceDiv, Nat.reduceMod, Nat.zero_ne_one, implies_true, false_implies, Nat.div_one, kvSorted_kvPut, List.length_modify, List.length_map, List.length_set, List.length_mapIdx])

theorem bankSwap_view {k} (hk : k &&& 16515052 = k) (a0 s) : (bankSwap a0 s).view k = s.view k := by
  refine view_le hk ?_
  unfold bankSwap
  simp only [State.updRail_view, State.put_view, raise_view, view_upd, fixed_mk, fixed_eta, apply_ite (State.view _),
      ite_self, Nat.reduceAnd, Nat.reduceDiv, Nat.reduceMod, Nat.zero_ne_one, implies_true, false_implies, Nat.div_one,
      kvSorted_kvPut, List.length_modify, List.length_map, List.length_set, List.length_mapIdx]

theorem writePhaseCtrl_view {k} (hk : k &&& 16777183 = k) {a0 a1 s t} (h : writePhaseCtrl a0 a1 s = .ok t) : t.view k =
    s.view k := by
  refine view_le hk ?_
  unfold writePhaseCtrl at h
  (repeat' split at h) <;> (try replace h := needRange_ok h) <;> (try replace h := needState_ok h) <;> (try replace h := needRange_ok h) <;> (repeat' split at h) <;> first | (simp only [Host.Outcome.next.injEq, Except.ok.injEq, Option.some.injEq, reduceCtorEq] at h; (try subst h); (repeat' split); all_goals simp only [State.updPhase_view, view_upd, fixed_mk, fixed_eta, apply_ite (State.view _), ite_self, Nat.reduceAnd, Nat.reduceDiv, Nat.reduceMod, Nat.zero_ne_one, implies_true, false_implies, Nat.div_one, kvSorted_kvPut, List.length_modify, List.length_map, List.length_set, List.length_mapIdx])

theorem phaseOut_view {k} (hk : k &&& 15728589 = k) {a0 s t} (h : phaseOut a0 s = .ok t) : t.view k = s.view k := by
  refine view_le hk ?_
  unfold phaseOut at h
  grind [view_upd, fixed_mk, fixed_eta, List.length_modify, respace_view, State.updPhase_view, passHead_view,
      resumePlanned_view, → needState_ok]

theorem phaseIn_view {k} (hk : k &&& 16777183 = k) {a0 s t} (h : phaseIn a0 s = .ok t) : t.view k = s.view k := by
  refine view_le hk ?_
  unfold phaseIn at h
  (repeat' split at h) <;> (try replace h := needRange_ok h) <;> (try replace h := needState_ok h) <;> (try replace h := needRange_ok h) <;> (repeat' split at h) <;> first | (simp only [Host.Outcome.next.injEq, Except.ok.injEq, Option.some.injEq, reduceCtorEq] at h; (try subst h); (repeat' split); all_goals simp only [respace_view, State.updPhase_view, view_upd, fixed_mk, fixed_eta, apply_ite (State.view _), ite_self, Nat.reduceAnd, Nat.reduceDiv, Nat.reduceMod, Nat.zero_ne_one, implies_true, false_implies, Nat.div_one, kvSorted_kvPut, List.length_modify, List.length_map, List.length_set, List.length_mapIdx])

theorem releaseSafe_view {k} (hk : k &&& 16775085 = k) (a0 s) : (releaseSafe a0 s).view k = s.view k := by
  refine view_le hk ?_
  unfold releaseSafe
  simp (disch := (intros; first | done | (simp only [withdrawFor_view, State.updCtx_view, updAccr_view, State.updRail_view, view_upd, fixed_mk, fixed_eta, apply_ite (State.view _), ite_self, Nat.reduceAnd, Nat.reduceDiv, Nat.reduceMod, Nat.zero_ne_one, implies_true, false_implies, Nat.div_one, kvSorted_kvPut, List.length_modify, List.length_map, List.length_set, List.length_mapIdx]; done) | ((repeat' split) <;> simp only [withdrawFor_view, State.updCtx_view, updAccr_view, State.updRail_view, view_upd, fixed_mk, fixed_eta, apply_ite (State.view _), ite_self, Nat.reduceAnd, Nat.reduceDiv, Nat.reduceMod, Nat.zero_ne_one, implies_true, false_implies, Nat.div_one, kvSorted_kvPut, List.length_modify, List.length_map, List.length_set, List.length_mapIdx]; done) | grind [view_upd, fixed_mk, fixed_eta, List.length_modify, withdrawFor_view, State.updCtx_view, updAccr_view, State.updRail_view])) only [withdrawFor_view, State.updCtx_view, updAccr_view, State.updRail_view, view_upd, fixed_mk, fixed_eta, apply_ite (State.view _), ite_self, Nat.reduceAnd, Nat.reduceDiv, Nat.reduceMod, Nat.zero_ne_one, implies_true, false_implies, Nat.div_one, kvSorted_kvPut, List.length_modify, List.length_map, List.length_set, List.length_mapIdx, forEach_view, foldl_view]

theorem railsCommonWrite_view {k} (hk : k &&& 15448204 = k) {i sub v b s t} (h : railsCommonWrite i sub v b s = .ok t) :
    t.view k = s.view k := by
  unfold railsCommonWrite at h
  revert h
  have hs : (Except.ok (storeVal i sub v b s) : Except Nat State) = .ok t → t.view k = s.view k := fun h => by rw [←
      Except.ok.inj h, storeVal_view (view_trans hk (by decide))]
  refine ite_ok_view (fun h => groupMove_view (view_trans hk (by decide)) h) ?_
  refine ite_ok_view (fun h => ?_) ?_
  · rw [← Except.ok.inj h, forEach_view (fun _ _ => raise_view (view_trans hk (by decide)) _ _ _ _ _), storeVal_view
      (view_trans hk (by decide))]
  exact ite_ok_view (fun h => by rw [← Except.ok.inj h, groupStop_view (view_trans hk (by decide))]) hs

theorem railWrite_view {k} (hk : k &&& 15448204 = k) {a0 a1 a2 a3 s t} (h : railWrite a0 a1 a2 a3 s = .ok t) : t.view k =
    s.view k := by
  refine view_le hk ?_
  unfold railWrite at h
  (repeat' split at h) <;> (try replace h := needRange_ok h) <;> (try replace h := needState_ok h) <;> (try replace h := needRange_ok h) <;> (repeat' split at h) <;> first | exact writeSetpoint_view (by decide) h | exact writeEnable_view (by decide) h | (simp only [Host.Outcome.next.injEq, Except.ok.injEq, Option.some.injEq, reduceCtorEq] at h; (try subst h); (repeat' split); all_goals simp only [storeVal_view, State.updRail_view, view_upd, fixed_mk, fixed_eta, apply_ite (State.view _), ite_self, Nat.reduceAnd, Nat.reduceDiv, Nat.reduceMod, Nat.zero_ne_one, implies_true, false_implies, Nat.div_one, kvSorted_kvPut, List.length_modify, List.length_map, List.length_set, List.length_mapIdx])

theorem protWrite_view {k} (hk : k &&& 16775085 = k) {a0 a1 a2 a3 s t} (h : protWrite a0 a1 a2 a3 s = .ok t) : t.view k =
    s.view k := by
  refine view_le hk ?_
  unfold protWrite at h
  (repeat' split at h) <;> (try replace h := needRange_ok h) <;> (try replace h := needState_ok h) <;> (try replace h := needRange_ok h) <;> (repeat' split at h) <;> first | (simp only [Host.Outcome.next.injEq, Except.ok.injEq, Option.some.injEq, reduceCtorEq] at h; (try subst h); (repeat' split); all_goals simp only [storeVal_view, State.updRail_view, releaseSafe_view, view_upd, fixed_mk, fixed_eta, apply_ite (State.view _), ite_self, Nat.reduceAnd, Nat.reduceDiv, Nat.reduceMod, Nat.zero_ne_one, implies_true, false_implies, Nat.div_one, kvSorted_kvPut, List.length_modify, List.length_map, List.length_set, List.length_mapIdx])

theorem railsWrite_view {k} (hk : k &&& 15446156 = k) {i sub v b s t} (h : railsWrite i sub v b s = .ok t) : t.view k =
    s.view k := by
  unfold railsWrite at h
  revert h
  have hs : (Except.ok (storeVal i sub v b s) : Except Nat State) = .ok t → t.view k = s.view k := fun h => by rw [←
      Except.ok.inj h, storeVal_view (view_trans hk (by decide))]
  dsimp only
  refine ite_ok_view (fun h => railsCommonWrite_view (view_trans hk (by decide)) h) ?_
  refine ite_ok_view (fun h => railWrite_view (view_trans hk (by decide)) h) ?_
  refine ite_ok_view (ite_ok_view (fun h => by rw [← Except.ok.inj h, bankSwap_view (view_trans hk (by decide))]) (fun h => hs (needState_ok h))) ?_
  refine ite_ok_view (ite_ok_view (fun h => writePhaseCtrl_view (view_trans hk (by decide)) h) (ite_ok_view (ite_ok_view (fun h => phaseOut_view (view_trans hk (by decide)) h) (fun h => phaseIn_view (view_trans hk (by decide)) h)) hs)) (fun h => protWrite_view (view_trans hk (by decide)) h)

theorem bumpTile_view {k} (hk : k &&& 16776703 = k) (a0 s) : (bumpTile a0 s).view k = s.view k := by
  refine view_le hk ?_
  unfold bumpTile
  simp only [view_upd, fixed_mk, fixed_eta, apply_ite (State.view _), ite_self, Nat.reduceAnd, Nat.reduceDiv, Nat.reduceMod,
      Nat.zero_ne_one, implies_true, false_implies, Nat.div_one, kvSorted_kvPut, List.length_modify, List.length_map,
      List.length_set, List.length_mapIdx]

theorem setTarget1_view {k} (hk : k &&& 16776959 = k) (a0 a1 s) : (setTarget1 a0 a1 s).view k = s.view k := by
  refine view_le hk ?_
  unfold setTarget1
  simp only [State.updRegion_view, view_upd, fixed_mk, fixed_eta, apply_ite (State.view _), ite_self, Nat.reduceAnd,
      Nat.reduceDiv, Nat.reduceMod, Nat.zero_ne_one, implies_true, false_implies, Nat.div_one, kvSorted_kvPut,
      List.length_modify, List.length_map, List.length_set, List.length_mapIdx]

theorem setBypass_view {k} (hk : k &&& 16776959 = k) (a0 a1 s) : (setBypass a0 a1 s).view k = s.view k := by
  refine view_le hk ?_
  unfold setBypass
  simp only [State.updRegion_view, view_upd, fixed_mk, fixed_eta, apply_ite (State.view _), ite_self, Nat.reduceAnd,
      Nat.reduceDiv, Nat.reduceMod, Nat.zero_ne_one, implies_true, false_implies, Nat.div_one, kvSorted_kvPut,
      List.length_modify, List.length_map, List.length_set, List.length_mapIdx]

theorem headroomStep_view {k} (hk : k &&& 16776687 = k) (s) : (headroomStep s).view k = s.view k := by
  refine view_le hk ?_
  unfold headroomStep
  grind [view_upd, fixed_mk, fixed_eta, List.length_modify, State.updRail_view]

theorem startRegulate_view {k} (hk : k &&& 16776959 = k) (a0 s) : (startRegulate a0 s).view k = s.view k := by
  refine view_le hk ?_
  unfold startRegulate
  simp only [State.updRegion_view, view_upd, fixed_mk, fixed_eta, apply_ite (State.view _), ite_self, Nat.reduceAnd,
      Nat.reduceDiv, Nat.reduceMod, Nat.zero_ne_one, implies_true, false_implies, Nat.div_one, kvSorted_kvPut,
      List.length_modify, List.length_map, List.length_set, List.length_mapIdx]

theorem controlCycle_view {k} (hk : k &&& 15727805 = k) (a0 a1 s) : (controlCycle a0 a1 s).view k = s.view k := by
  refine view_le hk ?_
  unfold controlCycle
  simp only [startRegulate_view, State.count_view, State.add64_view, State.updRegion_view, State.updCtx_view, view_upd,
      fixed_mk, fixed_eta, apply_ite (State.view _), ite_self, Nat.reduceAnd, Nat.reduceDiv, Nat.reduceMod, Nat.zero_ne_one,
      implies_true, false_implies, Nat.div_one, kvSorted_kvPut, List.length_modify, List.length_map, List.length_set,
      List.length_mapIdx]

theorem shimFault_view {k} (hk : k &&& 15446148 = k) (a0 a1 a2 a3 s) : (shimFault a0 a1 a2 a3 s).view k = s.view k := by
  refine view_le hk ?_
  unfold shimFault
  simp only [raiseFault_view, setKerfFlag_view, view_upd, fixed_mk, fixed_eta, apply_ite (State.view _), ite_self,
      Nat.reduceAnd, Nat.reduceDiv, Nat.reduceMod, Nat.zero_ne_one, implies_true, false_implies, Nat.div_one, kvSorted_kvPut,
      List.length_modify, List.length_map, List.length_set, List.length_mapIdx]

theorem crossKerf_view {k} (hk : k &&& 16774397 = k) (a0 s) : (crossKerf a0 s).view k = s.view k := by
  refine view_le hk ?_
  unfold crossKerf
  simp only [State.put_view, State.updRegion_view, updAccr_view, view_upd, fixed_mk, fixed_eta, apply_ite (State.view _),
      ite_self, Nat.reduceAnd, Nat.reduceDiv, Nat.reduceMod, Nat.zero_ne_one, implies_true, false_implies, Nat.div_one,
      kvSorted_kvPut, List.length_modify, List.length_map, List.length_set, List.length_mapIdx]

theorem deepen_view {k} (hk : k &&& 15728381 = k) (a0 a1 s) : (deepen a0 a1 s).view k = s.view k := by
  refine view_le hk ?_
  unfold deepen
  simp only [countEdges_view, State.put_view, State.updRegion_view, view_upd, fixed_mk, fixed_eta, apply_ite (State.view _),
      ite_self, Nat.reduceAnd, Nat.reduceDiv, Nat.reduceMod, Nat.zero_ne_one, implies_true, false_implies, Nat.div_one,
      kvSorted_kvPut, List.length_modify, List.length_map, List.length_set, List.length_mapIdx]

theorem postPreload_view {k} (hk : k &&& 16776959 = k) (a0 a1 a2 a3 s) : (postPreload a0 a1 a2 a3 s).view k = s.view k := by
  refine view_le hk ?_
  unfold postPreload
  simp only [State.updRegion_view, view_upd, fixed_mk, fixed_eta, apply_ite (State.view _), ite_self, Nat.reduceAnd,
      Nat.reduceDiv, Nat.reduceMod, Nat.zero_ne_one, implies_true, false_implies, Nat.div_one, kvSorted_kvPut,
      List.length_modify, List.length_map, List.length_set, List.length_mapIdx]

theorem cancelPreloads_view {k} (hk : k &&& 16776957 = k) (s) : (cancelPreloads s).view k = s.view k := by
  refine view_le hk ?_
  unfold cancelPreloads
  simp only [State.add32_view, view_upd, fixed_mk, fixed_eta, apply_ite (State.view _), ite_self, Nat.reduceAnd,
      Nat.reduceDiv, Nat.reduceMod, Nat.zero_ne_one, implies_true, false_implies, Nat.div_one, kvSorted_kvPut,
      List.length_modify, List.length_map, List.length_set, List.length_mapIdx]

theorem autoTrim_view {k} (hk : k &&& 16776957 = k) (a0 a1 s) : (autoTrim a0 a1 s).view k = s.view k := by
  refine view_le hk ?_
  unfold autoTrim
  simp only [State.updRegion_view, State.put_view, view_upd, fixed_mk, fixed_eta, apply_ite (State.view _), ite_self,
      Nat.reduceAnd, Nat.reduceDiv, Nat.reduceMod, Nat.zero_ne_one, implies_true, false_implies, Nat.div_one, kvSorted_kvPut,
      List.length_modify, List.length_map, List.length_set, List.length_mapIdx]

theorem monitorReading_view {k} (hk : k &&& 15446148 = k) (a0 a1 s) : (monitorReading a0 a1 s).view k = s.view k := by
  refine view_le hk ?_
  unfold monitorReading
  simp only [State.updRegion_view, shimFault_view, autoTrim_view, view_upd, fixed_mk, fixed_eta, apply_ite (State.view _),
      ite_self, Nat.reduceAnd, Nat.reduceDiv, Nat.reduceMod, Nat.zero_ne_one, implies_true, false_implies, Nat.div_one,
      kvSorted_kvPut, List.length_modify, List.length_map, List.length_set, List.length_mapIdx]

theorem writeTile_view {k} (hk : k &&& 16776447 = k) (a0 a1 s) : (writeTile a0 a1 s).view k = s.view k := by
  refine view_le hk ?_
  unfold writeTile
  simp (disch := (intros; first | done | (simp only [bumpTile_view, setBypass_view, setTarget1_view, view_upd, fixed_mk, fixed_eta, apply_ite (State.view _), ite_self, Nat.reduceAnd, Nat.reduceDiv, Nat.reduceMod, Nat.zero_ne_one, implies_true, false_implies, Nat.div_one, kvSorted_kvPut, List.length_modify, List.length_map, List.length_set, List.length_mapIdx]; done) | ((repeat' split) <;> simp only [bumpTile_view, setBypass_view, setTarget1_view, view_upd, fixed_mk, fixed_eta, apply_ite (State.view _), ite_self, Nat.reduceAnd, Nat.reduceDiv, Nat.reduceMod, Nat.zero_ne_one, implies_true, false_implies, Nat.div_one, kvSorted_kvPut, List.length_modify, List.length_map, List.length_set, List.length_mapIdx]; done) | grind [view_upd, fixed_mk, fixed_eta, List.length_modify, bumpTile_view, setBypass_view, setTarget1_view])) only [bumpTile_view, setBypass_view, setTarget1_view, view_upd, fixed_mk, fixed_eta, apply_ite (State.view _), ite_self, Nat.reduceAnd, Nat.reduceDiv, Nat.reduceMod, Nat.zero_ne_one, implies_true, false_implies, Nat.div_one, kvSorted_kvPut, List.length_modify, List.length_map, List.length_set, List.length_mapIdx, forEach_view, foldl_view]

theorem shimsWrite_view {k} (hk : k &&& 16776445 = k) {a0 a1 a2 a3 s t} (h : shimsWrite a0 a1 a2 a3 s = .ok t) : t.view k =
    s.view k := by
  refine view_le hk ?_
  unfold shimsWrite at h
  (repeat' split at h) <;> (try replace h := needRange_ok h) <;> (try replace h := needState_ok h) <;> (try replace h := needRange_ok h) <;> (repeat' split at h) <;> first | (simp only [Host.Outcome.next.injEq, Except.ok.injEq, Option.some.injEq, reduceCtorEq] at h; (try subst h); (repeat' split); all_goals simp only [writeTile_view, bumpTile_view, setBypass_view, setTarget1_view, State.updRegion_view, storeVal_view, view_upd, fixed_mk, fixed_eta, apply_ite (State.view _), ite_self, Nat.reduceAnd, Nat.reduceDiv, Nat.reduceMod, Nat.zero_ne_one, implies_true, false_implies, Nat.div_one, kvSorted_kvPut, List.length_modify, List.length_map, List.length_set, List.length_mapIdx])

theorem State.updSrc_view {k} (hk : k &&& 16776190 = k) (s a1 a2) : (State.updSrc s a1 a2).view k = s.view k := by
  refine view_le hk ?_
  unfold State.updSrc
  (repeat' split) <;> simp only [view_upd, fixed_mk, fixed_eta, apply_ite (State.view _), ite_self, Nat.reduceAnd, Nat.reduceDiv, Nat.reduceMod, Nat.zero_ne_one, implies_true, false_implies, Nat.div_one, kvSorted_kvPut, List.length_modify, List.length_map, List.length_set, List.length_mapIdx]

theorem clockFault_view {k} (hk : k &&& 15446148 = k) (a0 a1 s) : (clockFault a0 a1 s).view k = s.view k := by
  refine view_le hk ?_
  unfold clockFault
  simp only [raiseFault_view, assertNmi_view, view_upd, fixed_mk, fixed_eta, apply_ite (State.view _), ite_self,
      Nat.reduceAnd, Nat.reduceDiv, Nat.reduceMod, Nat.zero_ne_one, implies_true, false_implies, Nat.div_one, kvSorted_kvPut,
      List.length_modify, List.length_map, List.length_set, List.length_mapIdx]

theorem tileToInt_view {k} (hk : k &&& 15446148 = k) (s) : (tileToInt s).view k = s.view k := by
  refine view_le hk ?_
  unfold tileToInt
  simp only [updAccr_view, clockFault_view, view_upd, fixed_mk, fixed_eta, apply_ite (State.view _), ite_self,
      Nat.reduceAnd, Nat.reduceDiv, Nat.reduceMod, Nat.zero_ne_one, implies_true, false_implies, Nat.div_one, kvSorted_kvPut,
      List.length_modify, List.length_map, List.length_set, List.length_mapIdx]

theorem engToInt_view {k} (hk : k &&& 15446148 = k) (s) : (engToInt s).view k = s.view k := by
  refine view_le hk ?_
  unfold engToInt
  simp only [updAccr_view, clockFault_view, view_upd, fixed_mk, fixed_eta, apply_ite (State.view _), ite_self,
      Nat.reduceAnd, Nat.reduceDiv, Nat.reduceMod, Nat.zero_ne_one, implies_true, false_implies, Nat.div_one, kvSorted_kvPut,
      List.length_modify, List.length_map, List.length_set, List.length_mapIdx]

theorem refFail_view {k} (hk : k &&& 15446148 = k) (s) : (refFail s).view k = s.view k := by
  refine view_le hk ?_
  unfold refFail
  simp only [State.bump32_view, setClkFlag_view, clockFault_view, view_upd, fixed_mk, fixed_eta, apply_ite (State.view _),
      ite_self, Nat.reduceAnd, Nat.reduceDiv, Nat.reduceMod, Nat.zero_ne_one, implies_true, false_implies, Nat.div_one,
      kvSorted_kvPut, List.length_modify, List.length_map, List.length_set, List.length_mapIdx]

theorem pllFail_view {k} (hk : k &&& 15446148 = k) (a0 s) : (pllFail a0 s).view k = s.view k := by
  refine view_le hk ?_
  unfold pllFail
  simp only [setClkFlag_view, State.bump32_view, tileToInt_view, engToInt_view, view_upd, fixed_mk, fixed_eta, apply_ite
      (State.view _), ite_self, Nat.reduceAnd, Nat.reduceDiv, Nat.reduceMod, Nat.zero_ne_one, implies_true, false_implies,
      Nat.div_one, kvSorted_kvPut, List.length_modify, List.length_map, List.length_set, List.length_mapIdx]

theorem srcFail_view {k} (hk : k &&& 15446148 = k) (a0 s) : (srcFail a0 s).view k = s.view k := by
  refine view_le hk ?_
  unfold srcFail
  (repeat' split) <;> simp only [State.updSrc_view, refFail_view, pllFail_view, clockFault_view, setClkFlag_view, view_upd, fixed_mk, fixed_eta, apply_ite (State.view _), ite_self, Nat.reduceAnd, Nat.reduceDiv, Nat.reduceMod, Nat.zero_ne_one, implies_true, false_implies, Nat.div_one, kvSorted_kvPut, List.length_modify, List.length_map, List.length_set, List.length_mapIdx]

theorem srcQualify_view {k} (hk : k &&& 16774076 = k) (a0 s) : (srcQualify a0 s).view k = s.view k := by
  refine view_le hk ?_
  unfold srcQualify
  simp only [State.updSrc_view, clearFault_view, view_upd, fixed_mk, fixed_eta, apply_ite (State.view _), ite_self,
      Nat.reduceAnd, Nat.reduceDiv, Nat.reduceMod, Nat.zero_ne_one, implies_true, false_implies, Nat.div_one, kvSorted_kvPut,
      List.length_modify, List.length_map, List.length_set, List.length_mapIdx]

theorem srcWindow_view {k} (hk : k &&& 15446148 = k) (a0 a1 s) : (srcWindow a0 a1 s).view k = s.view k := by
  refine view_le hk ?_
  unfold srcWindow
  simp only [State.updSrc_view, srcQualify_view, srcFail_view, view_upd, fixed_mk, fixed_eta, apply_ite (State.view _),
      ite_self, Nat.reduceAnd, Nat.reduceDiv, Nat.reduceMod, Nat.zero_ne_one, implies_true, false_implies, Nat.div_one,
      kvSorted_kvPut, List.length_modify, List.length_map, List.length_set, List.length_mapIdx]

theorem sramMove_view {k} (hk : k &&& 16776111 = k) (a0 s) : (sramMove a0 s).view k = s.view k := by
  refine view_le hk ?_
  unfold sramMove
  (repeat' split) <;> simp only [startMoves_view, view_upd, fixed_mk, fixed_eta, apply_ite (State.view _), ite_self, Nat.reduceAnd, Nat.reduceDiv, Nat.reduceMod, Nat.zero_ne_one, implies_true, false_implies, Nat.div_one, kvSorted_kvPut, List.length_modify, List.length_map, List.length_set, List.length_mapIdx]

theorem voltageStep_view {k} (hk : k &&& 16775343 = k) (a0 s) : (voltageStep a0 s).view k = s.view k := by
  refine view_le hk ?_
  unfold voltageStep
  simp (disch := (intros; first | done | (simp only [setTarget1_view, bumpTile_view, sramMove_view, view_upd, fixed_mk, fixed_eta, apply_ite (State.view _), ite_self, Nat.reduceAnd, Nat.reduceDiv, Nat.reduceMod, Nat.zero_ne_one, implies_true, false_implies, Nat.div_one, kvSorted_kvPut, List.length_modify, List.length_map, List.length_set, List.length_mapIdx]; done) | ((repeat' split) <;> simp only [setTarget1_view, bumpTile_view, sramMove_view, view_upd, fixed_mk, fixed_eta, apply_ite (State.view _), ite_self, Nat.reduceAnd, Nat.reduceDiv, Nat.reduceMod, Nat.zero_ne_one, implies_true, false_implies, Nat.div_one, kvSorted_kvPut, List.length_modify, List.length_map, List.length_set, List.length_mapIdx]; done) | grind [view_upd, fixed_mk, fixed_eta, List.length_modify, setTarget1_view, bumpTile_view, sramMove_view])) only [setTarget1_view, bumpTile_view, sramMove_view, view_upd, fixed_mk, fixed_eta, apply_ite (State.view _), ite_self, Nat.reduceAnd, Nat.reduceDiv, Nat.reduceMod, Nat.zero_ne_one, implies_true, false_implies, Nat.div_one, kvSorted_kvPut, List.length_modify, List.length_map, List.length_set, List.length_mapIdx, forEach_view, foldl_view]

theorem seqBegin_view {k} (hk : k &&& 16776191 = k) (s) : (seqBegin s).view k = s.view k := by
  refine view_le hk ?_
  unfold seqBegin
  simp only [view_upd, fixed_mk, fixed_eta, apply_ite (State.view _), ite_self, Nat.reduceAnd, Nat.reduceDiv, Nat.reduceMod,
      Nat.zero_ne_one, implies_true, false_implies, Nat.div_one, kvSorted_kvPut, List.length_modify, List.length_map,
      List.length_set, List.length_mapIdx]

theorem seqArrive_view {k} (hk : k &&& 16776191 = k) (s) : (seqArrive s).view k = s.view k := by
  refine view_le hk ?_
  unfold seqArrive
  simp only [seqBegin_view, view_upd, fixed_mk, fixed_eta, apply_ite (State.view _), ite_self, Nat.reduceAnd, Nat.reduceDiv,
      Nat.reduceMod, Nat.zero_ne_one, implies_true, false_implies, Nat.div_one, kvSorted_kvPut, List.length_modify,
      List.length_map, List.length_set, List.length_mapIdx]

theorem seqDivided_view {k} (hk : k &&& 16776191 = k) (s) : (seqDivided s).view k = s.view k := by
  refine view_le hk ?_
  unfold seqDivided
  simp only [seqArrive_view, view_upd, fixed_mk, fixed_eta, apply_ite (State.view _), ite_self, Nat.reduceAnd,
      Nat.reduceDiv, Nat.reduceMod, Nat.zero_ne_one, implies_true, false_implies, Nat.div_one, kvSorted_kvPut,
      List.length_modify, List.length_map, List.length_set, List.length_mapIdx]

theorem seqVoltage_view {k} (hk : k &&& 15462572 = k) (s) : (seqVoltage s).view k = s.view k := by
  refine view_le hk ?_
  unfold seqVoltage
  simp only [seqBegin_view, advanceTo_view, voltageStep_view, State.bump32_view, view_upd, fixed_mk, fixed_eta, apply_ite
      (State.view _), ite_self, Nat.reduceAnd, Nat.reduceDiv, Nat.reduceMod, Nat.zero_ne_one, implies_true, false_implies,
      Nat.div_one, kvSorted_kvPut, List.length_modify, List.length_map, List.length_set, List.length_mapIdx]

theorem seqVoltageEnd_view {k} (hk : k &&& 16776191 = k) (s) : (seqVoltageEnd s).view k = s.view k := by
  refine view_le hk ?_
  unfold seqVoltageEnd
  simp only [seqDivided_view, seqArrive_view, view_upd, fixed_mk, fixed_eta, apply_ite (State.view _), ite_self,
      Nat.reduceAnd, Nat.reduceDiv, Nat.reduceMod, Nat.zero_ne_one, implies_true, false_implies, Nat.div_one, kvSorted_kvPut,
      List.length_modify, List.length_map, List.length_set, List.length_mapIdx]

theorem seqTimeout_view {k} (hk : k &&& 15446148 = k) (s) : (seqTimeout s).view k = s.view k := by
  refine view_le hk ?_
  unfold seqTimeout
  simp only [advanceTo_view, raiseFault_view, setClkFlag_view, voltageStep_view, view_upd, fixed_mk, fixed_eta, apply_ite
      (State.view _), ite_self, Nat.reduceAnd, Nat.reduceDiv, Nat.reduceMod, Nat.zero_ne_one, implies_true, false_implies,
      Nat.div_one, kvSorted_kvPut, List.length_modify, List.length_map, List.length_set, List.length_mapIdx]

theorem seqRetry_view {k} (hk : k &&& 16776111 = k) (s) : (seqRetry s).view k = s.view k := by
  refine view_le hk ?_
  unfold seqRetry
  simp only [sramMove_view, view_upd, fixed_mk, fixed_eta, apply_ite (State.view _), ite_self, Nat.reduceAnd, Nat.reduceDiv,
      Nat.reduceMod, Nat.zero_ne_one, implies_true, false_implies, Nat.div_one, kvSorted_kvPut, List.length_modify,
      List.length_map, List.length_set, List.length_mapIdx]

theorem tclkGo_view {k} (hk : k &&& 16776191 = k) (s) : (tclkGo s).view k = s.view k := by
  refine view_le hk ?_
  unfold tclkGo
  simp only [seqBegin_view, view_upd, fixed_mk, fixed_eta, apply_ite (State.view _), ite_self, Nat.reduceAnd, Nat.reduceDiv,
      Nat.reduceMod, Nat.zero_ne_one, implies_true, false_implies, Nat.div_one, kvSorted_kvPut, List.length_modify,
      List.length_map, List.length_set, List.length_mapIdx]

theorem dividerStep_view {k} (hk : k &&& 15463420 = k) (s) : (dividerStep s).view k = s.view k := by
  refine view_le hk ?_
  unfold dividerStep
  simp only [seqBegin_view, seqDivided_view, advanceTiles_view, State.bump32_view, view_upd, fixed_mk, fixed_eta, apply_ite
      (State.view _), ite_self, Nat.reduceAnd, Nat.reduceDiv, Nat.reduceMod, Nat.zero_ne_one, implies_true, false_implies,
      Nat.div_one, kvSorted_kvPut, List.length_modify, List.length_map, List.length_set, List.length_mapIdx]

theorem skipStep_view {k} (hk : k &&& 15463420 = k) (s) : (skipStep s).view k = s.view k := by
  refine view_le hk ?_
  unfold skipStep
  simp only [advanceTiles_view, State.bump32_view, view_upd, fixed_mk, fixed_eta, apply_ite (State.view _), ite_self,
      Nat.reduceAnd, Nat.reduceDiv, Nat.reduceMod, Nat.zero_ne_one, implies_true, false_implies, Nat.div_one, kvSorted_kvPut,
      List.length_modify, List.length_map, List.length_set, List.length_mapIdx]

theorem writePointReq_view {k} (hk : k &&& 16776189 = k) {a0 a1 s t} (h : writePointReq a0 a1 s = .ok t) : t.view k = s.view
    k := by
  refine view_le hk ?_
  unfold writePointReq at h
  (repeat' split at h) <;> (try replace h := needRange_ok h) <;> (try replace h := needState_ok h) <;> (try replace h := needRange_ok h) <;> (repeat' split at h) <;> first | (simp only [Host.Outcome.next.injEq, Except.ok.injEq, Option.some.injEq, reduceCtorEq] at h; (try subst h); (repeat' split); all_goals simp only [seqBegin_view, setTarget_view, State.put_view, view_upd, fixed_mk, fixed_eta, apply_ite (State.view _), ite_self, Nat.reduceAnd, Nat.reduceDiv, Nat.reduceMod, Nat.zero_ne_one, implies_true, false_implies, Nat.div_one, kvSorted_kvPut, List.length_modify, List.length_map, List.length_set, List.length_mapIdx])

theorem writeTileSrc_view {k} (hk : k &&& 16774141 = k) {a0 s t} (h : writeTileSrc a0 s = .ok t) : t.view k = s.view k := by
  refine view_le hk ?_
  unfold writeTileSrc at h
  (repeat' split at h) <;> (try replace h := needRange_ok h) <;> (try replace h := needState_ok h) <;> (try replace h := needRange_ok h) <;> (repeat' split at h) <;> first | (simp only [Host.Outcome.next.injEq, Except.ok.injEq, Option.some.injEq, reduceCtorEq] at h; (try subst h); (repeat' split); all_goals simp only [State.put_view, updAccr_view, seqBegin_view, view_upd, fixed_mk, fixed_eta, apply_ite (State.view _), ite_self, Nat.reduceAnd, Nat.reduceDiv, Nat.reduceMod, Nat.zero_ne_one, implies_true, false_implies, Nat.div_one, kvSorted_kvPut, List.length_modify, List.length_map, List.length_set, List.length_mapIdx])

theorem clkWrite_view {k} (hk : k &&& 16774141 = k) {fw i sub v b s t} (h : clkWrite fw i sub v b s = .ok t) : t.view k =
    s.view k := by
  unfold clkWrite at h
  revert h
  have hs : (Except.ok (storeVal i sub v b s) : Except Nat State) = .ok t → t.view k = s.view k := fun h => by rw [←
      Except.ok.inj h, storeVal_view (view_trans hk (by decide))]
  refine ite_ok_view (ite_ok_view (fun h => writeTileSrc_view (view_trans hk (by decide)) h) (ite_ok_view (fun h => writePointReq_view (view_trans hk (by decide)) h) (ite_ok_view (fun h => hs (needState_ok h)) hs))) ?_
  refine ite_ok_view (fun h => by rw [← Except.ok.inj (needState_ok (needRange_ok h)), seqBegin_view (view_trans hk (by decide)), setTarget_view (view_trans hk (by decide)), State.putDom_view (view_trans hk (by decide))]) ?_
  exact ite_ok_view (fun h => hs (needRange_ok h)) hs

end Sys2Proof.Machine
end

