-- ==== Sys2Proof/Laws/ViewFlow.lean ====
section
/-! SUPPORT. The frames of the functions of feed-forward, SYNC, caps, barriers, links, flash and thermal: one lemma per function says which units of the state
it keeps (a mask of `State.view`), cited by the lemmas of its callers. -/

namespace Sys2Proof.Machine

open Sys2Proof

set_option linter.all false

theorem startSettling_view {k} (hk : k &&& 8388479 = k) (s) : (startSettling s).view k = s.view k := by
  refine view_le hk ?_
  unfold startSettling
  refine Eq.trans ?_ (State.takeFree_view (k := 8388479) (by decide) s)
  exact view_upd (by simp only [State.takeFree, fixed_mk]) (fun _ => rfl) (fun _ => rfl) (fun _ => rfl) (fun _ => rfl) (fun
      _ => rfl) (fun _ => rfl) (fun _ => rfl) (fun h => absurd h (by decide))
    (fun _ => rfl) (fun _ => rfl) (fun _ => rfl) (fun _ => rfl) (fun _ => rfl) (fun _ => rfl) (fun _ => rfl) (fun _ => rfl)
        (fun _ => rfl) (fun _ => rfl) (fun _ => rfl) (fun _ => rfl) (fun _ => rfl) (fun _ => rfl) (fun _ => rfl) (fun _ => rfl)

theorem discardPending_view {k} (hk : k &&& 16777085 = k) (s) : (discardPending s).view k = s.view k := by
  refine view_le hk ?_
  unfold discardPending
  simp only [State.add32_view, view_upd, fixed_mk, fixed_eta, apply_ite (State.view _), ite_self, Nat.reduceAnd,
      Nat.reduceDiv, Nat.reduceMod, Nat.zero_ne_one, implies_true, false_implies, Nat.div_one, kvSorted_kvPut,
      List.length_modify, List.length_map, List.length_set, List.length_mapIdx]

theorem disarmPlan_view {k} (hk : k &&& 16769023 = k) (s) : (disarmPlan s).view k = s.view k := by
  refine view_le hk ?_
  unfold disarmPlan
  simp only [view_upd, fixed_mk, fixed_eta, apply_ite (State.view _), ite_self, Nat.reduceAnd, Nat.reduceDiv, Nat.reduceMod,
      Nat.zero_ne_one, implies_true, false_implies, Nat.div_one, kvSorted_kvPut, List.length_modify, List.length_map,
      List.length_set, List.length_mapIdx]

theorem stepError_view {k} (hk : k &&& 7049220 = k) (s) : (stepError s).view k = s.view k := by
  refine view_le hk ?_
  unfold stepError
  simp (disch := (intros; first | done | (simp only [State.count_view, setFfFlag_view, State.bump32_view, disarmPlan_view, cancelPreloads_view, startSettling_view, discardPending_view, ffLeave_view, State.updRail_view, raiseFault_view, view_upd, fixed_mk, fixed_eta, apply_ite (State.view _), ite_self, Nat.reduceAnd, Nat.reduceDiv, Nat.reduceMod, Nat.zero_ne_one, implies_true, false_implies, Nat.div_one, kvSorted_kvPut, List.length_modify, List.length_map, List.length_set, List.length_mapIdx]; done) | ((repeat' split) <;> simp only [State.count_view, setFfFlag_view, State.bump32_view, disarmPlan_view, cancelPreloads_view, startSettling_view, discardPending_view, ffLeave_view, State.updRail_view, raiseFault_view, view_upd, fixed_mk, fixed_eta, apply_ite (State.view _), ite_self, Nat.reduceAnd, Nat.reduceDiv, Nat.reduceMod, Nat.zero_ne_one, implies_true, false_implies, Nat.div_one, kvSorted_kvPut, List.length_modify, List.length_map, List.length_set, List.length_mapIdx]; done) | grind [view_upd, fixed_mk, fixed_eta, List.length_modify, State.count_view, setFfFlag_view, State.bump32_view, disarmPlan_view, cancelPreloads_view, startSettling_view, discardPending_view, ffLeave_view, State.updRail_view, raiseFault_view])) only [State.count_view, setFfFlag_view, State.bump32_view, disarmPlan_view, cancelPreloads_view, startSettling_view, discardPending_view, ffLeave_view, State.updRail_view, raiseFault_view, view_upd, fixed_mk, fixed_eta, apply_ite (State.view _), ite_self, Nat.reduceAnd, Nat.reduceDiv, Nat.reduceMod, Nat.zero_ne_one, implies_true, false_implies, Nat.div_one, kvSorted_kvPut, List.length_modify, List.length_map, List.length_set, List.length_mapIdx, forEach_view, foldl_view]

theorem ffWithdraw_view {k} (hk : k &&& 8117868 = k) (s) : (ffWithdraw s).view k = s.view k := by
  refine view_le hk ?_
  unfold ffWithdraw
  simp (disch := (intros; first | done | (simp only [setFfFlag_view, State.bump32_view, disarmPlan_view, cancelPreloads_view, startSettling_view, discardPending_view, ffLeave_view, raise_view, view_upd, fixed_mk, fixed_eta, apply_ite (State.view _), ite_self, Nat.reduceAnd, Nat.reduceDiv, Nat.reduceMod, Nat.zero_ne_one, implies_true, false_implies, Nat.div_one, kvSorted_kvPut, List.length_modify, List.length_map, List.length_set, List.length_mapIdx]; done) | ((repeat' split) <;> simp only [setFfFlag_view, State.bump32_view, disarmPlan_view, cancelPreloads_view, startSettling_view, discardPending_view, ffLeave_view, raise_view, view_upd, fixed_mk, fixed_eta, apply_ite (State.view _), ite_self, Nat.reduceAnd, Nat.reduceDiv, Nat.reduceMod, Nat.zero_ne_one, implies_true, false_implies, Nat.div_one, kvSorted_kvPut, List.length_modify, List.length_map, List.length_set, List.length_mapIdx]; done) | grind [view_upd, fixed_mk, fixed_eta, List.length_modify, setFfFlag_view, State.bump32_view, disarmPlan_view, cancelPreloads_view, startSettling_view, discardPending_view, ffLeave_view, raise_view])) only [setFfFlag_view, State.bump32_view, disarmPlan_view, cancelPreloads_view, startSettling_view, discardPending_view, ffLeave_view, raise_view, view_upd, fixed_mk, fixed_eta, apply_ite (State.view _), ite_self, Nat.reduceAnd, Nat.reduceDiv, Nat.reduceMod, Nat.zero_ne_one, implies_true, false_implies, Nat.div_one, kvSorted_kvPut, List.length_modify, List.length_map, List.length_set, List.length_mapIdx, forEach_view, foldl_view]

theorem followingError_view {k} (hk : k &&& 15446020 = k) (a0 s) : (followingError a0 s).view k = s.view k := by
  refine view_le hk ?_
  unfold followingError
  simp only [ffLeave_view, raiseFault_view, State.updRail_view, view_upd, fixed_mk, fixed_eta, apply_ite (State.view _),
      ite_self, Nat.reduceAnd, Nat.reduceDiv, Nat.reduceMod, Nat.zero_ne_one, implies_true, false_implies, Nat.div_one,
      kvSorted_kvPut, List.length_modify, List.length_map, List.length_set, List.length_mapIdx]

theorem announce_view {k} (hk : k &&& 7069228 = k) (a0 a1 a2 s) : (announce a0 a1 a2 s).view k = s.view k := by
  refine view_le hk ?_
  unfold announce
  simp only [ffWithdraw_view, setStepOvf_view, State.count_view, State.add64_view, State.takeFree_view, view_upd, fixed_mk,
      fixed_eta, apply_ite (State.view _), ite_self, Nat.reduceAnd, Nat.reduceDiv, Nat.reduceMod, Nat.zero_ne_one, implies_true,
      false_implies, Nat.div_one, kvSorted_kvPut, List.length_modify, List.length_map, List.length_set, List.length_mapIdx]

theorem reportDiff_view {k} (hk : k &&& 16777213 = k) (a0 s) : (reportDiff a0 s).view k = s.view k := by
  refine view_le hk ?_
  unfold reportDiff
  (repeat' split) <;> simp only [State.put_view, view_upd, fixed_mk, fixed_eta, apply_ite (State.view _), ite_self, Nat.reduceAnd, Nat.reduceDiv, Nat.reduceMod, Nat.zero_ne_one, implies_true, false_implies, Nat.div_one, kvSorted_kvPut, List.length_modify, List.length_map, List.length_set, List.length_mapIdx]

theorem ff_mix_view {k : Nat} {d u s : State} (q l m) (hk : k / 128 % 2 = 0) (h1 : d.view k = u.view k) (h2 : u.view k =
    s.view k) :
    State.view k { d with ff := { u.ff with annQ := q, lastDue := l, matchRun := m } } = s.view k := by
  rw [← h2, ← h1]
  have hf := view_fixed h1
  simp only [State.fixed, Prod.mk.injEq] at hf
  refine view_upd ?_ ?_ ?_ ?_ ?_ ?_ ?_ ?_ (fun h => absurd h (by omega)) ?_ ?_ ?_ ?_ ?_ ?_ ?_ ?_ ?_ ?_ ?_ ?_ ?_ ?_ ?_ ?_
  · simp only [State.fixed, hf]
  all_goals exact fun _ => rfl

theorem matchAnn_view {k} (hk : k &&& 15728509 = k) (a rest idx s) : (matchAnn a rest idx s).view k = s.view k := by
  refine view_le hk ?_
  unfold matchAnn
  rw [reportDiff_view (by decide)]
  refine ff_mix_view _ _ _ (by decide) (dumpMarker_view (by decide) _ _ _) ?_
  simp only [State.bump32_view, State.count_view, State.add64_view, view_upd, fixed_mk, fixed_eta, apply_ite (State.view _),
      ite_self, Nat.reduceAnd, Nat.reduceDiv, Nat.reduceMod, Nat.zero_ne_one, implies_true, false_implies, kvSorted_kvPut,
      List.length_modify, List.length_map, List.length_set, List.length_mapIdx]

theorem marker_view {k} (hk : k &&& 7049220 = k) (a0 a1 s) : (marker a0 a1 s).view k = s.view k := by
  refine view_le hk ?_
  unfold marker
  (repeat' split) <;> simp only [State.bump32_view, stepError_view, State.add32_view, matchAnn_view, setFfFlag_view, view_upd, fixed_mk, fixed_eta, apply_ite (State.view _), ite_self, Nat.reduceAnd, Nat.reduceDiv, Nat.reduceMod, Nat.zero_ne_one, implies_true, false_implies, Nat.div_one, kvSorted_kvPut, List.length_modify, List.length_map, List.length_set, List.length_mapIdx]

theorem handleMarkers_view {k} (hk : k &&& 7049220 = k) (n s) : (handleMarkers n s).view k = s.view k := by
  refine view_le hk ?_
  induction n generalizing s with
  | zero => rfl
  | succ n ih =>
    unfold handleMarkers
    split
    · rfl
    · rw [ih]
      simp only [marker_view, view_upd, fixed_mk, fixed_eta, apply_ite (State.view _), ite_self, Nat.reduceAnd,
          Nat.reduceDiv, Nat.reduceMod, Nat.zero_ne_one, implies_true, false_implies, kvSorted_kvPut, List.length_modify,
          List.length_map, List.length_set, List.length_mapIdx]

theorem execMark_view {k} (hk : k &&& 7049220 = k) (a0 a1 s) : (execMark a0 a1 s).view k = s.view k := by
  refine view_le hk ?_
  unfold execMark
  simp only [handleMarkers_view, view_upd, fixed_mk, fixed_eta, apply_ite (State.view _), ite_self, Nat.reduceAnd,
      Nat.reduceDiv, Nat.reduceMod, Nat.zero_ne_one, implies_true, false_implies, Nat.div_one, kvSorted_kvPut,
      List.length_modify, List.length_map, List.length_set, List.length_mapIdx]

theorem missed_view {k} (hk : k &&& 7049220 = k) (s) : (missed s).view k = s.view k := by
  refine view_le hk ?_
  unfold missed
  (repeat' split) <;> simp only [advanceTo_view, stepError_view, State.bump32_view, view_upd, fixed_mk, fixed_eta, apply_ite (State.view _), ite_self, Nat.reduceAnd, Nat.reduceDiv, Nat.reduceMod, Nat.zero_ne_one, implies_true, false_implies, Nat.div_one, kvSorted_kvPut, List.length_modify, List.length_map, List.length_set, List.length_mapIdx]

theorem unpredicted_view {k} (hk : k &&& 16777085 = k) (a0 a1 s) : (unpredicted a0 a1 s).2.view k = s.view k := by
  refine view_le hk ?_
  unfold unpredicted
  simp only [setFfFlag_view, State.bump32_view, view_upd, fixed_mk, fixed_eta, apply_ite (State.view _), ite_self,
      Nat.reduceAnd, Nat.reduceDiv, Nat.reduceMod, Nat.zero_ne_one, implies_true, false_implies, Nat.div_one, kvSorted_kvPut,
      List.length_modify, List.length_map, List.length_set, List.length_mapIdx]

theorem lookup_view {k} (hk : k &&& 16777085 = k) (a0 s) : (lookup a0 s).2.view k = s.view k := by
  refine view_le hk ?_
  unfold lookup
  grind [view_upd, fixed_mk, fixed_eta, List.length_modify, unpredicted_view, State.add64_view]

theorem lookupNext_view {k} (hk : k &&& 16775037 = k) (s) : (lookupNext s).view k = s.view k := by
  refine view_le hk ?_
  unfold lookupNext
  grind [view_upd, fixed_mk, fixed_eta, List.length_modify, lookup_view, State.put_view]

theorem markDuty_view {k} (hk : k &&& 16777087 = k) (a0 a1 a2 s) : (markDuty a0 a1 a2 s).view k = s.view k := by
  refine view_le hk ?_
  unfold markDuty
  simp only [view_upd, fixed_mk, fixed_eta, apply_ite (State.view _), ite_self, Nat.reduceAnd, Nat.reduceDiv, Nat.reduceMod,
      Nat.zero_ne_one, implies_true, false_implies, Nat.div_one, kvSorted_kvPut, List.length_modify, List.length_map,
      List.length_set, List.length_mapIdx]

theorem dutyStart_view {k} (hk : k &&& 15463276 = k) (a0 s) : (dutyStart a0 s).view k = s.view k := by
  refine view_le hk ?_
  unfold dutyStart
  (repeat' split) <;> simp only [advanceTo_view, markDuty_view, State.updRail_view, view_upd, fixed_mk, fixed_eta, apply_ite (State.view _), ite_self, Nat.reduceAnd, Nat.reduceDiv, Nat.reduceMod, Nat.zero_ne_one, implies_true, false_implies, Nat.div_one, kvSorted_kvPut, List.length_modify, List.length_map, List.length_set, List.length_mapIdx]

theorem postShims_view {k} (hk : k &&& 16776959 = k) (a s) : (postShims a s).view k = s.view k := by
  refine view_le hk ?_
  unfold postShims
  split
  · rfl
  · exact forEach_view (fun _ _ => forEach_view (fun _ _ => postPreload_view (by decide) _ _ _ _ _))

theorem loadFail_view {k} (hk : k &&& 16777085 = k) (a0 s) : (loadFail a0 s).view k = s.view k := by
  refine view_le hk ?_
  unfold loadFail
  simp only [setFfFlag_view, State.put_view, view_upd, fixed_mk, fixed_eta, apply_ite (State.view _), ite_self,
      Nat.reduceAnd, Nat.reduceDiv, Nat.reduceMod, Nat.zero_ne_one, implies_true, false_implies, Nat.div_one, kvSorted_kvPut,
      List.length_modify, List.length_map, List.length_set, List.length_mapIdx]

theorem loadDone_view {k} (hk : k &&& 16777085 = k) (a0 a1 s) : (loadDone a0 a1 s).view k = s.view k := by
  refine view_le hk ?_
  unfold loadDone
  simp only [setFfFlag_view, State.put_view, view_upd, fixed_mk, fixed_eta, apply_ite (State.view _), ite_self,
      Nat.reduceAnd, Nat.reduceDiv, Nat.reduceMod, Nat.zero_ne_one, implies_true, false_implies, Nat.div_one, kvSorted_kvPut,
      List.length_modify, List.length_map, List.length_set, List.length_mapIdx]

theorem loadHeader_view {k} (hk : k &&& 16777085 = k) (a0 a1 s) : (loadHeader a0 a1 s).view k = s.view k := by
  refine view_le hk ?_
  unfold loadHeader
  (repeat' split) <;> simp only [loadFail_view, loadDone_view, view_upd, fixed_mk, fixed_eta, apply_ite (State.view _), ite_self, Nat.reduceAnd, Nat.reduceDiv, Nat.reduceMod, Nat.zero_ne_one, implies_true, false_implies, Nat.div_one, kvSorted_kvPut, List.length_modify, List.length_map, List.length_set, List.length_mapIdx]

theorem loadPage_view {k} (hk : k &&& 16777085 = k) (a0 a1 s) : (loadPage a0 a1 s).view k = s.view k := by
  refine view_le hk ?_
  unfold loadPage
  (repeat' split) <;> simp only [loadFail_view, State.put_view, loadDone_view, view_upd, fixed_mk, fixed_eta, apply_ite (State.view _), ite_self, Nat.reduceAnd, Nat.reduceDiv, Nat.reduceMod, Nat.zero_ne_one, implies_true, false_implies, Nat.div_one, kvSorted_kvPut, List.length_modify, List.length_map, List.length_set, List.length_mapIdx]

theorem loadData_view {k} (hk : k &&& 16777085 = k) (a0 a1 s) : (loadData a0 a1 s).view k = s.view k := by
  refine view_le hk ?_
  unfold loadData
  (repeat' split) <;> simp only [loadHeader_view, loadPage_view, view_upd, fixed_mk, fixed_eta, apply_ite (State.view _), ite_self, Nat.reduceAnd, Nat.reduceDiv, Nat.reduceMod, Nat.zero_ne_one, implies_true, false_implies, Nat.div_one, kvSorted_kvPut, List.length_modify, List.length_map, List.length_set, List.length_mapIdx]

theorem State.updSlot_view {k} (hk : k &&& 16777087 = k) (s a1 a2) : (State.updSlot s a1 a2).view k = s.view k := by
  refine view_le hk ?_
  unfold State.updSlot
  simp only [view_upd, fixed_mk, fixed_eta, apply_ite (State.view _), ite_self, Nat.reduceAnd, Nat.reduceDiv, Nat.reduceMod,
      Nat.zero_ne_one, implies_true, false_implies, Nat.div_one, kvSorted_kvPut, List.length_modify, List.length_map,
      List.length_set, List.length_mapIdx]

theorem startLoad_view {k} (hk : k &&& 16777085 = k) {s t} (h : startLoad s = .ok t) : t.view k = s.view k := by
  refine view_le hk ?_
  unfold startLoad at h
  (repeat' split at h) <;> (try replace h := needRange_ok h) <;> (try replace h := needState_ok h) <;> (try replace h := needRange_ok h) <;> (repeat' split at h) <;> first | (simp only [Host.Outcome.next.injEq, Except.ok.injEq, Option.some.injEq, reduceCtorEq] at h; (try subst h); (repeat' split); all_goals simp only [State.put_view, view_upd, fixed_mk, fixed_eta, apply_ite (State.view _), ite_self, Nat.reduceAnd, Nat.reduceDiv, Nat.reduceMod, Nat.zero_ne_one, implies_true, false_implies, Nat.div_one, kvSorted_kvPut, List.length_modify, List.length_map, List.length_set, List.length_mapIdx])

theorem slotSwap_view {k} (hk : k &&& 16514940 = k) {a0 s t} (h : slotSwap a0 s = .ok t) : t.view k = s.view k := by
  refine view_le hk ?_
  unfold slotSwap at h
  (repeat' split at h) <;> (try replace h := needRange_ok h) <;> (try replace h := needState_ok h) <;> (try replace h := needRange_ok h) <;> (repeat' split at h) <;> first | (simp only [Host.Outcome.next.injEq, Except.ok.injEq, Option.some.injEq, reduceCtorEq] at h; (try subst h); (repeat' split); all_goals simp only [State.updSlot_view, State.put_view, raise_view, view_upd, fixed_mk, fixed_eta, apply_ite (State.view _), ite_self, Nat.reduceAnd, Nat.reduceDiv, Nat.reduceMod, Nat.zero_ne_one, implies_true, false_implies, Nat.div_one, kvSorted_kvPut, List.length_modify, List.length_map, List.length_set, List.length_mapIdx])

theorem slotEnable_view {k} (hk : k &&& 16777087 = k) {a0 a1 s t} (h : slotEnable a0 a1 s = .ok t) : t.view k = s.view k := by
  refine view_le hk ?_
  unfold slotEnable at h
  (repeat' split at h) <;> (try replace h := needRange_ok h) <;> (try replace h := needState_ok h) <;> (try replace h := needRange_ok h) <;> (repeat' split at h) <;> first | (simp only [Host.Outcome.next.injEq, Except.ok.injEq, Option.some.injEq, reduceCtorEq] at h; (try subst h); (repeat' split); all_goals simp only [State.updSlot_view, view_upd, fixed_mk, fixed_eta, apply_ite (State.view _), ite_self, Nat.reduceAnd, Nat.reduceDiv, Nat.reduceMod, Nat.zero_ne_one, implies_true, false_implies, Nat.div_one, kvSorted_kvPut, List.length_modify, List.length_map, List.length_set, List.length_mapIdx])

theorem slotRelease_view {k} (hk : k &&& 16777087 = k) {a0 s t} (h : slotRelease a0 s = .ok t) : t.view k = s.view k := by
  refine view_le hk ?_
  unfold slotRelease at h
  (repeat' split at h) <;> (try replace h := needRange_ok h) <;> (try replace h := needState_ok h) <;> (try replace h := needRange_ok h) <;> (repeat' split at h) <;> first | (simp only [Host.Outcome.next.injEq, Except.ok.injEq, Option.some.injEq, reduceCtorEq] at h; (try subst h); (repeat' split); all_goals simp only [State.updSlot_view, view_upd, fixed_mk, fixed_eta, apply_ite (State.view _), ite_self, Nat.reduceAnd, Nat.reduceDiv, Nat.reduceMod, Nat.zero_ne_one, implies_true, false_implies, Nat.div_one, kvSorted_kvPut, List.length_modify, List.length_map, List.length_set, List.length_mapIdx])

theorem ffWrite_view {k} (hk : k &&& 16514940 = k) {i sub v b s t} (h : ffWrite i sub v b s = .ok t) : t.view k = s.view k := by
  unfold ffWrite at h
  revert h
  have hs : (Except.ok (storeVal i sub v b s) : Except Nat State) = .ok t → t.view k = s.view k := fun h => by rw [←
      Except.ok.inj h, storeVal_view (view_trans hk (by decide))]
  dsimp only
  refine ite_ok_view (fun h => startLoad_view (view_trans hk (by decide)) h) ?_
  refine ite_ok_view (fun h => hs (needRange_ok h)) ?_
  refine ite_ok_view ?_ hs
  refine ite_ok_view (fun h => by rw [← Except.ok.inj (needState_ok h), State.updSlot_view (view_trans hk (by decide))]) ?_
  exact ite_ok_view (fun h => slotEnable_view (view_trans hk (by decide)) h) (ite_ok_view (fun h => slotSwap_view
      (view_trans hk (by decide)) h) (ite_ok_view (fun h => slotRelease_view (view_trans hk (by decide)) h) hs))

theorem State.putSobj_view {k} (hk : k &&& 16711679 = k) (s a1) : (State.putSobj s a1).view k = s.view k := by
  refine view_le hk ?_
  unfold State.putSobj
  simp only [view_upd, fixed_mk, fixed_eta, apply_ite (State.view _), ite_self, Nat.reduceAnd, Nat.reduceDiv, Nat.reduceMod,
      Nat.zero_ne_one, implies_true, false_implies, Nat.div_one, kvSorted_kvPut, List.length_modify, List.length_map,
      List.length_set, List.length_mapIdx]

theorem dropWait_view {k} (hk : k &&& 16711679 = k) (a0 s) : (dropWait a0 s).view k = s.view k := by
  refine view_le hk ?_
  unfold dropWait
  simp only [view_upd, fixed_mk, fixed_eta, apply_ite (State.view _), ite_self, Nat.reduceAnd, Nat.reduceDiv, Nat.reduceMod,
      Nat.zero_ne_one, implies_true, false_implies, Nat.div_one, kvSorted_kvPut, List.length_modify, List.length_map,
      List.length_set, List.length_mapIdx]

theorem xlateFault_view {k} (hk : k &&& 16711677 = k) (a0 s) : (xlateFault a0 s).view k = s.view k := by
  refine view_le hk ?_
  unfold xlateFault
  simp only [setSyncFlag_view, State.bump32_view, view_upd, fixed_mk, fixed_eta, apply_ite (State.view _), ite_self,
      Nat.reduceAnd, Nat.reduceDiv, Nat.reduceMod, Nat.zero_ne_one, implies_true, false_implies, Nat.div_one, kvSorted_kvPut,
      List.length_modify, List.length_map, List.length_set, List.length_mapIdx]

theorem syncSend_view {k} (hk : k &&& 16711679 = k) (a0 a1 s) : (syncSend a0 a1 s).view k = s.view k := by
  refine view_le hk ?_
  unfold syncSend
  simp only [view_upd, fixed_mk, fixed_eta, apply_ite (State.view _), ite_self, Nat.reduceAnd, Nat.reduceDiv, Nat.reduceMod,
      Nat.zero_ne_one, implies_true, false_implies, Nat.div_one, kvSorted_kvPut, List.length_modify, List.length_map,
      List.length_set, List.length_mapIdx]

theorem syncClear_view {k} (hk : k &&& 16711679 = k) (s) : (syncClear s).view k = s.view k := by
  refine view_le hk ?_
  unfold syncClear
  simp only [view_upd, fixed_mk, fixed_eta, apply_ite (State.view _), ite_self, Nat.reduceAnd, Nat.reduceDiv, Nat.reduceMod,
      Nat.zero_ne_one, implies_true, false_implies, Nat.div_one, kvSorted_kvPut, List.length_modify, List.length_map,
      List.length_set, List.length_mapIdx]

theorem waitNotice_view {k} (hk : k &&& 16711679 = k) (a0 a1 a2 a3 a4 s) : (waitNotice a0 a1 a2 a3 a4 s).view k = s.view k := by
  refine view_le hk ?_
  unfold waitNotice
  simp only [syncSend_view, view_upd, fixed_mk, fixed_eta, apply_ite (State.view _), ite_self, Nat.reduceAnd, Nat.reduceDiv,
      Nat.reduceMod, Nat.zero_ne_one, implies_true, false_implies, Nat.div_one, kvSorted_kvPut, List.length_modify,
      List.length_map, List.length_set, List.length_mapIdx]

theorem scopeFault_view {k} (hk : k &&& 16711677 = k) (a0 a1 s) : (scopeFault a0 a1 s).view k = s.view k := by
  refine view_le hk ?_
  unfold scopeFault
  simp only [State.putSobj_view, setSyncFlag_view, State.bump32_view, view_upd, fixed_mk, fixed_eta, apply_ite (State.view
      _), ite_self, Nat.reduceAnd, Nat.reduceDiv, Nat.reduceMod, Nat.zero_ne_one, implies_true, false_implies, Nat.div_one,
      kvSorted_kvPut, List.length_modify, List.length_map, List.length_set, List.length_mapIdx]

theorem wakeOne_view {k} (hk : k &&& 16711677 = k) (a0 a1 s) : (wakeOne a0 a1 s).view k = s.view k := by
  refine view_le hk ?_
  unfold wakeOne
  simp only [waitNotice_view, dropWait_view, scopeFault_view, view_upd, fixed_mk, fixed_eta, apply_ite (State.view _),
      ite_self, Nat.reduceAnd, Nat.reduceDiv, Nat.reduceMod, Nat.zero_ne_one, implies_true, false_implies, Nat.div_one,
      kvSorted_kvPut, List.length_modify, List.length_map, List.length_set, List.length_mapIdx]

theorem wakeAll_view {k} (hk : k &&& 16711677 = k) (a0 s) : (wakeAll a0 s).view k = s.view k := by
  refine view_le hk ?_
  unfold wakeAll
  simp (disch := (intros; first | done | (simp only [wakeOne_view, view_upd, fixed_mk, fixed_eta, apply_ite (State.view _), ite_self, Nat.reduceAnd, Nat.reduceDiv, Nat.reduceMod, Nat.zero_ne_one, implies_true, false_implies, Nat.div_one, kvSorted_kvPut, List.length_modify, List.length_map, List.length_set, List.length_mapIdx]; done) | ((repeat' split) <;> simp only [wakeOne_view, view_upd, fixed_mk, fixed_eta, apply_ite (State.view _), ite_self, Nat.reduceAnd, Nat.reduceDiv, Nat.reduceMod, Nat.zero_ne_one, implies_true, false_implies, Nat.div_one, kvSorted_kvPut, List.length_modify, List.length_map, List.length_set, List.length_mapIdx]; done) | grind [view_upd, fixed_mk, fixed_eta, List.length_modify, wakeOne_view])) only [wakeOne_view, view_upd, fixed_mk, fixed_eta, apply_ite (State.view _), ite_self, Nat.reduceAnd, Nat.reduceDiv, Nat.reduceMod, Nat.zero_ne_one, implies_true, false_implies, Nat.div_one, kvSorted_kvPut, List.length_modify, List.length_map, List.length_set, List.length_mapIdx, forEach_view, foldl_view]

theorem signalObj_view {k} (hk : k &&& 15663101 = k) {n scope tile} {f : State → State} {s} (h : ∀ t, (f t).view k = t.view k) :
    (signalObj n scope tile f s).view k = s.view k := by
  unfold signalObj
  simp only [wakeAll_view (k := k) (view_trans hk (by decide)), h, apply_ite (State.view _), setSyncFlag_view (view_trans hk
      (by decide)), State.countP_view (view_trans hk (by decide)), State.add64_view (view_trans hk (by decide)),
    State.putSobj_view (view_trans hk (by decide)), ite_self]

theorem setObj_view {k} (hk : k &&& 16711677 = k) (a0 a1 s) : (setObj a0 a1 s).view k = s.view k := by
  refine view_le hk ?_
  unfold setObj
  simp only [State.putSobj_view, wakeAll_view, view_upd, fixed_mk, fixed_eta, apply_ite (State.view _), ite_self,
      Nat.reduceAnd, Nat.reduceDiv, Nat.reduceMod, Nat.zero_ne_one, implies_true, false_implies, Nat.div_one, kvSorted_kvPut,
      List.length_modify, List.length_map, List.length_set, List.length_mapIdx]

theorem takeObj_view {k} (hk : k &&& 16711677 = k) (a0 a1 a2 a3 s) : (takeObj a0 a1 a2 a3 s).2.view k = s.view k := by
  refine view_le hk ?_
  unfold takeObj
  grind [view_upd, fixed_mk, fixed_eta, List.length_modify, scopeFault_view, State.putSobj_view]

theorem spuriousWake_view {k} (hk : k &&& 15663101 = k) (a0 a1 s) : (spuriousWake a0 a1 s).view k = s.view k := by
  refine view_le hk ?_
  unfold spuriousWake
  simp only [State.putSobj_view, setSyncFlag_view, State.countP_view, State.add64_view, view_upd, fixed_mk, fixed_eta,
      apply_ite (State.view _), ite_self, Nat.reduceAnd, Nat.reduceDiv, Nat.reduceMod, Nat.zero_ne_one, implies_true,
      false_implies, Nat.div_one, kvSorted_kvPut, List.length_modify, List.length_map, List.length_set, List.length_mapIdx]

theorem syncReply_view {k} (hk : k &&& 16711679 = k) (a0 a1 a2 a3 a4 a5 a6 a7 s) : (syncReply a0 a1 a2 a3 a4 a5 a6 a7
    s).view k = s.view k := by
  refine view_le hk ?_
  unfold syncReply
  simp only [syncSend_view, view_upd, fixed_mk, fixed_eta, apply_ite (State.view _), ite_self, Nat.reduceAnd, Nat.reduceDiv,
      Nat.reduceMod, Nat.zero_ne_one, implies_true, false_implies, Nat.div_one, kvSorted_kvPut, List.length_modify,
      List.length_map, List.length_set, List.length_mapIdx]

theorem syncTake_view {k} (hk : k &&& 15663101 = k) (a0 a1 a2 a3 a4 s) : (syncTake a0 a1 a2 a3 a4 s).view k = s.view k := by
  refine view_le hk ?_
  unfold syncTake
  grind [view_upd, fixed_mk, fixed_eta, List.length_modify, syncReply_view, xlateFault_view, takeObj_view, spuriousWake_view]

theorem syncBindWord_view {k} (hk : k &&& 16711679 = k) (a0 a1 a2 s) : (syncBindWord a0 a1 a2 s).view k = s.view k := by
  refine view_le hk ?_
  unfold syncBindWord
  simp only [syncReply_view, view_upd, fixed_mk, fixed_eta, apply_ite (State.view _), ite_self, Nat.reduceAnd,
      Nat.reduceDiv, Nat.reduceMod, Nat.zero_ne_one, implies_true, false_implies, Nat.div_one, kvSorted_kvPut,
      List.length_modify, List.length_map, List.length_set, List.length_mapIdx]

theorem syncCancelWord_view {k} (hk : k &&& 16711679 = k) (a0 a1 s) : (syncCancelWord a0 a1 s).view k = s.view k := by
  refine view_le hk ?_
  unfold syncCancelWord
  grind [view_upd, fixed_mk, fixed_eta, List.length_modify, waitNotice_view, syncReply_view, dropWait_view]

theorem syncSignalWord_view {k} (hk : k &&& 15663101 = k) (a0 a1 a2 s) : (syncSignalWord a0 a1 a2 s).view k = s.view k := by
  refine view_le hk ?_
  unfold syncSignalWord
  simp (disch := (intros; first | done | (simp only [syncReply_view, xlateFault_view, view_upd, fixed_mk, fixed_eta, apply_ite (State.view _), ite_self, Nat.reduceAnd, Nat.reduceDiv, Nat.reduceMod, Nat.zero_ne_one, implies_true, false_implies, Nat.div_one, kvSorted_kvPut, List.length_modify, List.length_map, List.length_set, List.length_mapIdx]; done) | ((repeat' split) <;> simp only [syncReply_view, xlateFault_view, view_upd, fixed_mk, fixed_eta, apply_ite (State.view _), ite_self, Nat.reduceAnd, Nat.reduceDiv, Nat.reduceMod, Nat.zero_ne_one, implies_true, false_implies, Nat.div_one, kvSorted_kvPut, List.length_modify, List.length_map, List.length_set, List.length_mapIdx]; done) | grind [view_upd, fixed_mk, fixed_eta, List.length_modify, syncReply_view, xlateFault_view])) only [syncReply_view, xlateFault_view, view_upd, fixed_mk, fixed_eta, apply_ite (State.view _), ite_self, Nat.reduceAnd, Nat.reduceDiv, Nat.reduceMod, Nat.zero_ne_one, implies_true, false_implies, Nat.div_one, kvSorted_kvPut, List.length_modify, List.length_map, List.length_set, List.length_mapIdx, signalObj_view, forEach_view, foldl_view] <;> (repeat' split) <;> simp (disch := (intros; first | done | (simp only [syncReply_view, xlateFault_view, view_upd, fixed_mk, fixed_eta, apply_ite (State.view _), ite_self, Nat.reduceAnd, Nat.reduceDiv, Nat.reduceMod, Nat.zero_ne_one, implies_true, false_implies, Nat.div_one, kvSorted_kvPut, List.length_modify, List.length_map, List.length_set, List.length_mapIdx]; done) | ((repeat' split) <;> simp only [syncReply_view, xlateFault_view, view_upd, fixed_mk, fixed_eta, apply_ite (State.view _), ite_self, Nat.reduceAnd, Nat.reduceDiv, Nat.reduceMod, Nat.zero_ne_one, implies_true, false_implies, Nat.div_one, kvSorted_kvPut, List.length_modify, List.length_map, List.length_set, List.length_mapIdx]; done) | grind [view_upd, fixed_mk, fixed_eta, List.length_modify, syncReply_view, xlateFault_view])) only [syncReply_view, xlateFault_view, view_upd, fixed_mk, fixed_eta, apply_ite (State.view _), ite_self, Nat.reduceAnd, Nat.reduceDiv, Nat.reduceMod, Nat.zero_ne_one, implies_true, false_implies, Nat.div_one, kvSorted_kvPut, List.length_modify, List.length_map, List.length_set, List.length_mapIdx, signalObj_view, forEach_view, foldl_view]

theorem syncSlot_view {k} (hk : k &&& 15663101 = k) (a0 a1 a2 a3 s) : (syncSlot a0 a1 a2 a3 s).view k = s.view k := by
  refine view_le hk ?_
  unfold syncSlot
  (repeat' split) <;> simp only [syncBindWord_view, syncTake_view, dropWait_view, syncReply_view, view_upd, fixed_mk, fixed_eta, apply_ite (State.view _), ite_self, Nat.reduceAnd, Nat.reduceDiv, Nat.reduceMod, Nat.zero_ne_one, implies_true, false_implies, Nat.div_one, kvSorted_kvPut, List.length_modify, List.length_map, List.length_set, List.length_mapIdx]

theorem syncAccept_view {k} (hk : k &&& 15663101 = k) (a0 a1 a2 s) : (syncAccept a0 a1 a2 s).view k = s.view k := by
  refine view_le hk ?_
  unfold syncAccept
  simp only [syncReply_view, syncSignalWord_view, syncCancelWord_view, syncSlot_view, view_upd, fixed_mk, fixed_eta,
      apply_ite (State.view _), ite_self, Nat.reduceAnd, Nat.reduceDiv, Nat.reduceMod, Nat.zero_ne_one, implies_true,
      false_implies, Nat.div_one, kvSorted_kvPut, List.length_modify, List.length_map, List.length_set, List.length_mapIdx]

theorem syncWord_view {k} (hk : k &&& 15663101 = k) (a0 a1 a2 s) : (syncWord a0 a1 a2 s).view k = s.view k := by
  refine view_le hk ?_
  unfold syncWord
  simp only [syncAccept_view, syncClear_view, view_upd, fixed_mk, fixed_eta, apply_ite (State.view _), ite_self,
      Nat.reduceAnd, Nat.reduceDiv, Nat.reduceMod, Nat.zero_ne_one, implies_true, false_implies, Nat.div_one, kvSorted_kvPut,
      List.length_modify, List.length_map, List.length_set, List.length_mapIdx]

theorem syncResume_view {k} (hk : k &&& 15663101 = k) (s) : (syncResume s).view k = s.view k := by
  refine view_le hk ?_
  unfold syncResume
  simp (disch := (intros; first | done | (simp only [syncClear_view, syncAccept_view, view_upd, fixed_mk, fixed_eta, apply_ite (State.view _), ite_self, Nat.reduceAnd, Nat.reduceDiv, Nat.reduceMod, Nat.zero_ne_one, implies_true, false_implies, Nat.div_one, kvSorted_kvPut, List.length_modify, List.length_map, List.length_set, List.length_mapIdx]; done) | ((repeat' split) <;> simp only [syncClear_view, syncAccept_view, view_upd, fixed_mk, fixed_eta, apply_ite (State.view _), ite_self, Nat.reduceAnd, Nat.reduceDiv, Nat.reduceMod, Nat.zero_ne_one, implies_true, false_implies, Nat.div_one, kvSorted_kvPut, List.length_modify, List.length_map, List.length_set, List.length_mapIdx]; done) | grind [view_upd, fixed_mk, fixed_eta, List.length_modify, syncClear_view, syncAccept_view])) only [syncClear_view, syncAccept_view, view_upd, fixed_mk, fixed_eta, apply_ite (State.view _), ite_self, Nat.reduceAnd, Nat.reduceDiv, Nat.reduceMod, Nat.zero_ne_one, implies_true, false_implies, Nat.div_one, kvSorted_kvPut, List.length_modify, List.length_map, List.length_set, List.length_mapIdx, forEach_view, foldl_view]

theorem fabricSignal_view {k} (hk : k &&& 15663101 = k) {a0 a1 a2 s t} (h : fabricSignal a0 a1 a2 s = .ok t) : t.view k =
    s.view k := by
  refine view_le hk ?_
  unfold fabricSignal at h
  (repeat' split at h) <;> simp only [Host.Outcome.next.injEq, Except.ok.injEq, Option.some.injEq, reduceCtorEq] at h <;> subst h <;> (try simp (disch := (intros; first | done | (simp only [view_upd, fixed_mk, fixed_eta, apply_ite (State.view _), ite_self, Nat.reduceAnd, Nat.reduceDiv, Nat.reduceMod, Nat.zero_ne_one, implies_true, false_implies, Nat.div_one, kvSorted_kvPut, List.length_modify, List.length_map, List.length_set, List.length_mapIdx]; done) | ((repeat' split) <;> simp only [view_upd, fixed_mk, fixed_eta, apply_ite (State.view _), ite_self, Nat.reduceAnd, Nat.reduceDiv, Nat.reduceMod, Nat.zero_ne_one, implies_true, false_implies, Nat.div_one, kvSorted_kvPut, List.length_modify, List.length_map, List.length_set, List.length_mapIdx]; done) | grind [view_upd, fixed_mk, fixed_eta, List.length_modify])) only [view_upd, fixed_mk, fixed_eta, apply_ite (State.view _), ite_self, Nat.reduceAnd, Nat.reduceDiv, Nat.reduceMod, Nat.zero_ne_one, implies_true, false_implies, Nat.div_one, kvSorted_kvPut, List.length_modify, List.length_map, List.length_set, List.length_mapIdx, signalObj_view, forEach_view, foldl_view]) <;> grind [view_upd, fixed_mk, fixed_eta, List.length_modify]

theorem tryAcquire_view {k} (hk : k &&& 16711677 = k) {a0 a1 s t} (h : tryAcquire a0 a1 s = .ok t) : t.2.view k = s.view k := by
  refine view_le hk ?_
  unfold tryAcquire at h
  (repeat' split at h) <;> simp only [Host.Outcome.next.injEq, Except.ok.injEq, Option.some.injEq, reduceCtorEq] at h <;> subst h <;> simp only [takeObj_view, view_upd, fixed_mk, fixed_eta, apply_ite (State.view _), ite_self, Nat.reduceAnd, Nat.reduceDiv, Nat.reduceMod, Nat.zero_ne_one, implies_true, false_implies, Nat.div_one, kvSorted_kvPut, List.length_modify, List.length_map, List.length_set, List.length_mapIdx]

theorem bindingSignal_view {k} (hk : k &&& 15663101 = k) (a0 a1 s) : (bindingSignal a0 a1 s).view k = s.view k := by
  refine view_le hk ?_
  unfold bindingSignal
  simp (disch := (intros; first | done | (simp only [syncClear_view, view_upd, fixed_mk, fixed_eta, apply_ite (State.view _), ite_self, Nat.reduceAnd, Nat.reduceDiv, Nat.reduceMod, Nat.zero_ne_one, implies_true, false_implies, Nat.div_one, kvSorted_kvPut, List.length_modify, List.length_map, List.length_set, List.length_mapIdx]; done) | ((repeat' split) <;> simp only [syncClear_view, view_upd, fixed_mk, fixed_eta, apply_ite (State.view _), ite_self, Nat.reduceAnd, Nat.reduceDiv, Nat.reduceMod, Nat.zero_ne_one, implies_true, false_implies, Nat.div_one, kvSorted_kvPut, List.length_modify, List.length_map, List.length_set, List.length_mapIdx]; done) | grind [view_upd, fixed_mk, fixed_eta, List.length_modify, syncClear_view])) only [syncClear_view, view_upd, fixed_mk, fixed_eta, apply_ite (State.view _), ite_self, Nat.reduceAnd, Nat.reduceDiv, Nat.reduceMod, Nat.zero_ne_one, implies_true, false_implies, Nat.div_one, kvSorted_kvPut, List.length_modify, List.length_map, List.length_set, List.length_mapIdx, signalObj_view, forEach_view, foldl_view]

theorem syncEvict_view {k} (hk : k &&& 16711679 = k) (a0 s) : (syncEvict a0 s).view k = s.view k := by
  refine view_le hk ?_
  unfold syncEvict
  simp (disch := (intros; first | done | (simp only [waitNotice_view, view_upd, fixed_mk, fixed_eta, apply_ite (State.view _), ite_self, Nat.reduceAnd, Nat.reduceDiv, Nat.reduceMod, Nat.zero_ne_one, implies_true, false_implies, Nat.div_one, kvSorted_kvPut, List.length_modify, List.length_map, List.length_set, List.length_mapIdx]; done) | ((repeat' split) <;> simp only [waitNotice_view, view_upd, fixed_mk, fixed_eta, apply_ite (State.view _), ite_self, Nat.reduceAnd, Nat.reduceDiv, Nat.reduceMod, Nat.zero_ne_one, implies_true, false_implies, Nat.div_one, kvSorted_kvPut, List.length_modify, List.length_map, List.length_set, List.length_mapIdx]; done) | grind [view_upd, fixed_mk, fixed_eta, List.length_modify, waitNotice_view])) only [waitNotice_view, view_upd, fixed_mk, fixed_eta, apply_ite (State.view _), ite_self, Nat.reduceAnd, Nat.reduceDiv, Nat.reduceMod, Nat.zero_ne_one, implies_true, false_implies, Nat.div_one, kvSorted_kvPut, List.length_modify, List.length_map, List.length_set, List.length_mapIdx, forEach_view, foldl_view]

theorem syncMoved_view {k} (hk : k &&& 16711679 = k) (a0 s) : (syncMoved a0 s).view k = s.view k := by
  refine view_le hk ?_
  unfold syncMoved
  simp only [syncEvict_view, syncClear_view, view_upd, fixed_mk, fixed_eta, apply_ite (State.view _), ite_self,
      Nat.reduceAnd, Nat.reduceDiv, Nat.reduceMod, Nat.zero_ne_one, implies_true, false_implies, Nat.div_one, kvSorted_kvPut,
      List.length_modify, List.length_map, List.length_set, List.length_mapIdx]

theorem syncGeneration_view {k} (hk : k &&& 16711679 = k) (a0 s) : (syncGeneration a0 s).view k = s.view k := by
  refine view_le hk ?_
  unfold syncGeneration
  simp only [syncEvict_view, syncClear_view, view_upd, fixed_mk, fixed_eta, apply_ite (State.view _), ite_self,
      Nat.reduceAnd, Nat.reduceDiv, Nat.reduceMod, Nat.zero_ne_one, implies_true, false_implies, Nat.div_one, kvSorted_kvPut,
      List.length_modify, List.length_map, List.length_set, List.length_mapIdx]

theorem putMap_view {k} (hk : k &&& 16711679 = k) (a0 a1 s) : (putMap a0 a1 s).view k = s.view k := by
  refine view_le hk ?_
  unfold putMap
  simp only [view_upd, fixed_mk, fixed_eta, apply_ite (State.view _), ite_self, Nat.reduceAnd, Nat.reduceDiv, Nat.reduceMod,
      Nat.zero_ne_one, implies_true, false_implies, Nat.div_one, kvSorted_kvPut, List.length_modify, List.length_map,
      List.length_set, List.length_mapIdx]

theorem writeMap_view {k} (hk : k &&& 16711679 = k) {a0 a1 s t} (h : writeMap a0 a1 s = .ok t) : t.view k = s.view k := by
  refine view_le hk ?_
  unfold writeMap at h
  (repeat' split at h) <;> (try replace h := needRange_ok h) <;> (try replace h := needState_ok h) <;> (try replace h := needRange_ok h) <;> (repeat' split at h) <;> first | (simp only [Host.Outcome.next.injEq, Except.ok.injEq, Option.some.injEq, reduceCtorEq] at h; (try subst h); (repeat' split); all_goals simp only [putMap_view, view_upd, fixed_mk, fixed_eta, apply_ite (State.view _), ite_self, Nat.reduceAnd, Nat.reduceDiv, Nat.reduceMod, Nat.zero_ne_one, implies_true, false_implies, Nat.div_one, kvSorted_kvPut, List.length_modify, List.length_map, List.length_set, List.length_mapIdx])

theorem assignObj_view {k} (hk : k &&& 16711679 = k) {a0 s t} (h : assignObj a0 s = .ok t) : t.view k = s.view k := by
  refine view_le hk ?_
  unfold assignObj at h
  (repeat' split at h) <;> (try replace h := needRange_ok h) <;> (try replace h := needState_ok h) <;> (try replace h := needRange_ok h) <;> (repeat' split at h) <;> first | (simp only [Host.Outcome.next.injEq, Except.ok.injEq, Option.some.injEq, reduceCtorEq] at h; (try subst h); (repeat' split); all_goals simp only [State.putSobj_view, view_upd, fixed_mk, fixed_eta, apply_ite (State.view _), ite_self, Nat.reduceAnd, Nat.reduceDiv, Nat.reduceMod, Nat.zero_ne_one, implies_true, false_implies, Nat.div_one, kvSorted_kvPut, List.length_modify, List.length_map, List.length_set, List.length_mapIdx])

theorem assignMap_view {k} (hk : k &&& 16711679 = k) {a0 s t} (h : assignMap a0 s = .ok t) : t.view k = s.view k := by
  refine view_le hk ?_
  unfold assignMap at h
  (repeat' split at h) <;> (try replace h := needRange_ok h) <;> (try replace h := needState_ok h) <;> (try replace h := needRange_ok h) <;> (repeat' split at h) <;> first | (simp only [Host.Outcome.next.injEq, Except.ok.injEq, Option.some.injEq, reduceCtorEq] at h; (try subst h); (repeat' split); all_goals simp only [view_upd, fixed_mk, fixed_eta, apply_ite (State.view _), ite_self, Nat.reduceAnd, Nat.reduceDiv, Nat.reduceMod, Nat.zero_ne_one, implies_true, false_implies, Nat.div_one, kvSorted_kvPut, List.length_modify, List.length_map, List.length_set, List.length_mapIdx])

theorem syncWrite_view {k} (hk : k &&& 16711677 = k) {a0 a1 a2 a3 s t} (h : syncWrite a0 a1 a2 a3 s = .ok t) : t.view k =
    s.view k := by
  refine view_le hk ?_
  unfold syncWrite at h
  (repeat' split at h) <;> (try replace h := needRange_ok h) <;> (try replace h := needState_ok h) <;> (try replace h := needRange_ok h) <;> (repeat' split at h) <;> first | exact assignObj_view (by decide) h | exact assignMap_view (by decide) h | exact writeMap_view (by decide) h | (simp only [Host.Outcome.next.injEq, Except.ok.injEq, Option.some.injEq, reduceCtorEq] at h; (try subst h); (repeat' split); all_goals simp only [setObj_view, syncClear_view, State.putSobj_view, storeVal_view, view_upd, fixed_mk, fixed_eta, apply_ite (State.view _), ite_self, Nat.reduceAnd, Nat.reduceDiv, Nat.reduceMod, Nat.zero_ne_one, implies_true, false_implies, Nat.div_one, kvSorted_kvPut, List.length_modify, List.length_map, List.length_set, List.length_mapIdx])

theorem saturated_view {k} (hk : k &&& 16775165 = k) (a0 s) : (saturated a0 s).view k = s.view k := by
  refine view_le hk ?_
  unfold saturated
  simp only [State.add32_view, setCapFlag_view, view_upd, fixed_mk, fixed_eta, apply_ite (State.view _), ite_self,
      Nat.reduceAnd, Nat.reduceDiv, Nat.reduceMod, Nat.zero_ne_one, implies_true, false_implies, Nat.div_one, kvSorted_kvPut,
      List.length_modify, List.length_map, List.length_set, List.length_mapIdx]

theorem estimate_view {k} (hk : k &&& 8386559 = k) (a0 s) : (estimate a0 s).view k = s.view k := by
  refine view_le hk ?_
  unfold estimate
  simp only [view_upd, fixed_mk, fixed_eta, apply_ite (State.view _), ite_self, Nat.reduceAnd, Nat.reduceDiv, Nat.reduceMod,
      Nat.zero_ne_one, implies_true, false_implies, Nat.div_one, kvSorted_kvPut, List.length_modify, List.length_map,
      List.length_set, List.length_mapIdx]

theorem usePreds_view {k} (hk : k &&& 16775165 = k) (s) : (usePreds s).view k = s.view k := by
  refine view_le hk ?_
  unfold usePreds
  simp (disch := (intros; first | done | (simp only [State.put_view, view_upd, fixed_mk, fixed_eta, apply_ite (State.view _), ite_self, Nat.reduceAnd, Nat.reduceDiv, Nat.reduceMod, Nat.zero_ne_one, implies_true, false_implies, Nat.div_one, kvSorted_kvPut, List.length_modify, List.length_map, List.length_set, List.length_mapIdx]; done) | ((repeat' split) <;> simp only [State.put_view, view_upd, fixed_mk, fixed_eta, apply_ite (State.view _), ite_self, Nat.reduceAnd, Nat.reduceDiv, Nat.reduceMod, Nat.zero_ne_one, implies_true, false_implies, Nat.div_one, kvSorted_kvPut, List.length_modify, List.length_map, List.length_set, List.length_mapIdx]; done) | grind [view_upd, fixed_mk, fixed_eta, List.length_modify, State.put_view])) only [State.put_view, view_upd, fixed_mk, fixed_eta, apply_ite (State.view _), ite_self, Nat.reduceAnd, Nat.reduceDiv, Nat.reduceMod, Nat.zero_ne_one, implies_true, false_implies, Nat.div_one, kvSorted_kvPut, List.length_modify, List.length_map, List.length_set, List.length_mapIdx, forEach_view, foldl_view]

theorem takeLimits_view {k} (hk : k &&& 16777213 = k) (s) : (takeLimits s).view k = s.view k := by
  refine view_le hk ?_
  unfold takeLimits
  simp only [State.put_view, view_upd, fixed_mk, fixed_eta, apply_ite (State.view _), ite_self, Nat.reduceAnd,
      Nat.reduceDiv, Nat.reduceMod, Nat.zero_ne_one, implies_true, false_implies, Nat.div_one, kvSorted_kvPut,
      List.length_modify, List.length_map, List.length_set, List.length_mapIdx]

theorem capCredit_view {k} (hk : k &&& 16775167 = k) (a0 s) : (capCredit a0 s).view k = s.view k := by
  refine view_le hk ?_
  unfold capCredit
  simp only [view_upd, fixed_mk, fixed_eta, apply_ite (State.view _), ite_self, Nat.reduceAnd, Nat.reduceDiv, Nat.reduceMod,
      Nat.zero_ne_one, implies_true, false_implies, Nat.div_one, kvSorted_kvPut, List.length_modify, List.length_map,
      List.length_set, List.length_mapIdx]

theorem capSkip_view {k} (hk : k &&& 16775167 = k) (a0 s) : (capSkip a0 s).view k = s.view k := by
  refine view_le hk ?_
  unfold capSkip
  simp only [view_upd, fixed_mk, fixed_eta, apply_ite (State.view _), ite_self, Nat.reduceAnd, Nat.reduceDiv, Nat.reduceMod,
      Nat.zero_ne_one, implies_true, false_implies, Nat.div_one, kvSorted_kvPut, List.length_modify, List.length_map,
      List.length_set, List.length_mapIdx]

theorem capDivide_view {k} (hk : k &&& 16775165 = k) (a0 s) : (capDivide a0 s).view k = s.view k := by
  refine view_le hk ?_
  unfold capDivide
  simp only [setCapFlag_view, view_upd, fixed_mk, fixed_eta, apply_ite (State.view _), ite_self, Nat.reduceAnd,
      Nat.reduceDiv, Nat.reduceMod, Nat.zero_ne_one, implies_true, false_implies, Nat.div_one, kvSorted_kvPut,
      List.length_modify, List.length_map, List.length_set, List.length_mapIdx]

theorem capController_view {k} (hk : k &&& 16775165 = k) (a0 s) : (capController a0 s).view k = s.view k := by
  refine view_le hk ?_
  unfold capController
  simp only [capDivide_view, capSkip_view, capCredit_view, view_upd, fixed_mk, fixed_eta, apply_ite (State.view _),
      ite_self, Nat.reduceAnd, Nat.reduceDiv, Nat.reduceMod, Nat.zero_ne_one, implies_true, false_implies, Nat.div_one,
      kvSorted_kvPut, List.length_modify, List.length_map, List.length_set, List.length_mapIdx]

theorem calibNote_view {k} (hk : k &&& 16775167 = k) (a0 s) : (calibNote a0 s).view k = s.view k := by
  refine view_le hk ?_
  unfold calibNote
  (repeat' split) <;> simp only [view_upd, fixed_mk, fixed_eta, apply_ite (State.view _), ite_self, Nat.reduceAnd, Nat.reduceDiv, Nat.reduceMod, Nat.zero_ne_one, implies_true, false_implies, Nat.div_one, kvSorted_kvPut, List.length_modify, List.length_map, List.length_set, List.length_mapIdx]

theorem endMs_view {k} (hk : k &&& 16775167 = k) (s) : (endMs s).view k = s.view k := by
  refine view_le hk ?_
  unfold endMs
  simp only [view_upd, fixed_mk, fixed_eta, apply_ite (State.view _), ite_self, Nat.reduceAnd, Nat.reduceDiv, Nat.reduceMod,
      Nat.zero_ne_one, implies_true, false_implies, Nat.div_one, kvSorted_kvPut, List.length_modify, List.length_map,
      List.length_set, List.length_mapIdx]

theorem calUse_view {k} (hk : k &&& 7057540 = k) (a0 s) : (calUse a0 s).view k = s.view k := by
  refine view_le hk ?_
  unfold calUse
  simp only [State.add64_view, raiseFault_view, setCapFlag_view, State.put_view, State.takeFree_view, view_upd, fixed_mk,
      fixed_eta, apply_ite (State.view _), ite_self, Nat.reduceAnd, Nat.reduceDiv, Nat.reduceMod, Nat.zero_ne_one, implies_true,
      false_implies, Nat.div_one, kvSorted_kvPut, List.length_modify, List.length_map, List.length_set, List.length_mapIdx]

theorem calRail_view {k} (hk : k &&& 7057540 = k) (a0 s) : (calRail a0 s).view k = s.view k := by
  refine view_le hk ?_
  unfold calRail
  simp only [State.bump32_view, calUse_view, view_upd, fixed_mk, fixed_eta, apply_ite (State.view _), ite_self,
      Nat.reduceAnd, Nat.reduceDiv, Nat.reduceMod, Nat.zero_ne_one, implies_true, false_implies, Nat.div_one, kvSorted_kvPut,
      List.length_modify, List.length_map, List.length_set, List.length_mapIdx]

theorem adoptSet_view {k} (hk : k &&& 16513020 = k) (s) : (adoptSet s).view k = s.view k := by
  refine view_le hk ?_
  unfold adoptSet
  simp only [raise_view, view_upd, fixed_mk, fixed_eta, apply_ite (State.view _), ite_self, Nat.reduceAnd, Nat.reduceDiv,
      Nat.reduceMod, Nat.zero_ne_one, implies_true, false_implies, Nat.div_one, kvSorted_kvPut, List.length_modify,
      List.length_map, List.length_set, List.length_mapIdx]

theorem telemInstant_view {k} (hk : k &&& 16775167 = k) (s) : (telemInstant s).view k = s.view k := by
  refine view_le hk ?_
  unfold telemInstant
  simp only [view_upd, fixed_mk, fixed_eta, apply_ite (State.view _), ite_self, Nat.reduceAnd, Nat.reduceDiv, Nat.reduceMod,
      Nat.zero_ne_one, implies_true, false_implies, Nat.div_one, kvSorted_kvPut, List.length_modify, List.length_map,
      List.length_set, List.length_mapIdx]

theorem estimStart_view {k} (hk : k &&& 16513020 = k) (s) : (estimStart s).view k = s.view k := by
  refine view_le hk ?_
  unfold estimStart
  simp only [adoptSet_view, view_upd, fixed_mk, fixed_eta, apply_ite (State.view _), ite_self, Nat.reduceAnd, Nat.reduceDiv,
      Nat.reduceMod, Nat.zero_ne_one, implies_true, false_implies, Nat.div_one, kvSorted_kvPut, List.length_modify,
      List.length_map, List.length_set, List.length_mapIdx]

theorem policyWrite_view {k} (hk : k &&& 16776189 = k) {a0 a1 a2 s t} (h : policyWrite a0 a1 a2 s = .ok t) : t.view k =
    s.view k := by
  refine view_le hk ?_
  unfold policyWrite at h
  (repeat' split at h) <;> (try replace h := needRange_ok h) <;> (try replace h := needState_ok h) <;> (try replace h := needRange_ok h) <;> (repeat' split at h) <;> first | (simp only [Host.Outcome.next.injEq, Except.ok.injEq, Option.some.injEq, reduceCtorEq] at h; (try subst h); (repeat' split); all_goals simp only [storeVal_view, setTarget_view, view_upd, fixed_mk, fixed_eta, apply_ite (State.view _), ite_self, Nat.reduceAnd, Nat.reduceDiv, Nat.reduceMod, Nat.zero_ne_one, implies_true, false_implies, Nat.div_one, kvSorted_kvPut, List.length_modify, List.length_map, List.length_set, List.length_mapIdx])

theorem capWrite_view {k} (hk : k &&& 16495612 = k) {a0 a1 a2 a3 s t} (h : capWrite a0 a1 a2 a3 s = .ok t) : t.view k =
    s.view k := by
  refine view_le hk ?_
  unfold capWrite at h
  (repeat' split at h) <;> (try replace h := needRange_ok h) <;> (try replace h := needState_ok h) <;> (try replace h := needRange_ok h) <;> (repeat' split at h) <;> first | exact policyWrite_view (by decide) h | (simp only [Host.Outcome.next.injEq, Except.ok.injEq, Option.some.injEq, reduceCtorEq] at h; (try subst h); (repeat' split); all_goals simp only [storeVal_view, updAccr_view, State.putDom_view, adoptSet_view, view_upd, fixed_mk, fixed_eta, apply_ite (State.view _), ite_self, Nat.reduceAnd, Nat.reduceDiv, Nat.reduceMod, Nat.zero_ne_one, implies_true, false_implies, Nat.div_one, kvSorted_kvPut, List.length_modify, List.length_map, List.length_set, List.length_mapIdx])

theorem computePlan_view {k} (hk : k &&& 16769021 = k) (s) : (computePlan s).view k = s.view k := by
  refine view_le hk ?_
  unfold computePlan
  simp only [setDoveFlag_view, State.bump32_view, view_upd, fixed_mk, fixed_eta, apply_ite (State.view _), ite_self,
      Nat.reduceAnd, Nat.reduceDiv, Nat.reduceMod, Nat.zero_ne_one, implies_true, false_implies, Nat.div_one, kvSorted_kvPut,
      List.length_modify, List.length_map, List.length_set, List.length_mapIdx]

theorem armPlan_view {k} (hk : k &&& 16769021 = k) (a0 a1 a2 s) : (armPlan a0 a1 a2 s).view k = s.view k := by
  refine view_le hk ?_
  unfold armPlan
  simp only [computePlan_view, view_upd, fixed_mk, fixed_eta, apply_ite (State.view _), ite_self, Nat.reduceAnd,
      Nat.reduceDiv, Nat.reduceMod, Nat.zero_ne_one, implies_true, false_implies, Nat.div_one, kvSorted_kvPut,
      List.length_modify, List.length_map, List.length_set, List.length_mapIdx]

theorem replan_view {k} (hk : k &&& 16769021 = k) (s) : (replan s).view k = s.view k := by
  refine view_le hk ?_
  unfold replan
  simp only [computePlan_view, view_upd, fixed_mk, fixed_eta, apply_ite (State.view _), ite_self, Nat.reduceAnd,
      Nat.reduceDiv, Nat.reduceMod, Nat.zero_ne_one, implies_true, false_implies, Nat.div_one, kvSorted_kvPut,
      List.length_modify, List.length_map, List.length_set, List.length_mapIdx]

theorem startRelease_view {k} (hk : k &&& 15720445 = k) (s) : (startRelease s).view k = s.view k := by
  refine view_le hk ?_
  unfold startRelease
  simp only [State.count_view, State.add64_view, view_upd, fixed_mk, fixed_eta, apply_ite (State.view _), ite_self,
      Nat.reduceAnd, Nat.reduceDiv, Nat.reduceMod, Nat.zero_ne_one, implies_true, false_implies, Nat.div_one, kvSorted_kvPut,
      List.length_modify, List.length_map, List.length_set, List.length_mapIdx]

theorem actBarrier_view {k} (hk : k &&& 15392764 = k) (a0 a1 s) : (actBarrier a0 a1 s).view k = s.view k := by
  refine view_le hk ?_
  unfold actBarrier
  simp only [State.put_view, raise_view, setDoveFlag_view, bindingSignal_view, State.add64_view, startRelease_view,
      view_upd, fixed_mk, fixed_eta, apply_ite (State.view _), ite_self, Nat.reduceAnd, Nat.reduceDiv, Nat.reduceMod,
      Nat.zero_ne_one, implies_true, false_implies, Nat.div_one, kvSorted_kvPut, List.length_modify, List.length_map,
      List.length_set, List.length_mapIdx]

theorem hearBarrier_view {k} (hk : k &&& 15392764 = k) (a0 a1 a2 s) : (hearBarrier a0 a1 a2 s).view k = s.view k := by
  refine view_le hk ?_
  unfold hearBarrier
  simp only [State.bump32_view, actBarrier_view, view_upd, fixed_mk, fixed_eta, apply_ite (State.view _), ite_self,
      Nat.reduceAnd, Nat.reduceDiv, Nat.reduceMod, Nat.zero_ne_one, implies_true, false_implies, Nat.div_one, kvSorted_kvPut,
      List.length_modify, List.length_map, List.length_set, List.length_mapIdx]

theorem rootComplete_view {k} (hk : k &&& 15392756 = k) (s) : (rootComplete s).view k = s.view k := by
  refine view_le hk ?_
  unfold rootComplete
  simp only [broadcast_view, hearBarrier_view, view_upd, fixed_mk, fixed_eta, apply_ite (State.view _), ite_self,
      Nat.reduceAnd, Nat.reduceDiv, Nat.reduceMod, Nat.zero_ne_one, implies_true, false_implies, Nat.div_one, kvSorted_kvPut,
      List.length_modify, List.length_map, List.length_set, List.length_mapIdx]

theorem rootArrive_view {k} (hk : k &&& 15372420 = k) (a0 a1 s) : (rootArrive a0 a1 s).view k = s.view k := by
  refine view_le hk ?_
  unfold rootArrive
  simp only [State.bump32_view, rootComplete_view, raiseFault_view, setDoveFlag_view, hearBarrier_view, sendTo_view,
      view_upd, fixed_mk, fixed_eta, apply_ite (State.view _), ite_self, Nat.reduceAnd, Nat.reduceDiv, Nat.reduceMod,
      Nat.zero_ne_one, implies_true, false_implies, Nat.div_one, kvSorted_kvPut, List.length_modify, List.length_map,
      List.length_set, List.length_mapIdx]

theorem arrive_view {k} (hk : k &&& 15372420 = k) (s) : (arrive s).view k = s.view k := by
  refine view_le hk ?_
  unfold arrive
  simp only [rootArrive_view, sendTo_view, view_upd, fixed_mk, fixed_eta, apply_ite (State.view _), ite_self, Nat.reduceAnd,
      Nat.reduceDiv, Nat.reduceMod, Nat.zero_ne_one, implies_true, false_implies, Nat.div_one, kvSorted_kvPut,
      List.length_modify, List.length_map, List.length_set, List.length_mapIdx]

theorem cancelBarrier_view {k} (hk : k &&& 15392756 = k) (s) : (cancelBarrier s).view k = s.view k := by
  refine view_le hk ?_
  unfold cancelBarrier
  simp only [broadcast_view, State.put_view, hearBarrier_view, view_upd, fixed_mk, fixed_eta, apply_ite (State.view _),
      ite_self, Nat.reduceAnd, Nat.reduceDiv, Nat.reduceMod, Nat.zero_ne_one, implies_true, false_implies, Nat.div_one,
      kvSorted_kvPut, List.length_modify, List.length_map, List.length_set, List.length_mapIdx]

theorem noteLost_view {k} (hk : k &&& 16777213 = k) (a0 s) : (noteLost a0 s).view k = s.view k := by
  refine view_le hk ?_
  unfold noteLost
  simp only [State.put_view, view_upd, fixed_mk, fixed_eta, apply_ite (State.view _), ite_self, Nat.reduceAnd,
      Nat.reduceDiv, Nat.reduceMod, Nat.zero_ne_one, implies_true, false_implies, Nat.div_one, kvSorted_kvPut,
      List.length_modify, List.length_map, List.length_set, List.length_mapIdx]

theorem barInRise_view {k} (hk : k &&& 15372420 = k) (s) : (barInRise s).view k = s.view k := by
  refine view_le hk ?_
  unfold barInRise
  simp only [setBarEarly_view, arrive_view, startRelease_view, view_upd, fixed_mk, fixed_eta, apply_ite (State.view _),
      ite_self, Nat.reduceAnd, Nat.reduceDiv, Nat.reduceMod, Nat.zero_ne_one, implies_true, false_implies, Nat.div_one,
      kvSorted_kvPut, List.length_modify, List.length_map, List.length_set, List.length_mapIdx]

theorem barOutRise_view {k} (hk : k &&& 15389692 = k) (s) : (barOutRise s).view k = s.view k := by
  refine view_le hk ?_
  unfold barOutRise
  simp only [advanceTiles_view, bindingSignal_view, view_upd, fixed_mk, fixed_eta, apply_ite (State.view _), ite_self,
      Nat.reduceAnd, Nat.reduceDiv, Nat.reduceMod, Nat.zero_ne_one, implies_true, false_implies, Nat.div_one, kvSorted_kvPut,
      List.length_modify, List.length_map, List.length_set, List.length_mapIdx]

theorem nextWave_view {k} (hk : k &&& 15455228 = k) (s) : (nextWave s).view k = s.view k := by
  refine view_le hk ?_
  unfold nextWave
  simp only [advanceTiles_view, view_upd, fixed_mk, fixed_eta, apply_ite (State.view _), ite_self, Nat.reduceAnd,
      Nat.reduceDiv, Nat.reduceMod, Nat.zero_ne_one, implies_true, false_implies, Nat.div_one, kvSorted_kvPut,
      List.length_modify, List.length_map, List.length_set, List.length_mapIdx]

theorem barOutFall_view {k} (hk : k &&& 15455228 = k) (s) : (barOutFall s).view k = s.view k := by
  refine view_le hk ?_
  unfold barOutFall
  simp only [advanceTiles_view, view_upd, fixed_mk, fixed_eta, apply_ite (State.view _), ite_self, Nat.reduceAnd,
      Nat.reduceDiv, Nat.reduceMod, Nat.zero_ne_one, implies_true, false_implies, Nat.div_one, kvSorted_kvPut,
      List.length_modify, List.length_map, List.length_set, List.length_mapIdx]

theorem doveWrite_view {k} (hk : k &&& 15392756 = k) {a0 a1 a2 a3 s t} (h : doveWrite a0 a1 a2 a3 s = .ok t) : t.view k =
    s.view k := by
  refine view_le hk ?_
  unfold doveWrite at h
  (repeat' split at h) <;> (try replace h := needRange_ok h) <;> (try replace h := needState_ok h) <;> (try replace h := needRange_ok h) <;> (repeat' split at h) <;> first | (simp only [Host.Outcome.next.injEq, Except.ok.injEq, Option.some.injEq, reduceCtorEq] at h; (try subst h); (repeat' split); all_goals simp only [storeVal_view, rootComplete_view, cancelBarrier_view, view_upd, fixed_mk, fixed_eta, apply_ite (State.view _), ite_self, Nat.reduceAnd, Nat.reduceDiv, Nat.reduceMod, Nat.zero_ne_one, implies_true, false_implies, Nat.div_one, kvSorted_kvPut, List.length_modify, List.length_map, List.length_set, List.length_mapIdx])

theorem linkCount_view {k} (hk : k &&& 16777213 = k) (a0 a1 a2 s) : (linkCount a0 a1 a2 s).view k = s.view k := by
  refine view_le hk ?_
  unfold linkCount
  simp only [State.add32_view, view_upd, fixed_mk, fixed_eta, apply_ite (State.view _), ite_self, Nat.reduceAnd,
      Nat.reduceDiv, Nat.reduceMod, Nat.zero_ne_one, implies_true, false_implies, Nat.div_one, kvSorted_kvPut,
      List.length_modify, List.length_map, List.length_set, List.length_mapIdx]

theorem State.updLane_view {k} (hk : k &&& 16777207 = k) (s a1 a2 a3) : (State.updLane s a1 a2 a3).view k = s.view k := by
  refine view_le hk ?_
  unfold State.updLane
  simp only [State.updLink_view, view_upd, fixed_mk, fixed_eta, apply_ite (State.view _), ite_self, Nat.reduceAnd,
      Nat.reduceDiv, Nat.reduceMod, Nat.zero_ne_one, implies_true, false_implies, Nat.div_one, kvSorted_kvPut,
      List.length_modify, List.length_map, List.length_set, List.length_mapIdx]

theorem forward_view {k} (hk : k &&& 15728631 = k) (a0 a1 s) : (forward a0 a1 s).view k = s.view k := by
  refine view_le hk ?_
  unfold forward
  simp only [sendOn_view, discardFrame_view, view_upd, fixed_mk, fixed_eta, apply_ite (State.view _), ite_self,
      Nat.reduceAnd, Nat.reduceDiv, Nat.reduceMod, Nat.zero_ne_one, implies_true, false_implies, Nat.div_one, kvSorted_kvPut,
      List.length_modify, List.length_map, List.length_set, List.length_mapIdx]

theorem forwardVoid_view {k} (hk : k &&& 16777207 = k) (a0 a1 s) : (forwardVoid a0 a1 s).view k = s.view k := by
  refine view_le hk ?_
  unfold forwardVoid
  simp only [State.updLane_view, view_upd, fixed_mk, fixed_eta, apply_ite (State.view _), ite_self, Nat.reduceAnd,
      Nat.reduceDiv, Nat.reduceMod, Nat.zero_ne_one, implies_true, false_implies, Nat.div_one, kvSorted_kvPut,
      List.length_modify, List.length_map, List.length_set, List.length_mapIdx]

theorem reassemble_view {k} (hk : k &&& 16777207 = k) {f} {g : List Nat → State → State} {s} (h : ∀ p t, (g p t).view k =
    t.view k) :
    (reassemble f g s).view k = s.view k := by
  have hu : ∀ t : State, ∀ c : Chain, State.view k { t with chain := c } = t.view k := fun t c => view_le hk (by simp only
      [view_upd, fixed_mk, fixed_eta, apply_ite (State.view _), ite_self, Nat.reduceAnd, Nat.reduceDiv, Nat.reduceMod,
      Nat.zero_ne_one, implies_true, false_implies, kvSorted_kvPut, List.length_modify, List.length_map, List.length_set,
      List.length_mapIdx])
  unfold reassemble
  simp only [apply_ite (State.view _), h, hu, ite_self]

theorem frameGood_view {k} (hk : k &&& 15728629 = k) {l f} {g : List Nat → State → State} {s} (h : ∀ p t, (g p t).view k =
    t.view k) :
    (frameGood l f g s).view k = s.view k := by
  unfold frameGood
  simp only [apply_ite (State.view _), reassemble_view (view_trans hk (by decide)) h, linkCount_view (view_trans hk (by
      decide)), forward_view (view_trans hk (by decide)), ite_self]

theorem frameIn_view {k} (hk : k &&& 15728629 = k) {l ty f} {g : List Nat → State → State} {s} (h : ∀ p t, (g p t).view k =
    t.view k) :
    (frameIn l ty f g s).view k = s.view k := by
  unfold frameIn
  split
  · rfl
  · split
    · split
      · rw [frameGood_view (view_trans hk (by decide)) h, State.updLane_view (view_trans hk (by decide))]
      · rw [forwardVoid_view (view_trans hk (by decide))]
    · rw [frameGood_view (view_trans hk (by decide)) h, State.updLane_view (view_trans hk (by decide))]

theorem frameBad_view {k} (hk : k &&& 16777205 = k) (a0 a1 s) : (frameBad a0 a1 s).view k = s.view k := by
  refine view_le hk ?_
  unfold frameBad
  simp only [linkCount_view, forwardVoid_view, State.updLane_view, view_upd, fixed_mk, fixed_eta, apply_ite (State.view _),
      ite_self, Nat.reduceAnd, Nat.reduceDiv, Nat.reduceMod, Nat.zero_ne_one, implies_true, false_implies, Nat.div_one,
      kvSorted_kvPut, List.length_modify, List.length_map, List.length_set, List.length_mapIdx]

theorem framePoison_view {k} (hk : k &&& 16777207 = k) (a0 a1 s) : (framePoison a0 a1 s).view k = s.view k := by
  refine view_le hk ?_
  unfold framePoison
  simp only [forwardVoid_view, view_upd, fixed_mk, fixed_eta, apply_ite (State.view _), ite_self, Nat.reduceAnd,
      Nat.reduceDiv, Nat.reduceMod, Nat.zero_ne_one, implies_true, false_implies, Nat.div_one, kvSorted_kvPut,
      List.length_modify, List.length_map, List.length_set, List.length_mapIdx]

theorem dropLink_view {k} (hk : k &&& 16777205 = k) (a0 s) : (dropLink a0 s).view k = s.view k := by
  refine view_le hk ?_
  unfold dropLink
  simp only [linkCount_view, State.updLink_view, view_upd, fixed_mk, fixed_eta, apply_ite (State.view _), ite_self,
      Nat.reduceAnd, Nat.reduceDiv, Nat.reduceMod, Nat.zero_ne_one, implies_true, false_implies, Nat.div_one, kvSorted_kvPut,
      List.length_modify, List.length_map, List.length_set, List.length_mapIdx]

theorem ackIn_view {k} (hk : k &&& 15728631 = k) (a0 a1 a2 s) : (ackIn a0 a1 a2 s).view k = s.view k := by
  refine view_le hk ?_
  unfold ackIn
  (repeat' split) <;> simp only [pumpLink_view, State.updLane_view, view_upd, fixed_mk, fixed_eta, apply_ite (State.view _), ite_self, Nat.reduceAnd, Nat.reduceDiv, Nat.reduceMod, Nat.zero_ne_one, implies_true, false_implies, Nat.div_one, kvSorted_kvPut, List.length_modify, List.length_map, List.length_set, List.length_mapIdx]

theorem loseLock_view {k} (hk : k &&& 16777207 = k) (a0 s) : (loseLock a0 s).view k = s.view k := by
  refine view_le hk ?_
  unfold loseLock
  simp only [State.updLink_view, view_upd, fixed_mk, fixed_eta, apply_ite (State.view _), ite_self, Nat.reduceAnd,
      Nat.reduceDiv, Nat.reduceMod, Nat.zero_ne_one, implies_true, false_implies, Nat.div_one, kvSorted_kvPut,
      List.length_modify, List.length_map, List.length_set, List.length_mapIdx]

theorem hdrAppend_view {k} (hk : k &&& 16252927 = k) (a0 s) : (hdrAppend a0 s).view k = s.view k := by
  refine view_le hk ?_
  unfold hdrAppend
  simp only [view_upd, fixed_mk, fixed_eta, apply_ite (State.view _), ite_self, Nat.reduceAnd, Nat.reduceDiv, Nat.reduceMod,
      Nat.zero_ne_one, implies_true, false_implies, Nat.div_one, kvSorted_kvPut, List.length_modify, List.length_map,
      List.length_set, List.length_mapIdx]

theorem flashOk_view {k} (hk : k &&& 16252927 = k) (s) : (flashOk s).view k = s.view k := by
  refine view_le hk ?_
  unfold flashOk
  simp only [view_upd, fixed_mk, fixed_eta, apply_ite (State.view _), ite_self, Nat.reduceAnd, Nat.reduceDiv, Nat.reduceMod,
      Nat.zero_ne_one, implies_true, false_implies, Nat.div_one, kvSorted_kvPut, List.length_modify, List.length_map,
      List.length_set, List.length_mapIdx]

theorem flashRun_view {k} (hk : k &&& 15990780 = k) (s) : (flashRun s).view k = s.view k := by
  refine view_le hk ?_
  unfold flashRun
  simp only [clearReady_view, view_upd, fixed_mk, fixed_eta, apply_ite (State.view _), ite_self, Nat.reduceAnd,
      Nat.reduceDiv, Nat.reduceMod, Nat.zero_ne_one, implies_true, false_implies, Nat.div_one, kvSorted_kvPut,
      List.length_modify, List.length_map, List.length_set, List.length_mapIdx]

theorem flashFailed_view {k} (hk : k &&& 15990780 = k) (a0 a1 s) : (flashFailed a0 a1 s).view k = s.view k := by
  refine view_le hk ?_
  unfold flashFailed
  simp only [flashRun_view, raise_view, State.bump32_view, setRecFlag_view, view_upd, fixed_mk, fixed_eta, apply_ite
      (State.view _), ite_self, Nat.reduceAnd, Nat.reduceDiv, Nat.reduceMod, Nat.zero_ne_one, implies_true, false_implies,
      Nat.div_one, kvSorted_kvPut, List.length_modify, List.length_map, List.length_set, List.length_mapIdx]

theorem flashDone_view {k} (hk : k &&& 15990780 = k) (a0 s) : (flashDone a0 s).view k = s.view k := by
  refine view_le hk ?_
  unfold flashDone
  simp only [flashOk_view, flashRun_view, view_upd, fixed_mk, fixed_eta, apply_ite (State.view _), ite_self, Nat.reduceAnd,
      Nat.reduceDiv, Nat.reduceMod, Nat.zero_ne_one, implies_true, false_implies, Nat.div_one, kvSorted_kvPut,
      List.length_modify, List.length_map, List.length_set, List.length_mapIdx]

theorem buildGauges_view {k} (hk : k &&& 16760831 = k) (s) : (buildGauges s).view k = s.view k := by
  refine view_le hk ?_
  unfold buildGauges
  simp only [view_upd, fixed_mk, fixed_eta, apply_ite (State.view _), ite_self, Nat.reduceAnd, Nat.reduceDiv, Nat.reduceMod,
      Nat.zero_ne_one, implies_true, false_implies, Nat.div_one, kvSorted_kvPut, List.length_modify, List.length_map,
      List.length_set, List.length_mapIdx]

theorem thermFault_view {k} (hk : k &&& 15446148 = k) (a0 a1 a2 a3 s) : (thermFault a0 a1 a2 a3 s).view k = s.view k := by
  refine view_le hk ?_
  unfold thermFault
  simp only [raiseFault_view, view_upd, fixed_mk, fixed_eta, apply_ite (State.view _), ite_self, Nat.reduceAnd,
      Nat.reduceDiv, Nat.reduceMod, Nat.zero_ne_one, implies_true, false_implies, Nat.div_one, kvSorted_kvPut,
      List.length_modify, List.length_map, List.length_set, List.length_mapIdx]

theorem forGroups_view {k o c} {f : Nat → Group → State → State} {s} (h : ∀ n g t, (f n g t).view k = t.view k) :
    (forGroups o c f s).view k = s.view k := by
  unfold forGroups
  refine foldl_view (fun t x => ?_) _ _
  split
  · exact h _ _ _
  · rfl

theorem thermCrit_view {k} (hk : k &&& 15446148 = k) (a0 a1 s) : (thermCrit a0 a1 s).view k = s.view k := by
  refine view_le hk ?_
  unfold thermCrit
  simp only [enterAll_view, thermFault_view, view_upd, fixed_mk, fixed_eta, apply_ite (State.view _), ite_self,
      Nat.reduceAnd, Nat.reduceDiv, Nat.reduceMod, Nat.zero_ne_one, implies_true, false_implies, Nat.div_one, kvSorted_kvPut,
      List.length_modify, List.length_map, List.length_set, List.length_mapIdx]

theorem settleGauges_view {k} (hk : k &&& 16498620 = k) (s) : (settleGauges s).view k = s.view k := by
  refine view_le hk ?_
  unfold settleGauges
  simp only [gaugesLost_view, view_upd, fixed_mk, fixed_eta, apply_ite (State.view _), ite_self, Nat.reduceAnd,
      Nat.reduceDiv, Nat.reduceMod, Nat.zero_ne_one, implies_true, false_implies, Nat.div_one, kvSorted_kvPut,
      List.length_modify, List.length_map, List.length_set, List.length_mapIdx]

theorem instantFaults_view {k} (hk : k &&& 15446148 = k) (a0 a1 a2 s) : (instantFaults a0 a1 a2 s).view k = s.view k := by
  refine view_le hk ?_
  unfold instantFaults
  simp (disch := (intros; first | done | (simp only [thermCrit_view, State.bump32_view, setThermFlag_view, thermFault_view, settleGauges_view, view_upd, fixed_mk, fixed_eta, apply_ite (State.view _), ite_self, Nat.reduceAnd, Nat.reduceDiv, Nat.reduceMod, Nat.zero_ne_one, implies_true, false_implies, Nat.div_one, kvSorted_kvPut, List.length_modify, List.length_map, List.length_set, List.length_mapIdx]; done) | ((repeat' split) <;> simp only [thermCrit_view, State.bump32_view, setThermFlag_view, thermFault_view, settleGauges_view, view_upd, fixed_mk, fixed_eta, apply_ite (State.view _), ite_self, Nat.reduceAnd, Nat.reduceDiv, Nat.reduceMod, Nat.zero_ne_one, implies_true, false_implies, Nat.div_one, kvSorted_kvPut, List.length_modify, List.length_map, List.length_set, List.length_mapIdx]; done) | grind [view_upd, fixed_mk, fixed_eta, List.length_modify, thermCrit_view, State.bump32_view, setThermFlag_view, thermFault_view, settleGauges_view])) only [thermCrit_view, State.bump32_view, setThermFlag_view, thermFault_view, settleGauges_view, view_upd, fixed_mk, fixed_eta, apply_ite (State.view _), ite_self, Nat.reduceAnd, Nat.reduceDiv, Nat.reduceMod, Nat.zero_ne_one, implies_true, false_implies, Nat.div_one, kvSorted_kvPut, List.length_modify, List.length_map, List.length_set, List.length_mapIdx, forEach_view, foldl_view] <;> (repeat' split) <;> simp (disch := (intros; first | done | (simp only [thermCrit_view, State.bump32_view, setThermFlag_view, thermFault_view, settleGauges_view, view_upd, fixed_mk, fixed_eta, apply_ite (State.view _), ite_self, Nat.reduceAnd, Nat.reduceDiv, Nat.reduceMod, Nat.zero_ne_one, implies_true, false_implies, Nat.div_one, kvSorted_kvPut, List.length_modify, List.length_map, List.length_set, List.length_mapIdx]; done) | ((repeat' split) <;> simp only [thermCrit_view, State.bump32_view, setThermFlag_view, thermFault_view, settleGauges_view, view_upd, fixed_mk, fixed_eta, apply_ite (State.view _), ite_self, Nat.reduceAnd, Nat.reduceDiv, Nat.reduceMod, Nat.zero_ne_one, implies_true, false_implies, Nat.div_one, kvSorted_kvPut, List.length_modify, List.length_map, List.length_set, List.length_mapIdx]; done) | grind [view_upd, fixed_mk, fixed_eta, List.length_modify, thermCrit_view, State.bump32_view, setThermFlag_view, thermFault_view, settleGauges_view])) only [thermCrit_view, State.bump32_view, setThermFlag_view, thermFault_view, settleGauges_view, view_upd, fixed_mk, fixed_eta, apply_ite (State.view _), ite_self, Nat.reduceAnd, Nat.reduceDiv, Nat.reduceMod, Nat.zero_ne_one, implies_true, false_implies, Nat.div_one, kvSorted_kvPut, List.length_modify, List.length_map, List.length_set, List.length_mapIdx, forEach_view, foldl_view]

theorem gaugeInstant_view {k} (hk : k &&& 7057540 = k) (a0 s) : (gaugeInstant a0 s).view k = s.view k := by
  refine view_le hk ?_
  unfold gaugeInstant
  simp only [buildGauges_view, advanceTo_view, setReady_view, updAccr_view, instantFaults_view, view_upd, fixed_mk,
      fixed_eta, apply_ite (State.view _), ite_self, Nat.reduceAnd, Nat.reduceDiv, Nat.reduceMod, Nat.zero_ne_one, implies_true,
      false_implies, Nat.div_one, kvSorted_kvPut, List.length_modify, List.length_map, List.length_set, List.length_mapIdx]

theorem gaugeSuspect_view {k} (hk : k &&& 15446148 = k) (a0 s) : (gaugeSuspect a0 s).view k = s.view k := by
  refine view_le hk ?_
  unfold gaugeSuspect
  (repeat' split) <;> simp only [setThermFlag_view, thermFault_view, view_upd, fixed_mk, fixed_eta, apply_ite (State.view _), ite_self, Nat.reduceAnd, Nat.reduceDiv, Nat.reduceMod, Nat.zero_ne_one, implies_true, false_implies, Nat.div_one, kvSorted_kvPut, List.length_modify, List.length_map, List.length_set, List.length_mapIdx]

theorem updGroup_view {k} (hk : k &&& 16760831 = k) (a0 a1 s) : (updGroup a0 a1 s).view k = s.view k := by
  refine view_le hk ?_
  unfold updGroup
  simp only [view_upd, fixed_mk, fixed_eta, apply_ite (State.view _), ite_self, Nat.reduceAnd, Nat.reduceDiv, Nat.reduceMod,
      Nat.zero_ne_one, implies_true, false_implies, Nat.div_one, kvSorted_kvPut, List.length_modify, List.length_map,
      List.length_set, List.length_mapIdx]

theorem thermalStep_view {k} (hk : k &&& 15447036 = k) (a0 s) : (thermalStep a0 s).view k = s.view k := by
  refine view_le hk ?_
  unfold thermalStep
  simp only [advanceTo_view, updAccr_view, updGroup_view, view_upd, fixed_mk, fixed_eta, apply_ite (State.view _), ite_self,
      Nat.reduceAnd, Nat.reduceDiv, Nat.reduceMod, Nat.zero_ne_one, implies_true, false_implies, Nat.div_one, kvSorted_kvPut,
      List.length_modify, List.length_map, List.length_set, List.length_mapIdx]

theorem disengage_view {k} (hk : k &&& 16758717 = k) (a0 s) : (disengage a0 s).view k = s.view k := by
  refine view_le hk ?_
  unfold disengage
  simp only [clearFault_view, updGroup_view, view_upd, fixed_mk, fixed_eta, apply_ite (State.view _), ite_self,
      Nat.reduceAnd, Nat.reduceDiv, Nat.reduceMod, Nat.zero_ne_one, implies_true, false_implies, Nat.div_one, kvSorted_kvPut,
      List.length_modify, List.length_map, List.length_set, List.length_mapIdx]

theorem thermalRaise_view {k} (hk : k &&& 15446972 = k) (a0 a1 s) : (thermalRaise a0 a1 s).view k = s.view k := by
  refine view_le hk ?_
  unfold thermalRaise
  simp only [advanceTo_view, disengage_view, updAccr_view, updGroup_view, view_upd, fixed_mk, fixed_eta, apply_ite
      (State.view _), ite_self, Nat.reduceAnd, Nat.reduceDiv, Nat.reduceMod, Nat.zero_ne_one, implies_true, false_implies,
      Nat.div_one, kvSorted_kvPut, List.length_modify, List.length_map, List.length_set, List.length_mapIdx]

theorem rateHoldEnd_view {k} (hk : k &&& 15446972 = k) (a0 s) : (rateHoldEnd a0 s).view k = s.view k := by
  refine view_le hk ?_
  unfold rateHoldEnd
  simp only [advanceTo_view, clearFault_view, updGroup_view, view_upd, fixed_mk, fixed_eta, apply_ite (State.view _),
      ite_self, Nat.reduceAnd, Nat.reduceDiv, Nat.reduceMod, Nat.zero_ne_one, implies_true, false_implies, Nat.div_one,
      kvSorted_kvPut, List.length_modify, List.length_map, List.length_set, List.length_mapIdx]

theorem gaugeCommand_view {k} (hk : k &&& 16760829 = k) {a0 s t} (h : gaugeCommand a0 s = .ok t) : t.view k = s.view k := by
  refine view_le hk ?_
  unfold gaugeCommand at h
  grind [view_upd, fixed_mk, fixed_eta, List.length_modify, State.put_view, → needState_ok]

theorem gaugeDone_view {k} (hk : k &&& 15446148 = k) (a0 s) : (gaugeDone a0 s).view k = s.view k := by
  refine view_le hk ?_
  unfold gaugeDone
  (repeat' split) <;> simp only [State.put_view, setThermFlag_view, thermFault_view, view_upd, fixed_mk, fixed_eta, apply_ite (State.view _), ite_self, Nat.reduceAnd, Nat.reduceDiv, Nat.reduceMod, Nat.zero_ne_one, implies_true, false_implies, Nat.div_one, kvSorted_kvPut, List.length_modify, List.length_map, List.length_set, List.length_mapIdx]

theorem gaugeCalStore_view {k} (hk : k &&& 16760831 = k) {s t} (h : gaugeCalStore s = .ok t) : t.view k = s.view k := by
  refine view_le hk ?_
  unfold gaugeCalStore at h
  (repeat' split at h) <;> simp only [Host.Outcome.next.injEq, Except.ok.injEq, Option.some.injEq, reduceCtorEq] at h <;> subst h <;> simp only [view_upd, fixed_mk, fixed_eta, apply_ite (State.view _), ite_self, Nat.reduceAnd, Nat.reduceDiv, Nat.reduceMod, Nat.zero_ne_one, implies_true, false_implies, Nat.div_one, kvSorted_kvPut, List.length_modify, List.length_map, List.length_set, List.length_mapIdx]

theorem gaugeCalStored_view {k} (hk : k &&& 15974396 = k) (a0 s) : (gaugeCalStored a0 s).view k = s.view k := by
  refine view_le hk ?_
  unfold gaugeCalStored
  simp only [flashDone_view, view_upd, fixed_mk, fixed_eta, apply_ite (State.view _), ite_self, Nat.reduceAnd,
      Nat.reduceDiv, Nat.reduceMod, Nat.zero_ne_one, implies_true, false_implies, Nat.div_one, kvSorted_kvPut,
      List.length_modify, List.length_map, List.length_set, List.length_mapIdx]

theorem relayTake_view {k} (hk : k &&& 16758781 = k) (a0 a1 a2 s) : (relayTake a0 a1 a2 s).view k = s.view k := by
  refine view_le hk ?_
  unfold relayTake
  simp only [updAccr_view, view_upd, fixed_mk, fixed_eta, apply_ite (State.view _), ite_self, Nat.reduceAnd, Nat.reduceDiv,
      Nat.reduceMod, Nat.zero_ne_one, implies_true, false_implies, Nat.div_one, kvSorted_kvPut, List.length_modify,
      List.length_map, List.length_set, List.length_mapIdx]

theorem relayLost_view {k} (hk : k &&& 15446148 = k) (a0 s) : (relayLost a0 s).view k = s.view k := by
  refine view_le hk ?_
  unfold relayLost
  simp only [setThermFlag_view, raiseFault_view, view_upd, fixed_mk, fixed_eta, apply_ite (State.view _), ite_self,
      Nat.reduceAnd, Nat.reduceDiv, Nat.reduceMod, Nat.zero_ne_one, implies_true, false_implies, Nat.div_one, kvSorted_kvPut,
      List.length_modify, List.length_map, List.length_set, List.length_mapIdx]

theorem relayClear_view {k} (hk : k &&& 16758781 = k) (a0 s) : (relayClear a0 s).view k = s.view k := by
  refine view_le hk ?_
  unfold relayClear
  simp only [updAccr_view, view_upd, fixed_mk, fixed_eta, apply_ite (State.view _), ite_self, Nat.reduceAnd, Nat.reduceDiv,
      Nat.reduceMod, Nat.zero_ne_one, implies_true, false_implies, Nat.div_one, kvSorted_kvPut, List.length_modify,
      List.length_map, List.length_set, List.length_mapIdx]

theorem raisePredict_view {k} (hk : k &&& 15446148 = k) (a0 s) : (raisePredict a0 s).view k = s.view k := by
  refine view_le hk ?_
  unfold raisePredict
  simp (disch := (intros; first | done | (simp only [State.bump32_view, setThermFlag_view, thermFault_view, view_upd, fixed_mk, fixed_eta, apply_ite (State.view _), ite_self, Nat.reduceAnd, Nat.reduceDiv, Nat.reduceMod, Nat.zero_ne_one, implies_true, false_implies, Nat.div_one, kvSorted_kvPut, List.length_modify, List.length_map, List.length_set, List.length_mapIdx]; done) | ((repeat' split) <;> simp only [State.bump32_view, setThermFlag_view, thermFault_view, view_upd, fixed_mk, fixed_eta, apply_ite (State.view _), ite_self, Nat.reduceAnd, Nat.reduceDiv, Nat.reduceMod, Nat.zero_ne_one, implies_true, false_implies, Nat.div_one, kvSorted_kvPut, List.length_modify, List.length_map, List.length_set, List.length_mapIdx]; done) | grind [view_upd, fixed_mk, fixed_eta, List.length_modify, State.bump32_view, setThermFlag_view, thermFault_view])) only [State.bump32_view, setThermFlag_view, thermFault_view, view_upd, fixed_mk, fixed_eta, apply_ite (State.view _), ite_self, Nat.reduceAnd, Nat.reduceDiv, Nat.reduceMod, Nat.zero_ne_one, implies_true, false_implies, Nat.div_one, kvSorted_kvPut, List.length_modify, List.length_map, List.length_set, List.length_mapIdx, forEach_view, foldl_view]

theorem modelUpdate_view {k} (hk : k &&& 15446148 = k) (s) : (modelUpdate s).view k = s.view k := by
  refine view_le hk ?_
  unfold modelUpdate
  (repeat' split) <;> simp only [advanceTo_view, State.put_view, updAccr_view, raisePredict_view, view_upd, fixed_mk, fixed_eta, apply_ite (State.view _), ite_self, Nat.reduceAnd, Nat.reduceDiv, Nat.reduceMod, Nat.zero_ne_one, implies_true, false_implies, Nat.div_one, kvSorted_kvPut, List.length_modify, List.length_map, List.length_set, List.length_mapIdx]

theorem predictEnd_view {k} (hk : k &&& 15447036 = k) (a0 a1 s) : (predictEnd a0 a1 s).view k = s.view k := by
  refine view_le hk ?_
  unfold predictEnd
  simp only [advanceTo_view, updAccr_view, updGroup_view, view_upd, fixed_mk, fixed_eta, apply_ite (State.view _), ite_self,
      Nat.reduceAnd, Nat.reduceDiv, Nat.reduceMod, Nat.zero_ne_one, implies_true, false_implies, Nat.div_one, kvSorted_kvPut,
      List.length_modify, List.length_map, List.length_set, List.length_mapIdx]

theorem thmodelLost_view {k} (hk : k &&& 16758781 = k) (s) : (thmodelLost s).view k = s.view k := by
  refine view_le hk ?_
  unfold thmodelLost
  simp only [updAccr_view, view_upd, fixed_mk, fixed_eta, apply_ite (State.view _), ite_self, Nat.reduceAnd, Nat.reduceDiv,
      Nat.reduceMod, Nat.zero_ne_one, implies_true, false_implies, Nat.div_one, kvSorted_kvPut, List.length_modify,
      List.length_map, List.length_set, List.length_mapIdx]

theorem updTrip_view {k} (hk : k &&& 16760831 = k) (a0 a1 s) : (updTrip a0 a1 s).view k = s.view k := by
  refine view_le hk ?_
  unfold updTrip
  simp only [view_upd, fixed_mk, fixed_eta, apply_ite (State.view _), ite_self, Nat.reduceAnd, Nat.reduceDiv, Nat.reduceMod,
      Nat.zero_ne_one, implies_true, false_implies, Nat.div_one, kvSorted_kvPut, List.length_modify, List.length_map,
      List.length_set, List.length_mapIdx]

theorem hardTrip_view {k} (hk : k &&& 15446148 = k) (a0 s) : (hardTrip a0 s).view k = s.view k := by
  refine view_le hk ?_
  unfold hardTrip
  simp only [advanceTo_view, State.bump32_view, updTrip_view, enterAll_view, raiseFault_view, view_upd, fixed_mk, fixed_eta,
      apply_ite (State.view _), ite_self, Nat.reduceAnd, Nat.reduceDiv, Nat.reduceMod, Nat.zero_ne_one, implies_true,
      false_implies, Nat.div_one, kvSorted_kvPut, List.length_modify, List.length_map, List.length_set, List.length_mapIdx]

theorem rearmCross_view {k} (hk : k &&& 16760831 = k) (a0 a1 s) : (rearmCross a0 a1 s).view k = s.view k := by
  refine view_le hk ?_
  unfold rearmCross
  simp only [updTrip_view, view_upd, fixed_mk, fixed_eta, apply_ite (State.view _), ite_self, Nat.reduceAnd, Nat.reduceDiv,
      Nat.reduceMod, Nat.zero_ne_one, implies_true, false_implies, Nat.div_one, kvSorted_kvPut, List.length_modify,
      List.length_map, List.length_set, List.length_mapIdx]

theorem lfWrite_view {k} (hk : k &&& 16252925 = k) {a0 s t} (h : lfWrite a0 s = some t) : t.view k = s.view k := by
  refine view_le hk ?_
  unfold lfWrite at h
  (repeat' split at h) <;> simp only [Host.Outcome.next.injEq, Except.ok.injEq, Option.some.injEq, reduceCtorEq] at h <;> subst h <;> simp only [State.put_view, view_upd, fixed_mk, fixed_eta, apply_ite (State.view _), ite_self, Nat.reduceAnd, Nat.reduceDiv, Nat.reduceMod, Nat.zero_ne_one, implies_true, false_implies, Nat.div_one, kvSorted_kvPut, List.length_modify, List.length_map, List.length_set, List.length_mapIdx]

theorem lfWriteAll_view {k} (hk : k &&& 16252925 = k) {l s t} (h : lfWriteAll l s = some t) : t.view k = s.view k := by
  induction l generalizing s with
  | nil => simp only [lfWriteAll, Option.some.injEq] at h; rw [← h]
  | cons r l ih =>
    unfold lfWriteAll at h
    split at h
    · rename_i u hu; rw [ih h, lfWrite_view (view_trans hk (by decide)) hu]
    · cases h

theorem rearmWrite_view {k} (hk : k &&& 16760831 = k) {s t} (h : rearmWrite s = .ok t) : t.view k = s.view k := by
  refine view_le hk ?_
  unfold rearmWrite at h
  (repeat' split at h) <;> simp only [Host.Outcome.next.injEq, Except.ok.injEq, Option.some.injEq, reduceCtorEq] at h <;> subst h <;> simp only [view_upd, fixed_mk, fixed_eta, apply_ite (State.view _), ite_self, Nat.reduceAnd, Nat.reduceDiv, Nat.reduceMod, Nat.zero_ne_one, implies_true, false_implies, Nat.div_one, kvSorted_kvPut, List.length_modify, List.length_map, List.length_set, List.length_mapIdx]

theorem rearmRecords_view {k} (hk : k &&& 16252861 = k) {s t} (h : rearmRecords s = some t) : t.view k = s.view k := by
  refine view_le hk ?_
  have hp : ∀ (u : State) (p : Prot), p.ctxs.length = u.prot.ctxs.length → State.view 16252861 { u with prot := p } = u.view
      16252861 :=
    fun u p e => by simp only [view_upd, fixed_mk, fixed_eta, apply_ite (State.view _), ite_self, Nat.reduceAnd,
        Nat.reduceDiv, Nat.reduceMod, Nat.zero_ne_one, implies_true, false_implies, kvSorted_kvPut, List.length_modify,
        List.length_map, List.length_set, List.length_mapIdx, e]
  unfold rearmRecords at h
  dsimp only at h
  split at h
  · rw [← Option.some.inj h]
    exact (foldl_view (fun _ _ => retain_view (by decide) _ _) _ _).trans (hp s _ rfl)
  · split at h
    · rename_i u hu; exact (lfWriteAll_view (by decide) h).trans ((hp u _ rfl).trans (lfWriteAll_view (by decide) hu))
    · cases h

theorem restartStep2_view {k} (hk : k &&& 16777214 = k) (s) : (restartStep2 s).view k = s.view k := by
  refine view_le hk ?_
  unfold restartStep2
  simp only [view_upd, fixed_mk, fixed_eta, apply_ite (State.view _), ite_self, Nat.reduceAnd, Nat.reduceDiv, Nat.reduceMod,
      Nat.zero_ne_one, implies_true, false_implies, Nat.div_one, kvSorted_kvPut, List.length_modify, List.length_map,
      List.length_set, List.length_mapIdx]

theorem rearmed_view {k} (hk : k &&& 16757676 = k) (s) : (rearmed s).view k = s.view k := by
  refine view_le hk ?_
  unfold rearmed
  simp (disch := (intros; first | done | (simp only [releaseSafe_view, restartStep2_view, State.bump32_view, view_upd, fixed_mk, fixed_eta, apply_ite (State.view _), ite_self, Nat.reduceAnd, Nat.reduceDiv, Nat.reduceMod, Nat.zero_ne_one, implies_true, false_implies, Nat.div_one, kvSorted_kvPut, List.length_modify, List.length_map, List.length_set, List.length_mapIdx]; done) | ((repeat' split) <;> simp only [releaseSafe_view, restartStep2_view, State.bump32_view, view_upd, fixed_mk, fixed_eta, apply_ite (State.view _), ite_self, Nat.reduceAnd, Nat.reduceDiv, Nat.reduceMod, Nat.zero_ne_one, implies_true, false_implies, Nat.div_one, kvSorted_kvPut, List.length_modify, List.length_map, List.length_set, List.length_mapIdx]; done) | grind [view_upd, fixed_mk, fixed_eta, List.length_modify, releaseSafe_view, restartStep2_view, State.bump32_view])) only [releaseSafe_view, restartStep2_view, State.bump32_view, view_upd, fixed_mk, fixed_eta, apply_ite (State.view _), ite_self, Nat.reduceAnd, Nat.reduceDiv, Nat.reduceMod, Nat.zero_ne_one, implies_true, false_implies, Nat.div_one, kvSorted_kvPut, List.length_modify, List.length_map, List.length_set, List.length_mapIdx, forEach_view, foldl_view]

theorem rearmEnd_view {k} (hk : k &&& 16233388 = k) (ok s) : (rearmEnd ok s).2.view k = s.view k := by
  refine view_le hk ?_
  have hf : State.view 16233388 { s with therm := { s.therm with rearming := false } } = s.view 16233388 := by simp only
      [view_upd, fixed_mk, fixed_eta, apply_ite (State.view _), ite_self, Nat.reduceAnd, Nat.reduceDiv, Nat.reduceMod,
      Nat.zero_ne_one, implies_true, false_implies, kvSorted_kvPut, List.length_modify, List.length_map, List.length_set,
      List.length_mapIdx]
  unfold rearmEnd
  dsimp only
  split
  · generalize hx : rearmRecords s = x
    cases x with
    | none => exact hf
    | some t => exact (rearmed_view (by decide) t).trans (rearmRecords_view (by decide) hx)
  · exact hf

theorem thermWrite_view {k} (hk : k &&& 16758781 = k) {a0 a1 a2 a3 s t} (h : thermWrite a0 a1 a2 a3 s = .ok t) : t.view k =
    s.view k := by
  refine view_le hk ?_
  unfold thermWrite at h
  (repeat' split at h) <;> (try replace h := needRange_ok h) <;> (try replace h := needState_ok h) <;> (try replace h := needRange_ok h) <;> (repeat' split at h) <;> first | exact gaugeCalStore_view (by decide) h | exact gaugeCommand_view (by decide) h | exact rearmWrite_view (by decide) h | (simp only [Host.Outcome.next.injEq, Except.ok.injEq, Option.some.injEq, reduceCtorEq] at h; (try subst h); (repeat' split); all_goals simp only [storeVal_view, relayClear_view, view_upd, fixed_mk, fixed_eta, apply_ite (State.view _), ite_self, Nat.reduceAnd, Nat.reduceDiv, Nat.reduceMod, Nat.zero_ne_one, implies_true, false_implies, Nat.div_one, kvSorted_kvPut, List.length_modify, List.length_map, List.length_set, List.length_mapIdx])

end Sys2Proof.Machine
end

