-- ==== Sys2Proof/Laws/ViewUnits.lean ====
section
/-! SUPPORT. The frames of the functions of membership, recorder, management, the Clamp, DMA and the Dowel: one lemma per function says which units of the state
it keeps (a mask of `State.view`), cited by the lemmas of its callers. -/

namespace Sys2Proof.Machine

open Sys2Proof

set_option linter.all false

theorem rootConflict_view {k} (hk : k &&& 16515068 = k) (s) : (rootConflict s).view k = s.view k := by
  refine view_le hk ?_
  unfold rootConflict
  simp only [raise_view, view_upd, fixed_mk, fixed_eta, apply_ite (State.view _), ite_self, Nat.reduceAnd, Nat.reduceDiv,
      Nat.reduceMod, Nat.zero_ne_one, implies_true, false_implies, Nat.div_one, kvSorted_kvPut, List.length_modify,
      List.length_map, List.length_set, List.length_mapIdx]

theorem sendEnum_view {k} (hk : k &&& 15728631 = k) (s) : (sendEnum s).view k = s.view k := by
  refine view_le hk ?_
  unfold sendEnum
  simp only [sendAll_view, view_upd, fixed_mk, fixed_eta, apply_ite (State.view _), ite_self, Nat.reduceAnd, Nat.reduceDiv,
      Nat.reduceMod, Nat.zero_ne_one, implies_true, false_implies, Nat.div_one, kvSorted_kvPut, List.length_modify,
      List.length_map, List.length_set, List.length_mapIdx]

theorem takeRoot_view {k} (hk : k &&& 15728631 = k) (s) : (takeRoot s).view k = s.view k := by
  refine view_le hk ?_
  unfold takeRoot
  simp only [sendEnum_view, view_upd, fixed_mk, fixed_eta, apply_ite (State.view _), ite_self, Nat.reduceAnd, Nat.reduceDiv,
      Nat.reduceMod, Nat.zero_ne_one, implies_true, false_implies, Nat.div_one, kvSorted_kvPut, List.length_modify,
      List.length_map, List.length_set, List.length_mapIdx]

theorem takeToken_view {k} (hk : k &&& 16515060 = k) (a0 s) : (takeToken a0 s).view k = s.view k := by
  refine view_le hk ?_
  unfold takeToken
  simp only [isolate_view, raise_view, view_upd, fixed_mk, fixed_eta, apply_ite (State.view _), ite_self, Nat.reduceAnd,
      Nat.reduceDiv, Nat.reduceMod, Nat.zero_ne_one, implies_true, false_implies, Nat.div_one, kvSorted_kvPut,
      List.length_modify, List.length_map, List.length_set, List.length_mapIdx]

theorem forwardToken_view {k} (hk : k &&& 15728631 = k) (s) : (forwardToken s).view k = s.view k := by
  refine view_le hk ?_
  unfold forwardToken
  simp only [sendEnum_view, sendAll_view, view_upd, fixed_mk, fixed_eta, apply_ite (State.view _), ite_self, Nat.reduceAnd,
      Nat.reduceDiv, Nat.reduceMod, Nat.zero_ne_one, implies_true, false_implies, Nat.div_one, kvSorted_kvPut,
      List.length_modify, List.length_map, List.length_set, List.length_mapIdx]

theorem reportToken_view {k} (hk : k &&& 15728631 = k) (s) : (reportToken s).view k = s.view k := by
  refine view_le hk ?_
  unfold reportToken
  simp only [sendAll_view, view_upd, fixed_mk, fixed_eta, apply_ite (State.view _), ite_self, Nat.reduceAnd, Nat.reduceDiv,
      Nat.reduceMod, Nat.zero_ne_one, implies_true, false_implies, Nat.div_one, kvSorted_kvPut, List.length_modify,
      List.length_map, List.length_set, List.length_mapIdx]

theorem rejoinTry_view {k} (hk : k &&& 15728631 = k) (s) : (rejoinTry s).view k = s.view k := by
  refine view_le hk ?_
  unfold rejoinTry
  simp only [sendOn_view, view_upd, fixed_mk, fixed_eta, apply_ite (State.view _), ite_self, Nat.reduceAnd, Nat.reduceDiv,
      Nat.reduceMod, Nat.zero_ne_one, implies_true, false_implies, Nat.div_one, kvSorted_kvPut, List.length_modify,
      List.length_map, List.length_set, List.length_mapIdx]

theorem queueRecs_view {k} (hk : k &&& 16777207 = k) {a0 s t} (h : queueRecs a0 s = some t) : t.view k = s.view k := by
  refine view_le hk ?_
  unfold queueRecs at h
  grind [view_upd, fixed_mk, fixed_eta, List.length_modify]

theorem queueOwn_view {k} (hk : k &&& 16777207 = k) (a0 s) : (queueOwn a0 s).view k = s.view k := by
  refine view_le hk ?_
  unfold queueOwn
  simp only [view_upd, fixed_mk, fixed_eta, apply_ite (State.view _), ite_self, Nat.reduceAnd, Nat.reduceDiv, Nat.reduceMod,
      Nat.zero_ne_one, implies_true, false_implies, Nat.div_one, kvSorted_kvPut, List.length_modify, List.length_map,
      List.length_set, List.length_mapIdx]

theorem prepare_view {k} (hk : k &&& 16777205 = k) (a0 a1 s) : (prepare a0 a1 s).2.view k = s.view k := by
  refine view_le hk ?_
  unfold prepare
  grind [view_upd, fixed_mk, fixed_eta, List.length_modify, State.bump32_view]

theorem hearCommit_view {k} (hk : k &&& 16777205 = k) (a0 s) : (hearCommit a0 s).view k = s.view k := by
  refine view_le hk ?_
  unfold hearCommit
  simp only [State.put_view, view_upd, fixed_mk, fixed_eta, apply_ite (State.view _), ite_self, Nat.reduceAnd,
      Nat.reduceDiv, Nat.reduceMod, Nat.zero_ne_one, implies_true, false_implies, Nat.div_one, kvSorted_kvPut,
      List.length_modify, List.length_map, List.length_set, List.length_mapIdx]

theorem hearAbort_view {k} (hk : k &&& 16777205 = k) (a0 s) : (hearAbort a0 s).view k = s.view k := by
  refine view_le hk ?_
  unfold hearAbort
  simp only [State.put_view, view_upd, fixed_mk, fixed_eta, apply_ite (State.view _), ite_self, Nat.reduceAnd,
      Nat.reduceDiv, Nat.reduceMod, Nat.zero_ne_one, implies_true, false_implies, Nat.div_one, kvSorted_kvPut,
      List.length_modify, List.length_map, List.length_set, List.length_mapIdx]

theorem noteDecision_view {k} (hk : k &&& 16777207 = k) (a0 a1 s) : (noteDecision a0 a1 s).view k = s.view k := by
  refine view_le hk ?_
  unfold noteDecision
  simp only [view_upd, fixed_mk, fixed_eta, apply_ite (State.view _), ite_self, Nat.reduceAnd, Nat.reduceDiv, Nat.reduceMod,
      Nat.zero_ne_one, implies_true, false_implies, Nat.div_one, kvSorted_kvPut, List.length_modify, List.length_map,
      List.length_set, List.length_mapIdx]

theorem commitTxn_view {k} (hk : k &&& 15728629 = k) (a0 s) : (commitTxn a0 s).view k = s.view k := by
  refine view_le hk ?_
  unfold commitTxn
  simp only [hearCommit_view, broadcast_view, noteDecision_view, view_upd, fixed_mk, fixed_eta, apply_ite (State.view _),
      ite_self, Nat.reduceAnd, Nat.reduceDiv, Nat.reduceMod, Nat.zero_ne_one, implies_true, false_implies, Nat.div_one,
      kvSorted_kvPut, List.length_modify, List.length_map, List.length_set, List.length_mapIdx]

theorem abortTxn_view {k} (hk : k &&& 15728629 = k) (a0 s) : (abortTxn a0 s).view k = s.view k := by
  refine view_le hk ?_
  unfold abortTxn
  simp only [hearAbort_view, State.put_view, broadcast_view, noteDecision_view, view_upd, fixed_mk, fixed_eta, apply_ite
      (State.view _), ite_self, Nat.reduceAnd, Nat.reduceDiv, Nat.reduceMod, Nat.zero_ne_one, implies_true, false_implies,
      Nat.div_one, kvSorted_kvPut, List.length_modify, List.length_map, List.length_set, List.length_mapIdx]

theorem abortRetry_view {k} (hk : k &&& 15728629 = k) (a0 s) : (abortRetry a0 s).view k = s.view k := by
  refine view_le hk ?_
  unfold abortRetry
  simp only [abortTxn_view, view_upd, fixed_mk, fixed_eta, apply_ite (State.view _), ite_self, Nat.reduceAnd, Nat.reduceDiv,
      Nat.reduceMod, Nat.zero_ne_one, implies_true, false_implies, Nat.div_one, kvSorted_kvPut, List.length_modify,
      List.length_map, List.length_set, List.length_mapIdx]

theorem takeVote_view {k} (hk : k &&& 15728629 = k) (a0 a1 s) : (takeVote a0 a1 s).view k = s.view k := by
  refine view_le hk ?_
  unfold takeVote
  (repeat' split) <;> simp only [abortRetry_view, commitTxn_view, view_upd, fixed_mk, fixed_eta, apply_ite (State.view _), ite_self, Nat.reduceAnd, Nat.reduceDiv, Nat.reduceMod, Nat.zero_ne_one, implies_true, false_implies, Nat.div_one, kvSorted_kvPut, List.length_modify, List.length_map, List.length_set, List.length_mapIdx]

theorem openTxn_view {k} (hk : k &&& 15728629 = k) (a0 s) : (openTxn a0 s).view k = s.view k := by
  refine view_le hk ?_
  unfold openTxn
  simp only [broadcast_view, prepare_view, takeVote_view, view_upd, fixed_mk, fixed_eta, apply_ite (State.view _), ite_self,
      Nat.reduceAnd, Nat.reduceDiv, Nat.reduceMod, Nat.zero_ne_one, implies_true, false_implies, Nat.div_one, kvSorted_kvPut,
      List.length_modify, List.length_map, List.length_set, List.length_mapIdx]

theorem openNext_view {k} (hk : k &&& 15728629 = k) (s) : (openNext s).view k = s.view k := by
  refine view_le hk ?_
  unfold openNext
  simp only [openTxn_view, view_upd, fixed_mk, fixed_eta, apply_ite (State.view _), ite_self, Nat.reduceAnd, Nat.reduceDiv,
      Nat.reduceMod, Nat.zero_ne_one, implies_true, false_implies, Nat.div_one, kvSorted_kvPut, List.length_modify,
      List.length_map, List.length_set, List.length_mapIdx]

theorem retryTxn_view {k} (hk : k &&& 15728629 = k) (s) : (retryTxn s).view k = s.view k := by
  refine view_le hk ?_
  unfold retryTxn
  simp only [openTxn_view, view_upd, fixed_mk, fixed_eta, apply_ite (State.view _), ite_self, Nat.reduceAnd, Nat.reduceDiv,
      Nat.reduceMod, Nat.zero_ne_one, implies_true, false_implies, Nat.div_one, kvSorted_kvPut, List.length_modify,
      List.length_map, List.length_set, List.length_mapIdx]

theorem State.setBudget_view {k} (hk : k &&& 16775167 = k) (s a1 a2 a3) : (State.setBudget s a1 a2 a3).view k = s.view k := by
  refine view_le hk ?_
  unfold State.setBudget
  simp only [view_upd, fixed_mk, fixed_eta, apply_ite (State.view _), ite_self, Nat.reduceAnd, Nat.reduceDiv, Nat.reduceMod,
      Nat.zero_ne_one, implies_true, false_implies, Nat.div_one, kvSorted_kvPut, List.length_modify, List.length_map,
      List.length_set, List.length_mapIdx]

theorem applyRec_view {k} (hk : k &&& 16775165 = k) (a0 s) : (applyRec a0 s).view k = s.view k := by
  refine view_le hk ?_
  unfold applyRec
  simp (disch := (intros; first | done | (simp only [State.setBudget_view, State.put_view, view_upd, fixed_mk, fixed_eta, apply_ite (State.view _), ite_self, Nat.reduceAnd, Nat.reduceDiv, Nat.reduceMod, Nat.zero_ne_one, implies_true, false_implies, Nat.div_one, kvSorted_kvPut, List.length_modify, List.length_map, List.length_set, List.length_mapIdx]; done) | ((repeat' split) <;> simp only [State.setBudget_view, State.put_view, view_upd, fixed_mk, fixed_eta, apply_ite (State.view _), ite_self, Nat.reduceAnd, Nat.reduceDiv, Nat.reduceMod, Nat.zero_ne_one, implies_true, false_implies, Nat.div_one, kvSorted_kvPut, List.length_modify, List.length_map, List.length_set, List.length_mapIdx]; done) | grind [view_upd, fixed_mk, fixed_eta, List.length_modify, State.setBudget_view, State.put_view])) only [State.setBudget_view, State.put_view, view_upd, fixed_mk, fixed_eta, apply_ite (State.view _), ite_self, Nat.reduceAnd, Nat.reduceDiv, Nat.reduceMod, Nat.zero_ne_one, implies_true, false_implies, Nat.div_one, kvSorted_kvPut, List.length_modify, List.length_map, List.length_set, List.length_mapIdx, forEach_view, foldl_view]

theorem applyTxn_view {k} (hk : k &&& 16774133 = k) (a0 s) : (applyTxn a0 s).view k = s.view k := by
  refine view_le hk ?_
  unfold applyTxn
  simp (disch := (intros; first | done | (simp only [applyRec_view, updAccr_view, setTarget_view, view_upd, fixed_mk, fixed_eta, apply_ite (State.view _), ite_self, Nat.reduceAnd, Nat.reduceDiv, Nat.reduceMod, Nat.zero_ne_one, implies_true, false_implies, Nat.div_one, kvSorted_kvPut, List.length_modify, List.length_map, List.length_set, List.length_mapIdx]; done) | ((repeat' split) <;> simp only [applyRec_view, updAccr_view, setTarget_view, view_upd, fixed_mk, fixed_eta, apply_ite (State.view _), ite_self, Nat.reduceAnd, Nat.reduceDiv, Nat.reduceMod, Nat.zero_ne_one, implies_true, false_implies, Nat.div_one, kvSorted_kvPut, List.length_modify, List.length_map, List.length_set, List.length_mapIdx]; done) | grind [view_upd, fixed_mk, fixed_eta, List.length_modify, applyRec_view, updAccr_view, setTarget_view])) only [applyRec_view, updAccr_view, setTarget_view, view_upd, fixed_mk, fixed_eta, apply_ite (State.view _), ite_self, Nat.reduceAnd, Nat.reduceDiv, Nat.reduceMod, Nat.zero_ne_one, implies_true, false_implies, Nat.div_one, kvSorted_kvPut, List.length_modify, List.length_map, List.length_set, List.length_mapIdx, forEach_view, foldl_view]

theorem budAsk_view {k} (hk : k &&& 15728631 = k) {a0 s t} (h : budAsk a0 s = some t) : t.view k = s.view k := by
  refine view_le hk ?_
  unfold budAsk at h
  (repeat' split at h) <;> (try replace h := needRange_ok h) <;> (try replace h := needState_ok h) <;> (try replace h := needRange_ok h) <;> (repeat' split at h) <;> first | exact queueRecs_view (by decide) h | (simp only [Host.Outcome.next.injEq, Except.ok.injEq, Option.some.injEq, reduceCtorEq] at h; (try subst h); (repeat' split); all_goals simp only [sendTo_view, view_upd, fixed_mk, fixed_eta, apply_ite (State.view _), ite_self, Nat.reduceAnd, Nat.reduceDiv, Nat.reduceMod, Nat.zero_ne_one, implies_true, false_implies, Nat.div_one, kvSorted_kvPut, List.length_modify, List.length_map, List.length_set, List.length_mapIdx])

theorem moveLost_view {k} (hk : k &&& 16777207 = k) (a0 s) : (moveLost a0 s).view k = s.view k := by
  refine view_le hk ?_
  unfold moveLost
  simp only [view_upd, fixed_mk, fixed_eta, apply_ite (State.view _), ite_self, Nat.reduceAnd, Nat.reduceDiv, Nat.reduceMod,
      Nat.zero_ne_one, implies_true, false_implies, Nat.div_one, kvSorted_kvPut, List.length_modify, List.length_map,
      List.length_set, List.length_mapIdx]

theorem memberLost_view {k} (hk : k &&& 15446148 = k) (a0 a1 s) : (memberLost a0 a1 s).view k = s.view k := by
  refine view_le hk ?_
  unfold memberLost
  simp (disch := (intros; first | done | (simp only [assertIrq_view, raise_view, moveLost_view, noteLost_view, relayLost_view, view_upd, fixed_mk, fixed_eta, apply_ite (State.view _), ite_self, Nat.reduceAnd, Nat.reduceDiv, Nat.reduceMod, Nat.zero_ne_one, implies_true, false_implies, Nat.div_one, kvSorted_kvPut, List.length_modify, List.length_map, List.length_set, List.length_mapIdx]; done) | ((repeat' split) <;> simp only [assertIrq_view, raise_view, moveLost_view, noteLost_view, relayLost_view, view_upd, fixed_mk, fixed_eta, apply_ite (State.view _), ite_self, Nat.reduceAnd, Nat.reduceDiv, Nat.reduceMod, Nat.zero_ne_one, implies_true, false_implies, Nat.div_one, kvSorted_kvPut, List.length_modify, List.length_map, List.length_set, List.length_mapIdx]; done) | grind [view_upd, fixed_mk, fixed_eta, List.length_modify, assertIrq_view, raise_view, moveLost_view, noteLost_view, relayLost_view])) only [assertIrq_view, raise_view, moveLost_view, noteLost_view, relayLost_view, view_upd, fixed_mk, fixed_eta, apply_ite (State.view _), ite_self, Nat.reduceAnd, Nat.reduceDiv, Nat.reduceMod, Nat.zero_ne_one, implies_true, false_implies, Nat.div_one, kvSorted_kvPut, List.length_modify, List.length_map, List.length_set, List.length_mapIdx, forEach_view, foldl_view]

theorem holdOut_view {k} (hk : k &&& 16515060 = k) (a0 s) : (holdOut a0 s).view k = s.view k := by
  refine view_le hk ?_
  unfold holdOut
  simp only [raise_view, view_upd, fixed_mk, fixed_eta, apply_ite (State.view _), ite_self, Nat.reduceAnd, Nat.reduceDiv,
      Nat.reduceMod, Nat.zero_ne_one, implies_true, false_implies, Nat.div_one, kvSorted_kvPut, List.length_modify,
      List.length_map, List.length_set, List.length_mapIdx]

theorem rootLost_view {k} (hk : k &&& 7057540 = k) (a0 a1 s) : (rootLost a0 a1 s).view k = s.view k := by
  refine view_le hk ?_
  unfold rootLost
  simp (disch := (intros; first | done | (simp only [broadcast_view, memberLost_view, holdOut_view, abortTxn_view, view_upd, fixed_mk, fixed_eta, apply_ite (State.view _), ite_self, Nat.reduceAnd, Nat.reduceDiv, Nat.reduceMod, Nat.zero_ne_one, implies_true, false_implies, Nat.div_one, kvSorted_kvPut, List.length_modify, List.length_map, List.length_set, List.length_mapIdx]; done) | ((repeat' split) <;> simp only [broadcast_view, memberLost_view, holdOut_view, abortTxn_view, view_upd, fixed_mk, fixed_eta, apply_ite (State.view _), ite_self, Nat.reduceAnd, Nat.reduceDiv, Nat.reduceMod, Nat.zero_ne_one, implies_true, false_implies, Nat.div_one, kvSorted_kvPut, List.length_modify, List.length_map, List.length_set, List.length_mapIdx]; done) | grind [view_upd, fixed_mk, fixed_eta, List.length_modify, broadcast_view, memberLost_view, holdOut_view, abortTxn_view])) only [broadcast_view, memberLost_view, holdOut_view, abortTxn_view, view_upd, fixed_mk, fixed_eta, apply_ite (State.view _), ite_self, Nat.reduceAnd, Nat.reduceDiv, Nat.reduceMod, Nat.zero_ne_one, implies_true, false_implies, Nat.div_one, kvSorted_kvPut, List.length_modify, List.length_map, List.length_set, List.length_mapIdx, forEach_view, foldl_view] <;> (repeat' split) <;> simp (disch := (intros; first | done | (simp only [broadcast_view, memberLost_view, holdOut_view, abortTxn_view, view_upd, fixed_mk, fixed_eta, apply_ite (State.view _), ite_self, Nat.reduceAnd, Nat.reduceDiv, Nat.reduceMod, Nat.zero_ne_one, implies_true, false_implies, Nat.div_one, kvSorted_kvPut, List.length_modify, List.length_map, List.length_set, List.length_mapIdx]; done) | ((repeat' split) <;> simp only [broadcast_view, memberLost_view, holdOut_view, abortTxn_view, view_upd, fixed_mk, fixed_eta, apply_ite (State.view _), ite_self, Nat.reduceAnd, Nat.reduceDiv, Nat.reduceMod, Nat.zero_ne_one, implies_true, false_implies, Nat.div_one, kvSorted_kvPut, List.length_modify, List.length_map, List.length_set, List.length_mapIdx]; done) | grind [view_upd, fixed_mk, fixed_eta, List.length_modify, broadcast_view, memberLost_view, holdOut_view, abortTxn_view])) only [broadcast_view, memberLost_view, holdOut_view, abortTxn_view, view_upd, fixed_mk, fixed_eta, apply_ite (State.view _), ite_self, Nat.reduceAnd, Nat.reduceDiv, Nat.reduceMod, Nat.zero_ne_one, implies_true, false_implies, Nat.div_one, kvSorted_kvPut, List.length_modify, List.length_map, List.length_set, List.length_mapIdx, forEach_view, foldl_view]

theorem hearLost_view {k} (hk : k &&& 7057540 = k) (a0 a1 s) : (hearLost a0 a1 s).view k = s.view k := by
  refine view_le hk ?_
  unfold hearLost
  simp only [rootLost_view, isolate_view, memberLost_view, view_upd, fixed_mk, fixed_eta, apply_ite (State.view _),
      ite_self, Nat.reduceAnd, Nat.reduceDiv, Nat.reduceMod, Nat.zero_ne_one, implies_true, false_implies, Nat.div_one,
      kvSorted_kvPut, List.length_modify, List.length_map, List.length_set, List.length_mapIdx]

theorem lossAction_view {k} (hk : k &&& 7057540 = k) (a0 s) : (lossAction a0 s).view k = s.view k := by
  refine view_le hk ?_
  unfold lossAction
  (repeat' split) <;> simp only [rootLost_view, sendTo_view, isolate_view, sendOn_view, view_upd, fixed_mk, fixed_eta, apply_ite (State.view _), ite_self, Nat.reduceAnd, Nat.reduceDiv, Nat.reduceMod, Nat.zero_ne_one, implies_true, false_implies, Nat.div_one, kvSorted_kvPut, List.length_modify, List.length_map, List.length_set, List.length_mapIdx]

theorem linkDown_view {k} (hk : k &&& 7057540 = k) (a0 s) : (linkDown a0 s).view k = s.view k := by
  refine view_le hk ?_
  unfold linkDown
  simp only [lossAction_view, dropLink_view, view_upd, fixed_mk, fixed_eta, apply_ite (State.view _), ite_self,
      Nat.reduceAnd, Nat.reduceDiv, Nat.reduceMod, Nat.zero_ne_one, implies_true, false_implies, Nat.div_one, kvSorted_kvPut,
      List.length_modify, List.length_map, List.length_set, List.length_mapIdx]

theorem recompute4_view {k} (hk : k &&& 16777207 = k) (s) : (recompute4 s).view k = s.view k := by
  refine view_le hk ?_
  unfold recompute4
  simp only [queueOwn_view, view_upd, fixed_mk, fixed_eta, apply_ite (State.view _), ite_self, Nat.reduceAnd, Nat.reduceDiv,
      Nat.reduceMod, Nat.zero_ne_one, implies_true, false_implies, Nat.div_one, kvSorted_kvPut, List.length_modify,
      List.length_map, List.length_set, List.length_mapIdx]

theorem rootTelem_view {k} (hk : k &&& 16775159 = k) (a0 a1 s) : (rootTelem a0 a1 s).view k = s.view k := by
  refine view_le hk ?_
  unfold rootTelem
  simp only [recompute4_view, view_upd, fixed_mk, fixed_eta, apply_ite (State.view _), ite_self, Nat.reduceAnd,
      Nat.reduceDiv, Nat.reduceMod, Nat.zero_ne_one, implies_true, false_implies, Nat.div_one, kvSorted_kvPut,
      List.length_modify, List.length_map, List.length_set, List.length_mapIdx]

theorem telemSend_view {k} (hk : k &&& 15463412 = k) (s) : (telemSend s).view k = s.view k := by
  refine view_le hk ?_
  unfold telemSend
  simp only [advanceTo_view, broadcast_view, rootTelem_view, view_upd, fixed_mk, fixed_eta, apply_ite (State.view _),
      ite_self, Nat.reduceAnd, Nat.reduceDiv, Nat.reduceMod, Nat.zero_ne_one, implies_true, false_implies, Nat.div_one,
      kvSorted_kvPut, List.length_modify, List.length_map, List.length_set, List.length_mapIdx]

theorem telemTake_view {k} (hk : k &&& 16758773 = k) (a0 a1 s) : (telemTake a0 a1 s).view k = s.view k := by
  refine view_le hk ?_
  unfold telemTake
  simp only [State.bump32_view, relayTake_view, rootTelem_view, view_upd, fixed_mk, fixed_eta, apply_ite (State.view _),
      ite_self, Nat.reduceAnd, Nat.reduceDiv, Nat.reduceMod, Nat.zero_ne_one, implies_true, false_implies, Nat.div_one,
      kvSorted_kvPut, List.length_modify, List.length_map, List.length_set, List.length_mapIdx]

theorem assumeRoot_view {k} (hk : k &&& 15458292 = k) (s) : (assumeRoot s).view k = s.view k := by
  refine view_le hk ?_
  unfold assumeRoot
  simp only [takeRoot_view, raise_view, view_upd, fixed_mk, fixed_eta, apply_ite (State.view _), ite_self, Nat.reduceAnd,
      Nat.reduceDiv, Nat.reduceMod, Nat.zero_ne_one, implies_true, false_implies, Nat.div_one, kvSorted_kvPut,
      List.length_modify, List.length_map, List.length_set, List.length_mapIdx]

theorem chainWrite_view {k} (hk : k &&& 15458292 = k) {a0 a1 a2 a3 s t} (h : chainWrite a0 a1 a2 a3 s = .ok t) : t.view k =
    s.view k := by
  refine view_le hk ?_
  unfold chainWrite at h
  (repeat' split at h) <;> (try replace h := needRange_ok h) <;> (try replace h := needState_ok h) <;> (try replace h := needRange_ok h) <;> (repeat' split at h) <;> first | (simp only [Host.Outcome.next.injEq, Except.ok.injEq, Option.some.injEq, reduceCtorEq] at h; (try subst h); (repeat' split); all_goals simp only [assumeRoot_view, storeVal_view, view_upd, fixed_mk, fixed_eta, apply_ite (State.view _), ite_self, Nat.reduceAnd, Nat.reduceDiv, Nat.reduceMod, Nat.zero_ne_one, implies_true, false_implies, Nat.div_one, kvSorted_kvPut, List.length_modify, List.length_map, List.length_set, List.length_mapIdx])

theorem alertPin_view {k} (hk : k &&& 14680063 = k) (s) : (alertPin s).view k = s.view k := by
  refine view_le hk ?_
  unfold alertPin
  simp only [view_upd, fixed_mk, fixed_eta, apply_ite (State.view _), ite_self, Nat.reduceAnd, Nat.reduceDiv, Nat.reduceMod,
      Nat.zero_ne_one, implies_true, false_implies, Nat.div_one, kvSorted_kvPut, List.length_modify, List.length_map,
      List.length_set, List.length_mapIdx]

theorem recordAlert_view {k} (hk : k &&& 14680063 = k) (a0 s) : (recordAlert a0 s).view k = s.view k := by
  refine view_le hk ?_
  unfold recordAlert
  simp only [alertPin_view, view_upd, fixed_mk, fixed_eta, apply_ite (State.view _), ite_self, Nat.reduceAnd, Nat.reduceDiv,
      Nat.reduceMod, Nat.zero_ne_one, implies_true, false_implies, Nat.div_one, kvSorted_kvPut, List.length_modify,
      List.length_map, List.length_set, List.length_mapIdx]

theorem nvQueue_view {k} (hk : k &&& 16515069 = k) (a0 s) : (nvQueue a0 s).view k = s.view k := by
  refine view_le hk ?_
  unfold nvQueue
  simp only [setRecFlag_view, State.bump32_view, view_upd, fixed_mk, fixed_eta, apply_ite (State.view _), ite_self,
      Nat.reduceAnd, Nat.reduceDiv, Nat.reduceMod, Nat.zero_ne_one, implies_true, false_implies, Nat.div_one, kvSorted_kvPut,
      List.length_modify, List.length_map, List.length_set, List.length_mapIdx]

theorem recCount_view {k} (hk : k &&& 15728637 = k) (a0 s) : (recCount a0 s).view k = s.view k := by
  refine view_le hk ?_
  unfold recCount
  simp only [State.count_view, State.add64_view, view_upd, fixed_mk, fixed_eta, apply_ite (State.view _), ite_self,
      Nat.reduceAnd, Nat.reduceDiv, Nat.reduceMod, Nat.zero_ne_one, implies_true, false_implies, Nat.div_one, kvSorted_kvPut,
      List.length_modify, List.length_map, List.length_set, List.length_mapIdx]

theorem ringWrite_view {k} (hk : k &&& 13369341 = k) (a0 s) : (ringWrite a0 s).view k = s.view k := by
  refine view_le hk ?_
  unfold ringWrite
  simp only [nvQueue_view, recCount_view, recordAlert_view, view_upd, fixed_mk, fixed_eta, apply_ite (State.view _),
      ite_self, Nat.reduceAnd, Nat.reduceDiv, Nat.reduceMod, Nat.zero_ne_one, implies_true, false_implies, Nat.div_one,
      kvSorted_kvPut, List.length_modify, List.length_map, List.length_set, List.length_mapIdx]

theorem reportInput_view {k} (hk : k &&& 16515068 = k) (s) : (reportInput s).view k = s.view k := by
  refine view_le hk ?_
  unfold reportInput
  simp only [raise_view, view_upd, fixed_mk, fixed_eta, apply_ite (State.view _), ite_self, Nat.reduceAnd, Nat.reduceDiv,
      Nat.reduceMod, Nat.zero_ne_one, implies_true, false_implies, Nat.div_one, kvSorted_kvPut, List.length_modify,
      List.length_map, List.length_set, List.length_mapIdx]

theorem reportNv_view {k} (hk : k &&& 16515068 = k) (s) : (reportNv s).view k = s.view k := by
  refine view_le hk ?_
  unfold reportNv
  simp only [raise_view, view_upd, fixed_mk, fixed_eta, apply_ite (State.view _), ite_self, Nat.reduceAnd, Nat.reduceDiv,
      Nat.reduceMod, Nat.zero_ne_one, implies_true, false_implies, Nat.div_one, kvSorted_kvPut, List.length_modify,
      List.length_map, List.length_set, List.length_mapIdx]

theorem recorderStart_view {k} (hk : k &&& 13369340 = k) (s) : (recorderStart s).view k = s.view k := by
  refine view_le hk ?_
  unfold recorderStart
  simp (disch := (intros; first | done | (simp only [ringWrite_view, view_upd, fixed_mk, fixed_eta, apply_ite (State.view _), ite_self, Nat.reduceAnd, Nat.reduceDiv, Nat.reduceMod, Nat.zero_ne_one, implies_true, false_implies, Nat.div_one, kvSorted_kvPut, List.length_modify, List.length_map, List.length_set, List.length_mapIdx]; done) | ((repeat' split) <;> simp only [ringWrite_view, view_upd, fixed_mk, fixed_eta, apply_ite (State.view _), ite_self, Nat.reduceAnd, Nat.reduceDiv, Nat.reduceMod, Nat.zero_ne_one, implies_true, false_implies, Nat.div_one, kvSorted_kvPut, List.length_modify, List.length_map, List.length_set, List.length_mapIdx]; done) | grind [view_upd, fixed_mk, fixed_eta, List.length_modify, ringWrite_view])) only [ringWrite_view, view_upd, fixed_mk, fixed_eta, apply_ite (State.view _), ite_self, Nat.reduceAnd, Nat.reduceDiv, Nat.reduceMod, Nat.zero_ne_one, implies_true, false_implies, Nat.div_one, kvSorted_kvPut, List.length_modify, List.length_map, List.length_set, List.length_mapIdx, forEach_view, foldl_view]

theorem flashBegin_view {k} (hk : k &&& 16252927 = k) (a0 s) : (flashBegin a0 s).view k = s.view k := by
  refine view_le hk ?_
  unfold flashBegin
  simp only [view_upd, fixed_mk, fixed_eta, apply_ite (State.view _), ite_self, Nat.reduceAnd, Nat.reduceDiv, Nat.reduceMod,
      Nat.zero_ne_one, implies_true, false_implies, Nat.div_one, kvSorted_kvPut, List.length_modify, List.length_map,
      List.length_set, List.length_mapIdx]

theorem doCommission_view {k} (hk : k &&& 15990780 = k) (s) : (doCommission s).view k = s.view k := by
  refine view_le hk ?_
  unfold doCommission
  simp only [raise_view, hdrAppend_view, view_upd, fixed_mk, fixed_eta, apply_ite (State.view _), ite_self, Nat.reduceAnd,
      Nat.reduceDiv, Nat.reduceMod, Nat.zero_ne_one, implies_true, false_implies, Nat.div_one, kvSorted_kvPut,
      List.length_modify, List.length_map, List.length_set, List.length_mapIdx]

theorem flashNext_view {k} (hk : k &&& 15990780 = k) (s) : (flashNext s).view k = s.view k := by
  refine view_le hk ?_
  unfold flashNext
  simp only [doCommission_view, flashBegin_view, view_upd, fixed_mk, fixed_eta, apply_ite (State.view _), ite_self,
      Nat.reduceAnd, Nat.reduceDiv, Nat.reduceMod, Nat.zero_ne_one, implies_true, false_implies, Nat.div_one, kvSorted_kvPut,
      List.length_modify, List.length_map, List.length_set, List.length_mapIdx]

theorem nvDone_view {k} (hk : k &&& 15990780 = k) (s) : (nvDone s).view k = s.view k := by
  refine view_le hk ?_
  unfold nvDone
  simp only [flashNext_view, reportNv_view, view_upd, fixed_mk, fixed_eta, apply_ite (State.view _), ite_self,
      Nat.reduceAnd, Nat.reduceDiv, Nat.reduceMod, Nat.zero_ne_one, implies_true, false_implies, Nat.div_one, kvSorted_kvPut,
      List.length_modify, List.length_map, List.length_set, List.length_mapIdx]

theorem circPut_view {k} (hk : k &&& 16252927 = k) (a0 s) : (circPut a0 s).view k = s.view k := by
  refine view_le hk ?_
  unfold circPut
  simp only [view_upd, fixed_mk, fixed_eta, apply_ite (State.view _), ite_self, Nat.reduceAnd, Nat.reduceDiv, Nat.reduceMod,
      Nat.zero_ne_one, implies_true, false_implies, Nat.div_one, kvSorted_kvPut, List.length_modify, List.length_map,
      List.length_set, List.length_mapIdx]

theorem fixedPut_view {k} (hk : k &&& 15990780 = k) (a0 s) : (fixedPut a0 s).view k = s.view k := by
  refine view_le hk ?_
  unfold fixedPut
  simp only [raise_view, view_upd, fixed_mk, fixed_eta, apply_ite (State.view _), ite_self, Nat.reduceAnd, Nat.reduceDiv,
      Nat.reduceMod, Nat.zero_ne_one, implies_true, false_implies, Nat.div_one, kvSorted_kvPut, List.length_modify,
      List.length_map, List.length_set, List.length_mapIdx]

theorem recordStored_view {k} (hk : k &&& 15990780 = k) (a0 a1 s) : (recordStored a0 a1 s).view k = s.view k := by
  refine view_le hk ?_
  unfold recordStored
  simp only [flashOk_view, State.add64_view, circPut_view, flashBegin_view, nvDone_view, fixedPut_view, view_upd, fixed_mk,
      fixed_eta, apply_ite (State.view _), ite_self, Nat.reduceAnd, Nat.reduceDiv, Nat.reduceMod, Nat.zero_ne_one, implies_true,
      false_implies, Nat.div_one, kvSorted_kvPut, List.length_modify, List.length_map, List.length_set, List.length_mapIdx]

theorem recordFailed_view {k} (hk : k &&& 15990780 = k) (a0 a1 s) : (recordFailed a0 a1 s).view k = s.view k := by
  refine view_le hk ?_
  unfold recordFailed
  simp only [flashFailed_view, circPut_view, fixedPut_view, nvDone_view, setRecFlag_view, State.bump32_view,
      flashBegin_view, flashNext_view, view_upd, fixed_mk, fixed_eta, apply_ite (State.view _), ite_self, Nat.reduceAnd,
      Nat.reduceDiv, Nat.reduceMod, Nat.zero_ne_one, implies_true, false_implies, Nat.div_one, kvSorted_kvPut,
      List.length_modify, List.length_map, List.length_set, List.length_mapIdx]

theorem recordProgram_view {k} (hk : k &&& 15990780 = k) (a0 s) : (recordProgram a0 s).view k = s.view k := by
  refine view_le hk ?_
  unfold recordProgram
  (repeat' split) <;> simp only [recordStored_view, recordFailed_view, view_upd, fixed_mk, fixed_eta, apply_ite (State.view _), ite_self, Nat.reduceAnd, Nat.reduceDiv, Nat.reduceMod, Nat.zero_ne_one, implies_true, false_implies, Nat.div_one, kvSorted_kvPut, List.length_modify, List.length_map, List.length_set, List.length_mapIdx]

theorem eraseDone_view {k} (hk : k &&& 15990780 = k) (s) : (eraseDone s).view k = s.view k := by
  refine view_le hk ?_
  unfold eraseDone
  (repeat' split) <;> simp only [flashNext_view, State.bump32_view, flashOk_view, view_upd, fixed_mk, fixed_eta, apply_ite (State.view _), ite_self, Nat.reduceAnd, Nat.reduceDiv, Nat.reduceMod, Nat.zero_ne_one, implies_true, false_implies, Nat.div_one, kvSorted_kvPut, List.length_modify, List.length_map, List.length_set, List.length_mapIdx]

theorem portTimeout_view {k} (hk : k &&& 14939132 = k) (a0 s) : (portTimeout a0 s).view k = s.view k := by
  refine view_le hk ?_
  unfold portTimeout
  simp only [advanceTo_view, recordFailed_view, view_upd, fixed_mk, fixed_eta, apply_ite (State.view _), ite_self,
      Nat.reduceAnd, Nat.reduceDiv, Nat.reduceMod, Nat.zero_ne_one, implies_true, false_implies, Nat.div_one, kvSorted_kvPut,
      List.length_modify, List.length_map, List.length_set, List.length_mapIdx]

theorem scanDone_view {k} (hk : k &&& 15990780 = k) (s) : (scanDone s).view k = s.view k := by
  refine view_le hk ?_
  unfold scanDone
  simp only [flashNext_view, view_upd, fixed_mk, fixed_eta, apply_ite (State.view _), ite_self, Nat.reduceAnd,
      Nat.reduceDiv, Nat.reduceMod, Nat.zero_ne_one, implies_true, false_implies, Nat.div_one, kvSorted_kvPut,
      List.length_modify, List.length_map, List.length_set, List.length_mapIdx]

theorem flashCut_view {k} (hk : k &&& 16252927 = k) (s) : (flashCut s).view k = s.view k := by
  refine view_le hk ?_
  unfold flashCut
  (repeat' split) <;> simp only [circPut_view, view_upd, fixed_mk, fixed_eta, apply_ite (State.view _), ite_self, Nat.reduceAnd, Nat.reduceDiv, Nat.reduceMod, Nat.zero_ne_one, implies_true, false_implies, Nat.div_one, kvSorted_kvPut, List.length_modify, List.length_map, List.length_set, List.length_mapIdx]

theorem State.updCursor_view {k} (hk : k &&& 16515071 = k) (s a1 a2) : (State.updCursor s a1 a2).view k = s.view k := by
  refine view_le hk ?_
  unfold State.updCursor
  simp only [view_upd, fixed_mk, fixed_eta, apply_ite (State.view _), ite_self, Nat.reduceAnd, Nat.reduceDiv, Nat.reduceMod,
      Nat.zero_ne_one, implies_true, false_implies, Nat.div_one, kvSorted_kvPut, List.length_modify, List.length_map,
      List.length_set, List.length_mapIdx]

theorem cursorFetch_view {k} (hk : k &&& 16515071 = k) (a0 s) : (cursorFetch a0 s).view k = s.view k := by
  refine view_le hk ?_
  unfold cursorFetch
  grind [view_upd, fixed_mk, fixed_eta, List.length_modify, State.updCursor_view]

theorem seekOld_view {k} (hk : k &&& 16515071 = k) (a0 s) : (seekOld a0 s).view k = s.view k := by
  refine view_le hk ?_
  unfold seekOld
  simp only [State.updCursor_view, view_upd, fixed_mk, fixed_eta, apply_ite (State.view _), ite_self, Nat.reduceAnd,
      Nat.reduceDiv, Nat.reduceMod, Nat.zero_ne_one, implies_true, false_implies, Nat.div_one, kvSorted_kvPut,
      List.length_modify, List.length_map, List.length_set, List.length_mapIdx]

theorem seekNew_view {k} (hk : k &&& 16515071 = k) (a0 s) : (seekNew a0 s).view k = s.view k := by
  refine view_le hk ?_
  unfold seekNew
  simp only [State.updCursor_view, view_upd, fixed_mk, fixed_eta, apply_ite (State.view _), ite_self, Nat.reduceAnd,
      Nat.reduceDiv, Nat.reduceMod, Nat.zero_ne_one, implies_true, false_implies, Nat.div_one, kvSorted_kvPut,
      List.length_modify, List.length_map, List.length_set, List.length_mapIdx]

theorem drainInput_view {k} (hk : k &&& 13369341 = k) (s) : (drainInput s).view k = s.view k := by
  refine view_le hk ?_
  unfold drainInput
  simp (disch := (intros; first | done | (simp only [ringWrite_view, view_upd, fixed_mk, fixed_eta, apply_ite (State.view _), ite_self, Nat.reduceAnd, Nat.reduceDiv, Nat.reduceMod, Nat.zero_ne_one, implies_true, false_implies, Nat.div_one, kvSorted_kvPut, List.length_modify, List.length_map, List.length_set, List.length_mapIdx]; done) | ((repeat' split) <;> simp only [ringWrite_view, view_upd, fixed_mk, fixed_eta, apply_ite (State.view _), ite_self, Nat.reduceAnd, Nat.reduceDiv, Nat.reduceMod, Nat.zero_ne_one, implies_true, false_implies, Nat.div_one, kvSorted_kvPut, List.length_modify, List.length_map, List.length_set, List.length_mapIdx]; done) | grind [view_upd, fixed_mk, fixed_eta, List.length_modify, ringWrite_view])) only [ringWrite_view, view_upd, fixed_mk, fixed_eta, apply_ite (State.view _), ite_self, Nat.reduceAnd, Nat.reduceDiv, Nat.reduceMod, Nat.zero_ne_one, implies_true, false_implies, Nat.div_one, kvSorted_kvPut, List.length_modify, List.length_map, List.length_set, List.length_mapIdx, forEach_view, foldl_view]

theorem recGeneration_view {k} (hk : k &&& 13369341 = k) (a0 s) : (recGeneration a0 s).view k = s.view k := by
  refine view_le hk ?_
  unfold recGeneration
  simp only [drainInput_view, State.updCursor_view, view_upd, fixed_mk, fixed_eta, apply_ite (State.view _), ite_self,
      Nat.reduceAnd, Nat.reduceDiv, Nat.reduceMod, Nat.zero_ne_one, implies_true, false_implies, Nat.div_one, kvSorted_kvPut,
      List.length_modify, List.length_map, List.length_set, List.length_mapIdx]

theorem cursorCtlWrite_view {k} (hk : k &&& 16515071 = k) (a0 a1 a2 s) : (cursorCtlWrite a0 a1 a2 s).view k = s.view k := by
  refine view_le hk ?_
  unfold cursorCtlWrite
  simp only [State.updCursor_view, seekOld_view, seekNew_view, view_upd, fixed_mk, fixed_eta, apply_ite (State.view _),
      ite_self, Nat.reduceAnd, Nat.reduceDiv, Nat.reduceMod, Nat.zero_ne_one, implies_true, false_implies, Nat.div_one,
      kvSorted_kvPut, List.length_modify, List.length_map, List.length_set, List.length_mapIdx]

theorem cursorNextWrite_view {k} (hk : k &&& 16515071 = k) (a0 a1 s) : (cursorNextWrite a0 a1 s).view k = s.view k := by
  refine view_le hk ?_
  unfold cursorNextWrite
  simp only [State.updCursor_view, view_upd, fixed_mk, fixed_eta, apply_ite (State.view _), ite_self, Nat.reduceAnd,
      Nat.reduceDiv, Nat.reduceMod, Nat.zero_ne_one, implies_true, false_implies, Nat.div_one, kvSorted_kvPut,
      List.length_modify, List.length_map, List.length_set, List.length_mapIdx]

theorem setTime_view {k} (hk : k &&& 16515068 = k) (a0 a1 a2 s) : (setTime a0 a1 a2 s).view k = s.view k := by
  refine view_le hk ?_
  unfold setTime
  simp only [raise_view, State.bump32_view, view_upd, fixed_mk, fixed_eta, apply_ite (State.view _), ite_self,
      Nat.reduceAnd, Nat.reduceDiv, Nat.reduceMod, Nat.zero_ne_one, implies_true, false_implies, Nat.div_one, kvSorted_kvPut,
      List.length_modify, List.length_map, List.length_set, List.length_mapIdx]

theorem bootWrite_view {k} (hk : k &&& 16252927 = k) {a0 s t} (h : bootWrite a0 s = .ok t) : t.view k = s.view k := by
  refine view_le hk ?_
  unfold bootWrite at h
  (repeat' split at h) <;> simp only [Host.Outcome.next.injEq, Except.ok.injEq, Option.some.injEq, reduceCtorEq] at h <;> subst h <;> simp only [view_upd, fixed_mk, fixed_eta, apply_ite (State.view _), ite_self, Nat.reduceAnd, Nat.reduceDiv, Nat.reduceMod, Nat.zero_ne_one, implies_true, false_implies, Nat.div_one, kvSorted_kvPut, List.length_modify, List.length_map, List.length_set, List.length_mapIdx]

theorem bootWritten_view {k} (hk : k &&& 15990780 = k) (a0 s) : (bootWritten a0 s).view k = s.view k := by
  refine view_le hk ?_
  unfold bootWritten
  simp only [flashDone_view, view_upd, fixed_mk, fixed_eta, apply_ite (State.view _), ite_self, Nat.reduceAnd,
      Nat.reduceDiv, Nat.reduceMod, Nat.zero_ne_one, implies_true, false_implies, Nat.div_one, kvSorted_kvPut,
      List.length_modify, List.length_map, List.length_set, List.length_mapIdx]

theorem commission_view {k} (hk : k &&& 15990780 = k) {s t} (h : commission s = .ok t) : t.view k = s.view k := by
  refine view_le hk ?_
  unfold commission at h
  (repeat' split at h) <;> simp only [Host.Outcome.next.injEq, Except.ok.injEq, Option.some.injEq, reduceCtorEq] at h <;> subst h <;> simp only [flashNext_view, view_upd, fixed_mk, fixed_eta, apply_ite (State.view _), ite_self, Nat.reduceAnd, Nat.reduceDiv, Nat.reduceMod, Nat.zero_ne_one, implies_true, false_implies, Nat.div_one, kvSorted_kvPut, List.length_modify, List.length_map, List.length_set, List.length_mapIdx]

theorem recReadState_view {k} (hk : k &&& 16515071 = k) {a0 a1 s t} (h : recReadState a0 a1 s = .ok t) : t.view k = s.view k
    := by
  refine view_le hk ?_
  unfold recReadState at h
  grind [view_upd, fixed_mk, fixed_eta, List.length_modify, cursorFetch_view]

theorem recWrite_view {k} (hk : k &&& 15990780 = k) {a0 a1 a2 a3 a4 s t} (h : recWrite a0 a1 a2 a3 a4 s = .ok t) : t.view k
    = s.view k := by
  refine view_le hk ?_
  unfold recWrite at h
  (repeat' split at h) <;> (try replace h := needRange_ok h) <;> (try replace h := needState_ok h) <;> (try replace h := needRange_ok h) <;> (repeat' split at h) <;> first | exact bootWrite_view (by decide) h | exact commission_view (by decide) h | (simp only [Host.Outcome.next.injEq, Except.ok.injEq, Option.some.injEq, reduceCtorEq] at h; (try subst h); (repeat' split); all_goals simp only [setTime_view, State.updCursor_view, storeVal_view, view_upd, fixed_mk, fixed_eta, apply_ite (State.view _), ite_self, Nat.reduceAnd, Nat.reduceDiv, Nat.reduceMod, Nat.zero_ne_one, implies_true, false_implies, Nat.div_one, kvSorted_kvPut, List.length_modify, List.length_map, List.length_set, List.length_mapIdx])

theorem drive_view {k} (hk : k &&& 14680063 = k) (a0 s) : (drive a0 s).view k = s.view k := by
  refine view_le hk ?_
  unfold drive
  simp only [view_upd, fixed_mk, fixed_eta, apply_ite (State.view _), ite_self, Nat.reduceAnd, Nat.reduceDiv, Nat.reduceMod,
      Nat.zero_ne_one, implies_true, false_implies, Nat.div_one, kvSorted_kvPut, List.length_modify, List.length_map,
      List.length_set, List.length_mapIdx]

theorem refuseBus_view {k} (hk : k &&& 14680063 = k) (s) : (refuseBus s).view k = s.view k := by
  refine view_le hk ?_
  unfold refuseBus
  simp only [view_upd, fixed_mk, fixed_eta, apply_ite (State.view _), ite_self, Nat.reduceAnd, Nat.reduceDiv, Nat.reduceMod,
      Nat.zero_ne_one, implies_true, false_implies, Nat.div_one, kvSorted_kvPut, List.length_modify, List.length_map,
      List.length_set, List.length_mapIdx]

theorem discardPacket_view {k} (hk : k &&& 14680061 = k) (s) : (discardPacket s).view k = s.view k := by
  refine view_le hk ?_
  unfold discardPacket
  simp only [setMgtFlag_view, view_upd, fixed_mk, fixed_eta, apply_ite (State.view _), ite_self, Nat.reduceAnd,
      Nat.reduceDiv, Nat.reduceMod, Nat.zero_ne_one, implies_true, false_implies, Nat.div_one, kvSorted_kvPut,
      List.length_modify, List.length_map, List.length_set, List.length_mapIdx]

theorem putPacket_view {k} (hk : k &&& 14680063 = k) (a0 s) : (putPacket a0 s).view k = s.view k := by
  refine view_le hk ?_
  unfold putPacket
  simp only [alertPin_view, view_upd, fixed_mk, fixed_eta, apply_ite (State.view _), ite_self, Nat.reduceAnd, Nat.reduceDiv,
      Nat.reduceMod, Nat.zero_ne_one, implies_true, false_implies, Nat.div_one, kvSorted_kvPut, List.length_modify,
      List.length_map, List.length_set, List.length_mapIdx]

theorem dropPacket_view {k} (hk : k &&& 14680063 = k) (s) : (dropPacket s).view k = s.view k := by
  refine view_le hk ?_
  unfold dropPacket
  simp only [alertPin_view, view_upd, fixed_mk, fixed_eta, apply_ite (State.view _), ite_self, Nat.reduceAnd, Nat.reduceDiv,
      Nat.reduceMod, Nat.zero_ne_one, implies_true, false_implies, Nat.div_one, kvSorted_kvPut, List.length_modify,
      List.length_map, List.length_set, List.length_mapIdx]

theorem answer_view {k} (hk : k &&& 14680061 = k) {p} {f : State → List Byte × State} {s} (h : ∀ t, (f t).2.view k = t.view k) :
    (answer p f s).view k = s.view k := by
  unfold answer
  simp only [apply_ite (State.view _), discardPacket_view (view_trans hk (by decide)), putPacket_view (view_trans hk (by
      decide)), h, State.add64_view (view_trans hk (by decide)), ite_self]

theorem ctlSetEid_view {k} (hk : k &&& 14680063 = k) (a0 a1 a2 s) : (ctlSetEid a0 a1 a2 s).2.view k = s.view k := by
  refine view_le hk ?_
  unfold ctlSetEid
  (repeat' split) <;> simp only [view_upd, fixed_mk, fixed_eta, apply_ite (State.view _), ite_self, Nat.reduceAnd, Nat.reduceDiv, Nat.reduceMod, Nat.zero_ne_one, implies_true, false_implies, Nat.div_one, kvSorted_kvPut, List.length_modify, List.length_map, List.length_set, List.length_mapIdx]

theorem ctlGetEid_view {k} (hk : k &&& 16777215 = k) (a0 s) : (ctlGetEid a0 s).2.view k = s.view k := by
  refine view_le hk ?_
  unfold ctlGetEid
  simp only [view_upd, fixed_mk, fixed_eta, apply_ite (State.view _), ite_self, Nat.reduceAnd, Nat.reduceDiv, Nat.reduceMod,
      Nat.zero_ne_one, implies_true, false_implies, Nat.div_one, kvSorted_kvPut, List.length_modify, List.length_map,
      List.length_set, List.length_mapIdx]

theorem ctlGetUuid_view {k} (hk : k &&& 16777215 = k) (a0 s) : (ctlGetUuid a0 s).2.view k = s.view k := by
  refine view_le hk ?_
  unfold ctlGetUuid
  simp only [view_upd, fixed_mk, fixed_eta, apply_ite (State.view _), ite_self, Nat.reduceAnd, Nat.reduceDiv, Nat.reduceMod,
      Nat.zero_ne_one, implies_true, false_implies, Nat.div_one, kvSorted_kvPut, List.length_modify, List.length_map,
      List.length_set, List.length_mapIdx]

theorem ctlGetVersion_view {k} (hk : k &&& 16777215 = k) (a0 a1 s) : (ctlGetVersion a0 a1 s).2.view k = s.view k := by
  refine view_le hk ?_
  unfold ctlGetVersion
  (repeat' split) <;> simp only [view_upd, fixed_mk, fixed_eta, apply_ite (State.view _), ite_self, Nat.reduceAnd, Nat.reduceDiv, Nat.reduceMod, Nat.zero_ne_one, implies_true, false_implies, Nat.div_one, kvSorted_kvPut, List.length_modify, List.length_map, List.length_set, List.length_mapIdx]

theorem ctlGetTypes_view {k} (hk : k &&& 16777215 = k) (a0 s) : (ctlGetTypes a0 s).2.view k = s.view k := by
  refine view_le hk ?_
  unfold ctlGetTypes
  simp only [view_upd, fixed_mk, fixed_eta, apply_ite (State.view _), ite_self, Nat.reduceAnd, Nat.reduceDiv, Nat.reduceMod,
      Nat.zero_ne_one, implies_true, false_implies, Nat.div_one, kvSorted_kvPut, List.length_modify, List.length_map,
      List.length_set, List.length_mapIdx]

theorem ctlGetVendor_view {k} (hk : k &&& 16777215 = k) (a0 a1 s) : (ctlGetVendor a0 a1 s).2.view k = s.view k := by
  refine view_le hk ?_
  unfold ctlGetVendor
  (repeat' split) <;> simp only [view_upd, fixed_mk, fixed_eta, apply_ite (State.view _), ite_self, Nat.reduceAnd, Nat.reduceDiv, Nat.reduceMod, Nat.zero_ne_one, implies_true, false_implies, Nat.div_one, kvSorted_kvPut, List.length_modify, List.length_map, List.length_set, List.length_mapIdx]

theorem ctlMessage_view {k} (hk : k &&& 14680063 = k) (a0 a1 s) : (ctlMessage a0 a1 s).2.view k = s.view k := by
  refine view_le hk ?_
  unfold ctlMessage
  grind [view_upd, fixed_mk, fixed_eta, List.length_modify, ctlSetEid_view, ctlGetEid_view, ctlGetUuid_view,
      ctlGetVersion_view, ctlGetTypes_view, ctlGetVendor_view]

theorem pldmSetTid_view {k} (hk : k &&& 14680063 = k) (a0 a1 s) : (pldmSetTid a0 a1 s).2.view k = s.view k := by
  refine view_le hk ?_
  unfold pldmSetTid
  (repeat' split) <;> simp only [view_upd, fixed_mk, fixed_eta, apply_ite (State.view _), ite_self, Nat.reduceAnd, Nat.reduceDiv, Nat.reduceMod, Nat.zero_ne_one, implies_true, false_implies, Nat.div_one, kvSorted_kvPut, List.length_modify, List.length_map, List.length_set, List.length_mapIdx]

theorem pldmGetTid_view {k} (hk : k &&& 16777215 = k) (a0 s) : (pldmGetTid a0 s).2.view k = s.view k := by
  refine view_le hk ?_
  unfold pldmGetTid
  simp only [view_upd, fixed_mk, fixed_eta, apply_ite (State.view _), ite_self, Nat.reduceAnd, Nat.reduceDiv, Nat.reduceMod,
      Nat.zero_ne_one, implies_true, false_implies, Nat.div_one, kvSorted_kvPut, List.length_modify, List.length_map,
      List.length_set, List.length_mapIdx]

theorem pldmVersion_view {k} (hk : k &&& 16777215 = k) (a0 a1 s) : (pldmVersion a0 a1 s).2.view k = s.view k := by
  refine view_le hk ?_
  unfold pldmVersion
  (repeat' split) <;> simp only [view_upd, fixed_mk, fixed_eta, apply_ite (State.view _), ite_self, Nat.reduceAnd, Nat.reduceDiv, Nat.reduceMod, Nat.zero_ne_one, implies_true, false_implies, Nat.div_one, kvSorted_kvPut, List.length_modify, List.length_map, List.length_set, List.length_mapIdx]

theorem pldmTypes_view {k} (hk : k &&& 16777215 = k) (a0 s) : (pldmTypes a0 s).2.view k = s.view k := by
  refine view_le hk ?_
  unfold pldmTypes
  simp only [view_upd, fixed_mk, fixed_eta, apply_ite (State.view _), ite_self, Nat.reduceAnd, Nat.reduceDiv, Nat.reduceMod,
      Nat.zero_ne_one, implies_true, false_implies, Nat.div_one, kvSorted_kvPut, List.length_modify, List.length_map,
      List.length_set, List.length_mapIdx]

theorem pldmCommands_view {k} (hk : k &&& 16777215 = k) (a0 a1 s) : (pldmCommands a0 a1 s).2.view k = s.view k := by
  refine view_le hk ?_
  unfold pldmCommands
  (repeat' split) <;> simp only [view_upd, fixed_mk, fixed_eta, apply_ite (State.view _), ite_self, Nat.reduceAnd, Nat.reduceDiv, Nat.reduceMod, Nat.zero_ne_one, implies_true, false_implies, Nat.div_one, kvSorted_kvPut, List.length_modify, List.length_map, List.length_set, List.length_mapIdx]

theorem pldmReading_view {k} (hk : k &&& 8388607 = k) (a0 a1 s) : (pldmReading a0 a1 s).2.view k = s.view k := by
  refine view_le hk ?_
  unfold pldmReading
  (repeat' split) <;> simp only [State.takeFree_view, view_upd, fixed_mk, fixed_eta, apply_ite (State.view _), ite_self, Nat.reduceAnd, Nat.reduceDiv, Nat.reduceMod, Nat.zero_ne_one, implies_true, false_implies, Nat.div_one, kvSorted_kvPut, List.length_modify, List.length_map, List.length_set, List.length_mapIdx]

theorem pldmRepository_view {k} (hk : k &&& 16777215 = k) (a0 s) : (pldmRepository a0 s).2.view k = s.view k := by
  refine view_le hk ?_
  unfold pldmRepository
  simp only [view_upd, fixed_mk, fixed_eta, apply_ite (State.view _), ite_self, Nat.reduceAnd, Nat.reduceDiv, Nat.reduceMod,
      Nat.zero_ne_one, implies_true, false_implies, Nat.div_one, kvSorted_kvPut, List.length_modify, List.length_map,
      List.length_set, List.length_mapIdx]

theorem pldmPdr_view {k} (hk : k &&& 16777215 = k) (a0 a1 s) : (pldmPdr a0 a1 s).2.view k = s.view k := by
  refine view_le hk ?_
  unfold pldmPdr
  grind [view_upd, fixed_mk, fixed_eta, List.length_modify]

theorem pldmMessage_view {k} (hk : k &&& 6291455 = k) (a0 a1 s) : (pldmMessage a0 a1 s).2.view k = s.view k := by
  refine view_le hk ?_
  unfold pldmMessage
  grind [view_upd, fixed_mk, fixed_eta, List.length_modify, pldmSetTid_view, pldmGetTid_view, pldmVersion_view,
      pldmTypes_view, pldmCommands_view, pldmReading_view, pldmRepository_view, pldmPdr_view]

theorem enterI3c_view {k} (hk : k &&& 14680063 = k) (a0 s) : (enterI3c a0 s).view k = s.view k := by
  refine view_le hk ?_
  unfold enterI3c
  simp only [alertPin_view, view_upd, fixed_mk, fixed_eta, apply_ite (State.view _), ite_self, Nat.reduceAnd, Nat.reduceDiv,
      Nat.reduceMod, Nat.zero_ne_one, implies_true, false_implies, Nat.div_one, kvSorted_kvPut, List.length_modify,
      List.length_map, List.length_set, List.length_mapIdx]

theorem cccAnswer_view {k} (hk : k &&& 14680063 = k) (a0 s) : (cccAnswer a0 s).view k = s.view k := by
  refine view_le hk ?_
  unfold cccAnswer
  simp only [drive_view, view_upd, fixed_mk, fixed_eta, apply_ite (State.view _), ite_self, Nat.reduceAnd, Nat.reduceDiv,
      Nat.reduceMod, Nat.zero_ne_one, implies_true, false_implies, Nat.div_one, kvSorted_kvPut, List.length_modify,
      List.length_map, List.length_set, List.length_mapIdx]

theorem assignAddr_view {k} (hk : k &&& 14680063 = k) (a0 a1 s) : (assignAddr a0 a1 s).view k = s.view k := by
  refine view_le hk ?_
  unfold assignAddr
  simp only [enterI3c_view, drive_view, view_upd, fixed_mk, fixed_eta, apply_ite (State.view _), ite_self, Nat.reduceAnd,
      Nat.reduceDiv, Nat.reduceMod, Nat.zero_ne_one, implies_true, false_implies, Nat.div_one, kvSorted_kvPut,
      List.length_modify, List.length_map, List.length_set, List.length_mapIdx]

theorem setLength_view {k} (hk : k &&& 14680063 = k) (a0 s) : (setLength a0 s).view k = s.view k := by
  refine view_le hk ?_
  unfold setLength
  simp only [refuseBus_view, drive_view, view_upd, fixed_mk, fixed_eta, apply_ite (State.view _), ite_self, Nat.reduceAnd,
      Nat.reduceDiv, Nat.reduceMod, Nat.zero_ne_one, implies_true, false_implies, Nat.div_one, kvSorted_kvPut,
      List.length_modify, List.length_map, List.length_set, List.length_mapIdx]

theorem ibi_view {k} (hk : k &&& 14680063 = k) (a0 s) : (ibi a0 s).view k = s.view k := by
  refine view_le hk ?_
  unfold ibi
  simp only [drive_view, view_upd, fixed_mk, fixed_eta, apply_ite (State.view _), ite_self, Nat.reduceAnd, Nat.reduceDiv,
      Nat.reduceMod, Nat.zero_ne_one, implies_true, false_implies, Nat.div_one, kvSorted_kvPut, List.length_modify,
      List.length_map, List.length_set, List.length_mapIdx]

theorem araRead_view {k} (hk : k &&& 14680063 = k) (s) : (araRead s).view k = s.view k := by
  refine view_le hk ?_
  unfold araRead
  simp only [refuseBus_view, alertPin_view, drive_view, view_upd, fixed_mk, fixed_eta, apply_ite (State.view _), ite_self,
      Nat.reduceAnd, Nat.reduceDiv, Nat.reduceMod, Nat.zero_ne_one, implies_true, false_implies, Nat.div_one, kvSorted_kvPut,
      List.length_modify, List.length_map, List.length_set, List.length_mapIdx]

theorem ibiRetry_view {k} (hk : k &&& 13366268 = k) (s) : (ibiRetry s).view k = s.view k := by
  refine view_le hk ?_
  unfold ibiRetry
  (repeat' split) <;> simp only [advanceTo_view, alertPin_view, view_upd, fixed_mk, fixed_eta, apply_ite (State.view _), ite_self, Nat.reduceAnd, Nat.reduceDiv, Nat.reduceMod, Nat.zero_ne_one, implies_true, false_implies, Nat.div_one, kvSorted_kvPut, List.length_modify, List.length_map, List.length_set, List.length_mapIdx]

theorem State.updPmb_view {k} (hk : k &&& 14680063 = k) (s a1 a2) : (State.updPmb s a1 a2).view k = s.view k := by
  refine view_le hk ?_
  unfold State.updPmb
  simp only [view_upd, fixed_mk, fixed_eta, apply_ite (State.view _), ite_self, Nat.reduceAnd, Nat.reduceDiv, Nat.reduceMod,
      Nat.zero_ne_one, implies_true, false_implies, Nat.div_one, kvSorted_kvPut, List.length_modify, List.length_map,
      List.length_set, List.length_mapIdx]

theorem pmbCount_view {k} (hk : k &&& 16777213 = k) (a0 a1 s) : (pmbCount a0 a1 s).view k = s.view k := by
  refine view_le hk ?_
  unfold pmbCount
  simp only [State.add32_view, State.add64_view, view_upd, fixed_mk, fixed_eta, apply_ite (State.view _), ite_self,
      Nat.reduceAnd, Nat.reduceDiv, Nat.reduceMod, Nat.zero_ne_one, implies_true, false_implies, Nat.div_one, kvSorted_kvPut,
      List.length_modify, List.length_map, List.length_set, List.length_mapIdx]

theorem pmbSend_view {k} (hk : k &&& 14680061 = k) (a0 a1 a2 s) : (pmbSend a0 a1 a2 s).view k = s.view k := by
  refine view_le hk ?_
  unfold pmbSend
  simp only [pmbCount_view, view_upd, fixed_mk, fixed_eta, apply_ite (State.view _), ite_self, Nat.reduceAnd, Nat.reduceDiv,
      Nat.reduceMod, Nat.zero_ne_one, implies_true, false_implies, Nat.div_one, kvSorted_kvPut, List.length_modify,
      List.length_map, List.length_set, List.length_mapIdx]

theorem takeMode_view {k} (hk : k &&& 14680063 = k) (a0 a1 s) : (takeMode a0 a1 s).view k = s.view k := by
  refine view_le hk ?_
  unfold takeMode
  simp only [State.updPmb_view, view_upd, fixed_mk, fixed_eta, apply_ite (State.view _), ite_self, Nat.reduceAnd,
      Nat.reduceDiv, Nat.reduceMod, Nat.zero_ne_one, implies_true, false_implies, Nat.div_one, kvSorted_kvPut,
      List.length_modify, List.length_map, List.length_set, List.length_mapIdx]

theorem takeStatus_view {k} (hk : k &&& 14680061 = k) (a0 a1 s) : (takeStatus a0 a1 s).view k = s.view k := by
  refine view_le hk ?_
  unfold takeStatus
  simp only [State.updPmb_view, State.add32_view, view_upd, fixed_mk, fixed_eta, apply_ite (State.view _), ite_self,
      Nat.reduceAnd, Nat.reduceDiv, Nat.reduceMod, Nat.zero_ne_one, implies_true, false_implies, Nat.div_one, kvSorted_kvPut,
      List.length_modify, List.length_map, List.length_set, List.length_mapIdx]

theorem pollOne_view {k} (hk : k &&& 14680061 = k) (a0 a1 s) : (pollOne a0 a1 s).view k = s.view k := by
  refine view_le hk ?_
  unfold pollOne
  simp only [pmbSend_view, State.updPmb_view, takeStatus_view, setMgtFlag_view, view_upd, fixed_mk, fixed_eta, apply_ite
      (State.view _), ite_self, Nat.reduceAnd, Nat.reduceDiv, Nat.reduceMod, Nat.zero_ne_one, implies_true, false_implies,
      Nat.div_one, kvSorted_kvPut, List.length_modify, List.length_map, List.length_set, List.length_mapIdx]

theorem pollAll_view {k} (hk : k &&& 13366268 = k) (a0 s) : (pollAll a0 s).view k = s.view k := by
  refine view_le hk ?_
  unfold pollAll
  simp (disch := (intros; first | done | (simp only [advanceTo_view, pollOne_view, view_upd, fixed_mk, fixed_eta, apply_ite (State.view _), ite_self, Nat.reduceAnd, Nat.reduceDiv, Nat.reduceMod, Nat.zero_ne_one, implies_true, false_implies, Nat.div_one, kvSorted_kvPut, List.length_modify, List.length_map, List.length_set, List.length_mapIdx]; done) | ((repeat' split) <;> simp only [advanceTo_view, pollOne_view, view_upd, fixed_mk, fixed_eta, apply_ite (State.view _), ite_self, Nat.reduceAnd, Nat.reduceDiv, Nat.reduceMod, Nat.zero_ne_one, implies_true, false_implies, Nat.div_one, kvSorted_kvPut, List.length_modify, List.length_map, List.length_set, List.length_mapIdx]; done) | grind [view_upd, fixed_mk, fixed_eta, List.length_modify, advanceTo_view, pollOne_view])) only [advanceTo_view, pollOne_view, view_upd, fixed_mk, fixed_eta, apply_ite (State.view _), ite_self, Nat.reduceAnd, Nat.reduceDiv, Nat.reduceMod, Nat.zero_ne_one, implies_true, false_implies, Nat.div_one, kvSorted_kvPut, List.length_modify, List.length_map, List.length_set, List.length_mapIdx, forEach_view, foldl_view] <;> (repeat' split) <;> simp (disch := (intros; first | done | (simp only [advanceTo_view, pollOne_view, view_upd, fixed_mk, fixed_eta, apply_ite (State.view _), ite_self, Nat.reduceAnd, Nat.reduceDiv, Nat.reduceMod, Nat.zero_ne_one, implies_true, false_implies, Nat.div_one, kvSorted_kvPut, List.length_modify, List.length_map, List.length_set, List.length_mapIdx]; done) | ((repeat' split) <;> simp only [advanceTo_view, pollOne_view, view_upd, fixed_mk, fixed_eta, apply_ite (State.view _), ite_self, Nat.reduceAnd, Nat.reduceDiv, Nat.reduceMod, Nat.zero_ne_one, implies_true, false_implies, Nat.div_one, kvSorted_kvPut, List.length_modify, List.length_map, List.length_set, List.length_mapIdx]; done) | grind [view_upd, fixed_mk, fixed_eta, List.length_modify, advanceTo_view, pollOne_view])) only [advanceTo_view, pollOne_view, view_upd, fixed_mk, fixed_eta, apply_ite (State.view _), ite_self, Nat.reduceAnd, Nat.reduceDiv, Nat.reduceMod, Nat.zero_ne_one, implies_true, false_implies, Nat.div_one, kvSorted_kvPut, List.length_modify, List.length_map, List.length_set, List.length_mapIdx, forEach_view, foldl_view]

theorem serveAlert_view {k} (hk : k &&& 14680061 = k) (a0 a1 s) : (serveAlert a0 a1 s).view k = s.view k := by
  refine view_le hk ?_
  unfold serveAlert
  simp only [takeStatus_view, pmbSend_view, setMgtFlag_view, view_upd, fixed_mk, fixed_eta, apply_ite (State.view _),
      ite_self, Nat.reduceAnd, Nat.reduceDiv, Nat.reduceMod, Nat.zero_ne_one, implies_true, false_implies, Nat.div_one,
      kvSorted_kvPut, List.length_modify, List.length_map, List.length_set, List.length_mapIdx]

theorem mgtWrite_view {k} (hk : k &&& 6291453 = k) {a0 a1 a2 a3 s t} (h : mgtWrite a0 a1 a2 a3 s = .ok t) : t.view k =
    s.view k := by
  refine view_le hk ?_
  unfold mgtWrite at h
  (repeat' split at h) <;> simp only [Host.Outcome.next.injEq, Except.ok.injEq, Option.some.injEq, reduceCtorEq] at h <;> subst h <;> simp only [storeVal_view, takeMode_view, pmbSend_view, State.takeFree_view, view_upd, fixed_mk, fixed_eta, apply_ite (State.view _), ite_self, Nat.reduceAnd, Nat.reduceDiv, Nat.reduceMod, Nat.zero_ne_one, implies_true, false_implies, Nat.div_one, kvSorted_kvPut, List.length_modify, List.length_map, List.length_set, List.length_mapIdx]

theorem State.putAcct_view {k} (hk : k &&& 16773119 = k) (s a1) : (State.putAcct s a1).view k = s.view k := by
  refine view_le hk ?_
  unfold State.putAcct
  simp only [view_upd, fixed_mk, fixed_eta, apply_ite (State.view _), ite_self, Nat.reduceAnd, Nat.reduceDiv, Nat.reduceMod,
      Nat.zero_ne_one, implies_true, false_implies, Nat.div_one, kvSorted_kvPut, List.length_modify, List.length_map,
      List.length_set, List.length_mapIdx]

theorem clampSend_view {k} (hk : k &&& 16773119 = k) (a0 a1 s) : (clampSend a0 a1 s).view k = s.view k := by
  refine view_le hk ?_
  unfold clampSend
  simp only [view_upd, fixed_mk, fixed_eta, apply_ite (State.view _), ite_self, Nat.reduceAnd, Nat.reduceDiv, Nat.reduceMod,
      Nat.zero_ne_one, implies_true, false_implies, Nat.div_one, kvSorted_kvPut, List.length_modify, List.length_map,
      List.length_set, List.length_mapIdx]

theorem clampNotice_view {k} (hk : k &&& 16773119 = k) (a0 a1 a2 a3 a4 s) : (clampNotice a0 a1 a2 a3 a4 s).view k = s.view k
    := by
  refine view_le hk ?_
  unfold clampNotice
  simp only [clampSend_view, view_upd, fixed_mk, fixed_eta, apply_ite (State.view _), ite_self, Nat.reduceAnd,
      Nat.reduceDiv, Nat.reduceMod, Nat.zero_ne_one, implies_true, false_implies, Nat.div_one, kvSorted_kvPut,
      List.length_modify, List.length_map, List.length_set, List.length_mapIdx]

theorem clearNotices_view {k} (hk : k &&& 16773119 = k) (s) : (clearNotices s).view k = s.view k := by
  refine view_le hk ?_
  unfold clearNotices
  simp only [view_upd, fixed_mk, fixed_eta, apply_ite (State.view _), ite_self, Nat.reduceAnd, Nat.reduceDiv, Nat.reduceMod,
      Nat.zero_ne_one, implies_true, false_implies, Nat.div_one, kvSorted_kvPut, List.length_modify, List.length_map,
      List.length_set, List.length_mapIdx]

theorem overdrawCheck_view {k} (hk : k &&& 16773117 = k) (a0 s) : (overdrawCheck a0 s).view k = s.view k := by
  refine view_le hk ?_
  unfold overdrawCheck
  simp only [setClampFlag_view, State.putAcct_view, State.bump32_view, view_upd, fixed_mk, fixed_eta, apply_ite (State.view
      _), ite_self, Nat.reduceAnd, Nat.reduceDiv, Nat.reduceMod, Nat.zero_ne_one, implies_true, false_implies, Nat.div_one,
      kvSorted_kvPut, List.length_modify, List.length_map, List.length_set, List.length_mapIdx]

theorem endGrant_view {k} (hk : k &&& 16773117 = k) (a0 s) : (endGrant a0 s).view k = s.view k := by
  refine view_le hk ?_
  unfold endGrant
  simp only [overdrawCheck_view, view_upd, fixed_mk, fixed_eta, apply_ite (State.view _), ite_self, Nat.reduceAnd,
      Nat.reduceDiv, Nat.reduceMod, Nat.zero_ne_one, implies_true, false_implies, Nat.div_one, kvSorted_kvPut,
      List.length_modify, List.length_map, List.length_set, List.length_mapIdx]

theorem endGrantOf_view {k} (hk : k &&& 16773117 = k) (a0 s) : (endGrantOf a0 s).view k = s.view k := by
  refine view_le hk ?_
  unfold endGrantOf
  (repeat' split) <;> simp only [endGrant_view, view_upd, fixed_mk, fixed_eta, apply_ite (State.view _), ite_self, Nat.reduceAnd, Nat.reduceDiv, Nat.reduceMod, Nat.zero_ne_one, implies_true, false_implies, Nat.div_one, kvSorted_kvPut, List.length_modify, List.length_map, List.length_set, List.length_mapIdx]

theorem leaveQueue_view {k} (hk : k &&& 16773117 = k) (a0 s) : (leaveQueue a0 s).view k = s.view k := by
  refine view_le hk ?_
  unfold leaveQueue
  simp only [State.put_view, view_upd, fixed_mk, fixed_eta, apply_ite (State.view _), ite_self, Nat.reduceAnd,
      Nat.reduceDiv, Nat.reduceMod, Nat.zero_ne_one, implies_true, false_implies, Nat.div_one, kvSorted_kvPut,
      List.length_modify, List.length_map, List.length_set, List.length_mapIdx]

theorem grantNow_view {k} (hk : k &&& 15724541 = k) (a0 a1 a2 a3 s) : (grantNow a0 a1 a2 a3 s).view k = s.view k := by
  refine view_le hk ?_
  unfold grantNow
  simp only [endGrantOf_view, State.countP_view, State.add64_view, view_upd, fixed_mk, fixed_eta, apply_ite (State.view _),
      ite_self, Nat.reduceAnd, Nat.reduceDiv, Nat.reduceMod, Nat.zero_ne_one, implies_true, false_implies, Nat.div_one,
      kvSorted_kvPut, List.length_modify, List.length_map, List.length_set, List.length_mapIdx]

theorem dieHold_view {k} (hk : k &&& 16773117 = k) (a0 s) : (dieHold a0 s).view k = s.view k := by
  refine view_le hk ?_
  unfold dieHold
  simp only [setClampFlag_view, view_upd, fixed_mk, fixed_eta, apply_ite (State.view _), ite_self, Nat.reduceAnd,
      Nat.reduceDiv, Nat.reduceMod, Nat.zero_ne_one, implies_true, false_implies, Nat.div_one, kvSorted_kvPut,
      List.length_modify, List.length_map, List.length_set, List.length_mapIdx]

theorem clampRefuse_view {k} (hk : k &&& 15724541 = k) (a0 a1 a2 a3 a4 a5 s) : (clampRefuse a0 a1 a2 a3 a4 a5 s).view k =
    s.view k := by
  refine view_le hk ?_
  unfold clampRefuse
  simp only [State.countP_view, State.bump32_view, clampSend_view, view_upd, fixed_mk, fixed_eta, apply_ite (State.view _),
      ite_self, Nat.reduceAnd, Nat.reduceDiv, Nat.reduceMod, Nat.zero_ne_one, implies_true, false_implies, Nat.div_one,
      kvSorted_kvPut, List.length_modify, List.length_map, List.length_set, List.length_mapIdx]

theorem clampDone_view {k} (hk : k &&& 16773119 = k) (a0 a1 a2 a3 s) : (clampDone a0 a1 a2 a3 s).view k = s.view k := by
  refine view_le hk ?_
  unfold clampDone
  simp only [clampSend_view, view_upd, fixed_mk, fixed_eta, apply_ite (State.view _), ite_self, Nat.reduceAnd,
      Nat.reduceDiv, Nat.reduceMod, Nat.zero_ne_one, implies_true, false_implies, Nat.div_one, kvSorted_kvPut,
      List.length_modify, List.length_map, List.length_set, List.length_mapIdx]

theorem clampOpen_view {k} (hk : k &&& 15724541 = k) (a0 a1 a2 s) : (clampOpen a0 a1 a2 s).view k = s.view k := by
  refine view_le hk ?_
  unfold clampOpen
  simp only [clampRefuse_view, clampDone_view, State.putAcct_view, view_upd, fixed_mk, fixed_eta, apply_ite (State.view _),
      ite_self, Nat.reduceAnd, Nat.reduceDiv, Nat.reduceMod, Nat.zero_ne_one, implies_true, false_implies, Nat.div_one,
      kvSorted_kvPut, List.length_modify, List.length_map, List.length_set, List.length_mapIdx]

theorem closeAcct_view {k} (hk : k &&& 16773117 = k) (a0 s) : (closeAcct a0 s).view k = s.view k := by
  refine view_le hk ?_
  unfold closeAcct
  grind [view_upd, fixed_mk, fixed_eta, List.length_modify, endGrantOf_view, leaveQueue_view, State.putAcct_view]

theorem clampClose_view {k} (hk : k &&& 15724541 = k) (a0 a1 a2 s) : (clampClose a0 a1 a2 s).view k = s.view k := by
  refine view_le hk ?_
  unfold clampClose
  simp only [clampDone_view, closeAcct_view, clampRefuse_view, view_upd, fixed_mk, fixed_eta, apply_ite (State.view _),
      ite_self, Nat.reduceAnd, Nat.reduceDiv, Nat.reduceMod, Nat.zero_ne_one, implies_true, false_implies, Nat.div_one,
      kvSorted_kvPut, List.length_modify, List.length_map, List.length_set, List.length_mapIdx]

theorem clampQueue_view {k} (hk : k &&& 15724541 = k) (a0 a1 a2 a3 a4 a5 a6 s) : (clampQueue a0 a1 a2 a3 a4 a5 a6 s).view k
    = s.view k := by
  refine view_le hk ?_
  unfold clampQueue
  simp only [State.countP_view, State.bump32_view, State.add64_view, clampSend_view, dieHold_view, view_upd, fixed_mk,
      fixed_eta, apply_ite (State.view _), ite_self, Nat.reduceAnd, Nat.reduceDiv, Nat.reduceMod, Nat.zero_ne_one, implies_true,
      false_implies, Nat.div_one, kvSorted_kvPut, List.length_modify, List.length_map, List.length_set, List.length_mapIdx]

theorem clampRequest_view {k} (hk : k &&& 15724541 = k) (a0 a1 a2 a3 a4 a5 a6 s) : (clampRequest a0 a1 a2 a3 a4 a5 a6
    s).view k = s.view k := by
  refine view_le hk ?_
  unfold clampRequest
  simp only [State.add64_view, clampRefuse_view, setClampFlag_view, clampSend_view, grantNow_view, dieHold_view,
      clampQueue_view, view_upd, fixed_mk, fixed_eta, apply_ite (State.view _), ite_self, Nat.reduceAnd, Nat.reduceDiv,
      Nat.reduceMod, Nat.zero_ne_one, implies_true, false_implies, Nat.div_one, kvSorted_kvPut, List.length_modify,
      List.length_map, List.length_set, List.length_mapIdx]

theorem clampRelease_view {k} (hk : k &&& 15724541 = k) (a0 a1 a2 s) : (clampRelease a0 a1 a2 s).view k = s.view k := by
  refine view_le hk ?_
  unfold clampRelease
  grind [view_upd, fixed_mk, fixed_eta, List.length_modify, clampDone_view, endGrant_view, clampRefuse_view]

theorem clampCancel_view {k} (hk : k &&& 15724541 = k) (a0 a1 a2 s) : (clampCancel a0 a1 a2 s).view k = s.view k := by
  refine view_le hk ?_
  unfold clampCancel
  grind [view_upd, fixed_mk, fixed_eta, List.length_modify, clampDone_view, leaveQueue_view, clampRefuse_view]

theorem clampServe_view {k} (hk : k &&& 15724541 = k) (a0 a1 a2 s) : (clampServe a0 a1 a2 s).view k = s.view k := by
  refine view_le hk ?_
  unfold clampServe
  simp only [clampOpen_view, clampClose_view, clampRequest_view, clampRelease_view, clampCancel_view, view_upd, fixed_mk,
      fixed_eta, apply_ite (State.view _), ite_self, Nat.reduceAnd, Nat.reduceDiv, Nat.reduceMod, Nat.zero_ne_one, implies_true,
      false_implies, Nat.div_one, kvSorted_kvPut, List.length_modify, List.length_map, List.length_set, List.length_mapIdx]

theorem clampBypass_view {k} (hk : k &&& 16773117 = k) (a0 a1 a2 s) : (clampBypass a0 a1 a2 s).view k = s.view k := by
  refine view_le hk ?_
  unfold clampBypass
  simp only [clampSend_view, State.add64_view, clampDone_view, view_upd, fixed_mk, fixed_eta, apply_ite (State.view _),
      ite_self, Nat.reduceAnd, Nat.reduceDiv, Nat.reduceMod, Nat.zero_ne_one, implies_true, false_implies, Nat.div_one,
      kvSorted_kvPut, List.length_modify, List.length_map, List.length_set, List.length_mapIdx]

theorem clampAccept_view {k} (hk : k &&& 15722493 = k) (a0 a1 a2 s) : (clampAccept a0 a1 a2 s).view k = s.view k := by
  refine view_le hk ?_
  unfold clampAccept
  simp only [clampSend_view, updAccr_view, clampServe_view, clampBypass_view, view_upd, fixed_mk, fixed_eta, apply_ite
      (State.view _), ite_self, Nat.reduceAnd, Nat.reduceDiv, Nat.reduceMod, Nat.zero_ne_one, implies_true, false_implies,
      Nat.div_one, kvSorted_kvPut, List.length_modify, List.length_map, List.length_set, List.length_mapIdx]

theorem clampWord_view {k} (hk : k &&& 15722493 = k) (a0 a1 a2 s) : (clampWord a0 a1 a2 s).view k = s.view k := by
  refine view_le hk ?_
  unfold clampWord
  simp only [clampAccept_view, clearNotices_view, view_upd, fixed_mk, fixed_eta, apply_ite (State.view _), ite_self,
      Nat.reduceAnd, Nat.reduceDiv, Nat.reduceMod, Nat.zero_ne_one, implies_true, false_implies, Nat.div_one, kvSorted_kvPut,
      List.length_modify, List.length_map, List.length_set, List.length_mapIdx]

theorem clampResume_view {k} (hk : k &&& 15722493 = k) (s) : (clampResume s).view k = s.view k := by
  refine view_le hk ?_
  unfold clampResume
  simp (disch := (intros; first | done | (simp only [clearNotices_view, clampAccept_view, view_upd, fixed_mk, fixed_eta, apply_ite (State.view _), ite_self, Nat.reduceAnd, Nat.reduceDiv, Nat.reduceMod, Nat.zero_ne_one, implies_true, false_implies, Nat.div_one, kvSorted_kvPut, List.length_modify, List.length_map, List.length_set, List.length_mapIdx]; done) | ((repeat' split) <;> simp only [clearNotices_view, clampAccept_view, view_upd, fixed_mk, fixed_eta, apply_ite (State.view _), ite_self, Nat.reduceAnd, Nat.reduceDiv, Nat.reduceMod, Nat.zero_ne_one, implies_true, false_implies, Nat.div_one, kvSorted_kvPut, List.length_modify, List.length_map, List.length_set, List.length_mapIdx]; done) | grind [view_upd, fixed_mk, fixed_eta, List.length_modify, clearNotices_view, clampAccept_view])) only [clearNotices_view, clampAccept_view, view_upd, fixed_mk, fixed_eta, apply_ite (State.view _), ite_self, Nat.reduceAnd, Nat.reduceDiv, Nat.reduceMod, Nat.zero_ne_one, implies_true, false_implies, Nat.div_one, kvSorted_kvPut, List.length_modify, List.length_map, List.length_set, List.length_mapIdx, forEach_view, foldl_view]

theorem chargeTile_view {k} (hk : k &&& 16773117 = k) (a0 a1 a2 s) : (chargeTile a0 a1 a2 s).view k = s.view k := by
  refine view_le hk ?_
  unfold chargeTile
  simp only [State.putAcct_view, State.add64_view, view_upd, fixed_mk, fixed_eta, apply_ite (State.view _), ite_self,
      Nat.reduceAnd, Nat.reduceDiv, Nat.reduceMod, Nat.zero_ne_one, implies_true, false_implies, Nat.div_one, kvSorted_kvPut,
      List.length_modify, List.length_map, List.length_set, List.length_mapIdx]

theorem chargeAll_view {k} (hk : k &&& 16773117 = k) (a0 a1 s) : (chargeAll a0 a1 s).view k = s.view k := by
  refine view_le hk ?_
  unfold chargeAll
  simp (disch := (intros; first | done | (simp only [chargeTile_view, view_upd, fixed_mk, fixed_eta, apply_ite (State.view _), ite_self, Nat.reduceAnd, Nat.reduceDiv, Nat.reduceMod, Nat.zero_ne_one, implies_true, false_implies, Nat.div_one, kvSorted_kvPut, List.length_modify, List.length_map, List.length_set, List.length_mapIdx]; done) | ((repeat' split) <;> simp only [chargeTile_view, view_upd, fixed_mk, fixed_eta, apply_ite (State.view _), ite_self, Nat.reduceAnd, Nat.reduceDiv, Nat.reduceMod, Nat.zero_ne_one, implies_true, false_implies, Nat.div_one, kvSorted_kvPut, List.length_modify, List.length_map, List.length_set, List.length_mapIdx]; done) | grind [view_upd, fixed_mk, fixed_eta, List.length_modify, chargeTile_view])) only [chargeTile_view, view_upd, fixed_mk, fixed_eta, apply_ite (State.view _), ite_self, Nat.reduceAnd, Nat.reduceDiv, Nat.reduceMod, Nat.zero_ne_one, implies_true, false_implies, Nat.div_one, kvSorted_kvPut, List.length_modify, List.length_map, List.length_set, List.length_mapIdx, forEach_view, foldl_view]

theorem remapAcct_view {k} (hk : k &&& 16773117 = k) (a0 s) : (remapAcct a0 s).view k = s.view k := by
  refine view_le hk ?_
  unfold remapAcct
  grind [view_upd, fixed_mk, fixed_eta, List.length_modify, clampNotice_view, leaveQueue_view, endGrant_view,
      State.putAcct_view]

theorem closeStale_view {k} (hk : k &&& 16773117 = k) (s) : (closeStale s).view k = s.view k := by
  refine view_le hk ?_
  unfold closeStale
  simp (disch := (intros; first | done | (simp only [remapAcct_view, view_upd, fixed_mk, fixed_eta, apply_ite (State.view _), ite_self, Nat.reduceAnd, Nat.reduceDiv, Nat.reduceMod, Nat.zero_ne_one, implies_true, false_implies, Nat.div_one, kvSorted_kvPut, List.length_modify, List.length_map, List.length_set, List.length_mapIdx]; done) | ((repeat' split) <;> simp only [remapAcct_view, view_upd, fixed_mk, fixed_eta, apply_ite (State.view _), ite_self, Nat.reduceAnd, Nat.reduceDiv, Nat.reduceMod, Nat.zero_ne_one, implies_true, false_implies, Nat.div_one, kvSorted_kvPut, List.length_modify, List.length_map, List.length_set, List.length_mapIdx]; done) | grind [view_upd, fixed_mk, fixed_eta, List.length_modify, remapAcct_view])) only [remapAcct_view, view_upd, fixed_mk, fixed_eta, apply_ite (State.view _), ite_self, Nat.reduceAnd, Nat.reduceDiv, Nat.reduceMod, Nat.zero_ne_one, implies_true, false_implies, Nat.div_one, kvSorted_kvPut, List.length_modify, List.length_map, List.length_set, List.length_mapIdx, forEach_view, foldl_view]

theorem closeMoved_view {k} (hk : k &&& 16773117 = k) (a0 s) : (closeMoved a0 s).view k = s.view k := by
  refine view_le hk ?_
  unfold closeMoved
  simp (disch := (intros; first | done | (simp only [remapAcct_view, view_upd, fixed_mk, fixed_eta, apply_ite (State.view _), ite_self, Nat.reduceAnd, Nat.reduceDiv, Nat.reduceMod, Nat.zero_ne_one, implies_true, false_implies, Nat.div_one, kvSorted_kvPut, List.length_modify, List.length_map, List.length_set, List.length_mapIdx]; done) | ((repeat' split) <;> simp only [remapAcct_view, view_upd, fixed_mk, fixed_eta, apply_ite (State.view _), ite_self, Nat.reduceAnd, Nat.reduceDiv, Nat.reduceMod, Nat.zero_ne_one, implies_true, false_implies, Nat.div_one, kvSorted_kvPut, List.length_modify, List.length_map, List.length_set, List.length_mapIdx]; done) | grind [view_upd, fixed_mk, fixed_eta, List.length_modify, remapAcct_view])) only [remapAcct_view, view_upd, fixed_mk, fixed_eta, apply_ite (State.view _), ite_self, Nat.reduceAnd, Nat.reduceDiv, Nat.reduceMod, Nat.zero_ne_one, implies_true, false_implies, Nat.div_one, kvSorted_kvPut, List.length_modify, List.length_map, List.length_set, List.length_mapIdx, forEach_view, foldl_view]

theorem scanOne_view (q : Queued) (x : State × Bool) : (scanOne q x).1.view 15724541 = x.1.view 15724541 := by
  unfold scanOne
  dsimp only
  repeat' split
  all_goals simp only [clampNotice_view, State.add64_view, grantNow_view, leaveQueue_view, setClampFlag_view, dieHold_view,
      view_upd, fixed_mk, fixed_eta, apply_ite (State.view _), ite_self, Nat.reduceAnd, Nat.reduceDiv, Nat.reduceMod,
      Nat.zero_ne_one, implies_true, false_implies, kvSorted_kvPut, List.length_modify, List.length_map, List.length_set,
      List.length_mapIdx]

theorem scanFold_view (l : List Queued) (x : State × Bool) :
    (l.foldl (fun x q => scanOne q x) x).1.view 15724541 = x.1.view 15724541 := by
  induction l generalizing x with
  | nil => rfl
  | cons q l ih => rw [List.foldl_cons, ih, scanOne_view]

theorem scanQueue_view {k} (hk : k &&& 15724541 = k) (s) : (scanQueue s).view k = s.view k := view_le (view_trans hk (by
    decide)) (scanFold_view _ _)

theorem clampBoundary_view {k} (hk : k &&& 15722493 = k) (a0 a1 s) : (clampBoundary a0 a1 s).view k = s.view k := by
  refine view_le hk ?_
  unfold clampBoundary
  simp only [chargeAll_view, clearNotices_view, updAccr_view, scanQueue_view, closeStale_view, view_upd, fixed_mk,
      fixed_eta, apply_ite (State.view _), ite_self, Nat.reduceAnd, Nat.reduceDiv, Nat.reduceMod, Nat.zero_ne_one, implies_true,
      false_implies, Nat.div_one, kvSorted_kvPut, List.length_modify, List.length_map, List.length_set, List.length_mapIdx]

theorem takeMap_view {k} (hk : k &&& 16705533 = k) (s) : (takeMap s).view k = s.view k := by
  refine view_le hk ?_
  unfold takeMap
  (repeat' split) <;> simp only [closeMoved_view, syncMoved_view, updAccr_view, view_upd, fixed_mk, fixed_eta, apply_ite (State.view _), ite_self, Nat.reduceAnd, Nat.reduceDiv, Nat.reduceMod, Nat.zero_ne_one, implies_true, false_implies, Nat.div_one, kvSorted_kvPut, List.length_modify, List.length_map, List.length_set, List.length_mapIdx]

theorem baselineCheck_view {k} (hk : k &&& 16773117 = k) (s) : (baselineCheck s).view k = s.view k := by
  refine view_le hk ?_
  unfold baselineCheck
  simp (disch := (intros; first | done | (simp only [State.bump32_view, view_upd, fixed_mk, fixed_eta, apply_ite (State.view _), ite_self, Nat.reduceAnd, Nat.reduceDiv, Nat.reduceMod, Nat.zero_ne_one, implies_true, false_implies, Nat.div_one, kvSorted_kvPut, List.length_modify, List.length_map, List.length_set, List.length_mapIdx]; done) | ((repeat' split) <;> simp only [State.bump32_view, view_upd, fixed_mk, fixed_eta, apply_ite (State.view _), ite_self, Nat.reduceAnd, Nat.reduceDiv, Nat.reduceMod, Nat.zero_ne_one, implies_true, false_implies, Nat.div_one, kvSorted_kvPut, List.length_modify, List.length_map, List.length_set, List.length_mapIdx]; done) | grind [view_upd, fixed_mk, fixed_eta, List.length_modify, State.bump32_view])) only [State.bump32_view, view_upd, fixed_mk, fixed_eta, apply_ite (State.view _), ite_self, Nat.reduceAnd, Nat.reduceDiv, Nat.reduceMod, Nat.zero_ne_one, implies_true, false_implies, Nat.div_one, kvSorted_kvPut, List.length_modify, List.length_map, List.length_set, List.length_mapIdx, forEach_view, foldl_view]

theorem clampStop_view {k} (hk : k &&& 16771069 = k) (s) : (clampStop s).view k = s.view k := by
  refine view_le hk ?_
  unfold clampStop
  simp only [updAccr_view, view_upd, fixed_mk, fixed_eta, apply_ite (State.view _), ite_self, Nat.reduceAnd, Nat.reduceDiv,
      Nat.reduceMod, Nat.zero_ne_one, implies_true, false_implies, Nat.div_one, kvSorted_kvPut, List.length_modify,
      List.length_map, List.length_set, List.length_mapIdx]

theorem clampWrite_view {k} (hk : k &&& 16771069 = k) {a0 a1 a2 a3 s t} (h : clampWrite a0 a1 a2 a3 s = .ok t) : t.view k =
    s.view k := by
  refine view_le hk ?_
  unfold clampWrite at h
  (repeat' split at h) <;> simp only [Host.Outcome.next.injEq, Except.ok.injEq, Option.some.injEq, reduceCtorEq] at h <;> subst h <;> simp only [storeVal_view, clampStop_view, view_upd, fixed_mk, fixed_eta, apply_ite (State.view _), ite_self, Nat.reduceAnd, Nat.reduceDiv, Nat.reduceMod, Nat.zero_ne_one, implies_true, false_implies, Nat.div_one, kvSorted_kvPut, List.length_modify, List.length_map, List.length_set, List.length_mapIdx]

theorem setDmaFlag_view {k} (hk : k &&& 16646141 = k) (a0 a1 s) : (setDmaFlag a0 a1 s).view k = s.view k := by
  refine view_le hk ?_
  unfold setDmaFlag
  simp only [State.bump32_view, State.updDma_view, view_upd, fixed_mk, fixed_eta, apply_ite (State.view _), ite_self,
      Nat.reduceAnd, Nat.reduceDiv, Nat.reduceMod, Nat.zero_ne_one, implies_true, false_implies, Nat.div_one, kvSorted_kvPut,
      List.length_modify, List.length_map, List.length_set, List.length_mapIdx]

theorem dmaHalt_view {k} (hk : k &&& 16383996 = k) (a0 s) : (dmaHalt a0 s).view k = s.view k := by
  refine view_le hk ?_
  unfold dmaHalt
  simp only [State.updDma_view, assertIrq_view, State.bump32_view, setDmaFlag_view, raiseP_view, view_upd, fixed_mk,
      fixed_eta, apply_ite (State.view _), ite_self, Nat.reduceAnd, Nat.reduceDiv, Nat.reduceMod, Nat.zero_ne_one, implies_true,
      false_implies, Nat.div_one, kvSorted_kvPut, List.length_modify, List.length_map, List.length_set, List.length_mapIdx]

theorem dmaBegin_view {k} (hk : k &&& 16383996 = k) (a0 s) : (dmaBegin a0 s).view k = s.view k := by
  refine view_le hk ?_
  unfold dmaBegin
  simp only [State.updDma_view, dmaHalt_view, view_upd, fixed_mk, fixed_eta, apply_ite (State.view _), ite_self,
      Nat.reduceAnd, Nat.reduceDiv, Nat.reduceMod, Nat.zero_ne_one, implies_true, false_implies, Nat.div_one, kvSorted_kvPut,
      List.length_modify, List.length_map, List.length_set, List.length_mapIdx]

theorem dmaStop_view {k} (hk : k &&& 16646143 = k) (a0 a1 s) : (dmaStop a0 a1 s).view k = s.view k := by
  refine view_le hk ?_
  unfold dmaStop
  simp only [State.updDma_view, view_upd, fixed_mk, fixed_eta, apply_ite (State.view _), ite_self, Nat.reduceAnd,
      Nat.reduceDiv, Nat.reduceMod, Nat.zero_ne_one, implies_true, false_implies, Nat.div_one, kvSorted_kvPut,
      List.length_modify, List.length_map, List.length_set, List.length_mapIdx]

theorem dmaEnd_view {k} (hk : k &&& 16646143 = k) (a0 a1 s) : (dmaEnd a0 a1 s).view k = s.view k := by
  refine view_le hk ?_
  unfold dmaEnd
  simp only [dmaStop_view, State.updDma_view, view_upd, fixed_mk, fixed_eta, apply_ite (State.view _), ite_self,
      Nat.reduceAnd, Nat.reduceDiv, Nat.reduceMod, Nat.zero_ne_one, implies_true, false_implies, Nat.div_one, kvSorted_kvPut,
      List.length_modify, List.length_map, List.length_set, List.length_mapIdx]

theorem dmaSignal_view {k} (hk : k &&& 15269884 = k) (c scope s) : (dmaSignal c scope s).view k = s.view k := by
  refine view_le hk ?_
  unfold dmaSignal
  dsimp only
  generalize hx : fabricSignal (s.dmaOwner c) (s.dmaCh c).vid scope s = x
  cases x with
  | ok t => exact fabricSignal_view (by decide) hx
  | error e => simp only [raiseP_view, State.bump32_view, setDmaFlag_view, xlateFault_view, view_upd, fixed_mk, fixed_eta,
      apply_ite (State.view _), ite_self, Nat.reduceAnd, Nat.reduceDiv, Nat.reduceMod, Nat.zero_ne_one, implies_true,
      false_implies, kvSorted_kvPut, List.length_modify, List.length_map, List.length_set, List.length_mapIdx]

theorem dmaDescEnd_view {k} (hk : k &&& 15269884 = k) (a0 s) : (dmaDescEnd a0 s).view k = s.view k := by
  refine view_le hk ?_
  unfold dmaDescEnd
  simp only [State.add64_view, State.updDma_view, dmaSignal_view, assertIrq_view, setDmaFlag_view, dmaStop_view, view_upd,
      fixed_mk, fixed_eta, apply_ite (State.view _), ite_self, Nat.reduceAnd, Nat.reduceDiv, Nat.reduceMod, Nat.zero_ne_one,
      implies_true, false_implies, Nat.div_one, kvSorted_kvPut, List.length_modify, List.length_map, List.length_set,
      List.length_mapIdx]

theorem dmaFetched_view {k} (hk : k &&& 16383996 = k) (a0 s) : (dmaFetched a0 s).view k = s.view k := by
  refine view_le hk ?_
  unfold dmaFetched
  simp only [dmaBegin_view, State.updDma_view, view_upd, fixed_mk, fixed_eta, apply_ite (State.view _), ite_self,
      Nat.reduceAnd, Nat.reduceDiv, Nat.reduceMod, Nat.zero_ne_one, implies_true, false_implies, Nat.div_one, kvSorted_kvPut,
      List.length_modify, List.length_map, List.length_set, List.length_mapIdx]

theorem dmaBusError_view {k} (hk : k &&& 16383996 = k) (a0 a1 s) : (dmaBusError a0 a1 s).view k = s.view k := by
  refine view_le hk ?_
  unfold dmaBusError
  simp only [dmaHalt_view, State.updDma_view, view_upd, fixed_mk, fixed_eta, apply_ite (State.view _), ite_self,
      Nat.reduceAnd, Nat.reduceDiv, Nat.reduceMod, Nat.zero_ne_one, implies_true, false_implies, Nat.div_one, kvSorted_kvPut,
      List.length_modify, List.length_map, List.length_set, List.length_mapIdx]

theorem dmaSettle_view {k} (hk : k &&& 15269884 = k) (a0 s) : (dmaSettle a0 s).view k = s.view k := by
  refine view_le hk ?_
  unfold dmaSettle
  grind [view_upd, fixed_mk, fixed_eta, List.length_modify, dmaStop_view, dmaBusError_view, State.updDma_view,
      dmaFetched_view, dmaDescEnd_view]

theorem dmaAnswer_view {k} (hk : k &&& 15269884 = k) (a0 a1 a2 a3 s) : (dmaAnswer a0 a1 a2 a3 s).view k = s.view k := by
  refine view_le hk ?_
  unfold dmaAnswer
  (repeat' split) <;> simp only [State.updDma_view, State.add64_view, dmaSettle_view, view_upd, fixed_mk, fixed_eta, apply_ite (State.view _), ite_self, Nat.reduceAnd, Nat.reduceDiv, Nat.reduceMod, Nat.zero_ne_one, implies_true, false_implies, Nat.div_one, kvSorted_kvPut, List.length_modify, List.length_map, List.length_set, List.length_mapIdx]

theorem dmaTakeSlot_view {k} (hk : k &&& 16646141 = k) (a0 s) : (dmaTakeSlot a0 s).view k = s.view k := by
  refine view_le hk ?_
  unfold dmaTakeSlot
  simp only [State.add64_view, State.bump32_view, State.updDma_view, view_upd, fixed_mk, fixed_eta, apply_ite (State.view
      _), ite_self, Nat.reduceAnd, Nat.reduceDiv, Nat.reduceMod, Nat.zero_ne_one, implies_true, false_implies, Nat.div_one,
      kvSorted_kvPut, List.length_modify, List.length_map, List.length_set, List.length_mapIdx]

theorem dmaIssueOn_view {k} (hk : k &&& 15269884 = k) (a0 s) : (dmaIssueOn a0 s).2.view k = s.view k := by
  refine view_le hk ?_
  unfold dmaIssueOn
  (repeat' split) <;> simp only [dmaTakeSlot_view, State.updDma_view, State.count_view, State.add64_view, dmaSignal_view, view_upd, fixed_mk, fixed_eta, apply_ite (State.view _), ite_self, Nat.reduceAnd, Nat.reduceDiv, Nat.reduceMod, Nat.zero_ne_one, implies_true, false_implies, Nat.div_one, kvSorted_kvPut, List.length_modify, List.length_map, List.length_set, List.length_mapIdx]

theorem dmaTake_view {k} (hk : k &&& 16646143 = k) (a0 a1 s) : (dmaTake a0 a1 s).view k = s.view k := by
  refine view_le hk ?_
  unfold dmaTake
  simp only [State.updDma_view, view_upd, fixed_mk, fixed_eta, apply_ite (State.view _), ite_self, Nat.reduceAnd,
      Nat.reduceDiv, Nat.reduceMod, Nat.zero_ne_one, implies_true, false_implies, Nat.div_one, kvSorted_kvPut,
      List.length_modify, List.length_map, List.length_set, List.length_mapIdx]

theorem dmaWant_view {k} (hk : k &&& 16646143 = k) (a0 s) : (dmaWant a0 s).view k = s.view k := by
  refine view_le hk ?_
  unfold dmaWant
  simp only [dmaTake_view, State.updDma_view, view_upd, fixed_mk, fixed_eta, apply_ite (State.view _), ite_self,
      Nat.reduceAnd, Nat.reduceDiv, Nat.reduceMod, Nat.zero_ne_one, implies_true, false_implies, Nat.div_one, kvSorted_kvPut,
      List.length_modify, List.length_map, List.length_set, List.length_mapIdx]

theorem dmaGive_view {k} (hk : k &&& 16646143 = k) (a0 s) : (dmaGive a0 s).view k = s.view k := by
  refine view_le hk ?_
  unfold dmaGive
  simp only [State.updDma_view, view_upd, fixed_mk, fixed_eta, apply_ite (State.view _), ite_self, Nat.reduceAnd,
      Nat.reduceDiv, Nat.reduceMod, Nat.zero_ne_one, implies_true, false_implies, Nat.div_one, kvSorted_kvPut,
      List.length_modify, List.length_map, List.length_set, List.length_mapIdx]

theorem dmaGiveUse_view {k} (hk : k &&& 16646143 = k) (a0 s) : (dmaGiveUse a0 s).view k = s.view k := by
  refine view_le hk ?_
  unfold dmaGiveUse
  (repeat' split) <;> simp only [dmaGive_view, view_upd, fixed_mk, fixed_eta, apply_ite (State.view _), ite_self, Nat.reduceAnd, Nat.reduceDiv, Nat.reduceMod, Nat.zero_ne_one, implies_true, false_implies, Nat.div_one, kvSorted_kvPut, List.length_modify, List.length_map, List.length_set, List.length_mapIdx]

theorem dmaCtrl_view {k} (hk : k &&& 16383996 = k) (a0 a1 s) : (dmaCtrl a0 a1 s).2.view k = s.view k := by
  refine view_le hk ?_
  unfold dmaCtrl
  grind [view_upd, fixed_mk, fixed_eta, List.length_modify, dmaBegin_view, State.updDma_view, dmaEnd_view]

theorem dmaRegWrite_view {k} (hk : k &&& 16383996 = k) (a0 a1 a2 a3 s) : (dmaRegWrite a0 a1 a2 a3 s).2.view k = s.view k := by
  refine view_le hk ?_
  unfold dmaRegWrite
  grind [view_upd, fixed_mk, fixed_eta, List.length_modify, State.updDma_view, dmaCtrl_view]

theorem dmaCtlPut_view {k} (hk : k &&& 16646143 = k) (a0 a1 s) : (dmaCtlPut a0 a1 s).view k = s.view k := by
  refine view_le hk ?_
  unfold dmaCtlPut
  simp (disch := (intros; first | done | (simp only [dmaEnd_view, view_upd, fixed_mk, fixed_eta, apply_ite (State.view _), ite_self, Nat.reduceAnd, Nat.reduceDiv, Nat.reduceMod, Nat.zero_ne_one, implies_true, false_implies, Nat.div_one, kvSorted_kvPut, List.length_modify, List.length_map, List.length_set, List.length_mapIdx]; done) | ((repeat' split) <;> simp only [dmaEnd_view, view_upd, fixed_mk, fixed_eta, apply_ite (State.view _), ite_self, Nat.reduceAnd, Nat.reduceDiv, Nat.reduceMod, Nat.zero_ne_one, implies_true, false_implies, Nat.div_one, kvSorted_kvPut, List.length_modify, List.length_map, List.length_set, List.length_mapIdx]; done) | grind [view_upd, fixed_mk, fixed_eta, List.length_modify, dmaEnd_view])) only [dmaEnd_view, view_upd, fixed_mk, fixed_eta, apply_ite (State.view _), ite_self, Nat.reduceAnd, Nat.reduceDiv, Nat.reduceMod, Nat.zero_ne_one, implies_true, false_implies, Nat.div_one, kvSorted_kvPut, List.length_modify, List.length_map, List.length_set, List.length_mapIdx, forEach_view, foldl_view]

theorem dmaGeneration_view {k} (hk : k &&& 16646143 = k) (a0 s) : (dmaGeneration a0 s).view k = s.view k := by
  refine view_le hk ?_
  unfold dmaGeneration
  simp (disch := (intros; first | done | (simp only [dmaEnd_view, view_upd, fixed_mk, fixed_eta, apply_ite (State.view _), ite_self, Nat.reduceAnd, Nat.reduceDiv, Nat.reduceMod, Nat.zero_ne_one, implies_true, false_implies, Nat.div_one, kvSorted_kvPut, List.length_modify, List.length_map, List.length_set, List.length_mapIdx]; done) | ((repeat' split) <;> simp only [dmaEnd_view, view_upd, fixed_mk, fixed_eta, apply_ite (State.view _), ite_self, Nat.reduceAnd, Nat.reduceDiv, Nat.reduceMod, Nat.zero_ne_one, implies_true, false_implies, Nat.div_one, kvSorted_kvPut, List.length_modify, List.length_map, List.length_set, List.length_mapIdx]; done) | grind [view_upd, fixed_mk, fixed_eta, List.length_modify, dmaEnd_view])) only [dmaEnd_view, view_upd, fixed_mk, fixed_eta, apply_ite (State.view _), ite_self, Nat.reduceAnd, Nat.reduceDiv, Nat.reduceMod, Nat.zero_ne_one, implies_true, false_implies, Nat.div_one, kvSorted_kvPut, List.length_modify, List.length_map, List.length_set, List.length_mapIdx, forEach_view, foldl_view]

theorem dmaWrite_view {k} (hk : k &&& 16777213 = k) {a0 a1 a2 a3 s t} (h : dmaWrite a0 a1 a2 a3 s = .ok t) : t.view k =
    s.view k := by
  refine view_le hk ?_
  unfold dmaWrite at h
  (repeat' split at h) <;> (try replace h := needRange_ok h) <;> (try replace h := needState_ok h) <;> (try replace h := needRange_ok h) <;> (repeat' split at h) <;> first | (simp only [Host.Outcome.next.injEq, Except.ok.injEq, Option.some.injEq, reduceCtorEq] at h; (try subst h); (repeat' split); all_goals simp only [storeVal_view, view_upd, fixed_mk, fixed_eta, apply_ite (State.view _), ite_self, Nat.reduceAnd, Nat.reduceDiv, Nat.reduceMod, Nat.zero_ne_one, implies_true, false_implies, Nat.div_one, kvSorted_kvPut, List.length_modify, List.length_map, List.length_set, List.length_mapIdx])

theorem engineSteal_view {k} (hk : k &&& 16744445 = k) (a0 s) : (engineSteal a0 s).view k = s.view k := by
  refine view_le hk ?_
  unfold engineSteal
  (repeat' split) <;> simp only [State.updEngine_view, State.add64_view, view_upd, fixed_mk, fixed_eta, apply_ite (State.view _), ite_self, Nat.reduceAnd, Nat.reduceDiv, Nat.reduceMod, Nat.zero_ne_one, implies_true, false_implies, Nat.div_one, kvSorted_kvPut, List.length_modify, List.length_map, List.length_set, List.length_mapIdx]

theorem taskSpawn_view {k} (hk : k &&& 16744445 = k) (a0 a1 s) : (taskSpawn a0 a1 s).view k = s.view k := by
  refine view_le hk ?_
  unfold taskSpawn
  simp only [State.updEngine_view, State.bump32_view, view_upd, fixed_mk, fixed_eta, apply_ite (State.view _), ite_self,
      Nat.reduceAnd, Nat.reduceDiv, Nat.reduceMod, Nat.zero_ne_one, implies_true, false_implies, Nat.div_one, kvSorted_kvPut,
      List.length_modify, List.length_map, List.length_set, List.length_mapIdx]

theorem jigLoad_view {k} (hk : k &&& 16744445 = k) (a0 a1 s) : (jigLoad a0 a1 s).view k = s.view k := by
  refine view_le hk ?_
  unfold jigLoad
  simp only [State.updJig_view, State.put_view, view_upd, fixed_mk, fixed_eta, apply_ite (State.view _), ite_self,
      Nat.reduceAnd, Nat.reduceDiv, Nat.reduceMod, Nat.zero_ne_one, implies_true, false_implies, Nat.div_one, kvSorted_kvPut,
      List.length_modify, List.length_map, List.length_set, List.length_mapIdx]

theorem jigGo_view {k} (hk : k &&& 16744447 = k) (a0 s) : (jigGo a0 s).view k = s.view k := by
  refine view_le hk ?_
  unfold jigGo
  simp only [State.updJig_view, view_upd, fixed_mk, fixed_eta, apply_ite (State.view _), ite_self, Nat.reduceAnd,
      Nat.reduceDiv, Nat.reduceMod, Nat.zero_ne_one, implies_true, false_implies, Nat.div_one, kvSorted_kvPut,
      List.length_modify, List.length_map, List.length_set, List.length_mapIdx]

theorem jigUnpost_view {k} (hk : k &&& 16742397 = k) (a0 s) : (jigUnpost a0 s).view k = s.view k := by
  refine view_le hk ?_
  unfold jigUnpost
  simp only [updAccr_view, State.updJig_view, view_upd, fixed_mk, fixed_eta, apply_ite (State.view _), ite_self,
      Nat.reduceAnd, Nat.reduceDiv, Nat.reduceMod, Nat.zero_ne_one, implies_true, false_implies, Nat.div_one, kvSorted_kvPut,
      List.length_modify, List.length_map, List.length_set, List.length_mapIdx]

theorem jigHalt_view {k} (hk : k &&& 16742397 = k) (a0 s) : (jigHalt a0 s).view k = s.view k := by
  refine view_le hk ?_
  unfold jigHalt
  simp only [jigUnpost_view, State.updJig_view, view_upd, fixed_mk, fixed_eta, apply_ite (State.view _), ite_self,
      Nat.reduceAnd, Nat.reduceDiv, Nat.reduceMod, Nat.zero_ne_one, implies_true, false_implies, Nat.div_one, kvSorted_kvPut,
      List.length_modify, List.length_map, List.length_set, List.length_mapIdx]

theorem jigFault_view {k} (hk : k &&& 16480252 = k) (a0 a1 s) : (jigFault a0 a1 s).view k = s.view k := by
  refine view_le hk ?_
  unfold jigFault
  simp only [State.updJig_view, raise_view, setDowelFlag_view, jigUnpost_view, view_upd, fixed_mk, fixed_eta, apply_ite
      (State.view _), ite_self, Nat.reduceAnd, Nat.reduceDiv, Nat.reduceMod, Nat.zero_ne_one, implies_true, false_implies,
      Nat.div_one, kvSorted_kvPut, List.length_modify, List.length_map, List.length_set, List.length_mapIdx]

theorem jigBad_view {k} (hk : k &&& 16480252 = k) (a0 s) : (jigBad a0 s).view k = s.view k := by
  refine view_le hk ?_
  unfold jigBad
  simp only [State.updJig_view, jigFault_view, view_upd, fixed_mk, fixed_eta, apply_ite (State.view _), ite_self,
      Nat.reduceAnd, Nat.reduceDiv, Nat.reduceMod, Nat.zero_ne_one, implies_true, false_implies, Nat.div_one, kvSorted_kvPut,
      List.length_modify, List.length_map, List.length_set, List.length_mapIdx]

theorem jigActivate_view {k} (hk : k &&& 15430652 = k) (a0 s) : (jigActivate a0 s).view k = s.view k := by
  refine view_le hk ?_
  unfold jigActivate
  simp only [advanceTo_view, jigBad_view, State.bump32_view, State.updJig_view, State.put_view, view_upd, fixed_mk,
      fixed_eta, apply_ite (State.view _), ite_self, Nat.reduceAnd, Nat.reduceDiv, Nat.reduceMod, Nat.zero_ne_one, implies_true,
      false_implies, Nat.div_one, kvSorted_kvPut, List.length_modify, List.length_map, List.length_set, List.length_mapIdx]

theorem jigEnd_view {k} (hk : k &&& 16744447 = k) (a0 s) : (jigEnd a0 s).view k = s.view k := by
  refine view_le hk ?_
  unfold jigEnd
  simp only [State.updJig_view, view_upd, fixed_mk, fixed_eta, apply_ite (State.view _), ite_self, Nat.reduceAnd,
      Nat.reduceDiv, Nat.reduceMod, Nat.zero_ne_one, implies_true, false_implies, Nat.div_one, kvSorted_kvPut,
      List.length_modify, List.length_map, List.length_set, List.length_mapIdx]

theorem jigMiss_view {k} (hk : k &&& 15430652 = k) (a0 s) : (jigMiss a0 s).view k = s.view k := by
  refine view_le hk ?_
  unfold jigMiss
  simp only [advanceTo_view, State.updJig_view, jigBad_view, setDowelFlag_view, State.bump32_view, view_upd, fixed_mk,
      fixed_eta, apply_ite (State.view _), ite_self, Nat.reduceAnd, Nat.reduceDiv, Nat.reduceMod, Nat.zero_ne_one, implies_true,
      false_implies, Nat.div_one, kvSorted_kvPut, List.length_modify, List.length_map, List.length_set, List.length_mapIdx]

theorem withPin_view {k} (hk : k &&& 8355839 = k) (a0 s) : (withPin a0 s).view k = s.view k := by
  refine view_le hk ?_
  unfold withPin
  simp only [view_upd, fixed_mk, fixed_eta, apply_ite (State.view _), ite_self, Nat.reduceAnd, Nat.reduceDiv, Nat.reduceMod,
      Nat.zero_ne_one, implies_true, false_implies, Nat.div_one, kvSorted_kvPut, List.length_modify, List.length_map,
      List.length_set, List.length_mapIdx]

theorem pinActivate_view {k} (hk : k &&& 7042044 = k) (a0 s) : (pinActivate a0 s).view k = s.view k := by
  refine view_le hk ?_
  unfold pinActivate
  grind [view_upd, fixed_mk, fixed_eta, List.length_modify, withPin_view, advanceTo_view, State.bump32_view]

theorem pinMiss_view {k} (hk : k &&& 15430652 = k) (a0 s) : (pinMiss a0 s).view k = s.view k := by
  refine view_le hk ?_
  unfold pinMiss
  (repeat' split) <;> simp only [advanceTo_view, setDowelFlag_view, State.bump32_view, view_upd, fixed_mk, fixed_eta, apply_ite (State.view _), ite_self, Nat.reduceAnd, Nat.reduceDiv, Nat.reduceMod, Nat.zero_ne_one, implies_true, false_implies, Nat.div_one, kvSorted_kvPut, List.length_modify, List.length_map, List.length_set, List.length_mapIdx]

theorem jigCount_view {k} (hk : k &&& 16480252 = k) (a0 s) : (jigCount a0 s).view k = s.view k := by
  refine view_le hk ?_
  unfold jigCount
  simp only [jigFault_view, State.updJig_view, view_upd, fixed_mk, fixed_eta, apply_ite (State.view _), ite_self,
      Nat.reduceAnd, Nat.reduceDiv, Nat.reduceMod, Nat.zero_ne_one, implies_true, false_implies, Nat.div_one, kvSorted_kvPut,
      List.length_modify, List.length_map, List.length_set, List.length_mapIdx]

theorem jigDo_view {k} (hk : k &&& 16480252 = k) (a0 a1 s) : (jigDo a0 a1 s).view k = s.view k := by
  refine view_le hk ?_
  unfold jigDo
  simp only [jigCount_view, State.updJig_view, view_upd, fixed_mk, fixed_eta, apply_ite (State.view _), ite_self,
      Nat.reduceAnd, Nat.reduceDiv, Nat.reduceMod, Nat.zero_ne_one, implies_true, false_implies, Nat.div_one, kvSorted_kvPut,
      List.length_modify, List.length_map, List.length_set, List.length_mapIdx]

theorem jigGoto_view {k} (hk : k &&& 16480252 = k) (a0 a1 a2 s) : (jigGoto a0 a1 a2 s).view k = s.view k := by
  refine view_le hk ?_
  unfold jigGoto
  simp only [State.updJig_view, jigCount_view, view_upd, fixed_mk, fixed_eta, apply_ite (State.view _), ite_self,
      Nat.reduceAnd, Nat.reduceDiv, Nat.reduceMod, Nat.zero_ne_one, implies_true, false_implies, Nat.div_one, kvSorted_kvPut,
      List.length_modify, List.length_map, List.length_set, List.length_mapIdx]

theorem enginesStart_view {k} (hk : k &&& 16744447 = k) (s) : (enginesStart s).view k = s.view k := by
  refine view_le hk ?_
  unfold enginesStart
  simp only [view_upd, fixed_mk, fixed_eta, apply_ite (State.view _), ite_self, Nat.reduceAnd, Nat.reduceDiv, Nat.reduceMod,
      Nat.zero_ne_one, implies_true, false_implies, Nat.div_one, kvSorted_kvPut, List.length_modify, List.length_map,
      List.length_set, List.length_mapIdx]

theorem startDrain_view {k} (hk : k &&& 16744447 = k) (a0 s) : (startDrain a0 s).view k = s.view k := by
  refine view_le hk ?_
  unfold startDrain
  simp only [State.updEngine_view, view_upd, fixed_mk, fixed_eta, apply_ite (State.view _), ite_self, Nat.reduceAnd,
      Nat.reduceDiv, Nat.reduceMod, Nat.zero_ne_one, implies_true, false_implies, Nat.div_one, kvSorted_kvPut,
      List.length_modify, List.length_map, List.length_set, List.length_mapIdx]

theorem movePins_view {k} (hk : k &&& 16744447 = k) (a0 s) : (movePins a0 s).view k = s.view k := by
  refine view_le hk ?_
  unfold movePins
  simp only [view_upd, fixed_mk, fixed_eta, apply_ite (State.view _), ite_self, Nat.reduceAnd, Nat.reduceDiv, Nat.reduceMod,
      Nat.zero_ne_one, implies_true, false_implies, Nat.div_one, kvSorted_kvPut, List.length_modify, List.length_map,
      List.length_set, List.length_mapIdx]

theorem moveRunning_view {k} (hk : k &&& 16744447 = k) (a0 s) : (moveRunning a0 s).view k = s.view k := by
  refine view_le hk ?_
  unfold moveRunning
  (repeat' split) <;> simp only [State.updEngine_view, view_upd, fixed_mk, fixed_eta, apply_ite (State.view _), ite_self, Nat.reduceAnd, Nat.reduceDiv, Nat.reduceMod, Nat.zero_ne_one, implies_true, false_implies, Nat.div_one, kvSorted_kvPut, List.length_modify, List.length_map, List.length_set, List.length_mapIdx]

theorem updateComplete_view {k} (hk : k &&& 16482300 = k) (s) : (updateComplete s).view k = s.view k := by
  refine view_le hk ?_
  unfold updateComplete
  simp only [raise_view, setDowelFlag_view, view_upd, fixed_mk, fixed_eta, apply_ite (State.view _), ite_self,
      Nat.reduceAnd, Nat.reduceDiv, Nat.reduceMod, Nat.zero_ne_one, implies_true, false_implies, Nat.div_one, kvSorted_kvPut,
      List.length_modify, List.length_map, List.length_set, List.length_mapIdx]

theorem rollbackEnd_view {k} (hk : k &&& 16482300 = k) (s) : (rollbackEnd s).view k = s.view k := by
  refine view_le hk ?_
  unfold rollbackEnd
  simp only [raise_view, setDowelFlag_view, view_upd, fixed_mk, fixed_eta, apply_ite (State.view _), ite_self,
      Nat.reduceAnd, Nat.reduceDiv, Nat.reduceMod, Nat.zero_ne_one, implies_true, false_implies, Nat.div_one, kvSorted_kvPut,
      List.length_modify, List.length_map, List.length_set, List.length_mapIdx]

theorem rollbackNext_view {k} (hk : k &&& 16482300 = k) (s) : (rollbackNext s).view k = s.view k := by
  refine view_le hk ?_
  unfold rollbackNext
  (repeat' split) <;> simp only [startDrain_view, rollbackEnd_view, view_upd, fixed_mk, fixed_eta, apply_ite (State.view _), ite_self, Nat.reduceAnd, Nat.reduceDiv, Nat.reduceMod, Nat.zero_ne_one, implies_true, false_implies, Nat.div_one, kvSorted_kvPut, List.length_modify, List.length_map, List.length_set, List.length_mapIdx]

theorem rollbackStart_view {k} (hk : k &&& 16482300 = k) (a0 s) : (rollbackStart a0 s).view k = s.view k := by
  refine view_le hk ?_
  unfold rollbackStart
  simp only [rollbackNext_view, State.put_view, view_upd, fixed_mk, fixed_eta, apply_ite (State.view _), ite_self,
      Nat.reduceAnd, Nat.reduceDiv, Nat.reduceMod, Nat.zero_ne_one, implies_true, false_implies, Nat.div_one, kvSorted_kvPut,
      List.length_modify, List.length_map, List.length_set, List.length_mapIdx]

theorem updateFail_view {k} (hk : k &&& 16744445 = k) (a0 s) : (updateFail a0 s).view k = s.view k := by
  refine view_le hk ?_
  unfold updateFail
  simp only [setDowelFlag_view, State.put_view, view_upd, fixed_mk, fixed_eta, apply_ite (State.view _), ite_self,
      Nat.reduceAnd, Nat.reduceDiv, Nat.reduceMod, Nat.zero_ne_one, implies_true, false_implies, Nat.div_one, kvSorted_kvPut,
      List.length_modify, List.length_map, List.length_set, List.length_mapIdx]

theorem updateBegin_view {k} (hk : k &&& 16482300 = k) (s) : (updateBegin s).view k = s.view k := by
  refine view_le hk ?_
  unfold updateBegin
  grind [view_upd, fixed_mk, fixed_eta, List.length_modify, State.put_view, startDrain_view, updateComplete_view]

theorem drainDone_view {k} (hk : k &&& 16744447 = k) (a0 s) : (drainDone a0 s).view k = s.view k := by
  refine view_le hk ?_
  unfold drainDone
  simp only [State.updEngine_view, moveRunning_view, movePins_view, view_upd, fixed_mk, fixed_eta, apply_ite (State.view _),
      ite_self, Nat.reduceAnd, Nat.reduceDiv, Nat.reduceMod, Nat.zero_ne_one, implies_true, false_implies, Nat.div_one,
      kvSorted_kvPut, List.length_modify, List.length_map, List.length_set, List.length_mapIdx]

theorem reloadDone_view {k} (hk : k &&& 16744447 = k) (a0 s) : (reloadDone a0 s).view k = s.view k := by
  refine view_le hk ?_
  unfold reloadDone
  simp only [State.updEngine_view, view_upd, fixed_mk, fixed_eta, apply_ite (State.view _), ite_self, Nat.reduceAnd,
      Nat.reduceDiv, Nat.reduceMod, Nat.zero_ne_one, implies_true, false_implies, Nat.div_one, kvSorted_kvPut,
      List.length_modify, List.length_map, List.length_set, List.length_mapIdx]

theorem startDone_view {k} (hk : k &&& 16482300 = k) (a0 s) : (startDone a0 s).view k = s.view k := by
  refine view_le hk ?_
  unfold startDone
  grind [view_upd, fixed_mk, fixed_eta, List.length_modify, State.updEngine_view, rollbackNext_view, startDrain_view,
      updateComplete_view]

theorem drainTimeout_view {k} (hk : k &&& 15430652 = k) (a0 s) : (drainTimeout a0 s).view k = s.view k := by
  refine view_le hk ?_
  unfold drainTimeout
  simp only [advanceTo_view, rollbackStart_view, State.updEngine_view, view_upd, fixed_mk, fixed_eta, apply_ite (State.view
      _), ite_self, Nat.reduceAnd, Nat.reduceDiv, Nat.reduceMod, Nat.zero_ne_one, implies_true, false_implies, Nat.div_one,
      kvSorted_kvPut, List.length_modify, List.length_map, List.length_set, List.length_mapIdx]

theorem startTimeout_view {k} (hk : k &&& 15430652 = k) (a0 s) : (startTimeout a0 s).view k = s.view k := by
  refine view_le hk ?_
  unfold startTimeout
  simp only [advanceTo_view, rollbackStart_view, State.updEngine_view, view_upd, fixed_mk, fixed_eta, apply_ite (State.view
      _), ite_self, Nat.reduceAnd, Nat.reduceDiv, Nat.reduceMod, Nat.zero_ne_one, implies_true, false_implies, Nat.div_one,
      kvSorted_kvPut, List.length_modify, List.length_map, List.length_set, List.length_mapIdx]

theorem abandonOn_view {k} (hk : k &&& 16480252 = k) (a0 s) : (abandonOn a0 s).view k = s.view k := by
  refine view_le hk ?_
  unfold abandonOn
  simp (disch := (intros; first | done | (simp only [setDowelFlag_view, State.bump32_view, jigBad_view, State.updJig_view, view_upd, fixed_mk, fixed_eta, apply_ite (State.view _), ite_self, Nat.reduceAnd, Nat.reduceDiv, Nat.reduceMod, Nat.zero_ne_one, implies_true, false_implies, Nat.div_one, kvSorted_kvPut, List.length_modify, List.length_map, List.length_set, List.length_mapIdx]; done) | ((repeat' split) <;> simp only [setDowelFlag_view, State.bump32_view, jigBad_view, State.updJig_view, view_upd, fixed_mk, fixed_eta, apply_ite (State.view _), ite_self, Nat.reduceAnd, Nat.reduceDiv, Nat.reduceMod, Nat.zero_ne_one, implies_true, false_implies, Nat.div_one, kvSorted_kvPut, List.length_modify, List.length_map, List.length_set, List.length_mapIdx]; done) | grind [view_upd, fixed_mk, fixed_eta, List.length_modify, setDowelFlag_view, State.bump32_view, jigBad_view, State.updJig_view])) only [setDowelFlag_view, State.bump32_view, jigBad_view, State.updJig_view, view_upd, fixed_mk, fixed_eta, apply_ite (State.view _), ite_self, Nat.reduceAnd, Nat.reduceDiv, Nat.reduceMod, Nat.zero_ne_one, implies_true, false_implies, Nat.div_one, kvSorted_kvPut, List.length_modify, List.length_map, List.length_set, List.length_mapIdx, forEach_view, foldl_view]

theorem engineWatchdog_view {k} (hk : k &&& 16480252 = k) (a0 s) : (engineWatchdog a0 s).view k = s.view k := by
  refine view_le hk ?_
  unfold engineWatchdog
  simp only [setDowelFlag_view, raise_view, movePins_view, abandonOn_view, State.updEngine_view, rollbackStart_view,
      view_upd, fixed_mk, fixed_eta, apply_ite (State.view _), ite_self, Nat.reduceAnd, Nat.reduceDiv, Nat.reduceMod,
      Nat.zero_ne_one, implies_true, false_implies, Nat.div_one, kvSorted_kvPut, List.length_modify, List.length_map,
      List.length_set, List.length_mapIdx]

theorem jigControl_view {k} (hk : k &&& 16742397 = k) {a0 a1 s t} (h : jigControl a0 a1 s = .ok t) : t.view k = s.view k := by
  refine view_le hk ?_
  unfold jigControl at h
  (repeat' split at h) <;> (try replace h := needRange_ok h) <;> (try replace h := needState_ok h) <;> (try replace h := needRange_ok h) <;> (repeat' split at h) <;> first | (simp only [Host.Outcome.next.injEq, Except.ok.injEq, Option.some.injEq, reduceCtorEq] at h; (try subst h); (repeat' split); all_goals simp only [jigGo_view, jigHalt_view, State.updJig_view, view_upd, fixed_mk, fixed_eta, apply_ite (State.view _), ite_self, Nat.reduceAnd, Nat.reduceDiv, Nat.reduceMod, Nat.zero_ne_one, implies_true, false_implies, Nat.div_one, kvSorted_kvPut, List.length_modify, List.length_map, List.length_set, List.length_mapIdx])

theorem jigData_view {k} (hk : k &&& 16744447 = k) (a0 a1 s) : (jigData a0 a1 s).view k = s.view k := by
  refine view_le hk ?_
  unfold jigData
  simp only [State.updJig_view, view_upd, fixed_mk, fixed_eta, apply_ite (State.view _), ite_self, Nat.reduceAnd,
      Nat.reduceDiv, Nat.reduceMod, Nat.zero_ne_one, implies_true, false_implies, Nat.div_one, kvSorted_kvPut,
      List.length_modify, List.length_map, List.length_set, List.length_mapIdx]

theorem flashImageStart_view {k} (hk : k &&& 16220159 = k) {s t} (h : flashImageStart s = .ok t) : t.view k = s.view k := by
  refine view_le hk ?_
  unfold flashImageStart at h
  (repeat' split at h) <;> (try replace h := needRange_ok h) <;> (try replace h := needState_ok h) <;> (try replace h := needRange_ok h) <;> (repeat' split at h) <;> first | (simp only [Host.Outcome.next.injEq, Except.ok.injEq, Option.some.injEq, reduceCtorEq] at h; (try subst h); (repeat' split); all_goals simp only [view_upd, fixed_mk, fixed_eta, apply_ite (State.view _), ite_self, Nat.reduceAnd, Nat.reduceDiv, Nat.reduceMod, Nat.zero_ne_one, implies_true, false_implies, Nat.div_one, kvSorted_kvPut, List.length_modify, List.length_map, List.length_set, List.length_mapIdx])

theorem flashImageEnd_view {k} (hk : k &&& 15958012 = k) (a0 a1 s) : (flashImageEnd a0 a1 s).view k = s.view k := by
  refine view_le hk ?_
  unfold flashImageEnd
  (repeat' split) <;> simp only [flashDone_view, view_upd, fixed_mk, fixed_eta, apply_ite (State.view _), ite_self, Nat.reduceAnd, Nat.reduceDiv, Nat.reduceMod, Nat.zero_ne_one, implies_true, false_implies, Nat.div_one, kvSorted_kvPut, List.length_modify, List.length_map, List.length_set, List.length_mapIdx]

theorem dowelWrite_view {k} (hk : k &&& 16218109 = k) {a0 a1 a2 a3 s t} (h : dowelWrite a0 a1 a2 a3 s = .ok t) : t.view k =
    s.view k := by
  refine view_le hk ?_
  unfold dowelWrite at h
  (repeat' split at h) <;> (try replace h := needRange_ok h) <;> (try replace h := needState_ok h) <;> (try replace h := needRange_ok h) <;> (repeat' split at h) <;> first | exact flashImageStart_view (by decide) h | exact jigControl_view (by decide) h | (simp only [Host.Outcome.next.injEq, Except.ok.injEq, Option.some.injEq, reduceCtorEq] at h; (try subst h); (repeat' split); all_goals simp only [storeVal_view, jigLoad_view, jigData_view, view_upd, fixed_mk, fixed_eta, apply_ite (State.view _), ite_self, Nat.reduceAnd, Nat.reduceDiv, Nat.reduceMod, Nat.zero_ne_one, implies_true, false_implies, Nat.div_one, kvSorted_kvPut, List.length_modify, List.length_map, List.length_set, List.length_mapIdx])

theorem dowelRefused_view {k} (hk : k &&& 16777213 = k) (a0 a1 a2 s) : (dowelRefused a0 a1 a2 s).view k = s.view k := by
  refine view_le hk ?_
  unfold dowelRefused
  simp only [State.put_view, view_upd, fixed_mk, fixed_eta, apply_ite (State.view _), ite_self, Nat.reduceAnd,
      Nat.reduceDiv, Nat.reduceMod, Nat.zero_ne_one, implies_true, false_implies, Nat.div_one, kvSorted_kvPut,
      List.length_modify, List.length_map, List.length_set, List.length_mapIdx]

theorem violStatWrite_view {k} (hk : k &&& 12582911 = k) (a0 s) : (violStatWrite a0 s).view k = s.view k := by
  refine view_le hk ?_
  unfold violStatWrite
  simp only [view_upd, fixed_mk, fixed_eta, apply_ite (State.view _), ite_self, Nat.reduceAnd, Nat.reduceDiv, Nat.reduceMod,
      Nat.zero_ne_one, implies_true, false_implies, Nat.div_one, kvSorted_kvPut, List.length_modify, List.length_map,
      List.length_set, List.length_mapIdx]

theorem idWrite_view {k} (hk : k &&& 10355054 = k) (a0 a1 s) : (idWrite a0 a1 s).view k = s.view k := by
  refine view_le hk ?_
  unfold idWrite
  simp only [State.updRail_view, violStatWrite_view, view_upd, fixed_mk, fixed_eta, apply_ite (State.view _), ite_self,
      Nat.reduceAnd, Nat.reduceDiv, Nat.reduceMod, Nat.zero_ne_one, implies_true, false_implies, Nat.div_one, kvSorted_kvPut,
      List.length_modify, List.length_map, List.length_set, List.length_mapIdx]

end Sys2Proof.Machine
end

