-- ==== Sys2Proof/Laws/ViewObjects.lean ====
section
/-! SUPPORT. The frames of the functions of observation, violations, the objects and the Cut List engine: one lemma per function says which units of the state
it keeps (a mask of `State.view`), cited by the lemmas of its callers. -/

namespace Sys2Proof.Machine

open Sys2Proof

set_option linter.all false

theorem scribeArm_view {k} (hk : k &&& 15728637 = k) (s) : (scribeArm s).view k = s.view k := by
  refine view_le hk ?_
  unfold scribeArm
  simp only [State.put_view, scribeTime_view, view_upd, fixed_mk, fixed_eta, apply_ite (State.view _), ite_self,
      Nat.reduceAnd, Nat.reduceDiv, Nat.reduceMod, Nat.zero_ne_one, implies_true, false_implies, Nat.div_one, kvSorted_kvPut,
      List.length_modify, List.length_map, List.length_set, List.length_mapIdx]

theorem scribeDisarm_view {k} (hk : k &&& 15728638 = k) (s) : (scribeDisarm s).view k = s.view k := by
  refine view_le hk ?_
  unfold scribeDisarm
  simp only [stopReqPin_view, view_upd, fixed_mk, fixed_eta, apply_ite (State.view _), ite_self, Nat.reduceAnd,
      Nat.reduceDiv, Nat.reduceMod, Nat.zero_ne_one, implies_true, false_implies, Nat.div_one, kvSorted_kvPut,
      List.length_modify, List.length_map, List.length_set, List.length_mapIdx]

theorem scribeClear_view {k} (hk : k &&& 15728639 = k) (s) : (scribeClear s).view k = s.view k := by
  refine view_le hk ?_
  unfold scribeClear
  simp only [view_upd, fixed_mk, fixed_eta, apply_ite (State.view _), ite_self, Nat.reduceAnd, Nat.reduceDiv, Nat.reduceMod,
      Nat.zero_ne_one, implies_true, false_implies, Nat.div_one, kvSorted_kvPut, List.length_modify, List.length_map,
      List.length_set, List.length_mapIdx]

theorem scribeControl_view {k} (hk : k &&& 15466492 = k) {a0 s t} (h : scribeControl a0 s = .ok t) : t.view k = s.view k := by
  refine view_le hk ?_
  unfold scribeControl at h
  (repeat' split at h) <;> (try replace h := needRange_ok h) <;> (try replace h := needState_ok h) <;> (try replace h := needRange_ok h) <;> (repeat' split at h) <;> first | (simp only [Host.Outcome.next.injEq, Except.ok.injEq, Option.some.injEq, reduceCtorEq] at h; (try subst h); (repeat' split); all_goals simp only [scribeArm_view, scribeDisarm_view, scribeTrigger_view, scribeClear_view, view_upd, fixed_mk, fixed_eta, apply_ite (State.view _), ite_self, Nat.reduceAnd, Nat.reduceDiv, Nat.reduceMod, Nat.zero_ne_one, implies_true, false_implies, Nat.div_one, kvSorted_kvPut, List.length_modify, List.length_map, List.length_set, List.length_mapIdx])

theorem scribeTimeMark_view {k} (hk : k &&& 15463420 = k) (s) : (scribeTimeMark s).view k = s.view k := by
  refine view_le hk ?_
  unfold scribeTimeMark
  simp only [scribeTime_view, scribeRecover_view, advanceTo_view, view_upd, fixed_mk, fixed_eta, apply_ite (State.view _),
      ite_self, Nat.reduceAnd, Nat.reduceDiv, Nat.reduceMod, Nat.zero_ne_one, implies_true, false_implies, Nat.div_one,
      kvSorted_kvPut, List.length_modify, List.length_map, List.length_set, List.length_mapIdx]

theorem dumpArm_view {k} (hk : k &&& 15728639 = k) (s) : (dumpArm s).view k = s.view k := by
  refine view_le hk ?_
  unfold dumpArm
  simp only [dumpMoment_view, view_upd, fixed_mk, fixed_eta, apply_ite (State.view _), ite_self, Nat.reduceAnd,
      Nat.reduceDiv, Nat.reduceMod, Nat.zero_ne_one, implies_true, false_implies, Nat.div_one, kvSorted_kvPut,
      List.length_modify, List.length_map, List.length_set, List.length_mapIdx]

theorem dumpDisarm_view {k} (hk : k &&& 15728639 = k) (s) : (dumpDisarm s).view k = s.view k := by
  refine view_le hk ?_
  unfold dumpDisarm
  simp only [view_upd, fixed_mk, fixed_eta, apply_ite (State.view _), ite_self, Nat.reduceAnd, Nat.reduceDiv, Nat.reduceMod,
      Nat.zero_ne_one, implies_true, false_implies, Nat.div_one, kvSorted_kvPut, List.length_modify, List.length_map,
      List.length_set, List.length_mapIdx]

theorem dumpControl_view {k} (hk : k &&& 15728639 = k) {a0 s t} (h : dumpControl a0 s = .ok t) : t.view k = s.view k := by
  refine view_le hk ?_
  unfold dumpControl at h
  (repeat' split at h) <;> (try replace h := needRange_ok h) <;> (try replace h := needState_ok h) <;> (try replace h := needRange_ok h) <;> (repeat' split at h) <;> first | (simp only [Host.Outcome.next.injEq, Except.ok.injEq, Option.some.injEq, reduceCtorEq] at h; (try subst h); (repeat' split); all_goals simp only [dumpArm_view, dumpDisarm_view, view_upd, fixed_mk, fixed_eta, apply_ite (State.view _), ite_self, Nat.reduceAnd, Nat.reduceDiv, Nat.reduceMod, Nat.zero_ne_one, implies_true, false_implies, Nat.div_one, kvSorted_kvPut, List.length_modify, List.length_map, List.length_set, List.length_mapIdx])

theorem dumpCopy_view {k} (hk : k &&& 15728639 = k) (s) : (dumpCopy s).view k = s.view k := by
  refine view_le hk ?_
  unfold dumpCopy
  grind [view_upd, fixed_mk, fixed_eta, List.length_modify]

theorem dumpDone_view {k} (hk : k &&& 15466492 = k) (s) : (dumpDone s).view k = s.view k := by
  refine view_le hk ?_
  unfold dumpDone
  simp only [setStopFlag_view, raise_view, view_upd, fixed_mk, fixed_eta, apply_ite (State.view _), ite_self, Nat.reduceAnd,
      Nat.reduceDiv, Nat.reduceMod, Nat.zero_ne_one, implies_true, false_implies, Nat.div_one, kvSorted_kvPut,
      List.length_modify, List.length_map, List.length_set, List.length_mapIdx]

theorem graphStart_view {k} (hk : k &&& 15728639 = k) {s t} (h : graphStart s = .ok t) : t.view k = s.view k := by
  refine view_le hk ?_
  unfold graphStart at h
  grind [view_upd, fixed_mk, fixed_eta, List.length_modify, graphBegin_view]

theorem graphRefused_view {k} (hk : k &&& 15728639 = k) (s) : (graphRefused s).view k = s.view k := by
  refine view_le hk ?_
  unfold graphRefused
  simp only [view_upd, fixed_mk, fixed_eta, apply_ite (State.view _), ite_self, Nat.reduceAnd, Nat.reduceDiv, Nat.reduceMod,
      Nat.zero_ne_one, implies_true, false_implies, Nat.div_one, kvSorted_kvPut, List.length_modify, List.length_map,
      List.length_set, List.length_mapIdx]

theorem graphDone_view {k} (hk : k &&& 7077884 = k) (s) : (graphDone s).view k = s.view k := by
  refine view_le hk ?_
  unfold graphDone
  simp only [State.put_view, setStopFlag_view, State.takeFree_view, raise_view, trigStop_view, view_upd, fixed_mk,
      fixed_eta, apply_ite (State.view _), ite_self, Nat.reduceAnd, Nat.reduceDiv, Nat.reduceMod, Nat.zero_ne_one, implies_true,
      false_implies, Nat.div_one, kvSorted_kvPut, List.length_modify, List.length_map, List.length_set, List.length_mapIdx]

theorem stopDeliver_view {k} (hk : k &&& 7068268 = k) (a0 a1 a2 a3 s) : (stopDeliver a0 a1 a2 a3 s).view k = s.view k := by
  refine view_le hk ?_
  unfold stopDeliver
  simp only [scribeMatch_view, ffWithdraw_view, view_upd, fixed_mk, fixed_eta, apply_ite (State.view _), ite_self,
      Nat.reduceAnd, Nat.reduceDiv, Nat.reduceMod, Nat.zero_ne_one, implies_true, false_implies, Nat.div_one, kvSorted_kvPut,
      List.length_modify, List.length_map, List.length_set, List.length_mapIdx]

theorem stopEnter_view {k} (hk : k &&& 15466492 = k) (s) : (stopEnter s).view k = s.view k := by
  refine view_le hk ?_
  unfold stopEnter
  simp only [setStopFlag_view, State.countFixed_view, raise_view, view_upd, fixed_mk, fixed_eta, apply_ite (State.view _),
      ite_self, Nat.reduceAnd, Nat.reduceDiv, Nat.reduceMod, Nat.zero_ne_one, implies_true, false_implies, Nat.div_one,
      kvSorted_kvPut, List.length_modify, List.length_map, List.length_set, List.length_mapIdx]

theorem trigReqClear_view {k} (hk : k &&& 15463420 = k) (s) : (trigReqClear s).view k = s.view k := by
  refine view_le hk ?_
  unfold trigReqClear
  simp only [advanceTo_view, stopReqPin_view, view_upd, fixed_mk, fixed_eta, apply_ite (State.view _), ite_self,
      Nat.reduceAnd, Nat.reduceDiv, Nat.reduceMod, Nat.zero_ne_one, implies_true, false_implies, Nat.div_one, kvSorted_kvPut,
      List.length_modify, List.length_map, List.length_set, List.length_mapIdx]

theorem stopStatWrite_view {k} (hk : k &&& 15728638 = k) (a0 a1 s) : (stopStatWrite a0 a1 s).view k = s.view k := by
  refine view_le hk ?_
  unfold stopStatWrite
  simp only [stopReqPin_view, view_upd, fixed_mk, fixed_eta, apply_ite (State.view _), ite_self, Nat.reduceAnd,
      Nat.reduceDiv, Nat.reduceMod, Nat.zero_ne_one, implies_true, false_implies, Nat.div_one, kvSorted_kvPut,
      List.length_modify, List.length_map, List.length_set, List.length_mapIdx]

theorem counterSelect_view {k} (hk : k &&& 15728639 = k) {n w strb s t} (h : counterSelect n w strb s = some t) : t.view k =
    s.view k := by
  refine view_le hk ?_
  have hp : ∀ o : Obs, State.view 15728639 { s with obs := o } = s.view 15728639 := fun o => by simp only [view_upd,
      fixed_mk, fixed_eta, apply_ite (State.view _), ite_self, Nat.reduceAnd, Nat.reduceDiv, Nat.reduceMod, Nat.zero_ne_one,
      implies_true, false_implies, kvSorted_kvPut, List.length_modify, List.length_map, List.length_set, List.length_mapIdx]
  unfold counterSelect at h
  dsimp only at h
  split at h
  · cases h
  · rw [← Option.some.inj h, hp]

theorem debugPush_view {k} (hk : k &&& 15728639 = k) {a0 s t} (h : debugPush a0 s = some t) : t.view k = s.view k := by
  refine view_le hk ?_
  unfold debugPush at h
  (repeat' split at h) <;> simp only [Host.Outcome.next.injEq, Except.ok.injEq, Option.some.injEq, reduceCtorEq] at h <;> subst h <;> simp only [view_upd, fixed_mk, fixed_eta, apply_ite (State.view _), ite_self, Nat.reduceAnd, Nat.reduceDiv, Nat.reduceMod, Nat.zero_ne_one, implies_true, false_implies, Nat.div_one, kvSorted_kvPut, List.length_modify, List.length_map, List.length_set, List.length_mapIdx]

theorem ite_snd_view {k : Nat} {c : Prop} [Decidable c] {a b : Nat × State} {s : State} (ha : a.2.view k = s.view k)
    (hb : b.2.view k = s.view k) : (if c then a else b).2.view k = s.view k := by
  split
  · exact ha
  · exact hb

theorem obsWriteReg_view {k} (hk : k &&& 15728638 = k) (o w strb s) : (obsWriteReg o w strb s).2.view k = s.view k := by
  refine view_le hk ?_
  unfold obsWriteReg
  refine ite_snd_view (stopStatWrite_view (by decide) _ _ _) (ite_snd_view ?_ (ite_snd_view ?_ (ite_snd_view ?_ (ite_snd_view ?_
    (ite_snd_view ?_ (ite_snd_view ?_ ?_))))))
  · dsimp only; split
    · exact snapshot_view (by decide) _
    · rfl
  · refine ite_snd_view ?_ ?_
    · rfl
    generalize h : counterSelect ((o - 0x080) / 8) w strb s = x
    cases x with
    | none => rfl
    | some t => exact counterSelect_view (by decide) h
  · refine ite_snd_view ?_ ?_ <;> simp only [view_upd, fixed_mk, fixed_eta, apply_ite (State.view _), ite_self, Nat.reduceAnd, Nat.reduceDiv, Nat.reduceMod, Nat.zero_ne_one, implies_true, false_implies, kvSorted_kvPut, List.length_modify, List.length_map, List.length_set, List.length_mapIdx]
  · simp only [view_upd, fixed_mk, fixed_eta, apply_ite (State.view _), ite_self, Nat.reduceAnd, Nat.reduceDiv,
      Nat.reduceMod, Nat.zero_ne_one, implies_true, false_implies, kvSorted_kvPut, List.length_modify, List.length_map,
      List.length_set, List.length_mapIdx]
  · refine ite_snd_view ?_ ?_
    · rfl
    generalize h : debugPush (strobed w strb) s = x
    cases x with
    | none => rfl
    | some t => exact debugPush_view (by decide) h
  · rfl
  · refine ite_snd_view ?_ (ite_snd_view (ite_snd_view ?_ (ite_snd_view ?_ ?_)) (ite_snd_view (ite_snd_view ?_ ?_)
      (ite_snd_view ?_ (ite_snd_view ?_ (ite_snd_view ?_ ?_))))) <;> simp only [view_upd, fixed_mk, fixed_eta, apply_ite (State.view _), ite_self, Nat.reduceAnd, Nat.reduceDiv, Nat.reduceMod, Nat.zero_ne_one, implies_true, false_implies, kvSorted_kvPut, List.length_modify, List.length_map, List.length_set, List.length_mapIdx]

theorem obsWrite_view {k} (hk : k &&& 15466492 = k) {i sub v b s t} (h : obsWrite i sub v b s = .ok t) : t.view k = s.view k
    := by
  unfold obsWrite at h
  revert h
  have hs : (Except.ok (storeVal i sub v b s) : Except Nat State) = .ok t → t.view k = s.view k := fun h => by rw [←
      Except.ok.inj h, storeVal_view (view_trans hk (by decide))]
  refine ite_ok_view (fun h => scribeControl_view (view_trans hk (by decide)) h) ?_
  refine ite_ok_view (fun h => hs (needState_ok h)) ?_
  refine ite_ok_view (fun h => dumpControl_view (view_trans hk (by decide)) h) ?_
  exact ite_ok_view (fun h => graphStart_view (view_trans hk (by decide)) h) hs

theorem logViolation_view {k} (hk : k &&& 12582909 = k) (a0 a1 a2 s) : (logViolation a0 a1 a2 s).view k = s.view k := by
  refine view_le hk ?_
  unfold logViolation
  simp only [State.bump32_view, view_upd, fixed_mk, fixed_eta, apply_ite (State.view _), ite_self, Nat.reduceAnd,
      Nat.reduceDiv, Nat.reduceMod, Nat.zero_ne_one, implies_true, false_implies, Nat.div_one, kvSorted_kvPut,
      List.length_modify, List.length_map, List.length_set, List.length_mapIdx]

theorem violEvent_view {k} (hk : k &&& 12320764 = k) (a0 a1 a2 s) : (violEvent a0 a1 a2 s).view k = s.view k := by
  refine view_le hk ?_
  unfold violEvent
  simp only [raiseP_view, State.bump32_view, view_upd, fixed_mk, fixed_eta, apply_ite (State.view _), ite_self,
      Nat.reduceAnd, Nat.reduceDiv, Nat.reduceMod, Nat.zero_ne_one, implies_true, false_implies, Nat.div_one, kvSorted_kvPut,
      List.length_modify, List.length_map, List.length_set, List.length_mapIdx]

theorem violate_view {k} (hk : k &&& 12320764 = k) (a0 a1 a2 s) : (violate a0 a1 a2 s).view k = s.view k := by
  refine view_le hk ?_
  unfold violate
  simp only [violEvent_view, State.bump32_view, logViolation_view, view_upd, fixed_mk, fixed_eta, apply_ite (State.view _),
      ite_self, Nat.reduceAnd, Nat.reduceDiv, Nat.reduceMod, Nat.zero_ne_one, implies_true, false_implies, Nat.div_one,
      kvSorted_kvPut, List.length_modify, List.length_map, List.length_set, List.length_mapIdx]

theorem violRearm_view {k} (hk : k &&& 12582911 = k) (s) : (violRearm s).view k = s.view k := by
  refine view_le hk ?_
  unfold violRearm
  simp only [view_upd, fixed_mk, fixed_eta, apply_ite (State.view _), ite_self, Nat.reduceAnd, Nat.reduceDiv, Nat.reduceMod,
      Nat.zero_ne_one, implies_true, false_implies, Nat.div_one, kvSorted_kvPut, List.length_modify, List.length_map,
      List.length_set, List.length_mapIdx]

theorem genAdvance_view {k} (hk : k &&& 8978424 = k) (a0 a1 s) : (genAdvance a0 a1 s).view k = s.view k := by
  refine view_le hk ?_
  unfold genAdvance
  simp only [recGeneration_view, syncGeneration_view, dmaGeneration_view, State.put_view, raiseP_view, view_upd, fixed_mk,
      fixed_eta, apply_ite (State.view _), ite_self, Nat.reduceAnd, Nat.reduceDiv, Nat.reduceMod, Nat.zero_ne_one, implies_true,
      false_implies, Nat.div_one, kvSorted_kvPut, List.length_modify, List.length_map, List.length_set, List.length_mapIdx]

theorem genWrite_view {k} (hk : k &&& 8978424 = k) {a0 a1 a2 s t} (h : genWrite a0 a1 a2 s = .ok t) : t.view k = s.view k := by
  refine view_le hk ?_
  unfold genWrite at h
  (repeat' split at h) <;> (try replace h := needRange_ok h) <;> (try replace h := needState_ok h) <;> (try replace h := needRange_ok h) <;> (repeat' split at h) <;> first | (simp only [Host.Outcome.next.injEq, Except.ok.injEq, Option.some.injEq, reduceCtorEq] at h; (try subst h); (repeat' split); all_goals simp only [genAdvance_view, view_upd, fixed_mk, fixed_eta, apply_ite (State.view _), ite_self, Nat.reduceAnd, Nat.reduceDiv, Nat.reduceMod, Nat.zero_ne_one, implies_true, false_implies, Nat.div_one, kvSorted_kvPut, List.length_modify, List.length_map, List.length_set, List.length_mapIdx])

theorem violWrite_view {k} (hk : k &&& 8978424 = k) {i sub v b cls s t} (h : violWrite i sub v b cls s = .ok t) : t.view k =
    s.view k := by
  unfold violWrite at h
  revert h
  have hs : (Except.ok (storeVal i sub v b s) : Except Nat State) = .ok t → t.view k = s.view k := fun h => by rw [←
      Except.ok.inj h, storeVal_view (view_trans hk (by decide))]
  exact ite_ok_view (fun h => genWrite_view (view_trans hk (by decide)) h) (ite_ok_view (fun h => by rw [← Except.ok.inj h,
      violRearm_view (view_trans hk (by decide))]) hs)

theorem State.updChan_view {k} (hk : k &&& 16777211 = k) (s a1 a2) : (State.updChan s a1 a2).view k = s.view k := by
  refine view_le hk ?_
  unfold State.updChan
  (repeat' split) <;> simp only [view_upd, fixed_mk, fixed_eta, apply_ite (State.view _), ite_self, Nat.reduceAnd, Nat.reduceDiv, Nat.reduceMod, Nat.zero_ne_one, implies_true, false_implies, Nat.div_one, kvSorted_kvPut, List.length_modify, List.length_map, List.length_set, List.length_mapIdx]

theorem storeBegin_view {k} (hk : k &&& 16777211 = k) {s t} (h : storeBegin s = .ok t) : t.view k = s.view k := by
  refine view_le hk ?_
  unfold storeBegin at h
  (repeat' split at h) <;> simp only [Host.Outcome.next.injEq, Except.ok.injEq, Option.some.injEq, reduceCtorEq] at h <;> subst h <;> simp only [view_upd, fixed_mk, fixed_eta, apply_ite (State.view _), ite_self, Nat.reduceAnd, Nat.reduceDiv, Nat.reduceMod, Nat.zero_ne_one, implies_true, false_implies, Nat.div_one, kvSorted_kvPut, List.length_modify, List.length_map, List.length_set, List.length_mapIdx]

theorem storeEnd_view {k} (hk : k &&& 15990776 = k) (a0 s) : (storeEnd a0 s).view k = s.view k := by
  refine view_le hk ?_
  unfold storeEnd
  simp only [flashDone_view, raise_view, view_upd, fixed_mk, fixed_eta, apply_ite (State.view _), ite_self, Nat.reduceAnd,
      Nat.reduceDiv, Nat.reduceMod, Nat.zero_ne_one, implies_true, false_implies, Nat.div_one, kvSorted_kvPut,
      List.length_modify, List.length_map, List.length_set, List.length_mapIdx]

theorem storeWipe_view {k} (hk : k &&& 16252923 = k) {s t} (h : storeWipe s = .ok t) : t.view k = s.view k := by
  refine view_le hk ?_
  unfold storeWipe at h
  (repeat' split at h) <;> simp only [Host.Outcome.next.injEq, Except.ok.injEq, Option.some.injEq, reduceCtorEq] at h <;> subst h <;> simp only [view_upd, fixed_mk, fixed_eta, apply_ite (State.view _), ite_self, Nat.reduceAnd, Nat.reduceDiv, Nat.reduceMod, Nat.zero_ne_one, implies_true, false_implies, Nat.div_one, kvSorted_kvPut, List.length_modify, List.length_map, List.length_set, List.length_mapIdx]

theorem sysWrite_view {k} (hk : k &&& 16252921 = k) {a0 a1 a2 a3 a4 s t} (h : sysWrite a0 a1 a2 a3 a4 s = .ok t) : t.view k
    = s.view k := by
  refine view_le hk ?_
  unfold sysWrite at h
  (repeat' split at h) <;> (try replace h := needRange_ok h) <;> (try replace h := needState_ok h) <;> (try replace h := needRange_ok h) <;> (repeat' split at h) <;> first | exact storeBegin_view (by decide) h | exact storeWipe_view (by decide) h | (simp only [Host.Outcome.next.injEq, Except.ok.injEq, Option.some.injEq, reduceCtorEq] at h; (try subst h); (repeat' split); all_goals simp only [State.updChan_view, storeVal_view, view_upd, fixed_mk, fixed_eta, apply_ite (State.view _), ite_self, Nat.reduceAnd, Nat.reduceDiv, Nat.reduceMod, Nat.zero_ne_one, implies_true, false_implies, Nat.div_one, kvSorted_kvPut, List.length_modify, List.length_map, List.length_set, List.length_mapIdx])

theorem diagWrite_view {k} (hk : k &&& 16515064 = k) {a0 s t} (h : diagWrite a0 s = .ok t) : t.view k = s.view k := by
  refine view_le hk ?_
  unfold diagWrite at h
  (repeat' split at h) <;> simp only [Host.Outcome.next.injEq, Except.ok.injEq, Option.some.injEq, reduceCtorEq] at h <;> subst h <;> simp only [raise_view, view_upd, fixed_mk, fixed_eta, apply_ite (State.view _), ite_self, Nat.reduceAnd, Nat.reduceDiv, Nat.reduceMod, Nat.zero_ne_one, implies_true, false_implies, Nat.div_one, kvSorted_kvPut, List.length_modify, List.length_map, List.length_set, List.length_mapIdx]

theorem commitSlot_view {k} (hk : k &&& 16252927 = k) {s t} (h : commitSlot s = .ok t) : t.view k = s.view k := by
  refine view_le hk ?_
  unfold commitSlot at h
  (repeat' split at h) <;> (try replace h := needRange_ok h) <;> (try replace h := needState_ok h) <;> (try replace h := needRange_ok h) <;> (repeat' split at h) <;> first | (simp only [Host.Outcome.next.injEq, Except.ok.injEq, Option.some.injEq, reduceCtorEq] at h; (try subst h); (repeat' split); all_goals simp only [hdrAppend_view, view_upd, fixed_mk, fixed_eta, apply_ite (State.view _), ite_self, Nat.reduceAnd, Nat.reduceDiv, Nat.reduceMod, Nat.zero_ne_one, implies_true, false_implies, Nat.div_one, kvSorted_kvPut, List.length_modify, List.length_map, List.length_set, List.length_mapIdx])

theorem takeChannel_view {k} (hk : k &&& 16646143 = k) {c use g s t} (h : takeChannel c use g s = .ok t) (hg : ∀ u, g = .ok
    u → u.view k = s.view k) :
    t.view k = s.view k := by
  unfold takeChannel at h
  cases g with
  | error e => cases h
  | ok u =>
    dsimp only at h
    split at h
    · rw [← Except.ok.inj h, dmaTake_view (view_trans hk (by decide)), hg u rfl]
    · cases h

theorem objWrite_view {k} (hk : k &&& 0 = k) {w i sub v b s t} (h : objWrite w i sub v b s = .ok t) : t.view k = s.view k := by
  unfold objWrite at h
  revert h
  refine ite_ok_view (fun h => sysWrite_view (view_trans hk (by decide)) h) ?_
  refine ite_ok_view (fun h => chainWrite_view (view_trans hk (by decide)) h) ?_
  refine ite_ok_view (fun h => clkWrite_view (view_trans hk (by decide)) h) ?_
  refine ite_ok_view (fun h => commitSlot_view (view_trans hk (by decide)) h) ?_
  refine ite_ok_view (fun h => takeChannel_view (view_trans hk (by decide)) h (fun _ hu => dowelWrite_view (view_trans hk (by decide)) hu)) ?_
  refine ite_ok_view (fun h => dowelWrite_view (view_trans hk (by decide)) h) ?_
  refine ite_ok_view (fun h => syncWrite_view (view_trans hk (by decide)) h) ?_
  refine ite_ok_view (fun h => dmaWrite_view (view_trans hk (by decide)) h) ?_
  refine ite_ok_view (fun h => mgtWrite_view (view_trans hk (by decide)) h) ?_
  refine ite_ok_view (fun h => railsWrite_view (view_trans hk (by decide)) h) ?_
  refine ite_ok_view (fun h => shimsWrite_view (view_trans hk (by decide)) h) ?_
  refine ite_ok_view (fun h => thermWrite_view (view_trans hk (by decide)) h) ?_
  refine ite_ok_view (fun h => capWrite_view (view_trans hk (by decide)) h) ?_
  refine ite_ok_view (fun h => violWrite_view (view_trans hk (by decide)) h) ?_
  refine ite_ok_view (fun h => clampWrite_view (view_trans hk (by decide)) h) ?_
  refine ite_ok_view (fun h => doveWrite_view (view_trans hk (by decide)) h) ?_
  refine ite_ok_view (fun h => takeChannel_view (view_trans hk (by decide)) h (fun _ hu => ffWrite_view (view_trans hk (by decide)) hu)) ?_
  refine ite_ok_view (fun h => ffWrite_view (view_trans hk (by decide)) h) ?_
  refine ite_ok_view (fun h => recWrite_view (view_trans hk (by decide)) h) ?_
  refine ite_ok_view (fun h => obsWrite_view (view_trans hk (by decide)) h) ?_
  exact fun h => diagWrite_view (view_trans hk (by decide)) h

theorem objRefused_view {k} (hk : k &&& 15728637 = k) (a0 a1 a2 s) : (objRefused a0 a1 a2 s).view k = s.view k := by
  refine view_le hk ?_
  unfold objRefused
  simp only [graphRefused_view, dowelRefused_view, view_upd, fixed_mk, fixed_eta, apply_ite (State.view _), ite_self,
      Nat.reduceAnd, Nat.reduceDiv, Nat.reduceMod, Nat.zero_ne_one, implies_true, false_implies, Nat.div_one, kvSorted_kvPut,
      List.length_modify, List.length_map, List.length_set, List.length_mapIdx]

theorem checkedWrite_view {k} (hk : k &&& 0 = k) {a0 a1 a2 a3 s t} (h : checkedWrite a0 a1 a2 a3 s = .ok t) : t.view k =
    s.view k := by
  refine view_le hk ?_
  unfold checkedWrite at h
  (repeat' split at h) <;> (try replace h := needRange_ok h) <;> (try replace h := needState_ok h) <;> (try replace h := needRange_ok h) <;> (repeat' split at h) <;> first | exact objWrite_view (by decide) h | (simp only [Host.Outcome.next.injEq, Except.ok.injEq, Option.some.injEq, reduceCtorEq] at h; (try subst h); (repeat' split); all_goals simp only [view_upd, fixed_mk, fixed_eta, apply_ite (State.view _), ite_self, Nat.reduceAnd, Nat.reduceDiv, Nat.reduceMod, Nat.zero_ne_one, implies_true, false_implies, Nat.div_one, kvSorted_kvPut, List.length_modify, List.length_map, List.length_set, List.length_mapIdx])

theorem putRaw_view {k} (hk : k &&& 16777213 = k) (a0 s) : (putRaw a0 s).view k = s.view k := by
  refine view_le hk ?_
  unfold putRaw
  (repeat' split) <;> simp only [storeVal_view, view_upd, fixed_mk, fixed_eta, apply_ite (State.view _), ite_self, Nat.reduceAnd, Nat.reduceDiv, Nat.reduceMod, Nat.zero_ne_one, implies_true, false_implies, Nat.div_one, kvSorted_kvPut, List.length_modify, List.length_map, List.length_set, List.length_mapIdx]

theorem toDefault_view {k} (hk : k &&& 0 = k) (a0 a1 s) : (toDefault a0 a1 s).view k = s.view k := by
  refine view_le hk ?_
  unfold toDefault
  grind [view_upd, fixed_mk, fixed_eta, List.length_modify, State.put_view, → objWrite_view]

theorem noteDefault_view {k} (hk : k &&& 16515068 = k) (a0 s) : (noteDefault a0 s).view k = s.view k := by
  refine view_le hk ?_
  unfold noteDefault
  simp only [raise_view, view_upd, fixed_mk, fixed_eta, apply_ite (State.view _), ite_self, Nat.reduceAnd, Nat.reduceDiv,
      Nat.reduceMod, Nat.zero_ne_one, implies_true, false_implies, Nat.div_one, kvSorted_kvPut, List.length_modify,
      List.length_map, List.length_set, List.length_mapIdx]

theorem applyStored_view {k} (hk : k &&& 0 = k) (a0 s) : (applyStored a0 s).view k = s.view k := by
  refine view_le hk ?_
  unfold applyStored
  grind [view_upd, fixed_mk, fixed_eta, List.length_modify, putRaw_view, → checkedWrite_view]

theorem functionDefaults_view {k} (hk : k &&& 0 = k) (a0 s) : (functionDefaults a0 s).view k = s.view k := by
  refine view_le hk ?_
  unfold functionDefaults
  simp (disch := (intros; first | done | (simp only [toDefault_view, noteDefault_view, applyStored_view, view_upd, fixed_mk, fixed_eta, apply_ite (State.view _), ite_self, Nat.reduceAnd, Nat.reduceDiv, Nat.reduceMod, Nat.zero_ne_one, implies_true, false_implies, Nat.div_one, kvSorted_kvPut, List.length_modify, List.length_map, List.length_set, List.length_mapIdx]; done) | ((repeat' split) <;> simp only [toDefault_view, noteDefault_view, applyStored_view, view_upd, fixed_mk, fixed_eta, apply_ite (State.view _), ite_self, Nat.reduceAnd, Nat.reduceDiv, Nat.reduceMod, Nat.zero_ne_one, implies_true, false_implies, Nat.div_one, kvSorted_kvPut, List.length_modify, List.length_map, List.length_set, List.length_mapIdx]; done) | grind [view_upd, fixed_mk, fixed_eta, List.length_modify, toDefault_view, noteDefault_view, applyStored_view])) only [toDefault_view, noteDefault_view, applyStored_view, view_upd, fixed_mk, fixed_eta, apply_ite (State.view _), ite_self, Nat.reduceAnd, Nat.reduceDiv, Nat.reduceMod, Nat.zero_ne_one, implies_true, false_implies, Nat.div_one, kvSorted_kvPut, List.length_modify, List.length_map, List.length_set, List.length_mapIdx, forEach_view, foldl_view]

theorem isolatedDefault_view {k} (hk : k &&& 16777213 = k) (s) : (isolatedDefault s).view k = s.view k := by
  refine view_le hk ?_
  unfold isolatedDefault
  (repeat' split) <;> simp only [State.put_view, view_upd, fixed_mk, fixed_eta, apply_ite (State.view _), ite_self, Nat.reduceAnd, Nat.reduceDiv, Nat.reduceMod, Nat.zero_ne_one, implies_true, false_implies, Nat.div_one, kvSorted_kvPut, List.length_modify, List.length_map, List.length_set, List.length_mapIdx]

theorem becomeReady_view {k} (hk : k &&& 0 = k) (a0 s) : (becomeReady a0 s).view k = s.view k := by
  refine view_le hk ?_
  unfold becomeReady
  simp only [functionDefaults_view, isolatedDefault_view, queueOwn_view, setReady_view, view_upd, fixed_mk, fixed_eta,
      apply_ite (State.view _), ite_self, Nat.reduceAnd, Nat.reduceDiv, Nat.reduceMod, Nat.zero_ne_one, implies_true,
      false_implies, Nat.div_one, kvSorted_kvPut, List.length_modify, List.length_map, List.length_set, List.length_mapIdx]

theorem loaderApply_view {k} (hk : k &&& 0 = k) (s) : (loaderApply s).view k = s.view k := by
  refine view_le hk ?_
  unfold loaderApply
  simp (disch := (intros; first | done | (simp only [functionDefaults_view, view_upd, fixed_mk, fixed_eta, apply_ite (State.view _), ite_self, Nat.reduceAnd, Nat.reduceDiv, Nat.reduceMod, Nat.zero_ne_one, implies_true, false_implies, Nat.div_one, kvSorted_kvPut, List.length_modify, List.length_map, List.length_set, List.length_mapIdx]; done) | ((repeat' split) <;> simp only [functionDefaults_view, view_upd, fixed_mk, fixed_eta, apply_ite (State.view _), ite_self, Nat.reduceAnd, Nat.reduceDiv, Nat.reduceMod, Nat.zero_ne_one, implies_true, false_implies, Nat.div_one, kvSorted_kvPut, List.length_modify, List.length_map, List.length_set, List.length_mapIdx]; done) | grind [view_upd, fixed_mk, fixed_eta, List.length_modify, functionDefaults_view])) only [functionDefaults_view, view_upd, fixed_mk, fixed_eta, apply_ite (State.view _), ite_self, Nat.reduceAnd, Nat.reduceDiv, Nat.reduceMod, Nat.zero_ne_one, implies_true, false_implies, Nat.div_one, kvSorted_kvPut, List.length_modify, List.length_map, List.length_set, List.length_mapIdx, forEach_view, foldl_view]

theorem clCount_view {k} (hk : k &&& 16777213 = k) (a0 s) : (clCount a0 s).view k = s.view k := by
  refine view_le hk ?_
  unfold clCount
  simp only [State.add64_view, view_upd, fixed_mk, fixed_eta, apply_ite (State.view _), ite_self, Nat.reduceAnd,
      Nat.reduceDiv, Nat.reduceMod, Nat.zero_ne_one, implies_true, false_implies, Nat.div_one, kvSorted_kvPut,
      List.length_modify, List.length_map, List.length_set, List.length_mapIdx]

theorem clDeny_view {k} (hk : k &&& 16515068 = k) (a0 a1 s) : (clDeny a0 a1 s).view k = s.view k := by
  refine view_le hk ?_
  unfold clDeny
  simp only [State.bump32_view, raiseP_view, view_upd, fixed_mk, fixed_eta, apply_ite (State.view _), ite_self,
      Nat.reduceAnd, Nat.reduceDiv, Nat.reduceMod, Nat.zero_ne_one, implies_true, false_implies, Nat.div_one, kvSorted_kvPut,
      List.length_modify, List.length_map, List.length_set, List.length_mapIdx]

theorem jigAnswer_view {k} (hk : k &&& 8091644 = k) (a0 a1 a2 s) : (jigAnswer a0 a1 a2 s).view k = s.view k := by
  refine view_le hk ?_
  unfold jigAnswer
  simp only [jigDo_view, State.takeFree_view, view_upd, fixed_mk, fixed_eta, apply_ite (State.view _), ite_self,
      Nat.reduceAnd, Nat.reduceDiv, Nat.reduceMod, Nat.zero_ne_one, implies_true, false_implies, Nat.div_one, kvSorted_kvPut,
      List.length_modify, List.length_map, List.length_set, List.length_mapIdx]

theorem clRsp_view {k} (hk : k &&& 15728631 = k) (a0 a1 a2 a3 s) : (clRsp a0 a1 a2 a3 s).view k = s.view k := by
  refine view_le hk ?_
  unfold clRsp
  simp only [sendTo_view, view_upd, fixed_mk, fixed_eta, apply_ite (State.view _), ite_self, Nat.reduceAnd, Nat.reduceDiv,
      Nat.reduceMod, Nat.zero_ne_one, implies_true, false_implies, Nat.div_one, kvSorted_kvPut, List.length_modify,
      List.length_map, List.length_set, List.length_mapIdx]

theorem clEnd_view {k} (hk : k &&& 14680057 = k) (a0 a1 a2 a3 a4 s) : (clEnd a0 a1 a2 a3 a4 s).view k = s.view k := by
  refine view_le hk ?_
  unfold clEnd
  (repeat' split) <;> simp only [clCount_view, putPacket_view, State.updChan_view, view_upd, fixed_mk, fixed_eta, apply_ite (State.view _), ite_self, Nat.reduceAnd, Nat.reduceDiv, Nat.reduceMod, Nat.zero_ne_one, implies_true, false_implies, Nat.div_one, kvSorted_kvPut, List.length_modify, List.length_map, List.length_set, List.length_mapIdx]

theorem clAbort_view {k} (hk : k &&& 4945904 = k) (a0 a1 a2 s) : (clAbort a0 a1 a2 s).view k = s.view k := by
  refine view_le hk ?_
  unfold clAbort
  (repeat' split) <;> simp only [clDeny_view, jigAnswer_view, State.updChan_view, clCount_view, clRsp_view, clEnd_view, view_upd, fixed_mk, fixed_eta, apply_ite (State.view _), ite_self, Nat.reduceAnd, Nat.reduceDiv, Nat.reduceMod, Nat.zero_ne_one, implies_true, false_implies, Nat.div_one, kvSorted_kvPut, List.length_modify, List.length_map, List.length_set, List.length_mapIdx]

theorem clOk_view {k} (hk : k &&& 4945904 = k) (a0 a1 a2 s) : (clOk a0 a1 a2 s).view k = s.view k := by
  refine view_le hk ?_
  unfold clOk
  (repeat' split) <;> simp only [jigAnswer_view, State.updChan_view, clCount_view, clRsp_view, clEnd_view, view_upd, fixed_mk, fixed_eta, apply_ite (State.view _), ite_self, Nat.reduceAnd, Nat.reduceDiv, Nat.reduceMod, Nat.zero_ne_one, implies_true, false_implies, Nat.div_one, kvSorted_kvPut, List.length_modify, List.length_map, List.length_set, List.length_mapIdx]

theorem clWait_view {k} (hk : k &&& 16777211 = k) (a0 a1 a2 s) : (clWait a0 a1 a2 s).view k = s.view k := by
  refine view_le hk ?_
  unfold clWait
  simp only [State.updChan_view, view_upd, fixed_mk, fixed_eta, apply_ite (State.view _), ite_self, Nat.reduceAnd,
      Nat.reduceDiv, Nat.reduceMod, Nat.zero_ne_one, implies_true, false_implies, Nat.div_one, kvSorted_kvPut,
      List.length_modify, List.length_map, List.length_set, List.length_mapIdx]

theorem clEffect_view {k} (hk : k &&& 0 = k) (a0 a1 a2 s) : (clEffect a0 a1 a2 s).view k = s.view k := by
  refine view_le hk ?_
  unfold clEffect
  dsimp only
  repeat' split
  all_goals try simp only [clAbort_view, objRefused_view, clWait_view, clOk_view, State.bump32_view, view_upd, fixed_mk,
      fixed_eta, apply_ite (State.view _), ite_self, Nat.reduceAnd, Nat.reduceDiv, Nat.reduceMod, Nat.zero_ne_one, implies_true,
      false_implies, kvSorted_kvPut, List.length_modify, List.length_map, List.length_set, List.length_mapIdx]
  all_goals first | exact rearmWrite_view (by decide) (by assumption) | exact budAsk_view (by decide) (by assumption) |
      exact objWrite_view (by decide) (by assumption)

theorem clLocal_view {k} (hk : k &&& 0 = k) (a0 a1 s) : (clLocal a0 a1 s).view k = s.view k := by
  refine view_le hk ?_
  unfold clLocal
  dsimp only
  repeat' split
  all_goals try simp only [clAbort_view, objRefused_view, clWait_view, clOk_view, clEffect_view, view_upd, fixed_mk,
      fixed_eta, apply_ite (State.view _), ite_self, Nat.reduceAnd, Nat.reduceDiv, Nat.reduceMod, Nat.zero_ne_one, implies_true,
      false_implies, kvSorted_kvPut, List.length_modify, List.length_map, List.length_set, List.length_mapIdx]
  all_goals first | exact recReadState_view (by decide) (by assumption)

theorem clSend_view {k} (hk : k &&& 15728627 = k) (a0 a1 s) : (clSend a0 a1 s).view k = s.view k := by
  refine view_le hk ?_
  unfold clSend
  simp only [sendTo_view, clWait_view, view_upd, fixed_mk, fixed_eta, apply_ite (State.view _), ite_self, Nat.reduceAnd,
      Nat.reduceDiv, Nat.reduceMod, Nat.zero_ne_one, implies_true, false_implies, Nat.div_one, kvSorted_kvPut,
      List.length_modify, List.length_map, List.length_set, List.length_mapIdx]

theorem clServe_view {k} (hk : k &&& 0 = k) (a0 a1 s) : (clServe a0 a1 s).view k = s.view k := by
  refine view_le hk ?_
  unfold clServe
  simp only [State.updChan_view, clWait_view, clLocal_view, clSend_view, clAbort_view, view_upd, fixed_mk, fixed_eta,
      apply_ite (State.view _), ite_self, Nat.reduceAnd, Nat.reduceDiv, Nat.reduceMod, Nat.zero_ne_one, implies_true,
      false_implies, Nat.div_one, kvSorted_kvPut, List.length_modify, List.length_map, List.length_set, List.length_mapIdx]

theorem clClose_view {k} (hk : k &&& 16777209 = k) (a0 s) : (clClose a0 s).view k = s.view k := by
  refine view_le hk ?_
  unfold clClose
  simp only [State.updChan_view, State.bump32_view, view_upd, fixed_mk, fixed_eta, apply_ite (State.view _), ite_self,
      Nat.reduceAnd, Nat.reduceDiv, Nat.reduceMod, Nat.zero_ne_one, implies_true, false_implies, Nat.div_one, kvSorted_kvPut,
      List.length_modify, List.length_map, List.length_set, List.length_mapIdx]

theorem clExpire_view {k} (hk : k &&& 16777209 = k) (a0 s) : (clExpire a0 s).view k = s.view k := by
  refine view_le hk ?_
  unfold clExpire
  simp only [clClose_view, view_upd, fixed_mk, fixed_eta, apply_ite (State.view _), ite_self, Nat.reduceAnd, Nat.reduceDiv,
      Nat.reduceMod, Nat.zero_ne_one, implies_true, false_implies, Nat.div_one, kvSorted_kvPut, List.length_modify,
      List.length_map, List.length_set, List.length_mapIdx]

theorem clOpen_view {k} (hk : k &&& 4945904 = k) (a0 a1 s) : (clOpen a0 a1 s).view k = s.view k := by
  refine view_le hk ?_
  unfold clOpen
  simp only [clAbort_view, clEnd_view, State.updChan_view, view_upd, fixed_mk, fixed_eta, apply_ite (State.view _),
      ite_self, Nat.reduceAnd, Nat.reduceDiv, Nat.reduceMod, Nat.zero_ne_one, implies_true, false_implies, Nat.div_one,
      kvSorted_kvPut, List.length_modify, List.length_map, List.length_set, List.length_mapIdx]

theorem clMore_view {k} (hk : k &&& 0 = k) (a0 a1 a2 s) : (clMore a0 a1 a2 s).view k = s.view k := by
  refine view_le hk ?_
  unfold clMore
  simp only [clAbort_view, clClose_view, clServe_view, State.updChan_view, clEnd_view, view_upd, fixed_mk, fixed_eta,
      apply_ite (State.view _), ite_self, Nat.reduceAnd, Nat.reduceDiv, Nat.reduceMod, Nat.zero_ne_one, implies_true,
      false_implies, Nat.div_one, kvSorted_kvPut, List.length_modify, List.length_map, List.length_set, List.length_mapIdx]

theorem clNext_view {k} (hk : k &&& 4945904 = k) (a0 a1 s) : (clNext a0 a1 s).view k = s.view k := by
  refine view_le hk ?_
  unfold clNext
  simp only [clAbort_view, clEnd_view, State.updChan_view, view_upd, fixed_mk, fixed_eta, apply_ite (State.view _),
      ite_self, Nat.reduceAnd, Nat.reduceDiv, Nat.reduceMod, Nat.zero_ne_one, implies_true, false_implies, Nat.div_one,
      kvSorted_kvPut, List.length_modify, List.length_map, List.length_set, List.length_mapIdx]

theorem clStart_view {k} (hk : k &&& 0 = k) (a0 a1 a2 s) : (clStart a0 a1 a2 s).view k = s.view k := by
  refine view_le hk ?_
  unfold clStart
  (repeat' split) <;> simp only [State.updChan_view, clExpire_view, clWait_view, clServe_view, clClose_view, clNext_view, clOpen_view, clMore_view, clEnd_view, clAbort_view, view_upd, fixed_mk, fixed_eta, apply_ite (State.view _), ite_self, Nat.reduceAnd, Nat.reduceDiv, Nat.reduceMod, Nat.zero_ne_one, implies_true, false_implies, Nat.div_one, kvSorted_kvPut, List.length_modify, List.length_map, List.length_set, List.length_mapIdx]

theorem clDrain_view {k} (hk : k &&& 0 = k) (n s) : (clDrain n s).view k = s.view k := by
  refine view_le hk ?_
  induction n generalizing s with
  | zero => rfl
  | succ n ih =>
    unfold clDrain
    split
    · rfl
    · split
      · split
        · rw [ih]; simp only [clStart_view, view_upd, fixed_mk, fixed_eta, apply_ite (State.view _), ite_self,
            Nat.reduceAnd, Nat.reduceDiv, Nat.reduceMod, Nat.zero_ne_one, implies_true, false_implies, kvSorted_kvPut,
            List.length_modify, List.length_map, List.length_set, List.length_mapIdx]
        · split
          · split
            · rw [ih]; simp only [clServe_view, view_upd, fixed_mk, fixed_eta, apply_ite (State.view _), ite_self,
                Nat.reduceAnd, Nat.reduceDiv, Nat.reduceMod, Nat.zero_ne_one, implies_true, false_implies, kvSorted_kvPut,
                List.length_modify, List.length_map, List.length_set, List.length_mapIdx]
            · rfl
          · rfl
      · split
        · rw [ih]; simp only [clServe_view, view_upd, fixed_mk, fixed_eta, apply_ite (State.view _), ite_self,
            Nat.reduceAnd, Nat.reduceDiv, Nat.reduceMod, Nat.zero_ne_one, implies_true, false_implies, kvSorted_kvPut,
            List.length_modify, List.length_map, List.length_set, List.length_mapIdx]
        · rfl
      · rfl

theorem clTurn_view {k} (hk : k &&& 0 = k) (s) : (clTurn s).view k = s.view k := by
  refine view_le hk ?_
  unfold clTurn
  simp only [clDrain_view, view_upd, fixed_mk, fixed_eta, apply_ite (State.view _), ite_self, Nat.reduceAnd, Nat.reduceDiv,
      Nat.reduceMod, Nat.zero_ne_one, implies_true, false_implies, Nat.div_one, kvSorted_kvPut, List.length_modify,
      List.length_map, List.length_set, List.length_mapIdx]

theorem fwRequest_view {k} (hk : k &&& 0 = k) (a0 a1 s) : (fwRequest a0 a1 s).view k = s.view k := by
  refine view_le hk ?_
  unfold fwRequest
  simp only [clStart_view, clCount_view, view_upd, fixed_mk, fixed_eta, apply_ite (State.view _), ite_self, Nat.reduceAnd,
      Nat.reduceDiv, Nat.reduceMod, Nat.zero_ne_one, implies_true, false_implies, Nat.div_one, kvSorted_kvPut,
      List.length_modify, List.length_map, List.length_set, List.length_mapIdx]

theorem chainRequest_view {k} (hk : k &&& 0 = k) (a0 a1 s) : (chainRequest a0 a1 s).view k = s.view k := by
  refine view_le hk ?_
  unfold chainRequest
  simp only [clRsp_view, clCount_view, clServe_view, view_upd, fixed_mk, fixed_eta, apply_ite (State.view _), ite_self,
      Nat.reduceAnd, Nat.reduceDiv, Nat.reduceMod, Nat.zero_ne_one, implies_true, false_implies, Nat.div_one, kvSorted_kvPut,
      List.length_modify, List.length_map, List.length_set, List.length_mapIdx]

theorem clSubmit_view {k} (hk : k &&& 0 = k) (a0 a1 a2 s) : (clSubmit a0 a1 a2 s).view k = s.view k := by
  refine view_le hk ?_
  unfold clSubmit
  (repeat' split) <;> simp only [State.updChan_view, clTurn_view, clStart_view, discardPacket_view, State.add64_view, fwRequest_view, view_upd, fixed_mk, fixed_eta, apply_ite (State.view _), ite_self, Nat.reduceAnd, Nat.reduceDiv, Nat.reduceMod, Nat.zero_ne_one, implies_true, false_implies, Nat.div_one, kvSorted_kvPut, List.length_modify, List.length_map, List.length_set, List.length_mapIdx]

theorem clWhole_view {k} (hk : k &&& 0 = k) (a0 a1 a2 a3 s) : (clWhole a0 a1 a2 a3 s).view k = s.view k := by
  refine view_le hk ?_
  unfold clWhole
  (repeat' split) <;> simp only [clTurn_view, clServe_view, clClose_view, State.updChan_view, discardPacket_view, State.add64_view, view_upd, fixed_mk, fixed_eta, apply_ite (State.view _), ite_self, Nat.reduceAnd, Nat.reduceDiv, Nat.reduceMod, Nat.zero_ne_one, implies_true, false_implies, Nat.div_one, kvSorted_kvPut, List.length_modify, List.length_map, List.length_set, List.length_mapIdx]

theorem clFirmware_view {k} (hk : k &&& 0 = k) (a0 a1 s) : (clFirmware a0 a1 s).view k = s.view k := by
  refine view_le hk ?_
  unfold clFirmware
  (repeat' split) <;> simp only [clTurn_view, clAbort_view, objRefused_view, clOk_view, clEffect_view, view_upd, fixed_mk, fixed_eta, apply_ite (State.view _), ite_self, Nat.reduceAnd, Nat.reduceDiv, Nat.reduceMod, Nat.zero_ne_one, implies_true, false_implies, Nat.div_one, kvSorted_kvPut, List.length_modify, List.length_map, List.length_set, List.length_mapIdx]

theorem clWithdraw_view {k} (hk : k &&& 0 = k) (a0 s) : (clWithdraw a0 s).view k = s.view k := by
  refine view_le hk ?_
  unfold clWithdraw
  (repeat' split) <;> simp only [advanceTo_view, clTurn_view, clAbort_view, raise_view, State.bump32_view, view_upd, fixed_mk, fixed_eta, apply_ite (State.view _), ite_self, Nat.reduceAnd, Nat.reduceDiv, Nat.reduceMod, Nat.zero_ne_one, implies_true, false_implies, Nat.div_one, kvSorted_kvPut, List.length_modify, List.length_map, List.length_set, List.length_mapIdx]

theorem clNoAnswer_view {k} (hk : k &&& 0 = k) (a0 s) : (clNoAnswer a0 s).view k = s.view k := by
  refine view_le hk ?_
  unfold clNoAnswer
  (repeat' split) <;> simp only [clTurn_view, clAbort_view, advanceTo_view, view_upd, fixed_mk, fixed_eta, apply_ite (State.view _), ite_self, Nat.reduceAnd, Nat.reduceDiv, Nat.reduceMod, Nat.zero_ne_one, implies_true, false_implies, Nat.div_one, kvSorted_kvPut, List.length_modify, List.length_map, List.length_set, List.length_mapIdx]

theorem clResponse_view {k} (hk : k &&& 0 = k) (a0 a1 s) : (clResponse a0 a1 s).view k = s.view k := by
  refine view_le hk ?_
  unfold clResponse
  grind [view_upd, fixed_mk, fixed_eta, List.length_modify, clTurn_view, clOk_view, clAbort_view]

theorem clAccepted_view {k} (hk : k &&& 0 = k) (a0 s) : (clAccepted a0 s).view k = s.view k := by
  refine view_le hk ?_
  unfold clAccepted
  (repeat' split) <;> simp only [clTurn_view, clOk_view, clAbort_view, view_upd, fixed_mk, fixed_eta, apply_ite (State.view _), ite_self, Nat.reduceAnd, Nat.reduceDiv, Nat.reduceMod, Nat.zero_ne_one, implies_true, false_implies, Nat.div_one, kvSorted_kvPut, List.length_modify, List.length_map, List.length_set, List.length_mapIdx]

theorem clRearmed_view {k} (hk : k &&& 0 = k) (a0 s) : (clRearmed a0 s).view k = s.view k := by
  refine view_le hk ?_
  unfold clRearmed
  grind [view_upd, fixed_mk, fixed_eta, List.length_modify, rearmEnd_view, clTurn_view, clOk_view, clAbort_view]

theorem clRegulator_view {k} (hk : k &&& 0 = k) (a0 a1 s) : (clRegulator a0 a1 s).view k = s.view k := by
  refine view_le hk ?_
  unfold clRegulator
  (repeat' split) <;> simp only [pmbSend_view, clTurn_view, clOk_view, State.put_view, clAbort_view, view_upd, fixed_mk, fixed_eta, apply_ite (State.view _), ite_self, Nat.reduceAnd, Nat.reduceDiv, Nat.reduceMod, Nat.zero_ne_one, implies_true, false_implies, Nat.div_one, kvSorted_kvPut, List.length_modify, List.length_map, List.length_set, List.length_mapIdx]

theorem clRegulators_view {k} (hk : k &&& 0 = k) (a0 s) : (clRegulators a0 s).view k = s.view k := by
  refine view_le hk ?_
  unfold clRegulators
  simp (disch := (intros; first | done | (simp only [clRegulator_view, view_upd, fixed_mk, fixed_eta, apply_ite (State.view _), ite_self, Nat.reduceAnd, Nat.reduceDiv, Nat.reduceMod, Nat.zero_ne_one, implies_true, false_implies, Nat.div_one, kvSorted_kvPut, List.length_modify, List.length_map, List.length_set, List.length_mapIdx]; done) | ((repeat' split) <;> simp only [clRegulator_view, view_upd, fixed_mk, fixed_eta, apply_ite (State.view _), ite_self, Nat.reduceAnd, Nat.reduceDiv, Nat.reduceMod, Nat.zero_ne_one, implies_true, false_implies, Nat.div_one, kvSorted_kvPut, List.length_modify, List.length_map, List.length_set, List.length_mapIdx]; done) | grind [view_upd, fixed_mk, fixed_eta, List.length_modify, clRegulator_view])) only [clRegulator_view, view_upd, fixed_mk, fixed_eta, apply_ite (State.view _), ite_self, Nat.reduceAnd, Nat.reduceDiv, Nat.reduceMod, Nat.zero_ne_one, implies_true, false_implies, Nat.div_one, kvSorted_kvPut, List.length_modify, List.length_map, List.length_set, List.length_mapIdx, forEach_view, foldl_view]

theorem clResumeOne_view {k} (hk : k &&& 0 = k) (a0 s) : (clResumeOne a0 s).view k = s.view k := by
  refine view_le hk ?_
  unfold clResumeOne
  (repeat' split) <;> simp only [State.updChan_view, clServe_view, clStart_view, view_upd, fixed_mk, fixed_eta, apply_ite (State.view _), ite_self, Nat.reduceAnd, Nat.reduceDiv, Nat.reduceMod, Nat.zero_ne_one, implies_true, false_implies, Nat.div_one, kvSorted_kvPut, List.length_modify, List.length_map, List.length_set, List.length_mapIdx]

theorem clResume_view {k} (hk : k &&& 0 = k) (s) : (clResume s).view k = s.view k := by
  refine view_le hk ?_
  unfold clResume
  simp (disch := (intros; first | done | (simp only [clTurn_view, clResumeOne_view, view_upd, fixed_mk, fixed_eta, apply_ite (State.view _), ite_self, Nat.reduceAnd, Nat.reduceDiv, Nat.reduceMod, Nat.zero_ne_one, implies_true, false_implies, Nat.div_one, kvSorted_kvPut, List.length_modify, List.length_map, List.length_set, List.length_mapIdx]; done) | ((repeat' split) <;> simp only [clTurn_view, clResumeOne_view, view_upd, fixed_mk, fixed_eta, apply_ite (State.view _), ite_self, Nat.reduceAnd, Nat.reduceDiv, Nat.reduceMod, Nat.zero_ne_one, implies_true, false_implies, Nat.div_one, kvSorted_kvPut, List.length_modify, List.length_map, List.length_set, List.length_mapIdx]; done) | grind [view_upd, fixed_mk, fixed_eta, List.length_modify, clTurn_view, clResumeOne_view])) only [clTurn_view, clResumeOne_view, view_upd, fixed_mk, fixed_eta, apply_ite (State.view _), ite_self, Nat.reduceAnd, Nat.reduceDiv, Nat.reduceMod, Nat.zero_ne_one, implies_true, false_implies, Nat.div_one, kvSorted_kvPut, List.length_modify, List.length_map, List.length_set, List.length_mapIdx, forEach_view, foldl_view]

theorem debugEffect_view {k} (hk : k &&& 0 = k) {a0 a1 a2 a3 a4 s t} (h : debugEffect a0 a1 a2 a3 a4 s = .ok t) : t.view k =
    s.view k := by
  refine view_le hk ?_
  unfold debugEffect at h
  dsimp only at h
  revert h
  refine ite_ok_view (ite_ok_view (fun h => by cases h) (fun h => ?_)) ?_
  · rw [← Except.ok.inj h]
    simp only [pmbSend_view, State.put_view, view_upd, fixed_mk, fixed_eta, apply_ite (State.view _), ite_self,
        Nat.reduceAnd, Nat.reduceDiv, Nat.reduceMod, Nat.zero_ne_one, implies_true, false_implies, kvSorted_kvPut,
        List.length_modify, List.length_map, List.length_set, List.length_mapIdx]
  · generalize State.budgetRec _ _ _ _ = x
    cases x with
    | none => exact fun h => objWrite_view (by decide) h
    | some q =>
      refine ite_ok_view (fun h => by cases h) (ite_ok_view (fun h => by cases h) (ite_ok_view (fun h => by cases h) ?_))
      generalize hx : budAsk [q] _ = y
      cases y with
      | none => exact fun h => by cases h
      | some u => exact fun h => by rw [← Except.ok.inj h]; exact budAsk_view (by decide) hx

theorem debugApply_view {k} (hk : k &&& 0 = k) (a0 a1 a2 s) : (debugApply a0 a1 a2 s).2.view k = s.view k := by
  refine view_le hk ?_
  unfold debugApply
  grind [view_upd, fixed_mk, fixed_eta, List.length_modify, objRefused_view, → debugEffect_view]

theorem joinChain_view {k} (hk : k &&& 0 = k) (s) : (joinChain s).view k = s.view k := by
  refine view_le hk ?_
  unfold joinChain
  simp only [becomeReady_view, view_upd, fixed_mk, fixed_eta, apply_ite (State.view _), ite_self, Nat.reduceAnd,
      Nat.reduceDiv, Nat.reduceMod, Nat.zero_ne_one, implies_true, false_implies, Nat.div_one, kvSorted_kvPut,
      List.length_modify, List.length_map, List.length_set, List.length_mapIdx]

theorem rootClose_view {k} (hk : k &&& 0 = k) (a0 s) : (rootClose a0 s).view k = s.view k := by
  refine view_le hk ?_
  unfold rootClose
  simp only [State.put_view, joinChain_view, broadcast_view, raise_view, queueOwn_view, view_upd, fixed_mk, fixed_eta,
      apply_ite (State.view _), ite_self, Nat.reduceAnd, Nat.reduceDiv, Nat.reduceMod, Nat.zero_ne_one, implies_true,
      false_implies, Nat.div_one, kvSorted_kvPut, List.length_modify, List.length_map, List.length_set, List.length_mapIdx]

theorem takeReport_view {k} (hk : k &&& 0 = k) (a0 s) : (takeReport a0 s).view k = s.view k := by
  refine view_le hk ?_
  unfold takeReport
  simp only [rootClose_view, view_upd, fixed_mk, fixed_eta, apply_ite (State.view _), ite_self, Nat.reduceAnd,
      Nat.reduceDiv, Nat.reduceMod, Nat.zero_ne_one, implies_true, false_implies, Nat.div_one, kvSorted_kvPut,
      List.length_modify, List.length_map, List.length_set, List.length_mapIdx]

theorem hearClose_view {k} (hk : k &&& 0 = k) (a0 a1 s) : (hearClose a0 a1 s).view k = s.view k := by
  refine view_le hk ?_
  unfold hearClose
  simp only [joinChain_view, State.put_view, rejoinTry_view, view_upd, fixed_mk, fixed_eta, apply_ite (State.view _),
      ite_self, Nat.reduceAnd, Nat.reduceDiv, Nat.reduceMod, Nat.zero_ne_one, implies_true, false_implies, Nat.div_one,
      kvSorted_kvPut, List.length_modify, List.length_map, List.length_set, List.length_mapIdx]

theorem admitNode_view {k} (hk : k &&& 15728631 = k) (a0 a1 s) : (admitNode a0 a1 s).view k = s.view k := by
  refine view_le hk ?_
  unfold admitNode
  simp only [broadcast_view, sendTo_view, queueOwn_view, view_upd, fixed_mk, fixed_eta, apply_ite (State.view _), ite_self,
      Nat.reduceAnd, Nat.reduceDiv, Nat.reduceMod, Nat.zero_ne_one, implies_true, false_implies, Nat.div_one, kvSorted_kvPut,
      List.length_modify, List.length_map, List.length_set, List.length_mapIdx]

theorem takeRejoin_view {k} (hk : k &&& 15466484 = k) (a0 s) : (takeRejoin a0 s).view k = s.view k := by
  refine view_le hk ?_
  unfold takeRejoin
  grind [view_upd, fixed_mk, fixed_eta, List.length_modify, admitNode_view, raise_view]

theorem takeBudReq_view {k} (hk : k &&& 15728629 = k) (a0 a1 s) : (takeBudReq a0 a1 s).view k = s.view k := by
  refine view_le hk ?_
  unfold takeBudReq
  repeat' split
  all_goals try simp only [sendTo_view, State.bump32_view, view_upd, fixed_mk, fixed_eta, apply_ite (State.view _),
      ite_self, Nat.reduceAnd, Nat.reduceDiv, Nat.reduceMod, Nat.zero_ne_one, implies_true, false_implies, kvSorted_kvPut,
      List.length_modify, List.length_map, List.length_set, List.length_mapIdx]
  all_goals first | exact queueRecs_view (by decide) (by assumption)

theorem takePrepare_view {k} (hk : k &&& 15728629 = k) (a0 s) : (takePrepare a0 s).view k = s.view k := by
  refine view_le hk ?_
  unfold takePrepare
  simp only [prepare_view, sendTo_view, view_upd, fixed_mk, fixed_eta, apply_ite (State.view _), ite_self, Nat.reduceAnd,
      Nat.reduceDiv, Nat.reduceMod, Nat.zero_ne_one, implies_true, false_implies, Nat.div_one, kvSorted_kvPut,
      List.length_modify, List.length_map, List.length_set, List.length_mapIdx]

theorem hearVote_view {k} (hk : k &&& 0 = k) (a0 a1 s) : (hearVote a0 a1 s).view k = s.view k := by
  refine view_le hk ?_
  unfold hearVote
  grind [view_upd, fixed_mk, fixed_eta, List.length_modify, clAccepted_view, takeVote_view, sendTo_view]

theorem votesExpire_view {k} (hk : k &&& 15463412 = k) (s) : (votesExpire s).view k = s.view k := by
  refine view_le hk ?_
  unfold votesExpire
  (repeat' split) <;> simp only [abortRetry_view, advanceTo_view, view_upd, fixed_mk, fixed_eta, apply_ite (State.view _), ite_self, Nat.reduceAnd, Nat.reduceDiv, Nat.reduceMod, Nat.zero_ne_one, implies_true, false_implies, Nat.div_one, kvSorted_kvPut, List.length_modify, List.length_map, List.length_set, List.length_mapIdx]

theorem outcomeExpire_view {k} (hk : k &&& 15463412 = k) (a0 s) : (outcomeExpire a0 s).view k = s.view k := by
  refine view_le hk ?_
  unfold outcomeExpire
  (repeat' split) <;> simp only [advanceTo_view, sendTo_view, isolate_view, view_upd, fixed_mk, fixed_eta, apply_ite (State.view _), ite_self, Nat.reduceAnd, Nat.reduceDiv, Nat.reduceMod, Nat.zero_ne_one, implies_true, false_implies, Nat.div_one, kvSorted_kvPut, List.length_modify, List.length_map, List.length_set, List.length_mapIdx]

theorem applyDue_view {k} (hk : k &&& 16774133 = k) (a0 s) : (applyDue a0 s).view k = s.view k := by
  refine view_le hk ?_
  unfold applyDue
  (repeat' split) <;> simp only [applyTxn_view, view_upd, fixed_mk, fixed_eta, apply_ite (State.view _), ite_self, Nat.reduceAnd, Nat.reduceDiv, Nat.reduceMod, Nat.zero_ne_one, implies_true, false_implies, Nat.div_one, kvSorted_kvPut, List.length_modify, List.length_map, List.length_set, List.length_mapIdx]

theorem hearTelem_view {k} (hk : k &&& 16758773 = k) (a0 a1 s) : (hearTelem a0 a1 s).view k = s.view k := by
  refine view_le hk ?_
  unfold hearTelem
  simp only [telemTake_view, view_upd, fixed_mk, fixed_eta, apply_ite (State.view _), ite_self, Nat.reduceAnd,
      Nat.reduceDiv, Nat.reduceMod, Nat.zero_ne_one, implies_true, false_implies, Nat.div_one, kvSorted_kvPut,
      List.length_modify, List.length_map, List.length_set, List.length_mapIdx]

theorem telemIn_view {k} (hk : k &&& 15710197 = k) (a0 a1 s) : (telemIn a0 a1 s).view k = s.view k := by
  refine view_le hk ?_
  unfold telemIn
  simp (disch := (intros; first | done | (simp only [hearTelem_view, State.bump32_view, view_upd, fixed_mk, fixed_eta, apply_ite (State.view _), ite_self, Nat.reduceAnd, Nat.reduceDiv, Nat.reduceMod, Nat.zero_ne_one, implies_true, false_implies, Nat.div_one, kvSorted_kvPut, List.length_modify, List.length_map, List.length_set, List.length_mapIdx]; done) | ((repeat' split) <;> simp only [hearTelem_view, State.bump32_view, view_upd, fixed_mk, fixed_eta, apply_ite (State.view _), ite_self, Nat.reduceAnd, Nat.reduceDiv, Nat.reduceMod, Nat.zero_ne_one, implies_true, false_implies, Nat.div_one, kvSorted_kvPut, List.length_modify, List.length_map, List.length_set, List.length_mapIdx]; done) | grind [view_upd, fixed_mk, fixed_eta, List.length_modify, hearTelem_view, State.bump32_view])) only [hearTelem_view, State.bump32_view, view_upd, fixed_mk, fixed_eta, apply_ite (State.view _), ite_self, Nat.reduceAnd, Nat.reduceDiv, Nat.reduceMod, Nat.zero_ne_one, implies_true, false_implies, Nat.div_one, kvSorted_kvPut, List.length_modify, List.length_map, List.length_set, List.length_mapIdx, frameIn_view, forEach_view, foldl_view]

theorem hearBarrierFrame_view {k} (hk : k &&& 15372420 = k) (a0 a1 s) : (hearBarrierFrame a0 a1 s).view k = s.view k := by
  refine view_le hk ?_
  unfold hearBarrierFrame
  simp only [rootArrive_view, hearBarrier_view, view_upd, fixed_mk, fixed_eta, apply_ite (State.view _), ite_self,
      Nat.reduceAnd, Nat.reduceDiv, Nat.reduceMod, Nat.zero_ne_one, implies_true, false_implies, Nat.div_one, kvSorted_kvPut,
      List.length_modify, List.length_map, List.length_set, List.length_mapIdx]

end Sys2Proof.Machine
end

