-- ==== Sys2Proof/Laws/ViewBring.lean ====
section
/-! SUPPORT. The frames of the functions of bring-up and the rows of bring-up, the chain and the Cut List: one lemma per function says which units of the state
it keeps (a mask of `State.view`), cited by the lemmas of its callers. -/

namespace Sys2Proof.Machine

open Sys2Proof

set_option linter.all false

theorem loadBoot_view {k} (hk : k &&& 16776908 = k) (a0 s) : (loadBoot a0 s).view k = s.view k := by
  refine view_le hk ?_
  unfold loadBoot
  simp (disch := (intros; first | done | (simp only [State.put_view, view_upd, fixed_mk, fixed_eta, apply_ite (State.view _), ite_self, Nat.reduceAnd, Nat.reduceDiv, Nat.reduceMod, Nat.zero_ne_one, implies_true, false_implies, Nat.div_one, kvSorted_kvPut, List.length_modify, List.length_map, List.length_set, List.length_mapIdx]; done) | ((repeat' split) <;> simp only [State.put_view, view_upd, fixed_mk, fixed_eta, apply_ite (State.view _), ite_self, Nat.reduceAnd, Nat.reduceDiv, Nat.reduceMod, Nat.zero_ne_one, implies_true, false_implies, Nat.div_one, kvSorted_kvPut, List.length_modify, List.length_map, List.length_set, List.length_mapIdx]; done) | grind [view_upd, fixed_mk, fixed_eta, List.length_modify, State.put_view])) only [State.put_view, view_upd, fixed_mk, fixed_eta, apply_ite (State.view _), ite_self, Nat.reduceAnd, Nat.reduceDiv, Nat.reduceMod, Nat.zero_ne_one, implies_true, false_implies, Nat.div_one, kvSorted_kvPut, List.length_modify, List.length_map, List.length_set, List.length_mapIdx, forEach_view, foldl_view]

theorem strapCheck_view {k} (hk : k &&& 16515060 = k) (s) : (strapCheck s).view k = s.view k := by
  refine view_le hk ?_
  unfold strapCheck
  simp only [rootConflict_view, view_upd, fixed_mk, fixed_eta, apply_ite (State.view _), ite_self, Nat.reduceAnd,
      Nat.reduceDiv, Nat.reduceMod, Nat.zero_ne_one, implies_true, false_implies, Nat.div_one, kvSorted_kvPut,
      List.length_modify, List.length_map, List.length_set, List.length_mapIdx]

theorem railsReady_view {k} (hk : k &&& 0 = k) (s) : (railsReady s).view k = s.view k := by
  refine view_le hk ?_
  unfold railsReady
  simp only [rejoinTry_view, functionDefaults_view, setReady_view, strapCheck_view, State.setEnable_view, view_upd,
      fixed_mk, fixed_eta, apply_ite (State.view _), ite_self, Nat.reduceAnd, Nat.reduceDiv, Nat.reduceMod, Nat.zero_ne_one,
      implies_true, false_implies, Nat.div_one, kvSorted_kvPut, List.length_modify, List.length_map, List.length_set,
      List.length_mapIdx]

theorem groupTurn_view {k} (hk : k &&& 0 = k) (a0 s) : (groupTurn a0 s).view k = s.view k := by
  refine view_le hk ?_
  unfold groupTurn
  (repeat' split) <;> simp only [railsReady_view, view_upd, fixed_mk, fixed_eta, apply_ite (State.view _), ite_self, Nat.reduceAnd, Nat.reduceDiv, Nat.reduceMod, Nat.zero_ne_one, implies_true, false_implies, Nat.div_one, kvSorted_kvPut, List.length_modify, List.length_map, List.length_set, List.length_mapIdx]

theorem groupGo_view {k} (hk : k &&& 16777166 = k) (s) : (groupGo s).view k = s.view k := by
  refine view_le hk ?_
  unfold groupGo
  simp (disch := (intros; first | done | (simp only [startRail_view, view_upd, fixed_mk, fixed_eta, apply_ite (State.view _), ite_self, Nat.reduceAnd, Nat.reduceDiv, Nat.reduceMod, Nat.zero_ne_one, implies_true, false_implies, Nat.div_one, kvSorted_kvPut, List.length_modify, List.length_map, List.length_set, List.length_mapIdx]; done) | ((repeat' split) <;> simp only [startRail_view, view_upd, fixed_mk, fixed_eta, apply_ite (State.view _), ite_self, Nat.reduceAnd, Nat.reduceDiv, Nat.reduceMod, Nat.zero_ne_one, implies_true, false_implies, Nat.div_one, kvSorted_kvPut, List.length_modify, List.length_map, List.length_set, List.length_mapIdx]; done) | grind [view_upd, fixed_mk, fixed_eta, List.length_modify, startRail_view])) only [startRail_view, view_upd, fixed_mk, fixed_eta, apply_ite (State.view _), ite_self, Nat.reduceAnd, Nat.reduceDiv, Nat.reduceMod, Nat.zero_ne_one, implies_true, false_implies, Nat.div_one, kvSorted_kvPut, List.length_modify, List.length_map, List.length_set, List.length_mapIdx, forEach_view, foldl_view]

theorem coreGood_view {k} (hk : k &&& 0 = k) (s) : (coreGood s).view k = s.view k := by
  refine view_le hk ?_
  unfold coreGood
  simp (disch := (intros; first | done | (simp only [becomeReady_view, startRegulate_view, view_upd, fixed_mk, fixed_eta, apply_ite (State.view _), ite_self, Nat.reduceAnd, Nat.reduceDiv, Nat.reduceMod, Nat.zero_ne_one, implies_true, false_implies, Nat.div_one, kvSorted_kvPut, List.length_modify, List.length_map, List.length_set, List.length_mapIdx]; done) | ((repeat' split) <;> simp only [becomeReady_view, startRegulate_view, view_upd, fixed_mk, fixed_eta, apply_ite (State.view _), ite_self, Nat.reduceAnd, Nat.reduceDiv, Nat.reduceMod, Nat.zero_ne_one, implies_true, false_implies, Nat.div_one, kvSorted_kvPut, List.length_modify, List.length_map, List.length_set, List.length_mapIdx]; done) | grind [view_upd, fixed_mk, fixed_eta, List.length_modify, becomeReady_view, startRegulate_view])) only [becomeReady_view, startRegulate_view, view_upd, fixed_mk, fixed_eta, apply_ite (State.view _), ite_self, Nat.reduceAnd, Nat.reduceDiv, Nat.reduceMod, Nat.zero_ne_one, implies_true, false_implies, Nat.div_one, kvSorted_kvPut, List.length_modify, List.length_map, List.length_set, List.length_mapIdx, forEach_view, foldl_view]

theorem powerGood_view {k} (hk : k &&& 0 = k) (a0 s) : (powerGood a0 s).view k = s.view k := by
  refine view_le hk ?_
  unfold powerGood
  simp only [advanceTo_view, State.updRail_view, coreGood_view, groupTurn_view, view_upd, fixed_mk, fixed_eta, apply_ite
      (State.view _), ite_self, Nat.reduceAnd, Nat.reduceDiv, Nat.reduceMod, Nat.zero_ne_one, implies_true, false_implies,
      Nat.div_one, kvSorted_kvPut, List.length_modify, List.length_map, List.length_set, List.length_mapIdx]

theorem groupMissed_view {k} (hk : k &&& 15446148 = k) (s) : (groupMissed s).view k = s.view k := by
  refine view_le hk ?_
  unfold groupMissed
  simp (disch := (intros; first | done | (simp only [raiseFault_view, view_upd, fixed_mk, fixed_eta, apply_ite (State.view _), ite_self, Nat.reduceAnd, Nat.reduceDiv, Nat.reduceMod, Nat.zero_ne_one, implies_true, false_implies, Nat.div_one, kvSorted_kvPut, List.length_modify, List.length_map, List.length_set, List.length_mapIdx]; done) | ((repeat' split) <;> simp only [raiseFault_view, view_upd, fixed_mk, fixed_eta, apply_ite (State.view _), ite_self, Nat.reduceAnd, Nat.reduceDiv, Nat.reduceMod, Nat.zero_ne_one, implies_true, false_implies, Nat.div_one, kvSorted_kvPut, List.length_modify, List.length_map, List.length_set, List.length_mapIdx]; done) | grind [view_upd, fixed_mk, fixed_eta, List.length_modify, raiseFault_view])) only [raiseFault_view, view_upd, fixed_mk, fixed_eta, apply_ite (State.view _), ite_self, Nat.reduceAnd, Nat.reduceDiv, Nat.reduceMod, Nat.zero_ne_one, implies_true, false_implies, Nat.div_one, kvSorted_kvPut, List.length_modify, List.length_map, List.length_set, List.length_mapIdx, forEach_view, foldl_view]

theorem fabTry_view {k} (hk : k &&& 16777214 = k) (s) : (fabTry s).view k = s.view k := by
  refine view_le hk ?_
  unfold fabTry
  simp only [view_upd, fixed_mk, fixed_eta, apply_ite (State.view _), ite_self, Nat.reduceAnd, Nat.reduceDiv, Nat.reduceMod,
      Nat.zero_ne_one, implies_true, false_implies, Nat.div_one, kvSorted_kvPut, List.length_modify, List.length_map,
      List.length_set, List.length_mapIdx]

theorem engGo_view {k} (hk : k &&& 16776190 = k) (a0 s) : (engGo a0 s).view k = s.view k := by
  refine view_le hk ?_
  unfold engGo
  simp only [fabTry_view, view_upd, fixed_mk, fixed_eta, apply_ite (State.view _), ite_self, Nat.reduceAnd, Nat.reduceDiv,
      Nat.reduceMod, Nat.zero_ne_one, implies_true, false_implies, Nat.div_one, kvSorted_kvPut, List.length_modify,
      List.length_map, List.length_set, List.length_mapIdx]

theorem staticEid_view {k} (hk : k &&& 14680063 = k) (s) : (staticEid s).view k = s.view k := by
  refine view_le hk ?_
  unfold staticEid
  simp only [view_upd, fixed_mk, fixed_eta, apply_ite (State.view _), ite_self, Nat.reduceAnd, Nat.reduceDiv, Nat.reduceMod,
      Nat.zero_ne_one, implies_true, false_implies, Nat.div_one, kvSorted_kvPut, List.length_modify, List.length_map,
      List.length_set, List.length_mapIdx]

theorem bootReads_view {k} (hk : k &&& 0 = k) (s) : (bootReads s).view k = s.view k := by
  refine view_le hk ?_
  unfold bootReads
  grind [view_upd, fixed_mk, fixed_eta, List.length_modify, raise_view, hdrAppend_view, becomeReady_view, staticEid_view,
      loaderApply_view]

theorem channel0_view {k} (hk : k &&& 16646143 = k) (s) : (channel0 s).view k = s.view k := by
  refine view_le hk ?_
  unfold channel0
  simp only [dmaWant_view, dmaGive_view, view_upd, fixed_mk, fixed_eta, apply_ite (State.view _), ite_self, Nat.reduceAnd,
      Nat.reduceDiv, Nat.reduceMod, Nat.zero_ne_one, implies_true, false_implies, Nat.div_one, kvSorted_kvPut,
      List.length_modify, List.length_map, List.length_set, List.length_mapIdx]

theorem imgFail_view {k} (hk : k &&& 16383996 = k) (a0 s) : (imgFail a0 s).view k = s.view k := by
  refine view_le hk ?_
  unfold imgFail
  simp only [channel0_view, raise_view, view_upd, fixed_mk, fixed_eta, apply_ite (State.view _), ite_self, Nat.reduceAnd,
      Nat.reduceDiv, Nat.reduceMod, Nat.zero_ne_one, implies_true, false_implies, Nat.div_one, kvSorted_kvPut,
      List.length_modify, List.length_map, List.length_set, List.length_mapIdx]

theorem imgClear_view {k} (hk : k &&& 16777214 = k) (s) : (imgClear s).view k = s.view k := by
  refine view_le hk ?_
  unfold imgClear
  simp only [view_upd, fixed_mk, fixed_eta, apply_ite (State.view _), ite_self, Nat.reduceAnd, Nat.reduceDiv, Nat.reduceMod,
      Nat.zero_ne_one, implies_true, false_implies, Nat.div_one, kvSorted_kvPut, List.length_modify, List.length_map,
      List.length_set, List.length_mapIdx]

theorem imgStage_view {k} (hk : k &&& 16646142 = k) (a0 s) : (imgStage a0 s).view k = s.view k := by
  refine view_le hk ?_
  unfold imgStage
  simp only [channel0_view, view_upd, fixed_mk, fixed_eta, apply_ite (State.view _), ite_self, Nat.reduceAnd, Nat.reduceDiv,
      Nat.reduceMod, Nat.zero_ne_one, implies_true, false_implies, Nat.div_one, kvSorted_kvPut, List.length_modify,
      List.length_map, List.length_set, List.length_mapIdx]

theorem imgFetch_view {k} (hk : k &&& 16351228 = k) (s) : (imgFetch s).view k = s.view k := by
  refine view_le hk ?_
  unfold imgFetch
  simp only [imgClear_view, imgFail_view, imgStage_view, view_upd, fixed_mk, fixed_eta, apply_ite (State.view _), ite_self,
      Nat.reduceAnd, Nat.reduceDiv, Nat.reduceMod, Nat.zero_ne_one, implies_true, false_implies, Nat.div_one, kvSorted_kvPut,
      List.length_modify, List.length_map, List.length_set, List.length_mapIdx]

theorem imgStaged_view {k} (hk : k &&& 16351228 = k) (a0 s) : (imgStaged a0 s).view k = s.view k := by
  refine view_le hk ?_
  unfold imgStaged
  simp only [imgFail_view, view_upd, fixed_mk, fixed_eta, apply_ite (State.view _), ite_self, Nat.reduceAnd, Nat.reduceDiv,
      Nat.reduceMod, Nat.zero_ne_one, implies_true, false_implies, Nat.div_one, kvSorted_kvPut, List.length_modify,
      List.length_map, List.length_set, List.length_mapIdx]

theorem imgUpdate_view {k} (hk : k &&& 16351228 = k) (a0 s) : (imgUpdate a0 s).view k = s.view k := by
  refine view_le hk ?_
  unfold imgUpdate
  simp only [updateFail_view, imgFail_view, channel0_view, updateBegin_view, view_upd, fixed_mk, fixed_eta, apply_ite
      (State.view _), ite_self, Nat.reduceAnd, Nat.reduceDiv, Nat.reduceMod, Nat.zero_ne_one, implies_true, false_implies,
      Nat.div_one, kvSorted_kvPut, List.length_modify, List.length_map, List.length_set, List.length_mapIdx]

theorem imgLoad_view {k} (hk : k &&& 16351228 = k) (a0 s) : (imgLoad a0 s).view k = s.view k := by
  refine view_le hk ?_
  unfold imgLoad
  simp only [imgUpdate_view, channel0_view, view_upd, fixed_mk, fixed_eta, apply_ite (State.view _), ite_self,
      Nat.reduceAnd, Nat.reduceDiv, Nat.reduceMod, Nat.zero_ne_one, implies_true, false_implies, Nat.div_one, kvSorted_kvPut,
      List.length_modify, List.length_map, List.length_set, List.length_mapIdx]

theorem imgAccept_view {k} (hk : k &&& 16351228 = k) (a0 s) : (imgAccept a0 s).view k = s.view k := by
  refine view_le hk ?_
  unfold imgAccept
  simp only [imgClear_view, imgFail_view, imgLoad_view, view_upd, fixed_mk, fixed_eta, apply_ite (State.view _), ite_self,
      Nat.reduceAnd, Nat.reduceDiv, Nat.reduceMod, Nat.zero_ne_one, implies_true, false_implies, Nat.div_one, kvSorted_kvPut,
      List.length_modify, List.length_map, List.length_set, List.length_mapIdx]

theorem imgReject_view {k} (hk : k &&& 16383996 = k) (s) : (imgReject s).view k = s.view k := by
  refine view_le hk ?_
  unfold imgReject
  simp only [imgFail_view, imgStage_view, view_upd, fixed_mk, fixed_eta, apply_ite (State.view _), ite_self, Nat.reduceAnd,
      Nat.reduceDiv, Nat.reduceMod, Nat.zero_ne_one, implies_true, false_implies, Nat.div_one, kvSorted_kvPut,
      List.length_modify, List.length_map, List.length_set, List.length_mapIdx]

theorem imgCtrlWrite_view {k} (hk : k &&& 16351228 = k) (a0 a1 a2 s) : (imgCtrlWrite a0 a1 a2 s).view k = s.view k := by
  refine view_le hk ?_
  unfold imgCtrlWrite
  simp only [imgFetch_view, imgAccept_view, imgReject_view, view_upd, fixed_mk, fixed_eta, apply_ite (State.view _),
      ite_self, Nat.reduceAnd, Nat.reduceDiv, Nat.reduceMod, Nat.zero_ne_one, implies_true, false_implies, Nat.div_one,
      kvSorted_kvPut, List.length_modify, List.length_map, List.length_set, List.length_mapIdx]

theorem autostart_view {k} (hk : k &&& 16742397 = k) (s) : (autostart s).view k = s.view k := by
  refine view_le hk ?_
  unfold autostart
  refine forEach_view (fun j t => ?_)
  split
  · generalize hx : jigControl j 1 t = x
    cases x with
    | error e => rfl
    | ok u => exact jigControl_view (by decide) hx
  · rfl

theorem fwStart_view {k} (hk : k &&& 0 = k) (s) : (fwStart s).view k = s.view k := by
  refine view_le hk ?_
  unfold fwStart
  simp only [autostart_view, becomeReady_view, channel0_view, State.setEnable_view, enginesStart_view, view_upd, fixed_mk,
      fixed_eta, apply_ite (State.view _), ite_self, Nat.reduceAnd, Nat.reduceDiv, Nat.reduceMod, Nat.zero_ne_one, implies_true,
      false_implies, Nat.div_one, kvSorted_kvPut, List.length_modify, List.length_map, List.length_set, List.length_mapIdx]

theorem imgCrcTake_view {k} (hk : k &&& 16744446 = k) (a0 a1 s) : (imgCrcTake a0 a1 s).view k = s.view k := by
  refine view_le hk ?_
  unfold imgCrcTake
  simp only [view_upd, fixed_mk, fixed_eta, apply_ite (State.view _), ite_self, Nat.reduceAnd, Nat.reduceDiv, Nat.reduceMod,
      Nat.zero_ne_one, implies_true, false_implies, Nat.div_one, kvSorted_kvPut, List.length_modify, List.length_map,
      List.length_set, List.length_mapIdx]

theorem imgLoaded_view {k} (hk : k &&& 0 = k) (a0 a1 s) : (imgLoaded a0 a1 s).view k = s.view k := by
  refine view_le hk ?_
  unfold imgLoaded
  simp only [imgCrcTake_view, fwStart_view, imgFail_view, view_upd, fixed_mk, fixed_eta, apply_ite (State.view _), ite_self,
      Nat.reduceAnd, Nat.reduceDiv, Nat.reduceMod, Nat.zero_ne_one, implies_true, false_implies, Nat.div_one, kvSorted_kvPut,
      List.length_modify, List.length_map, List.length_set, List.length_mapIdx]

theorem fwRequestsEnd_view {k} (hk : k &&& 0 = k) (s) : (fwRequestsEnd s).view k = s.view k := by
  refine view_le hk ?_
  unfold fwRequestsEnd
  simp (disch := (intros; first | done | (simp only [clFirmware_view, view_upd, fixed_mk, fixed_eta, apply_ite (State.view _), ite_self, Nat.reduceAnd, Nat.reduceDiv, Nat.reduceMod, Nat.zero_ne_one, implies_true, false_implies, Nat.div_one, kvSorted_kvPut, List.length_modify, List.length_map, List.length_set, List.length_mapIdx]; done) | ((repeat' split) <;> simp only [clFirmware_view, view_upd, fixed_mk, fixed_eta, apply_ite (State.view _), ite_self, Nat.reduceAnd, Nat.reduceDiv, Nat.reduceMod, Nat.zero_ne_one, implies_true, false_implies, Nat.div_one, kvSorted_kvPut, List.length_modify, List.length_map, List.length_set, List.length_mapIdx]; done) | grind [view_upd, fixed_mk, fixed_eta, List.length_modify, clFirmware_view])) only [clFirmware_view, view_upd, fixed_mk, fixed_eta, apply_ite (State.view _), ite_self, Nat.reduceAnd, Nat.reduceDiv, Nat.reduceMod, Nat.zero_ne_one, implies_true, false_implies, Nat.div_one, kvSorted_kvPut, List.length_modify, List.length_map, List.length_set, List.length_mapIdx, forEach_view, foldl_view]

theorem enginesReset_view {k} (hk : k &&& 16744447 = k) (s) : (enginesReset s).view k = s.view k := by
  refine view_le hk ?_
  unfold enginesReset
  simp only [view_upd, fixed_mk, fixed_eta, apply_ite (State.view _), ite_self, Nat.reduceAnd, Nat.reduceDiv, Nat.reduceMod,
      Nat.zero_ne_one, implies_true, false_implies, Nat.div_one, kvSorted_kvPut, List.length_modify, List.length_map,
      List.length_set, List.length_mapIdx]

theorem globalWatchdog_view {k} (hk : k &&& 0 = k) (s) : (globalWatchdog s).view k = s.view k := by
  refine view_le hk ?_
  unfold globalWatchdog
  simp (disch := (intros; first | done | (simp only [updateFail_view, jigHalt_view, enginesReset_view, thmodelLost_view, clearReady_view, fwRequestsEnd_view, setDowelFlag_view, raise_view, assertNmi_view, channel0_view, view_upd, fixed_mk, fixed_eta, apply_ite (State.view _), ite_self, Nat.reduceAnd, Nat.reduceDiv, Nat.reduceMod, Nat.zero_ne_one, implies_true, false_implies, Nat.div_one, kvSorted_kvPut, List.length_modify, List.length_map, List.length_set, List.length_mapIdx]; done) | ((repeat' split) <;> simp only [updateFail_view, jigHalt_view, enginesReset_view, thmodelLost_view, clearReady_view, fwRequestsEnd_view, setDowelFlag_view, raise_view, assertNmi_view, channel0_view, view_upd, fixed_mk, fixed_eta, apply_ite (State.view _), ite_self, Nat.reduceAnd, Nat.reduceDiv, Nat.reduceMod, Nat.zero_ne_one, implies_true, false_implies, Nat.div_one, kvSorted_kvPut, List.length_modify, List.length_map, List.length_set, List.length_mapIdx]; done) | grind [view_upd, fixed_mk, fixed_eta, List.length_modify, updateFail_view, jigHalt_view, enginesReset_view, thmodelLost_view, clearReady_view, fwRequestsEnd_view, setDowelFlag_view, raise_view, assertNmi_view, channel0_view])) only [updateFail_view, jigHalt_view, enginesReset_view, thmodelLost_view, clearReady_view, fwRequestsEnd_view, setDowelFlag_view, raise_view, assertNmi_view, channel0_view, view_upd, fixed_mk, fixed_eta, apply_ite (State.view _), ite_self, Nat.reduceAnd, Nat.reduceDiv, Nat.reduceMod, Nat.zero_ne_one, implies_true, false_implies, Nat.div_one, kvSorted_kvPut, List.length_modify, List.length_map, List.length_set, List.length_mapIdx, forEach_view, foldl_view]

theorem execVddAonRise_view {k} (hk : k &&& 16760766 = k) {s t} (h : execVddAonRise s = .next t) : t.view k = State.view k {
    s with aon := { s.aon with vddAon := true } } := by
  refine view_le hk ?_
  unfold execVddAonRise at h
  split at h
  · rename_i hr
    rw [← Host.Outcome.next.inj h, ← hr]
  · rw [← Host.Outcome.next.inj h]
    rw [view_upd (s := { s with aon := { s.aon with vddAon := true } })]
    · simp only [fixed_mk]
    all_goals first | exact fun _ => rfl | exact fun h => absurd h (by decide)

theorem execPorNRelease_view {k} (hk : k &&& 0 = k) {s t} (h : execPorNRelease s = .next t) :
    t.view k = s.view k ∨ s.aon.vddAon = true ∧ t.view k = State.view k { s with aon := { s.aon with porN := true } } := by
  unfold execPorNRelease at h
  split at h
  · rename_i hr
    rw [← Host.Outcome.next.inj h, becomeReady_view (view_trans hk (by decide))]
    refine .inr ⟨by simp_all, view_le hk ?_⟩
    rw [view_upd (s := { s with aon := { s.aon with porN := true } })]
    · simp only [fixed_mk]
    all_goals first | exact fun _ => rfl | exact fun h => absurd h (by decide)
  · rw [← Host.Outcome.next.inj h]
    exact .inl rfl

theorem execStrapLatch_view {k} (hk : k &&& 0 = k) {a0 a1 a2 s t} (h : execStrapLatch a0 a1 a2 s = .next t) : t.view k =
    s.view k := by
  refine view_le hk ?_
  unfold execStrapLatch at h
  (repeat' split at h) <;> simp only [Host.Outcome.next.injEq, Except.ok.injEq, Option.some.injEq, reduceCtorEq] at h <;> subst h <;> simp only [advanceTo_view, becomeReady_view, view_upd, fixed_mk, fixed_eta, apply_ite (State.view _), ite_self, Nat.reduceAnd, Nat.reduceDiv, Nat.reduceMod, Nat.zero_ne_one, implies_true, false_implies, Nat.div_one, kvSorted_kvPut, List.length_modify, List.length_map, List.length_set, List.length_mapIdx]

theorem execMgtReady_view {k} (hk : k &&& 0 = k) {s t} (h : execMgtReady s = .next t) : t.view k = s.view k := by
  refine view_le hk ?_
  unfold execMgtReady at h
  (repeat' split at h) <;> simp only [Host.Outcome.next.injEq, Except.ok.injEq, Option.some.injEq, reduceCtorEq] at h <;> subst h <;> simp only [staticEid_view, becomeReady_view, advanceTo_view, view_upd, fixed_mk, fixed_eta, apply_ite (State.view _), ite_self, Nat.reduceAnd, Nat.reduceDiv, Nat.reduceMod, Nat.zero_ne_one, implies_true, false_implies, Nat.div_one, kvSorted_kvPut, List.length_modify, List.length_map, List.length_set, List.length_mapIdx]

theorem XspiResetEnd_view {u s : State} (hk : u.view 15463420 = s.view 15463420) :
    State.view 15463420 { u with aon := { u.aon with xspiRstN := true, flashWaitFrom := some u.aon.clock } } = s.view
        15463420 :=
  aon_view hk (by decide) rfl rfl rfl

theorem execXspiResetEnd_view {k} (hk : k &&& 15463420 = k) {s t} (h : execXspiResetEnd s = .next t) : t.view k = s.view k := by
  refine view_le hk ?_
  unfold execXspiResetEnd at h
  revert h
  refine ite_next_view (fun h => ?_) (fun h => by rw [← Host.Outcome.next.inj h])
  rw [← Host.Outcome.next.inj h]
  exact XspiResetEnd_view (advanceTo_view (by decide) _ _)

theorem BootFlashReadStart_view {u s : State} (hk : u.view 15463420 = s.view 15463420) :
    State.view 15463420 { u with aon := { u.aon with bootReading := true } } = s.view 15463420 :=
  aon_view hk (by decide) rfl rfl rfl

theorem execBootFlashReadStart_view {k} (hk : k &&& 15463420 = k) {s t} (h : execBootFlashReadStart s = .next t) : t.view k
    = s.view k := by
  refine view_le hk ?_
  unfold execBootFlashReadStart at h
  cases hx : s.aon.flashWaitFrom with
  | none => rw [hx] at h; rw [← Host.Outcome.next.inj h]
  | some x =>
    rw [hx] at h
    revert h
    dsimp only
    refine ite_next_view (fun h => ?_) (fun h => by rw [← Host.Outcome.next.inj h])
    rw [← Host.Outcome.next.inj h]
    exact BootFlashReadStart_view (advanceTo_view (by decide) _ _)

theorem execBootReadsDone_view {k} (hk : k &&& 0 = k) {s t} (h : execBootReadsDone s = .next t) : t.view k = s.view k := by
  refine view_le hk ?_
  unfold execBootReadsDone at h
  (repeat' split at h) <;> simp only [Host.Outcome.next.injEq, Except.ok.injEq, Option.some.injEq, reduceCtorEq] at h <;> subst h <;> simp only [bootReads_view, view_upd, fixed_mk, fixed_eta, apply_ite (State.view _), ite_self, Nat.reduceAnd, Nat.reduceDiv, Nat.reduceMod, Nat.zero_ne_one, implies_true, false_implies, Nat.div_one, kvSorted_kvPut, List.length_modify, List.length_map, List.length_set, List.length_mapIdx]

theorem refQualified_view {k} (hk : k &&& 16774076 = k) (a0 s) : (refQualified a0 s).view k = s.view k := by
  refine view_le hk ?_
  unfold refQualified
  simp only [srcQualify_view, view_upd, fixed_mk, fixed_eta, apply_ite (State.view _), ite_self, Nat.reduceAnd,
      Nat.reduceDiv, Nat.reduceMod, Nat.zero_ne_one, implies_true, false_implies, Nat.div_one, kvSorted_kvPut,
      List.length_modify, List.length_map, List.length_set, List.length_mapIdx]

theorem execReferenceQualified_view {k} (hk : k &&& 16774076 = k) {a0 s t} (h : execReferenceQualified a0 s = .next t) :
    t.view k = s.view k := by
  refine view_le hk ?_
  unfold execReferenceQualified at h
  (repeat' split at h) <;> simp only [Host.Outcome.next.injEq, Except.ok.injEq, Option.some.injEq, reduceCtorEq] at h <;> subst h <;> simp only [refQualified_view, view_upd, fixed_mk, fixed_eta, apply_ite (State.view _), ite_self, Nat.reduceAnd, Nat.reduceDiv, Nat.reduceMod, Nat.zero_ne_one, implies_true, false_implies, Nat.div_one, kvSorted_kvPut, List.length_modify, List.length_map, List.length_set, List.length_mapIdx]

theorem execReferenceLimitExpiry_view {k} (hk : k &&& 15463420 = k) {s t} (h : execReferenceLimitExpiry s = .next t) :
    t.view k = s.view k := by
  refine view_le hk ?_
  unfold execReferenceLimitExpiry at h
  (repeat' split at h) <;> simp only [Host.Outcome.next.injEq, Except.ok.injEq, Option.some.injEq, reduceCtorEq] at h <;> subst h <;> simp only [advanceTo_view, raise_view, view_upd, fixed_mk, fixed_eta, apply_ite (State.view _), ite_self, Nat.reduceAnd, Nat.reduceDiv, Nat.reduceMod, Nat.zero_ne_one, implies_true, false_implies, Nat.div_one, kvSorted_kvPut, List.length_modify, List.length_map, List.length_set, List.length_mapIdx]

theorem execCtlPllLock_view {k} (hk : k &&& 0 = k) {s t} (h : execCtlPllLock s = .next t) : t.view k = s.view k := by
  refine view_le hk ?_
  unfold execCtlPllLock at h
  (repeat' split at h) <;> simp only [Host.Outcome.next.injEq, Except.ok.injEq, Option.some.injEq, reduceCtorEq] at h <;> subst h <;> simp only [becomeReady_view, view_upd, fixed_mk, fixed_eta, apply_ite (State.view _), ite_self, Nat.reduceAnd, Nat.reduceDiv, Nat.reduceMod, Nat.zero_ne_one, implies_true, false_implies, Nat.div_one, kvSorted_kvPut, List.length_modify, List.length_map, List.length_set, List.length_mapIdx]

theorem trackedStart_view {k} (hk : k &&& 0 = k) (a0 s) : (trackedStart a0 s).view k = s.view k := by
  refine view_le hk ?_
  unfold trackedStart
  simp only [raise_view, loadBoot_view, State.setEnable_view, groupTurn_view, view_upd, fixed_mk, fixed_eta, apply_ite
      (State.view _), ite_self, Nat.reduceAnd, Nat.reduceDiv, Nat.reduceMod, Nat.zero_ne_one, implies_true, false_implies,
      Nat.div_one, kvSorted_kvPut, List.length_modify, List.length_map, List.length_set, List.length_mapIdx]

theorem execTrackedStart_view {k} (hk : k &&& 0 = k) {s t} (h : execTrackedStart s = .next t) : t.view k = s.view k := by
  refine view_le hk ?_
  unfold execTrackedStart at h
  (repeat' split at h) <;> simp only [Host.Outcome.next.injEq, Except.ok.injEq, Option.some.injEq, reduceCtorEq] at h <;> subst h <;> simp only [trackedStart_view, view_upd, fixed_mk, fixed_eta, apply_ite (State.view _), ite_self, Nat.reduceAnd, Nat.reduceDiv, Nat.reduceMod, Nat.zero_ne_one, implies_true, false_implies, Nat.div_one, kvSorted_kvPut, List.length_modify, List.length_map, List.length_set, List.length_mapIdx]

theorem execGroupDelayExpiry_view {k} (hk : k &&& 15463372 = k) {s t} (h : execGroupDelayExpiry s = .next t) : t.view k =
    s.view k := by
  refine view_le hk ?_
  unfold execGroupDelayExpiry at h
  (repeat' split at h) <;> simp only [Host.Outcome.next.injEq, Except.ok.injEq, Option.some.injEq, reduceCtorEq] at h <;> subst h <;> simp only [groupGo_view, advanceTo_view, view_upd, fixed_mk, fixed_eta, apply_ite (State.view _), ite_self, Nat.reduceAnd, Nat.reduceDiv, Nat.reduceMod, Nat.zero_ne_one, implies_true, false_implies, Nat.div_one, kvSorted_kvPut, List.length_modify, List.length_map, List.length_set, List.length_mapIdx]

theorem execRailPowerGood_view {k} (hk : k &&& 0 = k) {a0 s t} (h : execRailPowerGood a0 s = .next t) : t.view k = s.view k
    := by
  refine view_le hk ?_
  unfold execRailPowerGood at h
  (repeat' split at h) <;> simp only [Host.Outcome.next.injEq, Except.ok.injEq, Option.some.injEq, reduceCtorEq] at h <;> subst h <;> simp only [powerGood_view, view_upd, fixed_mk, fixed_eta, apply_ite (State.view _), ite_self, Nat.reduceAnd, Nat.reduceDiv, Nat.reduceMod, Nat.zero_ne_one, implies_true, false_implies, Nat.div_one, kvSorted_kvPut, List.length_modify, List.length_map, List.length_set, List.length_mapIdx]

theorem execPgTimeout_view {k} (hk : k &&& 15446148 = k) {s t} (h : execPgTimeout s = .next t) : t.view k = s.view k := by
  refine view_le hk ?_
  unfold execPgTimeout at h
  (repeat' split at h) <;> simp only [Host.Outcome.next.injEq, Except.ok.injEq, Option.some.injEq, reduceCtorEq] at h <;> subst h <;> simp only [groupMissed_view, advanceTo_view, view_upd, fixed_mk, fixed_eta, apply_ite (State.view _), ite_self, Nat.reduceAnd, Nat.reduceDiv, Nat.reduceMod, Nat.zero_ne_one, implies_true, false_implies, Nat.div_one, kvSorted_kvPut, List.length_modify, List.length_map, List.length_set, List.length_mapIdx]

theorem execEngRelease_view {k} (hk : k &&& 15463420 = k) {s t} (h : execEngRelease s = .next t) : t.view k = s.view k := by
  refine view_le hk ?_
  unfold execEngRelease at h
  (repeat' split at h) <;> simp only [Host.Outcome.next.injEq, Except.ok.injEq, Option.some.injEq, reduceCtorEq] at h <;> subst h <;> simp only [engGo_view, advanceTo_view, view_upd, fixed_mk, fixed_eta, apply_ite (State.view _), ite_self, Nat.reduceAnd, Nat.reduceDiv, Nat.reduceMod, Nat.zero_ne_one, implies_true, false_implies, Nat.div_one, kvSorted_kvPut, List.length_modify, List.length_map, List.length_set, List.length_mapIdx]

theorem execPllATimeout_view {k} (hk : k &&& 15463420 = k) {s t} (h : execPllATimeout s = .next t) : t.view k = s.view k := by
  refine view_le hk ?_
  unfold execPllATimeout at h
  (repeat' split at h) <;> simp only [Host.Outcome.next.injEq, Except.ok.injEq, Option.some.injEq, reduceCtorEq] at h <;> subst h <;> simp only [engGo_view, raise_view, advanceTo_view, view_upd, fixed_mk, fixed_eta, apply_ite (State.view _), ite_self, Nat.reduceAnd, Nat.reduceDiv, Nat.reduceMod, Nat.zero_ne_one, implies_true, false_implies, Nat.div_one, kvSorted_kvPut, List.length_modify, List.length_map, List.length_set, List.length_mapIdx]

theorem fabReset_view {k} (hk : k &&& 12582906 = k) (s) : (fabReset s).view k = State.view k { s with aon := { s.aon with
    hostRstN := false } } := by
  refine view_le hk ?_
  unfold fabReset
  rw [view_upd (s := { s with aon := { s.aon with hostRstN := false } })]
  · simp only [fixed_mk, List.length_map]
  · exact fun h => absurd h (by decide)
  · exact fun _ => rfl
  · exact fun h => absurd h (by decide)
  all_goals first | exact fun _ => rfl | exact fun h => absurd h (by decide)

theorem execHostRstNAssert_view {k} (hk : k &&& 12582906 = k) {s t} (h : execHostRstNAssert s = .next t) : t.view k =
    State.view k { s with aon := { s.aon with hostRstN := false } } := by
  unfold execHostRstNAssert at h
  split at h
  · rw [← Host.Outcome.next.inj h, fabReset_view (view_trans hk (by decide))]
  · rename_i hr
    rw [← Host.Outcome.next.inj h, ← Bool.eq_false_of_not_eq_true hr]

theorem execHostRstNRelease_view {k} (hk : k &&& 16777214 = k) {s t} (h : execHostRstNRelease s = .next t) : t.view k =
    State.view k { s with aon := { s.aon with hostRstN := true } } := by
  unfold execHostRstNRelease at h
  split at h
  · rename_i hr
    rw [← Host.Outcome.next.inj h, ← hr]
  · rw [← Host.Outcome.next.inj h, fabTry_view (view_trans hk (by decide))]

theorem execEnumStart_view {k} (hk : k &&& 15728631 = k) {s t} (h : execEnumStart s = .next t) : t.view k = s.view k := by
  refine view_le hk ?_
  unfold execEnumStart at h
  (repeat' split at h) <;> simp only [Host.Outcome.next.injEq, Except.ok.injEq, Option.some.injEq, reduceCtorEq] at h <;> subst h <;> simp only [takeRoot_view, view_upd, fixed_mk, fixed_eta, apply_ite (State.view _), ite_self, Nat.reduceAnd, Nat.reduceDiv, Nat.reduceMod, Nat.zero_ne_one, implies_true, false_implies, Nat.div_one, kvSorted_kvPut, List.length_modify, List.length_map, List.length_set, List.length_mapIdx]

theorem chainTimeout_view {u s : State} (hk : u.view 15463412 = s.view 15463412) :
    (rejoinTry (raise 0x0602 2 0 0 (isolate { u with aon := { u.aon with step3Done := true } }))).view 15463412 = s.view
        15463412 := by
  rw [rejoinTry_view (by decide), raise_view (by decide), isolate_view (by decide)]
  exact aon_view hk (by decide) rfl rfl rfl

theorem execChainTimeout_view {k} (hk : k &&& 15463412 = k) {s t} (h : execChainTimeout s = .next t) : t.view k = s.view k := by
  refine view_le hk ?_
  unfold execChainTimeout at h
  cases hx : s.aon.step3At with
  | none => rw [hx] at h; rw [← Host.Outcome.next.inj h]
  | some x =>
    rw [hx] at h
    revert h
    dsimp only
    refine ite_next_view (fun h => ?_) (fun h => by rw [← Host.Outcome.next.inj h])
    rw [← Host.Outcome.next.inj h]
    exact chainTimeout_view (advanceTo_view (by decide) _ _)

theorem hostStart_view {k} (hk : k &&& 0 = k) (s) : (hostStart s).view k = s.view k := by
  refine view_le hk ?_
  unfold hostStart
  simp only [becomeReady_view, State.setEnable_view, setReady_view, recorderStart_view, functionDefaults_view, view_upd,
      fixed_mk, fixed_eta, apply_ite (State.view _), ite_self, Nat.reduceAnd, Nat.reduceDiv, Nat.reduceMod, Nat.zero_ne_one,
      implies_true, false_implies, Nat.div_one, kvSorted_kvPut, List.length_modify, List.length_map, List.length_set,
      List.length_mapIdx]

theorem execHostInterfaceStart_view {k} (hk : k &&& 0 = k) {s t} (h : execHostInterfaceStart s = .next t) : t.view k =
    s.view k := by
  refine view_le hk ?_
  unfold execHostInterfaceStart at h
  (repeat' split at h) <;> simp only [Host.Outcome.next.injEq, Except.ok.injEq, Option.some.injEq, reduceCtorEq] at h <;> subst h <;> simp only [hostStart_view, view_upd, fixed_mk, fixed_eta, apply_ite (State.view _), ite_self, Nat.reduceAnd, Nat.reduceDiv, Nat.reduceMod, Nat.zero_ne_one, implies_true, false_implies, Nat.div_one, kvSorted_kvPut, List.length_modify, List.length_map, List.length_set, List.length_mapIdx]

theorem execImgStagingDone_view {k} (hk : k &&& 16351228 = k) {a0 s t} (h : execImgStagingDone a0 s = .next t) : t.view k =
    s.view k := by
  refine view_le hk ?_
  unfold execImgStagingDone at h
  (repeat' split at h) <;> simp only [Host.Outcome.next.injEq, Except.ok.injEq, Option.some.injEq, reduceCtorEq] at h <;> subst h <;> simp only [imgStaged_view, view_upd, fixed_mk, fixed_eta, apply_ite (State.view _), ite_self, Nat.reduceAnd, Nat.reduceDiv, Nat.reduceMod, Nat.zero_ne_one, implies_true, false_implies, Nat.div_one, kvSorted_kvPut, List.length_modify, List.length_map, List.length_set, List.length_mapIdx]

theorem execImgLoadDone_view {k} (hk : k &&& 0 = k) {a0 a1 s t} (h : execImgLoadDone a0 a1 s = .next t) : t.view k = s.view
    k := by
  refine view_le hk ?_
  unfold execImgLoadDone at h
  (repeat' split at h) <;> simp only [Host.Outcome.next.injEq, Except.ok.injEq, Option.some.injEq, reduceCtorEq] at h <;> subst h <;> simp only [imgLoaded_view, view_upd, fixed_mk, fixed_eta, apply_ite (State.view _), ite_self, Nat.reduceAnd, Nat.reduceDiv, Nat.reduceMod, Nat.zero_ne_one, implies_true, false_implies, Nat.div_one, kvSorted_kvPut, List.length_modify, List.length_map, List.length_set, List.length_mapIdx]

theorem execGlobalWatchdogExpiry_view {k} (hk : k &&& 0 = k) {s t} (h : execGlobalWatchdogExpiry s = .next t) : t.view k =
    s.view k := by
  refine view_le hk ?_
  unfold execGlobalWatchdogExpiry at h
  (repeat' split at h) <;> simp only [Host.Outcome.next.injEq, Except.ok.injEq, Option.some.injEq, reduceCtorEq] at h <;> subst h <;> simp only [globalWatchdog_view, view_upd, fixed_mk, fixed_eta, apply_ite (State.view _), ite_self, Nat.reduceAnd, Nat.reduceDiv, Nat.reduceMod, Nat.zero_ne_one, implies_true, false_implies, Nat.div_one, kvSorted_kvPut, List.length_modify, List.length_map, List.length_set, List.length_mapIdx]

theorem execLinkLockGain_view {k} (hk : k &&& 15466484 = k) {a0 s t} (h : execLinkLockGain a0 s = .next t) : t.view k =
    s.view k := by
  refine view_le hk ?_
  unfold execLinkLockGain at h
  (repeat' split at h) <;> simp only [Host.Outcome.next.injEq, Except.ok.injEq, Option.some.injEq, reduceCtorEq] at h <;> subst h <;> simp only [State.updLink_view, rootConflict_view, rejoinTry_view, forwardToken_view, pumpLink_view, view_upd, fixed_mk, fixed_eta, apply_ite (State.view _), ite_self, Nat.reduceAnd, Nat.reduceDiv, Nat.reduceMod, Nat.zero_ne_one, implies_true, false_implies, Nat.div_one, kvSorted_kvPut, List.length_modify, List.length_map, List.length_set, List.length_mapIdx]

theorem execLinkCodeErrorLoss_view {k} (hk : k &&& 16777205 = k) {a0 s t} (h : execLinkCodeErrorLoss a0 s = .next t) :
    t.view k = s.view k := by
  refine view_le hk ?_
  unfold execLinkCodeErrorLoss at h
  (repeat' split at h) <;> simp only [Host.Outcome.next.injEq, Except.ok.injEq, Option.some.injEq, reduceCtorEq] at h <;> subst h <;> simp only [loseLock_view, linkCount_view, view_upd, fixed_mk, fixed_eta, apply_ite (State.view _), ite_self, Nat.reduceAnd, Nat.reduceDiv, Nat.reduceMod, Nat.zero_ne_one, implies_true, false_implies, Nat.div_one, kvSorted_kvPut, List.length_modify, List.length_map, List.length_set, List.length_mapIdx]

theorem execLinkK285Timeout_view {k} (hk : k &&& 16777207 = k) {a0 s t} (h : execLinkK285Timeout a0 s = .next t) : t.view k
    = s.view k := by
  refine view_le hk ?_
  unfold execLinkK285Timeout at h
  (repeat' split at h) <;> simp only [Host.Outcome.next.injEq, Except.ok.injEq, Option.some.injEq, reduceCtorEq] at h <;> subst h <;> simp only [loseLock_view, view_upd, fixed_mk, fixed_eta, apply_ite (State.view _), ite_self, Nat.reduceAnd, Nat.reduceDiv, Nat.reduceMod, Nat.zero_ne_one, implies_true, false_implies, Nat.div_one, kvSorted_kvPut, List.length_modify, List.length_map, List.length_set, List.length_mapIdx]

theorem execLinkRelockTimeout_view {k} (hk : k &&& 7057540 = k) {a0 s t} (h : execLinkRelockTimeout a0 s = .next t) : t.view
    k = s.view k := by
  refine view_le hk ?_
  unfold execLinkRelockTimeout at h
  (repeat' split at h) <;> simp only [Host.Outcome.next.injEq, Except.ok.injEq, Option.some.injEq, reduceCtorEq] at h <;> subst h <;> simp only [linkDown_view, advanceTo_view, view_upd, fixed_mk, fixed_eta, apply_ite (State.view _), ite_self, Nat.reduceAnd, Nat.reduceDiv, Nat.reduceMod, Nat.zero_ne_one, implies_true, false_implies, Nat.div_one, kvSorted_kvPut, List.length_modify, List.length_map, List.length_set, List.length_mapIdx]

theorem execLinkAckTimeout_view {k} (hk : k &&& 7057540 = k) {a0 a1 s t} (h : execLinkAckTimeout a0 a1 s = .next t) : t.view
    k = s.view k := by
  refine view_le hk ?_
  unfold execLinkAckTimeout at h
  (repeat' split at h) <;> simp only [Host.Outcome.next.injEq, Except.ok.injEq, Option.some.injEq, reduceCtorEq] at h <;> subst h <;> simp only [linkDown_view, advanceTo_view, view_upd, fixed_mk, fixed_eta, apply_ite (State.view _), ite_self, Nat.reduceAnd, Nat.reduceDiv, Nat.reduceMod, Nat.zero_ne_one, implies_true, false_implies, Nat.div_one, kvSorted_kvPut, List.length_modify, List.length_map, List.length_set, List.length_mapIdx]

theorem execAckReceive_view {k} (hk : k &&& 15728631 = k) {a0 a1 a2 s t} (h : execAckReceive a0 a1 a2 s = .next t) : t.view
    k = s.view k := by
  refine view_le hk ?_
  unfold execAckReceive at h
  simp only [Host.Outcome.next.injEq, Except.ok.injEq, Option.some.injEq] at h
  subst h
  simp only [ackIn_view, view_upd, fixed_mk, fixed_eta, apply_ite (State.view _), ite_self, Nat.reduceAnd, Nat.reduceDiv,
      Nat.reduceMod, Nat.zero_ne_one, implies_true, false_implies, Nat.div_one, kvSorted_kvPut, List.length_modify,
      List.length_map, List.length_set, List.length_mapIdx]

theorem execNakReceive_view {k} (hk : k &&& 7057540 = k) {a0 a1 a2 s t} (h : execNakReceive a0 a1 a2 s = .next t) : t.view k
    = s.view k := by
  refine view_le hk ?_
  unfold execNakReceive at h
  grind [view_upd, fixed_mk, fixed_eta, List.length_modify, State.updLane_view, linkDown_view, linkCount_view]

theorem execFrameReceiveBadCrc_view {k} (hk : k &&& 16777205 = k) {a0 a1 s t} (h : execFrameReceiveBadCrc a0 a1 s = .next t)
    : t.view k = s.view k := by
  refine view_le hk ?_
  unfold execFrameReceiveBadCrc at h
  simp only [Host.Outcome.next.injEq, Except.ok.injEq, Option.some.injEq] at h
  subst h
  simp only [frameBad_view, view_upd, fixed_mk, fixed_eta, apply_ite (State.view _), ite_self, Nat.reduceAnd, Nat.reduceDiv,
      Nat.reduceMod, Nat.zero_ne_one, implies_true, false_implies, Nat.div_one, kvSorted_kvPut, List.length_modify,
      List.length_map, List.length_set, List.length_mapIdx]

theorem execPoisonReceive_view {k} (hk : k &&& 16777207 = k) {a0 a1 s t} (h : execPoisonReceive a0 a1 s = .next t) : t.view
    k = s.view k := by
  refine view_le hk ?_
  unfold execPoisonReceive at h
  simp only [Host.Outcome.next.injEq, Except.ok.injEq, Option.some.injEq] at h
  subst h
  simp only [framePoison_view, view_upd, fixed_mk, fixed_eta, apply_ite (State.view _), ite_self, Nat.reduceAnd,
      Nat.reduceDiv, Nat.reduceMod, Nat.zero_ne_one, implies_true, false_implies, Nat.div_one, kvSorted_kvPut,
      List.length_modify, List.length_map, List.length_set, List.length_mapIdx]

theorem execEnumReceive_view {k} (hk : k &&& 15466484 = k) {a0 a1 s t} (h : execEnumReceive a0 a1 s = .next t) : t.view k =
    s.view k := by
  refine view_le hk ?_
  unfold execEnumReceive at h
  simp only [Host.Outcome.next.injEq, Except.ok.injEq, Option.some.injEq] at h
  subst h
  simp (disch := (intros; first | done | (simp only [takeToken_view, view_upd, fixed_mk, fixed_eta, apply_ite (State.view _), ite_self, Nat.reduceAnd, Nat.reduceDiv, Nat.reduceMod, Nat.zero_ne_one, implies_true, false_implies, Nat.div_one, kvSorted_kvPut, List.length_modify, List.length_map, List.length_set, List.length_mapIdx]; done) | ((repeat' split) <;> simp only [takeToken_view, view_upd, fixed_mk, fixed_eta, apply_ite (State.view _), ite_self, Nat.reduceAnd, Nat.reduceDiv, Nat.reduceMod, Nat.zero_ne_one, implies_true, false_implies, Nat.div_one, kvSorted_kvPut, List.length_modify, List.length_map, List.length_set, List.length_mapIdx]; done) | grind [view_upd, fixed_mk, fixed_eta, List.length_modify, takeToken_view])) only [takeToken_view, view_upd, fixed_mk, fixed_eta, apply_ite (State.view _), ite_self, Nat.reduceAnd, Nat.reduceDiv, Nat.reduceMod, Nat.zero_ne_one, implies_true, false_implies, Nat.div_one, kvSorted_kvPut, List.length_modify, List.length_map, List.length_set, List.length_mapIdx, frameIn_view, forEach_view, foldl_view]

theorem execEnumForward_view {k} (hk : k &&& 15728631 = k) {s t} (h : execEnumForward s = .next t) : t.view k = s.view k := by
  refine view_le hk ?_
  unfold execEnumForward at h
  simp only [Host.Outcome.next.injEq, Except.ok.injEq, Option.some.injEq] at h
  subst h
  simp only [forwardToken_view, view_upd, fixed_mk, fixed_eta, apply_ite (State.view _), ite_self, Nat.reduceAnd,
      Nat.reduceDiv, Nat.reduceMod, Nat.zero_ne_one, implies_true, false_implies, Nat.div_one, kvSorted_kvPut,
      List.length_modify, List.length_map, List.length_set, List.length_mapIdx]

theorem execFarEndTimeout_view {k} (hk : k &&& 0 = k) {s t} (h : execFarEndTimeout s = .next t) : t.view k = s.view k := by
  refine view_le hk ?_
  unfold execFarEndTimeout at h
  grind [view_upd, fixed_mk, fixed_eta, List.length_modify, advanceTo_view, rootClose_view, reportToken_view]

theorem execEnumRepeat_view {k} (hk : k &&& 15463412 = k) {s t} (h : execEnumRepeat s = .next t) : t.view k = s.view k := by
  refine view_le hk ?_
  unfold execEnumRepeat at h
  (repeat' split at h) <;> simp only [Host.Outcome.next.injEq, Except.ok.injEq, Option.some.injEq, reduceCtorEq] at h <;> subst h <;> simp only [sendEnum_view, advanceTo_view, view_upd, fixed_mk, fixed_eta, apply_ite (State.view _), ite_self, Nat.reduceAnd, Nat.reduceDiv, Nat.reduceMod, Nat.zero_ne_one, implies_true, false_implies, Nat.div_one, kvSorted_kvPut, List.length_modify, List.length_map, List.length_set, List.length_mapIdx]

theorem execEnumTimeout_view {k} (hk : k &&& 0 = k) {s t} (h : execEnumTimeout s = .next t) : t.view k = s.view k := by
  refine view_le hk ?_
  unfold execEnumTimeout at h
  (repeat' split at h) <;> simp only [Host.Outcome.next.injEq, Except.ok.injEq, Option.some.injEq, reduceCtorEq] at h <;> subst h <;> simp only [rootClose_view, advanceTo_view, view_upd, fixed_mk, fixed_eta, apply_ite (State.view _), ite_self, Nat.reduceAnd, Nat.reduceDiv, Nat.reduceMod, Nat.zero_ne_one, implies_true, false_implies, Nat.div_one, kvSorted_kvPut, List.length_modify, List.length_map, List.length_set, List.length_mapIdx]

theorem execEnumReportReceive_view {k} (hk : k &&& 0 = k) {a0 a1 s t} (h : execEnumReportReceive a0 a1 s = .next t) : t.view
    k = s.view k := by
  refine view_le hk ?_
  unfold execEnumReportReceive at h
  simp only [Host.Outcome.next.injEq, Except.ok.injEq, Option.some.injEq] at h
  subst h
  simp (disch := (intros; first | done | (simp only [takeReport_view, view_upd, fixed_mk, fixed_eta, apply_ite (State.view _), ite_self, Nat.reduceAnd, Nat.reduceDiv, Nat.reduceMod, Nat.zero_ne_one, implies_true, false_implies, Nat.div_one, kvSorted_kvPut, List.length_modify, List.length_map, List.length_set, List.length_mapIdx]; done) | ((repeat' split) <;> simp only [takeReport_view, view_upd, fixed_mk, fixed_eta, apply_ite (State.view _), ite_self, Nat.reduceAnd, Nat.reduceDiv, Nat.reduceMod, Nat.zero_ne_one, implies_true, false_implies, Nat.div_one, kvSorted_kvPut, List.length_modify, List.length_map, List.length_set, List.length_mapIdx]; done) | grind [view_upd, fixed_mk, fixed_eta, List.length_modify, takeReport_view])) only [takeReport_view, view_upd, fixed_mk, fixed_eta, apply_ite (State.view _), ite_self, Nat.reduceAnd, Nat.reduceDiv, Nat.reduceMod, Nat.zero_ne_one, implies_true, false_implies, Nat.div_one, kvSorted_kvPut, List.length_modify, List.length_map, List.length_set, List.length_mapIdx, frameIn_view, forEach_view, foldl_view]

theorem execEnumCloseReceive_view {k} (hk : k &&& 0 = k) {a0 a1 s t} (h : execEnumCloseReceive a0 a1 s = .next t) : t.view k
    = s.view k := by
  refine view_le hk ?_
  unfold execEnumCloseReceive at h
  simp only [Host.Outcome.next.injEq, Except.ok.injEq, Option.some.injEq] at h
  subst h
  simp (disch := (intros; first | done | (simp only [hearClose_view, view_upd, fixed_mk, fixed_eta, apply_ite (State.view _), ite_self, Nat.reduceAnd, Nat.reduceDiv, Nat.reduceMod, Nat.zero_ne_one, implies_true, false_implies, Nat.div_one, kvSorted_kvPut, List.length_modify, List.length_map, List.length_set, List.length_mapIdx]; done) | ((repeat' split) <;> simp only [hearClose_view, view_upd, fixed_mk, fixed_eta, apply_ite (State.view _), ite_self, Nat.reduceAnd, Nat.reduceDiv, Nat.reduceMod, Nat.zero_ne_one, implies_true, false_implies, Nat.div_one, kvSorted_kvPut, List.length_modify, List.length_map, List.length_set, List.length_mapIdx]; done) | grind [view_upd, fixed_mk, fixed_eta, List.length_modify, hearClose_view])) only [hearClose_view, view_upd, fixed_mk, fixed_eta, apply_ite (State.view _), ite_self, Nat.reduceAnd, Nat.reduceDiv, Nat.reduceMod, Nat.zero_ne_one, implies_true, false_implies, Nat.div_one, kvSorted_kvPut, List.length_modify, List.length_map, List.length_set, List.length_mapIdx, frameIn_view, forEach_view, foldl_view]

theorem execNodeLostReceive_view {k} (hk : k &&& 7057540 = k) {a0 a1 s t} (h : execNodeLostReceive a0 a1 s = .next t) :
    t.view k = s.view k := by
  refine view_le hk ?_
  unfold execNodeLostReceive at h
  simp only [Host.Outcome.next.injEq, Except.ok.injEq, Option.some.injEq] at h
  subst h
  simp (disch := (intros; first | done | (simp only [hearLost_view, view_upd, fixed_mk, fixed_eta, apply_ite (State.view _), ite_self, Nat.reduceAnd, Nat.reduceDiv, Nat.reduceMod, Nat.zero_ne_one, implies_true, false_implies, Nat.div_one, kvSorted_kvPut, List.length_modify, List.length_map, List.length_set, List.length_mapIdx]; done) | ((repeat' split) <;> simp only [hearLost_view, view_upd, fixed_mk, fixed_eta, apply_ite (State.view _), ite_self, Nat.reduceAnd, Nat.reduceDiv, Nat.reduceMod, Nat.zero_ne_one, implies_true, false_implies, Nat.div_one, kvSorted_kvPut, List.length_modify, List.length_map, List.length_set, List.length_mapIdx]; done) | grind [view_upd, fixed_mk, fixed_eta, List.length_modify, hearLost_view])) only [hearLost_view, view_upd, fixed_mk, fixed_eta, apply_ite (State.view _), ite_self, Nat.reduceAnd, Nat.reduceDiv, Nat.reduceMod, Nat.zero_ne_one, implies_true, false_implies, Nat.div_one, kvSorted_kvPut, List.length_modify, List.length_map, List.length_set, List.length_mapIdx, frameIn_view, forEach_view, foldl_view]

theorem execNodeRejoinReceive_view {k} (hk : k &&& 15466484 = k) {a0 a1 s t} (h : execNodeRejoinReceive a0 a1 s = .next t) :
    t.view k = s.view k := by
  refine view_le hk ?_
  unfold execNodeRejoinReceive at h
  (repeat' split at h) <;> simp only [Host.Outcome.next.injEq, Except.ok.injEq, Option.some.injEq, reduceCtorEq] at h <;> subst h <;> (try simp (disch := (intros; first | done | (simp only [takeRejoin_view, rejoinTry_view, State.updLane_view, view_upd, fixed_mk, fixed_eta, apply_ite (State.view _), ite_self, Nat.reduceAnd, Nat.reduceDiv, Nat.reduceMod, Nat.zero_ne_one, implies_true, false_implies, Nat.div_one, kvSorted_kvPut, List.length_modify, List.length_map, List.length_set, List.length_mapIdx]; done) | ((repeat' split) <;> simp only [takeRejoin_view, rejoinTry_view, State.updLane_view, view_upd, fixed_mk, fixed_eta, apply_ite (State.view _), ite_self, Nat.reduceAnd, Nat.reduceDiv, Nat.reduceMod, Nat.zero_ne_one, implies_true, false_implies, Nat.div_one, kvSorted_kvPut, List.length_modify, List.length_map, List.length_set, List.length_mapIdx]; done) | grind [view_upd, fixed_mk, fixed_eta, List.length_modify, takeRejoin_view, rejoinTry_view, State.updLane_view])) only [takeRejoin_view, rejoinTry_view, State.updLane_view, view_upd, fixed_mk, fixed_eta, apply_ite (State.view _), ite_self, Nat.reduceAnd, Nat.reduceDiv, Nat.reduceMod, Nat.zero_ne_one, implies_true, false_implies, Nat.div_one, kvSorted_kvPut, List.length_modify, List.length_map, List.length_set, List.length_mapIdx, frameIn_view, forEach_view, foldl_view]) <;> grind [view_upd, fixed_mk, fixed_eta, List.length_modify, takeRejoin_view, rejoinTry_view, State.updLane_view]

theorem execHoldOutClear_view {k} (hk : k &&& 0 = k) {a0 a1 s t} (h : execHoldOutClear a0 a1 s = .next t) : t.view k =
    s.view k := by
  refine view_le hk ?_
  unfold execHoldOutClear at h
  simp only [Host.Outcome.next.injEq, Except.ok.injEq, Option.some.injEq] at h
  subst h
  simp only [clWhole_view, view_upd, fixed_mk, fixed_eta, apply_ite (State.view _), ite_self, Nat.reduceAnd, Nat.reduceDiv,
      Nat.reduceMod, Nat.zero_ne_one, implies_true, false_implies, Nat.div_one, kvSorted_kvPut, List.length_modify,
      List.length_map, List.length_set, List.length_mapIdx]

theorem execAssumeRoot_view {k} (hk : k &&& 0 = k) {a0 a1 s t} (h : execAssumeRoot a0 a1 s = .next t) : t.view k = s.view k
    := by
  refine view_le hk ?_
  unfold execAssumeRoot at h
  simp only [Host.Outcome.next.injEq, Except.ok.injEq, Option.some.injEq] at h
  subst h
  simp only [clWhole_view, view_upd, fixed_mk, fixed_eta, apply_ite (State.view _), ite_self, Nat.reduceAnd, Nat.reduceDiv,
      Nat.reduceMod, Nat.zero_ne_one, implies_true, false_implies, Nat.div_one, kvSorted_kvPut, List.length_modify,
      List.length_map, List.length_set, List.length_mapIdx]

theorem execReserveRelease_view {k} (hk : k &&& 0 = k) {a0 a1 s t} (h : execReserveRelease a0 a1 s = .next t) : t.view k =
    s.view k := by
  refine view_le hk ?_
  unfold execReserveRelease at h
  simp only [Host.Outcome.next.injEq, Except.ok.injEq, Option.some.injEq] at h
  subst h
  simp only [clWhole_view, view_upd, fixed_mk, fixed_eta, apply_ite (State.view _), ite_self, Nat.reduceAnd, Nat.reduceDiv,
      Nat.reduceMod, Nat.zero_ne_one, implies_true, false_implies, Nat.div_one, kvSorted_kvPut, List.length_modify,
      List.length_map, List.length_set, List.length_mapIdx]

theorem execBudReqReceive_view {k} (hk : k &&& 15728629 = k) {a0 a1 s t} (h : execBudReqReceive a0 a1 s = .next t) : t.view
    k = s.view k := by
  refine view_le hk ?_
  unfold execBudReqReceive at h
  simp only [Host.Outcome.next.injEq, Except.ok.injEq, Option.some.injEq] at h
  subst h
  simp (disch := (intros; first | done | (simp only [takeBudReq_view, view_upd, fixed_mk, fixed_eta, apply_ite (State.view _), ite_self, Nat.reduceAnd, Nat.reduceDiv, Nat.reduceMod, Nat.zero_ne_one, implies_true, false_implies, Nat.div_one, kvSorted_kvPut, List.length_modify, List.length_map, List.length_set, List.length_mapIdx]; done) | ((repeat' split) <;> simp only [takeBudReq_view, view_upd, fixed_mk, fixed_eta, apply_ite (State.view _), ite_self, Nat.reduceAnd, Nat.reduceDiv, Nat.reduceMod, Nat.zero_ne_one, implies_true, false_implies, Nat.div_one, kvSorted_kvPut, List.length_modify, List.length_map, List.length_set, List.length_mapIdx]; done) | grind [view_upd, fixed_mk, fixed_eta, List.length_modify, takeBudReq_view])) only [takeBudReq_view, view_upd, fixed_mk, fixed_eta, apply_ite (State.view _), ite_self, Nat.reduceAnd, Nat.reduceDiv, Nat.reduceMod, Nat.zero_ne_one, implies_true, false_implies, Nat.div_one, kvSorted_kvPut, List.length_modify, List.length_map, List.length_set, List.length_mapIdx, frameIn_view, forEach_view, foldl_view]

theorem execBudTransactionOpen_view {k} (hk : k &&& 15728629 = k) {s t} (h : execBudTransactionOpen s = .next t) : t.view k
    = s.view k := by
  refine view_le hk ?_
  unfold execBudTransactionOpen at h
  (repeat' split at h) <;> simp only [Host.Outcome.next.injEq, Except.ok.injEq, Option.some.injEq, reduceCtorEq] at h <;> subst h <;> simp only [openNext_view, view_upd, fixed_mk, fixed_eta, apply_ite (State.view _), ite_self, Nat.reduceAnd, Nat.reduceDiv, Nat.reduceMod, Nat.zero_ne_one, implies_true, false_implies, Nat.div_one, kvSorted_kvPut, List.length_modify, List.length_map, List.length_set, List.length_mapIdx]

theorem execBudPrepareReceive_view {k} (hk : k &&& 15728629 = k) {a0 a1 s t} (h : execBudPrepareReceive a0 a1 s = .next t) :
    t.view k = s.view k := by
  refine view_le hk ?_
  unfold execBudPrepareReceive at h
  simp only [Host.Outcome.next.injEq, Except.ok.injEq, Option.some.injEq] at h
  subst h
  simp (disch := (intros; first | done | (simp only [takePrepare_view, view_upd, fixed_mk, fixed_eta, apply_ite (State.view _), ite_self, Nat.reduceAnd, Nat.reduceDiv, Nat.reduceMod, Nat.zero_ne_one, implies_true, false_implies, Nat.div_one, kvSorted_kvPut, List.length_modify, List.length_map, List.length_set, List.length_mapIdx]; done) | ((repeat' split) <;> simp only [takePrepare_view, view_upd, fixed_mk, fixed_eta, apply_ite (State.view _), ite_self, Nat.reduceAnd, Nat.reduceDiv, Nat.reduceMod, Nat.zero_ne_one, implies_true, false_implies, Nat.div_one, kvSorted_kvPut, List.length_modify, List.length_map, List.length_set, List.length_mapIdx]; done) | grind [view_upd, fixed_mk, fixed_eta, List.length_modify, takePrepare_view])) only [takePrepare_view, view_upd, fixed_mk, fixed_eta, apply_ite (State.view _), ite_self, Nat.reduceAnd, Nat.reduceDiv, Nat.reduceMod, Nat.zero_ne_one, implies_true, false_implies, Nat.div_one, kvSorted_kvPut, List.length_modify, List.length_map, List.length_set, List.length_mapIdx, frameIn_view, forEach_view, foldl_view]

theorem execBudVoteReceive_view {k} (hk : k &&& 0 = k) {a0 a1 s t} (h : execBudVoteReceive a0 a1 s = .next t) : t.view k =
    s.view k := by
  refine view_le hk ?_
  unfold execBudVoteReceive at h
  simp only [Host.Outcome.next.injEq, Except.ok.injEq, Option.some.injEq] at h
  subst h
  simp (disch := (intros; first | done | (simp only [hearVote_view, view_upd, fixed_mk, fixed_eta, apply_ite (State.view _), ite_self, Nat.reduceAnd, Nat.reduceDiv, Nat.reduceMod, Nat.zero_ne_one, implies_true, false_implies, Nat.div_one, kvSorted_kvPut, List.length_modify, List.length_map, List.length_set, List.length_mapIdx]; done) | ((repeat' split) <;> simp only [hearVote_view, view_upd, fixed_mk, fixed_eta, apply_ite (State.view _), ite_self, Nat.reduceAnd, Nat.reduceDiv, Nat.reduceMod, Nat.zero_ne_one, implies_true, false_implies, Nat.div_one, kvSorted_kvPut, List.length_modify, List.length_map, List.length_set, List.length_mapIdx]; done) | grind [view_upd, fixed_mk, fixed_eta, List.length_modify, hearVote_view])) only [hearVote_view, view_upd, fixed_mk, fixed_eta, apply_ite (State.view _), ite_self, Nat.reduceAnd, Nat.reduceDiv, Nat.reduceMod, Nat.zero_ne_one, implies_true, false_implies, Nat.div_one, kvSorted_kvPut, List.length_modify, List.length_map, List.length_set, List.length_mapIdx, frameIn_view, forEach_view, foldl_view]

theorem execBudVoteTimeout_view {k} (hk : k &&& 15463412 = k) {s t} (h : execBudVoteTimeout s = .next t) : t.view k = s.view
    k := by
  refine view_le hk ?_
  unfold execBudVoteTimeout at h
  simp only [Host.Outcome.next.injEq, Except.ok.injEq, Option.some.injEq] at h
  subst h
  simp only [votesExpire_view, view_upd, fixed_mk, fixed_eta, apply_ite (State.view _), ite_self, Nat.reduceAnd,
      Nat.reduceDiv, Nat.reduceMod, Nat.zero_ne_one, implies_true, false_implies, Nat.div_one, kvSorted_kvPut,
      List.length_modify, List.length_map, List.length_set, List.length_mapIdx]

theorem execBudCommitReceive_view {k} (hk : k &&& 15728629 = k) {a0 a1 s t} (h : execBudCommitReceive a0 a1 s = .next t) :
    t.view k = s.view k := by
  refine view_le hk ?_
  unfold execBudCommitReceive at h
  simp only [Host.Outcome.next.injEq, Except.ok.injEq, Option.some.injEq] at h
  subst h
  simp (disch := (intros; first | done | (simp only [hearCommit_view, view_upd, fixed_mk, fixed_eta, apply_ite (State.view _), ite_self, Nat.reduceAnd, Nat.reduceDiv, Nat.reduceMod, Nat.zero_ne_one, implies_true, false_implies, Nat.div_one, kvSorted_kvPut, List.length_modify, List.length_map, List.length_set, List.length_mapIdx]; done) | ((repeat' split) <;> simp only [hearCommit_view, view_upd, fixed_mk, fixed_eta, apply_ite (State.view _), ite_self, Nat.reduceAnd, Nat.reduceDiv, Nat.reduceMod, Nat.zero_ne_one, implies_true, false_implies, Nat.div_one, kvSorted_kvPut, List.length_modify, List.length_map, List.length_set, List.length_mapIdx]; done) | grind [view_upd, fixed_mk, fixed_eta, List.length_modify, hearCommit_view])) only [hearCommit_view, view_upd, fixed_mk, fixed_eta, apply_ite (State.view _), ite_self, Nat.reduceAnd, Nat.reduceDiv, Nat.reduceMod, Nat.zero_ne_one, implies_true, false_implies, Nat.div_one, kvSorted_kvPut, List.length_modify, List.length_map, List.length_set, List.length_mapIdx, frameIn_view, forEach_view, foldl_view]

theorem execBudCommitApply_view {k} (hk : k &&& 16774133 = k) {a0 s t} (h : execBudCommitApply a0 s = .next t) : t.view k =
    s.view k := by
  refine view_le hk ?_
  unfold execBudCommitApply at h
  simp only [Host.Outcome.next.injEq, Except.ok.injEq, Option.some.injEq] at h
  subst h
  simp only [applyDue_view, view_upd, fixed_mk, fixed_eta, apply_ite (State.view _), ite_self, Nat.reduceAnd, Nat.reduceDiv,
      Nat.reduceMod, Nat.zero_ne_one, implies_true, false_implies, Nat.div_one, kvSorted_kvPut, List.length_modify,
      List.length_map, List.length_set, List.length_mapIdx]

theorem execBudAbortReceive_view {k} (hk : k &&& 15728629 = k) {a0 a1 s t} (h : execBudAbortReceive a0 a1 s = .next t) :
    t.view k = s.view k := by
  refine view_le hk ?_
  unfold execBudAbortReceive at h
  simp only [Host.Outcome.next.injEq, Except.ok.injEq, Option.some.injEq] at h
  subst h
  simp (disch := (intros; first | done | (simp only [hearAbort_view, view_upd, fixed_mk, fixed_eta, apply_ite (State.view _), ite_self, Nat.reduceAnd, Nat.reduceDiv, Nat.reduceMod, Nat.zero_ne_one, implies_true, false_implies, Nat.div_one, kvSorted_kvPut, List.length_modify, List.length_map, List.length_set, List.length_mapIdx]; done) | ((repeat' split) <;> simp only [hearAbort_view, view_upd, fixed_mk, fixed_eta, apply_ite (State.view _), ite_self, Nat.reduceAnd, Nat.reduceDiv, Nat.reduceMod, Nat.zero_ne_one, implies_true, false_implies, Nat.div_one, kvSorted_kvPut, List.length_modify, List.length_map, List.length_set, List.length_mapIdx]; done) | grind [view_upd, fixed_mk, fixed_eta, List.length_modify, hearAbort_view])) only [hearAbort_view, view_upd, fixed_mk, fixed_eta, apply_ite (State.view _), ite_self, Nat.reduceAnd, Nat.reduceDiv, Nat.reduceMod, Nat.zero_ne_one, implies_true, false_implies, Nat.div_one, kvSorted_kvPut, List.length_modify, List.length_map, List.length_set, List.length_mapIdx, frameIn_view, forEach_view, foldl_view]

theorem execBudOutcomeTimeout_view {k} (hk : k &&& 15463412 = k) {a0 s t} (h : execBudOutcomeTimeout a0 s = .next t) :
    t.view k = s.view k := by
  refine view_le hk ?_
  unfold execBudOutcomeTimeout at h
  simp only [Host.Outcome.next.injEq, Except.ok.injEq, Option.some.injEq] at h
  subst h
  simp only [outcomeExpire_view, view_upd, fixed_mk, fixed_eta, apply_ite (State.view _), ite_self, Nat.reduceAnd,
      Nat.reduceDiv, Nat.reduceMod, Nat.zero_ne_one, implies_true, false_implies, Nat.div_one, kvSorted_kvPut,
      List.length_modify, List.length_map, List.length_set, List.length_mapIdx]

theorem execBudRetry_view {k} (hk : k &&& 15463412 = k) {s t} (h : execBudRetry s = .next t) : t.view k = s.view k := by
  refine view_le hk ?_
  unfold execBudRetry at h
  (repeat' split at h) <;> simp only [Host.Outcome.next.injEq, Except.ok.injEq, Option.some.injEq, reduceCtorEq] at h <;> subst h <;> simp only [retryTxn_view, advanceTo_view, view_upd, fixed_mk, fixed_eta, apply_ite (State.view _), ite_self, Nat.reduceAnd, Nat.reduceDiv, Nat.reduceMod, Nat.zero_ne_one, implies_true, false_implies, Nat.div_one, kvSorted_kvPut, List.length_modify, List.length_map, List.length_set, List.length_mapIdx]

theorem execTelemSend_view {k} (hk : k &&& 15463412 = k) {s t} (h : execTelemSend s = .next t) : t.view k = s.view k := by
  refine view_le hk ?_
  unfold execTelemSend at h
  simp only [Host.Outcome.next.injEq, Except.ok.injEq, Option.some.injEq] at h
  subst h
  simp only [telemSend_view, view_upd, fixed_mk, fixed_eta, apply_ite (State.view _), ite_self, Nat.reduceAnd,
      Nat.reduceDiv, Nat.reduceMod, Nat.zero_ne_one, implies_true, false_implies, Nat.div_one, kvSorted_kvPut,
      List.length_modify, List.length_map, List.length_set, List.length_mapIdx]

theorem execTelemReceive_view {k} (hk : k &&& 15710197 = k) {a0 a1 s t} (h : execTelemReceive a0 a1 s = .next t) : t.view k
    = s.view k := by
  refine view_le hk ?_
  unfold execTelemReceive at h
  simp only [Host.Outcome.next.injEq, Except.ok.injEq, Option.some.injEq] at h
  subst h
  simp only [telemIn_view, view_upd, fixed_mk, fixed_eta, apply_ite (State.view _), ite_self, Nat.reduceAnd, Nat.reduceDiv,
      Nat.reduceMod, Nat.zero_ne_one, implies_true, false_implies, Nat.div_one, kvSorted_kvPut, List.length_modify,
      List.length_map, List.length_set, List.length_mapIdx]

theorem execClReqReceive_view {k} (hk : k &&& 0 = k) {a0 a1 s t} (h : execClReqReceive a0 a1 s = .next t) : t.view k =
    s.view k := by
  refine view_le hk ?_
  unfold execClReqReceive at h
  simp only [Host.Outcome.next.injEq, Except.ok.injEq, Option.some.injEq] at h
  subst h
  simp (disch := (intros; first | done | (simp only [chainRequest_view, view_upd, fixed_mk, fixed_eta, apply_ite (State.view _), ite_self, Nat.reduceAnd, Nat.reduceDiv, Nat.reduceMod, Nat.zero_ne_one, implies_true, false_implies, Nat.div_one, kvSorted_kvPut, List.length_modify, List.length_map, List.length_set, List.length_mapIdx]; done) | ((repeat' split) <;> simp only [chainRequest_view, view_upd, fixed_mk, fixed_eta, apply_ite (State.view _), ite_self, Nat.reduceAnd, Nat.reduceDiv, Nat.reduceMod, Nat.zero_ne_one, implies_true, false_implies, Nat.div_one, kvSorted_kvPut, List.length_modify, List.length_map, List.length_set, List.length_mapIdx]; done) | grind [view_upd, fixed_mk, fixed_eta, List.length_modify, chainRequest_view])) only [chainRequest_view, view_upd, fixed_mk, fixed_eta, apply_ite (State.view _), ite_self, Nat.reduceAnd, Nat.reduceDiv, Nat.reduceMod, Nat.zero_ne_one, implies_true, false_implies, Nat.div_one, kvSorted_kvPut, List.length_modify, List.length_map, List.length_set, List.length_mapIdx, frameIn_view, forEach_view, foldl_view]

theorem execClRspReceive_view {k} (hk : k &&& 0 = k) {a0 a1 s t} (h : execClRspReceive a0 a1 s = .next t) : t.view k =
    s.view k := by
  refine view_le hk ?_
  unfold execClRspReceive at h
  simp only [Host.Outcome.next.injEq, Except.ok.injEq, Option.some.injEq] at h
  subst h
  simp (disch := (intros; first | done | (simp only [clResponse_view, view_upd, fixed_mk, fixed_eta, apply_ite (State.view _), ite_self, Nat.reduceAnd, Nat.reduceDiv, Nat.reduceMod, Nat.zero_ne_one, implies_true, false_implies, Nat.div_one, kvSorted_kvPut, List.length_modify, List.length_map, List.length_set, List.length_mapIdx]; done) | ((repeat' split) <;> simp only [clResponse_view, view_upd, fixed_mk, fixed_eta, apply_ite (State.view _), ite_self, Nat.reduceAnd, Nat.reduceDiv, Nat.reduceMod, Nat.zero_ne_one, implies_true, false_implies, Nat.div_one, kvSorted_kvPut, List.length_modify, List.length_map, List.length_set, List.length_mapIdx]; done) | grind [view_upd, fixed_mk, fixed_eta, List.length_modify, clResponse_view])) only [clResponse_view, view_upd, fixed_mk, fixed_eta, apply_ite (State.view _), ite_self, Nat.reduceAnd, Nat.reduceDiv, Nat.reduceMod, Nat.zero_ne_one, implies_true, false_implies, Nat.div_one, kvSorted_kvPut, List.length_modify, List.length_map, List.length_set, List.length_mapIdx, frameIn_view, forEach_view, foldl_view]

theorem execBarrierArriveReceive_view {k} (hk : k &&& 15372420 = k) {a0 a1 s t} (h : execBarrierArriveReceive a0 a1 s =
    .next t) : t.view k = s.view k := by
  refine view_le hk ?_
  unfold execBarrierArriveReceive at h
  simp only [Host.Outcome.next.injEq, Except.ok.injEq, Option.some.injEq] at h
  subst h
  simp (disch := (intros; first | done | (simp only [hearBarrierFrame_view, view_upd, fixed_mk, fixed_eta, apply_ite (State.view _), ite_self, Nat.reduceAnd, Nat.reduceDiv, Nat.reduceMod, Nat.zero_ne_one, implies_true, false_implies, Nat.div_one, kvSorted_kvPut, List.length_modify, List.length_map, List.length_set, List.length_mapIdx]; done) | ((repeat' split) <;> simp only [hearBarrierFrame_view, view_upd, fixed_mk, fixed_eta, apply_ite (State.view _), ite_self, Nat.reduceAnd, Nat.reduceDiv, Nat.reduceMod, Nat.zero_ne_one, implies_true, false_implies, Nat.div_one, kvSorted_kvPut, List.length_modify, List.length_map, List.length_set, List.length_mapIdx]; done) | grind [view_upd, fixed_mk, fixed_eta, List.length_modify, hearBarrierFrame_view])) only [hearBarrierFrame_view, view_upd, fixed_mk, fixed_eta, apply_ite (State.view _), ite_self, Nat.reduceAnd, Nat.reduceDiv, Nat.reduceMod, Nat.zero_ne_one, implies_true, false_implies, Nat.div_one, kvSorted_kvPut, List.length_modify, List.length_map, List.length_set, List.length_mapIdx, frameIn_view, forEach_view, foldl_view]

theorem execBarrierReleaseReceive_view {k} (hk : k &&& 15372420 = k) {a0 a1 s t} (h : execBarrierReleaseReceive a0 a1 s =
    .next t) : t.view k = s.view k := by
  refine view_le hk ?_
  unfold execBarrierReleaseReceive at h
  simp only [Host.Outcome.next.injEq, Except.ok.injEq, Option.some.injEq] at h
  subst h
  simp (disch := (intros; first | done | (simp only [hearBarrierFrame_view, view_upd, fixed_mk, fixed_eta, apply_ite (State.view _), ite_self, Nat.reduceAnd, Nat.reduceDiv, Nat.reduceMod, Nat.zero_ne_one, implies_true, false_implies, Nat.div_one, kvSorted_kvPut, List.length_modify, List.length_map, List.length_set, List.length_mapIdx]; done) | ((repeat' split) <;> simp only [hearBarrierFrame_view, view_upd, fixed_mk, fixed_eta, apply_ite (State.view _), ite_self, Nat.reduceAnd, Nat.reduceDiv, Nat.reduceMod, Nat.zero_ne_one, implies_true, false_implies, Nat.div_one, kvSorted_kvPut, List.length_modify, List.length_map, List.length_set, List.length_mapIdx]; done) | grind [view_upd, fixed_mk, fixed_eta, List.length_modify, hearBarrierFrame_view])) only [hearBarrierFrame_view, view_upd, fixed_mk, fixed_eta, apply_ite (State.view _), ite_self, Nat.reduceAnd, Nat.reduceDiv, Nat.reduceMod, Nat.zero_ne_one, implies_true, false_implies, Nat.div_one, kvSorted_kvPut, List.length_modify, List.length_map, List.length_set, List.length_mapIdx, frameIn_view, forEach_view, foldl_view]

theorem execBarrierCancelReceive_view {k} (hk : k &&& 15372420 = k) {a0 a1 s t} (h : execBarrierCancelReceive a0 a1 s =
    .next t) : t.view k = s.view k := by
  refine view_le hk ?_
  unfold execBarrierCancelReceive at h
  simp only [Host.Outcome.next.injEq, Except.ok.injEq, Option.some.injEq] at h
  subst h
  simp (disch := (intros; first | done | (simp only [hearBarrierFrame_view, view_upd, fixed_mk, fixed_eta, apply_ite (State.view _), ite_self, Nat.reduceAnd, Nat.reduceDiv, Nat.reduceMod, Nat.zero_ne_one, implies_true, false_implies, Nat.div_one, kvSorted_kvPut, List.length_modify, List.length_map, List.length_set, List.length_mapIdx]; done) | ((repeat' split) <;> simp only [hearBarrierFrame_view, view_upd, fixed_mk, fixed_eta, apply_ite (State.view _), ite_self, Nat.reduceAnd, Nat.reduceDiv, Nat.reduceMod, Nat.zero_ne_one, implies_true, false_implies, Nat.div_one, kvSorted_kvPut, List.length_modify, List.length_map, List.length_set, List.length_mapIdx]; done) | grind [view_upd, fixed_mk, fixed_eta, List.length_modify, hearBarrierFrame_view])) only [hearBarrierFrame_view, view_upd, fixed_mk, fixed_eta, apply_ite (State.view _), ite_self, Nat.reduceAnd, Nat.reduceDiv, Nat.reduceMod, Nat.zero_ne_one, implies_true, false_implies, Nat.div_one, kvSorted_kvPut, List.length_modify, List.length_map, List.length_set, List.length_mapIdx, frameIn_view, forEach_view, foldl_view]

theorem execClRead_view {k} (hk : k &&& 0 = k) {a0 a1 s t} (h : execClRead a0 a1 s = .next t) : t.view k = s.view k := by
  refine view_le hk ?_
  unfold execClRead at h
  simp only [Host.Outcome.next.injEq, Except.ok.injEq, Option.some.injEq] at h
  subst h
  simp only [clSubmit_view, view_upd, fixed_mk, fixed_eta, apply_ite (State.view _), ite_self, Nat.reduceAnd, Nat.reduceDiv,
      Nat.reduceMod, Nat.zero_ne_one, implies_true, false_implies, Nat.div_one, kvSorted_kvPut, List.length_modify,
      List.length_map, List.length_set, List.length_mapIdx]

theorem execClReadNext_view {k} (hk : k &&& 0 = k) {a0 a1 s t} (h : execClReadNext a0 a1 s = .next t) : t.view k = s.view k
    := by
  refine view_le hk ?_
  unfold execClReadNext at h
  simp only [Host.Outcome.next.injEq, Except.ok.injEq, Option.some.injEq] at h
  subst h
  simp only [clSubmit_view, view_upd, fixed_mk, fixed_eta, apply_ite (State.view _), ite_self, Nat.reduceAnd, Nat.reduceDiv,
      Nat.reduceMod, Nat.zero_ne_one, implies_true, false_implies, Nat.div_one, kvSorted_kvPut, List.length_modify,
      List.length_map, List.length_set, List.length_mapIdx]

theorem execClWrite_view {k} (hk : k &&& 0 = k) {a0 a1 s t} (h : execClWrite a0 a1 s = .next t) : t.view k = s.view k := by
  refine view_le hk ?_
  unfold execClWrite at h
  simp only [Host.Outcome.next.injEq, Except.ok.injEq, Option.some.injEq] at h
  subst h
  simp only [clSubmit_view, view_upd, fixed_mk, fixed_eta, apply_ite (State.view _), ite_self, Nat.reduceAnd, Nat.reduceDiv,
      Nat.reduceMod, Nat.zero_ne_one, implies_true, false_implies, Nat.div_one, kvSorted_kvPut, List.length_modify,
      List.length_map, List.length_set, List.length_mapIdx]

theorem execClWriteNext_view {k} (hk : k &&& 0 = k) {a0 a1 s t} (h : execClWriteNext a0 a1 s = .next t) : t.view k = s.view
    k := by
  refine view_le hk ?_
  unfold execClWriteNext at h
  simp only [Host.Outcome.next.injEq, Except.ok.injEq, Option.some.injEq] at h
  subst h
  simp only [clSubmit_view, view_upd, fixed_mk, fixed_eta, apply_ite (State.view _), ite_self, Nat.reduceAnd, Nat.reduceDiv,
      Nat.reduceMod, Nat.zero_ne_one, implies_true, false_implies, Nat.div_one, kvSorted_kvPut, List.length_modify,
      List.length_map, List.length_set, List.length_mapIdx]

theorem execClCancel_view {k} (hk : k &&& 0 = k) {a0 a1 s t} (h : execClCancel a0 a1 s = .next t) : t.view k = s.view k := by
  refine view_le hk ?_
  unfold execClCancel at h
  simp only [Host.Outcome.next.injEq, Except.ok.injEq, Option.some.injEq] at h
  subst h
  simp only [clSubmit_view, view_upd, fixed_mk, fixed_eta, apply_ite (State.view _), ite_self, Nat.reduceAnd, Nat.reduceDiv,
      Nat.reduceMod, Nat.zero_ne_one, implies_true, false_implies, Nat.div_one, kvSorted_kvPut, List.length_modify,
      List.length_map, List.length_set, List.length_mapIdx]

theorem execClDescribe_view {k} (hk : k &&& 0 = k) {a0 a1 s t} (h : execClDescribe a0 a1 s = .next t) : t.view k = s.view k
    := by
  refine view_le hk ?_
  unfold execClDescribe at h
  simp only [Host.Outcome.next.injEq, Except.ok.injEq, Option.some.injEq] at h
  subst h
  simp only [clSubmit_view, view_upd, fixed_mk, fixed_eta, apply_ite (State.view _), ite_self, Nat.reduceAnd, Nat.reduceDiv,
      Nat.reduceMod, Nat.zero_ne_one, implies_true, false_implies, Nat.div_one, kvSorted_kvPut, List.length_modify,
      List.length_map, List.length_set, List.length_mapIdx]

theorem execClTransferTimeout_view {k} (hk : k &&& 15463416 = k) {a0 s t} (h : execClTransferTimeout a0 s = .next t) :
    t.view k = s.view k := by
  refine view_le hk ?_
  unfold execClTransferTimeout at h
  (repeat' split at h) <;> simp only [Host.Outcome.next.injEq, Except.ok.injEq, Option.some.injEq, reduceCtorEq] at h <;> subst h <;> simp only [clClose_view, advanceTo_view, view_upd, fixed_mk, fixed_eta, apply_ite (State.view _), ite_self, Nat.reduceAnd, Nat.reduceDiv, Nat.reduceMod, Nat.zero_ne_one, implies_true, false_implies, Nat.div_one, kvSorted_kvPut, List.length_modify, List.length_map, List.length_set, List.length_mapIdx]

theorem execClFwTimeout_view {k} (hk : k &&& 0 = k) {a0 s t} (h : execClFwTimeout a0 s = .next t) : t.view k = s.view k := by
  refine view_le hk ?_
  unfold execClFwTimeout at h
  simp only [Host.Outcome.next.injEq, Except.ok.injEq, Option.some.injEq] at h
  subst h
  simp only [clWithdraw_view, view_upd, fixed_mk, fixed_eta, apply_ite (State.view _), ite_self, Nat.reduceAnd,
      Nat.reduceDiv, Nat.reduceMod, Nat.zero_ne_one, implies_true, false_implies, Nat.div_one, kvSorted_kvPut,
      List.length_modify, List.length_map, List.length_set, List.length_mapIdx]

theorem execClFwResponse_view {k} (hk : k &&& 0 = k) {a0 a1 s t} (h : execClFwResponse a0 a1 s = .next t) : t.view k =
    s.view k := by
  refine view_le hk ?_
  unfold execClFwResponse at h
  simp only [Host.Outcome.next.injEq, Except.ok.injEq, Option.some.injEq] at h
  subst h
  simp only [clFirmware_view, view_upd, fixed_mk, fixed_eta, apply_ite (State.view _), ite_self, Nat.reduceAnd,
      Nat.reduceDiv, Nat.reduceMod, Nat.zero_ne_one, implies_true, false_implies, Nat.div_one, kvSorted_kvPut,
      List.length_modify, List.length_map, List.length_set, List.length_mapIdx]

theorem execClRemoteTimeout_view {k} (hk : k &&& 0 = k) {a0 s t} (h : execClRemoteTimeout a0 s = .next t) : t.view k =
    s.view k := by
  refine view_le hk ?_
  unfold execClRemoteTimeout at h
  simp only [Host.Outcome.next.injEq, Except.ok.injEq, Option.some.injEq] at h
  subst h
  simp only [clNoAnswer_view, view_upd, fixed_mk, fixed_eta, apply_ite (State.view _), ite_self, Nat.reduceAnd,
      Nat.reduceDiv, Nat.reduceMod, Nat.zero_ne_one, implies_true, false_implies, Nat.div_one, kvSorted_kvPut,
      List.length_modify, List.length_map, List.length_set, List.length_mapIdx]

theorem execLevelRequest_view {k} (hk : k &&& 0 = k) {a0 a1 s t} (h : execLevelRequest a0 a1 s = .next t) : t.view k =
    s.view k := by
  refine view_le hk ?_
  unfold execLevelRequest at h
  simp only [Host.Outcome.next.injEq, Except.ok.injEq, Option.some.injEq] at h
  subst h
  simp only [clWhole_view, view_upd, fixed_mk, fixed_eta, apply_ite (State.view _), ite_self, Nat.reduceAnd, Nat.reduceDiv,
      Nat.reduceMod, Nat.zero_ne_one, implies_true, false_implies, Nat.div_one, kvSorted_kvPut, List.length_modify,
      List.length_map, List.length_set, List.length_mapIdx]

theorem execDiagLockOpen_view {k} (hk : k &&& 0 = k) {a0 s t} (h : execDiagLockOpen a0 s = .next t) : t.view k = s.view k := by
  refine view_le hk ?_
  unfold execDiagLockOpen at h
  simp only [Host.Outcome.next.injEq, Except.ok.injEq, Option.some.injEq] at h
  subst h
  simp only [clWhole_view, view_upd, fixed_mk, fixed_eta, apply_ite (State.view _), ite_self, Nat.reduceAnd, Nat.reduceDiv,
      Nat.reduceMod, Nat.zero_ne_one, implies_true, false_implies, Nat.div_one, kvSorted_kvPut, List.length_modify,
      List.length_map, List.length_set, List.length_mapIdx]

theorem execCommissioningStore_view {k} (hk : k &&& 0 = k) {a0 a1 s t} (h : execCommissioningStore a0 a1 s = .next t) :
    t.view k = s.view k := by
  refine view_le hk ?_
  unfold execCommissioningStore at h
  simp only [Host.Outcome.next.injEq, Except.ok.injEq, Option.some.injEq] at h
  subst h
  simp only [clWhole_view, view_upd, fixed_mk, fixed_eta, apply_ite (State.view _), ite_self, Nat.reduceAnd, Nat.reduceDiv,
      Nat.reduceMod, Nat.zero_ne_one, implies_true, false_implies, Nat.div_one, kvSorted_kvPut, List.length_modify,
      List.length_map, List.length_set, List.length_mapIdx]

theorem execCommissioningStoreDone_view {k} (hk : k &&& 15990776 = k) {a0 s t} (h : execCommissioningStoreDone a0 s = .next
    t) : t.view k = s.view k := by
  refine view_le hk ?_
  unfold execCommissioningStoreDone at h
  simp only [Host.Outcome.next.injEq, Except.ok.injEq, Option.some.injEq] at h
  subst h
  simp only [storeEnd_view, view_upd, fixed_mk, fixed_eta, apply_ite (State.view _), ite_self, Nat.reduceAnd, Nat.reduceDiv,
      Nat.reduceMod, Nat.zero_ne_one, implies_true, false_implies, Nat.div_one, kvSorted_kvPut, List.length_modify,
      List.length_map, List.length_set, List.length_mapIdx]

theorem execCommissioningWipe_view {k} (hk : k &&& 0 = k) {a0 a1 s t} (h : execCommissioningWipe a0 a1 s = .next t) : t.view
    k = s.view k := by
  refine view_le hk ?_
  unfold execCommissioningWipe at h
  simp only [Host.Outcome.next.injEq, Except.ok.injEq, Option.some.injEq] at h
  subst h
  simp only [clWhole_view, view_upd, fixed_mk, fixed_eta, apply_ite (State.view _), ite_self, Nat.reduceAnd, Nat.reduceDiv,
      Nat.reduceMod, Nat.zero_ne_one, implies_true, false_implies, Nat.div_one, kvSorted_kvPut, List.length_modify,
      List.length_map, List.length_set, List.length_mapIdx]

theorem execBudgetWrite_view {k} (hk : k &&& 0 = k) {a0 a1 a2 a3 s t} (h : execBudgetWrite a0 a1 a2 a3 s = .next t) : t.view
    k = s.view k := by
  refine view_le hk ?_
  unfold execBudgetWrite at h
  simp only [Host.Outcome.next.injEq, Except.ok.injEq, Option.some.injEq] at h
  subst h
  simp only [clWhole_view, view_upd, fixed_mk, fixed_eta, apply_ite (State.view _), ite_self, Nat.reduceAnd, Nat.reduceDiv,
      Nat.reduceMod, Nat.zero_ne_one, implies_true, false_implies, Nat.div_one, kvSorted_kvPut, List.length_modify,
      List.length_map, List.length_set, List.length_mapIdx]

theorem execSafeRelease_view {k} (hk : k &&& 0 = k) {a0 a1 a2 s t} (h : execSafeRelease a0 a1 a2 s = .next t) : t.view k =
    s.view k := by
  refine view_le hk ?_
  unfold execSafeRelease at h
  simp only [Host.Outcome.next.injEq, Except.ok.injEq, Option.some.injEq] at h
  subst h
  simp only [clWhole_view, view_upd, fixed_mk, fixed_eta, apply_ite (State.view _), ite_self, Nat.reduceAnd, Nat.reduceDiv,
      Nat.reduceMod, Nat.zero_ne_one, implies_true, false_implies, Nat.div_one, kvSorted_kvPut, List.length_modify,
      List.length_map, List.length_set, List.length_mapIdx]

theorem execGenerationAdvance_view {k} (hk : k &&& 0 = k) {a0 a1 a2 s t} (h : execGenerationAdvance a0 a1 a2 s = .next t) :
    t.view k = s.view k := by
  refine view_le hk ?_
  unfold execGenerationAdvance at h
  simp only [Host.Outcome.next.injEq, Except.ok.injEq, Option.some.injEq] at h
  subst h
  simp only [clWhole_view, view_upd, fixed_mk, fixed_eta, apply_ite (State.view _), ite_self, Nat.reduceAnd, Nat.reduceDiv,
      Nat.reduceMod, Nat.zero_ne_one, implies_true, false_implies, Nat.div_one, kvSorted_kvPut, List.length_modify,
      List.length_map, List.length_set, List.length_mapIdx]

theorem execSourceMonitorWindow_view {k} (hk : k &&& 15446148 = k) {a0 a1 s t} (h : execSourceMonitorWindow a0 a1 s = .next
    t) : t.view k = s.view k := by
  refine view_le hk ?_
  unfold execSourceMonitorWindow at h
  simp only [Host.Outcome.next.injEq, Except.ok.injEq, Option.some.injEq] at h
  subst h
  simp only [srcWindow_view, view_upd, fixed_mk, fixed_eta, apply_ite (State.view _), ite_self, Nat.reduceAnd,
      Nat.reduceDiv, Nat.reduceMod, Nat.zero_ne_one, implies_true, false_implies, Nat.div_one, kvSorted_kvPut,
      List.length_modify, List.length_map, List.length_set, List.length_mapIdx]

theorem execSourceMissingEdge_view {k} (hk : k &&& 15446148 = k) {a0 s t} (h : execSourceMissingEdge a0 s = .next t) :
    t.view k = s.view k := by
  refine view_le hk ?_
  unfold execSourceMissingEdge at h
  (repeat' split at h) <;> simp only [Host.Outcome.next.injEq, Except.ok.injEq, Option.some.injEq, reduceCtorEq] at h <;> subst h <;> simp only [srcFail_view, view_upd, fixed_mk, fixed_eta, apply_ite (State.view _), ite_self, Nat.reduceAnd, Nat.reduceDiv, Nat.reduceMod, Nat.zero_ne_one, implies_true, false_implies, Nat.div_one, kvSorted_kvPut, List.length_modify, List.length_map, List.length_set, List.length_mapIdx]

theorem restarted_view {k} (hk : k &&& 15728639 = k) (s) : (restarted s).view k = s.view k := by
  refine view_le hk ?_
  unfold restarted
  simp only [view_upd, fixed_mk, fixed_eta, apply_ite (State.view _), ite_self, Nat.reduceAnd, Nat.reduceDiv, Nat.reduceMod,
      Nat.zero_ne_one, implies_true, false_implies, Nat.div_one, kvSorted_kvPut, List.length_modify, List.length_map,
      List.length_set, List.length_mapIdx]

theorem execDividerStep_view {k} (hk : k &&& 15455228 = k) {s t} (h : execDividerStep s = .next t) : t.view k = s.view k := by
  refine view_le hk ?_
  unfold execDividerStep at h
  simp only [Host.Outcome.next.injEq, Except.ok.injEq, Option.some.injEq] at h
  subst h
  simp only [restarted_view, replan_view, dividerStep_view, view_upd, fixed_mk, fixed_eta, apply_ite (State.view _),
      ite_self, Nat.reduceAnd, Nat.reduceDiv, Nat.reduceMod, Nat.zero_ne_one, implies_true, false_implies, Nat.div_one,
      kvSorted_kvPut, List.length_modify, List.length_map, List.length_set, List.length_mapIdx]

theorem execSkipStep_view {k} (hk : k &&& 15463420 = k) {s t} (h : execSkipStep s = .next t) : t.view k = s.view k := by
  refine view_le hk ?_
  unfold execSkipStep at h
  simp only [Host.Outcome.next.injEq, Except.ok.injEq, Option.some.injEq] at h
  subst h
  simp only [skipStep_view, view_upd, fixed_mk, fixed_eta, apply_ite (State.view _), ite_self, Nat.reduceAnd, Nat.reduceDiv,
      Nat.reduceMod, Nat.zero_ne_one, implies_true, false_implies, Nat.div_one, kvSorted_kvPut, List.length_modify,
      List.length_map, List.length_set, List.length_mapIdx]

theorem execSeqVoltageStep_view {k} (hk : k &&& 15462572 = k) {s t} (h : execSeqVoltageStep s = .next t) : t.view k = s.view
    k := by
  refine view_le hk ?_
  unfold execSeqVoltageStep at h
  simp only [Host.Outcome.next.injEq, Except.ok.injEq, Option.some.injEq] at h
  subst h
  simp only [seqVoltage_view, view_upd, fixed_mk, fixed_eta, apply_ite (State.view _), ite_self, Nat.reduceAnd,
      Nat.reduceDiv, Nat.reduceMod, Nat.zero_ne_one, implies_true, false_implies, Nat.div_one, kvSorted_kvPut,
      List.length_modify, List.length_map, List.length_set, List.length_mapIdx]

theorem execSeqVoltageDone_view {k} (hk : k &&& 16776191 = k) {s t} (h : execSeqVoltageDone s = .next t) : t.view k = s.view
    k := by
  refine view_le hk ?_
  unfold execSeqVoltageDone at h
  simp only [Host.Outcome.next.injEq, Except.ok.injEq, Option.some.injEq] at h
  subst h
  simp only [seqVoltageEnd_view, view_upd, fixed_mk, fixed_eta, apply_ite (State.view _), ite_self, Nat.reduceAnd,
      Nat.reduceDiv, Nat.reduceMod, Nat.zero_ne_one, implies_true, false_implies, Nat.div_one, kvSorted_kvPut,
      List.length_modify, List.length_map, List.length_set, List.length_mapIdx]

theorem execVTimeout_view {k} (hk : k &&& 15446148 = k) {s t} (h : execVTimeout s = .next t) : t.view k = s.view k := by
  refine view_le hk ?_
  unfold execVTimeout at h
  simp only [Host.Outcome.next.injEq, Except.ok.injEq, Option.some.injEq] at h
  subst h
  simp only [seqTimeout_view, view_upd, fixed_mk, fixed_eta, apply_ite (State.view _), ite_self, Nat.reduceAnd,
      Nat.reduceDiv, Nat.reduceMod, Nat.zero_ne_one, implies_true, false_implies, Nat.div_one, kvSorted_kvPut,
      List.length_modify, List.length_map, List.length_set, List.length_mapIdx]

theorem execTclkStart_view {k} (hk : k &&& 16767997 = k) {s t} (h : execTclkStart s = .next t) : t.view k = s.view k := by
  refine view_le hk ?_
  unfold execTclkStart at h
  (repeat' split at h) <;> simp only [Host.Outcome.next.injEq, Except.ok.injEq, Option.some.injEq, reduceCtorEq] at h <;> subst h <;> simp only [replan_view, tclkGo_view, view_upd, fixed_mk, fixed_eta, apply_ite (State.view _), ite_self, Nat.reduceAnd, Nat.reduceDiv, Nat.reduceMod, Nat.zero_ne_one, implies_true, false_implies, Nat.div_one, kvSorted_kvPut, List.length_modify, List.length_map, List.length_set, List.length_mapIdx]

end Sys2Proof.Machine
end

