-- ==== Sys2Proof/Laws/ViewFabric.lean ====
section
/-! SUPPORT. The frames of the functions of the fabric, DMA, jig and management rows: one lemma per function says which units of the state
it keeps (a mask of `State.view`), cited by the lemmas of its callers. -/

namespace Sys2Proof.Machine

open Sys2Proof

set_option linter.all false

theorem gateOff_view {k} (hk : k &&& 8117868 = k) (a0 s) : (gateOff a0 s).view k = s.view k := by
  refine view_le hk ?_
  unfold gateOff
  simp only [raise_view, ffWithdraw_view, State.setEnable_view, view_upd, fixed_mk, fixed_eta, apply_ite (State.view _),
      ite_self, Nat.reduceAnd, Nat.reduceDiv, Nat.reduceMod, Nat.zero_ne_one, implies_true, false_implies, Nat.div_one,
      kvSorted_kvPut, List.length_modify, List.length_map, List.length_set, List.length_mapIdx]

theorem gateOn_view {k} (hk : k &&& 0 = k) (a0 s) : (gateOn a0 s).view k = s.view k := by
  refine view_le hk ?_
  unfold gateOn
  simp only [State.setEnable_view, becomeReady_view, view_upd, fixed_mk, fixed_eta, apply_ite (State.view _), ite_self,
      Nat.reduceAnd, Nat.reduceDiv, Nat.reduceMod, Nat.zero_ne_one, implies_true, false_implies, Nat.div_one, kvSorted_kvPut,
      List.length_modify, List.length_map, List.length_set, List.length_mapIdx]

theorem estimLost_view {k} (hk : k &&& 16775165 = k) (s) : (estimLost s).view k = s.view k := by
  refine view_le hk ?_
  unfold estimLost
  simp only [updAccr_view, view_upd, fixed_mk, fixed_eta, apply_ite (State.view _), ite_self, Nat.reduceAnd, Nat.reduceDiv,
      Nat.reduceMod, Nat.zero_ne_one, implies_true, false_implies, Nat.div_one, kvSorted_kvPut, List.length_modify,
      List.length_map, List.length_set, List.length_mapIdx]

theorem gateStop_view {k} (hk : k &&& 16484348 = k) (a0 s) : (gateStop a0 s).view k = s.view k := by
  refine view_le hk ?_
  unfold gateStop
  (repeat' split) <;> simp only [clearReady_view, thmodelLost_view, estimLost_view, disarmPlan_view, view_upd, fixed_mk, fixed_eta, apply_ite (State.view _), ite_self, Nat.reduceAnd, Nat.reduceDiv, Nat.reduceMod, Nat.zero_ne_one, implies_true, false_implies, Nat.div_one, kvSorted_kvPut, List.length_modify, List.length_map, List.length_set, List.length_mapIdx]

theorem fwFunction_view {k} (hk : k &&& 0 = k) (a0 s) : (fwFunction a0 s).view k = s.view k := by
  refine view_le hk ?_
  unfold fwFunction
  simp (disch := (intros; first | done | (simp only [State.setEnable_view, becomeReady_view, estimStart_view, startSettling_view, view_upd, fixed_mk, fixed_eta, apply_ite (State.view _), ite_self, Nat.reduceAnd, Nat.reduceDiv, Nat.reduceMod, Nat.zero_ne_one, implies_true, false_implies, Nat.div_one, kvSorted_kvPut, List.length_modify, List.length_map, List.length_set, List.length_mapIdx]; done) | ((repeat' split) <;> simp only [State.setEnable_view, becomeReady_view, estimStart_view, startSettling_view, view_upd, fixed_mk, fixed_eta, apply_ite (State.view _), ite_self, Nat.reduceAnd, Nat.reduceDiv, Nat.reduceMod, Nat.zero_ne_one, implies_true, false_implies, Nat.div_one, kvSorted_kvPut, List.length_modify, List.length_map, List.length_set, List.length_mapIdx]; done) | grind [view_upd, fixed_mk, fixed_eta, List.length_modify, State.setEnable_view, becomeReady_view, estimStart_view, startSettling_view])) only [State.setEnable_view, becomeReady_view, estimStart_view, startSettling_view, view_upd, fixed_mk, fixed_eta, apply_ite (State.view _), ite_self, Nat.reduceAnd, Nat.reduceDiv, Nat.reduceMod, Nat.zero_ne_one, implies_true, false_implies, Nat.div_one, kvSorted_kvPut, List.length_modify, List.length_map, List.length_set, List.length_mapIdx, forEach_view, foldl_view]

theorem reqWrite_view {k} (hk : k &&& 0 = k) (a0 a1 a2 s) : (reqWrite a0 a1 a2 s).view k = s.view k := by
  refine view_le hk ?_
  unfold reqWrite
  simp only [State.updChan_view, clTurn_view, clStart_view, view_upd, fixed_mk, fixed_eta, apply_ite (State.view _),
      ite_self, Nat.reduceAnd, Nat.reduceDiv, Nat.reduceMod, Nat.zero_ne_one, implies_true, false_implies, Nat.div_one,
      kvSorted_kvPut, List.length_modify, List.length_map, List.length_set, List.length_mapIdx]

theorem slotWrite_view {k} (hk : k &&& 0 = k) (a0 a1 a2 a3 s) : (slotWrite a0 a1 a2 a3 s).view k = s.view k := by
  refine view_le hk ?_
  unfold slotWrite
  simp only [reqWrite_view, State.updChan_view, view_upd, fixed_mk, fixed_eta, apply_ite (State.view _), ite_self,
      Nat.reduceAnd, Nat.reduceDiv, Nat.reduceMod, Nat.zero_ne_one, implies_true, false_implies, Nat.div_one, kvSorted_kvPut,
      List.length_modify, List.length_map, List.length_set, List.length_mapIdx]

theorem clkEnWrite_view {k} (hk : k &&& 0 = k) (a0 a1 s) : (clkEnWrite a0 a1 s).view k = s.view k := by
  refine view_le hk ?_
  unfold clkEnWrite
  simp (disch := (intros; first | done | (simp only [gateOn_view, gateOff_view, view_upd, fixed_mk, fixed_eta, apply_ite (State.view _), ite_self, Nat.reduceAnd, Nat.reduceDiv, Nat.reduceMod, Nat.zero_ne_one, implies_true, false_implies, Nat.div_one, kvSorted_kvPut, List.length_modify, List.length_map, List.length_set, List.length_mapIdx]; done) | ((repeat' split) <;> simp only [gateOn_view, gateOff_view, view_upd, fixed_mk, fixed_eta, apply_ite (State.view _), ite_self, Nat.reduceAnd, Nat.reduceDiv, Nat.reduceMod, Nat.zero_ne_one, implies_true, false_implies, Nat.div_one, kvSorted_kvPut, List.length_modify, List.length_map, List.length_set, List.length_mapIdx]; done) | grind [view_upd, fixed_mk, fixed_eta, List.length_modify, gateOn_view, gateOff_view])) only [gateOn_view, gateOff_view, view_upd, fixed_mk, fixed_eta, apply_ite (State.view _), ite_self, Nat.reduceAnd, Nat.reduceDiv, Nat.reduceMod, Nat.zero_ne_one, implies_true, false_implies, Nat.div_one, kvSorted_kvPut, List.length_modify, List.length_map, List.length_set, List.length_mapIdx, forEach_view, foldl_view]

theorem dmaWordWrite_view {k} (hk : k &&& 16351228 = k) (a0 a1 a2 a3 s) : (dmaWordWrite a0 a1 a2 a3 s).2.view k = s.view k := by
  refine view_le hk ?_
  unfold dmaWordWrite
  (repeat' split) <;> simp only [imgCtrlWrite_view, dmaCtlPut_view, dmaRegWrite_view, view_upd, fixed_mk, fixed_eta, apply_ite (State.view _), ite_self, Nat.reduceAnd, Nat.reduceDiv, Nat.reduceMod, Nat.zero_ne_one, implies_true, false_implies, Nat.div_one, kvSorted_kvPut, List.length_modify, List.length_map, List.length_set, List.length_mapIdx]

theorem doorRead_view {k} (hk : k &&& 16711677 = k) (q s) : (doorRead q s).2.2.view k = s.view k := by
  refine view_le hk ?_
  unfold doorRead
  dsimp only
  split
  · rfl
  · split
    · generalize hx : tryAcquire q.part _ (syncClear s) = x
      cases x with
      | error e => rfl
      | ok p => exact (tryAcquire_view (by decide) hx).trans (syncClear_view (by decide) s)
    · split
      · generalize s.xlate q.part _ _ = x
        cases x <;> rfl
      · rfl

theorem doorWrite_view {k} (hk : k &&& 15663101 = k) (q s) : (doorWrite q s).2.view k = s.view k := by
  refine view_le hk ?_
  unfold doorWrite
  dsimp only
  split
  · generalize hx : fabricSignal q.part _ 2 (syncClear s) = x
    cases x with
    | error e => rfl
    | ok p => exact (fabricSignal_view (by decide) hx).trans (syncClear_view (by decide) s)
  · rfl

theorem fabRead_view {k} (hk : k &&& 16449533 = k) (a0 s) : (fabRead a0 s).2.2.view k = s.view k := by
  refine view_le hk ?_
  unfold fabRead
  grind [view_upd, fixed_mk, fixed_eta, List.length_modify, doorRead_view, cursorFetch_view]

theorem fabWrite_view {k} (hk : k &&& 0 = k) (a0 a1 s) : (fabWrite a0 a1 s).2.view k = s.view k := by
  refine view_le hk ?_
  unfold fabWrite
  grind [view_upd, fixed_mk, fixed_eta, List.length_modify, clkEnWrite_view, idWrite_view, slotWrite_view, doorWrite_view,
      cursorNextWrite_view, cursorCtlWrite_view, dmaWordWrite_view, obsWriteReg_view]

theorem fabAccess_view {k} (hk : k &&& 0 = k) (a0 a1 a2 s) : (fabAccess a0 a1 a2 s).2.2.view k = s.view k := by
  refine view_le hk ?_
  unfold fabAccess
  grind [view_upd, fixed_mk, fixed_eta, List.length_modify, xlateFault_view, violate_view, fabRead_view, fabWrite_view]

theorem fabRequest_view {k} (hk : k &&& 0 = k) (a0 a1 s) : (fabRequest a0 a1 s).view k = s.view k := by
  refine view_le hk ?_
  unfold fabRequest
  simp only [fabAccess_view, view_upd, fixed_mk, fixed_eta, apply_ite (State.view _), ite_self, Nat.reduceAnd,
      Nat.reduceDiv, Nat.reduceMod, Nat.zero_ne_one, implies_true, false_implies, Nat.div_one, kvSorted_kvPut,
      List.length_modify, List.length_map, List.length_set, List.length_mapIdx]

theorem dmaWindow_view {k} (hk : k &&& 0 = k) (a0 a1 a2 s) : (dmaWindow a0 a1 a2 s).view k = s.view k := by
  refine view_le hk ?_
  unfold dmaWindow
  simp only [fabAccess_view, dmaAnswer_view, view_upd, fixed_mk, fixed_eta, apply_ite (State.view _), ite_self,
      Nat.reduceAnd, Nat.reduceDiv, Nat.reduceMod, Nat.zero_ne_one, implies_true, false_implies, Nat.div_one, kvSorted_kvPut,
      List.length_modify, List.length_map, List.length_set, List.length_mapIdx]

theorem dmaIssue_view {k} (hk : k &&& 0 = k) (a0 s) : (dmaIssue a0 s).view k = s.view k := by
  refine view_le hk ?_
  unfold dmaIssue
  grind [view_upd, fixed_mk, fixed_eta, List.length_modify, dmaIssueOn_view, dmaWindow_view]

theorem execDmaRequestIssue_view {k} (hk : k &&& 0 = k) {s t} (h : execDmaRequestIssue s = .next t) : t.view k = s.view k := by
  refine view_le hk ?_
  unfold execDmaRequestIssue at h
  (repeat' split at h) <;> simp only [Host.Outcome.next.injEq, Except.ok.injEq, Option.some.injEq, reduceCtorEq] at h <;> subst h <;> simp only [channel0_view, dmaIssue_view, view_upd, fixed_mk, fixed_eta, apply_ite (State.view _), ite_self, Nat.reduceAnd, Nat.reduceDiv, Nat.reduceMod, Nat.zero_ne_one, implies_true, false_implies, Nat.div_one, kvSorted_kvPut, List.length_modify, List.length_map, List.length_set, List.length_mapIdx]

theorem execDmaResponse_view {k} (hk : k &&& 15269884 = k) {a0 a1 a2 a3 s t} (h : execDmaResponse a0 a1 a2 a3 s = .next t) :
    t.view k = s.view k := by
  refine view_le hk ?_
  unfold execDmaResponse at h
  simp only [Host.Outcome.next.injEq, Except.ok.injEq, Option.some.injEq] at h
  subst h
  simp only [dmaAnswer_view, view_upd, fixed_mk, fixed_eta, apply_ite (State.view _), ite_self, Nat.reduceAnd,
      Nat.reduceDiv, Nat.reduceMod, Nat.zero_ne_one, implies_true, false_implies, Nat.div_one, kvSorted_kvPut,
      List.length_modify, List.length_map, List.length_set, List.length_mapIdx]

theorem execDmaShareWindow_view {k} (hk : k &&& 16646143 = k) {s t} (h : execDmaShareWindow s = .next t) : t.view k = s.view
    k := by
  refine view_le hk ?_
  unfold execDmaShareWindow at h
  (repeat' split at h) <;> simp only [Host.Outcome.next.injEq, Except.ok.injEq, Option.some.injEq, reduceCtorEq] at h <;> subst h <;> simp only [view_upd, fixed_mk, fixed_eta, apply_ite (State.view _), ite_self, Nat.reduceAnd, Nat.reduceDiv, Nat.reduceMod, Nat.zero_ne_one, implies_true, false_implies, Nat.div_one, kvSorted_kvPut, List.length_modify, List.length_map, List.length_set, List.length_mapIdx]

theorem execDmaDeviceTake_view {k} (hk : k &&& 16646143 = k) {a0 a1 s t} (h : execDmaDeviceTake a0 a1 s = .next t) : t.view
    k = s.view k := by
  refine view_le hk ?_
  unfold execDmaDeviceTake at h
  grind [view_upd, fixed_mk, fixed_eta, List.length_modify, dmaTake_view]

theorem fabNext_view {k} (hk : k &&& 0 = k) {a0 s t} (h : fabNext a0 s = .next t) : t.view k = s.view k := by
  refine view_le hk ?_
  unfold fabNext at h
  simp only [Host.Outcome.next.injEq, Except.ok.injEq, Option.some.injEq] at h
  subst h
  simp only [fabRequest_view, view_upd, fixed_mk, fixed_eta, apply_ite (State.view _), ite_self, Nat.reduceAnd,
      Nat.reduceDiv, Nat.reduceMod, Nat.zero_ne_one, implies_true, false_implies, Nat.div_one, kvSorted_kvPut,
      List.length_modify, List.length_map, List.length_set, List.length_mapIdx]

theorem execFabricRead_view {k} (hk : k &&& 0 = k) {a0 s t} (h : execFabricRead a0 s = .next t) : t.view k = s.view k := by
  refine view_le hk ?_
  unfold execFabricRead at h
  (repeat' split at h) <;> (try replace h := needRange_ok h) <;> (try replace h := needState_ok h) <;> (try replace h := needRange_ok h) <;> (repeat' split at h) <;> first | exact fabNext_view (by decide) h | (simp only [Host.Outcome.next.injEq, Except.ok.injEq, Option.some.injEq, reduceCtorEq] at h; (try subst h); (repeat' split); all_goals simp only [view_upd, fixed_mk, fixed_eta, apply_ite (State.view _), ite_self, Nat.reduceAnd, Nat.reduceDiv, Nat.reduceMod, Nat.zero_ne_one, implies_true, false_implies, Nat.div_one, kvSorted_kvPut, List.length_modify, List.length_map, List.length_set, List.length_mapIdx])

theorem execFabricWrite_view {k} (hk : k &&& 0 = k) {a0 s t} (h : execFabricWrite a0 s = .next t) : t.view k = s.view k := by
  refine view_le hk ?_
  unfold execFabricWrite at h
  (repeat' split at h) <;> (try replace h := needRange_ok h) <;> (try replace h := needState_ok h) <;> (try replace h := needRange_ok h) <;> (repeat' split at h) <;> first | exact fabNext_view (by decide) h | (simp only [Host.Outcome.next.injEq, Except.ok.injEq, Option.some.injEq, reduceCtorEq] at h; (try subst h); (repeat' split); all_goals simp only [view_upd, fixed_mk, fixed_eta, apply_ite (State.view _), ite_self, Nat.reduceAnd, Nat.reduceDiv, Nat.reduceMod, Nat.zero_ne_one, implies_true, false_implies, Nat.div_one, kvSorted_kvPut, List.length_modify, List.length_map, List.length_set, List.length_mapIdx])

theorem execImgFetch_view {k} (hk : k &&& 0 = k) {a0 s t} (h : execImgFetch a0 s = .next t) : t.view k = s.view k := by
  refine view_le hk ?_
  unfold execImgFetch at h
  (repeat' split at h) <;> (try replace h := needRange_ok h) <;> (try replace h := needState_ok h) <;> (try replace h := needRange_ok h) <;> (repeat' split at h) <;> first | exact fabNext_view (by decide) h | (simp only [Host.Outcome.next.injEq, Except.ok.injEq, Option.some.injEq, reduceCtorEq] at h; (try subst h); (repeat' split); all_goals simp only [view_upd, fixed_mk, fixed_eta, apply_ite (State.view _), ite_self, Nat.reduceAnd, Nat.reduceDiv, Nat.reduceMod, Nat.zero_ne_one, implies_true, false_implies, Nat.div_one, kvSorted_kvPut, List.length_modify, List.length_map, List.length_set, List.length_mapIdx])

theorem execImgAccept_view {k} (hk : k &&& 0 = k) {a0 a1 s t} (h : execImgAccept a0 a1 s = .next t) : t.view k = s.view k := by
  refine view_le hk ?_
  unfold execImgAccept at h
  simp only [Host.Outcome.next.injEq, Except.ok.injEq, Option.some.injEq] at h
  subst h
  simp only [fabRequest_view, view_upd, fixed_mk, fixed_eta, apply_ite (State.view _), ite_self, Nat.reduceAnd,
      Nat.reduceDiv, Nat.reduceMod, Nat.zero_ne_one, implies_true, false_implies, Nat.div_one, kvSorted_kvPut,
      List.length_modify, List.length_map, List.length_set, List.length_mapIdx]

theorem execImgReject_view {k} (hk : k &&& 0 = k) {a0 s t} (h : execImgReject a0 s = .next t) : t.view k = s.view k := by
  refine view_le hk ?_
  unfold execImgReject at h
  (repeat' split at h) <;> (try replace h := needRange_ok h) <;> (try replace h := needState_ok h) <;> (try replace h := needRange_ok h) <;> (repeat' split at h) <;> first | exact fabNext_view (by decide) h | (simp only [Host.Outcome.next.injEq, Except.ok.injEq, Option.some.injEq, reduceCtorEq] at h; (try subst h); (repeat' split); all_goals simp only [view_upd, fixed_mk, fixed_eta, apply_ite (State.view _), ite_self, Nat.reduceAnd, Nat.reduceDiv, Nat.reduceMod, Nat.zero_ne_one, implies_true, false_implies, Nat.div_one, kvSorted_kvPut, List.length_modify, List.length_map, List.length_set, List.length_mapIdx])

theorem execClkEnGate_view {k} (hk : k &&& 0 = k) {a0 a1 s t} (h : execClkEnGate a0 a1 s = .next t) : t.view k = s.view k := by
  refine view_le hk ?_
  unfold execClkEnGate at h
  (repeat' split at h) <;> (try replace h := needRange_ok h) <;> (try replace h := needState_ok h) <;> (try replace h := needRange_ok h) <;> (repeat' split at h) <;> first | exact fabNext_view (by decide) h | (simp only [Host.Outcome.next.injEq, Except.ok.injEq, Option.some.injEq, reduceCtorEq] at h; (try subst h); (repeat' split); all_goals simp only [view_upd, fixed_mk, fixed_eta, apply_ite (State.view _), ite_self, Nat.reduceAnd, Nat.reduceDiv, Nat.reduceMod, Nat.zero_ne_one, implies_true, false_implies, Nat.div_one, kvSorted_kvPut, List.length_modify, List.length_map, List.length_set, List.length_mapIdx])

theorem execClkEnUngate_view {k} (hk : k &&& 0 = k) {a0 a1 s t} (h : execClkEnUngate a0 a1 s = .next t) : t.view k = s.view
    k := by
  refine view_le hk ?_
  unfold execClkEnUngate at h
  (repeat' split at h) <;> (try replace h := needRange_ok h) <;> (try replace h := needState_ok h) <;> (try replace h := needRange_ok h) <;> (repeat' split at h) <;> first | exact fabNext_view (by decide) h | (simp only [Host.Outcome.next.injEq, Except.ok.injEq, Option.some.injEq, reduceCtorEq] at h; (try subst h); (repeat' split); all_goals simp only [view_upd, fixed_mk, fixed_eta, apply_ite (State.view _), ite_self, Nat.reduceAnd, Nat.reduceDiv, Nat.reduceMod, Nat.zero_ne_one, implies_true, false_implies, Nat.div_one, kvSorted_kvPut, List.length_modify, List.length_map, List.length_set, List.length_mapIdx])

theorem execGateStop_view {k} (hk : k &&& 16484348 = k) {a0 s t} (h : execGateStop a0 s = .next t) : t.view k = s.view k := by
  refine view_le hk ?_
  unfold execGateStop at h
  (repeat' split at h) <;> simp only [Host.Outcome.next.injEq, Except.ok.injEq, Option.some.injEq, reduceCtorEq] at h <;> subst h <;> simp only [gateStop_view, view_upd, fixed_mk, fixed_eta, apply_ite (State.view _), ite_self, Nat.reduceAnd, Nat.reduceDiv, Nat.reduceMod, Nat.zero_ne_one, implies_true, false_implies, Nat.div_one, kvSorted_kvPut, List.length_modify, List.length_map, List.length_set, List.length_mapIdx]

theorem execFwFunctionStart_view {k} (hk : k &&& 0 = k) {a0 s t} (h : execFwFunctionStart a0 s = .next t) : t.view k =
    s.view k := by
  refine view_le hk ?_
  unfold execFwFunctionStart at h
  (repeat' split at h) <;> simp only [Host.Outcome.next.injEq, Except.ok.injEq, Option.some.injEq, reduceCtorEq] at h <;> subst h <;> simp only [fwFunction_view, view_upd, fixed_mk, fixed_eta, apply_ite (State.view _), ite_self, Nat.reduceAnd, Nat.reduceDiv, Nat.reduceMod, Nat.zero_ne_one, implies_true, false_implies, Nat.div_one, kvSorted_kvPut, List.length_modify, List.length_map, List.length_set, List.length_mapIdx]

theorem execDoorbellSignal_view {k} (hk : k &&& 0 = k) {a0 a1 s t} (h : execDoorbellSignal a0 a1 s = .next t) : t.view k =
    s.view k := by
  refine view_le hk ?_
  unfold execDoorbellSignal at h
  (repeat' split at h) <;> (try replace h := needRange_ok h) <;> (try replace h := needState_ok h) <;> (try replace h := needRange_ok h) <;> (repeat' split at h) <;> first | exact fabNext_view (by decide) h | (simp only [Host.Outcome.next.injEq, Except.ok.injEq, Option.some.injEq, reduceCtorEq] at h; (try subst h); (repeat' split); all_goals simp only [view_upd, fixed_mk, fixed_eta, apply_ite (State.view _), ite_self, Nat.reduceAnd, Nat.reduceDiv, Nat.reduceMod, Nat.zero_ne_one, implies_true, false_implies, Nat.div_one, kvSorted_kvPut, List.length_modify, List.length_map, List.length_set, List.length_mapIdx])

theorem execDoorbellTryAcquire_view {k} (hk : k &&& 0 = k) {a0 a1 s t} (h : execDoorbellTryAcquire a0 a1 s = .next t) :
    t.view k = s.view k := by
  refine view_le hk ?_
  unfold execDoorbellTryAcquire at h
  (repeat' split at h) <;> (try replace h := needRange_ok h) <;> (try replace h := needState_ok h) <;> (try replace h := needRange_ok h) <;> (repeat' split at h) <;> first | exact fabNext_view (by decide) h | (simp only [Host.Outcome.next.injEq, Except.ok.injEq, Option.some.injEq, reduceCtorEq] at h; (try subst h); (repeat' split); all_goals simp only [view_upd, fixed_mk, fixed_eta, apply_ite (State.view _), ite_self, Nat.reduceAnd, Nat.reduceDiv, Nat.reduceMod, Nat.zero_ne_one, implies_true, false_implies, Nat.div_one, kvSorted_kvPut, List.length_modify, List.length_map, List.length_set, List.length_mapIdx])

theorem execDmaStart_view {k} (hk : k &&& 0 = k) {a0 a1 s t} (h : execDmaStart a0 a1 s = .next t) : t.view k = s.view k := by
  refine view_le hk ?_
  unfold execDmaStart at h
  (repeat' split at h) <;> (try replace h := needRange_ok h) <;> (try replace h := needState_ok h) <;> (try replace h := needRange_ok h) <;> (repeat' split at h) <;> first | exact fabNext_view (by decide) h | (simp only [Host.Outcome.next.injEq, Except.ok.injEq, Option.some.injEq, reduceCtorEq] at h; (try subst h); (repeat' split); all_goals simp only [view_upd, fixed_mk, fixed_eta, apply_ite (State.view _), ite_self, Nat.reduceAnd, Nat.reduceDiv, Nat.reduceMod, Nat.zero_ne_one, implies_true, false_implies, Nat.div_one, kvSorted_kvPut, List.length_modify, List.length_map, List.length_set, List.length_mapIdx])

theorem execDmaResume_view {k} (hk : k &&& 0 = k) {a0 a1 s t} (h : execDmaResume a0 a1 s = .next t) : t.view k = s.view k := by
  refine view_le hk ?_
  unfold execDmaResume at h
  (repeat' split at h) <;> (try replace h := needRange_ok h) <;> (try replace h := needState_ok h) <;> (try replace h := needRange_ok h) <;> (repeat' split at h) <;> first | exact fabNext_view (by decide) h | (simp only [Host.Outcome.next.injEq, Except.ok.injEq, Option.some.injEq, reduceCtorEq] at h; (try subst h); (repeat' split); all_goals simp only [view_upd, fixed_mk, fixed_eta, apply_ite (State.view _), ite_self, Nat.reduceAnd, Nat.reduceDiv, Nat.reduceMod, Nat.zero_ne_one, implies_true, false_implies, Nat.div_one, kvSorted_kvPut, List.length_modify, List.length_map, List.length_set, List.length_mapIdx])

theorem execDmaAbort_view {k} (hk : k &&& 0 = k) {a0 a1 s t} (h : execDmaAbort a0 a1 s = .next t) : t.view k = s.view k := by
  refine view_le hk ?_
  unfold execDmaAbort at h
  (repeat' split at h) <;> (try replace h := needRange_ok h) <;> (try replace h := needState_ok h) <;> (try replace h := needRange_ok h) <;> (repeat' split at h) <;> first | exact fabNext_view (by decide) h | (simp only [Host.Outcome.next.injEq, Except.ok.injEq, Option.some.injEq, reduceCtorEq] at h; (try subst h); (repeat' split); all_goals simp only [view_upd, fixed_mk, fixed_eta, apply_ite (State.view _), ite_self, Nat.reduceAnd, Nat.reduceDiv, Nat.reduceMod, Nat.zero_ne_one, implies_true, false_implies, Nat.div_one, kvSorted_kvPut, List.length_modify, List.length_map, List.length_set, List.length_mapIdx])

theorem execDmaCtlWrite_view {k} (hk : k &&& 0 = k) {a0 s t} (h : execDmaCtlWrite a0 s = .next t) : t.view k = s.view k := by
  refine view_le hk ?_
  unfold execDmaCtlWrite at h
  (repeat' split at h) <;> (try replace h := needRange_ok h) <;> (try replace h := needState_ok h) <;> (try replace h := needRange_ok h) <;> (repeat' split at h) <;> first | exact fabNext_view (by decide) h | (simp only [Host.Outcome.next.injEq, Except.ok.injEq, Option.some.injEq, reduceCtorEq] at h; (try subst h); (repeat' split); all_goals simp only [view_upd, fixed_mk, fixed_eta, apply_ite (State.view _), ite_self, Nat.reduceAnd, Nat.reduceDiv, Nat.reduceMod, Nat.zero_ne_one, implies_true, false_implies, Nat.div_one, kvSorted_kvPut, List.length_modify, List.length_map, List.length_set, List.length_mapIdx])

theorem execCursorFetch_view {k} (hk : k &&& 0 = k) {a0 s t} (h : execCursorFetch a0 s = .next t) : t.view k = s.view k := by
  refine view_le hk ?_
  unfold execCursorFetch at h
  (repeat' split at h) <;> (try replace h := needRange_ok h) <;> (try replace h := needState_ok h) <;> (try replace h := needRange_ok h) <;> (repeat' split at h) <;> first | exact fabNext_view (by decide) h | (simp only [Host.Outcome.next.injEq, Except.ok.injEq, Option.some.injEq, reduceCtorEq] at h; (try subst h); (repeat' split); all_goals simp only [view_upd, fixed_mk, fixed_eta, apply_ite (State.view _), ite_self, Nat.reduceAnd, Nat.reduceDiv, Nat.reduceMod, Nat.zero_ne_one, implies_true, false_implies, Nat.div_one, kvSorted_kvPut, List.length_modify, List.length_map, List.length_set, List.length_mapIdx])

theorem execCursorSeekOld_view {k} (hk : k &&& 0 = k) {a0 s t} (h : execCursorSeekOld a0 s = .next t) : t.view k = s.view k
    := by
  refine view_le hk ?_
  unfold execCursorSeekOld at h
  (repeat' split at h) <;> (try replace h := needRange_ok h) <;> (try replace h := needState_ok h) <;> (try replace h := needRange_ok h) <;> (repeat' split at h) <;> first | exact fabNext_view (by decide) h | (simp only [Host.Outcome.next.injEq, Except.ok.injEq, Option.some.injEq, reduceCtorEq] at h; (try subst h); (repeat' split); all_goals simp only [view_upd, fixed_mk, fixed_eta, apply_ite (State.view _), ite_self, Nat.reduceAnd, Nat.reduceDiv, Nat.reduceMod, Nat.zero_ne_one, implies_true, false_implies, Nat.div_one, kvSorted_kvPut, List.length_modify, List.length_map, List.length_set, List.length_mapIdx])

theorem execCursorSeekNew_view {k} (hk : k &&& 0 = k) {a0 s t} (h : execCursorSeekNew a0 s = .next t) : t.view k = s.view k
    := by
  refine view_le hk ?_
  unfold execCursorSeekNew at h
  (repeat' split at h) <;> (try replace h := needRange_ok h) <;> (try replace h := needState_ok h) <;> (try replace h := needRange_ok h) <;> (repeat' split at h) <;> first | exact fabNext_view (by decide) h | (simp only [Host.Outcome.next.injEq, Except.ok.injEq, Option.some.injEq, reduceCtorEq] at h; (try subst h); (repeat' split); all_goals simp only [view_upd, fixed_mk, fixed_eta, apply_ite (State.view _), ite_self, Nat.reduceAnd, Nat.reduceDiv, Nat.reduceMod, Nat.zero_ne_one, implies_true, false_implies, Nat.div_one, kvSorted_kvPut, List.length_modify, List.length_map, List.length_set, List.length_mapIdx])

theorem execCounterSnapshot_view {k} (hk : k &&& 0 = k) {a0 s t} (h : execCounterSnapshot a0 s = .next t) : t.view k =
    s.view k := by
  refine view_le hk ?_
  unfold execCounterSnapshot at h
  (repeat' split at h) <;> (try replace h := needRange_ok h) <;> (try replace h := needState_ok h) <;> (try replace h := needRange_ok h) <;> (repeat' split at h) <;> first | exact fabNext_view (by decide) h | (simp only [Host.Outcome.next.injEq, Except.ok.injEq, Option.some.injEq, reduceCtorEq] at h; (try subst h); (repeat' split); all_goals simp only [view_upd, fixed_mk, fixed_eta, apply_ite (State.view _), ite_self, Nat.reduceAnd, Nat.reduceDiv, Nat.reduceMod, Nat.zero_ne_one, implies_true, false_implies, Nat.div_one, kvSorted_kvPut, List.length_modify, List.length_map, List.length_set, List.length_mapIdx])

theorem execCounterSelect_view {k} (hk : k &&& 0 = k) {a0 a1 s t} (h : execCounterSelect a0 a1 s = .next t) : t.view k =
    s.view k := by
  refine view_le hk ?_
  unfold execCounterSelect at h
  (repeat' split at h) <;> (try replace h := needRange_ok h) <;> (try replace h := needState_ok h) <;> (try replace h := needRange_ok h) <;> (repeat' split at h) <;> first | exact fabNext_view (by decide) h | (simp only [Host.Outcome.next.injEq, Except.ok.injEq, Option.some.injEq, reduceCtorEq] at h; (try subst h); (repeat' split); all_goals simp only [view_upd, fixed_mk, fixed_eta, apply_ite (State.view _), ite_self, Nat.reduceAnd, Nat.reduceDiv, Nat.reduceMod, Nat.zero_ne_one, implies_true, false_implies, Nat.div_one, kvSorted_kvPut, List.length_modify, List.length_map, List.length_set, List.length_mapIdx])

theorem execStopRequestWrite_view {k} (hk : k &&& 0 = k) {a0 s t} (h : execStopRequestWrite a0 s = .next t) : t.view k =
    s.view k := by
  refine view_le hk ?_
  unfold execStopRequestWrite at h
  (repeat' split at h) <;> (try replace h := needRange_ok h) <;> (try replace h := needState_ok h) <;> (try replace h := needRange_ok h) <;> (repeat' split at h) <;> first | exact fabNext_view (by decide) h | (simp only [Host.Outcome.next.injEq, Except.ok.injEq, Option.some.injEq, reduceCtorEq] at h; (try subst h); (repeat' split); all_goals simp only [view_upd, fixed_mk, fixed_eta, apply_ite (State.view _), ite_self, Nat.reduceAnd, Nat.reduceDiv, Nat.reduceMod, Nat.zero_ne_one, implies_true, false_implies, Nat.div_one, kvSorted_kvPut, List.length_modify, List.length_map, List.length_set, List.length_mapIdx])

theorem execDebugPush_view {k} (hk : k &&& 0 = k) {a0 s t} (h : execDebugPush a0 s = .next t) : t.view k = s.view k := by
  refine view_le hk ?_
  unfold execDebugPush at h
  (repeat' split at h) <;> (try replace h := needRange_ok h) <;> (try replace h := needState_ok h) <;> (try replace h := needRange_ok h) <;> (repeat' split at h) <;> first | exact fabNext_view (by decide) h | (simp only [Host.Outcome.next.injEq, Except.ok.injEq, Option.some.injEq, reduceCtorEq] at h; (try subst h); (repeat' split); all_goals simp only [view_upd, fixed_mk, fixed_eta, apply_ite (State.view _), ite_self, Nat.reduceAnd, Nat.reduceDiv, Nat.reduceMod, Nat.zero_ne_one, implies_true, false_implies, Nat.div_one, kvSorted_kvPut, List.length_modify, List.length_map, List.length_set, List.length_mapIdx])

theorem execViolRearm_view {k} (hk : k &&& 0 = k) {a0 s t} (h : execViolRearm a0 s = .next t) : t.view k = s.view k := by
  refine view_le hk ?_
  unfold execViolRearm at h
  (repeat' split at h) <;> (try replace h := needRange_ok h) <;> (try replace h := needState_ok h) <;> (try replace h := needRange_ok h) <;> (repeat' split at h) <;> first | exact fabNext_view (by decide) h | (simp only [Host.Outcome.next.injEq, Except.ok.injEq, Option.some.injEq, reduceCtorEq] at h; (try subst h); (repeat' split); all_goals simp only [view_upd, fixed_mk, fixed_eta, apply_ite (State.view _), ite_self, Nat.reduceAnd, Nat.reduceDiv, Nat.reduceMod, Nat.zero_ne_one, implies_true, false_implies, Nat.div_one, kvSorted_kvPut, List.length_modify, List.length_map, List.length_set, List.length_mapIdx])

theorem jigAsk_view {k} (hk : k &&& 0 = k) (a0 a1 a2 a3 a4 s) : (jigAsk a0 a1 a2 a3 a4 s).view k = s.view k := by
  refine view_le hk ?_
  unfold jigAsk
  simp only [State.updJig_view, clTurn_view, clServe_view, view_upd, fixed_mk, fixed_eta, apply_ite (State.view _),
      ite_self, Nat.reduceAnd, Nat.reduceDiv, Nat.reduceMod, Nat.zero_ne_one, implies_true, false_implies, Nat.div_one,
      kvSorted_kvPut, List.length_modify, List.length_map, List.length_set, List.length_mapIdx]

theorem jigUnsent_view {k} (hk : k &&& 8091644 = k) (a0 a1 s) : (jigUnsent a0 a1 s).view k = s.view k := by
  refine view_le hk ?_
  unfold jigUnsent
  simp only [jigAnswer_view, State.updJig_view, view_upd, fixed_mk, fixed_eta, apply_ite (State.view _), ite_self,
      Nat.reduceAnd, Nat.reduceDiv, Nat.reduceMod, Nat.zero_ne_one, implies_true, false_implies, Nat.div_one, kvSorted_kvPut,
      List.length_modify, List.length_map, List.length_set, List.length_mapIdx]

theorem execRdobj_view {k} (hk : k &&& 0 = k) {a0 a1 a2 a3 s t} (h : execRdobj a0 a1 a2 a3 s = .next t) : t.view k = s.view
    k := by
  refine view_le hk ?_
  unfold execRdobj at h
  grind [view_upd, fixed_mk, fixed_eta, List.length_modify, jigFault_view, jigUnsent_view, jigAsk_view]

theorem execWrobj_view {k} (hk : k &&& 0 = k) {a0 a1 a2 a3 s t} (h : execWrobj a0 a1 a2 a3 s = .next t) : t.view k = s.view
    k := by
  refine view_le hk ?_
  unfold execWrobj at h
  grind [view_upd, fixed_mk, fixed_eta, List.length_modify, jigFault_view, jigUnsent_view, jigAsk_view]

theorem execTrace_view {k} (hk : k &&& 15431676 = k) {a0 a1 s t} (h : execTrace a0 a1 s = .next t) : t.view k = s.view k := by
  refine view_le hk ?_
  unfold execTrace at h
  (repeat' split at h) <;> simp only [Host.Outcome.next.injEq, Except.ok.injEq, Option.some.injEq, reduceCtorEq] at h <;> subst h <;> simp only [jigDo_view, scribePut_view, view_upd, fixed_mk, fixed_eta, apply_ite (State.view _), ite_self, Nat.reduceAnd, Nat.reduceDiv, Nat.reduceMod, Nat.zero_ne_one, implies_true, false_implies, Nat.div_one, kvSorted_kvPut, List.length_modify, List.length_map, List.length_set, List.length_mapIdx]

theorem execPinnedActivation_view {k} (hk : k &&& 7042044 = k) {a0 s t} (h : execPinnedActivation a0 s = .next t) : t.view k
    = s.view k := by
  refine view_le hk ?_
  unfold execPinnedActivation at h
  (repeat' split at h) <;> simp only [Host.Outcome.next.injEq, Except.ok.injEq, Option.some.injEq, reduceCtorEq] at h <;> subst h <;> simp only [jigActivate_view, pinActivate_view, view_upd, fixed_mk, fixed_eta, apply_ite (State.view _), ite_self, Nat.reduceAnd, Nat.reduceDiv, Nat.reduceMod, Nat.zero_ne_one, implies_true, false_implies, Nat.div_one, kvSorted_kvPut, List.length_modify, List.length_map, List.length_set, List.length_mapIdx]

theorem execActivationDeadlineMiss_view {k} (hk : k &&& 15430652 = k) {a0 s t} (h : execActivationDeadlineMiss a0 s = .next
    t) : t.view k = s.view k := by
  refine view_le hk ?_
  unfold execActivationDeadlineMiss at h
  (repeat' split at h) <;> simp only [Host.Outcome.next.injEq, Except.ok.injEq, Option.some.injEq, reduceCtorEq] at h <;> subst h <;> simp only [jigMiss_view, pinMiss_view, view_upd, fixed_mk, fixed_eta, apply_ite (State.view _), ite_self, Nat.reduceAnd, Nat.reduceDiv, Nat.reduceMod, Nat.zero_ne_one, implies_true, false_implies, Nat.div_one, kvSorted_kvPut, List.length_modify, List.length_map, List.length_set, List.length_mapIdx]

theorem execEngineSteal_view {k} (hk : k &&& 15430652 = k) {a0 s t} (h : execEngineSteal a0 s = .next t) : t.view k = s.view
    k := by
  refine view_le hk ?_
  unfold execEngineSteal at h
  (repeat' split at h) <;> simp only [Host.Outcome.next.injEq, Except.ok.injEq, Option.some.injEq, reduceCtorEq] at h <;> subst h <;> simp only [engineSteal_view, advanceTo_view, view_upd, fixed_mk, fixed_eta, apply_ite (State.view _), ite_self, Nat.reduceAnd, Nat.reduceDiv, Nat.reduceMod, Nat.zero_ne_one, implies_true, false_implies, Nat.div_one, kvSorted_kvPut, List.length_modify, List.length_map, List.length_set, List.length_mapIdx]

theorem execTaskSpawn_view {k} (hk : k &&& 16744445 = k) {a0 a1 s t} (h : execTaskSpawn a0 a1 s = .next t) : t.view k =
    s.view k := by
  refine view_le hk ?_
  unfold execTaskSpawn at h
  (repeat' split at h) <;> simp only [Host.Outcome.next.injEq, Except.ok.injEq, Option.some.injEq, reduceCtorEq] at h <;> subst h <;> simp only [taskSpawn_view, view_upd, fixed_mk, fixed_eta, apply_ite (State.view _), ite_self, Nat.reduceAnd, Nat.reduceDiv, Nat.reduceMod, Nat.zero_ne_one, implies_true, false_implies, Nat.div_one, kvSorted_kvPut, List.length_modify, List.length_map, List.length_set, List.length_mapIdx]

theorem execNop_view {k} (hk : k &&& 16480252 = k) {a0 s t} (h : execNop a0 s = .next t) : t.view k = s.view k := by
  refine view_le hk ?_
  unfold execNop at h
  (repeat' split at h) <;> simp only [Host.Outcome.next.injEq, Except.ok.injEq, Option.some.injEq, reduceCtorEq] at h <;> subst h <;> simp only [jigDo_view, view_upd, fixed_mk, fixed_eta, apply_ite (State.view _), ite_self, Nat.reduceAnd, Nat.reduceDiv, Nat.reduceMod, Nat.zero_ne_one, implies_true, false_implies, Nat.div_one, kvSorted_kvPut, List.length_modify, List.length_map, List.length_set, List.length_mapIdx]

theorem execLdi_view {k} (hk : k &&& 16480252 = k) {a0 a1 a2 s t} (h : execLdi a0 a1 a2 s = .next t) : t.view k = s.view k := by
  refine view_le hk ?_
  unfold execLdi at h
  (repeat' split at h) <;> simp only [Host.Outcome.next.injEq, Except.ok.injEq, Option.some.injEq, reduceCtorEq] at h <;> subst h <;> simp only [jigDo_view, view_upd, fixed_mk, fixed_eta, apply_ite (State.view _), ite_self, Nat.reduceAnd, Nat.reduceDiv, Nat.reduceMod, Nat.zero_ne_one, implies_true, false_implies, Nat.div_one, kvSorted_kvPut, List.length_modify, List.length_map, List.length_set, List.length_mapIdx]

theorem execLdih_view {k} (hk : k &&& 16480252 = k) {a0 a1 a2 s t} (h : execLdih a0 a1 a2 s = .next t) : t.view k = s.view k
    := by
  refine view_le hk ?_
  unfold execLdih at h
  (repeat' split at h) <;> simp only [Host.Outcome.next.injEq, Except.ok.injEq, Option.some.injEq, reduceCtorEq] at h <;> subst h <;> simp only [jigDo_view, view_upd, fixed_mk, fixed_eta, apply_ite (State.view _), ite_self, Nat.reduceAnd, Nat.reduceDiv, Nat.reduceMod, Nat.zero_ne_one, implies_true, false_implies, Nat.div_one, kvSorted_kvPut, List.length_modify, List.length_map, List.length_set, List.length_mapIdx]

theorem execMov_view {k} (hk : k &&& 16480252 = k) {a0 a1 a2 s t} (h : execMov a0 a1 a2 s = .next t) : t.view k = s.view k := by
  refine view_le hk ?_
  unfold execMov at h
  (repeat' split at h) <;> simp only [Host.Outcome.next.injEq, Except.ok.injEq, Option.some.injEq, reduceCtorEq] at h <;> subst h <;> simp only [jigDo_view, view_upd, fixed_mk, fixed_eta, apply_ite (State.view _), ite_self, Nat.reduceAnd, Nat.reduceDiv, Nat.reduceMod, Nat.zero_ne_one, implies_true, false_implies, Nat.div_one, kvSorted_kvPut, List.length_modify, List.length_map, List.length_set, List.length_mapIdx]

theorem execLdm_view {k} (hk : k &&& 16480252 = k) {a0 a1 a2 a3 s t} (h : execLdm a0 a1 a2 a3 s = .next t) : t.view k =
    s.view k := by
  refine view_le hk ?_
  unfold execLdm at h
  grind [view_upd, fixed_mk, fixed_eta, List.length_modify, jigDo_view, jigFault_view]

theorem execStm_view {k} (hk : k &&& 16480252 = k) {a0 a1 a2 a3 s t} (h : execStm a0 a1 a2 a3 s = .next t) : t.view k =
    s.view k := by
  refine view_le hk ?_
  unfold execStm at h
  grind [view_upd, fixed_mk, fixed_eta, List.length_modify, jigDo_view, jigFault_view]

theorem execAdd_view {k} (hk : k &&& 16480252 = k) {a0 a1 a2 a3 s t} (h : execAdd a0 a1 a2 a3 s = .next t) : t.view k =
    s.view k := by
  refine view_le hk ?_
  unfold execAdd at h
  (repeat' split at h) <;> simp only [Host.Outcome.next.injEq, Except.ok.injEq, Option.some.injEq, reduceCtorEq] at h <;> subst h <;> simp only [jigDo_view, view_upd, fixed_mk, fixed_eta, apply_ite (State.view _), ite_self, Nat.reduceAnd, Nat.reduceDiv, Nat.reduceMod, Nat.zero_ne_one, implies_true, false_implies, Nat.div_one, kvSorted_kvPut, List.length_modify, List.length_map, List.length_set, List.length_mapIdx]

theorem execAddi_view {k} (hk : k &&& 16480252 = k) {a0 a1 a2 a3 s t} (h : execAddi a0 a1 a2 a3 s = .next t) : t.view k =
    s.view k := by
  refine view_le hk ?_
  unfold execAddi at h
  (repeat' split at h) <;> simp only [Host.Outcome.next.injEq, Except.ok.injEq, Option.some.injEq, reduceCtorEq] at h <;> subst h <;> simp only [jigDo_view, view_upd, fixed_mk, fixed_eta, apply_ite (State.view _), ite_self, Nat.reduceAnd, Nat.reduceDiv, Nat.reduceMod, Nat.zero_ne_one, implies_true, false_implies, Nat.div_one, kvSorted_kvPut, List.length_modify, List.length_map, List.length_set, List.length_mapIdx]

theorem execSub_view {k} (hk : k &&& 16480252 = k) {a0 a1 a2 a3 s t} (h : execSub a0 a1 a2 a3 s = .next t) : t.view k =
    s.view k := by
  refine view_le hk ?_
  unfold execSub at h
  (repeat' split at h) <;> simp only [Host.Outcome.next.injEq, Except.ok.injEq, Option.some.injEq, reduceCtorEq] at h <;> subst h <;> simp only [jigDo_view, view_upd, fixed_mk, fixed_eta, apply_ite (State.view _), ite_self, Nat.reduceAnd, Nat.reduceDiv, Nat.reduceMod, Nat.zero_ne_one, implies_true, false_implies, Nat.div_one, kvSorted_kvPut, List.length_modify, List.length_map, List.length_set, List.length_mapIdx]

theorem execNeg_view {k} (hk : k &&& 16480252 = k) {a0 a1 a2 s t} (h : execNeg a0 a1 a2 s = .next t) : t.view k = s.view k := by
  refine view_le hk ?_
  unfold execNeg at h
  (repeat' split at h) <;> simp only [Host.Outcome.next.injEq, Except.ok.injEq, Option.some.injEq, reduceCtorEq] at h <;> subst h <;> simp only [jigDo_view, view_upd, fixed_mk, fixed_eta, apply_ite (State.view _), ite_self, Nat.reduceAnd, Nat.reduceDiv, Nat.reduceMod, Nat.zero_ne_one, implies_true, false_implies, Nat.div_one, kvSorted_kvPut, List.length_modify, List.length_map, List.length_set, List.length_mapIdx]

theorem execAbs_view {k} (hk : k &&& 16480252 = k) {a0 a1 a2 s t} (h : execAbs a0 a1 a2 s = .next t) : t.view k = s.view k := by
  refine view_le hk ?_
  unfold execAbs at h
  (repeat' split at h) <;> simp only [Host.Outcome.next.injEq, Except.ok.injEq, Option.some.injEq, reduceCtorEq] at h <;> subst h <;> simp only [jigDo_view, view_upd, fixed_mk, fixed_eta, apply_ite (State.view _), ite_self, Nat.reduceAnd, Nat.reduceDiv, Nat.reduceMod, Nat.zero_ne_one, implies_true, false_implies, Nat.div_one, kvSorted_kvPut, List.length_modify, List.length_map, List.length_set, List.length_mapIdx]

theorem execMul_view {k} (hk : k &&& 16480252 = k) {a0 a1 a2 a3 s t} (h : execMul a0 a1 a2 a3 s = .next t) : t.view k =
    s.view k := by
  refine view_le hk ?_
  unfold execMul at h
  (repeat' split at h) <;> simp only [Host.Outcome.next.injEq, Except.ok.injEq, Option.some.injEq, reduceCtorEq] at h <;> subst h <;> simp only [jigDo_view, view_upd, fixed_mk, fixed_eta, apply_ite (State.view _), ite_self, Nat.reduceAnd, Nat.reduceDiv, Nat.reduceMod, Nat.zero_ne_one, implies_true, false_implies, Nat.div_one, kvSorted_kvPut, List.length_modify, List.length_map, List.length_set, List.length_mapIdx]

theorem execMulsh_view {k} (hk : k &&& 16480252 = k) {a0 a1 a2 a3 a4 s t} (h : execMulsh a0 a1 a2 a3 a4 s = .next t) :
    t.view k = s.view k := by
  refine view_le hk ?_
  unfold execMulsh at h
  (repeat' split at h) <;> simp only [Host.Outcome.next.injEq, Except.ok.injEq, Option.some.injEq, reduceCtorEq] at h <;> subst h <;> simp only [jigDo_view, view_upd, fixed_mk, fixed_eta, apply_ite (State.view _), ite_self, Nat.reduceAnd, Nat.reduceDiv, Nat.reduceMod, Nat.zero_ne_one, implies_true, false_implies, Nat.div_one, kvSorted_kvPut, List.length_modify, List.length_map, List.length_set, List.length_mapIdx]

theorem execMulish_view {k} (hk : k &&& 16480252 = k) {a0 a1 a2 a3 a4 s t} (h : execMulish a0 a1 a2 a3 a4 s = .next t) :
    t.view k = s.view k := by
  refine view_le hk ?_
  unfold execMulish at h
  (repeat' split at h) <;> simp only [Host.Outcome.next.injEq, Except.ok.injEq, Option.some.injEq, reduceCtorEq] at h <;> subst h <;> simp only [jigDo_view, view_upd, fixed_mk, fixed_eta, apply_ite (State.view _), ite_self, Nat.reduceAnd, Nat.reduceDiv, Nat.reduceMod, Nat.zero_ne_one, implies_true, false_implies, Nat.div_one, kvSorted_kvPut, List.length_modify, List.length_map, List.length_set, List.length_mapIdx]

theorem execDiv_view {k} (hk : k &&& 16480252 = k) {a0 a1 a2 a3 s t} (h : execDiv a0 a1 a2 a3 s = .next t) : t.view k =
    s.view k := by
  refine view_le hk ?_
  unfold execDiv at h
  (repeat' split at h) <;> simp only [Host.Outcome.next.injEq, Except.ok.injEq, Option.some.injEq, reduceCtorEq] at h <;> subst h <;> simp only [jigFault_view, jigDo_view, view_upd, fixed_mk, fixed_eta, apply_ite (State.view _), ite_self, Nat.reduceAnd, Nat.reduceDiv, Nat.reduceMod, Nat.zero_ne_one, implies_true, false_implies, Nat.div_one, kvSorted_kvPut, List.length_modify, List.length_map, List.length_set, List.length_mapIdx]

theorem execMin_view {k} (hk : k &&& 16480252 = k) {a0 a1 a2 a3 s t} (h : execMin a0 a1 a2 a3 s = .next t) : t.view k =
    s.view k := by
  refine view_le hk ?_
  unfold execMin at h
  (repeat' split at h) <;> simp only [Host.Outcome.next.injEq, Except.ok.injEq, Option.some.injEq, reduceCtorEq] at h <;> subst h <;> simp only [jigDo_view, view_upd, fixed_mk, fixed_eta, apply_ite (State.view _), ite_self, Nat.reduceAnd, Nat.reduceDiv, Nat.reduceMod, Nat.zero_ne_one, implies_true, false_implies, Nat.div_one, kvSorted_kvPut, List.length_modify, List.length_map, List.length_set, List.length_mapIdx]

theorem execMax_view {k} (hk : k &&& 16480252 = k) {a0 a1 a2 a3 s t} (h : execMax a0 a1 a2 a3 s = .next t) : t.view k =
    s.view k := by
  refine view_le hk ?_
  unfold execMax at h
  (repeat' split at h) <;> simp only [Host.Outcome.next.injEq, Except.ok.injEq, Option.some.injEq, reduceCtorEq] at h <;> subst h <;> simp only [jigDo_view, view_upd, fixed_mk, fixed_eta, apply_ite (State.view _), ite_self, Nat.reduceAnd, Nat.reduceDiv, Nat.reduceMod, Nat.zero_ne_one, implies_true, false_implies, Nat.div_one, kvSorted_kvPut, List.length_modify, List.length_map, List.length_set, List.length_mapIdx]

theorem execClamp_view {k} (hk : k &&& 16480252 = k) {a0 a1 a2 a3 s t} (h : execClamp a0 a1 a2 a3 s = .next t) : t.view k =
    s.view k := by
  refine view_le hk ?_
  unfold execClamp at h
  (repeat' split at h) <;> simp only [Host.Outcome.next.injEq, Except.ok.injEq, Option.some.injEq, reduceCtorEq] at h <;> subst h <;> simp only [jigDo_view, view_upd, fixed_mk, fixed_eta, apply_ite (State.view _), ite_self, Nat.reduceAnd, Nat.reduceDiv, Nat.reduceMod, Nat.zero_ne_one, implies_true, false_implies, Nat.div_one, kvSorted_kvPut, List.length_modify, List.length_map, List.length_set, List.length_mapIdx]

theorem execAnd_view {k} (hk : k &&& 16480252 = k) {a0 a1 a2 a3 s t} (h : execAnd a0 a1 a2 a3 s = .next t) : t.view k =
    s.view k := by
  refine view_le hk ?_
  unfold execAnd at h
  (repeat' split at h) <;> simp only [Host.Outcome.next.injEq, Except.ok.injEq, Option.some.injEq, reduceCtorEq] at h <;> subst h <;> simp only [jigDo_view, view_upd, fixed_mk, fixed_eta, apply_ite (State.view _), ite_self, Nat.reduceAnd, Nat.reduceDiv, Nat.reduceMod, Nat.zero_ne_one, implies_true, false_implies, Nat.div_one, kvSorted_kvPut, List.length_modify, List.length_map, List.length_set, List.length_mapIdx]

theorem execOr_view {k} (hk : k &&& 16480252 = k) {a0 a1 a2 a3 s t} (h : execOr a0 a1 a2 a3 s = .next t) : t.view k = s.view
    k := by
  refine view_le hk ?_
  unfold execOr at h
  (repeat' split at h) <;> simp only [Host.Outcome.next.injEq, Except.ok.injEq, Option.some.injEq, reduceCtorEq] at h <;> subst h <;> simp only [jigDo_view, view_upd, fixed_mk, fixed_eta, apply_ite (State.view _), ite_self, Nat.reduceAnd, Nat.reduceDiv, Nat.reduceMod, Nat.zero_ne_one, implies_true, false_implies, Nat.div_one, kvSorted_kvPut, List.length_modify, List.length_map, List.length_set, List.length_mapIdx]

theorem execXor_view {k} (hk : k &&& 16480252 = k) {a0 a1 a2 a3 s t} (h : execXor a0 a1 a2 a3 s = .next t) : t.view k =
    s.view k := by
  refine view_le hk ?_
  unfold execXor at h
  (repeat' split at h) <;> simp only [Host.Outcome.next.injEq, Except.ok.injEq, Option.some.injEq, reduceCtorEq] at h <;> subst h <;> simp only [jigDo_view, view_upd, fixed_mk, fixed_eta, apply_ite (State.view _), ite_self, Nat.reduceAnd, Nat.reduceDiv, Nat.reduceMod, Nat.zero_ne_one, implies_true, false_implies, Nat.div_one, kvSorted_kvPut, List.length_modify, List.length_map, List.length_set, List.length_mapIdx]

theorem execNot_view {k} (hk : k &&& 16480252 = k) {a0 a1 a2 s t} (h : execNot a0 a1 a2 s = .next t) : t.view k = s.view k := by
  refine view_le hk ?_
  unfold execNot at h
  (repeat' split at h) <;> simp only [Host.Outcome.next.injEq, Except.ok.injEq, Option.some.injEq, reduceCtorEq] at h <;> subst h <;> simp only [jigDo_view, view_upd, fixed_mk, fixed_eta, apply_ite (State.view _), ite_self, Nat.reduceAnd, Nat.reduceDiv, Nat.reduceMod, Nat.zero_ne_one, implies_true, false_implies, Nat.div_one, kvSorted_kvPut, List.length_modify, List.length_map, List.length_set, List.length_mapIdx]

theorem execShl_view {k} (hk : k &&& 16480252 = k) {a0 a1 a2 a3 s t} (h : execShl a0 a1 a2 a3 s = .next t) : t.view k =
    s.view k := by
  refine view_le hk ?_
  unfold execShl at h
  (repeat' split at h) <;> simp only [Host.Outcome.next.injEq, Except.ok.injEq, Option.some.injEq, reduceCtorEq] at h <;> subst h <;> simp only [jigDo_view, view_upd, fixed_mk, fixed_eta, apply_ite (State.view _), ite_self, Nat.reduceAnd, Nat.reduceDiv, Nat.reduceMod, Nat.zero_ne_one, implies_true, false_implies, Nat.div_one, kvSorted_kvPut, List.length_modify, List.length_map, List.length_set, List.length_mapIdx]

theorem execShr_view {k} (hk : k &&& 16480252 = k) {a0 a1 a2 a3 s t} (h : execShr a0 a1 a2 a3 s = .next t) : t.view k =
    s.view k := by
  refine view_le hk ?_
  unfold execShr at h
  (repeat' split at h) <;> simp only [Host.Outcome.next.injEq, Except.ok.injEq, Option.some.injEq, reduceCtorEq] at h <;> subst h <;> simp only [jigDo_view, view_upd, fixed_mk, fixed_eta, apply_ite (State.view _), ite_self, Nat.reduceAnd, Nat.reduceDiv, Nat.reduceMod, Nat.zero_ne_one, implies_true, false_implies, Nat.div_one, kvSorted_kvPut, List.length_modify, List.length_map, List.length_set, List.length_mapIdx]

theorem execSar_view {k} (hk : k &&& 16480252 = k) {a0 a1 a2 a3 s t} (h : execSar a0 a1 a2 a3 s = .next t) : t.view k =
    s.view k := by
  refine view_le hk ?_
  unfold execSar at h
  (repeat' split at h) <;> simp only [Host.Outcome.next.injEq, Except.ok.injEq, Option.some.injEq, reduceCtorEq] at h <;> subst h <;> simp only [jigDo_view, view_upd, fixed_mk, fixed_eta, apply_ite (State.view _), ite_self, Nat.reduceAnd, Nat.reduceDiv, Nat.reduceMod, Nat.zero_ne_one, implies_true, false_implies, Nat.div_one, kvSorted_kvPut, List.length_modify, List.length_map, List.length_set, List.length_mapIdx]

theorem execAndi_view {k} (hk : k &&& 16480252 = k) {a0 a1 a2 a3 s t} (h : execAndi a0 a1 a2 a3 s = .next t) : t.view k =
    s.view k := by
  refine view_le hk ?_
  unfold execAndi at h
  (repeat' split at h) <;> simp only [Host.Outcome.next.injEq, Except.ok.injEq, Option.some.injEq, reduceCtorEq] at h <;> subst h <;> simp only [jigDo_view, view_upd, fixed_mk, fixed_eta, apply_ite (State.view _), ite_self, Nat.reduceAnd, Nat.reduceDiv, Nat.reduceMod, Nat.zero_ne_one, implies_true, false_implies, Nat.div_one, kvSorted_kvPut, List.length_modify, List.length_map, List.length_set, List.length_mapIdx]

theorem execSel_view {k} (hk : k &&& 16480252 = k) {a0 a1 a2 a3 s t} (h : execSel a0 a1 a2 a3 s = .next t) : t.view k =
    s.view k := by
  refine view_le hk ?_
  unfold execSel at h
  (repeat' split at h) <;> simp only [Host.Outcome.next.injEq, Except.ok.injEq, Option.some.injEq, reduceCtorEq] at h <;> subst h <;> simp only [jigDo_view, view_upd, fixed_mk, fixed_eta, apply_ite (State.view _), ite_self, Nat.reduceAnd, Nat.reduceDiv, Nat.reduceMod, Nat.zero_ne_one, implies_true, false_implies, Nat.div_one, kvSorted_kvPut, List.length_modify, List.length_map, List.length_set, List.length_mapIdx]

theorem execSlt_view {k} (hk : k &&& 16480252 = k) {a0 a1 a2 a3 s t} (h : execSlt a0 a1 a2 a3 s = .next t) : t.view k =
    s.view k := by
  refine view_le hk ?_
  unfold execSlt at h
  (repeat' split at h) <;> simp only [Host.Outcome.next.injEq, Except.ok.injEq, Option.some.injEq, reduceCtorEq] at h <;> subst h <;> simp only [jigDo_view, view_upd, fixed_mk, fixed_eta, apply_ite (State.view _), ite_self, Nat.reduceAnd, Nat.reduceDiv, Nat.reduceMod, Nat.zero_ne_one, implies_true, false_implies, Nat.div_one, kvSorted_kvPut, List.length_modify, List.length_map, List.length_set, List.length_mapIdx]

theorem execSeq_view {k} (hk : k &&& 16480252 = k) {a0 a1 a2 a3 s t} (h : execSeq a0 a1 a2 a3 s = .next t) : t.view k =
    s.view k := by
  refine view_le hk ?_
  unfold execSeq at h
  (repeat' split at h) <;> simp only [Host.Outcome.next.injEq, Except.ok.injEq, Option.some.injEq, reduceCtorEq] at h <;> subst h <;> simp only [jigDo_view, view_upd, fixed_mk, fixed_eta, apply_ite (State.view _), ite_self, Nat.reduceAnd, Nat.reduceDiv, Nat.reduceMod, Nat.zero_ne_one, implies_true, false_implies, Nat.div_one, kvSorted_kvPut, List.length_modify, List.length_map, List.length_set, List.length_mapIdx]

theorem execBeq_view {k} (hk : k &&& 16480252 = k) {a0 a1 a2 a3 s t} (h : execBeq a0 a1 a2 a3 s = .next t) : t.view k =
    s.view k := by
  refine view_le hk ?_
  unfold execBeq at h
  (repeat' split at h) <;> simp only [Host.Outcome.next.injEq, Except.ok.injEq, Option.some.injEq, reduceCtorEq] at h <;> subst h <;> simp only [jigGoto_view, view_upd, fixed_mk, fixed_eta, apply_ite (State.view _), ite_self, Nat.reduceAnd, Nat.reduceDiv, Nat.reduceMod, Nat.zero_ne_one, implies_true, false_implies, Nat.div_one, kvSorted_kvPut, List.length_modify, List.length_map, List.length_set, List.length_mapIdx]

theorem execBne_view {k} (hk : k &&& 16480252 = k) {a0 a1 a2 a3 s t} (h : execBne a0 a1 a2 a3 s = .next t) : t.view k =
    s.view k := by
  refine view_le hk ?_
  unfold execBne at h
  (repeat' split at h) <;> simp only [Host.Outcome.next.injEq, Except.ok.injEq, Option.some.injEq, reduceCtorEq] at h <;> subst h <;> simp only [jigGoto_view, view_upd, fixed_mk, fixed_eta, apply_ite (State.view _), ite_self, Nat.reduceAnd, Nat.reduceDiv, Nat.reduceMod, Nat.zero_ne_one, implies_true, false_implies, Nat.div_one, kvSorted_kvPut, List.length_modify, List.length_map, List.length_set, List.length_mapIdx]

theorem execBlt_view {k} (hk : k &&& 16480252 = k) {a0 a1 a2 a3 s t} (h : execBlt a0 a1 a2 a3 s = .next t) : t.view k =
    s.view k := by
  refine view_le hk ?_
  unfold execBlt at h
  (repeat' split at h) <;> simp only [Host.Outcome.next.injEq, Except.ok.injEq, Option.some.injEq, reduceCtorEq] at h <;> subst h <;> simp only [jigGoto_view, view_upd, fixed_mk, fixed_eta, apply_ite (State.view _), ite_self, Nat.reduceAnd, Nat.reduceDiv, Nat.reduceMod, Nat.zero_ne_one, implies_true, false_implies, Nat.div_one, kvSorted_kvPut, List.length_modify, List.length_map, List.length_set, List.length_mapIdx]

theorem execBge_view {k} (hk : k &&& 16480252 = k) {a0 a1 a2 a3 s t} (h : execBge a0 a1 a2 a3 s = .next t) : t.view k =
    s.view k := by
  refine view_le hk ?_
  unfold execBge at h
  (repeat' split at h) <;> simp only [Host.Outcome.next.injEq, Except.ok.injEq, Option.some.injEq, reduceCtorEq] at h <;> subst h <;> simp only [jigGoto_view, view_upd, fixed_mk, fixed_eta, apply_ite (State.view _), ite_self, Nat.reduceAnd, Nat.reduceDiv, Nat.reduceMod, Nat.zero_ne_one, implies_true, false_implies, Nat.div_one, kvSorted_kvPut, List.length_modify, List.length_map, List.length_set, List.length_mapIdx]

theorem execBz_view {k} (hk : k &&& 16480252 = k) {a0 a1 a2 s t} (h : execBz a0 a1 a2 s = .next t) : t.view k = s.view k := by
  refine view_le hk ?_
  unfold execBz at h
  (repeat' split at h) <;> simp only [Host.Outcome.next.injEq, Except.ok.injEq, Option.some.injEq, reduceCtorEq] at h <;> subst h <;> simp only [jigGoto_view, view_upd, fixed_mk, fixed_eta, apply_ite (State.view _), ite_self, Nat.reduceAnd, Nat.reduceDiv, Nat.reduceMod, Nat.zero_ne_one, implies_true, false_implies, Nat.div_one, kvSorted_kvPut, List.length_modify, List.length_map, List.length_set, List.length_mapIdx]

theorem execJmp_view {k} (hk : k &&& 16480252 = k) {a0 a1 s t} (h : execJmp a0 a1 s = .next t) : t.view k = s.view k := by
  refine view_le hk ?_
  unfold execJmp at h
  (repeat' split at h) <;> simp only [Host.Outcome.next.injEq, Except.ok.injEq, Option.some.injEq, reduceCtorEq] at h <;> subst h <;> simp only [jigGoto_view, view_upd, fixed_mk, fixed_eta, apply_ite (State.view _), ite_self, Nat.reduceAnd, Nat.reduceDiv, Nat.reduceMod, Nat.zero_ne_one, implies_true, false_implies, Nat.div_one, kvSorted_kvPut, List.length_modify, List.length_map, List.length_set, List.length_mapIdx]

theorem execEnd_view {k} (hk : k &&& 16744447 = k) {a0 s t} (h : execEnd a0 s = .next t) : t.view k = s.view k := by
  refine view_le hk ?_
  unfold execEnd at h
  (repeat' split at h) <;> simp only [Host.Outcome.next.injEq, Except.ok.injEq, Option.some.injEq, reduceCtorEq] at h <;> subst h <;> simp only [jigEnd_view, view_upd, fixed_mk, fixed_eta, apply_ite (State.view _), ite_self, Nat.reduceAnd, Nat.reduceDiv, Nat.reduceMod, Nat.zero_ne_one, implies_true, false_implies, Nat.div_one, kvSorted_kvPut, List.length_modify, List.length_map, List.length_set, List.length_mapIdx]

theorem execFilt_view {k} (hk : k &&& 16480252 = k) {a0 a1 a2 a3 a4 s t} (h : execFilt a0 a1 a2 a3 a4 s = .next t) : t.view
    k = s.view k := by
  refine view_le hk ?_
  unfold execFilt at h
  (repeat' split at h) <;> simp only [Host.Outcome.next.injEq, Except.ok.injEq, Option.some.injEq, reduceCtorEq] at h <;> subst h <;> simp only [jigDo_view, view_upd, fixed_mk, fixed_eta, apply_ite (State.view _), ite_self, Nat.reduceAnd, Nat.reduceDiv, Nat.reduceMod, Nat.zero_ne_one, implies_true, false_implies, Nat.div_one, kvSorted_kvPut, List.length_modify, List.length_map, List.length_set, List.length_mapIdx]

theorem execInteg_view {k} (hk : k &&& 16480252 = k) {a0 a1 a2 a3 a4 a5 s t} (h : execInteg a0 a1 a2 a3 a4 a5 s = .next t) :
    t.view k = s.view k := by
  refine view_le hk ?_
  unfold execInteg at h
  (repeat' split at h) <;> simp only [Host.Outcome.next.injEq, Except.ok.injEq, Option.some.injEq, reduceCtorEq] at h <;> subst h <;> simp only [jigDo_view, view_upd, fixed_mk, fixed_eta, apply_ite (State.view _), ite_self, Nat.reduceAnd, Nat.reduceDiv, Nat.reduceMod, Nat.zero_ne_one, implies_true, false_implies, Nat.div_one, kvSorted_kvPut, List.length_modify, List.length_map, List.length_set, List.length_mapIdx]

theorem execDeadb_view {k} (hk : k &&& 16480252 = k) {a0 a1 a2 a3 s t} (h : execDeadb a0 a1 a2 a3 s = .next t) : t.view k =
    s.view k := by
  refine view_le hk ?_
  unfold execDeadb at h
  (repeat' split at h) <;> simp only [Host.Outcome.next.injEq, Except.ok.injEq, Option.some.injEq, reduceCtorEq] at h <;> subst h <;> simp only [jigDo_view, view_upd, fixed_mk, fixed_eta, apply_ite (State.view _), ite_self, Nat.reduceAnd, Nat.reduceDiv, Nat.reduceMod, Nat.zero_ne_one, implies_true, false_implies, Nat.div_one, kvSorted_kvPut, List.length_modify, List.length_map, List.length_set, List.length_mapIdx]

theorem execSlew_view {k} (hk : k &&& 16480252 = k) {a0 a1 a2 a3 s t} (h : execSlew a0 a1 a2 a3 s = .next t) : t.view k =
    s.view k := by
  refine view_le hk ?_
  unfold execSlew at h
  (repeat' split at h) <;> simp only [Host.Outcome.next.injEq, Except.ok.injEq, Option.some.injEq, reduceCtorEq] at h <;> subst h <;> simp only [jigDo_view, view_upd, fixed_mk, fixed_eta, apply_ite (State.view _), ite_self, Nat.reduceAnd, Nat.reduceDiv, Nat.reduceMod, Nat.zero_ne_one, implies_true, false_implies, Nat.div_one, kvSorted_kvPut, List.length_modify, List.length_map, List.length_set, List.length_mapIdx]

theorem execRdtel_view {k} (hk : k &&& 16480252 = k) {a0 a1 a2 s t} (h : execRdtel a0 a1 a2 s = .next t) : t.view k = s.view
    k := by
  refine view_le hk ?_
  unfold execRdtel at h
  (repeat' split at h) <;> simp only [Host.Outcome.next.injEq, Except.ok.injEq, Option.some.injEq, reduceCtorEq] at h <;> subst h <;> simp only [jigDo_view, jigFault_view, view_upd, fixed_mk, fixed_eta, apply_ite (State.view _), ite_self, Nat.reduceAnd, Nat.reduceDiv, Nat.reduceMod, Nat.zero_ne_one, implies_true, false_implies, Nat.div_one, kvSorted_kvPut, List.length_modify, List.length_map, List.length_set, List.length_mapIdx]

theorem execPost_view {k} (hk : k &&& 16480252 = k) {a0 a1 a2 s t} (h : execPost a0 a1 a2 s = .next t) : t.view k = s.view k
    := by
  refine view_le hk ?_
  unfold execPost at h
  (repeat' split at h) <;> simp only [Host.Outcome.next.injEq, Except.ok.injEq, Option.some.injEq, reduceCtorEq] at h <;> subst h <;> simp only [updAccr_view, jigDo_view, jigFault_view, view_upd, fixed_mk, fixed_eta, apply_ite (State.view _), ite_self, Nat.reduceAnd, Nat.reduceDiv, Nat.reduceMod, Nat.zero_ne_one, implies_true, false_implies, Nat.div_one, kvSorted_kvPut, List.length_modify, List.length_map, List.length_set, List.length_mapIdx]

theorem execEvent_view {k} (hk : k &&& 16480252 = k) {a0 a1 a2 s t} (h : execEvent a0 a1 a2 s = .next t) : t.view k = s.view
    k := by
  refine view_le hk ?_
  unfold execEvent at h
  (repeat' split at h) <;> simp only [Host.Outcome.next.injEq, Except.ok.injEq, Option.some.injEq, reduceCtorEq] at h <;> subst h <;> simp only [jigDo_view, raise_view, view_upd, fixed_mk, fixed_eta, apply_ite (State.view _), ite_self, Nat.reduceAnd, Nat.reduceDiv, Nat.reduceMod, Nat.zero_ne_one, implies_true, false_implies, Nat.div_one, kvSorted_kvPut, List.length_modify, List.length_map, List.length_set, List.length_mapIdx]

theorem execActn_view {k} (hk : k &&& 16480252 = k) {a0 a1 s t} (h : execActn a0 a1 s = .next t) : t.view k = s.view k := by
  refine view_le hk ?_
  unfold execActn at h
  (repeat' split at h) <;> simp only [Host.Outcome.next.injEq, Except.ok.injEq, Option.some.injEq, reduceCtorEq] at h <;> subst h <;> simp only [jigDo_view, view_upd, fixed_mk, fixed_eta, apply_ite (State.view _), ite_self, Nat.reduceAnd, Nat.reduceDiv, Nat.reduceMod, Nat.zero_ne_one, implies_true, false_implies, Nat.div_one, kvSorted_kvPut, List.length_modify, List.length_map, List.length_set, List.length_mapIdx]

theorem execElapsed_view {k} (hk : k &&& 8091644 = k) {a0 a1 s t} (h : execElapsed a0 a1 s = .next t) : t.view k = s.view k
    := by
  refine view_le hk ?_
  unfold execElapsed at h
  (repeat' split at h) <;> simp only [Host.Outcome.next.injEq, Except.ok.injEq, Option.some.injEq, reduceCtorEq] at h <;> subst h <;> simp only [jigDo_view, State.takeFree_view, view_upd, fixed_mk, fixed_eta, apply_ite (State.view _), ite_self, Nat.reduceAnd, Nat.reduceDiv, Nat.reduceMod, Nat.zero_ne_one, implies_true, false_implies, Nat.div_one, kvSorted_kvPut, List.length_modify, List.length_map, List.length_set, List.length_mapIdx]

theorem execFlashImageWriteDone_view {k} (hk : k &&& 15826940 = k) {a0 a1 s t} (h : execFlashImageWriteDone a0 a1 s = .next
    t) : t.view k = s.view k := by
  refine view_le hk ?_
  unfold execFlashImageWriteDone at h
  (repeat' split at h) <;> simp only [Host.Outcome.next.injEq, Except.ok.injEq, Option.some.injEq, reduceCtorEq] at h <;> subst h <;> simp only [dmaGiveUse_view, flashImageEnd_view, view_upd, fixed_mk, fixed_eta, apply_ite (State.view _), ite_self, Nat.reduceAnd, Nat.reduceDiv, Nat.reduceMod, Nat.zero_ne_one, implies_true, false_implies, Nat.div_one, kvSorted_kvPut, List.length_modify, List.length_map, List.length_set, List.length_mapIdx]

theorem execEngineDrainDone_view {k} (hk : k &&& 16613375 = k) {a0 s t} (h : execEngineDrainDone a0 s = .next t) : t.view k
    = s.view k := by
  refine view_le hk ?_
  unfold execEngineDrainDone at h
  (repeat' split at h) <;> simp only [Host.Outcome.next.injEq, Except.ok.injEq, Option.some.injEq, reduceCtorEq] at h <;> subst h <;> simp only [channel0_view, drainDone_view, view_upd, fixed_mk, fixed_eta, apply_ite (State.view _), ite_self, Nat.reduceAnd, Nat.reduceDiv, Nat.reduceMod, Nat.zero_ne_one, implies_true, false_implies, Nat.div_one, kvSorted_kvPut, List.length_modify, List.length_map, List.length_set, List.length_mapIdx]

theorem execEngineReloadDone_view {k} (hk : k &&& 16613375 = k) {a0 s t} (h : execEngineReloadDone a0 s = .next t) : t.view
    k = s.view k := by
  refine view_le hk ?_
  unfold execEngineReloadDone at h
  (repeat' split at h) <;> simp only [Host.Outcome.next.injEq, Except.ok.injEq, Option.some.injEq, reduceCtorEq] at h <;> subst h <;> simp only [channel0_view, reloadDone_view, view_upd, fixed_mk, fixed_eta, apply_ite (State.view _), ite_self, Nat.reduceAnd, Nat.reduceDiv, Nat.reduceMod, Nat.zero_ne_one, implies_true, false_implies, Nat.div_one, kvSorted_kvPut, List.length_modify, List.length_map, List.length_set, List.length_mapIdx]

theorem execEngineStartDone_view {k} (hk : k &&& 16351228 = k) {a0 s t} (h : execEngineStartDone a0 s = .next t) : t.view k
    = s.view k := by
  refine view_le hk ?_
  unfold execEngineStartDone at h
  (repeat' split at h) <;> simp only [Host.Outcome.next.injEq, Except.ok.injEq, Option.some.injEq, reduceCtorEq] at h <;> subst h <;> simp only [channel0_view, startDone_view, view_upd, fixed_mk, fixed_eta, apply_ite (State.view _), ite_self, Nat.reduceAnd, Nat.reduceDiv, Nat.reduceMod, Nat.zero_ne_one, implies_true, false_implies, Nat.div_one, kvSorted_kvPut, List.length_modify, List.length_map, List.length_set, List.length_mapIdx]

theorem execEngineDrainTimeout_view {k} (hk : k &&& 15299580 = k) {a0 s t} (h : execEngineDrainTimeout a0 s = .next t) :
    t.view k = s.view k := by
  refine view_le hk ?_
  unfold execEngineDrainTimeout at h
  (repeat' split at h) <;> simp only [Host.Outcome.next.injEq, Except.ok.injEq, Option.some.injEq, reduceCtorEq] at h <;> subst h <;> simp only [channel0_view, drainTimeout_view, view_upd, fixed_mk, fixed_eta, apply_ite (State.view _), ite_self, Nat.reduceAnd, Nat.reduceDiv, Nat.reduceMod, Nat.zero_ne_one, implies_true, false_implies, Nat.div_one, kvSorted_kvPut, List.length_modify, List.length_map, List.length_set, List.length_mapIdx]

theorem execEngineStartTimeout_view {k} (hk : k &&& 15299580 = k) {a0 s t} (h : execEngineStartTimeout a0 s = .next t) :
    t.view k = s.view k := by
  refine view_le hk ?_
  unfold execEngineStartTimeout at h
  (repeat' split at h) <;> simp only [Host.Outcome.next.injEq, Except.ok.injEq, Option.some.injEq, reduceCtorEq] at h <;> subst h <;> simp only [channel0_view, startTimeout_view, view_upd, fixed_mk, fixed_eta, apply_ite (State.view _), ite_self, Nat.reduceAnd, Nat.reduceDiv, Nat.reduceMod, Nat.zero_ne_one, implies_true, false_implies, Nat.div_one, kvSorted_kvPut, List.length_modify, List.length_map, List.length_set, List.length_mapIdx]

theorem execEngineWatchdogExpiry_view {k} (hk : k &&& 16349180 = k) {a0 s t} (h : execEngineWatchdogExpiry a0 s = .next t) :
    t.view k = s.view k := by
  refine view_le hk ?_
  unfold execEngineWatchdogExpiry at h
  (repeat' split at h) <;> simp only [Host.Outcome.next.injEq, Except.ok.injEq, Option.some.injEq, reduceCtorEq] at h <;> subst h <;> simp only [channel0_view, engineWatchdog_view, view_upd, fixed_mk, fixed_eta, apply_ite (State.view _), ite_self, Nat.reduceAnd, Nat.reduceDiv, Nat.reduceMod, Nat.zero_ne_one, implies_true, false_implies, Nat.div_one, kvSorted_kvPut, List.length_modify, List.length_map, List.length_set, List.length_mapIdx]

theorem packetIn_view {k} (hk : k &&& 0 = k) (a0 s) : (packetIn a0 s).view k = s.view k := by
  refine view_le hk ?_
  unfold packetIn
  simp (disch := (intros; first | done | (simp only [discardPacket_view, ctlMessage_view, pldmMessage_view, clSubmit_view, view_upd, fixed_mk, fixed_eta, apply_ite (State.view _), ite_self, Nat.reduceAnd, Nat.reduceDiv, Nat.reduceMod, Nat.zero_ne_one, implies_true, false_implies, Nat.div_one, kvSorted_kvPut, List.length_modify, List.length_map, List.length_set, List.length_mapIdx]; done) | ((repeat' split) <;> simp only [discardPacket_view, ctlMessage_view, pldmMessage_view, clSubmit_view, view_upd, fixed_mk, fixed_eta, apply_ite (State.view _), ite_self, Nat.reduceAnd, Nat.reduceDiv, Nat.reduceMod, Nat.zero_ne_one, implies_true, false_implies, Nat.div_one, kvSorted_kvPut, List.length_modify, List.length_map, List.length_set, List.length_mapIdx]; done) | grind [view_upd, fixed_mk, fixed_eta, List.length_modify, discardPacket_view, ctlMessage_view, pldmMessage_view, clSubmit_view])) only [discardPacket_view, ctlMessage_view, pldmMessage_view, clSubmit_view, view_upd, fixed_mk, fixed_eta, apply_ite (State.view _), ite_self, Nat.reduceAnd, Nat.reduceDiv, Nat.reduceMod, Nat.zero_ne_one, implies_true, false_implies, Nat.div_one, kvSorted_kvPut, List.length_modify, List.length_map, List.length_set, List.length_mapIdx, answer_view, forEach_view, foldl_view]

theorem execSmbusBlockWrite_view {k} (hk : k &&& 0 = k) {a0 a1 s t} (h : execSmbusBlockWrite a0 a1 s = .next t) : t.view k =
    s.view k := by
  refine view_le hk ?_
  unfold execSmbusBlockWrite at h
  (repeat' split at h) <;> simp only [Host.Outcome.next.injEq, Except.ok.injEq, Option.some.injEq, reduceCtorEq] at h <;> subst h <;> simp only [refuseBus_view, setMgtFlag_view, drive_view, discardPacket_view, packetIn_view, view_upd, fixed_mk, fixed_eta, apply_ite (State.view _), ite_self, Nat.reduceAnd, Nat.reduceDiv, Nat.reduceMod, Nat.zero_ne_one, implies_true, false_implies, Nat.div_one, kvSorted_kvPut, List.length_modify, List.length_map, List.length_set, List.length_mapIdx]

theorem execSmbusBlockRead_view {k} (hk : k &&& 14680063 = k) {s t} (h : execSmbusBlockRead s = .next t) : t.view k = s.view
    k := by
  refine view_le hk ?_
  unfold execSmbusBlockRead at h
  (repeat' split at h) <;> simp only [Host.Outcome.next.injEq, Except.ok.injEq, Option.some.injEq, reduceCtorEq] at h <;> subst h <;> simp only [dropPacket_view, drive_view, view_upd, fixed_mk, fixed_eta, apply_ite (State.view _), ite_self, Nat.reduceAnd, Nat.reduceDiv, Nat.reduceMod, Nat.zero_ne_one, implies_true, false_implies, Nat.div_one, kvSorted_kvPut, List.length_modify, List.length_map, List.length_set, List.length_mapIdx]

theorem execSmbusAraRead_view {k} (hk : k &&& 14680063 = k) {s t} (h : execSmbusAraRead s = .next t) : t.view k = s.view k := by
  refine view_le hk ?_
  unfold execSmbusAraRead at h
  simp only [Host.Outcome.next.injEq, Except.ok.injEq, Option.some.injEq] at h
  subst h
  simp only [araRead_view, view_upd, fixed_mk, fixed_eta, apply_ite (State.view _), ite_self, Nat.reduceAnd, Nat.reduceDiv,
      Nat.reduceMod, Nat.zero_ne_one, implies_true, false_implies, Nat.div_one, kvSorted_kvPut, List.length_modify,
      List.length_map, List.length_set, List.length_mapIdx]

theorem execSmbusTimeout_view {k} (hk : k &&& 14680061 = k) {s t} (h : execSmbusTimeout s = .next t) : t.view k = s.view k := by
  refine view_le hk ?_
  unfold execSmbusTimeout at h
  (repeat' split at h) <;> simp only [Host.Outcome.next.injEq, Except.ok.injEq, Option.some.injEq, reduceCtorEq] at h <;> subst h <;> simp only [setMgtFlag_view, view_upd, fixed_mk, fixed_eta, apply_ite (State.view _), ite_self, Nat.reduceAnd, Nat.reduceDiv, Nat.reduceMod, Nat.zero_ne_one, implies_true, false_implies, Nat.div_one, kvSorted_kvPut, List.length_modify, List.length_map, List.length_set, List.length_mapIdx]

theorem execI3cPrivateRead_view {k} (hk : k &&& 14680063 = k) {s t} (h : execI3cPrivateRead s = .next t) : t.view k = s.view
    k := by
  refine view_le hk ?_
  unfold execI3cPrivateRead at h
  (repeat' split at h) <;> simp only [Host.Outcome.next.injEq, Except.ok.injEq, Option.some.injEq, reduceCtorEq] at h <;> subst h <;> simp only [dropPacket_view, drive_view, refuseBus_view, view_upd, fixed_mk, fixed_eta, apply_ite (State.view _), ite_self, Nat.reduceAnd, Nat.reduceDiv, Nat.reduceMod, Nat.zero_ne_one, implies_true, false_implies, Nat.div_one, kvSorted_kvPut, List.length_modify, List.length_map, List.length_set, List.length_mapIdx]

theorem execI3cPrivateWrite_view {k} (hk : k &&& 0 = k) {a0 s t} (h : execI3cPrivateWrite a0 s = .next t) : t.view k =
    s.view k := by
  refine view_le hk ?_
  unfold execI3cPrivateWrite at h
  (repeat' split at h) <;> simp only [Host.Outcome.next.injEq, Except.ok.injEq, Option.some.injEq, reduceCtorEq] at h <;> subst h <;> simp only [packetIn_view, drive_view, view_upd, fixed_mk, fixed_eta, apply_ite (State.view _), ite_self, Nat.reduceAnd, Nat.reduceDiv, Nat.reduceMod, Nat.zero_ne_one, implies_true, false_implies, Nat.div_one, kvSorted_kvPut, List.length_modify, List.length_map, List.length_set, List.length_mapIdx]

theorem execEntdaa_view {k} (hk : k &&& 14680063 = k) {a0 s t} (h : execEntdaa a0 s = .next t) : t.view k = s.view k := by
  refine view_le hk ?_
  unfold execEntdaa at h
  simp only [Host.Outcome.next.injEq, Except.ok.injEq, Option.some.injEq] at h
  subst h
  simp only [assignAddr_view, view_upd, fixed_mk, fixed_eta, apply_ite (State.view _), ite_self, Nat.reduceAnd,
      Nat.reduceDiv, Nat.reduceMod, Nat.zero_ne_one, implies_true, false_implies, Nat.div_one, kvSorted_kvPut,
      List.length_modify, List.length_map, List.length_set, List.length_mapIdx]

theorem execSetdasa_view {k} (hk : k &&& 14680063 = k) {a0 s t} (h : execSetdasa a0 s = .next t) : t.view k = s.view k := by
  refine view_le hk ?_
  unfold execSetdasa at h
  simp only [Host.Outcome.next.injEq, Except.ok.injEq, Option.some.injEq] at h
  subst h
  simp only [assignAddr_view, view_upd, fixed_mk, fixed_eta, apply_ite (State.view _), ite_self, Nat.reduceAnd,
      Nat.reduceDiv, Nat.reduceMod, Nat.zero_ne_one, implies_true, false_implies, Nat.div_one, kvSorted_kvPut,
      List.length_modify, List.length_map, List.length_set, List.length_mapIdx]

theorem execSetaasa_view {k} (hk : k &&& 14680063 = k) {s t} (h : execSetaasa s = .next t) : t.view k = s.view k := by
  refine view_le hk ?_
  unfold execSetaasa at h
  simp only [Host.Outcome.next.injEq, Except.ok.injEq, Option.some.injEq] at h
  subst h
  simp only [assignAddr_view, view_upd, fixed_mk, fixed_eta, apply_ite (State.view _), ite_self, Nat.reduceAnd,
      Nat.reduceDiv, Nat.reduceMod, Nat.zero_ne_one, implies_true, false_implies, Nat.div_one, kvSorted_kvPut,
      List.length_modify, List.length_map, List.length_set, List.length_mapIdx]

theorem execRstdaa_view {k} (hk : k &&& 14680063 = k) {s t} (h : execRstdaa s = .next t) : t.view k = s.view k := by
  refine view_le hk ?_
  unfold execRstdaa at h
  (repeat' split at h) <;> simp only [Host.Outcome.next.injEq, Except.ok.injEq, Option.some.injEq, reduceCtorEq] at h <;> subst h <;> simp only [alertPin_view, drive_view, view_upd, fixed_mk, fixed_eta, apply_ite (State.view _), ite_self, Nat.reduceAnd, Nat.reduceDiv, Nat.reduceMod, Nat.zero_ne_one, implies_true, false_implies, Nat.div_one, kvSorted_kvPut, List.length_modify, List.length_map, List.length_set, List.length_mapIdx]

theorem execEnec_view {k} (hk : k &&& 14680063 = k) {s t} (h : execEnec s = .next t) : t.view k = s.view k := by
  refine view_le hk ?_
  unfold execEnec at h
  (repeat' split at h) <;> simp only [Host.Outcome.next.injEq, Except.ok.injEq, Option.some.injEq, reduceCtorEq] at h <;> subst h <;> simp only [drive_view, view_upd, fixed_mk, fixed_eta, apply_ite (State.view _), ite_self, Nat.reduceAnd, Nat.reduceDiv, Nat.reduceMod, Nat.zero_ne_one, implies_true, false_implies, Nat.div_one, kvSorted_kvPut, List.length_modify, List.length_map, List.length_set, List.length_mapIdx]

theorem execDisec_view {k} (hk : k &&& 14680063 = k) {s t} (h : execDisec s = .next t) : t.view k = s.view k := by
  refine view_le hk ?_
  unfold execDisec at h
  (repeat' split at h) <;> simp only [Host.Outcome.next.injEq, Except.ok.injEq, Option.some.injEq, reduceCtorEq] at h <;> subst h <;> simp only [drive_view, view_upd, fixed_mk, fixed_eta, apply_ite (State.view _), ite_self, Nat.reduceAnd, Nat.reduceDiv, Nat.reduceMod, Nat.zero_ne_one, implies_true, false_implies, Nat.div_one, kvSorted_kvPut, List.length_modify, List.length_map, List.length_set, List.length_mapIdx]

theorem execGetpid_view {k} (hk : k &&& 14680063 = k) {s t} (h : execGetpid s = .next t) : t.view k = s.view k := by
  refine view_le hk ?_
  unfold execGetpid at h
  simp only [Host.Outcome.next.injEq, Except.ok.injEq, Option.some.injEq] at h
  subst h
  simp only [cccAnswer_view, view_upd, fixed_mk, fixed_eta, apply_ite (State.view _), ite_self, Nat.reduceAnd,
      Nat.reduceDiv, Nat.reduceMod, Nat.zero_ne_one, implies_true, false_implies, Nat.div_one, kvSorted_kvPut,
      List.length_modify, List.length_map, List.length_set, List.length_mapIdx]

theorem execGetbcr_view {k} (hk : k &&& 14680063 = k) {s t} (h : execGetbcr s = .next t) : t.view k = s.view k := by
  refine view_le hk ?_
  unfold execGetbcr at h
  simp only [Host.Outcome.next.injEq, Except.ok.injEq, Option.some.injEq] at h
  subst h
  simp only [cccAnswer_view, view_upd, fixed_mk, fixed_eta, apply_ite (State.view _), ite_self, Nat.reduceAnd,
      Nat.reduceDiv, Nat.reduceMod, Nat.zero_ne_one, implies_true, false_implies, Nat.div_one, kvSorted_kvPut,
      List.length_modify, List.length_map, List.length_set, List.length_mapIdx]

theorem execGetdcr_view {k} (hk : k &&& 14680063 = k) {s t} (h : execGetdcr s = .next t) : t.view k = s.view k := by
  refine view_le hk ?_
  unfold execGetdcr at h
  simp only [Host.Outcome.next.injEq, Except.ok.injEq, Option.some.injEq] at h
  subst h
  simp only [cccAnswer_view, view_upd, fixed_mk, fixed_eta, apply_ite (State.view _), ite_self, Nat.reduceAnd,
      Nat.reduceDiv, Nat.reduceMod, Nat.zero_ne_one, implies_true, false_implies, Nat.div_one, kvSorted_kvPut,
      List.length_modify, List.length_map, List.length_set, List.length_mapIdx]

theorem execGetstatus_view {k} (hk : k &&& 6291455 = k) {s t} (h : execGetstatus s = .next t) : t.view k = s.view k := by
  refine view_le hk ?_
  unfold execGetstatus at h
  (repeat' split at h) <;> simp only [Host.Outcome.next.injEq, Except.ok.injEq, Option.some.injEq, reduceCtorEq] at h <;> subst h <;> simp only [drive_view, State.takeFree_view, view_upd, fixed_mk, fixed_eta, apply_ite (State.view _), ite_self, Nat.reduceAnd, Nat.reduceDiv, Nat.reduceMod, Nat.zero_ne_one, implies_true, false_implies, Nat.div_one, kvSorted_kvPut, List.length_modify, List.length_map, List.length_set, List.length_mapIdx]

theorem execGetmwl_view {k} (hk : k &&& 14680063 = k) {s t} (h : execGetmwl s = .next t) : t.view k = s.view k := by
  refine view_le hk ?_
  unfold execGetmwl at h
  simp only [Host.Outcome.next.injEq, Except.ok.injEq, Option.some.injEq] at h
  subst h
  simp only [cccAnswer_view, view_upd, fixed_mk, fixed_eta, apply_ite (State.view _), ite_self, Nat.reduceAnd,
      Nat.reduceDiv, Nat.reduceMod, Nat.zero_ne_one, implies_true, false_implies, Nat.div_one, kvSorted_kvPut,
      List.length_modify, List.length_map, List.length_set, List.length_mapIdx]

theorem execSetmwl_view {k} (hk : k &&& 14680063 = k) {a0 s t} (h : execSetmwl a0 s = .next t) : t.view k = s.view k := by
  refine view_le hk ?_
  unfold execSetmwl at h
  simp only [Host.Outcome.next.injEq, Except.ok.injEq, Option.some.injEq] at h
  subst h
  simp only [setLength_view, view_upd, fixed_mk, fixed_eta, apply_ite (State.view _), ite_self, Nat.reduceAnd,
      Nat.reduceDiv, Nat.reduceMod, Nat.zero_ne_one, implies_true, false_implies, Nat.div_one, kvSorted_kvPut,
      List.length_modify, List.length_map, List.length_set, List.length_mapIdx]

theorem execGetmrl_view {k} (hk : k &&& 14680063 = k) {s t} (h : execGetmrl s = .next t) : t.view k = s.view k := by
  refine view_le hk ?_
  unfold execGetmrl at h
  simp only [Host.Outcome.next.injEq, Except.ok.injEq, Option.some.injEq] at h
  subst h
  simp only [cccAnswer_view, view_upd, fixed_mk, fixed_eta, apply_ite (State.view _), ite_self, Nat.reduceAnd,
      Nat.reduceDiv, Nat.reduceMod, Nat.zero_ne_one, implies_true, false_implies, Nat.div_one, kvSorted_kvPut,
      List.length_modify, List.length_map, List.length_set, List.length_mapIdx]

theorem execSetmrl_view {k} (hk : k &&& 14680063 = k) {a0 s t} (h : execSetmrl a0 s = .next t) : t.view k = s.view k := by
  refine view_le hk ?_
  unfold execSetmrl at h
  simp only [Host.Outcome.next.injEq, Except.ok.injEq, Option.some.injEq] at h
  subst h
  simp only [setLength_view, view_upd, fixed_mk, fixed_eta, apply_ite (State.view _), ite_self, Nat.reduceAnd,
      Nat.reduceDiv, Nat.reduceMod, Nat.zero_ne_one, implies_true, false_implies, Nat.div_one, kvSorted_kvPut,
      List.length_modify, List.length_map, List.length_set, List.length_mapIdx]

theorem execGetmxds_view {k} (hk : k &&& 14680063 = k) {s t} (h : execGetmxds s = .next t) : t.view k = s.view k := by
  refine view_le hk ?_
  unfold execGetmxds at h
  simp only [Host.Outcome.next.injEq, Except.ok.injEq, Option.some.injEq] at h
  subst h
  simp only [cccAnswer_view, view_upd, fixed_mk, fixed_eta, apply_ite (State.view _), ite_self, Nat.reduceAnd,
      Nat.reduceDiv, Nat.reduceMod, Nat.zero_ne_one, implies_true, false_implies, Nat.div_one, kvSorted_kvPut,
      List.length_modify, List.length_map, List.length_set, List.length_mapIdx]

theorem execIbiRetry_view {k} (hk : k &&& 13366268 = k) {s t} (h : execIbiRetry s = .next t) : t.view k = s.view k := by
  refine view_le hk ?_
  unfold execIbiRetry at h
  simp only [Host.Outcome.next.injEq, Except.ok.injEq, Option.some.injEq] at h
  subst h
  simp only [ibiRetry_view, view_upd, fixed_mk, fixed_eta, apply_ite (State.view _), ite_self, Nat.reduceAnd, Nat.reduceDiv,
      Nat.reduceMod, Nat.zero_ne_one, implies_true, false_implies, Nat.div_one, kvSorted_kvPut, List.length_modify,
      List.length_map, List.length_set, List.length_mapIdx]

theorem execInBandInterrupt_view {k} (hk : k &&& 14680063 = k) {a0 s t} (h : execInBandInterrupt a0 s = .next t) : t.view k
    = s.view k := by
  refine view_le hk ?_
  unfold execInBandInterrupt at h
  simp only [Host.Outcome.next.injEq, Except.ok.injEq, Option.some.injEq] at h
  subst h
  simp only [ibi_view, view_upd, fixed_mk, fixed_eta, apply_ite (State.view _), ite_self, Nat.reduceAnd, Nat.reduceDiv,
      Nat.reduceMod, Nat.zero_ne_one, implies_true, false_implies, Nat.div_one, kvSorted_kvPut, List.length_modify,
      List.length_map, List.length_set, List.length_mapIdx]

theorem execPacketFetchTimeout_view {k} (hk : k &&& 13366268 = k) {s t} (h : execPacketFetchTimeout s = .next t) : t.view k
    = s.view k := by
  refine view_le hk ?_
  unfold execPacketFetchTimeout at h
  (repeat' split at h) <;> simp only [Host.Outcome.next.injEq, Except.ok.injEq, Option.some.injEq, reduceCtorEq] at h <;> subst h <;> simp only [dropPacket_view, State.bump32_view, advanceTo_view, view_upd, fixed_mk, fixed_eta, apply_ite (State.view _), ite_self, Nat.reduceAnd, Nat.reduceDiv, Nat.reduceMod, Nat.zero_ne_one, implies_true, false_implies, Nat.div_one, kvSorted_kvPut, List.length_modify, List.length_map, List.length_set, List.length_mapIdx]

theorem execSetEndpointId_view {k} (hk : k &&& 14680061 = k) {a0 a1 a2 s t} (h : execSetEndpointId a0 a1 a2 s = .next t) :
    t.view k = s.view k := by
  refine view_le hk ?_
  unfold execSetEndpointId at h
  simp only [Host.Outcome.next.injEq, Except.ok.injEq, Option.some.injEq] at h
  subst h
  simp (disch := (intros; first | done | (simp only [ctlSetEid_view, view_upd, fixed_mk, fixed_eta, apply_ite (State.view _), ite_self, Nat.reduceAnd, Nat.reduceDiv, Nat.reduceMod, Nat.zero_ne_one, implies_true, false_implies, Nat.div_one, kvSorted_kvPut, List.length_modify, List.length_map, List.length_set, List.length_mapIdx]; done) | ((repeat' split) <;> simp only [ctlSetEid_view, view_upd, fixed_mk, fixed_eta, apply_ite (State.view _), ite_self, Nat.reduceAnd, Nat.reduceDiv, Nat.reduceMod, Nat.zero_ne_one, implies_true, false_implies, Nat.div_one, kvSorted_kvPut, List.length_modify, List.length_map, List.length_set, List.length_mapIdx]; done) | grind [view_upd, fixed_mk, fixed_eta, List.length_modify, ctlSetEid_view])) only [ctlSetEid_view, view_upd, fixed_mk, fixed_eta, apply_ite (State.view _), ite_self, Nat.reduceAnd, Nat.reduceDiv, Nat.reduceMod, Nat.zero_ne_one, implies_true, false_implies, Nat.div_one, kvSorted_kvPut, List.length_modify, List.length_map, List.length_set, List.length_mapIdx, answer_view, forEach_view, foldl_view]

theorem execGetEndpointId_view {k} (hk : k &&& 14680061 = k) {a0 s t} (h : execGetEndpointId a0 s = .next t) : t.view k =
    s.view k := by
  refine view_le hk ?_
  unfold execGetEndpointId at h
  simp only [Host.Outcome.next.injEq, Except.ok.injEq, Option.some.injEq] at h
  subst h
  simp (disch := (intros; first | done | (simp only [ctlGetEid_view, view_upd, fixed_mk, fixed_eta, apply_ite (State.view _), ite_self, Nat.reduceAnd, Nat.reduceDiv, Nat.reduceMod, Nat.zero_ne_one, implies_true, false_implies, Nat.div_one, kvSorted_kvPut, List.length_modify, List.length_map, List.length_set, List.length_mapIdx]; done) | ((repeat' split) <;> simp only [ctlGetEid_view, view_upd, fixed_mk, fixed_eta, apply_ite (State.view _), ite_self, Nat.reduceAnd, Nat.reduceDiv, Nat.reduceMod, Nat.zero_ne_one, implies_true, false_implies, Nat.div_one, kvSorted_kvPut, List.length_modify, List.length_map, List.length_set, List.length_mapIdx]; done) | grind [view_upd, fixed_mk, fixed_eta, List.length_modify, ctlGetEid_view])) only [ctlGetEid_view, view_upd, fixed_mk, fixed_eta, apply_ite (State.view _), ite_self, Nat.reduceAnd, Nat.reduceDiv, Nat.reduceMod, Nat.zero_ne_one, implies_true, false_implies, Nat.div_one, kvSorted_kvPut, List.length_modify, List.length_map, List.length_set, List.length_mapIdx, answer_view, forEach_view, foldl_view]

theorem execGetEndpointUuid_view {k} (hk : k &&& 14680061 = k) {a0 s t} (h : execGetEndpointUuid a0 s = .next t) : t.view k
    = s.view k := by
  refine view_le hk ?_
  unfold execGetEndpointUuid at h
  simp only [Host.Outcome.next.injEq, Except.ok.injEq, Option.some.injEq] at h
  subst h
  simp (disch := (intros; first | done | (simp only [ctlGetUuid_view, view_upd, fixed_mk, fixed_eta, apply_ite (State.view _), ite_self, Nat.reduceAnd, Nat.reduceDiv, Nat.reduceMod, Nat.zero_ne_one, implies_true, false_implies, Nat.div_one, kvSorted_kvPut, List.length_modify, List.length_map, List.length_set, List.length_mapIdx]; done) | ((repeat' split) <;> simp only [ctlGetUuid_view, view_upd, fixed_mk, fixed_eta, apply_ite (State.view _), ite_self, Nat.reduceAnd, Nat.reduceDiv, Nat.reduceMod, Nat.zero_ne_one, implies_true, false_implies, Nat.div_one, kvSorted_kvPut, List.length_modify, List.length_map, List.length_set, List.length_mapIdx]; done) | grind [view_upd, fixed_mk, fixed_eta, List.length_modify, ctlGetUuid_view])) only [ctlGetUuid_view, view_upd, fixed_mk, fixed_eta, apply_ite (State.view _), ite_self, Nat.reduceAnd, Nat.reduceDiv, Nat.reduceMod, Nat.zero_ne_one, implies_true, false_implies, Nat.div_one, kvSorted_kvPut, List.length_modify, List.length_map, List.length_set, List.length_mapIdx, answer_view, forEach_view, foldl_view]

theorem execGetMctpVersionSupport_view {k} (hk : k &&& 14680061 = k) {a0 a1 s t} (h : execGetMctpVersionSupport a0 a1 s =
    .next t) : t.view k = s.view k := by
  refine view_le hk ?_
  unfold execGetMctpVersionSupport at h
  simp only [Host.Outcome.next.injEq, Except.ok.injEq, Option.some.injEq] at h
  subst h
  simp (disch := (intros; first | done | (simp only [ctlGetVersion_view, view_upd, fixed_mk, fixed_eta, apply_ite (State.view _), ite_self, Nat.reduceAnd, Nat.reduceDiv, Nat.reduceMod, Nat.zero_ne_one, implies_true, false_implies, Nat.div_one, kvSorted_kvPut, List.length_modify, List.length_map, List.length_set, List.length_mapIdx]; done) | ((repeat' split) <;> simp only [ctlGetVersion_view, view_upd, fixed_mk, fixed_eta, apply_ite (State.view _), ite_self, Nat.reduceAnd, Nat.reduceDiv, Nat.reduceMod, Nat.zero_ne_one, implies_true, false_implies, Nat.div_one, kvSorted_kvPut, List.length_modify, List.length_map, List.length_set, List.length_mapIdx]; done) | grind [view_upd, fixed_mk, fixed_eta, List.length_modify, ctlGetVersion_view])) only [ctlGetVersion_view, view_upd, fixed_mk, fixed_eta, apply_ite (State.view _), ite_self, Nat.reduceAnd, Nat.reduceDiv, Nat.reduceMod, Nat.zero_ne_one, implies_true, false_implies, Nat.div_one, kvSorted_kvPut, List.length_modify, List.length_map, List.length_set, List.length_mapIdx, answer_view, forEach_view, foldl_view]

theorem execGetMessageTypeSupport_view {k} (hk : k &&& 14680061 = k) {a0 s t} (h : execGetMessageTypeSupport a0 s = .next t)
    : t.view k = s.view k := by
  refine view_le hk ?_
  unfold execGetMessageTypeSupport at h
  simp only [Host.Outcome.next.injEq, Except.ok.injEq, Option.some.injEq] at h
  subst h
  simp (disch := (intros; first | done | (simp only [ctlGetTypes_view, view_upd, fixed_mk, fixed_eta, apply_ite (State.view _), ite_self, Nat.reduceAnd, Nat.reduceDiv, Nat.reduceMod, Nat.zero_ne_one, implies_true, false_implies, Nat.div_one, kvSorted_kvPut, List.length_modify, List.length_map, List.length_set, List.length_mapIdx]; done) | ((repeat' split) <;> simp only [ctlGetTypes_view, view_upd, fixed_mk, fixed_eta, apply_ite (State.view _), ite_self, Nat.reduceAnd, Nat.reduceDiv, Nat.reduceMod, Nat.zero_ne_one, implies_true, false_implies, Nat.div_one, kvSorted_kvPut, List.length_modify, List.length_map, List.length_set, List.length_mapIdx]; done) | grind [view_upd, fixed_mk, fixed_eta, List.length_modify, ctlGetTypes_view])) only [ctlGetTypes_view, view_upd, fixed_mk, fixed_eta, apply_ite (State.view _), ite_self, Nat.reduceAnd, Nat.reduceDiv, Nat.reduceMod, Nat.zero_ne_one, implies_true, false_implies, Nat.div_one, kvSorted_kvPut, List.length_modify, List.length_map, List.length_set, List.length_mapIdx, answer_view, forEach_view, foldl_view]

theorem execGetVendorMessageSupport_view {k} (hk : k &&& 14680061 = k) {a0 a1 s t} (h : execGetVendorMessageSupport a0 a1 s
    = .next t) : t.view k = s.view k := by
  refine view_le hk ?_
  unfold execGetVendorMessageSupport at h
  simp only [Host.Outcome.next.injEq, Except.ok.injEq, Option.some.injEq] at h
  subst h
  simp (disch := (intros; first | done | (simp only [ctlGetVendor_view, view_upd, fixed_mk, fixed_eta, apply_ite (State.view _), ite_self, Nat.reduceAnd, Nat.reduceDiv, Nat.reduceMod, Nat.zero_ne_one, implies_true, false_implies, Nat.div_one, kvSorted_kvPut, List.length_modify, List.length_map, List.length_set, List.length_mapIdx]; done) | ((repeat' split) <;> simp only [ctlGetVendor_view, view_upd, fixed_mk, fixed_eta, apply_ite (State.view _), ite_self, Nat.reduceAnd, Nat.reduceDiv, Nat.reduceMod, Nat.zero_ne_one, implies_true, false_implies, Nat.div_one, kvSorted_kvPut, List.length_modify, List.length_map, List.length_set, List.length_mapIdx]; done) | grind [view_upd, fixed_mk, fixed_eta, List.length_modify, ctlGetVendor_view])) only [ctlGetVendor_view, view_upd, fixed_mk, fixed_eta, apply_ite (State.view _), ite_self, Nat.reduceAnd, Nat.reduceDiv, Nat.reduceMod, Nat.zero_ne_one, implies_true, false_implies, Nat.div_one, kvSorted_kvPut, List.length_modify, List.length_map, List.length_set, List.length_mapIdx, answer_view, forEach_view, foldl_view]

theorem execSettid_view {k} (hk : k &&& 14680061 = k) {a0 a1 s t} (h : execSettid a0 a1 s = .next t) : t.view k = s.view k := by
  refine view_le hk ?_
  unfold execSettid at h
  simp only [Host.Outcome.next.injEq, Except.ok.injEq, Option.some.injEq] at h
  subst h
  simp (disch := (intros; first | done | (simp only [pldmSetTid_view, view_upd, fixed_mk, fixed_eta, apply_ite (State.view _), ite_self, Nat.reduceAnd, Nat.reduceDiv, Nat.reduceMod, Nat.zero_ne_one, implies_true, false_implies, Nat.div_one, kvSorted_kvPut, List.length_modify, List.length_map, List.length_set, List.length_mapIdx]; done) | ((repeat' split) <;> simp only [pldmSetTid_view, view_upd, fixed_mk, fixed_eta, apply_ite (State.view _), ite_self, Nat.reduceAnd, Nat.reduceDiv, Nat.reduceMod, Nat.zero_ne_one, implies_true, false_implies, Nat.div_one, kvSorted_kvPut, List.length_modify, List.length_map, List.length_set, List.length_mapIdx]; done) | grind [view_upd, fixed_mk, fixed_eta, List.length_modify, pldmSetTid_view])) only [pldmSetTid_view, view_upd, fixed_mk, fixed_eta, apply_ite (State.view _), ite_self, Nat.reduceAnd, Nat.reduceDiv, Nat.reduceMod, Nat.zero_ne_one, implies_true, false_implies, Nat.div_one, kvSorted_kvPut, List.length_modify, List.length_map, List.length_set, List.length_mapIdx, answer_view, forEach_view, foldl_view]

theorem execGettid_view {k} (hk : k &&& 14680061 = k) {a0 s t} (h : execGettid a0 s = .next t) : t.view k = s.view k := by
  refine view_le hk ?_
  unfold execGettid at h
  simp only [Host.Outcome.next.injEq, Except.ok.injEq, Option.some.injEq] at h
  subst h
  simp (disch := (intros; first | done | (simp only [pldmGetTid_view, view_upd, fixed_mk, fixed_eta, apply_ite (State.view _), ite_self, Nat.reduceAnd, Nat.reduceDiv, Nat.reduceMod, Nat.zero_ne_one, implies_true, false_implies, Nat.div_one, kvSorted_kvPut, List.length_modify, List.length_map, List.length_set, List.length_mapIdx]; done) | ((repeat' split) <;> simp only [pldmGetTid_view, view_upd, fixed_mk, fixed_eta, apply_ite (State.view _), ite_self, Nat.reduceAnd, Nat.reduceDiv, Nat.reduceMod, Nat.zero_ne_one, implies_true, false_implies, Nat.div_one, kvSorted_kvPut, List.length_modify, List.length_map, List.length_set, List.length_mapIdx]; done) | grind [view_upd, fixed_mk, fixed_eta, List.length_modify, pldmGetTid_view])) only [pldmGetTid_view, view_upd, fixed_mk, fixed_eta, apply_ite (State.view _), ite_self, Nat.reduceAnd, Nat.reduceDiv, Nat.reduceMod, Nat.zero_ne_one, implies_true, false_implies, Nat.div_one, kvSorted_kvPut, List.length_modify, List.length_map, List.length_set, List.length_mapIdx, answer_view, forEach_view, foldl_view]

theorem execGetpldmversion_view {k} (hk : k &&& 14680061 = k) {a0 a1 s t} (h : execGetpldmversion a0 a1 s = .next t) :
    t.view k = s.view k := by
  refine view_le hk ?_
  unfold execGetpldmversion at h
  simp only [Host.Outcome.next.injEq, Except.ok.injEq, Option.some.injEq] at h
  subst h
  simp (disch := (intros; first | done | (simp only [pldmVersion_view, view_upd, fixed_mk, fixed_eta, apply_ite (State.view _), ite_self, Nat.reduceAnd, Nat.reduceDiv, Nat.reduceMod, Nat.zero_ne_one, implies_true, false_implies, Nat.div_one, kvSorted_kvPut, List.length_modify, List.length_map, List.length_set, List.length_mapIdx]; done) | ((repeat' split) <;> simp only [pldmVersion_view, view_upd, fixed_mk, fixed_eta, apply_ite (State.view _), ite_self, Nat.reduceAnd, Nat.reduceDiv, Nat.reduceMod, Nat.zero_ne_one, implies_true, false_implies, Nat.div_one, kvSorted_kvPut, List.length_modify, List.length_map, List.length_set, List.length_mapIdx]; done) | grind [view_upd, fixed_mk, fixed_eta, List.length_modify, pldmVersion_view])) only [pldmVersion_view, view_upd, fixed_mk, fixed_eta, apply_ite (State.view _), ite_self, Nat.reduceAnd, Nat.reduceDiv, Nat.reduceMod, Nat.zero_ne_one, implies_true, false_implies, Nat.div_one, kvSorted_kvPut, List.length_modify, List.length_map, List.length_set, List.length_mapIdx, answer_view, forEach_view, foldl_view]

theorem execGetpldmtypes_view {k} (hk : k &&& 14680061 = k) {a0 s t} (h : execGetpldmtypes a0 s = .next t) : t.view k =
    s.view k := by
  refine view_le hk ?_
  unfold execGetpldmtypes at h
  simp only [Host.Outcome.next.injEq, Except.ok.injEq, Option.some.injEq] at h
  subst h
  simp (disch := (intros; first | done | (simp only [pldmTypes_view, view_upd, fixed_mk, fixed_eta, apply_ite (State.view _), ite_self, Nat.reduceAnd, Nat.reduceDiv, Nat.reduceMod, Nat.zero_ne_one, implies_true, false_implies, Nat.div_one, kvSorted_kvPut, List.length_modify, List.length_map, List.length_set, List.length_mapIdx]; done) | ((repeat' split) <;> simp only [pldmTypes_view, view_upd, fixed_mk, fixed_eta, apply_ite (State.view _), ite_self, Nat.reduceAnd, Nat.reduceDiv, Nat.reduceMod, Nat.zero_ne_one, implies_true, false_implies, Nat.div_one, kvSorted_kvPut, List.length_modify, List.length_map, List.length_set, List.length_mapIdx]; done) | grind [view_upd, fixed_mk, fixed_eta, List.length_modify, pldmTypes_view])) only [pldmTypes_view, view_upd, fixed_mk, fixed_eta, apply_ite (State.view _), ite_self, Nat.reduceAnd, Nat.reduceDiv, Nat.reduceMod, Nat.zero_ne_one, implies_true, false_implies, Nat.div_one, kvSorted_kvPut, List.length_modify, List.length_map, List.length_set, List.length_mapIdx, answer_view, forEach_view, foldl_view]

theorem execGetpldmcommands_view {k} (hk : k &&& 14680061 = k) {a0 a1 s t} (h : execGetpldmcommands a0 a1 s = .next t) :
    t.view k = s.view k := by
  refine view_le hk ?_
  unfold execGetpldmcommands at h
  simp only [Host.Outcome.next.injEq, Except.ok.injEq, Option.some.injEq] at h
  subst h
  simp (disch := (intros; first | done | (simp only [pldmCommands_view, view_upd, fixed_mk, fixed_eta, apply_ite (State.view _), ite_self, Nat.reduceAnd, Nat.reduceDiv, Nat.reduceMod, Nat.zero_ne_one, implies_true, false_implies, Nat.div_one, kvSorted_kvPut, List.length_modify, List.length_map, List.length_set, List.length_mapIdx]; done) | ((repeat' split) <;> simp only [pldmCommands_view, view_upd, fixed_mk, fixed_eta, apply_ite (State.view _), ite_self, Nat.reduceAnd, Nat.reduceDiv, Nat.reduceMod, Nat.zero_ne_one, implies_true, false_implies, Nat.div_one, kvSorted_kvPut, List.length_modify, List.length_map, List.length_set, List.length_mapIdx]; done) | grind [view_upd, fixed_mk, fixed_eta, List.length_modify, pldmCommands_view])) only [pldmCommands_view, view_upd, fixed_mk, fixed_eta, apply_ite (State.view _), ite_self, Nat.reduceAnd, Nat.reduceDiv, Nat.reduceMod, Nat.zero_ne_one, implies_true, false_implies, Nat.div_one, kvSorted_kvPut, List.length_modify, List.length_map, List.length_set, List.length_mapIdx, answer_view, forEach_view, foldl_view]

theorem execGetsensorreading_view {k} (hk : k &&& 6291453 = k) {a0 a1 s t} (h : execGetsensorreading a0 a1 s = .next t) :
    t.view k = s.view k := by
  refine view_le hk ?_
  unfold execGetsensorreading at h
  simp only [Host.Outcome.next.injEq, Except.ok.injEq, Option.some.injEq] at h
  subst h
  simp (disch := (intros; first | done | (simp only [pldmReading_view, view_upd, fixed_mk, fixed_eta, apply_ite (State.view _), ite_self, Nat.reduceAnd, Nat.reduceDiv, Nat.reduceMod, Nat.zero_ne_one, implies_true, false_implies, Nat.div_one, kvSorted_kvPut, List.length_modify, List.length_map, List.length_set, List.length_mapIdx]; done) | ((repeat' split) <;> simp only [pldmReading_view, view_upd, fixed_mk, fixed_eta, apply_ite (State.view _), ite_self, Nat.reduceAnd, Nat.reduceDiv, Nat.reduceMod, Nat.zero_ne_one, implies_true, false_implies, Nat.div_one, kvSorted_kvPut, List.length_modify, List.length_map, List.length_set, List.length_mapIdx]; done) | grind [view_upd, fixed_mk, fixed_eta, List.length_modify, pldmReading_view])) only [pldmReading_view, view_upd, fixed_mk, fixed_eta, apply_ite (State.view _), ite_self, Nat.reduceAnd, Nat.reduceDiv, Nat.reduceMod, Nat.zero_ne_one, implies_true, false_implies, Nat.div_one, kvSorted_kvPut, List.length_modify, List.length_map, List.length_set, List.length_mapIdx, answer_view, forEach_view, foldl_view]

theorem execGetpdrrepositoryinfo_view {k} (hk : k &&& 14680061 = k) {a0 s t} (h : execGetpdrrepositoryinfo a0 s = .next t) :
    t.view k = s.view k := by
  refine view_le hk ?_
  unfold execGetpdrrepositoryinfo at h
  simp only [Host.Outcome.next.injEq, Except.ok.injEq, Option.some.injEq] at h
  subst h
  simp (disch := (intros; first | done | (simp only [pldmRepository_view, view_upd, fixed_mk, fixed_eta, apply_ite (State.view _), ite_self, Nat.reduceAnd, Nat.reduceDiv, Nat.reduceMod, Nat.zero_ne_one, implies_true, false_implies, Nat.div_one, kvSorted_kvPut, List.length_modify, List.length_map, List.length_set, List.length_mapIdx]; done) | ((repeat' split) <;> simp only [pldmRepository_view, view_upd, fixed_mk, fixed_eta, apply_ite (State.view _), ite_self, Nat.reduceAnd, Nat.reduceDiv, Nat.reduceMod, Nat.zero_ne_one, implies_true, false_implies, Nat.div_one, kvSorted_kvPut, List.length_modify, List.length_map, List.length_set, List.length_mapIdx]; done) | grind [view_upd, fixed_mk, fixed_eta, List.length_modify, pldmRepository_view])) only [pldmRepository_view, view_upd, fixed_mk, fixed_eta, apply_ite (State.view _), ite_self, Nat.reduceAnd, Nat.reduceDiv, Nat.reduceMod, Nat.zero_ne_one, implies_true, false_implies, Nat.div_one, kvSorted_kvPut, List.length_modify, List.length_map, List.length_set, List.length_mapIdx, answer_view, forEach_view, foldl_view]

theorem execGetpdr_view {k} (hk : k &&& 14680061 = k) {a0 a1 s t} (h : execGetpdr a0 a1 s = .next t) : t.view k = s.view k := by
  refine view_le hk ?_
  unfold execGetpdr at h
  simp only [Host.Outcome.next.injEq, Except.ok.injEq, Option.some.injEq] at h
  subst h
  simp (disch := (intros; first | done | (simp only [pldmPdr_view, view_upd, fixed_mk, fixed_eta, apply_ite (State.view _), ite_self, Nat.reduceAnd, Nat.reduceDiv, Nat.reduceMod, Nat.zero_ne_one, implies_true, false_implies, Nat.div_one, kvSorted_kvPut, List.length_modify, List.length_map, List.length_set, List.length_mapIdx]; done) | ((repeat' split) <;> simp only [pldmPdr_view, view_upd, fixed_mk, fixed_eta, apply_ite (State.view _), ite_self, Nat.reduceAnd, Nat.reduceDiv, Nat.reduceMod, Nat.zero_ne_one, implies_true, false_implies, Nat.div_one, kvSorted_kvPut, List.length_modify, List.length_map, List.length_set, List.length_mapIdx]; done) | grind [view_upd, fixed_mk, fixed_eta, List.length_modify, pldmPdr_view])) only [pldmPdr_view, view_upd, fixed_mk, fixed_eta, apply_ite (State.view _), ite_self, Nat.reduceAnd, Nat.reduceDiv, Nat.reduceMod, Nat.zero_ne_one, implies_true, false_implies, Nat.div_one, kvSorted_kvPut, List.length_modify, List.length_map, List.length_set, List.length_mapIdx, answer_view, forEach_view, foldl_view]

theorem execPmbusPoll_view {k} (hk : k &&& 0 = k) {a0 s t} (h : execPmbusPoll a0 s = .next t) : t.view k = s.view k := by
  refine view_le hk ?_
  unfold execPmbusPoll at h
  (repeat' split at h) <;> simp only [Host.Outcome.next.injEq, Except.ok.injEq, Option.some.injEq, reduceCtorEq] at h <;> subst h <;> simp only [pollAll_view, clRegulators_view, view_upd, fixed_mk, fixed_eta, apply_ite (State.view _), ite_self, Nat.reduceAnd, Nat.reduceDiv, Nat.reduceMod, Nat.zero_ne_one, implies_true, false_implies, Nat.div_one, kvSorted_kvPut, List.length_modify, List.length_map, List.length_set, List.length_mapIdx]

theorem execPmbAlert_view {k} (hk : k &&& 14680061 = k) {a0 a1 s t} (h : execPmbAlert a0 a1 s = .next t) : t.view k = s.view
    k := by
  refine view_le hk ?_
  unfold execPmbAlert at h
  simp only [Host.Outcome.next.injEq, Except.ok.injEq, Option.some.injEq] at h
  subst h
  simp only [serveAlert_view, view_upd, fixed_mk, fixed_eta, apply_ite (State.view _), ite_self, Nat.reduceAnd,
      Nat.reduceDiv, Nat.reduceMod, Nat.zero_ne_one, implies_true, false_implies, Nat.div_one, kvSorted_kvPut,
      List.length_modify, List.length_map, List.length_set, List.length_mapIdx]

theorem pmbWrite_view {k} (hk : k &&& 0 = k) (a0 a1 a2 a3 a4 s) : (pmbWrite a0 a1 a2 a3 a4 s).view k = s.view k := by
  refine view_le hk ?_
  unfold pmbWrite
  simp only [clWhole_view, clRegulator_view, view_upd, fixed_mk, fixed_eta, apply_ite (State.view _), ite_self,
      Nat.reduceAnd, Nat.reduceDiv, Nat.reduceMod, Nat.zero_ne_one, implies_true, false_implies, Nat.div_one, kvSorted_kvPut,
      List.length_modify, List.length_map, List.length_set, List.length_mapIdx]

theorem execPmbusOperation_view {k} (hk : k &&& 0 = k) {a0 a1 a2 a3 s t} (h : execPmbusOperation a0 a1 a2 a3 s = .next t) :
    t.view k = s.view k := by
  refine view_le hk ?_
  unfold execPmbusOperation at h
  simp only [Host.Outcome.next.injEq, Except.ok.injEq, Option.some.injEq] at h
  subst h
  simp only [pmbWrite_view, view_upd, fixed_mk, fixed_eta, apply_ite (State.view _), ite_self, Nat.reduceAnd, Nat.reduceDiv,
      Nat.reduceMod, Nat.zero_ne_one, implies_true, false_implies, Nat.div_one, kvSorted_kvPut, List.length_modify,
      List.length_map, List.length_set, List.length_mapIdx]

theorem execPmbusClearFaults_view {k} (hk : k &&& 0 = k) {a0 a1 a2 a3 s t} (h : execPmbusClearFaults a0 a1 a2 a3 s = .next
    t) : t.view k = s.view k := by
  refine view_le hk ?_
  unfold execPmbusClearFaults at h
  simp only [Host.Outcome.next.injEq, Except.ok.injEq, Option.some.injEq] at h
  subst h
  simp only [pmbWrite_view, view_upd, fixed_mk, fixed_eta, apply_ite (State.view _), ite_self, Nat.reduceAnd, Nat.reduceDiv,
      Nat.reduceMod, Nat.zero_ne_one, implies_true, false_implies, Nat.div_one, kvSorted_kvPut, List.length_modify,
      List.length_map, List.length_set, List.length_mapIdx]

theorem execPmbusVoutCommand_view {k} (hk : k &&& 0 = k) {a0 a1 a2 a3 s t} (h : execPmbusVoutCommand a0 a1 a2 a3 s = .next
    t) : t.view k = s.view k := by
  refine view_le hk ?_
  unfold execPmbusVoutCommand at h
  simp only [Host.Outcome.next.injEq, Except.ok.injEq, Option.some.injEq] at h
  subst h
  simp only [pmbWrite_view, view_upd, fixed_mk, fixed_eta, apply_ite (State.view _), ite_self, Nat.reduceAnd, Nat.reduceDiv,
      Nat.reduceMod, Nat.zero_ne_one, implies_true, false_implies, Nat.div_one, kvSorted_kvPut, List.length_modify,
      List.length_map, List.length_set, List.length_mapIdx]

theorem execPmbusAddressWrite_view {k} (hk : k &&& 0 = k) {a0 a1 a2 a3 a4 s t} (h : execPmbusAddressWrite a0 a1 a2 a3 a4 s =
    .next t) : t.view k = s.view k := by
  refine view_le hk ?_
  unfold execPmbusAddressWrite at h
  grind [view_upd, fixed_mk, fixed_eta, List.length_modify, clWhole_view, takeMode_view, pmbCount_view]

end Sys2Proof.Machine
end

