-- ==== Sys2Proof/Laws/ViewRows.lean ====
section
/-! SUPPORT. The frames of the functions of the remaining rows: one lemma per function says which units of the state
it keeps (a mask of `State.view`), cited by the lemmas of its callers. -/

namespace Sys2Proof.Machine

open Sys2Proof

set_option linter.all false

theorem execScribeRecord_view {k} (hk : k &&& 15466492 = k) {a0 a1 a2 a3 s t} (h : execScribeRecord a0 a1 a2 a3 s = .next t)
    : t.view k = s.view k := by
  refine view_le hk ?_
  unfold execScribeRecord at h
  simp only [Host.Outcome.next.injEq, Except.ok.injEq, Option.some.injEq] at h
  subst h
  simp only [scribePut_view, view_upd, fixed_mk, fixed_eta, apply_ite (State.view _), ite_self, Nat.reduceAnd,
      Nat.reduceDiv, Nat.reduceMod, Nat.zero_ne_one, implies_true, false_implies, Nat.div_one, kvSorted_kvPut,
      List.length_modify, List.length_map, List.length_set, List.length_mapIdx]

theorem execScribeTimeMark_view {k} (hk : k &&& 15463420 = k) {s t} (h : execScribeTimeMark s = .next t) : t.view k = s.view
    k := by
  refine view_le hk ?_
  unfold execScribeTimeMark at h
  simp only [Host.Outcome.next.injEq, Except.ok.injEq, Option.some.injEq] at h
  subst h
  simp only [scribeTimeMark_view, view_upd, fixed_mk, fixed_eta, apply_ite (State.view _), ite_self, Nat.reduceAnd,
      Nat.reduceDiv, Nat.reduceMod, Nat.zero_ne_one, implies_true, false_implies, Nat.div_one, kvSorted_kvPut,
      List.length_modify, List.length_map, List.length_set, List.length_mapIdx]

theorem execMapDumpCopy_view {k} (hk : k &&& 15728639 = k) {s t} (h : execMapDumpCopy s = .next t) : t.view k = s.view k := by
  refine view_le hk ?_
  unfold execMapDumpCopy at h
  simp only [Host.Outcome.next.injEq, Except.ok.injEq, Option.some.injEq] at h
  subst h
  simp only [dumpCopy_view, view_upd, fixed_mk, fixed_eta, apply_ite (State.view _), ite_self, Nat.reduceAnd, Nat.reduceDiv,
      Nat.reduceMod, Nat.zero_ne_one, implies_true, false_implies, Nat.div_one, kvSorted_kvPut, List.length_modify,
      List.length_map, List.length_set, List.length_mapIdx]

theorem execMapDump_view {k} (hk : k &&& 15466492 = k) {s t} (h : execMapDump s = .next t) : t.view k = s.view k := by
  refine view_le hk ?_
  unfold execMapDump at h
  simp only [Host.Outcome.next.injEq, Except.ok.injEq, Option.some.injEq] at h
  subst h
  simp only [dumpDone_view, view_upd, fixed_mk, fixed_eta, apply_ite (State.view _), ite_self, Nat.reduceAnd, Nat.reduceDiv,
      Nat.reduceMod, Nat.zero_ne_one, implies_true, false_implies, Nat.div_one, kvSorted_kvPut, List.length_modify,
      List.length_map, List.length_set, List.length_mapIdx]

theorem execGraphDone_view {k} (hk : k &&& 7077884 = k) {s t} (h : execGraphDone s = .next t) : t.view k = s.view k := by
  refine view_le hk ?_
  unfold execGraphDone at h
  simp only [Host.Outcome.next.injEq, Except.ok.injEq, Option.some.injEq] at h
  subst h
  simp only [graphDone_view, view_upd, fixed_mk, fixed_eta, apply_ite (State.view _), ite_self, Nat.reduceAnd,
      Nat.reduceDiv, Nat.reduceMod, Nat.zero_ne_one, implies_true, false_implies, Nat.div_one, kvSorted_kvPut,
      List.length_modify, List.length_map, List.length_set, List.length_mapIdx]

theorem execStopInAssert_view {k} (hk : k &&& 7068268 = k) {a0 a1 a2 a3 s t} (h : execStopInAssert a0 a1 a2 a3 s = .next t)
    : t.view k = s.view k := by
  refine view_le hk ?_
  unfold execStopInAssert at h
  (repeat' split at h) <;> simp only [Host.Outcome.next.injEq, Except.ok.injEq, Option.some.injEq, reduceCtorEq] at h <;> subst h <;> simp only [stopDeliver_view, view_upd, fixed_mk, fixed_eta, apply_ite (State.view _), ite_self, Nat.reduceAnd, Nat.reduceDiv, Nat.reduceMod, Nat.zero_ne_one, implies_true, false_implies, Nat.div_one, kvSorted_kvPut, List.length_modify, List.length_map, List.length_set, List.length_mapIdx]

theorem execStopEnter_view {k} (hk : k &&& 15466492 = k) {s t} (h : execStopEnter s = .next t) : t.view k = s.view k := by
  refine view_le hk ?_
  unfold execStopEnter at h
  simp only [Host.Outcome.next.injEq, Except.ok.injEq, Option.some.injEq] at h
  subst h
  simp only [stopEnter_view, view_upd, fixed_mk, fixed_eta, apply_ite (State.view _), ite_self, Nat.reduceAnd,
      Nat.reduceDiv, Nat.reduceMod, Nat.zero_ne_one, implies_true, false_implies, Nat.div_one, kvSorted_kvPut,
      List.length_modify, List.length_map, List.length_set, List.length_mapIdx]

theorem execTrigReqClear_view {k} (hk : k &&& 15463420 = k) {s t} (h : execTrigReqClear s = .next t) : t.view k = s.view k := by
  refine view_le hk ?_
  unfold execTrigReqClear at h
  simp only [Host.Outcome.next.injEq, Except.ok.injEq, Option.some.injEq] at h
  subst h
  simp only [trigReqClear_view, view_upd, fixed_mk, fixed_eta, apply_ite (State.view _), ite_self, Nat.reduceAnd,
      Nat.reduceDiv, Nat.reduceMod, Nat.zero_ne_one, implies_true, false_implies, Nat.div_one, kvSorted_kvPut,
      List.length_modify, List.length_map, List.length_set, List.length_mapIdx]

theorem chainLater_view {k} (hk : k &&& 16777203 = k) (a0 s) : (chainLater a0 s).view k = s.view k := by
  refine view_le hk ?_
  unfold chainLater
  simp only [view_upd, fixed_mk, fixed_eta, apply_ite (State.view _), ite_self, Nat.reduceAnd, Nat.reduceDiv, Nat.reduceMod,
      Nat.zero_ne_one, implies_true, false_implies, Nat.div_one, kvSorted_kvPut, List.length_modify, List.length_map,
      List.length_set, List.length_mapIdx]

theorem unitsLater_view {k} (hk : k &&& 16730111 = k) (a0 s) : (unitsLater a0 s).view k = s.view k := by
  refine view_le hk ?_
  unfold unitsLater
  simp only [view_upd, fixed_mk, fixed_eta, apply_ite (State.view _), ite_self, Nat.reduceAnd, Nat.reduceDiv, Nat.reduceMod,
      Nat.zero_ne_one, implies_true, false_implies, Nat.div_one, kvSorted_kvPut, List.length_modify, List.length_map,
      List.length_set, List.length_mapIdx]

theorem stopResume_view {k} (hk : k &&& 15681522 = k) (s) : (stopResume s).view k = s.view k := by
  refine view_le hk ?_
  unfold stopResume
  simp only [unitsLater_view, chainLater_view, view_upd, fixed_mk, fixed_eta, apply_ite (State.view _), ite_self,
      Nat.reduceAnd, Nat.reduceDiv, Nat.reduceMod, Nat.zero_ne_one, implies_true, false_implies, Nat.div_one, kvSorted_kvPut,
      List.length_modify, List.length_map, List.length_set, List.length_mapIdx]

theorem debugOne_view {k} (hk : k &&& 0 = k) (a0 s) : (debugOne a0 s).view k = s.view k := by
  refine view_le hk ?_
  unfold debugOne
  simp only [debugApply_view, setStopFlag_view, raise_view, view_upd, fixed_mk, fixed_eta, apply_ite (State.view _),
      ite_self, Nat.reduceAnd, Nat.reduceDiv, Nat.reduceMod, Nat.zero_ne_one, implies_true, false_implies, Nat.div_one,
      kvSorted_kvPut, List.length_modify, List.length_map, List.length_set, List.length_mapIdx]

theorem debugRun_view {k} (hk : k &&& 0 = k) (s) : (debugRun s).view k = s.view k := by
  refine view_le hk ?_
  unfold debugRun
  simp (disch := (intros; first | done | (simp only [debugOne_view, view_upd, fixed_mk, fixed_eta, apply_ite (State.view _), ite_self, Nat.reduceAnd, Nat.reduceDiv, Nat.reduceMod, Nat.zero_ne_one, implies_true, false_implies, Nat.div_one, kvSorted_kvPut, List.length_modify, List.length_map, List.length_set, List.length_mapIdx]; done) | ((repeat' split) <;> simp only [debugOne_view, view_upd, fixed_mk, fixed_eta, apply_ite (State.view _), ite_self, Nat.reduceAnd, Nat.reduceDiv, Nat.reduceMod, Nat.zero_ne_one, implies_true, false_implies, Nat.div_one, kvSorted_kvPut, List.length_modify, List.length_map, List.length_set, List.length_mapIdx]; done) | grind [view_upd, fixed_mk, fixed_eta, List.length_modify, debugOne_view])) only [debugOne_view, view_upd, fixed_mk, fixed_eta, apply_ite (State.view _), ite_self, Nat.reduceAnd, Nat.reduceDiv, Nat.reduceMod, Nat.zero_ne_one, implies_true, false_implies, Nat.div_one, kvSorted_kvPut, List.length_modify, List.length_map, List.length_set, List.length_mapIdx, forEach_view, foldl_view]

theorem stopClock_view {k} (hk : k &&& 15727615 = k) (s) : (stopClock s).view k = s.view k := by
  refine view_le hk ?_
  unfold stopClock
  simp only [view_upd, fixed_mk, fixed_eta, apply_ite (State.view _), ite_self, Nat.reduceAnd, Nat.reduceDiv, Nat.reduceMod,
      Nat.zero_ne_one, implies_true, false_implies, Nat.div_one, kvSorted_kvPut, List.length_modify, List.length_map,
      List.length_set, List.length_mapIdx]

theorem scribeResume_view {k} (hk : k &&& 15466492 = k) (s) : (scribeResume s).view k = s.view k := by
  refine view_le hk ?_
  unfold scribeResume
  simp only [scribeTime_view, scribeGap_view, scribeTrigger_view, view_upd, fixed_mk, fixed_eta, apply_ite (State.view _),
      ite_self, Nat.reduceAnd, Nat.reduceDiv, Nat.reduceMod, Nat.zero_ne_one, implies_true, false_implies, Nat.div_one,
      kvSorted_kvPut, List.length_modify, List.length_map, List.length_set, List.length_mapIdx]

theorem stopRelease_view {k} (hk : k &&& 0 = k) (s) : (stopRelease s).view k = s.view k := by
  refine view_le hk ?_
  unfold stopRelease
  simp only [clResume_view, debugRun_view, stopResume_view, pumpLink_view, clampResume_view, syncResume_view,
      stopClock_view, startSettling_view, raise_view, scribeResume_view, view_upd, fixed_mk, fixed_eta, apply_ite (State.view
      _), ite_self, Nat.reduceAnd, Nat.reduceDiv, Nat.reduceMod, Nat.zero_ne_one, implies_true, false_implies, Nat.div_one,
      kvSorted_kvPut, List.length_modify, List.length_map, List.length_set, List.length_mapIdx]

theorem execStopInRelease_view {k} (hk : k &&& 0 = k) {s t} (h : execStopInRelease s = .next t) : t.view k = s.view k := by
  refine view_le hk ?_
  unfold execStopInRelease at h
  (repeat' split at h) <;> simp only [Host.Outcome.next.injEq, Except.ok.injEq, Option.some.injEq, reduceCtorEq] at h <;> subst h <;> simp only [stopRelease_view, view_upd, fixed_mk, fixed_eta, apply_ite (State.view _), ite_self, Nat.reduceAnd, Nat.reduceDiv, Nat.reduceMod, Nat.zero_ne_one, implies_true, false_implies, Nat.div_one, kvSorted_kvPut, List.length_modify, List.length_map, List.length_set, List.length_mapIdx]

theorem execEstimatorBoundary_view {k} (hk : k &&& 7005180 = k) {a0 s t} (h : execEstimatorBoundary a0 s = .next t) : t.view
    k = s.view k := by
  refine view_le hk ?_
  unfold execEstimatorBoundary at h
  (repeat' split at h) <;> simp only [Host.Outcome.next.injEq, Except.ok.injEq, Option.some.injEq, reduceCtorEq] at h <;> subst h <;> simp only [advanceTo_view, takeLimits_view, estimate_view, saturated_view, usePreds_view, capController_view, updAccr_view, takeMap_view, clampBoundary_view, endMs_view, view_upd, fixed_mk, fixed_eta, apply_ite (State.view _), ite_self, Nat.reduceAnd, Nat.reduceDiv, Nat.reduceMod, Nat.zero_ne_one, implies_true, false_implies, Nat.div_one, kvSorted_kvPut, List.length_modify, List.length_map, List.length_set, List.length_mapIdx]

theorem execCapEscalateExpiry_view {k} (hk : k &&& 15463420 = k) {s t} (h : execCapEscalateExpiry s = .next t) : t.view k =
    s.view k := by
  refine view_le hk ?_
  unfold execCapEscalateExpiry at h
  (repeat' split at h) <;> simp only [Host.Outcome.next.injEq, Except.ok.injEq, Option.some.injEq, reduceCtorEq] at h <;> subst h <;> simp only [advanceTo_view, updAccr_view, setCapFlag_view, view_upd, fixed_mk, fixed_eta, apply_ite (State.view _), ite_self, Nat.reduceAnd, Nat.reduceDiv, Nat.reduceMod, Nat.zero_ne_one, implies_true, false_implies, Nat.div_one, kvSorted_kvPut, List.length_modify, List.length_map, List.length_set, List.length_mapIdx]

theorem execCapRaiseHoldExpiry_view {k} (hk : k &&& 15463420 = k) {s t} (h : execCapRaiseHoldExpiry s = .next t) : t.view k
    = s.view k := by
  refine view_le hk ?_
  unfold execCapRaiseHoldExpiry at h
  (repeat' split at h) <;> simp only [Host.Outcome.next.injEq, Except.ok.injEq, Option.some.injEq, reduceCtorEq] at h <;> subst h <;> simp only [advanceTo_view, updAccr_view, view_upd, fixed_mk, fixed_eta, apply_ite (State.view _), ite_self, Nat.reduceAnd, Nat.reduceDiv, Nat.reduceMod, Nat.zero_ne_one, implies_true, false_implies, Nat.div_one, kvSorted_kvPut, List.length_modify, List.length_map, List.length_set, List.length_mapIdx]

theorem execCalibrationUpdate_view {k} (hk : k &&& 7057540 = k) {s t} (h : execCalibrationUpdate s = .next t) : t.view k =
    s.view k := by
  refine view_le hk ?_
  unfold execCalibrationUpdate at h
  (repeat' split at h) <;> simp only [Host.Outcome.next.injEq, Except.ok.injEq, Option.some.injEq, reduceCtorEq] at h <;> subst h <;> (try simp (disch := (intros; first | done | (simp only [calRail_view, view_upd, fixed_mk, fixed_eta, apply_ite (State.view _), ite_self, Nat.reduceAnd, Nat.reduceDiv, Nat.reduceMod, Nat.zero_ne_one, implies_true, false_implies, Nat.div_one, kvSorted_kvPut, List.length_modify, List.length_map, List.length_set, List.length_mapIdx]; done) | ((repeat' split) <;> simp only [calRail_view, view_upd, fixed_mk, fixed_eta, apply_ite (State.view _), ite_self, Nat.reduceAnd, Nat.reduceDiv, Nat.reduceMod, Nat.zero_ne_one, implies_true, false_implies, Nat.div_one, kvSorted_kvPut, List.length_modify, List.length_map, List.length_set, List.length_mapIdx]; done) | grind [view_upd, fixed_mk, fixed_eta, List.length_modify, calRail_view])) only [calRail_view, view_upd, fixed_mk, fixed_eta, apply_ite (State.view _), ite_self, Nat.reduceAnd, Nat.reduceDiv, Nat.reduceMod, Nat.zero_ne_one, implies_true, false_implies, Nat.div_one, kvSorted_kvPut, List.length_modify, List.length_map, List.length_set, List.length_mapIdx, forEach_view, foldl_view]) <;> grind [view_upd, fixed_mk, fixed_eta, List.length_modify, calRail_view]

theorem execTelemetryInstant_view {k} (hk : k &&& 15459324 = k) {s t} (h : execTelemetryInstant s = .next t) : t.view k =
    s.view k := by
  refine view_le hk ?_
  unfold execTelemetryInstant at h
  (repeat' split at h) <;> simp only [Host.Outcome.next.injEq, Except.ok.injEq, Option.some.injEq, reduceCtorEq] at h <;> subst h <;> simp only [telemInstant_view, advanceTo_view, baselineCheck_view, view_upd, fixed_mk, fixed_eta, apply_ite (State.view _), ite_self, Nat.reduceAnd, Nat.reduceDiv, Nat.reduceMod, Nat.zero_ne_one, implies_true, false_implies, Nat.div_one, kvSorted_kvPut, List.length_modify, List.length_map, List.length_set, List.length_mapIdx]

theorem execThrInAssert_view {k} (hk : k &&& 16775164 = k) {s t} (h : execThrInAssert s = .next t) : t.view k = s.view k := by
  refine view_le hk ?_
  unfold execThrInAssert at h
  (repeat' split at h) <;> simp only [Host.Outcome.next.injEq, Except.ok.injEq, Option.some.injEq, reduceCtorEq] at h <;> subst h <;> simp only [updAccr_view, view_upd, fixed_mk, fixed_eta, apply_ite (State.view _), ite_self, Nat.reduceAnd, Nat.reduceDiv, Nat.reduceMod, Nat.zero_ne_one, implies_true, false_implies, Nat.div_one, kvSorted_kvPut, List.length_modify, List.length_map, List.length_set, List.length_mapIdx]

theorem execThrInRelease_view {k} (hk : k &&& 16775164 = k) {s t} (h : execThrInRelease s = .next t) : t.view k = s.view k := by
  refine view_le hk ?_
  unfold execThrInRelease at h
  (repeat' split at h) <;> simp only [Host.Outcome.next.injEq, Except.ok.injEq, Option.some.injEq, reduceCtorEq] at h <;> subst h <;> simp only [updAccr_view, view_upd, fixed_mk, fixed_eta, apply_ite (State.view _), ite_self, Nat.reduceAnd, Nat.reduceDiv, Nat.reduceMod, Nat.zero_ne_one, implies_true, false_implies, Nat.div_one, kvSorted_kvPut, List.length_modify, List.length_map, List.length_set, List.length_mapIdx]

theorem execClampOpen_view {k} (hk : k &&& 15722493 = k) {a0 a1 s t} (h : execClampOpen a0 a1 s = .next t) : t.view k =
    s.view k := by
  refine view_le hk ?_
  unfold execClampOpen at h
  simp only [Host.Outcome.next.injEq, Except.ok.injEq, Option.some.injEq] at h
  subst h
  simp only [clampWord_view, view_upd, fixed_mk, fixed_eta, apply_ite (State.view _), ite_self, Nat.reduceAnd,
      Nat.reduceDiv, Nat.reduceMod, Nat.zero_ne_one, implies_true, false_implies, Nat.div_one, kvSorted_kvPut,
      List.length_modify, List.length_map, List.length_set, List.length_mapIdx]

theorem execClampClose_view {k} (hk : k &&& 15722493 = k) {a0 a1 s t} (h : execClampClose a0 a1 s = .next t) : t.view k =
    s.view k := by
  refine view_le hk ?_
  unfold execClampClose at h
  simp only [Host.Outcome.next.injEq, Except.ok.injEq, Option.some.injEq] at h
  subst h
  simp only [clampWord_view, view_upd, fixed_mk, fixed_eta, apply_ite (State.view _), ite_self, Nat.reduceAnd,
      Nat.reduceDiv, Nat.reduceMod, Nat.zero_ne_one, implies_true, false_implies, Nat.div_one, kvSorted_kvPut,
      List.length_modify, List.length_map, List.length_set, List.length_mapIdx]

theorem execClampRequest_view {k} (hk : k &&& 15722493 = k) {a0 a1 s t} (h : execClampRequest a0 a1 s = .next t) : t.view k
    = s.view k := by
  refine view_le hk ?_
  unfold execClampRequest at h
  simp only [Host.Outcome.next.injEq, Except.ok.injEq, Option.some.injEq] at h
  subst h
  simp only [clampWord_view, view_upd, fixed_mk, fixed_eta, apply_ite (State.view _), ite_self, Nat.reduceAnd,
      Nat.reduceDiv, Nat.reduceMod, Nat.zero_ne_one, implies_true, false_implies, Nat.div_one, kvSorted_kvPut,
      List.length_modify, List.length_map, List.length_set, List.length_mapIdx]

theorem execClampRelease_view {k} (hk : k &&& 15722493 = k) {a0 a1 s t} (h : execClampRelease a0 a1 s = .next t) : t.view k
    = s.view k := by
  refine view_le hk ?_
  unfold execClampRelease at h
  simp only [Host.Outcome.next.injEq, Except.ok.injEq, Option.some.injEq] at h
  subst h
  simp only [clampWord_view, view_upd, fixed_mk, fixed_eta, apply_ite (State.view _), ite_self, Nat.reduceAnd,
      Nat.reduceDiv, Nat.reduceMod, Nat.zero_ne_one, implies_true, false_implies, Nat.div_one, kvSorted_kvPut,
      List.length_modify, List.length_map, List.length_set, List.length_mapIdx]

theorem execClampCancel_view {k} (hk : k &&& 15722493 = k) {a0 a1 s t} (h : execClampCancel a0 a1 s = .next t) : t.view k =
    s.view k := by
  refine view_le hk ?_
  unfold execClampCancel at h
  simp only [Host.Outcome.next.injEq, Except.ok.injEq, Option.some.injEq] at h
  subst h
  simp only [clampWord_view, view_upd, fixed_mk, fixed_eta, apply_ite (State.view _), ite_self, Nat.reduceAnd,
      Nat.reduceDiv, Nat.reduceMod, Nat.zero_ne_one, implies_true, false_implies, Nat.div_one, kvSorted_kvPut,
      List.length_modify, List.length_map, List.length_set, List.length_mapIdx]

theorem execGrantWindowEnd_view {k} (hk : k &&& 15459324 = k) {a0 s t} (h : execGrantWindowEnd a0 s = .next t) : t.view k =
    s.view k := by
  refine view_le hk ?_
  unfold execGrantWindowEnd at h
  (repeat' split at h) <;> simp only [Host.Outcome.next.injEq, Except.ok.injEq, Option.some.injEq, reduceCtorEq] at h <;> subst h <;> simp only [endGrant_view, advanceTo_view, clearNotices_view, updAccr_view, clampNotice_view, view_upd, fixed_mk, fixed_eta, apply_ite (State.view _), ite_self, Nat.reduceAnd, Nat.reduceDiv, Nat.reduceMod, Nat.zero_ne_one, implies_true, false_implies, Nat.div_one, kvSorted_kvPut, List.length_modify, List.length_map, List.length_set, List.length_mapIdx]

theorem execRequestWaitExpiry_view {k} (hk : k &&& 15459324 = k) {a s t} (h : execRequestWaitExpiry a s = .next t) : t.view
    k = s.view k := by
  refine view_le hk ?_
  unfold execRequestWaitExpiry at h
  dsimp only at h
  split at h
  · split at h
    · rw [← Host.Outcome.next.inj h]
    · rw [← Host.Outcome.next.inj h]
      simp only [updAccr_view, clampNotice_view, State.bump32_view, leaveQueue_view, advanceTo_view, clearNotices_view,
          view_upd, fixed_mk, fixed_eta, apply_ite (State.view _), ite_self, Nat.reduceAnd, Nat.reduceDiv, Nat.reduceMod,
          Nat.zero_ne_one, implies_true, false_implies, kvSorted_kvPut, List.length_modify, List.length_map, List.length_set,
          List.length_mapIdx]
  · rw [← Host.Outcome.next.inj h]

theorem execBarInRise_view {k} (hk : k &&& 15372420 = k) {s t} (h : execBarInRise s = .next t) : t.view k = s.view k := by
  refine view_le hk ?_
  unfold execBarInRise at h
  (repeat' split at h) <;> simp only [Host.Outcome.next.injEq, Except.ok.injEq, Option.some.injEq, reduceCtorEq] at h <;> subst h <;> simp only [barInRise_view, view_upd, fixed_mk, fixed_eta, apply_ite (State.view _), ite_self, Nat.reduceAnd, Nat.reduceDiv, Nat.reduceMod, Nat.zero_ne_one, implies_true, false_implies, Nat.div_one, kvSorted_kvPut, List.length_modify, List.length_map, List.length_set, List.length_mapIdx]

theorem execBarOutRise_view {k} (hk : k &&& 15389692 = k) {s t} (h : execBarOutRise s = .next t) : t.view k = s.view k := by
  refine view_le hk ?_
  unfold execBarOutRise at h
  (repeat' split at h) <;> simp only [Host.Outcome.next.injEq, Except.ok.injEq, Option.some.injEq, reduceCtorEq] at h <;> subst h <;> simp only [barOutRise_view, view_upd, fixed_mk, fixed_eta, apply_ite (State.view _), ite_self, Nat.reduceAnd, Nat.reduceDiv, Nat.reduceMod, Nat.zero_ne_one, implies_true, false_implies, Nat.div_one, kvSorted_kvPut, List.length_modify, List.length_map, List.length_set, List.length_mapIdx]

theorem execDovetailWave_view {k} (hk : k &&& 15455228 = k) {s t} (h : execDovetailWave s = .next t) : t.view k = s.view k := by
  refine view_le hk ?_
  unfold execDovetailWave at h
  (repeat' split at h) <;> simp only [Host.Outcome.next.injEq, Except.ok.injEq, Option.some.injEq, reduceCtorEq] at h <;> subst h <;> simp only [nextWave_view, view_upd, fixed_mk, fixed_eta, apply_ite (State.view _), ite_self, Nat.reduceAnd, Nat.reduceDiv, Nat.reduceMod, Nat.zero_ne_one, implies_true, false_implies, Nat.div_one, kvSorted_kvPut, List.length_modify, List.length_map, List.length_set, List.length_mapIdx]

theorem execBarOutFall_view {k} (hk : k &&& 15455228 = k) {s t} (h : execBarOutFall s = .next t) : t.view k = s.view k := by
  refine view_le hk ?_
  unfold execBarOutFall at h
  (repeat' split at h) <;> simp only [Host.Outcome.next.injEq, Except.ok.injEq, Option.some.injEq, reduceCtorEq] at h <;> subst h <;> simp only [barOutFall_view, view_upd, fixed_mk, fixed_eta, apply_ite (State.view _), ite_self, Nat.reduceAnd, Nat.reduceDiv, Nat.reduceMod, Nat.zero_ne_one, implies_true, false_implies, Nat.div_one, kvSorted_kvPut, List.length_modify, List.length_map, List.length_set, List.length_mapIdx]

theorem execPlanWindowExpiry_view {k} (hk : k &&& 15455228 = k) {s t} (h : execPlanWindowExpiry s = .next t) : t.view k =
    s.view k := by
  refine view_le hk ?_
  unfold execPlanWindowExpiry at h
  (repeat' split at h) <;> simp only [Host.Outcome.next.injEq, Except.ok.injEq, Option.some.injEq, reduceCtorEq] at h <;> subst h <;> simp only [disarmPlan_view, advanceTo_view, view_upd, fixed_mk, fixed_eta, apply_ite (State.view _), ite_self, Nat.reduceAnd, Nat.reduceDiv, Nat.reduceMod, Nat.zero_ne_one, implies_true, false_implies, Nat.div_one, kvSorted_kvPut, List.length_modify, List.length_map, List.length_set, List.length_mapIdx]

theorem execBarrierTimeout_view {k} (hk : k &&& 15437956 = k) {s t} (h : execBarrierTimeout s = .next t) : t.view k = s.view
    k := by
  refine view_le hk ?_
  unfold execBarrierTimeout at h
  (repeat' split at h) <;> simp only [Host.Outcome.next.injEq, Except.ok.injEq, Option.some.injEq, reduceCtorEq] at h <;> subst h <;> simp only [advanceTo_view, raiseFault_view, setDoveFlag_view, view_upd, fixed_mk, fixed_eta, apply_ite (State.view _), ite_self, Nat.reduceAnd, Nat.reduceDiv, Nat.reduceMod, Nat.zero_ne_one, implies_true, false_implies, Nat.div_one, kvSorted_kvPut, List.length_modify, List.length_map, List.length_set, List.length_mapIdx]

theorem execCompensatorSample_view {k} (hk : k &&& 15446020 = k) {a0 s t} (h : execCompensatorSample a0 s = .next t) :
    t.view k = s.view k := by
  refine view_le hk ?_
  have hp : ∀ (u : State) (x : Option Nat), State.view 15446020 { u with prot := { u.prot with sampAt := x } } = u.view
      15446020 :=
    fun u x => by simp only [view_upd, fixed_mk, fixed_eta, apply_ite (State.view _), ite_self, Nat.reduceAnd,
        Nat.reduceDiv, Nat.reduceMod, Nat.zero_ne_one, implies_true, false_implies, kvSorted_kvPut, List.length_modify,
        List.length_map, List.length_set, List.length_mapIdx]
  unfold execCompensatorSample at h
  split at h
  · rw [← Host.Outcome.next.inj h]
  · rw [← Host.Outcome.next.inj h, seqBegin_view (by decide), combine_view (by decide), seqRetry_view (by decide),
      movesDone_view (by decide),
      forEach_view (fun _ _ => railSample_view (by decide) _ _ _), headroomStep_view (by decide), hp, advanceTo_view (by
          decide)]

theorem execCurrentConversion_view {k} (hk : k &&& 7057540 = k) {a0 a1 a2 s t} (h : execCurrentConversion a0 a1 a2 s = .next
    t) : t.view k = s.view k := by
  refine view_le hk ?_
  unfold execCurrentConversion at h
  (repeat' split at h) <;> simp only [Host.Outcome.next.injEq, Except.ok.injEq, Option.some.injEq, reduceCtorEq] at h <;> subst h <;> (try simp (disch := (intros; first | done | (simp only [calibNote_view, conversion_view, view_upd, fixed_mk, fixed_eta, apply_ite (State.view _), ite_self, Nat.reduceAnd, Nat.reduceDiv, Nat.reduceMod, Nat.zero_ne_one, implies_true, false_implies, Nat.div_one, kvSorted_kvPut, List.length_modify, List.length_map, List.length_set, List.length_mapIdx]; done) | ((repeat' split) <;> simp only [calibNote_view, conversion_view, view_upd, fixed_mk, fixed_eta, apply_ite (State.view _), ite_self, Nat.reduceAnd, Nat.reduceDiv, Nat.reduceMod, Nat.zero_ne_one, implies_true, false_implies, Nat.div_one, kvSorted_kvPut, List.length_modify, List.length_map, List.length_set, List.length_mapIdx]; done) | grind [view_upd, fixed_mk, fixed_eta, List.length_modify, calibNote_view, conversion_view])) only [calibNote_view, conversion_view, view_upd, fixed_mk, fixed_eta, apply_ite (State.view _), ite_self, Nat.reduceAnd, Nat.reduceDiv, Nat.reduceMod, Nat.zero_ne_one, implies_true, false_implies, Nat.div_one, kvSorted_kvPut, List.length_modify, List.length_map, List.length_set, List.length_mapIdx, forEach_view, foldl_view]) <;> grind [view_upd, fixed_mk, fixed_eta, List.length_modify, calibNote_view, conversion_view]

theorem execPhOcPeakExpiry_view {k} (hk : k &&& 15446148 = k) {a0 s t} (h : execPhOcPeakExpiry a0 s = .next t) : t.view k =
    s.view k := by
  refine view_le hk ?_
  unfold execPhOcPeakExpiry at h
  grind [view_upd, fixed_mk, fixed_eta, List.length_modify, advanceTo_view, State.updPhase_view, raiseFault_view]

theorem execPeakTimerExpiry_view {k} (hk : k &&& 15446148 = k) {a0 s t} (h : execPeakTimerExpiry a0 s = .next t) : t.view k
    = s.view k := by
  refine view_le hk ?_
  unfold execPeakTimerExpiry at h
  (repeat' split at h) <;> simp only [Host.Outcome.next.injEq, Except.ok.injEq, Option.some.injEq, reduceCtorEq] at h <;> subst h <;> simp only [raiseFault_view, markFold_view, view_upd, fixed_mk, fixed_eta, apply_ite (State.view _), ite_self, Nat.reduceAnd, Nat.reduceDiv, Nat.reduceMod, Nat.zero_ne_one, implies_true, false_implies, Nat.div_one, kvSorted_kvPut, List.length_modify, List.length_map, List.length_set, List.length_mapIdx]

theorem execFoldbackHoldExpiry_view {k} (hk : k &&& 15463340 = k) {a0 s t} (h : execFoldbackHoldExpiry a0 s = .next t) :
    t.view k = s.view k := by
  refine view_le hk ?_
  unfold execFoldbackHoldExpiry at h
  (repeat' split at h) <;> simp only [Host.Outcome.next.injEq, Except.ok.injEq, Option.some.injEq, reduceCtorEq] at h <;> subst h <;> simp only [advanceTo_view, State.updRail_view, clearFault_view, view_upd, fixed_mk, fixed_eta, apply_ite (State.view _), ite_self, Nat.reduceAnd, Nat.reduceDiv, Nat.reduceMod, Nat.zero_ne_one, implies_true, false_implies, Nat.div_one, kvSorted_kvPut, List.length_modify, List.length_map, List.length_set, List.length_mapIdx]

theorem execFoldbackLimitExpiry_view {k} (hk : k &&& 15446148 = k) {a0 s t} (h : execFoldbackLimitExpiry a0 s = .next t) :
    t.view k = s.view k := by
  refine view_le hk ?_
  unfold execFoldbackLimitExpiry at h
  (repeat' split at h) <;> simp only [Host.Outcome.next.injEq, Except.ok.injEq, Option.some.injEq, reduceCtorEq] at h <;> subst h <;> simp only [raiseFault_view, view_upd, fixed_mk, fixed_eta, apply_ite (State.view _), ite_self, Nat.reduceAnd, Nat.reduceDiv, Nat.reduceMod, Nat.zero_ne_one, implies_true, false_implies, Nat.div_one, kvSorted_kvPut, List.length_modify, List.length_map, List.length_set, List.length_mapIdx]

theorem execOvPersist_view {k} (hk : k &&& 15446148 = k) {a0 s t} (h : execOvPersist a0 s = .next t) : t.view k = s.view k := by
  refine view_le hk ?_
  unfold execOvPersist at h
  (repeat' split at h) <;> simp only [Host.Outcome.next.injEq, Except.ok.injEq, Option.some.injEq, reduceCtorEq] at h <;> subst h <;> simp only [raiseFault_view, advanceTo_view, view_upd, fixed_mk, fixed_eta, apply_ite (State.view _), ite_self, Nat.reduceAnd, Nat.reduceDiv, Nat.reduceMod, Nat.zero_ne_one, implies_true, false_implies, Nat.div_one, kvSorted_kvPut, List.length_modify, List.length_map, List.length_set, List.length_mapIdx]

theorem execUv_view {k} (hk : k &&& 15446148 = k) {a0 s t} (h : execUv a0 s = .next t) : t.view k = s.view k := by
  refine view_le hk ?_
  unfold execUv at h
  (repeat' split at h) <;> simp only [Host.Outcome.next.injEq, Except.ok.injEq, Option.some.injEq, reduceCtorEq] at h <;> subst h <;> simp only [advanceTo_view, raiseFault_view, State.updRail_view, view_upd, fixed_mk, fixed_eta, apply_ite (State.view _), ite_self, Nat.reduceAnd, Nat.reduceDiv, Nat.reduceMod, Nat.zero_ne_one, implies_true, false_implies, Nat.div_one, kvSorted_kvPut, List.length_modify, List.length_map, List.length_set, List.length_mapIdx]

theorem execUvS3Expiry_view {k} (hk : k &&& 15446148 = k) {a0 s t} (h : execUvS3Expiry a0 s = .next t) : t.view k = s.view k
    := by
  refine view_le hk ?_
  unfold execUvS3Expiry at h
  (repeat' split at h) <;> simp only [Host.Outcome.next.injEq, Except.ok.injEq, Option.some.injEq, reduceCtorEq] at h <;> subst h <;> simp only [advanceTo_view, raiseFault_view, State.updRail_view, view_upd, fixed_mk, fixed_eta, apply_ite (State.view _), ite_self, Nat.reduceAnd, Nat.reduceDiv, Nat.reduceMod, Nat.zero_ne_one, implies_true, false_implies, Nat.div_one, kvSorted_kvPut, List.length_modify, List.length_map, List.length_set, List.length_mapIdx]

theorem execStgFlt_view {k} (hk : k &&& 15446148 = k) {s t} (h : execStgFlt s = .next t) : t.view k = s.view k := by
  refine view_le hk ?_
  unfold execStgFlt at h
  (repeat' split at h) <;> simp only [Host.Outcome.next.injEq, Except.ok.injEq, Option.some.injEq, reduceCtorEq] at h <;> subst h <;> (try simp (disch := (intros; first | done | (simp only [raiseFault_view, view_upd, fixed_mk, fixed_eta, apply_ite (State.view _), ite_self, Nat.reduceAnd, Nat.reduceDiv, Nat.reduceMod, Nat.zero_ne_one, implies_true, false_implies, Nat.div_one, kvSorted_kvPut, List.length_modify, List.length_map, List.length_set, List.length_mapIdx]; done) | ((repeat' split) <;> simp only [raiseFault_view, view_upd, fixed_mk, fixed_eta, apply_ite (State.view _), ite_self, Nat.reduceAnd, Nat.reduceDiv, Nat.reduceMod, Nat.zero_ne_one, implies_true, false_implies, Nat.div_one, kvSorted_kvPut, List.length_modify, List.length_map, List.length_set, List.length_mapIdx]; done) | grind [view_upd, fixed_mk, fixed_eta, List.length_modify, raiseFault_view])) only [raiseFault_view, view_upd, fixed_mk, fixed_eta, apply_ite (State.view _), ite_self, Nat.reduceAnd, Nat.reduceDiv, Nat.reduceMod, Nat.zero_ne_one, implies_true, false_implies, Nat.div_one, kvSorted_kvPut, List.length_modify, List.length_map, List.length_set, List.length_mapIdx, forEach_view, foldl_view]) <;> grind [view_upd, fixed_mk, fixed_eta, List.length_modify, raiseFault_view]

theorem execPhaseSuspect_view {k} (hk : k &&& 15446148 = k) {a0 s t} (h : execPhaseSuspect a0 s = .next t) : t.view k =
    s.view k := by
  refine view_le hk ?_
  unfold execPhaseSuspect at h
  grind [view_upd, fixed_mk, fixed_eta, List.length_modify, failPhase_view]

theorem execFeTimerExpiry_view {k} (hk : k &&& 15446020 = k) {a0 s t} (h : execFeTimerExpiry a0 s = .next t) : t.view k =
    s.view k := by
  refine view_le hk ?_
  unfold execFeTimerExpiry at h
  (repeat' split at h) <;> simp only [Host.Outcome.next.injEq, Except.ok.injEq, Option.some.injEq, reduceCtorEq] at h <;> subst h <;> simp only [followingError_view, view_upd, fixed_mk, fixed_eta, apply_ite (State.view _), ite_self, Nat.reduceAnd, Nat.reduceDiv, Nat.reduceMod, Nat.zero_ne_one, implies_true, false_implies, Nat.div_one, kvSorted_kvPut, List.length_modify, List.length_map, List.length_set, List.length_mapIdx]

theorem execS1HoldExpiry_view {k} (hk : k &&& 15463356 = k) {a0 s t} (h : execS1HoldExpiry a0 s = .next t) : t.view k =
    s.view k := by
  refine view_le hk ?_
  unfold execS1HoldExpiry at h
  (repeat' split at h) <;> simp only [Host.Outcome.next.injEq, Except.ok.injEq, Option.some.injEq, reduceCtorEq] at h <;> subst h <;> simp only [endFault_view, advanceTo_view, view_upd, fixed_mk, fixed_eta, apply_ite (State.view _), ite_self, Nat.reduceAnd, Nat.reduceDiv, Nat.reduceMod, Nat.zero_ne_one, implies_true, false_implies, Nat.div_one, kvSorted_kvPut, List.length_modify, List.length_map, List.length_set, List.length_mapIdx]

theorem execS2HoldExpiry_view {k} (hk : k &&& 15463356 = k) {a0 s t} (h : execS2HoldExpiry a0 s = .next t) : t.view k =
    s.view k := by
  refine view_le hk ?_
  unfold execS2HoldExpiry at h
  (repeat' split at h) <;> simp only [Host.Outcome.next.injEq, Except.ok.injEq, Option.some.injEq, reduceCtorEq] at h <;> subst h <;> simp only [clearFault_view, advanceTo_view, view_upd, fixed_mk, fixed_eta, apply_ite (State.view _), ite_self, Nat.reduceAnd, Nat.reduceDiv, Nat.reduceMod, Nat.zero_ne_one, implies_true, false_implies, Nat.div_one, kvSorted_kvPut, List.length_modify, List.length_map, List.length_set, List.length_mapIdx]

theorem execRestartDelayExpiry_view {k} (hk : k &&& 15463308 = k) {a0 s t} (h : execRestartDelayExpiry a0 s = .next t) :
    t.view k = s.view k := by
  refine view_le hk ?_
  unfold execRestartDelayExpiry at h
  grind [view_upd, fixed_mk, fixed_eta, List.length_modify, advanceTo_view, releaseSafe_view, State.updRail_view,
      startRail_view]

theorem execRetryRefill_view {k} (hk : k &&& 15463404 = k) {a0 s t} (h : execRetryRefill a0 s = .next t) : t.view k = s.view
    k := by
  refine view_le hk ?_
  unfold execRetryRefill at h
  (repeat' split at h) <;> simp only [Host.Outcome.next.injEq, Except.ok.injEq, Option.some.injEq, reduceCtorEq] at h <;> subst h <;> simp only [advanceTo_view, State.updRail_view, view_upd, fixed_mk, fixed_eta, apply_ite (State.view _), ite_self, Nat.reduceAnd, Nat.reduceDiv, Nat.reduceMod, Nat.zero_ne_one, implies_true, false_implies, Nat.div_one, kvSorted_kvPut, List.length_modify, List.length_map, List.length_set, List.length_mapIdx]

theorem execShedStart_view {k} (hk : k &&& 15463372 = k) {a0 s t} (h : execShedStart a0 s = .next t) : t.view k = s.view k := by
  refine view_le hk ?_
  unfold execShedStart at h
  (repeat' split at h) <;> simp only [Host.Outcome.next.injEq, Except.ok.injEq, Option.some.injEq, reduceCtorEq] at h <;> subst h <;> simp only [advanceTo_view, startShed_view, view_upd, fixed_mk, fixed_eta, apply_ite (State.view _), ite_self, Nat.reduceAnd, Nat.reduceDiv, Nat.reduceMod, Nat.zero_ne_one, implies_true, false_implies, Nat.div_one, kvSorted_kvPut, List.length_modify, List.length_map, List.length_set, List.length_mapIdx]

theorem execShedRampEnd_view {k} (hk : k &&& 15463372 = k) {a0 s t} (h : execShedRampEnd a0 s = .next t) : t.view k = s.view
    k := by
  refine view_le hk ?_
  unfold execShedRampEnd at h
  (repeat' split at h) <;> simp only [Host.Outcome.next.injEq, Except.ok.injEq, Option.some.injEq, reduceCtorEq] at h <;> subst h <;> simp only [advanceTo_view, passHead_view, State.updPhase_view, State.updRail_view, respace_view, view_upd, fixed_mk, fixed_eta, apply_ite (State.view _), ite_self, Nat.reduceAnd, Nat.reduceDiv, Nat.reduceMod, Nat.zero_ne_one, implies_true, false_implies, Nat.div_one, kvSorted_kvPut, List.length_modify, List.length_map, List.length_set, List.length_mapIdx]

theorem execRotationStep_view {k} (hk : k &&& 15463372 = k) {a0 s t} (h : execRotationStep a0 s = .next t) : t.view k =
    s.view k := by
  refine view_le hk ?_
  unfold execRotationStep at h
  (repeat' split at h) <;> simp only [Host.Outcome.next.injEq, Except.ok.injEq, Option.some.injEq, reduceCtorEq] at h <;> subst h <;> simp only [advanceTo_view, startShed_view, joinPhase_view, State.updRail_view, view_upd, fixed_mk, fixed_eta, apply_ite (State.view _), ite_self, Nat.reduceAnd, Nat.reduceDiv, Nat.reduceMod, Nat.zero_ne_one, implies_true, false_implies, Nat.div_one, kvSorted_kvPut, List.length_modify, List.length_map, List.length_set, List.length_mapIdx]

theorem execRegSyncQualify_view {k} (hk : k &&& 16514988 = k) {a0 s t} (h : execRegSyncQualify a0 s = .next t) : t.view k =
    s.view k := by
  refine view_le hk ?_
  unfold execRegSyncQualify at h
  (repeat' split at h) <;> simp only [Host.Outcome.next.injEq, Except.ok.injEq, Option.some.injEq, reduceCtorEq] at h <;> subst h <;> (try simp (disch := (intros; first | done | (simp only [raise_view, syncStep_view, view_upd, fixed_mk, fixed_eta, apply_ite (State.view _), ite_self, Nat.reduceAnd, Nat.reduceDiv, Nat.reduceMod, Nat.zero_ne_one, implies_true, false_implies, Nat.div_one, kvSorted_kvPut, List.length_modify, List.length_map, List.length_set, List.length_mapIdx]; done) | ((repeat' split) <;> simp only [raise_view, syncStep_view, view_upd, fixed_mk, fixed_eta, apply_ite (State.view _), ite_self, Nat.reduceAnd, Nat.reduceDiv, Nat.reduceMod, Nat.zero_ne_one, implies_true, false_implies, Nat.div_one, kvSorted_kvPut, List.length_modify, List.length_map, List.length_set, List.length_mapIdx]; done) | grind [view_upd, fixed_mk, fixed_eta, List.length_modify, raise_view, syncStep_view])) only [raise_view, syncStep_view, view_upd, fixed_mk, fixed_eta, apply_ite (State.view _), ite_self, Nat.reduceAnd, Nat.reduceDiv, Nat.reduceMod, Nat.zero_ne_one, implies_true, false_implies, Nat.div_one, kvSorted_kvPut, List.length_modify, List.length_map, List.length_set, List.length_mapIdx, forEach_view, foldl_view]) <;> grind [view_upd, fixed_mk, fixed_eta, List.length_modify, raise_view, syncStep_view]

theorem execRegSyncLock_view {k} (hk : k &&& 16777199 = k) {a0 s t} (h : execRegSyncLock a0 s = .next t) : t.view k = s.view
    k := by
  refine view_le hk ?_
  unfold execRegSyncLock at h
  (repeat' split at h) <;> simp only [Host.Outcome.next.injEq, Except.ok.injEq, Option.some.injEq, reduceCtorEq] at h <;> subst h <;> simp only [State.updRail_view, view_upd, fixed_mk, fixed_eta, apply_ite (State.view _), ite_self, Nat.reduceAnd, Nat.reduceDiv, Nat.reduceMod, Nat.zero_ne_one, implies_true, false_implies, Nat.div_one, kvSorted_kvPut, List.length_modify, List.length_map, List.length_set, List.length_mapIdx]

theorem execRegSyncLoss_view {k} (hk : k &&& 16514988 = k) {s t} (h : execRegSyncLoss s = .next t) : t.view k = s.view k := by
  refine view_le hk ?_
  unfold execRegSyncLoss at h
  (repeat' split at h) <;> simp only [Host.Outcome.next.injEq, Except.ok.injEq, Option.some.injEq, reduceCtorEq] at h <;> subst h <;> (try simp (disch := (intros; first | done | (simp only [State.bump32_view, raise_view, view_upd, fixed_mk, fixed_eta, apply_ite (State.view _), ite_self, Nat.reduceAnd, Nat.reduceDiv, Nat.reduceMod, Nat.zero_ne_one, implies_true, false_implies, Nat.div_one, kvSorted_kvPut, List.length_modify, List.length_map, List.length_set, List.length_mapIdx]; done) | ((repeat' split) <;> simp only [State.bump32_view, raise_view, view_upd, fixed_mk, fixed_eta, apply_ite (State.view _), ite_self, Nat.reduceAnd, Nat.reduceDiv, Nat.reduceMod, Nat.zero_ne_one, implies_true, false_implies, Nat.div_one, kvSorted_kvPut, List.length_modify, List.length_map, List.length_set, List.length_mapIdx]; done) | grind [view_upd, fixed_mk, fixed_eta, List.length_modify, State.bump32_view, raise_view])) only [State.bump32_view, raise_view, view_upd, fixed_mk, fixed_eta, apply_ite (State.view _), ite_self, Nat.reduceAnd, Nat.reduceDiv, Nat.reduceMod, Nat.zero_ne_one, implies_true, false_implies, Nat.div_one, kvSorted_kvPut, List.length_modify, List.length_map, List.length_set, List.length_mapIdx, forEach_view, foldl_view]) <;> grind [view_upd, fixed_mk, fixed_eta, List.length_modify, State.bump32_view, raise_view]

theorem execEventCapture_view {k} (hk : k &&& 16515068 = k) {a0 s t} (h : execEventCapture a0 s = .next t) : t.view k =
    s.view k := by
  refine view_le hk ?_
  unfold execEventCapture at h
  simp only [Host.Outcome.next.injEq, Except.ok.injEq, Option.some.injEq] at h
  subst h
  simp only [captureEvent_view, view_upd, fixed_mk, fixed_eta, apply_ite (State.view _), ite_self, Nat.reduceAnd,
      Nat.reduceDiv, Nat.reduceMod, Nat.zero_ne_one, implies_true, false_implies, Nat.div_one, kvSorted_kvPut,
      List.length_modify, List.length_map, List.length_set, List.length_mapIdx]

theorem recordWrite_view {k} (hk : k &&& 12845052 = k) (s) : (recordWrite s).view k = s.view k := by
  refine view_le hk ?_
  unfold recordWrite
  (repeat' split) <;> simp only [flashNext_view, reportInput_view, ringWrite_view, view_upd, fixed_mk, fixed_eta, apply_ite (State.view _), ite_self, Nat.reduceAnd, Nat.reduceDiv, Nat.reduceMod, Nat.zero_ne_one, implies_true, false_implies, Nat.div_one, kvSorted_kvPut, List.length_modify, List.length_map, List.length_set, List.length_mapIdx]

theorem execRecordWrite_view {k} (hk : k &&& 12845052 = k) {s t} (h : execRecordWrite s = .next t) : t.view k = s.view k := by
  refine view_le hk ?_
  unfold execRecordWrite at h
  (repeat' split at h) <;> simp only [Host.Outcome.next.injEq, Except.ok.injEq, Option.some.injEq, reduceCtorEq] at h <;> subst h <;> simp only [recordWrite_view, view_upd, fixed_mk, fixed_eta, apply_ite (State.view _), ite_self, Nat.reduceAnd, Nat.reduceDiv, Nat.reduceMod, Nat.zero_ne_one, implies_true, false_implies, Nat.div_one, kvSorted_kvPut, List.length_modify, List.length_map, List.length_set, List.length_mapIdx]

theorem execFlashRecordProgram_view {k} (hk : k &&& 15990780 = k) {a0 s t} (h : execFlashRecordProgram a0 s = .next t) :
    t.view k = s.view k := by
  refine view_le hk ?_
  unfold execFlashRecordProgram at h
  simp only [Host.Outcome.next.injEq, Except.ok.injEq, Option.some.injEq] at h
  subst h
  simp only [recordProgram_view, view_upd, fixed_mk, fixed_eta, apply_ite (State.view _), ite_self, Nat.reduceAnd,
      Nat.reduceDiv, Nat.reduceMod, Nat.zero_ne_one, implies_true, false_implies, Nat.div_one, kvSorted_kvPut,
      List.length_modify, List.length_map, List.length_set, List.length_mapIdx]

theorem execFlashEraseDone_view {k} (hk : k &&& 15990780 = k) {s t} (h : execFlashEraseDone s = .next t) : t.view k = s.view
    k := by
  refine view_le hk ?_
  unfold execFlashEraseDone at h
  simp only [Host.Outcome.next.injEq, Except.ok.injEq, Option.some.injEq] at h
  subst h
  simp only [eraseDone_view, view_upd, fixed_mk, fixed_eta, apply_ite (State.view _), ite_self, Nat.reduceAnd,
      Nat.reduceDiv, Nat.reduceMod, Nat.zero_ne_one, implies_true, false_implies, Nat.div_one, kvSorted_kvPut,
      List.length_modify, List.length_map, List.length_set, List.length_mapIdx]

theorem slowFailed_view {k} (hk : k &&& 15810552 = k) (s) : (slowFailed s).view k = s.view k := by
  refine view_le hk ?_
  unfold slowFailed
  simp only [raise_view, State.bump32_view, setRecFlag_view, flashRun_view, bootWritten_view, gaugeCalStored_view,
      storeEnd_view, dmaGiveUse_view, flashImageEnd_view, view_upd, fixed_mk, fixed_eta, apply_ite (State.view _), ite_self,
      Nat.reduceAnd, Nat.reduceDiv, Nat.reduceMod, Nat.zero_ne_one, implies_true, false_implies, Nat.div_one, kvSorted_kvPut,
      List.length_modify, List.length_map, List.length_set, List.length_mapIdx]

theorem flashLimit_view {k} (hk : k &&& 14758904 = k) (s) : (flashLimit s).view k = s.view k := by
  refine view_le hk ?_
  unfold flashLimit
  (repeat' split) <;> simp only [portTimeout_view, slowFailed_view, view_upd, fixed_mk, fixed_eta, apply_ite (State.view _), ite_self, Nat.reduceAnd, Nat.reduceDiv, Nat.reduceMod, Nat.zero_ne_one, implies_true, false_implies, Nat.div_one, kvSorted_kvPut, List.length_modify, List.length_map, List.length_set, List.length_mapIdx]

theorem execFlashTimeout_view {k} (hk : k &&& 14758904 = k) {s t} (h : execFlashTimeout s = .next t) : t.view k = s.view k := by
  refine view_le hk ?_
  unfold execFlashTimeout at h
  simp only [Host.Outcome.next.injEq, Except.ok.injEq, Option.some.injEq] at h
  subst h
  simp only [flashLimit_view, view_upd, fixed_mk, fixed_eta, apply_ite (State.view _), ite_self, Nat.reduceAnd,
      Nat.reduceDiv, Nat.reduceMod, Nat.zero_ne_one, implies_true, false_implies, Nat.div_one, kvSorted_kvPut,
      List.length_modify, List.length_map, List.length_set, List.length_mapIdx]

theorem execFlashScanDone_view {k} (hk : k &&& 15990780 = k) {s t} (h : execFlashScanDone s = .next t) : t.view k = s.view k
    := by
  refine view_le hk ?_
  unfold execFlashScanDone at h
  (repeat' split at h) <;> simp only [Host.Outcome.next.injEq, Except.ok.injEq, Option.some.injEq, reduceCtorEq] at h <;> subst h <;> simp only [scanDone_view, view_upd, fixed_mk, fixed_eta, apply_ite (State.view _), ite_self, Nat.reduceAnd, Nat.reduceDiv, Nat.reduceMod, Nat.zero_ne_one, implies_true, false_implies, Nat.div_one, kvSorted_kvPut, List.length_modify, List.length_map, List.length_set, List.length_mapIdx]

theorem execBootRecordWriteDone_view {k} (hk : k &&& 15990780 = k) {a0 s t} (h : execBootRecordWriteDone a0 s = .next t) :
    t.view k = s.view k := by
  refine view_le hk ?_
  unfold execBootRecordWriteDone at h
  (repeat' split at h) <;> simp only [Host.Outcome.next.injEq, Except.ok.injEq, Option.some.injEq, reduceCtorEq] at h <;> subst h <;> simp only [bootWritten_view, view_upd, fixed_mk, fixed_eta, apply_ite (State.view _), ite_self, Nat.reduceAnd, Nat.reduceDiv, Nat.reduceMod, Nat.zero_ne_one, implies_true, false_implies, Nat.div_one, kvSorted_kvPut, List.length_modify, List.length_map, List.length_set, List.length_mapIdx]

theorem execShimControlCycle_view {k} (hk : k &&& 15727805 = k) {a0 a1 s t} (h : execShimControlCycle a0 a1 s = .next t) :
    t.view k = s.view k := by
  refine view_le hk ?_
  unfold execShimControlCycle at h
  (repeat' split at h) <;> simp only [Host.Outcome.next.injEq, Except.ok.injEq, Option.some.injEq, reduceCtorEq] at h <;> subst h <;> simp only [controlCycle_view, view_upd, fixed_mk, fixed_eta, apply_ite (State.view _), ite_self, Nat.reduceAnd, Nat.reduceDiv, Nat.reduceMod, Nat.zero_ne_one, implies_true, false_implies, Nat.div_one, kvSorted_kvPut, List.length_modify, List.length_map, List.length_set, List.length_mapIdx]

theorem refStep1_view {k} (hk : k &&& 15463164 = k) (a0 s) : (refStep1 a0 s).view k = s.view k := by
  refine view_le hk ?_
  unfold refStep1
  simp only [advanceTo_view, State.updRegion_view, view_upd, fixed_mk, fixed_eta, apply_ite (State.view _), ite_self,
      Nat.reduceAnd, Nat.reduceDiv, Nat.reduceMod, Nat.zero_ne_one, implies_true, false_implies, Nat.div_one, kvSorted_kvPut,
      List.length_modify, List.length_map, List.length_set, List.length_mapIdx]

theorem execShimRefStep_view {k} (hk : k &&& 15463164 = k) {a0 s t} (h : execShimRefStep a0 s = .next t) : t.view k = s.view
    k := by
  refine view_le hk ?_
  unfold execShimRefStep at h
  grind [view_upd, fixed_mk, fixed_eta, List.length_modify, refStep1_view]

theorem execShimSaturation_view {k} (hk : k &&& 15446148 = k) {a0 s t} (h : execShimSaturation a0 s = .next t) : t.view k =
    s.view k := by
  refine view_le hk ?_
  unfold execShimSaturation at h
  (repeat' split at h) <;> simp only [Host.Outcome.next.injEq, Except.ok.injEq, Option.some.injEq, reduceCtorEq] at h <;> subst h <;> simp only [State.updRegion_view, shimFault_view, view_upd, fixed_mk, fixed_eta, apply_ite (State.view _), ite_self, Nat.reduceAnd, Nat.reduceDiv, Nat.reduceMod, Nat.zero_ne_one, implies_true, false_implies, Nat.div_one, kvSorted_kvPut, List.length_modify, List.length_map, List.length_set, List.length_mapIdx]

theorem execBoostHoldExpiry_view {k} (hk : k &&& 15462908 = k) {s t} (h : execBoostHoldExpiry s = .next t) : t.view k =
    s.view k := by
  refine view_le hk ?_
  unfold execBoostHoldExpiry at h
  (repeat' split at h) <;> simp only [Host.Outcome.next.injEq, Except.ok.injEq, Option.some.injEq, reduceCtorEq] at h <;> subst h <;> simp only [advanceTo_view, view_upd, fixed_mk, fixed_eta, apply_ite (State.view _), ite_self, Nat.reduceAnd, Nat.reduceDiv, Nat.reduceMod, Nat.zero_ne_one, implies_true, false_implies, Nat.div_one, kvSorted_kvPut, List.length_modify, List.length_map, List.length_set, List.length_mapIdx]

theorem execHeadroomWaitExpiry_view {k} (hk : k &&& 15446148 = k) {a0 s t} (h : execHeadroomWaitExpiry a0 s = .next t) :
    t.view k = s.view k := by
  refine view_le hk ?_
  unfold execHeadroomWaitExpiry at h
  (repeat' split at h) <;> simp only [Host.Outcome.next.injEq, Except.ok.injEq, Option.some.injEq, reduceCtorEq] at h <;> subst h <;> simp only [advanceTo_view, shimFault_view, State.updRegion_view, view_upd, fixed_mk, fixed_eta, apply_ite (State.view _), ite_self, Nat.reduceAnd, Nat.reduceDiv, Nat.reduceMod, Nat.zero_ne_one, implies_true, false_implies, Nat.div_one, kvSorted_kvPut, List.length_modify, List.length_map, List.length_set, List.length_mapIdx]

theorem execPreloadArm_view {k} (hk : k &&& 15463164 = k) {a0 s t} (h : execPreloadArm a0 s = .next t) : t.view k = s.view k
    := by
  refine view_le hk ?_
  unfold execPreloadArm at h
  grind [view_upd, fixed_mk, fixed_eta, List.length_modify, advanceTo_view, State.add64_view, State.updRegion_view]

theorem execPreloadDisarm_view {k} (hk : k &&& 15462652 = k) {a0 s t} (h : execPreloadDisarm a0 s = .next t) : t.view k =
    s.view k := by
  refine view_le hk ?_
  unfold execPreloadDisarm at h
  grind [view_upd, fixed_mk, fixed_eta, List.length_modify, advanceTo_view, State.updRegion_view, setKerfFlag_view]

theorem execKerfCrossing_view {k} (hk : k &&& 16774397 = k) {a0 s t} (h : execKerfCrossing a0 s = .next t) : t.view k =
    s.view k := by
  refine view_le hk ?_
  unfold execKerfCrossing at h
  (repeat' split at h) <;> simp only [Host.Outcome.next.injEq, Except.ok.injEq, Option.some.injEq, reduceCtorEq] at h <;> subst h <;> simp only [crossKerf_view, view_upd, fixed_mk, fixed_eta, apply_ite (State.view _), ite_self, Nat.reduceAnd, Nat.reduceDiv, Nat.reduceMod, Nat.zero_ne_one, implies_true, false_implies, Nat.div_one, kvSorted_kvPut, List.length_modify, List.length_map, List.length_set, List.length_mapIdx]

theorem execKerfLevelRaise_view {k} (hk : k &&& 15728381 = k) {a0 a1 s t} (h : execKerfLevelRaise a0 a1 s = .next t) :
    t.view k = s.view k := by
  refine view_le hk ?_
  unfold execKerfLevelRaise at h
  grind [view_upd, fixed_mk, fixed_eta, List.length_modify, deepen_view]

theorem execKerfStretchEnd_view {k} (hk : k &&& 15462652 = k) {a0 s t} (h : execKerfStretchEnd a0 s = .next t) : t.view k =
    s.view k := by
  refine view_le hk ?_
  unfold execKerfStretchEnd at h
  grind [view_upd, fixed_mk, fixed_eta, List.length_modify, updAccr_view, endStretch_view, advanceTiles_view]

theorem execStretchHoldClear_view {k} (hk : k &&& 15462908 = k) {s t} (h : execStretchHoldClear s = .next t) : t.view k =
    s.view k := by
  refine view_le hk ?_
  unfold execStretchHoldClear at h
  (repeat' split at h) <;> simp only [Host.Outcome.next.injEq, Except.ok.injEq, Option.some.injEq, reduceCtorEq] at h <;> subst h <;> simp only [advanceTiles_view, view_upd, fixed_mk, fixed_eta, apply_ite (State.view _), ite_self, Nat.reduceAnd, Nat.reduceDiv, Nat.reduceMod, Nat.zero_ne_one, implies_true, false_implies, Nat.div_one, kvSorted_kvPut, List.length_modify, List.length_map, List.length_set, List.length_mapIdx]

theorem execShimLow_view {k} (hk : k &&& 15446148 = k) {a0 s t} (h : execShimLow a0 s = .next t) : t.view k = s.view k := by
  refine view_le hk ?_
  unfold execShimLow at h
  (repeat' split at h) <;> simp only [Host.Outcome.next.injEq, Except.ok.injEq, Option.some.injEq, reduceCtorEq] at h <;> subst h <;> simp only [shimFault_view, advanceTo_view, view_upd, fixed_mk, fixed_eta, apply_ite (State.view _), ite_self, Nat.reduceAnd, Nat.reduceDiv, Nat.reduceMod, Nat.zero_ne_one, implies_true, false_implies, Nat.div_one, kvSorted_kvPut, List.length_modify, List.length_map, List.length_set, List.length_mapIdx]

theorem execKerfDuty_view {k} (hk : k &&& 15446148 = k) {a0 s t} (h : execKerfDuty a0 s = .next t) : t.view k = s.view k := by
  refine view_le hk ?_
  unfold execKerfDuty at h
  (repeat' split at h) <;> simp only [Host.Outcome.next.injEq, Except.ok.injEq, Option.some.injEq, reduceCtorEq] at h <;> subst h <;> simp only [shimFault_view, view_upd, fixed_mk, fixed_eta, apply_ite (State.view _), ite_self, Nat.reduceAnd, Nat.reduceDiv, Nat.reduceMod, Nat.zero_ne_one, implies_true, false_implies, Nat.div_one, kvSorted_kvPut, List.length_modify, List.length_map, List.length_set, List.length_mapIdx]

theorem execRegionMonitorConversion_view {k} (hk : k &&& 15446148 = k) {a0 s t} (h : execRegionMonitorConversion a0 s =
    .next t) : t.view k = s.view k := by
  refine view_le hk ?_
  unfold execRegionMonitorConversion at h
  (repeat' split at h) <;> simp only [Host.Outcome.next.injEq, Except.ok.injEq, Option.some.injEq, reduceCtorEq] at h <;> subst h <;> simp only [advanceTo_view, monitorReading_view, view_upd, fixed_mk, fixed_eta, apply_ite (State.view _), ite_self, Nat.reduceAnd, Nat.reduceDiv, Nat.reduceMod, Nat.zero_ne_one, implies_true, false_implies, Nat.div_one, kvSorted_kvPut, List.length_modify, List.length_map, List.length_set, List.length_mapIdx]

theorem execKerfTestEnd_view {k} (hk : k &&& 16776957 = k) {a0 s t} (h : execKerfTestEnd a0 s = .next t) : t.view k = s.view
    k := by
  refine view_le hk ?_
  unfold execKerfTestEnd at h
  (repeat' split at h) <;> simp only [Host.Outcome.next.injEq, Except.ok.injEq, Option.some.injEq, reduceCtorEq] at h <;> subst h <;> simp only [State.updRegion_view, State.put_view, view_upd, fixed_mk, fixed_eta, apply_ite (State.view _), ite_self, Nat.reduceAnd, Nat.reduceDiv, Nat.reduceMod, Nat.zero_ne_one, implies_true, false_implies, Nat.div_one, kvSorted_kvPut, List.length_modify, List.length_map, List.length_set, List.length_mapIdx]

theorem execStepAnnounce_view {k} (hk : k &&& 7069228 = k) {a0 a1 a2 s t} (h : execStepAnnounce a0 a1 a2 s = .next t) :
    t.view k = s.view k := by
  refine view_le hk ?_
  unfold execStepAnnounce at h
  (repeat' split at h) <;> simp only [Host.Outcome.next.injEq, Except.ok.injEq, Option.some.injEq, reduceCtorEq] at h <;> subst h <;> simp only [announce_view, view_upd, fixed_mk, fixed_eta, apply_ite (State.view _), ite_self, Nat.reduceAnd, Nat.reduceDiv, Nat.reduceMod, Nat.zero_ne_one, implies_true, false_implies, Nat.div_one, kvSorted_kvPut, List.length_modify, List.length_map, List.length_set, List.length_mapIdx]

theorem execExecMarker_view {k} (hk : k &&& 7049220 = k) {a0 a1 s t} (h : execExecMarker a0 a1 s = .next t) : t.view k =
    s.view k := by
  refine view_le hk ?_
  unfold execExecMarker at h
  (repeat' split at h) <;> simp only [Host.Outcome.next.injEq, Except.ok.injEq, Option.some.injEq, reduceCtorEq] at h <;> subst h <;> simp only [execMark_view, view_upd, fixed_mk, fixed_eta, apply_ite (State.view _), ite_self, Nat.reduceAnd, Nat.reduceDiv, Nat.reduceMod, Nat.zero_ne_one, implies_true, false_implies, Nat.div_one, kvSorted_kvPut, List.length_modify, List.length_map, List.length_set, List.length_mapIdx]

theorem execFfLookupDone_view {k} (hk : k &&& 16775037 = k) {s t} (h : execFfLookupDone s = .next t) : t.view k = s.view k := by
  refine view_le hk ?_
  unfold execFfLookupDone at h
  (repeat' split at h) <;> simp only [Host.Outcome.next.injEq, Except.ok.injEq, Option.some.injEq, reduceCtorEq] at h <;> subst h <;> simp only [lookupNext_view, view_upd, fixed_mk, fixed_eta, apply_ite (State.view _), ite_self, Nat.reduceAnd, Nat.reduceDiv, Nat.reduceMod, Nat.zero_ne_one, implies_true, false_implies, Nat.div_one, kvSorted_kvPut, List.length_modify, List.length_map, List.length_set, List.length_mapIdx]

theorem execAnnouncementMissed_view {k} (hk : k &&& 7049220 = k) {s t} (h : execAnnouncementMissed s = .next t) : t.view k =
    s.view k := by
  refine view_le hk ?_
  unfold execAnnouncementMissed at h
  (repeat' split at h) <;> simp only [Host.Outcome.next.injEq, Except.ok.injEq, Option.some.injEq, reduceCtorEq] at h <;> subst h <;> simp only [missed_view, view_upd, fixed_mk, fixed_eta, apply_ite (State.view _), ite_self, Nat.reduceAnd, Nat.reduceDiv, Nat.reduceMod, Nat.zero_ne_one, implies_true, false_implies, Nat.div_one, kvSorted_kvPut, List.length_modify, List.length_map, List.length_set, List.length_mapIdx]

theorem execSettlingEnd_view {k} (hk : k &&& 15463292 = k) {s t} (h : execSettlingEnd s = .next t) : t.view k = s.view k := by
  refine view_le hk ?_
  unfold execSettlingEnd at h
  (repeat' split at h) <;> simp only [Host.Outcome.next.injEq, Except.ok.injEq, Option.some.injEq, reduceCtorEq] at h <;> subst h <;> simp only [advanceTo_view, view_upd, fixed_mk, fixed_eta, apply_ite (State.view _), ite_self, Nat.reduceAnd, Nat.reduceDiv, Nat.reduceMod, Nat.zero_ne_one, implies_true, false_implies, Nat.div_one, kvSorted_kvPut, List.length_modify, List.length_map, List.length_set, List.length_mapIdx]

theorem execStepClkWindow_view {k} (hk : k &&& 15463292 = k) {a0 s t} (h : execStepClkWindow a0 s = .next t) : t.view k =
    s.view k := by
  refine view_le hk ?_
  unfold execStepClkWindow at h
  (repeat' split at h) <;> simp only [Host.Outcome.next.injEq, Except.ok.injEq, Option.some.injEq, reduceCtorEq] at h <;> subst h <;> simp only [advanceTo_view, view_upd, fixed_mk, fixed_eta, apply_ite (State.view _), ite_self, Nat.reduceAnd, Nat.reduceDiv, Nat.reduceMod, Nat.zero_ne_one, implies_true, false_implies, Nat.div_one, kvSorted_kvPut, List.length_modify, List.length_map, List.length_set, List.length_mapIdx]

theorem execFfDutyStart_view {k} (hk : k &&& 15463276 = k) {a0 s t} (h : execFfDutyStart a0 s = .next t) : t.view k = s.view
    k := by
  refine view_le hk ?_
  unfold execFfDutyStart at h
  simp only [Host.Outcome.next.injEq, Except.ok.injEq, Option.some.injEq] at h
  subst h
  simp only [dutyStart_view, view_upd, fixed_mk, fixed_eta, apply_ite (State.view _), ite_self, Nat.reduceAnd,
      Nat.reduceDiv, Nat.reduceMod, Nat.zero_ne_one, implies_true, false_implies, Nat.div_one, kvSorted_kvPut,
      List.length_modify, List.length_map, List.length_set, List.length_mapIdx]

theorem execFfShimPost_view {k} (hk : k &&& 15454844 = k) {s t} (h : execFfShimPost s = .next t) : t.view k = s.view k := by
  refine view_le hk ?_
  unfold execFfShimPost at h
  grind [view_upd, fixed_mk, fixed_eta, List.length_modify, advanceTo_view, postShims_view, armPlan_view]

theorem execTablePageCopied_view {k} (hk : k &&& 16646013 = k) {a0 a1 s t} (h : execTablePageCopied a0 a1 s = .next t) :
    t.view k = s.view k := by
  refine view_le hk ?_
  unfold execTablePageCopied at h
  (repeat' split at h) <;> simp only [Host.Outcome.next.injEq, Except.ok.injEq, Option.some.injEq, reduceCtorEq] at h <;> subst h <;> simp only [loadData_view, dmaGiveUse_view, view_upd, fixed_mk, fixed_eta, apply_ite (State.view _), ite_self, Nat.reduceAnd, Nat.reduceDiv, Nat.reduceMod, Nat.zero_ne_one, implies_true, false_implies, Nat.div_one, kvSorted_kvPut, List.length_modify, List.length_map, List.length_set, List.length_mapIdx]

theorem execPageFree_view {k} (hk : k &&& 16777087 = k) {a0 s t} (h : execPageFree a0 s = .next t) : t.view k = s.view k := by
  refine view_le hk ?_
  unfold execPageFree at h
  simp only [Host.Outcome.next.injEq, Except.ok.injEq, Option.some.injEq] at h
  subst h
  simp only [State.updSlot_view, view_upd, fixed_mk, fixed_eta, apply_ite (State.view _), ite_self, Nat.reduceAnd,
      Nat.reduceDiv, Nat.reduceMod, Nat.zero_ne_one, implies_true, false_implies, Nat.div_one, kvSorted_kvPut,
      List.length_modify, List.length_map, List.length_set, List.length_mapIdx]

theorem execSyncBind_view {k} (hk : k &&& 15663101 = k) {a0 a1 s t} (h : execSyncBind a0 a1 s = .next t) : t.view k = s.view
    k := by
  refine view_le hk ?_
  unfold execSyncBind at h
  simp only [Host.Outcome.next.injEq, Except.ok.injEq, Option.some.injEq] at h
  subst h
  simp only [syncWord_view, view_upd, fixed_mk, fixed_eta, apply_ite (State.view _), ite_self, Nat.reduceAnd, Nat.reduceDiv,
      Nat.reduceMod, Nat.zero_ne_one, implies_true, false_implies, Nat.div_one, kvSorted_kvPut, List.length_modify,
      List.length_map, List.length_set, List.length_mapIdx]

theorem execSyncSignal_view {k} (hk : k &&& 15663101 = k) {a0 a1 s t} (h : execSyncSignal a0 a1 s = .next t) : t.view k =
    s.view k := by
  refine view_le hk ?_
  unfold execSyncSignal at h
  simp only [Host.Outcome.next.injEq, Except.ok.injEq, Option.some.injEq] at h
  subst h
  simp only [syncWord_view, view_upd, fixed_mk, fixed_eta, apply_ite (State.view _), ite_self, Nat.reduceAnd, Nat.reduceDiv,
      Nat.reduceMod, Nat.zero_ne_one, implies_true, false_implies, Nat.div_one, kvSorted_kvPut, List.length_modify,
      List.length_map, List.length_set, List.length_mapIdx]

theorem execSyncAcquire_view {k} (hk : k &&& 15663101 = k) {a0 a1 s t} (h : execSyncAcquire a0 a1 s = .next t) : t.view k =
    s.view k := by
  refine view_le hk ?_
  unfold execSyncAcquire at h
  simp only [Host.Outcome.next.injEq, Except.ok.injEq, Option.some.injEq] at h
  subst h
  simp only [syncWord_view, view_upd, fixed_mk, fixed_eta, apply_ite (State.view _), ite_self, Nat.reduceAnd, Nat.reduceDiv,
      Nat.reduceMod, Nat.zero_ne_one, implies_true, false_implies, Nat.div_one, kvSorted_kvPut, List.length_modify,
      List.length_map, List.length_set, List.length_mapIdx]

theorem execSyncWait_view {k} (hk : k &&& 15663101 = k) {a0 a1 s t} (h : execSyncWait a0 a1 s = .next t) : t.view k = s.view
    k := by
  refine view_le hk ?_
  unfold execSyncWait at h
  simp only [Host.Outcome.next.injEq, Except.ok.injEq, Option.some.injEq] at h
  subst h
  simp only [syncWord_view, view_upd, fixed_mk, fixed_eta, apply_ite (State.view _), ite_self, Nat.reduceAnd, Nat.reduceDiv,
      Nat.reduceMod, Nat.zero_ne_one, implies_true, false_implies, Nat.div_one, kvSorted_kvPut, List.length_modify,
      List.length_map, List.length_set, List.length_mapIdx]

theorem execSyncCancel_view {k} (hk : k &&& 15663101 = k) {a0 a1 s t} (h : execSyncCancel a0 a1 s = .next t) : t.view k =
    s.view k := by
  refine view_le hk ?_
  unfold execSyncCancel at h
  simp only [Host.Outcome.next.injEq, Except.ok.injEq, Option.some.injEq] at h
  subst h
  simp only [syncWord_view, view_upd, fixed_mk, fixed_eta, apply_ite (State.view _), ite_self, Nat.reduceAnd, Nat.reduceDiv,
      Nat.reduceMod, Nat.zero_ne_one, implies_true, false_implies, Nat.div_one, kvSorted_kvPut, List.length_modify,
      List.length_map, List.length_set, List.length_mapIdx]

theorem gaugesCome_view {k} (hk : k &&& 0 = k) (s) : (gaugesCome s).view k = s.view k := by
  refine view_le hk ?_
  unfold gaugesCome
  simp only [functionDefaults_view, buildGauges_view, advanceTo_view, view_upd, fixed_mk, fixed_eta, apply_ite (State.view
      _), ite_self, Nat.reduceAnd, Nat.reduceDiv, Nat.reduceMod, Nat.zero_ne_one, implies_true, false_implies, Nat.div_one,
      kvSorted_kvPut, List.length_modify, List.length_map, List.length_set, List.length_mapIdx]

theorem execGaugeInstant_view {k} (hk : k &&& 0 = k) {a0 s t} (h : execGaugeInstant a0 s = .next t) : t.view k = s.view k := by
  refine view_le hk ?_
  unfold execGaugeInstant at h
  (repeat' split at h) <;> simp only [Host.Outcome.next.injEq, Except.ok.injEq, Option.some.injEq, reduceCtorEq] at h <;> subst h <;> simp only [gaugeInstant_view, gaugesCome_view, view_upd, fixed_mk, fixed_eta, apply_ite (State.view _), ite_self, Nat.reduceAnd, Nat.reduceDiv, Nat.reduceMod, Nat.zero_ne_one, implies_true, false_implies, Nat.div_one, kvSorted_kvPut, List.length_modify, List.length_map, List.length_set, List.length_mapIdx]

theorem execGaugeSuspect_view {k} (hk : k &&& 15446148 = k) {a0 s t} (h : execGaugeSuspect a0 s = .next t) : t.view k =
    s.view k := by
  refine view_le hk ?_
  unfold execGaugeSuspect at h
  simp only [Host.Outcome.next.injEq, Except.ok.injEq, Option.some.injEq] at h
  subst h
  simp only [gaugeSuspect_view, view_upd, fixed_mk, fixed_eta, apply_ite (State.view _), ite_self, Nat.reduceAnd,
      Nat.reduceDiv, Nat.reduceMod, Nat.zero_ne_one, implies_true, false_implies, Nat.div_one, kvSorted_kvPut,
      List.length_modify, List.length_map, List.length_set, List.length_mapIdx]

theorem execThermalStepExpiry_view {k} (hk : k &&& 15447036 = k) {a0 s t} (h : execThermalStepExpiry a0 s = .next t) :
    t.view k = s.view k := by
  refine view_le hk ?_
  unfold execThermalStepExpiry at h
  (repeat' split at h) <;> simp only [Host.Outcome.next.injEq, Except.ok.injEq, Option.some.injEq, reduceCtorEq] at h <;> subst h <;> simp only [thermalStep_view, view_upd, fixed_mk, fixed_eta, apply_ite (State.view _), ite_self, Nat.reduceAnd, Nat.reduceDiv, Nat.reduceMod, Nat.zero_ne_one, implies_true, false_implies, Nat.div_one, kvSorted_kvPut, List.length_modify, List.length_map, List.length_set, List.length_mapIdx]

theorem execThermalRaiseHoldExpiry_view {k} (hk : k &&& 15446972 = k) {a0 s t} (h : execThermalRaiseHoldExpiry a0 s = .next
    t) : t.view k = s.view k := by
  refine view_le hk ?_
  unfold execThermalRaiseHoldExpiry at h
  (repeat' split at h) <;> simp only [Host.Outcome.next.injEq, Except.ok.injEq, Option.some.injEq, reduceCtorEq] at h <;> subst h <;> simp only [thermalRaise_view, view_upd, fixed_mk, fixed_eta, apply_ite (State.view _), ite_self, Nat.reduceAnd, Nat.reduceDiv, Nat.reduceMod, Nat.zero_ne_one, implies_true, false_implies, Nat.div_one, kvSorted_kvPut, List.length_modify, List.length_map, List.length_set, List.length_mapIdx]

theorem execRateHoldExpiry_view {k} (hk : k &&& 15446972 = k) {a0 s t} (h : execRateHoldExpiry a0 s = .next t) : t.view k =
    s.view k := by
  refine view_le hk ?_
  unfold execRateHoldExpiry at h
  (repeat' split at h) <;> simp only [Host.Outcome.next.injEq, Except.ok.injEq, Option.some.injEq, reduceCtorEq] at h <;> subst h <;> simp only [rateHoldEnd_view, view_upd, fixed_mk, fixed_eta, apply_ite (State.view _), ite_self, Nat.reduceAnd, Nat.reduceDiv, Nat.reduceMod, Nat.zero_ne_one, implies_true, false_implies, Nat.div_one, kvSorted_kvPut, List.length_modify, List.length_map, List.length_set, List.length_mapIdx]

theorem execHardTripComparatorRise_view {k} (hk : k &&& 16760831 = k) {a0 s t} (h : execHardTripComparatorRise a0 s = .next
    t) : t.view k = s.view k := by
  refine view_le hk ?_
  unfold execHardTripComparatorRise at h
  (repeat' split at h) <;> simp only [Host.Outcome.next.injEq, Except.ok.injEq, Option.some.injEq, reduceCtorEq] at h <;> subst h <;> simp only [updTrip_view, view_upd, fixed_mk, fixed_eta, apply_ite (State.view _), ite_self, Nat.reduceAnd, Nat.reduceDiv, Nat.reduceMod, Nat.zero_ne_one, implies_true, false_implies, Nat.div_one, kvSorted_kvPut, List.length_modify, List.length_map, List.length_set, List.length_mapIdx]

theorem execHardTripComparatorFall_view {k} (hk : k &&& 16760831 = k) {a0 s t} (h : execHardTripComparatorFall a0 s = .next
    t) : t.view k = s.view k := by
  refine view_le hk ?_
  unfold execHardTripComparatorFall at h
  simp only [Host.Outcome.next.injEq, Except.ok.injEq, Option.some.injEq] at h
  subst h
  simp only [updTrip_view, view_upd, fixed_mk, fixed_eta, apply_ite (State.view _), ite_self, Nat.reduceAnd, Nat.reduceDiv,
      Nat.reduceMod, Nat.zero_ne_one, implies_true, false_implies, Nat.div_one, kvSorted_kvPut, List.length_modify,
      List.length_map, List.length_set, List.length_mapIdx]

theorem execHardTrip_view {k} (hk : k &&& 15446148 = k) {a0 s t} (h : execHardTrip a0 s = .next t) : t.view k = s.view k := by
  refine view_le hk ?_
  unfold execHardTrip at h
  (repeat' split at h) <;> simp only [Host.Outcome.next.injEq, Except.ok.injEq, Option.some.injEq, reduceCtorEq] at h <;> subst h <;> simp only [hardTrip_view, view_upd, fixed_mk, fixed_eta, apply_ite (State.view _), ite_self, Nat.reduceAnd, Nat.reduceDiv, Nat.reduceMod, Nat.zero_ne_one, implies_true, false_implies, Nat.div_one, kvSorted_kvPut, List.length_modify, List.length_map, List.length_set, List.length_mapIdx]

theorem execGaugeCommandDone_view {k} (hk : k &&& 15446148 = k) {a0 s t} (h : execGaugeCommandDone a0 s = .next t) : t.view
    k = s.view k := by
  refine view_le hk ?_
  unfold execGaugeCommandDone at h
  simp only [Host.Outcome.next.injEq, Except.ok.injEq, Option.some.injEq] at h
  subst h
  simp only [gaugeDone_view, view_upd, fixed_mk, fixed_eta, apply_ite (State.view _), ite_self, Nat.reduceAnd,
      Nat.reduceDiv, Nat.reduceMod, Nat.zero_ne_one, implies_true, false_implies, Nat.div_one, kvSorted_kvPut,
      List.length_modify, List.length_map, List.length_set, List.length_mapIdx]

theorem execGaugeCalStoreDone_view {k} (hk : k &&& 15974396 = k) {a0 s t} (h : execGaugeCalStoreDone a0 s = .next t) :
    t.view k = s.view k := by
  refine view_le hk ?_
  unfold execGaugeCalStoreDone at h
  simp only [Host.Outcome.next.injEq, Except.ok.injEq, Option.some.injEq] at h
  subst h
  simp only [gaugeCalStored_view, view_upd, fixed_mk, fixed_eta, apply_ite (State.view _), ite_self, Nat.reduceAnd,
      Nat.reduceDiv, Nat.reduceMod, Nat.zero_ne_one, implies_true, false_implies, Nat.div_one, kvSorted_kvPut,
      List.length_modify, List.length_map, List.length_set, List.length_mapIdx]

theorem execRelayTimeout_view {k} (hk : k &&& 15446148 = k) {a0 s t} (h : execRelayTimeout a0 s = .next t) : t.view k =
    s.view k := by
  refine view_le hk ?_
  unfold execRelayTimeout at h
  (repeat' split at h) <;> simp only [Host.Outcome.next.injEq, Except.ok.injEq, Option.some.injEq, reduceCtorEq] at h <;> subst h <;> simp only [relayLost_view, advanceTo_view, view_upd, fixed_mk, fixed_eta, apply_ite (State.view _), ite_self, Nat.reduceAnd, Nat.reduceDiv, Nat.reduceMod, Nat.zero_ne_one, implies_true, false_implies, Nat.div_one, kvSorted_kvPut, List.length_modify, List.length_map, List.length_set, List.length_mapIdx]

theorem execThermalModelUpdate_view {k} (hk : k &&& 15446148 = k) {s t} (h : execThermalModelUpdate s = .next t) : t.view k
    = s.view k := by
  refine view_le hk ?_
  unfold execThermalModelUpdate at h
  (repeat' split at h) <;> simp only [Host.Outcome.next.injEq, Except.ok.injEq, Option.some.injEq, reduceCtorEq] at h <;> subst h <;> simp only [modelUpdate_view, view_upd, fixed_mk, fixed_eta, apply_ite (State.view _), ite_self, Nat.reduceAnd, Nat.reduceDiv, Nat.reduceMod, Nat.zero_ne_one, implies_true, false_implies, Nat.div_one, kvSorted_kvPut, List.length_modify, List.length_map, List.length_set, List.length_mapIdx]

theorem execPredictHoldExpiry_view {k} (hk : k &&& 15447036 = k) {a0 s t} (h : execPredictHoldExpiry a0 s = .next t) :
    t.view k = s.view k := by
  refine view_le hk ?_
  unfold execPredictHoldExpiry at h
  (repeat' split at h) <;> simp only [Host.Outcome.next.injEq, Except.ok.injEq, Option.some.injEq, reduceCtorEq] at h <;> subst h <;> simp only [predictEnd_view, view_upd, fixed_mk, fixed_eta, apply_ite (State.view _), ite_self, Nat.reduceAnd, Nat.reduceDiv, Nat.reduceMod, Nat.zero_ne_one, implies_true, false_implies, Nat.div_one, kvSorted_kvPut, List.length_modify, List.length_map, List.length_set, List.length_mapIdx]

theorem execRearmLevelCrossing_view {k} (hk : k &&& 16760831 = k) {a0 a1 s t} (h : execRearmLevelCrossing a0 a1 s = .next t)
    : t.view k = s.view k := by
  refine view_le hk ?_
  unfold execRearmLevelCrossing at h
  (repeat' split at h) <;> simp only [Host.Outcome.next.injEq, Except.ok.injEq, Option.some.injEq, reduceCtorEq] at h <;> subst h <;> simp only [rearmCross_view, view_upd, fixed_mk, fixed_eta, apply_ite (State.view _), ite_self, Nat.reduceAnd, Nat.reduceDiv, Nat.reduceMod, Nat.zero_ne_one, implies_true, false_implies, Nat.div_one, kvSorted_kvPut, List.length_modify, List.length_map, List.length_set, List.length_mapIdx]

theorem execLastFaultWrite_view {k} (hk : k &&& 15990716 = k) {ok s t} (h : execLastFaultWrite ok s = .next t) : t.view k =
    s.view k := by
  refine view_le hk ?_
  have hp : ∀ (u : State) (x : List LastFault), State.view 15990716 { u with prot := { u.prot with retention := x } } =
      u.view 15990716 :=
    fun u x => by simp only [view_upd, fixed_mk, fixed_eta, apply_ite (State.view _), ite_self, Nat.reduceAnd,
        Nat.reduceDiv, Nat.reduceMod, Nat.zero_ne_one, implies_true, false_implies, kvSorted_kvPut, List.length_modify,
        List.length_map, List.length_set, List.length_mapIdx]
  unfold execLastFaultWrite at h
  split at h
  · split at h
    · split at h
      · rename_i r l _ _ _ u hu
        rw [← Host.Outcome.next.inj h, flashNext_view (by decide), flashOk_view (by decide)]
        refine (hp _ _).trans ?_
        cases ok with
        | true => exact lfWrite_view (by decide) hu
        | false => cases hu
      · rw [← Host.Outcome.next.inj h, flashRun_view (by decide), State.bump32_view (by decide)]
    · rw [← Host.Outcome.next.inj h]
  · rw [← Host.Outcome.next.inj h]

theorem execRailEnableOn_view {k} (hk : k &&& 0 = k) {a0 a1 a2 s t} (h : execRailEnableOn a0 a1 a2 s = .next t) : t.view k =
    s.view k := by
  refine view_le hk ?_
  unfold execRailEnableOn at h
  simp only [Host.Outcome.next.injEq, Except.ok.injEq, Option.some.injEq] at h
  subst h
  simp only [clWhole_view, view_upd, fixed_mk, fixed_eta, apply_ite (State.view _), ite_self, Nat.reduceAnd, Nat.reduceDiv,
      Nat.reduceMod, Nat.zero_ne_one, implies_true, false_implies, Nat.div_one, kvSorted_kvPut, List.length_modify,
      List.length_map, List.length_set, List.length_mapIdx]

theorem execRailEnableOff_view {k} (hk : k &&& 0 = k) {a0 a1 a2 s t} (h : execRailEnableOff a0 a1 a2 s = .next t) : t.view k
    = s.view k := by
  refine view_le hk ?_
  unfold execRailEnableOff at h
  simp only [Host.Outcome.next.injEq, Except.ok.injEq, Option.some.injEq] at h
  subst h
  simp only [clWhole_view, view_upd, fixed_mk, fixed_eta, apply_ite (State.view _), ite_self, Nat.reduceAnd, Nat.reduceDiv,
      Nat.reduceMod, Nat.zero_ne_one, implies_true, false_implies, Nat.div_one, kvSorted_kvPut, List.length_modify,
      List.length_map, List.length_set, List.length_mapIdx]

theorem execGroupMove_view {k} (hk : k &&& 0 = k) {a0 a1 s t} (h : execGroupMove a0 a1 s = .next t) : t.view k = s.view k := by
  refine view_le hk ?_
  unfold execGroupMove at h
  simp only [Host.Outcome.next.injEq, Except.ok.injEq, Option.some.injEq] at h
  subst h
  simp only [clWhole_view, view_upd, fixed_mk, fixed_eta, apply_ite (State.view _), ite_self, Nat.reduceAnd, Nat.reduceDiv,
      Nat.reduceMod, Nat.zero_ne_one, implies_true, false_implies, Nat.div_one, kvSorted_kvPut, List.length_modify,
      List.length_map, List.length_set, List.length_mapIdx]

theorem execGroupStop_view {k} (hk : k &&& 0 = k) {a0 a1 s t} (h : execGroupStop a0 a1 s = .next t) : t.view k = s.view k := by
  refine view_le hk ?_
  unfold execGroupStop at h
  simp only [Host.Outcome.next.injEq, Except.ok.injEq, Option.some.injEq] at h
  subst h
  simp only [clWhole_view, view_upd, fixed_mk, fixed_eta, apply_ite (State.view _), ite_self, Nat.reduceAnd, Nat.reduceDiv,
      Nat.reduceMod, Nat.zero_ne_one, implies_true, false_implies, Nat.div_one, kvSorted_kvPut, List.length_modify,
      List.length_map, List.length_set, List.length_mapIdx]

theorem execSetpointWrite_view {k} (hk : k &&& 0 = k) {a0 a1 a2 s t} (h : execSetpointWrite a0 a1 a2 s = .next t) : t.view k
    = s.view k := by
  refine view_le hk ?_
  unfold execSetpointWrite at h
  simp only [Host.Outcome.next.injEq, Except.ok.injEq, Option.some.injEq] at h
  subst h
  simp only [clWhole_view, view_upd, fixed_mk, fixed_eta, apply_ite (State.view _), ite_self, Nat.reduceAnd, Nat.reduceDiv,
      Nat.reduceMod, Nat.zero_ne_one, implies_true, false_implies, Nat.div_one, kvSorted_kvPut, List.length_modify,
      List.length_map, List.length_set, List.length_mapIdx]

theorem execBankSwap_view {k} (hk : k &&& 0 = k) {a0 a1 a2 s t} (h : execBankSwap a0 a1 a2 s = .next t) : t.view k = s.view
    k := by
  refine view_le hk ?_
  unfold execBankSwap at h
  simp only [Host.Outcome.next.injEq, Except.ok.injEq, Option.some.injEq] at h
  subst h
  simp only [clWhole_view, view_upd, fixed_mk, fixed_eta, apply_ite (State.view _), ite_self, Nat.reduceAnd, Nat.reduceDiv,
      Nat.reduceMod, Nat.zero_ne_one, implies_true, false_implies, Nat.div_one, kvSorted_kvPut, List.length_modify,
      List.length_map, List.length_set, List.length_mapIdx]

theorem execPhaseControllerWrite_view {k} (hk : k &&& 0 = k) {a0 a1 a2 s t} (h : execPhaseControllerWrite a0 a1 a2 s = .next
    t) : t.view k = s.view k := by
  refine view_le hk ?_
  unfold execPhaseControllerWrite at h
  simp only [Host.Outcome.next.injEq, Except.ok.injEq, Option.some.injEq] at h
  subst h
  simp only [clWhole_view, view_upd, fixed_mk, fixed_eta, apply_ite (State.view _), ite_self, Nat.reduceAnd, Nat.reduceDiv,
      Nat.reduceMod, Nat.zero_ne_one, implies_true, false_implies, Nat.div_one, kvSorted_kvPut, List.length_modify,
      List.length_map, List.length_set, List.length_mapIdx]

theorem execPhaseOutOfService_view {k} (hk : k &&& 0 = k) {a0 a1 a2 s t} (h : execPhaseOutOfService a0 a1 a2 s = .next t) :
    t.view k = s.view k := by
  refine view_le hk ?_
  unfold execPhaseOutOfService at h
  simp only [Host.Outcome.next.injEq, Except.ok.injEq, Option.some.injEq] at h
  subst h
  simp only [clWhole_view, view_upd, fixed_mk, fixed_eta, apply_ite (State.view _), ite_self, Nat.reduceAnd, Nat.reduceDiv,
      Nat.reduceMod, Nat.zero_ne_one, implies_true, false_implies, Nat.div_one, kvSorted_kvPut, List.length_modify,
      List.length_map, List.length_set, List.length_mapIdx]

theorem execPhaseReinstate_view {k} (hk : k &&& 0 = k) {a0 a1 a2 s t} (h : execPhaseReinstate a0 a1 a2 s = .next t) : t.view
    k = s.view k := by
  refine view_le hk ?_
  unfold execPhaseReinstate at h
  simp only [Host.Outcome.next.injEq, Except.ok.injEq, Option.some.injEq] at h
  subst h
  simp only [clWhole_view, view_upd, fixed_mk, fixed_eta, apply_ite (State.view _), ite_self, Nat.reduceAnd, Nat.reduceDiv,
      Nat.reduceMod, Nat.zero_ne_one, implies_true, false_implies, Nat.div_one, kvSorted_kvPut, List.length_modify,
      List.length_map, List.length_set, List.length_mapIdx]

theorem execSlotSwap_view {k} (hk : k &&& 0 = k) {a0 a1 a2 s t} (h : execSlotSwap a0 a1 a2 s = .next t) : t.view k = s.view
    k := by
  refine view_le hk ?_
  unfold execSlotSwap at h
  simp only [Host.Outcome.next.injEq, Except.ok.injEq, Option.some.injEq] at h
  subst h
  simp only [clWhole_view, view_upd, fixed_mk, fixed_eta, apply_ite (State.view _), ite_self, Nat.reduceAnd, Nat.reduceDiv,
      Nat.reduceMod, Nat.zero_ne_one, implies_true, false_implies, Nat.div_one, kvSorted_kvPut, List.length_modify,
      List.length_map, List.length_set, List.length_mapIdx]

theorem execSlotEnable_view {k} (hk : k &&& 0 = k) {a0 a1 a2 s t} (h : execSlotEnable a0 a1 a2 s = .next t) : t.view k =
    s.view k := by
  refine view_le hk ?_
  unfold execSlotEnable at h
  simp only [Host.Outcome.next.injEq, Except.ok.injEq, Option.some.injEq] at h
  subst h
  simp only [clWhole_view, view_upd, fixed_mk, fixed_eta, apply_ite (State.view _), ite_self, Nat.reduceAnd, Nat.reduceDiv,
      Nat.reduceMod, Nat.zero_ne_one, implies_true, false_implies, Nat.div_one, kvSorted_kvPut, List.length_modify,
      List.length_map, List.length_set, List.length_mapIdx]

theorem execSlotProgramWrite_view {k} (hk : k &&& 0 = k) {a0 a1 a2 s t} (h : execSlotProgramWrite a0 a1 a2 s = .next t) :
    t.view k = s.view k := by
  refine view_le hk ?_
  unfold execSlotProgramWrite at h
  simp only [Host.Outcome.next.injEq, Except.ok.injEq, Option.some.injEq] at h
  subst h
  simp only [clWhole_view, view_upd, fixed_mk, fixed_eta, apply_ite (State.view _), ite_self, Nat.reduceAnd, Nat.reduceDiv,
      Nat.reduceMod, Nat.zero_ne_one, implies_true, false_implies, Nat.div_one, kvSorted_kvPut, List.length_modify,
      List.length_map, List.length_set, List.length_mapIdx]

theorem execSlotRelease_view {k} (hk : k &&& 0 = k) {a0 a1 a2 s t} (h : execSlotRelease a0 a1 a2 s = .next t) : t.view k =
    s.view k := by
  refine view_le hk ?_
  unfold execSlotRelease at h
  simp only [Host.Outcome.next.injEq, Except.ok.injEq, Option.some.injEq] at h
  subst h
  simp only [clWhole_view, view_upd, fixed_mk, fixed_eta, apply_ite (State.view _), ite_self, Nat.reduceAnd, Nat.reduceDiv,
      Nat.reduceMod, Nat.zero_ne_one, implies_true, false_implies, Nat.div_one, kvSorted_kvPut, List.length_modify,
      List.length_map, List.length_set, List.length_mapIdx]

theorem execKerfTestStart_view {k} (hk : k &&& 0 = k) {a0 a1 a2 s t} (h : execKerfTestStart a0 a1 a2 s = .next t) : t.view k
    = s.view k := by
  refine view_le hk ?_
  unfold execKerfTestStart at h
  simp only [Host.Outcome.next.injEq, Except.ok.injEq, Option.some.injEq] at h
  subst h
  simp only [clWhole_view, view_upd, fixed_mk, fixed_eta, apply_ite (State.view _), ite_self, Nat.reduceAnd, Nat.reduceDiv,
      Nat.reduceMod, Nat.zero_ne_one, implies_true, false_implies, Nat.div_one, kvSorted_kvPut, List.length_modify,
      List.length_map, List.length_set, List.length_mapIdx]

theorem execRegionTargetWrite_view {k} (hk : k &&& 0 = k) {a0 a1 a2 s t} (h : execRegionTargetWrite a0 a1 a2 s = .next t) :
    t.view k = s.view k := by
  refine view_le hk ?_
  unfold execRegionTargetWrite at h
  simp only [Host.Outcome.next.injEq, Except.ok.injEq, Option.some.injEq] at h
  subst h
  simp only [clWhole_view, view_upd, fixed_mk, fixed_eta, apply_ite (State.view _), ite_self, Nat.reduceAnd, Nat.reduceDiv,
      Nat.reduceMod, Nat.zero_ne_one, implies_true, false_implies, Nat.div_one, kvSorted_kvPut, List.length_modify,
      List.length_map, List.length_set, List.length_mapIdx]

theorem execSetpointMapTileWrite_view {k} (hk : k &&& 0 = k) {a0 a1 a2 s t} (h : execSetpointMapTileWrite a0 a1 a2 s = .next
    t) : t.view k = s.view k := by
  refine view_le hk ?_
  unfold execSetpointMapTileWrite at h
  simp only [Host.Outcome.next.injEq, Except.ok.injEq, Option.some.injEq] at h
  subst h
  simp only [clWhole_view, view_upd, fixed_mk, fixed_eta, apply_ite (State.view _), ite_self, Nat.reduceAnd, Nat.reduceDiv,
      Nat.reduceMod, Nat.zero_ne_one, implies_true, false_implies, Nat.div_one, kvSorted_kvPut, List.length_modify,
      List.length_map, List.length_set, List.length_mapIdx]

theorem execRegionModeWrite_view {k} (hk : k &&& 0 = k) {a0 a1 a2 s t} (h : execRegionModeWrite a0 a1 a2 s = .next t) :
    t.view k = s.view k := by
  refine view_le hk ?_
  unfold execRegionModeWrite at h
  simp only [Host.Outcome.next.injEq, Except.ok.injEq, Option.some.injEq] at h
  subst h
  simp only [clWhole_view, view_upd, fixed_mk, fixed_eta, apply_ite (State.view _), ite_self, Nat.reduceAnd, Nat.reduceDiv,
      Nat.reduceMod, Nat.zero_ne_one, implies_true, false_implies, Nat.div_one, kvSorted_kvPut, List.length_modify,
      List.length_map, List.length_set, List.length_mapIdx]

theorem execTileSourceSelect_view {k} (hk : k &&& 0 = k) {a0 a1 s t} (h : execTileSourceSelect a0 a1 s = .next t) : t.view k
    = s.view k := by
  refine view_le hk ?_
  unfold execTileSourceSelect at h
  simp only [Host.Outcome.next.injEq, Except.ok.injEq, Option.some.injEq] at h
  subst h
  simp only [clWhole_view, view_upd, fixed_mk, fixed_eta, apply_ite (State.view _), ite_self, Nat.reduceAnd, Nat.reduceDiv,
      Nat.reduceMod, Nat.zero_ne_one, implies_true, false_implies, Nat.div_one, kvSorted_kvPut, List.length_modify,
      List.length_map, List.length_set, List.length_mapIdx]

theorem execPointRequestWrite_view {k} (hk : k &&& 0 = k) {a0 a1 s t} (h : execPointRequestWrite a0 a1 s = .next t) : t.view
    k = s.view k := by
  refine view_le hk ?_
  unfold execPointRequestWrite at h
  simp only [Host.Outcome.next.injEq, Except.ok.injEq, Option.some.injEq] at h
  subst h
  simp only [clWhole_view, view_upd, fixed_mk, fixed_eta, apply_ite (State.view _), ite_self, Nat.reduceAnd, Nat.reduceDiv,
      Nat.reduceMod, Nat.zero_ne_one, implies_true, false_implies, Nat.div_one, kvSorted_kvPut, List.length_modify,
      List.length_map, List.length_set, List.length_mapIdx]

theorem execAdopt_view {k} (hk : k &&& 0 = k) {a0 a1 s t} (h : execAdopt a0 a1 s = .next t) : t.view k = s.view k := by
  refine view_le hk ?_
  unfold execAdopt at h
  simp only [Host.Outcome.next.injEq, Except.ok.injEq, Option.some.injEq] at h
  subst h
  simp only [clWhole_view, view_upd, fixed_mk, fixed_eta, apply_ite (State.view _), ite_self, Nat.reduceAnd, Nat.reduceDiv,
      Nat.reduceMod, Nat.zero_ne_one, implies_true, false_implies, Nat.div_one, kvSorted_kvPut, List.length_modify,
      List.length_map, List.length_set, List.length_mapIdx]

theorem execPolicyWrite_view {k} (hk : k &&& 0 = k) {a0 a1 s t} (h : execPolicyWrite a0 a1 s = .next t) : t.view k = s.view
    k := by
  refine view_le hk ?_
  unfold execPolicyWrite at h
  simp only [Host.Outcome.next.injEq, Except.ok.injEq, Option.some.injEq] at h
  subst h
  simp only [clWhole_view, view_upd, fixed_mk, fixed_eta, apply_ite (State.view _), ite_self, Nat.reduceAnd, Nat.reduceDiv,
      Nat.reduceMod, Nat.zero_ne_one, implies_true, false_implies, Nat.div_one, kvSorted_kvPut, List.length_modify,
      List.length_map, List.length_set, List.length_mapIdx]

theorem execEnforceWrite_view {k} (hk : k &&& 0 = k) {a0 a1 s t} (h : execEnforceWrite a0 a1 s = .next t) : t.view k =
    s.view k := by
  refine view_le hk ?_
  unfold execEnforceWrite at h
  simp only [Host.Outcome.next.injEq, Except.ok.injEq, Option.some.injEq] at h
  subst h
  simp only [clWhole_view, view_upd, fixed_mk, fixed_eta, apply_ite (State.view _), ite_self, Nat.reduceAnd, Nat.reduceDiv,
      Nat.reduceMod, Nat.zero_ne_one, implies_true, false_implies, Nat.div_one, kvSorted_kvPut, List.length_modify,
      List.length_map, List.length_set, List.length_mapIdx]

theorem execTilePartitionMapWrite_view {k} (hk : k &&& 0 = k) {a0 a1 s t} (h : execTilePartitionMapWrite a0 a1 s = .next t)
    : t.view k = s.view k := by
  refine view_le hk ?_
  unfold execTilePartitionMapWrite at h
  simp only [Host.Outcome.next.injEq, Except.ok.injEq, Option.some.injEq] at h
  subst h
  simp only [clWhole_view, view_upd, fixed_mk, fixed_eta, apply_ite (State.view _), ite_self, Nat.reduceAnd, Nat.reduceDiv,
      Nat.reduceMod, Nat.zero_ne_one, implies_true, false_implies, Nat.div_one, kvSorted_kvPut, List.length_modify,
      List.length_map, List.length_set, List.length_mapIdx]

theorem execPackageBarrierCancel_view {k} (hk : k &&& 0 = k) {a0 a1 s t} (h : execPackageBarrierCancel a0 a1 s = .next t) :
    t.view k = s.view k := by
  refine view_le hk ?_
  unfold execPackageBarrierCancel at h
  simp only [Host.Outcome.next.injEq, Except.ok.injEq, Option.some.injEq] at h
  subst h
  simp only [clWhole_view, view_upd, fixed_mk, fixed_eta, apply_ite (State.view _), ite_self, Nat.reduceAnd, Nat.reduceDiv,
      Nat.reduceMod, Nat.zero_ne_one, implies_true, false_implies, Nat.div_one, kvSorted_kvPut, List.length_modify,
      List.length_map, List.length_set, List.length_mapIdx]

theorem execGaugeReferenceCycle_view {k} (hk : k &&& 0 = k) {a0 a1 s t} (h : execGaugeReferenceCycle a0 a1 s = .next t) :
    t.view k = s.view k := by
  refine view_le hk ?_
  unfold execGaugeReferenceCycle at h
  simp only [Host.Outcome.next.injEq, Except.ok.injEq, Option.some.injEq] at h
  subst h
  simp only [clWhole_view, view_upd, fixed_mk, fixed_eta, apply_ite (State.view _), ite_self, Nat.reduceAnd, Nat.reduceDiv,
      Nat.reduceMod, Nat.zero_ne_one, implies_true, false_implies, Nat.div_one, kvSorted_kvPut, List.length_modify,
      List.length_map, List.length_set, List.length_mapIdx]

theorem execGaugeAlign_view {k} (hk : k &&& 0 = k) {a0 a1 s t} (h : execGaugeAlign a0 a1 s = .next t) : t.view k = s.view k
    := by
  refine view_le hk ?_
  unfold execGaugeAlign at h
  simp only [Host.Outcome.next.injEq, Except.ok.injEq, Option.some.injEq] at h
  subst h
  simp only [clWhole_view, view_upd, fixed_mk, fixed_eta, apply_ite (State.view _), ite_self, Nat.reduceAnd, Nat.reduceDiv,
      Nat.reduceMod, Nat.zero_ne_one, implies_true, false_implies, Nat.div_one, kvSorted_kvPut, List.length_modify,
      List.length_map, List.length_set, List.length_mapIdx]

theorem execGaugeClear_view {k} (hk : k &&& 0 = k) {a0 a1 s t} (h : execGaugeClear a0 a1 s = .next t) : t.view k = s.view k
    := by
  refine view_le hk ?_
  unfold execGaugeClear at h
  simp only [Host.Outcome.next.injEq, Except.ok.injEq, Option.some.injEq] at h
  subst h
  simp only [clWhole_view, view_upd, fixed_mk, fixed_eta, apply_ite (State.view _), ite_self, Nat.reduceAnd, Nat.reduceDiv,
      Nat.reduceMod, Nat.zero_ne_one, implies_true, false_implies, Nat.div_one, kvSorted_kvPut, List.length_modify,
      List.length_map, List.length_set, List.length_mapIdx]

theorem execGaugeTakeOff_view {k} (hk : k &&& 0 = k) {a0 a1 s t} (h : execGaugeTakeOff a0 a1 s = .next t) : t.view k =
    s.view k := by
  refine view_le hk ?_
  unfold execGaugeTakeOff at h
  simp only [Host.Outcome.next.injEq, Except.ok.injEq, Option.some.injEq] at h
  subst h
  simp only [clWhole_view, view_upd, fixed_mk, fixed_eta, apply_ite (State.view _), ite_self, Nat.reduceAnd, Nat.reduceDiv,
      Nat.reduceMod, Nat.zero_ne_one, implies_true, false_implies, Nat.div_one, kvSorted_kvPut, List.length_modify,
      List.length_map, List.length_set, List.length_mapIdx]

theorem execGaugeReturn_view {k} (hk : k &&& 0 = k) {a0 a1 s t} (h : execGaugeReturn a0 a1 s = .next t) : t.view k = s.view
    k := by
  refine view_le hk ?_
  unfold execGaugeReturn at h
  simp only [Host.Outcome.next.injEq, Except.ok.injEq, Option.some.injEq] at h
  subst h
  simp only [clWhole_view, view_upd, fixed_mk, fixed_eta, apply_ite (State.view _), ite_self, Nat.reduceAnd, Nat.reduceDiv,
      Nat.reduceMod, Nat.zero_ne_one, implies_true, false_implies, Nat.div_one, kvSorted_kvPut, List.length_modify,
      List.length_map, List.length_set, List.length_mapIdx]

theorem execGaugeCalStore_view {k} (hk : k &&& 0 = k) {a0 a1 s t} (h : execGaugeCalStore a0 a1 s = .next t) : t.view k =
    s.view k := by
  refine view_le hk ?_
  unfold execGaugeCalStore at h
  simp only [Host.Outcome.next.injEq, Except.ok.injEq, Option.some.injEq] at h
  subst h
  simp only [clWhole_view, view_upd, fixed_mk, fixed_eta, apply_ite (State.view _), ite_self, Nat.reduceAnd, Nat.reduceDiv,
      Nat.reduceMod, Nat.zero_ne_one, implies_true, false_implies, Nat.div_one, kvSorted_kvPut, List.length_modify,
      List.length_map, List.length_set, List.length_mapIdx]

theorem execRelayClear_view {k} (hk : k &&& 0 = k) {a0 a1 s t} (h : execRelayClear a0 a1 s = .next t) : t.view k = s.view k
    := by
  refine view_le hk ?_
  unfold execRelayClear at h
  simp only [Host.Outcome.next.injEq, Except.ok.injEq, Option.some.injEq] at h
  subst h
  simp only [clWhole_view, view_upd, fixed_mk, fixed_eta, apply_ite (State.view _), ite_self, Nat.reduceAnd, Nat.reduceDiv,
      Nat.reduceMod, Nat.zero_ne_one, implies_true, false_implies, Nat.div_one, kvSorted_kvPut, List.length_modify,
      List.length_map, List.length_set, List.length_mapIdx]

theorem execJigImageWrite_view {k} (hk : k &&& 0 = k) {a0 a1 a2 s t} (h : execJigImageWrite a0 a1 a2 s = .next t) : t.view k
    = s.view k := by
  refine view_le hk ?_
  unfold execJigImageWrite at h
  simp only [Host.Outcome.next.injEq, Except.ok.injEq, Option.some.injEq] at h
  subst h
  simp only [clWhole_view, view_upd, fixed_mk, fixed_eta, apply_ite (State.view _), ite_self, Nat.reduceAnd, Nat.reduceDiv,
      Nat.reduceMod, Nat.zero_ne_one, implies_true, false_implies, Nat.div_one, kvSorted_kvPut, List.length_modify,
      List.length_map, List.length_set, List.length_mapIdx]

theorem execJigStart_view {k} (hk : k &&& 0 = k) {a0 a1 a2 s t} (h : execJigStart a0 a1 a2 s = .next t) : t.view k = s.view
    k := by
  refine view_le hk ?_
  unfold execJigStart at h
  simp only [Host.Outcome.next.injEq, Except.ok.injEq, Option.some.injEq] at h
  subst h
  simp only [clWhole_view, view_upd, fixed_mk, fixed_eta, apply_ite (State.view _), ite_self, Nat.reduceAnd, Nat.reduceDiv,
      Nat.reduceMod, Nat.zero_ne_one, implies_true, false_implies, Nat.div_one, kvSorted_kvPut, List.length_modify,
      List.length_map, List.length_set, List.length_mapIdx]

theorem execJigStop_view {k} (hk : k &&& 0 = k) {a0 a1 a2 s t} (h : execJigStop a0 a1 a2 s = .next t) : t.view k = s.view k
    := by
  refine view_le hk ?_
  unfold execJigStop at h
  simp only [Host.Outcome.next.injEq, Except.ok.injEq, Option.some.injEq] at h
  subst h
  simp only [clWhole_view, view_upd, fixed_mk, fixed_eta, apply_ite (State.view _), ite_self, Nat.reduceAnd, Nat.reduceDiv,
      Nat.reduceMod, Nat.zero_ne_one, implies_true, false_implies, Nat.div_one, kvSorted_kvPut, List.length_modify,
      List.length_map, List.length_set, List.length_mapIdx]

theorem execJigReset_view {k} (hk : k &&& 0 = k) {a0 a1 a2 s t} (h : execJigReset a0 a1 a2 s = .next t) : t.view k = s.view
    k := by
  refine view_le hk ?_
  unfold execJigReset at h
  simp only [Host.Outcome.next.injEq, Except.ok.injEq, Option.some.injEq] at h
  subst h
  simp only [clWhole_view, view_upd, fixed_mk, fixed_eta, apply_ite (State.view _), ite_self, Nat.reduceAnd, Nat.reduceDiv,
      Nat.reduceMod, Nat.zero_ne_one, implies_true, false_implies, Nat.div_one, kvSorted_kvPut, List.length_modify,
      List.length_map, List.length_set, List.length_mapIdx]

theorem execFlashImageWrite_view {k} (hk : k &&& 0 = k) {a0 a1 s t} (h : execFlashImageWrite a0 a1 s = .next t) : t.view k =
    s.view k := by
  refine view_le hk ?_
  unfold execFlashImageWrite at h
  simp only [Host.Outcome.next.injEq, Except.ok.injEq, Option.some.injEq] at h
  subst h
  simp only [clWhole_view, view_upd, fixed_mk, fixed_eta, apply_ite (State.view _), ite_self, Nat.reduceAnd, Nat.reduceDiv,
      Nat.reduceMod, Nat.zero_ne_one, implies_true, false_implies, Nat.div_one, kvSorted_kvPut, List.length_modify,
      List.length_map, List.length_set, List.length_mapIdx]

theorem execCommitSlot_view {k} (hk : k &&& 0 = k) {a0 a1 s t} (h : execCommitSlot a0 a1 s = .next t) : t.view k = s.view k
    := by
  refine view_le hk ?_
  unfold execCommitSlot at h
  simp only [Host.Outcome.next.injEq, Except.ok.injEq, Option.some.injEq] at h
  subst h
  simp only [clWhole_view, view_upd, fixed_mk, fixed_eta, apply_ite (State.view _), ite_self, Nat.reduceAnd, Nat.reduceDiv,
      Nat.reduceMod, Nat.zero_ne_one, implies_true, false_implies, Nat.div_one, kvSorted_kvPut, List.length_modify,
      List.length_map, List.length_set, List.length_mapIdx]

theorem execSyncSetValue_view {k} (hk : k &&& 0 = k) {a0 a1 s t} (h : execSyncSetValue a0 a1 s = .next t) : t.view k =
    s.view k := by
  refine view_le hk ?_
  unfold execSyncSetValue at h
  simp only [Host.Outcome.next.injEq, Except.ok.injEq, Option.some.injEq] at h
  subst h
  simp only [clWhole_view, view_upd, fixed_mk, fixed_eta, apply_ite (State.view _), ite_self, Nat.reduceAnd, Nat.reduceDiv,
      Nat.reduceMod, Nat.zero_ne_one, implies_true, false_implies, Nat.div_one, kvSorted_kvPut, List.length_modify,
      List.length_map, List.length_set, List.length_mapIdx]

theorem execSyncClearFlags_view {k} (hk : k &&& 0 = k) {a0 a1 s t} (h : execSyncClearFlags a0 a1 s = .next t) : t.view k =
    s.view k := by
  refine view_le hk ?_
  unfold execSyncClearFlags at h
  simp only [Host.Outcome.next.injEq, Except.ok.injEq, Option.some.injEq] at h
  subst h
  simp only [clWhole_view, view_upd, fixed_mk, fixed_eta, apply_ite (State.view _), ite_self, Nat.reduceAnd, Nat.reduceDiv,
      Nat.reduceMod, Nat.zero_ne_one, implies_true, false_implies, Nat.div_one, kvSorted_kvPut, List.length_modify,
      List.length_map, List.length_set, List.length_mapIdx]

theorem execSyncOwnerAssign_view {k} (hk : k &&& 0 = k) {a0 a1 s t} (h : execSyncOwnerAssign a0 a1 s = .next t) : t.view k =
    s.view k := by
  refine view_le hk ?_
  unfold execSyncOwnerAssign at h
  simp only [Host.Outcome.next.injEq, Except.ok.injEq, Option.some.injEq] at h
  subst h
  simp only [clWhole_view, view_upd, fixed_mk, fixed_eta, apply_ite (State.view _), ite_self, Nat.reduceAnd, Nat.reduceDiv,
      Nat.reduceMod, Nat.zero_ne_one, implies_true, false_implies, Nat.div_one, kvSorted_kvPut, List.length_modify,
      List.length_map, List.length_set, List.length_mapIdx]

theorem execCalendarTimeSet_view {k} (hk : k &&& 0 = k) {a0 a1 s t} (h : execCalendarTimeSet a0 a1 s = .next t) : t.view k =
    s.view k := by
  refine view_le hk ?_
  unfold execCalendarTimeSet at h
  simp only [Host.Outcome.next.injEq, Except.ok.injEq, Option.some.injEq] at h
  subst h
  simp only [clWhole_view, view_upd, fixed_mk, fixed_eta, apply_ite (State.view _), ite_self, Nat.reduceAnd, Nat.reduceDiv,
      Nat.reduceMod, Nat.zero_ne_one, implies_true, false_implies, Nat.div_one, kvSorted_kvPut, List.length_modify,
      List.length_map, List.length_set, List.length_mapIdx]

theorem execCommission_view {k} (hk : k &&& 0 = k) {a0 a1 s t} (h : execCommission a0 a1 s = .next t) : t.view k = s.view k
    := by
  refine view_le hk ?_
  unfold execCommission at h
  simp only [Host.Outcome.next.injEq, Except.ok.injEq, Option.some.injEq] at h
  subst h
  simp only [clWhole_view, view_upd, fixed_mk, fixed_eta, apply_ite (State.view _), ite_self, Nat.reduceAnd, Nat.reduceDiv,
      Nat.reduceMod, Nat.zero_ne_one, implies_true, false_implies, Nat.div_one, kvSorted_kvPut, List.length_modify,
      List.length_map, List.length_set, List.length_mapIdx]

theorem execBootRecordWrite_view {k} (hk : k &&& 0 = k) {a0 a1 s t} (h : execBootRecordWrite a0 a1 s = .next t) : t.view k =
    s.view k := by
  refine view_le hk ?_
  unfold execBootRecordWrite at h
  simp only [Host.Outcome.next.injEq, Except.ok.injEq, Option.some.injEq] at h
  subst h
  simp only [clWhole_view, view_upd, fixed_mk, fixed_eta, apply_ite (State.view _), ite_self, Nat.reduceAnd, Nat.reduceDiv,
      Nat.reduceMod, Nat.zero_ne_one, implies_true, false_implies, Nat.div_one, kvSorted_kvPut, List.length_modify,
      List.length_map, List.length_set, List.length_mapIdx]

theorem execScribeArm_view {k} (hk : k &&& 0 = k) {a0 a1 s t} (h : execScribeArm a0 a1 s = .next t) : t.view k = s.view k := by
  refine view_le hk ?_
  unfold execScribeArm at h
  simp only [Host.Outcome.next.injEq, Except.ok.injEq, Option.some.injEq] at h
  subst h
  simp only [clWhole_view, view_upd, fixed_mk, fixed_eta, apply_ite (State.view _), ite_self, Nat.reduceAnd, Nat.reduceDiv,
      Nat.reduceMod, Nat.zero_ne_one, implies_true, false_implies, Nat.div_one, kvSorted_kvPut, List.length_modify,
      List.length_map, List.length_set, List.length_mapIdx]

theorem execScribeDisarm_view {k} (hk : k &&& 0 = k) {a0 a1 s t} (h : execScribeDisarm a0 a1 s = .next t) : t.view k =
    s.view k := by
  refine view_le hk ?_
  unfold execScribeDisarm at h
  simp only [Host.Outcome.next.injEq, Except.ok.injEq, Option.some.injEq] at h
  subst h
  simp only [clWhole_view, view_upd, fixed_mk, fixed_eta, apply_ite (State.view _), ite_self, Nat.reduceAnd, Nat.reduceDiv,
      Nat.reduceMod, Nat.zero_ne_one, implies_true, false_implies, Nat.div_one, kvSorted_kvPut, List.length_modify,
      List.length_map, List.length_set, List.length_mapIdx]

theorem execScribeControlTrigger_view {k} (hk : k &&& 0 = k) {a0 a1 s t} (h : execScribeControlTrigger a0 a1 s = .next t) :
    t.view k = s.view k := by
  refine view_le hk ?_
  unfold execScribeControlTrigger at h
  simp only [Host.Outcome.next.injEq, Except.ok.injEq, Option.some.injEq] at h
  subst h
  simp only [clWhole_view, view_upd, fixed_mk, fixed_eta, apply_ite (State.view _), ite_self, Nat.reduceAnd, Nat.reduceDiv,
      Nat.reduceMod, Nat.zero_ne_one, implies_true, false_implies, Nat.div_one, kvSorted_kvPut, List.length_modify,
      List.length_map, List.length_set, List.length_mapIdx]

theorem execScribeClear_view {k} (hk : k &&& 0 = k) {a0 a1 s t} (h : execScribeClear a0 a1 s = .next t) : t.view k = s.view
    k := by
  refine view_le hk ?_
  unfold execScribeClear at h
  simp only [Host.Outcome.next.injEq, Except.ok.injEq, Option.some.injEq] at h
  subst h
  simp only [clWhole_view, view_upd, fixed_mk, fixed_eta, apply_ite (State.view _), ite_self, Nat.reduceAnd, Nat.reduceDiv,
      Nat.reduceMod, Nat.zero_ne_one, implies_true, false_implies, Nat.div_one, kvSorted_kvPut, List.length_modify,
      List.length_map, List.length_set, List.length_mapIdx]

theorem execMapDumpArm_view {k} (hk : k &&& 0 = k) {a0 a1 s t} (h : execMapDumpArm a0 a1 s = .next t) : t.view k = s.view k
    := by
  refine view_le hk ?_
  unfold execMapDumpArm at h
  simp only [Host.Outcome.next.injEq, Except.ok.injEq, Option.some.injEq] at h
  subst h
  simp only [clWhole_view, view_upd, fixed_mk, fixed_eta, apply_ite (State.view _), ite_self, Nat.reduceAnd, Nat.reduceDiv,
      Nat.reduceMod, Nat.zero_ne_one, implies_true, false_implies, Nat.div_one, kvSorted_kvPut, List.length_modify,
      List.length_map, List.length_set, List.length_mapIdx]

theorem execMapDumpDisarm_view {k} (hk : k &&& 0 = k) {a0 a1 s t} (h : execMapDumpDisarm a0 a1 s = .next t) : t.view k =
    s.view k := by
  refine view_le hk ?_
  unfold execMapDumpDisarm at h
  simp only [Host.Outcome.next.injEq, Except.ok.injEq, Option.some.injEq] at h
  subst h
  simp only [clWhole_view, view_upd, fixed_mk, fixed_eta, apply_ite (State.view _), ite_self, Nat.reduceAnd, Nat.reduceDiv,
      Nat.reduceMod, Nat.zero_ne_one, implies_true, false_implies, Nat.div_one, kvSorted_kvPut, List.length_modify,
      List.length_map, List.length_set, List.length_mapIdx]

theorem execGraphStart_view {k} (hk : k &&& 0 = k) {a0 a1 s t} (h : execGraphStart a0 a1 s = .next t) : t.view k = s.view k
    := by
  refine view_le hk ?_
  unfold execGraphStart at h
  simp only [Host.Outcome.next.injEq, Except.ok.injEq, Option.some.injEq] at h
  subst h
  simp only [clWhole_view, view_upd, fixed_mk, fixed_eta, apply_ite (State.view _), ite_self, Nat.reduceAnd, Nat.reduceDiv,
      Nat.reduceMod, Nat.zero_ne_one, implies_true, false_implies, Nat.div_one, kvSorted_kvPut, List.length_modify,
      List.length_map, List.length_set, List.length_mapIdx]

theorem execTrimWrite_view {k} (hk : k &&& 0 = k) {a0 a1 a2 a3 s t} (h : execTrimWrite a0 a1 a2 a3 s = .next t) : t.view k =
    s.view k := by
  refine view_le hk ?_
  unfold execTrimWrite at h
  simp only [Host.Outcome.next.injEq, Except.ok.injEq, Option.some.injEq] at h
  subst h
  simp only [clWhole_view, view_upd, fixed_mk, fixed_eta, apply_ite (State.view _), ite_self, Nat.reduceAnd, Nat.reduceDiv,
      Nat.reduceMod, Nat.zero_ne_one, implies_true, false_implies, Nat.div_one, kvSorted_kvPut, List.length_modify,
      List.length_map, List.length_set, List.length_mapIdx]

theorem execTableLoadStart_view {k} (hk : k &&& 0 = k) {a0 a1 a2 a3 s t} (h : execTableLoadStart a0 a1 a2 a3 s = .next t) :
    t.view k = s.view k := by
  refine view_le hk ?_
  unfold execTableLoadStart at h
  grind [view_upd, fixed_mk, fixed_eta, List.length_modify, clWhole_view, loadHeader_view, dmaGiveUse_view]

theorem execThermalRearm_view {k} (hk : k &&& 0 = k) {a0 s t} (h : execThermalRearm a0 s = .next t) : t.view k = s.view k := by
  refine view_le hk ?_
  unfold execThermalRearm at h
  simp only [Host.Outcome.next.injEq, Except.ok.injEq, Option.some.injEq] at h
  subst h
  simp only [clWhole_view, view_upd, fixed_mk, fixed_eta, apply_ite (State.view _), ite_self, Nat.reduceAnd, Nat.reduceDiv,
      Nat.reduceMod, Nat.zero_ne_one, implies_true, false_implies, Nat.div_one, kvSorted_kvPut, List.length_modify,
      List.length_map, List.length_set, List.length_mapIdx]

theorem execRearmComplete_view {k} (hk : k &&& 0 = k) {a0 s t} (h : execRearmComplete a0 s = .next t) : t.view k = s.view k
    := by
  refine view_le hk ?_
  unfold execRearmComplete at h
  simp only [Host.Outcome.next.injEq, Except.ok.injEq, Option.some.injEq] at h
  subst h
  simp only [clRearmed_view, view_upd, fixed_mk, fixed_eta, apply_ite (State.view _), ite_self, Nat.reduceAnd,
      Nat.reduceDiv, Nat.reduceMod, Nat.zero_ne_one, implies_true, false_implies, Nat.div_one, kvSorted_kvPut,
      List.length_modify, List.length_map, List.length_set, List.length_mapIdx]

end Sys2Proof.Machine
end

