-- ==== Sys2Proof/WellFormed.lean ====
section
/-! DEFINITION. Which commands are well formed: every operand lies in the range that its rule gives it. -/

namespace Sys2Proof

/-- A channel of the engine that exists: slots 0-63 and jig places 0-15 (R105, R115). -/
def ChanId.wf : ChanId → Bool
  | .slot p => decide (p < 64)
  | .jig j => decide (j < 16)
  | .mgt => true
  | .chain => true
  | .fw => true

/-- A fabric request as FT_ADDR, FT_WSTRB, FT_PART, FT_SRC and FT_TAG carry it (R22). -/
def FabReq.wf (q : FabReq) : Bool :=
  decide (q.addr < 0x100000) && decide (q.addr % 8 = 0) && decide (q.wstrb < 256) && decide (q.part < 64) &&
    decide (q.src < 256) && decide (q.tag < 32)

/-- A Cut List request in the widths of R110. -/
def ClReq.wf (r : ClReq) : Bool :=
  decide (r.idx < 65536) && decide (r.sub < 256) && decide (r.len ≤ 48) && decide (r.seq < 256) &&
    decide (r.node < 32) && decide (r.data.length ≤ 48)

/-- A frame in the widths of R123. -/
def Frame.wf (f : Frame) : Bool :=
  decide (f.dst < 32) && decide (f.src < 32) && decide (f.type < 32) && decide (f.seq < 256) &&
    decide (f.payload.length ≤ 64) && f.payload.all (fun x => decide (x < 4294967296))

/-- The fields of a packet in the widths of R536 to R539. -/
def Packet.wf (p : Packet) : Bool :=
  decide (p.src < 256) && decide (p.dst < 256) && decide (p.tag < 8) && decide (p.inst < 32)

/-- The command's operands lie in their ranges. -/
def Instr.wf : Instr → Bool
  | .vddAonRise => true
  | .porNAssert => true
  | .porNRelease => true
  | .strapLatch _ smb boot => decide (smb < 128) && decide (boot < 4)
  | .mgtReady => true
  | .xspiResetEnd => true
  | .bootFlashReadStart => true
  | .bootReadsDone => true
  | .referenceQualified _ => true
  | .referenceLimitExpiry => true
  | .ctlPllLock => true
  | .trackedStart => true
  | .groupDelayExpiry => true
  | .railPowerGood k => decide (k < 6)
  | .pgTimeout => true
  | .engRelease => true
  | .pllATimeout => true
  | .hostRstNAssert => true
  | .hostRstNRelease => true
  | .enumStart => true
  | .chainTimeout => true
  | .hostInterfaceStart => true
  | .imgFetch q => q.wf
  | .imgStagingDone _ => true
  | .imgAccept q _ => q.wf
  | .imgReject q => q.wf
  | .imgLoadDone _ crc => decide (crc < 4294967296)
  | .fwFunctionStart f => decide (14 ≤ f) && decide (f ≤ 20)
  | .clkEnGate q b => q.wf && decide (6 ≤ b) && decide (b ≤ 16) && decide (b ≠ 7)
  | .gateStop b => decide (6 ≤ b) && decide (b ≤ 16) && decide (b ≠ 7)
  | .clkEnUngate q b => q.wf && decide (6 ≤ b) && decide (b ≤ 16) && decide (b ≠ 7)
  | .fabricWrite q => q.wf
  | .clRead ch r => ch.wf && r.wf
  | .clReadNext ch r => ch.wf && r.wf
  | .clWrite ch r => ch.wf && r.wf
  | .clWriteNext ch r => ch.wf && r.wf
  | .clCancel ch r => ch.wf && r.wf
  | .clDescribe ch r => ch.wf && r.wf
  | .clTransferTimeout ch => ch.wf
  | .clFwTimeout ch => ch.wf
  | .clFwResponse ch abort => ch.wf && decide (abort < 65536)
  | .clRemoteTimeout ch => ch.wf
  | .levelRequest ch val => ch.wf && decide (val.length ≤ 4096)
  | .diagLockOpen val => decide (val.length ≤ 4096)
  | .commissioningStore ch val => ch.wf && decide (val.length ≤ 4096)
  | .commissioningStoreDone _ => true
  | .commissioningWipe ch val => ch.wf && decide (val.length ≤ 4096)
  | .linkLockGain _ => true
  | .linkCodeErrorLoss _ => true
  | .linkK285Timeout _ => true
  | .linkRelockTimeout _ => true
  | .linkAckTimeout _ _ => true
  | .ackReceive _ _ se_q => decide (se_q < 256)
  | .nakReceive _ _ se_q => decide (se_q < 256)
  | .frameReceiveBadCrc _ f => f.wf
  | .poisonReceive _ f => f.wf
  | .enumReceive _ f => f.wf
  | .enumForward => true
  | .farEndTimeout => true
  | .enumRepeat => true
  | .enumTimeout => true
  | .enumReportReceive _ f => f.wf
  | .enumCloseReceive _ f => f.wf
  | .nodeLostReceive _ f => f.wf
  | .nodeRejoinReceive _ f => f.wf
  | .holdOutClear ch val => ch.wf && decide (val.length ≤ 4096)
  | .assumeRoot ch val => ch.wf && decide (val.length ≤ 4096)
  | .reserveRelease ch val => ch.wf && decide (val.length ≤ 4096)
  | .budReqReceive _ f => f.wf
  | .budTransactionOpen => true
  | .budPrepareReceive _ f => f.wf
  | .budVoteReceive _ f => f.wf
  | .budVoteTimeout => true
  | .budCommitReceive _ f => f.wf
  | .budCommitApply txid => decide (txid < 65536)
  | .budAbortReceive _ f => f.wf
  | .budOutcomeTimeout txid => decide (txid < 65536)
  | .budRetry => true
  | .telemSend => true
  | .telemReceive _ f => f.wf
  | .clReqReceive _ f => f.wf
  | .clRspReceive _ f => f.wf
  | .compensatorSample v => decide (v.length = 6)
  | .currentConversion imon iref tmon => decide (imon.length = 16) && decide (iref < 4096) && decide (tmon < 8192)
  | .phOcPeakExpiry n => decide (n < 16)
  | .peakTimerExpiry k => decide (k < 6)
  | .foldbackHoldExpiry k => decide (k < 6)
  | .foldbackLimitExpiry k => decide (k < 6)
  | .ovPersist k => decide (k < 6)
  | .uv k => decide (k < 6)
  | .uvS3Expiry k => decide (k < 6)
  | .stgFlt => true
  | .phaseSuspect n => decide (n < 16)
  | .feTimerExpiry k => decide (k < 6)
  | .s1HoldExpiry c => decide (c < 7)
  | .s2HoldExpiry c => decide (c < 7)
  | .safeRelease ch k val => ch.wf && decide (k < 6) && decide (val.length ≤ 4096)
  | .restartDelayExpiry k => decide (k < 6)
  | .retryRefill k => decide (k < 6)
  | .lastFaultWrite _ => true
  | .shedStart k => decide (k < 6)
  | .shedRampEnd k => decide (k < 6)
  | .rotationStep k => decide (k < 6)
  | .regSyncQualify _ => true
  | .regSyncLock k => decide (k < 6)
  | .regSyncLoss => true
  | .railEnableOn ch k val => ch.wf && decide (k < 6) && decide (val = [1])
  | .railEnableOff ch k val => ch.wf && decide (k < 6) && decide (val = [0])
  | .groupMove ch val => ch.wf && decide (val.length ≤ 4096)
  | .groupStop ch val => ch.wf && decide (val.length ≤ 4096)
  | .setpointWrite ch k val => ch.wf && decide (k < 6) && decide (val.length ≤ 4096)
  | .bankSwap ch k val => ch.wf && decide (k < 6) && decide (val.length ≤ 4096)
  | .phaseControllerWrite ch n val => ch.wf && decide (n < 16) && decide (val.length ≤ 4096)
  | .phaseOutOfService ch n val => ch.wf && decide (n < 16) && decide (val = [0])
  | .phaseReinstate ch n val => ch.wf && decide (n < 16) && decide (val = [1])
  | .stepAnnounce prog idx pos => decide (prog < 65536) && decide (idx < 4294967296) && decide (pos < 2097152)
  | .execMarker prog idx => decide (prog < 65536) && decide (idx < 4294967296)
  | .ffLookupDone => true
  | .announcementMissed => true
  | .settlingEnd => true
  | .stepClkWindow _ => true
  | .ffDutyStart k => decide (k < 6)
  | .ffShimPost => true
  | .tableLoadStart ch val hdr _ => ch.wf && decide (val.length ≤ 4096) && decide (hdr.length = 512)
  | .tablePageCopied data _ => decide (data.length ≤ 65536)
  | .slotSwap ch n val => ch.wf && decide (n < 16) && decide (val.length ≤ 4096)
  | .pageFree n => decide (n < 16)
  | .slotEnable ch n val => ch.wf && decide (n < 16) && decide (val.length ≤ 4096)
  | .slotProgramWrite ch n val => ch.wf && decide (n < 16) && decide (val.length ≤ 4096)
  | .slotRelease ch n val => ch.wf && decide (n < 16) && decide (val.length ≤ 4096)
  | .shimControlCycle n _ => decide (n < 256)
  | .shimRefStep n => decide (n < 256)
  | .shimSaturation n => decide (n < 256)
  | .boostHoldExpiry => true
  | .headroomWaitExpiry n => decide (n < 256)
  | .preloadArm n => decide (n < 256)
  | .preloadDisarm n => decide (n < 256)
  | .kerfCrossing n => decide (n < 256)
  | .kerfLevelRaise n level => decide (n < 256) && decide (1 ≤ level) && decide (level ≤ 4)
  | .kerfStretchEnd n => decide (n < 256)
  | .stretchHoldClear => true
  | .shimLow n => decide (n < 256)
  | .kerfDuty n => decide (n < 256)
  | .regionMonitorConversion mv => decide (mv < 1024)
  | .trimWrite ch n _ val => ch.wf && decide (n < 256) && decide (val.length ≤ 4096)
  | .kerfTestStart ch n val => ch.wf && decide (n < 256) && decide (val.length ≤ 4096)
  | .kerfTestEnd n => decide (n < 256)
  | .regionTargetWrite ch n val => ch.wf && decide (n < 256) && decide (val.length ≤ 4096)
  | .setpointMapTileWrite ch t val => ch.wf && decide (t < 4) && decide (val.length ≤ 4096)
  | .regionModeWrite ch n val => ch.wf && decide (n < 256) && decide (val.length ≤ 4096)
  | .sourceMonitorWindow _ _ => true
  | .sourceMissingEdge _ => true
  | .tileSourceSelect ch val => ch.wf && decide (val.length ≤ 4096)
  | .dividerStep => true
  | .skipStep => true
  | .pointRequestWrite ch val => ch.wf && decide (val.length ≤ 4096)
  | .seqVoltageStep => true
  | .seqVoltageDone => true
  | .vTimeout => true
  | .tclkStart => true
  | .estimatorBoundary acts => decide (acts.length ≤ 1024)
  | .capEscalateExpiry => true
  | .capRaiseHoldExpiry => true
  | .calibrationUpdate => true
  | .adopt ch val => ch.wf && decide (val.length ≤ 4096)
  | .telemetryInstant => true
  | .budgetWrite ch idx su_b val => ch.wf && decide (idx < 65536) && decide (su_b < 256) && decide (val.length ≤ 4096)
  | .policyWrite ch val => ch.wf && decide (val.length ≤ 4096)
  | .thrInAssert => true
  | .thrInRelease => true
  | .clampOpen tile _ => decide (tile < 1024)
  | .clampClose tile _ => decide (tile < 1024)
  | .clampRequest tile _ => decide (tile < 1024)
  | .clampRelease tile _ => decide (tile < 1024)
  | .clampCancel tile _ => decide (tile < 1024)
  | .grantWindowEnd a => decide (a < 40960)
  | .requestWaitExpiry a => decide (a < 40960)
  | .enforceWrite ch val => ch.wf && decide (val.length ≤ 4096)
  | .tilePartitionMapWrite ch val => ch.wf && decide (val.length ≤ 4096)
  | .barInRise => true
  | .barOutRise => true
  | .dovetailWave => true
  | .barOutFall => true
  | .planWindowExpiry => true
  | .barrierArriveReceive _ f => f.wf
  | .barrierReleaseReceive _ f => f.wf
  | .barrierCancelReceive _ f => f.wf
  | .barrierTimeout => true
  | .packageBarrierCancel ch val => ch.wf && decide (val.length ≤ 4096)
  | .gaugeInstant raw => decide (raw.length ≤ 1280)
  | .gaugeSuspect g => decide (g < 1280)
  | .thermalStepExpiry g => decide (g < 16)
  | .thermalRaiseHoldExpiry g => decide (g < 16)
  | .rateHoldExpiry g => decide (g < 16)
  | .hardTripComparatorRise c => decide (c < 3)
  | .hardTrip c => decide (c < 3)
  | .gaugeReferenceCycle ch val => ch.wf && decide (val = [1])
  | .gaugeAlign ch val => ch.wf && decide (val = [2])
  | .gaugeClear ch val => ch.wf && decide (val = [3])
  | .gaugeTakeOff ch val => ch.wf && decide (val = [4])
  | .gaugeReturn ch val => ch.wf && decide (val = [5])
  | .gaugeCommandDone g => decide (g < 1280)
  | .gaugeCalStore ch val => ch.wf && decide (val.length ≤ 4096)
  | .gaugeCalStoreDone _ => true
  | .thermalRearm val => decide (val.length ≤ 4096)
  | .rearmComplete _ => true
  | .relayTimeout sat => decide (sat < 32)
  | .relayClear ch val => ch.wf && decide (val.length ≤ 4096)
  | .thermalModelUpdate => true
  | .predictHoldExpiry g => decide (g < 16)
  | .pinnedActivation _ => true
  | .activationDeadlineMiss _ => true
  | .engineSteal e => decide (e < 32)
  | .taskSpawn e task => decide (e < 32) && decide (task < 65536)
  | .nop j => decide (j < 16)
  | .ldi j d _ => decide (j < 16) && decide (d < 16)
  | .ldih j d _ => decide (j < 16) && decide (d < 16)
  | .mov j d a => decide (j < 16) && decide (d < 16) && decide (a < 16)
  | .ldm j d a _ => decide (j < 16) && decide (d < 16) && decide (a < 16)
  | .stm j a b _ => decide (j < 16) && decide (a < 16) && decide (b < 16)
  | .add j d a b => decide (j < 16) && decide (d < 16) && decide (a < 16) && decide (b < 16)
  | .addi j d a _ => decide (j < 16) && decide (d < 16) && decide (a < 16)
  | .sub j d a b => decide (j < 16) && decide (d < 16) && decide (a < 16) && decide (b < 16)
  | .neg j d a => decide (j < 16) && decide (d < 16) && decide (a < 16)
  | .abs j d a => decide (j < 16) && decide (d < 16) && decide (a < 16)
  | .mul j d a b => decide (j < 16) && decide (d < 16) && decide (a < 16) && decide (b < 16)
  | .mulsh j d a b sh => decide (j < 16) && decide (d < 16) && decide (a < 16) && decide (b < 16) && decide (sh < 64)
  | .mulish j d a sh _ => decide (j < 16) && decide (d < 16) && decide (a < 16) && decide (sh < 64)
  | .div j d a b => decide (j < 16) && decide (d < 16) && decide (a < 16) && decide (b < 16)
  | .min j d a b => decide (j < 16) && decide (d < 16) && decide (a < 16) && decide (b < 16)
  | .max j d a b => decide (j < 16) && decide (d < 16) && decide (a < 16) && decide (b < 16)
  | .clamp j d a b => decide (j < 16) && decide (d < 16) && decide (a < 16) && decide (b < 16)
  | .and j d a b => decide (j < 16) && decide (d < 16) && decide (a < 16) && decide (b < 16)
  | .or j d a b => decide (j < 16) && decide (d < 16) && decide (a < 16) && decide (b < 16)
  | .xor j d a b => decide (j < 16) && decide (d < 16) && decide (a < 16) && decide (b < 16)
  | .not j d a => decide (j < 16) && decide (d < 16) && decide (a < 16)
  | .shl j d a sh => decide (j < 16) && decide (d < 16) && decide (a < 16) && decide (sh < 64)
  | .shr j d a sh => decide (j < 16) && decide (d < 16) && decide (a < 16) && decide (sh < 64)
  | .sar j d a sh => decide (j < 16) && decide (d < 16) && decide (a < 16) && decide (sh < 64)
  | .andi j d a _ => decide (j < 16) && decide (d < 16) && decide (a < 16)
  | .sel j d a b => decide (j < 16) && decide (d < 16) && decide (a < 16) && decide (b < 16)
  | .slt j d a b => decide (j < 16) && decide (d < 16) && decide (a < 16) && decide (b < 16)
  | .seq j d a b => decide (j < 16) && decide (d < 16) && decide (a < 16) && decide (b < 16)
  | .beq j a b _ => decide (j < 16) && decide (a < 16) && decide (b < 16)
  | .bne j a b _ => decide (j < 16) && decide (a < 16) && decide (b < 16)
  | .blt j a b _ => decide (j < 16) && decide (a < 16) && decide (b < 16)
  | .bge j a b _ => decide (j < 16) && decide (a < 16) && decide (b < 16)
  | .bz j a _ => decide (j < 16) && decide (a < 16)
  | .jmp j _ => decide (j < 16)
  | .end_ j => decide (j < 16)
  | .filt j d a sh _ => decide (j < 16) && decide (d < 16) && decide (a < 16) && decide (sh < 64)
  | .integ j d a b sh _ => decide (j < 16) && decide (d < 16) && decide (a < 16) && decide (b < 16) && decide (sh < 64)
  | .deadb j d a b => decide (j < 16) && decide (d < 16) && decide (a < 16) && decide (b < 16)
  | .slew j d a b => decide (j < 16) && decide (d < 16) && decide (a < 16) && decide (b < 16)
  | .rdtel j d _ => decide (j < 16) && decide (d < 16)
  | .rdobj j d b _ => decide (j < 16) && decide (d < 16) && decide (b < 16)
  | .wrobj j d a _ => decide (j < 16) && decide (d < 16) && decide (a < 16)
  | .post j a _ => decide (j < 16) && decide (a < 16)
  | .event j a _ => decide (j < 16) && decide (a < 16)
  | .trace j a => decide (j < 16) && decide (a < 16)
  | .actn j d => decide (j < 16) && decide (d < 16)
  | .elapsed j d => decide (j < 16) && decide (d < 16)
  | .jigImageWrite ch j val => ch.wf && decide (j < 16) && decide (val.length ≤ 4096)
  | .jigStart ch j val => ch.wf && decide (j < 16) && decide (val = [1])
  | .jigStop ch j val => ch.wf && decide (j < 16) && decide (val = [2])
  | .jigReset ch j val => ch.wf && decide (j < 16) && decide (val = [3])
  | .flashImageWrite ch val => ch.wf && decide (val.length ≤ 4096)
  | .flashImageWriteDone err _ => decide (err < 8)
  | .engineDrainDone e => decide (e < 32)
  | .engineReloadDone e => decide (e < 32)
  | .engineStartDone e => decide (e < 32)
  | .engineDrainTimeout e => decide (e < 32)
  | .engineStartTimeout e => decide (e < 32)
  | .commitSlot ch val => ch.wf && decide (val.length ≤ 4096)
  | .engineWatchdogExpiry e => decide (e < 32)
  | .globalWatchdogExpiry => true
  | .syncBind tile _ => decide (tile < 1024)
  | .syncSignal tile _ => decide (tile < 1024)
  | .syncAcquire tile _ => decide (tile < 1024)
  | .syncWait tile _ => decide (tile < 1024)
  | .syncCancel tile _ => decide (tile < 1024)
  | .doorbellSignal q v => q.wf && decide (v < 256)
  | .doorbellTryAcquire q v => q.wf && decide (v < 256)
  | .syncSetValue ch val => ch.wf && decide (val.length ≤ 4096)
  | .syncClearFlags ch val => ch.wf && decide (val.length ≤ 4096)
  | .syncOwnerAssign ch val => ch.wf && decide (val.length ≤ 4096)
  | .dmaStart q c => q.wf && decide (c < 16)
  | .dmaResume q c => q.wf && decide (c < 16)
  | .dmaAbort q c => q.wf && decide (c < 16)
  | .dmaRequestIssue => true
  | .dmaResponse c n code _ => decide (c < 16) && decide (n < 8) && decide (code < 8)
  | .dmaShareWindow => true
  | .dmaCtlWrite q => q.wf
  | .dmaDeviceTake c use => decide (c < 16) && decide (1 ≤ use) && decide (use ≤ 4)
  | .eventCapture _ => true
  | .recordWrite => true
  | .flashRecordProgram _ => true
  | .flashEraseDone => true
  | .flashTimeout => true
  | .flashScanDone => true
  | .cursorFetch q => q.wf
  | .cursorSeekOld q => q.wf
  | .cursorSeekNew q => q.wf
  | .calendarTimeSet ch val => ch.wf && decide (val.length ≤ 4096)
  | .commission ch val => ch.wf && decide (val.length ≤ 4096)
  | .bootRecordWrite ch val => ch.wf && decide (val.length ≤ 4096)
  | .bootRecordWriteDone _ => true
  | .counterSnapshot q => q.wf
  | .counterSelect q n => q.wf && decide (n < 16)
  | .scribeArm ch val => ch.wf && decide (val = [1])
  | .scribeDisarm ch val => ch.wf && decide (val = [2])
  | .scribeControlTrigger ch val => ch.wf && decide (val = [3])
  | .scribeClear ch val => ch.wf && decide (val = [4])
  | .scribeRecord src su_b info _ => decide (src < 64) && decide (su_b < 256) && decide (info < 65536)
  | .scribeTimeMark => true
  | .mapDumpArm ch val => ch.wf && decide (val = [1])
  | .mapDumpDisarm ch val => ch.wf && decide (val = [2])
  | .mapDumpCopy => true
  | .mapDump => true
  | .graphStart ch val => ch.wf && decide (val.length ≤ 4096)
  | .graphDone => true
  | .stopInAssert crossings eng stp til => decide (crossings < 256) && decide (eng < 256) && decide (stp < 256) && decide (til < 256)
  | .stopEnter => true
  | .stopInRelease => true
  | .stopRequestWrite q => q.wf
  | .trigReqClear => true
  | .debugPush q => q.wf
  | .smbusBlockWrite data _ => decide (data.length ≤ 255)
  | .smbusBlockRead => true
  | .smbusAraRead => true
  | .smbusTimeout => true
  | .i3cPrivateRead => true
  | .entdaa addr => decide (addr < 128)
  | .setdasa addr => decide (addr < 128)
  | .setaasa => true
  | .rstdaa => true
  | .enec => true
  | .disec => true
  | .getpid => true
  | .getbcr => true
  | .getdcr => true
  | .getstatus => true
  | .getmwl => true
  | .setmwl n => decide (n < 65536)
  | .getmrl => true
  | .setmrl n => decide (n < 65536)
  | .getmxds => true
  | .ibiRetry => true
  | .packetFetchTimeout => true
  | .setEndpointId pkt op eid => pkt.wf && decide (op < 256) && decide (eid < 256)
  | .getEndpointId pkt => pkt.wf
  | .getEndpointUuid pkt => pkt.wf
  | .getMctpVersionSupport pkt type => pkt.wf && decide (type < 256)
  | .getMessageTypeSupport pkt => pkt.wf
  | .getVendorMessageSupport pkt se_l => pkt.wf && decide (se_l < 256)
  | .settid pkt tid => pkt.wf && decide (tid < 256)
  | .gettid pkt => pkt.wf
  | .getpldmversion pkt type => pkt.wf && decide (type < 256)
  | .getpldmtypes pkt => pkt.wf
  | .getpldmcommands pkt type => pkt.wf && decide (type < 256)
  | .getsensorreading pkt id => pkt.wf && decide (id < 65536)
  | .getpdrrepositoryinfo pkt => pkt.wf
  | .getpdr pkt rec => pkt.wf && decide (rec < 4294967296)
  | .pmbusPoll answers => decide (answers.length = 8)
  | .pmbAlert d status => decide (d < 8) && decide (status < 65536)
  | .pmbusOperation ch d val _ => ch.wf && decide (d < 8) && decide (val.length ≤ 4096)
  | .pmbusClearFaults ch d val _ => ch.wf && decide (d < 8) && decide (val.length ≤ 4096)
  | .pmbusVoutCommand ch d val _ => ch.wf && decide (d < 8) && decide (val.length ≤ 4096)
  | .pmbusAddressWrite ch d val mode _ => ch.wf && decide (d < 8) && decide (val.length ≤ 4096) && decide (mode < 256)
  | .generationAdvance ch p val => ch.wf && decide (p < 64) && decide (val.length ≤ 4096)
  | .violRearm q => q.wf
  | .vddAonLoss => true
  | .i3cPrivateWrite data => decide (data.length ≤ 4096)
  | .inBandInterrupt _ => true
  | .fabricRead q => q.wf
  | .hardTripComparatorFall c => decide (c < 3)
  | .rearmLevelCrossing c _ => decide (c < 3)

end Sys2Proof
end

