-- ==== Sys2Proof/Tests/Slice0.lean ====
section
/-! SUPPORT. Tests. -/

namespace Sys2Proof.Tests

open Sys2Proof

/-- A strap value that its two bits cannot hold is refused. -/
theorem test_wf_strap : (Instr.strapLatch true 0 4).wf = false := by decide

end Sys2Proof.Tests
end

/-! The queue and the build under every command (O3). All commands but the six of the supply and reset pins keep
`State.fixed`, which holds both; the six are looked at one by one. -/

namespace Sys2Proof.Machine

open Sys2Proof

/-- The commands of VDD_AON, POR_N and HOST_RST_N: the only ones that change a part of `State.fixed` (R21, R54, R56, R228). -/
def supplyAndResetPins : List Instr :=
  [.vddAonRise, .vddAonLoss, .porNAssert, .porNRelease, .hostRstNAssert, .hostRstNRelease]

/-- Mask 0 names no unit, so that what its view keeps is `State.fixed` alone. -/
theorem exec_view_zero {c : Instr} {s t : State} (hc : c ∉ supplyAndResetPins) (h : exec c s = .next t) :
    t.view 0 = s.view 0 := by
  cases c with
  | vddAonRise | vddAonLoss | porNAssert | porNRelease | hostRstNAssert | hostRstNRelease => simp [supplyAndResetPins] at hc
  | strapLatch => exact execStrapLatch_view (Nat.zero_and _) h
  | mgtReady => exact execMgtReady_view (Nat.zero_and _) h
  | xspiResetEnd => exact execXspiResetEnd_view (Nat.zero_and _) h
  | bootFlashReadStart => exact execBootFlashReadStart_view (Nat.zero_and _) h
  | bootReadsDone => exact execBootReadsDone_view (Nat.zero_and _) h
  | referenceQualified => exact execReferenceQualified_view (Nat.zero_and _) h
  | referenceLimitExpiry => exact execReferenceLimitExpiry_view (Nat.zero_and _) h
  | ctlPllLock => exact execCtlPllLock_view (Nat.zero_and _) h
  | trackedStart => exact execTrackedStart_view (Nat.zero_and _) h
  | groupDelayExpiry => exact execGroupDelayExpiry_view (Nat.zero_and _) h
  | railPowerGood => exact execRailPowerGood_view (Nat.zero_and _) h
  | pgTimeout => exact execPgTimeout_view (Nat.zero_and _) h
  | engRelease => exact execEngRelease_view (Nat.zero_and _) h
  | pllATimeout => exact execPllATimeout_view (Nat.zero_and _) h
  | enumStart => exact execEnumStart_view (Nat.zero_and _) h
  | chainTimeout => exact execChainTimeout_view (Nat.zero_and _) h
  | hostInterfaceStart => exact execHostInterfaceStart_view (Nat.zero_and _) h
  | imgFetch => exact execImgFetch_view (Nat.zero_and _) h
  | imgStagingDone => exact execImgStagingDone_view (Nat.zero_and _) h
  | imgAccept => exact execImgAccept_view (Nat.zero_and _) h
  | imgReject => exact execImgReject_view (Nat.zero_and _) h
  | imgLoadDone => exact execImgLoadDone_view (Nat.zero_and _) h
  | fwFunctionStart => exact execFwFunctionStart_view (Nat.zero_and _) h
  | clkEnGate => exact execClkEnGate_view (Nat.zero_and _) h
  | gateStop => exact execGateStop_view (Nat.zero_and _) h
  | clkEnUngate => exact execClkEnUngate_view (Nat.zero_and _) h
  | fabricWrite => exact execFabricWrite_view (Nat.zero_and _) h
  | clRead => exact execClRead_view (Nat.zero_and _) h
  | clReadNext => exact execClReadNext_view (Nat.zero_and _) h
  | clWrite => exact execClWrite_view (Nat.zero_and _) h
  | clWriteNext => exact execClWriteNext_view (Nat.zero_and _) h
  | clCancel => exact execClCancel_view (Nat.zero_and _) h
  | clDescribe => exact execClDescribe_view (Nat.zero_and _) h
  | clTransferTimeout => exact execClTransferTimeout_view (Nat.zero_and _) h
  | clFwTimeout => exact execClFwTimeout_view (Nat.zero_and _) h
  | clFwResponse => exact execClFwResponse_view (Nat.zero_and _) h
  | clRemoteTimeout => exact execClRemoteTimeout_view (Nat.zero_and _) h
  | levelRequest => exact execLevelRequest_view (Nat.zero_and _) h
  | diagLockOpen => exact execDiagLockOpen_view (Nat.zero_and _) h
  | commissioningStore => exact execCommissioningStore_view (Nat.zero_and _) h
  | commissioningStoreDone => exact execCommissioningStoreDone_view (Nat.zero_and _) h
  | commissioningWipe => exact execCommissioningWipe_view (Nat.zero_and _) h
  | linkLockGain => exact execLinkLockGain_view (Nat.zero_and _) h
  | linkCodeErrorLoss => exact execLinkCodeErrorLoss_view (Nat.zero_and _) h
  | linkK285Timeout => exact execLinkK285Timeout_view (Nat.zero_and _) h
  | linkRelockTimeout => exact execLinkRelockTimeout_view (Nat.zero_and _) h
  | linkAckTimeout => exact execLinkAckTimeout_view (Nat.zero_and _) h
  | ackReceive => exact execAckReceive_view (Nat.zero_and _) h
  | nakReceive => exact execNakReceive_view (Nat.zero_and _) h
  | frameReceiveBadCrc => exact execFrameReceiveBadCrc_view (Nat.zero_and _) h
  | poisonReceive => exact execPoisonReceive_view (Nat.zero_and _) h
  | enumReceive => exact execEnumReceive_view (Nat.zero_and _) h
  | enumForward => exact execEnumForward_view (Nat.zero_and _) h
  | farEndTimeout => exact execFarEndTimeout_view (Nat.zero_and _) h
  | enumRepeat => exact execEnumRepeat_view (Nat.zero_and _) h
  | enumTimeout => exact execEnumTimeout_view (Nat.zero_and _) h
  | enumReportReceive => exact execEnumReportReceive_view (Nat.zero_and _) h
  | enumCloseReceive => exact execEnumCloseReceive_view (Nat.zero_and _) h
  | nodeLostReceive => exact execNodeLostReceive_view (Nat.zero_and _) h
  | nodeRejoinReceive => exact execNodeRejoinReceive_view (Nat.zero_and _) h
  | holdOutClear => exact execHoldOutClear_view (Nat.zero_and _) h
  | assumeRoot => exact execAssumeRoot_view (Nat.zero_and _) h
  | reserveRelease => exact execReserveRelease_view (Nat.zero_and _) h
  | budReqReceive => exact execBudReqReceive_view (Nat.zero_and _) h
  | budTransactionOpen => exact execBudTransactionOpen_view (Nat.zero_and _) h
  | budPrepareReceive => exact execBudPrepareReceive_view (Nat.zero_and _) h
  | budVoteReceive => exact execBudVoteReceive_view (Nat.zero_and _) h
  | budVoteTimeout => exact execBudVoteTimeout_view (Nat.zero_and _) h
  | budCommitReceive => exact execBudCommitReceive_view (Nat.zero_and _) h
  | budCommitApply => exact execBudCommitApply_view (Nat.zero_and _) h
  | budAbortReceive => exact execBudAbortReceive_view (Nat.zero_and _) h
  | budOutcomeTimeout => exact execBudOutcomeTimeout_view (Nat.zero_and _) h
  | budRetry => exact execBudRetry_view (Nat.zero_and _) h
  | telemSend => exact execTelemSend_view (Nat.zero_and _) h
  | telemReceive => exact execTelemReceive_view (Nat.zero_and _) h
  | clReqReceive => exact execClReqReceive_view (Nat.zero_and _) h
  | clRspReceive => exact execClRspReceive_view (Nat.zero_and _) h
  | compensatorSample => exact execCompensatorSample_view (Nat.zero_and _) h
  | currentConversion => exact execCurrentConversion_view (Nat.zero_and _) h
  | phOcPeakExpiry => exact execPhOcPeakExpiry_view (Nat.zero_and _) h
  | peakTimerExpiry => exact execPeakTimerExpiry_view (Nat.zero_and _) h
  | foldbackHoldExpiry => exact execFoldbackHoldExpiry_view (Nat.zero_and _) h
  | foldbackLimitExpiry => exact execFoldbackLimitExpiry_view (Nat.zero_and _) h
  | ovPersist => exact execOvPersist_view (Nat.zero_and _) h
  | uv => exact execUv_view (Nat.zero_and _) h
  | uvS3Expiry => exact execUvS3Expiry_view (Nat.zero_and _) h
  | stgFlt => exact execStgFlt_view (Nat.zero_and _) h
  | phaseSuspect => exact execPhaseSuspect_view (Nat.zero_and _) h
  | feTimerExpiry => exact execFeTimerExpiry_view (Nat.zero_and _) h
  | s1HoldExpiry => exact execS1HoldExpiry_view (Nat.zero_and _) h
  | s2HoldExpiry => exact execS2HoldExpiry_view (Nat.zero_and _) h
  | safeRelease => exact execSafeRelease_view (Nat.zero_and _) h
  | restartDelayExpiry => exact execRestartDelayExpiry_view (Nat.zero_and _) h
  | retryRefill => exact execRetryRefill_view (Nat.zero_and _) h
  | lastFaultWrite => exact execLastFaultWrite_view (Nat.zero_and _) h
  | shedStart => exact execShedStart_view (Nat.zero_and _) h
  | shedRampEnd => exact execShedRampEnd_view (Nat.zero_and _) h
  | rotationStep => exact execRotationStep_view (Nat.zero_and _) h
  | regSyncQualify => exact execRegSyncQualify_view (Nat.zero_and _) h
  | regSyncLock => exact execRegSyncLock_view (Nat.zero_and _) h
  | regSyncLoss => exact execRegSyncLoss_view (Nat.zero_and _) h
  | railEnableOn => exact execRailEnableOn_view (Nat.zero_and _) h
  | railEnableOff => exact execRailEnableOff_view (Nat.zero_and _) h
  | groupMove => exact execGroupMove_view (Nat.zero_and _) h
  | groupStop => exact execGroupStop_view (Nat.zero_and _) h
  | setpointWrite => exact execSetpointWrite_view (Nat.zero_and _) h
  | bankSwap => exact execBankSwap_view (Nat.zero_and _) h
  | phaseControllerWrite => exact execPhaseControllerWrite_view (Nat.zero_and _) h
  | phaseOutOfService => exact execPhaseOutOfService_view (Nat.zero_and _) h
  | phaseReinstate => exact execPhaseReinstate_view (Nat.zero_and _) h
  | stepAnnounce => exact execStepAnnounce_view (Nat.zero_and _) h
  | execMarker => exact execExecMarker_view (Nat.zero_and _) h
  | ffLookupDone => exact execFfLookupDone_view (Nat.zero_and _) h
  | announcementMissed => exact execAnnouncementMissed_view (Nat.zero_and _) h
  | settlingEnd => exact execSettlingEnd_view (Nat.zero_and _) h
  | stepClkWindow => exact execStepClkWindow_view (Nat.zero_and _) h
  | ffDutyStart => exact execFfDutyStart_view (Nat.zero_and _) h
  | ffShimPost => exact execFfShimPost_view (Nat.zero_and _) h
  | tableLoadStart => exact execTableLoadStart_view (Nat.zero_and _) h
  | tablePageCopied => exact execTablePageCopied_view (Nat.zero_and _) h
  | slotSwap => exact execSlotSwap_view (Nat.zero_and _) h
  | pageFree => exact execPageFree_view (Nat.zero_and _) h
  | slotEnable => exact execSlotEnable_view (Nat.zero_and _) h
  | slotProgramWrite => exact execSlotProgramWrite_view (Nat.zero_and _) h
  | slotRelease => exact execSlotRelease_view (Nat.zero_and _) h
  | shimControlCycle => exact execShimControlCycle_view (Nat.zero_and _) h
  | shimRefStep => exact execShimRefStep_view (Nat.zero_and _) h
  | shimSaturation => exact execShimSaturation_view (Nat.zero_and _) h
  | boostHoldExpiry => exact execBoostHoldExpiry_view (Nat.zero_and _) h
  | headroomWaitExpiry => exact execHeadroomWaitExpiry_view (Nat.zero_and _) h
  | preloadArm => exact execPreloadArm_view (Nat.zero_and _) h
  | preloadDisarm => exact execPreloadDisarm_view (Nat.zero_and _) h
  | kerfCrossing => exact execKerfCrossing_view (Nat.zero_and _) h
  | kerfLevelRaise => exact execKerfLevelRaise_view (Nat.zero_and _) h
  | kerfStretchEnd => exact execKerfStretchEnd_view (Nat.zero_and _) h
  | stretchHoldClear => exact execStretchHoldClear_view (Nat.zero_and _) h
  | shimLow => exact execShimLow_view (Nat.zero_and _) h
  | kerfDuty => exact execKerfDuty_view (Nat.zero_and _) h
  | regionMonitorConversion => exact execRegionMonitorConversion_view (Nat.zero_and _) h
  | trimWrite => exact execTrimWrite_view (Nat.zero_and _) h
  | kerfTestStart => exact execKerfTestStart_view (Nat.zero_and _) h
  | kerfTestEnd => exact execKerfTestEnd_view (Nat.zero_and _) h
  | regionTargetWrite => exact execRegionTargetWrite_view (Nat.zero_and _) h
  | setpointMapTileWrite => exact execSetpointMapTileWrite_view (Nat.zero_and _) h
  | regionModeWrite => exact execRegionModeWrite_view (Nat.zero_and _) h
  | sourceMonitorWindow => exact execSourceMonitorWindow_view (Nat.zero_and _) h
  | sourceMissingEdge => exact execSourceMissingEdge_view (Nat.zero_and _) h
  | tileSourceSelect => exact execTileSourceSelect_view (Nat.zero_and _) h
  | dividerStep => exact execDividerStep_view (Nat.zero_and _) h
  | skipStep => exact execSkipStep_view (Nat.zero_and _) h
  | pointRequestWrite => exact execPointRequestWrite_view (Nat.zero_and _) h
  | seqVoltageStep => exact execSeqVoltageStep_view (Nat.zero_and _) h
  | seqVoltageDone => exact execSeqVoltageDone_view (Nat.zero_and _) h
  | vTimeout => exact execVTimeout_view (Nat.zero_and _) h
  | tclkStart => exact execTclkStart_view (Nat.zero_and _) h
  | estimatorBoundary => exact execEstimatorBoundary_view (Nat.zero_and _) h
  | capEscalateExpiry => exact execCapEscalateExpiry_view (Nat.zero_and _) h
  | capRaiseHoldExpiry => exact execCapRaiseHoldExpiry_view (Nat.zero_and _) h
  | calibrationUpdate => exact execCalibrationUpdate_view (Nat.zero_and _) h
  | adopt => exact execAdopt_view (Nat.zero_and _) h
  | telemetryInstant => exact execTelemetryInstant_view (Nat.zero_and _) h
  | budgetWrite => exact execBudgetWrite_view (Nat.zero_and _) h
  | policyWrite => exact execPolicyWrite_view (Nat.zero_and _) h
  | thrInAssert => exact execThrInAssert_view (Nat.zero_and _) h
  | thrInRelease => exact execThrInRelease_view (Nat.zero_and _) h
  | clampOpen => exact execClampOpen_view (Nat.zero_and _) h
  | clampClose => exact execClampClose_view (Nat.zero_and _) h
  | clampRequest => exact execClampRequest_view (Nat.zero_and _) h
  | clampRelease => exact execClampRelease_view (Nat.zero_and _) h
  | clampCancel => exact execClampCancel_view (Nat.zero_and _) h
  | grantWindowEnd => exact execGrantWindowEnd_view (Nat.zero_and _) h
  | requestWaitExpiry => exact execRequestWaitExpiry_view (Nat.zero_and _) h
  | enforceWrite => exact execEnforceWrite_view (Nat.zero_and _) h
  | tilePartitionMapWrite => exact execTilePartitionMapWrite_view (Nat.zero_and _) h
  | barInRise => exact execBarInRise_view (Nat.zero_and _) h
  | barOutRise => exact execBarOutRise_view (Nat.zero_and _) h
  | dovetailWave => exact execDovetailWave_view (Nat.zero_and _) h
  | barOutFall => exact execBarOutFall_view (Nat.zero_and _) h
  | planWindowExpiry => exact execPlanWindowExpiry_view (Nat.zero_and _) h
  | barrierArriveReceive => exact execBarrierArriveReceive_view (Nat.zero_and _) h
  | barrierReleaseReceive => exact execBarrierReleaseReceive_view (Nat.zero_and _) h
  | barrierCancelReceive => exact execBarrierCancelReceive_view (Nat.zero_and _) h
  | barrierTimeout => exact execBarrierTimeout_view (Nat.zero_and _) h
  | packageBarrierCancel => exact execPackageBarrierCancel_view (Nat.zero_and _) h
  | gaugeInstant => exact execGaugeInstant_view (Nat.zero_and _) h
  | gaugeSuspect => exact execGaugeSuspect_view (Nat.zero_and _) h
  | thermalStepExpiry => exact execThermalStepExpiry_view (Nat.zero_and _) h
  | thermalRaiseHoldExpiry => exact execThermalRaiseHoldExpiry_view (Nat.zero_and _) h
  | rateHoldExpiry => exact execRateHoldExpiry_view (Nat.zero_and _) h
  | hardTripComparatorRise => exact execHardTripComparatorRise_view (Nat.zero_and _) h
  | hardTrip => exact execHardTrip_view (Nat.zero_and _) h
  | gaugeReferenceCycle => exact execGaugeReferenceCycle_view (Nat.zero_and _) h
  | gaugeAlign => exact execGaugeAlign_view (Nat.zero_and _) h
  | gaugeClear => exact execGaugeClear_view (Nat.zero_and _) h
  | gaugeTakeOff => exact execGaugeTakeOff_view (Nat.zero_and _) h
  | gaugeReturn => exact execGaugeReturn_view (Nat.zero_and _) h
  | gaugeCommandDone => exact execGaugeCommandDone_view (Nat.zero_and _) h
  | gaugeCalStore => exact execGaugeCalStore_view (Nat.zero_and _) h
  | gaugeCalStoreDone => exact execGaugeCalStoreDone_view (Nat.zero_and _) h
  | thermalRearm => exact execThermalRearm_view (Nat.zero_and _) h
  | rearmComplete => exact execRearmComplete_view (Nat.zero_and _) h
  | relayTimeout => exact execRelayTimeout_view (Nat.zero_and _) h
  | relayClear => exact execRelayClear_view (Nat.zero_and _) h
  | thermalModelUpdate => exact execThermalModelUpdate_view (Nat.zero_and _) h
  | predictHoldExpiry => exact execPredictHoldExpiry_view (Nat.zero_and _) h
  | pinnedActivation => exact execPinnedActivation_view (Nat.zero_and _) h
  | activationDeadlineMiss => exact execActivationDeadlineMiss_view (Nat.zero_and _) h
  | engineSteal => exact execEngineSteal_view (Nat.zero_and _) h
  | taskSpawn => exact execTaskSpawn_view (Nat.zero_and _) h
  | nop => exact execNop_view (Nat.zero_and _) h
  | ldi => exact execLdi_view (Nat.zero_and _) h
  | ldih => exact execLdih_view (Nat.zero_and _) h
  | mov => exact execMov_view (Nat.zero_and _) h
  | ldm => exact execLdm_view (Nat.zero_and _) h
  | stm => exact execStm_view (Nat.zero_and _) h
  | add => exact execAdd_view (Nat.zero_and _) h
  | addi => exact execAddi_view (Nat.zero_and _) h
  | sub => exact execSub_view (Nat.zero_and _) h
  | neg => exact execNeg_view (Nat.zero_and _) h
  | abs => exact execAbs_view (Nat.zero_and _) h
  | mul => exact execMul_view (Nat.zero_and _) h
  | mulsh => exact execMulsh_view (Nat.zero_and _) h
  | mulish => exact execMulish_view (Nat.zero_and _) h
  | div => exact execDiv_view (Nat.zero_and _) h
  | min => exact execMin_view (Nat.zero_and _) h
  | max => exact execMax_view (Nat.zero_and _) h
  | clamp => exact execClamp_view (Nat.zero_and _) h
  | and => exact execAnd_view (Nat.zero_and _) h
  | or => exact execOr_view (Nat.zero_and _) h
  | xor => exact execXor_view (Nat.zero_and _) h
  | not => exact execNot_view (Nat.zero_and _) h
  | shl => exact execShl_view (Nat.zero_and _) h
  | shr => exact execShr_view (Nat.zero_and _) h
  | sar => exact execSar_view (Nat.zero_and _) h
  | andi => exact execAndi_view (Nat.zero_and _) h
  | sel => exact execSel_view (Nat.zero_and _) h
  | slt => exact execSlt_view (Nat.zero_and _) h
  | seq => exact execSeq_view (Nat.zero_and _) h
  | beq => exact execBeq_view (Nat.zero_and _) h
  | bne => exact execBne_view (Nat.zero_and _) h
  | blt => exact execBlt_view (Nat.zero_and _) h
  | bge => exact execBge_view (Nat.zero_and _) h
  | bz => exact execBz_view (Nat.zero_and _) h
  | jmp => exact execJmp_view (Nat.zero_and _) h
  | end_ => exact execEnd_view (Nat.zero_and _) h
  | filt => exact execFilt_view (Nat.zero_and _) h
  | integ => exact execInteg_view (Nat.zero_and _) h
  | deadb => exact execDeadb_view (Nat.zero_and _) h
  | slew => exact execSlew_view (Nat.zero_and _) h
  | rdtel => exact execRdtel_view (Nat.zero_and _) h
  | rdobj => exact execRdobj_view (Nat.zero_and _) h
  | wrobj => exact execWrobj_view (Nat.zero_and _) h
  | post => exact execPost_view (Nat.zero_and _) h
  | event => exact execEvent_view (Nat.zero_and _) h
  | trace => exact execTrace_view (Nat.zero_and _) h
  | actn => exact execActn_view (Nat.zero_and _) h
  | elapsed => exact execElapsed_view (Nat.zero_and _) h
  | jigImageWrite => exact execJigImageWrite_view (Nat.zero_and _) h
  | jigStart => exact execJigStart_view (Nat.zero_and _) h
  | jigStop => exact execJigStop_view (Nat.zero_and _) h
  | jigReset => exact execJigReset_view (Nat.zero_and _) h
  | flashImageWrite => exact execFlashImageWrite_view (Nat.zero_and _) h
  | flashImageWriteDone => exact execFlashImageWriteDone_view (Nat.zero_and _) h
  | engineDrainDone => exact execEngineDrainDone_view (Nat.zero_and _) h
  | engineReloadDone => exact execEngineReloadDone_view (Nat.zero_and _) h
  | engineStartDone => exact execEngineStartDone_view (Nat.zero_and _) h
  | engineDrainTimeout => exact execEngineDrainTimeout_view (Nat.zero_and _) h
  | engineStartTimeout => exact execEngineStartTimeout_view (Nat.zero_and _) h
  | commitSlot => exact execCommitSlot_view (Nat.zero_and _) h
  | engineWatchdogExpiry => exact execEngineWatchdogExpiry_view (Nat.zero_and _) h
  | globalWatchdogExpiry => exact execGlobalWatchdogExpiry_view (Nat.zero_and _) h
  | syncBind => exact execSyncBind_view (Nat.zero_and _) h
  | syncSignal => exact execSyncSignal_view (Nat.zero_and _) h
  | syncAcquire => exact execSyncAcquire_view (Nat.zero_and _) h
  | syncWait => exact execSyncWait_view (Nat.zero_and _) h
  | syncCancel => exact execSyncCancel_view (Nat.zero_and _) h
  | doorbellSignal => exact execDoorbellSignal_view (Nat.zero_and _) h
  | doorbellTryAcquire => exact execDoorbellTryAcquire_view (Nat.zero_and _) h
  | syncSetValue => exact execSyncSetValue_view (Nat.zero_and _) h
  | syncClearFlags => exact execSyncClearFlags_view (Nat.zero_and _) h
  | syncOwnerAssign => exact execSyncOwnerAssign_view (Nat.zero_and _) h
  | dmaStart => exact execDmaStart_view (Nat.zero_and _) h
  | dmaResume => exact execDmaResume_view (Nat.zero_and _) h
  | dmaAbort => exact execDmaAbort_view (Nat.zero_and _) h
  | dmaRequestIssue => exact execDmaRequestIssue_view (Nat.zero_and _) h
  | dmaResponse => exact execDmaResponse_view (Nat.zero_and _) h
  | dmaShareWindow => exact execDmaShareWindow_view (Nat.zero_and _) h
  | dmaCtlWrite => exact execDmaCtlWrite_view (Nat.zero_and _) h
  | dmaDeviceTake => exact execDmaDeviceTake_view (Nat.zero_and _) h
  | eventCapture => exact execEventCapture_view (Nat.zero_and _) h
  | recordWrite => exact execRecordWrite_view (Nat.zero_and _) h
  | flashRecordProgram => exact execFlashRecordProgram_view (Nat.zero_and _) h
  | flashEraseDone => exact execFlashEraseDone_view (Nat.zero_and _) h
  | flashTimeout => exact execFlashTimeout_view (Nat.zero_and _) h
  | flashScanDone => exact execFlashScanDone_view (Nat.zero_and _) h
  | cursorFetch => exact execCursorFetch_view (Nat.zero_and _) h
  | cursorSeekOld => exact execCursorSeekOld_view (Nat.zero_and _) h
  | cursorSeekNew => exact execCursorSeekNew_view (Nat.zero_and _) h
  | calendarTimeSet => exact execCalendarTimeSet_view (Nat.zero_and _) h
  | commission => exact execCommission_view (Nat.zero_and _) h
  | bootRecordWrite => exact execBootRecordWrite_view (Nat.zero_and _) h
  | bootRecordWriteDone => exact execBootRecordWriteDone_view (Nat.zero_and _) h
  | counterSnapshot => exact execCounterSnapshot_view (Nat.zero_and _) h
  | counterSelect => exact execCounterSelect_view (Nat.zero_and _) h
  | scribeArm => exact execScribeArm_view (Nat.zero_and _) h
  | scribeDisarm => exact execScribeDisarm_view (Nat.zero_and _) h
  | scribeControlTrigger => exact execScribeControlTrigger_view (Nat.zero_and _) h
  | scribeClear => exact execScribeClear_view (Nat.zero_and _) h
  | scribeRecord => exact execScribeRecord_view (Nat.zero_and _) h
  | scribeTimeMark => exact execScribeTimeMark_view (Nat.zero_and _) h
  | mapDumpArm => exact execMapDumpArm_view (Nat.zero_and _) h
  | mapDumpDisarm => exact execMapDumpDisarm_view (Nat.zero_and _) h
  | mapDumpCopy => exact execMapDumpCopy_view (Nat.zero_and _) h
  | mapDump => exact execMapDump_view (Nat.zero_and _) h
  | graphStart => exact execGraphStart_view (Nat.zero_and _) h
  | graphDone => exact execGraphDone_view (Nat.zero_and _) h
  | stopInAssert => exact execStopInAssert_view (Nat.zero_and _) h
  | stopEnter => exact execStopEnter_view (Nat.zero_and _) h
  | stopInRelease => exact execStopInRelease_view (Nat.zero_and _) h
  | stopRequestWrite => exact execStopRequestWrite_view (Nat.zero_and _) h
  | trigReqClear => exact execTrigReqClear_view (Nat.zero_and _) h
  | debugPush => exact execDebugPush_view (Nat.zero_and _) h
  | smbusBlockWrite => exact execSmbusBlockWrite_view (Nat.zero_and _) h
  | smbusBlockRead => exact execSmbusBlockRead_view (Nat.zero_and _) h
  | smbusAraRead => exact execSmbusAraRead_view (Nat.zero_and _) h
  | smbusTimeout => exact execSmbusTimeout_view (Nat.zero_and _) h
  | i3cPrivateRead => exact execI3cPrivateRead_view (Nat.zero_and _) h
  | entdaa => exact execEntdaa_view (Nat.zero_and _) h
  | setdasa => exact execSetdasa_view (Nat.zero_and _) h
  | setaasa => exact execSetaasa_view (Nat.zero_and _) h
  | rstdaa => exact execRstdaa_view (Nat.zero_and _) h
  | enec => exact execEnec_view (Nat.zero_and _) h
  | disec => exact execDisec_view (Nat.zero_and _) h
  | getpid => exact execGetpid_view (Nat.zero_and _) h
  | getbcr => exact execGetbcr_view (Nat.zero_and _) h
  | getdcr => exact execGetdcr_view (Nat.zero_and _) h
  | getstatus => exact execGetstatus_view (Nat.zero_and _) h
  | getmwl => exact execGetmwl_view (Nat.zero_and _) h
  | setmwl => exact execSetmwl_view (Nat.zero_and _) h
  | getmrl => exact execGetmrl_view (Nat.zero_and _) h
  | setmrl => exact execSetmrl_view (Nat.zero_and _) h
  | getmxds => exact execGetmxds_view (Nat.zero_and _) h
  | ibiRetry => exact execIbiRetry_view (Nat.zero_and _) h
  | packetFetchTimeout => exact execPacketFetchTimeout_view (Nat.zero_and _) h
  | setEndpointId => exact execSetEndpointId_view (Nat.zero_and _) h
  | getEndpointId => exact execGetEndpointId_view (Nat.zero_and _) h
  | getEndpointUuid => exact execGetEndpointUuid_view (Nat.zero_and _) h
  | getMctpVersionSupport => exact execGetMctpVersionSupport_view (Nat.zero_and _) h
  | getMessageTypeSupport => exact execGetMessageTypeSupport_view (Nat.zero_and _) h
  | getVendorMessageSupport => exact execGetVendorMessageSupport_view (Nat.zero_and _) h
  | settid => exact execSettid_view (Nat.zero_and _) h
  | gettid => exact execGettid_view (Nat.zero_and _) h
  | getpldmversion => exact execGetpldmversion_view (Nat.zero_and _) h
  | getpldmtypes => exact execGetpldmtypes_view (Nat.zero_and _) h
  | getpldmcommands => exact execGetpldmcommands_view (Nat.zero_and _) h
  | getsensorreading => exact execGetsensorreading_view (Nat.zero_and _) h
  | getpdrrepositoryinfo => exact execGetpdrrepositoryinfo_view (Nat.zero_and _) h
  | getpdr => exact execGetpdr_view (Nat.zero_and _) h
  | pmbusPoll => exact execPmbusPoll_view (Nat.zero_and _) h
  | pmbAlert => exact execPmbAlert_view (Nat.zero_and _) h
  | pmbusOperation => exact execPmbusOperation_view (Nat.zero_and _) h
  | pmbusClearFaults => exact execPmbusClearFaults_view (Nat.zero_and _) h
  | pmbusVoutCommand => exact execPmbusVoutCommand_view (Nat.zero_and _) h
  | pmbusAddressWrite => exact execPmbusAddressWrite_view (Nat.zero_and _) h
  | generationAdvance => exact execGenerationAdvance_view (Nat.zero_and _) h
  | violRearm => exact execViolRearm_view (Nat.zero_and _) h
  | i3cPrivateWrite => exact execI3cPrivateWrite_view (Nat.zero_and _) h
  | inBandInterrupt => exact execInBandInterrupt_view (Nat.zero_and _) h
  | fabricRead => exact execFabricRead_view (Nat.zero_and _) h
  | hardTripComparatorFall => exact execHardTripComparatorFall_view (Nat.zero_and _) h
  | rearmLevelCrossing => exact execRearmLevelCrossing_view (Nat.zero_and _) h

theorem view_pending_inst {k : Nat} {s t : State} (h : t.view k = s.view k) : t.pending = s.pending ∧ t.inst = s.inst :=
  ⟨view_pending h, view_inst h⟩

theorem view_with_aon_pending_inst {k : Nat} {s t : State} {a : Aon} (h : t.view k = State.view k { s with aon := a }) :
    t.pending = s.pending ∧ t.inst = s.inst :=
  ⟨(view_pending h).trans (State.with_aon_pending s a), (view_inst h).trans (State.with_aon_inst s a)⟩

theorem execVddAonRise_pending_inst {s t : State} (h : execVddAonRise s = .next t) : t.pending = s.pending ∧ t.inst = s.inst :=
  view_with_aon_pending_inst (execVddAonRise_view (Nat.zero_and _) h)

/-- The loss of VDD_AON takes every unit but the flash; the queue and the build are none of them (R228). -/
theorem execVddAonLoss_pending_inst {s t : State} (h : execVddAonLoss s = .next t) :
    t.pending = s.pending ∧ t.inst = s.inst := by
  unfold execVddAonLoss at h
  split at h <;> obtain rfl := Host.Outcome.next.inj h <;> exact ⟨rfl, rfl⟩

/-- A fall of POR_N puts every island in reset; the queue and the build lie in none (R21). -/
theorem execPorNAssert_pending_inst {s t : State} (h : execPorNAssert s = .next t) :
    t.pending = s.pending ∧ t.inst = s.inst := by
  unfold execPorNAssert at h
  split at h <;> obtain rfl := Host.Outcome.next.inj h <;> exact ⟨rfl, rfl⟩

theorem execPorNRelease_pending_inst {s t : State} (h : execPorNRelease s = .next t) :
    t.pending = s.pending ∧ t.inst = s.inst := by
  obtain hv | ⟨-, hv⟩ := execPorNRelease_view (Nat.zero_and _) h
  · exact view_pending_inst hv
  · exact view_with_aon_pending_inst hv

theorem execHostRstNAssert_pending_inst {s t : State} (h : execHostRstNAssert s = .next t) :
    t.pending = s.pending ∧ t.inst = s.inst :=
  view_with_aon_pending_inst (execHostRstNAssert_view (Nat.zero_and _) h)

theorem execHostRstNRelease_pending_inst {s t : State} (h : execHostRstNRelease s = .next t) :
    t.pending = s.pending ∧ t.inst = s.inst :=
  view_with_aon_pending_inst (execHostRstNRelease_view (Nat.zero_and _) h)

theorem exec_pin_pending_inst {c : Instr} {s t : State} (hc : c ∈ supplyAndResetPins) (h : exec c s = .next t) :
    t.pending = s.pending ∧ t.inst = s.inst := by
  simp only [supplyAndResetPins, List.mem_cons, List.not_mem_nil, or_false] at hc
  obtain rfl | rfl | rfl | rfl | rfl | rfl := hc
  · exact execVddAonRise_pending_inst h
  · exact execVddAonLoss_pending_inst h
  · exact execPorNAssert_pending_inst h
  · exact execPorNRelease_pending_inst h
  · exact execHostRstNAssert_pending_inst h
  · exact execHostRstNRelease_pending_inst h

/-- Settles O3: the six commands of the supply and reset pins by their own lemmas, every other command by its frame. -/
theorem queueAndBuildKept : Obligations.QueueAndBuildKept := by
  unfold Obligations.QueueAndBuildKept
  intro c s t h
  by_cases hc : c ∈ supplyAndResetPins
  · exact exec_pin_pending_inst hc h
  · exact view_pending_inst (exec_view_zero hc h)

/-- O3 at the command that clears the most: VDD_AON is lost with a command waiting behind, and that command still waits. -/
theorem vddAonLoss_keeps_waiting : ∃ t, exec .vddAonLoss { State.reset with pending := [.vddAonRise] } = .next t ∧
    t.aon.vddAon = false ∧ t.pending = [.vddAonRise] := by
  have h : exec .vddAonLoss { State.reset with pending := [.vddAonRise] } =
      .next (State.afterLoss { State.reset with pending := [.vddAonRise] }) := rfl
  exact ⟨_, h, rfl, (queueAndBuildKept _ _ _ h).1⟩

end Sys2Proof.Machine

/-! What holds of every command and of every step (O1, O2, O4, O5, O6). -/

namespace Sys2Proof.Machine

open Sys2Proof

/-- Settles O1: with a command waiting a step is `exec`; with none it is the idle tick, which keeps the queue. -/
theorem stepRunsFrontCommand : Obligations.StepRunsFrontCommand := by
  unfold Obligations.StepRunsFrontCommand
  refine ⟨fun c rest s => rfl, fun s hs => ⟨idleTick s, ?_, ?_⟩⟩
  · simp only [step, hs]
  · exact (elapse_pending 4 s).trans hs

theorem State.reset_cursors_length : State.reset.rcd.cursors.length = 66 := by
  have h : State.reset.rcd.cursors = ((List.range 64).map (fun p => ({ source := p } : Cursor))) ++ [({} : Cursor), {}] := rfl
  rw [h, List.length_append, List.length_map, List.length_range]
  rfl

/-- Settles O6. -/
theorem resetWellFormed : Obligations.ResetWellFormed := by
  unfold Obligations.ResetWellFormed
  exact ⟨{
    rails := List.length_replicate, phases := List.length_replicate, regions := List.length_replicate,
    ctxs := List.length_replicate, slots := List.length_replicate, engines := List.length_replicate,
    jigs := List.length_replicate, channels := List.length_replicate, mailbox := List.length_replicate,
    gens := List.length_replicate, rings := List.length_replicate, cursors := State.reset_cursors_length,
    nums := rfl, pins := nofun }, rfl⟩

/-- Settles O2: the meaning of a command that asks nothing of the state is a next state as it stands; every other command's
meaning is a case distinction whose branches are all next states. -/
theorem everyCommandAnswers : Obligations.EveryCommandAnswers := by
  unfold Obligations.EveryCommandAnswers runs
  intro c s
  cases c
  case vddAonRise | porNAssert | porNRelease | strapLatch | mgtReady | xspiResetEnd | bootFlashReadStart |
      bootReadsDone | referenceQualified | referenceLimitExpiry | ctlPllLock | trackedStart | groupDelayExpiry |
      railPowerGood | pgTimeout | engRelease | pllATimeout | hostRstNAssert | hostRstNRelease | enumStart |
      chainTimeout | hostInterfaceStart | imgStagingDone | imgLoadDone | fwFunctionStart | gateStop |
      clTransferTimeout | linkLockGain | linkCodeErrorLoss | linkK285Timeout | linkRelockTimeout | linkAckTimeout |
      nakReceive | farEndTimeout | enumRepeat | enumTimeout | nodeRejoinReceive | budTransactionOpen | budRetry |
      compensatorSample | currentConversion | phOcPeakExpiry | peakTimerExpiry | foldbackHoldExpiry |
      foldbackLimitExpiry | ovPersist | uv | uvS3Expiry | stgFlt | phaseSuspect | feTimerExpiry | s1HoldExpiry |
      s2HoldExpiry | restartDelayExpiry | retryRefill | lastFaultWrite | shedStart | shedRampEnd | rotationStep |
      regSyncQualify | regSyncLock | regSyncLoss | stepAnnounce | execMarker | ffLookupDone | announcementMissed |
      settlingEnd | stepClkWindow | ffShimPost | tableLoadStart | tablePageCopied | shimControlCycle | shimRefStep |
      shimSaturation | boostHoldExpiry | headroomWaitExpiry | preloadArm | preloadDisarm | kerfCrossing |
      kerfLevelRaise | kerfStretchEnd | stretchHoldClear | shimLow | kerfDuty | regionMonitorConversion |
      kerfTestEnd | sourceMissingEdge | tclkStart | estimatorBoundary | capEscalateExpiry | capRaiseHoldExpiry |
      calibrationUpdate | telemetryInstant | thrInAssert | thrInRelease | grantWindowEnd | requestWaitExpiry |
      barInRise | barOutRise | dovetailWave | barOutFall | planWindowExpiry | barrierTimeout | gaugeInstant |
      thermalStepExpiry | thermalRaiseHoldExpiry | rateHoldExpiry | hardTripComparatorRise | hardTrip |
      relayTimeout | thermalModelUpdate | predictHoldExpiry | pinnedActivation | activationDeadlineMiss |
      engineSteal | taskSpawn | nop | ldi | ldih | mov | ldm | stm | add | addi | sub | neg | abs | mul | mulsh |
      mulish | div | min | max | clamp | and | or | xor | not | shl | shr | sar | andi | sel | slt | seq | beq |
      bne | blt | bge | bz | jmp | end_ | filt | integ | deadb | slew | rdtel | rdobj | wrobj | post | event |
      trace | actn | elapsed | flashImageWriteDone | engineDrainDone | engineReloadDone | engineStartDone |
      engineDrainTimeout | engineStartTimeout | engineWatchdogExpiry | globalWatchdogExpiry | dmaRequestIssue |
      dmaShareWindow | dmaDeviceTake | recordWrite | flashScanDone | bootRecordWriteDone | stopInAssert |
      stopInRelease | smbusBlockWrite | smbusBlockRead | smbusTimeout | i3cPrivateRead | rstdaa | enec | disec |
      getstatus | packetFetchTimeout | pmbusPoll | pmbusAddressWrite | vddAonLoss | i3cPrivateWrite |
      rearmLevelCrossing =>
    simp only [exec,
      execVddAonRise, execPorNAssert, execPorNRelease, execStrapLatch, execMgtReady, execXspiResetEnd,
      execBootFlashReadStart, execBootReadsDone, execReferenceQualified, execReferenceLimitExpiry, execCtlPllLock,
      execTrackedStart, execGroupDelayExpiry, execRailPowerGood, execPgTimeout, execEngRelease, execPllATimeout,
      execHostRstNAssert, execHostRstNRelease, execEnumStart, execChainTimeout, execHostInterfaceStart,
      execImgStagingDone, execImgLoadDone, execFwFunctionStart, execGateStop, execClTransferTimeout,
      execLinkLockGain, execLinkCodeErrorLoss, execLinkK285Timeout, execLinkRelockTimeout, execLinkAckTimeout,
      execNakReceive, execFarEndTimeout, execEnumRepeat, execEnumTimeout, execNodeRejoinReceive,
      execBudTransactionOpen, execBudRetry, execCompensatorSample, execCurrentConversion, execPhOcPeakExpiry,
      execPeakTimerExpiry, execFoldbackHoldExpiry, execFoldbackLimitExpiry, execOvPersist, execUv, execUvS3Expiry,
      execStgFlt, execPhaseSuspect, execFeTimerExpiry, execS1HoldExpiry, execS2HoldExpiry, execRestartDelayExpiry,
      execRetryRefill, execLastFaultWrite, execShedStart, execShedRampEnd, execRotationStep, execRegSyncQualify,
      execRegSyncLock, execRegSyncLoss, execStepAnnounce, execExecMarker, execFfLookupDone, execAnnouncementMissed,
      execSettlingEnd, execStepClkWindow, execFfShimPost, execTableLoadStart, execTablePageCopied,
      execShimControlCycle, execShimRefStep, execShimSaturation, execBoostHoldExpiry, execHeadroomWaitExpiry,
      execPreloadArm, execPreloadDisarm, execKerfCrossing, execKerfLevelRaise, execKerfStretchEnd,
      execStretchHoldClear, execShimLow, execKerfDuty, execRegionMonitorConversion, execKerfTestEnd,
      execSourceMissingEdge, execTclkStart, execEstimatorBoundary, execCapEscalateExpiry, execCapRaiseHoldExpiry,
      execCalibrationUpdate, execTelemetryInstant, execThrInAssert, execThrInRelease, execGrantWindowEnd,
      execRequestWaitExpiry, execBarInRise, execBarOutRise, execDovetailWave, execBarOutFall, execPlanWindowExpiry,
      execBarrierTimeout, execGaugeInstant, execThermalStepExpiry, execThermalRaiseHoldExpiry, execRateHoldExpiry,
      execHardTripComparatorRise, execHardTrip, execRelayTimeout, execThermalModelUpdate, execPredictHoldExpiry,
      execPinnedActivation, execActivationDeadlineMiss, execEngineSteal, execTaskSpawn, execNop, execLdi, execLdih,
      execMov, execLdm, execStm, execAdd, execAddi, execSub, execNeg, execAbs, execMul, execMulsh, execMulish,
      execDiv, execMin, execMax, execClamp, execAnd, execOr, execXor, execNot, execShl, execShr, execSar, execAndi,
      execSel, execSlt, execSeq, execBeq, execBne, execBlt, execBge, execBz, execJmp, execEnd, execFilt, execInteg,
      execDeadb, execSlew, execRdtel, execRdobj, execWrobj, execPost, execEvent, execTrace, execActn, execElapsed,
      execFlashImageWriteDone, execEngineDrainDone, execEngineReloadDone, execEngineStartDone,
      execEngineDrainTimeout, execEngineStartTimeout, execEngineWatchdogExpiry, execGlobalWatchdogExpiry,
      execDmaRequestIssue, execDmaShareWindow, execDmaDeviceTake, execRecordWrite, execFlashScanDone,
      execBootRecordWriteDone, execStopInAssert, execStopInRelease, execSmbusBlockWrite, execSmbusBlockRead,
      execSmbusTimeout, execI3cPrivateRead, execRstdaa, execEnec, execDisec, execGetstatus, execPacketFetchTimeout,
      execPmbusPoll, execPmbusAddressWrite, execVddAonLoss, execI3cPrivateWrite, execRearmLevelCrossing]
    (repeat' split) <;> exact ⟨_, rfl⟩
  all_goals exact ⟨_, rfl⟩

/-! The frame (O4). -/

/-- The place of a unit in the masks of `State.view`. -/
def Part.place : Part → Nat
  | .aon => 0 | .obj => 1 | .cl => 2 | .chain => 3 | .rails => 4 | .phases => 5 | .prot => 6 | .ff => 7
  | .regions => 8 | .shim => 9 | .clk => 10 | .cap => 11 | .cla => 12 | .dove => 13 | .therm => 14 | .dowel => 15
  | .sync => 16 | .dma => 17 | .rcd => 18 | .flash => 19 | .obs => 20 | .mgt => 21 | .host => 22 | .free => 23

/-- The mask of every unit that a list does not name. -/
def maskBut (l : List Part) : Nat := (Part.all.filter (fun p => p ∉ l)).foldr (fun p k => 2 ^ p.place ||| k) 0

theorem Part.mem_all (p : Part) : p ∈ Part.all := by cases p <;> decide

/-- A view holds each unit of its mask. -/
theorem Part.same_of_mask {k : Nat} {s t : State} {p : Part} (h : t.view k = s.view k) (hk : k / 2 ^ p.place % 2 = 1) :
    p.same s t := by
  cases p with
  | aon => exact view_aon h hk
  | obj => exact view_obj h hk
  | cl => exact view_cl h hk
  | chain => exact view_chain h hk
  | rails => exact view_rails h hk
  | phases => exact view_phases h hk
  | prot => exact view_prot h hk
  | ff => exact view_ff h hk
  | regions => exact view_regions h hk
  | shim => exact view_shim h hk
  | clk => exact view_clk h hk
  | cap => exact view_cap h hk
  | cla => exact view_cla h hk
  | dove => exact view_dove h hk
  | therm => exact view_therm h hk
  | dowel => exact view_dowel h hk
  | sync => exact view_sync h hk
  | dma => exact view_dma h hk
  | rcd => exact view_rcd h hk
  | flash => exact view_flash h hk
  | obs => exact view_obs h hk
  | mgt => exact view_mgt h hk
  | host => exact view_host h hk
  | free => exact view_free h hk

theorem testBit_places {p : Part} {ps : List Part} (hp : p ∈ ps) :
    (ps.foldr (fun q k => 2 ^ Part.place q ||| k) 0).testBit p.place = true := by
  induction ps with
  | nil => simp at hp
  | cons q ps ih =>
    rw [List.foldr_cons, Nat.testBit_or, Bool.or_eq_true]
    obtain rfl | hp := List.mem_cons.mp hp
    · exact .inl Nat.testBit_two_pow_self
    · exact .inr (ih hp)

theorem maskBut_bit {l : List Part} {p : Part} (hp : p ∉ l) : maskBut l / 2 ^ p.place % 2 = 1 := by
  have hm : p ∈ Part.all.filter (fun p => p ∉ l) := List.mem_filter.mpr ⟨p.mem_all, decide_eq_true hp⟩
  have hb : (maskBut l).testBit p.place = true := testBit_places hm
  rwa [Nat.testBit_eq_decide_div_mod_eq, decide_eq_true_eq] at hb

/-- Every unit that the list does not name is the same where the view of all those units is. -/
theorem same_of_view {l : List Part} {s t : State} {p : Part} (hp : p ∉ l) (h : t.view (maskBut l) = s.view (maskBut l)) :
    p.same s t :=
  Part.same_of_mask h (maskBut_bit hp)

/-- The same where the always-on island, which the list names, has changed before. -/
theorem same_of_view_with_aon {l : List Part} {s t : State} {p : Part} {a : Aon} (hp : p ∉ l) (ha : .aon ∈ l)
    (h : t.view (maskBut l) = State.view (maskBut l) { s with aon := a }) : p.same s t := by
  have hs : p.same { s with aon := a } t := Part.same_of_mask h (maskBut_bit hp)
  cases p with
  | aon => exact absurd ha hp
  | _ => exact hs

/-- Settles O4: each command keeps the view of the units that its row of `touched` does not name, by the view lemma of its
meaning; a row that names every unit leaves nothing to show. -/
theorem unitFrame : Obligations.UnitFrame := by
  unfold Obligations.UnitFrame
  intro c s t p h hp
  cases c with dsimp only [touched] at hp
  | hostRstNRelease => exact same_of_view_with_aon hp (by decide) (execHostRstNRelease_view (by decide) h)
  | linkK285Timeout => exact same_of_view hp (execLinkK285Timeout_view (by decide) h)
  | poisonReceive => exact same_of_view hp (execPoisonReceive_view (by decide) h)
  | seqVoltageDone => exact same_of_view hp (execSeqVoltageDone_view (by decide) h)
  | dmaShareWindow => exact same_of_view hp (execDmaShareWindow_view (by decide) h)
  | dmaDeviceTake => exact same_of_view hp (execDmaDeviceTake_view (by decide) h)
  | end_ => exact same_of_view hp (execEnd_view (by decide) h)
  | pageFree => exact same_of_view hp (execPageFree_view (by decide) h)
  | smbusBlockRead => exact same_of_view hp (execSmbusBlockRead_view (by decide) h)
  | smbusAraRead => exact same_of_view hp (execSmbusAraRead_view (by decide) h)
  | i3cPrivateRead => exact same_of_view hp (execI3cPrivateRead_view (by decide) h)
  | entdaa => exact same_of_view hp (execEntdaa_view (by decide) h)
  | setdasa => exact same_of_view hp (execSetdasa_view (by decide) h)
  | setaasa => exact same_of_view hp (execSetaasa_view (by decide) h)
  | rstdaa => exact same_of_view hp (execRstdaa_view (by decide) h)
  | enec => exact same_of_view hp (execEnec_view (by decide) h)
  | disec => exact same_of_view hp (execDisec_view (by decide) h)
  | getpid => exact same_of_view hp (execGetpid_view (by decide) h)
  | getbcr => exact same_of_view hp (execGetbcr_view (by decide) h)
  | getdcr => exact same_of_view hp (execGetdcr_view (by decide) h)
  | getmwl => exact same_of_view hp (execGetmwl_view (by decide) h)
  | setmwl => exact same_of_view hp (execSetmwl_view (by decide) h)
  | getmrl => exact same_of_view hp (execGetmrl_view (by decide) h)
  | setmrl => exact same_of_view hp (execSetmrl_view (by decide) h)
  | getmxds => exact same_of_view hp (execGetmxds_view (by decide) h)
  | inBandInterrupt => exact same_of_view hp (execInBandInterrupt_view (by decide) h)
  | mapDumpCopy => exact same_of_view hp (execMapDumpCopy_view (by decide) h)
  | regSyncLock => exact same_of_view hp (execRegSyncLock_view (by decide) h)
  | hardTripComparatorRise => exact same_of_view hp (execHardTripComparatorRise_view (by decide) h)
  | hardTripComparatorFall => exact same_of_view hp (execHardTripComparatorFall_view (by decide) h)
  | rearmLevelCrossing => exact same_of_view hp (execRearmLevelCrossing_view (by decide) h)
  | enumStart => exact same_of_view hp (execEnumStart_view (by decide) h)
  | ackReceive => exact same_of_view hp (execAckReceive_view (by decide) h)
  | enumForward => exact same_of_view hp (execEnumForward_view (by decide) h)
  | engineDrainDone => exact same_of_view hp (execEngineDrainDone_view (by decide) h)
  | engineReloadDone => exact same_of_view hp (execEngineReloadDone_view (by decide) h)
  | getstatus => exact same_of_view hp (execGetstatus_view (by decide) h)
  | linkCodeErrorLoss => exact same_of_view hp (execLinkCodeErrorLoss_view (by decide) h)
  | frameReceiveBadCrc => exact same_of_view hp (execFrameReceiveBadCrc_view (by decide) h)
  | taskSpawn => exact same_of_view hp (execTaskSpawn_view (by decide) h)
  | smbusTimeout => exact same_of_view hp (execSmbusTimeout_view (by decide) h)
  | setEndpointId => exact same_of_view hp (execSetEndpointId_view (by decide) h)
  | getEndpointId => exact same_of_view hp (execGetEndpointId_view (by decide) h)
  | getEndpointUuid => exact same_of_view hp (execGetEndpointUuid_view (by decide) h)
  | getMctpVersionSupport => exact same_of_view hp (execGetMctpVersionSupport_view (by decide) h)
  | getMessageTypeSupport => exact same_of_view hp (execGetMessageTypeSupport_view (by decide) h)
  | getVendorMessageSupport => exact same_of_view hp (execGetVendorMessageSupport_view (by decide) h)
  | settid => exact same_of_view hp (execSettid_view (by decide) h)
  | gettid => exact same_of_view hp (execGettid_view (by decide) h)
  | getpldmversion => exact same_of_view hp (execGetpldmversion_view (by decide) h)
  | getpldmtypes => exact same_of_view hp (execGetpldmtypes_view (by decide) h)
  | getpldmcommands => exact same_of_view hp (execGetpldmcommands_view (by decide) h)
  | getpdrrepositoryinfo => exact same_of_view hp (execGetpdrrepositoryinfo_view (by decide) h)
  | getpdr => exact same_of_view hp (execGetpdr_view (by decide) h)
  | pmbAlert => exact same_of_view hp (execPmbAlert_view (by decide) h)
  | kerfTestEnd => exact same_of_view hp (execKerfTestEnd_view (by decide) h)
  | hostRstNAssert => exact same_of_view_with_aon hp (by decide) (execHostRstNAssert_view (by decide) h)
  | thrInAssert => exact same_of_view hp (execThrInAssert_view (by decide) h)
  | thrInRelease => exact same_of_view hp (execThrInRelease_view (by decide) h)
  | eventCapture => exact same_of_view hp (execEventCapture_view (by decide) h)
  | vddAonRise => exact same_of_view_with_aon hp (by decide) (execVddAonRise_view (by decide) h)
  | budReqReceive => exact same_of_view hp (execBudReqReceive_view (by decide) h)
  | budTransactionOpen => exact same_of_view hp (execBudTransactionOpen_view (by decide) h)
  | budPrepareReceive => exact same_of_view hp (execBudPrepareReceive_view (by decide) h)
  | budCommitReceive => exact same_of_view hp (execBudCommitReceive_view (by decide) h)
  | budAbortReceive => exact same_of_view hp (execBudAbortReceive_view (by decide) h)
  | tclkStart => exact same_of_view hp (execTclkStart_view (by decide) h)
  | ffLookupDone => exact same_of_view hp (execFfLookupDone_view (by decide) h)
  | tablePageCopied => exact same_of_view hp (execTablePageCopied_view (by decide) h)
  | getsensorreading => exact same_of_view hp (execGetsensorreading_view (by decide) h)
  | kerfLevelRaise => exact same_of_view hp (execKerfLevelRaise_view (by decide) h)
  | syncBind => exact same_of_view hp (execSyncBind_view (by decide) h)
  | syncSignal => exact same_of_view hp (execSyncSignal_view (by decide) h)
  | syncAcquire => exact same_of_view hp (execSyncAcquire_view (by decide) h)
  | syncWait => exact same_of_view hp (execSyncWait_view (by decide) h)
  | syncCancel => exact same_of_view hp (execSyncCancel_view (by decide) h)
  | flashRecordProgram => exact same_of_view hp (execFlashRecordProgram_view (by decide) h)
  | flashEraseDone => exact same_of_view hp (execFlashEraseDone_view (by decide) h)
  | flashScanDone => exact same_of_view hp (execFlashScanDone_view (by decide) h)
  | bootRecordWriteDone => exact same_of_view hp (execBootRecordWriteDone_view (by decide) h)
  | scribeRecord => exact same_of_view hp (execScribeRecord_view (by decide) h)
  | mapDump => exact same_of_view hp (execMapDump_view (by decide) h)
  | stopEnter => exact same_of_view hp (execStopEnter_view (by decide) h)
  | clampOpen => exact same_of_view hp (execClampOpen_view (by decide) h)
  | clampClose => exact same_of_view hp (execClampClose_view (by decide) h)
  | clampRequest => exact same_of_view hp (execClampRequest_view (by decide) h)
  | clampRelease => exact same_of_view hp (execClampRelease_view (by decide) h)
  | clampCancel => exact same_of_view hp (execClampCancel_view (by decide) h)
  | budCommitApply => exact same_of_view hp (execBudCommitApply_view (by decide) h)
  | kerfCrossing => exact same_of_view hp (execKerfCrossing_view (by decide) h)
  | nop => exact same_of_view hp (execNop_view (by decide) h)
  | ldi => exact same_of_view hp (execLdi_view (by decide) h)
  | ldih => exact same_of_view hp (execLdih_view (by decide) h)
  | mov => exact same_of_view hp (execMov_view (by decide) h)
  | ldm => exact same_of_view hp (execLdm_view (by decide) h)
  | stm => exact same_of_view hp (execStm_view (by decide) h)
  | add => exact same_of_view hp (execAdd_view (by decide) h)
  | addi => exact same_of_view hp (execAddi_view (by decide) h)
  | sub => exact same_of_view hp (execSub_view (by decide) h)
  | neg => exact same_of_view hp (execNeg_view (by decide) h)
  | abs => exact same_of_view hp (execAbs_view (by decide) h)
  | mul => exact same_of_view hp (execMul_view (by decide) h)
  | mulsh => exact same_of_view hp (execMulsh_view (by decide) h)
  | mulish => exact same_of_view hp (execMulish_view (by decide) h)
  | div => exact same_of_view hp (execDiv_view (by decide) h)
  | min => exact same_of_view hp (execMin_view (by decide) h)
  | max => exact same_of_view hp (execMax_view (by decide) h)
  | clamp => exact same_of_view hp (execClamp_view (by decide) h)
  | and => exact same_of_view hp (execAnd_view (by decide) h)
  | or => exact same_of_view hp (execOr_view (by decide) h)
  | xor => exact same_of_view hp (execXor_view (by decide) h)
  | not => exact same_of_view hp (execNot_view (by decide) h)
  | shl => exact same_of_view hp (execShl_view (by decide) h)
  | shr => exact same_of_view hp (execShr_view (by decide) h)
  | sar => exact same_of_view hp (execSar_view (by decide) h)
  | andi => exact same_of_view hp (execAndi_view (by decide) h)
  | sel => exact same_of_view hp (execSel_view (by decide) h)
  | slt => exact same_of_view hp (execSlt_view (by decide) h)
  | seq => exact same_of_view hp (execSeq_view (by decide) h)
  | beq => exact same_of_view hp (execBeq_view (by decide) h)
  | bne => exact same_of_view hp (execBne_view (by decide) h)
  | blt => exact same_of_view hp (execBlt_view (by decide) h)
  | bge => exact same_of_view hp (execBge_view (by decide) h)
  | bz => exact same_of_view hp (execBz_view (by decide) h)
  | jmp => exact same_of_view hp (execJmp_view (by decide) h)
  | filt => exact same_of_view hp (execFilt_view (by decide) h)
  | integ => exact same_of_view hp (execInteg_view (by decide) h)
  | deadb => exact same_of_view hp (execDeadb_view (by decide) h)
  | slew => exact same_of_view hp (execSlew_view (by decide) h)
  | rdtel => exact same_of_view hp (execRdtel_view (by decide) h)
  | post => exact same_of_view hp (execPost_view (by decide) h)
  | event => exact same_of_view hp (execEvent_view (by decide) h)
  | actn => exact same_of_view hp (execActn_view (by decide) h)
  | linkLockGain => exact same_of_view hp (execLinkLockGain_view (by decide) h)
  | enumReceive => exact same_of_view hp (execEnumReceive_view (by decide) h)
  | nodeRejoinReceive => exact same_of_view hp (execNodeRejoinReceive_view (by decide) h)
  | commissioningStoreDone => exact same_of_view hp (execCommissioningStoreDone_view (by decide) h)
  | imgStagingDone => exact same_of_view hp (execImgStagingDone_view (by decide) h)
  | engineStartDone => exact same_of_view hp (execEngineStartDone_view (by decide) h)
  | referenceQualified => exact same_of_view hp (execReferenceQualified_view (by decide) h)
  | lastFaultWrite => exact same_of_view hp (execLastFaultWrite_view (by decide) h)
  | regSyncQualify => exact same_of_view hp (execRegSyncQualify_view (by decide) h)
  | regSyncLoss => exact same_of_view hp (execRegSyncLoss_view (by decide) h)
  | graphDone => exact same_of_view hp (execGraphDone_view (by decide) h)
  | gaugeCalStoreDone => exact same_of_view hp (execGaugeCalStoreDone_view (by decide) h)
  | telemReceive => exact same_of_view hp (execTelemReceive_view (by decide) h)
  | shimControlCycle => exact same_of_view hp (execShimControlCycle_view (by decide) h)
  | engineWatchdogExpiry => exact same_of_view hp (execEngineWatchdogExpiry_view (by decide) h)
  | elapsed => exact same_of_view hp (execElapsed_view (by decide) h)
  | trace => exact same_of_view hp (execTrace_view (by decide) h)
  | xspiResetEnd => exact same_of_view hp (execXspiResetEnd_view (by decide) h)
  | bootFlashReadStart => exact same_of_view hp (execBootFlashReadStart_view (by decide) h)
  | referenceLimitExpiry => exact same_of_view hp (execReferenceLimitExpiry_view (by decide) h)
  | engRelease => exact same_of_view hp (execEngRelease_view (by decide) h)
  | pllATimeout => exact same_of_view hp (execPllATimeout_view (by decide) h)
  | skipStep => exact same_of_view hp (execSkipStep_view (by decide) h)
  | capEscalateExpiry => exact same_of_view hp (execCapEscalateExpiry_view (by decide) h)
  | capRaiseHoldExpiry => exact same_of_view hp (execCapRaiseHoldExpiry_view (by decide) h)
  | scribeTimeMark => exact same_of_view hp (execScribeTimeMark_view (by decide) h)
  | trigReqClear => exact same_of_view hp (execTrigReqClear_view (by decide) h)
  | flashImageWriteDone => exact same_of_view hp (execFlashImageWriteDone_view (by decide) h)
  | recordWrite => exact same_of_view hp (execRecordWrite_view (by decide) h)
  | dmaResponse => exact same_of_view hp (execDmaResponse_view (by decide) h)
  | gateStop => exact same_of_view hp (execGateStop_view (by decide) h)
  | chainTimeout => exact same_of_view hp (execChainTimeout_view (by decide) h)
  | enumRepeat => exact same_of_view hp (execEnumRepeat_view (by decide) h)
  | budVoteTimeout => exact same_of_view hp (execBudVoteTimeout_view (by decide) h)
  | budOutcomeTimeout => exact same_of_view hp (execBudOutcomeTimeout_view (by decide) h)
  | budRetry => exact same_of_view hp (execBudRetry_view (by decide) h)
  | telemSend => exact same_of_view hp (execTelemSend_view (by decide) h)
  | clTransferTimeout => exact same_of_view hp (execClTransferTimeout_view (by decide) h)
  | telemetryInstant => exact same_of_view hp (execTelemetryInstant_view (by decide) h)
  | grantWindowEnd => exact same_of_view hp (execGrantWindowEnd_view (by decide) h)
  | requestWaitExpiry => exact same_of_view hp (execRequestWaitExpiry_view (by decide) h)
  | dividerStep => exact same_of_view hp (execDividerStep_view (by decide) h)
  | dovetailWave => exact same_of_view hp (execDovetailWave_view (by decide) h)
  | barOutFall => exact same_of_view hp (execBarOutFall_view (by decide) h)
  | planWindowExpiry => exact same_of_view hp (execPlanWindowExpiry_view (by decide) h)
  | activationDeadlineMiss => exact same_of_view hp (execActivationDeadlineMiss_view (by decide) h)
  | engineSteal => exact same_of_view hp (execEngineSteal_view (by decide) h)
  | ibiRetry => exact same_of_view hp (execIbiRetry_view (by decide) h)
  | packetFetchTimeout => exact same_of_view hp (execPacketFetchTimeout_view (by decide) h)
  | thermalStepExpiry => exact same_of_view hp (execThermalStepExpiry_view (by decide) h)
  | predictHoldExpiry => exact same_of_view hp (execPredictHoldExpiry_view (by decide) h)
  | settlingEnd => exact same_of_view hp (execSettlingEnd_view (by decide) h)
  | stepClkWindow => exact same_of_view hp (execStepClkWindow_view (by decide) h)
  | s1HoldExpiry => exact same_of_view hp (execS1HoldExpiry_view (by decide) h)
  | s2HoldExpiry => exact same_of_view hp (execS2HoldExpiry_view (by decide) h)
  | retryRefill => exact same_of_view hp (execRetryRefill_view (by decide) h)
  | shimRefStep => exact same_of_view hp (execShimRefStep_view (by decide) h)
  | preloadArm => exact same_of_view hp (execPreloadArm_view (by decide) h)
  | boostHoldExpiry => exact same_of_view hp (execBoostHoldExpiry_view (by decide) h)
  | stretchHoldClear => exact same_of_view hp (execStretchHoldClear_view (by decide) h)
  | barOutRise => exact same_of_view hp (execBarOutRise_view (by decide) h)
  | engineDrainTimeout => exact same_of_view hp (execEngineDrainTimeout_view (by decide) h)
  | engineStartTimeout => exact same_of_view hp (execEngineStartTimeout_view (by decide) h)
  | pinnedActivation => exact same_of_view hp (execPinnedActivation_view (by decide) h)
  | thermalRaiseHoldExpiry => exact same_of_view hp (execThermalRaiseHoldExpiry_view (by decide) h)
  | rateHoldExpiry => exact same_of_view hp (execRateHoldExpiry_view (by decide) h)
  | ffDutyStart => exact same_of_view hp (execFfDutyStart_view (by decide) h)
  | groupDelayExpiry => exact same_of_view hp (execGroupDelayExpiry_view (by decide) h)
  | shedStart => exact same_of_view hp (execShedStart_view (by decide) h)
  | shedRampEnd => exact same_of_view hp (execShedRampEnd_view (by decide) h)
  | rotationStep => exact same_of_view hp (execRotationStep_view (by decide) h)
  | foldbackHoldExpiry => exact same_of_view hp (execFoldbackHoldExpiry_view (by decide) h)
  | preloadDisarm => exact same_of_view hp (execPreloadDisarm_view (by decide) h)
  | kerfStretchEnd => exact same_of_view hp (execKerfStretchEnd_view (by decide) h)
  | estimatorBoundary => exact same_of_view hp (execEstimatorBoundary_view (by decide) h)
  | ffShimPost => exact same_of_view hp (execFfShimPost_view (by decide) h)
  | restartDelayExpiry => exact same_of_view hp (execRestartDelayExpiry_view (by decide) h)
  | stopInAssert => exact same_of_view hp (execStopInAssert_view (by decide) h)
  | stepAnnounce => exact same_of_view hp (execStepAnnounce_view (by decide) h)
  | seqVoltageStep => exact same_of_view hp (execSeqVoltageStep_view (by decide) h)
  | flashTimeout => exact same_of_view hp (execFlashTimeout_view (by decide) h)
  | pgTimeout => exact same_of_view hp (execPgTimeout_view (by decide) h)
  | phOcPeakExpiry => exact same_of_view hp (execPhOcPeakExpiry_view (by decide) h)
  | peakTimerExpiry => exact same_of_view hp (execPeakTimerExpiry_view (by decide) h)
  | foldbackLimitExpiry => exact same_of_view hp (execFoldbackLimitExpiry_view (by decide) h)
  | ovPersist => exact same_of_view hp (execOvPersist_view (by decide) h)
  | uv => exact same_of_view hp (execUv_view (by decide) h)
  | uvS3Expiry => exact same_of_view hp (execUvS3Expiry_view (by decide) h)
  | stgFlt => exact same_of_view hp (execStgFlt_view (by decide) h)
  | phaseSuspect => exact same_of_view hp (execPhaseSuspect_view (by decide) h)
  | shimSaturation => exact same_of_view hp (execShimSaturation_view (by decide) h)
  | headroomWaitExpiry => exact same_of_view hp (execHeadroomWaitExpiry_view (by decide) h)
  | shimLow => exact same_of_view hp (execShimLow_view (by decide) h)
  | kerfDuty => exact same_of_view hp (execKerfDuty_view (by decide) h)
  | regionMonitorConversion => exact same_of_view hp (execRegionMonitorConversion_view (by decide) h)
  | sourceMonitorWindow => exact same_of_view hp (execSourceMonitorWindow_view (by decide) h)
  | sourceMissingEdge => exact same_of_view hp (execSourceMissingEdge_view (by decide) h)
  | vTimeout => exact same_of_view hp (execVTimeout_view (by decide) h)
  | gaugeSuspect => exact same_of_view hp (execGaugeSuspect_view (by decide) h)
  | hardTrip => exact same_of_view hp (execHardTrip_view (by decide) h)
  | gaugeCommandDone => exact same_of_view hp (execGaugeCommandDone_view (by decide) h)
  | relayTimeout => exact same_of_view hp (execRelayTimeout_view (by decide) h)
  | thermalModelUpdate => exact same_of_view hp (execThermalModelUpdate_view (by decide) h)
  | compensatorSample => exact same_of_view hp (execCompensatorSample_view (by decide) h)
  | feTimerExpiry => exact same_of_view hp (execFeTimerExpiry_view (by decide) h)
  | barrierTimeout => exact same_of_view hp (execBarrierTimeout_view (by decide) h)
  | linkRelockTimeout => exact same_of_view hp (execLinkRelockTimeout_view (by decide) h)
  | linkAckTimeout => exact same_of_view hp (execLinkAckTimeout_view (by decide) h)
  | nakReceive => exact same_of_view hp (execNakReceive_view (by decide) h)
  | nodeLostReceive => exact same_of_view hp (execNodeLostReceive_view (by decide) h)
  | currentConversion => exact same_of_view hp (execCurrentConversion_view (by decide) h)
  | calibrationUpdate => exact same_of_view hp (execCalibrationUpdate_view (by decide) h)
  | barInRise => exact same_of_view hp (execBarInRise_view (by decide) h)
  | barrierArriveReceive => exact same_of_view hp (execBarrierArriveReceive_view (by decide) h)
  | barrierReleaseReceive => exact same_of_view hp (execBarrierReleaseReceive_view (by decide) h)
  | barrierCancelReceive => exact same_of_view hp (execBarrierCancelReceive_view (by decide) h)
  | execMarker => exact same_of_view hp (execExecMarker_view (by decide) h)
  | announcementMissed => exact same_of_view hp (execAnnouncementMissed_view (by decide) h)
  | _ => exact absurd p.mem_all hp

/-! Well-formedness (O5). -/

/-- All that well-formedness speaks of is part of `State.fixed`. -/
theorem State.WF.of_fixed {s t : State} (hs : s.WF) (h : t.fixed = s.fixed) : t.WF := by
  simp only [State.fixed, Prod.mk.injEq] at h
  obtain ⟨-, -, hrails, hphases, hregions, hctxs, hslots, hengines, hjigs, hch, hcl, hgens, hrings, hcursors, hnums, hvdd,
    hpor, -⟩ := h
  exact {
    rails := hrails.trans hs.rails, phases := hphases.trans hs.phases, regions := hregions.trans hs.regions,
    ctxs := hctxs.trans hs.ctxs, slots := hslots.trans hs.slots, engines := hengines.trans hs.engines,
    jigs := hjigs.trans hs.jigs, channels := hch.trans hs.channels, mailbox := hcl.trans hs.mailbox,
    gens := hgens.trans hs.gens, rings := hrings.trans hs.rings, cursors := hcursors.trans hs.cursors,
    nums := hnums.trans hs.nums, pins := by rw [hvdd, hpor]; exact hs.pins }

/-- The queue, the build and the always-on island may change freely, as long as POR_N is high only with the supply. -/
theorem State.WF.with_pins {s : State} (hs : s.WF) (a : Aon) (i : Inst) (q : List Instr)
    (ha : a.porN = true → a.vddAon = true) : State.WF { s with aon := a, inst := i, pending := q } :=
  { rails := hs.rails, phases := hs.phases, regions := hs.regions, ctxs := hs.ctxs, slots := hs.slots, engines := hs.engines,
    jigs := hs.jigs, channels := hs.channels, mailbox := hs.mailbox, gens := hs.gens, rings := hs.rings,
    cursors := hs.cursors, nums := hs.nums, pins := ha }

theorem State.WF.with_pending {s : State} (hs : s.WF) (q : List Instr) : State.WF { s with pending := q } :=
  hs.with_pins s.aon s.inst q hs.pins

/-- What stays after the loss of VDD_AON or a fall of POR_N counts no cells: every counted unit is as after reset (R21, R228). -/
theorem State.afterLoss_wf (s : State) : s.afterLoss.WF :=
  (resetWellFormed.1.with_pins s.afterLoss.aon s.inst s.pending nofun).of_fixed rfl

theorem State.afterPor_wf (s : State) : s.afterPor.WF :=
  (resetWellFormed.1.with_pins s.afterPor.aon s.inst s.pending nofun).of_fixed rfl

/-- The six commands of the pins, one by one: POR_N rises only where VDD_AON is high. -/
theorem exec_pin_wf {c : Instr} {s t : State} (hc : c ∈ supplyAndResetPins) (hs : s.WF) (h : exec c s = .next t) : t.WF := by
  simp only [supplyAndResetPins, List.mem_cons, List.not_mem_nil, or_false] at hc
  obtain rfl | rfl | rfl | rfl | rfl | rfl := hc
  · have hv := execVddAonRise_view (Nat.zero_and _) h
    exact (hs.with_pins { s.aon with vddAon := true } s.inst s.pending fun _ => rfl).of_fixed (view_fixed hv)
  · replace h : (if s.aon.vddAon then _ else _) = Host.Outcome.next t := h
    split at h <;> obtain rfl := Host.Outcome.next.inj h
    · exact s.afterLoss_wf
    · exact hs
  · replace h : (if s.aon.porN then _ else _) = Host.Outcome.next t := h
    split at h <;> obtain rfl := Host.Outcome.next.inj h
    · exact s.afterPor_wf
    · exact hs
  · obtain hv | ⟨hvdd, hv⟩ := execPorNRelease_view (Nat.zero_and _) h
    · exact hs.of_fixed (view_fixed hv)
    · exact (hs.with_pins { s.aon with porN := true } s.inst s.pending fun _ => hvdd).of_fixed (view_fixed hv)
  · have hv := execHostRstNAssert_view (Nat.zero_and _) h
    exact (hs.with_pins { s.aon with hostRstN := false } s.inst s.pending hs.pins).of_fixed (view_fixed hv)
  · have hv := execHostRstNRelease_view (Nat.zero_and _) h
    exact (hs.with_pins { s.aon with hostRstN := true } s.inst s.pending hs.pins).of_fixed (view_fixed hv)

theorem exec_wf {c : Instr} {s t : State} (hs : s.WF) (h : exec c s = .next t) : t.WF := by
  by_cases hc : c ∈ supplyAndResetPins
  · exact exec_pin_wf hc hs h
  · exact hs.of_fixed (view_fixed (exec_view_zero hc h))

/-- Settles O5: the idle tick and every command but those of the pins keep `State.fixed`; the pins are looked at one by one. -/
theorem stepKeepsWellFormed : Obligations.StepKeepsWellFormed := by
  unfold Obligations.StepKeepsWellFormed
  intro s t hs h
  unfold step at h
  split at h
  · obtain rfl := Host.Outcome.next.inj h
    exact hs.of_fixed (view_fixed (elapse_view (Nat.zero_and _) 4 s))
  · exact exec_wf (hs.with_pending _) h

end Sys2Proof.Machine

/-! The pins of the always-on island and its start (O7, O8). -/

namespace Sys2Proof.Machine

open Sys2Proof

/-- Settles O7: the new state of each pin's command is written out, and its parts are read off. -/
theorem supplyAndResetPins_effects : Obligations.SupplyAndResetPins := by
  unfold Obligations.SupplyAndResetPins
  refine ⟨fun s h => ?rise, fun s h => ?loss, fun s h => ?por, fun s hv hp => ?release, fun s h => ?hostReset,
    fun s h => ?hostRelease⟩
  case rise => exact ⟨_, if_neg (by simp [h]), rfl, rfl, rfl⟩
  case loss => exact ⟨s.afterLoss, if_pos h, rfl, rfl, rfl, rfl, rfl⟩
  case por =>
    exact ⟨s.afterPor, if_pos h, rfl, rfl, rfl, rfl, rfl, rfl, rfl, rfl, rfl, rfl,
      rfl, rfl⟩
  case release =>
    let u : State := { s with aon := { s.aon with porN := true, clock := 0 } }
    obtain ⟨x, y, st, r, c, ha⟩ := setReady_keep 1 u
    refine ⟨becomeReady 1 u, if_pos (by simp [hv, hp]), ?_⟩
    have hr : (becomeReady 1 u).isReady 1 = true := becomeReady_isReady 1 u
    rw [becomeReady_low 1 u (by decide)] at hr ⊢
    exact ⟨by rw [ha], by rw [ha], hr, setReady_rails 1 u, setReady_flash 1 u, setReady_therm 1 u⟩
  case hostReset =>
    refine ⟨fabReset s, if_pos h, rfl, rfl, rfl, fun c hc => ?_, List.length_map _⟩
    obtain ⟨d, -, rfl⟩ := List.mem_map.mp hc
    exact ⟨rfl, rfl⟩
  case hostRelease =>
    refine ⟨_, if_neg (by simp [h]), ?_⟩
    simp only [fabTry, Bool.and_true]

theorem becomeReady_low_aon (f : Nat) (s : State) (h : f ≤ 4) : ∃ x y st r c, (becomeReady f s).aon =
    { s.aon with earlyBuf := x, earlyLost := y, stamps := st, ready := r, changeCnt := c } := by
  rw [becomeReady_low f s h]
  exact setReady_keep f s

theorem staticEid_aon (s : State) : (staticEid s).aon = s.aon := by unfold staticEid; split <;> rfl

theorem staticEid_isReady (f : Nat) (s : State) : (staticEid s).isReady f = s.isReady f := by
  unfold State.isReady
  rw [staticEid_aon]

theorem staticEid_mgt {s : State} (h : s.mgt.eid ≠ 0) : (staticEid s).mgt = s.mgt := by
  unfold staticEid
  simp only [h, decide_false, Bool.and_false, Bool.false_eq_true, if_false]

/-- While the CTL PLL does not stand on the RC oscillator, the qualified reference is marked good and nothing else follows
(R44, R295). -/
theorem srcQualify_on_pll (i : SrcId) (s : State) (h : s.clk.ctlRc = false) :
    srcQualify i s = s.updSrc i (fun q => { q with ok := true, failed := false }) := by
  have hr : (s.updSrc i (fun q => { q with ok := true, failed := false })).clk.ctlRc = false := by cases i <;> exact h
  unfold srcQualify
  simp only [hr, Bool.and_false, Bool.false_eq_true, if_false]

theorem refQualified_first (ref100 : Bool) (s : State) (h0 : s.aon.ctlSource = 0) (hr : s.clk.ctlRc = false) :
    (refQualified ref100 s).aon.ctlSource = 1 ∧ (refQualified ref100 s).aon.refSel = ref100 ∧
      (if ref100 then (refQualified ref100 s).clk.ref100.ok else (refQualified ref100 s).clk.xtal.ok) = true := by
  unfold refQualified
  rw [srcQualify_on_pll _ s hr]
  cases ref100 <;> simp [State.updSrc, h0]

/-- Settles O8: time passes as `advanceTo_aon` says, and readiness leaves the rest of the island as `setReady_keep` says. -/
theorem alwaysOnStart : Obligations.AlwaysOnStart := by
  unfold Obligations.AlwaysOnStart
  refine ⟨fun root smb boot s hp hl => ?straps, fun s hp hl h2 => ?mgt, fun s hp hx => ?xspi,
    fun s w hp hw hl hb hr h3 => ?flash, fun s hb => ?reads, fun ref100 s hp h0 hr => ?reference, fun s hp h0 => ?limit,
    fun s hp h0 hr => ?lock⟩
  case straps =>
    let a := (advanceTo 64 s).aon
    let u : State := { advanceTo 64 s with aon :=
      { a with strapsLatched := true, strapRoot := root, strapSmb := smb % 128, strapBoot := boot % 4 } }
    refine ⟨becomeReady 0 u, if_pos (by simp [hp, hl]), ?_⟩
    obtain ⟨x, y, st, r, c, ha⟩ := becomeReady_low_aon 0 u (by decide)
    have hc : a.clock = max s.aon.clock 64 := by rw [show a = _ from advanceTo_aon 64 s hp]
    refine ⟨by rw [ha], by rw [ha], by rw [ha], by rw [ha], becomeReady_isReady 0 u, ?_⟩
    rw [ha]
    exact hc ▸ Nat.le_max_right ..
  case mgt =>
    let u := becomeReady 2 (advanceTo 4000 s)
    refine ⟨staticEid u, if_pos (by simp [hl, h2]), ?_, ?_, fun he => ?_⟩
    · rw [staticEid_isReady]
      exact becomeReady_isReady 2 _
    · obtain ⟨x, y, st, r, c, ha⟩ := becomeReady_low_aon 2 (advanceTo 4000 s) (by decide)
      rw [staticEid_aon, ha, advanceTo_aon 4000 s hp]
      exact Nat.le_max_right ..
    · have hm : u.mgt = s.mgt := by
        rw [show u = setReady 2 (advanceTo 4000 s) from becomeReady_low 2 _ (by decide), setReady_mgt, advanceTo_mgt]
      rw [staticEid_mgt (hm ▸ he), hm]
  case xspi =>
    refine ⟨_, if_pos (by simp [hp, hx]), rfl, rfl, ?_⟩
    rw [advanceTo_aon _ s hp]
  case flash =>
    refine ⟨_, show execBootFlashReadStart s = _ by
      unfold execBootFlashReadStart
      rw [hw]
      exact if_pos (by simp [hl, hb, hr, h3]), rfl, ?_⟩
    rw [advanceTo_aon _ s hp]
  case reads => exact ⟨bootReads s, if_pos hb, becomeReady_isReady 3 _⟩
  case reference =>
    exact ⟨refQualified ref100 s, if_pos hp, refQualified_first ref100 s h0 hr⟩
  case limit =>
    refine ⟨_, if_pos (by simp [hp, h0]), ?_⟩
    obtain ⟨x, y, ha⟩ := raise_aon 0x0105 2 0 0 { advanceTo (ms 2) s with
      aon := { (advanceTo (ms 2) s).aon with ctlSource := 2 }, clk := { (advanceTo (ms 2) s).clk with ctlRc := true } }
    refine ⟨by rw [ha], by rw [raise_clk], ?_⟩
    rw [ha, advanceTo_aon _ s hp]
  case lock =>
    let u : State := { s with aon := { s.aon with ctlReleased := true } }
    refine ⟨becomeReady 4 u, if_pos (by simp [hp, h0, hr]), ?_, becomeReady_isReady 4 u, ?_⟩
    · obtain ⟨x, y, st, r, c, ha⟩ := becomeReady_low_aon 4 u (by decide)
      rw [ha]
    · rw [becomeReady_low 4 u (by decide), setReady_clk]

end Sys2Proof.Machine

/-! The accesses of the host window: the order of the errors and what a granted access answers (O11, O12). -/

namespace Sys2Proof.Machine

open Sys2Proof

/-- The request's offset is reserved, or not there on a satellite (R24). -/
def State.addrRefused (s : State) (q : FabReq) : Bool := addrBad (wordOf q) || s.inst.sat && notOnSat (wordOf q)

/-! `fabAccess`, one equation per check and one per direction. -/

theorem fabAccess_addr {dma : Bool} {q : FabReq} {img : Image} {s : State} (ha : s.addrRefused q = true) :
    fabAccess dma q img s = (1, 0, s) := if_pos ha

theorem fabAccess_access {dma : Bool} {q : FabReq} {img : Image} {s : State} (ha : s.addrRefused q = false)
    (hv : s.accessBad dma q ≠ none) : (fabAccess dma q img s).1 = 2 := by
  obtain ⟨⟨cause, reason⟩, hv⟩ := Option.ne_none_iff_exists'.mp hv
  unfold fabAccess
  simp only [State.addrRefused] at ha
  simp only [ha, hv, Bool.false_eq_true, if_false]

theorem fabAccess_gated {dma : Bool} {q : FabReq} {img : Image} {s : State} (ha : s.addrRefused q = false)
    (hv : s.accessBad dma q = none) (hg : s.gatedAt (wordOf q) = true) : fabAccess dma q img s = (3, 0, s) := by
  unfold fabAccess
  simp only [State.addrRefused] at ha
  simp only [ha, hv, hg, Bool.false_eq_true, if_false, if_true]

theorem fabAccess_busy {dma : Bool} {q : FabReq} {img : Image} {s : State} (ha : s.addrRefused q = false)
    (hv : s.accessBad dma q = none) (hg : s.gatedAt (wordOf q) = false) (hb : s.busyAt q.write (wordOf q) = true) :
    fabAccess dma q img s = (4, 0, s) := by
  unfold fabAccess
  simp only [State.addrRefused] at ha
  simp only [ha, hv, hg, hb, Bool.false_eq_true, if_false, if_true]

theorem fabAccess_granted {q : FabReq} {img : Image} {s : State} (h : s.granted q) :
    fabAccess false q img s =
      if q.write = false then fabRead q s
      else if q.wstrb % 256 = 0 ∧ (fabWrite q img s).1 = 0 then (0, 0, s)
      else ((fabWrite q img s).1, 0, (fabWrite q img s).2) := by
  obtain ⟨-, -, ha, hv, hg, hb⟩ := h
  unfold fabAccess
  simp only [ha, hv, hg, hb, Bool.false_eq_true, if_false, Bool.not_eq_true', Bool.and_eq_true, decide_eq_true_eq]

/-- The response of an accepted request (R22). -/
theorem fabRequest_open {q : FabReq} {img : Image} {s : State} (hf : s.aon.fabReleased = true) (h9 : s.isReady 9 = true) :
    fabRequest q img s =
      let x := fabAccess false q img s
      { x.2.2 with host := { x.2.2.host with rspCode := x.1, rspTag := q.tag, rdata := x.2.1 } } :=
  if_pos (by simp only [hf, h9, Bool.and_self])

/-- FABRIC_READ and FABRIC_WRITE of a request that carries its direction are the request. -/
theorem exec_fabric {q : FabReq} {c : Instr} (s : State)
    (hc : q.write = false ∧ c = .fabricRead q ∨ q.write = true ∧ c = .fabricWrite q) :
    exec c s = .next (fabRequest q s.dowel.newImg s) := by
  obtain ⟨hw, rfl⟩ | ⟨hw, rfl⟩ := hc
  · have hq : { q with write := false } = q := by rw [← hw]
    exact congrArg (fun r => Host.Outcome.next (fabRequest r s.dowel.newImg s)) hq
  · have hq : { q with write := true } = q := by rw [← hw]
    exact congrArg (fun r => Host.Outcome.next (fabRequest r s.dowel.newImg s)) hq

/-- Settles O11: the first check that fails gives the code. -/
theorem fabricErrorOrder : Obligations.FabricErrorOrder := by
  unfold Obligations.FabricErrorOrder
  intro q s c hf h9 hc
  refine ⟨_, exec_fabric s hc, ?_⟩
  rw [fabRequest_open hf h9]
  change _ ∧ (if s.addrRefused q = true then _ else _) ∧ (_ → s.addrRefused q = false ∧ _)
  cases ha : s.addrRefused q with
  | true => simp [fabAccess_addr ha]
  | false =>
    by_cases hv : s.accessBad false q = none
    · cases hg : s.gatedAt (wordOf q) with
      | true => simp [fabAccess_gated ha hv hg, hv]
      | false => simpa [hv] using fun hb => congrArg Prod.fst (fabAccess_busy ha hv hg hb)
    · simp [fabAccess_access ha hv, hv]

/-! A read takes no notice of the byte enables. -/

theorem doorBad_wstrb (q : FabReq) (b : Nat) (s : State) : s.doorBad { q with wstrb := b } = s.doorBad q := by
  unfold State.doorBad
  rfl

theorem dmaBad_read_wstrb (q : FabReq) (b : Nat) (s : State) (hw : q.write = false) :
    s.dmaBad { q with wstrb := b } = s.dmaBad q := by
  simp only [State.dmaBad, hw, Bool.false_and, Bool.false_eq_true, if_false]
  rfl

theorem accessBad_read_wstrb (q : FabReq) (b : Nat) (s : State) (hw : q.write = false) :
    s.accessBad false { q with wstrb := b } = s.accessBad false q := by
  unfold State.accessBad
  rw [doorBad_wstrb, dmaBad_read_wstrb q b s hw]
  simp only [hw, Bool.false_and, Bool.false_or,
    Bool.false_eq_true, if_false]
  rfl

theorem fabRead_wstrb (q : FabReq) (b : Nat) (s : State) : fabRead { q with wstrb := b } s = fabRead q s := by
  unfold fabRead doorRead
  rfl

theorem granted_read_wstrb {q : FabReq} {s : State} (b : Nat) (hw : q.write = false) (h : s.granted q) :
    s.granted { q with wstrb := b } := by
  obtain ⟨hf, h9, ha, hv, hg, hb⟩ := h
  exact ⟨hf, h9, ha, (accessBad_read_wstrb q b s hw).trans hv, hg, hb⟩

theorem fabRequest_read {q : FabReq} {img : Image} {s : State} (hw : q.write = false) (h : s.granted q) :
    fabRequest q img s =
      let x := fabRead q s
      { x.2.2 with host := { x.2.2.host with rspCode := x.1, rspTag := q.tag, rdata := x.2.1 } } := by
  rw [fabRequest_open h.1 h.2.1, fabAccess_granted h, if_pos hw]

theorem fabRequest_read_wstrb {q : FabReq} {img : Image} {s : State} (b : Nat) (hw : q.write = false) (h : s.granted q) :
    fabRequest { q with wstrb := b } img s = fabRequest q img s := by
  rw [fabRequest_read hw h, fabRequest_read (q := { q with wstrb := b }) hw (granted_read_wstrb b hw h), fabRead_wstrb]

/-- Settles O12. -/
theorem fabricAccessCompletes : Obligations.FabricAccessCompletes := by
  unfold Obligations.FabricAccessCompletes
  refine ⟨fun q s h => ⟨_, rfl, ?read⟩, fun q s h hb => ⟨_, rfl, ?write⟩, fun q s h hb h0 => ⟨_, rfl, ?empty⟩⟩
  case read =>
    refine ⟨?_, ?_, ?_, fun b => ⟨_, rfl, ?_⟩⟩
    · rw [fabRequest_read rfl h]
    · rw [fabRequest_read rfl h]
    · rw [fabRequest_read rfl h]
    · exact fabRequest_read_wstrb b rfl h
  case write =>
    rw [fabRequest_open h.1 h.2.1, fabAccess_granted h, if_neg (by simp), if_neg (fun hs => hb hs.1)]
    exact ⟨rfl, rfl, rfl, _, rfl⟩
  case empty =>
    rw [fabRequest_open h.1 h.2.1, fabAccess_granted h, if_neg (by simp), if_pos ⟨hb, h0⟩]
    exact ⟨rfl, rfl, rfl⟩

end Sys2Proof.Machine

/-! Stored numbers, flag bits, and what the passing of time leaves of a unit that it changes. -/

namespace Sys2Proof.Machine

open Sys2Proof

/-! Stored numbers. -/

theorem kvGet_kvPut_same {α : Type} (l : List (Nat × α)) (n : Nat) (v : α) : kvGet (kvPut l n v) n = some v := by
  induction l with
  | nil => simp [kvPut, kvGet]
  | cons p l ih =>
    obtain ⟨k, w⟩ := p
    unfold kvPut
    split
    · simp [kvGet]
    · split
      · simp [kvGet]
      · rename_i hk
        simpa [kvGet, Ne.symm hk] using ih

theorem kvGet_kvPut_ne {α : Type} (l : List (Nat × α)) {n m : Nat} (v : α) (h : n ≠ m) :
    kvGet (kvPut l n v) m = kvGet l m := by
  induction l with
  | nil => simp [kvPut, kvGet, h]
  | cons p l ih =>
    obtain ⟨k, w⟩ := p
    unfold kvPut
    split
    · simp [kvGet, h]
    · split
      · rename_i hk
        subst hk
        simp [kvGet, h]
      · simp only [kvGet, ih]

@[simp] theorem State.num_put_same (s : State) (i sub : Nat) (v : Int) : (s.put i sub v).num i sub = v := by
  simp only [State.num, State.put, kvGet_kvPut_same]

theorem State.num_put_ne (s : State) {i sub j sub' : Nat} (v : Int) (h : okey i sub ≠ okey j sub') :
    (s.put i sub v).num j sub' = s.num j sub' := by
  simp only [State.num, State.put, kvGet_kvPut_ne _ v h]

/-- The subindex is the low byte of a key. -/
theorem okey_ne_of_sub {i j sub sub' : Nat} (h : sub < 256) (h' : sub' < 256) (hne : sub ≠ sub') :
    okey i sub ≠ okey j sub' := by
  unfold okey
  omega

theorem State.num_of_nums {s t : State} (h : t.obj.nums = s.obj.nums) (i sub : Nat) : t.num i sub = s.num i sub := by
  simp only [State.num, h]

theorem State.num_of_obj {s t : State} (h : t.obj = s.obj) (i sub : Nat) : t.num i sub = s.num i sub :=
  State.num_of_nums (congrArg Obj.nums h) i sub

/-! Flag bits. -/

theorem bit_eq_testBit (x n : Nat) : bit x n = x.testBit n := (Nat.testBit_eq_decide_div_mod_eq ..).symm

/-- The word as the bits above n, bit n and the bits below. -/
theorem putBit_eq (x n : Nat) (v : Bool) : putBit x n v = 2 ^ n * (2 * (x / 2 ^ n / 2) + b2n v) + x % 2 ^ n := by
  have hx := Nat.div_add_mod x (2 ^ n)
  have hq := Nat.div_add_mod (x / 2 ^ n) 2
  have hv : (if v = true then 2 ^ n else 0) = 2 ^ n * b2n v := by cases v <;> simp [b2n]
  unfold putBit
  rw [hv, Nat.mul_add]
  have hm : 2 ^ n * (2 * (x / 2 ^ n / 2)) + x / 2 ^ n % 2 * 2 ^ n = 2 ^ n * (x / 2 ^ n) := by
    rw [Nat.mul_comm (x / 2 ^ n % 2), ← Nat.mul_add, hq]
  omega

theorem bit_putBit_ne (x : Nat) {n m : Nat} (v : Bool) (h : m ≠ n) : bit (putBit x n v) m = bit x m := by
  have hx : x = 2 ^ n * (2 * (x / 2 ^ n / 2) + x / 2 ^ n % 2) + x % 2 ^ n := by
    rw [Nat.div_add_mod (x / 2 ^ n) 2, Nat.div_add_mod]
  have hr := Nat.mod_lt x (Nat.two_pow_pos n)
  rw [bit_eq_testBit, bit_eq_testBit, putBit_eq]
  conv_rhs => rw [hx]
  rw [Nat.testBit_two_pow_mul_add _ hr, Nat.testBit_two_pow_mul_add _ hr]
  split
  · rfl
  · obtain ⟨j, hj⟩ : ∃ j, m - n = j + 1 := ⟨m - n - 1, by omega⟩
    have hb : b2n v < 2 := by cases v <;> decide
    have hq : x / 2 ^ n % 2 < 2 := Nat.mod_lt _ (by decide)
    rw [hj, Nat.testBit_succ, Nat.testBit_succ, Nat.mul_add_div (by decide), Nat.mul_add_div (by decide),
      Nat.div_eq_of_lt hb, Nat.div_eq_of_lt hq]

/-! Time. -/

theorem elapseReasons_cap (n : Nat) (s : State) :
    ∃ d m p, (elapseReasons n s).cap = { s.cap with dur := d, durMs := m, parts := p } := by
  unfold elapseReasons
  split
  · exact ⟨_, _, _, rfl⟩
  · exact ⟨_, _, _, rfl⟩

/-- The estimator and the caps hold still with time, but for the durations that accrue (R326). -/
theorem elapse_cap (d : Nat) (s : State) : ∃ u m p, (elapse d s).cap = { s.cap with dur := u, durMs := m, parts := p } := by
  unfold elapse
  split
  · exact ⟨_, _, _, rfl⟩
  · have h1 : ∀ n t, (elapseCalendar n t).cap = t.cap := fun n t => view_cap (elapseCalendar_view (k := 2048) (by decide) n t) (by decide)
    have h3 : ∀ n t, (elapseTimes n t).cap = t.cap := fun n t => view_cap (elapseTimes_view (k := 2048) (by decide) n t) (by decide)
    have h4 : ∀ n t, (elapsePhases n t).cap = t.cap := fun n t => view_cap (elapsePhases_view (k := 2048) (by decide) n t) (by decide)
    have h5 : ∀ n t, (elapseTiles n t).cap = t.cap := fun n t => view_cap (elapseTiles_view (k := 2048) (by decide) n t) (by decide)
    obtain ⟨u, m, p, hc⟩ := elapseReasons_cap ((s.aon.clock + d) / 4 - s.aon.clock / 4) (elapseCalendar ((s.aon.clock + d) / 4 - s.aon.clock / 4) s)
    exact ⟨u, m, p, by simp only [h3, h4, h5, hc, h1]⟩

theorem advanceTo_cap (d : Nat) (s : State) :
    ∃ u m p, (advanceTo d s).cap = { s.cap with dur := u, durMs := m, parts := p } := by
  unfold advanceTo
  split
  · exact elapse_cap _ s
  · exact ⟨_, _, _, rfl⟩

theorem elapseTiles_clk (n : Nat) (s : State) : ∃ c f, (elapseTiles n s).clk = { s.clk with tileCycles := c, tileFrac := f } := by
  unfold elapseTiles
  (repeat' split) <;> simp only [State.count_clk] <;> exact ⟨_, _, rfl⟩

/-- The clocks hold still with time, but for the count of tile cycles (R575). -/
theorem elapse_clk (d : Nat) (s : State) : ∃ c f, (elapse d s).clk = { s.clk with tileCycles := c, tileFrac := f } := by
  unfold elapse
  split
  · exact ⟨_, _, rfl⟩
  · have h1 : ∀ n t, (elapseCalendar n t).clk = t.clk := fun n t => view_clk (elapseCalendar_view (k := 1024) (by decide) n t) (by decide)
    have h2 : ∀ n t, (elapseReasons n t).clk = t.clk := fun n t => view_clk (elapseReasons_view (k := 1024) (by decide) n t) (by decide)
    have h3 : ∀ n t, (elapseTimes n t).clk = t.clk := fun n t => view_clk (elapseTimes_view (k := 1024) (by decide) n t) (by decide)
    have h4 : ∀ n t, (elapsePhases n t).clk = t.clk := fun n t => view_clk (elapsePhases_view (k := 1024) (by decide) n t) (by decide)
    obtain ⟨c, f, hc⟩ := elapseTiles_clk d (elapsePhases ((s.aon.clock + d) / 4 - s.aon.clock / 4)
      (elapseTimes ((s.aon.clock + d) / 4 - s.aon.clock / 4) (elapseReasons ((s.aon.clock + d) / 4 - s.aon.clock / 4)
        (elapseCalendar ((s.aon.clock + d) / 4 - s.aon.clock / 4) s))))
    exact ⟨c, f, by simp only [hc, h1, h2, h3, h4]⟩

theorem advanceTo_clk (d : Nat) (s : State) : ∃ c f, (advanceTo d s).clk = { s.clk with tileCycles := c, tileFrac := f } := by
  unfold advanceTo
  split
  · exact elapse_clk _ s
  · exact ⟨_, _, rfl⟩

/-- The subindices of the objects that report a time: 0x4001.07 and .08, 0x7001.07, 0x3200.07, 0x2200.0D. -/
abbrev reportsTime (sub : Nat) : Prop := sub = 7 ∨ sub = 8 ∨ sub = 0x0D

theorem State.num_add64_sub (s : State) {i sub j sub' n : Nat} (h : sub < 256) (h' : sub' < 256) (hne : sub ≠ sub') :
    (s.add64 i sub n).num j sub' = s.num j sub' := s.num_put_ne _ (okey_ne_of_sub h h' hne)

theorem elapseTimes_num (n : Nat) (s : State) {i sub : Nat} (hs : sub < 256) (ht : ¬ reportsTime sub) :
    (elapseTimes n s).num i sub = s.num i sub := by
  have h7 : ∀ j (t : State), (t.add64 j 7 n).num i sub = t.num i sub := fun j t => t.num_add64_sub (by decide) hs (by omega)
  have h8 : ∀ j (t : State), (t.add64 j 8 n).num i sub = t.num i sub := fun j t => t.num_add64_sub (by decide) hs (by omega)
  have hD : ∀ j (t : State), (t.add64 j 0x0D n).num i sub = t.num i sub := fun j t => t.num_add64_sub (by decide) hs (by omega)
  have hF : ∀ (t : State), (t.countFixed 17 n).num i sub = t.num i sub := fun t => State.num_of_obj (t.countFixed_obj 17 n) i sub
  unfold elapseTimes
  simp only [apply_ite (fun t : State => t.num i sub), h7, h8, hD, hF, ite_self]

theorem elapsePhases_num (n : Nat) (s : State) {i sub : Nat} (hs : sub < 256) (ht : ¬ reportsTime sub) :
    (elapsePhases n s).num i sub = s.num i sub := by
  unfold elapsePhases
  generalize List.range 16 = l
  induction l generalizing s with
  | nil => rfl
  | cons k l ih =>
    rw [List.foldl_cons, ih]
    split
    · exact s.num_add64_sub (by decide) hs (by omega)
    · rfl

/-- With time only the objects that report a time move. -/
theorem elapse_num (d : Nat) (s : State) {i sub : Nat} (hs : sub < 256) (ht : ¬ reportsTime sub) :
    (elapse d s).num i sub = s.num i sub := by
  unfold elapse
  split
  · rfl
  · have h1 : ∀ n t, (elapseCalendar n t).num i sub = t.num i sub := fun n t =>
      State.num_of_obj (view_obj (elapseCalendar_view (k := 2) (by decide) n t) (by decide)) i sub
    have h2 : ∀ n t, (elapseReasons n t).num i sub = t.num i sub := fun n t =>
      State.num_of_obj (view_obj (elapseReasons_view (k := 2) (by decide) n t) (by decide)) i sub
    have h5 : ∀ n t, (elapseTiles n t).num i sub = t.num i sub := fun n t =>
      State.num_of_obj (view_obj (elapseTiles_view (k := 2) (by decide) n t) (by decide)) i sub
    have ha : ∀ (t : State) (a : Aon), State.num { t with aon := a } i sub = t.num i sub := fun t a => rfl
    simp only [ha, h1, h2, h5, elapseTimes_num _ _ hs ht, elapsePhases_num _ _ hs ht]

theorem advanceTo_num (d : Nat) (s : State) {i sub : Nat} (hs : sub < 256) (ht : ¬ reportsTime sub) :
    (advanceTo d s).num i sub = s.num i sub := by
  unfold advanceTo
  split
  · exact elapse_num _ s hs ht
  · rfl

theorem advanceTo_pn (d : Nat) (s : State) {i sub : Nat} (hs : sub < 256) (ht : ¬ reportsTime sub) :
    (advanceTo d s).pn i sub = s.pn i sub := by
  unfold State.pn
  rw [advanceTo_num d s hs ht]

theorem elapseTimes_doms (n : Nat) (s : State) : (elapseTimes n s).obj.doms = s.obj.doms := by
  have h : ∀ (t : State) j sub, (t.add64 j sub n).obj.doms = t.obj.doms := fun _ _ _ => rfl
  have hF : ∀ (t : State), (t.countFixed 17 n).obj.doms = t.obj.doms := fun _ => rfl
  unfold elapseTimes
  simp only [apply_ite (fun t : State => t.obj.doms), h, hF, ite_self]

theorem elapsePhases_doms (n : Nat) (s : State) : (elapsePhases n s).obj.doms = s.obj.doms := by
  unfold elapsePhases
  generalize List.range 16 = l
  induction l generalizing s with
  | nil => rfl
  | cons k l ih =>
    rw [List.foldl_cons, ih]
    split <;> rfl

theorem elapse_doms (d : Nat) (s : State) : (elapse d s).obj.doms = s.obj.doms := by
  unfold elapse
  split
  · rfl
  · have h1 : ∀ n t, (elapseCalendar n t).obj = t.obj := fun n t => view_obj (elapseCalendar_view (k := 2) (by decide) n t) (by decide)
    have h2 : ∀ n t, (elapseReasons n t).obj = t.obj := fun n t => view_obj (elapseReasons_view (k := 2) (by decide) n t) (by decide)
    have h5 : ∀ n t, (elapseTiles n t).obj = t.obj := fun n t => view_obj (elapseTiles_view (k := 2) (by decide) n t) (by decide)
    simp only [h1, h2, h5, elapseTimes_doms, elapsePhases_doms]

theorem advanceTo_doms (d : Nat) (s : State) : (advanceTo d s).obj.doms = s.obj.doms := by
  unfold advanceTo
  split
  · exact elapse_doms _ s
  · rfl

end Sys2Proof.Machine

/-! The estimator and the cap controller (O40). -/

namespace Sys2Proof.Machine

open Sys2Proof

/-! What each function of a boundary leaves of the estimator's results. -/

/-- The moment, the rail currents, the die power and the power map of the latest interval (R308, R309). -/
def Cap.results (c : Cap) : Option Nat × List Int × Nat × List Nat := (c.estAt, c.iEst, c.pDie, c.powerMap)

/-- Taking the reasons afresh leaves all but their records and CAP_THR (R326, R335). -/
theorem updAccr_cap (s : State) : ∃ a n nm am p f, (updAccr s).cap =
    { s.cap with accr := a, cnt := n, cntMs := nm, accrMs := am, parts := p, flags := f } ∧
    ∀ j, j ≠ 1 → bit f j = bit s.cap.flags j := by
  unfold updAccr
  dsimp only
  split
  · exact ⟨_, _, _, _, _, _, rfl, fun j hj => bit_putBit_ne _ true hj⟩
  · exact ⟨_, _, _, _, _, _, rfl, fun j _ => rfl⟩

theorem updAccr_results (s : State) : (updAccr s).cap.results = s.cap.results := by
  obtain ⟨a, n, nm, am, p, f, h, -⟩ := updAccr_cap s
  rw [h]
  rfl

theorem usePreds_results (s : State) : (usePreds s).cap.results = s.cap.results := by
  have hf : ∀ (l : List (Nat × Nat × Nat)) (u : State),
      (l.foldl (fun (s : State) (x : Nat × Nat × Nat) =>
        let d : Int := ((x.2.1 : Int) - s.cap.pDie) / 1000
        if s.alreadyMatched x.1 x.2.2 then s.put 0x6009 0x0B (clampI (-2147483648) 2147483647 d)
        else { s with cap := { s.cap with predDiff := some (x.2.2, d) } }) u).cap.results = u.cap.results := by
    intro l
    induction l with
    | nil => exact fun u => rfl
    | cons x l ih =>
      intro u
      rw [List.foldl_cons, ih]
      dsimp only
      split <;> rfl
  exact hf _ _

theorem capDivide_results (p : Nat) (s : State) : (capDivide p s).cap.results = s.cap.results := by
  unfold capDivide
  extract_lets n u
  split <;> rfl

theorem capController_results (uw : Nat) (s : State) : (capController uw s).cap.results = s.cap.results :=
  capDivide_results ((uw + 24999) / 25000) _

theorem endMs_results (s : State) : (endMs s).cap.results = s.cap.results := by
  unfold endMs
  split <;> rfl

theorem clampBoundary_results (acts : List TileAct) (pw : List Nat) (s : State) :
    (clampBoundary acts pw s).cap.results = s.cap.results := by
  have hn : ∀ u, (clearNotices u).cap = u.cap := fun u => view_cap (clearNotices_view (k := 2048) (by decide) u) (by decide)
  have hc : ∀ u, (chargeAll acts pw u).cap = u.cap := fun u => view_cap (chargeAll_view (k := 2048) (by decide) acts pw u) (by decide)
  have hs : ∀ u, (closeStale u).cap = u.cap := fun u => view_cap (closeStale_view (k := 2048) (by decide) u) (by decide)
  have hq : ∀ u, (scanQueue u).cap = u.cap := fun u => view_cap (scanQueue_view (k := 2048) (by decide) u) (by decide)
  unfold clampBoundary
  dsimp only
  split
  · rw [updAccr_results, hq, hs, hc, hn]
  · rw [hc, hn]

theorem takeMap_results (s : State) : (takeMap s).cap.results = s.cap.results := by
  have hm : ∀ m u, (closeMoved m u).cap = u.cap := fun m u => view_cap (closeMoved_view (k := 2048) (by decide) m u) (by decide)
  have hs : ∀ m u, (syncMoved m u).cap = u.cap := fun m u => view_cap (syncMoved_view (k := 2048) (by decide) m u) (by decide)
  unfold takeMap
  split
  · rfl
  · rw [updAccr_results]
    simp only [hm, hs]
    rfl

/-- What follows the estimate at a boundary: the limits, the predicted steps, the controller, the millisecond, the Clamp and the
map, none of which touches the results. -/
theorem boundaryRest_results (acts : List TileAct) (pw : List Nat) (p : Nat) (s : State) :
    (updAccr (takeMap (clampBoundary acts pw (endMs
      (if (usePreds (takeLimits s)).pn 0x6000 1 = 1 then capController p (usePreds (takeLimits s))
       else usePreds (takeLimits s)))))).cap.results = s.cap.results := by
  rw [updAccr_results, takeMap_results, clampBoundary_results, endMs_results]
  split
  · rw [capController_results, usePreds_results]
    rfl
  · rw [usePreds_results]
    rfl

theorem estimRuns_of {s : State} (h15 : s.isReady 15 = true) (hst : s.obs.standing = false) : s.estimRuns = true := by
  simp only [State.estimRuns, h15, hst, Bool.not_false, Bool.and_self]

/-- The results of an estimate (R308, R309). -/
theorem estimate_results (acts : List TileAct) (s : State) : (estimate acts s).cap.results =
    (s.cap.estAt, [s.railEst acts 0, s.railEst acts 1, s.railEst acts 2],
      s.pEst [s.railEst acts 0, s.railEst acts 1, s.railEst acts 2],
      (s.tilePowers acts).map (fun x => min 65535 (x / 65536000))) := by
  simp only [estimate, Cap.results, List.map_cons, List.map_nil]

theorem saturated_estAt (acts : List TileAct) (s : State) : (saturated acts s).cap.estAt = s.cap.estAt := by
  unfold saturated
  dsimp only
  split <;> rfl

theorem updAccr_aon (s : State) : (updAccr s).aon = s.aon := view_aon (updAccr_view (k := 1) (by decide) s) (by decide)

/-- The state in which a boundary's powers are formed (R307, R308). -/
def State.atBoundary (s : State) (acts : List TileAct) : State :=
  let a := advanceTo (s.nextBound 400 s.cap.estAt) s
  saturated acts { a with cap := { a.cap with estAt := some a.aon.clock } }

theorem estimatorBoundary_results {s : State} (acts : List TileAct) (hr : s.estimRuns = true) :
    Answers (.estimatorBoundary acts) s (fun t => t.cap.results = (estimate acts (s.atBoundary acts)).cap.results) :=
  ⟨_, if_neg (by rw [hr]; decide), boundaryRest_results ..⟩

/-- The numbers of the objects with subindices 1, 2 and 4 do not see the counts of skipped milliseconds (0x6009.07 to .09). -/
theorem State.calSkips_bump (s : State) {j : Nat} (r : Nat) (hj : 7 ≤ j) (hj' : j < 256) :
    (s.bump32 0x6009 j).calSkips r = s.calSkips r := by
  have hn : ∀ i sub, sub < 7 → (s.bump32 0x6009 j).num i sub = s.num i sub := fun i sub hs =>
    s.num_put_ne _ (okey_ne_of_sub hj' (by omega) (by omega))
  have hc : ∀ k, (s.bump32 0x6009 j).iCont k = s.iCont k := fun k => by
    unfold State.iCont State.iLim State.pn
    rw [hn _ 1 (by decide), hn _ 2 (by decide), hn _ 4 (by decide)]
    rfl
  unfold State.calSkips
  simp only [hc]
  rfl

/-- Three skipped milliseconds raise the three counts and change nothing else (R313). -/
theorem calRails_all_skip {s : State} (h0 : s.calSkips 0 = true) (h1 : s.calSkips 1 = true) (h2 : s.calSkips 2 = true) :
    forEach [0, 1, 2] calRail s = ((s.bump32 0x6009 7).bump32 0x6009 8).bump32 0x6009 9 := by
  have e0 : calRail 0 s = s.bump32 0x6009 7 := if_pos h0
  have e1 : calRail 1 (s.bump32 0x6009 7) = (s.bump32 0x6009 7).bump32 0x6009 8 :=
    if_pos ((s.calSkips_bump 1 (by decide) (by decide)).trans h1)
  have e2 : calRail 2 ((s.bump32 0x6009 7).bump32 0x6009 8) = ((s.bump32 0x6009 7).bump32 0x6009 8).bump32 0x6009 9 :=
    if_pos ((State.calSkips_bump _ 2 (by decide) (by decide)).trans ((s.calSkips_bump 2 (by decide) (by decide)).trans h2))
  simp only [forEach, List.foldl_cons, List.foldl_nil, e0, e1, e2]

theorem State.num_bump32_same (s : State) (i sub : Nat) :
    (s.bump32 i sub).num i sub = min 0xFFFFFFFF (s.num i sub + 1) := s.num_put_same i sub _

theorem State.num_bump32_sub (s : State) {i sub j sub' : Nat} (h : sub < 256) (h' : sub' < 256) (hne : sub ≠ sub') :
    (s.bump32 i sub).num j sub' = s.num j sub' := s.num_put_ne _ (okey_ne_of_sub h h' hne)

theorem skipCounts_num (s : State) {r : Nat} (hr : r < 3) :
    (((s.bump32 0x6009 7).bump32 0x6009 8).bump32 0x6009 9).num 0x6009 (7 + r) = min 0xFFFFFFFF (s.num 0x6009 (7 + r) + 1) := by
  obtain rfl | rfl | rfl : r = 0 ∨ r = 1 ∨ r = 2 := by omega
  · rw [State.num_bump32_sub _ (by decide) (by decide) (by decide), State.num_bump32_sub _ (by decide) (by decide) (by decide),
      State.num_bump32_same]
  · rw [State.num_bump32_sub _ (by decide) (by decide) (by decide), State.num_bump32_same,
      State.num_bump32_sub _ (by decide) (by decide) (by decide)]
  · rw [State.num_bump32_same, State.num_bump32_sub _ (by decide) (by decide) (by decide),
      State.num_bump32_sub _ (by decide) (by decide) (by decide)]

theorem baselineCheck_cap (s : State) : (baselineCheck s).cap = s.cap :=
  view_cap (baselineCheck_view (k := 2048) (by decide) s) (by decide)

theorem telemInstant_instants (s : State) : (telemInstant s).cap.instants = s.cap.instants + 1 := by
  unfold telemInstant
  dsimp only
  split <;> rfl

/-- At a power instant that is no temperature instant only the partitions' reports move (R330). -/
theorem telemInstant_parts {s : State} (h : (s.cap.instants + 1) % 10 ≠ 0) :
    (telemInstant s).cap.parts = s.cap.parts.map (fun p => p.instant s.cap.epoch (s.tilesOf p.p)) := by
  unfold telemInstant
  simp only [h, if_false]

theorem usedPoints_of_doms {s t : State} (h : t.obj.doms = s.obj.doms) : t.usedPoints = s.usedPoints := by
  simp only [State.usedPoints, State.pointDiv, State.pointTable, State.dom, h]

/-- The fields of the cap unit that the reasons do not reach. -/
theorem updAccr_keeps {α : Type} (g : Cap → α) (hg : ∀ c a n nm am p f,
    g { c with accr := a, cnt := n, cntMs := nm, accrMs := am, parts := p, flags := f } = g c) (s : State) :
    g (updAccr s).cap = g s.cap := by
  obtain ⟨a, n, nm, am, p, f, h, -⟩ := updAccr_cap s
  rw [h, hg]

/-- The fields of the cap unit that hold still with time. -/
theorem advanceTo_cap_keeps {α : Type} (g : Cap → α) (hg : ∀ c u m p, g { c with dur := u, durMs := m, parts := p } = g c)
    (d : Nat) (s : State) : g (advanceTo d s).cap = g s.cap := by
  obtain ⟨u, m, p, h⟩ := advanceTo_cap d s
  rw [h, hg]

theorem advanceTo_point (d : Nat) (s : State) : (advanceTo d s).clk.point = s.clk.point := by
  obtain ⟨c, f, h⟩ := advanceTo_clk d s
  rw [h]

/-- The escalate time has run from a: the ceiling falls below the point in force, and the time counts afresh (R321). -/
def State.escalated (s : State) (a : Nat) : State :=
  let v := advanceTo (a + us (s.pn 0x6000 6)) s
  { v with cap := { v.cap with ceiling := v.clk.point - 1, escFrom := some v.aon.clock } }

theorem exec_capEscalateExpiry {s : State} {a : Nat} (hrun : s.estimRuns = true) (h1 : s.pn 0x6000 1 = 1)
    (he : s.cap.escFrom = some a) (ho : s.cap.okFrom = none) :
    exec .capEscalateExpiry s = .next (updAccr (setCapFlag 2 (s.escalated a))) := by
  show execCapEscalateExpiry s = _
  unfold execCapEscalateExpiry
  rw [he]
  exact if_pos (by rw [hrun, ho, h1]; rfl)

/-- The raise hold has run from a: the ceiling rises by one point, to 31 past the last, and the hold counts afresh (R321). -/
def State.raised (s : State) (a : Nat) : State :=
  let hold := us (s.pn 0x6000 7)
  let v := advanceTo (a + hold) s
  let d := v.cap.divide && !(match s.cap.okFrom with
    | some u => decide (u + hold ≤ v.aon.clock)
    | none => false)
  { v with cap := { v.cap with
      ceiling := if v.usedPoints ≤ v.cap.ceiling + 1 then 31 else v.cap.ceiling + 1, relFrom := some v.aon.clock, divide := d } }

theorem exec_capRaiseHoldExpiry_raise {s : State} {a : Nat} (hrun : s.estimRuns = true) (h1 : s.pn 0x6000 1 = 1)
    (hr : s.cap.relFrom = some a) (hk : s.cap.skip = 0) (hc : s.cap.ceiling ≠ 31) :
    exec .capRaiseHoldExpiry s = .next (updAccr (s.raised a)) := by
  show execCapRaiseHoldExpiry s = _
  unfold execCapRaiseHoldExpiry
  rw [if_neg (by rw [hrun, h1]; decide), hr]
  exact if_pos (by rw [hk, bne_iff_ne.mpr hc]; rfl)

theorem exec_capRaiseHoldExpiry_divide {s : State} {a : Nat} (hrun : s.estimRuns = true) (h1 : s.pn 0x6000 1 = 1)
    (hr : s.cap.relFrom = none) (ho : s.cap.okFrom = some a) (hd : s.cap.divide = true) :
    exec .capRaiseHoldExpiry s =
      let v := advanceTo (a + us (s.pn 0x6000 7)) s
      .next (updAccr { v with cap := { v.cap with divide := false } }) := by
  show execCapRaiseHoldExpiry s = _
  unfold execCapRaiseHoldExpiry
  rw [if_neg (by rw [hrun, h1]; decide), hr, ho]
  exact if_pos hd

/-- The escalation lowers the ceiling below the point in force, from the present moment on, and keeps the skip (R321). -/
theorem escalated_fields (s : State) (a : Nat) :
    (setCapFlag 2 (s.escalated a)).cap.ceiling = s.clk.point - 1 ∧ (setCapFlag 2 (s.escalated a)).cap.skip = s.cap.skip := by
  have hp := advanceTo_point (a + us (s.pn 0x6000 6)) s
  have hs := advanceTo_cap_keeps (·.skip) (fun _ _ _ _ => rfl) (a + us (s.pn 0x6000 6)) s
  unfold setCapFlag State.escalated
  dsimp only at hs ⊢
  rw [State.bump32_cap]
  exact ⟨by rw [hp], hs⟩

/-- Settles O40: the next state of each command by its equation, then the fields that the statement names. -/
theorem powerCapping : Obligations.PowerCapping := by
  unfold Obligations.PowerCapping
  refine ⟨fun acts s h15 hst => ?boundary, fun a s h15 hst h1 he ho => ?escalate, fun a s h15 hst h1 hr hk hc => ?raise,
    fun a s h15 hst h1 hr ho hd => ?divide, fun s h15 hst hd h0 h1 h2 => ?calibration, fun s h15 hst => ?telemetry,
    fun s hc ht => ?assert, fun s ht => ?release⟩
  case boundary =>
    obtain ⟨t, ht, hres⟩ := estimatorBoundary_results acts (estimRuns_of h15 hst)
    rw [estimate_results] at hres
    simp only [Cap.results, Prod.mk.injEq] at hres
    obtain ⟨hat, hi, hp, hm⟩ := hres
    exact ⟨t, ht, hat.trans (saturated_estAt acts _), hi, hp, hm⟩
  case escalate =>
    refine ⟨_, exec_capEscalateExpiry (estimRuns_of h15 hst) h1 he ho, ?_, ?_, ?_, ?_⟩
    · rw [updAccr_keeps (·.ceiling) (fun _ _ _ _ _ _ _ => rfl)]
      exact (escalated_fields s a).1
    · rw [updAccr_keeps (·.escFrom) (fun _ _ _ _ _ _ _ => rfl), updAccr_aon]
      rfl
    · rw [updAccr_keeps (·.skip) (fun _ _ _ _ _ _ _ => rfl)]
      exact (escalated_fields s a).2
    · obtain ⟨x, n, nm, am, p, f, hcap, hf⟩ := updAccr_cap (setCapFlag 2 (s.escalated a))
      rw [hcap]
      exact (hf 2 (by decide)).trans (putBit_bit _ _ _)
  case raise =>
    have hrun := estimRuns_of h15 hst
    refine ⟨_, exec_capRaiseHoldExpiry_raise hrun h1 hr hk hc, ?_, ?_⟩
    · rw [updAccr_keeps (·.ceiling) (fun _ _ _ _ _ _ _ => rfl)]
      simp only [State.raised, usedPoints_of_doms (advanceTo_doms _ s),
        advanceTo_cap_keeps (·.ceiling) (fun _ _ _ _ => rfl) _ s]
    · rw [updAccr_keeps (·.relFrom) (fun _ _ _ _ _ _ _ => rfl), updAccr_aon]
      rfl
  case divide =>
    refine ⟨_, exec_capRaiseHoldExpiry_divide (estimRuns_of h15 hst) h1 hr ho hd, ?_, ?_⟩
    · rw [updAccr_keeps (·.divide) (fun _ _ _ _ _ _ _ => rfl)]
    · rw [updAccr_keeps (·.ceiling) (fun _ _ _ _ _ _ _ => rfl)]
      exact advanceTo_cap_keeps (·.ceiling) (fun _ _ _ _ => rfl) (a + us (s.pn 0x6000 7)) s
  case calibration =>
    refine ⟨_, if_pos (by rw [estimRuns_of h15 hst, hd]; rfl), ?_⟩
    have hs : ∀ r, State.calSkips { s with cap := { s.cap with calDue := false } } r = s.calSkips r := fun r => rfl
    rw [calRails_all_skip ((hs 0).trans h0) ((hs 1).trans h1) ((hs 2).trans h2)]
    exact ⟨rfl, fun r hr => skipCounts_num _ hr⟩
  case telemetry =>
    refine ⟨_, if_pos (estimRuns_of h15 hst), ?_⟩
    have hcap : ∀ v : State, (if v.enforceOn then baselineCheck v else v).cap = v.cap := fun v => by
      split
      · exact baselineCheck_cap v
      · rfl
    have hi := advanceTo_cap_keeps (·.instants) (fun _ _ _ _ => rfl) s.nextInstant s
    have he := advanceTo_cap_keeps (·.epoch) (fun _ _ _ _ => rfl) s.nextInstant s
    show _ ∧ _
    rw [hcap]
    refine ⟨by rw [telemInstant_instants, hi], fun h => ?_⟩
    rw [telemInstant_parts (by rw [hi]; exact h), he]
  case assert =>
    exact ⟨_, if_pos (by rw [hc, ht]; rfl), updAccr_aon _, updAccr_keeps (·.extWord) (fun _ _ _ _ _ _ _ => rfl) _⟩
  case release =>
    exact ⟨_, if_pos ht, updAccr_aon _, updAccr_keeps (·.extWord) (fun _ _ _ _ _ _ _ => rfl) _⟩

end Sys2Proof.Machine

/-! The steps of feed-forward (O36). -/

namespace Sys2Proof.Machine

open Sys2Proof

/-! Loops over numbers. -/

/-- What each round of a loop keeps, the loop keeps. -/
theorem forEach_keeps {P : State → Prop} {f : Nat → State → State} (l : List Nat) {s : State}
    (h : ∀ k t, P t → P (f k t)) (hs : P s) : P (forEach l f s) :=
  List.foldlRecOn l _ hs fun t ht k _ => h k t ht

/-- What round k brings about while Q holds, and what every round keeps, holds after the loop. -/
theorem forEach_brings {P Q : State → Prop} {f : Nat → State → State} {l : List Nat} {k : Nat} (hk : k ∈ l)
    (hQ : ∀ j t, Q t → Q (f j t)) (hset : ∀ t, Q t → P (f k t)) (hkeep : ∀ j t, P t → P (f j t)) {s : State} (hs : Q s) :
    P (forEach l f s) := by
  induction l generalizing s with
  | nil => exact absurd hk List.not_mem_nil
  | cons j l ih =>
    show P (forEach l f (f j s))
    rcases List.mem_cons.mp hk with rfl | hk
    · exact forEach_keeps l hkeep (hset s hs)
    · exact ih hk (hQ j s hs)

/-! Rails and regions under a change of one of them. -/

theorem State.rail_of_rails {s t : State} (h : t.rails = s.rails) (k : Nat) : t.rail k = s.rail k := by
  rw [State.rail, State.rail, h]

theorem State.region_of_regions {s t : State} (h : t.regions = s.regions) (n : Nat) : t.region n = s.region n := by
  rw [State.region, State.region, h]

theorem State.rail_updRail_same (s : State) {k : Nat} (f : Rail → Rail) (h : k < s.rails.length) :
    (s.updRail k f).rail k = f (s.rail k) := by
  simp [State.rail, State.updRail, List.getElem?_modify_eq, List.getElem?_eq_getElem h]

/-- A change of one rail that keeps a field keeps it for every rail. -/
theorem State.rail_updRail_keeps {α : Type} (g : Rail → α) {f : Rail → Rail} (hf : ∀ r, g (f r) = g r) (s : State) (k j : Nat) :
    g ((s.updRail k f).rail j) = g (s.rail j) := by
  simp only [State.rail, State.updRail, List.getD_eq_getElem?_getD, List.getElem?_modify]
  split <;> cases s.rails[j]? <;> simp [hf]

theorem State.region_updRegion_same (s : State) {n : Nat} (f : Region → Region) (h : n < s.regions.length) :
    (s.updRegion n f).region n = f (s.region n) := by
  simp [State.region, State.updRegion, List.getElem?_modify_eq, List.getElem?_eq_getElem h]

theorem State.region_updRegion_ne (s : State) {n m : Nat} (f : Region → Region) (h : m ≠ n) :
    (s.updRegion m f).region n = s.region n := by
  simp [State.region, State.updRegion, h]

theorem State.region_updRegion_beyond (s : State) {n : Nat} (f : Region → Region) (h : s.regions.length ≤ n) :
    (s.updRegion n f).region n = s.region n := by
  simp [State.region, State.updRegion, List.getElem?_eq_none h]

/-! Feed-forward leaves its rails (R220, R251, R252). -/

theorem ffLeave_ffForce_self (k : Nat) (s : State) : ((ffLeave k s).rail k).ffForce = false := by
  simp only [State.rail, ffLeave, State.updRail, List.getD_eq_getElem?_getD, List.getElem?_modify_eq]
  cases s.rails[k]? <;> rfl

theorem ffLeave_ffForce_false {j : Nat} (k : Nat) {s : State} (h : (s.rail j).ffForce = false) :
    ((ffLeave k s).rail j).ffForce = false := by
  simp only [State.rail, List.getD_eq_getElem?_getD] at h
  simp only [State.rail, ffLeave, State.updRail, List.getD_eq_getElem?_getD, List.getElem?_modify]
  split <;> cases hr : s.rails[j]? <;> simp_all

theorem markRailFlt_ffForce (c code : Nat) (s : State) (k : Nat) :
    ((markRailFlt c code s).rail k).ffForce = (s.rail k).ffForce := by
  unfold markRailFlt
  split
  · unfold setRailFlt
    have hb : ∀ u i n, (State.bump32 u i n).rail k = u.rail k := fun u i n => State.rail_of_rails (State.bump32_rails u i n) k
    rw [hb]
    exact State.rail_updRail_keeps (·.ffForce) (f := fun r => { r with flt := putBit r.flt (code - 0x0301) true })
      (fun _ => rfl) s c k
  · rfl

theorem firstFault_rails (c code sev phase item arg1 : Nat) (s : State) :
    (firstFault c code sev phase item arg1 s).rails = s.rails :=
  view_rails (firstFault_view (k := 16) (by decide) c code sev phase item arg1 s) (by decide)

theorem updAccr_rails (s : State) : (updAccr s).rails = s.rails := view_rails (updAccr_view (k := 16) (by decide) s) (by decide)

theorem faultEvent_rails (c code sev phase item arg1 flags : Nat) (s : State) :
    (faultEvent c code sev phase item arg1 flags s).rails = s.rails :=
  view_rails (faultEvent_view (k := 16) (by decide) c code sev phase item arg1 flags s) (by decide)

theorem notify_rails (sev : Nat) (s : State) : (notify sev s).rails = s.rails :=
  view_rails (notify_view (k := 16) (by decide) sev s) (by decide)

theorem retain_rails (r : LastFault) (s : State) : (retain r s).rails = s.rails :=
  view_rails (retain_view (k := 16) (by decide) r s) (by decide)

/-- An S1 fault escalates to S2 at most (R225). -/
theorem escalate_le (s : State) (c : Nat) : s.escalate c 1 ≤ 2 := by
  unfold State.escalate
  generalize (if c < 6 then s.overCont c else s.nearCritical) = b
  cases b <;> decide

/-- What an escalation to S2 at most adds is a request alone. -/
theorem protectEscalated_rails {v : Nat} (h : v ≤ 2) (c code : Nat) (s : State) : (protectEscalated c code v s).rails = s.rails := by
  unfold protectEscalated
  rw [if_neg (show ¬ v = 3 by omega), if_neg (show ¬ v = 4 by omega)]
  split
  · exact view_rails (postEscalated_view (k := 16) (by decide) c code s) (by decide)
  · rfl

theorem secondFault_ffForce (c : Nat) (a : Fault_) (code phase item arg1 : Nat) (s : State) (k : Nat) :
    ((secondFault c a code 1 phase item arg1 s).rail k).ffForce = (s.rail k).ffForce := by
  have hp : ∀ t, (protectEscalated c code (s.escalate c 1) t).rails = t.rails := protectEscalated_rails (escalate_le s c) c code
  unfold secondFault
  extract_lets v esc u full b u1 u2 u3 fl u4 u5 u6
  have h1 : u.rails = s.rails := by
    simp only [u]
    split
    · exact hp s
    · rfl
  have h2 : u2.rails = u.rails := by
    simp only [u2]
    split <;> rfl
  have h4 : u4.rails = u3.rails := by
    simp only [u4]
    split
    · exact retain_rails _ _
    · rfl
  have h5 : u5.rails = s.rails := by
    rw [show u5.rails = u4.rails from retain_rails _ _, h4]
    simp only [u3]
    rw [faultEvent_rails, notify_rails, h2, h1]
  rw [State.rail_of_rails (faultEvent_rails ..)]
  exact (markRailFlt_ffForce ..).trans (by rw [State.rail_of_rails h5])

/-- An S1 fault takes no rail into or out of feed-forward. -/
theorem raiseFault_ffForce (c code phase item arg1 : Nat) (s : State) (k : Nat) :
    ((raiseFault c code 1 phase item arg1 s).rail k).ffForce = (s.rail k).ffForce := by
  rw [← markRailFlt_ffForce c code s k]
  unfold raiseFault protect
  simp only [Nat.reduceEqDiff, if_false]
  split
  · rw [State.rail_of_rails ((updAccr_rails _).trans (firstFault_rails ..))]
  · rw [State.rail_of_rails (updAccr_rails _), secondFault_ffForce]

/-- The feed-forward unit has discarded its announcements and settles, with flag n set (R251 to R253). -/
def Ff.settles (f : Ff) (n : Nat) : Prop := f.annQ = [] ∧ f.settling ≠ none ∧ f.matchRun = 0 ∧ bit f.flags n = true

/-- Discarding, settling, cancelling and disarming make a flagged unit settle. -/
theorem settles_of_flag {n : Nat} {s : State} (h : bit s.ff.flags n = true) :
    (disarmPlan (cancelPreloads (startSettling (discardPending s)))).ff.settles n := ⟨rfl, Option.some_ne_none _, rfl, h⟩

theorem setFfFlag_bit (n : Nat) (s : State) : bit (setFfFlag n s).ff.flags n = true := putBit_bit s.ff.flags n true

theorem raiseFault_ff (c code sev phase item arg1 : Nat) (s : State) : (raiseFault c code sev phase item arg1 s).ff = s.ff :=
  view_ff (raiseFault_view (k := 128) (by decide) c code sev phase item arg1 s) (by decide)

/-- What a step following error does to a rail in force (R251). -/
def stepErrorRail (k : Nat) (s : State) : State :=
  let s := ffLeave k s
  let s := { s with ff := { s.ff with withdrawnSfe := k :: s.ff.withdrawnSfe.filter (fun x => x != k) } }
  let s := (s.updRail k (fun r => { r with feAt := some s.aon.clock })).bump32 (0x8100 + k) 0x0B
  raiseFault k 0x0801 1 0xFF 0xFFFF 0 s

/-- What a step following error does before it takes the rails out (R251). -/
def stepErrorStart (s : State) : State :=
  disarmPlan (cancelPreloads (startSettling (discardPending ((setFfFlag 0 (s.bump32 0x8040 0x0B)).count 15 1))))

theorem stepError_eq (s : State) : stepError s = forEach (stepErrorStart s).inForce stepErrorRail (stepErrorStart s) := rfl

theorem stepErrorRail_settles {n k : Nat} {s : State} (h : s.ff.settles n) : (stepErrorRail k s).ff.settles n := by
  unfold stepErrorRail
  rw [raiseFault_ff]
  exact h

theorem stepErrorRail_ffForce (k j : Nat) (s : State) :
    ((stepErrorRail k s).rail j).ffForce = ((ffLeave k s).rail j).ffForce := by
  unfold stepErrorRail
  rw [raiseFault_ffForce, State.rail_of_rails (State.bump32_rails ..)]
  exact State.rail_updRail_keeps (·.ffForce) (f := fun r => { r with feAt := some s.aon.clock }) (fun _ => rfl) _ k j

theorem stepError_settles (s : State) : (stepError s).ff.settles 0 := by
  rw [stepError_eq]
  refine forEach_keeps (P := fun t => t.ff.settles 0) _ (fun _ _ => stepErrorRail_settles) (settles_of_flag ?_)
  rw [State.count_ff]
  exact setFfFlag_bit 0 _

theorem stepError_ffForce (s : State) {k : Nat} (hk : k < 6) : ((stepError s).rail k).ffForce = false := by
  have hkeep : ∀ j t, (State.rail t k).ffForce = false → ((stepErrorRail j t).rail k).ffForce = false := fun j t h =>
    (stepErrorRail_ffForce j k t).trans (ffLeave_ffForce_false j h)
  rw [stepError_eq]
  by_cases hf : ((stepErrorStart s).rail k).ffForce = true
  · have hm : k ∈ (stepErrorStart s).inForce := List.mem_filter.mpr ⟨List.mem_range.mpr hk, hf⟩
    exact forEach_brings (P := fun t => (t.rail k).ffForce = false) (Q := fun _ => True) hm (fun _ _ _ => trivial)
      (fun t _ => (stepErrorRail_ffForce k k t).trans (ffLeave_ffForce_self k t)) hkeep trivial
  · exact forEach_keeps (P := fun t => (t.rail k).ffForce = false) _ hkeep (Bool.eq_false_iff.mpr hf)

theorem ffWithdraw_settles (s : State) : (ffWithdraw s).ff.settles 1 := by
  unfold ffWithdraw
  extract_lets u v w
  rw [raise_ff]
  exact forEach_keeps (P := fun t => t.ff.settles 1) _ (fun _ _ h => h) (settles_of_flag (setFfFlag_bit 1 _))

theorem ffWithdraw_stepOvf (s : State) : (ffWithdraw s).aon.stepOvf = s.aon.stepOvf := by
  unfold ffWithdraw
  extract_lets u v w
  obtain ⟨b, l, h⟩ := raise_aon 0x0802 0 0 0 w
  rw [h]
  exact forEach_keeps (P := fun t => t.aon.stepOvf = s.aon.stepOvf) _ (fun _ _ h => h) rfl

/-! Announcements and markers (R234, R250). -/

theorem announce_room {s : State} (prog idx pos : Nat) (h16 : s.isReady 16 = true) (h11 : s.enabled 11 = true)
    (hl : s.ff.annQ.length < 256) : (announce prog idx pos s).ff.annQ = s.ff.annQ ++
      [{ prog := prog, idx := idx, pos := pos, since := s.aon.clock, due := s.aon.clock + s.leadP }] := by
  unfold announce
  rw [if_neg (by rw [h16, h11]; decide), if_neg (by omega)]
  simp [State.takeFree]

theorem announce_full {s : State} (prog idx pos : Nat) (h16 : s.isReady 16 = true) (h11 : s.enabled 11 = true)
    (hl : 256 ≤ s.ff.annQ.length) : announce prog idx pos s = ffWithdraw (setStepOvf s) := by
  unfold announce
  rw [if_neg (by rw [h16, h11]; decide), if_pos hl]

theorem handleMarkers_none (n : Nat) {s : State} (h : s.ff.markQ = []) : handleMarkers n s = s := by
  cases n with
  | zero => rfl
  | succ n =>
    unfold handleMarkers
    rw [h]

theorem handleMarkers_cons (n : Nat) {s : State} {m : Nat × Nat × Nat} {l : List (Nat × Nat × Nat)} (h : s.ff.markQ = m :: l) :
    handleMarkers (n + 1) s = handleMarkers n (marker m.1 m.2.1 { s with ff := { s.ff with markQ := l } }) := by
  rw [handleMarkers, h]

theorem reportDiff_ff (a : Ann) (s : State) : (reportDiff a s).ff = s.ff := by
  unfold reportDiff
  split
  · split <;> rfl
  · rfl

/-- The feed-forward unit once its oldest announcement has been matched (R245, R250). -/
def Ff.matched (f : Ff) (a : Ann) (rest : List Ann) : Ff :=
  { f with annQ := rest, lastDue := (a :: f.lastDue).take 2, matchRun := min 0xFFFF (f.matchRun + 1) }

theorem matchAnn_ff (a : Ann) (rest : List Ann) (idx : Nat) (s : State) :
    (matchAnn a rest idx s).ff = s.ff.matched a rest := by
  unfold matchAnn
  extract_lets u v
  have hv : v.ff = s.ff := by
    simp only [v, u]
    split <;> simp
  rw [reportDiff_ff]
  exact congrArg (·.matched a rest) hv

/-- A marker that fits the oldest announcement matches it (R250). -/
theorem marker_first {s : State} {prog idx : Nat} {a : Ann} {rest : List Ann} (hs : s.ff.settling = none)
    (hq : s.ff.annQ = a :: rest) (hf : s.annFits prog idx a = true) : marker prog idx s = matchAnn a rest idx s := by
  have hi : s.ff.annQ.findIdx? (s.annFits prog idx) = some 0 := by rw [hq, List.findIdx?_cons, if_pos hf]
  unfold marker
  rw [if_neg (by rw [hs]; decide), hi]
  simp only [hq]

theorem execMark_match {s : State} {prog idx : Nat} {a : Ann} {rest : List Ann} (h16 : s.isReady 16 = true)
    (h11 : s.enabled 11 = true) (hm : s.ff.markQ = []) (hs : s.ff.settling = none) (hq : s.ff.annQ = a :: rest)
    (hf : s.annFits prog idx a = true) :
    (execMark prog idx s).ff = { s.ff with markQ := [] }.matched a rest := by
  let u : State := { s with ff := { s.ff with markQ := [] } }
  have hmark : marker prog idx u = matchAnn a rest idx u := marker_first hs hq hf
  unfold execMark
  rw [if_neg (by rw [h16, h11, hm]; decide), handleMarkers_cons 255 (m := (prog, idx, s.aon.clock)) (l := []) (by simp [hm])]
  show (handleMarkers 255 (marker prog idx u)).ff = _
  rw [hmark, handleMarkers_none _ (by rw [matchAnn_ff]; rfl), matchAnn_ff]

/-! Lookups (R239). -/

theorem lookupNext_head {s : State} {a : Ann} {rest : List Ann} (hq : s.ff.annQ = a :: rest) (hl : a.looked = false)
    {b : Ann} {u : State} (hb : lookup a s = (b, u)) (hu : u.ff.annQ = s.ff.annQ) :
    (lookupNext s).ff = { u.ff with annQ := b :: rest } ∧
    (b.predicted = true → ∃ p, (lookupNext s).cap.predDue = u.cap.predDue ++ [(b.due, p, b.idx)]) := by
  have hi : s.ff.annQ.findIdx? (fun a => !a.looked) = some 0 := by
    rw [hq, List.findIdx?_cons, if_pos (by rw [hl]; rfl)]
  have h0 : s.ff.annQ[0]? = some a := by rw [hq]; rfl
  unfold lookupNext
  rw [hi]
  dsimp only
  rw [h0]
  dsimp only
  rw [hb]
  dsimp only
  constructor
  · split <;> simp [hu, hq]
  · intro hp
    rw [if_pos hp]
    exact ⟨_, rfl⟩

theorem lookup_noSlot {s : State} {a : Ann} (h : s.slotOf a.prog = none) : lookup a s = unpredicted 2 a s := by
  unfold lookup
  rw [h]

theorem lookup_predicts {s : State} {a : Ann} {n : Nat} {h : TabHdr} (hn : s.slotOf a.prog = some n)
    (hh : (s.fslot n).actHdr = some h) (hi : a.idx < h.steps) (h2 : leAt (s.entry n a.idx) 0x0F 1 / 4 = 0)
    (h0 : bit (leAt (s.entry n a.idx) 0x0F 1) 0 = false) (hs : shareSum (s.entry n a.idx) ≤ 256) :
    lookup a s = (a.predict h (s.entry n a.idx), s.add64 (0x8020 + n) 0x0B 1) := by
  have hf : (s.add64 (0x8020 + n) 0x0B 1).fslot n = s.fslot n := rfl
  have he : (s.add64 (0x8020 + n) 0x0B 1).entry n a.idx = s.entry n a.idx := rfl
  have hlt : ¬ h.steps ≤ a.idx := by omega
  unfold lookup
  rw [hn]
  dsimp only
  rw [hf, hh]
  dsimp only
  rw [if_neg (by simp [hlt]), if_neg hlt, he, if_neg (by rw [h0]; decide), if_neg (by rw [h2]; simpa using hs)]

/-! The duty term and the postings to the shims (R247, R248, R266). -/

theorem advanceTo_clock_le (d : Nat) (s : State) : (advanceTo d s).aon.clock ≤ max s.aon.clock d := by
  unfold advanceTo
  split
  · cases hp : s.aon.porN with
    | true =>
      rw [elapse_aon _ _ hp]
      dsimp only
      omega
    | false =>
      unfold elapse
      rw [hp]
      exact Nat.le_max_left ..
  · exact Nat.le_max_left ..

theorem nAct_of_phases {s t : State} (h : t.phases = s.phases) (k : Nat) : t.nAct k = s.nAct k := by
  have hp : t.phase = s.phase := funext fun n => by rw [State.phase, State.phase, h]
  unfold State.nAct State.phasesIn State.phasesOf
  rw [hp]

/-- A posting reaches its own region, and leaves every other as it is (R266, R268). -/
theorem postPreload_region_cases (m ig ng due : Nat) (s : State) (n : Nat) :
    (postPreload m ig ng due s).region n = s.region n ∨
    ∃ c, (postPreload m ig ng due s).region n =
      { s.region n with preN := c, preDue := due, preArmed := false, preActed := false } := by
  unfold postPreload
  split
  · exact .inl rfl
  · rcases eq_or_ne m n with rfl | hmn
    · rcases Nat.lt_or_ge m s.regions.length with hl | hl
      · exact .inr ⟨_, State.region_updRegion_same s _ hl⟩
      · exact .inl (State.region_updRegion_beyond s _ hl)
    · exact .inl (State.region_updRegion_ne s _ hmn)

theorem postPreload_region_self {n ig ng : Nat} (due : Nat) {s : State} (hb : (s.region n).bypass = false) (hi : ig ≠ 0)
    (hg : ng ≠ 0) (hn : n < s.regions.length) : (postPreload n ig ng due s).region n =
      { s.region n with preN := s.preCount n ig ng, preDue := due, preArmed := false, preActed := false } := by
  unfold postPreload
  rw [if_neg (by simp [hb, hi, hg])]
  exact State.region_updRegion_same s _ hn

theorem postPreload_length (m ig ng due : Nat) (s : State) : (postPreload m ig ng due s).regions.length = s.regions.length := by
  unfold postPreload
  split
  · rfl
  · exact List.length_modify ..

/-- The region takes postings: it exists and regulates (R260, R266). -/
def State.takesPosting (s : State) (n : Nat) : Prop := (s.region n).bypass = false ∧ n < s.regions.length

/-- The region holds a preload that falls due at a moment and has not armed. -/
def State.postedFor (s : State) (n due : Nat) : Prop := (s.region n).preDue = due ∧ (s.region n).preArmed = false

theorem postPreload_takesPosting {n : Nat} (m ig ng due : Nat) {s : State} (h : s.takesPosting n) :
    (postPreload m ig ng due s).takesPosting n := by
  refine ⟨?_, (postPreload_length m ig ng due s).symm ▸ h.2⟩
  rcases postPreload_region_cases m ig ng due s n with e | ⟨c, e⟩ <;> rw [e] <;> exact h.1

theorem postPreload_postedFor {n due : Nat} (m ig ng : Nat) {s : State} (h : s.postedFor n due) :
    (postPreload m ig ng due s).postedFor n due := by
  rcases postPreload_region_cases m ig ng due s n with e | ⟨c, e⟩
  · rw [State.postedFor, e]
    exact h
  · rw [State.postedFor, e]
    exact ⟨rfl, rfl⟩

/-- The postings of one group of a step. -/
def postGroup (a : Ann) (g : Nat) (s : State) : State :=
  let l := a.regionsOf g
  forEach l (fun n s => postPreload n (a.cur.getD 0 0 * a.share.getD g 0 / 256) l.length a.due s) s

theorem postShims_eq (a : Ann) {s : State} (h : s.inst.sat = false) : postShims a s = forEach (List.range 16) (postGroup a) s := by
  unfold postShims
  rw [if_neg (by rw [h]; decide)]
  rfl

theorem mem_regionsOf {a : Ann} {n : Nat} (hn : n < 256) (hg : a.groupMap.getD n 0x80 < 128) :
    n ∈ a.regionsOf (a.groupMap.getD n 0x80 % 16) := by
  unfold Ann.regionsOf
  rw [List.mem_filter, List.mem_range]
  exact ⟨hn, by rw [decide_eq_true rfl, decide_eq_true hg]; rfl⟩

/-- A step with current for a region's group posts to the region (R248, R266). -/
theorem postShims_postedFor {a : Ann} {s : State} {n : Nat} (hs : s.inst.sat = false) (hn : n < 256)
    (hg : a.groupMap.getD n 0x80 < 128) (hr : s.takesPosting n)
    (hi : a.cur.getD 0 0 * a.share.getD (a.groupMap.getD n 0x80 % 16) 0 / 256 ≠ 0) : (postShims a s).postedFor n a.due := by
  have hm := mem_regionsOf hn hg
  have hg16 : a.groupMap.getD n 0x80 % 16 ∈ List.range 16 := List.mem_range.mpr (Nat.mod_lt _ (by decide))
  rw [postShims_eq a hs]
  refine forEach_brings (P := fun t => t.postedFor n a.due) (Q := fun t => t.takesPosting n)
    hg16 (fun g t ht => ?_) (fun t ht => ?_) (fun g t ht => ?_) hr
  · exact forEach_keeps (P := fun t => t.takesPosting n) _ (fun _ _ => postPreload_takesPosting _ _ _ _) ht
  · refine forEach_brings (P := fun t => t.postedFor n a.due) (Q := fun t => t.takesPosting n) hm
      (fun _ _ => postPreload_takesPosting _ _ _ _) (fun u hu => ?_) (fun _ _ => postPreload_postedFor _ _ _) ht
    rw [State.postedFor, postPreload_region_self _ hu.1 hi (List.ne_nil_of_mem hm ∘ List.eq_nil_of_length_eq_zero) hu.2]
    exact ⟨rfl, rfl⟩
  · exact forEach_keeps (P := fun t => t.postedFor n a.due) _ (fun _ _ => postPreload_postedFor _ _ _) ht

theorem postShims_ff (a : Ann) (s : State) : (postShims a s).ff = s.ff :=
  view_ff (postShims_view (k := 128) (by decide) a s) (by decide)

theorem armPlan_ff (step prev : Int) (due : Nat) (s : State) : (armPlan step prev due s).ff = s.ff :=
  view_ff (armPlan_view (k := 128) (by decide) step prev due s) (by decide)

theorem armPlan_regions (step prev : Int) (due : Nat) (s : State) : (armPlan step prev due s).regions = s.regions :=
  view_regions (armPlan_view (k := 256) (by decide) step prev due s) (by decide)

/-- The announcement with its postings marked as made (R248). -/
def Ann.shimsPosted (a x : Ann) : Ann := if x.since = a.since && x.idx = a.idx then { x with shimDone := true } else x

theorem Ann.shimsPosted_eq (a x : Ann) :
    a.shimsPosted x = if x.since = a.since ∧ x.idx = a.idx then { x with shimDone := true } else x := by
  simp only [Ann.shimsPosted, Bool.and_eq_true, decide_eq_true_eq]

/-- The time before a step at which its postings are due has come, and they are marked as made (R248). -/
def State.shimMoment (s : State) (a : Ann) : State :=
  let u := advanceTo ((a.due - nsCycles (s.pn 0x8000 7)) / 50 * 50) s
  { u with ff := { u.ff with annQ := u.ff.annQ.map a.shimsPosted } }

/-- The shims are told of a step in force, and Dovetail of a barrier step; the announcements stay. -/
theorem exec_ffShimPost {s : State} {a : Ann} (h : s.shimStepOf = some a) : ∃ t, exec .ffShimPost s = .next t ∧
    t.ff = (s.shimMoment a).ff ∧ (a.predicted = true → ((s.shimMoment a).rail (a.cols.getD 0 0xFF)).ffForce = true →
      t.regions = (postShims a (s.shimMoment a)).regions) := by
  show ∃ t, execFfShimPost s = .next t ∧ _
  unfold execFfShimPost
  rw [h]
  dsimp only
  split
  · refine ⟨_, rfl, ?_, fun _ _ => ?_⟩
    · split
      · exact (armPlan_ff ..).trans (postShims_ff a (s.shimMoment a))
      · exact postShims_ff a (s.shimMoment a)
    · split
      · exact armPlan_regions ..
      · rfl
  · rename_i hn
    exact ⟨_, rfl, rfl, fun hp hf => absurd (show (a.predicted && _) = true by rw [hp]; exact hf) hn⟩

/-- Before its due time a step gives rail k in force its duty term, for the samples of 0x8100.05 (R247). -/
theorem dutyStart_starts {s : State} {k : Nat} {a : Ann} (hk : k < s.rails.length) (ha : s.dutyStepOf k = some a)
    (hc : s.aon.clock ≤ a.due) (hf : (s.rail k).ffForce = true) (hn : s.nAct k ≠ 0) :
    ((dutyStart k s).rail k).ffDutyLeft = s.pn (0x8100 + k) 5 ∧ ((dutyStart k s).rail k).ffDutyOf = s.pn (0x8100 + k) 5 := by
  let u := markDuty k a.since a.idx (advanceTo ((a.due - nsCycles (s.pn (0x8100 + k) 4)) / 50 * 50) s)
  have hrails : u.rails = s.rails := advanceTo_rails _ s
  have hclock : ¬ a.due < u.aon.clock := by
    have := advanceTo_clock_le ((a.due - nsCycles (s.pn (0x8100 + k) 4)) / 50 * 50) s
    have e : u.aon.clock = (advanceTo ((a.due - nsCycles (s.pn (0x8100 + k) 4)) / 50 * 50) s).aon.clock := rfl
    omega
  have hforce : (u.rail k).ffForce = true := by rw [State.rail_of_rails hrails, hf]
  have hact : u.nAct k ≠ 0 := by rwa [show u.nAct k = s.nAct k from nAct_of_phases (advanceTo_phases _ s) k]
  have hpn : u.pn (0x8100 + k) 5 = s.pn (0x8100 + k) 5 := advanceTo_pn _ s (by decide) (by decide)
  unfold dutyStart
  rw [ha]
  dsimp only
  rw [if_neg (by simp [u, hclock, hforce, hact])]
  rw [State.rail_updRail_same _ _ (by rw [hrails]; exact hk)]
  exact ⟨hpn, hpn⟩

/-- Settles O36: each command by the equation of its function, then the fields that the statement names. -/
theorem feedForwardSteps : Obligations.FeedForwardSteps := by
  unfold Obligations.FeedForwardSteps
  refine ⟨fun prog idx pos s hst h16 h11 hl => ?announced, fun prog idx pos s hst h16 h11 hl => ?overflow,
    fun prog idx a rest s hst h16 h11 hm hs hq hf => ?marked, fun a rest s h16 h11 hq hl hn => ?noTable,
    fun a rest n h s h16 h11 hq hl hn hh hi h2 h0 hs => ?predicted, fun a rest s h16 h11 hq _ => ?missed,
    fun a s hs => ?settled, fun edges s h16 => ?window, fun k a s hk ha hc hf hn => ?duty, fun a s ha => ?shims⟩
  case announced =>
    exact ⟨_, if_neg (by rw [hst]; decide), _, announce_room prog idx pos h16 h11 hl, rfl, rfl, rfl, rfl, rfl, rfl⟩
  case overflow =>
    obtain ⟨hq, hs, -, hb⟩ := ffWithdraw_settles (setStepOvf s)
    refine ⟨_, if_neg (by rw [hst]; decide), ?_⟩
    rw [announce_full prog idx pos h16 h11 hl]
    exact ⟨ffWithdraw_stepOvf _, hq, hs, hb⟩
  case marked =>
    refine ⟨_, if_neg (by rw [hst]; decide), ?_⟩
    beta_reduce
    rw [execMark_match h16 h11 hm hs hq hf]
    exact ⟨rfl, rfl, rfl, rfl⟩
  case noTable =>
    obtain ⟨hff, -⟩ := lookupNext_head hq hl (lookup_noSlot hn) rfl
    refine ⟨_, if_pos (by rw [h16, h11]; rfl), ?_⟩
    beta_reduce
    rw [hff]
    exact ⟨rfl, setFfFlag_bit 2 _⟩
  case predicted =>
    obtain ⟨hff, hcap⟩ := lookupNext_head hq hl (lookup_predicts hn hh hi h2 h0 hs) rfl
    refine ⟨_, if_pos (by rw [h16, h11]; rfl), ?_, hcap rfl⟩
    rw [hff]
  case missed =>
    refine ⟨_, if_pos (by rw [h16, h11]; rfl), ?_⟩
    unfold missed
    rw [hq]
    obtain ⟨hann, hset, hrun, hbit⟩ :=
      stepError_settles ((advanceTo ((a.due + s.markerWindow) / 50 * 50 + 50) s).bump32 0x8040 0x0A)
    exact ⟨hann, hset, hrun, hbit, fun k hk => stepError_ffForce _ hk⟩
  case settled =>
    refine ⟨_, show execSettlingEnd s = _ by unfold execSettlingEnd; rw [hs], ?_⟩
    rw [State.with_ff_ff, advanceTo_ff]
  case window =>
    have hq : (advanceTo (s.ff.windowAt + 6400) s).ff.annQ = s.ff.annQ := by rw [advanceTo_ff]
    exact ⟨_, if_pos h16, rfl, rfl, hq⟩
  case duty =>
    exact ⟨_, rfl, dutyStart_starts hk ha hc hf hn⟩
  case shims =>
    obtain ⟨t, ht, hff, hreg⟩ := exec_ffShimPost ha
    refine ⟨t, ht, ?_, fun hp hf hsat n hn hl hg hb hi => ?_⟩
    · rw [hff]
      show (advanceTo _ s).ff.annQ.map a.shimsPosted = _
      rw [advanceTo_ff]
      exact List.map_congr_left fun x _ => a.shimsPosted_eq x
    · have hregions : (s.shimMoment a).regions = s.regions := advanceTo_regions _ s
      have hrails : (s.shimMoment a).rails = s.rails := advanceTo_rails _ s
      have hinst : (s.shimMoment a).inst = s.inst := advanceTo_inst _ s
      have htakes : (s.shimMoment a).takesPosting n := by
        rw [State.takesPosting, State.region_of_regions hregions, hregions]
        exact ⟨hb, hl⟩
      have hpost := postShims_postedFor (by rw [hinst, hsat]) hn hg htakes hi
      rwa [State.region_of_regions (hreg hp (by rw [State.rail_of_rails hrails, hf]))]

end Sys2Proof.Machine

/-! A whole write that the engine serves on its own channel: from the request to the effect of the object's write, and from that
effect to the channel's answer (R96, R109 to R118). -/

namespace Sys2Proof.Machine

open Sys2Proof

/-! Channels. -/

/-- The channel is one of the engine's own that take a requester's writes: a mailbox slot, the port or firmware's channel. -/
def State.hasChan (s : State) : ChanId → Prop
  | .slot p => p < s.cl.slots.length
  | .mgt | .fw => True
  | .chain | .jig _ => False

theorem State.chan_updChan {s : State} {ch : ChanId} (f : ClChan → ClChan) (h : s.hasChan ch) :
    (s.updChan ch f).chan ch = f (s.chan ch) := by
  cases ch with
  | slot p => simp [State.chan, State.updChan, List.getElem?_modify_eq, List.getElem?_eq_getElem (show p < _ from h)]
  | mgt => rfl
  | fw => rfl
  | chain => exact h.elim
  | jig j => exact h.elim

theorem State.hasChan_updChan {s : State} {ch : ChanId} (c : ChanId) (f : ClChan → ClChan) (h : s.hasChan ch) :
    (s.updChan c f).hasChan ch := by
  cases ch with
  | slot p =>
    cases c with
    | slot q => exact Nat.lt_of_lt_of_eq h (List.length_modify ..).symm
    | mgt | chain | fw | jig _ => exact h
  | mgt | fw => trivial
  | chain | jig _ => exact h.elim

theorem State.updChan_queues (s : State) (c : ChanId) (f : ClChan → ClChan) :
    (s.updChan c f).cl.fwQ = s.cl.fwQ ∧ (s.updChan c f).cl.chainQ = s.cl.chainQ := by
  cases c <;> exact ⟨rfl, rfl⟩

/-- With no request waiting, the engine's turn changes nothing. -/
theorem clTurn_quiet {s : State} (hf : s.cl.fwQ = []) (hc : s.cl.chainQ = []) : clTurn s = s := by
  unfold clTurn
  rw [hf, hc]
  rfl

/-! The checks of a request. -/

/-- The checks read the readiness, the enables, the role and the kind of die alone (R96). -/
theorem checks_congr {s t : State} (ha : t.aon = s.aon) (hc : t.chain = s.chain) (hi : t.inst = s.inst) (w : Who)
    (op i sub : Nat) : t.checks w op i sub = s.checks w op i sub := by
  have hl : t.lacks i = s.lacks i := by rw [State.lacks, State.lacks, State.isRoot, State.isRoot, hc, hi]
  have hs : t.sees w i = s.sees w i := by rw [State.sees, State.sees, hl]
  have hg : ∀ own, t.gatedObj own i = s.gatedObj own i := fun own => by
    unfold State.gatedObj State.enabled
    rw [ha]
  have hu : ∀ own, t.unready own i = s.unready own i := fun own => by
    unfold State.unready State.isReady
    rw [ha]
  unfold State.checks
  rw [hs]
  simp only [hg, hu]

theorem State.writePasses_row {s : State} {ch : ChanId} {i sub : Nat} {val : List Byte} (h : s.writePasses ch i sub val = true) :
    ∃ r, dictRow i sub = some r ∧ s.checks (s.whoOn ch) 3 i sub = 0 ∧ r.ty.fits val.length = true ∧ r.inRange val = true := by
  unfold State.writePasses at h
  split at h
  · rename_i r hr
    simp only [Bool.and_eq_true, decide_eq_true_eq] at h
    obtain ⟨⟨hc, hf⟩, hr'⟩ := h
    exact ⟨r, hr, hc, hf, hr'⟩
  · exact absurd h (by decide)

/-! From the request to the object's write. -/

/-- The state in which the engine serves a write of s on a channel: beside the channels, the objects' store, the host window's
answer and the port's occupation it is s, no request waits, and the channel is there. -/
def State.servesFrom (u s : State) (ch : ChanId) : Prop :=
  u.view 10485753 = s.view 10485753 ∧ u.cl.fwQ = [] ∧ u.cl.chainQ = [] ∧ u.hasChan ch ∧ (u.chan ch).level = (s.chan ch).level

theorem State.servesFrom.updChan {u s : State} {ch : ChanId} (h : u.servesFrom s ch) (f : ClChan → ClChan)
    (hf : ∀ c, (f c).level = c.level) : (u.updChan ch f).servesFrom s ch := by
  obtain ⟨hv, hq, hq', hc, hl⟩ := h
  obtain ⟨e, e'⟩ := u.updChan_queues ch f
  refine ⟨(State.updChan_view (k := 10485753) (by decide) u ch f).trans hv, e.trans hq, e'.trans hq',
    State.hasChan_updChan ch f hc, ?_⟩
  rw [State.chan_updChan f hc, hf, hl]

theorem State.servesFrom.clClose {u s : State} {ch : ChanId} (h : u.servesFrom s ch) : (clClose ch u).servesFrom s ch := by
  unfold Machine.clClose
  split
  · exact h
  · refine State.servesFrom.updChan (u := u.bump32 0x1020 4) ?_ _ fun _ => rfl
    obtain ⟨hv, hrest⟩ := h
    exact ⟨(State.bump32_view (k := 10485753) (by decide) u 0x1020 4).trans hv, by cases ch <;> exact hrest⟩

/-- A write that passes its checks, of an object that firmware does not own, goes to the object's effect (R96, R114, R116). -/
theorem clServe_write {u s : State} {ch : ChanId} {a : ClPend} {r : Row} (h : u.servesFrom s ch) (hst : s.obs.standing = false)
    (hn : a.node = 0) (hop : a.op = 3) (hw : a.who ch = s.whoOn ch) (hr : dictRow a.idx a.sub = some r)
    (hc : s.checks (s.whoOn ch) 3 a.idx a.sub = 0) (hf : r.ty.fits a.val.length = true) (hi : r.inRange a.val = true)
    (hfw : fwOwned a.idx a.sub = false) :
    ∃ v, v.servesFrom s ch ∧ clServe ch a u = clEffect ch a r v := by
  have hv := h.updChan (fun c => { c with state := 1, pend := some a }) fun _ => rfl
  refine ⟨_, hv, ?_⟩
  obtain ⟨hview, -⟩ := hv
  have hstand : (u.updChan ch (fun c => { c with state := 1, pend := some a })).obs.standing = false := by
    rw [view_obs hview (by decide), hst]
  have hchecks : (u.updChan ch (fun c => { c with state := 1, pend := some a })).checks (a.who ch) a.op a.idx a.sub = 0 := by
    rw [checks_congr (view_aon hview (by decide)) (view_chain hview (by decide)) (view_inst hview), hw, hop, hc]
  unfold clServe
  extract_lets v
  rw [if_neg (by rw [hstand]; decide), if_pos (by rw [hn]; rfl)]
  unfold clLocal
  simp only [v]
  rw [hchecks, hr]
  simp [hop, hf, hi, hfw]

/-- The request word of a whole write (R112). -/
def wholeReq (i sub : Nat) (v : List Byte) : ClReq :=
  let n := if v.isEmpty then 0 else (v.length - 1) % 48 + 1
  { idx := i, sub := sub, len := n, last := true, data := v.drop (v.length - n) }

/-- The request as the engine holds it. -/
def State.wholePend (s : State) (ch : ChanId) (i sub : Nat) (v : List Byte) : ClPend :=
  { op := 3, idx := i, sub := sub, val := v, cls := (chanClass ch).1, part := (chanClass ch).2, level := (s.chan ch).level,
    tag := 1, req := reqWord (if v.length ≤ 48 then 3 else 4) (wholeReq i sub v) }

/-- What a channel's last request of a whole write does to it. -/
def ClChan.whole (i sub : Nat) (v : List Byte) (c : ClChan) : ClChan :=
  let r := wholeReq i sub v
  { c with seq := 0, req := reqWord (if v.length ≤ 48 then 3 else 4) r, data := r.data ++ c.data.drop r.len }

theorem ClChan.whole_level (i sub : Nat) (v : List Byte) (c : ClChan) : (c.whole i sub v).level = c.level := by
  cases c
  rfl

/-- The state once a channel has taken a request: the slot's answer to the host, the port's occupation and count (R22, R538). -/
def State.heard (s : State) : ChanId → State
  | .slot _ => { s with host := { s.host with rspCode := 0 } }
  | .mgt => { (s.add64 0x2600 0x0F 1) with mgt := { s.mgt with busy := true } }
  | _ => s

theorem State.heard_servesFrom {s : State} {ch : ChanId} (hq : s.clQuiet) (hc : s.hasChan ch) : (s.heard ch).servesFrom s ch := by
  obtain ⟨hfq, hcq, -⟩ := hq
  cases ch with
  | slot p => exact ⟨rfl, hfq, hcq, hc, rfl⟩
  | mgt =>
    have hview : (s.heard .mgt).view 10485753 = (s.add64 0x2600 0x0F 1).view 10485753 := rfl
    exact ⟨hview.trans (State.add64_view (k := 10485753) (by decide) s 0x2600 0x0F 1), hfq, hcq, trivial, rfl⟩
  | fw => exact ⟨rfl, hfq, hcq, trivial, rfl⟩
  | chain | jig _ => exact hc.elim

theorem State.hasChan_of_free {s : State} {ch : ChanId} (h : s.channelFree ch = true) : s.hasChan ch := by
  cases ch with
  | slot p =>
    simp only [State.channelFree, Bool.and_eq_true, decide_eq_true_eq] at h
    exact h.1.1
  | mgt | fw => trivial
  | chain | jig _ => exact absurd h Bool.false_ne_true

/-- A channel that is free hands a whole write to the engine (R110, R115, R538). -/
theorem clWhole_free {s : State} {ch : ChanId} (i sub : Nat) (val : List Byte) (h : s.channelFree ch = true) :
    clWhole ch i sub val s = clTurn (clServe ch (s.wholePend ch i sub val)
      (clClose ch ((s.heard ch).updChan ch (ClChan.whole i sub val)))) := by
  unfold clWhole
  cases ch with
  | slot p =>
    simp only [State.channelFree, Bool.and_eq_true, bne_iff_ne, ne_eq] at h
    obtain ⟨⟨-, hm⟩, hst⟩ := h
    dsimp only
    rw [if_neg (by rw [hm]; decide), if_neg hst]
    rfl
  | mgt =>
    simp only [State.channelFree, Bool.and_eq_true, Bool.not_eq_true'] at h
    obtain ⟨h2, hb⟩ := h
    dsimp only
    rw [if_neg (by rw [h2]; decide), if_neg (by rw [hb]; decide)]
    rfl
  | fw => exact if_pos h
  | chain | jig _ => exact absurd h Bool.false_ne_true

theorem clWhole_serves {s : State} {ch : ChanId} (i sub : Nat) (val : List Byte) (hq : s.clQuiet)
    (hfree : s.channelFree ch = true) : ∃ u, u.servesFrom s ch ∧
      clWhole ch i sub val s = clTurn (clServe ch (s.wholePend ch i sub val) u) :=
  ⟨_, ((State.heard_servesFrom hq (State.hasChan_of_free hfree)).updChan _ (ClChan.whole_level i sub val)).clClose,
    clWhole_free i sub val hfree⟩

/-- A write that passes its checks, of an object that firmware does not own, has the object's effect. -/
theorem clWhole_effect {s : State} {ch : ChanId} {i sub : Nat} {val : List Byte} {r : Row} (h : s.takes ch i sub val)
    (hr : dictRow i sub = some r) (hfw : fwOwned i sub = false) : ∃ v, v.servesFrom s ch ∧ r.ty.fits val.length = true ∧
      r.inRange val = true ∧ clWhole ch i sub val s = clTurn (clEffect ch (s.wholePend ch i sub val) r v) := by
  obtain ⟨hq, hfree, hpass⟩ := h
  obtain ⟨r', hr', hc, hf, hi⟩ := State.writePasses_row hpass
  obtain rfl : r = r' := Option.some.inj (hr.symm.trans hr')
  obtain ⟨u, hu, hw⟩ := clWhole_serves i sub val hq hfree
  obtain ⟨v, hv, hs⟩ := clServe_write (a := s.wholePend ch i sub val) hu hq.2.2 rfl rfl rfl hr hc hf hi hfw
  exact ⟨v, hv, hf, hi, hw.trans (congrArg clTurn hs)⟩

/-! From the object's write to the channel's answer. -/

/-- A channel's request ends: the count of requests, the channel, and on the port its packet (R109, R117, R541). -/
theorem clEnd_success (ch : ChanId) (t : State) : ∃ m, clEnd ch 0 0 false [] t =
    { ((t.add64 0x1020 1 1).updChan ch (ClChan.finish 0 0 false [])) with mgt := m } := by
  cases ch <;> exact ⟨_, rfl⟩

/-- A write that has succeeded ends its channel's request with success. Beside the channel, the port and the count of requests
the state stays as the write left it (R109, R117). -/
theorem clOk_write {t : State} {ch : ChanId} (a : ClPend) (hc : t.hasChan ch) :
    (clOk ch a [] t).doneOn ch ∧ (clOk ch a [] t).view 14680057 = t.view 14680057 ∧
    (clOk ch a [] t).obj = (t.add64 0x1020 1 1).obj ∧
    (clOk ch a [] t).cl.fwQ = t.cl.fwQ ∧ (clOk ch a [] t).cl.chainQ = t.cl.chainQ := by
  have hok : clOk ch a [] t = clEnd ch 0 0 false [] t := by
    cases ch with
    | slot _ | mgt | fw =>
      unfold clOk
      simp
    | chain | jig _ => exact hc.elim
  have hchan : ((t.add64 0x1020 1 1).updChan ch (ClChan.finish 0 0 false [])).chan ch = _ :=
    State.chan_updChan _ (show (t.add64 0x1020 1 1).hasChan ch by cases ch <;> exact hc)
  have hview := clEnd_view (k := 14680057) (by decide) ch 0 0 false [] t
  obtain ⟨hq, hq'⟩ := (t.add64 0x1020 1 1).updChan_queues ch (ClChan.finish 0 0 false [])
  obtain ⟨m, hm⟩ := clEnd_success ch t
  have hmgt : ∀ u : State, ({ u with mgt := m } : State).chan ch = u.chan ch := fun u => by cases ch <;> rfl
  rw [hok]
  refine ⟨?_, hview, ?_, ?_, ?_⟩
  · rw [State.doneOn, hm, hmgt, hchan]
    exact ⟨rfl, rfl⟩
  · rw [hm]
    cases ch <;> rfl
  · rw [hm]
    exact hq
  · rw [hm]
    exact hq'

end Sys2Proof.Machine

/-! Dovetail's barriers and their release in waves (O43). -/

namespace Sys2Proof.Machine

open Sys2Proof

/-! What the functions around a release leave of Dovetail. -/

theorem bindingSignal_dove (sub scope : Nat) (s : State) : (bindingSignal sub scope s).dove = s.dove :=
  view_dove (bindingSignal_view (k := 8192) (by decide) sub scope s) (by decide)

theorem advanceTiles_dove (c : Nat) (s : State) : (advanceTiles c s).dove = s.dove :=
  view_dove (advanceTiles_view (k := 8192) (by decide) c s) (by decide)

theorem raiseFault_dove (c code sev phase item arg1 : Nat) (s : State) : (raiseFault c code sev phase item arg1 s).dove = s.dove :=
  view_dove (raiseFault_view (k := 8192) (by decide) c code sev phase item arg1 s) (by decide)

/-- Tile time leaves every object but those that report times. -/
theorem advanceTiles_pn (c : Nat) (s : State) {i sub : Nat} (hs : sub < 256) (ht : ¬ reportsTime sub) :
    (advanceTiles c s).pn i sub = s.pn i sub := by
  have he : ∀ d, (elapse d s).pn i sub = s.pn i sub := fun d => congrArg Int.toNat (elapse_num d s hs ht)
  unfold advanceTiles
  split
  · rfl
  · split
    · exact he _
    · split
      · rfl
      · exact he _

/-! Releases (R355, R356, R358). -/

theorem startRelease_dove (s : State) : (startRelease s).dove = { s.dove with
    releasing := true, e0 := s.clk.tileCycles, wave := 0, armed := false, curStart := s.dove.start,
    w := (if s.dove.armed then s.dove.planW else s.pn 0x7100 4),
    d := (if s.dove.armed then s.dove.planD else if s.pn 0x7100 4 = 1 then 0 else s.pn 0x7100 5) } := by
  unfold startRelease
  cases s.dove.armed <;> rfl

theorem barInRise_paced {s : State} (hr : s.dove.releasing = false) (hp : s.paced = true) (h8 : s.pn 0x7100 8 ≠ 1) :
    barInRise s = startRelease { s with dove := { s.dove with barIn := true } } := by
  unfold barInRise
  exact (if_neg (by rw [hr]; decide)).trans ((if_neg (show ¬ (!s.paced) = true by rw [hp]; decide)).trans (if_neg h8))

theorem barInRise_bypass {s : State} (hr : s.dove.releasing = false) (hp : s.paced = false) :
    barInRise s = { s with dove := { s.dove with barIn := true, bypassRise := true, e0 := s.clk.tileCycles } } := by
  unfold barInRise
  exact (if_neg (by rw [hr]; decide)).trans (if_pos (show (!s.paced) = true by rw [hp]; rfl))

theorem barInRise_releasing {s : State} (hr : s.dove.releasing = true) :
    barInRise s = setBarEarly { s with dove := { s.dove with barIn := true } } := if_pos hr

theorem barOutRise_release {s : State} (hr : s.dove.releasing = true) (hw : s.dove.wave = 0) : (barOutRise s).dove =
    { s.dove with barOut := true, wave := 1, barWave := waveMask s.dove.curStart s.dove.w 1 } := by
  unfold barOutRise
  rw [if_pos (by rw [hr, hw]; rfl)]
  dsimp only
  rw [bindingSignal_dove, State.with_dove_dove, advanceTiles_dove]

theorem barOutRise_bypass {s : State} (hr : s.dove.releasing = false) (hb : s.dove.bypassRise = true) : (barOutRise s).dove =
    { s.dove with barOut := true, barWave := 0xFFFF, bypassRise := false } := by
  unfold barOutRise
  rw [if_neg (by rw [hr]; exact Bool.false_ne_true), if_pos hb]
  dsimp only
  rw [bindingSignal_dove, State.with_dove_dove, advanceTiles_dove]

theorem nextWave_dove (s : State) : (nextWave s).dove =
    { s.dove with wave := s.dove.wave + 1, barWave := waveMask s.dove.curStart s.dove.w (s.dove.wave + 1) } := by
  unfold nextWave
  dsimp only
  rw [advanceTiles_dove]

theorem barOutFall_release {s : State} (hr : s.dove.releasing = true) : (barOutFall s).dove = { s.dove with
    barOut := false, barWave := 0xFFFF, releasing := false, barIn := false,
    start := if s.pn 0x7100 0x0A = 1 then (s.dove.start + 1) % 16 else 0 } := by
  unfold barOutFall
  rw [if_pos hr]
  dsimp only
  rw [advanceTiles_dove, advanceTiles_pn _ _ (by decide) (by decide)]

/-! A late package barrier (R364). -/

theorem State.ctx_of_prot {s t : State} (h : t.prot = s.prot) (c : Nat) : t.ctx c = s.ctx c := by
  rw [State.ctx, State.ctx, h]

theorem State.ctx_updCtx_same (s : State) {c : Nat} (f : Ctx → Ctx) (h : c < s.prot.ctxs.length) :
    (s.updCtx c f).ctx c = f (s.ctx c) := by
  simp [State.ctx, State.updCtx, List.getElem?_modify_eq, List.getElem?_eq_getElem h]

/-- An S1 fault of no rail that finds its context empty is in recovery from the present moment (R221, R222). -/
theorem raiseFault_recovers {c code phase item : Nat} (arg1 : Nat) {s : State} (hc : 6 ≤ c) (hl : c < s.prot.ctxs.length)
    (hn : (s.ctx c).cur = none) : (raiseFault c code 1 phase item arg1 s).recoversOf c code 1 phase item := by
  let u := s.updCtx c (fun x => { x with
    cur := some { code := code, sev := 1, phase := phase, item := item, since := s.aon.clock } })
  have hm : markRailFlt c code s = s := by
    unfold markRailFlt
    exact if_neg (by simp [Nat.not_lt.mpr hc])
  have he : raiseFault c code 1 phase item arg1 s = updAccr (faultEvent c code 1 phase item arg1 0 (notify 1 u)) := by
    unfold raiseFault
    rw [hm]
    dsimp only [protect]
    simp only [Nat.reduceEqDiff, if_false, hn]
    rfl
  have hprot : (updAccr (faultEvent c code 1 phase item arg1 0 (notify 1 u))).prot = u.prot := by
    rw [view_prot (updAccr_view (k := 64) (by decide) _) (by decide),
      view_prot (faultEvent_view (k := 64) (by decide) ..) (by decide)]
    rfl
  have hclock : (updAccr (faultEvent c code 1 phase item arg1 0 (notify 1 u))).aon.clock = s.aon.clock := by
    rw [updAccr_aon]
    obtain ⟨b, l, h⟩ := captureEvent_aon
      { code := code, sev := 1, part := 0xFF, arg0 := faultArg0 c phase item, arg1 := (notify 1 u).faultArg1 c code arg1, flags := 0 }
      (notify 1 u)
    unfold faultEvent
    rw [h]
    rfl
  rw [State.recoversOf, he, State.ctx_of_prot hprot, hclock, State.ctx_updCtx_same s _ hl]

/-! A cancelled package barrier (R365). -/

theorem captureEvent_num (e : Event) (s : State) {i sub : Nat} (h3 : okey 0x9000 3 ≠ okey i sub) (h1 : okey 0x9003 1 ≠ okey i sub) :
    (captureEvent e s).num i sub = s.num i sub := by
  unfold captureEvent
  dsimp only
  split
  · split
    · rfl
    · exact (State.num_put_ne _ _ h1).trans (State.num_put_ne _ _ h3)
  · split <;> rfl

theorem setDoveFlag_num (n : Nat) (s : State) {i sub : Nat} (h : okey 0x7103 (n + 1) ≠ okey i sub) :
    (setDoveFlag n s).num i sub = s.num i sub := State.num_put_ne _ _ h

theorem startRelease_num (s : State) {i sub : Nat} (h : ∀ k, k < 4 → okey 0x7101 k ≠ okey i sub) :
    (startRelease s).num i sub = s.num i sub := by
  unfold startRelease
  cases s.dove.armed
  · exact (State.num_put_ne _ _ (h 1 (by decide))).trans (State.num_put_ne _ _ (h 3 (by decide)))
  · exact (State.num_put_ne _ _ (h 1 (by decide))).trans (State.num_put_ne _ _ (h 2 (by decide)))

/-- The root's package barrier stands at an epoch with no arrival and no lost member (R363, R365). -/
def State.barrierCleared (s : State) (e : Nat) : Prop := s.dove.arrived = 0 ∧ s.dove.rootEpoch = e ∧ s.num 0x7102 5 = 0

/-- A change that keeps Dovetail's root and the lost members keeps a cleared barrier cleared. -/
theorem State.barrierCleared.of_eq {s t : State} {e : Nat} (h : s.barrierCleared e) (ha : t.dove.arrived = s.dove.arrived)
    (hr : t.dove.rootEpoch = s.dove.rootEpoch) (hn : t.num 0x7102 5 = s.num 0x7102 5) : t.barrierCleared e := by
  obtain ⟨h1, h2, h3⟩ := h
  exact ⟨ha.trans h1, hr.trans h2, hn.trans h3⟩

theorem startRelease_cleared {s : State} {e : Nat} (h : s.barrierCleared e) : (startRelease s).barrierCleared e :=
  h.of_eq (by rw [startRelease_dove]) (by rw [startRelease_dove])
    (startRelease_num s fun k hk => by unfold okey; omega)

/-- The die has stopped waiting for a package barrier, whose wait is recorded (R361, R363). -/
def State.waited (s : State) (epoch : Nat) : State :=
  let ns := (s.aon.clock - s.dove.pkgWaitAt) * 5 / 2
  let u := s.put 0x7101 7 (max (s.num 0x7101 7) (min 0xFFFF_FFFF ns : Nat))
  { u with dove := { u.dove with pkgWait := false, late := false, epoch := epoch } }

theorem actBarrier_cancel (epoch : Nat) (s : State) :
    actBarrier 2 epoch s = startRelease (raise 0x0703 0 0 0 (setDoveFlag 2 (s.waited epoch))) := rfl

theorem actBarrier_cancel_cleared {s : State} {e : Nat} (epoch : Nat) (h : s.barrierCleared e) :
    (actBarrier 2 epoch s).barrierCleared e := by
  have hw : (s.waited epoch).num 0x7102 5 = s.num 0x7102 5 := State.num_put_ne _ _ (by decide)
  rw [actBarrier_cancel]
  refine startRelease_cleared (h.of_eq ?_ ?_ ?_)
  · rw [raise_dove]
    rfl
  · rw [raise_dove]
    rfl
  · exact ((captureEvent_num _ _ (by decide) (by decide)).trans (setDoveFlag_num 2 _ (by decide))).trans hw

theorem hearBarrier_cancel_cleared {s : State} {e : Nat} (epoch mask : Nat) (h : s.barrierCleared e) :
    (hearBarrier 2 epoch mask s).barrierCleared e := by
  unfold hearBarrier
  split
  · exact h.of_eq rfl rfl (State.num_put_ne _ _ (by decide))
  · split
    · exact actBarrier_cancel_cleared epoch h
    · exact h

theorem cancelBarrier_cleared (s : State) : (cancelBarrier s).barrierCleared (nextEpoch s.dove.rootEpoch) := by
  unfold cancelBarrier
  dsimp only
  split
  · exact hearBarrier_cancel_cleared _ _ ⟨rfl, rfl, State.num_put_same _ _ _ _⟩
  · exact ⟨rfl, rfl, State.num_put_same _ _ _ _⟩

/-- The row of 0x7102.04 (R371). -/
def cancelRow : Row := ⟨0x7102, 1, 0x04, 1, .u 1, 0x0303, 0, .ivs [(1, 1)] 1, .absent, 18, false⟩

theorem dictRow_cancel : dictRow 0x7102 4 = some cancelRow := by decide

theorem fwOwned_cancel : fwOwned 0x7102 4 = false := by
  unfold fwOwned
  rw [dictRow_cancel]
  rfl

/-- The Range column leaves 1 alone. -/
theorem cancelRow_value {b : List Byte} (h : cancelRow.inRange b = true) : cancelRow.rg.clip (cancelRow.ty.num b) = 1 := by
  have hv : cancelRow.rg.holds (cancelRow.ty.num b) = true := h
  simp only [cancelRow, Rg.holds, List.any_cons, List.any_nil, Bool.or_false, Bool.and_eq_true] at hv
  obtain ⟨⟨h1, h2⟩, -⟩ := hv
  exact Int.le_antisymm (of_decide_eq_true h2) (of_decide_eq_true h1)

theorem objWrite_cancel (w : Who) (b : List Byte) {s : State} (h : s.dove.arrived ≠ 0) :
    objWrite w 0x7102 4 1 b s = .ok (cancelBarrier s) := by
  show doveWrite 0x7102 4 1 b s = _
  show needRange true (needState (s.dove.arrived != 0) (.ok (cancelBarrier s))) = _
  rw [bne_iff_ne.mpr h]
  rfl

theorem clEffect_cancel {ch : ChanId} {a : ClPend} {s : State} (hi : a.idx = 0x7102) (hs : a.sub = 4)
    (hv : cancelRow.inRange a.val = true) (h : s.dove.arrived ≠ 0) :
    clEffect ch a cancelRow s = clOk ch a [] (cancelBarrier s) := by
  unfold clEffect
  dsimp only
  rw [cancelRow_value hv, hi, hs, if_neg (by decide), if_neg (by decide), show s.budgetRec 0x7102 4 (Int.toNat 1) = none from rfl,
    objWrite_cancel _ _ h]

theorem packageBarrierCancel_cancels {s : State} {ch : ChanId} {val : List Byte} (h : s.takes ch 0x7102 4 val)
    (ha : s.dove.arrived ≠ 0) : Answers (.packageBarrierCancel ch val) s (fun t =>
      t.doneOn ch ∧ t.barrierCleared (nextEpoch s.dove.rootEpoch)) := by
  obtain ⟨v, ⟨hview, hfq, hcq, hchan, -⟩, -, hin, hw⟩ := clWhole_effect h dictRow_cancel fwOwned_cancel
  have hdove : v.dove = s.dove := view_dove hview (by decide)
  have hcl : (cancelBarrier v).cl = v.cl := view_cl (cancelBarrier_view (k := 4) (by decide) v) (by decide)
  have hchan' : (cancelBarrier v).hasChan ch := by
    cases ch with
    | slot p => exact Nat.lt_of_lt_of_eq hchan (congrArg (fun c => c.slots.length) hcl.symm)
    | mgt | fw => trivial
    | chain | jig _ => exact hchan.elim
  obtain ⟨hdone, hview', hobj, hq, hq'⟩ := clOk_write (s.wholePend ch 0x7102 4 val) hchan'
  have he : clEffect ch (s.wholePend ch 0x7102 4 val) cancelRow v = clOk ch (s.wholePend ch 0x7102 4 val) [] (cancelBarrier v) :=
    clEffect_cancel rfl rfl hin (by rw [hdove]; exact ha)
  have hd' := view_dove hview' (by decide)
  have hn : (clOk ch (s.wholePend ch 0x7102 4 val) [] (cancelBarrier v)).num 0x7102 5 = (cancelBarrier v).num 0x7102 5 :=
    (State.num_of_obj hobj _ _).trans (State.num_put_ne _ _ (by decide))
  refine ⟨_, congrArg Host.Outcome.next hw, ?_⟩
  rw [he, clTurn_quiet (by rw [hq, hcl, hfq]) (by rw [hq', hcl, hcq])]
  exact ⟨hdone, (hdove ▸ cancelBarrier_cleared v).of_eq (by rw [hd']) (by rw [hd']) hn⟩

/-- Settles O43: each command by the equation of its function; the cancellation through its channel. -/
theorem dovetailBarriers : Obligations.DovetailBarriers := by
  unfold Obligations.DovetailBarriers
  refine ⟨fun s hs hc hr => ?early, fun s hs hc hr hp => ?bypass, fun s hs hc hr hp h8 => ?release,
    fun s ht hr hw => ?rise, fun s ht hr hb => ?riseBypass, fun s ht hr hw hlt => ?wave, fun s ht hb hr hw => ?fall,
    fun s ha => ?window, fun s hl hp hlate h9 hc => ?late, fun ch val s h ha => ?cancel⟩
  case early =>
    refine ⟨_, if_neg (by rw [hs, hc]; decide), ?_⟩
    rw [barInRise_releasing hr]
    exact ⟨rfl, rfl⟩
  case bypass =>
    refine ⟨_, if_neg (by rw [hs, hc]; decide), ?_⟩
    rw [barInRise_bypass hr hp]
    exact ⟨rfl, rfl⟩
  case release =>
    refine ⟨_, if_neg (by rw [hs, hc]; decide), ?_⟩
    beta_reduce
    rw [barInRise_paced hr hp h8, startRelease_dove]
    exact ⟨rfl, rfl, rfl, rfl, rfl, rfl⟩
  case rise =>
    exact ⟨_, if_neg (by rw [ht]; decide), barOutRise_release hr hw⟩
  case riseBypass =>
    exact ⟨_, if_neg (by rw [ht]; decide), barOutRise_bypass hr hb⟩
  case wave =>
    exact ⟨_, if_pos (by rw [ht, hr, bne_iff_ne.mpr hw, decide_eq_true hlt]; rfl), nextWave_dove s⟩
  case fall =>
    refine ⟨_, if_pos (by rw [ht, hb, hr, decide_eq_true hw]; rfl), ?_⟩
    beta_reduce
    rw [barOutFall_release hr]
    exact ⟨rfl, rfl, rfl, rfl⟩
  case window =>
    refine ⟨_, if_pos ha, ?_⟩
    show { (advanceTo s.dove.planUntil s).dove with armed := false } = _
    rw [advanceTo_dove]
  case late =>
    refine ⟨_, if_pos (by rw [hp, hlate, bne_iff_ne.mpr h9]; rfl), ?_⟩
    have hprot := advanceTo_prot (s.dove.pkgWaitAt + us (s.pn 0x7100 9)) s
    have hdove := advanceTo_dove (s.dove.pkgWaitAt + us (s.pn 0x7100 9)) s
    refine ⟨?_, ?_, ?_, raiseFault_recovers 0 (Nat.le_refl 6) ?_ ?_⟩
    · rw [raiseFault_dove]
      rfl
    · rw [raiseFault_dove]
      exact (congrArg Dove.pkgWait hdove).trans hp
    · rw [raiseFault_dove]
      exact putBit_bit _ _ _
    · rw [← hprot] at hl
      exact hl
    · exact (congrArg Ctx.cur (State.ctx_of_prot hprot 6)).trans hc
  case cancel =>
    obtain ⟨t, ht, hdone, harr, hep, hlost⟩ := packageBarrierCancel_cancels h ha
    exact ⟨t, ht, hdone, harr, hep, hlost⟩

end Sys2Proof.Machine

/-! The recorder's input queue and rings, and the operations of the flash port that its records wait for (R478 to R503). -/

namespace Sys2Proof.Machine

open Sys2Proof

/-! Events (R60, R485). -/

theorem State.sameBut_with_aon (s : State) (a : Aon) : s.sameBut { s with aon := a } [.aon] := by
  intro p hp
  cases p with
  | aon => exact absurd (List.mem_singleton_self _) hp
  | _ => rfl

theorem State.sameBut_with_rcd (s : State) (r : Rec) : s.sameBut { s with rcd := r } [.rcd] := by
  intro p hp
  cases p with
  | rcd => exact absurd (List.mem_singleton_self _) hp
  | _ => rfl

theorem captureEvent_queued (e : Event) {s : State} (h11 : s.isReady 11 = true) (hl : s.rcd.inQ.length < 64) :
    captureEvent e s = { s with rcd := { s.rcd with inQ := s.rcd.inQ ++ [s.stampEvent e] } } :=
  (if_pos h11).trans (if_pos hl)

theorem captureEvent_dropped (e : Event) {s : State} (h11 : s.isReady 11 = true) (hl : 64 ≤ s.rcd.inQ.length) :
    captureEvent e s = { (s.bump32 0x9000 3).bump32 0x9003 1 with
      rcd := { s.rcd with inDrop := s.rcd.inDrop + 1, flags := putBit s.rcd.flags 0 true } } :=
  (if_pos h11).trans (if_neg (Nat.not_lt.mpr hl))

theorem captureEvent_early (e : Event) {s : State} (h11 : s.isReady 11 = false) (hl : s.aon.earlyBuf.length < 32) :
    captureEvent e s = { s with aon := { s.aon with earlyBuf := s.aon.earlyBuf ++ [s.stampEvent e] } } :=
  (if_neg (by rw [h11]; decide)).trans (if_pos hl)

theorem captureEvent_lost (e : Event) {s : State} (h11 : s.isReady 11 = false) (hl : ¬ s.aon.earlyBuf.length < 32) :
    captureEvent e s = { s with aon := { s.aon with earlyLost := s.aon.earlyLost + 1 } } :=
  (if_neg (by rw [h11]; decide)).trans (if_neg hl)

/-- An event changes of the recorder its input queue and the record of its drops (R485). -/
theorem captureEvent_rcd (e : Event) (s : State) :
    ∃ q n f, (captureEvent e s).rcd = { s.rcd with inQ := q, inDrop := n, flags := f } := by
  unfold captureEvent
  dsimp only
  split
  · split
    · exact ⟨_, _, _, rfl⟩
    · exact ⟨_, _, _, rfl⟩
  · split
    · exact ⟨_, _, _, rfl⟩
    · exact ⟨_, _, _, rfl⟩

theorem raise_rcd (code sev arg0 arg1 : Nat) (s : State) :
    ∃ q n f, (raise code sev arg0 arg1 s).rcd = { s.rcd with inQ := q, inDrop := n, flags := f } := captureEvent_rcd _ s

/-! Rings (R478, R486, R492). -/

theorem nvQueue_rcd (r : Record) (s : State) :
    ∃ q n f, (nvQueue r s).rcd = { s.rcd with fq := q, nvDrop := n, flags := f } := by
  unfold nvQueue
  split
  · split
    · exact ⟨_, _, _, rfl⟩
    · exact ⟨_, _, _, rfl⟩
  · exact ⟨_, _, _, rfl⟩

theorem recCount_rcd (full : Bool) (s : State) : (recCount full s).rcd = s.rcd :=
  view_rcd (recCount_view (k := 262144) (by decide) full s) (by decide)

theorem recordAlert_rcd (r : Record) (s : State) : (recordAlert r s).rcd = s.rcd :=
  view_rcd (recordAlert_view (k := 262144) (by decide) r s) (by decide)

/-- A record of no partition goes to the device ring, and beside it to the flash queue (R486, R492). -/
theorem ringWrite_device {e : Event} (s : State) (he : e.part = 0 ∨ 64 ≤ e.part) : ∃ q n f, (ringWrite e s).rcd =
    { s.rcd with dev := (recordOf e s.rcd.devSeq :: s.rcd.dev).take 6176, devSeq := seqNext (recordOf e s.rcd.devSeq).seq,
                 fq := q, nvDrop := n, flags := f } := by
  have hp : ¬ (1 ≤ e.part && e.part ≤ 63) = true := by simp; omega
  unfold ringWrite
  dsimp only
  rw [if_neg hp, recordAlert_rcd]
  obtain ⟨q, n, f, h⟩ := nvQueue_rcd (recordOf e s.rcd.devSeq) (recCount (decide (6176 ≤ s.rcd.dev.length)) { s with rcd :=
    { s.rcd with dev := (recordOf e s.rcd.devSeq :: s.rcd.dev).take 6176, devSeq := seqNext (recordOf e s.rcd.devSeq).seq } })
  rw [recCount_rcd] at h
  exact ⟨q, n, f, h⟩

/-- A partition's record goes to the partition's ring, and beside it to the flash queue (R486, R492). -/
theorem ringWrite_partition {e : Event} (s : State) (h1 : 1 ≤ e.part) (h63 : e.part ≤ 63) : ∃ q n f, (ringWrite e s).rcd =
    { s.rcd with
      rings := s.rcd.rings.set e.part ((recordOf e (s.rcd.ringSeq.getD e.part 1) :: s.rcd.rings.getD e.part []).take 32),
      ringSeq := s.rcd.ringSeq.set e.part (seqNext (recordOf e (s.rcd.ringSeq.getD e.part 1)).seq),
      fq := q, nvDrop := n, flags := f } := by
  have hp : (1 ≤ e.part && e.part ≤ 63) = true := by simp [h1, h63]
  unfold ringWrite
  dsimp only
  rw [if_pos hp]
  obtain ⟨q, n, f, h⟩ := nvQueue_rcd (recordOf e (s.rcd.ringSeq.getD e.part 1))
    (recCount (decide (32 ≤ (s.rcd.rings.getD e.part []).length)) { s with rcd := { s.rcd with
      rings := s.rcd.rings.set e.part ((recordOf e (s.rcd.ringSeq.getD e.part 1) :: s.rcd.rings.getD e.part []).take 32),
      ringSeq := s.rcd.ringSeq.set e.part (seqNext (recordOf e (s.rcd.ringSeq.getD e.part 1)).seq) } })
  rw [recCount_rcd] at h
  exact ⟨q, n, f, h⟩

/-- A record written reports no drop: what capture counted stands. -/
theorem ringWrite_inDrop (e : Event) (s : State) : (ringWrite e s).rcd.inDrop = s.rcd.inDrop := by
  by_cases he : e.part = 0 ∨ 64 ≤ e.part
  · obtain ⟨q, n, f, h⟩ := ringWrite_device s he
    rw [h]
  · obtain ⟨q, n, f, h⟩ := ringWrite_partition s (e := e) (by omega) (by omega)
    rw [h]

theorem ringWrite_flash (e : Event) (s : State) : (ringWrite e s).flash = s.flash :=
  view_flash (ringWrite_view (k := 524288) (by decide) e s) (by decide)

theorem reportInput_none {s : State} (h : s.rcd.inDrop = 0) : reportInput s = s := by
  unfold reportInput
  rw [if_neg (by rw [h]; simp)]

/-! The next operation of the event areas (R492 to R496). -/

theorem State.commWaits_congr {s t : State} (h : t.flash = s.flash) : t.commWaits = s.commWaits := by
  rw [State.commWaits, State.commWaits, h]

/-- The erase before the first slot of a sector, or the program of the oldest waiting record (R492, R494). -/
def startProgram (s : State) : State :=
  if s.rcd.fq.isEmpty then s
  else if s.flash.circNext % 128 = 0 && !s.flash.circFresh then
    flashBegin { cls := 5, erase := true, addr := 0xD4000 + 4096 * (s.flash.circNext / 128), kind := 1 }
      { s with flash := { s.flash with circ := dropSector (s.flash.circNext / 128) s.flash.circ } }
  else flashBegin { cls := 5, addr := 0xD4000 + 32 * s.flash.circNext, kind := 0 } s

/-- The event areas have their turn at the port: it is free, and no last-fault write goes first (R503, R504). -/
abbrev State.areasTurn (s : State) : Prop := s.portFree = true ∧ s.lfWaits = false

theorem flashNext_turn {s : State} (h : s.areasTurn) :
    flashNext s = startProgram (if s.commWaits then doCommission s else s) := if_neg (by rw [h.1, h.2]; decide)

theorem flashNext_held {s : State} (h : ¬ s.areasTurn) : flashNext s = s :=
  if_pos (by_contra fun hc => h (by simpa using hc))

/-- Nothing starts, or the sector of the next slot is erased, or a record is programmed. -/
theorem startProgram_cases (s : State) : startProgram s = s ∨
    (s.flash.circNext % 128 = 0 ∧ s.flash.circFresh = false ∧ ∃ f, startProgram s =
      { s with flash := { s.flash with circ := dropSector (s.flash.circNext / 128) s.flash.circ, busy := some f } }) ∨
    ∃ f : FOp, f.erase = false ∧ startProgram s = { s with flash := { s.flash with busy := some f } } := by
  unfold startProgram
  split
  · exact .inl rfl
  · split
    · rename_i h
      simp only [Bool.and_eq_true, decide_eq_true_eq, Bool.not_eq_true'] at h
      exact .inr (.inl ⟨h.1, h.2, _, rfl⟩)
    · exact .inr (.inr ⟨_, by rfl, rfl⟩)

theorem startProgram_eq (s : State) : ∃ c b, startProgram s = { s with flash := { s.flash with circ := c, busy := b } } := by
  obtain h | ⟨-, -, f, h⟩ | ⟨f, -, h⟩ := startProgram_cases s
  · exact ⟨_, _, h⟩
  · exact ⟨_, _, h⟩
  · exact ⟨_, _, h⟩

/-- Commissioning opens an empty fixed area and adds a header entry that says so (R496). -/
theorem doCommission_flash (s : State) : ∃ e w, e.fixed = 1 ∧ ∃ l, (doCommission s).flash =
    { s.flash with fixed_ := [], fixedOpen := true, waiting := w, hdr := e :: l } := by
  unfold doCommission
  dsimp only
  rw [raise_flash]
  exact ⟨_, _, by rfl, _, rfl⟩

theorem doCommission_rcd (s : State) : ∃ q n f, (doCommission s).rcd = { s.rcd with inQ := q, inDrop := n, flags := f } :=
  raise_rcd _ _ _ _ _

theorem doCommission_num (s : State) {i sub : Nat} (h3 : okey 0x9000 3 ≠ okey i sub) (h1 : okey 0x9003 1 ≠ okey i sub) :
    (doCommission s).num i sub = s.num i sub := captureEvent_num _ _ h3 h1

/-- Nothing starts, or a record's operation does, after commissioning where that waited. -/
theorem flashNext_cases (s : State) : flashNext s = s ∨ flashNext s = startProgram s ∨
    s.commWaits = true ∧ flashNext s = startProgram (doCommission s) := by
  by_cases ht : s.areasTurn
  · rw [flashNext_turn ht]
    split
    · rename_i hc
      exact .inr (.inr ⟨hc, rfl⟩)
    · exact .inr (.inl rfl)
  · exact .inl (flashNext_held ht)

/-- What the start of the next operation may change of the flash. -/
theorem flashNext_flash (s : State) : ∃ h x o w c b, (flashNext s).flash =
    { s.flash with hdr := h, fixed_ := x, fixedOpen := o, waiting := w, circ := c, busy := b } := by
  obtain h | h | ⟨-, h⟩ := flashNext_cases s
  · exact ⟨_, _, _, _, _, _, congrArg State.flash h⟩
  · obtain ⟨c, b, hs⟩ := startProgram_eq s
    rw [h, hs]
    exact ⟨_, _, _, _, _, _, rfl⟩
  · obtain ⟨c, b, hs⟩ := startProgram_eq (doCommission s)
    obtain ⟨e, w, -, l, hd⟩ := doCommission_flash s
    rw [h, hs, hd]
    exact ⟨_, _, _, _, _, _, rfl⟩

theorem startProgram_rcd (s : State) : (startProgram s).rcd = s.rcd := by
  obtain ⟨c, b, h⟩ := startProgram_eq s
  rw [h]

/-- What the start of the next operation may change of the recorder: COMMISSIONED is an event. -/
theorem flashNext_rcd (s : State) : ∃ q n f, (flashNext s).rcd = { s.rcd with inQ := q, inDrop := n, flags := f } := by
  obtain h | h | ⟨-, h⟩ := flashNext_cases s
  · exact ⟨_, _, _, congrArg State.rcd h⟩
  · exact ⟨_, _, _, (congrArg State.rcd h).trans (startProgram_rcd s)⟩
  · rw [h, startProgram_rcd]
    exact doCommission_rcd s

theorem flashNext_rcd_of_no_commission {s : State} (hc : s.commWaits = false) : (flashNext s).rcd = s.rcd := by
  obtain h | h | ⟨hc', -⟩ := flashNext_cases s
  · rw [h]
  · rw [h, startProgram_rcd]
  · exact absurd (hc.symm.trans hc') (by decide)

theorem startProgram_num (s : State) (i sub : Nat) : (startProgram s).num i sub = s.num i sub := by
  obtain ⟨c, b, h⟩ := startProgram_eq s
  rw [h]
  rfl

theorem flashNext_num (s : State) {i sub : Nat} (h3 : okey 0x9000 3 ≠ okey i sub) (h1 : okey 0x9003 1 ≠ okey i sub) :
    (flashNext s).num i sub = s.num i sub := by
  obtain h | h | ⟨-, h⟩ := flashNext_cases s
  · rw [h]
  · rw [h, startProgram_num]
  · rw [h, startProgram_num, doCommission_num s h3 h1]

/-- Slots outside the sector that an erase may reach stay (R494). -/
theorem startProgram_circ {s : State} {x : Nat × FSlot} (hx : x ∈ s.flash.circ)
    (hn : s.flash.circNext % 128 = 0 → x.1 / 128 ≠ s.flash.circNext / 128) : x ∈ (startProgram s).flash.circ := by
  obtain h | ⟨h0, -, f, h⟩ | ⟨f, -, h⟩ := startProgram_cases s
  · rwa [h]
  · rw [h]
    exact List.mem_filter.mpr ⟨hx, bne_iff_ne.mpr (hn h0)⟩
  · rwa [h]

theorem flashNext_circ {s : State} {x : Nat × FSlot} (hx : x ∈ s.flash.circ)
    (hn : s.flash.circNext % 128 = 0 → x.1 / 128 ≠ s.flash.circNext / 128) : x ∈ (flashNext s).flash.circ := by
  obtain h | h | ⟨-, h⟩ := flashNext_cases s
  · rwa [h]
  · rw [h]
    exact startProgram_circ hx hn
  · obtain ⟨e, w, -, l, hd⟩ := doCommission_flash s
    rw [h]
    exact startProgram_circ (by rwa [hd]) (by rwa [hd])

/-- After an erase no second one starts (R494). -/
theorem startProgram_fresh {s : State} (hf : s.flash.circFresh = true) (hb : s.flash.busy = none) {g : FOp}
    (hg : (startProgram s).flash.busy = some g) : g.erase = false := by
  obtain h | ⟨-, h0, -⟩ | ⟨f, he, h⟩ := startProgram_cases s
  · rw [h, hb] at hg
    exact absurd hg (Option.some_ne_none g).symm
  · exact absurd (hf.symm.trans h0) (by decide)
  · rw [h] at hg
    exact Option.some.inj hg ▸ he

theorem flashNext_fresh {s : State} (hf : s.flash.circFresh = true) (hb : s.flash.busy = none) {g : FOp}
    (hg : (flashNext s).flash.busy = some g) : g.erase = false := by
  obtain h | h | ⟨-, h⟩ := flashNext_cases s
  · rw [h, hb] at hg
    exact absurd hg (Option.some_ne_none g).symm
  · exact startProgram_fresh hf hb (h ▸ hg)
  · obtain ⟨e, w, -, l, hd⟩ := doCommission_flash s
    exact startProgram_fresh (by rwa [hd]) (by rwa [hd]) (h ▸ hg)

/-! RECORD_WRITE. -/

/-- The state with the events l left in the input queue. -/
def State.withInput (s : State) (l : List Event) : State := { s with rcd := { s.rcd with inQ := l } }

/-- With no drop to report and no commissioning in wait, the recorder is as its ring's write leaves it. -/
theorem recordWrite_rcd {s : State} {e : Event} {l : List Event} (hq : s.rcd.inQ = e :: l) (hd : s.rcd.inDrop = 0)
    (hc : s.commWaits = false) : (recordWrite s).rcd = (ringWrite e (s.withInput l)).rcd := by
  have hr : recordWrite s = flashNext (reportInput (ringWrite e (s.withInput l))) := by
    unfold recordWrite
    rw [hq]
    rfl
  have hdu : (ringWrite e (s.withInput l)).rcd.inDrop = 0 := (ringWrite_inDrop e _).trans hd
  have hcu : (ringWrite e (s.withInput l)).commWaits = false := (State.commWaits_congr (ringWrite_flash e _)).trans hc
  rw [hr, reportInput_none hdu, flashNext_rcd_of_no_commission hcu]

/-! The end of a record's program (R492, R493). -/

/-- The record stands in the next slot of the circulating area (R492, R493). -/
def recordPlaced (r : Record) (s : State) : State :=
  (circPut { held := some (r.flashCopy s.flash.seqNext) } (flashOk s)).add64 0x9000 4 1

theorem recordPlaced_flash (r : Record) (s : State) : (recordPlaced r s).flash = { s.flash with
    failRun := 0, circ := (s.flash.circNext, { held := some (r.flashCopy s.flash.seqNext) }) :: s.flash.circ,
    circNext := (s.flash.circNext + 1) % 2176, circFresh := false } := rfl

/-- A record that the fixed area takes too stays at the head of the flash queue for its second program. -/
theorem recordStored_toFixed {f : FOp} {r : Record} {s : State} (hk : f.kind = 0) (hf : s.fixedTakes r = true) :
    (recordStored f r s).rcd.fq = s.rcd.fq ∧
      ∃ b, (recordStored f r s).flash = { (recordPlaced r s).flash with busy := b } := by
  have hf' : (recordPlaced r s).fixedTakes r = true := hf
  have h : recordStored f r s = flashBegin { cls := 5, addr := 0xD0000 + 32 * s.flash.fixed_.length, kind := 2 }
      { recordPlaced r s with rcd := { s.rcd with nvTries := 0 } } := (if_pos hk).trans (if_pos hf')
  rw [h]
  exact ⟨rfl, _, rfl⟩

/-- Otherwise it is done with. -/
theorem recordStored_done {f : FOp} {r : Record} {s : State} (hk : f.kind = 0) (hf : s.fixedTakes r = false) :
    recordStored f r s = nvDone { recordPlaced r s with flash :=
      { (recordPlaced r s).flash with seqNext := seqNext s.flash.seqNext } } :=
  (if_pos hk).trans (if_neg (show ¬ (recordPlaced r s).fixedTakes r = true from Bool.not_eq_true _ ▸ hf))

theorem reportNv_flash (s : State) : (reportNv s).flash = s.flash :=
  view_flash (reportNv_view (k := 524288) (by decide) s) (by decide)

theorem reportNv_fq (s : State) : (reportNv s).rcd.fq = s.rcd.fq := by
  unfold reportNv
  split
  · dsimp only
    obtain ⟨q, n, f, h⟩ := raise_rcd 0x0903 0 s.rcd.nvDrop 0 { s with rcd := { s.rcd with nvDrop := 0 } }
    rw [h]
  · rfl

/-- The state in which the record at the head of the flash queue has left it and the port. -/
def State.recordTaken (s : State) : State :=
  { s with flash := { s.flash with busy := none }, rcd := { s.rcd with fq := s.rcd.fq.drop 1, nvTries := 0 } }

theorem nvDone_eq (s : State) : nvDone s = flashNext (reportNv s.recordTaken) := rfl

theorem nvDone_fq (s : State) : (nvDone s).rcd.fq = s.rcd.fq.drop 1 := by
  obtain ⟨q, n, f, h⟩ := flashNext_rcd (reportNv s.recordTaken)
  rw [nvDone_eq, h]
  exact reportNv_fq s.recordTaken

theorem nvDone_flash (s : State) : ∃ h x o w c b, (nvDone s).flash =
    { s.flash with hdr := h, fixed_ := x, fixedOpen := o, waiting := w, circ := c, busy := b } := by
  obtain ⟨h, x, o, w, c, b, hf⟩ := flashNext_flash (reportNv s.recordTaken)
  rw [nvDone_eq, hf, reportNv_flash]
  exact ⟨h, x, o, w, c, b, rfl⟩

theorem nvDone_circ {s : State} {x : Nat × FSlot} (hx : x ∈ s.flash.circ)
    (hn : s.flash.circNext % 128 = 0 → x.1 / 128 ≠ s.flash.circNext / 128) : x ∈ (nvDone s).flash.circ := by
  rw [nvDone_eq]
  exact flashNext_circ (by rwa [reportNv_flash]) (by rwa [reportNv_flash])

/-- The slot after n begins no sector, or n lies in another sector: the erase that may follow leaves n's record (R494). -/
theorem next_sector_apart (n : Nat) (h : (n + 1) % 2176 % 128 = 0) : n / 128 ≠ (n + 1) % 2176 / 128 := by omega

/-- A record programmed stands in its slot (R493). -/
theorem recordProgram_stores {f : FOp} {r : Record} {q : List Record} {s : State} (hb : s.flash.busy = some f)
    (he : f.erase = false) (hk : f.kind = 0) (hq : s.rcd.fq = r :: q) :
    (s.flash.circNext, ({ held := some (r.flashCopy s.flash.seqNext) } : FSlot)) ∈ (recordProgram true s).flash.circ ∧
    (recordProgram true s).flash.circNext = (s.flash.circNext + 1) % 2176 ∧
    (recordProgram true s).rcd.fq = (if s.fixedTakes r = true then r :: q else q) ∧
    (recordProgram true s).flash.failRun = 0 := by
  have hr : recordProgram true s = recordStored f r s := by
    unfold recordProgram
    rw [hb, hq]
    exact (if_neg (by rw [he]; decide)).trans (if_pos rfl)
  rw [hr]
  cases hf : s.fixedTakes r with
  | true =>
    obtain ⟨hfq, b, hfl⟩ := recordStored_toFixed hk hf
    rw [hfq, hfl]
    exact ⟨List.mem_cons_self, rfl, hq, rfl⟩
  | false =>
    obtain ⟨h, x, o, w, c, b, hfl⟩ := nvDone_flash { recordPlaced r s with flash :=
      { (recordPlaced r s).flash with seqNext := seqNext s.flash.seqNext } }
    rw [recordStored_done hk hf, nvDone_fq]
    exact ⟨nvDone_circ List.mem_cons_self (next_sector_apart s.flash.circNext), congrArg Flash.circNext hfl,
      congrArg (List.drop 1) hq, congrArg Flash.failRun hfl⟩

/-! Erases, time limits, the scan and the boot record (R494, R495, R501, R503). -/

/-- The state in which a sector's erase has ended (R494). -/
def State.erased (s : State) : State :=
  (flashOk { s with flash := { s.flash with busy := none, circFresh := true } }).bump32 0x9002 8

theorem eraseDone_erased {f : FOp} {s : State} (hb : s.flash.busy = some f) (he : f.erase = true) :
    eraseDone s = flashNext s.erased := by
  unfold eraseDone
  rw [hb]
  exact if_pos he

theorem flashLimit_first {f : FOp} {s : State} (hb : s.flash.busy = some f) (h0 : f.tries = 0) : flashLimit s =
    { advanceTo f.limit s with flash := { (advanceTo f.limit s).flash with
        busy := some { f with tries := 1, since := (advanceTo f.limit s).aon.clock } } } := by
  unfold flashLimit
  rw [hb]
  exact if_pos h0

theorem flashLimit_slow {s : State} (hb : s.flash.busy = none) (hs : s.slowWrite = true) (h0 : s.flash.slowTries = 0) :
    flashLimit s = { s with flash := { s.flash with slowTries := 1 } } := by
  unfold flashLimit
  rw [hb]
  exact (if_neg (by rw [hs]; decide)).trans (if_pos h0)

theorem flashRun_flash (s : State) : (flashRun s).flash = { s.flash with failRun := min 8 (s.flash.failRun + 1) } := by
  unfold flashRun
  dsimp only
  split
  · rw [clearReady_flash]
  · rfl

theorem bootWritten_ok {s : State} (h : s.flash.bootWrite = 1) : (bootWritten true s).flash = { s.flash with
    slowTries := 0, failRun := 0, bootA := s.flash.bootNew, bootB := s.flash.bootNew, bootWrite := 2, bootNew := [] } := by
  unfold bootWritten
  rw [if_neg (by rw [h]; decide)]
  rfl

theorem bootWritten_failed {s : State} (h : s.flash.bootWrite = 1) : (bootWritten false s).flash = { s.flash with
    slowTries := 0, failRun := min 8 (s.flash.failRun + 1), bootB := [], bootWrite := 3, bootNew := [] } := by
  unfold bootWritten
  rw [if_neg (by rw [h]; decide)]
  show { (flashRun _).flash with bootB := [], bootWrite := 3, bootNew := [] } = _
  rw [flashRun_flash]

end Sys2Proof.Machine

/-! The recorder's commands, its objects' writes among them (O56). -/

namespace Sys2Proof.Machine

open Sys2Proof

/-! Writes that the engine serves at once. -/

/-- A whole write whose effect ends in success leaves the channel done and, beside the channels, the port and the objects'
store, the state that the object's write gives. -/
theorem clWhole_ok {s : State} {ch : ChanId} {i sub : Nat} {val : List Byte} {r : Row} {g : State → State}
    (h : s.takes ch i sub val) (hr : dictRow i sub = some r) (hfw : fwOwned i sub = false)
    (he : ∀ v, v.servesFrom s ch →
      clEffect ch (s.wholePend ch i sub val) r v = clOk ch (s.wholePend ch i sub val) [] (g v) ∧ (g v).cl = v.cl) :
    ∃ v, v.servesFrom s ch ∧ (clWhole ch i sub val s).doneOn ch ∧
      (clWhole ch i sub val s).view 14680057 = (g v).view 14680057 := by
  obtain ⟨v, hv, -, -, hw⟩ := clWhole_effect h hr hfw
  obtain ⟨hok, hcl⟩ := he v hv
  refine ⟨v, hv, ?_⟩
  obtain ⟨-, hfq, hcq, hchan, -⟩ := hv
  have hchan' : (g v).hasChan ch := by
    cases ch with
    | slot p => exact Nat.lt_of_lt_of_eq hchan (congrArg (fun c => c.slots.length) hcl.symm)
    | mgt | fw => trivial
    | chain | jig _ => exact hchan.elim
  obtain ⟨hdone, hview, -, hq, hq'⟩ := clOk_write (s.wholePend ch i sub val) hchan'
  rw [hw, hok, clTurn_quiet (by rw [hq, hcl, hfq]) (by rw [hq', hcl, hcq])]
  exact ⟨hdone, hview⟩

/-- The write of an object of the calendar or of the non-volatile records has its chapter's effect (R483, R496, R501). -/
theorem clEffect_recWrite {ch : ChanId} {a : ClPend} {r : Row} {s t : State} (hi : a.idx = 0x9001 ∨ a.idx = 0x9002)
    (hw : recWrite a.idx a.sub (r.rg.clip (r.ty.num a.val)) a.val (a.who ch).cls s = .ok t) :
    clEffect ch a r s = clOk ch a [] t := by
  unfold clEffect
  dsimp only
  obtain hi | hi := hi
  · rw [hi] at hw ⊢
    rw [if_neg (by simp), if_neg (by simp), show s.budgetRec 0x9001 a.sub _ = none from rfl,
      show objWrite (a.who ch) 0x9001 a.sub _ a.val s = .ok t from hw]
  · rw [hi] at hw ⊢
    rw [if_neg (by simp), if_neg (by simp), show s.budgetRec 0x9002 a.sub _ = none from rfl,
      show objWrite (a.who ch) 0x9002 a.sub _ a.val s = .ok t from hw]

/-- The row of 0x9001.01 (R506). -/
def calendarRow : Row := ⟨0x9001, 1, 0x01, 1, .dom 12 12 1, 0x1212, 0, .any, .absent, 0, false⟩

/-- The row of 0x9002.01 (R506). -/
def bootRow : Row := ⟨0x9002, 1, 0x01, 1, .dom 128 128 1, 0x1202, 0, .any, .boot, 3, false⟩

/-- The row of 0x9002.06 (R506). -/
def commissionRow : Row := ⟨0x9002, 1, 0x06, 1, .u 4, 0x0300, 0, .ivs [(1835888483, 1835888483)] 1, .absent, 3, false⟩

theorem dictRow_calendar : dictRow 0x9001 1 = some calendarRow := by decide

theorem dictRow_boot : dictRow 0x9002 1 = some bootRow := by decide

theorem dictRow_commission : dictRow 0x9002 6 = some commissionRow := by decide

theorem fwOwned_row {i sub : Nat} {r : Row} (h : dictRow i sub = some r) (ho : (r.own = 13 || r.own = 14) = false) :
    fwOwned i sub = false := by
  unfold fwOwned
  rw [h]
  exact ho

/-! Calendar time (R483). -/

theorem setTime_rcd (sec frac cls : Nat) (s : State) : ∃ q n f, (setTime sec frac cls s).rcd =
    { s.rcd with timeSet := true, calSec := sec, calFrac := frac * 65536, inQ := q, inDrop := n, flags := f } :=
  raise_rcd _ _ _ _ _

theorem setTime_cl (sec frac cls : Nat) (s : State) : (setTime sec frac cls s).cl = s.cl :=
  view_cl (setTime_view (k := 4) (by decide) sec frac cls s) (by decide)

theorem calendarTimeSet_sets {s : State} {ch : ChanId} {val : List Byte} (h : s.takes ch 0x9001 1 val) (h0 : leAt val 0 8 ≠ 0) :
    Answers (.calendarTimeSet ch val) s (fun t =>
      t.doneOn ch ∧ t.rcd.timeSet = true ∧ t.rcd.calSec = leAt val 0 8 ∧ t.rcd.calFrac = leAt val 8 4 * 65536) := by
  let cls := ((s.wholePend ch 0x9001 1 val).who ch).cls
  obtain ⟨v, -, hdone, hview⟩ := clWhole_ok (g := setTime (leAt val 0 8) (leAt val 8 4) cls) h dictRow_calendar
    (fwOwned_row dictRow_calendar rfl) fun v _ => ⟨clEffect_recWrite (.inl rfl) (by
      show needRange (leAt val 0 8 != 0) _ = _
      rw [bne_iff_ne.mpr h0]
      rfl), setTime_cl _ _ _ v⟩
  obtain ⟨q, n, f, hrcd⟩ := setTime_rcd (leAt val 0 8) (leAt val 8 4) cls v
  refine ⟨_, rfl, hdone, ?_⟩
  rw [view_rcd hview (by decide), hrcd]
  exact ⟨rfl, rfl, rfl⟩

/-! The boot record (R501). -/

theorem bootWrite_begins {b : List Byte} {s : State} (hv : bootValid b = true) (hw : s.flash.bootWrite ≠ 1)
    (hn : s.noFlash = false) : bootWrite b s = .ok { s with flash := { s.flash with bootWrite := 1, bootNew := b } } := by
  unfold bootWrite
  rw [hv, hn]
  exact if_neg hw

theorem State.noFlash_congr {s t : State} (ha : t.aon = s.aon) (hf : t.flash = s.flash) : t.noFlash = s.noFlash := by
  rw [State.noFlash, State.noFlash, State.isReady, State.isReady, ha, hf]

theorem bootRecordWrite_begins {s : State} {ch : ChanId} {val : List Byte} (h : s.takes ch 0x9002 1 val)
    (hb : bootValid val = true) (hw : s.flash.bootWrite ≠ 1) (hn : s.noFlash = false) :
    Answers (.bootRecordWrite ch val) s (fun t =>
      t.doneOn ch ∧ t.flash = { s.flash with bootWrite := 1, bootNew := val }) := by
  obtain ⟨v, ⟨hv, -⟩, hdone, hview⟩ := clWhole_ok
    (g := fun v => { v with flash := { v.flash with bootWrite := 1, bootNew := val } }) h dictRow_boot
    (fwOwned_row dictRow_boot rfl) fun v ⟨hv, _⟩ => by
      have ha := view_aon hv (by decide)
      have hf := view_flash hv (by decide)
      exact ⟨clEffect_recWrite (.inr rfl) (bootWrite_begins hb (by rwa [hf]) ((State.noFlash_congr ha hf).trans hn)), rfl⟩
  refine ⟨_, rfl, hdone, ?_⟩
  rw [view_flash hview (by decide)]
  exact congrArg (fun f : Flash => { f with bootWrite := 1, bootNew := val }) (view_flash hv (by decide))

/-! Commissioning (R496). -/

/-- The state with commissioning among the operations that wait. -/
def State.askCommission (s : State) : State :=
  { s with flash := { s.flash with waiting := s.flash.waiting ++ [{ cls := 5, erase := true, addr := 0xD0000, kind := 3 }] } }

theorem State.askCommission_waits (s : State) : s.askCommission.commWaits = true := by
  simp [State.commWaits, State.askCommission]

theorem commission_asks {s : State} (hf : s.hdrUse.fixed ≠ 1) (hc : s.commWaits = false) (hn : s.noFlash = false) :
    commission s = .ok (flashNext s.askCommission) := by
  unfold commission
  rw [if_neg (by simp [hf, hc]), hn]
  rfl

theorem flashNext_cl (s : State) : (flashNext s).cl = s.cl := view_cl (flashNext_view (k := 4) (by decide) s) (by decide)

/-- Commissioning takes its turn at once where the port is free, and waits where it is not (R496, R503). -/
theorem flashNext_askCommission (s : State) :
    if s.areasTurn then
      (flashNext s.askCommission).flash.fixed_ = [] ∧ (flashNext s.askCommission).flash.fixedOpen = true ∧
        ∃ e l, (flashNext s.askCommission).flash.hdr = e :: l ∧ e.fixed = 1
    else (flashNext s.askCommission).commWaits = true ∧ (flashNext s.askCommission).flash.fixed_ = s.flash.fixed_ := by
  have ht : s.askCommission.areasTurn ↔ s.areasTurn := Iff.rfl
  split
  · rename_i h
    obtain ⟨c, b, hs⟩ := startProgram_eq (doCommission s.askCommission)
    obtain ⟨e, w, he, l, hd⟩ := doCommission_flash s.askCommission
    rw [flashNext_turn (ht.mpr h), if_pos s.askCommission_waits, hs, hd]
    exact ⟨rfl, rfl, e, l, rfl, he⟩
  · rename_i h
    rw [flashNext_held (ht.not.mpr h)]
    exact ⟨s.askCommission_waits, rfl⟩

theorem State.hdrUse_congr {s t : State} (ha : t.aon = s.aon) (hf : t.flash = s.flash) : t.hdrUse = s.hdrUse := by
  rw [State.hdrUse, State.hdrUse, State.flashRead, State.flashRead, ha, hf]

theorem State.portFree_congr {s t : State} (ha : t.aon = s.aon) (hf : t.flash = s.flash) (ho : t.obs = s.obs) :
    t.portFree = s.portFree := by
  rw [State.portFree, State.portFree, State.isReady, State.isReady, State.isReady, State.isReady, ha, hf, ho]

theorem State.lfWaits_congr {s t : State} (hp : t.prot = s.prot) (hf : t.flash = s.flash) : t.lfWaits = s.lfWaits := by
  rw [State.lfWaits, State.lfWaits, hp, hf]

theorem commission_commissions {s : State} {ch : ChanId} {val : List Byte} (h : s.takes ch 0x9002 6 val)
    (hx : s.hdrUse.fixed ≠ 1) (hc : s.commWaits = false) (hn : s.noFlash = false) :
    Answers (.commission ch val) s (fun t => t.doneOn ch ∧
      (if s.portFree = true ∧ s.lfWaits = false then
         t.flash.fixed_ = [] ∧ t.flash.fixedOpen = true ∧ ∃ e l, t.flash.hdr = e :: l ∧ e.fixed = 1
       else t.commWaits = true ∧ t.flash.fixed_ = s.flash.fixed_)) := by
  obtain ⟨v, ⟨hv, -⟩, hdone, hview⟩ := clWhole_ok (g := fun v => flashNext v.askCommission) h dictRow_commission
    (fwOwned_row dictRow_commission rfl) fun v ⟨hv, _⟩ => by
      have ha := view_aon hv (by decide)
      have hf := view_flash hv (by decide)
      exact ⟨clEffect_recWrite (.inr rfl) (commission_asks (by rwa [State.hdrUse_congr ha hf])
        ((State.commWaits_congr hf).trans hc) ((State.noFlash_congr ha hf).trans hn)), flashNext_cl _⟩
  have hf := view_flash hv (by decide)
  have hflash := view_flash hview (by decide)
  refine ⟨_, rfl, hdone, ?_⟩
  rw [← State.portFree_congr (view_aon hv (by decide)) hf (view_obs hv (by decide)),
    ← State.lfWaits_congr (view_prot hv (by decide)) hf, State.commWaits_congr hflash, hflash, ← hf]
  exact flashNext_askCommission v

/-- Settles O56: each command by the equation of its function; the writes through their channel. -/
theorem recorderCommands : Obligations.RecorderCommands := by
  unfold Obligations.RecorderCommands
  refine ⟨fun ev s h11 hl => ?queued, fun ev s h11 hl => ?dropped, fun ev s h11 => ?early,
    fun e l s h11 hq hd he hc => ?device, fun e l s h11 hq hd h1 h63 _ hc => ?partition,
    fun f r q s hb he hk hq => ⟨_, rfl, recordProgram_stores hb he hk hq⟩, fun f s hb he => ?erase,
    fun f s hp hb h0 => ?limit, fun s hb hs h0 => ⟨_, rfl, flashLimit_slow hb hs h0⟩, fun s h3 h11 hs hn => ?scan,
    fun s h11 hw => ?bootDone, fun s h11 hw => ?bootFailed, fun ch val s h h0 => calendarTimeSet_sets h h0,
    fun ch val s h hx hc hn => commission_commissions h hx hc hn,
    fun ch val s h hb hw hn => bootRecordWrite_begins h hb hw hn⟩
  case queued =>
    refine ⟨_, rfl, ?_⟩
    beta_reduce
    rw [captureEvent_queued ev h11 hl]
    exact ⟨rfl, s.sameBut_with_rcd _⟩
  case dropped =>
    refine ⟨_, rfl, ?_⟩
    beta_reduce
    rw [captureEvent_dropped ev h11 hl]
    exact ⟨rfl, rfl, putBit_bit _ _ _,
      (State.num_bump32_sub _ (by decide) (by decide) (by decide)).trans (State.num_bump32_same _ _ _)⟩
  case early =>
    refine ⟨_, rfl, ?_⟩
    beta_reduce
    split
    · rename_i hl
      rw [captureEvent_early ev h11 hl]
      exact ⟨⟨rfl, rfl⟩, s.sameBut_with_aon _⟩
    · rename_i hl
      rw [captureEvent_lost ev h11 hl]
      exact ⟨⟨rfl, rfl⟩, s.sameBut_with_aon _⟩
  case device =>
    obtain ⟨q, n, f, h⟩ := ringWrite_device (s.withInput l) he
    refine ⟨_, if_pos h11, ?_⟩
    beta_reduce
    rw [recordWrite_rcd hq hd hc, h]
    exact ⟨rfl, rfl, rfl⟩
  case partition =>
    obtain ⟨q, n, f, h⟩ := ringWrite_partition (s.withInput l) h1 h63
    refine ⟨_, if_pos h11, ?_⟩
    beta_reduce
    rw [recordWrite_rcd hq hd hc, h]
    exact ⟨rfl, rfl, rfl⟩
  case erase =>
    refine ⟨_, rfl, ?_⟩
    beta_reduce
    rw [eraseDone_erased hb he]
    refine ⟨?_, ?_, fun g hg => flashNext_fresh rfl rfl hg⟩
    · obtain ⟨h, x, o, w, c, b, hf⟩ := flashNext_flash s.erased
      rw [hf]
      rfl
    · rw [flashNext_num _ (by decide) (by decide)]
      exact State.num_bump32_same _ _ _
  case limit =>
    refine ⟨_, rfl, ?_⟩
    beta_reduce
    rw [flashLimit_first hb h0]
    exact ⟨rfl, by rw [advanceTo_aon _ s hp]⟩
  case scan =>
    refine ⟨scanDone s, if_pos (by simp [h3, h11, hs, hn]), ?_⟩
    unfold scanDone
    extract_lets n q o
    obtain ⟨h, x, o', w, c, b, hf⟩ := flashNext_flash { s with flash :=
      { s.flash with nvReady := true, circNext := n, circFresh := false, seqNext := q, fixedOpen := o } }
    rw [hf]
    exact ⟨rfl, rfl, rfl⟩
  case bootDone =>
    refine ⟨_, if_pos h11, ?_⟩
    beta_reduce
    rw [bootWritten_ok hw]
    exact ⟨rfl, rfl, rfl⟩
  case bootFailed =>
    refine ⟨_, if_pos h11, ?_⟩
    beta_reduce
    rw [bootWritten_failed hw]
    exact ⟨rfl, rfl⟩

end Sys2Proof.Machine

/-! Writes that firmware serves: the request passes to firmware and waits, and the object's write takes effect with firmware's
answer (R116). -/

namespace Sys2Proof.Machine

open Sys2Proof

/-! What a request leaves of the objects' store until it is served. -/

/-- The store of s, but for the counts of the port's messages and of closed transfers (R112, R538). -/
def State.storedAs (u s : State) : Prop :=
  u.obj.doms = s.obj.doms ∧
    ∀ n, n ≠ okey 0x2600 0x0F → n ≠ okey 0x1020 4 → kvGet u.obj.nums n = kvGet s.obj.nums n

theorem State.storedAs.of_obj {u v s : State} (h : u.storedAs s) (ho : v.obj = u.obj) : v.storedAs s := by
  unfold State.storedAs
  rw [ho]
  exact h

theorem State.storedAs.pn {u s : State} (h : u.storedAs s) {i sub : Nat} (h1 : okey i sub ≠ okey 0x2600 0x0F)
    (h2 : okey i sub ≠ okey 0x1020 4) : u.pn i sub = s.pn i sub := by
  rw [State.pn, State.pn, State.num, State.num, h.2 _ h1 h2]

theorem State.storedAs.dom {u s : State} (h : u.storedAs s) (i sub : Nat) : u.dom i sub = s.dom i sub := by
  rw [State.dom, State.dom, h.1]

theorem State.updChan_obj (s : State) (ch : ChanId) (f : ClChan → ClChan) : (s.updChan ch f).obj = s.obj := by
  cases ch <;> rfl

theorem State.heard_storedAs (s : State) (ch : ChanId) : (s.heard ch).storedAs s := by
  cases ch with
  | mgt => exact ⟨rfl, fun _ h1 _ => kvGet_kvPut_ne _ _ h1.symm⟩
  | slot _ | fw | chain | jig _ => exact ⟨rfl, fun _ _ _ => rfl⟩

theorem State.storedAs.clClose {u s : State} (h : u.storedAs s) (ch : ChanId) : (clClose ch u).storedAs s := by
  obtain ⟨hd, hn⟩ := h
  unfold Machine.clClose
  split
  · exact ⟨hd, hn⟩
  · refine State.storedAs.of_obj (u := u.bump32 0x1020 4) ?_ (State.updChan_obj _ _ _)
    exact ⟨hd, fun n h1 h2 => (kvGet_kvPut_ne _ _ h2.symm).trans (hn n h1 h2)⟩

/-- The state in which the engine serves a write of s on a channel, the objects' store among what it keeps. -/
def State.servesOn (u s : State) (ch : ChanId) : Prop := u.servesFrom s ch ∧ u.storedAs s

theorem State.servesOn.updChan {u s : State} {ch : ChanId} (h : u.servesOn s ch) (f : ClChan → ClChan)
    (hf : ∀ c, (f c).level = c.level) : (u.updChan ch f).servesOn s ch :=
  ⟨h.1.updChan f hf, h.2.of_obj (u.updChan_obj ch f)⟩

theorem State.servesOn.view {u s : State} {ch : ChanId} (h : u.servesOn s ch) : u.view 10485753 = s.view 10485753 := h.1.1

theorem State.servesOn.aon {u s : State} {ch : ChanId} (h : u.servesOn s ch) : u.aon = s.aon := view_aon h.view (by decide)

theorem State.servesOn.dowel {u s : State} {ch : ChanId} (h : u.servesOn s ch) : u.dowel = s.dowel :=
  view_dowel h.view (by decide)

theorem State.servesOn.dma {u s : State} {ch : ChanId} (h : u.servesOn s ch) : u.dma = s.dma := view_dma h.view (by decide)

theorem State.servesOn.flash {u s : State} {ch : ChanId} (h : u.servesOn s ch) : u.flash = s.flash :=
  view_flash h.view (by decide)

theorem State.servesOn.obs {u s : State} {ch : ChanId} (h : u.servesOn s ch) : u.obs = s.obs := view_obs h.view (by decide)

theorem State.servesOn.noFlash {u s : State} {ch : ChanId} (h : u.servesOn s ch) : u.noFlash = s.noFlash :=
  State.noFlash_congr h.aon h.flash

theorem State.servesOn.hdrUse {u s : State} {ch : ChanId} (h : u.servesOn s ch) : u.hdrUse = s.hdrUse :=
  State.hdrUse_congr h.aon h.flash

theorem State.servesOn.stored {u s : State} {ch : ChanId} (h : u.servesOn s ch) : u.storedAs s := h.2

theorem State.servesOn.hasChan {u s : State} {ch : ChanId} (h : u.servesOn s ch) : u.hasChan ch := by
  obtain ⟨⟨-, -, -, hchan, -⟩, -⟩ := h
  exact hchan

/-! From the request to firmware's turn. -/

theorem State.checks_ready {s : State} {w : Who} {i sub : Nat} {r : Row} (hr : dictRow i sub = some r)
    (h : s.checks w 3 i sub = 0) : s.unready r.own i = false := by
  rw [Bool.eq_false_iff]
  intro hu
  simp only [State.checks, hr, hu] at h
  split_ifs at h
  contradiction

theorem unready_congr {s t : State} (ha : t.aon = s.aon) (own i : Nat) : t.unready own i = s.unready own i := by
  unfold State.unready State.isReady
  rw [ha]

/-- A write that passes its checks waits for firmware where firmware owns the object, and has the object's effect elsewhere
(R96, R116). -/
theorem clLocal_write {v s : State} {ch : ChanId} {a : ClPend} {r : Row} (hv : v.servesOn s ch) (hop : a.op = 3)
    (hw : a.who ch = s.whoOn ch) (hr : dictRow a.idx a.sub = some r) (hc : s.checks (s.whoOn ch) 3 a.idx a.sub = 0)
    (hf : r.ty.fits a.val.length = true) (hi : r.inRange a.val = true) :
    clLocal ch a v = if fwOwned a.idx a.sub then clWait ch a 0 v else clEffect ch a r v := by
  have hchecks : v.checks (a.who ch) a.op a.idx a.sub = 0 := by
    rw [checks_congr hv.aon (view_chain hv.view (by decide)) (view_inst hv.view), hw, hop, hc]
  unfold clLocal
  dsimp only
  rw [hchecks, hr]
  simp [hop, hf, hi]

/-- The state of a channel whose request is pending. -/
def ClChan.pending (a : ClPend) (c : ClChan) : ClChan := { c with state := 1, pend := some a }

/-- While the device does not stand still, a request without a node is served here (R114, R522). -/
theorem clServe_here {u : State} {ch : ChanId} {a : ClPend} (hn : a.node = 0)
    (hs : (u.updChan ch (ClChan.pending a)).obs.standing = false) :
    clServe ch a u = clLocal ch a (u.updChan ch (ClChan.pending a)) := by
  unfold clServe
  exact (if_neg (ne_true_of_eq_false hs)).trans (if_pos (by rw [hn]; rfl))

/-- A whole write that passes its checks waits for firmware where firmware owns the object, and has the object's effect
elsewhere. -/
theorem clWhole_local {s : State} {ch : ChanId} {i sub : Nat} {val : List Byte} {r : Row} (h : s.takes ch i sub val)
    (hr : dictRow i sub = some r) : ∃ v, v.servesOn s ch ∧ clWhole ch i sub val s = clTurn
      (if fwOwned i sub then clWait ch (s.wholePend ch i sub val) 0 v else clEffect ch (s.wholePend ch i sub val) r v) := by
  obtain ⟨hq, hfree, hpass⟩ := h
  obtain ⟨-, -, hstill⟩ := id hq
  obtain ⟨r', hr', hc, hf, hi⟩ := State.writePasses_row hpass
  obtain rfl : r = r' := Option.some.inj (hr.symm.trans hr')
  have hu : (clClose ch ((s.heard ch).updChan ch (ClChan.whole i sub val))).servesOn s ch :=
    ⟨((State.heard_servesFrom hq (State.hasChan_of_free hfree)).updChan _ (ClChan.whole_level i sub val)).clClose,
      ((s.heard_storedAs ch).of_obj (State.updChan_obj _ _ _)).clClose ch⟩
  have hv := hu.updChan (ClChan.pending (s.wholePend ch i sub val)) fun _ => rfl
  have hstand := (congrArg Obs.standing hv.obs).trans hstill
  refine ⟨_, hv, ?_⟩
  rw [clWhole_free i sub val hfree, clServe_here rfl hstand, clLocal_write hv rfl rfl hr hc hf hi]
  rfl

/-- A request as it waits for firmware since a moment. -/
def ClPend.atFirmware (a : ClPend) (now : Nat) : ClPend := { a with why := 0, since := now }

/-- A request passed to firmware waits on its channel. -/
theorem clWait_waits {v : State} {ch : ChanId} (a : ClPend) (h : v.hasChan ch) :
    (clWait ch a 0 v).waits ch 0 = some (a.atFirmware v.aon.clock) := by
  unfold State.waits clWait
  rw [State.chan_updChan _ h]
  rfl

/-- Firmware's answer of success to a write that waits for it gives the object's write its effect (R97, R116). -/
theorem clFirmware_write {u : State} {ch : ChanId} {a : ClPend} {r : Row} (hw : u.waits ch 0 = some a)
    (hr : dictRow a.idx a.sub = some r) (hop : a.op = 3) (hu : u.unready r.own a.idx = false) :
    clFirmware ch 0 u = clTurn (clEffect ch a r u) := by
  unfold clFirmware
  rw [hw]
  dsimp only
  rw [hr]
  simp [hu, hop]

/-- The end of a write that has succeeded: the channel is done, and beside the channels, the port and the objects' store the
state is what the write gave. -/
theorem clTurn_clOk {g v : State} {ch : ChanId} (a : ClPend) (hcl : g.cl = v.cl) (hfq : v.cl.fwQ = []) (hcq : v.cl.chainQ = [])
    (hchan : v.hasChan ch) : (clTurn (clOk ch a [] g)).doneOn ch ∧ (clTurn (clOk ch a [] g)).view 14680057 = g.view 14680057 := by
  have hchan' : g.hasChan ch := by
    cases ch with
    | slot p => exact Nat.lt_of_lt_of_eq hchan (congrArg (fun c => c.slots.length) hcl.symm)
    | mgt | fw => trivial
    | chain | jig _ => exact hchan.elim
  obtain ⟨hdone, hview, -, hq, hq'⟩ := clOk_write a hchan'
  rw [clTurn_quiet (by rw [hq, hcl, hfq]) (by rw [hq', hcl, hcq])]
  exact ⟨hdone, hview⟩

/-- The write g of an object of firmware's is the effect of any request for it in a state that serves it (R116). -/
def firmwareWrites (s : State) (ch : ChanId) (i sub : Nat) (val : List Byte) (r : Row) (g : State → State) : Prop :=
  ∀ a v, v.servesOn s ch → a.idx = i → a.sub = sub → a.val = val → clEffect ch a r v = clOk ch a [] (g v) ∧ (g v).cl = v.cl

/-- A whole write that firmware serves passes to it, and its answer of success ends the request with the object's write. -/
theorem answersByFirmware_of_writes {c : Instr} {s : State} {ch : ChanId} {i sub : Nat} {val : List Byte} {r : Row}
    {g : State → State} {P : State → Prop} (hexec : exec c s = .next (clWhole ch i sub val s)) (h : s.takes ch i sub val)
    (hr : dictRow i sub = some r) (hfw : fwOwned i sub = true) (hg : firmwareWrites s ch i sub val r g)
    (hP : ∀ v t : State, v.servesOn s ch → t.doneOn ch → t.view 14680057 = (g v).view 14680057 → P t) :
    AnswersByFirmware c ch s P := by
  obtain ⟨v, hv, hw⟩ := clWhole_local h hr
  rw [if_pos hfw] at hw
  obtain ⟨-, -, hpass⟩ := h
  obtain ⟨r', hr', hchecks, -, -⟩ := State.writePasses_row hpass
  obtain rfl : r = r' := Option.some.inj (hr.symm.trans hr')
  have hu : (clWait ch (s.wholePend ch i sub val) 0 v).servesOn s ch := hv.updChan _ fun _ => rfl
  obtain ⟨⟨-, hfq, hcq, hchan, -⟩, -⟩ := id hu
  have hwaits := clWait_waits (s.wholePend ch i sub val) hv.hasChan
  rw [clTurn_quiet hfq hcq] at hw
  obtain ⟨hok, hcl⟩ := hg ((s.wholePend ch i sub val).atFirmware v.aon.clock) _ hu rfl rfl rfl
  obtain ⟨hdone, hend⟩ := clTurn_clOk ((s.wholePend ch i sub val).atFirmware v.aon.clock) hcl hfq hcq hchan
  have hready := (unready_congr hu.aon r.own i).trans (State.checks_ready hr hchecks)
  have hanswer := (clFirmware_write hwaits hr rfl hready).trans (congrArg clTurn hok)
  refine ⟨_, hexec.trans (congrArg Host.Outcome.next hw), by rw [hwaits]; rfl, _, congrArg Host.Outcome.next hanswer, ?_⟩
  exact hP _ _ hu hdone hend

end Sys2Proof.Machine

/-! The writes of jigs, of the flash images and of the slot in use (O55). -/

namespace Sys2Proof.Machine

open Sys2Proof

/-! The rows. -/

/-- The row of a jig's image (R433). -/
def jigImageRow : Row := ⟨0x2310, 16, 0x01, 1, .dom 72 4096 8, 0x1202, 0, .any, .bytes, 13, true⟩

/-- The row of a jig's control code (R433). -/
def jigControlRow : Row := ⟨0x2310, 16, 0x06, 1, .u 1, 0x0303, 0, .ivs [(1, 3)] 1, .absent, 13, false⟩

/-- The row of 0x2300.07 (R426, R432). -/
def commitRow : Row := ⟨0x2300, 1, 0x07, 1, .u 1, 0x0303, 0, .ivs [(1, 1)] 1, .absent, 13, false⟩

/-- The row of 0x2301.04 (R422, R432). -/
def flashImageRow : Row := ⟨0x2301, 1, 0x04, 1, .u 1, 0x0303, 0, .ivs [(1, 1)] 1, .absent, 3, false⟩

theorem dictRow_jigImage : ∀ {j}, j < 16 → dictRow (0x2310 + j) 1 = some jigImageRow := by decide

theorem dictRow_jigControl : ∀ {j}, j < 16 → dictRow (0x2310 + j) 6 = some jigControlRow := by decide

theorem dictRow_commit : dictRow 0x2300 7 = some commitRow := by decide

theorem dictRow_flashImage : dictRow 0x2301 4 = some flashImageRow := by decide

theorem fwOwned_of_row {i sub : Nat} {r : Row} (h : dictRow i sub = some r) (ho : r.own = 13) : fwOwned i sub = true := by
  unfold fwOwned
  rw [h]
  simp [ho]

/-! The effect of a write of Dowel's objects. -/

theorem budgetRec_dowel (s : State) {i : Nat} (sub v : Nat) (h : 0x2300 ≤ i) (h' : i < 0x2320) : s.budgetRec i sub v = none := by
  unfold State.budgetRec
  repeat rw [if_neg (by simp; omega)]

theorem clEffect_dowel {ch : ChanId} {a : ClPend} {r : Row} {s t : State} (h : 0x2300 ≤ a.idx) (h' : a.idx < 0x2320)
    (hw : objWrite (a.who ch) a.idx a.sub (r.rg.clip (r.ty.num a.val)) a.val s = .ok t) : clEffect ch a r s = clOk ch a [] t := by
  unfold clEffect
  dsimp only
  rw [if_neg (by simp; omega), if_neg (by simp; omega), budgetRec_dowel s _ _ h h', hw]

/-- The write of a jig's object is Dowel's. -/
theorem objWrite_jig (w : Who) {j : Nat} (sub : Nat) (v : Int) (b : List Byte) (s : State) (hj : j < 16) :
    objWrite w (0x2310 + j) sub v b s = dowelWrite (0x2310 + j) sub v b s := by
  unfold objWrite
  rw [if_neg (by omega), if_neg (by omega), if_neg (by omega), if_neg (by simp; omega), if_neg (by simp; omega),
    if_pos (by omega)]

theorem dowelWrite_jigImage {j : Nat} (v : Int) (b : List Byte) (s : State) (hj : j < 16) : dowelWrite (0x2310 + j) 1 v b s =
    needRange (jigImageCheck b = 0) (needState ((s.jig j).state != 2) (.ok (jigLoad j b s))) := by
  unfold dowelWrite
  rw [if_neg (by simp), if_neg (by simp), if_pos (by simp; omega)]
  simp

theorem dowelWrite_jigControl {j : Nat} (v : Int) (b : List Byte) (s : State) (hj : j < 16) :
    dowelWrite (0x2310 + j) 6 v b s = jigControl j v s := by
  unfold dowelWrite
  rw [if_neg (by simp), if_neg (by simp), if_pos (by simp; omega)]
  simp

/-! What a write makes of its jig (R418, R419, R420, R433). -/

/-- A jig with this image loaded. -/
def Jig.loaded (b : List Byte) : Jig where
  state := 1
  image := imageWords b
  rawImage := b
  stepLimit := leAt b 0x0C 4
  objLimit := leAt b 0x10 2
  jigId := leAt b 0x14 8

/-- A jig started, with its first activation at this moment. -/
def Jig.started (moment : Nat) (g : Jig) : Jig :=
  { g with state := 2, active := false, nextAt := moment, badRun := 0, onPartner := false }

/-- A jig stopped, with its posts withdrawn. -/
def Jig.halted (g : Jig) : Jig := { g.settle with state := 1, active := false, post3 := none, post4 := none }

/-- A jig reset. -/
def Jig.cleared (g : Jig) : Jig :=
  { g with state := if g.state = 0 then 0 else 1, data := List.replicate 128 0, dataNext := none }

/-- The next instant of jig j's period. -/
def State.jigInstant (s : State) (j : Nat) : Nat :=
  (s.aon.clock / us (s.pn (0x2310 + j) 3) + 1) * us (s.pn (0x2310 + j) 3)

theorem jigLoad_dowel (j : Nat) (b : List Byte) (s : State) :
    (jigLoad j b s).dowel = (s.updJig j fun _ => Jig.loaded b).dowel := rfl

theorem jigGo_eq (j : Nat) (s : State) : jigGo j s = s.updJig j (Jig.started (s.jigInstant j)) := rfl

theorem jigHalt_dowel (j : Nat) (s : State) : (jigHalt j s).dowel = (s.updJig j Jig.halted).dowel := by
  unfold jigHalt jigUnpost
  rw [updJig_updJig]
  exact view_dowel (updAccr_view (k := 32768) (by decide) _) (by decide)

theorem jigControl_start {j : Nat} {s : State} (h : s.jigMayStart j = true) : jigControl j 1 s = .ok (jigGo j s) := by
  unfold jigControl
  rw [h]
  rfl

theorem jigControl_stop {j : Nat} {s : State} (h : (s.jig j).state = 2) : jigControl j 2 s = .ok (jigHalt j s) := by
  unfold jigControl
  rw [h]
  rfl

theorem jigControl_reset {j : Nat} {s : State} (h : (s.jig j).state ≠ 2) :
    jigControl j 3 s = .ok (s.updJig j Jig.cleared) := by
  unfold jigControl
  rw [bne_iff_ne.mpr h]
  rfl

/-! The conditions of a start read Dowel's unit and stored values of the jigs alone (R419). -/

theorem State.jig_of_dowel {s t : State} (h : t.dowel = s.dowel) (j : Nat) : t.jig j = s.jig j := by
  rw [State.jig, State.jig, h]

theorem State.storedAs.jig_pn {u s : State} (h : u.storedAs s) (j : Nat) {sub : Nat} (hsub : sub < 15) :
    u.pn (0x2310 + j) sub = s.pn (0x2310 + j) sub :=
  h.pn (by unfold okey; omega) (by unfold okey; omega)

theorem State.jigMayStart_congr {s t : State} (hd : t.dowel = s.dowel) (hs : t.storedAs s) (j : Nat) :
    t.jigMayStart j = s.jigMayStart j := by
  have hjig : t.jig = s.jig := funext (State.jig_of_dowel hd)
  have heng : t.jigEng = s.jigEng := funext fun k => hs.jig_pn k (by decide)
  have hload : t.loadSum = s.loadSum := by
    unfold State.loadSum
    simp only [hjig, hs.jig_pn _ (show 3 < 15 by decide)]
  have hmay : t.jigMayWrite j = s.jigMayWrite j := by
    unfold State.jigMayWrite State.permits
    simp only [hs.dom]
  unfold State.jigMayStart State.engine
  rw [hjig, heng, hload, hmay, hd, hs.jig_pn j (by decide)]

theorem State.jigInstant_congr {s t : State} (ha : t.aon = s.aon) (hs : t.storedAs s) (j : Nat) :
    t.jigInstant j = s.jigInstant j := by
  rw [State.jigInstant, State.jigInstant, ha, hs.jig_pn j (by decide)]

/-! The jigs' writes. -/

theorem AnswersByFirmware.mono {c : Instr} {ch : ChanId} {s : State} {P Q : State → Prop} (h : AnswersByFirmware c ch s P)
    (hPQ : ∀ t, P t → Q t) : AnswersByFirmware c ch s Q := by
  obtain ⟨u, hu, hw, t, ht, hp⟩ := h
  exact ⟨u, hu, hw, t, ht, hPQ t hp⟩

/-- A write of a jig's object that changes the jig by f. -/
theorem answersByFirmware_jig {c : Instr} {s : State} {ch : ChanId} {j sub : Nat} {val : List Byte} {r : Row} {f : Jig → Jig}
    (g : State → State) (hexec : exec c s = .next (clWhole ch (0x2310 + j) sub val s)) (h : s.takes ch (0x2310 + j) sub val)
    (hj : j < 16) (hlen : j < s.dowel.jigs.length) (hr : dictRow (0x2310 + j) sub = some r) (ho : r.own = 13)
    (hg : ∀ v, v.servesOn s ch → dowelWrite (0x2310 + j) sub (r.rg.clip (r.ty.num val)) val v = .ok (g v) ∧
      (g v).cl = v.cl ∧ (g v).dowel = (v.updJig j f).dowel) :
    AnswersByFirmware c ch s (fun t => t.doneOn ch ∧ t.jig j = f (s.jig j) ∧ ∀ k, k ≠ j → t.jig k = s.jig k) := by
  refine answersByFirmware_of_writes (g := g) hexec h hr (fwOwned_of_row hr ho) (fun a v hv hi hs ha => ?write)
    fun v t hv hdone hview => ?effect
  case write =>
    obtain ⟨hw, hcl, -⟩ := hg v hv
    refine ⟨clEffect_dowel (by omega) (by omega) ?_, hcl⟩
    rw [hi, hs, ha, objWrite_jig _ _ _ _ _ hj, hw]
  case effect =>
    obtain ⟨-, -, hdowel⟩ := hg v hv
    have ht : ∀ k, t.jig k = (v.updJig j f).jig k := State.jig_of_dowel ((view_dowel hview (by decide)).trans hdowel)
    refine ⟨hdone, ?_, fun k hk => ?_⟩
    · rw [ht, jig_updJig_self v j f (by rw [hv.dowel]; exact hlen), State.jig_of_dowel hv.dowel]
    · rw [ht, jig_updJig_ne v j k f hk, State.jig_of_dowel hv.dowel]

theorem jigImageWrite_loads {s : State} {ch : ChanId} {j : Nat} {val : List Byte} (hj : j < 16) (hlen : j < s.dowel.jigs.length)
    (h : s.takes ch (0x2310 + j) 1 val) (hv : jigImageCheck val = 0) (hs : (s.jig j).state ≠ 2) :
    AnswersByFirmware (.jigImageWrite ch j val) ch s (fun t =>
      t.doneOn ch ∧ t.jig j = Jig.loaded val ∧ ∀ k, k ≠ j → t.jig k = s.jig k) := by
  refine answersByFirmware_jig (jigLoad j val) rfl h hj hlen (dictRow_jigImage hj) rfl fun v hserves =>
    ⟨?_, view_cl (jigLoad_view (k := 4) (by decide) _ _ _) (by decide), jigLoad_dowel j val v⟩
  rw [dowelWrite_jigImage _ _ _ hj, State.jig_of_dowel hserves.dowel, hv, bne_iff_ne.mpr hs]
  rfl

/-- A control code of a jig that changes it by f. -/
theorem answersByFirmware_jigControl {c : Instr} {s : State} {ch : ChanId} {j n : Nat} {val : List Byte} {f : Jig → Jig}
    (g : State → State) (hexec : exec c s = .next (clWhole ch (0x2310 + j) 6 val s)) (hj : j < 16)
    (hlen : j < s.dowel.jigs.length) (h : s.takes ch (0x2310 + j) 6 val) (hn : leVal val = n)
    (hg : ∀ v, v.servesOn s ch → jigControl j n v = .ok (g v) ∧ (g v).cl = v.cl ∧ (g v).dowel = (v.updJig j f).dowel) :
    AnswersByFirmware c ch s (fun t => t.doneOn ch ∧ t.jig j = f (s.jig j) ∧ ∀ k, k ≠ j → t.jig k = s.jig k) := by
  subst hn
  refine answersByFirmware_jig g hexec h hj hlen (dictRow_jigControl hj) rfl fun v hserves => ?_
  rw [dowelWrite_jigControl _ _ _ hj]
  exact hg v hserves

theorem jigStart_starts {s : State} {ch : ChanId} {j : Nat} {val : List Byte} (hj : j < 16) (hlen : j < s.dowel.jigs.length)
    (h : s.takes ch (0x2310 + j) 6 val) (hn : leVal val = 1) (hmay : s.jigMayStart j = true) :
    AnswersByFirmware (.jigStart ch j val) ch s (fun t =>
      t.doneOn ch ∧ t.jig j = (s.jig j).started (s.jigInstant j) ∧ ∀ k, k ≠ j → t.jig k = s.jig k) := by
  refine answersByFirmware_jigControl (f := Jig.started (s.jigInstant j)) (jigGo j) rfl hj hlen h hn
    fun v hserves => ⟨jigControl_start ?_, rfl, ?_⟩
  · rw [State.jigMayStart_congr hserves.dowel hserves.stored, hmay]
  · rw [jigGo_eq, State.jigInstant_congr hserves.aon hserves.stored]

theorem jigStop_stops {s : State} {ch : ChanId} {j : Nat} {val : List Byte} (hj : j < 16) (hlen : j < s.dowel.jigs.length)
    (h : s.takes ch (0x2310 + j) 6 val) (hn : leVal val = 2) (hs : (s.jig j).state = 2) :
    AnswersByFirmware (.jigStop ch j val) ch s (fun t =>
      t.doneOn ch ∧ t.jig j = (s.jig j).halted ∧ ∀ k, k ≠ j → t.jig k = s.jig k) :=
  answersByFirmware_jigControl (jigHalt j) rfl hj hlen h hn fun v hserves =>
    ⟨jigControl_stop (by rw [State.jig_of_dowel hserves.dowel, hs]),
      view_cl (jigHalt_view (k := 4) (by decide) _ _) (by decide), jigHalt_dowel j v⟩

theorem jigReset_clears {s : State} {ch : ChanId} {j : Nat} {val : List Byte} (hj : j < 16) (hlen : j < s.dowel.jigs.length)
    (h : s.takes ch (0x2310 + j) 6 val) (hn : leVal val = 3) (hs : (s.jig j).state ≠ 2) :
    AnswersByFirmware (.jigReset ch j val) ch s (fun t =>
      t.doneOn ch ∧ t.jig j = (s.jig j).cleared ∧ ∀ k, k ≠ j → t.jig k = s.jig k) :=
  answersByFirmware_jigControl (fun v => v.updJig j Jig.cleared) rfl hj hlen h hn fun v hserves =>
    ⟨jigControl_reset (by rwa [State.jig_of_dowel hserves.dowel]), rfl, rfl⟩

/-! The commit of the running slot (R426). -/

theorem commitSlot_appends {s : State} (hu : s.dowel.updating = false) (hr : s.dowel.runSlot ≠ 0) (hf : s.noFlash = false) :
    commitSlot s = .ok (hdrAppend (fun e => { e with active := s.dowel.runSlot }) s) := by
  unfold commitSlot
  rw [hu, bne_iff_ne.mpr hr, hf]
  rfl

theorem commitSlot_commits {s : State} {ch : ChanId} {val : List Byte} (h : s.takes ch 0x2300 7 val)
    (hu : s.dowel.updating = false) (hr : s.dowel.runSlot ≠ 0) (hf : s.noFlash = false) :
    AnswersByFirmware (.commitSlot ch val) ch s (fun t => t.doneOn ch ∧ ∃ e l, t.flash.hdr = e :: l ∧
      e = { s.hdrUse with active := s.dowel.runSlot, entry := (s.hdrUse.entry + 1) % 2 ^ 32 }) := by
  refine answersByFirmware_of_writes (g := hdrAppend (fun e => { e with active := s.dowel.runSlot })) rfl h dictRow_commit
    (fwOwned_of_row dictRow_commit rfl) (fun a v hv hi hs ha => ?write) fun v t hv hdone hview => ⟨hdone, ?effect⟩
  case write =>
    have hd := hv.dowel
    refine ⟨clEffect_dowel (by omega) (by omega) ?_, rfl⟩
    rw [hi, hs]
    show commitSlot v = _
    rw [commitSlot_appends (by rwa [hd]) (by rwa [hd]) (hv.noFlash.trans hf), hd]
  case effect =>
    rw [view_flash hview (by decide), ← hv.hdrUse]
    exact ⟨_, _, rfl, rfl⟩

/-! A flash image write (R422). -/

/-- The flash with the image of a slot invalid and its copy begun. -/
def Flash.copyBegun (f : Flash) (slot : Nat) : Flash :=
  if slot = 1 then { f with imgA := {}, imgCopy := 1, imgErr := 0 } else { f with imgB := {}, imgCopy := 1, imgErr := 0 }

/-- The state with the copy that 0x2301 names begun. -/
def State.copyBegun (s : State) : State :=
  { s with dowel := { s.dowel with flashCopy := some (s.pn 0x2301 1, s.pn 0x2301 2, s.pn 0x2301 3) },
           flash := s.flash.copyBegun (s.pn 0x2301 3) }

theorem flashImageStart_begins {s : State} (hf : s.noFlash = false) (ha : s.pn 0x2301 3 ≠ s.hdrUse.active)
    (hr : s.pn 0x2301 3 ≠ s.dowel.runSlot) (hc : s.dowel.flashCopy = none) : flashImageStart s = .ok s.copyBegun := by
  unfold flashImageStart
  dsimp only
  rw [hf, bne_iff_ne.mpr ha, bne_iff_ne.mpr hr, hc]
  rfl

theorem takeChannel_takes {c use : Nat} {s t : State} (h : s.dmaFree c = true) :
    takeChannel c use (.ok t) s = .ok (dmaTake c use t) := if_pos h

theorem dmaTake_holds {c : Nat} (use : Nat) {s : State} (h : c < s.dma.ch.length) : ((dmaTake c use s).dmaCh c).state = 5 := by
  simp [dmaTake, State.updDma, State.dmaCh, List.getElem?_modify_eq, List.getElem?_eq_getElem h]

theorem State.dmaFree_congr {s t : State} (hd : t.dma = s.dma) (hs : t.storedAs s) (c : Nat) : t.dmaFree c = s.dmaFree c := by
  have ho : t.dmaOwner c = s.dmaOwner c := hs.pn (by unfold okey; omega) (by unfold okey; omega)
  unfold State.dmaFree State.dmaCh State.dmaDisabled
  rw [ho, hd]

theorem flashImageWrite_begins {s : State} {ch : ChanId} {val : List Byte} (h : s.takes ch 0x2301 4 val)
    (hlen : s.pn 0x2301 7 < s.dma.ch.length) (hfree : s.dmaFree (s.pn 0x2301 7) = true) (hf : s.noFlash = false)
    (ha : s.pn 0x2301 3 ≠ s.hdrUse.active) (hr : s.pn 0x2301 3 ≠ s.dowel.runSlot) (hc : s.dowel.flashCopy = none) :
    Answers (.flashImageWrite ch val) s (fun t =>
      t.doneOn ch ∧ t.dowel.flashCopy = some (s.pn 0x2301 1, s.pn 0x2301 2, s.pn 0x2301 3) ∧
        t.flash = s.flash.copyBegun (s.pn 0x2301 3) ∧ (t.dmaCh (s.pn 0x2301 7)).state = 5) := by
  obtain ⟨v, hv, hw⟩ := clWhole_local h dictRow_flashImage
  rw [fwOwned_row dictRow_flashImage rfl, if_neg Bool.false_ne_true] at hw
  have hpn : ∀ sub, sub < 15 → v.pn 0x2301 sub = s.pn 0x2301 sub := fun sub hsub =>
    hv.stored.pn (by unfold okey; omega) (by unfold okey; omega)
  have h1 := hpn 1 (by decide)
  have h2 := hpn 2 (by decide)
  have h3 := hpn 3 (by decide)
  have h7 := hpn 7 (by decide)
  have hbegin : flashImageStart v = .ok v.copyBegun :=
    flashImageStart_begins (hv.noFlash.trans hf) (by rwa [h3, hv.hdrUse]) (by rwa [h3, hv.dowel]) (by rwa [hv.dowel])
  have heff : clEffect ch (s.wholePend ch 0x2301 4 val) flashImageRow v =
      clOk ch (s.wholePend ch 0x2301 4 val) [] (dmaTake (s.pn 0x2301 7) 4 v.copyBegun) := by
    refine clEffect_dowel (show 0x2300 ≤ 0x2301 by decide) (show 0x2301 < 0x2320 by decide) ?_
    show takeChannel (v.pn 0x2301 7) 4 (flashImageStart v) v = _
    rw [hbegin, h7, takeChannel_takes ((State.dmaFree_congr hv.dma hv.stored _).trans hfree)]
  obtain ⟨⟨-, hfq, hcq, hchan, -⟩, -⟩ := id hv
  obtain ⟨hdone, hend⟩ := clTurn_clOk (g := dmaTake (s.pn 0x2301 7) 4 v.copyBegun) (v := v)
    (s.wholePend ch 0x2301 4 val) rfl hfq hcq hchan
  refine ⟨_, congrArg Host.Outcome.next (hw.trans (congrArg clTurn heff)), hdone, ?_, ?_, ?_⟩
  · rw [view_dowel hend (by decide), ← h1, ← h2, ← h3]
    rfl
  · rw [view_flash hend (by decide), ← hv.flash, ← h3]
    rfl
  · rw [State.dmaCh, view_dma hend (by decide)]
    exact dmaTake_holds (s := v.copyBegun) 4 (hv.dma ▸ hlen)

/-- Settles O55: what each write makes of its jig, header or slot, then the fields that the statement names. -/
theorem jigAndImageWrites : Obligations.JigAndImageWrites := by
  unfold Obligations.JigAndImageWrites
  refine ⟨fun ch j val s hj hlen h hv hs => (jigImageWrite_loads hj hlen h hv hs).mono ?load,
    fun ch j val s hj hlen h hn hmay => jigStart_starts hj hlen h hn hmay,
    fun ch j val s hj hlen h hn hs => (jigStop_stops hj hlen h hn hs).mono ?stop,
    fun ch j val s hj hlen h hn hs => (jigReset_clears hj hlen h hn (by rw [hs]; decide)).mono ?reset,
    fun ch val s h hu hr hf => commitSlot_commits h hu hr hf, fun ch val c s h hc hlen hfree hf ha hr hn => ?flash⟩
  case load =>
    rintro t ⟨hdone, ht, hrest⟩
    rw [ht]
    exact ⟨hdone, rfl, rfl, rfl, rfl, rfl, hrest⟩
  case stop =>
    rintro t ⟨hdone, ht, hrest⟩
    rw [ht]
    exact ⟨hdone, rfl, rfl, rfl, rfl, hrest⟩
  case reset =>
    rintro t ⟨hdone, ht, hrest⟩
    rw [ht]
    exact ⟨hdone, by rw [Jig.cleared, hs]; rfl, rfl, rfl, hrest⟩
  case flash =>
    subst hc
    obtain ⟨t, ht, hdone, hcopy, hflash, hch⟩ := flashImageWrite_begins h hlen hfree hf ha hr hn
    refine ⟨t, ht, hdone, hcopy, ?_, hch, ?_⟩ <;> rw [hflash, Flash.copyBegun]
    · split <;> rfl
    · split <;> exact ⟨rfl, rfl⟩

/-! A state that meets the premises of the clauses. -/

/-- A device in service from slot 1, with the management port at level 2.0, a stopped jig of one END and a running one. -/
def State.inService : State :=
  { State.reset with
    aon := { State.reset.aon with ready := 0xFFFFF, clkEn := 0xFFFF }
    cl := { State.reset.cl with mgt := { level := 0x0200 } }
    dowel := { State.reset.dowel with
      runSlot := 1
      jigs := [{ state := 3, image := [0x23], stepLimit := 1 }, { state := 2 }] } }

theorem inService_takes {i sub : Nat} {val : List Byte} (h : State.inService.writePasses .mgt i sub val = true) :
    State.inService.takes .mgt i sub val := ⟨⟨rfl, rfl, rfl⟩, by decide, h⟩

/-- O55 at the faulted jig's start. -/
theorem inService_starts : AnswersByFirmware (.jigStart .mgt 0 [1]) .mgt State.inService (fun t => (t.jig 0).state = 2) :=
  (jigStart_starts (val := [1]) (by decide) (by decide) (inService_takes (by decide)) (by decide)
    (by decide)).mono fun _ ⟨_, hjig, _⟩ => by rw [hjig]; rfl

/-- O55 at the running jig's stop. -/
theorem inService_stops : AnswersByFirmware (.jigStop .mgt 1 [2]) .mgt State.inService (fun t => (t.jig 1).state = 1) :=
  (jigStop_stops (val := [2]) (by decide) (by decide) (inService_takes (by decide)) (by decide)
    (by decide)).mono fun _ ⟨_, hjig, _⟩ => by rw [hjig]; rfl

/-- O55 at the faulted jig's reset. -/
theorem inService_resets : AnswersByFirmware (.jigReset .mgt 0 [3]) .mgt State.inService (fun t =>
    (t.jig 0).state = 1 ∧ (t.jig 0).image = [0x23]) :=
  (jigReset_clears (val := [3]) (by decide) (by decide) (inService_takes (by decide)) (by decide)
    (by decide)).mono fun _ ⟨_, hjig, _⟩ => by rw [hjig]; exact ⟨rfl, rfl⟩

/-- O55 at the commit of slot 1. -/
theorem inService_commits : AnswersByFirmware (.commitSlot .mgt [1]) .mgt State.inService (fun t =>
    ∃ e l, t.flash.hdr = e :: l ∧ e.active = 1) :=
  (commitSlot_commits (val := [1]) (inService_takes (by decide)) rfl (by decide) rfl).mono
    fun _ ⟨_, e, l, hl, he⟩ => ⟨e, l, hl, by rw [he]; rfl⟩

/-- O55 at a write of slot 2, the one not in service, through channel 14. -/
theorem inService_writesSlot : Answers (.flashImageWrite .mgt [1]) State.inService (fun t =>
    t.flash.imgCopy = 1 ∧ (t.dmaCh 14).state = 5) := by
  obtain ⟨t, ht, _, _, hflash, hch⟩ := flashImageWrite_begins (s := State.inService) (val := [1]) (inService_takes (by decide))
    (by decide) (by decide) rfl (by decide) (by decide) rfl
  exact ⟨t, ht, by rw [hflash]; rfl, hch⟩

end Sys2Proof.Machine

/-! Frames that leave: what sending leaves of the node, and what a link that is down holds (R126 to R130). -/

namespace Sys2Proof.Machine

open Sys2Proof

/-! Beside the lanes. -/

/-- A link but for what its lanes hold. -/
def Link.bare (k : Link) : Link := { k with bulk := {}, prio := {} }

/-- The port and the membership, but for what the lanes hold and the count of discarded frames. -/
def Chain.bare (c : Chain) : Chain := { c with up := c.up.bare, dn := c.dn.bare, discarded := 0 }

/-- What is read off the membership alone is the same where the membership is. -/
theorem Chain.of_bare {c d : Chain} (h : c.bare = d.bare) {α : Type} (g : Chain → α)
    (hg : ∀ c, g c.bare = g c) : g c = g d := by
  rw [← hg c, h, hg]

/-- From s to t frames alone have moved: beside the lanes, the count of discarded frames and the counters t is s. -/
structure State.sentFrom (t s : State) : Prop where
  /-- Every unit but the chain port and the counters. -/
  view : t.view 15728631 = s.view 15728631
  /-- The port and the membership beside the lanes. -/
  chain : t.chain.bare = s.chain.bare
  /-- Whether the device stands still. -/
  still : t.obs.standing = s.obs.standing

theorem State.sentFrom.refl (s : State) : s.sentFrom s := ⟨rfl, rfl, rfl⟩

theorem State.sentFrom.trans {u t s : State} (h : u.sentFrom t) (h' : t.sentFrom s) : u.sentFrom s :=
  ⟨h.view.trans h'.view, h.chain.trans h'.chain, h.still.trans h'.still⟩

theorem State.sentFrom.get {t s : State} (h : t.sentFrom s) {α : Type} (g : Chain → α)
    (hg : ∀ c, g c.bare = g c) : g t.chain = g s.chain :=
  Chain.of_bare h.chain g hg

theorem State.sentFrom.aon {t s : State} (h : t.sentFrom s) : t.aon = s.aon := view_aon h.view (by decide)

theorem State.sentFrom.obj {t s : State} (h : t.sentFrom s) : t.obj = s.obj := view_obj h.view (by decide)

theorem State.sentFrom.cl {t s : State} (h : t.sentFrom s) : t.cl = s.cl := view_cl h.view (by decide)

theorem State.sentFrom.cap {t s : State} (h : t.sentFrom s) : t.cap = s.cap := view_cap h.view (by decide)

theorem State.sentFrom.dove {t s : State} (h : t.sentFrom s) : t.dove = s.dove := view_dove h.view (by decide)

theorem State.sentFrom.therm {t s : State} (h : t.sentFrom s) : t.therm = s.therm := view_therm h.view (by decide)

theorem State.sentFrom.flash {t s : State} (h : t.sentFrom s) : t.flash = s.flash := view_flash h.view (by decide)

theorem State.sentFrom.inst {t s : State} (h : t.sentFrom s) : t.inst = s.inst := view_inst h.view

theorem State.sentFrom.role {t s : State} (h : t.sentFrom s) : t.chain.role = s.chain.role := h.get Chain.role fun _ => rfl

theorem State.sentFrom.isRoot {t s : State} (h : t.sentFrom s) : t.isRoot = s.isRoot := by
  rw [State.isRoot, State.isRoot, h.role]

theorem State.sentFrom.num {t s : State} (h : t.sentFrom s) (i sub : Nat) : t.num i sub = s.num i sub :=
  State.num_of_obj h.obj i sub

/-- A link is the same beside its lanes. -/
theorem State.sentFrom.link {t s : State} (h : t.sentFrom s) (l : Side) : (t.link l).bare = (s.link l).bare := by
  cases l with
  | up => exact h.get (fun c => c.up.bare) fun _ => rfl
  | dn => exact h.get (fun c => c.dn.bare) fun _ => rfl

theorem State.sentFrom.linkUp {t s : State} (h : t.sentFrom s) (l : Side) : (t.link l).linkUp = (s.link l).linkUp :=
  (congrArg Link.linkUp (h.link l) :)

/-! Links and lanes. -/

theorem State.link_updLink (s : State) (l : Side) (f : Link → Link) : (s.updLink l f).link l = f (s.link l) := by
  cases l <;> rfl

theorem State.link_updLink_ne (s : State) {l m : Side} (f : Link → Link) (h : m ≠ l) : (s.updLink l f).link m = s.link m := by
  cases l with
  | up =>
    cases m with
    | up => exact absurd rfl h
    | dn => rfl
  | dn =>
    cases m with
    | up => rfl
    | dn => exact absurd rfl h

theorem otherSide_ne (l : Side) : otherSide l ≠ l := by cases l <;> decide

theorem Link.lane_updLane (k : Link) (prio : Bool) (f : Lane → Lane) : (k.updLane prio f).lane prio = f (k.lane prio) := by
  cases prio <;> rfl

theorem Link.lane_updLane_not (k : Link) (prio : Bool) (f : Lane → Lane) : (k.updLane prio f).lane (!prio) = k.lane (!prio) := by
  cases prio <;> rfl

theorem Link.bare_updLane (k : Link) (prio : Bool) (f : Lane → Lane) : (k.updLane prio f).bare = k.bare := by
  cases prio <;> rfl

theorem State.updLink_sentFrom (s : State) (l : Side) {f : Link → Link} (hf : ∀ k, (f k).bare = k.bare) :
    (s.updLink l f).sentFrom s := by
  refine ⟨State.updLink_view (k := 15728631) (by decide) s l f, ?_, ?_⟩
  · cases l <;> simp only [State.updLink, Chain.bare, hf]
  · cases l <;> rfl

theorem State.updLane_sentFrom (s : State) (l : Side) (prio : Bool) (f : Lane → Lane) : (s.updLane l prio f).sentFrom s :=
  s.updLink_sentFrom l fun k => k.bare_updLane prio f

/-! Sending. -/

theorem State.count_sentFrom (s : State) (c d : Nat) : (s.count c d).sentFrom s :=
  ⟨State.count_view (k := 15728631) (by decide) s c d, by rw [State.count_chain], rfl⟩

theorem pumpLink_sentFrom (l : Side) (s : State) : (pumpLink l s).sentFrom s := by
  unfold pumpLink
  split
  · exact .refl s
  · exact (State.count_sentFrom _ _ _).trans (s.updLink_sentFrom l fun _ => rfl)

theorem discardFrame_sentFrom (s : State) : (discardFrame s).sentFrom s := ⟨rfl, rfl, rfl⟩

theorem sendOn_sentFrom (l : Side) (f : Frame) (s : State) : (sendOn l f s).sentFrom s := by
  unfold sendOn
  split
  · exact discardFrame_sentFrom s
  · exact (pumpLink_sentFrom l _).trans (s.updLink_sentFrom l fun k => k.bare_updLane _ _)

theorem sendAll_sentFrom (l : Side) (fs : List Frame) (s : State) : (sendAll l fs s).sentFrom s := by
  induction fs generalizing s with
  | nil => exact .refl s
  | cons f fs ih => exact (ih _).trans (sendOn_sentFrom l f s)

theorem sendTo_sentFrom (type dst : Nat) (prio : Bool) (p : List Nat) (s : State) : (sendTo type dst prio p s).sentFrom s := by
  unfold sendTo
  split
  · exact sendAll_sentFrom _ _ s
  · exact discardFrame_sentFrom s

theorem broadcast_sentFrom (type : Nat) (prio : Bool) (p : List Nat) (s : State) : (broadcast type prio p s).sentFrom s := by
  unfold broadcast
  dsimp only
  refine (sendAll_sentFrom _ _ _).trans ?_
  split
  · exact .refl s
  · exact sendAll_sentFrom _ _ s

theorem forward_sentFrom (l : Side) (f : Frame) (s : State) : (forward l f s).sentFrom s := by
  unfold forward
  dsimp only
  split
  · exact sendOn_sentFrom _ _ s
  · split
    · exact .refl s
    · split
      · exact discardFrame_sentFrom s
      · exact sendOn_sentFrom _ _ s

/-! A link that is down takes no frame (R126, R129). -/

theorem pumpLink_link_ne {l m : Side} (s : State) (h : m ≠ l) : (pumpLink l s).link m = s.link m := by
  unfold pumpLink
  split
  · rfl
  · exact State.link_updLink_ne _ _ h

theorem sendOn_link_ne {l m : Side} (f : Frame) (s : State) (h : m ≠ l) : (sendOn l f s).link m = s.link m := by
  unfold sendOn
  split
  · cases m <;> rfl
  · rw [pumpLink_link_ne _ h, State.link_updLink_ne _ _ h]

theorem sendOn_link_down {m : Side} (l : Side) (f : Frame) {s : State} (h : (s.link m).linkUp = false) :
    (sendOn l f s).link m = s.link m := by
  by_cases hm : m = l
  · unfold sendOn
    rw [if_pos (by rw [← hm, h]; rfl)]
    cases m <;> rfl
  · exact sendOn_link_ne f s hm

theorem sendAll_link_down {m : Side} (l : Side) (fs : List Frame) {s : State} (h : (s.link m).linkUp = false) :
    (sendAll l fs s).link m = s.link m := by
  induction fs generalizing s with
  | nil => rfl
  | cons f fs ih =>
    have hf := sendOn_link_down l f h
    exact (ih (by rw [hf, h])).trans hf

theorem sendTo_link_down {m : Side} (type dst : Nat) (prio : Bool) (p : List Nat) {s : State} (h : (s.link m).linkUp = false) :
    (sendTo type dst prio p s).link m = s.link m := by
  unfold sendTo
  split
  · exact sendAll_link_down _ _ h
  · cases m <;> rfl

theorem broadcast_link_down {m : Side} (type : Nat) (prio : Bool) (p : List Nat) {s : State} (h : (s.link m).linkUp = false) :
    (broadcast type prio p s).link m = s.link m := by
  unfold broadcast
  dsimp only
  split
  · exact sendAll_link_down _ _ h
  · have hu := sendAll_link_down .up (splitMsg type 0x1F s.chain.addr prio 17 p) h
    exact (sendAll_link_down _ _ (by rw [hu, h])).trans hu

end Sys2Proof.Machine

/-! A whole message of one frame that reaches the node: its links answer and carry it on, and its action takes the payload (R125
to R128). -/

namespace Sys2Proof.Machine

open Sys2Proof

theorem kvDel_of_none {α : Type} {l : List (Nat × α)} {n : Nat} (h : kvGet l n = none) : kvDel l n = l := by
  induction l with
  | nil => rfl
  | cons p l ih =>
    obtain ⟨k, w⟩ := p
    by_cases hk : k = n
    · simp [kvGet, hk] at h
    · simp only [kvGet, if_neg hk] at h
      simp only [kvDel, if_neg (Ne.symm hk), ih h]

theorem State.sentFrom.frameOk {t s : State} (h : t.sentFrom s) (f : Frame) : t.frameOk f = s.frameOk f := by
  unfold State.frameOk
  rw [h.get Chain.partial_ fun _ => rfl]

theorem State.sentFrom.consumes {t s : State} (h : t.sentFrom s) (f : Frame) : t.consumes f = s.consumes f := by
  unfold State.consumes
  rw [h.get Chain.addr fun _ => rfl, h.role]

/-- A message that comes whole in one frame goes to its action as it came. -/
theorem reassemble_whole {f : Frame} {s : State} (k : List Nat → State → State) (hm : f.more = false)
    (hp : kvGet s.chain.partial_ (partialKey f) = none) : reassemble f k s = k f.payload s := by
  unfold reassemble
  dsimp only
  rw [hm, hp, kvDel_of_none hp, if_neg (by decide)]
  rfl

theorem frameGood_hears {l : Side} {f : Frame} {s u : State} (k : List Nat → State → State) (hu : u.sentFrom s)
    (hroot : ¬(l = .up ∧ s.isRoot = true)) (hok : s.frameOk f = true) (hm : f.more = false)
    (hp : kvGet s.chain.partial_ (partialKey f) = none) (hmine : f.dst = 0x1F ∨ s.consumes f = true) :
    ∃ t, t.sentFrom s ∧ frameGood l f k u = k f.payload t := by
  have ht := (forward_sentFrom l f u).trans hu
  refine ⟨_, ht, ?_⟩
  have hmine' : (decide (f.dst = 0x1F) || u.consumes f) = true := by
    rw [hu.consumes]
    simpa using hmine
  unfold frameGood
  rw [hu.isRoot, hu.frameOk, if_neg (by simpa using hroot), if_neg (by rw [hok]; decide)]
  dsimp only
  rw [if_pos hmine', reassemble_whole k hm (by rw [ht.get Chain.partial_ fun _ => rfl, hp])]

/-- A message that the node hears goes to its action in a state in which frames alone have moved. -/
theorem frameIn_hears {l : Side} {type : Nat} {f : Frame} {s : State} (k : List Nat → State → State)
    (h : s.hearsFrame l type f) : ∃ t, t.sentFrom s ∧ frameIn l type f k s = k f.payload t := by
  obtain ⟨hon, hroot, htype, hawait, hok, hm, hp, hmine⟩ := h
  have hin : frameIn l type f k s =
      frameGood l f k (s.updLane l f.prio (fun a => { a with answer := some (true, f.seq) })) := by
    unfold frameIn
    rw [if_neg (by rw [hon, htype]; simp), hawait]
  rw [hin]
  exact frameGood_hears k (s.updLane_sentFrom ..) hroot hok hm hp hmine

end Sys2Proof.Machine

/-! The links of the chain (O47): lock, acknowledgement, and what a link going down takes with it (R121, R127 to R129, R148). -/

namespace Sys2Proof.Machine

open Sys2Proof

/-! Events and time. -/

/-- An event leaves the always-on island but for the early buffer (R60). -/
theorem raise_early (c v a b : Nat) (s : State) {α : Type} (g : Aon → α)
    (hg : ∀ (x : Aon) b l, g { x with earlyBuf := b, earlyLost := l } = g x) :
    g (raise c v a b s).aon = g s.aon := by
  obtain ⟨x, y, h⟩ := raise_aon c v a b s
  rw [h, hg]

theorem raise_clock (c v a b : Nat) (s : State) : (raise c v a b s).aon.clock = s.aon.clock :=
  raise_early c v a b s Aon.clock fun _ _ _ => rfl

theorem raise_fqIrq (c v a b : Nat) (s : State) : (raise c v a b s).aon.fqIrq = s.aon.fqIrq :=
  raise_early c v a b s Aon.fqIrq fun _ _ _ => rfl

theorem State.link_of_chain {s t : State} (h : t.chain = s.chain) (l : Side) : t.link l = s.link l := by
  cases l <;> simp only [State.link, h]

theorem State.isRoot_of_chain {s t : State} (h : t.chain = s.chain) : t.isRoot = s.isRoot := by
  rw [State.isRoot, State.isRoot, h]

theorem advanceTo_link (d : Nat) (s : State) (l : Side) : (advanceTo d s).link l = s.link l :=
  State.link_of_chain (advanceTo_chain d s) l

theorem advanceTo_clock {s : State} (d : Nat) (h : s.aon.porN = true) : (advanceTo d s).aon.clock = max s.aon.clock d := by
  rw [advanceTo_aon d s h]

/-! Lock (R121). -/

theorem rejoinTry_sentFrom (s : State) : (rejoinTry s).sentFrom s := by
  unfold rejoinTry
  split
  · exact sendOn_sentFrom _ _ s
  · exact .refl s

/-- ENUM that leaves is counted, and its first is noted (R135). -/
theorem sendEnum_sentFrom (s : State) : (sendEnum s).sentFrom { s with chain := { s.chain with
    enumSent := s.chain.enumSent + 1, enumFirstAt := some (s.chain.enumFirstAt.getD s.aon.clock) } } :=
  sendAll_sentFrom _ _ _

theorem sendEnum_link (s : State) (l : Side) : ((sendEnum s).link l).bare = (s.link l).bare := by
  rw [(sendEnum_sentFrom s).link l]
  cases l <;> rfl

theorem forwardToken_link (s : State) (l : Side) : ((forwardToken s).link l).bare = (s.link l).bare := by
  have hsend := (sendAll_sentFrom .dn (splitMsg 1 0 0 false 1 s.tokenSyms) s).link l
  unfold forwardToken
  split
  · rfl
  · split
    · split
      · exact sendEnum_link s l
      · rfl
    · rw [← hsend]
      cases l <;> rfl

theorem linkLockGain_gains {l : Side} {s : State} (hc : s.aon.ctlReleased = true)
    (hn : ((s.link l).lock && (s.link l).linkUp) = false) : Answers (.linkLockGain l) s (fun t =>
      (t.link l).lock = true ∧ (t.link l).linkUp = true ∧ (t.link l).lockLostAt = none ∧
      (t.link (otherSide l)).linkUp = (s.link (otherSide l)).linkUp) := by
  let u := s.updLink l (fun k => { k with lock := true, linkUp := true, lockLostAt := none })
  have key : ∀ v : State, (∀ m, (v.link m).bare = (u.link m).bare) →
      ((pumpLink l v).link l).lock = true ∧ ((pumpLink l v).link l).linkUp = true ∧
      ((pumpLink l v).link l).lockLostAt = none ∧
      ((pumpLink l v).link (otherSide l)).linkUp = (s.link (otherSide l)).linkUp := fun v hv => by
    have h m := ((pumpLink_sentFrom l v).link m).trans (hv m)
    have hl := h l
    have ho := h (otherSide l)
    rw [State.link_updLink] at hl
    rw [State.link_updLink_ne _ _ (otherSide_ne l)] at ho
    exact ⟨(congrArg Link.lock hl :), (congrArg Link.linkUp hl :), (congrArg Link.lockLostAt hl :), (congrArg Link.linkUp ho :)⟩
  refine ⟨_, if_neg (by rw [hc, hn]; decide), key _ fun m => ?_⟩
  split
  · rfl
  · cases l with
    | up =>
      dsimp only
      split
      · exact congrArg Link.bare (State.link_of_chain (raise_chain ..) m)
      · exact (rejoinTry_sentFrom _).link m
    | dn => exact forwardToken_link _ m

theorem loseLock_link (l : Side) (s : State) :
    (loseLock l s).link l = { s.link l with lock := false, lockLostAt := some s.aon.clock } := State.link_updLink ..

theorem State.updLink_obj (s : State) (l : Side) (f : Link → Link) : (s.updLink l f).obj = s.obj := by
  cases l <;> rfl

theorem linkCount_num (l : Side) (n d : Nat) (s : State) : (linkCount l n d s).num 0x2101 (linkBase l + n) =
    min 0xFFFFFFFF (s.num 0x2101 (linkBase l + n) + d) := s.num_put_same ..

theorem linkCount_link (l : Side) (n d : Nat) (s : State) (m : Side) : (linkCount l n d s).link m = s.link m := by
  cases m <;> rfl

/-! Acknowledgement and replay (R127, R128). -/

theorem pumpLane_nothing (prio : Bool) (now : Nat) (a : Lane) : pumpLane prio now 0 a = a := rfl

/-- With nothing waiting on a link nothing starts on it. -/
theorem pumpLink_idle {l : Side} {s : State} (hp : (s.link l).prio.waiting = []) (hb : (s.link l).bulk.waiting = []) :
    (pumpLink l s).link l = s.link l := by
  unfold pumpLink
  split
  · rfl
  · dsimp only
    rw [hp, hb]
    exact State.link_updLink s l _

theorem ackIn_frees {l : Side} {prio : Bool} {seq i : Nat} {s : State} (hon : s.linkOn l = true)
    (hi : ((s.link l).lane prio).find seq = some i) (hp : ((s.link l).lane true).waiting = [])
    (hb : ((s.link l).lane false).waiting = []) : (ackIn l prio seq s).link l =
      (s.link l).updLane prio (fun a => { a with replay := a.replay.drop (i + 1), sentAts := a.sentAts.drop (i + 1), naks := 0 }) := by
  unfold ackIn
  rw [if_neg (by rw [hon]; decide), hi]
  dsimp only
  rw [pumpLink_idle, State.updLane, State.link_updLink] <;> rw [State.updLane, State.link_updLink] <;> cases prio
  · exact hp
  · exact hp
  · exact hb
  · exact hb

theorem State.lane_updLane (s : State) (l : Side) (prio : Bool) (f : Lane → Lane) :
    ((s.updLane l prio f).link l).lane prio = f ((s.link l).lane prio) := by
  rw [State.updLane, State.link_updLink, Link.lane_updLane]

/-- A NAK counts against its frame, and the fourth takes the link down (R127, R129). -/
theorem nakReceive_eq {l : Side} {prio : Bool} {seq i : Nat} {s : State} (hon : s.linkOn l = true)
    (hi : ((s.link l).lane prio).find seq = some i) : exec (.nakReceive l prio seq) s =
      if 4 ≤ (nakLane s.aon.clock seq i ((s.link l).lane prio)).naks then
        .next (linkDown l (s.updLane l prio (nakLane s.aon.clock seq i)))
      else .next (linkCount l 3 (((s.link l).lane prio).replay.length - i) (s.updLane l prio (nakLane s.aon.clock seq i))) := by
  show execNakReceive l prio seq s = _
  unfold execNakReceive
  rw [if_neg (by rw [hon]; decide), hi]
  dsimp only
  rw [State.lane_updLane]

/-- What forwarding a void frame leaves: the link it came on. -/
theorem forwardVoid_link (l : Side) (f : Frame) (s : State) : (forwardVoid l f s).link l = s.link l := by
  unfold forwardVoid
  extract_lets out
  split
  · rfl
  · rename_i h
    refine State.link_updLink_ne _ _ fun e => h ?_
    rw [← e]
    simp

theorem forwardVoid_num (l : Side) (f : Frame) (s : State) (i sub : Nat) : (forwardVoid l f s).num i sub = s.num i sub :=
  State.num_of_obj (view_obj (forwardVoid_view (k := 2) (by decide) l f s) (by decide)) i sub

theorem frameBad_awaits {l : Side} {f : Frame} {s : State} (hon : s.linkOn l = true)
    (ha : ((s.link l).lane f.prio).awaitSeq = none) :
    ((frameBad l f s).link l).lane f.prio =
      { (s.link l).lane f.prio with awaitSeq := some f.seq, answer := some (false, f.seq) } ∧
    (frameBad l f s).num 0x2101 (linkBase l + 2) = min 0xFFFFFFFF (s.num 0x2101 (linkBase l + 2) + 1) := by
  have key : ∀ u : State, u.link l = s.link l →
      u.num 0x2101 (linkBase l + 2) = min 0xFFFFFFFF (s.num 0x2101 (linkBase l + 2) + 1) →
      let a := (u.link l).lane f.prio
      let t := if a.awaitSeq.isSome && a.awaitSeq != some f.seq then u
        else u.updLane l f.prio (fun a => { a with awaitSeq := some f.seq, answer := some (false, f.seq) })
      (t.link l).lane f.prio = { (s.link l).lane f.prio with awaitSeq := some f.seq, answer := some (false, f.seq) } ∧
        t.num 0x2101 (linkBase l + 2) = min 0xFFFFFFFF (s.num 0x2101 (linkBase l + 2) + 1) := fun u hl hn => by
    dsimp only
    rw [hl, ha, if_neg (by simp), State.lane_updLane, hl, (u.updLane_sentFrom l f.prio _).num]
    exact ⟨rfl, hn⟩
  unfold frameBad
  rw [if_neg (by rw [hon]; decide)]
  refine key _ ?_ ?_ <;> split
  · exact linkCount_link ..
  · exact (forwardVoid_link ..).trans (linkCount_link ..)
  · exact linkCount_num l 2 1 s
  · exact (forwardVoid_num ..).trans (linkCount_num l 2 1 s)

theorem framePoison_voids {f : Frame} {s : State} (hon : s.linkOn .up = true) (hr : s.isRoot = false)
    (hd : s.chain.dn.linkUp = true) (hf : f.dst = 0x1F) :
    framePoison .up f s = s.updLane .dn f.prio (fun a => { a with voided := a.voided + 1 }) := by
  unfold framePoison
  rw [if_neg (by rw [hon, hr]; decide)]
  unfold forwardVoid
  rw [hf]
  exact if_neg (by simp [otherSide, State.link, hd])

/-! The root's change in progress ends (R143). -/

theorem hearAbort_eq (txid : Nat) (s : State) : ∃ o p, hearAbort txid s = { s with obj := o, chain := { s.chain with preps := p } } := by
  unfold hearAbort
  split
  · exact ⟨_, _, rfl⟩
  · exact ⟨s.obj, s.chain.preps, rfl⟩

/-- The state in which the root has dropped its open transaction and noted its decision (R142). -/
def State.decided (s : State) (txid : Nat) (yes : Bool) (o : Obj) (p : List Prep) : State :=
  { s with obj := o, chain := { s.chain with
      preps := p, txn := none, decisions := ((txid, yes) :: s.chain.decisions).take 16 } }

theorem abortTxn_eq (t : Txn) (s : State) : ∃ o p, abortTxn t s = broadcast 13 true [t.txid] (s.decided t.txid false o p) := by
  obtain ⟨o, p, h⟩ := hearAbort_eq t.txid s
  unfold abortTxn
  dsimp only
  rw [h]
  split
  · exact ⟨o, p, rfl⟩
  · exact ⟨_, s.chain.preps, rfl⟩

theorem abortTxn_sentFrom (t : Txn) (s : State) : ∃ o p, (abortTxn t s).sentFrom (s.decided t.txid false o p) := by
  obtain ⟨o, p, h⟩ := abortTxn_eq t s
  exact ⟨o, p, h ▸ broadcast_sentFrom _ _ _ _⟩

theorem abortTxn_link_down {m : Side} (t : Txn) {s : State} (h : (s.link m).linkUp = false) :
    (abortTxn t s).link m = s.link m := by
  obtain ⟨o, p, ha⟩ := abortTxn_eq t s
  have hd : (s.decided t.txid false o p).link m = s.link m := by cases m <;> rfl
  rw [ha, broadcast_link_down _ _ _ (by rw [hd, h]), hd]

/-! A loss at the root (R143, R149, R152). -/

theorem relayLost_none (a : Nat) {s : State} (h : s.therm.relays = []) : relayLost a s = s := by
  unfold relayLost
  rw [h]
  rfl

/-- Without relayed words a loss ends none (R392). -/
theorem memberLost_eq (m reason : Nat) {s : State} (h : s.therm.relays = []) :
    memberLost m reason s = noteLost m (assertIrq (raise 0x0605 2 m reason (moveLost m s))) := by
  have ht : (noteLost m (assertIrq (raise 0x0605 2 m reason (moveLost m s)))).therm.relays = [] := by
    rw [view_therm (noteLost_view (k := 16384) (by decide) ..) (by decide), assertIrq_therm, raise_therm]
    exact h
  exact forEach_keeps (P := (· = noteLost m (assertIrq (raise 0x0605 2 m reason (moveLost m s))))) _
    (fun k t e => by rw [e, relayLost_none k ht]) rfl

theorem memberLost_chain (m reason : Nat) {s : State} (h : s.therm.relays = []) :
    (memberLost m reason s).chain = (moveLost m s).chain := by
  rw [memberLost_eq m reason h, view_chain (noteLost_view (k := 8) (by decide) ..) (by decide), assertIrq_chain, raise_chain]

/-- A loss is told on FQ_IRQ, and the clock stands. -/
theorem memberLost_aon (m reason : Nat) {s : State} (h : s.therm.relays = []) :
    (memberLost m reason s).aon.fqIrq = true ∧ (memberLost m reason s).aon.clock = s.aon.clock := by
  rw [memberLost_eq m reason h, view_aon (noteLost_view (k := 1) (by decide) ..) (by decide)]
  exact ⟨rfl, raise_clock ..⟩

/-- The members that a loss at the root concerns. -/
def State.lostOf (s : State) (mask : Nat) : Nat :=
  maskOf ((bitsOf 32 mask).filter (fun a => bit s.chain.memberMask a && a != s.chain.addr))

/-- The root has noted a loss and told the members, before the change in progress ends. -/
def rootNotes (m reason : Nat) (s : State) : State :=
  let u := forEach (bitsOf 32 m) holdOut (broadcast 4 true [m, reason] (memberLost m reason
    { s with chain := { s.chain with losses := s.lossesAfter m } }))
  { u with cap := { u.cap with memTelem := u.cap.memTelem.filter (fun x => !bit m x.1) } }

/-- The change in progress ends. -/
def endTxn (s : State) : State :=
  match s.chain.txn with
  | some t => abortTxn t s
  | none => s

theorem rootLost_none {mask : Nat} (reason : Nat) {s : State} (h : s.lostOf mask = 0) : rootLost mask reason s = s := if_pos h

/-- The redistribution's records stand ahead in the queue, and no retry stands. -/
def State.redistributed (s : State) (n : Nat) (q : List BudRec) : State :=
  { s with free := n, chain := { s.chain with budQueue := q, retryRecs := [], retryAt := none } }

theorem rootLost_eq {mask : Nat} (reason : Nat) {s : State} (h : s.lostOf mask ≠ 0) :
    ∃ n q, rootLost mask reason s = (endTxn (rootNotes (s.lostOf mask) reason s)).redistributed n q := by
  unfold rootLost
  extract_lets m _ _ _ _ _ u
  rw [if_neg (show ¬m = 0 from h), show rootNotes (s.lostOf mask) reason s = u from rfl]
  clear_value u
  unfold endTxn
  cases u.chain.txn with
  | none => exact ⟨_, _, rfl⟩
  | some t => exact ⟨_, _, rfl⟩

/-- What the hold-outs of a loss leave (R152): the mask of members held out changes, and events stand in the early buffer. -/
theorem holdOuts_keep (l : List Nat) (s : State) : (∃ x, (forEach l holdOut s).chain = { s.chain with heldMask := x }) ∧
    (forEach l holdOut s).aon.clock = s.aon.clock ∧ (forEach l holdOut s).aon.fqIrq = s.aon.fqIrq := by
  refine forEach_keeps (P := fun t => (∃ x, t.chain = { s.chain with heldMask := x }) ∧
    t.aon.clock = s.aon.clock ∧ t.aon.fqIrq = s.aon.fqIrq) l (fun a t ht => ?_) ⟨⟨_, rfl⟩, rfl, rfl⟩
  obtain ⟨⟨x, hx⟩, hc, hf⟩ := ht
  unfold holdOut
  split
  · refine ⟨⟨putBit t.chain.heldMask a true, ?_⟩, (raise_clock ..).trans hc, (raise_fqIrq ..).trans hf⟩
    rw [raise_chain, State.with_chain_chain, hx]
  · exact ⟨⟨x, hx⟩, hc, hf⟩

/-- The state in which a loss at the root is noted. -/
def State.noting (s : State) (m : Nat) : State :=
  moveLost m { s with chain := { s.chain with losses := s.lossesAfter m } }

/-- What a noted loss leaves at a root without relayed words: its masks, the link that is down, the clock and FQ_IRQ. -/
theorem rootNotes_keep (m reason : Nat) {s : State} (h : s.therm.relays = []) :
    (∃ x, (rootNotes m reason s).chain.bare = { (s.noting m).chain.bare with heldMask := x }) ∧
    (rootNotes m reason s).aon.clock = s.aon.clock ∧ (rootNotes m reason s).aon.fqIrq = true := by
  let n : State := { s with chain := { s.chain with losses := s.lossesAfter m } }
  have hchain := memberLost_chain m reason (s := n) h
  obtain ⟨hirq, hclock⟩ := memberLost_aon m reason (s := n) h
  have hb := broadcast_sentFrom 4 true [m, reason] (memberLost m reason n)
  obtain ⟨⟨x, hx⟩, hc, hf⟩ := holdOuts_keep (bitsOf 32 m) (broadcast 4 true [m, reason] (memberLost m reason n))
  refine ⟨⟨x, ?_⟩, ?_, ?_⟩
  · have e : (rootNotes m reason s).chain.bare =
        { (broadcast 4 true [m, reason] (memberLost m reason n)).chain.bare with heldMask := x } := congrArg Chain.bare hx
    rw [e, hb.chain, hchain]
    rfl
  · exact hc.trans ((congrArg Aon.clock hb.aon).trans hclock)
  · exact hf.trans ((congrArg Aon.fqIrq hb.aon).trans hirq)

theorem rootNotes_link_down (l : Side) (m reason : Nat) {s : State} (h : s.therm.relays = []) (hd : (s.link l).linkUp = false) :
    (rootNotes m reason s).link l = s.link l := by
  let n : State := { s with chain := { s.chain with losses := s.lossesAfter m } }
  have hm : (memberLost m reason n).link l = s.link l := by
    rw [State.link_of_chain (memberLost_chain m reason (s := n) h)]
    cases l <;> rfl
  have hb := broadcast_link_down 4 true [m, reason] (s := memberLost m reason n) (by rw [hm, hd])
  obtain ⟨⟨x, hx⟩, -, -⟩ := holdOuts_keep (bitsOf 32 m) (broadcast 4 true [m, reason] (memberLost m reason n))
  have hh : (rootNotes m reason s).link l = (broadcast 4 true [m, reason] (memberLost m reason n)).link l := by
    cases l with
    | up => exact (congrArg Chain.up hx :)
    | dn => exact (congrArg Chain.dn hx :)
  rw [hh, hb, hm]

theorem endTxn_aon (s : State) : (endTxn s).aon = s.aon := by
  unfold endTxn
  split
  · exact view_aon (abortTxn_view (k := 1) (by decide) _ s) (by decide)
  · rfl

theorem endTxn_link_down {l : Side} {s : State} (h : (s.link l).linkUp = false) : (endTxn s).link l = s.link l := by
  unfold endTxn
  split
  · exact abortTxn_link_down _ h
  · rfl

/-- A loss at the root leaves a link that is down, and the clock. -/
theorem rootLost_keeps {l : Side} (mask reason : Nat) {s : State} (hr : s.therm.relays = []) (hd : (s.link l).linkUp = false) :
    (rootLost mask reason s).link l = s.link l ∧ (rootLost mask reason s).aon.clock = s.aon.clock := by
  by_cases h : s.lostOf mask = 0
  · rw [rootLost_none reason h]
    exact ⟨rfl, rfl⟩
  · obtain ⟨n, q, he⟩ := rootLost_eq reason h
    have hl := rootNotes_link_down l (s.lostOf mask) reason hr hd
    obtain ⟨-, hc, -⟩ := rootNotes_keep (s.lostOf mask) reason hr
    have hk : ∀ u : State, (u.redistributed n q).link l = u.link l := fun u => by cases l <;> rfl
    rw [he, hk, endTxn_link_down (by rw [hl, hd])]
    exact ⟨hl, (congrArg Aon.clock (endTxn_aon _)).trans hc⟩

/-! A link goes down (R129, R148). -/

/-- A lane whose frames are lost. -/
def Lane.emptied (a : Lane) : Lane :=
  { a with waiting := [], replay := [], sentAts := [], naks := 0, awaitSeq := none, answer := none }

/-- A link that is down. -/
def Link.downed (k : Link) : Link :=
  { k with lock := false, linkUp := false, lockLostAt := none, bulk := k.bulk.emptied, prio := k.prio.emptied }

theorem dropLink_link (l : Side) (s : State) : (dropLink l s).link l = (s.link l).downed := by
  cases l <;> rfl

theorem dropLink_role (l : Side) (s : State) : (dropLink l s).chain.role = s.chain.role := by
  cases l <;> rfl

theorem dropLink_keep (l : Side) (s : State) : (dropLink l s).aon = s.aon ∧ (dropLink l s).therm = s.therm :=
  ⟨view_aon (dropLink_view (k := 1) (by decide) l s) (by decide), view_therm (dropLink_view (k := 16384) (by decide) l s) (by decide)⟩

theorem isolate_link (s : State) (l : Side) : (isolate s).link l = s.link l := by
  unfold isolate
  split <;> cases l <;> rfl

/-- The loss action of a link that is down leaves it and the clock. -/
theorem lossAction_keeps {l : Side} {s : State} (hd : (s.link l).linkUp = false)
    (hr : l = .up ∨ s.isRoot = false ∨ s.therm.relays = []) :
    (lossAction l s).link l = s.link l ∧ (lossAction l s).aon.clock = s.aon.clock := by
  unfold lossAction
  split
  · exact ⟨rfl, rfl⟩
  · cases l with
    | up =>
      dsimp only
      split
      · exact ⟨rfl, rfl⟩
      · rw [isolate_link, view_aon (isolate_view (k := 1) (by decide) _) (by decide)]
        exact ⟨sendOn_link_ne _ s (by decide), congrArg Aon.clock (sendOn_sentFrom ..).aon⟩
    | dn =>
      dsimp only
      split
      · exact ⟨rfl, rfl⟩
      · split
        · rename_i hroot
          obtain h | h | h := hr
          · exact absurd h (by decide)
          · exact absurd (hroot.symm.trans h) (by decide)
          · exact rootLost_keeps _ _ h hd
        · exact ⟨sendTo_link_down _ _ _ _ hd, congrArg Aon.clock (sendTo_sentFrom ..).aon⟩

theorem linkDown_link {l : Side} {s : State} (hr : l = .up ∨ s.isRoot = false ∨ s.therm.relays = []) :
    (linkDown l s).link l = (s.link l).downed ∧ (linkDown l s).aon.clock = s.aon.clock := by
  obtain ⟨haon, htherm⟩ := dropLink_keep l s
  have hroot : (dropLink l s).isRoot = s.isRoot := by rw [State.isRoot, State.isRoot, dropLink_role]
  obtain ⟨hl, hc⟩ := lossAction_keeps (l := l) (s := dropLink l s) (by rw [dropLink_link]; rfl) (by rwa [hroot, htherm])
  exact ⟨hl.trans (dropLink_link l s), hc.trans (congrArg Aon.clock haon)⟩

/-- A member that loses its end towards the root is isolated (R148). -/
theorem linkDown_up_member {s : State} (h : s.chain.role = 2) :
    (linkDown .up s).chain.role = 3 ∧ (linkDown .up s).chain.isolated = true := by
  let u := sendOn .dn
    { dst := 0x1F, src := s.chain.addr, prio := true, type := 4, payload := [putBit (dropLink .up s).beyond s.chain.addr true, 0] }
    (dropLink .up s)
  have hrole : (dropLink .up s).chain.role = 2 := h
  have hu : u.chain.role = 2 := (sendOn_sentFrom ..).role.trans hrole
  have hdown : linkDown .up s = isolate u := by
    unfold linkDown lossAction
    rw [if_neg (by rw [hrole]; decide)]
    exact if_neg (by rw [State.isRoot, hrole]; decide)
  rw [hdown]
  unfold isolate
  rw [if_neg (by rw [hu]; decide)]
  exact ⟨rfl, rfl⟩

/-- What a link loses as it goes down. -/
theorem Link.downed_lost (k : Link) : k.downed.linkUp = false ∧ k.downed.lock = false ∧ (k.downed.lane true).replay = [] ∧
    (k.downed.lane false).replay = [] := ⟨rfl, rfl, rfl, rfl⟩

/-- A link that goes down at a due time has lost its frames, and the clock has reached that time. -/
theorem linkDown_due {l : Side} {s : State} (d : Nat) (hr : l = .up ∨ s.isRoot = false ∨ s.therm.relays = []) :
    let t := linkDown l (advanceTo d s)
    ((t.link l).linkUp = false ∧ (t.link l).lock = false ∧ ((t.link l).lane true).replay = [] ∧ ((t.link l).lane false).replay = []) ∧
      (s.aon.porN = true → t.aon.clock = max s.aon.clock d) := by
  obtain ⟨hl, hc⟩ := linkDown_link (l := l) (s := advanceTo d s)
    (by rwa [State.isRoot_of_chain (advanceTo_chain d s), advanceTo_therm])
  dsimp only
  rw [hl, hc]
  exact ⟨Link.downed_lost _, advanceTo_clock d⟩

/-- Settles O47: each command by the equation of its function; a link going down by what its loss action leaves of it. -/
theorem chainLinks : Obligations.ChainLinks := by
  unfold Obligations.ChainLinks
  refine ⟨fun l s hc hn => linkLockGain_gains hc hn, fun l s hl => ?codeErrors, fun l s hl => ?k285, fun l u s hu hup hr => ?relock,
    fun l prio u r s hs hup hr => ?ackLate, fun l prio seq i s hon hi hp hb => ?ack, fun l prio seq i s hon hi hn => ?nak,
    fun l prio seq i s hon hi hq hn hr => ?nakFourth, fun l f s hon ha => ?badCrc, fun f s hon hr hd hf => ?poison⟩
  case codeErrors =>
    refine ⟨_, if_pos hl, ?_, ?_⟩
    · rw [loseLock_link, linkCount_link]
      rfl
    · exact (State.num_of_obj (State.updLink_obj ..) _ _).trans (linkCount_num l 1 4 s)
  case k285 => exact ⟨_, if_pos hl, loseLock_link l s, State.updLink_obj ..⟩
  case relock =>
    refine ⟨linkDown l (advanceTo (u + us 2) s), ?_, ?_⟩
    · show execLinkRelockTimeout l s = _
      unfold execLinkRelockTimeout
      rw [hu]
      exact if_pos hup
    · obtain ⟨⟨h1, h2, h3, h4⟩, h5⟩ := linkDown_due (u + us 2) hr
      refine ⟨h1, h2, h3, h4, h5, fun hl h2 => ?_⟩
      rw [hl]
      exact linkDown_up_member (by rw [advanceTo_chain, h2])
  case ackLate =>
    refine ⟨linkDown l (advanceTo (u + us 2) s), ?_, ?_⟩
    · show execLinkAckTimeout l prio s = _
      unfold execLinkAckTimeout
      rw [hs]
      exact if_pos hup
    · obtain ⟨⟨h1, h2, h3, h4⟩, h5⟩ := linkDown_due (u + us 2) hr
      exact ⟨h1, h2, h3, h4, h5⟩
  case ack =>
    refine ⟨_, rfl, ?_⟩
    beta_reduce
    rw [ackIn_frees hon hi hp hb, Link.lane_updLane, Link.lane_updLane_not]
    exact ⟨rfl, rfl⟩
  case nak =>
    have hu := s.updLane_sentFrom l prio (nakLane s.aon.clock seq i)
    have hup : (s.link l).linkUp = true := (Bool.and_eq_true_iff.mp hon).2
    have hfew : ¬ 4 ≤ (nakLane s.aon.clock seq i ((s.link l).lane prio)).naks := by
      unfold nakLane
      split <;> simp only <;> omega
    refine ⟨_, (nakReceive_eq hon hi).trans (if_neg hfew), ?_⟩
    beta_reduce
    rw [linkCount_link, State.lane_updLane, hu.linkUp, linkCount_num, hu.num]
    exact ⟨rfl, hup, rfl⟩
  case nakFourth =>
    have hu := s.updLane_sentFrom l prio (nakLane s.aon.clock seq i)
    have hfour : 4 ≤ (nakLane s.aon.clock seq i ((s.link l).lane prio)).naks := by
      unfold nakLane
      rw [if_pos hq, hn]
    obtain ⟨hl, -⟩ := linkDown_link (l := l) (s := s.updLane l prio (nakLane s.aon.clock seq i)) (by rwa [hu.isRoot, hu.therm])
    refine ⟨_, (nakReceive_eq hon hi).trans (if_pos hfour), ?_⟩
    beta_reduce
    rw [hl]
    exact ⟨rfl, by cases prio <;> rfl⟩
  case badCrc =>
    obtain ⟨hlane, hnum⟩ := frameBad_awaits hon ha
    refine ⟨_, rfl, ?_⟩
    beta_reduce
    rw [hlane]
    exact ⟨rfl, rfl, rfl, hnum⟩
  case poison =>
    refine ⟨_, congrArg Host.Outcome.next (framePoison_voids hon hr hd hf), ?_⟩
    cases hp : f.prio <;> exact ⟨rfl, rfl, rfl, rfl⟩

end Sys2Proof.Machine

/-! Answers that reach a waiting request, and the ends of requests on the channels that a requester outside reads (R109, R116 to
R118). -/

namespace Sys2Proof.Machine

open Sys2Proof

/-! Channels. -/

theorem State.chan_of_cl {s t : State} (h : t.cl = s.cl) (ch : ChanId) : t.chan ch = s.chan ch := by
  cases ch <;> simp only [State.chan, h]

theorem State.waits_of_cl {s t : State} (h : t.cl = s.cl) (ch : ChanId) (why : Nat) : t.waits ch why = s.waits ch why := by
  unfold State.waits
  rw [State.chan_of_cl h]

theorem State.hasChan_of_cl {s t : State} (h : t.cl = s.cl) {ch : ChanId} (hc : s.hasChan ch) : t.hasChan ch := by
  cases ch with
  | slot p => exact Nat.lt_of_lt_of_eq hc (congrArg (fun c => c.slots.length) h.symm)
  | mgt | fw => trivial
  | chain | jig _ => exact hc.elim

/-- A slot that holds a waiting request is one of the mailbox's. -/
theorem State.hasChan_of_waits {s : State} {ch : ChanId} {why : Nat} {a : ClPend} (ho : outer ch = true)
    (h : s.waits ch why = some a) : s.hasChan ch := by
  cases ch with
  | slot p =>
    by_contra hp
    have hnone : s.chan (.slot p) = {} := List.getD_eq_default _ _ (Nat.le_of_not_lt hp)
    simp [State.waits, hnone] at h
  | mgt | fw => trivial
  | chain | jig _ => exact absurd ho Bool.false_ne_true

/-- The engine's queues in t are those of s. -/
def State.queuesOf (t s : State) : Prop := t.cl.fwQ = s.cl.fwQ ∧ t.cl.chainQ = s.cl.chainQ

theorem clTurn_queuesOf {t s : State} (h : t.queuesOf s) (hq : s.clQuiet) : clTurn t = t := by
  obtain ⟨hf, hc⟩ := h
  obtain ⟨hfq, hcq, -⟩ := hq
  exact clTurn_quiet (hf.trans hfq) (hc.trans hcq)

theorem State.chan_updChan_of_cl {s t : State} {ch : ChanId} (f : ClChan → ClChan) (h : t.cl = s.cl) (hc : s.hasChan ch) :
    (t.updChan ch f).chan ch = f (s.chan ch) := by
  rw [State.chan_updChan f (State.hasChan_of_cl h hc), State.chan_of_cl h]

/-! The end of a request. -/

theorem clCount_cl (abort : Nat) (s : State) : (clCount abort s).cl = s.cl :=
  view_cl (clCount_view (k := 4) (by decide) abort s) (by decide)

/-- A request's end leaves its channel finished, and the queues as they are. -/
theorem clEnd_chan {ch : ChanId} {s : State} (abort total : Nat) (more : Bool) (seg : List Byte) (hc : s.hasChan ch) :
    (clEnd ch abort total more seg s).chan ch = (s.chan ch).finish abort total more seg ∧
      (clEnd ch abort total more seg s).queuesOf s := by
  have hcl := clCount_cl abort s
  have hchan := State.chan_updChan_of_cl (ClChan.finish abort total more seg) hcl hc
  obtain ⟨hf, hq⟩ := (clCount abort s).updChan_queues ch (ClChan.finish abort total more seg)
  have hqueues : ((clCount abort s).updChan ch (ClChan.finish abort total more seg)).queuesOf s :=
    ⟨hf.trans (congrArg ClEng.fwQ hcl), hq.trans (congrArg ClEng.chainQ hcl)⟩
  cases ch with
  | slot _ | fw | mgt => exact ⟨hchan, hqueues⟩
  | chain | jig _ => exact hc.elim

theorem clDeny_cl (a : ClPend) (abort : Nat) (s : State) : (clDeny a abort s).cl = s.cl :=
  view_cl (clDeny_view (k := 4) (by decide) a abort s) (by decide)

/-- An abort on a channel that a requester outside reads. -/
theorem clAbort_outer {ch : ChanId} {s : State} (a : ClPend) (abort : Nat) (hc : s.hasChan ch) :
    clAbort ch a abort s = clEnd ch abort 0 false [] (clDeny a abort s) := by
  cases ch with
  | slot _ | mgt | fw => rfl
  | chain | jig _ => exact hc.elim

theorem clAbort_chain {ch : ChanId} {s : State} (a : ClPend) (abort : Nat) (hc : s.hasChan ch) :
    (clAbort ch a abort s).chain = s.chain := by
  rw [clAbort_outer a abort hc, view_chain (clEnd_view (k := 8) (by decide) ..) (by decide),
    view_chain (clDeny_view (k := 8) (by decide) ..) (by decide)]

/-- An abort ends the request with its code. -/
theorem clAbort_ends {ch : ChanId} {s : State} (a : ClPend) (abort : Nat) (hc : s.hasChan ch) :
    (clAbort ch a abort s).abortedOn ch abort ∧ (clAbort ch a abort s).queuesOf s := by
  have hcl := clDeny_cl a abort s
  obtain ⟨hchan, hf, hq⟩ := clEnd_chan abort 0 false [] (State.hasChan_of_cl hcl hc)
  rw [clAbort_outer a abort hc, State.abortedOn, hchan]
  exact ⟨⟨rfl, rfl⟩, hf.trans (congrArg ClEng.fwQ hcl), hq.trans (congrArg ClEng.chainQ hcl)⟩

/-- A finished channel shows its segment. -/
theorem ClChan.finish_segment (total : Nat) (more : Bool) (v : List Byte) (c : ClChan) :
    (c.finish 0 total more (v.take 48)).segLen = min 48 v.length ∧
      (c.finish 0 total more (v.take 48)).data.take (min 48 v.length) = v.take 48 := by
  have hl : (v.take 48).length = min 48 v.length := List.length_take
  exact ⟨hl, List.take_left' hl⟩

/-- A read that has succeeded leaves its value on the channel (R109, R112). -/
theorem clOk_value {ch : ChanId} {s : State} (a : ClPend) (v : List Byte) (hc : s.hasChan ch) :
    (clOk ch a v s).valueOn ch v (48 < v.length) ∧ (clOk ch a v s).queuesOf s := by
  have he : ∃ u : State, u.hasChan ch ∧ u.queuesOf s ∧
      clOk ch a v s = clEnd ch 0 v.length (decide (48 < v.length)) (v.take 48) u := by
    cases ch with
    | chain | jig _ => exact hc.elim
    | slot _ | mgt | fw =>
      unfold clOk
      dsimp only
      split
      · exact ⟨_, State.hasChan_updChan _ _ hc, s.updChan_queues _ _, rfl⟩
      · exact ⟨s, hc, ⟨rfl, rfl⟩, rfl⟩
  obtain ⟨u, hu, ⟨hf, hq⟩, he⟩ := he
  obtain ⟨hchan, hf', hq'⟩ := clEnd_chan 0 v.length (decide (48 < v.length)) (v.take 48) hu
  obtain ⟨hseg, hdata⟩ := ClChan.finish_segment v.length (decide (48 < v.length)) v (u.chan ch)
  rw [he, State.valueOn, State.doneOn, hchan]
  exact ⟨⟨⟨rfl, rfl⟩, hseg, hdata, rfl⟩, hf'.trans hf, hq'.trans hq⟩

end Sys2Proof.Machine

/-! Budget transactions (O50): the root's queue, votes and decisions, and a member's prepare buffers (R138 to R143). -/

namespace Sys2Proof.Machine

open Sys2Proof

/-- A message that the node hears has its action's effect in a state in which frames alone have moved. -/
theorem answers_hears {c : Instr} {l : Side} {type : Nat} {f : Frame} {k : List Nat → State → State} {s : State} {P : State → Prop}
    (hc : exec c s = .next (frameIn l type f k s)) (h : s.hearsFrame l type f)
    (hP : ∀ t : State, t.sentFrom s → P (k f.payload t)) : Answers c s P := by
  obtain ⟨t, ht, he⟩ := frameIn_hears k h
  exact ⟨_, hc.trans (congrArg Host.Outcome.next he), hP t ht⟩

/-! Votes (R140). -/

/-- A vote reads the prepare buffers, the address, the role and the budgets alone. -/
theorem State.voteOf_congr {s t : State} (hp : t.chain.preps = s.chain.preps) (ha : t.chain.addr = s.chain.addr)
    (hr : t.chain.role = s.chain.role) (hb : t.cap.budgets = s.cap.budgets) (rs : List BudRec) : t.voteOf rs = s.voteOf rs := by
  have hears : ∀ r, t.hears r = s.hears r := fun r => by rw [State.hears, State.hears, ha]
  have hbud : ∀ p, t.budget 5 p = s.budget 5 p := fun p => by
    unfold State.budget
    rw [hb]
    rfl
  unfold State.voteOf State.boostAfter
  simp only [hp, hr, hears, hbud]

theorem State.sentFrom.voteOf {t s : State} (h : t.sentFrom s) (rs : List BudRec) : t.voteOf rs = s.voteOf rs :=
  State.voteOf_congr (h.get Chain.preps fun _ => rfl) (h.get Chain.addr fun _ => rfl) h.role (congrArg Cap.budgets h.cap) rs

/-- The state with a prepare buffer in use (R140). -/
def State.prepared (s : State) (txid : Nat) (rs : List BudRec) : State :=
  { s with chain := { s.chain with preps := s.chain.preps ++ [{ txid := txid, recs := rs, votedAt := s.aon.clock }] } }

theorem prepare_yes (txid : Nat) {rs : List BudRec} {s : State} (h : s.voteOf rs = 0) :
    prepare txid rs s = (0, s.prepared txid rs) := if_pos h

theorem prepare_no (txid : Nat) {rs : List BudRec} {s : State} (h : s.voteOf rs ≠ 0) :
    prepare txid rs s = (s.voteOf rs, s.bump32 0x2102 3) := if_neg h

/-- A node that votes YES holds the records, and one that votes NO does not. -/
theorem prepare_preps (txid : Nat) (rs : List BudRec) (s : State) : (prepare txid rs s).2.chain.preps =
    if s.voteOf rs = 0 then s.chain.preps ++ [{ txid := txid, recs := rs, votedAt := s.aon.clock }] else s.chain.preps := by
  split
  · rename_i h
    rw [prepare_yes txid h]
    rfl
  · rename_i h
    rw [prepare_no txid h]
    rfl

theorem takePrepare_preps {p : List Nat} {s : State} (hr : s.chain.role = 2) :
    (takePrepare p s).chain.preps =
      (prepare (p.headD 0 % 65536) (((p.drop 1).take (bits (p.headD 0) 19 16)).map recOf) s).2.chain.preps := by
  unfold takePrepare
  rw [if_neg (by rw [State.isRoot, hr]; decide)]
  exact (sendTo_sentFrom ..).get Chain.preps fun _ => rfl

/-! Decisions (R141 to R143). -/

theorem hearCommit_eq (txid : Nat) (s : State) :
    ∃ o p, hearCommit txid s = { s with obj := o, chain := { s.chain with preps := p } } := by
  unfold hearCommit
  split
  · exact ⟨_, _, rfl⟩
  · exact ⟨s.obj, s.chain.preps, rfl⟩

/-- The prepare buffer in use for a transaction is committed, and the commit counted (R141, R155). -/
theorem hearCommit_prepared {txid : Nat} {s : State} (h : s.chain.preps.any (fun p => p.txid = txid && !p.committed) = true) :
    (hearCommit txid s).chain.preps = s.chain.preps.map (fun p => if p.txid = txid then { p with committed := true } else p) ∧
    (hearCommit txid s).num 0x2102 1 = (s.num 0x2102 1 + 1) % 2 ^ 32 ∧ (hearCommit txid s).num 0x2102 4 = txid ∧
    (hearCommit txid s).cap = s.cap := by
  unfold hearCommit
  rw [if_pos h]
  exact ⟨rfl, (State.num_put_ne _ _ (by decide)).trans (State.num_put_same ..), State.num_put_same .., rfl⟩

/-- The prepare buffer in use for a transaction is free, and the abort counted (R141, R155). -/
theorem hearAbort_prepared {txid : Nat} {s : State} (h : s.chain.preps.any (fun p => p.txid = txid && !p.committed) = true) :
    (hearAbort txid s).chain.preps = s.chain.preps.filter (fun p => p.txid != txid || p.committed) ∧
    (hearAbort txid s).num 0x2102 2 = (s.num 0x2102 2 + 1) % 2 ^ 32 ∧ (hearAbort txid s).cap = s.cap := by
  unfold hearAbort
  rw [if_pos h]
  exact ⟨rfl, State.num_put_same .., rfl⟩

theorem commitTxn_decides (t : Txn) (s : State) :
    (commitTxn t s).chain.txn = none ∧ (commitTxn t s).chain.decisions = ((t.txid, true) :: s.chain.decisions).take 16 := by
  have hb := broadcast_sentFrom 12 true [t.txid] (noteDecision t.txid true { s with chain := { s.chain with txn := none } })
  obtain ⟨o, p, h⟩ := hearCommit_eq t.txid
    (broadcast 12 true [t.txid] (noteDecision t.txid true { s with chain := { s.chain with txn := none } }))
  unfold commitTxn
  rw [h]
  exact ⟨hb.get Chain.txn fun _ => rfl, hb.get Chain.decisions fun _ => rfl⟩

/-- An aborted transaction's records are tried again after 50 us (R143). -/
theorem abortRetry_waits (t : Txn) (s : State) : (abortRetry t s).chain.txn = none ∧ (abortRetry t s).chain.retryRecs = t.recs ∧
    (abortRetry t s).chain.retryAt = some (s.aon.clock + us 50) ∧
    (abortRetry t s).chain.decisions = ((t.txid, false) :: s.chain.decisions).take 16 ∧ (abortRetry t s).aon = s.aon := by
  obtain ⟨o, p, h⟩ := abortTxn_sentFrom t s
  have haon : (abortTxn t s).aon = s.aon := h.aon
  refine ⟨h.get Chain.txn fun _ => rfl, rfl, ?_, h.get Chain.decisions fun _ => rfl, haon⟩
  show some ((abortTxn t s).aon.clock + us 50) = _
  rw [haon]

/-- The open transaction with one more YES (R141). -/
def Txn.withYes (t : Txn) (a : Nat) : Txn := { t with votes := putBit t.votes a true }

theorem takeVote_no {a : Nat} {t : Txn} {s : State} (ht : s.chain.txn = some t) : takeVote a false s = abortRetry t s := by
  unfold takeVote
  rw [ht]
  rfl

theorem takeVote_yes {a : Nat} {t : Txn} {s : State} (ht : s.chain.txn = some t) : takeVote a true s =
    if covers (putBit t.votes a true) s.chain.memberMask = true then
      commitTxn (t.withYes a) { s with chain := { s.chain with txn := some (t.withYes a) } }
    else { s with chain := { s.chain with txn := some (t.withYes a) } } := by
  unfold takeVote
  rw [ht]
  rfl

/-- What a vote of a member makes of the open transaction (R141, R143). -/
theorem takeVote_decides {a : Nat} {yes : Bool} {t : Txn} {s : State} (ht : s.chain.txn = some t) :
    let u := takeVote a yes s
    if yes = false then
      u.chain.txn = none ∧ u.chain.retryRecs = t.recs ∧ u.chain.retryAt = some (s.aon.clock + us 50) ∧
        u.chain.decisions = ((t.txid, false) :: s.chain.decisions).take 16
    else if covers (putBit t.votes a true) s.chain.memberMask = true then
      u.chain.txn = none ∧ u.chain.decisions = ((t.txid, true) :: s.chain.decisions).take 16
    else u.chain.txn = some (t.withYes a) := by
  cases yes with
  | false =>
    obtain ⟨h1, h2, h3, h4, -⟩ := abortRetry_waits t s
    rw [takeVote_no ht]
    exact ⟨h1, h2, h3, h4⟩
  | true =>
    rw [takeVote_yes ht]
    dsimp only
    rw [if_neg (by decide)]
    split
    · exact commitTxn_decides (t.withYes a) _
    · rfl

/-! Transactions (R140, R143). -/

/-- The root's transaction with these records is open, with its own YES in. -/
def Chain.opened (c : Chain) (rs : List BudRec) (now : Nat) : Chain :=
  { c with
    txn := some { txid := c.nextTxid, recs := rs, openedAt := now, votes := putBit 0 c.addr true },
    nextTxid := if c.nextTxid = 0xFFFF then 1 else c.nextTxid + 1, retryRecs := [], retryAt := none,
    preps := c.preps ++ [{ txid := c.nextTxid, recs := rs, votedAt := now }] }

/-- A root that votes YES and is not its line's only member has its transaction open. -/
theorem openTxn_opens {rs : List BudRec} {s : State} (hy : s.votesYes rs)
    (hc : covers (putBit 0 s.chain.addr true) s.chain.memberMask = false) :
    (openTxn rs s).chain.bare = (s.chain.opened rs s.aon.clock).bare ∧ (openTxn rs s).aon = s.aon := by
  unfold openTxn
  extract_lets id _ u v
  have hv : v.sentFrom u := broadcast_sentFrom ..
  have hvote : v.voteOf rs = 0 := (hv.voteOf rs).trans hy
  have haddr : v.chain.addr = s.chain.addr := hv.get Chain.addr fun _ => rfl
  have hmask : v.chain.memberMask = s.chain.memberMask := hv.get Chain.memberMask fun _ => rfl
  have htxn : (v.prepared id rs).chain.txn = some { txid := id, recs := rs, openedAt := s.aon.clock } := hv.get Chain.txn fun _ => rfl
  rw [prepare_yes id hvote]
  show (takeVote v.chain.addr true (v.prepared id rs)).chain.bare = _ ∧ (takeVote v.chain.addr true (v.prepared id rs)).aon = _
  rw [takeVote_yes htxn, if_neg (by
    show ¬ covers (putBit 0 v.chain.addr true) v.chain.memberMask = true
    rw [haddr, hmask, hc]
    decide)]
  refine ⟨?_, hv.aon⟩
  have hbare := hv.chain
  have hclock : v.aon.clock = s.aon.clock := congrArg Aon.clock hv.aon
  show ({ v.chain.bare with
      txn := some { txid := id, recs := rs, openedAt := s.aon.clock, votes := putBit 0 v.chain.addr true },
      preps := v.chain.bare.preps ++ [{ txid := id, recs := rs, votedAt := v.aon.clock }] } : Chain) = _
  rw [hbare, haddr, hclock]
  rfl

/-! Records in force (R139, R141, R317). -/

theorem applyRec_chain (r : BudRec) (s : State) : (applyRec r s).chain = s.chain :=
  view_chain (applyRec_view (k := 8) (by decide) r s) (by decide)

theorem applyRecs_chain (rs : List BudRec) (s : State) : (rs.foldl (fun s r => applyRec r s) s).chain = s.chain :=
  List.foldlRecOn (motive := fun t : State => t.chain = s.chain) rs _ rfl fun t ht r _ => (applyRec_chain r t).trans ht

/-- A committed transaction's buffer is free and its records are in force. -/
theorem applyTxn_applies (p : Prep) (s : State) :
    let u : State := { s with chain := { s.chain with preps := s.chain.preps.filter (fun q => q.txid != p.txid) } }
    (applyTxn p s).chain.preps = u.chain.preps ∧
      (applyTxn p s).cap.budgets = (p.recs.foldl (fun s r => applyRec r s) u).cap.budgets := by
  have hchain : ∀ v : State, (updAccr (setTarget v)).chain = v.chain := fun v => by
    rw [view_chain (updAccr_view (k := 8) (by decide) _) (by decide), view_chain (setTarget_view (k := 8) (by decide) v) (by decide)]
  have hbud : ∀ v : State, (updAccr (setTarget v)).cap.budgets = v.cap.budgets := fun v => by
    rw [updAccr_keeps Cap.budgets (fun _ _ _ _ _ _ _ => rfl), view_cap (setTarget_view (k := 2048) (by decide) v) (by decide)]
  unfold applyTxn
  extract_lets _ u v mine _ w
  rw [hchain, hbud]
  have hw : w.chain.preps = v.chain.preps ∧ w.cap = v.cap := by
    show (if _ then _ else _ : State).chain.preps = _ ∧ (if _ then _ else _ : State).cap = _
    split <;> exact ⟨rfl, rfl⟩
  obtain ⟨hp, hcap⟩ := hw
  exact ⟨hp.trans (congrArg Chain.preps (applyRecs_chain p.recs u)), congrArg Cap.budgets hcap⟩

theorem State.budget_setBudget (s : State) (kind n v : Nat) : (s.setBudget kind n v).budget kind n = v := by
  unfold State.budget State.setBudget
  rw [show (_ : State).cap.budgets = _ from rfl, kvGet_kvPut_same]

/-- One node's die budget is in force once its record is (R139). -/
theorem applyRec_die {r : BudRec} (hk : r.kind = 2) (hn : r.node ≠ 0x1F) (s : State) : applyRec r s = s.setBudget 2 r.node r.value := by
  unfold applyRec
  rw [if_pos hk, if_neg hn]

theorem State.budget_of_budgets {s t : State} (h : t.cap.budgets = s.cap.budgets) (n : Nat) : t.budget 2 n = s.budget 2 n := by
  unfold State.budget
  rw [h]
  rfl

/-! The answer to a budget write (R138). -/

theorem State.firstAsk_of_cl {s t : State} (h : t.cl = s.cl) : t.firstAsk = s.firstAsk := by
  unfold State.firstAsk
  simp only [State.waits_of_cl h]

theorem State.waits_of_firstAsk {s : State} {ch : ChanId} {a : ClPend} (h : s.firstAsk = some (ch, a)) : s.waits ch 3 = some a := by
  unfold State.firstAsk at h
  have hall := List.foldlRecOn
    (motive := fun m : Option (ChanId × ClPend) => ∀ x, m = some x → s.waits x.1 3 = some x.2)
    (allChans.filterMap (fun ch => (s.waits ch 3).map (fun a => (ch, a))))
    (fun m x => match m with
      | none => some x
      | some y => if x.2.since < y.2.since then some x else some y)
    (b := none) (fun x hx => absurd hx (by simp)) (fun m hm x hx y hy => by
      have hwait : s.waits x.1 3 = some x.2 := by
        obtain ⟨c, -, hc⟩ := List.mem_filterMap.mp hx
        obtain ⟨b, hb, rfl⟩ := Option.map_eq_some_iff.mp hc
        exact hb
      cases m with
      | none =>
        obtain rfl := Option.some.inj hy
        exact hwait
      | some z =>
        dsimp only at hy
        split at hy <;> obtain rfl := Option.some.inj hy
        · exact hwait
        · exact hm _ rfl)
  exact hall _ h

/-- The root's answer ends the budget write that has waited for it the longest (R138). -/
theorem clAccepted_ends {yes : Bool} {ch : ChanId} {a : ClPend} {s : State} (hq : s.clQuiet) (ha : s.firstAsk = some (ch, a))
    (ho : outer ch = true) :
    if yes = true then (clAccepted yes s).doneOn ch else (clAccepted yes s).abortedOn ch 0x060D := by
  have hc := State.hasChan_of_waits ho (State.waits_of_firstAsk ha)
  unfold clAccepted
  rw [ha]
  dsimp only
  cases yes with
  | true =>
    obtain ⟨hv, hqueues⟩ := clOk_value a [] hc
    obtain ⟨hdone, -⟩ := hv
    rw [if_pos rfl, if_pos rfl, clTurn_queuesOf hqueues hq]
    exact hdone
  | false =>
    obtain ⟨hab, hqueues⟩ := clAbort_ends a 0x060D hc
    rw [if_neg Bool.false_ne_true, if_neg Bool.false_ne_true, clTurn_queuesOf hqueues hq]
    exact hab

/-! The commands. -/

/-- The queue with these records put in place. -/
def State.queueWith (s : State) (rs : List BudRec) : List BudRec := rs.foldl (fun q r => putRec r q) s.chain.budQueue

theorem queueRecs_room {rs : List BudRec} {s : State} (h : (s.queueWith rs).length ≤ 64) :
    queueRecs rs s = some { s with chain := { s.chain with budQueue := s.queueWith rs } } := if_pos h

theorem queueRecs_full {rs : List BudRec} {s : State} (h : ¬(s.queueWith rs).length ≤ 64) : queueRecs rs s = none := if_neg h

/-- The root queues a request's records, all or none (R138). -/
theorem takeBudReq_queue {src : Nat} {p : List Nat} {s : State} (hr : s.chain.role = 1) : (takeBudReq src p s).chain.budQueue =
    if (s.queueWith (p.map recOf)).length ≤ 64 then s.queueWith (p.map recOf) else s.chain.budQueue := by
  unfold takeBudReq
  rw [if_neg (by rw [State.isRoot, hr]; decide)]
  split_ifs with h
  · rw [queueRecs_room h]
    exact (sendTo_sentFrom ..).get Chain.budQueue fun _ => rfl
  · rw [queueRecs_full h]
    exact (sendTo_sentFrom ..).get Chain.budQueue fun _ => rfl

theorem openNext_opens {s : State} (hr : s.chain.role = 1) (ht : s.chain.txn = none) (hw : s.chain.retryAt = none)
    (hq : s.chain.budQueue ≠ []) (hc : s.chain.enumClosed = true) : openNext s =
      openTxn (s.chain.budQueue.take 15) { s with chain := { s.chain with budQueue := s.chain.budQueue.drop 15 } } :=
  if_pos (by simp [hr, ht, hw, hq, hc])

/-- A vote on the open transaction reaches it (R141). -/
theorem hearVote_open {src : Nat} {p : List Nat} {u : Txn} {s : State} (hr : s.chain.role = 1) (hu : s.chain.txn = some u)
    (hid : p.headD 0 % 65536 = u.txid) (h0 : u.txid ≠ 0) : hearVote src p s = takeVote src (bit (p.headD 0) 16) s := by
  unfold hearVote
  dsimp only
  rw [if_neg (by rwa [hid]), if_neg (by rw [State.isRoot, hr]; decide), if_pos (by rw [hu, hid]; rfl)]

theorem hearVote_answer {src : Nat} {p : List Nat} {s : State} (hid : p.headD 0 % 65536 = 0) :
    hearVote src p s = clAccepted (bit (p.headD 0) 16) s := if_pos hid

/-- The records that the retry takes again: those that no newer record has superseded (R143). -/
def Chain.kept (c : Chain) : List BudRec := c.retryRecs.filter (fun r => !c.budQueue.any (fun x => x.same r))

/-- The retry's transaction is about to open (R143). -/
def Chain.retrying (c : Chain) : Chain :=
  { c with budQueue := c.budQueue.drop (15 - c.kept.length), retryAt := none, retryRecs := [] }

theorem retryTxn_opens (s : State) : retryTxn s = openTxn
    (s.chain.kept ++ s.chain.budQueue.take (15 - s.chain.kept.length)) { s with chain := s.chain.retrying } := rfl

/-- Settles O50: each command by the equation of its function, a message of the chain in the state in which frames alone have
moved. -/
theorem budgetTransactions : Obligations.BudgetTransactions := by
  unfold Obligations.BudgetTransactions
  refine ⟨fun l f q s h hr hq => ?request, fun s hst hr ht hw hq hc hy hcov => ?opens, fun l f rs s h hr hrs => ?prepares,
    fun l f u s h hr hu hid h0 => ?votes, fun l f ch a s h hq hid ha ho => ?answer, fun u s hp hu hr hst => ?late,
    fun l f n s h hn hp => ?commit, fun n p u s hst hp hu => ?applies, fun l f n s h hn hp => ?abort,
    fun n p s hp hr hst hf => ?outcome, fun u rs s hp hu hr hst hrs hy hcov => ?retry⟩
  case request =>
    refine answers_hears (k := takeBudReq f.src) rfl h fun t ht => ?_
    rw [takeBudReq_queue (by rw [ht.role, hr]), State.queueWith, ht.get Chain.budQueue fun _ => rfl, hq]
  case opens =>
    obtain ⟨hchain, -⟩ := openTxn_opens (rs := s.chain.budQueue.take 15)
      (s := { s with chain := { s.chain with budQueue := s.chain.budQueue.drop 15 } })
      ((State.voteOf_congr rfl rfl rfl rfl _).trans hy) hcov
    refine ⟨_, (if_neg (by rw [hst]; decide)).trans (congrArg Host.Outcome.next (openNext_opens hr ht hw hq hc)), ?_⟩
    exact ⟨Chain.of_bare hchain Chain.txn fun _ => rfl, Chain.of_bare hchain Chain.budQueue fun _ => rfl,
      Chain.of_bare hchain Chain.nextTxid fun _ => rfl, Chain.of_bare hchain Chain.preps fun _ => rfl⟩
  case prepares =>
    refine answers_hears (k := takePrepare) rfl h fun t ht => ?_
    rw [takePrepare_preps (by rw [ht.role, hr]), ← hrs, prepare_preps, ht.voteOf, ht.get Chain.preps fun _ => rfl, ht.aon]
  case votes =>
    refine answers_hears (k := hearVote f.src) rfl h fun t ht => ?_
    have hv := takeVote_decides (a := f.src) (yes := bit (f.payload.headD 0) 16) ((ht.get Chain.txn fun _ => rfl).trans hu)
    rw [hearVote_open (by rw [ht.role, hr]) ((ht.get Chain.txn fun _ => rfl).trans hu) hid h0]
    rw [ht.get Chain.memberMask fun _ => rfl, ht.get Chain.decisions fun _ => rfl, ht.aon] at hv
    exact hv
  case answer =>
    refine answers_hears (k := hearVote f.src) rfl h fun t ht => ?_
    have hqt : t.clQuiet := by rwa [State.clQuiet, ht.cl, ht.still]
    rw [hearVote_answer hid]
    exact clAccepted_ends hqt ((State.firstAsk_of_cl ht.cl).trans ha) ho
  case late =>
    have hexp : votesExpire s = abortRetry u (advanceTo (u.openedAt + us 10) s) := by
      unfold votesExpire
      rw [hu]
      exact if_pos (by rw [hr, hst]; rfl)
    obtain ⟨h1, h2, h3, -, h5⟩ := abortRetry_waits u (advanceTo (u.openedAt + us 10) s)
    refine ⟨_, congrArg Host.Outcome.next hexp, h1, h2, ?_, ?_⟩
    · rw [h3, h5]
    · rw [h5, advanceTo_clock _ hp]
  case commit =>
    refine answers_hears (k := fun p s => hearCommit (p.headD 0 % 65536) s) rfl h fun t ht => ?_
    obtain ⟨h1, h2, h3, h4⟩ := hearCommit_prepared (s := t) (txid := n) (by rwa [ht.get Chain.preps fun _ => rfl])
    rw [← hn, h1, h2, h3, h4, ht.get Chain.preps fun _ => rfl, ht.num, ht.cap]
    exact ⟨rfl, rfl, rfl, rfl⟩
  case applies =>
    have hdue : applyDue n s = applyTxn p s := by
      unfold applyDue
      rw [hp]
      exact if_neg (by rw [hst]; decide)
    obtain ⟨h1, h2⟩ := applyTxn_applies p s
    rw [← hu] at h1 h2
    refine ⟨_, congrArg Host.Outcome.next hdue, h1, h2, fun r hr hk hne => ?_⟩
    rw [hr] at h2
    rw [State.budget_of_budgets h2]
    show (applyRec r u).budget 2 r.node = r.value
    rw [applyRec_die hk hne, State.budget_setBudget]
  case abort =>
    refine answers_hears (k := fun p s => hearAbort (p.headD 0 % 65536) s) rfl h fun t ht => ?_
    obtain ⟨h1, h2, h3⟩ := hearAbort_prepared (s := t) (txid := n) (by rwa [ht.get Chain.preps fun _ => rfl])
    rw [← hn, h1, h2, h3, ht.get Chain.preps fun _ => rfl, ht.num, ht.cap]
    exact ⟨rfl, rfl, rfl⟩
  case outcome =>
    let v := advanceTo (p.votedAt + us 50) s
    have hchain : v.chain = s.chain := advanceTo_chain _ s
    have hclock : v.aon.clock = max s.aon.clock (p.votedAt + us 50) := advanceTo_clock _ hp
    have hreach : v.rootReach = s.rootReach := by rw [State.rootReach, State.rootReach, State.isRoot, State.isRoot, hchain]
    have hexp : outcomeExpire n s =
        if v.rootReach then sendTo 0x0B 1 true [voteSym n 0] { v with chain := { v.chain with
            preps := v.chain.preps.map (fun q => if q.txid = n then { q with votedAt := v.aon.clock } else q) } }
        else isolate { v with chain := { v.chain with preps := v.chain.preps.filter (fun q => q.txid != n) } } := by
      unfold outcomeExpire
      rw [hf]
      exact if_neg (by rw [hr, hst]; decide)
    refine ⟨_, congrArg Host.Outcome.next hexp, ?_⟩
    rw [hreach]
    cases s.rootReach with
    | true =>
      rw [if_pos rfl, if_pos rfl, (sendTo_sentFrom ..).aon, (sendTo_sentFrom ..).get Chain.preps fun _ => rfl]
      exact ⟨hclock, by rw [State.with_chain_chain, hchain]⟩
    | false =>
      rw [if_neg Bool.false_ne_true, if_neg Bool.false_ne_true]
      unfold isolate
      split <;> exact ⟨hclock, by rw [← hchain], rfl⟩
  case retry =>
    have hchain : (advanceTo u s).chain = s.chain := advanceTo_chain u s
    let v : State := { advanceTo u s with chain := s.chain.retrying }
    have hexec : exec .budRetry s = .next (openTxn rs v) := by
      show execBudRetry s = _
      unfold execBudRetry
      rw [hu]
      refine (if_pos (by rw [State.isRoot, hr, hst]; decide)).trans ?_
      rw [retryTxn_opens, hchain, hrs]
      rfl
    have hvote : v.votesYes rs :=
      (State.voteOf_congr (s := s) (t := v) rfl rfl rfl (advanceTo_cap_keeps Cap.budgets (fun _ _ _ _ => rfl) u s) rs).trans hy
    obtain ⟨hopen, haon⟩ := openTxn_opens hvote hcov
    refine ⟨_, hexec, ?_, Chain.of_bare hopen Chain.retryAt fun _ => rfl, ?_⟩
    · rw [haon]
      exact advanceTo_clock u hp
    · rw [haon]
      exact Chain.of_bare hopen Chain.txn fun _ => rfl

end Sys2Proof.Machine

/-! The writes of the cap's, the Clamp's and the budget objects (O41). -/

namespace Sys2Proof.Machine

open Sys2Proof

/-! Writes of objects that the engine serves itself. -/

/-- A write of an object that is neither the re-arm's, a regulator's nor a budget's has its chapter's effect (R96). -/
theorem clEffect_objWrite {ch : ChanId} {a : ClPend} {r : Row} {s t : State} (h53 : a.idx ≠ 0x5300)
    (h26 : ¬(0x2620 ≤ a.idx ∧ a.idx < 0x2628)) (hb : s.budgetRec a.idx a.sub (r.rg.clip (r.ty.num a.val)).toNat = none)
    (hw : objWrite (a.who ch) a.idx a.sub (r.rg.clip (r.ty.num a.val)) a.val s = .ok t) :
    clEffect ch a r s = clOk ch a [] t := by
  unfold clEffect
  dsimp only
  rw [if_neg (by simp [h53]), if_neg (by simp; omega), hb, hw]

/-- A write that its chapter refuses ends with its abort (R96). -/
theorem clEffect_refused {ch : ChanId} {a : ClPend} {r : Row} {s : State} {e : Nat} (h53 : a.idx ≠ 0x5300)
    (h26 : ¬(0x2620 ≤ a.idx ∧ a.idx < 0x2628)) (hb : s.budgetRec a.idx a.sub (r.rg.clip (r.ty.num a.val)).toNat = none)
    (hw : objWrite (a.who ch) a.idx a.sub (r.rg.clip (r.ty.num a.val)) a.val s = .error e) :
    clEffect ch a r s = clAbort ch a e (objRefused a.idx a.sub a.val s) := by
  unfold clEffect
  dsimp only
  rw [if_neg (by simp [h53]), if_neg (by simp; omega), hb, hw]

/-- A whole write whose effect ends in success leaves the channel done, beside the channels, the port and the store the state
that the object's write gives, and in the store one request more (R117). -/
theorem clWhole_served {s : State} {ch : ChanId} {i sub : Nat} {val : List Byte} {r : Row} {g : State → State}
    (h : s.takes ch i sub val) (hr : dictRow i sub = some r) (hfw : fwOwned i sub = false)
    (he : ∀ v, v.servesFrom s ch →
      clEffect ch (s.wholePend ch i sub val) r v = clOk ch (s.wholePend ch i sub val) [] (g v) ∧ (g v).cl = v.cl) :
    ∃ v, v.servesFrom s ch ∧ (clWhole ch i sub val s).doneOn ch ∧
      (clWhole ch i sub val s).view 14680057 = (g v).view 14680057 ∧
      (clWhole ch i sub val s).obj = ((g v).add64 0x1020 1 1).obj := by
  obtain ⟨v, hv, -, -, hw⟩ := clWhole_effect h hr hfw
  obtain ⟨hok, hcl⟩ := he v hv
  refine ⟨v, hv, ?_⟩
  obtain ⟨-, hfq, hcq, hchan, -⟩ := hv
  obtain ⟨hdone, hview, hobj, hq, hq'⟩ := clOk_write (s.wholePend ch i sub val) (State.hasChan_of_cl hcl hchan)
  rw [hw, hok, clTurn_quiet (by rw [hq, hcl, hfq]) (by rw [hq', hcl, hcq])]
  exact ⟨hdone, hview, hobj⟩

/-- The count of requests is no other object's number. -/
theorem num_of_served {t u : State} {i sub : Nat} (h : t.obj = (u.add64 0x1020 1 1).obj) (hk : okey 0x1020 1 ≠ okey i sub) :
    t.num i sub = u.num i sub := (State.num_of_obj h i sub).trans (State.num_put_ne _ _ hk)

/-- A row of firmware's or of no function is none of the engine's own (R116). -/
theorem fwOwned_of_own {i sub : Nat} {r : Row} (h : dictRow i sub = some r) (h13 : r.own ≠ 13) (h14 : r.own ≠ 14) :
    fwOwned i sub = false := fwOwned_row h (by simp [h13, h14])

/-- The row and the Range column of a write that passes its checks. -/
theorem State.takes.inRange {s : State} {ch : ChanId} {i sub : Nat} {val : List Byte} {r : Row} (h : s.takes ch i sub val)
    (hr : dictRow i sub = some r) : r.inRange val = true := by
  obtain ⟨-, -, hpass⟩ := h
  obtain ⟨r', hr', -, -, hi⟩ := State.writePasses_row hpass
  obtain rfl : r = r' := Option.some.inj (hr.symm.trans hr')
  exact hi

/-- The effect of the writes that need no budget change. -/
theorem clWhole_objWrite {s : State} {ch : ChanId} {i sub : Nat} {val : List Byte} {r : Row} {g : State → State}
    (h : s.takes ch i sub val) (hr : dictRow i sub = some r) (hfw : fwOwned i sub = false) (h53 : i ≠ 0x5300)
    (h26 : ¬(0x2620 ≤ i ∧ i < 0x2628)) (hb : ∀ (v : State) n, v.budgetRec i sub n = none)
    (hw : ∀ (w : Who) (v : State), v.servesFrom s ch → objWrite w i sub (r.rg.clip (r.ty.num val)) val v = .ok (g v))
    (hcl : ∀ v, (g v).cl = v.cl) :
    ∃ v, v.servesFrom s ch ∧ (clWhole ch i sub val s).doneOn ch ∧
      (clWhole ch i sub val s).view 14680057 = (g v).view 14680057 ∧
      (clWhole ch i sub val s).obj = ((g v).add64 0x1020 1 1).obj :=
  clWhole_served h hr hfw fun v hv =>
    ⟨clEffect_objWrite (a := s.wholePend ch i sub val) h53 h26 (hb v _) (hw _ v hv), hcl v⟩

/-! The cap's writes. -/

/-- The row of 0x6008.04 (R337). -/
def adoptRow : Row := ⟨0x6008, 1, 0x04, 1, .u 1, 0x0303, 0, .ivs [(1, 1)] 1, .absent, 15, false⟩

/-- The row of 0x6003.01 (R337). -/
def policyRow : Row := ⟨0x6003, 1, 0x01, 1, .u 1, 0x1202, 0, .ivs [(0, 2)] 1, .num, 15, true⟩

/-- The row of 0x6010 (R337). -/
def tileMapRow : Row := ⟨0x6010, 1, 0x00, 1, .dom 1024 1024 1, 0x1202, 0, .any, .bytes, 15, false⟩

/-- The row of 0x7000.08 (R369). -/
def enforceRow : Row := ⟨0x7000, 1, 0x08, 1, .u 1, 0x1202, 1, .ivs [(0, 1)] 1, .num, 17, true⟩

theorem dictRow_adopt : dictRow 0x6008 4 = some adoptRow := by decide

theorem dictRow_policy : dictRow 0x6003 1 = some policyRow := by decide

theorem dictRow_tileMap : dictRow 0x6010 0 = some tileMapRow := by decide

theorem dictRow_enforce : dictRow 0x7000 8 = some enforceRow := by decide

theorem adoptRow_value {b : List Byte} (h : adoptRow.inRange b = true) : (leVal b : Int) = 1 := by
  have hv : (Rg.ivs [(1, 1)] 1).holds (leVal b) = true := h
  simp only [Rg.holds, List.any_cons, List.any_nil, Bool.or_false, Bool.and_eq_true, decide_eq_true_eq] at hv
  omega

theorem adoptSet_cap (s : State) :
    (adoptSet s).cap = { s.cap with coefRep := s.cap.coefCal, epoch := (s.cap.epoch + 1) % 65536 } := by
  unfold adoptSet
  rw [raise_cap]

theorem adopt_adopts {s : State} {ch : ChanId} {val : List Byte} (h : s.takes ch 0x6008 4 val) : Answers (.adopt ch val) s (fun t =>
    t.doneOn ch ∧ t.cap = { s.cap with coefRep := s.cap.coefCal, epoch := (s.cap.epoch + 1) % 65536 }) := by
  obtain ⟨v, ⟨hv, -⟩, hdone, hview, -⟩ := clWhole_objWrite (g := adoptSet) h dictRow_adopt
    (fwOwned_of_own dictRow_adopt (by decide) (by decide)) (by decide) (by decide) (fun _ _ => rfl) (fun w v _ => by
      show needRange (decide ((leVal val : Int) = 1)) (.ok (adoptSet v)) = _
      rw [adoptRow_value (h.inRange dictRow_adopt)]
      rfl) fun v => view_cl (adoptSet_view (k := 4) (by decide) v) (by decide)
  refine ⟨_, rfl, hdone, ?_⟩
  rw [view_cap hview (by decide), adoptSet_cap, view_cap hv (by decide)]

theorem policyWrite_sets {s : State} {ch : ChanId} {val : List Byte} (h : s.takes ch 0x6003 1 val) (h2 : leVal val ≠ 2) :
    Answers (.policyWrite ch val) s (fun t => t.doneOn ch ∧ t.num 0x6003 1 = leVal val ∧ t.cap = s.cap) := by
  have h2' : ((leVal val : Int) != 2) = true := bne_iff_ne.mpr (by omega)
  obtain ⟨v, ⟨hv, -⟩, hdone, hview, hobj⟩ := clWhole_objWrite (g := fun v => setTarget (v.put 0x6003 1 (leVal val))) h dictRow_policy
    (fwOwned_of_own dictRow_policy (by decide) (by decide)) (by decide) (by decide) (fun _ _ => rfl) (fun w v _ => by
      show needState ((leVal val : Int) != 2 || _) (.ok (setTarget (v.put 0x6003 1 (leVal val)))) = _
      rw [h2']
      rfl) fun v => (view_cl (setTarget_view (k := 4) (by decide) (v.put 0x6003 1 (leVal val))) (by decide) :)
  refine ⟨_, rfl, hdone, ?_, ?_⟩
  · rw [num_of_served hobj (by decide), State.num_of_obj (view_obj (setTarget_view (k := 2) (by decide) _) (by decide)),
      State.num_put_same]
  · rw [view_cap hview (by decide), view_cap (setTarget_view (k := 2048) (by decide) _) (by decide), State.put_cap,
      view_cap hv (by decide)]

theorem tileMapWrite_waits {s : State} {ch : ChanId} {val : List Byte} (h : s.takes ch 0x6010 0 val)
    (hr : ∀ x ∈ val, x.toNat < 64 ∨ x.toNat = 0xFF) : Answers (.tilePartitionMapWrite ch val) s (fun t =>
      t.doneOn ch ∧ t.cap.tileMapNext = some (val.map (·.toNat)) ∧ t.cap.tileMap = s.cap.tileMap) := by
  have hall : val.all (fun x => decide (x.toNat < 64) || x.toNat = 0xFF) = true := by simpa using hr
  obtain ⟨v, ⟨hv, -⟩, hdone, hview, -⟩ := clWhole_objWrite
    (g := fun v => { v with cap := { v.cap with tileMapNext := some (val.map (·.toNat)) } }) h dictRow_tileMap
    (fwOwned_of_own dictRow_tileMap (by decide) (by decide)) (by decide) (by decide) (fun _ _ => rfl) (fun w v _ => by
      show needRange (val.all (fun x => decide (x.toNat < 64) || x.toNat = 0xFF)) (.ok _) = _
      rw [hall]
      rfl) fun _ => rfl
  refine ⟨_, rfl, hdone, ?_⟩
  rw [view_cap hview (by decide), ← view_cap hv (by decide)]
  exact ⟨rfl, rfl⟩

/-! Admission begins and ceases (R354). -/

theorem updAccr_num (s : State) {i sub : Nat} (h : okey 0x6007 2 ≠ okey i sub) : (updAccr s).num i sub = s.num i sub := by
  unfold updAccr
  dsimp only
  split
  · exact State.num_put_ne _ _ h
  · rfl

theorem clampStop_cla (s : State) : (clampStop s).cla = { s.cla with
    accounts := s.cla.accounts.map (fun x => { x with live := false }), queue := [], resv := 0,
    grants := s.cla.grants.map (fun g => { g with orphan := true, resv := 0 }) } :=
  view_cla (updAccr_view (k := 4096) (by decide) _) (by decide)

/-- What a write of ENFORCE leaves: its value is stored, and without admission the Clamp has stopped. -/
theorem enforceWrite_sets {s : State} {ch : ChanId} {val : List Byte} (h : s.takes ch 0x7000 8 val) :
    Answers (.enforceWrite ch val) s (fun t => t.doneOn ch ∧ t.num 0x7000 8 = leVal val ∧
      t.cla = if leVal val = 0 then (clampStop s).cla else s.cla) := by
  let g (v : State) : State :=
    if (leVal val : Int) = 0 then clampStop (v.put 0x7000 8 (leVal val)) else v.put 0x7000 8 (leVal val)
  have hg : ∀ v : State, (g v).cl = v.cl ∧ (g v).num 0x7000 8 = leVal val ∧
      (g v).cla = if leVal val = 0 then (clampStop v).cla else v.cla := fun v => by
    have hiff : ((leVal val : Int) = 0) ↔ leVal val = 0 := by omega
    simp only [g, hiff]
    split
    · refine ⟨(view_cl (clampStop_view (k := 4) (by decide) (v.put 0x7000 8 (leVal val))) (by decide) :), ?_,
        by rw [clampStop_cla, clampStop_cla]; rfl⟩
      exact (updAccr_num _ (by decide)).trans (v.num_put_same 0x7000 8 (leVal val))
    · exact ⟨rfl, State.num_put_same .., rfl⟩
  obtain ⟨v, ⟨hv, -⟩, hdone, hview, hobj⟩ := clWhole_objWrite (g := g) h dictRow_enforce
    (fwOwned_of_own dictRow_enforce (by decide) (by decide)) (by decide) (by decide) (fun _ _ => rfl) (fun _ _ _ => rfl)
    fun v => (hg v).1
  obtain ⟨-, hnum, hcla⟩ := hg v
  refine ⟨_, rfl, hdone, (num_of_served hobj (by decide)).trans hnum, ?_⟩
  rw [view_cla hview (by decide), hcla, clampStop_cla, clampStop_cla, view_cla hv (by decide)]

/-! Budget changes (R138, R317). -/

/-- The number that the row's bytes carry is their little-endian value, and the engine serves the row itself. -/
def Row.plain (r : Row) : Bool :=
  !r.ty.signed && (match r.rg with
    | .mask _ => false
    | _ => true) && r.own != 13 && r.own != 14

theorem Row.plain_value {r : Row} (h : r.plain = true) (b : List Byte) : r.rg.clip (r.ty.num b) = leVal b := by
  unfold Row.plain at h
  simp only [Bool.and_eq_true, Bool.not_eq_true'] at h
  obtain ⟨⟨⟨hs, hm⟩, -⟩, -⟩ := h
  have hn : r.ty.num b = leVal b := by
    unfold Ty.num
    rw [hs]
    rfl
  rw [hn]
  cases hr : r.rg with
  | any => rfl
  | ivs _ _ => rfl
  | mask _ => simp [hr] at hm

/-- The rows of the budget objects among the cap's: 0x6001, 0x6002 and the first four subindices of 0x6040 to 0x607F (R337). -/
theorem dictPage_budget : (dictPage 0x60).all (fun r => r.plain || decide (0x6003 ≤ r.i ∧ r.i + r.cnt ≤ 0x6040) ||
    decide (0x6080 ≤ r.i) || decide (0x6040 ≤ r.i ∧ 4 ≤ r.s)) = true := by decide

theorem dictRow_spec {i sub : Nat} {r : Row} (h : dictRow i sub = some r) :
    r ∈ dictPage (i / 256) ∧ r.i ≤ i ∧ i < r.i + r.cnt ∧ r.s ≤ sub := by
  have hp := List.find?_some h
  simp only [Bool.and_eq_true, decide_eq_true_eq] at hp
  exact ⟨List.mem_of_find?_eq_some h, hp.1.1.1, hp.1.1.2, hp.1.2⟩

/-- The indices of the budget objects (R138). -/
theorem budgetRec_index {s : State} {i sub n : Nat} {b : BudRec} (hb : s.budgetRec i sub n = some b) :
    i / 256 = 0x60 ∧ (i < 0x6003 ∨ 0x6040 ≤ i ∧ i < 0x6080 ∧ sub < 4) ∨ i = 0x2100 ∧ sub = 7 := by
  unfold State.budgetRec at hb
  simp only [Bool.and_eq_true, decide_eq_true_eq] at hb
  by_contra hno
  rw [if_neg (by omega), if_neg (by omega), if_neg (by omega), if_neg (by omega), if_neg (by omega)] at hb
  cases hb

theorem dictRow_budgetDefer : dictRow 0x2100 7 = some
    ⟨0x2100, 1, 0x07, 1, .u 4, 0x1202, 6000, .ivs [(0, 262143)] 1, .num, 10, true⟩ := by decide

/-- The budget objects' rows are plain, and neither the re-arm's nor a regulator's. -/
theorem budgetRec_row {s : State} {i sub n : Nat} {b : BudRec} {r : Row} (hb : s.budgetRec i sub n = some b)
    (hr : dictRow i sub = some r) : r.plain = true ∧ i ≠ 0x5300 ∧ ¬(0x2620 ≤ i ∧ i < 0x2628) := by
  obtain ⟨hpage, hi⟩ | ⟨rfl, rfl⟩ := budgetRec_index hb
  · obtain ⟨hmem, hlo, hhi, hs⟩ := dictRow_spec hr
    have hall := List.all_eq_true.mp dictPage_budget r (hpage ▸ hmem)
    simp only [Bool.or_eq_true, decide_eq_true_eq] at hall
    refine ⟨?_, by omega, by omega⟩
    obtain ((hplain | ⟨h1, h2⟩) | h3) | ⟨h4, h5⟩ := hall
    · exact hplain
    all_goals omega
  · obtain rfl := Option.some.inj (hr.symm.trans dictRow_budgetDefer)
    exact ⟨rfl, by decide, by decide⟩

/-- A budget change that may be asked for: in range, not barred, with the root within reach (R316, R317). -/
def State.mayAsk (s : State) (b : BudRec) (cls : Nat) : Prop :=
  b.inRange = true ∧ s.budgetBarred b cls = false ∧ s.rootReach = true

/-- The write of a budget object asks the root for the change (R138). -/
theorem clEffect_asks {ch : ChanId} {a : ClPend} {r : Row} {s t : State} {b : BudRec} (h53 : a.idx ≠ 0x5300)
    (h26 : ¬(0x2620 ≤ a.idx ∧ a.idx < 0x2628)) (hb : s.budgetRec a.idx a.sub (r.rg.clip (r.ty.num a.val)).toNat = some b)
    (hm : s.mayAsk b a.cls) (ht : budAsk [b] s = some t) :
    clEffect ch a r s = if s.isRoot = true then clOk ch a [] t else clWait ch a 3 t := by
  obtain ⟨hin, hbar, hreach⟩ := hm
  unfold clEffect
  dsimp only
  rw [if_neg (by simp [h53]), if_neg (by simp; omega), hb]
  dsimp only
  rw [hin, hbar, hreach, ht]
  rfl

theorem State.budgetRec_congr {s t : State} (h : t.chain = s.chain) (i sub n : Nat) : t.budgetRec i sub n = s.budgetRec i sub n := by
  unfold State.budgetRec
  rw [h]

theorem State.mayAsk_congr {s t : State} (hc : t.chain = s.chain) (hk : t.cap = s.cap) {b : BudRec} {cls : Nat} (h : s.mayAsk b cls) :
    t.mayAsk b cls := by
  obtain ⟨hin, hbar, hreach⟩ := h
  have hbud : t.budget 3 b.part = s.budget 3 b.part := by
    unfold State.budget
    rw [hk]
    rfl
  refine ⟨hin, ?_, ?_⟩
  · rw [← hbar, State.budgetBarred, State.budgetBarred, hc, hbud]
  · rw [← hreach, State.rootReach, State.rootReach, State.isRoot, State.isRoot, hc]

/-- A write that may ask for its change asks for it in the state that serves it. -/
theorem budgetWrite_asks {s : State} {ch : ChanId} {i sub : Nat} {val : List Byte} {b : BudRec} (h : s.takes ch i sub val)
    (hb : s.budgetRec i sub (leVal val) = some b) (hm : s.mayAsk b (s.whoOn ch).cls) : ∃ r, dictRow i sub = some r ∧
      fwOwned i sub = false ∧ ∀ v t : State, v.servesFrom s ch → budAsk [b] v = some t →
        clEffect ch (s.wholePend ch i sub val) r v =
          if s.isRoot = true then clOk ch (s.wholePend ch i sub val) [] t else clWait ch (s.wholePend ch i sub val) 3 t := by
  obtain ⟨-, -, hpass⟩ := h
  obtain ⟨r, hr, -⟩ := State.writePasses_row hpass
  obtain ⟨hplain, h53, h26⟩ := budgetRec_row hb hr
  refine ⟨r, hr, ?_, fun v t hv ht => ?_⟩
  · simp only [Row.plain, Bool.and_eq_true, bne_iff_ne, ne_eq] at hplain
    obtain ⟨⟨-, h13⟩, h14⟩ := hplain
    exact fwOwned_of_own hr h13 h14
  · obtain ⟨hview, -⟩ := hv
    have hc := view_chain hview (by decide)
    have hask := clEffect_asks (ch := ch) (a := s.wholePend ch i sub val) (r := r) h53 h26
      (by
        show v.budgetRec i sub (r.rg.clip (r.ty.num val)).toNat = some b
        rw [Row.plain_value hplain, Int.toNat_natCast, State.budgetRec_congr hc, hb])
      (State.mayAsk_congr hc (view_cap hview (by decide)) hm) ht
    rwa [State.isRoot_of_chain hc] at hask

theorem State.rootReach_of_member {s : State} (h2 : s.chain.role = 2) (hup : s.chain.up.linkUp = true) : s.rootReach = true := by
  rw [State.rootReach, h2, hup]
  exact Bool.or_true _

/-- The root's own change joins its queue at once (R138). -/
theorem budgetWrite_queues {s : State} {ch : ChanId} {i sub : Nat} {val : List Byte} {b : BudRec} (h : s.takes ch i sub val)
    (hb : s.budgetRec i sub (leVal val) = some b) (hin : b.inRange = true) (hbar : s.budgetBarred b (s.whoOn ch).cls = false)
    (hroot : s.isRoot = true) (hroom : (putRec b s.chain.budQueue).length ≤ 64) : Answers (.budgetWrite ch i sub val) s (fun t =>
      t.doneOn ch ∧ t.chain = { s.chain with budQueue := putRec b s.chain.budQueue }) := by
  obtain ⟨r, hr, hfw, hasks⟩ := budgetWrite_asks h hb ⟨hin, hbar, by rw [State.rootReach, hroot, Bool.true_or]⟩
  obtain ⟨v, ⟨hv, -⟩, hdone, hview, -⟩ := clWhole_served
    (g := fun v => { v with chain := { v.chain with budQueue := v.queueWith [b] } }) h hr hfw fun v hv => by
      have hc : v.chain = s.chain := view_chain hv.1 (by decide)
      have hask : budAsk [b] v = some { v with chain := { v.chain with budQueue := v.queueWith [b] } } := by
        unfold budAsk
        rw [State.isRoot_of_chain hc, hroot]
        exact queueRecs_room (by rwa [State.queueWith, hc])
      exact ⟨(hasks v _ hv hask).trans (if_pos hroot), rfl⟩
  refine ⟨_, rfl, hdone, ?_⟩
  rw [view_chain hview (by decide), ← view_chain hv (by decide)]
  rfl

/-- A member asks the root, and its channel waits for the answer (R138). -/
theorem budgetWrite_waits {s : State} {ch : ChanId} {i sub : Nat} {val : List Byte} {b : BudRec} (h : s.takes ch i sub val)
    (hb : s.budgetRec i sub (leVal val) = some b) (hin : b.inRange = true) (hbar : s.budgetBarred b (s.whoOn ch).cls = false)
    (h2 : s.chain.role = 2) (hup : s.chain.up.linkUp = true) : Answers (.budgetWrite ch i sub val) s (fun t =>
      (t.chan ch).state = 1 ∧ ((t.chan ch).pend.map (fun a => a.why)) = some 3 ∧ t.chain.budQueue = s.chain.budQueue) := by
  have hroot : s.isRoot = false := by rw [State.isRoot, h2]; rfl
  obtain ⟨r, hr, hfw, hasks⟩ := budgetWrite_asks h hb ⟨hin, hbar, State.rootReach_of_member h2 hup⟩
  obtain ⟨v, hv, -, -, hwhole⟩ := clWhole_effect h hr hfw
  have heff := hasks v (sendTo 9 1 false ([b].map BudRec.sym) v) hv (by
    unfold budAsk
    rw [State.isRoot_of_chain (view_chain hv.1 (by decide)), hroot]
    rfl)
  rw [hroot, if_neg Bool.false_ne_true] at heff
  obtain ⟨hview, hfq, hcq, hchan, -⟩ := hv
  have hsent := sendTo_sentFrom 9 1 false ([b].map BudRec.sym) v
  rw [heff, clWait, clTurn_quiet (by rw [(State.updChan_queues ..).1, hsent.cl, hfq])
    (by rw [(State.updChan_queues ..).2, hsent.cl, hcq])] at hwhole
  refine ⟨_, congrArg Host.Outcome.next hwhole, ?_⟩
  beta_reduce
  rw [State.chan_updChan_of_cl _ hsent.cl hchan]
  refine ⟨rfl, rfl, ?_⟩
  rw [view_chain (State.updChan_view (k := 8) (by decide) ..) (by decide), hsent.get Chain.budQueue fun _ => rfl,
    view_chain hview (by decide)]

/-- Settles O41: the whole write in service, its object's effect, and for the budget objects the request of the root. -/
theorem capWrites : Obligations.CapWrites := by
  unfold Obligations.CapWrites
  refine ⟨fun ch val s h => adopt_adopts h, fun ch val s h h2 => policyWrite_sets h h2, fun ch val s h h1 => ?begins,
    fun ch val s h h0 => ?ceases, fun ch val s h hv => tileMapWrite_waits h hv,
    fun ch i sub val r s h hb hin hbar hroot hroom => budgetWrite_queues h hb hin hbar hroot hroom,
    fun ch i sub val r s h hb hin hbar h2 hup => budgetWrite_waits h hb hin hbar h2 hup⟩
  case begins =>
    obtain ⟨t, ht, hdone, hnum, hcla⟩ := enforceWrite_sets h
    exact ⟨t, ht, hdone, hnum.trans (by rw [h1]; rfl), by rw [hcla, h1]; rfl⟩
  case ceases =>
    obtain ⟨t, ht, hdone, hnum, hcla⟩ := enforceWrite_sets h
    rw [h0, if_pos rfl, clampStop_cla] at hcla
    refine ⟨t, ht, hdone, hnum.trans (by rw [h0]; rfl), by rw [hcla], fun x hx => ?_, ?_⟩
    · rw [hcla] at hx
      obtain ⟨y, -, rfl⟩ := List.mem_map.mp hx
      rfl
    · rw [hcla, List.map_map]
      rfl

end Sys2Proof.Machine

/-! Enumeration of the chain (O48): the token, its report and the close (R132 to R136). -/

namespace Sys2Proof.Machine

open Sys2Proof

/-! The token (R133 to R135). -/

theorem State.sentFrom.ownDesc {t s : State} (h : t.sentFrom s) (a : Nat) : t.ownDesc a = s.ownDesc a := by
  unfold State.ownDesc State.serial State.flashRead
  rw [h.inst, h.aon, h.flash]

/-- The address that a token offers a node of the node's kind (R133). -/
def State.offered (s : State) (w : Nat) : Nat := if s.inst.sat = true then bits w 9 5 else w % 32

/-- The last address of the node's kind (R134). -/
def State.lastAddr (s : State) : Nat := if s.inst.sat = true then 0x18 else 8

theorem State.sentFrom.offered {t s : State} (h : t.sentFrom s) (w : Nat) : t.offered w = s.offered w := by
  unfold State.offered
  rw [h.inst]

theorem State.sentFrom.lastAddr {t s : State} (h : t.sentFrom s) : t.lastAddr = s.lastAddr := by
  unfold State.lastAddr
  rw [h.inst]

section

variable {p : List Nat} {s : State} (h1 : s.chain.role ≠ 1) (h2 : s.chain.role ≠ 2)

include h1 h2

/-- A node that is neither root nor member takes the next address of its kind (R133). -/
theorem takeToken_takes (ha : s.offered (p.headD 0) ≤ s.lastAddr) : takeToken p s = { s with chain := { s.chain with
    addr := s.offered (p.headD 0), overpop := false, token := descsOf (p.drop 1) ++ [s.ownDesc (s.offered (p.headD 0))],
    tokenNext := p.headD 0 + (if s.inst.sat = true then 32 else 1) + 1024, tokenAt := some s.aon.clock } } := by
  have hfull := decide_eq_false (Nat.not_lt.mpr ha)
  unfold State.lastAddr State.offered at hfull
  unfold takeToken
  rw [if_neg (by simp [h1, h2])]
  dsimp only
  rw [hfull]
  rfl

/-- With no address of its kind left it takes none, and is isolated (R134). -/
theorem takeToken_full (ha : s.lastAddr < s.offered (p.headD 0)) : takeToken p s =
    isolate (raise 0x0603 2 0 0 { s with chain := { s.chain with
      addr := 0, overpop := true, token := descsOf (p.drop 1) ++ [s.ownDesc 0], tokenNext := p.headD 0,
      tokenAt := some s.aon.clock } }) := by
  have hfull := decide_eq_true ha
  unfold State.lastAddr State.offered at hfull
  unfold takeToken
  rw [if_neg (by simp [h1, h2])]
  dsimp only
  rw [hfull]
  rfl

end

/-- An isolated node keeps what is not its role. -/
theorem isolate_chain (s : State) : ∃ r, (isolate s).chain = { s.chain with role := r, isolated := true } := by
  unfold isolate
  split
  · exact ⟨_, rfl⟩
  · exact ⟨_, rfl⟩

theorem enumReceive_takes {l : Side} {f : Frame} {s : State} (h : s.hearsFrame l 1 f) (h1 : s.chain.role ≠ 1) (h2 : s.chain.role ≠ 2)
    (ha : s.offered (f.payload.headD 0) ≤ s.lastAddr) : Answers (.enumReceive l f) s (fun t =>
      t.chain.addr = s.offered (f.payload.headD 0) ∧ t.chain.overpop = false ∧
      t.chain.token = descsOf (f.payload.drop 1) ++ [s.ownDesc (s.offered (f.payload.headD 0))] ∧
      t.chain.tokenNext = f.payload.headD 0 + (if s.inst.sat = true then 32 else 1) + 1024 ∧
      t.chain.tokenAt = some s.aon.clock) := by
  refine answers_hears (k := takeToken) rfl h fun t ht => ?_
  rw [takeToken_takes (by rwa [ht.role]) (by rwa [ht.role]) (by rwa [ht.offered, ht.lastAddr]), ht.offered, ht.ownDesc, ht.inst,
    ht.aon]
  exact ⟨rfl, rfl, rfl, rfl, rfl⟩

theorem enumReceive_full {l : Side} {f : Frame} {s : State} (h : s.hearsFrame l 1 f) (h1 : s.chain.role ≠ 1) (h2 : s.chain.role ≠ 2)
    (ha : s.lastAddr < s.offered (f.payload.headD 0)) : Answers (.enumReceive l f) s (fun t =>
      t.chain.addr = 0 ∧ t.chain.overpop = true ∧ t.chain.tokenNext = f.payload.headD 0 ∧ t.chain.isolated = true) := by
  refine answers_hears (k := takeToken) rfl h fun t ht => ?_
  rw [takeToken_full (by rwa [ht.role]) (by rwa [ht.role]) (by rwa [ht.offered, ht.lastAddr])]
  obtain ⟨r, hr⟩ := isolate_chain (raise 0x0603 2 0 0 { t with chain := { t.chain with
      addr := 0, overpop := true, token := descsOf (f.payload.drop 1) ++ [t.ownDesc 0], tokenNext := f.payload.headD 0,
      tokenAt := some t.aon.clock } })
  rw [hr, raise_chain]
  exact ⟨rfl, rfl, rfl, rfl⟩

/-- A token that may go on does (R133). -/
theorem forwardToken_sends {u : Nat} {s : State} (ht : s.chain.tokenAt = some u) (h5 : s.isReady 5 = true)
    (hup : s.chain.dn.linkUp = true) (ho : s.obs.standing = false) : forwardToken s =
      if s.chain.role = 1 then (if s.chain.enumSent = 0 && !s.chain.enumClosed then sendEnum s else s)
      else { sendAll .dn (splitMsg 1 0 0 false 1 s.tokenSyms) s with
        chain := { (sendAll .dn (splitMsg 1 0 0 false 1 s.tokenSyms) s).chain with tokenAt := none, token := [] } } := by
  unfold forwardToken
  rw [if_neg (by simp [ht, h5, hup, ho])]

/-! The close (R135, R136). -/

theorem becomeReady_8 (s : State) : becomeReady 8 s = setReady 8 s := by
  unfold becomeReady
  rw [if_neg (by decide : ¬ 8 ≤ 4), functionDefaults_8]
  split
  · rename_i h
    exact (if_pos h).symm
  · rfl

/-- A node that joins the chain is ready on it and no longer holds the token (R136, R144). -/
theorem joinChain_joins (s : State) :
    (joinChain s).chain = { s.chain with telemNextAt := s.aon.clock + ms 1, tokenAt := none } ∧
      (joinChain s).isReady 8 = true ∧ (joinChain s).aon.clock = s.aon.clock := by
  unfold joinChain
  refine ⟨?_, becomeReady_isReady 8 _, ?_⟩
  · rw [becomeReady_8, setReady_chain]
  · rw [becomeReady_8]
    obtain ⟨x, y, st, r, c, h⟩ := setReady_keep 8 ({ s with
      chain := { s.chain with telemNextAt := s.aon.clock + ms 1, tokenAt := none }, aon := { s.aon with step3Done := true } })
    rw [h]

theorem raise_isReady (c v a b f : Nat) (s : State) : (raise c v a b s).isReady f = s.isReady f :=
  congrArg (bit · f) (raise_early c v a b s Aon.ready fun _ _ _ => rfl)

/-- The root that closes enumeration: its members are the nodes of the list that have an address, in its order (R136). -/
theorem rootClose_closes (l : List Desc) (s : State) :
    let n := (l.filter (fun d => d.addr != 0)).map (fun d => d.addr)
    (rootClose l s).chain.enumClosed = true ∧ (rootClose l s).chain.order = n ∧ (rootClose l s).chain.memberMask = maskOf n ∧
      (rootClose l s).chain.role = s.chain.role ∧ (rootClose l s).chain.tokenAt = none ∧ (rootClose l s).isReady 8 = true ∧
      (rootClose l s).aon.clock = s.aon.clock := by
  intro n
  let r : State := { s with chain := { s.chain with
    memberMask := maskOf n, order := n, descs := l.filter (fun d => d.addr != 0), enumClosed := true, token := [], isolated := false } }
  let p := r.put 0x2100 0x0A ((r.num 0x2100 0x0A + 1) % 2 ^ 32)
  let u := broadcast 3 false (p.closeSyms (p.chainCfg 7)) p
  have hu : u.sentFrom p := broadcast_sentFrom ..
  obtain ⟨hchain, hready, hclock⟩ := joinChain_joins u
  have hraise : ∃ w : State, rootClose l s = queueOwn w.storedBudgets w ∧ w.chain = (joinChain u).chain ∧
      w.isReady 8 = (joinChain u).isReady 8 ∧ w.aon.clock = (joinChain u).aon.clock := by
    refine ⟨_, rfl, ?_⟩
    split
    · exact ⟨raise_chain .., raise_isReady .., raise_clock ..⟩
    · exact ⟨rfl, rfl, rfl⟩
  obtain ⟨w, hw, hwc, hwr, hwk⟩ := hraise
  have hget {α : Type} (g : Chain → α) (hg : ∀ c q, g { c with budQueue := q } = g c) :
      g (rootClose l s).chain = g (joinChain u).chain := by
    rw [hw, ← hwc]
    exact hg _ _
  rw [hget Chain.enumClosed fun _ _ => rfl, hget Chain.order fun _ _ => rfl, hget Chain.memberMask fun _ _ => rfl,
    hget Chain.role fun _ _ => rfl, hget Chain.tokenAt fun _ _ => rfl, hchain]
  have haon : (rootClose l s).aon = w.aon := by rw [hw]; rfl
  refine ⟨hu.get Chain.enumClosed fun _ => rfl, hu.get Chain.order fun _ => rfl, hu.get Chain.memberMask fun _ => rfl,
    hu.get Chain.role fun _ => rfl, rfl, ?_, ?_⟩
  · rw [State.isReady, haon, ← State.isReady, hwr, hready]
  · rw [haon, hwk, hclock, hu.aon]
    rfl

/-- A node alone closes with itself, at address 0x01 (R135). -/
theorem rootClose_alone (s : State) : (rootClose [s.ownDesc 1] s).chain.enumClosed = true ∧
    (rootClose [s.ownDesc 1] s).chain.order = [1] ∧ (rootClose [s.ownDesc 1] s).chain.tokenAt = none ∧
    (rootClose [s.ownDesc 1] s).isReady 8 = true ∧ (rootClose [s.ownDesc 1] s).aon.clock = s.aon.clock := by
  obtain ⟨hclosed, horder, -, -, htoken, hready, hclock⟩ := rootClose_closes [s.ownDesc 1] s
  exact ⟨hclosed, horder, htoken, hready, hclock⟩

theorem advanceTo_isRoot (d : Nat) (s : State) : (advanceTo d s).isRoot = s.isRoot :=
  State.isRoot_of_chain (advanceTo_chain d s)

/-- The far end, or a root without one, no longer holds the token (R135). -/
theorem farEndTimeout_ends {u : Nat} {s : State} (hp : s.aon.porN = true) (ht : s.chain.tokenAt = some u) (h5 : s.isReady 5 = true)
    (hdn : s.chain.dn.linkUp = false) (ho : s.obs.standing = false) : Answers .farEndTimeout s (fun t =>
      t.chain.tokenAt = (if s.isRoot = true ∧ s.chain.enumClosed = true then some u else none) ∧
      t.aon.clock = max s.aon.clock (max u (4 * s.aon.stamps.getD 5 0) + us 100) ∧
      (s.isRoot = false → t.chain.token = [] ∧ t.chain.role = s.chain.role) ∧
      (s.isRoot = true → s.chain.enumClosed = false → t.chain.enumClosed = true ∧ t.chain.order = [1] ∧ t.isReady 8 = true)) := by
  let v := advanceTo (max u (4 * s.aon.stamps.getD 5 0) + us 100) s
  have hclock : v.aon.clock = max s.aon.clock (max u (4 * s.aon.stamps.getD 5 0) + us 100) := advanceTo_clock _ hp
  have hchain : v.chain = s.chain := advanceTo_chain _ s
  have hexec : exec .farEndTimeout s =
      if v.isRoot = true then .next (if v.chain.enumClosed = true then v else rootClose [v.ownDesc 1] v)
      else .next (reportToken v) := by
    show execFarEndTimeout s = _
    unfold execFarEndTimeout
    rw [ht]
    dsimp only
    rw [if_neg (by simp [h5, hdn, ho])]
  rw [State.isRoot_of_chain hchain, hchain] at hexec
  by_cases hr : s.isRoot = true
  · by_cases hc : s.chain.enumClosed = true
    · rw [if_pos hr, if_pos hc] at hexec
      refine ⟨v, hexec, ?_, hclock, by simp [hr], by simp [hc]⟩
      rw [hchain, ht, if_pos ⟨hr, hc⟩]
    · rw [if_pos hr, if_neg hc] at hexec
      obtain ⟨hclosed, horder, htoken, hready, hk⟩ := rootClose_alone v
      exact ⟨_, hexec, by rw [htoken, if_neg fun h => hc h.2], hk.trans hclock, by simp [hr], fun _ _ => ⟨hclosed, horder, hready⟩⟩
  · rw [if_neg hr] at hexec
    have hsent := sendAll_sentFrom .up (splitMsg 2 1 0 false 1 v.tokenSyms) v
    refine ⟨_, hexec, by rw [if_neg fun h => hr h.1]; rfl, ?_, fun _ => ⟨rfl, ?_⟩, fun h => absurd h hr⟩
    · exact (congrArg Aon.clock hsent.aon).trans hclock
    · exact hsent.role.trans (congrArg Chain.role hchain)

/-- ENUM is sent again, three milliseconds after the last (R135). -/
theorem enumRepeat_sends {u : Nat} {s : State} (hp : s.aon.porN = true) (hf : s.chain.enumFirstAt = some u) (hr : s.isRoot = true)
    (hc : s.chain.enumClosed = false) (hn : s.chain.enumSent < 3) (ho : s.obs.standing = false) : Answers .enumRepeat s (fun t =>
      t.chain.enumSent = s.chain.enumSent + 1 ∧ t.chain.enumFirstAt = some u ∧
      t.aon.clock = max s.aon.clock (u + ms 3 * s.chain.enumSent)) := by
  let v := advanceTo (u + ms 3 * s.chain.enumSent) s
  have hchain : v.chain = s.chain := advanceTo_chain _ s
  have hsent := sendEnum_sentFrom v
  refine ⟨sendEnum v, ?_, ?_, ?_, ?_⟩
  · show execEnumRepeat s = _
    unfold execEnumRepeat
    rw [hf]
    exact if_pos (by simp [hr, hc, hn, ho])
  · rw [hsent.get Chain.enumSent fun _ => rfl, hchain]
  · rw [hsent.get Chain.enumFirstAt fun _ => rfl, hchain, hf]
    rfl
  · rw [hsent.aon]
    exact advanceTo_clock _ hp

theorem enumTimeout_closes {u : Nat} {s : State} (hp : s.aon.porN = true) (hf : s.chain.enumFirstAt = some u) (hr : s.isRoot = true)
    (hc : s.chain.enumClosed = false) (ho : s.obs.standing = false) : Answers .enumTimeout s (fun t =>
      t.chain.enumClosed = true ∧ t.chain.order = [1] ∧ t.isReady 8 = true ∧ t.aon.clock = max s.aon.clock (u + ms 10)) := by
  have hown : s.ownDesc 1 = (advanceTo (u + ms 10) s).ownDesc 1 := by
    unfold State.ownDesc State.serial State.flashRead
    rw [advanceTo_inst, advanceTo_flash, advanceTo_aon _ s hp]
  obtain ⟨hclosed, horder, -, hready, hk⟩ := rootClose_alone (advanceTo (u + ms 10) s)
  refine ⟨rootClose [(advanceTo (u + ms 10) s).ownDesc 1] (advanceTo (u + ms 10) s), ?_, hclosed, horder, hready,
    hk.trans (advanceTo_clock _ hp)⟩
  show execEnumTimeout s = _
  unfold execEnumTimeout
  rw [hf, ← hown]
  exact if_pos (by simp [hr, hc, ho])

/-- A node of the mask is a member, with the root's mask and order (R136). -/
theorem hearClose_joins {p : List Nat} {s : State} (hr : s.isRoot = false) (ha : s.chain.addr ≠ 0)
    (hm : bit (p.headD 0) s.chain.addr = true) :
    (hearClose 0x1F p s).chain.role = 2 ∧ (hearClose 0x1F p s).chain.memberMask = p.headD 0 ∧
      (hearClose 0x1F p s).chain.order = orderOf ((p.drop 1).take 4) ∧ (hearClose 0x1F p s).chain.addr = s.chain.addr ∧
      (hearClose 0x1F p s).isReady 8 = true := by
  have hjoin : ∃ u : State, hearClose 0x1F p s = joinChain u ∧ u.chain.role = 2 ∧ u.chain.memberMask = p.headD 0 ∧
      u.chain.order = orderOf ((p.drop 1).take 4) ∧ u.chain.addr = s.chain.addr := by
    unfold hearClose
    rw [if_neg (by rw [hr]; decide)]
    dsimp only
    rw [if_neg (by decide : ¬((0x1F : Nat) != 0x1F) = true), if_pos (by rw [hm, bne_iff_ne.mpr ha]; rfl)]
    exact ⟨_, rfl, rfl, rfl, rfl, rfl⟩
  obtain ⟨u, hu, hrole, hmask, horder, haddr⟩ := hjoin
  obtain ⟨hchain, hready, -⟩ := joinChain_joins u
  rw [hu, hchain]
  exact ⟨hrole, hmask, horder, haddr, hready⟩

/-- Settles O48: the actions of the token's frames, and the root's close. -/
theorem chainEnumeration : Obligations.ChainEnumeration := by
  unfold Obligations.ChainEnumeration
  refine ⟨?takes, ?full, ?sendsOn, ?rootSends, fun u s hp ht h5 hdn ho => farEndTimeout_ends hp ht h5 hdn ho,
    fun u s hp hf hr hc hn ho => enumRepeat_sends hp hf hr hc hn ho, fun u s hp hf hr hc ho => enumTimeout_closes hp hf hr hc ho,
    ?reports, ?joins⟩
  case takes =>
    rintro l f w a s h - h1 h2 rfl rfl ha
    exact enumReceive_takes h h1 h2 ha
  case full =>
    rintro l f w s h - h1 h2 rfl ha
    exact enumReceive_full h h1 h2 ha
  case sendsOn =>
    intro u s ht h5 hup ho h1
    have hsend := forwardToken_sends ht h5 hup ho
    rw [if_neg h1] at hsend
    exact ⟨_, congrArg Host.Outcome.next hsend, rfl, rfl, (sendAll_sentFrom ..).get Chain.addr fun _ => rfl⟩
  case rootSends =>
    intro u s ht h5 hup ho h1 hn hc
    have hsend := forwardToken_sends ht h5 hup ho
    rw [if_pos h1, if_pos (by simp [hn, hc])] at hsend
    have hsent := sendEnum_sentFrom s
    exact ⟨_, congrArg Host.Outcome.next hsend, (hsent.get Chain.tokenAt fun _ => rfl).trans ht, hsent.get Chain.token fun _ => rfl,
      (hsent.get Chain.enumSent fun _ => rfl).trans (congrArg (· + 1) hn)⟩
  case reports =>
    rintro l f n s h hr hc rfl
    refine answers_hears (k := takeReport) rfl h fun t ht => ?_
    obtain ⟨hclosed, horder, hmask, hrole, -, hready, -⟩ := rootClose_closes (descsOf (f.payload.drop 1)) t
    unfold takeReport
    rw [if_pos (by rw [ht.isRoot, hr, ht.get Chain.enumClosed fun _ => rfl, hc]; rfl)]
    exact ⟨hclosed, horder, hmask, hready, by rw [hrole, ht.role]; simpa [State.isRoot] using hr⟩
  case joins =>
    intro l f s h hd hr ha hm
    refine answers_hears (k := hearClose f.dst) rfl h fun t ht => ?_
    have haddr := ht.get Chain.addr fun _ => rfl
    obtain ⟨hrole, hmask, horder, hadd, hready⟩ := hearClose_joins (p := f.payload) (s := t) (by rw [ht.isRoot, hr]) (by rwa [haddr])
      (by rwa [haddr])
    rw [hd]
    exact ⟨hrole, hmask, horder, hadd.trans haddr, hready⟩

end Sys2Proof.Machine

/-! The membership of the chain (O49): losses, the return of a member, and the operator's writes (R147 to R153). -/

namespace Sys2Proof.Machine

open Sys2Proof

/-! Losses (R148, R149). -/

/-- A member that remains notes a loss (R149). -/
theorem nodeLost_notes {l : Side} {f : Frame} {s : State} (h : s.hearsFrame l 4 f) (h2 : s.chain.role = 2)
    (hr : s.therm.relays = []) (ha : bit (f.payload.headD 0) s.chain.addr = false) (h1 : bit (f.payload.headD 0) 1 = false) :
    Answers (.nodeLostReceive l f) s (fun t =>
      t.chain.memberMask = maskOf ((bitsOf 32 s.chain.memberMask).filter (fun a => !bit (f.payload.headD 0) a)) ∧
      t.chain.lostMask = maskOf (bitsOf 32 s.chain.lostMask ++ bitsOf 32 (f.payload.headD 0)) ∧ t.aon.fqIrq = true ∧
      t.chain.role = 2) := by
  refine answers_hears (k := fun p => hearLost (p.headD 0) (p.getD 1 0)) rfl h fun t ht => ?_
  have hrole : t.chain.role = 2 := ht.role.trans h2
  have hlost : hearLost (f.payload.headD 0) (f.payload.getD 1 0) t = memberLost (f.payload.headD 0) (f.payload.getD 1 0) t := by
    unfold hearLost
    rw [State.isRoot, hrole, ht.get Chain.addr fun _ => rfl, ha, h1]
    rfl
  have hrel : t.therm.relays = [] := (congrArg Therm.relays ht.therm).trans hr
  obtain ⟨hirq, -⟩ := memberLost_aon (f.payload.headD 0) (f.payload.getD 1 0) hrel
  rw [hlost, memberLost_chain _ _ hrel, ← ht.get Chain.memberMask fun _ => rfl, ← ht.get Chain.lostMask fun _ => rfl]
  exact ⟨rfl, rfl, hirq, hrole⟩

/-- A loss that names the member itself or the root isolates it (R148). -/
theorem nodeLost_isolates {l : Side} {f : Frame} {s : State} (h : s.hearsFrame l 4 f) (h2 : s.chain.role = 2)
    (ha : bit (f.payload.headD 0) s.chain.addr = true ∨ bit (f.payload.headD 0) 1 = true) :
    Answers (.nodeLostReceive l f) s (fun t =>
      t.chain.role = 3 ∧ t.chain.isolated = true ∧ t.chain.memberMask = s.chain.memberMask) := by
  refine answers_hears (k := fun p => hearLost (p.headD 0) (p.getD 1 0)) rfl h fun t ht => ?_
  have hrole : t.chain.role = 2 := ht.role.trans h2
  have hlost : hearLost (f.payload.headD 0) (f.payload.getD 1 0) t =
      { t with chain := { t.chain with role := 3, isolated := true } } := by
    unfold hearLost isolate
    rw [State.isRoot, hrole, ht.get Chain.addr fun _ => rfl, if_neg (by decide), if_neg (by decide), if_pos (by simpa using ha),
      if_neg (by decide)]
  rw [hlost]
  exact ⟨rfl, rfl, ht.get Chain.memberMask fun _ => rfl⟩

/-- With the change in progress ended no transaction stands (R143). -/
theorem endTxn_ends (s : State) : (endTxn s).chain.txn = none ∧ (endTxn s).chain.memberMask = s.chain.memberMask ∧
    (endTxn s).chain.role = s.chain.role := by
  unfold endTxn
  split
  · rename_i t ht
    obtain ⟨o, p, hsent⟩ := abortTxn_sentFrom t s
    exact ⟨hsent.get Chain.txn fun _ => rfl, hsent.get Chain.memberMask fun _ => rfl, hsent.get Chain.role fun _ => rfl⟩
  · rename_i ht
    exact ⟨ht, rfl, rfl⟩

theorem State.sentFrom.lostOf {t s : State} (h : t.sentFrom s) (mask : Nat) : t.lostOf mask = s.lostOf mask := by
  unfold State.lostOf
  rw [h.get Chain.memberMask fun _ => rfl, h.get Chain.addr fun _ => rfl]

/-- The root that loses members has told FQ_IRQ, and a change in progress has ended (R143, R149). -/
theorem rootLost_ends {mask : Nat} (reason : Nat) {s : State} (hr : s.therm.relays = []) (h : s.lostOf mask ≠ 0) :
    (rootLost mask reason s).chain.memberMask =
        maskOf ((bitsOf 32 s.chain.memberMask).filter (fun a => !bit (s.lostOf mask) a)) ∧
      (rootLost mask reason s).chain.txn = none ∧ (rootLost mask reason s).chain.retryAt = none ∧
      (rootLost mask reason s).chain.role = s.chain.role ∧ (rootLost mask reason s).aon.fqIrq = true := by
  obtain ⟨n, q, he⟩ := rootLost_eq reason h
  obtain ⟨⟨x, hx⟩, -, hirq⟩ := rootNotes_keep (s.lostOf mask) reason hr
  obtain ⟨htxn, hmask, hrole⟩ := endTxn_ends (rootNotes (s.lostOf mask) reason s)
  have hm := congrArg Chain.memberMask hx
  have hro := congrArg Chain.role hx
  rw [he]
  exact ⟨hmask.trans hm, htxn, rfl, hrole.trans hro, (congrArg Aon.fqIrq (endTxn_aon _)).trans hirq⟩

theorem nodeLost_root {l : Side} {f : Frame} {s : State} (h : s.hearsFrame l 4 f) (h1 : s.chain.role = 1) (hr : s.therm.relays = [])
    (hm : s.lostOf (f.payload.headD 0) ≠ 0) : Answers (.nodeLostReceive l f) s (fun t =>
      t.chain.memberMask = maskOf ((bitsOf 32 s.chain.memberMask).filter (fun a => !bit (s.lostOf (f.payload.headD 0)) a)) ∧
      t.chain.txn = none ∧ t.chain.retryAt = none ∧ t.chain.role = 1 ∧ t.aon.fqIrq = true) := by
  refine answers_hears (k := fun p => hearLost (p.headD 0) (p.getD 1 0)) rfl h fun t ht => ?_
  have hrole : t.chain.role = 1 := ht.role.trans h1
  have hlost : hearLost (f.payload.headD 0) (f.payload.getD 1 0) t = rootLost (f.payload.headD 0) (f.payload.getD 1 0) t :=
    if_pos (by rw [State.isRoot, hrole]; rfl)
  obtain ⟨hmask, htxn, hretry, hro, hirq⟩ := rootLost_ends (f.payload.getD 1 0) (s := t) (mask := f.payload.headD 0)
    ((congrArg Therm.relays ht.therm).trans hr) (by rwa [ht.lostOf])
  rw [hlost, hmask, ht.lostOf, ht.get Chain.memberMask fun _ => rfl]
  exact ⟨rfl, htxn, hretry, hro.trans hrole, hirq⟩

/-! The return of a member (R151). -/

/-- A node that the root admits is a member at its address. -/
theorem admitNode_admits (d : Desc) (a : Nat) (s : State) :
    (admitNode d a s).chain.memberMask = putBit s.chain.memberMask a true ∧
      (admitNode d a s).chain.lostMask = putBit s.chain.lostMask a false ∧
      (admitNode d a s).chain.order = (if s.chain.order.contains a then s.chain.order else s.chain.order ++ [a]) := by
  unfold admitNode
  extract_lets d' c v p u
  have hu : u.sentFrom v := (broadcast_sentFrom ..).trans (sendTo_sentFrom ..)
  exact ⟨hu.get Chain.memberMask fun _ => rfl, hu.get Chain.lostMask fun _ => rfl, hu.get Chain.order fun _ => rfl⟩

theorem nodeRejoin_admits {l : Side} {f : Frame} {x : Desc} {s : State} (h : s.hearsFrame l 5 f) (h1 : s.chain.role = 1)
    (hc : s.chain.enumClosed = true)
    (hx : s.chain.descs.find? (fun d => d.serial = (descOf (f.payload.headD 0) (f.payload.getD 1 0) (f.payload.getD 2 0)).serial &&
      bit s.chain.lostMask d.addr) = some x) (hh : bit s.chain.heldMask x.addr = false) :
    Answers (.nodeRejoinReceive l f) s (fun t =>
      t.chain.memberMask = putBit s.chain.memberMask x.addr true ∧ t.chain.lostMask = putBit s.chain.lostMask x.addr false ∧
      t.chain.order = (if s.chain.order.contains x.addr then s.chain.order else s.chain.order ++ [x.addr])) := by
  have hroot : s.isRoot = true := by rw [State.isRoot, h1]; rfl
  refine answers_hears (k := takeRejoin) (if_pos (by rw [hroot]; rfl)) h fun t ht => ?_
  have hadmits : takeRejoin f.payload t =
      admitNode (descOf (f.payload.headD 0) (f.payload.getD 1 0) (f.payload.getD 2 0)) x.addr t := by
    unfold takeRejoin
    dsimp only
    rw [ht.isRoot, hroot, ht.get Chain.enumClosed fun _ => rfl, hc, ht.get Chain.descs fun _ => rfl, ht.get Chain.lostMask fun _ => rfl, hx]
    exact if_neg (show ¬bit t.chain.heldMask x.addr = true by rw [ht.get Chain.heldMask fun _ => rfl, hh]; decide)
  rw [hadmits, ← ht.get Chain.memberMask fun _ => rfl, ← ht.get Chain.lostMask fun _ => rfl, ← ht.get Chain.order fun _ => rfl]
  exact admitNode_admits ..

/-! The operator's writes (R149, R152, R153). -/

theorem dictRow_holdOutClear : dictRow 0x2100 8 =
    some ⟨0x2100, 1, 0x08, 1, .u 4, 0x0303, 0, .mask 0x1FFFFFE, .absent, 10, false⟩ := by decide

theorem dictRow_assumeRoot : dictRow 0x2100 9 =
    some ⟨0x2100, 1, 0x09, 1, .u 1, 0x0303, 0, .ivs [(1, 1)] 1, .absent, 10, false⟩ := by decide

theorem dictRow_reserveRelease : dictRow 0x2100 0x0B =
    some ⟨0x2100, 1, 0x0B, 1, .u 4, 0x0303, 0, .mask 0x1FFFFFE, .absent, 10, false⟩ := by decide

theorem holdOutClear_clears {s : State} {ch : ChanId} {val : List Byte} (h : s.takes ch 0x2100 8 val) :
    Answers (.holdOutClear ch val) s (fun t => t.doneOn ch ∧ t.chain = { s.chain with
      heldMask := maskOf ((bitsOf 32 s.chain.heldMask).filter (fun a => !bit ((Rg.mask 0x1FFFFFE).clip (leVal val)).toNat a)) }) := by
  obtain ⟨v, ⟨hv, -⟩, hdone, hview, -⟩ := clWhole_objWrite
    (g := fun v => { v with chain := { v.chain with
      heldMask := maskOf ((bitsOf 32 v.chain.heldMask).filter (fun a => !bit ((Rg.mask 0x1FFFFFE).clip (leVal val)).toNat a)) } })
    h dictRow_holdOutClear (fwOwned_of_own dictRow_holdOutClear (by decide) (by decide)) (by decide) (by decide) (fun _ _ => rfl)
    (fun _ _ _ => rfl) fun _ => rfl
  refine ⟨_, rfl, hdone, ?_⟩
  rw [view_chain hview (by decide), ← view_chain hv (by decide)]

theorem reserveRelease_releases {s : State} {ch : ChanId} {val : List Byte} (h : s.takes ch 0x2100 0x0B val)
    (hc : covers s.chain.lostMask ((Rg.mask 0x1FFFFFE).clip (leVal val)).toNat = true) :
    Answers (.reserveRelease ch val) s (fun t => t.doneOn ch ∧ t.chain = { s.chain with
      released := maskOf (bitsOf 32 s.chain.released ++ bitsOf 32 ((Rg.mask 0x1FFFFFE).clip (leVal val)).toNat) }) := by
  obtain ⟨v, ⟨hv, -⟩, hdone, hview, -⟩ := clWhole_objWrite
    (g := fun v => { v with chain := { v.chain with
      released := maskOf (bitsOf 32 v.chain.released ++ bitsOf 32 ((Rg.mask 0x1FFFFFE).clip (leVal val)).toNat) } })
    h dictRow_reserveRelease (fwOwned_of_own dictRow_reserveRelease (by decide) (by decide)) (by decide) (by decide)
    (fun _ _ => rfl) (fun w v hv => by
      rw [← view_chain hv.1 (by decide)] at hc
      exact if_pos hc) fun _ => rfl
  refine ⟨_, rfl, hdone, ?_⟩
  rw [view_chain hview (by decide), ← view_chain hv (by decide)]

theorem State.ownDesc_congr {t s : State} (hi : t.inst = s.inst) (hf : t.flash = s.flash) (hr : t.aon.strapRoot = s.aon.strapRoot)
    (hb : t.aon.strapBoot = s.aon.strapBoot) (a : Nat) : t.ownDesc a = s.ownDesc a := by
  unfold State.ownDesc State.serial State.flashRead
  rw [hi, hf, hr, hb]

/-- A node that becomes root holds the first token alone, and sends it where a node lies beyond (R133, R153). -/
theorem assumeRoot_assumes (s : State) :
    (assumeRoot s).chain.role = 1 ∧ (assumeRoot s).chain.addr = 1 ∧ (assumeRoot s).chain.memberMask = 0 ∧
      (assumeRoot s).chain.lostMask = 0 ∧ (assumeRoot s).chain.enumClosed = false ∧ (assumeRoot s).chain.token = [s.ownDesc 1] ∧
      (assumeRoot s).chain.enumSent = (if s.chain.dn.linkUp = true then 1 else 0) := by
  let b : State := { s with
    chain := { s.chain with memberMask := 0, lostMask := 0, heldMask := 0, released := 0, order := [], descs := [], budQueue := [],
                            txn := none, retryRecs := [], retryAt := none, decisions := [], losses := [], preps := [] },
    dove := { s.dove with rootEpoch := 1, epoch := 0, arrived := 0 } }
  let r := raise 0x0608 2 0 0 b
  have hown : r.ownDesc 1 = s.ownDesc 1 := State.ownDesc_congr (raise_inst ..) (raise_flash ..)
    (raise_early _ _ _ _ b Aon.strapRoot fun _ _ _ => rfl) (raise_early _ _ _ _ b Aon.strapBoot fun _ _ _ => rfl) 1
  have hchain : r.chain = b.chain := raise_chain ..
  have he : assumeRoot s = takeRoot r := rfl
  unfold takeRoot at he
  rw [hown, hchain] at he
  dsimp only at he
  rw [he]
  by_cases hd : s.chain.dn.linkUp = true
  · rw [if_pos hd, if_pos hd]
    have hs := sendEnum_sentFrom { r with chain := { b.chain with
      role := 1, addr := 1, token := [s.ownDesc 1], tokenNext := 2 + 32 * 0x11 + 1024, tokenAt := some r.aon.clock,
      enumFirstAt := none, enumSent := 0, enumClosed := false } }
    exact ⟨hs.get Chain.role fun _ => rfl, hs.get Chain.addr fun _ => rfl, hs.get Chain.memberMask fun _ => rfl,
      hs.get Chain.lostMask fun _ => rfl, hs.get Chain.enumClosed fun _ => rfl, hs.get Chain.token fun _ => rfl,
      hs.get Chain.enumSent fun _ => rfl⟩
  · rw [if_neg hd, if_neg hd]
    exact ⟨rfl, rfl, rfl, rfl, rfl, rfl, rfl⟩

theorem assumeRoot_cl (s : State) : (assumeRoot s).cl = s.cl := view_cl (assumeRoot_view (k := 4) (by decide) s) (by decide)

/-- Only a compute die with BCH_UP down becomes root (R153). -/
theorem objWrite_assumeRoot (w : Who) (n : Int) (b : List Byte) (v : State) :
    objWrite w 0x2100 9 n b v = if v.inst.sat = false ∧ v.chain.up.linkUp = false then .ok (assumeRoot v) else .error abState := by
  show needState (!v.inst.sat && !v.chain.up.linkUp) (.ok (assumeRoot v)) = _
  unfold needState
  simp only [Bool.and_eq_true, Bool.not_eq_true']

theorem assumeRoot_serves {s : State} {ch : ChanId} {val : List Byte} (h : s.takes ch 0x2100 9 val) (hs : s.inst.sat = false)
    (hup : s.chain.up.linkUp = false) : Answers (.assumeRoot ch val) s (fun t =>
      t.doneOn ch ∧ t.chain.role = 1 ∧ t.chain.addr = 1 ∧ t.chain.memberMask = 0 ∧ t.chain.lostMask = 0 ∧ t.chain.enumClosed = false ∧
      t.chain.token = [s.ownDesc 1] ∧ t.chain.enumSent = (if s.chain.dn.linkUp = true then 1 else 0)) := by
  obtain ⟨v, ⟨hv, -⟩, hdone, hview, -⟩ := clWhole_objWrite (g := assumeRoot) h dictRow_assumeRoot
    (fwOwned_of_own dictRow_assumeRoot (by decide) (by decide)) (by decide) (by decide) (fun _ _ => rfl) (fun w v hv => by
      obtain ⟨hv, -⟩ := hv
      rw [objWrite_assumeRoot, view_inst hv, view_chain hv (by decide), if_pos ⟨hs, hup⟩]) assumeRoot_cl
  refine ⟨_, rfl, hdone, ?_⟩
  have haon := view_aon hv (by decide)
  rw [view_chain hview (by decide), ← view_chain hv (by decide), ← State.ownDesc_congr (view_inst hv) (view_flash hv (by decide))
    (congrArg Aon.strapRoot haon) (congrArg Aon.strapBoot haon)]
  exact assumeRoot_assumes v

/-- A satellite, or a node with its upstream link up, does not become root (R153). -/
theorem assumeRoot_refused {s : State} {ch : ChanId} {val : List Byte} (h : s.takes ch 0x2100 9 val)
    (hno : s.inst.sat = true ∨ s.chain.up.linkUp = true) :
    Answers (.assumeRoot ch val) s (fun t => t.abortedOn ch abState ∧ t.chain = s.chain) := by
  obtain ⟨v, ⟨hv, hfq, hcq, hchan, -⟩, -, -, hwhole⟩ :=
    clWhole_effect h dictRow_assumeRoot (fwOwned_of_own dictRow_assumeRoot (by decide) (by decide))
  have hview := objRefused_view (k := 12) (by decide) 0x2100 9 val v
  have hcl : (objRefused 0x2100 9 val v).cl = v.cl := view_cl hview (by decide)
  obtain ⟨habort, hf, hq⟩ := clAbort_ends (s.wholePend ch 0x2100 9 val) abState (State.hasChan_of_cl hcl hchan)
  have heff : ∀ r, clEffect ch (s.wholePend ch 0x2100 9 val) r v =
      clAbort ch (s.wholePend ch 0x2100 9 val) abState (objRefused 0x2100 9 val v) := fun r =>
    clEffect_refused (a := s.wholePend ch 0x2100 9 val) (by decide : (0x2100 : Nat) ≠ 0x5300)
      (by decide : ¬(0x2620 ≤ 0x2100 ∧ 0x2100 < 0x2628)) rfl (by
        refine (objWrite_assumeRoot _ _ _ v).trans (if_neg ?_)
        rw [view_inst hv, view_chain hv (by decide)]
        rintro ⟨hs, hup⟩
        simp [hs, hup] at hno)
  rw [heff, clTurn_quiet (by rw [hf, hcl, hfq]) (by rw [hq, hcl, hcq])] at hwhole
  refine ⟨_, congrArg Host.Outcome.next hwhole, habort, ?_⟩
  rw [clAbort_chain _ _ (State.hasChan_of_cl hcl hchan), view_chain hview (by decide), view_chain hv (by decide)]

/-- Settles O49: a loss by what notes it, a return by the root's admission, the operator's writes by their objects. -/
theorem chainMembership : Obligations.ChainMembership := by
  unfold Obligations.ChainMembership
  refine ⟨?notes, fun l f s h h2 ha => nodeLost_isolates h h2 ha, ?root,
    fun l f x s h h1 hc hx hh => nodeRejoin_admits h h1 hc hx hh, ?clears, fun ch val s h hs hup => assumeRoot_serves h hs hup,
    fun ch val s h hno => assumeRoot_refused h hno, ?releases⟩
  case notes =>
    rintro l f m s h h2 hr rfl ha h1
    exact nodeLost_notes h h2 hr ha h1
  case root =>
    rintro l f m s h h1 hr rfl hm
    exact nodeLost_root h h1 hr hm
  case clears =>
    rintro ch val m s h rfl
    exact holdOutClear_clears h
  case releases =>
    rintro ch val m s h rfl hc
    exact reserveRelease_releases h hc

end Sys2Proof.Machine

/-! The traffic of the chain (O51): telemetry, requests of and for other nodes, and package barriers (R144, R146, R363, R365). -/

namespace Sys2Proof.Machine

open Sys2Proof

/-! Telemetry (R144). -/

theorem recompute4_chain (s : State) : ∃ q, (recompute4 s).chain = { s.chain with budQueue := q } := by
  unfold recompute4
  split
  · exact ⟨_, rfl⟩
  · exact ⟨s.chain.budQueue, rfl⟩

/-- What the root's note of a TELEM leaves (R319): the membership beside the queue, the always-on island, and the counts of the
millisecond in progress. -/
theorem rootTelem_keeps (a : Nat) (p : List Nat) (s : State) : (∃ q, (rootTelem a p s).chain = { s.chain with budQueue := q }) ∧
    (rootTelem a p s).aon = s.aon ∧ (rootTelem a p s).cap.durMs = s.cap.durMs ∧ (rootTelem a p s).cap.cntMs = s.cap.cntMs := by
  refine ⟨?_, view_aon (rootTelem_view (k := 1) (by decide) a p s) (by decide), ?_⟩
  · unfold rootTelem
    dsimp only
    split
    · exact ⟨s.chain.budQueue, rfl⟩
    · split
      · exact ⟨s.chain.budQueue, rfl⟩
      · exact recompute4_chain _
  · unfold rootTelem
    dsimp only
    split
    · exact ⟨rfl, rfl⟩
    · split
      · exact ⟨rfl, rfl⟩
      · rw [view_cap (recompute4_view (k := 2048) (by decide) _) (by decide)]
        exact ⟨rfl, rfl⟩

/-- The root holds a member's TELEM as it came (R319). -/
theorem rootTelem_holds {a : Nat} (p : List Nat) {s : State} (hm : bit s.chain.memberMask a = true) :
    kvGet (rootTelem a p s).cap.memTelem a = some p := by
  unfold rootTelem
  rw [if_neg (by rw [hm]; decide)]
  dsimp only
  split
  · exact kvGet_kvPut_same ..
  · rw [view_cap (recompute4_view (k := 2048) (by decide) _) (by decide)]
    exact kvGet_kvPut_same ..

theorem telemSend_sends {s : State} (hp : s.aon.porN = true) (hr : s.chain.role = 1 ∨ s.chain.role = 2) (h8 : s.isReady 8 = true)
    (ho : s.obs.standing = false) : Answers .telemSend s (fun t =>
      t.chain.telemSeq = (s.chain.telemSeq + 1) % 65536 ∧ t.chain.telemNextAt = t.aon.clock + ms 1 ∧
      t.aon.clock = max s.aon.clock s.chain.telemNextAt ∧ t.cap.durMs = List.replicate 10 0 ∧
      t.cap.cntMs = List.replicate 10 0) := by
  refine ⟨telemSend s, rfl, ?_⟩
  have hgo : ¬(!(decide (s.chain.role = 1) || decide (s.chain.role = 2)) || !s.isReady 8 || s.obs.standing) = true := by
    rw [h8, ho]
    obtain h | h := hr <;> simp [h]
  unfold telemSend
  rw [if_neg hgo]
  extract_lets v p b c d w
  have hv : v.chain = s.chain := advanceTo_chain ..
  have hclock : v.aon.clock = max s.aon.clock s.chain.telemNextAt := advanceTo_clock _ hp
  have hb : b.sentFrom v := broadcast_sentFrom ..
  have hseq : b.chain.telemSeq = s.chain.telemSeq := (hb.get Chain.telemSeq fun _ => rfl).trans (congrArg Chain.telemSeq hv)
  have hbc : b.aon.clock = max s.aon.clock s.chain.telemNextAt := (congrArg Aon.clock hb.aon).trans hclock
  split
  · obtain ⟨⟨q, hq⟩, haon, hdur, hcnt⟩ := rootTelem_keeps w.chain.addr p { w with cap := { w.cap with fresh := 0 } }
    exact ⟨(congrArg Chain.telemSeq hq).trans (congrArg (fun n => (n + 1) % 65536) hseq),
      (congrArg Chain.telemNextAt hq).trans (congrArg (fun x => x.clock + ms 1) haon.symm),
      (congrArg Aon.clock haon).trans hbc, hdur, hcnt⟩
  · exact ⟨congrArg (fun n => (n + 1) % 65536) hseq, rfl, hbc, rfl, rfl⟩

/-- A member that takes a TELEM notes its sequence number, holds no other part, and at the root its payload (R144, R319). -/
theorem telemTake_notes (a : Nat) (p : List Nat) (s : State) :
    kvGet (telemTake a p s).chain.telemLast a = some (p.headD 0 % 65536) ∧
      (telemTake a p s).chain.partial_ = s.chain.partial_ ∧
      (s.isRoot = true → bit s.chain.memberMask a = true → kvGet (telemTake a p s).cap.memTelem a = some p) := by
  unfold telemTake
  extract_lets q gap v c t w u
  have hc : u.chain = { s.chain with telemLast := kvPut s.chain.telemLast a q } := by
    have hv : v.chain = s.chain := by
      simp only [v]
      split <;> rfl
    have hu : u.chain = t.chain := by
      simp only [u]
      split
      · exact view_chain (relayTake_view (k := 8) (by decide) ..) (by decide)
      · rfl
    rw [hu, ← hv]
  have hroot : u.isRoot = s.isRoot := by rw [State.isRoot, State.isRoot, hc]
  have hlast : kvGet u.chain.telemLast a = some (p.headD 0 % 65536) := by
    rw [hc]
    exact kvGet_kvPut_same ..
  rw [hroot]
  split
  · obtain ⟨⟨x, hq⟩, -⟩ := rootTelem_keeps a p u
    refine ⟨?_, ?_, fun _ hm => rootTelem_holds p (by rwa [hc])⟩
    · rw [hq]
      exact hlast
    · rw [hq, hc]
  · rename_i h
    exact ⟨hlast, by rw [hc], fun h' => absurd h' h⟩

theorem telemReceive_notes {l : Side} {f : Frame} {s : State} (h : s.hearsFrame l 0x10 f) (hl : f.payload.length = 48)
    (hr : s.chain.role = 1 ∨ s.chain.role = 2) : Answers (.telemReceive l f) s (fun t =>
      kvGet t.chain.telemLast f.src = some (f.payload.headD 0 % 65536) ∧
      (s.chain.role = 1 → bit s.chain.memberMask f.src = true → kvGet t.cap.memTelem f.src = some f.payload)) := by
  obtain ⟨u, hu, hin⟩ := frameIn_hears (hearTelem f.src) h
  have hhear : hearTelem f.src f.payload u = telemTake f.src f.payload u := by
    unfold hearTelem
    rw [if_pos (by rw [hu.role, hl]; obtain h | h := hr <;> simp [h])]
  obtain ⟨hseq, hpart, hroot⟩ := telemTake_notes f.src f.payload u
  have hnone : kvGet (telemTake f.src f.payload u).chain.partial_ (partialKey f) = none := by
    obtain ⟨-, -, -, -, -, -, hp, -⟩ := h
    rw [hpart, hu.get Chain.partial_ fun _ => rfl, hp]
  have htelem : telemIn l f s = telemTake f.src f.payload u := by
    unfold telemIn
    dsimp only
    rw [hin, hhear, if_neg (by rw [hnone]; simp)]
  refine ⟨_, congrArg Host.Outcome.next htelem, hseq, fun h1 hm => hroot ?_ ?_⟩
  · rw [hu.isRoot, State.isRoot, h1]
    rfl
  · rw [hu.get Chain.memberMask fun _ => rfl, hm]

/-! Requests of another node (R146). -/

/-- A request that is no READ, WRITE or DESCRIBE is answered with 0x060B. -/
theorem clReq_bad {l : Side} {f : Frame} {s : State} (h : s.hearsFrame l 0x11 f) (h1 : f.payload.headD 0 % 256 ≠ 1)
    (h3 : f.payload.headD 0 % 256 ≠ 3) (h6 : f.payload.headD 0 % 256 ≠ 6) : Answers (.clReqReceive l f) s (fun t =>
      ∃ u, u.cl = s.cl ∧ t = clRsp f.src (bits (f.payload.getD 1 0) 31 24) 0x060B [] u) := by
  refine answers_hears (k := chainRequest f.src) rfl h fun t ht => ⟨clCount 0x060B t, (clCount_cl 0x060B t).trans ht.cl, ?_⟩
  unfold chainRequest
  dsimp only
  rw [if_pos (by rw [decide_eq_false h1, decide_eq_false h3, decide_eq_false h6]; rfl)]

/-- The checks of a DESCRIBE read the role and the kind of die alone (R96). -/
theorem checks_describe {s t : State} (hr : t.isRoot = s.isRoot) (hi : t.inst = s.inst) (w : Who) (i sub : Nat) :
    t.checks w 6 i sub = s.checks w 6 i sub := by
  have hs : t.sees w i = s.sees w i := by
    rw [State.sees, State.sees, State.lacks, State.lacks, hr, hi]
  unfold State.checks
  rw [hs]
  simp only [if_true]

/-- An object that passes the checks stands in the dictionary. -/
theorem dictRow_of_checks {s : State} {w : Who} {op i sub : Nat} (h : s.checks w op i sub = 0) : ∃ r, dictRow i sub = some r := by
  unfold State.checks at h
  split at h
  · cases h
  · split at h
    · cases h
    · rename_i r hr
      exact ⟨r, hr⟩

theorem leBytes_length (n v : Nat) : (leBytes n v).length = n := by
  induction n generalizing v with
  | zero => rfl
  | succ n ih => exact congrArg (· + 1) (ih _)

/-- A description holds 48 bytes (R113). -/
theorem describe_length {i sub : Nat} {r : Row} (s : State) (h : dictRow i sub = some r) : (s.describe i sub).length = 48 := by
  unfold State.describe
  rw [h]
  simp only [List.length_append, List.length_cons, List.length_nil, List.length_replicate, leBytes_length]

/-- A DESCRIBE that passes its checks is answered with the description (R113, R146). -/
theorem clLocal_describe {ch : ChanId} {a : ClPend} {s : State} (hop : a.op = 6) (hc : s.checks (a.who ch) 6 a.idx a.sub = 0) :
    clLocal ch a s = clOk ch a (s.describe a.idx a.sub) s := by
  obtain ⟨r, hr⟩ := dictRow_of_checks hc
  unfold clLocal
  rw [hop, hc]
  dsimp only
  rw [if_neg (by decide), hr]
  exact if_pos rfl

/-- The request that a CL_REQ carries (R145). -/
def askOf (src : Nat) (p : List Nat) : ClPend where
  op := p.headD 0 % 256
  sub := bits (p.headD 0) 15 8
  idx := bits (p.headD 0) 31 16
  cls := p.getD 1 0 % 4
  part := bits (p.getD 1 0) 7 2
  level := bits (p.getD 1 0) 23 8
  tag := bits (p.getD 1 0) 31 24
  val := (octetsOf (p.drop 3)).take (p.getD 2 0)
  src := src

/-- A request that finds the chain channel free is served (R146). -/
theorem chainRequest_serves {src : Nat} {p : List Nat} {s : State}
    (h : p.headD 0 % 256 = 1 ∨ p.headD 0 % 256 = 3 ∨ p.headD 0 % 256 = 6) (hfree : s.cl.chain.state ≠ 1) :
    chainRequest src p s = clServe .chain (askOf src p) s := by
  unfold chainRequest
  refine (if_neg ?_).trans (if_neg hfree)
  obtain h | h | h := h <;> simp only [h] <;> decide

theorem clReq_describe {l : Side} {f : Frame} {s : State} (h : s.hearsFrame l 0x11 f) (hq : s.clQuiet) (hfree : s.cl.chain.state ≠ 1)
    (h6 : f.payload.headD 0 % 256 = 6)
    (hc : s.checks ((askOf f.src f.payload).who .chain) 6 (askOf f.src f.payload).idx (askOf f.src f.payload).sub = 0) :
    Answers (.clReqReceive l f) s (fun t =>
      ∃ u v, v.length = 48 ∧ u.cl.chain.state = 0 ∧ t = clRsp f.src (bits (f.payload.getD 1 0) 31 24) 0 v u) := by
  refine answers_hears (k := chainRequest f.src) rfl h fun t ht => ?_
  let v := t.updChan .chain (ClChan.pending (askOf f.src f.payload))
  have hchecks : v.checks ((askOf f.src f.payload).who .chain) 6 (askOf f.src f.payload).idx (askOf f.src f.payload).sub = 0 :=
    (checks_describe (t := v) (s := s) ht.isRoot ht.inst ..).trans hc
  obtain ⟨r, hr⟩ := dictRow_of_checks hchecks
  rw [chainRequest_serves (.inr (.inr h6)) (by rwa [ht.cl]), clServe_here rfl (show v.obs.standing = false from ht.still.trans hq.2.2),
    clLocal_describe (s := v) h6 hchecks]
  exact ⟨_, _, describe_length v hr, rfl, rfl⟩

/-! Responses of another node (R146). -/

/-- The channel that waits for a response is the one that takes it (R146). -/
theorem clResponse_ends {src : Nat} {p : List Nat} {ch : ChanId} {a : ClPend} {s : State} (hch : ch ∈ allChans)
    (hw : s.waits ch 1 = some a) (htag : a.tag = bits (p.headD 0) 23 16) (hn : a.node = src) (hd : s.aon.clock ≤ a.since + ms 1)
    (hu : ∀ c, c ≠ ch → s.waits c 1 = none) : clResponse src p s =
      clTurn (if p.headD 0 % 65536 = 0 then clOk ch a (if a.op = 3 then [] else (octetsOf (p.drop 2)).take (p.getD 1 0)) s
        else clAbort ch a (p.headD 0 % 65536) s) := by
  unfold clResponse
  extract_lets x ask
  have hask : ask ch = true := by
    simp only [ask, hw, htag, hn, hd]
    simp [x]
  have hfind : allChans.find? ask = some ch := by
    cases hf : allChans.find? ask with
    | none => exact absurd hask (List.find?_eq_none.mp hf ch hch)
    | some c =>
      have hc := List.find?_some hf
      by_contra hne
      simp [ask, hu c fun e => hne (congrArg some e)] at hc
  rw [hfind]
  dsimp only
  rw [hw]

theorem clRsp_ends {l : Side} {f : Frame} {ch : ChanId} {a : ClPend} {s : State} (h : s.hearsFrame l 0x12 f) (hq : s.clQuiet)
    (hch : ch ∈ allChans) (ho : outer ch = true) (hw : s.waits ch 1 = some a) (htag : a.tag = bits (f.payload.headD 0) 23 16)
    (hn : a.node = f.src) (hop : a.op = 1) (hd : s.aon.clock ≤ a.since + ms 1) (hu : ∀ c, c ≠ ch → s.waits c 1 = none) :
    Answers (.clRspReceive l f) s (fun t =>
      let v := (octetsOf (f.payload.drop 2)).take (f.payload.getD 1 0)
      if f.payload.headD 0 % 65536 = 0 then t.valueOn ch v (48 < v.length) else t.abortedOn ch (f.payload.headD 0 % 65536)) := by
  refine answers_hears (k := clResponse f.src) rfl h fun t ht => ?_
  have hqt : t.clQuiet := ⟨by rw [ht.cl, hq.1], by rw [ht.cl, hq.2.1], by rw [ht.still, hq.2.2]⟩
  have hcl := ht.cl
  have hchan := State.hasChan_of_cl hcl (State.hasChan_of_waits ho hw)
  rw [clResponse_ends hch ((State.waits_of_cl hcl ch 1).trans hw) htag hn (by rwa [ht.aon])
    fun c hc => (State.waits_of_cl hcl c 1).trans (hu c hc), if_neg (by rw [hop]; decide : ¬a.op = 3)]
  dsimp only
  split
  · obtain ⟨hval, hqs⟩ := clOk_value a ((octetsOf (f.payload.drop 2)).take (f.payload.getD 1 0)) hchan
    rw [clTurn_queuesOf hqs hqt]
    exact hval
  · obtain ⟨habort, hqs⟩ := clAbort_ends a (f.payload.headD 0 % 65536) hchan
    rw [clTurn_queuesOf hqs hqt]
    exact habort

/-! Package barriers (R363, R365). -/

/-- A die that acts on a RELEASE no longer waits, stands at its epoch, and releases its tiles (R361, R363). -/
theorem actBarrier_release_dove (epoch : Nat) (s : State) : ∃ e w d, (actBarrier 1 epoch s).dove = { s.dove with
    pkgWait := false, late := false, epoch := epoch, releasing := true, e0 := e, wave := 0, w := w, d := d, armed := false,
    curStart := s.dove.start } := by
  have hact : actBarrier 1 epoch s = startRelease (bindingSignal 9 2 ((s.waited epoch).add64 0x7101 5 1)) := rfl
  rw [hact, startRelease_dove, bindingSignal_dove, State.add64_dove]
  exact ⟨_, _, _, rfl⟩

/-- A CANCEL does so too, and shows its flag (R365). -/
theorem actBarrier_cancel_dove (epoch : Nat) (s : State) : ∃ e w d, (actBarrier 2 epoch s).dove = { s.dove with
    pkgWait := false, late := false, epoch := epoch, releasing := true, e0 := e, wave := 0, w := w, d := d, armed := false,
    curStart := s.dove.start, flags := putBit s.dove.flags 2 true } := by
  rw [actBarrier_cancel, startRelease_dove, raise_dove]
  exact ⟨_, _, _, rfl⟩

theorem hearBarrierFrame_acts {src op : Nat} {p : List Nat} {s : State} (hop : p.headD 0 / 65536 % 4 = op) (h0 : op ≠ 0)
    (hw : s.dove.pkgWait = true) (hb : bit (p.getD 1 0) s.chain.addr = true) :
    hearBarrierFrame src p s = actBarrier op (p.headD 0 % 65536) s := by
  unfold hearBarrierFrame hearBarrier
  dsimp only
  rw [hop, if_neg h0, if_neg (by rw [hw]; decide), if_pos hb]

/-- The root's barrier ends once every node of the package has arrived (R363). -/
theorem rootComplete_covered {s : State} (h : s.pkgMask ≠ 0 ∧ covers s.dove.arrived s.pkgMask = true) :
    (rootComplete s).dove.arrived = 0 ∧ (rootComplete s).dove.rootEpoch = nextEpoch s.dove.rootEpoch := by
  unfold rootComplete
  extract_lets m e b d u
  rw [if_pos (by rw [bne_iff_ne.mpr h.1, h.2]; rfl)]
  split
  · rename_i hmine
    obtain ⟨hbit, hwait⟩ := Bool.and_eq_true_iff.mp hmine
    have hhear : hearBarrier 1 e m u = actBarrier 1 e u := by
      unfold hearBarrier
      exact (if_neg (by rw [hwait]; decide)).trans (if_pos hbit)
    obtain ⟨x, w, y, hd⟩ := actBarrier_release_dove e u
    rw [hhear, hd]
    exact ⟨rfl, rfl⟩
  · exact ⟨rfl, rfl⟩

theorem rootComplete_uncovered {s : State} (h : ¬(s.pkgMask ≠ 0 ∧ covers s.dove.arrived s.pkgMask = true)) : rootComplete s = s :=
  if_neg fun h' => h (by rwa [Bool.and_eq_true_iff, bne_iff_ne] at h')

/-- An arrival that the root has not had is noted, and may complete the barrier (R363). -/
theorem rootArrive_arrives {a : Nat} (epoch : Nat) {s : State} (hm : bit s.pkgMask a = true) (ha : bit s.dove.arrived a = false) :
    if s.pkgMask ≠ 0 ∧ covers (putBit s.dove.arrived a true) s.pkgMask = true then
      (rootArrive a epoch s).dove.arrived = 0 ∧ (rootArrive a epoch s).dove.rootEpoch = nextEpoch s.dove.rootEpoch
    else (rootArrive a epoch s).dove.arrived = putBit s.dove.arrived a true ∧
      (rootArrive a epoch s).dove.rootEpoch = s.dove.rootEpoch := by
  let v : State := if epoch = s.dove.rootEpoch then s else s.bump32 0x7101 8
  have hdove : v.dove = s.dove := by
    simp only [v]
    split <;> rfl
  have hmask : v.pkgMask = s.pkgMask := by
    simp only [v]
    split
    · rfl
    · exact congrArg Int.toNat (State.num_put_ne _ _ (by decide))
  let u : State := { v with dove := { v.dove with arrived := putBit v.dove.arrived a true } }
  have harrive : rootArrive a epoch s = rootComplete u := by
    unfold rootArrive
    exact (if_pos (by rw [hmask, hm])).trans (if_neg (by rw [hdove, ha]; decide))
  rw [harrive, ← hdove, ← hmask]
  split
  · rename_i h
    exact rootComplete_covered (s := u) h
  · rename_i h
    rw [rootComplete_uncovered (s := u) h]
    exact ⟨rfl, rfl⟩

theorem State.sentFrom.pkgMask {t s : State} (h : t.sentFrom s) : t.pkgMask = s.pkgMask := congrArg Int.toNat (h.num ..)

/-- Settles O51: telemetry, requests and responses by their actions, barriers by what the root and a die do with them. -/
theorem chainTraffic : Obligations.ChainTraffic := by
  unfold Obligations.ChainTraffic
  refine ⟨fun s hp hr h8 ho => telemSend_sends hp hr h8 ho, fun l f s h hl hr => telemReceive_notes h hl hr,
    fun l f s h _ _ h1 h3 h6 => clReq_bad h h1 h3 h6, ?describes, ?responds, fun l f s h hr hop hm ha => ?arrives,
    fun l f s h hop hw hb => ?releases, fun l f s h hop hw hb => ?cancels⟩
  case describes =>
    rintro l f i sub s h hq hfree h6 rfl rfl hc
    exact clReq_describe h hq hfree h6 hc
  case responds =>
    rintro l f ch a x s h hq hch ho hw htag hn hop hd hu rfl
    exact clRsp_ends h hq hch ho hw htag hn hop hd hu
  case arrives =>
    refine answers_hears (k := hearBarrierFrame f.src) rfl h fun t ht => ?_
    have harrive : hearBarrierFrame f.src f.payload t = rootArrive f.src (f.payload.headD 0 % 65536) t := by
      unfold hearBarrierFrame
      exact (if_pos hop).trans (if_pos (by rw [State.isRoot, ht.role, hr]; rfl))
    rw [harrive, ← ht.pkgMask, ← ht.dove]
    exact rootArrive_arrives _ (by rwa [ht.pkgMask]) (by rwa [ht.dove])
  case releases =>
    refine answers_hears (k := hearBarrierFrame f.src) rfl h fun t ht => ?_
    rw [hearBarrierFrame_acts hop (by decide) (by rwa [ht.dove]) (by rwa [ht.get Chain.addr fun _ => rfl])]
    obtain ⟨e, w, d, hdove⟩ := actBarrier_release_dove (f.payload.headD 0 % 65536) t
    rw [hdove]
    exact ⟨rfl, rfl, rfl⟩
  case cancels =>
    refine answers_hears (k := hearBarrierFrame f.src) rfl h fun t ht => ?_
    rw [hearBarrierFrame_acts hop (by decide) (by rwa [ht.dove]) (by rwa [ht.get Chain.addr fun _ => rfl])]
    obtain ⟨e, w, d, hdove⟩ := actBarrier_cancel_dove (f.payload.headD 0 % 65536) t
    rw [hdove]
    exact ⟨rfl, rfl, rfl, putBit_bit ..⟩

end Sys2Proof.Machine

/-! States that meet the premises of the clauses: a root and a member in service, and a node that holds no address yet. -/

namespace Sys2Proof.Machine

open Sys2Proof

/-- A member in service at address 0x02, with its upstream link up; 0x03 lies beyond, but its link has no lock. -/
def State.memberInService : State :=
  { State.inService with
    aon := { State.inService.aon with ctlReleased := true }
    chain := { State.inService.chain with up := { lock := true, linkUp := true }, addr := 2, role := 2, memberMask := 0b1110 } }

/-- The root of the same chain, with its downstream link up. -/
def State.rootInService : State :=
  { State.inService with
    aon := { State.inService.aon with ctlReleased := true }
    chain := { State.inService.chain with
      dn := { lock := true, linkUp := true }, addr := 1, role := 1, memberMask := 0b1110, enumClosed := true } }

/-- A node on the same line before enumeration has reached it. -/
def State.unaddressed : State :=
  { State.memberInService with chain := { State.memberInService.chain with addr := 0, role := 0, memberMask := 0 } }

/-- A command that answers with more answers with less. -/
theorem answers_mono {c : Instr} {s : State} {P Q : State → Prop} (h : Answers c s P) (hpq : ∀ t, P t → Q t) : Answers c s Q := by
  obtain ⟨t, ht, hp⟩ := h
  exact ⟨t, ht, hpq t hp⟩

/-- O47 at the member's downstream link. -/
theorem memberInService_locks : Answers (.linkLockGain .dn) State.memberInService (fun t => t.chain.dn.linkUp = true) :=
  answers_mono (linkLockGain_gains (l := .dn) rfl (by decide)) fun _ ⟨_, hup, _⟩ => hup

/-- O48 at a token that offers address 0x02. -/
theorem unaddressed_takes : Answers (.enumReceive .up { type := 1, payload := [2] }) State.unaddressed (fun t =>
    t.chain.addr = 2) :=
  answers_mono (enumReceive_takes ⟨rfl, by decide, rfl, rfl, by decide, rfl, rfl, .inr rfl⟩ (by decide) (by decide) (by decide))
    fun _ ⟨haddr, _⟩ => haddr

/-- O49 at the loss of the member beyond. -/
theorem memberInService_notes :
    Answers (.nodeLostReceive .up { dst := 0x1F, src := 1, prio := true, type := 4, payload := [0b1000, 0] }) State.memberInService
      (fun t => t.chain.memberMask = 0b110 ∧ t.chain.lostMask = 0b1000) :=
  answers_mono (nodeLost_notes ⟨rfl, by decide, rfl, rfl, by decide, rfl, rfl, .inl rfl⟩ rfl rfl (by decide) (by decide))
    fun _ ⟨hmask, hlost, _⟩ => ⟨hmask, hlost⟩

/-- O50 at the request of one record that fits the queue. -/
theorem rootInService_queues :
    Answers (.budReqReceive .dn { dst := 1, src := 2, type := 9, payload := [BudRec.sym { node := 2, kind := 2, value := 4000 }] })
      State.rootInService (fun t => t.chain.budQueue = [{ node := 2, kind := 2, value := 4000 }]) := by
  obtain ⟨hqueues, -⟩ := budgetTransactions
  exact hqueues _ _ _ _ ⟨rfl, by decide, rfl, rfl, by decide, rfl, rfl, .inr (by decide)⟩ rfl rfl

/-- O51 at the TELEM of a member. -/
theorem rootInService_holds :
    Answers (.telemReceive .dn { dst := 0x1F, src := 2, type := 16, payload := 7 :: List.replicate 47 0 }) State.rootInService
      (fun t => kvGet t.cap.memTelem 2 = some (7 :: List.replicate 47 0)) :=
  answers_mono (telemReceive_notes ⟨rfl, by decide, rfl, rfl, by decide, rfl, rfl, .inl rfl⟩ rfl (.inl rfl))
    fun _ ⟨_, hroot⟩ => hroot rfl (by decide)

/-- O41 at the policy. -/
theorem inService_setsPolicy : Answers (.policyWrite .mgt [1]) State.inService (fun t => t.num 0x6003 1 = 1) :=
  answers_mono (policyWrite_sets (val := [1]) (inService_takes (by decide)) (by decide)) fun _ ⟨_, hnum, _⟩ => hnum

end Sys2Proof.Machine

/-! Writes of the rails' objects: from a whole write to the effect that the rails' chapter gives it (R96, R156 to R189). -/

namespace Sys2Proof.Machine

open Sys2Proof

/-! The rails in the state that serves a write. -/

/-- The rails, the phases and their protection are in t what they are in u. -/
structure State.railPartOf (t u : State) : Prop where
  rails : t.rails = u.rails
  phases : t.phases = u.phases
  prot : t.prot = u.prot

theorem State.servesOn.rails {u s : State} {ch : ChanId} (h : u.servesOn s ch) : u.rails = s.rails :=
  view_rails h.view (by decide)

theorem State.servesOn.phases {u s : State} {ch : ChanId} (h : u.servesOn s ch) : u.phases = s.phases :=
  view_phases h.view (by decide)

theorem State.servesOn.prot {u s : State} {ch : ChanId} (h : u.servesOn s ch) : u.prot = s.prot := view_prot h.view (by decide)

theorem State.servesOn.rail {u s : State} {ch : ChanId} (h : u.servesOn s ch) (k : Nat) : u.rail k = s.rail k :=
  State.rail_of_rails h.rails k

/-- No count that a request changes before it is served is an object of the rails. -/
theorem State.servesOn.num {u s : State} {ch : ChanId} (h : u.servesOn s ch) {i : Nat} (hi : 0x3000 ≤ i) (sub : Nat) :
    u.num i sub = s.num i sub := by
  obtain ⟨-, -, hn⟩ := h
  rw [State.num, State.num, hn _ (by unfold okey; omega) (by unfold okey; omega)]

theorem State.servesOn.pn {u s : State} {ch : ChanId} (h : u.servesOn s ch) {i : Nat} (hi : 0x3000 ≤ i) (sub : Nat) :
    u.pn i sub = s.pn i sub := congrArg Int.toNat (h.num hi sub)

theorem State.rail_updRail_ne (s : State) {k j : Nat} (f : Rail → Rail) (h : j ≠ k) : (s.updRail k f).rail j = s.rail j := by
  simp [State.rail, State.updRail, h.symm]

/-- A change of rail k alone, seen from the state whose rails it found. -/
theorem State.rail_of_updRail {t v s : State} {k : Nat} {f : Rail → Rail} (ht : t.rails = (v.updRail k f).rails)
    (hv : v.rails = s.rails) (hlen : k < s.rails.length) : t.rail k = f (s.rail k) ∧ ∀ j, j ≠ k → t.rail j = s.rail j := by
  refine ⟨?_, fun j hj => ?_⟩
  · rw [State.rail_of_rails ht, State.rail_updRail_same v f (by rwa [hv]), State.rail_of_rails hv]
  · rw [State.rail_of_rails ht, State.rail_updRail_ne v f hj, State.rail_of_rails hv]

/-! The effect of a write. -/

theorem budgetRec_rails (s : State) {i : Nat} (sub v : Nat) (hi : 0x3000 ≤ i) (hi' : i < 0x4000) : s.budgetRec i sub v = none := by
  unfold State.budgetRec
  repeat rw [if_neg (by simp; omega)]

theorem objWrite_rails (w : Who) {i : Nat} (sub : Nat) (v : Int) (b : List Byte) (s : State) (hi : 0x3000 ≤ i)
    (hi' : i < 0x4000) : objWrite w i sub v b s = railsWrite i sub v b s := by
  unfold objWrite
  rw [if_neg (by omega), if_neg (by omega), if_neg (by omega), if_neg (by simp; omega), if_neg (by simp; omega),
    if_neg (by omega), if_neg (by omega), if_neg (by omega), if_neg (by omega), if_pos (by omega)]

section
variable {s : State} {ch : ChanId} {i sub : Nat} {val : List Byte}

/-- A whole write of an object of the rails whose bytes are a plain number comes to the effect that the rails' chapter gives it. -/
theorem clWhole_rails (h : s.takes ch i sub val) (hp : (dictRow i sub).all Row.plain = true) (hi : 0x3000 ≤ i) (hi' : i < 0x4000) :
    ∃ v r, v.servesOn s ch ∧ clWhole ch i sub val s = clTurn (clEffect ch (s.wholePend ch i sub val) r v) ∧
      ∀ w, objWrite w i sub (r.rg.clip (r.ty.num val)) val v = railsWrite i sub (leVal val) val v := by
  obtain ⟨-, -, hpass⟩ := id h
  obtain ⟨r, hr, -⟩ := State.writePasses_row hpass
  rw [hr] at hp
  have hplain : r.plain = true := hp
  simp only [Option.all_some, Row.plain, Bool.and_eq_true, bne_iff_ne, ne_eq] at hp
  obtain ⟨⟨-, h13⟩, h14⟩ := hp
  obtain ⟨v, hv, hw⟩ := clWhole_local h hr
  rw [fwOwned_of_own hr h13 h14, if_neg Bool.false_ne_true] at hw
  exact ⟨v, r, hv, hw, fun w => by rw [objWrite_rails w sub _ val v hi hi', Row.plain_value hplain]⟩

/-- A write that the rails' chapter takes: the request ends with success, and the rails are what the write makes of them. -/
theorem answers_of_railsWrite {c : Instr} {g : State → State} {P : State → Prop}
    (hexec : exec c s = .next (clWhole ch i sub val s)) (h : s.takes ch i sub val)
    (hp : (dictRow i sub).all Row.plain = true) (hi : 0x3000 ≤ i) (hi' : i < 0x4000)
    (hw : ∀ v : State, v.servesOn s ch → railsWrite i sub (leVal val) val v = .ok (g v))
    (hP : ∀ v t : State, v.servesOn s ch → t.doneOn ch → t.railPartOf (g v) → P t) : Answers c s P := by
  obtain ⟨v, r, hv, hwhole, hobj⟩ := clWhole_rails h hp hi hi'
  have hok : clEffect ch (s.wholePend ch i sub val) r v = clOk ch (s.wholePend ch i sub val) [] (g v) :=
    clEffect_objWrite (a := s.wholePend ch i sub val) (show i ≠ _ by omega) (show ¬(_ ≤ i ∧ i < _) by omega)
      (budgetRec_rails v _ _ hi hi') ((hobj _).trans (hw v hv))
  have hcl : (g v).cl = v.cl := view_cl (railsWrite_view (k := 4) (by decide) (hw v hv)) (by decide)
  obtain ⟨⟨-, hfq, hcq, hchan, -⟩, -⟩ := id hv
  obtain ⟨hdone, hview⟩ := clTurn_clOk (s.wholePend ch i sub val) hcl hfq hcq hchan
  refine ⟨_, hexec.trans (congrArg Host.Outcome.next (hwhole.trans (congrArg clTurn hok))), hP v _ hv hdone ?_⟩
  exact ⟨view_rails hview (by decide), view_phases hview (by decide), view_prot hview (by decide)⟩

/-- A write that the rails' chapter refuses: the request ends with the abort, and the rails stay. -/
theorem answers_of_railsRefusal {c : Instr} {e : Nat} (hexec : exec c s = .next (clWhole ch i sub val s))
    (h : s.takes ch i sub val) (hp : (dictRow i sub).all Row.plain = true) (hi : 0x3000 ≤ i) (hi' : i < 0x4000)
    (hw : ∀ v : State, v.servesOn s ch → railsWrite i sub (leVal val) val v = .error e) :
    Answers c s (fun t => t.abortedOn ch e ∧ t.rails = s.rails) := by
  obtain ⟨v, r, hv, hwhole, hobj⟩ := clWhole_rails h hp hi hi'
  have habort : clEffect ch (s.wholePend ch i sub val) r v =
      clAbort ch (s.wholePend ch i sub val) e (objRefused i sub val v) :=
    clEffect_refused (a := s.wholePend ch i sub val) (show i ≠ _ by omega) (show ¬(_ ≤ i ∧ i < _) by omega)
      (budgetRec_rails v _ _ hi hi') ((hobj _).trans (hw v hv))
  have hrefused := objRefused_view (k := 20) (by decide) i sub val v
  have hcl : (objRefused i sub val v).cl = v.cl := view_cl hrefused (by decide)
  obtain ⟨⟨-, hfq, hcq, hchan, -⟩, -⟩ := id hv
  obtain ⟨hends, hf, hq⟩ := clAbort_ends (s.wholePend ch i sub val) e (State.hasChan_of_cl hcl hchan)
  rw [habort, clTurn_quiet (by rw [hf, hcl, hfq]) (by rw [hq, hcl, hcq])] at hwhole
  refine ⟨_, hexec.trans (congrArg Host.Outcome.next hwhole), hends, ?_⟩
  rw [view_rails (clAbort_view (k := 16) (by decide) ..) (by decide), view_rails hrefused (by decide), hv.rails]

end

end Sys2Proof.Machine

/-! Writes of an operating setpoint, and how the reference follows (O32). -/

namespace Sys2Proof.Machine

open Sys2Proof

/-- A rail with another operating setpoint, at once (R188). -/
def Rail.setTo (mV : Nat) (r : Rail) : Rail := { r with setGoal := mV, setNow := 256 * (mV : Int) }

theorem dictRow_rail_plain : ∀ k, k < 6 → ∀ sub ∈ [1, 0x13], (dictRow (0x3100 + k) sub).all Row.plain = true := by decide

/-- The write of an object of a rail controller is the rail's (R156). -/
theorem railsWrite_rail {k : Nat} (sub : Nat) (v : Int) (b : List Byte) (s : State) (hk : k < 6) :
    railsWrite (0x3100 + k) sub v b s = railWrite k sub v b s := by
  unfold railsWrite
  rw [if_neg (by omega), if_pos (by omega), Nat.add_sub_cancel_left]

section
variable {s : State} {ch : ChanId} {k : Nat} {val : List Byte}

/-- A setpoint within the rail's limits as the state that serves its write sees it. -/
theorem railsWrite_setpoint {v : State} (hv : v.servesOn s ch) (hk : k < 6) (hlo : s.num (0x3100 + k) 2 ≤ leVal val)
    (hhi : leVal val ≤ s.num (0x3100 + k) 3) : railsWrite (0x3100 + k) 1 (leVal val) val v =
      needState (!s.prot.ramps.contains (s.rail k).group)
        (.ok (v.updRail k (Rail.setTo (leVal val)))) := by
  rw [railsWrite_rail _ _ _ _ hk]
  show needRange (decide (v.num (0x3100 + k) 2 ≤ (leVal val : Int)) && decide ((leVal val : Int) ≤ v.num (0x3100 + k) 3))
    (needState (!v.prot.ramps.contains (v.rail k).group) _) = _
  rw [hv.num (by omega), hv.num (by omega), hv.prot, hv.rail, decide_eq_true hlo, decide_eq_true hhi]
  rfl

theorem setpointWrite_refused (hk : k < 6) (h : s.takes ch (0x3100 + k) 1 val) (hlo : s.num (0x3100 + k) 2 ≤ leVal val)
    (hhi : leVal val ≤ s.num (0x3100 + k) 3) (hm : s.prot.ramps.contains (s.rail k).group = true) :
    Answers (.setpointWrite ch k val) s (fun t => t.abortedOn ch abState ∧ t.rails = s.rails) := by
  refine answers_of_railsRefusal rfl h (dictRow_rail_plain k hk 1 (by decide)) (by omega) (by omega) fun v hv => ?_
  rw [railsWrite_setpoint hv hk hlo hhi, hm]
  rfl

theorem setpointWrite_sets (hk : k < 6) (hlen : k < s.rails.length) (h : s.takes ch (0x3100 + k) 1 val)
    (hlo : s.num (0x3100 + k) 2 ≤ leVal val) (hhi : leVal val ≤ s.num (0x3100 + k) 3)
    (hm : s.prot.ramps.contains (s.rail k).group = false) : Answers (.setpointWrite ch k val) s (fun t =>
      t.doneOn ch ∧ t.rail k = (s.rail k).setTo (leVal val) ∧ ∀ j, j ≠ k → t.rail j = s.rail j) := by
  refine answers_of_railsWrite (g := fun v => v.updRail k (Rail.setTo (leVal val))) rfl h
    (dictRow_rail_plain k hk 1 (by decide)) (by omega) (by omega) (fun v hv => ?_) fun v t hv hdone ht =>
      ⟨hdone, State.rail_of_updRail ht.rails hv.rails hlen⟩
  rw [railsWrite_setpoint hv hk hlo hhi, hm]
  rfl

end

/-- In REGULATING and MOVING the reference goes towards the target by the slew of one sample at most (R163). -/
theorem refStep_ref {k : Nat} {s : State} (hlen : k < s.rails.length) (h : (s.rail k).state = 2 ∨ (s.rail k).state = 3) :
    ((refStep k s).rail k).ref = towards (s.rail k).ref (s.workTarget k) (s.num (0x3100 + k) 4 * 16 / 5) := by
  unfold refStep
  dsimp only
  rw [if_neg (by omega), if_neg (by omega), if_pos (by simpa using h), State.rail_updRail_same _ _ hlen]

/-- Settles O32: a write while the group moves by its refusal, any other by the setpoint it leaves, a sample by its step. -/
theorem setpointWrites : Obligations.SetpointWrites := by
  unfold Obligations.SetpointWrites
  exact ⟨fun _ _ _ _ hk _ h hlo hhi hm => setpointWrite_refused hk h hlo hhi hm,
    fun _ _ _ _ hk hlen h hlo hhi hm => setpointWrite_sets hk hlen h hlo hhi hm, fun _ _ hlen h => refStep_ref hlen h⟩

end Sys2Proof.Machine

/-! What the operations on rails and phases make of one rail or phase, and what they leave of the others (R157 to R189, R223). -/

namespace Sys2Proof.Machine

open Sys2Proof

/-! Loops that reach each unit once. -/

/-- Rounds of other numbers leave what they do not concern. -/
theorem forEach_others {α : Type} {x : State → α} {f : Nat → State → State} {k : Nat} (hne : ∀ j t, j ≠ k → x (f j t) = x t)
    {l : List Nat} (hk : k ∉ l) (s : State) : x (forEach l f s) = x s := by
  induction l generalizing s with
  | nil => rfl
  | cons j l ih =>
    obtain ⟨hj, hl⟩ := not_or.mp (mt List.mem_cons.mpr hk)
    exact (ih hl (f j s)).trans (hne j s (Ne.symm hj))

/-- A loop whose round k alone concerns x, and changes it by φ, changes it so; Q holds before and after every round. -/
theorem forEach_once {α : Type} {x : State → α} {φ : α → α} {Q : State → Prop} {f : Nat → State → State} {l : List Nat} {k : Nat}
    (hl : l.Nodup) (hk : k ∈ l) (hQ : ∀ j t, Q t → Q (f j t)) (hne : ∀ j t, j ≠ k → x (f j t) = x t)
    (hself : ∀ t, Q t → x (f k t) = φ (x t)) {s : State} (hs : Q s) : x (forEach l f s) = φ (x s) := by
  induction l generalizing s with
  | nil => exact absurd hk List.not_mem_nil
  | cons j l ih =>
    obtain ⟨hj, hl⟩ := List.nodup_cons.mp hl
    show x (forEach l f (f j s)) = φ (x s)
    rcases List.mem_cons.mp hk with rfl | hk
    · rw [forEach_others hne hj, hself s hs]
    · rw [ih hl hk (hQ j s hs), hne j s (fun e => hj (e ▸ hk))]

/-! Phases. -/

theorem State.phase_of_phases {s t : State} (h : t.phases = s.phases) (n : Nat) : t.phase n = s.phase n := by
  rw [State.phase, State.phase, h]

theorem State.phase_updPhase_same (s : State) {n : Nat} (f : Phase → Phase) (h : n < s.phases.length) :
    (s.updPhase n f).phase n = f (s.phase n) := by
  simp [State.phase, State.updPhase, List.getElem?_modify_eq, List.getElem?_eq_getElem h]

theorem State.phase_updPhase_ne (s : State) {n m : Nat} (f : Phase → Phase) (h : m ≠ n) : (s.updPhase n f).phase m = s.phase m := by
  simp [State.phase, State.updPhase, h.symm]

/-- A change of one phase that keeps a field keeps it for every phase. -/
theorem State.phase_updPhase_keeps {α : Type} (g : Phase → α) {f : Phase → Phase} (hf : ∀ p, g (f p) = g p) (s : State)
    (n m : Nat) : g ((s.updPhase n f).phase m) = g (s.phase m) := by
  simp only [State.phase, State.updPhase, List.getD_eq_getElem?_getD, List.getElem?_modify]
  split <;> cases s.phases[m]? <;> simp [hf]

/-- A change of phase n alone, seen from the state whose phases it found. -/
theorem State.phase_of_updPhase {t v s : State} {n : Nat} {f : Phase → Phase} (ht : t.phases = (v.updPhase n f).phases)
    (hv : v.phases = s.phases) (hlen : n < s.phases.length) : t.phase n = f (s.phase n) ∧ ∀ m, m ≠ n → t.phase m = s.phase m := by
  refine ⟨?_, fun m hm => ?_⟩
  · rw [State.phase_of_phases ht, State.phase_updPhase_same v f (by rwa [hv]), State.phase_of_phases hv]
  · rw [State.phase_of_phases ht, State.phase_updPhase_ne v f hm, State.phase_of_phases hv]

theorem State.phasesOf_of_phases {s t : State} (h : t.phases = s.phases) (k : Nat) : t.phasesOf k = s.phasesOf k := by
  unfold State.phasesOf State.phase
  rw [h]

theorem State.phasesIn_of_phases {s t : State} (h : t.phases = s.phases) (k : Nat) (st : List Nat) :
    t.phasesIn k st = s.phasesIn k st := by
  unfold State.phasesIn State.phase
  rw [State.phasesOf_of_phases h, h]

theorem State.railUsed_of_phases {s t : State} (h : t.phases = s.phases) (k : Nat) : t.railUsed k = s.railUsed k := by
  rw [State.railUsed, State.railUsed, State.phasesOf_of_phases h]

theorem view_phases_length {k : Nat} {s t : State} (h : t.view k = s.view k) : t.phases.length = s.phases.length :=
  congrArg (fun x => x.2.2.2.1) (view_fixed h)

/-! Rotation positions and the head of the run (R175). -/

theorem respace_rails (k : Nat) (s : State) : (respace k s).rails = s.rails :=
  view_rails (respace_view (k := 16) (by decide) k s) (by decide)

/-- Rotation positions taken afresh are all that changes of a phase. -/
theorem respace_keeps {α : Type} (g : Phase → α) (hg : ∀ p x, g { p with pos := x } = g p) (k : Nat) (s : State) (m : Nat) :
    g ((respace k s).phase m) = g (s.phase m) :=
  forEach_keeps (P := fun t => g (t.phase m) = g (s.phase m)) _
    (fun n t ht => (State.phase_updPhase_keeps g (fun p => hg p _) t n m).trans ht) rfl

theorem passHead_phases (k n : Nat) (s : State) : (passHead k n s).phases = s.phases :=
  view_phases (passHead_view (k := 32) (by decide) k n s) (by decide)

/-! Starting and stopping a rail (R65, R189). -/

theorem view_rails_length {k : Nat} {s t : State} (h : t.view k = s.view k) : t.rails.length = s.rails.length :=
  congrArg (fun x => x.2.2.1) (view_fixed h)

/-- A rail that starts to ramp from 0 V at a rate, with this phase at the head of its run. -/
def Rail.started (rate now head : Nat) (r : Rail) : Rail :=
  { r with
    state := 1, ref := 0, rampFrom := 0, rampRate := rate, startAt := now, prebias := true,
    setNow := 256 * (r.setGoal : Int), moveRate := none, head := head, period := fswPeriod r.fsw, p0At := now * 32,
    ovCount := 0, vsCount := 0, uvFrom := none, uvRaised := 0,
    shedding := none, shedFrom := none, rotBusy := false, skip := false, skipLow := 0 }

theorem startRail_rails (k rate : Nat) (s : State) :
    ∃ head, (startRail k rate s).rails = (s.updRail k (Rail.started rate s.aon.clock head)).rails := by
  unfold startRail
  extract_lets u head w
  have hview : u.view 17 = s.view 17 := forEach_view fun n t => State.updPhase_view (k := 17) (by decide) t n _
  refine ⟨head, (respace_rails k w).trans ?_⟩
  simp only [w, State.updRail]
  rw [view_rails hview (by decide), view_aon hview (by decide)]
  rfl

/-- A rail that begins to stop at a rate. -/
def Rail.stopping (rate now : Nat) (r : Rail) : Rail :=
  { r with
    state := 4, rampFrom := r.ref, rampRate := rate, startAt := now, moveRate := none, ffForce := false, prepos := 0,
    ffPhases := 0, ffDutyLeft := 0, feTimer := 0, skip := false, rotBusy := false, uvFrom := none, uvRaised := 0,
    shedding := none, shedFrom := none, regSync := 0, prebias := false }

/-- A rail that a stop finds running: STARTING, REGULATING or MOVING (R189). -/
abbrev Rail.runs (r : Rail) : Prop := r.state = 1 ∨ r.state = 2 ∨ r.state = 3

/-- The end of a group move takes the rates of the group's rails and nothing else of a rail (R227). -/
theorem endGroupMove_keeps {α : Type} (g : Rail → α) (hg : ∀ r x, g { r with moveRate := x } = g r) (k : Nat) (s : State) (j : Nat) :
    g ((endGroupMove k s).rail j) = g (s.rail j) := by
  unfold endGroupMove
  dsimp only
  split
  · simp only [State.rail, List.getD_eq_getElem?_getD, List.getElem?_map]
    cases s.rails[j]? with
    | none => rfl
    | some r =>
      show g (if r.group = _ then { r with moveRate := none } else r) = g r
      split
      · exact hg r none
      · rfl
  · rfl

theorem stopRail_idle {k : Nat} (rate : Nat) {s : State} (h : ¬(s.rail k).runs) : stopRail k rate s = s :=
  if_neg (by simpa [Rail.runs, or_assoc] using h)

theorem stopRail_rails {k : Nat} (rate : Nat) {s : State} (h : (s.rail k).runs) :
    ∃ now, (stopRail k rate s).rails = ((endGroupMove k s).updRail k (Rail.stopping rate now)).rails := by
  unfold stopRail
  extract_lets st a b c d
  rw [if_pos (by simpa [Rail.runs, or_assoc] using h)]
  have hb : b.rails = a.rails := view_rails (k := 16)
    (forEach_view fun n t => State.updPhase_view (k := 16) (by decide) t n _) (by decide)
  have hc : c.rails = b.rails := by
    simp only [c]
    split
    · rfl
    · exact view_rails (leaveRegulation_view (k := 16) (by decide) k b) (by decide)
  have hd : d.rails = c.rails := by
    simp only [d]
    split <;> rfl
  refine ⟨d.aon.clock, ?_⟩
  simp only [State.updRail, hd, hc, hb]
  rfl

/-- A stop keeps of every rail what neither the end of a group move nor stopping concerns. -/
theorem stopRail_keeps {α : Type} (g : Rail → α) (hm : ∀ r x, g { r with moveRate := x } = g r)
    (hg : ∀ rate now r, g (Rail.stopping rate now r) = g r) (k rate : Nat) (s : State) (j : Nat) :
    g ((stopRail k rate s).rail j) = g (s.rail j) := by
  by_cases h : (s.rail k).runs
  · obtain ⟨now, hr⟩ := stopRail_rails rate h
    rw [State.rail_of_rails hr, State.rail_updRail_keeps g (hg rate now), endGroupMove_keeps g hm]
  · rw [stopRail_idle rate h]

theorem stopRail_state_ne {k j : Nat} (rate : Nat) (s : State) (h : j ≠ k) :
    ((stopRail k rate s).rail j).state = (s.rail j).state := by
  by_cases hrun : (s.rail k).runs
  · obtain ⟨now, hr⟩ := stopRail_rails rate hrun
    rw [State.rail_of_rails hr, State.rail_updRail_ne _ _ h]
    exact endGroupMove_keeps (·.state) (fun _ _ => rfl) k s j
  · rw [stopRail_idle rate hrun]

theorem stopRail_state_same {k : Nat} (rate : Nat) {s : State} (hlen : k < s.rails.length) :
    ((stopRail k rate s).rail k).state = if (s.rail k).runs then 4 else (s.rail k).state := by
  split
  · rename_i hrun
    obtain ⟨now, hr⟩ := stopRail_rails rate hrun
    have hlen' : k < (endGroupMove k s).rails.length := by
      rwa [view_rails_length (endGroupMove_view (k := 0) (Nat.zero_and _) k s)]
    rw [State.rail_of_rails hr, State.rail_updRail_same _ _ hlen']
    rfl
  · rename_i hrun
    rw [stopRail_idle rate hrun]

end Sys2Proof.Machine

/-! The writes of the rails' objects (O31). -/

namespace Sys2Proof.Machine

open Sys2Proof

/-! Rail enable (R189). -/

/-- Rail k enabled: it starts where it is OFF. -/
def railOn (k : Nat) (s : State) : State :=
  let u := s.updRail k (fun r => { r with enable := true })
  if (s.rail k).state = 0 then startRail k (rateOf (s.pn (0x3100 + k) 4)) u else u

/-- Rail k disabled: it stops, unless it is SAFE. -/
def railOff (k : Nat) (s : State) : State :=
  let u := s.updRail k (fun r => { r with enable := false })
  if (s.rail k).state = 5 then u else stopRail k (rateOf (s.pn (0x3100 + k) 4)) u

theorem writeEnable_on {k : Nat} {s : State} (hu : s.railUsed k = true) (h5 : (s.rail k).state ≠ 5) :
    writeEnable k 1 s = .ok (railOn k s) := by
  unfold writeEnable
  rw [if_pos rfl, hu, bne_iff_ne.mpr h5]
  rfl

theorem writeEnable_off (k : Nat) (s : State) : writeEnable k 0 s = .ok (railOff k s) := rfl

theorem railOn_starts {k : Nat} {s : State} (hlen : k < s.rails.length) : ((railOn k s).rail k).enable = true ∧
    ((railOn k s).rail k).state = (if (s.rail k).state = 0 then 1 else (s.rail k).state) ∧
    ∀ j, j ≠ k → (railOn k s).rail j = s.rail j := by
  obtain ⟨hself, hother⟩ := State.rail_of_updRail (f := fun r : Rail => { r with enable := true }) rfl rfl hlen
  unfold railOn
  dsimp only
  split
  · obtain ⟨head, hr⟩ := startRail_rails k (rateOf (s.pn (0x3100 + k) 4)) (s.updRail k (fun r => { r with enable := true }))
    obtain ⟨hstart, hrest⟩ := State.rail_of_updRail hr rfl (by simpa [State.updRail] using hlen)
    rw [hstart, hself]
    exact ⟨rfl, rfl, fun j hj => (hrest j hj).trans (hother j hj)⟩
  · rw [hself]
    exact ⟨rfl, rfl, hother⟩

theorem railOff_stops {k : Nat} {s : State} (hlen : k < s.rails.length) : ((railOff k s).rail k).enable = false ∧
    ((railOff k s).rail k).state = if (s.rail k).runs then 4 else (s.rail k).state := by
  have hself := State.rail_updRail_same s (fun r => { r with enable := false }) hlen
  unfold railOff
  dsimp only
  split
  · rename_i h5
    rw [hself, if_neg (by rw [Rail.runs, h5]; decide)]
    exact ⟨rfl, rfl⟩
  · rw [stopRail_keeps (·.enable) (fun _ _ => rfl) (fun _ _ _ => rfl), stopRail_state_same _ (by simpa [State.updRail] using hlen),
      hself]
    exact ⟨rfl, rfl⟩

section
variable {s : State} {ch : ChanId} {k : Nat} {val : List Byte}

theorem railEnableOn_enables (hk : k < 6) (hlen : k < s.rails.length) (h : s.takes ch (0x3100 + k) 0x13 val) (h1 : leVal val = 1)
    (hu : s.railUsed k = true) (h5 : (s.rail k).state ≠ 5) : Answers (.railEnableOn ch k val) s (fun t =>
      t.doneOn ch ∧ (t.rail k).enable = true ∧ (t.rail k).state = (if (s.rail k).state = 0 then 1 else (s.rail k).state) ∧
      ∀ j, j ≠ k → t.rail j = s.rail j) := by
  refine answers_of_railsWrite (g := railOn k) rfl h (dictRow_rail_plain k hk 0x13 (by decide)) (by omega) (by omega)
    (fun v hv => ?write) fun v t hv hdone ht => ⟨hdone, ?effect⟩
  case write =>
    rw [railsWrite_rail _ _ _ _ hk, h1]
    exact writeEnable_on (by rwa [State.railUsed_of_phases hv.phases]) (by rwa [hv.rail])
  case effect =>
    have heff := railOn_starts (k := k) (s := v) (by rwa [hv.rails])
    simpa only [State.rail_of_rails ht.rails, hv.rail] using heff

theorem railEnableOff_disables (hk : k < 6) (hlen : k < s.rails.length) (h : s.takes ch (0x3100 + k) 0x13 val)
    (h0 : leVal val = 0) : Answers (.railEnableOff ch k val) s (fun t =>
      t.doneOn ch ∧ (t.rail k).enable = false ∧ (t.rail k).state = if (s.rail k).runs then 4 else (s.rail k).state) := by
  refine answers_of_railsWrite (g := railOff k) rfl h (dictRow_rail_plain k hk 0x13 (by decide)) (by omega) (by omega)
    (fun v hv => ?write) fun v t hv hdone ht => ⟨hdone, ?effect⟩
  case write =>
    rw [railsWrite_rail _ _ _ _ hk, h0]
    exact writeEnable_off k v
  case effect =>
    have heff := railOff_stops (k := k) (s := v) (by rwa [hv.rails])
    simpa only [State.rail_of_rails ht.rails, hv.rail] using heff

end

/-! Group moves (R187). -/

/-- The setpoint that a group move names for a rail: none where its two bytes are 0. -/
theorem movesOf_find {k : Nat} (b : List Byte) (hk : k < 6) : (movesOf b).find? (fun y => y.1 = k) =
    if leAt b (2 * k) 2 = 0 then none else some (k, leAt b (2 * k) 2) := by
  unfold movesOf
  rw [List.find?_filter, List.find?_map]
  split
  · rename_i h0
    rw [Option.map_eq_none_iff, List.find?_eq_none]
    intro j _
    simp only [Function.comp_apply, bne_iff_ne, ne_eq, decide_eq_true_eq]
    rintro ⟨hj, rfl⟩
    exact hj h0
  · rename_i h0
    rw [Option.map_eq_some_iff]
    refine ⟨k, List.find?_range_eq_some.mpr ⟨by simp [h0], List.mem_range.mpr hk, fun j hj => by simp; omega⟩, rfl⟩

/-- What a group move makes of controller k: its goal and the rate towards it, where the move names one. -/
def startMove (l : List (Nat × Nat)) (s : State) (g m k : Nat) (t : State) : State :=
  match l.find? (fun y => y.1 = k) with
  | some y =>
    let d := (256 * (y.2 : Int) - (s.rail k).setNow).natAbs
    t.updRail k (fun r => { r with setGoal := y.2, moveFrom := r.setNow, moveAt := s.aon.clock,
                                   moveRate := if d = 0 then none else some (s.groupRate g d m) })
  | none => t

theorem startMoves_rails (l : List (Nat × Nat)) (s : State) :
    ∃ g m, (startMoves l s).rails = (forEach (List.range 6) (startMove l s g m) s).rails := by
  cases l with
  | nil => exact ⟨0, 0, rfl⟩
  | cons x l => exact ⟨_, _, rfl⟩

theorem startMove_length (l : List (Nat × Nat)) (s : State) (g m k : Nat) (t : State) :
    (startMove l s g m k t).rails.length = t.rails.length := by
  unfold startMove
  split
  · exact List.length_modify ..
  · rfl

theorem startMove_ne {l : List (Nat × Nat)} (s : State) (g m : Nat) {j k : Nat} (t : State) (h : k ≠ j) :
    (startMove l s g m j t).rail k = t.rail k := by
  unfold startMove
  split
  · exact State.rail_updRail_ne _ _ h
  · rfl

theorem startMove_setGoal {l : List (Nat × Nat)} (s : State) (g m : Nat) {k : Nat} {t : State} (h : k < t.rails.length) :
    ((startMove l s g m k t).rail k).setGoal = (l.find? (fun y => y.1 = k)).elim (t.rail k).setGoal Prod.snd := by
  unfold startMove
  split
  · rename_i y hy
    rw [State.rail_updRail_same _ _ h, hy]
    rfl
  · rename_i hy
    rw [hy]
    rfl

/-- A group move sets the goals that it names and no other (R187). -/
theorem startMoves_setGoal (l : List (Nat × Nat)) {k : Nat} {s : State} (hk : k < 6) (hlen : k < s.rails.length) :
    ((startMoves l s).rail k).setGoal = (l.find? (fun y => y.1 = k)).elim (s.rail k).setGoal Prod.snd := by
  obtain ⟨g, m, hr⟩ := startMoves_rails l s
  rw [State.rail_of_rails hr]
  exact forEach_once (x := fun t => (t.rail k).setGoal) (φ := fun n => (l.find? (fun y => y.1 = k)).elim n Prod.snd)
    (Q := fun t => k < t.rails.length) List.nodup_range (List.mem_range.mpr hk)
    (fun j t ht => by rwa [startMove_length]) (fun j t hj => by rw [startMove_ne s g m t hj.symm])
    (fun t ht => startMove_setGoal s g m ht) hlen

theorem movesInRange_congr {s v : State} {ch : ChanId} (hv : v.servesOn s ch) (l : List (Nat × Nat)) :
    v.movesInRange l = s.movesInRange l := by
  unfold State.movesInRange
  congr 1
  funext x
  rw [hv.num (by omega), hv.num (by omega)]

theorem movesAllowed_congr {s v : State} (hr : v.rails = s.rails) (hp : v.prot = s.prot) (l : List (Nat × Nat)) :
    v.movesAllowed l = s.movesAllowed l := by
  unfold State.movesAllowed State.rail
  rw [hr, hp]

theorem groupMove_moves {s : State} {ch : ChanId} {val : List Byte} (hlen : s.rails.length = 6) (h : s.takes ch 0x3000 6 val)
    (hr : s.movesInRange (movesOf val) = true) (ha : s.movesAllowed (movesOf val) = true) :
    Answers (.groupMove ch val) s (fun t => t.doneOn ch ∧ ∀ k, k < 6 →
      (t.rail k).setGoal = if leAt val (2 * k) 2 = 0 then (s.rail k).setGoal else leAt val (2 * k) 2) := by
  refine answers_of_railsWrite (g := startMoves (movesOf val)) rfl h (by decide) (by decide) (by decide) (fun v hv => ?write)
    fun v t hv hdone ht => ⟨hdone, fun k hk => ?effect⟩
  case write =>
    show needRange (v.movesInRange (movesOf val)) (needState (v.movesAllowed (movesOf val)) _) = _
    rw [movesInRange_congr hv, movesAllowed_congr hv.rails hv.prot, hr, ha]
    rfl
  case effect =>
    rw [State.rail_of_rails ht.rails, startMoves_setGoal _ hk (by rw [hv.rails, hlen]; exact hk), movesOf_find val hk, hv.rail]
    split <;> rfl

/-! Group stops (R189). -/

theorem stopRail_length (k rate : Nat) (s : State) : (stopRail k rate s).rails.length = s.rails.length :=
  view_rails_length (stopRail_view (k := 0) (Nat.zero_and _) k rate s)

/-- A group stop stops every running rail of the group (R189). -/
theorem groupStop_state {g k : Nat} {s : State} (hk : k < 6) (hlen : k < s.rails.length) (hu : s.railUsed k = true)
    (hg : (s.rail k).group = g) (hrun : (s.rail k).runs) : ((groupStop g s).rail k).state = 4 := by
  unfold groupStop
  extract_lets l dist m
  have hmem : k ∈ l := by simp [l, hk, hu, hg]
  refine Eq.trans (forEach_once (x := fun t => (t.rail k).state) (φ := fun n => if n = 1 ∨ n = 2 ∨ n = 3 then 4 else n)
    (Q := fun t => k < t.rails.length) (List.nodup_range.filter _) hmem (fun j t ht => ?length)
    (fun j t hj => stopRail_state_ne _ t hj.symm) (fun t ht => stopRail_state_same _ ht) hlen) (if_pos hrun)
  case length => rwa [stopRail_length]

theorem groupStop_stops {s : State} {ch : ChanId} {val : List Byte} (hlen : s.rails.length = 6) (h : s.takes ch 0x3001 9 val) :
    Answers (.groupStop ch val) s (fun t => t.doneOn ch ∧ ∀ k, k < 6 → s.railUsed k = true → (s.rail k).group = leVal val →
      (s.rail k).runs → (t.rail k).state = 4) := by
  refine answers_of_railsWrite (g := groupStop (leVal val)) rfl h (by decide) (by decide) (by decide) (fun v hv => rfl)
    fun v t hv hdone ht => ⟨hdone, fun k hk hu hg hrun => ?_⟩
  rw [State.rail_of_rails ht.rails]
  exact groupStop_state hk (by rw [hv.rails, hlen]; exact hk) (by rwa [State.railUsed_of_phases hv.phases]) (by rwa [hv.rail])
    (by rwa [hv.rail])

/-! Coefficient banks (R168). -/

theorem bankSwap_rails (k : Nat) (s : State) :
    (bankSwap k s).rails = (s.updRail k (fun r => { r with bankB := !r.bankB, builtin := false })).rails := raise_rails ..

theorem bankSwap_swaps {s : State} {ch : ChanId} {k : Nat} {val : List Byte} (hk : k < 6) (hlen : k < s.rails.length)
    (h : s.takes ch (0x3110 + k) 4 val) : Answers (.bankSwap ch k val) s (fun t =>
      t.doneOn ch ∧ t.rail k = { s.rail k with bankB := !(s.rail k).bankB, builtin := false } ∧ ∀ j, j ≠ k → t.rail j = s.rail j) := by
  refine answers_of_railsWrite (g := bankSwap k) rfl h
    ((by decide : ∀ k, k < 6 → (dictRow (0x3110 + k) 4).all Row.plain = true) k hk) (by omega) (by omega) (fun v _ => ?_)
    fun v t hv hdone ht => ⟨hdone, State.rail_of_updRail (ht.rails.trans (bankSwap_rails k v)) hv.rails hlen⟩
  unfold railsWrite
  rw [if_neg (by omega), if_neg (by omega), if_pos (by simp; omega), Nat.add_sub_cancel_left]
  rfl

/-! Phases (R157, R182, R183). -/

theorem dictRow_phase_plain : ∀ n, n < 16 → ∀ sub ∈ [1, 2], (dictRow (0x3200 + n) sub).all Row.plain = true := by decide

/-- The write of a phase's object is the phase's (R157, R182, R183). -/
theorem railsWrite_phase {n : Nat} (sub : Nat) (v : Int) (b : List Byte) (s : State) (hn : n < 16) :
    railsWrite (0x3200 + n) sub v b s =
      if sub = 1 then writePhaseCtrl n v s
      else if sub = 2 then (if v = 0 then phaseOut n s else phaseIn n s)
      else .ok (storeVal (0x3200 + n) sub v b s) := by
  unfold railsWrite
  rw [if_neg (by omega), if_neg (by omega), if_neg (by simp; omega), if_pos (by simp; omega), Nat.add_sub_cancel_left]

/-- A phase given to controller k, or taken from every controller by 7 (R157). -/
def Phase.assigned (k : Nat) (p : Phase) : Phase :=
  { p with ctrl := k, state := if k = 7 then 0 else 1, pos := 0xF, removing := false }

theorem writePhaseCtrl_assigns {n k : Nat} {s : State} (hs : (s.phase n).state = 0 ∨ (s.phase n).state = 1)
    (hroom : k = 7 ∨ (s.phasesOf k).length < 12) : writePhaseCtrl n k s = .ok (s.updPhase n (Phase.assigned k)) := by
  unfold writePhaseCtrl needState
  dsimp only
  rw [Int.toNat_natCast]
  exact if_pos (by simp only [Bool.and_eq_true, Bool.or_eq_true, decide_eq_true_eq]; exact ⟨hs, .inl hroom⟩)

/-- The idle phase n out of service: the head of its run passes it, and the others take their positions afresh (R182). -/
def phaseLeaves (n : Nat) (s : State) : State :=
  respace (s.phase n).ctrl (passHead (s.phase n).ctrl n (s.updPhase n (fun p => { p with state := 1 })))

/-- A phase in service again (R183, R218). -/
def Phase.reinstated (now : Nat) (p : Phase) : Phase :=
  { p with state := 2, count := 0, reinstAt := if p.wasFailed then some now else none, wasFailed := false }

/-- The phase n in service again, and the positions taken afresh. -/
def phaseReturns (n : Nat) (s : State) : State := respace (s.phase n).ctrl (s.updPhase n (Phase.reinstated s.aon.clock))

/-- In-service phases of its controller that have not failed, beside phase n. -/
def State.healthyBeside (s : State) (n : Nat) : Nat := ((s.healthy (s.phase n).ctrl).filter (fun x => x != n)).length

theorem phaseOut_leaves {n : Nat} {s : State} (h2 : (s.phase n).state = 2) (hr : (s.phase n).removing = false)
    (hmin : s.pn (0x3100 + (s.phase n).ctrl) 8 ≤ s.healthyBeside n)
    (hload : (s.rail (s.phase n).ctrl).iRail ≤ (s.healthyBeside n : Int) * s.num (0x3100 + (s.phase n).ctrl) 0x0A * 40960) :
    phaseOut n s = .ok (phaseLeaves n s) := by
  unfold phaseOut
  extract_lets p k m
  have hm : m = s.healthyBeside n := rfl
  rw [h2, hr, hm, decide_eq_true hmin, decide_eq_true hload]
  rfl

theorem phaseIn_returns {n : Nat} {s : State} (h1 : (s.phase n).state = 1) (hb : (s.phase n).barred = false) :
    phaseIn n s = .ok (phaseReturns n s) := by
  unfold phaseIn
  dsimp only
  rw [h1, hb]
  rfl

theorem phaseLeaves_state (n m : Nat) (s : State) :
    ((phaseLeaves n s).phase m).state = ((s.updPhase n (fun p => { p with state := 1 })).phase m).state :=
  (respace_keeps (·.state) (fun _ _ => rfl) _ _ m).trans (congrArg Phase.state (State.phase_of_phases (passHead_phases ..) m))

theorem phaseReturns_keeps {α : Type} (g : Phase → α) (hg : ∀ p x, g { p with pos := x } = g p) (n : Nat) (s : State) (m : Nat) :
    g ((phaseReturns n s).phase m) = g ((s.updPhase n (Phase.reinstated s.aon.clock)).phase m) := respace_keeps g hg ..

theorem State.healthy_of_phases {s t : State} (h : t.phases = s.phases) (k : Nat) : t.healthy k = s.healthy k := by
  unfold State.healthy State.phase
  rw [State.phasesIn_of_phases h, h]

section
variable {s : State} {ch : ChanId} {n : Nat} {val : List Byte}

theorem phaseControllerWrite_assigns (hn : n < 16) (hlen : n < s.phases.length) (h : s.takes ch (0x3200 + n) 1 val)
    (hs : (s.phase n).state = 0 ∨ (s.phase n).state = 1) (hroom : leVal val = 7 ∨ (s.phasesOf (leVal val)).length < 12) :
    Answers (.phaseControllerWrite ch n val) s (fun t =>
      t.doneOn ch ∧ t.phase n = (s.phase n).assigned (leVal val) ∧ ∀ m, m ≠ n → t.phase m = s.phase m) := by
  refine answers_of_railsWrite (g := fun v => v.updPhase n (Phase.assigned (leVal val))) rfl h
    (dictRow_phase_plain n hn 1 (by decide)) (by omega) (by omega) (fun v hv => ?_)
    fun v t hv hdone ht => ⟨hdone, State.phase_of_updPhase ht.phases hv.phases hlen⟩
  rw [railsWrite_phase _ _ _ _ hn]
  exact writePhaseCtrl_assigns (by rwa [State.phase_of_phases hv.phases]) (by rwa [State.phasesOf_of_phases hv.phases])

theorem phaseOutOfService_leaves (hn : n < 16) (hlen : n < s.phases.length) (h : s.takes ch (0x3200 + n) 2 val) (h0 : leVal val = 0)
    (h2 : (s.phase n).state = 2) (hr : (s.phase n).removing = false)
    (hmin : s.pn (0x3100 + (s.phase n).ctrl) 8 ≤ s.healthyBeside n)
    (hload : (s.rail (s.phase n).ctrl).iRail ≤ (s.healthyBeside n : Int) * s.num (0x3100 + (s.phase n).ctrl) 0x0A * 40960) :
    Answers (.phaseOutOfService ch n val) s (fun t =>
      t.doneOn ch ∧ (t.phase n).state = 1 ∧ ∀ m, m ≠ n → (t.phase m).state = (s.phase m).state) := by
  refine answers_of_railsWrite (g := phaseLeaves n) rfl h (dictRow_phase_plain n hn 2 (by decide)) (by omega) (by omega)
    (fun v hv => ?write) fun v t hv hdone ht => ⟨hdone, ?effect⟩
  case write =>
    have hp := State.phase_of_phases hv.phases n
    have hm : v.healthyBeside n = s.healthyBeside n := by
      rw [State.healthyBeside, State.healthyBeside, hp, State.healthy_of_phases hv.phases]
    rw [railsWrite_phase _ _ _ _ hn, h0]
    exact phaseOut_leaves (by rwa [hp]) (by rwa [hp]) (by rwa [hp, hm, hv.pn (by omega)])
      (by rwa [hp, hm, hv.rail, hv.num (by omega)])
  case effect =>
    obtain ⟨hself, hother⟩ := State.phase_of_updPhase (f := fun p => { p with state := 1 }) rfl hv.phases hlen
    simp only [State.phase_of_phases ht.phases, phaseLeaves_state]
    exact ⟨congrArg Phase.state hself, fun m hm => congrArg Phase.state (hother m hm)⟩

theorem phaseReinstate_returns (hn : n < 16) (hlen : n < s.phases.length) (h : s.takes ch (0x3200 + n) 2 val) (h1 : leVal val = 1)
    (hs : (s.phase n).state = 1) (hb : (s.phase n).barred = false) : Answers (.phaseReinstate ch n val) s (fun t =>
      t.doneOn ch ∧ (t.phase n).state = 2 ∧ (t.phase n).count = 0 ∧ ∀ m, m ≠ n → (t.phase m).state = (s.phase m).state) := by
  refine answers_of_railsWrite (g := phaseReturns n) rfl h (dictRow_phase_plain n hn 2 (by decide)) (by omega) (by omega)
    (fun v hv => ?write) fun v t hv hdone ht => ⟨hdone, ?effect⟩
  case write =>
    have hp := State.phase_of_phases hv.phases n
    rw [railsWrite_phase _ _ _ _ hn, h1]
    exact phaseIn_returns (by rwa [hp]) (by rwa [hp])
  case effect =>
    obtain ⟨hself, hother⟩ := State.phase_of_updPhase (f := Phase.reinstated v.aon.clock) rfl hv.phases hlen
    have hstate := phaseReturns_keeps (·.state) (fun _ _ => rfl) n v
    have hcount := phaseReturns_keeps (·.count) (fun _ _ => rfl) n v n
    simp only [State.phase_of_phases ht.phases]
    exact ⟨(hstate n).trans (congrArg Phase.state hself), hcount.trans (congrArg Phase.count hself),
      fun m hm => (hstate m).trans (congrArg Phase.state (hother m hm))⟩

end

/-! Release from SAFE (R223). -/

theorem State.mayRelease_congr {s v : State} {ch : ChanId} (hv : v.servesOn s ch) (k : Nat) : v.mayRelease k = s.mayRelease k := by
  have hov : v.aboveOv k = s.aboveOv k := by rw [State.aboveOv, State.aboveOv, hv.rail, hv.num (by omega)]
  have hno : v.noPhase k = s.noPhase k := by simp only [State.noPhase, State.phasesIn_of_phases hv.phases]
  unfold State.mayRelease State.causeStands
  rw [hv.rail, hv.aon, hv.prot, hov, hno]

theorem releaseSafe_rails (k : Nat) (s : State) : (releaseSafe k s).rails =
    (s.updRail k (fun r => { r with state := 0, ref := 0, restartAt := none, safeCode := 0 })).rails := by
  unfold releaseSafe
  extract_lets fs u w
  have hu : u.rails = s.rails := view_rails (k := 16) (foldl_view (fun t f => by
    split
    · rfl
    · exact withdrawFor_view (k := 16) (by decide) _ _ _ t) fs s) (by decide)
  rw [updAccr_rails]
  show u.rails.modify k _ = _
  rw [hu]
  rfl

theorem releaseSafe_latched (k : Nat) (s : State) : ((releaseSafe k s).ctx k).latched = [] := by
  unfold releaseSafe
  extract_lets fs u w
  rw [State.ctx_of_prot (view_prot (updAccr_view (k := 64) (by decide) _) (by decide))]
  simp only [w, State.ctx, State.updRail, State.updCtx, List.getD_eq_getElem?_getD, List.getElem?_modify_eq]
  cases u.prot.ctxs[k]? <;> rfl

theorem safeRelease_releases {s : State} {ch : ChanId} {k : Nat} {val : List Byte} (hk : k < 6) (hlen : k < s.rails.length)
    (h : s.takes ch (0x3300 + k) 0x17 val) (hm : s.mayRelease k = true) : Answers (.safeRelease ch k val) s (fun t =>
      t.doneOn ch ∧ t.rail k = { s.rail k with state := 0, ref := 0, restartAt := none, safeCode := 0 } ∧
      (t.ctx k).latched = [] ∧ ∀ j, j ≠ k → t.rail j = s.rail j) := by
  refine answers_of_railsWrite (g := releaseSafe k) rfl h
    ((by decide : ∀ k, k < 6 → (dictRow (0x3300 + k) 0x17).all Row.plain = true) k hk) (by omega) (by omega) (fun v hv => ?write)
    fun v t hv hdone ht => ?effect
  case write =>
    unfold railsWrite protWrite
    rw [if_neg (by omega), if_neg (by omega), if_neg (by simp; omega), if_neg (by simp; omega), if_pos (by simp; omega),
      Nat.add_sub_cancel_left, State.mayRelease_congr hv, hm]
    rfl
  case effect =>
    obtain ⟨hself, hother⟩ := State.rail_of_updRail (ht.rails.trans (releaseSafe_rails k v)) hv.rails hlen
    exact ⟨hdone, hself, by rw [State.ctx_of_prot ht.prot, releaseSafe_latched], hother⟩

/-- Settles O31: each write by what its object's effect makes of its rail, its phase or the rails of its group. -/
theorem railWrites : Obligations.RailWrites := by
  unfold Obligations.RailWrites
  refine ⟨fun _ _ _ _ hk hlen h h1 hu h5 => railEnableOn_enables hk hlen h h1 hu h5,
    fun _ _ _ _ hk hlen h h0 => railEnableOff_disables hk hlen h h0, fun _ _ _ hlen h hr ha => groupMove_moves hlen h hr ha,
    fun _ _ _ hlen h => groupStop_stops hlen h, fun _ _ _ _ hk hlen h => bankSwap_swaps hk hlen h, ?assigns,
    fun _ _ _ _ hn hlen h h0 h2 hr hmin hload => phaseOutOfService_leaves hn hlen h h0 h2 hr hmin hload,
    fun _ _ _ _ hn hlen h h1 hs hb => phaseReinstate_returns hn hlen h h1 hs hb, ?releases⟩
  case assigns =>
    intro ch n val s hn hlen h hs hroom
    obtain ⟨t, ht, hdone, hp, hrest⟩ := phaseControllerWrite_assigns hn hlen h hs hroom
    rw [Phase.assigned] at hp
    exact ⟨t, ht, hdone, congrArg Phase.ctrl hp, congrArg Phase.state hp, hrest⟩
  case releases =>
    intro ch k val s hk hlen h hm
    obtain ⟨t, ht, hdone, hr, hl, hrest⟩ := safeRelease_releases hk hlen h hm
    exact ⟨t, ht, hdone, by rw [hr], by rw [hr], by rw [hr], by rw [hr], hl, hrest⟩

end Sys2Proof.Machine

/-! Sheds, rotation steps and the synchronisation input (O29). -/

namespace Sys2Proof.Machine

open Sys2Proof

/-! Sheds (R180, R182). -/

theorem startShed_phases (k n : Nat) (s : State) :
    (startShed k n s).phases = (s.updPhase n (fun p => { p with state := 4 })).phases := rfl

theorem startShed_rails (k n : Nat) (s : State) : (startShed k n s).rails =
    (s.updRail k (fun r => { r with shedding := some n, shedAt := s.aon.clock })).rails := rfl

section
variable {k n a : Nat} {s : State} (ha : (s.rail k).shedFrom = some a) (hn : s.headPhase k = some n) (h2 : (s.rail k).state = 2)
  (hshed : (s.rail k).shedding = none) (hon : s.pn (0x3100 + k) 0x0E = 1) (hreq : s.nReq k + 1 ≤ s.nFire k)
  (hinh : s.inhibited k = false)
include ha hn h2 hshed hon hreq hinh

/-- A shed falls due on the head of the run after its delay, at a start of a period of position 0 (R180). -/
theorem exec_shedStart : ∃ d e, exec (.shedStart k) s = .next (startShed k n (advanceTo d (advanceTo e s))) := by
  have hdue : ((s.rail k).state = 2 && (s.rail k).shedding.isNone && s.pn (0x3100 + k) 0x0E = 1 &&
      decide (s.nReq k + 1 ≤ s.nFire k) && !s.inhibited k) = true := by
    rw [h2, hshed, hon, decide_eq_true hreq, hinh]
    rfl
  show ∃ d e, execShedStart k s = _
  unfold execShedStart
  rw [ha, hn]
  exact ⟨_, _, if_pos hdue⟩

theorem shedStart_starts (hk : k < s.rails.length) (hlen : n < s.phases.length) : Answers (.shedStart k) s (fun t =>
    (t.phase n).state = 4 ∧ (t.rail k).shedding = some n ∧ (∀ m, m ≠ n → t.phase m = s.phase m) ∧
    ∀ j, j ≠ k → t.rail j = s.rail j) := by
  obtain ⟨d, e, hexec⟩ := exec_shedStart ha hn h2 hshed hon hreq hinh
  obtain ⟨hself, hother⟩ := State.phase_of_updPhase (startShed_phases k n (advanceTo d (advanceTo e s)))
    ((advanceTo_phases ..).trans (advanceTo_phases ..)) hlen
  obtain ⟨hrail, hrest⟩ := State.rail_of_updRail (startShed_rails k n (advanceTo d (advanceTo e s)))
    ((advanceTo_rails ..).trans (advanceTo_rails ..)) hk
  exact ⟨_, hexec, by rw [hself], by rw [hrail], hother, hrest⟩

end

/-- A phase whose shed ramp has ended: idle, or out of service where it was to be removed. -/
def Phase.shed (p : Phase) : Phase :=
  { p with state := if p.removing then 1 else 2, removing := false, pos := 0xF, onTime := 0, outAt := none }

/-- A rail whose shed has ended. -/
def Rail.shedEnded (now : Nat) (r : Rail) : Rail :=
  { r with shedding := none, shedFrom := none, rotBusy := false, rotFrom := if r.rotBusy then now else r.rotFrom }

/-- What the end of phase n's shed ramp does (R176, R180, R182). -/
def shedEnd (k n : Nat) (s : State) : State :=
  let u := (passHead k n s).updPhase n Phase.shed
  respace k (u.updRail k (Rail.shedEnded u.aon.clock))

theorem exec_shedRampEnd {k n : Nat} {s : State} (h : (s.rail k).shedding = some n) :
    ∃ d, exec (.shedRampEnd k) s = .next (shedEnd k n (advanceTo d s)) := by
  show ∃ d, execShedRampEnd k s = _
  unfold execShedRampEnd
  rw [h]
  exact ⟨_, rfl⟩

theorem passHead_rail_ne (k n : Nat) (s : State) {j : Nat} (h : j ≠ k) : (passHead k n s).rail j = s.rail j := by
  unfold passHead
  split
  · exact State.rail_updRail_ne _ _ h
  · rfl

theorem passHead_length (k n : Nat) (s : State) : (passHead k n s).rails.length = s.rails.length :=
  view_rails_length (passHead_view (k := 0) (Nat.zero_and _) k n s)

theorem shedEnd_keeps {α : Type} (g : Phase → α) (hg : ∀ p x, g { p with pos := x } = g p) (k n : Nat) (s : State) (m : Nat) :
    g ((shedEnd k n s).phase m) = g ((s.updPhase n Phase.shed).phase m) := by
  refine (respace_keeps g hg ..).trans (congrArg g (State.phase_of_phases ?_ m))
  show (passHead k n s).phases.modify n Phase.shed = s.phases.modify n Phase.shed
  rw [passHead_phases]

theorem shedEnd_rail_same {k : Nat} (n : Nat) {s : State} (hk : k < s.rails.length) :
    ((shedEnd k n s).rail k).shedding = none ∧ ((shedEnd k n s).rail k).rotBusy = false := by
  have hk' : k < ((passHead k n s).updPhase n Phase.shed).rails.length := (passHead_length k n s).symm ▸ hk
  unfold shedEnd
  rw [State.rail_of_rails (respace_rails ..), State.rail_updRail_same _ _ hk']
  exact ⟨rfl, rfl⟩

theorem shedEnd_rail_ne {k j : Nat} (n : Nat) (s : State) (h : j ≠ k) : (shedEnd k n s).rail j = s.rail j := by
  unfold shedEnd
  rw [State.rail_of_rails (respace_rails ..), State.rail_updRail_ne _ _ h]
  exact passHead_rail_ne k n s h

theorem shedRampEnd_ends {k n : Nat} {s : State} (hk : k < s.rails.length) (hlen : n < s.phases.length)
    (h : (s.rail k).shedding = some n) : Answers (.shedRampEnd k) s (fun t =>
      (t.phase n).state = (if (s.phase n).removing then 1 else 2) ∧ (t.phase n).removing = false ∧ (t.phase n).onTime = 0 ∧
      (t.rail k).shedding = none ∧ (t.rail k).rotBusy = false ∧ (∀ m, m ≠ n → (t.phase m).state = (s.phase m).state) ∧
      ∀ j, j ≠ k → t.rail j = s.rail j) := by
  obtain ⟨d, hexec⟩ := exec_shedRampEnd h
  have hrails := advanceTo_rails d s
  obtain ⟨hself, hother⟩ := State.phase_of_updPhase (v := advanceTo d s) (f := Phase.shed) rfl (advanceTo_phases d s) hlen
  obtain ⟨hshed, hrot⟩ := shedEnd_rail_same (s := advanceTo d s) n (by rwa [hrails])
  have hkeeps {α : Type} (g : Phase → α) (hg : ∀ p x, g { p with pos := x } = g p) := shedEnd_keeps g hg k n (advanceTo d s)
  refine ⟨_, hexec, (hkeeps (·.state) (fun _ _ => rfl) n).trans (congrArg Phase.state hself),
    (hkeeps (·.removing) (fun _ _ => rfl) n).trans (congrArg Phase.removing hself),
    (hkeeps (·.onTime) (fun _ _ => rfl) n).trans (congrArg Phase.onTime hself), hshed, hrot,
    fun m hm => (hkeeps (·.state) (fun _ _ => rfl) m).trans (congrArg Phase.state (hother m hm)), fun j hj => ?_⟩
  rw [shedEnd_rail_ne n _ hj, State.rail_of_rails hrails]

/-! Rotation (R176). -/

theorem joinPhase_rails (k n : Nat) (s : State) : (joinPhase k n s).rails = s.rails :=
  view_rails (joinPhase_view (k := 16) (by decide) k n s) (by decide)

/-- The phase that joins is active, and no other phase changes its state (R178). -/
theorem joinPhase_state (k : Nat) {n : Nat} {s : State} (hlen : n < s.phases.length) :
    ((joinPhase k n s).phase n).state = 3 ∧ ∀ m, m ≠ n → ((joinPhase k n s).phase m).state = (s.phase m).state := by
  unfold joinPhase
  extract_lets u v w
  obtain ⟨hself, hother⟩ := State.phase_of_updPhase (t := w.count 5 1) (v := s)
    (f := fun p => { p with state := 3, outAt := some (s.aon.clock * 32) }) rfl rfl hlen
  have hstate := respace_keeps (·.state) (fun _ _ => rfl) k (w.count 5 1)
  exact ⟨(hstate n).trans (congrArg Phase.state hself), fun m hm => (hstate m).trans (congrArg Phase.state (hother m hm))⟩

section
variable {k i n : Nat} {s : State} (hi : s.nextIdle k = some i) (hn : s.headPhase k = some n) (h2 : (s.rail k).state = 2)
  (hon : s.pn 0x3000 5 ≠ 0) (hshed : (s.rail k).shedding = none) (hrot : (s.rail k).rotBusy = false) (hinh : s.inhibited k = false)
include hi hn h2 hon hshed hrot hinh

/-- A rotation step falls due after its periods: the next idle member joins, and the head of the run sheds (R176). -/
theorem exec_rotationStep : ∃ d, exec (.rotationStep k) s =
    .next (startShed k n (joinPhase k i ((advanceTo d s).updRail k (fun r => { r with rotBusy := true })))) := by
  have hdue : ((s.rail k).state = 2 && s.pn 0x3000 5 != 0 && (s.rail k).shedding.isNone && !(s.rail k).rotBusy &&
      !s.inhibited k) = true := by
    rw [h2, hshed, bne_iff_ne.mpr hon, hrot, hinh]
    rfl
  show ∃ d, execRotationStep k s = _
  unfold execRotationStep
  rw [hi, hn]
  exact ⟨_, if_pos hdue⟩

theorem rotationStep_rotates (hk : k < s.rails.length) (hilen : i < s.phases.length) (hlen : n < s.phases.length) (hne : i ≠ n) :
    Answers (.rotationStep k) s (fun t =>
      (t.phase i).state = 3 ∧ (t.phase n).state = 4 ∧ (t.rail k).shedding = some n ∧ (t.rail k).rotBusy = true) := by
  obtain ⟨d, hexec⟩ := exec_rotationStep hi hn h2 hon hshed hrot hinh
  refine ⟨_, hexec, ?_⟩
  generalize hu : (advanceTo d s).updRail k (fun r => { r with rotBusy := true }) = u
  have hrails : u.rails.length = s.rails.length := by
    rw [← hu, view_rails_length (State.updRail_view (k := 0) (Nat.zero_and _) ..), advanceTo_rails]
  have hphases : u.phases = s.phases := hu ▸ advanceTo_phases d s
  have hjoined : (joinPhase k i u).phases.length = s.phases.length := by
    rw [view_phases_length (joinPhase_view (k := 0) (Nat.zero_and _) k i u), hphases]
  obtain ⟨hactive, -⟩ := joinPhase_state k (n := i) (s := u) (by rwa [hphases])
  obtain ⟨hself, hother⟩ := State.phase_of_updPhase (startShed_phases k n (joinPhase k i u)) rfl (by rwa [hjoined])
  obtain ⟨hbusy, -⟩ := State.rail_of_updRail (congrArg State.rails hu.symm) (advanceTo_rails d s) hk
  obtain ⟨hrail, -⟩ := State.rail_of_updRail (startShed_rails k n (joinPhase k i u)) (joinPhase_rails k i u) (by rwa [hrails])
  exact ⟨by rw [hother i hne, hactive], by rw [hself], by rw [hrail], by rw [hrail, hbusy]⟩

end

/-! The synchronisation input (R184, R185). -/

/-- Only the synchronisation of the rail itself changes as it acquires the input or leaves it. -/
theorem syncStep_keeps {α : Type} (g : Rail → α) (hg : ∀ r x, g { r with regSync := x } = g r) (j : Nat) (s : State) (k : Nat) :
    g ((syncStep j s).rail k) = g (s.rail k) := by
  unfold syncStep
  dsimp only
  split
  · exact State.rail_updRail_keeps g (fun r => hg r 1) s j k
  · split
    · exact State.rail_updRail_keeps g (fun r => hg r 0) s j k
    · rfl

theorem syncStep_rail_ne {j k : Nat} (s : State) (h : k ≠ j) : (syncStep j s).rail k = s.rail k := by
  unfold syncStep
  dsimp only
  split
  · exact State.rail_updRail_ne _ _ h
  · split
    · exact State.rail_updRail_ne _ _ h
    · rfl

theorem syncStep_syncCan (j k : Nat) (s : State) : (syncStep j s).syncCan k = s.syncCan k := by
  have hview := syncStep_view (k := 66) (by decide) j s
  have hfsw := syncStep_keeps (·.fsw) (fun _ _ => rfl) j s k
  have hstate := syncStep_keeps (·.state) (fun _ _ => rfl) j s k
  have hpn : (syncStep j s).pn 0x3000 1 = s.pn 0x3000 1 :=
    congrArg Int.toNat (State.num_of_obj (view_obj hview (by decide)) 0x3000 1)
  have hprot : (syncStep j s).prot = s.prot := view_prot hview (by decide)
  have hkhz : (syncStep j s).syncKhz = s.syncKhz := by rw [State.syncKhz, State.syncKhz, hprot]
  simp only [State.syncCan, State.syncNear, hpn, hprot, hkhz, hfsw, hstate]

/-- A rail that may acquire the input begins to, and one that acquires it or has locked goes on (R184). -/
theorem syncStep_regSync {k : Nat} {s : State} (hk : k < s.rails.length) (hc : s.syncCan k = true) :
    ((syncStep k s).rail k).regSync = if (s.rail k).regSync = 0 then 1 else (s.rail k).regSync := by
  have hbit : bit (s.pn 0x3000 1) k = true := by
    simp only [State.syncCan, Bool.and_eq_true] at hc
    obtain ⟨⟨⟨hbit, -⟩, -⟩, -⟩ := hc
    exact hbit
  unfold syncStep
  dsimp only
  rw [hc, hbit]
  by_cases h0 : (s.rail k).regSync = 0
  · rw [if_pos (by rw [h0]; rfl), if_pos h0, State.rail_updRail_same _ _ hk]
  · rw [if_neg (by simp [h0]), if_neg (by simp), if_neg h0]

/-- The state in which the input has qualified, before any rail acquires it: its period, and an event for each rail that lies too
far from it (R184). -/
def State.syncQualified (s : State) (period : Nat) : State :=
  let u := { s with prot := { s.prot with syncOk := true, syncPeriod := period } }
  forEach ([0, 1, 2, 3, 4, 5].filter (fun k => bit (u.pn 0x3000 1) k && u.railUsed k && !u.syncNear k))
    (fun k s => raise 0x0322 0 k s.syncKhz s) u

theorem State.syncQualified_view (s : State) (period : Nat) : (s.syncQualified period).view 80 =
    State.view 80 { s with prot := { s.prot with syncOk := true, syncPeriod := period } } :=
  forEach_view fun _ t => raise_view (k := 80) (by decide) _ _ _ _ t

theorem regSyncQualify_qualifies {period : Nat} {s : State} (hc : s.aon.ctlReleased = true) (hs : s.prot.syncOk = false)
    (hlo : 6400 ≤ period) (hhi : period ≤ 32000) : Answers (.regSyncQualify period) s (fun t =>
      t.prot = { s.prot with syncOk := true, syncPeriod := period } ∧
      ∀ k, k < 6 → k < s.rails.length → (s.rail k).regSync = 0 → t.syncCan k = true → (t.rail k).regSync = 1) := by
  have hexec : exec (.regSyncQualify period) s = .next (forEach [0, 1, 2, 3, 4, 5] syncStep (s.syncQualified period)) :=
    if_pos (by rw [hc, hs, decide_eq_true hlo, decide_eq_true hhi]; rfl)
  have hview := s.syncQualified_view period
  refine ⟨_, hexec, ?prot, fun k hk hlen h0 hcan => ?acquires⟩
  case prot =>
    have hloop : (forEach [0, 1, 2, 3, 4, 5] syncStep (s.syncQualified period)).view 64 = _ :=
      forEach_view fun j t => syncStep_view (k := 64) (by decide) j t
    rw [view_prot hloop (by decide), view_prot hview (by decide)]
  case acquires =>
    have hcan' : (s.syncQualified period).syncCan k = true := by
      rw [← hcan]
      exact (forEach_keeps (P := fun t => t.syncCan k = (s.syncQualified period).syncCan k) _
        (fun j t ht => (syncStep_syncCan j k t).trans ht) rfl).symm
    have hrails : (s.syncQualified period).rails = s.rails := (view_rails hview (by decide) :)
    refine (forEach_once (x := fun t => (t.rail k).regSync) (φ := fun n => if n = 0 then 1 else n)
      (Q := fun t => k < t.rails.length ∧ t.syncCan k = true) (by decide) (by simp; omega) (fun j t ⟨ht, hc⟩ => ?keeps)
      (fun j t hj => by rw [syncStep_rail_ne t hj.symm]) (fun t ⟨ht, hc⟩ => syncStep_regSync ht hc)
      ⟨by rwa [hrails], hcan'⟩).trans (by rw [State.rail_of_rails hrails, h0]; rfl)
    exact ⟨(view_rails_length (syncStep_view (k := 0) (Nat.zero_and _) j t)).symm ▸ ht, (syncStep_syncCan j k t).trans hc⟩

theorem regSyncLock_locks {k : Nat} {s : State} (hk : k < s.rails.length) (hs : s.prot.syncOk = true)
    (h1 : (s.rail k).regSync = 1) : Answers (.regSyncLock k) s (fun t =>
      t.rail k = { s.rail k with regSync := 2, period := s.prot.syncPeriod } ∧ (∀ j, j ≠ k → t.rail j = s.rail j) ∧
      t.prot = s.prot) := by
  obtain ⟨hself, hother⟩ := State.rail_of_updRail (s := s) (f := fun r => { r with regSync := 2, period := s.prot.syncPeriod })
    rfl rfl hk
  exact ⟨_, if_pos (by rw [hs, h1]; rfl), hself, hother, rfl⟩

theorem regSyncLoss_releases {s : State} (hs : s.prot.syncOk = true) : Answers .regSyncLoss s (fun t =>
    t.prot = { s.prot with syncOk := false } ∧ t.rails = s.rails.map (fun r => { r with regSync := 0 }) ∧
    t.phases = s.phases) := by
  show ∃ t, execRegSyncLoss s = _ ∧ _
  unfold execRegSyncLoss
  rw [if_pos hs]
  extract_lets l p u w
  have hw : w.view 112 = u.view 112 := by
    simp only [w]
    split
    · rfl
    · exact State.bump32_view (k := 112) (by decide) ..
  have ht : (forEach l (fun k s => raise 0x0321 0 k 0 s) w).view 112 = w.view 112 :=
    forEach_view fun n t => raise_view (k := 112) (by decide) ..
  refine ⟨_, rfl, ?_⟩
  have h := ht.trans hw
  exact ⟨view_prot h (by decide), view_rails h (by decide), (view_phases h (by decide) :)⟩

/-- Settles O29: each step by what it makes of its phases and its rail, the input's by what every rail does at its change. -/
theorem railPhasesMove : Obligations.RailPhasesMove := by
  unfold Obligations.RailPhasesMove
  exact ⟨fun _ _ _ _ hk hlen ha hn h2 hshed hon hreq hinh => shedStart_starts ha hn h2 hshed hon hreq hinh hk hlen,
    fun _ _ _ hk hlen h => shedRampEnd_ends hk hlen h,
    fun _ _ _ _ hk hilen hlen hne hi hn h2 hon hshed hrot hinh =>
      rotationStep_rotates hi hn h2 hon hshed hrot hinh hk hilen hlen hne,
    fun _ _ hc hs hlo hhi => regSyncQualify_qualifies hc hs hlo hhi, fun _ _ hk hs h1 => regSyncLock_locks hk hs h1,
    fun _ hs => regSyncLoss_releases hs⟩

end Sys2Proof.Machine

/-! A state that meets the premises of the clauses of O29, O31 and O32. -/

namespace Sys2Proof.Machine

open Sys2Proof

/-- A device in service. Rail 0 regulates with phases 0 and 1 firing and phase 2 idle, and its load is low; rail 1 is OFF; rail 2 is
SAFE with its cause gone; rail 3 moves with its group; on rail 4 phase 6 sheds to be removed. Phase 5 is out of service. -/
def State.railsInService : State :=
  { State.inService with
    aon := { State.inService.aon with ctlReleased := true }
    rails := [{ state := 2, fsw := 1000, setGoal := 900, setNow := 230400, ref := 230400, shedFrom := some 0 }, {},
      { state := 5, safeCode := 0x0304 }, { state := 3, group := 1, moveRate := some 1 }, { state := 2, shedding := some 6 }, {}]
    phases := [{ ctrl := 0, state := 3 }, { ctrl := 0, state := 3 }, { ctrl := 0, state := 2 }, { ctrl := 1, state := 2 },
      { ctrl := 3, state := 3 }, { ctrl := 0, state := 1 }, { ctrl := 4, state := 4, removing := true }] ++ List.replicate 9 {}
    prot := { State.inService.prot with ramps := [1] } }

/-- The same with the synchronisation input qualified. -/
def State.railsSynchronised : State :=
  { State.railsInService with prot := { State.railsInService.prot with syncOk := true, syncPeriod := 12800 } }

theorem railsInService_takes {i sub : Nat} {val : List Byte} (h : State.railsInService.writePasses .mgt i sub val = true) :
    State.railsInService.takes .mgt i sub val := ⟨⟨rfl, rfl, rfl⟩, by decide, h⟩

/-- O32 at 1000 mV on rail 0. -/
theorem railsInService_sets : Answers (.setpointWrite .mgt 0 [0xE8, 3]) State.railsInService (fun t => (t.rail 0).setGoal = 1000) :=
  answers_mono (setpointWrite_sets (val := [0xE8, 3]) (by decide) (by decide) (railsInService_takes (by decide)) (by decide) (by decide)
    (by decide)) fun _ ⟨_, hr, _⟩ => by rw [hr]; rfl

/-- O32 at the rail whose group moves. -/
theorem railsInService_refuses : Answers (.setpointWrite .mgt 3 [0xE8, 3]) State.railsInService (fun t => t.abortedOn .mgt abState) :=
  answers_mono (setpointWrite_refused (val := [0xE8, 3]) (by decide) (railsInService_takes (by decide)) (by decide) (by decide)
    (by decide)) fun _ ⟨habort, _⟩ => habort

/-- O31 at the rail that is OFF. -/
theorem railsInService_enables : Answers (.railEnableOn .mgt 1 [1]) State.railsInService (fun t => (t.rail 1).state = 1) :=
  answers_mono (railEnableOn_enables (val := [1]) (by decide) (by decide) (railsInService_takes (by decide)) (by decide) (by decide)
    (by decide)) fun _ ⟨_, _, hs, _⟩ => hs

/-- O31 at the rail that regulates. -/
theorem railsInService_disables : Answers (.railEnableOff .mgt 0 [0]) State.railsInService (fun t => (t.rail 0).state = 4) :=
  answers_mono (railEnableOff_disables (val := [0]) (by decide) (by decide) (railsInService_takes (by decide)) (by decide))
    fun _ ⟨_, _, hs⟩ => hs

/-- O31 at a group move of rail 0 to 1000 mV. -/
theorem railsInService_moves : Answers (.groupMove .mgt [0xE8, 3, 0, 0, 0, 0, 0, 0, 0, 0, 0, 0]) State.railsInService (fun t =>
    (t.rail 0).setGoal = 1000) :=
  answers_mono (groupMove_moves (val := [0xE8, 3, 0, 0, 0, 0, 0, 0, 0, 0, 0, 0]) rfl (railsInService_takes (by decide)) (by decide)
    (by decide)) fun _ ⟨_, hs⟩ => hs 0 (by decide)

/-- O31 at the stop of group 1. -/
theorem railsInService_stopsGroup : Answers (.groupStop .mgt [1]) State.railsInService (fun t => (t.rail 3).state = 4) :=
  answers_mono (groupStop_stops (val := [1]) rfl (railsInService_takes (by decide))) fun _ ⟨_, hs⟩ =>
    hs 3 (by decide) (by decide) rfl (.inr (.inr rfl))

/-- O31 at the idle phase. -/
theorem railsInService_retires : Answers (.phaseOutOfService .mgt 2 [0]) State.railsInService (fun t => (t.phase 2).state = 1) :=
  answers_mono (phaseOutOfService_leaves (val := [0]) (by decide) (by decide) (railsInService_takes (by decide)) (by decide) rfl rfl
    (by decide) (by decide)) fun _ ⟨_, hs, _⟩ => hs

/-- O31 at the phase out of service. -/
theorem railsInService_reinstates : Answers (.phaseReinstate .mgt 5 [1]) State.railsInService (fun t => (t.phase 5).state = 2) :=
  answers_mono (phaseReinstate_returns (val := [1]) (by decide) (by decide) (railsInService_takes (by decide)) (by decide) rfl rfl)
    fun _ ⟨_, hs, _⟩ => hs

/-- O31 at a phase out of service that goes to controller 1. -/
theorem railsInService_assigns : Answers (.phaseControllerWrite .mgt 5 [1]) State.railsInService (fun t => (t.phase 5).ctrl = 1) :=
  answers_mono (phaseControllerWrite_assigns (val := [1]) (by decide) (by decide) (railsInService_takes (by decide)) (.inr rfl)
    (by decide)) fun _ ⟨_, hp, _⟩ => by rw [hp]; rfl

/-- O31 at the banks of rail 0. -/
theorem railsInService_swaps : Answers (.bankSwap .mgt 0 [1]) State.railsInService (fun t => (t.rail 0).bankB = true) :=
  answers_mono (bankSwap_swaps (val := [1]) (by decide) (by decide) (railsInService_takes (by decide))) fun _ ⟨_, hr, _⟩ => by
    rw [hr]; rfl

/-- O31 at the rail that is SAFE. -/
theorem railsInService_releases : Answers (.safeRelease .mgt 2 [1]) State.railsInService (fun t => (t.rail 2).state = 0) :=
  answers_mono (safeRelease_releases (val := [1]) (by decide) (by decide) (railsInService_takes (by decide)) (by decide))
    fun _ ⟨_, hr, _⟩ => by rw [hr]

/-- O29 at a shed on rail 0. -/
theorem railsInService_sheds : Answers (.shedStart 0) State.railsInService (fun t => (t.phase 0).state = 4) :=
  answers_mono (shedStart_starts (n := 0) (a := 0) rfl (by decide) rfl rfl (by decide) (by decide) (by decide) (by decide) (by decide))
    fun _ ⟨hs, _⟩ => hs

/-- O29 at the end of the removal on rail 4. -/
theorem railsInService_removes : Answers (.shedRampEnd 4) State.railsInService (fun t => (t.phase 6).state = 1) :=
  answers_mono (shedRampEnd_ends (n := 6) (by decide) (by decide) rfl) fun _ ⟨hs, _⟩ => hs

/-- O29 at a rotation step on rail 0. -/
theorem railsInService_rotates : Answers (.rotationStep 0) State.railsInService (fun t =>
    (t.phase 2).state = 3 ∧ (t.phase 0).state = 4) :=
  answers_mono (rotationStep_rotates (i := 2) (n := 0) (by decide) (by decide) rfl (by decide) rfl rfl (by decide) (by decide)
    (by decide) (by decide) (by decide)) fun _ ⟨hi, hn, _⟩ => ⟨hi, hn⟩

/-- O29 at an input of 1 MHz. -/
theorem railsInService_qualifies : Answers (.regSyncQualify 12800) State.railsInService (fun t => t.prot.syncOk = true) :=
  answers_mono (regSyncQualify_qualifies rfl rfl (by decide) (by decide)) fun _ ⟨hp, _⟩ => by rw [hp]

/-- O29 at the loss of the input. -/
theorem railsSynchronised_loses : Answers .regSyncLoss State.railsSynchronised (fun t => t.prot.syncOk = false) :=
  answers_mono (regSyncLoss_releases rfl) fun _ ⟨hp, _⟩ => by rw [hp]

end Sys2Proof.Machine

/-! A raised fault (R221 to R226): what its protective actions, events and records leave, and the recovery of a fault whose context
is free. -/

namespace Sys2Proof.Machine

open Sys2Proof

/-! The moment and THERMTRIP_N, beside events, interrupts and readiness. -/

/-- The moment, and the level of THERMTRIP_N. -/
def State.tripAt (s : State) : Nat × Bool := (s.aon.clock, s.aon.thermtripN)

theorem State.tripAt_of_aon {s t : State} (h : t.aon = s.aon) : t.tripAt = s.tripAt := by
  rw [State.tripAt, State.tripAt, h]

theorem captureEvent_tripAt (e : Event) (s : State) : (captureEvent e s).tripAt = s.tripAt := by
  obtain ⟨b, l, h⟩ := captureEvent_aon e s
  rw [State.tripAt, h]
  rfl

theorem clearReady_tripAt (f : Nat) (s : State) : (clearReady f s).tripAt = s.tripAt := by
  unfold clearReady
  split
  · exact captureEvent_tripAt ..
  · rfl

theorem triggerActions_tripAt (s : State) : (triggerActions s).tripAt = s.tripAt := by
  have hite : ∀ (c : Prop) [Decidable c] (t u : State), t.tripAt = u.tripAt → (if c then t else u).tripAt = u.tripAt :=
    fun c _ t u h => by split <;> first | exact h | rfl
  unfold triggerActions
  extract_lets a u v w x
  have hu : u.tripAt = s.tripAt := hite _ (snapshot s) s rfl
  have hv : v.tripAt = u.tripAt := hite _ (dumpMoment u) u rfl
  have hw : w.tripAt = v.tripAt := hite _ (graphBegin v) v
    (State.tripAt_of_aon (view_aon (graphBegin_view (k := 1) (by decide) v) (by decide)))
  have hx : x.tripAt = w.tripAt := hite _ (assertIrq w) w rfl
  refine (hite _ _ x ?_).trans (hx.trans (hw.trans (hv.trans hu)))
  split <;> rfl

theorem scribeTrigger_tripAt (s : State) : (scribeTrigger s).tripAt = s.tripAt := by
  unfold scribeTrigger
  extract_lets k o u v w
  have hw : w.view 1 = v.view 1 := (setStopFlag_view (k := 1) (by decide) ..).trans (State.put_view (k := 1) (by decide) ..)
  have hv : v.view 1 = u.view 1 := scribeWrite_view (k := 1) (by decide) ..
  have hu : u.view 1 = s.view 1 := scribeGap_view (k := 1) (by decide) _
  rw [triggerActions_tripAt, raise, captureEvent_tripAt]
  exact State.tripAt_of_aon (view_aon (hw.trans (hv.trans hu)) (by decide))

theorem scribeMatch_tripAt (s : State) : (scribeMatch s).tripAt = s.tripAt := by
  unfold scribeMatch
  split
  · dsimp only
    split
    · split
      · rfl
      · exact scribeTrigger_tripAt _
    · rfl
  · rfl

theorem assertNmi_tripAt (s : State) : (assertNmi s).tripAt = s.tripAt := by
  unfold assertNmi
  dsimp only
  split
  · exact scribeMatch_tripAt _
  · rfl

theorem notify_tripAt (sev : Nat) (s : State) : (notify sev s).tripAt = s.tripAt := by
  unfold notify
  dsimp only
  split
  · rw [assertNmi_tripAt]
    split <;> rfl
  · split <;> rfl

theorem retain_tripAt (r : LastFault) (s : State) : (retain r s).tripAt = s.tripAt :=
  State.tripAt_of_aon (view_aon (retain_view (k := 1) (by decide) r s) (by decide))

theorem faultEvent_tripAt (c code sev phase item arg1 flags : Nat) (s : State) :
    (faultEvent c code sev phase item arg1 flags s).tripAt = s.tripAt := captureEvent_tripAt ..

theorem firstFault_tripAt (c code sev phase item arg1 : Nat) (s : State) :
    (firstFault c code sev phase item arg1 s).tripAt = s.tripAt := by
  unfold firstFault
  dsimp only
  split
  · rw [retain_tripAt, faultEvent_tripAt, notify_tripAt]
    rfl
  · rw [faultEvent_tripAt, notify_tripAt]
    rfl

/-! A fault that finds its context free (R222). -/

theorem retain_ctxs (r : LastFault) (s : State) : (retain r s).prot.ctxs = s.prot.ctxs := by
  unfold retain
  dsimp only
  split
  · rfl
  · rw [State.bump32_prot]

theorem State.ctx_of_ctxs {s t : State} (h : t.prot.ctxs = s.prot.ctxs) (c : Nat) : t.ctx c = s.ctx c := by
  rw [State.ctx, State.ctx, h]

/-- The context takes the fault, begun at the present moment. -/
theorem firstFault_recovers {c : Nat} (code sev phase item arg1 : Nat) {s : State} (hc : c < s.prot.ctxs.length) :
    (firstFault c code sev phase item arg1 s).recoversOf c code sev phase item := by
  have hclock : (firstFault c code sev phase item arg1 s).aon.clock = s.aon.clock :=
    congrArg Prod.fst (firstFault_tripAt c code sev phase item arg1 s)
  rw [State.recoversOf, hclock]
  unfold firstFault
  extract_lets u v
  have hv : v.ctx c = u.ctx c := State.ctx_of_prot ((view_prot (faultEvent_view (k := 64) (by decide) ..) (by decide)).trans
    (view_prot (notify_view (k := 64) (by decide) ..) (by decide))) c
  have hcur : (v.ctx c).cur = some { code := code, sev := sev, phase := phase, item := item, since := s.aon.clock } := by
    rw [hv, State.ctx_updCtx_same s _ hc]
  split
  · rw [State.ctx_of_ctxs (retain_ctxs ..), hcur]
  · exact hcur

/-- What recovers is read from the contexts and the moment alone. -/
theorem State.recoversOf.of_eq {t u : State} {c code sev phase item : Nat} (h : u.recoversOf c code sev phase item)
    (hctx : t.ctx c = u.ctx c) (hclock : t.aon.clock = u.aon.clock) : t.recoversOf c code sev phase item := by
  rw [State.recoversOf, hctx, hclock]
  exact h

/-! A context stays free while rails enter SAFE (R221, R401). -/

theorem Ctx.finish_free {now code item : Nat} {c : Ctx} (h : c.cur = none) : (c.finish now code item).cur = none := by
  unfold Ctx.finish
  dsimp only
  rw [h]

theorem State.ctx_updCtx_free {s : State} {c d : Nat} {f : Ctx → Ctx} (hf : ∀ x : Ctx, x.cur = none → (f x).cur = none)
    (h : (s.ctx c).cur = none) : ((s.updCtx d f).ctx c).cur = none := by
  simp only [State.ctx, State.updCtx, List.getD_eq_getElem?_getD, List.getElem?_modify] at h ⊢
  split <;> cases hx : s.prot.ctxs[c]? <;> simp_all

theorem endFault_free {c d code item : Nat} {s : State} (h : (s.ctx c).cur = none) : ((endFault d code item s).ctx c).cur = none :=
  State.ctx_updCtx_free (fun _ => Ctx.finish_free) h

theorem gaugesLost_free {c : Nat} {s : State} (h : (s.ctx c).cur = none) : ((gaugesLost s).ctx c).cur = none := by
  unfold gaugesLost
  extract_lets u v w
  have hu : (u.ctx c).cur = none := by
    rw [State.ctx_of_prot (clearReady_prot 7 s)]
    exact h
  have hv : (v.ctx c).cur = none := List.foldlRecOn (motive := fun t => (State.ctx t c).cur = none) _ _ hu fun t ht f _ => by
    split
    · exact endFault_free ht
    · exact ht
  show (w.ctx c).cur = none
  simp only [w]
  split
  · split
    · exact endFault_free hv
    · exact hv
  · exact hv

theorem leaveRegulation_free {c : Nat} (k : Nat) {s : State} (h : (s.ctx c).cur = none) :
    ((leaveRegulation k s).ctx c).cur = none := by
  unfold leaveRegulation
  extract_lets u
  have hu : (u.ctx c).cur = none := by
    simp only [u]
    split
    · rw [State.ctx_of_prot (view_prot (coreLeave_view (k := 64) (by decide) s) (by decide))]
      exact h
    · exact h
  split
  · exact gaugesLost_free hu
  · exact hu

theorem endGroupMove_ctx (k c : Nat) (s : State) : (endGroupMove k s).ctx c = s.ctx c := by
  unfold endGroupMove
  dsimp only
  split <;> rfl

/-! A rail enters SAFE (R207, R221). -/

/-- A rail in SAFE since a moment, with the code that brought it there; where it may, it starts again at another moment. -/
def Rail.madeSafe (code now restart : Nat) (r : Rail) : Rail :=
  { r with
    state := 5, safeAt := now, safeCode := code, s3At := some now, moveRate := none, rampRate := 0, skip := false, skipLow := 0,
    shedding := none, rotBusy := false, ffForce := false, ffDutyLeft := 0, vsCount := 0, uvFrom := none, uvRaised := 0,
    prebias := false, fold := false, foldTimer := 0, foldLowFrom := none, peakTimer := 0, overLim := 0, feTimer := 0,
    restartAt := if r.retries != 0 && r.enable then some restart else none }

/-- Rail k has left regulation, where it was not yet stopping, and its phases have stopped. -/
def safeStopped (k : Nat) (s : State) : State :=
  stopFiring k (endGroupMove k (if (s.rail k).runs then leaveRegulation k s else s))

/-- The same with the rail in SAFE, before the tile clock stops and the member is lost. -/
def safeRail (k code : Nat) (s : State) : State :=
  (safeStopped k s).updRail k (Rail.madeSafe code (safeStopped k s).aon.clock
    ((safeStopped k s).aon.clock + ms ((safeStopped k s).pn (0x3300 + k) 0x13)))

theorem enterSafe_none {k : Nat} (code : Nat) {s : State} (h : s.railUsed k = false ∨ (s.rail k).state = 5) :
    enterSafe k code s = s := if_pos (by simpa using h)

theorem enterSafe_eq {k : Nat} (code : Nat) {s : State} (hu : s.railUsed k = true) (h5 : (s.rail k).state ≠ 5) :
    enterSafe k code s =
      let t := if (s.rail k).railId < 3 then stopTclk k (safeRail k code s) else safeRail k code s
      if (s.rail k).railId = 0 then loseSelf t else t := by
  have hruns : (if (s.rail k).state = 1 || (s.rail k).state = 2 || (s.rail k).state = 3 then leaveRegulation k s else s) =
      if (s.rail k).runs then leaveRegulation k s else s := by simp only [Rail.runs, Bool.or_eq_true, decide_eq_true_eq, or_assoc]
  unfold enterSafe safeRail safeStopped
  rw [if_neg (by simp [hu, h5])]
  dsimp only
  rw [hruns]
  rfl

/-- Beside the tile clock, the chain and the stop's unit the state is the one with the rail in SAFE. -/
theorem enterSafe_safeRail {k : Nat} (code : Nat) {s : State} (hu : s.railUsed k = true) (h5 : (s.rail k).state ≠ 5) :
    (enterSafe k code s).view 15727607 = (safeRail k code s).view 15727607 := by
  rw [enterSafe_eq code hu h5]
  dsimp only
  split
  · rw [loseSelf_view (by decide)]
    split
    · exact stopTclk_view (by decide) ..
    · rfl
  · split
    · exact stopTclk_view (by decide) ..
    · rfl

theorem gaugesLost_tripAt (s : State) : (gaugesLost s).tripAt = s.tripAt := by
  unfold gaugesLost
  extract_lets u v w
  have hv : v.tripAt = u.tripAt := State.tripAt_of_aon (view_aon (k := 1) (foldl_view (fun t f => by
    split
    · exact endFault_view (by decide) ..
    · rfl) _ _) (by decide))
  have hw : w.tripAt = v.tripAt := by
    simp only [w]
    split
    · split <;> rfl
    · rfl
  exact hw.trans (hv.trans (clearReady_tripAt 7 s))

theorem leaveRegulation_tripAt (k : Nat) (s : State) : (leaveRegulation k s).tripAt = s.tripAt := by
  unfold leaveRegulation
  extract_lets u
  have hu : u.tripAt = s.tripAt := by
    simp only [u]
    split
    · exact State.tripAt_of_aon (view_aon (coreLeave_view (k := 1) (by decide) s) (by decide))
    · rfl
  split
  · exact (gaugesLost_tripAt u).trans hu
  · exact hu

theorem safeStopped_tripAt (k : Nat) (s : State) : (safeStopped k s).tripAt = s.tripAt := by
  unfold safeStopped
  refine (State.tripAt_of_aon (view_aon ((stopFiring_view (k := 1) (by decide) ..).trans
    (endGroupMove_view (k := 1) (by decide) ..)) (by decide))).trans ?_
  split
  · exact leaveRegulation_tripAt k s
  · rfl

theorem enterSafe_tripAt (k code : Nat) (s : State) : (enterSafe k code s).tripAt = s.tripAt := by
  by_cases h : s.railUsed k = false ∨ (s.rail k).state = 5
  · rw [enterSafe_none code h]
  · obtain ⟨hu, h5⟩ := not_or.mp h
    exact (State.tripAt_of_aon (view_aon (enterSafe_safeRail code (by simpa using hu) h5) (by decide))).trans
      (safeStopped_tripAt k s)

theorem safeStopped_free {c : Nat} (k : Nat) {s : State} (h : (s.ctx c).cur = none) : ((safeStopped k s).ctx c).cur = none := by
  unfold safeStopped
  show ((endGroupMove k _).ctx c).cur = none
  rw [endGroupMove_ctx]
  split
  · exact leaveRegulation_free k h
  · exact h

theorem enterSafe_free {c : Nat} (k code : Nat) {s : State} (h : (s.ctx c).cur = none) : ((enterSafe k code s).ctx c).cur = none := by
  by_cases h' : s.railUsed k = false ∨ (s.rail k).state = 5
  · rwa [enterSafe_none code h']
  · obtain ⟨hu, h5⟩ := not_or.mp h'
    rw [State.ctx_of_prot (view_prot (enterSafe_safeRail code (by simpa using hu) h5) (by decide))]
    exact safeStopped_free k h

theorem enterSafe_tripHeld (k code : Nat) (s : State) : (enterSafe k code s).clk.tripHeld = s.clk.tripHeld := by
  have hsafe : (safeRail k code s).clk = s.clk := by
    refine (view_clk (k := 1024) ((State.updRail_view (k := 1024) (by decide) ..).trans ((stopFiring_view (by decide) ..).trans
      (endGroupMove_view (by decide) ..))) (by decide)).trans ?_
    split
    · exact view_clk (leaveRegulation_view (k := 1024) (by decide) k s) (by decide)
    · rfl
  by_cases h : s.railUsed k = false ∨ (s.rail k).state = 5
  · rw [enterSafe_none code h]
  · obtain ⟨hu, h5⟩ := not_or.mp h
    rw [enterSafe_eq code (by simpa using hu) h5, ← hsafe]
    dsimp only
    split
    · rw [view_clk (loseSelf_view (k := 1024) (by decide) _) (by decide)]
      split <;> rfl
    · split <;> rfl

/-! The shutdown (R221, R389). -/

/-- Every rail has entered SAFE with THERMTRIP_N low. -/
def railsShut (code : Nat) (s : State) : State :=
  forEach [0, 1, 2, 3, 4, 5] (fun k s => enterSafe k code s) { s with aon := { s.aon with thermtripN := false } }

theorem shutdown_eq (code : Nat) (s : State) : shutdown code s =
    loseSelf { railsShut code s with clk := { (railsShut code s).clk with running := false, moving := false, moveStage := 0 } } := by
  unfold shutdown railsShut
  dsimp only

theorem shutdown_railsShut (code : Nat) (s : State) : (shutdown code s).view 15727607 = (railsShut code s).view 15727607 := by
  rw [shutdown_eq, loseSelf_view (by decide)]
  generalize railsShut code s = u
  rfl

theorem shutdown_tripAt (code : Nat) (s : State) : (shutdown code s).tripAt = (s.aon.clock, false) :=
  (State.tripAt_of_aon (view_aon (shutdown_railsShut code s) (by decide))).trans
    (forEach_keeps (P := fun t => t.tripAt = (s.aon.clock, false)) _ (fun k t ht => (enterSafe_tripAt k code t).trans ht) rfl)

theorem shutdown_free {c : Nat} (code : Nat) {s : State} (h : (s.ctx c).cur = none) : ((shutdown code s).ctx c).cur = none := by
  rw [State.ctx_of_prot (view_prot (shutdown_railsShut code s) (by decide))]
  exact forEach_keeps (P := fun t => (t.ctx c).cur = none) _ (fun k t ht => enterSafe_free k code ht) h

theorem shutdown_clk (code : Nat) (s : State) :
    (shutdown code s).clk.running = false ∧ (shutdown code s).clk.tripHeld = s.clk.tripHeld := by
  rw [shutdown_eq, view_clk (loseSelf_view (k := 1024) (by decide) _) (by decide)]
  have hheld : (railsShut code s).clk.tripHeld = s.clk.tripHeld := by
    unfold railsShut
    exact forEach_keeps (P := fun t => t.clk.tripHeld = s.clk.tripHeld) _ (fun k t ht => (enterSafe_tripHeld k code t).trans ht) rfl
  generalize railsShut code s = u at hheld ⊢
  exact ⟨rfl, hheld⟩

/-! A fault that finds its context free: protection, then its recovery (R221, R222). -/

theorem protect_free {c d : Nat} (code sev item : Nat) {s : State} (h : (s.ctx d).cur = none) :
    ((protect c code sev item s).ctx d).cur = none := by
  unfold protect
  split
  · rw [State.ctx_of_prot (view_prot (postFor_view (k := 64) (by decide) ..) (by decide))]
    exact h
  · split
    · exact enterSafe_free c code h
    · split
      · exact shutdown_free code h
      · exact h

theorem markRailFlt_ctx (c code d : Nat) (s : State) : (markRailFlt c code s).ctx d = s.ctx d :=
  State.ctx_of_prot (view_prot (markRailFlt_view (k := 64) (by decide) ..) (by decide)) d

theorem raiseFault_first {c : Nat} (code : Nat) {sev : Nat} (phase item arg1 : Nat) {s : State} (hsev : sev ≠ 0)
    (h : (s.ctx c).cur = none) : raiseFault c code sev phase item arg1 s =
      updAccr (firstFault c code sev phase item arg1 (protect c code sev item (markRailFlt c code s))) := by
  have hfree := protect_free (c := c) code sev item ((congrArg Ctx.cur (markRailFlt_ctx c code c s)).trans h)
  unfold raiseFault
  dsimp only
  rw [if_neg hsev, hfree]

theorem raiseFault_inRecovery {c : Nat} (code : Nat) {sev : Nat} (phase item arg1 : Nat) {s : State} (hsev : sev ≠ 0)
    (hc : c < s.prot.ctxs.length) (h : (s.ctx c).cur = none) :
    (raiseFault c code sev phase item arg1 s).recoversOf c code sev phase item := by
  have hlen : (protect c code sev item (markRailFlt c code s)).prot.ctxs.length = s.prot.ctxs.length :=
    congrArg (fun x => x.2.2.2.2.2.1) (view_fixed ((protect_view (k := 0) (Nat.zero_and _) ..).trans
      (markRailFlt_view (k := 0) (Nat.zero_and _) ..)))
  rw [raiseFault_first code phase item arg1 hsev h]
  exact (firstFault_recovers code sev phase item arg1 (hlen ▸ hc)).of_eq
    (State.ctx_of_prot (view_prot (updAccr_view (k := 64) (by decide) _) (by decide)) c) (congrArg Aon.clock (updAccr_aon _))

/-! What a fault changes of the rails, their phases and their protection by SAFE alone. -/

/-- The rails but for their fault flags, the phases, and protection but for its contexts and its retention RAM. -/
structure Guard where
  rails : List Rail
  phases : List Phase
  prot : Prot

/-- A rail without its fault flags. -/
def Rail.unflagged (r : Rail) : Rail := { r with flt := 0 }

/-- Protection without its contexts and its retention RAM. -/
def Prot.bare (p : Prot) : Prot := { p with ctxs := [], retention := [] }

def State.guard (s : State) : Guard := ⟨s.rails.map Rail.unflagged, s.phases, s.prot.bare⟩

theorem State.guard_of_view {s t : State} (h : t.view 112 = s.view 112) : t.guard = s.guard := by
  rw [State.guard, view_rails h (by decide), view_phases h (by decide), view_prot h (by decide)]
  rfl

/-- What is read of a rail beside its fault flags is read of the guard. -/
theorem State.rail_of_guard {s t : State} (h : t.guard = s.guard) {α : Type} (g : Rail → α) (hg : ∀ r x, g { r with flt := x } = g r)
    (k : Nat) : g (t.rail k) = g (s.rail k) := by
  have hmap : ∀ u : State, g (u.rail k) = g ((u.guard.rails).getD k {}) := fun u => by
    simp only [State.rail, State.guard, List.getD_eq_getElem?_getD, List.getElem?_map]
    cases u.rails[k]? with
    | none => rfl
    | some r => exact (hg r 0).symm
  rw [hmap, hmap, h]

theorem State.phase_of_guard {s t : State} (h : t.guard = s.guard) (n : Nat) : t.phase n = s.phase n :=
  State.phase_of_phases (congrArg Guard.phases h) n

theorem markRailFlt_guard (c code : Nat) (s : State) : (markRailFlt c code s).guard = s.guard := by
  unfold markRailFlt
  split
  · unfold setRailFlt
    refine (State.guard_of_view (State.bump32_view (k := 112) (by decide) ..)).trans ?_
    simp only [State.guard, State.updRail]
    congr 1
    refine List.ext_getElem? fun j => ?_
    simp only [List.getElem?_map, List.getElem?_modify]
    split <;> cases s.rails[j]? <;> simp [Rail.unflagged]
  · rfl

theorem retain_guard (r : LastFault) (s : State) : (retain r s).guard = s.guard := by
  unfold retain
  dsimp only
  split
  · rfl
  · exact (State.guard_of_view (State.bump32_view (k := 112) (by decide) ..)).trans rfl

theorem faultEvent_guard (c code sev phase item arg1 flags : Nat) (s : State) :
    (faultEvent c code sev phase item arg1 flags s).guard = s.guard :=
  State.guard_of_view (faultEvent_view (k := 112) (by decide) ..)

theorem notify_guard (sev : Nat) (s : State) : (notify sev s).guard = s.guard :=
  State.guard_of_view (notify_view (k := 112) (by decide) ..)

theorem updAccr_guard (s : State) : (updAccr s).guard = s.guard := State.guard_of_view (updAccr_view (k := 112) (by decide) s)

theorem firstFault_guard (c code sev phase item arg1 : Nat) (s : State) :
    (firstFault c code sev phase item arg1 s).guard = s.guard := by
  unfold firstFault
  extract_lets u v
  have hv : v.guard = s.guard := (faultEvent_guard ..).trans (notify_guard ..)
  split
  · exact (retain_guard ..).trans hv
  · exact hv

/-- The guard after a fault of S1 or S2 that finds its context free. -/
theorem raiseFault_guard {c : Nat} (code : Nat) {sev : Nat} (phase item arg1 : Nat) {s : State} (h0 : sev ≠ 0) (h2 : sev ≤ 2)
    (h : (s.ctx c).cur = none) : (raiseFault c code sev phase item arg1 s).guard = s.guard := by
  have hp : ∀ t, (protect c code sev item t).guard = t.guard := fun t => by
    unfold protect
    split
    · exact State.guard_of_view (postFor_view (k := 112) (by decide) ..)
    · rw [if_neg (by omega), if_neg (by omega)]
  rw [raiseFault_first code phase item arg1 h0 h, updAccr_guard, firstFault_guard, hp, markRailFlt_guard]

/-- What every rail's entry into SAFE keeps of the guard. -/
def keptInSafe (P : Guard → Prop) : Prop := ∀ k code s, P (State.guard s) → P (enterSafe k code s).guard

section
variable {P : Guard → Prop} (hP : keptInSafe P)
include hP

theorem shutdown_keeps (code : Nat) {s : State} (h : P s.guard) : P (shutdown code s).guard := by
  rw [State.guard_of_view (view_le (k := 112) (by decide) (shutdown_railsShut code s))]
  unfold railsShut
  exact forEach_keeps (P := fun t => P t.guard) _ (fun k t => hP k code t) h

theorem protect_keeps (c code sev item : Nat) {s : State} (h : P s.guard) : P (protect c code sev item s).guard := by
  unfold protect
  split
  · rwa [State.guard_of_view (postFor_view (k := 112) (by decide) ..)]
  · split
    · exact hP c code s h
    · split
      · exact shutdown_keeps hP code h
      · exact h

theorem protectEscalated_keeps (c code sev : Nat) {s : State} (h : P s.guard) : P (protectEscalated c code sev s).guard := by
  unfold protectEscalated
  split
  · rwa [State.guard_of_view (postEscalated_view (k := 112) (by decide) ..)]
  · split
    · exact hP c code s h
    · split
      · exact shutdown_keeps hP code h
      · exact h

theorem secondFault_keeps (c : Nat) (a : Fault_) (code sev phase item arg1 : Nat) {s : State} (h : P s.guard) :
    P (secondFault c a code sev phase item arg1 s).guard := by
  unfold secondFault
  extract_lets v esc u full b u1 u2 u3 fl u4 u5 u6
  have hu : P u.guard := by
    simp only [u]
    split
    · exact protectEscalated_keeps hP c code v h
    · exact h
  have h2 : u2.guard = u.guard := by
    simp only [u2]
    split
    · exact (State.guard_of_view (State.bump32_view (k := 112) (by decide) ..)).trans rfl
    · rfl
  have h3 : u3.guard = u2.guard := (faultEvent_guard ..).trans (notify_guard ..)
  have h4 : u4.guard = u3.guard := by
    simp only [u4]
    split
    · exact retain_guard ..
    · rfl
  rw [faultEvent_guard, markRailFlt_guard, retain_guard, h4, h3, h2]
  exact hu

/-- A fault keeps of the guard what SAFE keeps, whatever its context holds. -/
theorem raiseFault_keeps (c code sev phase item arg1 : Nat) {s : State} (h : P s.guard) :
    P (raiseFault c code sev phase item arg1 s).guard := by
  have hm : P (markRailFlt c code s).guard := by rwa [markRailFlt_guard]
  unfold raiseFault
  dsimp only
  split
  · rwa [faultEvent_guard]
  · have hp := protect_keeps hP c code sev item hm
    split
    · rwa [updAccr_guard, firstFault_guard]
    · rw [updAccr_guard]
      exact secondFault_keeps hP c _ code sev phase item arg1 hp

end

/-! What SAFE does to the rails, their phases and their protection. -/

def Guard.rail (g : Guard) (k : Nat) : Rail := g.rails.getD k {}

def Guard.phase (g : Guard) (n : Nat) : Phase := g.phases.getD n {}

theorem State.guard_rail (s : State) {α : Type} (g : Rail → α) (hg : ∀ r x, g { r with flt := x } = g r) (k : Nat) :
    g (s.guard.rail k) = g (s.rail k) := by
  simp only [Guard.rail, State.rail, State.guard, List.getD_eq_getElem?_getD, List.getElem?_map]
  cases s.rails[k]? with
  | none => rfl
  | some r => exact hg r 0

theorem gaugesLost_bare (s : State) : (gaugesLost s).prot.bare = s.prot.bare := by
  unfold gaugesLost
  extract_lets u v w
  have hu : u.prot.bare = s.prot.bare := congrArg Prot.bare (clearReady_prot 7 s)
  have hv : v.prot.bare = u.prot.bare := List.foldlRecOn (motive := fun t : State => t.prot.bare = u.prot.bare) _ _ rfl
    fun t ht f _ => by
      split
      · exact ht
      · exact ht
  have hw : w.prot.bare = v.prot.bare := by
    simp only [w]
    split
    · split <;> rfl
    · rfl
  exact hw.trans (hv.trans hu)

theorem leaveRegulation_bare (k : Nat) (s : State) : (leaveRegulation k s).prot.bare = s.prot.bare := by
  unfold leaveRegulation
  extract_lets u
  have hu : u.prot = s.prot := by
    simp only [u]
    split
    · exact view_prot (coreLeave_view (k := 64) (by decide) s) (by decide)
    · rfl
  split
  · rw [gaugesLost_bare, hu]
  · rw [hu]

/-- A phase of controller k whose rail stops firing. -/
def Phase.stopped (k : Nat) (p : Phase) : Phase :=
  if p.ctrl = k && (p.state = 3 || p.state = 4) then { p with state := 2, pos := 0xF, onTime := 0 }
  else if p.ctrl = k then { p with pos := 0xF, onTime := 0 } else p

/-- A phase keeps what neither its state nor its pulses concern, and its state where it did not fire. -/
theorem Phase.stopped_keeps {α : Type} (g : Phase → α) (hg : ∀ p x y, g { p with pos := x, onTime := y } = g p) {k : Nat} {p : Phase}
    (h : p.state ≠ 3 ∧ p.state ≠ 4) : g (p.stopped k) = g p := by
  unfold Phase.stopped
  rw [if_neg (by simp [h])]
  split
  · exact hg ..
  · rfl

theorem safeStopped_phases (k : Nat) (s : State) : (safeStopped k s).phases = s.phases.map (Phase.stopped k) := by
  unfold safeStopped
  show List.map (Phase.stopped k) (endGroupMove k _).phases = _
  rw [view_phases (endGroupMove_view (k := 32) (by decide) ..) (by decide)]
  split
  · rw [view_phases (leaveRegulation_view (k := 32) (by decide) ..) (by decide)]
  · rfl

theorem safeStopped_rail {α : Type} (g : Rail → α) (hg : ∀ r x, g { r with moveRate := x } = g r) (k : Nat) (s : State) (j : Nat) :
    g ((safeStopped k s).rail j) = g (s.rail j) := by
  unfold safeStopped
  refine (endGroupMove_keeps g hg k _ j).trans ?_
  split
  · rw [State.rail_of_rails (view_rails (leaveRegulation_view (k := 16) (by decide) ..) (by decide))]
  · rfl

theorem safeStopped_bare (k : Nat) (s : State) : ∃ l, (safeStopped k s).prot.bare = { s.prot.bare with ramps := l } := by
  have hg : ∀ u : State, ∃ l, (stopFiring k (endGroupMove k u)).prot.bare = { u.prot.bare with ramps := l } := fun u => by
    unfold stopFiring endGroupMove
    dsimp only
    split
    · exact ⟨_, rfl⟩
    · exact ⟨_, rfl⟩
  unfold safeStopped
  split
  · rw [← leaveRegulation_bare k s]
    exact hg _
  · exact hg s

/-- The guard once rail k has entered SAFE, where it had not. -/
theorem enterSafe_guard {k : Nat} (code : Nat) {s : State} (hu : s.railUsed k = true) (h5 : (s.rail k).state ≠ 5) :
    (enterSafe k code s).guard = (safeRail k code s).guard :=
  State.guard_of_view (view_le (by decide) (enterSafe_safeRail code hu h5))

/-- What a first entry of any rail into SAFE keeps, every entry keeps. -/
theorem keptInSafe_of_safeRail {P : Guard → Prop} (h : ∀ k code s, (State.rail s k).state ≠ 5 → P s.guard → P (safeRail k code s).guard) :
    keptInSafe P := fun k code s hs => by
  by_cases h' : s.railUsed k = false ∨ (s.rail k).state = 5
  · rwa [enterSafe_none code h']
  · obtain ⟨hu, h5⟩ := not_or.mp h'
    rw [enterSafe_guard code (by simpa using hu) h5]
    exact h k code s h5 hs

/-- A rail in SAFE stays there. -/
theorem keptInSafe_safe (k : Nat) : keptInSafe (fun g => (g.rail k).state = 5) := keptInSafe_of_safeRail fun j code s h5 h => by
  rw [State.guard_rail _ (·.state) (fun _ _ => rfl)] at h ⊢
  have hkj : k ≠ j := fun e => h5 (e ▸ h)
  unfold safeRail
  rw [State.rail_updRail_ne _ _ hkj]
  exact (safeStopped_rail (·.state) (fun _ _ => rfl) j s k).trans h

/-- A phase out of the run keeps what its pulses do not concern. -/
theorem keptInSafe_phase {α : Type} (g : Phase → α) (hg : ∀ p x y, g { p with pos := x, onTime := y } = g p) (n : Nat) (a : α) {st : Nat}
    (h3 : st ≠ 3) (h4 : st ≠ 4) : keptInSafe (fun x => (x.phase n).state = st ∧ g (x.phase n) = a) :=
  keptInSafe_of_safeRail fun j code s _ h => by
    have hphase : (safeRail j code s).phase n = (s.phase n).stopped j := by
      show (safeStopped j s).phase n = _
      rw [State.phase, safeStopped_phases, State.phase, List.getD_eq_getElem?_getD, List.getD_eq_getElem?_getD, List.getElem?_map]
      cases s.phases[n]? with
      | none =>
        show ({} : Phase) = Phase.stopped j {}
        unfold Phase.stopped
        split
        · rename_i hc
          simp at hc
        · split <;> rfl
      | some p => rfl
    obtain ⟨hst, ha⟩ : (s.phase n).state = st ∧ g (s.phase n) = a := h
    have hfire : (s.phase n).state ≠ 3 ∧ (s.phase n).state ≠ 4 := hst ▸ ⟨h3, h4⟩
    show ((safeRail j code s).phase n).state = st ∧ g ((safeRail j code s).phase n) = a
    rw [hphase]
    exact ⟨(Phase.stopped_keeps (·.state) (fun _ _ _ => rfl) hfire).trans hst, (Phase.stopped_keeps g hg hfire).trans ha⟩

/-- Every phase keeps its controller. -/
theorem keptInSafe_ctrl (l : List Nat) : keptInSafe (fun g => g.phases.map (·.ctrl) = l) := keptInSafe_of_safeRail fun j code s _ h => by
  have hctrl : ∀ p : Phase, (p.stopped j).ctrl = p.ctrl := fun p => by
    unfold Phase.stopped
    split
    · rfl
    · split <;> rfl
  show (safeStopped j s).phases.map (·.ctrl) = l
  rw [safeStopped_phases, List.map_map, ← h]
  exact List.map_congr_left fun p _ => hctrl p

/-- Protection keeps what no group move concerns. -/
theorem keptInSafe_prot {α : Type} (g : Prot → α) (hg : ∀ p l, g { p with ramps := l } = g p) (a : α) :
    keptInSafe (fun x => g x.prot = a) := keptInSafe_of_safeRail fun j code s _ h => by
  obtain ⟨l, hl⟩ := safeStopped_bare j s
  show g (safeStopped j s).prot.bare = a
  rw [hl, hg]
  exact h

theorem State.railUsed_of_ctrl {s t : State} (h : t.phases.map (·.ctrl) = s.phases.map (·.ctrl)) (k : Nat) : t.railUsed k = s.railUsed k := by
  have hctrl : ∀ (u : State) n, (u.phase n).ctrl = (u.phases.map (·.ctrl)).getD n 7 := fun u n => by
    rw [State.phase, List.getD_eq_getElem?_getD, List.getD_eq_getElem?_getD, List.getElem?_map]
    cases u.phases[n]? <;> rfl
  simp only [State.railUsed, State.phasesOf, hctrl, h]

/-! A fault of S3 brings its rail into SAFE, and no fault takes a rail out of it (R221). -/

theorem enterSafe_state {k : Nat} (code : Nat) {s : State} (hk : k < s.rails.length) (hu : s.railUsed k = true) :
    ((enterSafe k code s).rail k).state = 5 := by
  by_cases h5 : (s.rail k).state = 5
  · rw [enterSafe_none code (.inr h5), h5]
  · have hlen : (safeStopped k s).rails.length = s.rails.length := by
      unfold safeStopped
      rw [view_rails_length ((stopFiring_view (k := 0) (Nat.zero_and _) ..).trans (endGroupMove_view (Nat.zero_and _) ..))]
      split
      · exact view_rails_length (leaveRegulation_view (k := 0) (Nat.zero_and _) ..)
      · rfl
    rw [State.rail_of_guard (enterSafe_guard code hu h5) (·.state) (fun _ _ => rfl)]
    unfold safeRail
    rw [State.rail_updRail_same _ _ (hlen ▸ hk)]
    rfl

theorem raiseFault_staysSafe (c code sev phase item arg1 : Nat) {s : State} {k : Nat} (h : (s.rail k).state = 5) :
    ((raiseFault c code sev phase item arg1 s).rail k).state = 5 := by
  rw [← State.guard_rail _ (·.state) (fun _ _ => rfl)] at h ⊢
  exact raiseFault_keeps (keptInSafe_safe k) c code sev phase item arg1 h

theorem raiseFault_railUsed (c code sev phase item arg1 : Nat) (s : State) (k : Nat) :
    (raiseFault c code sev phase item arg1 s).railUsed k = s.railUsed k :=
  State.railUsed_of_ctrl (raiseFault_keeps (keptInSafe_ctrl (s.phases.map (·.ctrl))) c code sev phase item arg1 rfl) k

theorem raiseFault_safe {k : Nat} (code phase item arg1 : Nat) {s : State} (hk : k < s.rails.length) (hu : s.railUsed k = true) :
    ((raiseFault k code 3 phase item arg1 s).rail k).state = 5 := by
  have hlen : (markRailFlt k code s).rails.length = s.rails.length :=
    view_rails_length (markRailFlt_view (k := 0) (Nat.zero_and _) ..)
  have hused : (markRailFlt k code s).railUsed k = true := by
    rw [State.railUsed_of_phases (view_phases (markRailFlt_view (k := 32) (by decide) ..) (by decide)), hu]
  have hp : ((protect k code 3 item (markRailFlt k code s)).rail k).state = 5 := enterSafe_state code (hlen ▸ hk) hused
  unfold raiseFault
  dsimp only
  rw [if_neg (by decide), ← State.guard_rail _ (·.state) (fun _ _ => rfl)]
  rw [← State.guard_rail _ (·.state) (fun _ _ => rfl)] at hp
  split
  · rwa [updAccr_guard, firstFault_guard]
  · rw [updAccr_guard]
    exact secondFault_keeps (keptInSafe_safe k) k _ code 3 phase item arg1 hp

end Sys2Proof.Machine

/-! Holds, restarts and retries of a rail (O28). -/

namespace Sys2Proof.Machine

open Sys2Proof

theorem clearFault_rails (c code item : Nat) (s : State) : (clearFault c code item s).rails = s.rails :=
  view_rails (clearFault_view (k := 16) (by decide) c code item s) (by decide)

theorem State.ctx_updCtx_ne (s : State) {c d : Nat} (f : Ctx → Ctx) (h : d ≠ c) : (s.updCtx c f).ctx d = s.ctx d := by
  simp [State.ctx, State.updCtx, h.symm]

/-- A fault that ends leaves its context as its finish says, and every other context alone (R226). -/
theorem endFault_ctx {c : Nat} (code item : Nat) {s : State} (hc : c < s.prot.ctxs.length) :
    (endFault c code item s).ctx c = (s.ctx c).finish s.aon.clock code item ∧ ∀ d, d ≠ c → (endFault c code item s).ctx d = s.ctx d :=
  ⟨s.ctx_updCtx_same _ hc, fun _ hd => s.ctx_updCtx_ne _ hd⟩

theorem clearFault_ctx {c : Nat} (code item : Nat) {s : State} (hc : c < s.prot.ctxs.length) :
    (clearFault c code item s).ctx c = (s.ctx c).finish s.aon.clock code item := by
  have hw : (withdrawFor c code item s).view 65 = s.view 65 := withdrawFor_view (by decide) ..
  have hprot := view_prot hw (by decide)
  obtain ⟨hself, -⟩ := endFault_ctx (c := c) code item (s := withdrawFor c code item s) (hprot ▸ hc)
  unfold clearFault
  rw [State.ctx_of_prot (view_prot (updAccr_view (k := 64) (by decide) _) (by decide)), hself, State.ctx_of_prot hprot,
    view_aon hw (by decide)]

/-- With nothing latched the end of a recovery frees the context. -/
theorem Ctx.finish_cur {f : Fault_} (now : Nat) : Ctx.finish now f.code f.item { cur := some f } = {} := by
  unfold Ctx.finish
  dsimp only
  rw [if_pos (by simp)]
  rfl

/-- With one fault latched the end of a recovery begins that one's. -/
theorem Ctx.finish_cur_latched {f g : Fault_} (now : Nat) :
    Ctx.finish now f.code f.item { cur := some f, latched := [g] } = { cur := some { g with since := now } } := by
  have hdrop : dropCode g.code g.item [g] = [] := by simp [dropCode]
  unfold Ctx.finish
  dsimp only
  rw [if_pos (by simp)]
  show ({ cur := some { g with since := now }, latched := dropCode g.code g.item [g] } : Ctx) = _
  rw [hdrop]

theorem foldbackHoldExpiry_ends {k a : Nat} {s : State} (hk : k < s.rails.length) (hf : (s.rail k).fold = true)
    (ha : (s.rail k).foldLowFrom = some a) : Answers (.foldbackHoldExpiry k) s (fun t =>
      t.rail k = { s.rail k with fold := false, foldTimer := 0, foldLowFrom := none, peakTimer := 0 } ∧
      ∀ j, j ≠ k → t.rail j = s.rail j) := by
  show ∃ t, execFoldbackHoldExpiry k s = _ ∧ _
  unfold execFoldbackHoldExpiry
  rw [ha]
  dsimp only
  rw [if_pos hf]
  exact ⟨_, rfl, State.rail_of_updRail (clearFault_rails ..) (advanceTo_rails ..) hk⟩

/-- The first fault of S1 of a context is the one in recovery. -/
theorem execS1HoldExpiry_cur {c : Nat} {f : Fault_} {s : State} (hf : (s.ctx c).cur = some f) (h1 : f.sev = 1) :
    execS1HoldExpiry c s = .next (endFault c f.code f.item (advanceTo (f.since + ms (s.pn 0x3310 6)) s)) := by
  have hfind : (s.ctx c).running.find? (fun f => f.sev = 1) = some f := by
    unfold Ctx.running
    rw [hf]
    exact List.find?_cons_of_pos (decide_eq_true h1)
  unfold execS1HoldExpiry
  rw [hfind]

theorem s1HoldExpiry_frees {c : Nat} {f : Fault_} {s : State} (hc : c < s.prot.ctxs.length) (hctx : s.ctx c = { cur := some f })
    (h1 : f.sev = 1) : Answers (.s1HoldExpiry c) s (fun t => t.ctx c = {} ∧ ∀ d, d ≠ c → t.ctx d = s.ctx d) := by
  have hprot := advanceTo_prot (f.since + ms (s.pn 0x3310 6)) s
  obtain ⟨hself, hother⟩ := endFault_ctx (c := c) f.code f.item (s := advanceTo (f.since + ms (s.pn 0x3310 6)) s) (hprot ▸ hc)
  refine ⟨_, execS1HoldExpiry_cur (by rw [hctx]) h1, ?_, fun d hd => ?_⟩
  · rw [hself, State.ctx_of_prot hprot, hctx, Ctx.finish_cur]
  · rw [hother d hd, State.ctx_of_prot hprot]

theorem advanceTo_clock_ge (d : Nat) (s : State) : s.aon.clock ≤ (advanceTo d s).aon.clock := by
  cases hp : s.aon.porN with
  | true => rw [advanceTo_clock d hp]; exact Nat.le_max_left ..
  | false =>
    unfold advanceTo elapse
    rw [hp]
    split <;> exact Nat.le_refl _

theorem s1HoldExpiry_serves {c : Nat} {f g : Fault_} {s : State} (hc : c < s.prot.ctxs.length)
    (hctx : s.ctx c = { cur := some f, latched := [g] }) (h1 : f.sev = 1) : Answers (.s1HoldExpiry c) s (fun t =>
      ∃ n, t.ctx c = { cur := some { g with since := n } } ∧ s.aon.clock ≤ n) := by
  have hprot := advanceTo_prot (f.since + ms (s.pn 0x3310 6)) s
  obtain ⟨hself, -⟩ := endFault_ctx (c := c) f.code f.item (s := advanceTo (f.since + ms (s.pn 0x3310 6)) s) (hprot ▸ hc)
  refine ⟨_, execS1HoldExpiry_cur (by rw [hctx]) h1, _, ?_, advanceTo_clock_ge (f.since + ms (s.pn 0x3310 6)) s⟩
  rw [hself, State.ctx_of_prot hprot, hctx, Ctx.finish_cur_latched]

theorem s2HoldExpiry_frees {c : Nat} {f : Fault_} {s : State} (hc : c < s.prot.ctxs.length) (hctx : s.ctx c = { cur := some f })
    (h2 : f.sev = 2) (hcode : f.code = 0x0307) : Answers (.s2HoldExpiry c) s (fun t => t.ctx c = {}) := by
  have hend : f.s2End (ms (s.pn 0x3310 7)) true = some (f.since + ms (s.pn 0x3310 7)) := by
    unfold Fault_.s2End
    rw [h2, hcode]
    rfl
  have hends : earliest ((s.ctx c).s2Ends (ms (s.pn 0x3310 7))) = some (f.since + ms (s.pn 0x3310 7), f) := by
    rw [hctx]
    simp [Ctx.s2Ends, Ctx.running, hend, earliest]
  have hprot := advanceTo_prot (f.since + ms (s.pn 0x3310 7)) s
  show ∃ t, execS2HoldExpiry c s = _ ∧ _
  unfold execS2HoldExpiry
  rw [hends]
  refine ⟨_, rfl, ?_⟩
  rw [clearFault_ctx _ _ (hprot ▸ hc), State.ctx_of_prot hprot, hctx, Ctx.finish_cur]

theorem restartDelayExpiry_starts {k a : Nat} {s : State} (hk : k < s.rails.length) (h5 : (s.rail k).state = 5)
    (ha : (s.rail k).restartAt = some a) (hr : (s.rail k).retries ≠ 0) (he : (s.rail k).enable = true)
    (hm : (advanceTo a s).mayRelease k = true) : Answers (.restartDelayExpiry k) s (fun t =>
      (t.rail k).state = 1 ∧ (t.rail k).retries = (s.rail k).retries - 1 ∧ (t.rail k).ref = 0 ∧ (t.rail k).prebias = true ∧
      ∀ j, j ≠ k → t.rail j = s.rail j) := by
  show ∃ t, execRestartDelayExpiry k s = _ ∧ _
  unfold execRestartDelayExpiry
  rw [ha]
  dsimp only
  rw [if_pos (by simp [h5, hr, he]), if_pos hm]
  refine ⟨_, rfl, ?_⟩
  generalize hu : (advanceTo a s).updRail k (fun r => { r with retries := r.retries - 1 }) = u
  obtain ⟨hself, hother⟩ := State.rail_of_updRail (s := s) (congrArg State.rails hu.symm) (advanceTo_rails a s) hk
  have hlen : u.rails.length = s.rails.length := by
    rw [← hu, view_rails_length (State.updRail_view (k := 0) (Nat.zero_and _) ..), advanceTo_rails]
  obtain ⟨hfree, hfree'⟩ := State.rail_of_updRail (s := u) (releaseSafe_rails k u) rfl (hlen ▸ hk)
  obtain ⟨head, hstart⟩ := startRail_rails k (rateOf ((releaseSafe k u).pn (0x3100 + k) 4)) (releaseSafe k u)
  obtain ⟨hrail, hrest⟩ := State.rail_of_updRail (s := releaseSafe k u) hstart rfl
    (by rw [view_rails_length (releaseSafe_view (k := 0) (Nat.zero_and _) ..), hlen]; exact hk)
  rw [hrail, hfree, hself]
  exact ⟨rfl, rfl, rfl, rfl, fun j hj => (hrest j hj).trans ((hfree' j hj).trans (hother j hj))⟩

theorem retryRefill_refills {k a : Nat} {s : State} (hk : k < s.rails.length) (ha : (s.rail k).s3At = some a) :
    Answers (.retryRefill k) s (fun t =>
      (t.rail k).retries = (advanceTo (a + ms 10000) s).pn (0x3300 + k) 0x14 ∧ (t.rail k).s3At = none ∧
      (t.rail k).state = (s.rail k).state ∧ ∀ j, j ≠ k → t.rail j = s.rail j) := by
  show ∃ t, execRetryRefill k s = _ ∧ _
  unfold execRetryRefill
  rw [ha]
  refine ⟨_, rfl, ?_⟩
  obtain ⟨hself, hother⟩ := State.rail_of_updRail (s := s) (v := advanceTo (a + ms 10000) s)
    (f := fun r => { r with retries := (advanceTo (a + ms 10000) s).pn (0x3300 + k) 0x14, s3At := none }) rfl (advanceTo_rails ..) hk
  rw [hself]
  exact ⟨rfl, rfl, rfl, hother⟩

/-- Settles O28: each hold by what its end makes of its rail or of its context, the restart by the release before the ramp. -/
theorem railHoldsEnd : Obligations.RailHoldsEnd := by
  unfold Obligations.RailHoldsEnd
  exact ⟨fun _ _ _ hk hf ha => foldbackHoldExpiry_ends hk hf ha, fun _ _ _ hc hctx h1 => s1HoldExpiry_frees hc hctx h1,
    fun _ _ _ _ hc hctx h1 => s1HoldExpiry_serves hc hctx h1, fun _ _ _ hc hctx h2 hcode => s2HoldExpiry_frees hc hctx h2 hcode,
    fun _ _ _ hk h5 ha hr he hm => restartDelayExpiry_starts hk h5 ha hr he hm, fun _ _ _ hk ha => retryRefill_refills hk ha⟩

end Sys2Proof.Machine

/-! The faults that the timers of rail protection raise (O27). -/

namespace Sys2Proof.Machine

open Sys2Proof

section
variable {k : Nat} {s u : State} (hprot : u.prot = s.prot) (hc : k < s.prot.ctxs.length) (hfree : (s.ctx k).cur = none)
include hprot hfree

/-- A fault of S1 or S2 whose context was free leaves the guard of the state that raises it. -/
theorem raiseFault_guardOf (code : Nat) {sev : Nat} (phase item arg1 : Nat) (h0 : sev ≠ 0) (h2 : sev ≤ 2) :
    (raiseFault k code sev phase item arg1 u).guard = u.guard :=
  raiseFault_guard code phase item arg1 h0 h2 (by rw [State.ctx_of_prot hprot, hfree])

include hc

theorem raiseFault_recoversIn (code : Nat) {sev : Nat} (phase item arg1 : Nat) (h0 : sev ≠ 0) :
    (raiseFault k code sev phase item arg1 u).recoversOf k code sev phase item :=
  raiseFault_inRecovery code phase item arg1 h0 (hprot ▸ hc) (by rw [State.ctx_of_prot hprot, hfree])

end

/-! Over-current and fold-back (R202 to R205). -/

/-- A phase whose over-current hold has been raised, with its share-check count and the count at which it is suspect. -/
def Phase.ocRaised (count limit : Nat) (p : Phase) : Phase :=
  { p with ocLong := true, count := count, suspect := p.suspect || decide (limit ≤ count) }

theorem exec_phOcPeakExpiry {n k a : Nat} {s : State} (hctrl : (s.phase n).ctrl = k) (hk : k < 6) (ha : (s.phase n).ocAt = some a)
    (hl : (s.phase n).ocLong = false) : ∃ d limit, exec (.phOcPeakExpiry n) s = .next (raiseFault k 0x0301 1 n 0xFFFF 0
      ((advanceTo d s).updPhase n (Phase.ocRaised (min 255 (((advanceTo d s).phase n).count + 1)) limit))) := by
  show ∃ d limit, execPhOcPeakExpiry n s = _
  unfold execPhOcPeakExpiry
  rw [ha, hctrl]
  exact ⟨_, _, if_neg (by simp [hl, hk])⟩

theorem phOcPeakExpiry_raises {n k a : Nat} {s : State} (hn : n < s.phases.length) (hctrl : (s.phase n).ctrl = k) (hk : k < 6)
    (hc : k < s.prot.ctxs.length) (ha : (s.phase n).ocAt = some a) (hl : (s.phase n).ocLong = false)
    (hfree : (s.ctx k).cur = none) : Answers (.phOcPeakExpiry n) s (fun t =>
      (t.phase n).ocLong = true ∧ (t.phase n).count = min 255 ((s.phase n).count + 1) ∧ t.recovers k 0x0301 1 n) := by
  obtain ⟨d, limit, hexec⟩ := exec_phOcPeakExpiry hctrl hk ha hl
  rw [State.phase_of_phases (advanceTo_phases d s)] at hexec
  generalize hu : (advanceTo d s).updPhase n (Phase.ocRaised (min 255 ((s.phase n).count + 1)) limit) = u at hexec
  have hprot : u.prot = s.prot := hu ▸ advanceTo_prot d s
  obtain ⟨hself, -⟩ := State.phase_of_updPhase (congrArg State.phases hu.symm) (advanceTo_phases d s) hn
  have hphase := State.phase_of_guard (raiseFault_guardOf hprot hfree 0x0301 (sev := 1) n 0xFFFF 0 (by decide) (by decide)) n
  refine ⟨_, hexec, ?_, ?_, raiseFault_recoversIn hprot hc hfree 0x0301 n 0xFFFF 0 (by decide)⟩
  · rw [hphase, hself]
    rfl
  · rw [hphase, hself]
    rfl

theorem peakTimerExpiry_folds {k : Nat} {s : State} (hk : k < s.rails.length) (hc : k < s.prot.ctxs.length)
    (hu : s.railUsed k = true) (hp : s.pn (0x3300 + k) 3 ≤ (s.rail k).peakTimer) (hf : (s.rail k).fold = false)
    (hfree : (s.ctx k).cur = none) : Answers (.peakTimerExpiry k) s (fun t =>
      (t.rail k).fold = true ∧ (t.rail k).foldTimer = 0 ∧ t.recovers k 0x0302 2 0xFF) := by
  have hself : (markFold k s).rail k = _ := State.rail_updRail_same s _ hk
  have hguard := raiseFault_guardOf (u := markFold k s) rfl hfree 0x0302 0xFF 0xFFFF 0 (sev := 2) (by decide) (by decide)
  refine ⟨_, if_pos (by rw [hu, decide_eq_true hp, hf]; rfl), ?_, ?_,
    raiseFault_recoversIn (u := markFold k s) rfl hc hfree 0x0302 0xFF 0xFFFF 0 (by decide)⟩
  · rw [State.rail_of_guard hguard (·.fold) (fun _ _ => rfl), hself]
  · rw [State.rail_of_guard hguard (·.foldTimer) (fun _ _ => rfl), hself]

theorem foldbackLimitExpiry_raises {k : Nat} {s : State} (hk : k < s.rails.length) (hc : k < s.prot.ctxs.length)
    (hu : s.railUsed k = true) (hf : (s.rail k).fold = true) (hl : s.pn (0x3300 + k) 7 ≤ (s.rail k).foldTimer)
    (hfree : (s.ctx k).cur = none) : Answers (.foldbackLimitExpiry k) s (fun t =>
      (t.rail k).state = 5 ∧ t.recovers k 0x0303 3 0xFF) :=
  ⟨_, if_pos (by rw [hf, decide_eq_true hl]; rfl), raiseFault_safe 0x0303 0xFF 0xFFFF 0 hk hu,
    raiseFault_inRecovery 0x0303 0xFF 0xFFFF 0 (by decide) hc hfree⟩

/-! Voltages (R207, R208). -/

theorem protect_four (c code item : Nat) (s : State) : protect c code 4 item s = shutdown code s := by
  unfold protect
  rw [if_neg (by decide), if_neg (by decide), if_pos rfl]

/-- A fault of S4 whose context was free takes THERMTRIP_N low and stops the tile clock (R221, R389). -/
theorem raiseFault_shuts {c : Nat} (code phase item arg1 : Nat) {s t : State} (hfree : (s.ctx c).cur = none)
    (ht : raiseFault c code 4 phase item arg1 s = t) :
    t.aon.thermtripN = false ∧ t.aon.clock = s.aon.clock ∧ t.clk.running = false ∧ t.clk.tripHeld = s.clk.tripHeld := by
  obtain ⟨hrun, hheld⟩ := shutdown_clk code (markRailFlt c code s)
  have hm : (markRailFlt c code s).view 1025 = s.view 1025 := markRailFlt_view (by decide) ..
  have hclk : ∀ t, (updAccr (firstFault c code 4 phase item arg1 t)).clk = t.clk := fun t =>
    (view_clk (updAccr_view (k := 1024) (by decide) _) (by decide)).trans
      (view_clk (firstFault_view (k := 1024) (by decide) ..) (by decide))
  have htrip : ∀ t, (updAccr (firstFault c code 4 phase item arg1 t)).tripAt = t.tripAt := fun t =>
    (State.tripAt_of_aon (updAccr_aon _)).trans (firstFault_tripAt ..)
  rw [raiseFault_first code phase item arg1 (by decide) hfree, protect_four] at ht
  have hall := htrip (shutdown code (markRailFlt c code s))
  rw [ht, shutdown_tripAt, view_aon hm (by decide)] at hall
  obtain ⟨hclock, hlow⟩ := Prod.mk.inj hall
  have hsame := hclk (shutdown code (markRailFlt c code s))
  rw [ht] at hsame
  rw [hsame]
  exact ⟨hlow, hclock, hrun, hheld.trans (congrArg Clk.tripHeld (view_clk hm (by decide)))⟩

theorem exec_ovPersist {k : Nat} {s : State} (hu : s.railUsed k = true) (h5 : (s.rail k).state = 5) (hov : s.aboveOv k = true) :
    ∃ d, exec (.ovPersist k) s = .next (raiseFault k 0x030F 4 0xFF 0xFFFF 0 (advanceTo d s)) :=
  ⟨_, if_pos (by rw [hu, h5, hov]; rfl)⟩

theorem ovPersist_shuts {k : Nat} {s : State} (hc : k < s.prot.ctxs.length) (hu : s.railUsed k = true) (h5 : (s.rail k).state = 5)
    (hov : s.aboveOv k = true) (hfree : (s.ctx k).cur = none) : Answers (.ovPersist k) s (fun t =>
      t.aon.thermtripN = false ∧ t.clk.running = false ∧ t.recovers k 0x030F 4 0xFF) := by
  obtain ⟨d, hexec⟩ := exec_ovPersist hu h5 hov
  have hprot := advanceTo_prot d s
  obtain ⟨hlow, -, hrun, -⟩ := raiseFault_shuts (c := k) 0x030F 0xFF 0xFFFF 0 (s := advanceTo d s)
    (by rw [State.ctx_of_prot hprot, hfree]) rfl
  exact ⟨_, hexec, hlow, hrun, raiseFault_recoversIn hprot hc hfree 0x030F 0xFF 0xFFFF 0 (by decide)⟩

/-- A rail whose under-voltage has been raised n times (R208). -/
def Rail.uvNoted (n : Nat) (r : Rail) : Rail := { r with uvRaised := n }

theorem exec_uv {k a : Nat} {s : State} (ha : (s.rail k).uvFrom = some a) (h0 : (s.rail k).uvRaised = 0) :
    ∃ d, exec (.uv k) s = .next (raiseFault k 0x0305 2 0xFF 0xFFFF 0 ((advanceTo d s).updRail k (Rail.uvNoted 1))) := by
  show ∃ d, execUv k s = _
  unfold execUv
  rw [ha]
  exact ⟨_, if_pos h0⟩

theorem uv_raises {k a : Nat} {s : State} (hk : k < s.rails.length) (hc : k < s.prot.ctxs.length)
    (ha : (s.rail k).uvFrom = some a) (h0 : (s.rail k).uvRaised = 0) (hfree : (s.ctx k).cur = none) :
    Answers (.uv k) s (fun t => (t.rail k).uvRaised = 1 ∧ (t.rail k).uvFrom = some a ∧ t.recovers k 0x0305 2 0xFF) := by
  obtain ⟨d, hexec⟩ := exec_uv ha h0
  generalize hu : (advanceTo d s).updRail k (Rail.uvNoted 1) = u at hexec
  have hprot : u.prot = s.prot := hu ▸ advanceTo_prot d s
  obtain ⟨hself, -⟩ := State.rail_of_updRail (congrArg State.rails hu.symm) (advanceTo_rails d s) hk
  have hguard := raiseFault_guardOf hprot hfree 0x0305 (sev := 2) 0xFF 0xFFFF 0 (by decide) (by decide)
  refine ⟨_, hexec, ?_, ?_, raiseFault_recoversIn hprot hc hfree 0x0305 0xFF 0xFFFF 0 (by decide)⟩
  · rw [State.rail_of_guard hguard (·.uvRaised) (fun _ _ => rfl), hself]
    rfl
  · rw [State.rail_of_guard hguard (·.uvFrom) (fun _ _ => rfl), hself]
    exact ha

theorem exec_uvS3Expiry {k a : Nat} {s : State} (ha : (s.rail k).uvFrom = some a) (h1 : (s.rail k).uvRaised = 1) :
    ∃ d, exec (.uvS3Expiry k) s = .next (raiseFault k 0x0305 3 0xFF 0xFFFF 0 ((advanceTo d s).updRail k (Rail.uvNoted 2))) := by
  show ∃ d, execUvS3Expiry k s = _
  unfold execUvS3Expiry
  rw [ha]
  exact ⟨_, if_pos h1⟩

theorem uvS3Expiry_raises {k a : Nat} {s : State} (hk : k < s.rails.length) (hc : k < s.prot.ctxs.length)
    (hused : s.railUsed k = true) (ha : (s.rail k).uvFrom = some a) (h1 : (s.rail k).uvRaised = 1) (hfree : (s.ctx k).cur = none) :
    Answers (.uvS3Expiry k) s (fun t => (t.rail k).state = 5 ∧ t.recovers k 0x0305 3 0xFF) := by
  obtain ⟨d, hexec⟩ := exec_uvS3Expiry ha h1
  generalize hu : (advanceTo d s).updRail k (Rail.uvNoted 2) = u at hexec
  have hprot : u.prot = s.prot := hu ▸ advanceTo_prot d s
  have hlen : u.rails.length = s.rails.length := by
    rw [← hu, view_rails_length (State.updRail_view (k := 0) (Nat.zero_and _) ..), advanceTo_rails]
  have hused' : u.railUsed k = true := (State.railUsed_of_phases (hu ▸ advanceTo_phases d s) k).trans hused
  exact ⟨_, hexec, raiseFault_safe 0x0305 0xFF 0xFFFF 0 (hlen ▸ hk) hused',
    raiseFault_recoversIn hprot hc hfree 0x0305 0xFF 0xFFFF 0 (by decide)⟩

/-! STG_FLT (R212). -/

/-- STG_FLT stands, and its fault has entered the context of every rail that runs. -/
def stgTripped (s : State) : State :=
  forEach ([0, 1, 2, 3, 4, 5].filter (fun k => s.railUsed k && (s.rail k).state != 0))
    (fun k s => raiseFault k 0x030C 3 0xFF 0xFFFF 0 s) { s with prot := { s.prot with stgFlt := true } }

theorem exec_stgFlt {s : State} (hp : s.aon.porN = true) (hf : s.prot.stgFlt = false) : exec .stgFlt s = .next (stgTripped s) :=
  if_pos (by rw [hp, hf]; rfl)

theorem stgTripped_flag (s : State) : (stgTripped s).prot.stgFlt = true := by
  unfold stgTripped
  exact forEach_keeps (P := fun t => t.guard.prot.stgFlt = true) _
    (fun k t => raiseFault_keeps (keptInSafe_prot (·.stgFlt) (fun _ _ => rfl) true) k 0x030C 3 0xFF 0xFFFF 0) rfl

theorem stgTripped_safe {k : Nat} {s : State} (hk : k < 6) (hlen : k < s.rails.length) (hu : s.railUsed k = true)
    (h0 : (s.rail k).state ≠ 0) : ((stgTripped s).rail k).state = 5 := by
  have hmem : k ∈ [0, 1, 2, 3, 4, 5].filter (fun k => s.railUsed k && (s.rail k).state != 0) :=
    List.mem_filter.mpr ⟨by simp only [List.mem_cons, List.not_mem_nil]; omega, by simp [hu, h0]⟩
  have hQ : ∀ (j : Nat) (t : State), k < t.rails.length ∧ t.railUsed k = true →
      k < (raiseFault j 0x030C 3 0xFF 0xFFFF 0 t).rails.length ∧ (raiseFault j 0x030C 3 0xFF 0xFFFF 0 t).railUsed k = true :=
    fun j t ⟨hlen, hused⟩ => ⟨by rwa [view_rails_length (raiseFault_view (k := 0) (Nat.zero_and _) ..)], by rwa [raiseFault_railUsed]⟩
  have hset : ∀ t : State, k < t.rails.length ∧ t.railUsed k = true → ((raiseFault k 0x030C 3 0xFF 0xFFFF 0 t).rail k).state = 5 :=
    fun t ⟨hlen, hused⟩ => raiseFault_safe 0x030C 0xFF 0xFFFF 0 hlen hused
  unfold stgTripped
  exact forEach_brings (P := fun t => (t.rail k).state = 5) hmem hQ hset
    (fun j t => raiseFault_staysSafe j 0x030C 3 0xFF 0xFFFF 0) ⟨hlen, hu⟩

/-! Failed phases (R213 to R216). -/

/-- A phase that has failed, open or of its sense. -/
def Phase.failed (st : Nat) (p : Phase) : Prop := p.state = st ∧ (p.wasFailed, p.suspect) = (true, false)

theorem failDuringShed_phases_length (k n : Nat) (s : State) : (failDuringShed k n s).phases.length = s.phases.length :=
  view_phases_length (failDuringShed_view (k := 0) (Nat.zero_and _) k n s)

/-- A fault leaves a failed phase failed. -/
theorem raiseFault_failed (c code sev phase item arg1 : Nat) {s : State} {n st : Nat} (h3 : st ≠ 3) (h4 : st ≠ 4)
    (h : (s.phase n).failed st) : ((raiseFault c code sev phase item arg1 s).phase n).failed st :=
  raiseFault_keeps (keptInSafe_phase (fun p => (p.wasFailed, p.suspect)) (fun _ _ _ => rfl) n (true, false) h3 h4) c code sev phase item
    arg1 h

theorem failPhase_failed {n st : Nat} {s : State} (hn : n < s.phases.length) (h3 : st ≠ 3) (h4 : st ≠ 4) :
    ((failPhase n st s).phase n).failed st := by
  unfold failPhase
  extract_lets k u again v w x
  have hv : (v.phase n).failed st := by
    rw [State.phase_updPhase_same u _ (by rw [failDuringShed_phases_length]; exact hn)]
    exact ⟨rfl, rfl⟩
  have hh : (if st = 5 then passHead k n v else v).phases = v.phases := by
    split
    · exact passHead_phases k n v
    · rfl
  have hkeeps : ∀ {α : Type} (g : Phase → α) (_ : ∀ p y, g { p with pos := y } = g p), g (w.phase n) = g (v.phase n) := fun g hg =>
    (respace_keeps g hg k _ n).trans (congrArg g (State.phase_of_phases hh n))
  obtain ⟨hst, hw⟩ := hv
  have hw' : (w.phase n).failed st :=
    ⟨(hkeeps (·.state) fun _ _ => rfl).trans hst, (hkeeps (fun p => (p.wasFailed, p.suspect)) fun _ _ => rfl).trans hw⟩
  have hx : (x.phase n).failed st := raiseFault_failed _ _ _ _ _ _ h3 h4 hw'
  split
  · exact raiseFault_failed _ _ _ _ _ _ h3 h4 hx
  · exact hx

theorem phaseSuspect_fails {n k : Nat} {s : State} (hn : n < s.phases.length) (hctrl : (s.phase n).ctrl = k) (hk : k < 6)
    (hs : (s.phase n).suspect = true) : Answers (.phaseSuspect n) s (fun t =>
      (t.phase n).state = (if s.sumCheckOpen k = true then 5 else 6) ∧ (t.phase n).wasFailed = true ∧ (t.phase n).suspect = false) := by
  subst hctrl
  obtain ⟨hst, hrest⟩ := failPhase_failed (st := if s.sumCheckOpen (s.phase n).ctrl then 5 else 6) hn (by split <;> decide)
    (by split <;> decide)
  obtain ⟨hwas, hsus⟩ := Prod.mk.inj hrest
  exact ⟨_, if_pos (by rw [hs, decide_eq_true hk]; rfl), hst, hwas, hsus⟩

/-! Following errors (R219, R220). -/

/-- The state in which the rail has left feed-forward for a following error. -/
def State.ffLeft (s : State) (k : Nat) : State :=
  ({ ffLeave k s with ff := { s.ff with withdrawnSfe := k :: s.ff.withdrawnSfe.filter (fun x => x != k) } } : State).updRail k
    (fun r => { r with feAt := some s.aon.clock })

theorem followingError_eq (k : Nat) (s : State) : followingError k s = raiseFault k 0x0309 1 0xFF 0xFFFF 0 (s.ffLeft k) := rfl

theorem State.ffLeft_rail {k : Nat} {s : State} (hk : k < s.rails.length) : ((s.ffLeft k).rail k).ffForce = false ∧
    ((s.ffLeft k).rail k).prepos = 0 ∧ ((s.ffLeft k).rail k).feAt = some s.aon.clock := by
  have hlen : k < (ffLeave k s).rails.length := by
    rw [view_rails_length (ffLeave_view (k := 0) (Nat.zero_and _) k s)]
    exact hk
  have hself : (s.ffLeft k).rail k = _ := State.rail_updRail_same
    { ffLeave k s with ff := { s.ff with withdrawnSfe := k :: s.ff.withdrawnSfe.filter (fun x => x != k) } } _ hlen
  have hleft : (ffLeave k s).rail k = _ := State.rail_updRail_same s _ hk
  rw [hself]
  exact ⟨congrArg Rail.ffForce hleft, congrArg Rail.prepos hleft, rfl⟩

theorem feTimerExpiry_withdraws {k : Nat} {s : State} (hk : k < s.rails.length) (hc : k < s.prot.ctxs.length)
    (hf : (s.rail k).ffForce = true) (ht : s.pn (0x3300 + k) 0x11 ≤ (s.rail k).feTimer) (hfree : (s.ctx k).cur = none) :
    Answers (.feTimerExpiry k) s (fun t =>
      (t.rail k).ffForce = false ∧ (t.rail k).prepos = 0 ∧ (t.rail k).feAt = some s.aon.clock ∧ k ∈ t.ff.withdrawnSfe ∧
      t.recovers k 0x0309 1 0xFF) := by
  obtain ⟨hforce, hpre, hat⟩ := State.ffLeft_rail hk
  have hguard := raiseFault_guardOf (u := s.ffLeft k) rfl hfree 0x0309 0xFF 0xFFFF 0 (sev := 1) (by decide) (by decide)
  refine ⟨followingError k s, if_pos (by rw [hf, decide_eq_true ht]; rfl), ?_⟩
  rw [followingError_eq]
  refine ⟨?_, ?_, ?_, ?_, raiseFault_recoversIn (u := s.ffLeft k) rfl hc hfree 0x0309 0xFF 0xFFFF 0 (by decide)⟩
  · rw [State.rail_of_guard hguard (·.ffForce) (fun _ _ => rfl), hforce]
  · rw [State.rail_of_guard hguard (·.prepos) (fun _ _ => rfl), hpre]
  · rw [State.rail_of_guard hguard (·.feAt) (fun _ _ => rfl), hat]
  · rw [raiseFault_ff]
    exact List.mem_cons_self

/-- Settles O27: each timer by the fault it raises, in a state whose rail it has marked; SAFE and the shutdown come with the fault's
severity. -/
theorem railFaultsRaised : Obligations.RailFaultsRaised := by
  unfold Obligations.RailFaultsRaised
  exact ⟨fun _ _ _ _ hn hctrl hk hc ha hl hfree => phOcPeakExpiry_raises hn hctrl hk hc ha hl hfree,
    fun _ _ hk _ hc hu hp hf hfree => peakTimerExpiry_folds hk hc hu hp hf hfree,
    fun _ _ hk _ hc hu hf hl hfree => foldbackLimitExpiry_raises hk hc hu hf hl hfree,
    fun _ _ _ _ hc hu h5 hov hfree => ovPersist_shuts hc hu h5 hov hfree,
    fun _ _ _ hk _ hc ha h0 hfree => uv_raises hk hc ha h0 hfree,
    fun _ _ _ hk _ hc hu ha h1 hfree => uvS3Expiry_raises hk hc hu ha h1 hfree, fun s hp hf hr =>
      ⟨_, exec_stgFlt hp hf, stgTripped_flag s, fun _ hk hu h0 => stgTripped_safe hk (hr.symm ▸ hk) hu h0⟩,
    fun _ _ _ hn hctrl hk hs => phaseSuspect_fails hn hctrl hk hs,
    fun _ _ hk _ hc hf ht hfree => feTimerExpiry_withdraws hk hc hf ht hfree⟩

end Sys2Proof.Machine

/-! Hard trips, the last-fault area and re-arming (O54). -/

namespace Sys2Proof.Machine

open Sys2Proof

/-! Comparators (R395, R399). -/

theorem State.sameBut_with_therm (s : State) (m : Therm) : s.sameBut { s with therm := m } [.therm] := by
  intro p hp
  cases p with
  | therm => exact absurd (List.mem_singleton_self _) hp
  | _ => rfl

theorem trip_updTrip_same (s : State) {c : Nat} (f : Trip → Trip) (h : c < s.therm.trips.length) :
    (updTrip c f s).trip c = f (s.trip c) := by
  simp [State.trip, updTrip, List.getElem?_modify_eq, List.getElem?_eq_getElem h]

theorem trip_updTrip_ne (s : State) {c d : Nat} (f : Trip → Trip) (h : d ≠ c) : (updTrip c f s).trip d = s.trip d := by
  simp [State.trip, updTrip, h.symm]

theorem State.trip_of_therm {s t : State} (h : t.therm = s.therm) (c : Nat) : t.trip c = s.trip c := by
  rw [State.trip, State.trip, h]

theorem hardTripComparatorRise_rises {c : Nat} {s : State} (hc : c < s.therm.trips.length) (hv : s.aon.vddAon = true)
    (ho : (s.trip c).out = false) : Answers (.hardTripComparatorRise c) s (fun t =>
      t.trip c = { s.trip c with out := true, riseAt := s.aon.clock } ∧ s.sameBut t [.therm] ∧ ∀ d, d ≠ c → t.trip d = s.trip d) :=
  ⟨_, if_pos (by rw [hv, ho]; rfl), trip_updTrip_same s _ hc, s.sameBut_with_therm _, fun _ hd => trip_updTrip_ne s _ hd⟩

theorem hardTripComparatorFall_falls (c : Nat) (s : State) : Answers (.hardTripComparatorFall c) s (fun t =>
    (t.trip c).out = false ∧ (t.trip c).tripped = (s.trip c).tripped ∧ s.sameBut t [.therm]) := by
  refine ⟨_, rfl, ?_, ?_, s.sameBut_with_therm _⟩ <;>
    simp only [State.trip, updTrip, List.getD_eq_getElem?_getD, List.getElem?_modify_eq] <;> cases s.therm.trips[c]? <;> rfl

theorem rearmLevelCrossing_notes {c : Nat} (above : Bool) {s : State} (hc : c < s.therm.trips.length) (hv : s.aon.vddAon = true) :
    Answers (.rearmLevelCrossing c above) s (fun t =>
      (t.trip c).above = above ∧ s.sameBut t [.therm] ∧ (∀ d, d ≠ c → t.trip d = s.trip d) ∧
      t.therm.belowFrom = (if t.therm.trips.any (·.above) then none else some (s.therm.belowFrom.getD s.aon.clock))) :=
  ⟨_, if_pos hv, congrArg Trip.above (trip_updTrip_same s (fun t => { t with above := above }) hc), s.sameBut_with_therm _,
    fun _ hd => trip_updTrip_ne s (fun t => { t with above := above }) hd, rfl⟩

/-! A trip's qualification (R395, R398). -/

/-- Comparator c has qualified at the present moment. -/
def Trip.qualified (now : Nat) (t : Trip) : Trip := { t with tripped := true, qualAt := some now }

/-- The state with comparator c's trip latched and counted. -/
def tripLatched (c : Nat) (s : State) : State := (updTrip c (Trip.qualified s.aon.clock) s).bump32 0x5300 6

/-- The state with THERMTRIP_N low, every PH_EN low and TCLK_OUT held low. -/
def State.tripDriven (s : State) : State :=
  { s with aon := { s.aon with thermtripN := false }, prot := { s.prot with tripHold := true }, clk := { s.clk with tripHeld := true } }

theorem hardTrip_eq {c : Nat} {s u : State} (hu : tripLatched c (advanceTo ((s.trip c).riseAt + 400) s) = u) : hardTrip c s =
    if !u.aon.thermtripN && !u.meetsCrit then u
    else enterAll 0x0505 (raiseFault 6 0x0505 4 0xFF (c + 1) (u.tripDriven.pn 0x5300 1) u.tripDriven) := by
  rw [← hu]
  rfl

theorem State.meetsCrit_free {s : State} (h : (s.ctx 6).cur = none) : s.meetsCrit = false := by
  unfold State.meetsCrit
  rw [h]

/-- The latched trip changes nothing beside the comparators and a count; the clock is that of the qualification. -/
theorem tripLatched_advanced {c d : Nat} {s u : State} (hp : s.aon.porN = true) (hu : tripLatched c (advanceTo d s) = u) :
    u.aon = { s.aon with clock := max s.aon.clock d } ∧ u.prot = s.prot ∧ u.rails = s.rails := by
  have hview : u.view 81 = (advanceTo d s).view 81 := hu ▸ (State.bump32_view (k := 81) (by decide) ..).trans
    (updTrip_view (k := 81) (by decide) ..)
  exact ⟨(view_aon hview (by decide)).trans (advanceTo_aon d s hp), (view_prot hview (by decide)).trans (advanceTo_prot d s),
    (view_rails hview (by decide)).trans (advanceTo_rails d s)⟩

theorem hardTrip_held {c : Nat} {s : State} (hc : c < s.therm.trips.length) (hv : s.aon.vddAon = true) (hp : s.aon.porN = true)
    (hq : (s.trip c).qualifying = true) (ht : s.aon.thermtripN = false) (hfree : (s.ctx 6).cur = none) :
    Answers (.hardTrip c) s (fun t => t.trip c = { s.trip c with tripped := true, qualAt := some t.aon.clock } ∧ t.prot = s.prot ∧
      t.rails = s.rails ∧ t.aon.thermtripN = false) := by
  generalize hu : tripLatched c (advanceTo ((s.trip c).riseAt + 400) s) = u
  obtain ⟨haon, hprot, hrails⟩ := tripLatched_advanced hp hu
  have hlow : u.aon.thermtripN = false := (congrArg Aon.thermtripN haon).trans ht
  have hmeets : u.meetsCrit = false := State.meetsCrit_free (by rw [State.ctx_of_prot hprot, hfree])
  have hlatch : hardTrip c s = u := (hardTrip_eq hu).trans (if_pos (by rw [hlow, hmeets]; rfl))
  have htherm := advanceTo_therm ((s.trip c).riseAt + 400) s
  have htrip : u.trip c = (s.trip c).qualified (advanceTo ((s.trip c).riseAt + 400) s).aon.clock := by
    rw [← hu, tripLatched, State.trip_of_therm (State.bump32_therm ..), trip_updTrip_same _ _ (by rw [htherm]; exact hc),
      State.trip_of_therm htherm]
  have hclock : u.aon.clock = (advanceTo ((s.trip c).riseAt + 400) s).aon.clock := by rw [haon, advanceTo_clock _ hp]
  refine ⟨u, (if_pos (by rw [hv, hq]; rfl)).trans (congrArg Host.Outcome.next hlatch), ?_, hprot, hrails, hlow⟩
  rw [htrip, hclock]
  rfl

/-- A fault that enters every context leaves context 6, where it stands already (R222). -/
theorem enterAll_ctx (code : Nat) (s : State) : (enterAll code s).ctx 6 = s.ctx 6 := by
  unfold enterAll
  refine forEach_others (x := fun t => t.ctx 6) (k := 6) (fun j t hj => ?_) (by simp) s
  dsimp only
  split <;> exact State.ctx_updCtx_ne _ _ hj.symm

theorem enterAll_bare (code : Nat) (s : State) : (enterAll code s).prot.bare = s.prot.bare := by
  unfold enterAll
  refine forEach_keeps (P := fun t => t.prot.bare = s.prot.bare) _ (fun j t ht => ?_) rfl
  dsimp only
  split <;> exact ht

theorem hardTrip_drives {c : Nat} {s : State} (hv : s.aon.vddAon = true) (hp : s.aon.porN = true)
    (hq : (s.trip c).qualifying = true) (ht : s.aon.thermtripN = true) (hc : 6 < s.prot.ctxs.length) (hfree : (s.ctx 6).cur = none) :
    Answers (.hardTrip c) s (fun t => t.aon.thermtripN = false ∧ t.prot.tripHold = true ∧ t.clk.tripHeld = true ∧
      t.clk.running = false ∧ t.recoversOf 6 0x0505 4 0xFF (c + 1) ∧ t.aon.clock = max s.aon.clock ((s.trip c).riseAt + 400)) := by
  generalize hu : tripLatched c (advanceTo ((s.trip c).riseAt + 400) s) = u
  obtain ⟨haon, hprot, -⟩ := tripLatched_advanced hp hu
  have hhigh : u.aon.thermtripN = true := (congrArg Aon.thermtripN haon).trans ht
  have htrips := (hardTrip_eq hu).trans (if_neg (by rw [hhigh]; exact Bool.false_ne_true))
  generalize u.tripDriven.pn 0x5300 1 = x at htrips
  have hfree' : (u.tripDriven.ctx 6).cur = none := (congrArg Ctx.cur (State.ctx_of_prot hprot 6)).trans hfree
  have hlen : 6 < u.tripDriven.prot.ctxs.length := (congrArg (fun p => p.ctxs.length) hprot).symm ▸ hc
  generalize hw : raiseFault 6 0x0505 4 0xFF (c + 1) x u.tripDriven = w at htrips
  obtain ⟨hlow, hclock, hrun, hheld⟩ := raiseFault_shuts 0x0505 0xFF (c + 1) x hfree' hw
  have hrec : w.recoversOf 6 0x0505 4 0xFF (c + 1) := hw ▸ raiseFault_inRecovery 0x0505 0xFF (c + 1) x (by decide) hlen hfree'
  have hhold : w.guard.prot.tripHold = true := hw ▸ raiseFault_keeps (keptInSafe_prot (·.tripHold) (fun _ _ => rfl) true) 6 0x0505 4
    0xFF (c + 1) x rfl
  have hview := enterAll_view (k := 1025) (by decide) 0x0505 w
  have hwaon : (enterAll 0x0505 w).aon = w.aon := view_aon hview (by decide)
  have hwclk : (enterAll 0x0505 w).clk = w.clk := view_clk hview (by decide)
  refine ⟨_, (if_pos (by rw [hv, hq]; rfl)).trans (congrArg Host.Outcome.next htrips), ?_⟩
  dsimp only
  rw [hwaon, hwclk]
  exact ⟨hlow, (congrArg Prot.tripHold (enterAll_bare 0x0505 w) :).trans hhold, hheld, hrun,
    hrec.of_eq (enterAll_ctx ..) (congrArg Aon.clock hwaon), hclock.trans (congrArg Aon.clock haon)⟩

/-! The last-fault area (R229). -/

/-- The conditions under which a retained record goes to the area. -/
abbrev State.lfWritable (s : State) : Prop :=
  s.isReady 3 = true ∧ s.isReady 11 = true ∧ s.aon.strapBoot ≠ 2 ∧ s.flash.present = true ∧ s.obs.standing = false

theorem State.lfWritable.holds {s : State} (h : s.lfWritable) :
    (s.isReady 3 && s.isReady 11 && s.aon.strapBoot != 2 && s.flash.present && !s.obs.standing) = true := by
  obtain ⟨h3, h11, hb, hp, hs⟩ := h
  rw [h3, h11, bne_iff_ne.mpr hb, hp, hs]
  rfl

/-- The record stands in slot p, the newest of the area. -/
def State.lfWritten (s : State) (r : LastFault) (p : Nat) : State :=
  ({ s with flash := { s.flash with lastFault := s.flash.lastFault.set p (some r), lfOrder := p :: s.flash.lfOrder.erase p } } : State).put
    0x3330 1 ((s.num 0x3330 1 + 1) % 2 ^ 32)

theorem lfWrite_writes (r : LastFault) {p : Nat} {s : State} (h : s.flash.lfNext = some p) : lfWrite r s = some (s.lfWritten r p) := by
  unfold lfWrite
  rw [h]
  rfl

theorem lastFaultWrite_writes {r : LastFault} {l : List LastFault} {p : Nat} {s : State} (hr : s.prot.retention = r :: l)
    (hw : s.lfWritable) (hp : s.flash.lfNext = some p) : Answers (.lastFaultWrite true) s (fun t =>
      t.prot.retention = l ∧ t.flash.lastFault = s.flash.lastFault.set p (some r) ∧ t.flash.lfOrder = p :: s.flash.lfOrder.erase p) := by
  generalize hu : flashOk { s.lfWritten r p with prot := { s.prot with retention := l } } = u
  have hexec : exec (.lastFaultWrite true) s = .next (flashNext u) := by
    show execLastFaultWrite true s = _
    unfold execLastFaultWrite
    rw [hr]
    dsimp only
    rw [if_pos hw.holds, if_pos rfl, lfWrite_writes r hp]
    dsimp only
    rw [← hu]
    rfl
  obtain ⟨h, x, o, w, c, b, hflash⟩ := flashNext_flash u
  refine ⟨_, hexec, ?_⟩
  dsimp only
  rw [view_prot (flashNext_view (k := 64) (by decide) u) (by decide), hflash, ← hu]
  exact ⟨rfl, rfl, rfl⟩

theorem clearReady_num (f : Nat) (s : State) {i sub : Nat} (h3 : okey 0x9000 3 ≠ okey i sub) (h1 : okey 0x9003 1 ≠ okey i sub) :
    (clearReady f s).num i sub = s.num i sub := by
  unfold clearReady
  split
  · exact captureEvent_num _ _ h3 h1
  · rfl

theorem flashRun_num (s : State) {i sub : Nat} (h3 : okey 0x9000 3 ≠ okey i sub) (h1 : okey 0x9003 1 ≠ okey i sub) :
    (flashRun s).num i sub = s.num i sub := by
  unfold flashRun
  dsimp only
  split
  · exact clearReady_num 3 _ h3 h1
  · rfl

theorem lastFaultWrite_fails {r : LastFault} {l : List LastFault} {s : State} (hr : s.prot.retention = r :: l) (hw : s.lfWritable) :
    Answers (.lastFaultWrite false) s (fun t => t.prot.retention = r :: l ∧ t.flash.lastFault = s.flash.lastFault ∧
      t.num 0x3330 4 = min 0xFFFFFFFF (s.num 0x3330 4 + 1)) := by
  have hexec : exec (.lastFaultWrite false) s = .next (flashRun (s.bump32 0x3330 4)) := by
    show execLastFaultWrite false s = _
    unfold execLastFaultWrite
    rw [hr]
    dsimp only
    rw [if_pos hw.holds, if_neg Bool.false_ne_true]
  refine ⟨_, hexec, ?_, ?_, ?_⟩
  · rw [view_prot (flashRun_view (k := 64) (by decide) _) (by decide), State.bump32_prot, hr]
  · rw [flashRun_flash, State.bump32_flash]
  · rw [flashRun_num _ (by decide) (by decide), State.num_bump32_same]

end Sys2Proof.Machine

/-! Re-arming after a shutdown (O54, R399, R400). -/

namespace Sys2Proof.Machine

open Sys2Proof

/-! The re-arm key (R399). -/

/-- The row of 0x5300.05 (R404). -/
def rearmRow : Row := ⟨0x5300, 1, 0x05, 1, .u 4, 0x0300, 0, .ivs [(1836212594, 1836212594)] 1, .absent, 1, false⟩

theorem dictRow_rearm : dictRow 0x5300 5 = some rearmRow := by decide

theorem State.servesOn.therm {u s : State} {ch : ChanId} (h : u.servesOn s ch) : u.therm = s.therm := view_therm h.view (by decide)

theorem State.servesOn.heldRecs {u s : State} {ch : ChanId} (h : u.servesOn s ch) : u.heldRecs = s.heldRecs := by
  unfold State.heldRecs State.heldRet State.flashRead
  rw [h.aon, h.flash, h.prot]

theorem State.servesOn.s4Stands {u s : State} {ch : ChanId} (h : u.servesOn s ch) : u.s4Stands = s.s4Stands := by
  unfold State.s4Stands
  rw [h.prot]

theorem State.servesOn.thermalHeld {u s : State} {ch : ChanId} (h : u.servesOn s ch) : u.thermalHeld = s.thermalHeld := by
  unfold State.thermalHeld
  rw [h.heldRecs, h.therm, State.ctx_of_prot h.prot]

theorem State.servesOn.cooled {u s : State} {ch : ChanId} (h : u.servesOn s ch) : u.cooled = s.cooled := by
  unfold State.cooled State.isReady
  rw [h.therm, h.aon, h.pn (by decide), h.num (by decide)]

/-- The request a for the re-arm, served in state v, as its checks find it: it waits for the marks or aborts. -/
def rearmServed (a : ClPend) (val : List Byte) (v : State) : Except Nat State → State
  | .ok t => clWait .mgt a 4 t
  | .error e => clAbort .mgt a e (objRefused 0x5300 5 val v)

/-- The write of the re-arm key comes to the checks of the re-arm (R399). -/
theorem clWhole_rearm {s : State} {val : List Byte} (h : s.takes .mgt 0x5300 5 val) : ∃ v, v.servesOn s .mgt ∧
    clWhole .mgt 0x5300 5 val s = clTurn (rearmServed (s.wholePend .mgt 0x5300 5 val) val v (rearmWrite v)) := by
  obtain ⟨v, hv, hw⟩ := clWhole_local h dictRow_rearm
  rw [fwOwned_of_own dictRow_rearm (by decide) (by decide), if_neg Bool.false_ne_true] at hw
  refine ⟨v, hv, hw.trans (congrArg clTurn ?_)⟩
  have hfield : (s.wholePend .mgt 0x5300 5 val).idx = 0x5300 ∧ (s.wholePend .mgt 0x5300 5 val).sub = 5 ∧
      (s.wholePend .mgt 0x5300 5 val).val = val := ⟨rfl, rfl, rfl⟩
  generalize s.wholePend .mgt 0x5300 5 val = a at hfield
  obtain ⟨hi, hsub, hval⟩ := hfield
  unfold clEffect
  dsimp only
  rw [if_pos (by rw [hi, hsub]; rfl), hi, hsub, hval]
  cases rearmWrite v <;> rfl

/-- An abort other than a denial leaves the state but for the channel, the port and the counts. -/
theorem clAbort_plain {ch : ChanId} {s : State} (a : ClPend) {abort : Nat} (hc : s.hasChan ch) (h1 : abort ≠ 0x0601)
    (h4 : abort ≠ 0x0604) : (clAbort ch a abort s).view 14680057 = s.view 14680057 := by
  have hdeny : clDeny a abort s = s := if_neg (by simp [h1, h4])
  rw [clAbort_outer a abort hc, hdeny]
  exact clEnd_view (by decide) ..

theorem thermalRearm_refused {s : State} {val : List Byte} (h : s.takes .mgt 0x5300 5 val) (hr : s.heldRecs = [])
    (h4 : s.s4Stands = false) : Answers (.thermalRearm val) s (fun t =>
      t.abortedOn .mgt abState ∧ t.therm = s.therm ∧ t.aon.thermtripN = s.aon.thermtripN) := by
  obtain ⟨v, hv, hwhole⟩ := clWhole_rearm h
  have hwrite : rearmWrite v = .error abState := if_pos (by rw [hv.heldRecs, hr, hv.s4Stands, h4]; rfl)
  rw [hwrite, rearmServed] at hwhole
  have hrefused := objRefused_view (k := 16389) (by decide) 0x5300 5 val v
  have hcl : (objRefused 0x5300 5 val v).cl = v.cl := view_cl hrefused (by decide)
  have hchan := State.hasChan_of_cl hcl hv.hasChan
  obtain ⟨hends, hf, hq⟩ := clAbort_ends (s.wholePend .mgt 0x5300 5 val) abState hchan
  obtain ⟨⟨-, hfq, hcq, -, -⟩, -⟩ := id hv
  rw [clTurn_quiet (by rw [hf, hcl, hfq]) (by rw [hq, hcl, hcq])] at hwhole
  have hview := clAbort_plain (s.wholePend .mgt 0x5300 5 val) hchan (abort := abState) (by decide) (by decide)
  refine ⟨_, congrArg Host.Outcome.next hwhole, hends, ?_, ?_⟩
  · rw [view_therm hview (by decide), view_therm hrefused (by decide), hv.therm]
  · rw [view_aon hview (by decide), view_aon hrefused (by decide), hv.aon]

theorem thermalRearm_waits {s : State} {val : List Byte} (h : s.takes .mgt 0x5300 5 val) (hr : s.heldRecs ≠ [] ∨ s.s4Stands = true)
    (hcool : s.thermalHeld = false ∨ s.cooled = true) (hflash : s.aon.strapBoot = 2 ∨ s.noFlash = false) :
    Answers (.thermalRearm val) s (fun t =>
      t.therm = { s.therm with rearming := true } ∧ ∃ a, t.waits .mgt 4 = some a ∧ a.idx = 0x5300 ∧ a.sub = 5) := by
  obtain ⟨v, hv, hwhole⟩ := clWhole_rearm h
  have hheld : ¬(v.heldRecs.isEmpty && !v.s4Stands) = true := by
    rw [hv.heldRecs, hv.s4Stands]
    simpa [or_iff_not_imp_left] using hr
  have hcooled : ¬(v.thermalHeld && !v.cooled) = true := by
    rw [hv.thermalHeld, hv.cooled]
    rcases hcool with h | h <;> simp [h]
  have hport : ¬(v.aon.strapBoot != 2 && v.noFlash) = true := by
    rw [hv.aon, hv.noFlash]
    rcases hflash with h | h <;> simp [h]
  have hwrite : rearmWrite v = .ok { v with therm := { v.therm with rearming := true } } :=
    (if_neg hheld).trans ((if_neg hcooled).trans (if_neg hport))
  rw [hwrite, rearmServed] at hwhole
  obtain ⟨⟨-, hfq, hcq, -, -⟩, -⟩ := id hv
  rw [clTurn_quiet (s := clWait .mgt (s.wholePend .mgt 0x5300 5 val) 4 { v with therm := { v.therm with rearming := true } }) hfq hcq]
    at hwhole
  refine ⟨_, congrArg Host.Outcome.next hwhole, ?_, _, rfl, rfl, rfl⟩
  rw [view_therm (clWait_view (k := 16384) (by decide) ..) (by decide), ← hv.therm]

/-! What follows the confirmation of the marks (R400). -/

/-- THERMTRIP_N, the forced PH_EN and TCLK_OUT are released and no comparator holds a trip. -/
def State.unlatched (s : State) : State :=
  { s with aon := { s.aon with thermtripN := true }, prot := { s.prot with tripHold := false }, clk := { s.clk with tripHeld := false },
           therm := { s.therm with rearming := false, trips := s.therm.trips.map (fun t => { t with tripped := false }) } }

/-- The same with every rail released from SAFE. -/
def State.railsFreed (s : State) : State :=
  forEach ((List.range 6).filter (fun k => (s.rail k).state = 5)) releaseSafe s.unlatched

theorem rearmed_eq (s : State) : rearmed s = restartStep2 (State.bump32
    { s.railsFreed with prot := { s.railsFreed.prot with ctxs := s.railsFreed.prot.ctxs.map (Ctx.dropS4 s.railsFreed.aon.clock) } }
    0x5300 9) := rfl

theorem State.railsFreed_view (s : State) : s.railsFreed.view 17409 = s.unlatched.view 17409 :=
  forEach_view fun k t => releaseSafe_view (k := 17409) (by decide) k t

theorem releaseSafe_bare (k : Nat) (s : State) : (releaseSafe k s).prot.bare = s.prot.bare := by
  unfold releaseSafe
  extract_lets fs u w
  have hu : u.prot = s.prot := view_prot (k := 64) (foldl_view (fun t f => by
    split
    · rfl
    · exact withdrawFor_view (k := 64) (by decide) _ _ _ t) fs s) (by decide)
  rw [view_prot (updAccr_view (k := 64) (by decide) _) (by decide)]
  exact (show w.prot.bare = u.prot.bare from rfl).trans (congrArg Prot.bare hu)

theorem releaseSafe_state (k j : Nat) (s : State) :
    ((releaseSafe k s).rail j).state = if j = k then 0 else (s.rail j).state := by
  rw [State.rail_of_rails (releaseSafe_rails k s)]
  split
  · rename_i hj
    subst hj
    simp only [State.rail, State.updRail, List.getD_eq_getElem?_getD, List.getElem?_modify_eq]
    cases s.rails[j]? <;> rfl
  · rename_i hj
    rw [State.rail_updRail_ne _ _ hj]

/-- No rail stays in SAFE. -/
theorem State.railsFreed_state (s : State) {k : Nat} (hk : k < 6) : (s.railsFreed.rail k).state ≠ 5 := by
  have hkeep : ∀ (j : Nat) (t : State), (t.rail k).state ≠ 5 → ((releaseSafe j t).rail k).state ≠ 5 := fun j t ht => by
    rw [releaseSafe_state]
    split
    · decide
    · exact ht
  unfold State.railsFreed
  by_cases h5 : (s.rail k).state = 5
  · have hm : k ∈ (List.range 6).filter (fun k => (s.rail k).state = 5) := List.mem_filter.mpr ⟨List.mem_range.mpr hk, by simpa using h5⟩
    exact forEach_brings (P := fun t => (t.rail k).state ≠ 5) (Q := fun _ => True) hm (fun _ _ _ => trivial)
      (fun t _ => by rw [releaseSafe_state, if_pos rfl]; decide) hkeep trivial
  · exact forEach_keeps (P := fun t => (t.rail k).state ≠ 5) _ hkeep h5

/-- What the confirmation of the marks brings about. -/
def State.rearmedState (t : State) : Prop :=
  t.aon.thermtripN = true ∧ t.prot.tripHold = false ∧ t.clk.tripHeld = false ∧ t.aon.step2At = none ∧
    (∀ k, k < 6 → (t.rail k).state ≠ 5) ∧ t.therm.trips.all (fun x => !x.tripped) = true ∧ t.therm.rearming = false

theorem rearmed_rearms (s : State) : (rearmed s).rearmedState := by
  have hfreed := s.railsFreed_view
  have haon : s.railsFreed.aon = s.unlatched.aon := view_aon hfreed (by decide)
  have hclk : s.railsFreed.clk = s.unlatched.clk := view_clk hfreed (by decide)
  have htherm : s.railsFreed.therm = s.unlatched.therm := view_therm hfreed (by decide)
  have hbare : s.railsFreed.prot.bare = s.unlatched.prot.bare :=
    forEach_keeps (P := fun t => t.prot.bare = s.unlatched.prot.bare) _ (fun k t ht => (releaseSafe_bare k t).trans ht) rfl
  have hrails := fun k => s.railsFreed_state (k := k)
  rw [rearmed_eq]
  generalize s.railsFreed = u at *
  refine ⟨congrArg Aon.thermtripN haon, (congrArg Prot.tripHold hbare :), congrArg Clk.tripHeld hclk, rfl, hrails, ?_,
    congrArg Therm.rearming htherm⟩
  have hall : s.unlatched.therm.trips.all (fun x => !x.tripped) = true := by simp [State.unlatched]
  exact (congrArg (fun m : Therm => m.trips.all (fun x => !x.tripped)) htherm).trans hall

/-! The end of a re-arm (R400). -/

/-- The only channel whose request waits for the marks is the one that ends. -/
theorem find_waiting {s : State} {a : ClPend} (ha : s.waits .mgt 4 = some a) (hne : ∀ c, c ≠ .mgt → s.waits c 4 = none) :
    allChans.find? (fun ch => (s.waits ch 4).isSome) = some .mgt := by
  cases hf : allChans.find? (fun ch => (s.waits ch 4).isSome) with
  | none => exact absurd (List.find?_eq_none.mp hf .mgt (by simp [allChans])) (by rw [ha]; simp)
  | some ch =>
    by_cases hch : ch = .mgt
    · rw [hch]
    · have hw := List.find?_some hf
      rw [hne ch hch] at hw
      exact absurd hw Bool.false_ne_true

/-- The request for the re-arm ends in the state that the marks have left, as their outcome says. -/
theorem clRearmed_ends {ok : Bool} {s : State} {a : ClPend} (hm : s.therm.rearming = true) (hcl : (rearmEnd ok s).2.cl = s.cl)
    (ha : s.waits .mgt 4 = some a) (hne : ∀ c, c ≠ .mgt → s.waits c 4 = none) : clRearmed ok s =
      clTurn (if (rearmEnd ok s).1 = 0 then clOk .mgt a [] (rearmEnd ok s).2 else clAbort .mgt a (rearmEnd ok s).1 (rearmEnd ok s).2) := by
  have hwaits : ∀ ch, (rearmEnd ok s).2.waits ch 4 = s.waits ch 4 := fun ch => State.waits_of_cl hcl ch 4
  unfold clRearmed
  rw [if_neg (by rw [hm]; decide)]
  dsimp only
  rw [find_waiting ((hwaits _).trans ha) fun c hc => (hwaits c).trans (hne c hc)]
  dsimp only
  rw [hwaits, ha]

theorem rearmComplete_rearms {a : ClPend} {u s : State} (hq : s.clQuiet) (hm : s.therm.rearming = true)
    (hu : rearmRecords s = some u) (ha : s.waits .mgt 4 = some a) (hne : ∀ c, c ≠ .mgt → s.waits c 4 = none) :
    Answers (.rearmComplete true) s (fun t => t.doneOn .mgt ∧ t.rearmedState) := by
  obtain ⟨hfq, hcq, -⟩ := hq
  have hend : rearmEnd true s = (0, rearmed u) := by
    unfold rearmEnd
    rw [if_pos rfl, hu]
  have hcl : (rearmed u).cl = s.cl := (view_cl (rearmed_view (k := 4) (by decide) u) (by decide)).trans
    (view_cl (rearmRecords_view (k := 4) (by decide) hu) (by decide))
  have hexec := clRearmed_ends (ok := true) hm (by rw [hend]; exact hcl) ha hne
  rw [hend, if_pos rfl] at hexec
  obtain ⟨hdone, hview⟩ := clTurn_clOk a hcl hfq hcq (ch := .mgt) trivial
  refine ⟨_, congrArg Host.Outcome.next hexec, hdone, ?_⟩
  have hrearmed := rearmed_rearms u
  unfold State.rearmedState at *
  rw [view_aon hview (by decide), view_prot hview (by decide), view_clk hview (by decide), view_therm hview (by decide)]
  simp only [State.rail_of_rails (view_rails hview (by decide))]
  exact hrearmed

theorem rearmComplete_fails {a : ClPend} {s : State} (hq : s.clQuiet) (hm : s.therm.rearming = true)
    (ha : s.waits .mgt 4 = some a) (hne : ∀ c, c ≠ .mgt → s.waits c 4 = none) : Answers (.rearmComplete false) s (fun t =>
      t.abortedOn .mgt 0x060E ∧ t.aon.thermtripN = s.aon.thermtripN ∧ t.therm = { s.therm with rearming := false }) := by
  have hexec := clRearmed_ends (ok := false) hm rfl ha hne
  obtain ⟨hends, hqueues⟩ := clAbort_ends (ch := .mgt) (s := (rearmEnd false s).2) a 0x060E trivial
  have hview := clAbort_plain (ch := .mgt) (s := (rearmEnd false s).2) a (abort := 0x060E) trivial (by decide) (by decide)
  rw [show (rearmEnd false s).1 = 0x060E from rfl, if_neg (by decide), clTurn_queuesOf (s := s) hqueues hq] at hexec
  refine ⟨_, congrArg Host.Outcome.next hexec, hends, ?_, ?_⟩
  · rw [view_aon hview (by decide)]
    rfl
  · rw [view_therm hview (by decide)]
    rfl

/-- Settles O54: the comparators by what they note, the trip by the fault of S4 that it raises, the area by the slot written, and the
re-arm by its checks, its wait and the release that follows its marks. -/
theorem hardTripsAndRearm : Obligations.HardTripsAndRearm := by
  unfold Obligations.HardTripsAndRearm
  exact ⟨fun _ _ hc hv ho => hardTripComparatorRise_rises hc hv ho, hardTripComparatorFall_falls,
    fun _ _ hv hp hq ht hc hfree _ => hardTrip_drives hv hp hq ht hc hfree,
    fun _ _ hc hv hp hq ht hfree => hardTrip_held hc hv hp hq ht hfree,
    fun _ _ _ _ hr h3 h11 hb hp hs hn => lastFaultWrite_writes hr ⟨h3, h11, hb, hp, hs⟩ hn,
    fun _ _ _ hr h3 h11 hb hp hs => lastFaultWrite_fails hr ⟨h3, h11, hb, hp, hs⟩,
    fun _ above _ hc hv => rearmLevelCrossing_notes above hc hv, fun _ _ h hr h4 => thermalRearm_refused h hr h4,
    fun _ _ h hr hcool hflash => thermalRearm_waits h hr hcool hflash,
    fun _ _ _ hq hm hu ha hne => rearmComplete_rearms hq hm hu ha hne, fun _ _ hq hm ha hne => rearmComplete_fails hq hm ha hne⟩

end Sys2Proof.Machine

/-! States that meet the premises of the clauses of O27, O28 and O54. -/

namespace Sys2Proof.Machine

open Sys2Proof

/-- A device in service with its rails in trouble. Rail 0 is under voltage and over its peak current, and feed-forward holds it; phase
0 is over its peak and suspect. Rail 1 folds back with its current low again; rail 2 is SAFE above its OV level; rail 3 stays under
voltage; rail 4 is SAFE and may start again. Rail 4 recovers from a fault of S1, with another latched, and rail 5 from one of S2. The
output of comparator 0 is high. -/
def State.railsFaulty : State :=
  { State.inService with
    aon := { State.inService.aon with porN := true, ctlReleased := true, thermtripN := true }
    rails := [{ state := 2, uvFrom := some 0, peakTimer := 2 ^ 40, ffForce := true, feTimer := 2 ^ 40 },
      { state := 2, fold := true, foldTimer := 2 ^ 40, foldLowFrom := some 0 }, { state := 5, vout := 900 },
      { state := 2, uvFrom := some 0, uvRaised := 1 },
      { state := 5, enable := true, retries := 1, restartAt := some 0, s3At := some 0 }, {}]
    phases := [{ ctrl := 0, state := 3, ocAt := some 0, suspect := true }, { ctrl := 1, state := 3 }, { ctrl := 2, state := 2 },
      { ctrl := 3, state := 3 }, { ctrl := 4, state := 2 }] ++ List.replicate 11 {}
    prot := { State.inService.prot with
      ctxs := [{}, {}, {}, {}, { cur := some { code := 0x0301, sev := 1 }, latched := [{ code := 0x0309, sev := 1 }] },
        { cur := some { code := 0x0307, sev := 2 } }, {}]
      retention := [{ code := 0x0303, sev := 3 }] }
    cl := { State.inService.cl with mgt := { level := 0x0300 } }
    therm := { State.inService.therm with trips := [{ out := true }, {}, {}] } }

/-- The same after the shutdown that the over-voltage of rail 2 brought: THERMTRIP_N is low and the rail recovers from the fault of
S4. -/
def State.railsTripped : State :=
  { State.railsFaulty with
    aon := { State.railsFaulty.aon with thermtripN := false }
    prot := { State.railsFaulty.prot with ctxs := [{}, {}, { cur := some { code := 0x030F, sev := 4 } }, {}, {}, {}, {}] } }

/-- The same with a re-arm that waits for its marks on the management port. -/
def State.railsRearming : State :=
  { State.railsTripped with
    therm := { State.railsTripped.therm with rearming := true }
    cl := { State.railsTripped.cl with mgt := { State.railsTripped.cl.mgt with state := 1, pend := some { why := 4 } } } }

/-- O27 at the over-current hold of phase 0. -/
theorem railsFaulty_holdsPeak : Answers (.phOcPeakExpiry 0) State.railsFaulty (fun t => t.recovers 0 0x0301 1 0) :=
  answers_mono (phOcPeakExpiry_raises (a := 0) (by decide) rfl (by decide) (by decide) rfl rfl rfl) fun _ ⟨_, _, h⟩ => h

/-- O27 at the peak timer of rail 0. -/
theorem railsFaulty_folds : Answers (.peakTimerExpiry 0) State.railsFaulty (fun t => (t.rail 0).fold = true) :=
  answers_mono (peakTimerExpiry_folds (by decide) (by decide) (by decide) (by decide) rfl rfl) fun _ ⟨h, _⟩ => h

/-- O27 at the fold-back limit of rail 1. -/
theorem railsFaulty_limitsFold : Answers (.foldbackLimitExpiry 1) State.railsFaulty (fun t => (t.rail 1).state = 5) :=
  answers_mono (foldbackLimitExpiry_raises (by decide) (by decide) (by decide) rfl (by decide) rfl) fun _ ⟨h, _⟩ => h

/-- O27 at the over-voltage that outlasts SAFE on rail 2. -/
theorem railsFaulty_shuts : Answers (.ovPersist 2) State.railsFaulty (fun t => t.aon.thermtripN = false) :=
  answers_mono (ovPersist_shuts (by decide) (by decide) rfl (by decide) rfl) fun _ ⟨h, _⟩ => h

/-- O27 at the under-voltage of rail 0. -/
theorem railsFaulty_sags : Answers (.uv 0) State.railsFaulty (fun t => t.recovers 0 0x0305 2 0xFF) :=
  answers_mono (uv_raises (a := 0) (by decide) (by decide) rfl rfl rfl) fun _ ⟨_, _, h⟩ => h

/-- O27 at the under-voltage that stays on rail 3. -/
theorem railsFaulty_staysUnder : Answers (.uvS3Expiry 3) State.railsFaulty (fun t => (t.rail 3).state = 5) :=
  answers_mono (uvS3Expiry_raises (a := 0) (by decide) (by decide) (by decide) rfl rfl rfl) fun _ ⟨h, _⟩ => h

/-- O27 at STG_FLT, which takes rail 1 as every running rail. -/
theorem railsFaulty_stageFails : Answers .stgFlt State.railsFaulty (fun t => (t.rail 1).state = 5) :=
  ⟨_, exec_stgFlt rfl rfl, stgTripped_safe (by decide) (by decide) (by decide) (by decide)⟩

/-- O27 at the suspect phase. -/
theorem railsFaulty_losesPhase : Answers (.phaseSuspect 0) State.railsFaulty (fun t => (t.phase 0).wasFailed = true) :=
  answers_mono (phaseSuspect_fails (by decide) rfl (by decide) rfl) fun _ ⟨_, h, _⟩ => h

/-- O27 at the following error of rail 0. -/
theorem railsFaulty_withdraws : Answers (.feTimerExpiry 0) State.railsFaulty (fun t => 0 ∈ t.ff.withdrawnSfe) :=
  answers_mono (feTimerExpiry_withdraws (by decide) (by decide) rfl (by decide) rfl) fun _ ⟨_, _, _, h, _⟩ => h

/-- O28 at the end of the fold-back of rail 1. -/
theorem railsFaulty_unfolds : Answers (.foldbackHoldExpiry 1) State.railsFaulty (fun t => (t.rail 1).fold = false) :=
  answers_mono (foldbackHoldExpiry_ends (a := 0) (by decide) rfl rfl) fun _ ⟨h, _⟩ => by rw [h]

/-- O28 at the S1 fault with another latched. -/
theorem railsFaulty_servesLatched : Answers (.s1HoldExpiry 4) State.railsFaulty (fun t =>
    ∃ n, t.ctx 4 = { cur := some { code := 0x0309, sev := 1, since := n } }) :=
  answers_mono (s1HoldExpiry_serves (by decide) rfl rfl) fun _ ⟨n, h, _⟩ => ⟨n, h⟩

/-- O28 at the S2 fault of rail 5. -/
theorem railsFaulty_endsHold : Answers (.s2HoldExpiry 5) State.railsFaulty (fun t => t.ctx 5 = {}) :=
  s2HoldExpiry_frees (by decide) rfl rfl rfl

/-- O28 at the restart of rail 4 from SAFE. -/
theorem railsFaulty_restarts : Answers (.restartDelayExpiry 4) State.railsFaulty (fun t => (t.rail 4).retries = 0) :=
  answers_mono (restartDelayExpiry_starts (a := 0) (by decide) rfl rfl (by decide) rfl (by decide)) fun _ ⟨_, h, _⟩ => h

/-- O28 at the retries of rail 4. -/
theorem railsFaulty_refills : Answers (.retryRefill 4) State.railsFaulty (fun t => (t.rail 4).s3At = none) :=
  answers_mono (retryRefill_refills (a := 0) (by decide) rfl) fun _ ⟨_, h, _⟩ => h

/-- O54 at the rise of comparator 1. -/
theorem railsFaulty_rises : Answers (.hardTripComparatorRise 1) State.railsFaulty (fun t => (t.trip 1).out = true) :=
  answers_mono (hardTripComparatorRise_rises (by decide) rfl rfl) fun _ ⟨h, _⟩ => by rw [h]

/-- O54 at the qualification of comparator 0. -/
theorem railsFaulty_trips : Answers (.hardTrip 0) State.railsFaulty (fun t => t.recoversOf 6 0x0505 4 0xFF 1) :=
  answers_mono (hardTrip_drives rfl rfl (by decide) rfl (by decide) rfl) fun _ ⟨_, _, _, _, h, _⟩ => h

/-- O54 at the same while THERMTRIP_N is low. -/
theorem railsTripped_latches : Answers (.hardTrip 0) State.railsTripped (fun t => t.rails = State.railsTripped.rails) :=
  answers_mono (hardTrip_held (by decide) rfl rfl (by decide) rfl rfl) fun _ ⟨_, _, h, _⟩ => h

/-- O54 at a record that goes to the first slot. -/
theorem railsFaulty_records : Answers (.lastFaultWrite true) State.railsFaulty (fun t => t.prot.retention = []) :=
  answers_mono (lastFaultWrite_writes (p := 0) rfl ⟨by decide, by decide, by decide, rfl, rfl⟩ (by decide)) fun _ ⟨h, _⟩ => h

/-- O54 at a key with nothing to re-arm. -/
theorem railsFaulty_refusesRearm : Answers (.thermalRearm [0x72, 0x61, 0x72, 0x6D]) State.railsFaulty (fun t =>
    t.abortedOn .mgt abState) :=
  answers_mono (thermalRearm_refused (val := [0x72, 0x61, 0x72, 0x6D]) ⟨⟨rfl, rfl, rfl⟩, by decide, by decide⟩ (by decide) (by decide))
    fun _ ⟨h, _⟩ => h

/-- O54 at a key after the shutdown. -/
theorem railsTripped_waits : Answers (.thermalRearm [0x72, 0x61, 0x72, 0x6D]) State.railsTripped (fun t => t.therm.rearming = true) :=
  answers_mono (thermalRearm_waits (val := [0x72, 0x61, 0x72, 0x6D]) ⟨⟨rfl, rfl, rfl⟩, by decide, by decide⟩ (.inr (by decide))
    (.inl (by decide)) (.inr (by decide))) fun _ ⟨h, _⟩ => by rw [h]

/-- The mark of a re-arm waits on no other channel. -/
theorem railsRearming_waits_none {c : ChanId} (h : c ≠ .mgt) : State.railsRearming.waits c 4 = none := by
  have hidle : ∀ (n p : Nat) (x : ClChan), x.pend = none → ((List.replicate n x).getD p {}).pend = none := fun n p x hx => by
    simp only [List.getD_eq_getElem?_getD, List.getElem?_replicate]
    split
    · exact hx
    · rfl
  have hpend : (State.railsRearming.chan c).pend = none := by
    cases c with
    | slot p => exact hidle 64 p _ rfl
    | jig j => exact hidle 16 j _ rfl
    | mgt => exact absurd rfl h
    | chain => rfl
    | fw => rfl
  unfold State.waits
  rw [hpend]

/-- O54 at the confirmation of the marks. -/
theorem railsRearming_rearms : Answers (.rearmComplete true) State.railsRearming (fun t => t.aon.thermtripN = true) :=
  answers_mono (rearmComplete_rearms ⟨rfl, rfl, rfl⟩ rfl rfl rfl fun _ => railsRearming_waits_none) fun _ ⟨_, h, _⟩ => h

/-- O54 at marks that were not confirmed. -/
theorem railsRearming_fails : Answers (.rearmComplete false) State.railsRearming (fun t => t.abortedOn .mgt 0x060E) :=
  answers_mono (rearmComplete_fails ⟨rfl, rfl, rfl⟩ rfl rfl fun _ => railsRearming_waits_none) fun _ ⟨h, _⟩ => h

end Sys2Proof.Machine

/-! Writes of feed-forward's objects, and the program slots (R242, R243). -/

namespace Sys2Proof.Machine

open Sys2Proof

/-! The effect of a write. -/

theorem State.servesOn.ff {u s : State} {ch : ChanId} (h : u.servesOn s ch) : u.ff = s.ff := view_ff h.view (by decide)

theorem budgetRec_above_caps (s : State) {i : Nat} (sub v : Nat) (hi : 0x8000 ≤ i) : s.budgetRec i sub v = none := by
  unfold State.budgetRec
  repeat rw [if_neg (by simp; omega)]

/-- A write above the cap's objects that the engine serves itself: where the object's write succeeds with a property, the channel is
done, and beside the channels, the port and the store the state is one with the property; the store has one request more (R117). -/
theorem clWhole_above_caps {s : State} {ch : ChanId} {i sub : Nat} {val : List Byte} {P : State → Prop} (h : s.takes ch i sub val)
    (hp : (dictRow i sub).all Row.plain = true) (hi : 0x8000 ≤ i) (hw : ∀ v : State, v.servesOn s ch →
      ∃ u, (∀ w, objWrite w i sub (leVal val) val v = .ok u) ∧ u.cl = v.cl ∧ P u) :
    ∃ u, P u ∧ (clWhole ch i sub val s).doneOn ch ∧ (clWhole ch i sub val s).view 14680057 = u.view 14680057 ∧
      (clWhole ch i sub val s).obj = (u.add64 0x1020 1 1).obj := by
  obtain ⟨-, -, hpass⟩ := id h
  obtain ⟨r, hr, -⟩ := State.writePasses_row hpass
  rw [hr] at hp
  have hplain : r.plain = true := hp
  simp only [Option.all_some, Row.plain, Bool.and_eq_true, bne_iff_ne, ne_eq] at hp
  obtain ⟨⟨-, h13⟩, h14⟩ := hp
  obtain ⟨v, hv, hwhole⟩ := clWhole_local h hr
  obtain ⟨u, hu, hcl, hP⟩ := hw v hv
  rw [fwOwned_of_own hr h13 h14, if_neg Bool.false_ne_true, clEffect_objWrite (a := s.wholePend ch i sub val) (t := u)
    (show i ≠ _ by omega) (show ¬(_ ≤ i ∧ i < _) by omega) (budgetRec_above_caps v _ _ hi)
    (by rw [Row.plain_value hplain]; exact hu _)] at hwhole
  obtain ⟨⟨-, hfq, hcq, hchan, -⟩, -⟩ := id hv
  obtain ⟨hdone, hview, hobj, hq, hq'⟩ := clOk_write (s.wholePend ch i sub val) (State.hasChan_of_cl hcl hchan)
  rw [clTurn_quiet (by rw [hq, hcl, hfq]) (by rw [hq', hcl, hcq])] at hwhole
  rw [hwhole]
  exact ⟨u, hP, hdone, hview, hobj⟩

theorem objWrite_ff (w : Who) {i : Nat} (sub : Nat) (v : Int) (b : List Byte) (s : State) (hi : 0x8010 < i) (hi' : i < 0x9000) :
    objWrite w i sub v b s = ffWrite i sub v b s := by
  unfold objWrite
  rw [if_neg (by omega), if_neg (by omega), if_neg (by omega), if_neg (by simp; omega), if_neg (by simp; omega),
    if_neg (by omega), if_neg (by omega), if_neg (by omega), if_neg (by omega), if_neg (by omega), if_neg (by omega),
    if_neg (by omega), if_neg (by omega), if_neg (by omega), if_neg (by omega), if_neg (by omega), if_neg (by simp; omega),
    if_pos hi']

/-! The slots. -/

theorem State.fslot_of_slots {s t : State} (h : t.ff.slots = s.ff.slots) (n : Nat) : t.fslot n = s.fslot n := by
  rw [State.fslot, State.fslot, h]

theorem State.fslot_updSlot_same (s : State) {n : Nat} (f : Slot → Slot) (h : n < s.ff.slots.length) :
    (s.updSlot n f).fslot n = f (s.fslot n) := by
  simp [State.fslot, State.updSlot, List.getElem?_modify_eq, List.getElem?_eq_getElem h]

theorem State.fslot_updSlot_ne (s : State) {n m : Nat} (f : Slot → Slot) (h : m ≠ n) : (s.updSlot n f).fslot m = s.fslot m := by
  simp [State.fslot, State.updSlot, h.symm]

/-- In t slot n of s has become x, and every other is as it was. -/
def State.slotBecomes (s t : State) (n : Nat) (x : Slot) : Prop := t.fslot n = x ∧ ∀ m, m ≠ n → t.fslot m = s.fslot m

theorem State.slotBecomes_of_updSlot {s t : State} {n : Nat} {f : Slot → Slot} (h : t.ff = (s.updSlot n f).ff)
    (hlen : n < s.ff.slots.length) : s.slotBecomes t n (f (s.fslot n)) := by
  have ht : ∀ m, t.fslot m = (s.updSlot n f).fslot m := State.fslot_of_slots (congrArg Ff.slots h)
  exact ⟨(ht n).trans (s.fslot_updSlot_same f hlen), fun m hm => (ht m).trans (s.fslot_updSlot_ne f hm)⟩

/-- The row of a slot's enable object (R257). -/
def slotEnableRow : Row := ⟨0x8020, 16, 0x02, 1, .u 1, 0x1202, 0, .ivs [(0, 1)] 1, .num, 16, false⟩

theorem dictRow_slotEnable : ∀ {n}, n < 16 → dictRow (0x8020 + n) 2 = some slotEnableRow := by decide

theorem slotEnableRow_value {b : List Byte} (h : slotEnableRow.inRange b = true) : leVal b ≤ 1 := by
  have hv : (Rg.ivs [(0, 1)] 1).holds (leVal b) = true := h
  simp only [Rg.holds, List.any_cons, List.any_nil, Bool.or_false, Bool.and_eq_true, decide_eq_true_eq] at hv
  omega

theorem dictRow_slot_plain : ∀ n, n < 16 → ∀ sub ∈ [1, 2, 7, 8], (dictRow (0x8020 + n) sub).all Row.plain = true := by decide

section
variable {n : Nat} (v : Int) (b : List Byte) (s : State) (hn : n < 16)
include hn

theorem ffWrite_slotProgram : ffWrite (0x8020 + n) 1 v b s =
    needState (!(s.fslot n).enabled) (.ok (s.updSlot n (fun x => { x with program := v.toNat }))) := by
  unfold ffWrite
  rw [if_neg (by simp), if_neg (by simp; omega), if_pos (by simp; omega), Nat.add_sub_cancel_left]
  rfl

theorem ffWrite_slotEnable : ffWrite (0x8020 + n) 2 v b s = slotEnable n v s := by
  unfold ffWrite
  rw [if_neg (by simp), if_neg (by simp), if_pos (by simp; omega), Nat.add_sub_cancel_left]
  rfl

theorem ffWrite_slotSwap : ffWrite (0x8020 + n) 7 v b s = slotSwap n s := by
  unfold ffWrite
  rw [if_neg (by simp), if_neg (by simp), if_pos (by simp; omega), Nat.add_sub_cancel_left]
  rfl

theorem ffWrite_slotRelease : ffWrite (0x8020 + n) 8 v b s = slotRelease n s := by
  unfold ffWrite
  rw [if_neg (by simp), if_neg (by simp), if_pos (by simp; omega), Nat.add_sub_cancel_left]
  rfl

end

/-- A slot after its swap: the shadow list is the active one, and `old` waits to be freed (R242). -/
def Slot.swapped (old : List Nat) (x : Slot) : Slot :=
  { x with active := x.shadow, actHdr := x.shHdr, shadow := [], shHdr := none, dying := x.dying ++ old }

/-- A slot without tables (R243). -/
def Slot.released (x : Slot) : Slot := { x with active := [], shadow := [], actHdr := none, shHdr := none }

/-- The pages of slot n's active list that its shadow list does not share (R242). -/
def State.oldPages (s : State) (n : Nat) : List Nat := (s.fslot n).active.filter (fun p => !(s.fslot n).shadow.contains p)

theorem slotSwap_swaps {n : Nat} {s : State} (h : (s.fslot n).shHdr.isSome = true) :
    ∃ u, slotSwap n s = .ok u ∧ u.ff = (s.updSlot n (Slot.swapped (s.oldPages n))).ff := by
  unfold slotSwap
  dsimp only
  rw [h]
  exact ⟨_, rfl, by rw [raise_ff]; rfl⟩

/-- No other enabled slot carries slot n's program (R243). -/
def State.programFree (s : State) (n : Nat) : Prop :=
  ∀ m, m < 16 → m ≠ n → (s.fslot m).enabled = true → (s.fslot m).program ≠ (s.fslot n).program

theorem slotEnable_sets {n : Nat} {v : Int} {s : State} (h : v = 0 ∨ (s.fslot n).actHdr.isSome = true ∧ s.programFree n) :
    slotEnable n v s = .ok (s.updSlot n (fun x => { x with enabled := decide (v = 1) })) := by
  unfold slotEnable
  dsimp only
  refine if_pos ?_
  rcases h with rfl | ⟨ha, hfree⟩
  · rfl
  · have hdup : (List.range 16).any (fun m =>
        m != n && (s.fslot m).enabled && decide ((s.fslot m).program = (s.fslot n).program)) = false := by
      simpa [State.programFree] using hfree
    rw [ha, hdup]
    exact Bool.or_true _

section
variable {s : State} {ch : ChanId} {n sub : Nat} {val : List Byte}

/-- A write of a slot's object that changes the slot by f. -/
theorem answers_of_slotWrite {c : Instr} {f : Slot → Slot} (hexec : exec c s = .next (clWhole ch (0x8020 + n) sub val s))
    (hn : n < 16) (hlen : n < s.ff.slots.length) (h : s.takes ch (0x8020 + n) sub val) (hsub : sub ∈ [1, 2, 7, 8])
    (hw : ∀ v : State, v.ff = s.ff → ∃ u, ffWrite (0x8020 + n) sub (leVal val) val v = .ok u ∧ u.ff = (v.updSlot n f).ff) :
    Answers c s (fun t => t.doneOn ch ∧ s.slotBecomes t n (f (s.fslot n))) := by
  obtain ⟨u, hu, hdone, hview, -⟩ := clWhole_above_caps (P := fun u => u.ff = (s.updSlot n f).ff) h
    (dictRow_slot_plain n hn sub hsub) (by omega) fun v hv => by
      obtain ⟨u, hok, hff⟩ := hw v hv.ff
      exact ⟨u, fun w => by rw [objWrite_ff w sub _ val v (by omega) (by omega), hok],
        view_cl (ffWrite_view (k := 4) (by decide) hok) (by decide), by rw [hff, State.updSlot, hv.ff]; rfl⟩
  exact ⟨_, hexec, hdone, State.slotBecomes_of_updSlot ((view_ff hview (by decide)).trans hu) hlen⟩

theorem slotSwap_activates (hn : n < 16) (hlen : n < s.ff.slots.length) (h : s.takes ch (0x8020 + n) 7 val)
    (hsh : (s.fslot n).shHdr.isSome = true) : Answers (.slotSwap ch n val) s (fun t =>
      t.doneOn ch ∧ s.slotBecomes t n ((s.fslot n).swapped (s.oldPages n))) :=
  answers_of_slotWrite rfl hn hlen h (by decide) fun v hv => by
    have hx : v.fslot n = s.fslot n := State.fslot_of_slots (congrArg Ff.slots hv) n
    obtain ⟨u, hu, hff⟩ := slotSwap_swaps (n := n) (s := v) (by rwa [hx])
    exact ⟨u, (ffWrite_slotSwap _ _ _ hn).trans hu, by rw [hff, State.oldPages, State.oldPages, hx]⟩

theorem slotEnable_enables (hn : n < 16) (hlen : n < s.ff.slots.length) (h : s.takes ch (0x8020 + n) 2 val)
    (hfree : leVal val = 1 → (s.fslot n).actHdr.isSome = true ∧ s.programFree n) : Answers (.slotEnable ch n val) s (fun t =>
      t.doneOn ch ∧ s.slotBecomes t n { s.fslot n with enabled := decide (leVal val = 1) }) := by
  have hle : leVal val ≤ 1 := slotEnableRow_value (h.inRange (dictRow_slotEnable hn))
  refine answers_of_slotWrite (f := fun x => { x with enabled := decide (leVal val = 1) }) rfl hn hlen h (by decide)
    fun v hv => ?_
  have hx : ∀ m, v.fslot m = s.fslot m := State.fslot_of_slots (congrArg Ff.slots hv)
  have hset : (leVal val : Int) = 0 ∨ (v.fslot n).actHdr.isSome = true ∧ v.programFree n := by
    simp only [State.programFree, hx]
    rcases Nat.eq_zero_or_pos (leVal val) with h0 | hpos
    · exact .inl (by omega)
    · exact .inr (hfree (by omega))
  refine ⟨_, (ffWrite_slotEnable _ _ _ hn).trans (slotEnable_sets hset), ?_⟩
  simp only [Nat.cast_eq_one]

theorem slotProgramWrite_names (hn : n < 16) (hlen : n < s.ff.slots.length) (h : s.takes ch (0x8020 + n) 1 val)
    (hoff : (s.fslot n).enabled = false) : Answers (.slotProgramWrite ch n val) s (fun t =>
      t.doneOn ch ∧ s.slotBecomes t n { s.fslot n with program := leVal val }) :=
  answers_of_slotWrite (f := fun x => { x with program := leVal val }) rfl hn hlen h (by decide) fun v hv =>
    ⟨_, by rw [ffWrite_slotProgram _ _ _ hn, State.fslot_of_slots (congrArg Ff.slots hv), hoff]; rfl, rfl⟩

theorem slotRelease_releases (hn : n < 16) (hlen : n < s.ff.slots.length) (h : s.takes ch (0x8020 + n) 8 val)
    (hoff : (s.fslot n).enabled = false) : Answers (.slotRelease ch n val) s (fun t =>
      t.doneOn ch ∧ s.slotBecomes t n (s.fslot n).released) :=
  answers_of_slotWrite (f := Slot.released) rfl hn hlen h (by decide) fun v hv =>
    ⟨_, by rw [ffWrite_slotRelease _ _ _ hn, slotRelease, State.fslot_of_slots (congrArg Ff.slots hv), hoff]; rfl, rfl⟩

end

theorem pageFree_frees {s : State} {n : Nat} (hlen : n < s.ff.slots.length) : Answers (.pageFree n) s (fun t =>
    s.slotBecomes t n { s.fslot n with dying := [] }) :=
  ⟨_, rfl, State.slotBecomes_of_updSlot (f := fun x => { x with dying := [] }) rfl hlen⟩

end Sys2Proof.Machine

/-! The loader of tables (R240, R241), and what settles O37. -/

namespace Sys2Proof.Machine

open Sys2Proof

/-! The start of a load. -/

/-- The load that the objects of 0x8010 ask for (R240). -/
def State.newLoad (s : State) : Load := { slot := s.pn 0x8010 2, mask := s.pn 0x8010 3 % 2 ^ 33, addr := s.pn 0x8010 1 }

/-- The state with a load begun, its header still to read. -/
def State.loadBegun (s : State) : State :=
  let t := ((s.put 0x8010 5 1).put 0x8010 6 0).put 0x8010 8 0
  { t with ff := { t.ff with load := some s.newLoad } }

theorem startLoad_begins {s : State} (h : s.ff.load = none) : startLoad s = .ok s.loadBegun := by
  unfold startLoad
  rw [h]
  rfl

theorem State.loadBegun_num (s : State) : s.loadBegun.num 0x8010 5 = 1 := by
  show (((s.put 0x8010 5 1).put 0x8010 6 0).put 0x8010 8 0).num 0x8010 5 = 1
  rw [State.num_put_ne _ _ (by decide), State.num_put_ne _ _ (by decide), State.num_put_same]

theorem State.newLoad_congr {u s : State} {ch : ChanId} (h : u.servesOn s ch) : u.newLoad = s.newLoad := by
  rw [State.newLoad, State.newLoad, h.pn (by decide), h.pn (by decide), h.pn (by decide)]

theorem dictRow_loadStart_plain : (dictRow 0x8010 4).all Row.plain = true := by decide

/-- In u a load of s has begun. -/
structure State.loadStarted (s u : State) : Prop where
  load : u.ff.load = some s.newLoad
  slots : u.ff.slots = s.ff.slots
  state : u.num 0x8010 5 = 1

/-- The write of 0x8010.04 takes the DMA channel that 0x8010.07 names, and begins the load (R240, R460). -/
theorem clWhole_loadStart {s : State} {ch : ChanId} {val : List Byte} (h : s.takes ch 0x8010 4 val) (hl : s.ff.load = none)
    (hfree : s.dmaFree (s.pn 0x8010 7) = true) :
    (clWhole ch 0x8010 4 val s).doneOn ch ∧ s.loadStarted (clWhole ch 0x8010 4 val s) := by
  obtain ⟨u, hu, hdone, hview, hobj⟩ := clWhole_above_caps (P := s.loadStarted) h dictRow_loadStart_plain (by decide)
      fun v hv => by
    refine ⟨dmaTake (s.pn 0x8010 7) 3 v.loadBegun, fun w => ?_, rfl, ?_, (congrArg Ff.slots hv.ff :), v.loadBegun_num⟩
    · show takeChannel (v.pn 0x8010 7) 3 (startLoad v) v = _
      rw [startLoad_begins (by rw [hv.ff, hl]), hv.pn (by decide),
        takeChannel_takes ((State.dmaFree_congr hv.dma hv.stored _).trans hfree)]
    · exact congrArg some (State.newLoad_congr hv)
  have hff := view_ff hview (by decide)
  exact ⟨hdone, by rw [hff, hu.load], by rw [hff, hu.slots], (num_of_served hobj (by decide)).trans hu.state⟩

/-! The header (R237, R240). -/

theorem pagesFor_pos (n : Nat) : 0 < pagesFor n := by
  unfold pagesFor
  split <;> omega

theorem hdrOk_pages {b : List Byte} (h : hdrOk b = true) : (parseHdr b).pages = pagesFor (parseHdr b).steps := by
  simp only [hdrOk, Bool.and_eq_true, decide_eq_true_eq] at h
  obtain ⟨⟨⟨⟨⟨⟨-, hp⟩, -⟩, -⟩, -⟩, -⟩, -⟩ := h
  exact hp

theorem State.freePages_congr {s t : State} {l : Load} (hs : t.ff.slots = s.ff.slots) (ht : t.ff.load = some l) (hg : l.got = [])
    (hn : s.ff.load = none) : t.freePages = s.freePages := by
  unfold State.freePages
  rw [hs, ht, hn]
  dsimp only
  rw [hg]
  rfl

/-- The load with its header read and every page of the image to copy (R240). -/
def Load.headed (l : Load) (h : TabHdr) : Load := { l with hdr := some h, left := List.range h.pages, got := [] }

theorem loadHeader_heads {s : State} {l : Load} {b : List Byte} (hl : s.ff.load = some l) (hm : l.mask = 0) (hok : hdrOk b = true)
    (hc : colsOk (parseHdr b).colCtrl = true) (hroom : (parseHdr b).pages ≤ s.freePages.length) :
    loadHeader b true s = { s with ff := { s.ff with load := some (l.headed (parseHdr b)) } } := by
  have hpos : 0 < (parseHdr b).pages := hdrOk_pages hok ▸ pagesFor_pos _
  have hnamed : (List.range (parseHdr b).pages).filter (fun k => l.mask = 0 || bit l.mask k) = List.range (parseHdr b).pages := by
    simp [hm]
  have hshared : (List.range (parseHdr b).pages).filter (fun k => !(l.mask = 0 || bit l.mask k)) = [] := by
    simp [hm]
  have hne : (List.range (parseHdr b).pages).isEmpty = false := by
    simp; omega
  unfold loadHeader
  rw [hl]
  dsimp only
  rw [hnamed, hshared, hok, hc, hne, List.length_range, if_neg (by decide), if_neg (by decide), if_neg (by decide),
    if_neg (by rw [hm]; exact Nat.not_le_of_lt (Nat.two_pow_pos _)), if_neg (by simp [hm]), if_neg (by omega), if_neg (by decide)]
  rfl

theorem tableLoadStart_starts {s : State} {ch : ChanId} {val hdr : List Byte} (h : s.takes ch 0x8010 4 val)
    (hl : s.ff.load = none) (hfree : s.dmaFree (s.pn 0x8010 7) = true) (hmask : s.pn 0x8010 3 % 2 ^ 33 = 0)
    (hok : hdrOk hdr = true) (hc : colsOk (parseHdr hdr).colCtrl = true) (hroom : (parseHdr hdr).pages ≤ s.freePages.length) :
    Answers (.tableLoadStart ch val hdr true) s (fun t =>
      t.doneOn ch ∧ t.num 0x8010 5 = 1 ∧ t.ff.load = some (s.newLoad.headed (parseHdr hdr))) := by
  obtain ⟨hdone, hstart⟩ := clWhole_loadStart h hl hfree
  have hhead := loadHeader_heads hstart.load hmask hok hc
    (by rwa [State.freePages_congr hstart.slots hstart.load rfl hl])
  refine ⟨loadHeader hdr true (clWhole ch 0x8010 4 val s), ?_, ?_⟩
  · show execTableLoadStart ch val hdr true s = _
    unfold execTableLoadStart
    dsimp only
    rw [if_pos (by rw [hl, hstart.load]; rfl), hhead]
    rfl
  · rw [hhead]
    exact ⟨by rw [State.doneOn, State.chan_of_cl rfl]; exact hdone, hstart.state, rfl⟩

/-! The pages (R240, R241). -/

/-- A copied page as the table memory and the load keep it (R240). -/
def Ff.withPage (f : Ff) (p k : Nat) (data : List Byte) (l : Load) (rest : List Nat) : Ff :=
  { f with pageMem := kvPut f.pageMem p data, pageCrc := kvPut f.pageCrc p (crc32 (if k = 0 then data.drop 0x200 else data)),
           load := some { l with left := rest, got := kvPut l.got k p } }

section
variable {s : State} {data : List Byte} {l : Load} {h : TabHdr} {k p : Nat} {rest q : List Nat}

theorem loadData_page (hl : s.ff.load = some l) (hh : l.hdr = some h) (busOk : Bool) :
    loadData data busOk s = loadPage data busOk s := by
  unfold loadData
  rw [hl]
  dsimp only
  rw [hh]
  rfl

/-- A page that is not the image's last goes into the lowest free page (R240). -/
theorem loadPage_copies {x : Nat} (hl : s.ff.load = some l) (hh : l.hdr = some h) (hleft : l.left = k :: x :: rest)
    (hp : s.freePages = p :: q) (hcrc : crc32 (if k = 0 then data.drop 0x200 else data) = h.pageCrc.getD k 0) :
    (loadPage data true s).ff = s.ff.withPage p k data l (x :: rest) := by
  obtain ⟨slot, mask, addr, hdr, left, got⟩ := l
  obtain rfl : hdr = some h := hh
  obtain rfl : left = k :: x :: rest := hleft
  unfold loadPage
  rw [hl]
  dsimp only
  rw [hp]
  dsimp only
  rw [if_neg (by decide), if_pos hcrc]
  rfl

theorem loadPage_busError (hl : s.ff.load = some l) (hh : l.hdr = some h) (hleft : l.left = k :: rest) (hp : s.freePages = p :: q) :
    loadPage data false s = loadFail 5 s := by
  unfold loadPage
  rw [hl]
  dsimp only
  rw [hh, hleft]
  dsimp only
  rw [hp]
  rfl

theorem tablePageCopied_copies {x : Nat} (hl : s.ff.load = some l) (hh : l.hdr = some h) (hleft : l.left = k :: x :: rest)
    (hp : s.freePages = p :: q) (hcrc : crc32 (if k = 0 then data.drop 0x200 else data) = h.pageCrc.getD k 0) :
    Answers (.tablePageCopied data true) s (fun t => t.ff = s.ff.withPage p k data l (x :: rest)) := by
  have hff := loadPage_copies hl hh hleft hp hcrc
  refine ⟨loadPage data true s, ?_, hff⟩
  show execTablePageCopied data true s = _
  unfold execTablePageCopied
  rw [hl, if_neg (by simp), loadData_page hl hh]
  dsimp only
  rw [hff]
  rfl

/-- What the end of a load with an error leaves (R241). -/
theorem loadFail_fails (e : Nat) (s : State) : (loadFail e s).ff = { s.ff with load := none, flags := putBit s.ff.flags 5 true } ∧
    (loadFail e s).num 0x8010 5 = 3 ∧ (loadFail e s).num 0x8010 6 = e := by
  refine ⟨rfl, ?_, ?_⟩
  · show (State.bump32 _ 0x8040 0x13).num 0x8010 5 = 3
    rw [State.num_bump32_sub _ (by decide) (by decide) (by decide)]
    exact (State.num_put_ne _ _ (by decide)).trans (State.num_put_same ..)
  · show (State.bump32 _ 0x8040 0x13).num 0x8010 6 = e
    rw [State.num_bump32_sub _ (by decide) (by decide) (by decide)]
    exact State.num_put_same ..

theorem tablePageCopied_fails (hl : s.ff.load = some l) (hh : l.hdr = some h) (hleft : l.left = k :: rest)
    (hp : s.freePages = p :: q) : Answers (.tablePageCopied data false) s (fun t =>
      t.ff = { s.ff with load := none, flags := putBit s.ff.flags 5 true } ∧ t.num 0x8010 5 = 3 ∧ t.num 0x8010 6 = 5) := by
  have hgive := dmaGiveUse_view (k := 130) (by decide) 3 (loadFail 5 s)
  obtain ⟨hff, h5, h6⟩ := loadFail_fails 5 s
  refine ⟨dmaGiveUse 3 (loadFail 5 s), ?_, ?_⟩
  · show execTablePageCopied data false s = _
    unfold execTablePageCopied
    rw [hl, if_neg (by simp), loadData_page hl hh, loadPage_busError hl hh hleft hp]
    rfl
  · have hobj := view_obj hgive (by decide)
    exact ⟨(view_ff hgive (by decide)).trans hff, (State.num_of_obj hobj ..).trans h5, (State.num_of_obj hobj ..).trans h6⟩

end

/-- Settles O37: what each command makes of the loader or of its slot, then the fields that the statement names. -/
theorem feedForwardTables : Obligations.FeedForwardTables := by
  unfold Obligations.FeedForwardTables
  refine ⟨fun ch val hdr s h hl hfree hmask hok hc hroom =>
      answers_mono (tableLoadStart_starts h hl hfree hmask hok hc hroom) ?start,
    fun data l h k p x rest q s hl hh hleft hp hcrc => answers_mono (tablePageCopied_copies hl hh hleft hp hcrc) ?copied,
    fun data l h k p rest q s hl hh hleft hp => answers_mono (tablePageCopied_fails hl hh hleft hp) ?failed,
    fun ch n val h s hn hlen ht hsh => answers_mono (slotSwap_activates hn hlen ht (by rw [hsh]; rfl)) ?swapped,
    fun ch n val s hn hlen ht hfree => answers_mono (slotEnable_enables hn hlen ht hfree) ?enabled,
    fun ch n val s hn hlen ht hoff => answers_mono (slotProgramWrite_names hn hlen ht hoff) ?named,
    fun ch n val s hn hlen ht hoff => answers_mono (slotRelease_releases hn hlen ht hoff) ?released,
    fun n s hlen => pageFree_frees hlen⟩
  case start => exact fun t ⟨hdone, hnum, hload⟩ => ⟨hdone, hnum, _, hload, rfl, rfl, rfl, rfl⟩
  case copied =>
    intro t ht
    rw [ht]
    exact ⟨kvGet_kvPut_same .., rfl, rfl⟩
  case failed =>
    rintro t ⟨ht, h5, h6⟩
    rw [ht]
    exact ⟨rfl, h5, h6, rfl, putBit_bit ..⟩
  case swapped =>
    rintro t ⟨hdone, hslot, hrest⟩
    rw [hslot]
    exact ⟨hdone, rfl, hsh, rfl, rfl, hrest⟩
  case enabled | named | released => exact fun t ⟨hdone, hslot, _⟩ => ⟨hdone, hslot⟩

end Sys2Proof.Machine

/-! A state that meets the premises of the clauses. -/

namespace Sys2Proof.Machine

open Sys2Proof

/-- A device in service. Slot 0 has a table of page 0 and, loaded behind it, one of page 1; slot 1 has neither. -/
def State.tablesInService : State :=
  { State.inService with
    ff := { State.inService.ff with
      slots := [{ active := [0], actHdr := some { pages := 1 }, shadow := [1], shHdr := some { pages := 1 } }, {}] } }

/-- The same with a load of two pages into slot 1, whose header has been read. -/
def State.tablesLoading : State :=
  { State.tablesInService with
    ff := { State.tablesInService.ff with
      load := some { slot := 1, hdr := some { pages := 2, pageCrc := [0, 0] }, left := [0, 1] } } }

/-- The bytes of a header of 2033 steps on column 0, without its CRC (R237). -/
def sampleHeader : List Byte :=
  leBytes 4 0x4646_0802 ++ leBytes 2 0x0200 ++ leBytes 2 512 ++ leBytes 2 7 ++ leBytes 2 0 ++ leBytes 4 2033 ++ leBytes 1 2 ++
    leBytes 3 0xFFFF00 ++ List.replicate (0x1FC - 0x14) 0

/-- The header with its CRC. -/
def sampleHdr : List Byte := sampleHeader ++ leBytes 4 (crc32 sampleHeader)

theorem leVal_leBytes {n v : Nat} (h : v < 256 ^ n) : leVal (leBytes n v) = v := by
  induction n generalizing v with
  | zero => exact (Nat.lt_one_iff.mp h).symm
  | succ n ih =>
    have hdiv : v / 256 < 256 ^ n := Nat.div_lt_of_lt_mul (by rwa [pow_succ'] at h)
    simp only [leBytes, leVal, ih hdiv, BitVec.toNat_ofNat]
    omega

theorem crcBit_lt (n : Nat) {c : Nat} (h : c < 2 ^ 32) : crcBit n c < 2 ^ 32 := by
  induction n generalizing c with
  | zero => exact h
  | succ n ih =>
    unfold crcBit
    refine ih ?_
    split
    · exact Nat.xor_lt_two_pow (by omega) (by decide)
    · omega

/-- A CRC-32 fits its four bytes (R573). -/
theorem crc32_lt (l : List Byte) : crc32 l < 2 ^ 32 := by
  refine Nat.xor_lt_two_pow ?_ (by decide)
  refine List.foldlRecOn (motive := fun c => c < 2 ^ 32) l _ (by decide) fun c hc b _ => crcBit_lt 8 (Nat.xor_lt_two_pow hc ?_)
  have := b.isLt
  omega

/-- The CRC that ends the header is its own, whatever that is. -/
theorem sampleHdr_crc : leAt sampleHdr 0x1FC 4 = crc32 (sampleHdr.take 0x1FC) := by
  have hlen : sampleHeader.length = 0x1FC := by
    simp only [sampleHeader, List.length_append, List.length_replicate, leBytes_length]
  rw [leAt, sampleHdr, List.drop_left' hlen, List.take_left' hlen, List.take_of_length_le (leBytes_length 4 _).le]
  exact leVal_leBytes (crc32_lt _)

theorem sampleHdr_ok : hdrOk sampleHdr = true := by
  unfold hdrOk
  exact Bool.and_eq_true_iff.mpr ⟨by decide +kernel, decide_eq_true sampleHdr_crc⟩

theorem tablesInService_takes {i sub : Nat} {val : List Byte} (h : State.tablesInService.writePasses .mgt i sub val = true) :
    State.tablesInService.takes .mgt i sub val := ⟨⟨rfl, rfl, rfl⟩, by decide, h⟩

theorem sampleHdr_pages : (parseHdr sampleHdr).pages = 2 := rfl

theorem sampleHdr_cols : (parseHdr sampleHdr).colCtrl = [0, 0xFF, 0xFF] := rfl

theorem tablesInService_free : State.tablesInService.freePages.length = 126 := by decide +kernel

/-- O37 at the start of a load of two pages. -/
theorem tablesInService_loads : Answers (.tableLoadStart .mgt [1] sampleHdr true) State.tablesInService (fun t =>
    ∃ l, t.ff.load = some l ∧ l.left = [0, 1]) :=
  answers_mono (tableLoadStart_starts (val := [1]) (tablesInService_takes (by decide)) rfl (by decide) (by decide) sampleHdr_ok
    (by rw [sampleHdr_cols]; decide) (by rw [sampleHdr_pages, tablesInService_free]; decide)) fun _ ⟨_, _, h⟩ =>
      ⟨_, h, by rw [Load.headed, sampleHdr_pages]; rfl⟩

/-- O37 at the first page of two. -/
theorem tablesLoading_copies : Answers (.tablePageCopied [] true) State.tablesLoading (fun t => kvGet t.ff.pageMem 2 = some []) :=
  answers_mono (tablePageCopied_copies (p := 2) (k := 0) rfl rfl rfl rfl (by decide)) fun _ h => by rw [h]; rfl

/-- O37 at a bus error in the same page. -/
theorem tablesLoading_fails : Answers (.tablePageCopied [] false) State.tablesLoading (fun t => t.num 0x8010 6 = 5) :=
  answers_mono (tablePageCopied_fails (p := 2) (k := 0) rfl rfl rfl rfl) fun _ ⟨_, _, h⟩ => h

/-- O37 at the swap of slot 0. -/
theorem tablesInService_swaps : Answers (.slotSwap .mgt 0 [1]) State.tablesInService (fun t =>
    (t.fslot 0).active = [1] ∧ (t.fslot 0).dying = [0]) :=
  answers_mono (slotSwap_activates (val := [1]) (by decide) (by decide) (tablesInService_takes (by decide)) (by decide))
    fun _ ⟨_, h, _⟩ => by rw [h]; exact ⟨rfl, rfl⟩

/-- O37 at the enable of slot 0. -/
theorem tablesInService_enables : Answers (.slotEnable .mgt 0 [1]) State.tablesInService (fun t => (t.fslot 0).enabled = true) :=
  answers_mono (slotEnable_enables (val := [1]) (by decide) (by decide) (tablesInService_takes (by decide))
    fun _ => ⟨rfl, by unfold State.programFree; decide⟩) fun _ ⟨_, h, _⟩ => by rw [h]; rfl

/-- O37 at the naming of slot 1. -/
theorem tablesInService_names : Answers (.slotProgramWrite .mgt 1 [7, 0]) State.tablesInService (fun t =>
    (t.fslot 1).program = 7) :=
  answers_mono (slotProgramWrite_names (val := [7, 0]) (by decide) (by decide) (tablesInService_takes (by decide)) rfl)
    fun _ ⟨_, h, _⟩ => by rw [h]; rfl

/-- O37 at the release of slot 0. -/
theorem tablesInService_releases : Answers (.slotRelease .mgt 0 [1]) State.tablesInService (fun t => (t.fslot 0).active = []) :=
  answers_mono (slotRelease_releases (val := [1]) (by decide) (by decide) (tablesInService_takes (by decide)) rfl)
    fun _ ⟨_, h, _⟩ => by rw [h]; rfl

end Sys2Proof.Machine

/-! What the operations on regions make of one region, and what they leave of the others and of the shims' common state (R259 to
R280). -/

namespace Sys2Proof.Machine

open Sys2Proof

/-- In t region n of s has become r, and every other is as it was. -/
def State.regionBecomes (s t : State) (n : Nat) (r : Region) : Prop := t.region n = r ∧ ∀ m, m ≠ n → t.region m = s.region m

/-- A change of region n alone, seen from the state whose regions it found. -/
theorem State.regionBecomes_of_updRegion {t v s : State} {n : Nat} {f : Region → Region}
    (ht : t.regions = (v.updRegion n f).regions) (hv : v.regions = s.regions) (hn : n < s.regions.length) :
    s.regionBecomes t n (f (s.region n)) := by
  refine ⟨?_, fun m hm => ?_⟩
  · rw [State.region_of_regions ht, State.region_updRegion_same v f (by rwa [hv]), State.region_of_regions hv]
  · rw [State.region_of_regions ht, State.region_updRegion_ne v f hm.symm, State.region_of_regions hv]

theorem State.regionBecomes.of_regions {s t u : State} {n : Nat} {r : Region} (h : s.regionBecomes u n r)
    (ht : t.regions = u.regions) : s.regionBecomes t n r := by
  obtain ⟨hself, hother⟩ := h
  exact ⟨(State.region_of_regions ht n).trans hself, fun m hm => (State.region_of_regions ht m).trans (hother m hm)⟩

theorem view_regions_length {k : Nat} {s t : State} (h : t.view k = s.view k) : t.regions.length = s.regions.length :=
  congrArg (fun x => x.2.2.2.2.1) (view_fixed h)

theorem State.updRegion_regions {s t : State} (h : t.regions = s.regions) (n : Nat) (f : Region → Region) :
    (t.updRegion n f).regions = (s.updRegion n f).regions := congrArg (fun l => l.modify n f) h

/-- Two changes of one region are one. -/
theorem State.updRegion_updRegion (s : State) (n : Nat) (f g : Region → Region) :
    (s.updRegion n f).updRegion n g = s.updRegion n (g ∘ f) := by
  simp only [State.updRegion, List.modify_modify_eq]

/-- A change of a region that keeps a field keeps it for every region. -/
theorem State.region_updRegion_keeps {α : Type} (g : Region → α) {f : Region → Region} (hf : ∀ r, g (f r) = g r) (s : State)
    (n m : Nat) : g ((s.updRegion n f).region m) = g (s.region m) := by
  simp only [State.region, State.updRegion, List.getD_eq_getElem?_getD, List.getElem?_modify]
  split <;> cases s.regions[m]? <;> simp [hf]

theorem updAccr_regions (s : State) : (updAccr s).regions = s.regions :=
  view_regions (updAccr_view (k := 256) (by decide) s) (by decide)

theorem updAccr_shim (s : State) : (updAccr s).shim = s.shim := view_shim (updAccr_view (k := 512) (by decide) s) (by decide)

theorem advanceTiles_regions (c : Nat) (s : State) : (advanceTiles c s).regions = s.regions :=
  view_regions (advanceTiles_view (k := 256) (by decide) c s) (by decide)

theorem advanceTiles_shim (c : Nat) (s : State) : (advanceTiles c s).shim = s.shim :=
  view_shim (advanceTiles_view (k := 512) (by decide) c s) (by decide)

/-! A fault that brings no rail into SAFE leaves the regions and the shims' common state (R221, R275). -/

theorem protect_regionView {sev : Nat} (h : sev ≤ 2) (c code item : Nat) (s : State) :
    (protect c code sev item s).view 768 = s.view 768 := by
  unfold protect
  rw [if_neg (show ¬ sev = 3 by omega), if_neg (show ¬ sev = 4 by omega)]
  split
  · exact postFor_view (by decide) ..
  · rfl

theorem protectEscalated_regionView {sev : Nat} (h : sev ≤ 2) (c code : Nat) (s : State) :
    (protectEscalated c code sev s).view 768 = s.view 768 := by
  unfold protectEscalated
  rw [if_neg (show ¬ sev = 3 by omega), if_neg (show ¬ sev = 4 by omega)]
  split
  · exact postEscalated_view (by decide) ..
  · rfl

/-- A second fault of S1 escalates to S2 at most (R225). -/
theorem secondFault_regionView (c : Nat) (a : Fault_) (code phase item arg1 : Nat) (s : State) :
    (secondFault c a code 1 phase item arg1 s).view 768 = s.view 768 := by
  unfold secondFault
  extract_lets v esc u full b u1 u2 u3 fl u4 u5 u6
  have hu : u.view 768 = s.view 768 := by
    simp only [u]
    split
    · exact protectEscalated_regionView (escalate_le s c) c code s
    · rfl
  have h1 : u1.view 768 = u.view 768 := State.updCtx_view (by decide) ..
  have h2 : u2.view 768 = u1.view 768 := by
    simp only [u2]
    split
    · exact State.bump32_view (by decide) ..
    · rfl
  have h3 : u3.view 768 = u2.view 768 := (faultEvent_view (by decide) ..).trans (notify_view (by decide) ..)
  have h4 : u4.view 768 = u3.view 768 := by
    simp only [u4]
    split
    · exact retain_view (by decide) ..
    · rfl
  have h6 : u6.view 768 = u4.view 768 := (markRailFlt_view (by decide) ..).trans (retain_view (by decide) ..)
  exact (faultEvent_view (by decide) ..).trans (h6.trans (h4.trans (h3.trans (h2.trans (h1.trans hu)))))

theorem raiseFault_regionView {c : Nat} (code : Nat) {sev : Nat} (phase item arg1 : Nat) {s : State}
    (h : sev ≤ 1 ∨ sev = 2 ∧ (s.ctx c).cur = none) : (raiseFault c code sev phase item arg1 s).view 768 = s.view 768 := by
  have hmark : (markRailFlt c code s).view 768 = s.view 768 := markRailFlt_view (by decide) ..
  have hprot : (protect c code sev item (markRailFlt c code s)).view 768 = s.view 768 :=
    (protect_regionView (by omega) ..).trans hmark
  have hfirst : ∀ t : State, (updAccr (firstFault c code sev phase item arg1 t)).view 768 = t.view 768 := fun t =>
    (updAccr_view (by decide) _).trans (firstFault_view (by decide) ..)
  by_cases h0 : sev = 0
  · unfold raiseFault
    dsimp only
    rw [if_pos h0]
    exact (faultEvent_view (by decide) ..).trans hmark
  · rcases h with h1 | ⟨-, hfree⟩
    · obtain rfl : sev = 1 := by omega
      unfold raiseFault
      dsimp only
      rw [if_neg h0]
      split
      · exact (hfirst _).trans hprot
      · exact (updAccr_view (by decide) _).trans ((secondFault_regionView ..).trans hprot)
    · rw [raiseFault_first code phase item arg1 h0 hfree]
      exact (hfirst _).trans hprot

/-- The flag of KERF_STAT stands, and the regions are as they were. -/
theorem shimFault_keeps (flag code : Nat) {sev : Nat} (n : Nat) {s : State}
    (h : sev ≤ 1 ∨ sev = 2 ∧ (s.ctx s.core).cur = none) : (shimFault flag code sev n s).regions = s.regions ∧
      (shimFault flag code sev n s).shim = { s.shim with flags := putBit s.shim.flags flag true } := by
  have hview : (shimFault flag code sev n s).view 768 = (setKerfFlag flag s).view 768 := raiseFault_regionView code 0xFF n 0 h
  exact ⟨(view_regions hview (by decide)).trans rfl, (view_shim hview (by decide)).trans rfl⟩

theorem shimFault_bit (flag code : Nat) {sev : Nat} (n : Nat) {s : State}
    (h : sev ≤ 1 ∨ sev = 2 ∧ (s.ctx s.core).cur = none) : bit (shimFault flag code sev n s).shim.flags flag = true := by
  rw [(shimFault_keeps flag code n h).2]
  exact putBit_bit s.shim.flags flag true

end Sys2Proof.Machine

/-! The commands of the shim regulators (O33). -/

namespace Sys2Proof.Machine

open Sys2Proof

/-! The control cycle (R259, R260). -/

/-- A region in bypass or already regulating does not start (R68). -/
theorem startRegulate_none {n : Nat} {s : State} (h : (s.region n).bypass = true ∨ (s.region n).regulating = true) :
    startRegulate n s = s := if_neg (by rcases h with h | h <;> simp [h])

theorem State.testStep_keeps {α : Type} (g : Region → α) (hg : ∀ r x c, g { r with testLeft := x, testCnt := c } = g r)
    (s : State) (n uv : Nat) (r : Region) : g (s.testStep n uv r) = g r := by
  unfold State.testStep
  split
  · exact hg ..
  · rfl

/-- A cycle of a region that does not start in it gives the region its new segment count and leaves its reference. -/
theorem controlCycle_regions {n : Nat} (uv : Nat) {s : State} (h : startRegulate n s = s) : ∃ f,
    (controlCycle n uv s).regions = (s.updRegion n f).regions ∧ ∀ r, (f r).seg = s.newSeg n uv ∧ (f r).ref = r.ref := by
  unfold controlCycle
  rw [h]
  extract_lets _ r v full below low acts g u w x
  have hu : u.regions = s.regions := by
    simp only [u]
    split
    · rw [State.count_regions]
      rfl
    · rfl
  have hw : ∃ f, w = u.updRegion n f ∧ ∀ r, (f r).seg = g ∧ (f r).ref = r.ref := ⟨_, rfl, fun r =>
    ⟨State.testStep_keeps (·.seg) (fun _ _ _ => rfl) s n uv _, State.testStep_keeps (·.ref) (fun _ _ _ => rfl) s n uv _⟩⟩
  obtain ⟨f, hf, hkeeps⟩ := hw
  have hx : x.regions = (s.updRegion n f).regions := by
    show w.regions = _
    rw [hf, State.updRegion, hu]
    rfl
  refine ⟨f, ?_, hkeeps⟩
  split
  · exact hx
  · exact hx

theorem shimControlCycle_cycles {n : Nat} (uv : Nat) {s : State} (hn : n < s.regions.length) (hsat : s.inst.sat = false)
    (hrel : s.aon.ctlReleased = true) (h : (s.region n).bypass = true ∨ (s.region n).regulating = true) :
    Answers (.shimControlCycle n uv) s (fun t =>
      ∃ r, s.regionBecomes t n r ∧ r.seg = s.newSeg n uv ∧ r.ref = (s.region n).ref) := by
  obtain ⟨f, hregions, hkeeps⟩ := controlCycle_regions uv (startRegulate_none h)
  exact ⟨_, if_neg (by simp [hsat, hrel]), _, State.regionBecomes_of_updRegion hregions rfl hn, hkeeps _⟩

/-- The segment count of a region that regulates without a preload (R259). -/
theorem State.newSeg_regulating {n : Nat} (uv : Nat) {s : State} (hb : (s.region n).bypass = false)
    (hr : (s.region n).regulating = true) (hp : (s.region n).preArmed = false) : s.newSeg n uv =
      (clampI (s.pn 0x4000 0x0B) 128 ((s.region n).seg + segDelta uv ((s.region n).ref + (s.region n).shimTrim))).toNat := by
  unfold State.newSeg
  dsimp only
  rw [if_neg (by simp [hb, hr]), if_neg (by simp [hp])]

/-- The segment count of a region in bypass (R260). -/
theorem State.newSeg_bypass {n : Nat} (uv : Nat) {s : State} (hb : (s.region n).bypass = true) :
    s.newSeg n uv = min 128 ((s.region n).seg + 4) := if_pos (by simp [hb])

/-! The reference (R261). -/

/-- A region after a step of its reference at a moment. -/
def Region.stepped (now : Nat) (r : Region) : Region :=
  { r with
    refOld := r.ref, ref := if r.ref < r.target then min r.target (r.ref + 5) else max r.target (r.ref - 5),
    refAt := now, upAt := none }

theorem refStep1_steps {n : Nat} {s : State} (hn : n < s.regions.length) :
    ∃ now, s.regionBecomes (refStep1 n s) n ((s.region n).stepped now) :=
  ⟨_, State.regionBecomes_of_updRegion (f := Region.stepped _) rfl (advanceTo_regions _ s) hn⟩

theorem exec_shimRefStep_up {n : Nat} {s : State} (hsat : s.inst.sat = false) (hb : (s.region n).bypass = false)
    (hr : (s.region n).regulating = true) (hlt : (s.region n).ref < (s.region n).target) (hup : (s.region n).upAt = none) :
    exec (.shimRefStep n) s = .next (refStep1 n s) := by
  show execShimRefStep n s = _
  unfold execShimRefStep
  dsimp only
  rw [if_neg (by simp [hsat, hb, hr, hlt.ne]), if_neg (by omega), if_neg (by simp [hup])]

/-- No stretch of the region holds a step downwards (R261). -/
theorem State.downHeld_none {n : Nat} {s : State} (hstr : (s.region n).str = false) (hend : (s.region n).strEndAt = none) :
    s.downHeld n = false := by
  unfold State.downHeld
  rw [hstr, hend]
  rfl

theorem exec_shimRefStep_down {n : Nat} {s : State} (hsat : s.inst.sat = false) (hb : (s.region n).bypass = false)
    (hr : (s.region n).regulating = true) (hlt : (s.region n).target < (s.region n).ref) (hheld : s.downHeld n = false) :
    exec (.shimRefStep n) s = .next (refStep1 n s) := by
  show execShimRefStep n s = _
  unfold execShimRefStep
  dsimp only
  rw [if_neg (by simp [hsat, hb, hr, hlt.ne']), if_pos hlt, if_neg (by simp [hheld])]

theorem shimRefStep_raises {n : Nat} {s : State} (hn : n < s.regions.length) (hsat : s.inst.sat = false)
    (hb : (s.region n).bypass = false) (hr : (s.region n).regulating = true) (hlt : (s.region n).ref < (s.region n).target)
    (hup : (s.region n).upAt = none) : Answers (.shimRefStep n) s (fun t =>
      (t.region n).ref = min (s.region n).target ((s.region n).ref + 5) ∧ (t.region n).refOld = (s.region n).ref ∧
      ∀ m, m ≠ n → t.region m = s.region m) := by
  obtain ⟨now, hself, hothers⟩ := refStep1_steps hn
  refine ⟨_, exec_shimRefStep_up hsat hb hr hlt hup, ?_, ?_, hothers⟩
  · rw [hself]
    exact if_pos hlt
  · rw [hself]
    rfl

theorem shimRefStep_lowers {n : Nat} {s : State} (hn : n < s.regions.length) (hsat : s.inst.sat = false)
    (hb : (s.region n).bypass = false) (hr : (s.region n).regulating = true) (hlt : (s.region n).target < (s.region n).ref)
    (hstr : (s.region n).str = false) (hend : (s.region n).strEndAt = none) : Answers (.shimRefStep n) s (fun t =>
      (t.region n).ref = max (s.region n).target ((s.region n).ref - 5)) := by
  obtain ⟨now, hself, -⟩ := refStep1_steps hn
  exact ⟨_, exec_shimRefStep_down hsat hb hr hlt (State.downHeld_none hstr hend),
    (congrArg Region.ref hself).trans (if_neg (by omega))⟩

/-! Saturation, the boost and the wait for headroom (R263, R264). -/

/-- Region n saturates, and the boost is in force (R264). -/
def State.saturatedAt (s : State) (n : Nat) : State :=
  { s.updRegion n (fun r => { r with sat := true }) with shim := { s.shim with boost := true } }

theorem exec_shimSaturation {n : Nat} {s : State} (hrun : 64 ≤ (s.region n).satRun) (hsat : (s.region n).sat = false) :
    exec (.shimSaturation n) s = .next (shimFault 0 0x0401 0 n (s.saturatedAt n)) := if_pos (by simp [hrun, hsat])

theorem shimSaturation_boosts {n : Nat} {s : State} (hn : n < s.regions.length) (hrun : 64 ≤ (s.region n).satRun)
    (hsat : (s.region n).sat = false) : Answers (.shimSaturation n) s (fun t =>
      (t.region n).sat = true ∧ t.shim.boost = true ∧ bit t.shim.flags 0 = true) := by
  obtain ⟨hregions, hshim⟩ := shimFault_keeps 0 0x0401 (sev := 0) n (s := s.saturatedAt n) (.inl (by decide))
  obtain ⟨hself, -⟩ := State.regionBecomes_of_updRegion (f := fun r => { r with sat := true }) hregions rfl hn
  refine ⟨_, exec_shimSaturation hrun hsat, ?_, ?_, shimFault_bit 0 0x0401 n (.inl (by decide))⟩
  · rw [hself]
  · rw [hshim]
    rfl

theorem boostHoldExpiry_ends {s : State} (hboost : s.shim.boost = true) (hsat : ∀ r ∈ s.regions, r.sat = false) :
    Answers .boostHoldExpiry s (fun t => t.shim = { s.shim with boost := false } ∧ t.regions = s.regions) := by
  refine ⟨_, if_pos (by simpa [hboost] using hsat), ?_, advanceTo_regions _ s⟩
  dsimp only
  rw [advanceTo_shim]

theorem exec_headroomWaitExpiry {n a : Nat} {s : State} (ha : (s.region n).upAt = some a) (hr : (s.region n).regulating = true) :
    ∃ d, exec (.headroomWaitExpiry n) s =
      .next (shimFault 3 0x0404 0 n ((advanceTo d s).updRegion n (fun r => { r with upAt := none }))) := by
  show ∃ d, execHeadroomWaitExpiry n s = _
  unfold execHeadroomWaitExpiry
  rw [ha]
  exact ⟨_, if_pos hr⟩

theorem headroomWaitExpiry_ends {n a : Nat} {s : State} (hn : n < s.regions.length) (ha : (s.region n).upAt = some a)
    (hr : (s.region n).regulating = true) :
    Answers (.headroomWaitExpiry n) s (fun t => (t.region n).upAt = none ∧ bit t.shim.flags 3 = true) := by
  obtain ⟨d, hexec⟩ := exec_headroomWaitExpiry ha hr
  obtain ⟨hregions, -⟩ := shimFault_keeps 3 0x0404 (sev := 0) n
    (s := (advanceTo d s).updRegion n (fun r => { r with upAt := none })) (.inl (by decide))
  obtain ⟨hself, -⟩ := State.regionBecomes_of_updRegion hregions (advanceTo_regions d s) hn
  exact ⟨_, hexec, congrArg Region.upAt hself, shimFault_bit 3 0x0404 n (.inl (by decide))⟩

/-! Preloads (R267). -/

theorem preloadArm_arms {n : Nat} {s : State} (hn : n < s.regions.length) (hpre : (s.region n).preN ≠ 0)
    (harm : (s.region n).preArmed = false) : Answers (.preloadArm n) s (fun t =>
      t.region n = { s.region n with preArmed := true, preActed := false }) := by
  refine ⟨_, if_pos (by simp [hpre, harm]), ?_⟩
  exact (State.regionBecomes_of_updRegion (f := fun r => { r with preArmed := true, preActed := false }) rfl
    (advanceTo_regions _ s) hn).1

theorem preloadDisarm_disarms {n : Nat} {s : State} (hn : n < s.regions.length) (harm : (s.region n).preArmed = true) :
    Answers (.preloadDisarm n) s (fun t =>
      t.region n = { s.region n with preArmed := false, preN := 0, preActed := false } ∧
      ((s.region n).preActed = false → bit t.shim.flags 5 = true)) := by
  refine ⟨_, if_pos harm, ?_⟩
  obtain ⟨hself, -⟩ := State.regionBecomes_of_updRegion
    (f := fun r => { r with preArmed := false, preN := 0, preActed := false }) rfl
    (advanceTo_regions ((s.region n).preDue + nsCycles (s.pn 0x4000 9)) s) hn
  cases hacted : (s.region n).preActed with
  | true => exact ⟨hself, fun h => absurd h (by decide)⟩
  | false => exact ⟨hself, fun _ => putBit_bit _ 5 true⟩

/-! The region monitor (R278). -/

/-- Region n has reading mv, and the monitor's next region is x. -/
def State.monitored (s : State) (n mv x : Nat) : Prop := (s.region n).mon = mv ∧ s.shim.monNext = x

theorem State.monitored.of_eq {s t : State} {n mv x : Nat} (h : s.monitored n mv x) (hr : t.regions = s.regions)
    (hs : t.shim.monNext = s.shim.monNext) : t.monitored n mv x := by
  obtain ⟨hmon, hnext⟩ := h
  exact ⟨(congrArg Region.mon (State.region_of_regions hr n)).trans hmon, hs.trans hnext⟩

theorem State.monitored.updRegion {s : State} {n mv x : Nat} (h : s.monitored n mv x) {f : Region → Region}
    (hf : ∀ r, (f r).mon = r.mon) (m : Nat) : (s.updRegion m f).monitored n mv x := by
  obtain ⟨hmon, hnext⟩ := h
  exact ⟨(State.region_updRegion_keeps (·.mon) hf s m n).trans hmon, hnext⟩

theorem autoTrim_monitored {n mv x : Nat} (m v : Nat) {s : State} (h : s.monitored n mv x) :
    (autoTrim m v s).monitored n mv x := by
  unfold autoTrim
  dsimp only
  split
  · split
    · exact State.monitored.updRegion (h.of_eq rfl rfl) (fun _ => by rfl) m
    · exact h.updRegion (fun _ => by rfl) m
  · exact h

theorem shimFault_monitored {n mv x : Nat} (flag code : Nat) {sev : Nat} (m : Nat) {s : State} (hsev : sev ≤ 1)
    (h : s.monitored n mv x) : (shimFault flag code sev m s).monitored n mv x := by
  obtain ⟨hregions, hshim⟩ := shimFault_keeps flag code m (.inl hsev)
  exact h.of_eq hregions (by rw [hshim])

/-- A reading is kept whatever deviation it shows and whatever trim it moves (R275, R279). -/
theorem monitorReading_monitored {n : Nat} (mv : Nat) {s : State} (hn : n < s.regions.length) :
    (monitorReading n mv s).monitored n mv s.shim.monNext := by
  unfold monitorReading
  extract_lets u r dev c v w
  have hread : u.monitored n mv s.shim.monNext := ⟨congrArg Region.mon (State.region_updRegion_same s _ hn), rfl⟩
  split
  · exact hread
  · have hv : v.monitored n mv s.shim.monNext := hread.updRegion (fun _ => by rfl) n
    have hw : w.monitored n mv s.shim.monNext := by
      simp only [w]
      split
      · exact shimFault_monitored 4 0x0405 n le_rfl hv
      · exact hv
    exact autoTrim_monitored n mv hw

theorem exec_regionMonitorConversion (mv : Nat) {s : State} (hsat : s.inst.sat = false) (hrel : s.aon.ctlReleased = true) :
    ∃ d a, exec (.regionMonitorConversion mv) s = .next (monitorReading (advanceTo d s).shim.monNext (mv % 1024)
      { advanceTo d s with
        shim := { (advanceTo d s).shim with monNext := ((advanceTo d s).shim.monNext + 1) % 256, monAt := some a } }) :=
  ⟨_, _, if_neg (by simp [hsat, hrel])⟩

theorem regionMonitorConversion_reads (mv : Nat) {s : State} (hsat : s.inst.sat = false) (hrel : s.aon.ctlReleased = true)
    (hn : s.shim.monNext < s.regions.length) : Answers (.regionMonitorConversion mv) s (fun t =>
      (t.region s.shim.monNext).mon = mv % 1024 ∧ t.shim.monNext = (s.shim.monNext + 1) % 256) := by
  obtain ⟨d, a, hexec⟩ := exec_regionMonitorConversion mv hsat hrel
  rw [advanceTo_shim] at hexec
  exact ⟨_, hexec, monitorReading_monitored (mv % 1024) (by rwa [State.with_shim_regions, advanceTo_regions])⟩

/-! The end of a kerf test (R280). -/

theorem kerfTestEnd_ends {n : Nat} {s : State} (hn : n < s.regions.length) (h0 : (s.region n).testLeft = some 0) :
    Answers (.kerfTestEnd n) s (fun t => t.region n = { s.region n with testLeft := none, testCnt := 0 } ∧
      t.num (0x4100 + n) 0x0B = (s.region n).testCnt) := by
  let u := s.put (0x4100 + n) 0x0B (s.region n).testCnt
  refine ⟨u.updRegion n fun r => { r with testLeft := none, testCnt := 0 }, ?_, State.region_updRegion_same u _ hn,
    State.num_put_same s _ _ _⟩
  show execKerfTestEnd n s = _
  unfold execKerfTestEnd
  rw [h0]
  rfl

/-- Settles O33: the cycle by its segment count, the reference step by the region it leaves, each fault of S0 by the flag it sets,
and the monitor by the reading it keeps. -/
theorem shimRegulators : Obligations.ShimRegulators := by
  unfold Obligations.ShimRegulators
  refine ⟨fun n uv s hn hsat hrel hb hr hp => ?regulating, fun n uv s hn hsat hrel hb => ?bypass,
    fun n s hn hsat hb hr hlt hup => shimRefStep_raises hn hsat hb hr hlt hup,
    fun n s hn hsat hb hr hlt hstr hend => shimRefStep_lowers hn hsat hb hr hlt hstr hend,
    fun n s hn hrun hsat => shimSaturation_boosts hn hrun hsat, fun s hboost hsat => boostHoldExpiry_ends hboost hsat,
    fun n a s hn ha hr => headroomWaitExpiry_ends hn ha hr, fun n s hn hpre harm => preloadArm_arms hn hpre harm,
    fun n s hn harm => preloadDisarm_disarms hn harm,
    fun mv s hsat hrel hn => regionMonitorConversion_reads mv hsat hrel hn, fun n s hn h0 => kerfTestEnd_ends hn h0⟩
  case regulating =>
    refine answers_mono (shimControlCycle_cycles uv hn hsat hrel (.inr hr)) fun t ⟨r, ⟨hself, hothers⟩, hseg, href⟩ => ?_
    rw [hself, hseg, href, State.newSeg_regulating uv hb hr hp]
    exact ⟨rfl, rfl, hothers⟩
  case bypass =>
    refine answers_mono (shimControlCycle_cycles uv hn hsat hrel (.inl hb)) fun t ⟨r, ⟨hself, _⟩, hseg, _⟩ => ?_
    rw [hself, hseg, State.newSeg_bypass uv hb]

end Sys2Proof.Machine

/-! The commands of the kerf units (O34). -/

namespace Sys2Proof.Machine

open Sys2Proof

/-! Stretches (R270 to R272). -/

/-- The code of a level is read from the object of level 1 (R270). -/
theorem State.strCode_congr {s t : State} {n : Nat} (level : Nat) (h : t.num (0x4100 + n) 5 = s.num (0x4100 + n) 5) :
    t.strCode n level = s.strCode n level := by
  rw [State.strCode, State.strCode, State.pn, State.pn, h]

/-- A region whose stretch begins at a tile cycle with a code (R270). -/
def Region.stretched (code now : Nat) (r : Region) : Region :=
  { r with str := true, amt := code, strLevel := 1, strEdges := 0, strSince := now }

theorem crossKerf_regions (n : Nat) (s : State) :
    (crossKerf n s).regions = (s.updRegion n (Region.stretched (s.strCode n 1) s.clk.tileCycles)).regions := updAccr_regions _

theorem crossKerf_hold (n : Nat) (s : State) : (crossKerf n s).shim.hold = true := congrArg Shim.hold (updAccr_shim _)

theorem kerfCrossing_stretches {n : Nat} {s : State} (hn : n < s.regions.length) (harm : (s.region n).armed = true)
    (hstr : (s.region n).str = false) : Answers (.kerfCrossing n) s (fun t =>
      s.regionBecomes t n ((s.region n).stretched (s.strCode n 1) s.clk.tileCycles) ∧ t.shim.hold = true) :=
  ⟨_, if_pos (by simp [harm, hstr]), State.regionBecomes_of_updRegion (crossKerf_regions n s) rfl hn, crossKerf_hold n s⟩

/-- A region of which e edges more have been counted at a tile cycle (R273). -/
def Region.edgesCounted (e now : Nat) (r : Region) : Region := { r with strEdges := r.strEdges + e, strSince := now }

theorem countEdges_regions (n : Nat) (s : State) :
    ∃ e now, (countEdges n s).regions = (s.updRegion n (Region.edgesCounted e now)).regions := by
  refine ⟨edgesIn (s.clk.tileCycles - (s.region n).strSince) (s.region n).amt, s.clk.tileCycles, ?_⟩
  exact State.updRegion_regions (State.count_regions ..) n (Region.edgesCounted _ _)

theorem countEdges_num (n : Nat) (s : State) {i sub : Nat} (hs : sub < 256) (hne : sub ≠ 0x0D) :
    (countEdges n s).num i sub = s.num i sub := by
  exact s.num_add64_sub (i := 0x4100 + n) (sub := 0x0D) (by decide) hs hne.symm

/-- A region at a deeper level with its code (R270). -/
def Region.deepened (level code : Nat) (r : Region) : Region := { r with strLevel := level, amt := max r.amt code }

theorem deepen_regions (n level : Nat) (s : State) : ∃ e now, (deepen n level s).regions =
    (s.updRegion n (Region.deepened level (s.strCode n level) ∘ Region.edgesCounted e now)).regions := by
  obtain ⟨e, now, h⟩ := countEdges_regions n s
  have hnum : ∀ x : Int, ((countEdges n s).put (0x4100 + n) 0x0F x).num (0x4100 + n) 5 = s.num (0x4100 + n) 5 := fun x =>
    (State.num_put_ne _ x (okey_ne_of_sub (by decide) (by decide) (by decide))).trans
      (countEdges_num n s (by decide) (by decide))
  refine ⟨e, now, ?_⟩
  rw [← State.updRegion_updRegion]
  unfold deepen
  dsimp only
  rw [State.strCode_congr level (hnum _)]
  exact State.updRegion_regions h n (Region.deepened level (s.strCode n level))

theorem kerfLevelRaise_deepens {n level : Nat} {s : State} (hn : n < s.regions.length) (hstr : (s.region n).str = true)
    (hlt : (s.region n).strLevel < level) (hle : level ≤ 4) : Answers (.kerfLevelRaise n level) s (fun t =>
      ∃ e now, s.regionBecomes t n (((s.region n).edgesCounted e now).deepened level (s.strCode n level))) := by
  obtain ⟨e, now, h⟩ := deepen_regions n level s
  exact ⟨_, if_pos (by simp [hstr, hlt, hle]), e, now, State.regionBecomes_of_updRegion h rfl hn⟩

/-- A region whose stretch has ended at a tile cycle (R271). -/
def Region.relaxed (now : Nat) (r : Region) : Region :=
  { r with str := false, amt := 0, strLevel := 0, strEdges := 0, strEndAt := some now }

theorem endStretch_regions (n : Nat) (s : State) : ∃ e now now', (endStretch n s).regions =
    (s.updRegion n (Region.relaxed now' ∘ Region.edgesCounted e now)).regions := by
  obtain ⟨e, now, h⟩ := countEdges_regions n s
  refine ⟨e, now, (countEdges n s).clk.tileCycles, ?_⟩
  rw [← State.updRegion_updRegion]
  exact State.updRegion_regions h n (Region.relaxed _)

theorem kerfStretchEnd_relaxes {n : Nat} {s : State} (hn : n < s.regions.length) (hstr : (s.region n).str = true)
    (hrun : s.tileStopped = false) : Answers (.kerfStretchEnd n) s (fun t =>
      (∃ e now now', s.regionBecomes t n (((s.region n).edgesCounted e now).relaxed now')) ∧ t.shim.hold = true) := by
  refine ⟨_, if_pos (by simp [hstr, hrun]), ?_, congrArg Shim.hold (updAccr_shim _)⟩
  obtain ⟨e, now, now', h⟩ := endStretch_regions n
    (advanceTiles ((s.region n).strSince + cyclesFor (s.pn 0x4001 3) (s.region n).amt) s)
  exact ⟨e, now, now', State.regionBecomes_of_updRegion ((updAccr_regions _).trans h) (advanceTiles_regions ..) hn⟩

theorem stretchHoldClear_clears {s : State} (hhold : s.shim.hold = true) (hstr : ∀ r ∈ s.regions, r.str = false)
    (hrun : s.tileStopped = false) :
    Answers .stretchHoldClear s (fun t => t.shim = { s.shim with hold := false } ∧ t.regions = s.regions) := by
  refine ⟨_, if_pos (by simpa [hhold, hrun] using hstr), ?_, advanceTiles_regions _ s⟩
  dsimp only
  rw [advanceTiles_shim]

/-! SHIM_LOW and KERF_DUTY (R275, R276). -/

/-- Which controller feeds the shims is read from the rails and phases alone (R262). -/
theorem State.core_congr {s t : State} (hr : t.rails = s.rails) (hp : t.phases = s.phases) : t.core = s.core := by
  simp only [State.core, State.ctrlOf, State.railUsed_of_phases hp, State.rail_of_rails hr]

/-- A fault of S2 of region n that finds the CORE context free recovers in it, with its flag (R275). -/
theorem shimFault_recovers (flag code n : Nat) {s : State} (hc : s.core < s.prot.ctxs.length) (hfree : (s.ctx s.core).cur = none) :
    (shimFault flag code 2 n s).recoversOf s.core code 2 0xFF n ∧ bit (shimFault flag code 2 n s).shim.flags flag = true :=
  ⟨raiseFault_inRecovery (s := setKerfFlag flag s) code 0xFF n 0 (by decide) hc hfree,
    shimFault_bit flag code n (.inr ⟨rfl, hfree⟩)⟩

theorem exec_shimLow {n a : Nat} {s : State} (ha : (s.region n).lowFrom = some a) :
    ∃ d, exec (.shimLow n) s = .next (shimFault 1 0x0402 2 n (advanceTo d s)) := by
  show ∃ d, execShimLow n s = _
  unfold execShimLow
  rw [ha]
  exact ⟨_, rfl⟩

theorem shimLow_raises {n a : Nat} {s : State} (hc : s.core < s.prot.ctxs.length) (ha : (s.region n).lowFrom = some a)
    (hfree : (s.ctx s.core).cur = none) : Answers (.shimLow n) s (fun t =>
      t.recoversOf s.core 0x0402 2 0xFF n ∧ bit t.shim.flags 1 = true) := by
  obtain ⟨d, hexec⟩ := exec_shimLow ha
  have hcore : (advanceTo d s).core = s.core := State.core_congr (advanceTo_rails d s) (advanceTo_phases d s)
  have hprot := advanceTo_prot d s
  have h := shimFault_recovers 1 0x0402 n (s := advanceTo d s) (by rwa [hcore, hprot]) (by rwa [hcore, State.ctx_of_prot hprot])
  rw [hcore] at h
  exact ⟨_, hexec, h⟩

theorem kerfDuty_raises {n : Nat} {s : State} (hc : s.core < s.prot.ctxs.length) (hsat : s.inst.sat = false)
    (hduty : s.pn 0x4001 4 ≠ 100) (harm : (s.region n).armed = true) (hfree : (s.ctx s.core).cur = none) :
    Answers (.kerfDuty n) s (fun t => t.recoversOf s.core 0x0403 2 0xFF n ∧ bit t.shim.flags 2 = true) :=
  ⟨_, if_pos (by simp [hsat, hduty, harm]), shimFault_recovers 2 0x0403 n hc hfree⟩

/-- Settles O34: a stretch by the region that its start, a deeper level or its end leaves, and the faults of S2 by their recovery. -/
theorem kerfUnits : Obligations.KerfUnits := by
  unfold Obligations.KerfUnits
  refine ⟨fun n s hn harm hstr => ?crossing, fun n level s hn hstr hlt hle => ?deeper, fun n s hn hstr hrun => ?ends,
    fun s hhold hstr hrun => stretchHoldClear_clears hhold hstr hrun, fun n a s hc ha hfree => shimLow_raises hc ha hfree,
    fun n s hc hsat hduty harm hfree => kerfDuty_raises hc hsat hduty harm hfree⟩
  case crossing =>
    refine answers_mono (kerfCrossing_stretches hn harm hstr) fun t ⟨⟨hself, hothers⟩, hhold⟩ => ?_
    rw [hself]
    exact ⟨rfl, rfl, rfl, hhold, hothers⟩
  case deeper =>
    refine answers_mono (kerfLevelRaise_deepens hn hstr hlt hle) fun t ⟨e, now, hself, hothers⟩ => ?_
    rw [hself]
    exact ⟨rfl, rfl, hothers⟩
  case ends =>
    refine answers_mono (kerfStretchEnd_relaxes hn hstr hrun) fun t ⟨⟨e, now, now', hself, hothers⟩, hhold⟩ => ?_
    rw [hself]
    exact ⟨rfl, rfl, rfl, hhold, hothers⟩

end Sys2Proof.Machine

/-! The writes of the regions' objects (O35). -/

namespace Sys2Proof.Machine

open Sys2Proof

/-! From a whole write to the effect that the shims' chapter gives it (R96, R284 to R286). -/

theorem State.servesOn.regions {u s : State} {ch : ChanId} (h : u.servesOn s ch) : u.regions = s.regions :=
  view_regions h.view (by decide)

theorem State.servesOn.region {u s : State} {ch : ChanId} (h : u.servesOn s ch) (n : Nat) : u.region n = s.region n :=
  State.region_of_regions h.regions n

/-- The highest target is the same where a write is served (R261). -/
theorem State.servesOn.targetMax {u s : State} {ch : ChanId} (h : u.servesOn s ch) : u.targetMax = s.targetMax := by
  rw [State.targetMax, State.targetMax, State.core_congr h.rails h.phases, h.num (by omega), h.num (by omega)]

theorem State.servesOn.tileInRange {u s : State} {ch : ChanId} (h : u.servesOn s ch) (b : List Byte) :
    u.tileInRange b = s.tileInRange b := by
  rw [State.tileInRange, State.tileInRange, h.targetMax]

theorem budgetRec_shims (s : State) {i : Nat} (sub v : Nat) (hi : 0x4000 ≤ i) (hi' : i < 0x5000) :
    s.budgetRec i sub v = none := by
  unfold State.budgetRec
  repeat rw [if_neg (by simp; omega)]

theorem objWrite_shims (w : Who) {i : Nat} (sub : Nat) (v : Int) (b : List Byte) (s : State) (hi : 0x4000 ≤ i)
    (hi' : i < 0x5000) : objWrite w i sub v b s = shimsWrite i sub v b s := by
  unfold objWrite
  rw [if_neg (by omega), if_neg (by omega), if_neg (by omega), if_neg (by simp; omega), if_neg (by simp; omega),
    if_neg (by omega), if_neg (by omega), if_neg (by omega), if_neg (by omega), if_neg (by omega), if_pos (by omega)]

section
variable {s : State} {ch : ChanId} {i sub : Nat} {val : List Byte} {r : Row}

/-- A write that the shims' chapter takes: the request ends with success, the regions are what the write makes of them, and the store
has one request more (R117). -/
theorem answers_of_shimsWrite {c : Instr} {g : State → State} {P : State → Prop}
    (hexec : exec c s = .next (clWhole ch i sub val s)) (h : s.takes ch i sub val) (hr : dictRow i sub = some r)
    (hown : r.own = 6) (hi : 0x4000 ≤ i) (hi' : i < 0x5000)
    (hw : ∀ v : State, v.servesOn s ch → shimsWrite i sub (r.rg.clip (r.ty.num val)) val v = .ok (g v))
    (hP : ∀ v t : State, v.servesOn s ch → t.doneOn ch → t.regions = (g v).regions →
      t.obj = ((g v).add64 0x1020 1 1).obj → P t) : Answers c s P := by
  obtain ⟨v, hv, hwhole⟩ := clWhole_local h hr
  have hok : clEffect ch (s.wholePend ch i sub val) r v = clOk ch (s.wholePend ch i sub val) [] (g v) :=
    clEffect_objWrite (a := s.wholePend ch i sub val) (show i ≠ _ by omega) (show ¬(_ ≤ i ∧ i < _) by omega)
      (budgetRec_shims v _ _ hi hi') ((objWrite_shims _ _ _ _ v hi hi').trans (hw v hv))
  have hcl : (g v).cl = v.cl := view_cl (shimsWrite_view (k := 4) (by decide) (hw v hv)) (by decide)
  obtain ⟨⟨-, hfq, hcq, hchan, -⟩, -⟩ := id hv
  obtain ⟨hdone, hview, hobj, hq, hq'⟩ := clOk_write (s.wholePend ch i sub val) (State.hasChan_of_cl hcl hchan)
  rw [fwOwned_of_own hr (by omega) (by omega), if_neg Bool.false_ne_true, hok,
    clTurn_quiet (by rw [hq, hcl, hfq]) (by rw [hq', hcl, hcq])] at hwhole
  exact ⟨_, hexec.trans (congrArg Host.Outcome.next hwhole), hP v _ hv hdone (view_regions hview (by decide)) hobj⟩

end

theorem State.takes.fits {s : State} {ch : ChanId} {i sub : Nat} {val : List Byte} {r : Row} (h : s.takes ch i sub val)
    (hr : dictRow i sub = some r) : r.ty.fits val.length = true := by
  obtain ⟨-, -, hpass⟩ := h
  obtain ⟨r', hr', -, hf, -⟩ := State.writePasses_row hpass
  obtain rfl : r = r' := Option.some.inj (hr.symm.trans hr')
  exact hf

/-! The regions' rows and writes (R284, R285). -/

/-- Every region has the same rows. -/
theorem dictRow_region {n : Nat} (hn : n < 256) (sub : Nat) : dictRow (0x4100 + n) sub = dictRow 0x4100 sub := by
  have hall : ∀ r ∈ dict41, r.i = 0x4100 ∧ r.cnt = 256 := by decide
  unfold dictRow
  rw [show (0x4100 + n) / 256 = 0x41 by omega]
  refine List.find?_congr fun r hr => ?_
  obtain ⟨hi, hcnt⟩ := hall r hr
  rw [hi, hcnt, decide_eq_true (show 0x4100 ≤ 0x4100 + n by omega), decide_eq_true (show 0x4100 + n < 0x4100 + 256 by omega)]
  rfl

/-- The rows of a trim (R285). -/
def trimRow (kerf : Bool) : Row :=
  if kerf then ⟨0x4100, 256, 0x07, 1, .i 2, 0x1202, 0, .ivs [(-15, 15)] 1, .num, 6, true⟩
  else ⟨0x4100, 256, 0x06, 1, .i 2, 0x1202, 0, .ivs [(-31, 31)] 1, .num, 6, true⟩

theorem dictRow_trim {n : Nat} (hn : n < 256) (kerf : Bool) :
    dictRow (0x4100 + n) (if kerf then 7 else 6) = some (trimRow kerf) := by
  rw [dictRow_region hn]
  cases kerf <;> rfl

theorem dictRow_region_plain {n sub : Nat} (hn : n < 256) (hs : sub ∈ [1, 2, 0x0A]) :
    ∃ r, dictRow (0x4100 + n) sub = some r ∧ r.plain = true ∧ r.own = 6 := by
  simp only [dictRow_region hn]
  simp only [List.mem_cons, List.not_mem_nil, or_false] at hs
  rcases hs with rfl | rfl | rfl <;> exact ⟨_, rfl, rfl, rfl⟩

section
variable {n : Nat} (v : Int) (b : List Byte) (s : State) (hn : n < 256)
include hn

theorem shimsWrite_mode : shimsWrite (0x4100 + n) 1 v b s = .ok (bumpTile (n / 64) (setBypass n (v = 1) s)) := by
  unfold shimsWrite
  rw [if_neg (by simp; omega), if_pos (by simp; omega), Nat.add_sub_cancel_left]
  rfl

theorem shimsWrite_target : shimsWrite (0x4100 + n) 2 v b s =
    needRange (decide (v ≤ s.targetMax)) (.ok (bumpTile (n / 64) (setTarget1 n v.toNat s))) := by
  unfold shimsWrite
  rw [if_neg (by simp; omega), if_pos (by simp; omega), Nat.add_sub_cancel_left]
  rfl

theorem shimsWrite_test : shimsWrite (0x4100 + n) 0x0A v b s = needState (s.region n).testLeft.isNone
    (.ok (s.updRegion n (fun r => { r with testLeft := some (s.pn 0x4001 6), testCnt := 0 }))) := by
  unfold shimsWrite
  rw [if_neg (by simp; omega), if_pos (by simp; omega), Nat.add_sub_cancel_left]
  rfl

/-- A trim is stored; one of the shim restarts automatic trimming (R279). -/
theorem shimsWrite_trim (kerf : Bool) : shimsWrite (0x4100 + n) (if kerf then 7 else 6) v b s =
    .ok (if kerf then s.put (0x4100 + n) 7 v
      else (s.put (0x4100 + n) 6 v).updRegion n (fun r => { r with devStop := false, trimSum := 0, trimCnt := 0 })) := by
  have hstore : storeVal (0x4100 + n) (if kerf then 7 else 6) v b s = s.put (0x4100 + n) (if kerf then 7 else 6) v := by
    unfold storeVal
    rw [dictRow_trim hn]
    cases kerf <;> rfl
  unfold shimsWrite
  rw [if_neg (by simp; omega), if_pos (by simp; omega), Nat.add_sub_cancel_left]
  cases kerf with
  | true => exact congrArg Except.ok hstore
  | false => exact congrArg (fun u : State => Except.ok (u.updRegion n _)) hstore

end

/-- A write of a region's object whose bytes are a plain number. -/
theorem answers_of_regionWrite {s : State} {ch : ChanId} {n sub : Nat} {val : List Byte} {c : Instr} {g : State → State}
    {P : State → Prop} (hexec : exec c s = .next (clWhole ch (0x4100 + n) sub val s)) (hn : n < 256) (hs : sub ∈ [1, 2, 0x0A])
    (h : s.takes ch (0x4100 + n) sub val)
    (hw : ∀ v : State, v.servesOn s ch → shimsWrite (0x4100 + n) sub (leVal val) val v = .ok (g v))
    (hP : ∀ v t : State, v.servesOn s ch → t.doneOn ch → t.regions = (g v).regions → P t) : Answers c s P := by
  obtain ⟨r, hr, hplain, hown⟩ := dictRow_region_plain hn hs
  exact answers_of_shimsWrite hexec h hr hown (by omega) (by omega) (fun v hv => by rw [Row.plain_value hplain, hw v hv])
    fun v t hv hdone hregions _ => hP v t hv hdone hregions

/-! Targets and modes (R260, R261). -/

/-- A region with a target that it takes at a moment (R261, R263). -/
def Region.aimed (mv now : Nat) (r : Region) : Region :=
  { r with
    target := mv, upAt := if r.bypass || mv ≤ r.ref then none else if mv = r.target && r.upAt.isNone then none else some now }

theorem setTarget1_eq (n mv : Nat) (s : State) : setTarget1 n mv s = s.updRegion n (Region.aimed mv s.aon.clock) := rfl

theorem setBypass_self {n : Nat} (b : Bool) {s : State} (hn : n < s.regions.length) : ((setBypass n b s).region n).bypass = b := by
  unfold setBypass
  split
  · assumption
  · rw [State.region_updRegion_same s _ hn]

theorem setBypass_ne {n m : Nat} (b : Bool) (s : State) (h : n ≠ m) : (setBypass n b s).region m = s.region m := by
  unfold setBypass
  split
  · rfl
  · exact State.region_updRegion_ne s _ h

section
variable {s : State} {ch : ChanId} {n : Nat} {val : List Byte}

theorem regionTargetWrite_aims (hn : n < 256) (hlen : n < s.regions.length) (h : s.takes ch (0x4100 + n) 2 val)
    (hmax : (leVal val : Int) ≤ s.targetMax) : Answers (.regionTargetWrite ch n val) s (fun t =>
      t.doneOn ch ∧ ∃ now, s.regionBecomes t n ((s.region n).aimed (leVal val) now)) := by
  refine answers_of_regionWrite (g := fun v => bumpTile (n / 64) (setTarget1 n (leVal val) v)) rfl hn (by decide) h (fun v hv => ?_)
    fun v t hv hdone ht => ⟨hdone, v.aon.clock, State.regionBecomes_of_updRegion ht hv.regions hlen⟩
  rw [shimsWrite_target _ _ _ hn, hv.targetMax, decide_eq_true hmax]
  rfl

theorem regionModeWrite_sets (hn : n < 256) (hlen : n < s.regions.length) (h : s.takes ch (0x4100 + n) 1 val) :
    Answers (.regionModeWrite ch n val) s (fun t =>
      t.doneOn ch ∧ (t.region n).bypass = decide (leVal val = 1) ∧ ∀ m, m ≠ n → t.region m = s.region m) := by
  refine answers_of_regionWrite (g := fun v => bumpTile (n / 64) (setBypass n (decide (leVal val = 1)) v)) rfl hn (by decide) h
    (fun v _ => ?_) fun v t hv hdone ht => ⟨hdone, ?_, fun m hm => ?_⟩
  · rw [shimsWrite_mode _ _ _ hn]
    simp only [Nat.cast_eq_one]
  · exact (congrArg Region.bypass (State.region_of_regions (s := setBypass n _ v) ht n)).trans
      (setBypass_self _ (hv.regions ▸ hlen))
  · exact (State.region_of_regions (s := setBypass n _ v) ht m).trans ((setBypass_ne _ v hm.symm).trans (hv.region m))

/-! Trims and kerf tests (R279, R280). -/

/-- The value of a trim's two bytes. -/
theorem trimRow_value {kerf : Bool} (hf : (trimRow kerf).ty.fits val.length = true) :
    (trimRow kerf).rg.clip ((trimRow kerf).ty.num val) = sx 16 (leVal val) := by
  have hlen : val.length = 2 := by
    cases kerf <;> simpa [trimRow, Ty.fits, Ty.size, eq_comm] using hf
  have hnum : sx (8 * val.length) (leVal val) = sx 16 (leVal val) := by rw [hlen]
  cases kerf <;> exact hnum

theorem trimWrite_stores (kerf : Bool) (hn : n < 256) (hlen : n < s.regions.length)
    (h : s.takes ch (0x4100 + n) (if kerf then 7 else 6) val) : Answers (.trimWrite ch n kerf val) s (fun t =>
      t.doneOn ch ∧ t.num (0x4100 + n) (if kerf then 7 else 6) = sx 16 (leVal val) ∧
      (kerf = false → (t.region n).devStop = false)) := by
  have hr := dictRow_trim hn kerf
  have hkey : okey 0x1020 1 ≠ okey (0x4100 + n) (if kerf then 7 else 6) := by
    unfold okey
    split <;> omega
  refine answers_of_shimsWrite rfl h hr (by cases kerf <;> rfl) (by omega) (by omega) (fun v _ => shimsWrite_trim _ _ v hn kerf)
    fun v t hv hdone hregions hobj => ⟨hdone, ?_, fun hk => ?_⟩
  · rw [num_of_served hobj hkey, ← trimRow_value (h.fits hr)]
    cases kerf <;> exact State.num_put_same v _ _ _
  · subst hk
    exact congrArg Region.devStop (State.regionBecomes_of_updRegion hregions hv.regions hlen).1

theorem kerfTestStart_starts (hn : n < 256) (hlen : n < s.regions.length) (h : s.takes ch (0x4100 + n) 0x0A val)
    (hidle : (s.region n).testLeft = none) : Answers (.kerfTestStart ch n val) s (fun t =>
      t.doneOn ch ∧ t.region n = { s.region n with testLeft := some (s.pn 0x4001 6), testCnt := 0 }) := by
  refine answers_of_regionWrite
    (g := fun v => v.updRegion n (fun r => { r with testLeft := some (v.pn 0x4001 6), testCnt := 0 })) rfl hn (by decide) h
    (fun v hv => ?_) fun v t hv hdone ht => ⟨hdone, ?_⟩
  · rw [shimsWrite_test _ _ _ hn, hv.region, hidle]
    rfl
  · rw [(State.regionBecomes_of_updRegion ht hv.regions hlen).1, hv.pn (by omega)]

end

/-! A tile of the setpoint map (R281, R286). -/

/-- What code j of a tile does to its region (R281). -/
def tileRound (w : Nat) (b : List Byte) (j : Nat) (s : State) : State :=
  let c := (b.getD j 0xFF).toNat
  if c = 0xFF then s else if c = 0xFE then setBypass (64 * w + j) true s else setTarget1 (64 * w + j) (550 + 5 * c) s

theorem writeTile_regions (w : Nat) (b : List Byte) (s : State) :
    (writeTile w b s).regions = (forEach (List.range 64) (tileRound w b) s).regions := rfl

theorem tileRound_ne {w i j : Nat} (b : List Byte) (s : State) (h : i ≠ j) :
    (tileRound w b i s).region (64 * w + j) = s.region (64 * w + j) := by
  unfold tileRound
  dsimp only
  split
  · rfl
  · split
    · exact setBypass_ne _ s (by omega)
    · exact State.region_updRegion_ne s _ (by omega)

theorem tileRound_length (w : Nat) (b : List Byte) (j : Nat) (s : State) :
    (tileRound w b j s).regions.length = s.regions.length := by
  unfold tileRound
  dsimp only
  split
  · rfl
  · split
    · exact view_regions_length (setBypass_view (k := 0) (Nat.zero_and _) ..)
    · exact view_regions_length (setTarget1_view (k := 0) (Nat.zero_and _) ..)

/-- A tile's write does to what g reads of a region what the region's own code does. -/
theorem writeTile_region {α : Type} {g : Region → α} {φ : α → α} {w j : Nat} {b : List Byte} (hj : j < 64)
    (hself : ∀ t : State, 64 * w + j < t.regions.length →
      g ((tileRound w b j t).region (64 * w + j)) = φ (g (t.region (64 * w + j))))
    {s : State} (hlen : 64 * w + j < s.regions.length) :
    g ((writeTile w b s).region (64 * w + j)) = φ (g (s.region (64 * w + j))) := by
  rw [State.region_of_regions (writeTile_regions w b s)]
  exact forEach_once (x := fun t => g (t.region (64 * w + j))) (Q := fun t => 64 * w + j < t.regions.length) List.nodup_range
    (List.mem_range.mpr hj) (fun i t ht => by rwa [tileRound_length]) (fun i t hi => congrArg g (tileRound_ne b t hi)) hself hlen

section
variable {w j : Nat} {b : List Byte} {s : State} (hj : j < 64) (hlen : 64 * w + j < s.regions.length)
include hj hlen

theorem writeTile_blank (hc : (b.getD j 0xFF).toNat = 0xFF) : (writeTile w b s).region (64 * w + j) = s.region (64 * w + j) :=
  writeTile_region (g := id) (φ := id) hj (fun t _ => by rw [tileRound, if_pos hc]; rfl) hlen

theorem writeTile_bypass (hc : (b.getD j 0xFF).toNat = 0xFE) : ((writeTile w b s).region (64 * w + j)).bypass = true :=
  writeTile_region (g := (·.bypass)) (φ := fun _ => true) hj (fun t ht => by
    rw [tileRound, if_neg (by omega), if_pos hc]
    exact setBypass_self true ht) hlen

theorem writeTile_target (hc : (b.getD j 0xFF).toNat ≤ 80) :
    ((writeTile w b s).region (64 * w + j)).target = 550 + 5 * (b.getD j 0xFF).toNat ∧
    ((writeTile w b s).region (64 * w + j)).bypass = (s.region (64 * w + j)).bypass :=
  Prod.mk.inj (writeTile_region (g := fun r => (r.target, r.bypass)) (φ := fun x => (550 + 5 * (b.getD j 0xFF).toNat, x.2)) hj
    (fun t ht => by
      rw [tileRound, if_neg (by omega), if_neg (by omega), setTarget1_eq, State.region_updRegion_same t _ ht]
      rfl) hlen)

end

theorem dictRow_tile : ∀ {w}, w < 4 → dictRow (0x4010 + w) 0 =
    some ⟨0x4010, 4, 0x00, 1, .dom 64 64 1, 0x2202, 0, .any, .boot, 6, false⟩ := by decide

theorem shimsWrite_tile {w : Nat} (v : Int) (b : List Byte) (s : State) (hw : w < 4) :
    shimsWrite (0x4010 + w) 0 v b s = needRange (s.tileInRange b) (.ok (writeTile w b s)) := by
  unfold shimsWrite
  rw [if_pos (by simp; omega), Nat.add_sub_cancel_left]

theorem setpointMapTileWrite_flips {s : State} {ch : ChanId} {w : Nat} {val : List Byte} (hw : w < 4)
    (h : s.takes ch (0x4010 + w) 0 val) (hin : s.tileInRange val = true) : Answers (.setpointMapTileWrite ch w val) s (fun t =>
      t.doneOn ch ∧ ∃ v : State, v.regions = s.regions ∧ t.regions = (writeTile w val v).regions) := by
  refine answers_of_shimsWrite (g := writeTile w val) rfl h (dictRow_tile hw) rfl (by omega) (by omega) (fun v hv => ?_)
    fun v t hv hdone hregions _ => ⟨hdone, v, hv.regions, hregions⟩
  rw [shimsWrite_tile _ _ _ hw, hv.tileInRange, hin]
  rfl

/-- Settles O35: each write by what the shims' chapter makes of its region; a tile by its rounds, one for each region. -/
theorem regionWrites : Obligations.RegionWrites := by
  unfold Obligations.RegionWrites
  refine ⟨fun ch n val s hn hlen h hmax => ?target, fun ch n val s hn hlen h => regionModeWrite_sets hn hlen h,
    fun ch w val s hw hlen h hin => ?tile, fun ch n kerf val s hn hlen h => trimWrite_stores kerf hn hlen h,
    fun ch n val s hn hlen h hidle => kerfTestStart_starts hn hlen h hidle⟩
  case target =>
    refine answers_mono (regionTargetWrite_aims hn hlen h hmax) fun t ⟨hdone, now, hself, hothers⟩ => ?_
    rw [hself]
    exact ⟨hdone, rfl, rfl, hothers⟩
  case tile =>
    refine answers_mono (setpointMapTileWrite_flips hw h hin) fun t ⟨hdone, v, hv, ht⟩ => ⟨hdone, fun j hj => ?_⟩
    have hv' : 64 * w + j < v.regions.length := by rw [hv]; omega
    dsimp only
    rw [State.region_of_regions ht, ← State.region_of_regions hv]
    exact ⟨writeTile_blank hj hv', writeTile_bypass hj hv', writeTile_target hj hv'⟩

end Sys2Proof.Machine

/-! States that meet the premises of the clauses of O33 to O35. -/

namespace Sys2Proof.Machine

open Sys2Proof

/-- A device in service. Region 0 regulates below its target, holds a preload, has been short of segments for 64 cycles and is at the
end of a kerf test; region 1 is in bypass; region 2 regulates above its target, with its preload armed and a wait for headroom. -/
def State.shimsInService : State :=
  { State.inService with
    aon := { State.inService.aon with ctlReleased := true }
    regions :=
      [{ regulating := true, armed := true, seg := 100, target := 800, ref := 700, refOld := 700, preN := 5, satRun := 64,
         lowFrom := some 0, testLeft := some 0 },
       { bypass := true, seg := 120 },
       { regulating := true, target := 700, ref := 800, refOld := 800, preArmed := true, preN := 5, upAt := some 0 }] ++
        List.replicate 253 {}
    shim := { boost := true, hold := true }
    clk := { State.inService.clk with running := true } }

/-- The same while region 0 stretches at level 1. -/
def State.shimsStretching : State :=
  { State.shimsInService with
    regions := { regulating := true, armed := true, str := true, strLevel := 1, amt := 1 } :: State.shimsInService.regions.tail }

theorem shimsInService_has {n : Nat} (h : n < 256) : n < State.shimsInService.regions.length := by
  simpa [State.shimsInService, -List.reduceReplicate] using h

theorem shimsStretching_has {n : Nat} (h : n < 256) : n < State.shimsStretching.regions.length := by
  simpa [State.shimsStretching, State.shimsInService, -List.reduceReplicate] using h

theorem shimsInService_takes {i sub : Nat} {val : List Byte} (h : State.shimsInService.writePasses .mgt i sub val = true) :
    State.shimsInService.takes .mgt i sub val := ⟨⟨rfl, rfl, rfl⟩, by decide, h⟩

/-- O33 at a supply of 0.6 V under a reference of 0.7 V. -/
theorem shimsInService_adds : Answers (.shimControlCycle 0 600000) State.shimsInService (fun t => (t.region 0).seg = 104) :=
  answers_mono (shimControlCycle_cycles 600000 (shimsInService_has (by decide)) rfl rfl (.inr rfl)) fun _
    ⟨r, ⟨hself, _⟩, hseg, _⟩ => by rw [hself, hseg]; decide

/-- O33 at the region in bypass. -/
theorem shimsInService_bypasses : Answers (.shimControlCycle 1 600000) State.shimsInService (fun t => (t.region 1).seg = 124) :=
  answers_mono (shimControlCycle_cycles 600000 (shimsInService_has (by decide)) rfl rfl (.inl rfl)) fun _
    ⟨r, ⟨hself, _⟩, hseg, _⟩ => by rw [hself, hseg]; decide

/-- O33 at a step upwards. -/
theorem shimsInService_raises : Answers (.shimRefStep 0) State.shimsInService (fun t => (t.region 0).ref = 705) :=
  answers_mono (shimRefStep_raises (shimsInService_has (by decide)) rfl rfl rfl (by decide) rfl) fun _ ⟨h, _⟩ => h

/-- O33 at a step downwards. -/
theorem shimsInService_lowers : Answers (.shimRefStep 2) State.shimsInService (fun t => (t.region 2).ref = 795) :=
  shimRefStep_lowers (shimsInService_has (by decide)) rfl rfl rfl (by decide) rfl rfl

/-- O33 at the region that is short of segments. -/
theorem shimsInService_saturates : Answers (.shimSaturation 0) State.shimsInService (fun t => (t.region 0).sat = true) :=
  answers_mono (shimSaturation_boosts (shimsInService_has (by decide)) (by decide) rfl) fun _ ⟨h, _⟩ => h

/-- No region is saturated and none stretches. -/
theorem shimsInService_quiet : ∀ r ∈ State.shimsInService.regions, r.sat = false ∧ r.str = false := by
  simp [State.shimsInService, -List.reduceReplicate]

/-- O33 at the end of the boost. -/
theorem shimsInService_endsBoost : Answers .boostHoldExpiry State.shimsInService (fun t => t.shim.boost = false) :=
  answers_mono (boostHoldExpiry_ends rfl fun r hr => (shimsInService_quiet r hr).1) fun _ ⟨h, _⟩ => by rw [h]

/-- O33 at the wait for headroom. -/
theorem shimsInService_endsWait : Answers (.headroomWaitExpiry 2) State.shimsInService (fun t => (t.region 2).upAt = none) :=
  answers_mono (headroomWaitExpiry_ends (a := 0) (shimsInService_has (by decide)) rfl rfl) fun _ ⟨h, _⟩ => h

/-- O33 at the preload that has not armed. -/
theorem shimsInService_arms : Answers (.preloadArm 0) State.shimsInService (fun t => (t.region 0).preArmed = true) :=
  answers_mono (preloadArm_arms (shimsInService_has (by decide)) (by decide) rfl) fun _ h => by rw [h]

/-- O33 at the armed preload, which never acted. -/
theorem shimsInService_disarms : Answers (.preloadDisarm 2) State.shimsInService (fun t => bit t.shim.flags 5 = true) :=
  answers_mono (preloadDisarm_disarms (shimsInService_has (by decide)) rfl) fun _ ⟨_, h⟩ => h rfl

/-- O33 at a reading of 0.9 V. -/
theorem shimsInService_reads : Answers (.regionMonitorConversion 900) State.shimsInService (fun t => (t.region 0).mon = 900) :=
  answers_mono (regionMonitorConversion_reads 900 rfl rfl (shimsInService_has (by decide))) fun _ ⟨h, _⟩ => h

/-- O33 at the end of the kerf test. -/
theorem shimsInService_endsTest : Answers (.kerfTestEnd 0) State.shimsInService (fun t => (t.region 0).testLeft = none) :=
  answers_mono (kerfTestEnd_ends (shimsInService_has (by decide)) rfl) fun _ ⟨h, _⟩ => by rw [h]

/-- O34 at a crossing. -/
theorem shimsInService_stretches : Answers (.kerfCrossing 0) State.shimsInService (fun t => (t.region 0).str = true) :=
  answers_mono (kerfCrossing_stretches (shimsInService_has (by decide)) rfl rfl) fun _ ⟨⟨h, _⟩, _⟩ => by rw [h]; rfl

/-- O34 at level 3 of the stretch. -/
theorem shimsStretching_deepens : Answers (.kerfLevelRaise 0 3) State.shimsStretching (fun t => (t.region 0).strLevel = 3) :=
  answers_mono (kerfLevelRaise_deepens (shimsStretching_has (by decide)) rfl (by decide) (by decide))
    fun _ ⟨_, _, h, _⟩ => by rw [h]; rfl

/-- O34 at the end of the stretch. -/
theorem shimsStretching_relaxes : Answers (.kerfStretchEnd 0) State.shimsStretching (fun t => (t.region 0).str = false) :=
  answers_mono (kerfStretchEnd_relaxes (shimsStretching_has (by decide)) rfl rfl)
    fun _ ⟨⟨_, _, _, h, _⟩, _⟩ => by rw [h]; rfl

/-- O34 at the stretch hold. -/
theorem shimsInService_clearsHold : Answers .stretchHoldClear State.shimsInService (fun t => t.shim.hold = false) :=
  answers_mono (stretchHoldClear_clears rfl (fun r hr => (shimsInService_quiet r hr).2) rfl) fun _ ⟨h, _⟩ => by rw [h]

/-- O34 at the region whose supply stays low. -/
theorem shimsInService_isLow : Answers (.shimLow 0) State.shimsInService (fun t => bit t.shim.flags 1 = true) :=
  answers_mono (shimLow_raises (a := 0) (by decide) rfl rfl) fun _ ⟨_, h⟩ => h

/-- O34 at the armed region. -/
theorem shimsInService_overDuty : Answers (.kerfDuty 0) State.shimsInService (fun t => bit t.shim.flags 2 = true) :=
  answers_mono (kerfDuty_raises (by decide) rfl (by decide) rfl rfl) fun _ ⟨_, h⟩ => h

/-- O35 at a target of 600 mV. -/
theorem shimsInService_aims : Answers (.regionTargetWrite .mgt 0 [0x58, 2]) State.shimsInService (fun t =>
    (t.region 0).target = 600) :=
  answers_mono (regionTargetWrite_aims (val := [0x58, 2]) (by decide) (shimsInService_has (by decide))
    (shimsInService_takes (by decide)) (by decide))
    fun _ ⟨_, _, h, _⟩ => by rw [h]; rfl

/-- O35 at the mode of region 0. -/
theorem shimsInService_setsMode : Answers (.regionModeWrite .mgt 0 [1]) State.shimsInService (fun t =>
    (t.region 0).bypass = true) :=
  answers_mono (regionModeWrite_sets (val := [1]) (by decide) (shimsInService_has (by decide))
    (shimsInService_takes (by decide))) fun _ ⟨_, h, _⟩ => h

/-- O35 at a tile of which region 0 alone changes, to 600 mV. -/
theorem shimsInService_flips : Answers (.setpointMapTileWrite .mgt 0 (10 :: List.replicate 63 0xFF)) State.shimsInService (fun t =>
    (t.region 0).target = 600) :=
  answers_mono (setpointMapTileWrite_flips (val := 10 :: List.replicate 63 0xFF) (by decide) (shimsInService_takes (by decide))
    (by decide)) fun _ ⟨_, v, hv, ht⟩ => by
      rw [State.region_of_regions ht]
      exact (writeTile_target (w := 0) (j := 0) (by decide) (hv ▸ shimsInService_has (by decide)) (by decide)).1

/-- O35 at a shim trim of -1 mV. -/
theorem shimsInService_trims : Answers (.trimWrite .mgt 0 false [0xFF, 0xFF]) State.shimsInService (fun t => t.num 0x4100 6 = -1) :=
  answers_mono (trimWrite_stores (val := [0xFF, 0xFF]) false (by decide) (shimsInService_has (by decide))
    (shimsInService_takes (by decide)))
    fun _ ⟨_, h, _⟩ => h

/-- O35 at a kerf test of region 1. -/
theorem shimsInService_tests : Answers (.kerfTestStart .mgt 1 [1]) State.shimsInService (fun t =>
    (t.region 1).testLeft = some 1000) :=
  answers_mono (kerfTestStart_starts (val := [1]) (by decide) (shimsInService_has (by decide))
    (shimsInService_takes (by decide)) rfl)
    fun _ ⟨_, h⟩ => by rw [h]; decide

end Sys2Proof.Machine

/-! What a fault and the passage of time leave of the clocks (R221, R575). -/

namespace Sys2Proof.Machine

open Sys2Proof

/-! A fault stops TCLK_OUT and the move in progress at most (R221, R299). -/

/-- The clocks, were TCLK_OUT stopped and no move in progress. -/
def Clk.halted (c : Clk) : Clk := { c with running := false, moving := false, moveStage := 0, stops := [] }

/-- What is not of TCLK_OUT nor of the move is read of the halted clocks. -/
theorem Clk.keeps_of_halted {α : Type} (g : Clk → α) (hg : ∀ c, g c.halted = g c) {c d : Clk} (h : c.halted = d.halted) :
    g c = g d := by rw [← hg c, h, hg]

theorem safeRail_clk (k code : Nat) (s : State) : (safeRail k code s).clk = s.clk := by
  refine (view_clk (k := 1024) ((State.updRail_view (k := 1024) (by decide) ..).trans ((stopFiring_view (by decide) ..).trans
    (endGroupMove_view (by decide) ..))) (by decide)).trans ?_
  split
  · exact view_clk (leaveRegulation_view (k := 1024) (by decide) k s) (by decide)
  · rfl

theorem loseSelf_clk (s : State) : (loseSelf s).clk = s.clk := view_clk (loseSelf_view (k := 1024) (by decide) s) (by decide)

theorem enterSafe_halted (k code : Nat) (s : State) : (enterSafe k code s).clk.halted = s.clk.halted := by
  by_cases h : s.railUsed k = false ∨ (s.rail k).state = 5
  · rw [enterSafe_none code h]
  · obtain ⟨hu, h5⟩ := not_or.mp h
    rw [enterSafe_eq code (by simpa using hu) h5, ← safeRail_clk k code s]
    dsimp only
    split
    · rw [loseSelf_clk]
      split <;> rfl
    · split <;> rfl

theorem shutdown_halted (code : Nat) (s : State) : (shutdown code s).clk.halted = s.clk.halted := by
  rw [shutdown_eq, loseSelf_clk]
  have h : (railsShut code s).clk.halted = s.clk.halted := by
    unfold railsShut
    exact forEach_keeps (P := fun t => t.clk.halted = s.clk.halted) _ (fun k t ht => (enterSafe_halted k code t).trans ht) rfl
  generalize railsShut code s = u at h ⊢
  exact h

theorem protect_halted (c code sev item : Nat) (s : State) : (protect c code sev item s).clk.halted = s.clk.halted := by
  unfold protect
  split
  · rw [view_clk (postFor_view (k := 1024) (by decide) ..) (by decide)]
  · split
    · exact enterSafe_halted ..
    · split
      · exact shutdown_halted ..
      · rfl

theorem protectEscalated_halted (c code sev : Nat) (s : State) :
    (protectEscalated c code sev s).clk.halted = s.clk.halted := by
  unfold protectEscalated
  split
  · rw [view_clk (postEscalated_view (k := 1024) (by decide) ..) (by decide)]
  · split
    · exact enterSafe_halted ..
    · split
      · exact shutdown_halted ..
      · rfl

theorem secondFault_halted (c : Nat) (a : Fault_) (code sev phase item arg1 : Nat) (s : State) :
    (secondFault c a code sev phase item arg1 s).clk.halted = s.clk.halted := by
  unfold secondFault
  extract_lets v esc u full b u1 u2 u3 fl u4 u5 u6
  have hu : u.clk.halted = s.clk.halted := by
    simp only [u]
    split
    · exact protectEscalated_halted ..
    · rfl
  have h1 : u1.view 1024 = u.view 1024 := State.updCtx_view (by decide) ..
  have h2 : u2.view 1024 = u1.view 1024 := by
    simp only [u2]
    split
    · exact State.bump32_view (by decide) ..
    · rfl
  have h3 : u3.view 1024 = u2.view 1024 := (faultEvent_view (by decide) ..).trans (notify_view (by decide) ..)
  have h4 : u4.view 1024 = u3.view 1024 := by
    simp only [u4]
    split
    · exact retain_view (by decide) ..
    · rfl
  have h6 : u6.view 1024 = u4.view 1024 := (markRailFlt_view (by decide) ..).trans (retain_view (by decide) ..)
  rw [view_clk (k := 1024) ((faultEvent_view (by decide) ..).trans (h6.trans (h4.trans (h3.trans (h2.trans h1))))) (by decide), hu]

theorem updAccr_clk (s : State) : (updAccr s).clk = s.clk := view_clk (updAccr_view (k := 1024) (by decide) s) (by decide)

theorem raiseFault_halted (c code sev phase item arg1 : Nat) (s : State) :
    (raiseFault c code sev phase item arg1 s).clk.halted = s.clk.halted := by
  have hmark : (markRailFlt c code s).clk = s.clk := view_clk (markRailFlt_view (k := 1024) (by decide) ..) (by decide)
  have hprot := (protect_halted c code sev item (markRailFlt c code s)).trans (congrArg Clk.halted hmark)
  unfold raiseFault
  dsimp only
  split
  · rw [view_clk (faultEvent_view (k := 1024) (by decide) ..) (by decide), hmark]
  · split
    · rw [updAccr_clk, view_clk (firstFault_view (k := 1024) (by decide) ..) (by decide), hprot]
    · rw [updAccr_clk, secondFault_halted, hprot]

/-! The clocks as time passes (R575). -/

theorem advanceTiles_clk (n : Nat) (s : State) :
    ∃ c f, (advanceTiles n s).clk = { s.clk with tileCycles := c, tileFrac := f } := by
  unfold advanceTiles
  split
  · exact ⟨_, _, rfl⟩
  · split
    · exact elapse_clk _ s
    · split
      · exact ⟨_, _, rfl⟩
      · exact elapse_clk _ s

theorem advanceTiles_clk_keeps {α : Type} (g : Clk → α) (hg : ∀ c a f, g { c with tileCycles := a, tileFrac := f } = g c)
    (n : Nat) (s : State) : g (advanceTiles n s).clk = g s.clk := by
  obtain ⟨_, _, h⟩ := advanceTiles_clk n s
  rw [h, hg]

theorem advanceTo_clk_keeps {α : Type} (g : Clk → α) (hg : ∀ c a f, g { c with tileCycles := a, tileFrac := f } = g c)
    (d : Nat) (s : State) : g (advanceTo d s).clk = g s.clk := by
  obtain ⟨_, _, h⟩ := advanceTo_clk d s
  rw [h, hg]

end Sys2Proof.Machine

/-! The clock sources and their monitors (R291 to R295). -/

namespace Sys2Proof.Machine

open Sys2Proof

theorem State.src_of_clk {s t : State} (h : t.clk = s.clk) : t.src = s.src := by
  funext i
  cases i <;> simp only [State.src, h]

/-- The sources are monitored whether TCLK_OUT runs or not. -/
theorem State.src_of_halted {s t : State} (h : t.clk.halted = s.clk.halted) : t.src = s.src := by
  funext i
  cases i with
  | ref100 => exact Clk.keeps_of_halted Clk.ref100 (fun _ => rfl) h
  | xtal => exact Clk.keeps_of_halted Clk.xtal (fun _ => rfl) h
  | pllA => exact Clk.keeps_of_halted Clk.pllA (fun _ => rfl) h
  | pllB => exact Clk.keeps_of_halted Clk.pllB (fun _ => rfl) h
  | rc => exact Clk.keeps_of_halted Clk.rc (fun _ => rfl) h

theorem State.updSrc_src (s : State) (i : SrcId) (f : Src → Src) : (s.updSrc i f).src i = f (s.src i) := by
  cases i <;> rfl

/-! What follows a failure or a qualification changes no source. -/

theorem setClkFlag_src (n : Nat) (s : State) : (setClkFlag n s).src = s.src := by
  funext i
  cases i <;> rfl

theorem clockFault_src (code sev : Nat) (s : State) : (clockFault code sev s).src = s.src :=
  (State.src_of_halted (raiseFault_halted ..)).trans
    (State.src_of_clk (view_clk (assertNmi_view (k := 1024) (by decide) s) (by decide)))

theorem tileToInt_src (s : State) : (tileToInt s).src = s.src := by
  unfold tileToInt
  rw [State.src_of_clk (updAccr_clk _), clockFault_src]
  funext i
  cases i <;> rfl

theorem engToInt_src (s : State) : (engToInt s).src = s.src := by
  unfold engToInt
  rw [State.src_of_clk (updAccr_clk _), clockFault_src]
  funext i
  cases i <;> rfl

theorem refFail_src (s : State) : (refFail s).src = s.src := by
  have hcount : ((setClkFlag 2 s).bump32 0x2200 7).src = s.src := setClkFlag_src 2 s
  unfold refFail
  extract_lets other u
  split
  · exact (clockFault_src ..).trans hcount
  · rw [clockFault_src, clockFault_src, ← hcount]
    funext i
    cases i <;> rfl

theorem pllFail_src (b : Bool) (s : State) : (pllFail b s).src = s.src := by
  unfold pllFail
  extract_lets eng tile u v w
  have hv : v.src = s.src := by
    simp only [v]
    split <;> exact setClkFlag_src _ s
  have hw : w.src = s.src := by
    simp only [w]
    split
    · exact (tileToInt_src v).trans hv
    · exact hv
  split
  · exact (engToInt_src w).trans hw
  · exact hw

/-- A source that has failed. -/
def Src.lost (q : Src) : Src := { q with ok := false, good := 0, failed := true }

/-- A source that has qualified. -/
def Src.found (q : Src) : Src := { q with ok := true, failed := false }

/-- A source after a monitor window that was good or bad (R291). -/
def Src.measured (khz : Nat) (good : Bool) (q : Src) : Src := { q with freq := khz, good := if good then min 5 (q.good + 1) else 0 }

theorem srcFail_src (i : SrcId) (s : State) : (srcFail i s).src i = (s.src i).lost := by
  rw [← State.updSrc_src s i Src.lost]
  refine congrFun ?_ i
  unfold srcFail
  cases i with
  | ref100 | xtal =>
    dsimp only
    split
    · exact refFail_src _
    · rfl
  | pllA | pllB => exact pllFail_src _ _
  | rc => exact (clockFault_src ..).trans (setClkFlag_src ..)

theorem srcQualify_src (i : SrcId) (s : State) : (srcQualify i s).src i = (s.src i).found := by
  rw [← State.updSrc_src s i Src.found]
  refine congrFun ?_ i
  unfold srcQualify
  dsimp only
  split
  · rw [State.src_of_clk (view_clk (clearFault_view (k := 1024) (by decide) ..) (by decide))]
    funext j
    cases j <;> rfl
  · rfl

/-- The fifth good window in a row qualifies a source (R291). -/
theorem srcWindow_fifth {i : SrcId} {khz : Nat} {s : State} (hw : s.srcWatched i = true) (hg : s.srcGood i khz = true)
    (h4 : (s.src i).good = 4) (hok : (s.src i).ok = false) :
    (srcWindow i khz s).src i = ((s.src i).measured khz true).found := by
  have hsrc : (s.updSrc i (Src.measured khz true)).src i = (s.src i).measured khz true := s.updSrc_src i _
  have h5 : ((s.updSrc i (Src.measured khz true)).src i).good = 5 := by
    rw [hsrc]
    simp [Src.measured, h4]
  have heq : srcWindow i khz s = srcQualify i (s.updSrc i (Src.measured khz true)) := by
    unfold srcWindow
    rw [hw, hg, hok]
    refine (if_neg (by decide)).trans ((if_pos rfl).trans (if_pos ?_))
    exact Bool.and_eq_true_iff.mpr ⟨decide_eq_true h5, rfl⟩
  rw [heq, srcQualify_src, hsrc]

/-- A bad window fails a qualified source, and any other counts afresh (R291). -/
theorem srcWindow_bad {i : SrcId} {khz : Nat} {s : State} (hw : s.srcWatched i = true) (hg : s.srcGood i khz = false) :
    (srcWindow i khz s).src i =
      if (s.src i).ok then ((s.src i).measured khz false).lost else (s.src i).measured khz false := by
  have heq : srcWindow i khz s = if (s.src i).ok then srcFail i (s.updSrc i (Src.measured khz false))
      else s.updSrc i (Src.measured khz false) := by
    unfold srcWindow
    rw [hw, hg]
    rfl
  rw [heq]
  split
  · rw [srcFail_src, State.updSrc_src]
  · exact s.updSrc_src i _

end Sys2Proof.Machine

/-! The moves of the sequencer, of the divider and of the skip count (R289, R290, R298 to R300). -/

namespace Sys2Proof.Machine

open Sys2Proof

/-- The beginning of a move reaches the sequencer's own fields alone (R298). -/
theorem seqBegin_clk_keeps {α : Type} (g : Clk → α) (hg : ∀ c a p u k q,
    g { c with moving := a, movePoint := p, moveUp := u, moveStage := k, mSeq := q } = g c) (s : State) :
    g (seqBegin s).clk = g s.clk := by
  unfold seqBegin
  split
  · exact hg ..
  · rfl

theorem seqDivided_m (s : State) : (seqDivided s).clk.m = s.clk.m := by
  unfold seqDivided
  split
  · split
    · exact seqBegin_clk_keeps Clk.m (fun _ _ _ _ _ _ => rfl) _
    · rfl
  · rfl

theorem seqBegin_tileStopped (s : State) : (seqBegin s).tileStopped = s.tileStopped :=
  seqBegin_clk_keeps (fun c => !c.running || c.stopHeld || c.tripHeld) (fun _ _ _ _ _ _ => rfl) s

theorem advanceTiles_divGoal (n : Nat) (s : State) : (advanceTiles n s).divGoal = s.divGoal :=
  advanceTiles_clk_keeps (fun c => if c.immDiv then min 1023 (2 * c.mSeq) else c.mSeq) (fun _ _ _ => rfl) n s

theorem seqBegin_moving {s : State} (h : s.clk.moving = true) : seqBegin s = s := if_neg (by simp [h])

/-- With the target in force the sequencer begins nothing. -/
theorem seqBegin_arrived {s : State} (h : s.clk.target = s.clk.point) : seqBegin s = s := if_neg (by simp [h])

/-! Divider and skip steps. -/

/-- The divider after a step at the present tile cycle (R289). -/
def State.divided (s : State) : State :=
  { s with clk := { s.clk with m := divStep s.clk.m s.divGoal, divAt := s.clk.tileCycles } }

/-- A divider that nothing holds takes its step (R289). -/
theorem dividerStep_eq {s : State} (hrun : s.tileStopped = false) (hint : s.clk.tileInt = false) (hhold : s.shim.hold = false)
    (hm : s.clk.m ≠ (seqBegin s).divGoal) :
    dividerStep s = seqDivided (advanceTiles ((seqBegin s).clk.divAt + 64) (seqBegin s)).divided := by
  have hrun' := (seqBegin_tileStopped s).trans hrun
  have hshim : (advanceTiles ((seqBegin s).clk.divAt + 64) (seqBegin s)).shim = s.shim :=
    (advanceTiles_shim ..).trans (view_shim (seqBegin_view (k := 512) (by decide) s) (by decide))
  have hint' := (seqBegin_clk_keeps Clk.tileInt (fun _ _ _ _ _ _ => rfl) s).trans hint
  have hm' : (seqBegin s).clk.m ≠ (seqBegin s).divGoal := by rwa [seqBegin_clk_keeps Clk.m fun _ _ _ _ _ _ => rfl]
  unfold dividerStep
  dsimp only
  rw [if_neg (by simp [hrun', hint', hm']), if_neg (by simp [hshim, hhold])]
  rfl

theorem dividerStep_m {s : State} (hrun : s.tileStopped = false) (hint : s.clk.tileInt = false) (hhold : s.shim.hold = false)
    (hm : s.clk.m ≠ (seqBegin s).divGoal) : (dividerStep s).clk.m = divStep s.clk.m (seqBegin s).divGoal := by
  rw [dividerStep_eq hrun hint hhold hm, seqDivided_m]
  show divStep _ _ = _
  rw [advanceTiles_divGoal, advanceTiles_clk_keeps Clk.m fun _ _ _ => rfl, seqBegin_clk_keeps Clk.m fun _ _ _ _ _ _ => rfl]

/-- The step moves M alone of what the divider drives: rails and regions stay (R289). -/
theorem dividerStep_steps {s : State} (hrun : s.tileStopped = false) (hint : s.clk.tileInt = false) (hhold : s.shim.hold = false)
    (hm : s.clk.m ≠ (seqBegin s).divGoal) : Answers .dividerStep s (fun t =>
      t.clk.m = divStep s.clk.m (seqBegin s).divGoal ∧ t.rails = s.rails ∧ t.regions = s.regions) := by
  have hview := execDividerStep_view (k := 272) (by decide) (s := s) rfl
  refine ⟨_, rfl, ?_, view_rails hview (by decide), view_regions hview (by decide)⟩
  rw [view_clk ((restarted_view (k := 1024) (by decide) _).trans (replan_view (by decide) _)) (by decide)]
  exact dividerStep_m hrun hint hhold hm

/-- The skip count moves by 1, downwards only while no stretch holds it (R290, R272). -/
theorem skipStep_steps {s : State} (hrun : s.tileStopped = false) (hint : s.clk.tileInt = false)
    (hgoal : s.clk.skip ≠ s.clk.skipGoal) (hheld : s.shim.hold = false ∨ s.clk.skip < s.clk.skipGoal) :
    Answers .skipStep s (fun t =>
      t.clk.skip = (if s.clk.skip < s.clk.skipGoal then s.clk.skip + 1 else s.clk.skip - 1) ∧ t.clk.m = s.clk.m) := by
  obtain ⟨_, _, hclk⟩ := advanceTiles_clk (s.clk.skipAt + 64) s
  have hfree : ¬((advanceTiles (s.clk.skipAt + 64) s).shim.hold &&
      !decide ((advanceTiles (s.clk.skipAt + 64) s).clk.skip < (advanceTiles (s.clk.skipAt + 64) s).clk.skipGoal)) = true := by
    rw [advanceTiles_shim, hclk]
    rcases hheld with h | h <;> simp [h]
  have hexec : exec .skipStep s = .next _ := congrArg Host.Outcome.next
    ((if_neg (by simp [hrun, hint, hgoal])).trans (if_neg hfree))
  refine ⟨_, hexec, ?_, ?_⟩
  · simp only [hclk, decide_eq_true_eq]
  · exact advanceTiles_clk_keeps Clk.m (fun _ _ _ => rfl) _ s

/-! The voltage step (R297, R298). -/

/-- The target of a region at a point is read of the rails, of their phases and of stored values (R261, R297). -/
theorem pointTarget_congr {s t : State} (hr : t.rails = s.rails) (hp : t.phases = s.phases) (hd : t.obj.doms = s.obj.doms)
    (hn : ∀ i, t.num i 1 = s.num i 1 ∧ t.num i 3 = s.num i 3) (p n : Nat) : t.pointTarget p n = s.pointTarget p n := by
  have hmax : t.targetMax = s.targetMax := by
    rw [State.targetMax, State.targetMax, State.core_congr hr hp, (hn _).1, (hn _).2]
  have hbase : t.pointBase p = s.pointBase p := by simp only [State.pointBase, State.pointTable, State.dom, hd]
  have hofs : t.regionOfs n = s.regionOfs n := by simp only [State.regionOfs, State.dom, hd]
  rw [State.pointTarget, State.pointTarget, hmax, hbase, hofs]

theorem advanceTo_pointTarget (d : Nat) (s : State) (p n : Nat) : (advanceTo d s).pointTarget p n = s.pointTarget p n :=
  pointTarget_congr (advanceTo_rails d s) (advanceTo_phases d s) (advanceTo_doms d s)
    (fun _ => ⟨advanceTo_num d s (by decide) (by decide), advanceTo_num d s (by decide) (by decide)⟩) p n

/-- A regulated region aims at its target of point p. -/
def aimRegion (p n : Nat) (s : State) : State := if (s.region n).bypass then s else setTarget1 n (s.pointTarget p n) s

/-- What the rounds of other regions leave to the round of region n. -/
def State.aimable (s : State) (n p goal : Nat) : Prop :=
  n < s.regions.length ∧ (s.region n).bypass = false ∧ s.pointTarget p n = goal

theorem aimRegion_ne {p n m : Nat} (s : State) (h : m ≠ n) : (aimRegion p m s).region n = s.region n := by
  unfold aimRegion
  split
  · rfl
  · exact State.region_updRegion_ne s _ h

theorem aimRegion_aims {p n goal : Nat} {s : State} (h : s.aimable n p goal) : ((aimRegion p n s).region n).target = goal := by
  obtain ⟨hlen, hreg, hgoal⟩ := h
  unfold aimRegion
  rw [hreg, hgoal, setTarget1_eq]
  exact congrArg Region.target (State.region_updRegion_same s _ hlen)

theorem aimRegion_aimable {p n goal : Nat} (m : Nat) {s : State} (h : s.aimable n p goal) :
    (aimRegion p m s).aimable n p goal := by
  unfold aimRegion
  split
  · exact h
  · obtain ⟨hlen, hreg, hgoal⟩ := h
    refine ⟨hlen.trans_eq (view_regions_length (setTarget1_view (k := 0) (Nat.zero_and _) ..)).symm, ?_, hgoal⟩
    exact (State.region_updRegion_keeps Region.bypass (f := Region.aimed _ _) (fun _ => rfl) s m n).trans hreg

theorem voltageStep_regions (p : Nat) (s : State) :
    (voltageStep p s).regions = (forEach (List.range 256) (aimRegion p) s).regions := by
  unfold voltageStep
  dsimp only
  exact (view_regions ((sramMove_view (k := 256) (by decide) ..).trans (forEach_view fun n t => bumpTile_view (by decide) n t))
    (by decide)).trans rfl

theorem voltageStep_aims {p n : Nat} {s : State} (hn : n < 256) (hlen : n < s.regions.length)
    (hreg : (s.region n).bypass = false) : ((voltageStep p s).region n).target = s.pointTarget p n := by
  rw [State.region_of_regions (voltageStep_regions p s)]
  exact forEach_once (x := fun t => (t.region n).target) (φ := fun _ => s.pointTarget p n)
    (Q := fun t => t.aimable n p (s.pointTarget p n)) List.nodup_range (List.mem_range.mpr hn)
    (fun m _ ht => aimRegion_aimable m ht) (fun _ t hm => congrArg Region.target (aimRegion_ne t hm))
    (fun _ ht => aimRegion_aims ht) ⟨hlen, hreg, rfl⟩

/-- A voltage step that is due is made at the next sample boundary (R298). -/
theorem exec_seqVoltageStep {s : State} (hdue : s.startDue = false) (hmov : s.clk.moving = true) (hstage : s.clk.moveStage = 0)
    (hfree : s.seqFree = true) (hhold : s.shim.hold = false) :
    exec .seqVoltageStep s = .next (voltageStep s.clk.movePoint (advanceTo ((s.aon.clock + 49) / 50 * 50) s)) := by
  have hpoint := advanceTo_clk_keeps Clk.movePoint (fun _ _ _ => rfl) ((s.aon.clock + 49) / 50 * 50) s
  show Host.Outcome.next (seqVoltage s) = _
  unfold seqVoltage
  dsimp only
  rw [seqBegin_moving hmov, if_neg (by simp [hdue]), if_pos (by simp [hmov, hstage, hfree]), if_neg (by simp [hhold]), hpoint]

theorem seqVoltageStep_aims {s : State} (hlen : s.regions.length = 256) (hdue : s.startDue = false) (hmov : s.clk.moving = true)
    (hstage : s.clk.moveStage = 0) (hfree : s.seqFree = true) (hhold : s.shim.hold = false) :
    Answers .seqVoltageStep s (fun t =>
      t.clk.moveStage = 1 ∧ ∀ n, n < 256 → (s.region n).bypass = false →
        (t.region n).target = s.pointTarget s.clk.movePoint n) := by
  refine ⟨_, exec_seqVoltageStep hdue hmov hstage hfree hhold, rfl, fun n hn hreg => ?_⟩
  rw [voltageStep_aims hn (by rw [advanceTo_regions]; omega) (by rwa [State.region_of_regions (advanceTo_regions ..)]),
    advanceTo_pointTarget]

/-! The end of a voltage step (R298). -/

/-- Upwards the divider follows the voltage. -/
theorem seqVoltageDone_divides {s : State} (hmov : s.clk.moving = true) (hstage : s.clk.moveStage = 1)
    (hdone : s.voltageDone = true) (hran : s.clk.everRan = true) (hup : s.clk.moveUp = true)
    (hm : s.clk.m ≠ s.pointDiv s.clk.movePoint) : Answers .seqVoltageDone s (fun t =>
      t.clk = { s.clk with moveStage := 2, mSeq := s.pointDiv s.clk.movePoint }) := by
  refine ⟨seqVoltageEnd s, rfl, ?_⟩
  unfold seqVoltageEnd
  rw [if_pos (by simp [hmov, hstage, hdone]), if_neg (by simp [hran]), if_pos hup]
  unfold seqDivided
  rw [if_neg (by simp [hm])]

/-- Downwards the point is in force. -/
theorem seqVoltageDone_arrives {s : State} (hmov : s.clk.moving = true) (hstage : s.clk.moveStage = 1)
    (hdone : s.voltageDone = true) (hran : s.clk.everRan = true) (hup : s.clk.moveUp = false)
    (htarget : s.clk.target = s.clk.movePoint) : Answers .seqVoltageDone s (fun t =>
      t.clk = { s.clk with point := s.clk.movePoint, moving := false, moveStage := 0 }) := by
  refine ⟨seqVoltageEnd s, rfl, ?_⟩
  unfold seqVoltageEnd
  rw [if_pos (by simp [hmov, hstage, hdone]), if_neg (by simp [hran]), if_neg (by simp [hup]), seqArrive,
    seqBegin_arrived htarget]

/-- The fault of a voltage step that has timed out, with its flag of CLK_STAT (R298, R305). -/
def State.voltageLate (s : State) : State :=
  raiseFault 6 0x0A06 1 0xFF 0xFFFF 0 (setClkFlag 4 (advanceTo (s.clk.voltAt + us (s.pn 0x2201 0x0A)) s))

theorem State.voltageLate_everRan (s : State) : s.voltageLate.clk.everRan = s.clk.everRan :=
  (Clk.keeps_of_halted Clk.everRan (fun _ => rfl) (raiseFault_halted ..)).trans
    (advanceTo_clk_keeps Clk.everRan (fun _ _ _ => rfl) _ s)

theorem State.voltageLate_flag (s : State) : bit s.voltageLate.clk.flags 4 = true :=
  (Clk.keeps_of_halted (fun c => bit c.flags 4) (fun _ => rfl) (raiseFault_halted ..)).trans (putBit_bit _ 4 true)

/-- A move that has timed out ends, and the sequencer waits for another request or ceiling (R298). -/
theorem vTimeout_blocks {s : State} (hmov : s.clk.moving = true) (hstage : s.clk.moveStage = 1)
    (hdone : s.voltageDone = false) (hran : s.clk.everRan = true) : Answers .vTimeout s (fun t =>
      t.clk.moving = false ∧ t.clk.moveStage = 0 ∧ t.clk.blocked = true ∧ bit t.clk.flags 4 = true) := by
  have hran' := s.voltageLate_everRan.trans hran
  have hexec : exec .vTimeout s = .next { s.voltageLate with clk := { s.voltageLate.clk with
      moving := false, moveStage := 0, blocked := true, sramPending := false } } := congrArg Host.Outcome.next
    ((if_pos (by simp [hmov, hstage, hdone])).trans (if_neg (c := (!s.voltageLate.clk.everRan) = true) (by simp [hran'])))
  exact ⟨_, hexec, rfl, rfl, rfl, s.voltageLate_flag⟩

/-- TCLK_OUT starts at the restart divider (R299, R300). -/
theorem tclkStart_starts {s : State} (h : s.tclkMayStart = true) : Answers .tclkStart s (fun t =>
    t.clk.running = true ∧ t.clk.everRan = true ∧ t.clk.stops = [] ∧ t.clk.m = s.startM) := by
  refine ⟨_, if_pos h, ?_⟩
  dsimp only
  rw [view_clk (replan_view (k := 1024) (by decide) _) (by decide)]
  exact (seqBegin_clk_keeps (fun c => c.running = true ∧ c.everRan = true ∧ c.stops = [] ∧ c.m = s.startM)
    (fun _ _ _ _ _ _ => rfl) _).mpr ⟨rfl, rfl, rfl, rfl⟩

end Sys2Proof.Machine

/-! Writes of the clocks' objects (R294, R298). -/

namespace Sys2Proof.Machine

open Sys2Proof

/-! From a whole write of a plain row to the object's write (R96, R117). -/

section
variable {s : State} {ch : ChanId} {i sub : Nat} {val : List Byte} (h : s.takes ch i sub val)
  (hp : (dictRow i sub).all Row.plain = true) (h53 : i ≠ 0x5300) (h26 : ¬(0x2620 ≤ i ∧ i < 0x2628))
  (hb : ∀ (v : State) n, v.budgetRec i sub n = none)
include h hp h53 h26 hb

/-- The state in which the write is served, and the answer that the object's write comes to in it. -/
theorem clWhole_plain : ∃ v, v.servesOn s ch ∧ (∀ t, (∀ w, objWrite w i sub (leVal val) val v = .ok t) →
      clWhole ch i sub val s = clTurn (clOk ch (s.wholePend ch i sub val) [] t)) ∧
    ∀ e, (∀ w, objWrite w i sub (leVal val) val v = .error e) →
      clWhole ch i sub val s = clTurn (clAbort ch (s.wholePend ch i sub val) e (objRefused i sub val v)) := by
  obtain ⟨-, -, hpass⟩ := id h
  obtain ⟨r, hr, -⟩ := State.writePasses_row hpass
  rw [hr] at hp
  have hplain : r.plain = true := hp
  simp only [Option.all_some, Row.plain, Bool.and_eq_true, bne_iff_ne, ne_eq] at hp
  obtain ⟨⟨-, h13⟩, h14⟩ := hp
  obtain ⟨v, hv, hwhole⟩ := clWhole_local h hr
  rw [fwOwned_of_own hr h13 h14, if_neg Bool.false_ne_true] at hwhole
  refine ⟨v, hv, fun t ht => hwhole.trans (congrArg clTurn ?_), fun e he => hwhole.trans (congrArg clTurn ?_)⟩
  · exact clEffect_objWrite (a := s.wholePend ch i sub val) h53 h26 (hb v _) (by rw [Row.plain_value hplain]; exact ht _)
  · exact clEffect_refused (a := s.wholePend ch i sub val) h53 h26 (hb v _) (by rw [Row.plain_value hplain]; exact he _)

/-- A write that its object takes ends with success; beside the channels, the port and the store the state is what the write makes
of it, and the store has one request more. -/
theorem clWhole_plain_ok {g : State → State}
    (hw : ∀ v : State, v.servesOn s ch → ∀ w, objWrite w i sub (leVal val) val v = .ok (g v)) (hcl : ∀ v, (g v).cl = v.cl) :
    ∃ v, v.servesOn s ch ∧ (clWhole ch i sub val s).doneOn ch ∧
      (clWhole ch i sub val s).view 14680057 = (g v).view 14680057 ∧
      (clWhole ch i sub val s).obj = ((g v).add64 0x1020 1 1).obj := by
  obtain ⟨v, hv, hok, -⟩ := clWhole_plain h hp h53 h26 hb
  obtain ⟨⟨-, hfq, hcq, hchan, -⟩, -⟩ := id hv
  obtain ⟨hdone, hview, hobj, hq, hq'⟩ := clOk_write (s.wholePend ch i sub val) (State.hasChan_of_cl (hcl v) hchan)
  rw [hok (g v) (hw v hv), clTurn_quiet (by rw [hq, hcl, hfq]) (by rw [hq', hcl, hcq])]
  exact ⟨v, hv, hdone, hview, hobj⟩

/-- A write that its object refuses ends with the abort, and leaves the clocks. -/
theorem clWhole_plain_refused {e : Nat}
    (hw : ∀ v : State, v.servesOn s ch → ∀ w, objWrite w i sub (leVal val) val v = .error e) :
    (clWhole ch i sub val s).abortedOn ch e ∧ (clWhole ch i sub val s).clk = s.clk := by
  obtain ⟨v, hv, -, habort⟩ := clWhole_plain h hp h53 h26 hb
  have hrefused := objRefused_view (k := 1028) (by decide) i sub val v
  have hcl : (objRefused i sub val v).cl = v.cl := view_cl hrefused (by decide)
  obtain ⟨⟨-, hfq, hcq, hchan, -⟩, -⟩ := id hv
  obtain ⟨hends, hf, hq⟩ := clAbort_ends (s.wholePend ch i sub val) e (State.hasChan_of_cl hcl hchan)
  rw [habort e (hw v hv), clTurn_quiet (by rw [hf, hcl, hfq]) (by rw [hq, hcl, hcq])]
  refine ⟨hends, ?_⟩
  rw [view_clk (clAbort_view (k := 1024) (by decide) ..) (by decide), view_clk hrefused (by decide), view_clk hv.view (by decide)]

end

section
variable {s : State} {ch : ChanId} {val : List Byte}

/-! The tile source select (R294). -/

/-- The tile clock runs from the selected PLL input; while TCLK_OUT runs it goes on at the restart divider. -/
def selectTile (b : Bool) (s : State) : State :=
  let t := ({ s with clk := { s.clk with tileB := b, tileInt := false } } : State).put 0x2201 1 (b2n b)
  updAccr (seqBegin { t with clk := { t.clk with m := if t.clk.running then t.startM else t.clk.m, divAt := t.clk.tileCycles } })

theorem selectTile_clk (b : Bool) (s : State) : (selectTile b s).clk.tileB = b ∧ (selectTile b s).clk.tileInt = false := by
  unfold selectTile
  rw [updAccr_clk]
  exact Prod.mk.inj (seqBegin_clk_keeps (fun c => (c.tileB, c.tileInt)) (fun _ _ _ _ _ _ => rfl) _)

theorem selectTile_cl (b : Bool) (s : State) : (selectTile b s).cl = s.cl :=
  (view_cl ((updAccr_view (k := 4) (by decide) _).trans (seqBegin_view (by decide) _)) (by decide)).trans rfl

/-- A write of 0x2201.01 asks that the source it names be qualified. -/
theorem objWrite_tileSource {v : State} (hv : v.servesOn s ch) (w : Who) :
    objWrite w 0x2201 1 (leVal val) val v =
      needState (s.src (if leVal val = 1 then .pllB else .pllA)).ok (.ok (selectTile (decide (leVal val = 1)) v)) := by
  show needState (v.src (if decide ((leVal val : Int) = 1) then .pllB else .pllA)).ok
    (.ok (selectTile (decide ((leVal val : Int) = 1)) v)) = _
  simp only [Nat.cast_eq_one, State.src_of_clk (view_clk hv.view (by decide)), decide_eq_true_eq]

theorem tileSourceSelect_selects (h : s.takes ch 0x2201 1 val)
    (hok : (s.src (if leVal val = 1 then .pllB else .pllA)).ok = true) : Answers (.tileSourceSelect ch val) s (fun t =>
      t.doneOn ch ∧ t.clk.tileB = decide (leVal val = 1) ∧ t.clk.tileInt = false) := by
  obtain ⟨v, -, hdone, hview, -⟩ := clWhole_plain_ok (g := selectTile (decide (leVal val = 1))) h (by decide) (by decide)
    (by decide) (fun _ _ => rfl) (fun v hv w => by rw [objWrite_tileSource hv, hok]; rfl) (selectTile_cl _)
  refine ⟨_, rfl, hdone, ?_⟩
  rw [view_clk hview (by decide)]
  exact selectTile_clk _ v

theorem tileSourceSelect_refused (h : s.takes ch 0x2201 1 val)
    (hok : (s.src (if leVal val = 1 then .pllB else .pllA)).ok = false) : Answers (.tileSourceSelect ch val) s (fun t =>
      t.abortedOn ch abState ∧ t.clk = s.clk) :=
  ⟨_, rfl, clWhole_plain_refused h (by decide) (by decide) (by decide) (fun _ _ => rfl)
    fun v hv w => by rw [objWrite_tileSource hv, hok]; rfl⟩

/-! The point request (R298, R327). -/

/-- The sequencer aims at another request (R298). -/
def requestPoint (p : Nat) (s : State) : State := seqBegin (setTarget (s.put 0x2201 2 p))

theorem requestPoint_view {k : Nat} (hk : k &&& 16776191 = k) (p : Nat) (s : State) :
    (requestPoint p s).view k = (s.put 0x2201 2 p).view k := (seqBegin_view hk _).trans (setTarget_view hk _)

/-- A request within the used points is taken while the policy follows requests (R306, R327). -/
theorem objWrite_pointRequest {v : State} (hv : v.servesOn s ch) (w : Who) (hused : leVal val < s.usedPoints)
    (hpol : s.pn 0x6003 1 = 0) : objWrite w 0x2201 2 (leVal val) val v = .ok (requestPoint (leVal val) v) := by
  obtain ⟨hdoms, -⟩ := hv.stored
  have hrange : decide ((leVal val : Int) < v.usedPoints) = true := decide_eq_true (by rw [usedPoints_of_doms hdoms]; omega)
  have hpolicy : (decide (w.cls = 3) || decide (v.pn 0x6003 1 = 0)) = true := by simp [hv.pn, hpol]
  exact (if_pos hrange).trans (if_pos hpolicy)

theorem pointRequestWrite_stores (h : s.takes ch 0x2201 2 val) (hused : leVal val < s.usedPoints) (hpol : s.pn 0x6003 1 = 0) :
    Answers (.pointRequestWrite ch val) s (fun t => t.doneOn ch ∧ t.num 0x2201 2 = leVal val) := by
  obtain ⟨v, -, hdone, -, hobj⟩ := clWhole_plain_ok (g := requestPoint (leVal val)) h (by decide) (by decide) (by decide)
    (fun _ _ => rfl) (fun v hv w => objWrite_pointRequest hv w hused hpol) fun v =>
      (view_cl (requestPoint_view (k := 4) (by decide) ..) (by decide)).trans rfl
  refine ⟨_, rfl, hdone, ?_⟩
  rw [num_of_served hobj (by decide), State.num_of_obj (view_obj (requestPoint_view (k := 2) (by decide) ..) (by decide)),
    State.num_put_same]

end

/-- Settles O38: a window by the source that it leaves, whatever faults follow; the selection by its write. -/
theorem clockSources : Obligations.ClockSources := by
  unfold Obligations.ClockSources
  refine ⟨fun src khz s hw hg h4 hok => ⟨_, rfl, ?fifth⟩, fun src khz s hw hg => ⟨_, rfl, ?bad⟩,
    fun src s hw hok => ⟨_, if_pos (by rw [hw, hok]; rfl), ?edge⟩, fun ch val s h hok => tileSourceSelect_selects h hok,
    fun ch val s h hok => tileSourceSelect_refused h hok⟩
  case fifth =>
    dsimp only
    rw [srcWindow_fifth hw hg h4 hok]
    exact ⟨rfl, rfl, congrArg (fun n => min 5 (n + 1)) h4⟩
  case bad =>
    dsimp only
    rw [srcWindow_bad hw hg]
    split
    · exact ⟨rfl, fun _ => ⟨rfl, rfl⟩, rfl⟩
    · next hok => exact ⟨rfl, fun h => absurd h hok, rfl⟩
  case edge =>
    dsimp only
    rw [srcFail_src]
    exact ⟨rfl, rfl⟩

/-- Settles O39: each step by the clocks that it leaves, the voltage step by the rounds of its regions, the request by its write. -/
theorem tileClockSteps : Obligations.TileClockSteps := by
  unfold Obligations.TileClockSteps
  exact ⟨fun _ hrun hint hhold hm => dividerStep_steps hrun hint hhold hm,
    fun _ hrun hint hgoal hheld => skipStep_steps hrun hint hgoal hheld,
    fun _ hlen hdue hmov hstage hfree hhold => seqVoltageStep_aims hlen hdue hmov hstage hfree hhold,
    fun _ hmov hstage hdone hran hup hm => seqVoltageDone_divides hmov hstage hdone hran hup hm,
    fun _ hmov hstage hdone hran hup htarget => seqVoltageDone_arrives hmov hstage hdone hran hup htarget,
    fun _ hmov hstage hdone hran => vTimeout_blocks hmov hstage hdone hran, fun _ h => tclkStart_starts h,
    fun _ _ _ h hused hpol => pointRequestWrite_stores h hused hpol⟩

end Sys2Proof.Machine

/-! States that meet the premises of the clauses of O38 and O39. -/

namespace Sys2Proof.Machine

open Sys2Proof

/-- A device in service whose tile clock runs from PLL A at point 0 of two, with M above its goal and the skip count below its own.
PLL A is qualified; PLL B has had four good windows. Region 0 regulates; the others are in bypass. -/
def State.clocksInService : State :=
  { State.inService with
    aon := { State.inService.aon with ctlReleased := true }
    obj := { State.inService.obj with
      doms := [(okey 0x2202 0, leBytes 2 64 ++ leBytes 2 750 ++ leBytes 4 0 ++ leBytes 2 48 ++ leBytes 2 800 ++
        List.replicate 116 0)] }
    regions := { target := 750, ref := 750 } :: List.replicate 255 { bypass := true }
    clk := { State.inService.clk with
      pllA := { ok := true, good := 5 }, pllB := { good := 4 }, running := true, everRan := true, m := 320, mSeq := 64, skip := 3,
      skipGoal := 5 } }

/-- The same while the sequencer moves up to point 1, at a stage of the move. -/
def State.clocksMoving (stage : Nat) : State :=
  { State.clocksInService with
    clk := { State.clocksInService.clk with target := 1, moving := true, movePoint := 1, moveUp := true, moveStage := stage } }

/-- The same at the voltage of a move down from point 1 to point 0. -/
def State.clocksFalling : State :=
  { State.clocksInService with
    clk := { State.clocksInService.clk with point := 1, moving := true, movePoint := 0, moveStage := 1 } }

/-- The same before the first start of TCLK_OUT. -/
def State.clocksStopped : State :=
  { State.clocksInService with clk := { State.clocksInService.clk with running := false, everRan := false, startOk := true } }

/-- The same while the SRAM rail refuses the move's setpoint. -/
def State.clocksRefused : State :=
  { State.clocksMoving 1 with clk := { (State.clocksMoving 1).clk with sramPending := true } }

theorem clocksInService_takes {i sub : Nat} {val : List Byte} (h : State.clocksInService.writePasses .mgt i sub val = true) :
    State.clocksInService.takes .mgt i sub val := ⟨⟨rfl, rfl, rfl⟩, by decide, h⟩

theorem clocksMoving_regions (stage : Nat) : (State.clocksMoving stage).regions.length = 256 := by
  simp [State.clocksMoving, State.clocksInService, -List.reduceReplicate]

/-- With the regions at their targets and no SRAM rail the voltage step is complete. -/
theorem clocksInService_voltageDone {s : State} (hr : s.regions = State.clocksInService.regions) (hp : s.clk.sramPending = false)
    (hc : s.sramCtrl = none) : s.voltageDone = true := by
  have hall : State.clocksInService.regions.all (fun r => r.bypass || decide (r.ref = r.target)) = true := by
    simp [State.clocksInService, -List.reduceReplicate]
  unfold State.voltageDone
  rw [hr, hall, hp, hc]
  rfl

/-- O38 at the fifth good window of PLL B. -/
theorem clocksInService_qualifies : Answers (.sourceMonitorWindow .pllB (State.clocksInService.srcNominal .pllB))
    State.clocksInService (fun t => (t.src .pllB).ok = true) := by
  obtain ⟨hfifth, -⟩ := clockSources
  exact answers_mono (hfifth _ _ _ rfl (by decide) rfl rfl) fun _ ⟨_, hok, _⟩ => hok

/-- O38 at a window of PLL A in which nothing was counted. -/
theorem clocksInService_fails : Answers (.sourceMonitorWindow .pllA 0) State.clocksInService (fun t =>
    (t.src .pllA).ok = false) := by
  obtain ⟨-, hbad, -⟩ := clockSources
  exact answers_mono (hbad _ _ _ rfl (by decide)) fun _ ⟨_, hlost, _⟩ => (hlost rfl).1

/-- O38 at a missing edge of PLL A. -/
theorem clocksInService_misses : Answers (.sourceMissingEdge .pllA) State.clocksInService (fun t =>
    (t.src .pllA).failed = true) := by
  obtain ⟨-, -, hedge, -⟩ := clockSources
  exact answers_mono (hedge _ _ rfl rfl) fun _ ⟨_, hfailed⟩ => hfailed

/-- O38 at the selection of PLL A. -/
theorem clocksInService_selects : Answers (.tileSourceSelect .mgt [0]) State.clocksInService (fun t => t.clk.tileB = false) :=
  answers_mono (tileSourceSelect_selects (val := [0]) (clocksInService_takes (by decide)) (by decide)) fun _ ⟨_, h, _⟩ => h

/-- O38 at the selection of PLL B, which is not qualified. -/
theorem clocksInService_refuses : Answers (.tileSourceSelect .mgt [1]) State.clocksInService (fun t => t.abortedOn .mgt abState) :=
  answers_mono (tileSourceSelect_refused (val := [1]) (clocksInService_takes (by decide)) (by decide)) fun _ ⟨h, _⟩ => h

/-- O39 at a divider step of a thirty-second of M. -/
theorem clocksInService_divides : Answers .dividerStep State.clocksInService (fun t => t.clk.m = 310) :=
  answers_mono (dividerStep_steps rfl rfl rfl (by decide)) fun _ ⟨h, _⟩ => by rw [h]; decide

/-- O39 at a skip step upwards. -/
theorem clocksInService_skips : Answers .skipStep State.clocksInService (fun t => t.clk.skip = 4) :=
  answers_mono (skipStep_steps rfl rfl (by decide) (.inl rfl)) fun _ ⟨h, _⟩ => h

/-- O39 at the voltage step of the move up to 800 mV. -/
theorem clocksMoving_aims : Answers .seqVoltageStep (State.clocksMoving 0) (fun t => (t.region 0).target = 800) :=
  answers_mono (seqVoltageStep_aims (clocksMoving_regions 0) rfl rfl rfl rfl rfl) fun _ ⟨_, h⟩ => by
    rw [h 0 (by decide) rfl]
    decide

/-- O39 at the end of the voltage step of the move up. -/
theorem clocksMoving_divides : Answers .seqVoltageDone (State.clocksMoving 1) (fun t => t.clk.mSeq = 48) :=
  answers_mono (seqVoltageDone_divides rfl rfl (clocksInService_voltageDone rfl rfl (by decide)) rfl rfl (by decide))
    fun _ h => by rw [h]; rfl

/-- O39 at the end of the voltage step of the move down. -/
theorem clocksFalling_arrives : Answers .seqVoltageDone State.clocksFalling (fun t => t.clk.point = 0) :=
  answers_mono (seqVoltageDone_arrives rfl rfl (clocksInService_voltageDone rfl rfl (by decide)) rfl rfl rfl)
    fun _ h => by rw [h]; rfl

/-- O39 at the move whose SRAM setpoint is refused. -/
theorem clocksRefused_blocks : Answers .vTimeout State.clocksRefused (fun t => t.clk.blocked = true) :=
  answers_mono (vTimeout_blocks rfl rfl (by simp [State.voltageDone, State.clocksRefused]) rfl) fun _ ⟨_, _, h, _⟩ => h

/-- O39 at the first start of TCLK_OUT. -/
theorem clocksStopped_starts : Answers .tclkStart State.clocksStopped (fun t => t.clk.running = true) :=
  answers_mono (tclkStart_starts rfl) fun _ ⟨h, _⟩ => h

/-- O39 at a request of point 1. -/
theorem clocksInService_requests : Answers (.pointRequestWrite .mgt [1]) State.clocksInService (fun t => t.num 0x2201 2 = 1) :=
  answers_mono (pointRequestWrite_stores (val := [1]) (clocksInService_takes (by decide)) (by decide) rfl) fun _ ⟨_, h⟩ => h

end Sys2Proof.Machine

/-! What the operations of the Clamp make of its accounts, its grants and its queue (R339 to R350). -/

namespace Sys2Proof.Machine

open Sys2Proof

/-! Accounts (R339). -/

theorem State.acct_a (s : State) (a : Nat) : (s.acct a).a = a := by
  unfold State.acct
  cases h : s.cla.accounts.find? (fun x => x.a = a) with
  | none => rfl
  | some x => simpa using List.find?_some h

theorem State.acct_of_cla {s t : State} (h : t.cla = s.cla) (a : Nat) : t.acct a = s.acct a := by
  unfold State.acct
  rw [h]

/-- The record put is the first one with its number: only lower numbers stand before it. -/
theorem find?_insAcct (x : Account) (l : List Account) : (insAcct x l).find? (fun y => y.a = x.a) = some x := by
  induction l with
  | nil => simp [insAcct]
  | cons y l ih =>
    unfold insAcct
    split
    · simp
    · split
      · simp
      · next hne => rwa [List.find?_cons_of_neg (by simpa using Ne.symm hne)]

theorem State.acct_putAcct (s : State) {x : Account} {a : Nat} (h : x.a = a) : (s.putAcct x).acct a = x := by
  subst h
  exact congrArg (fun o => o.getD { a := x.a }) (find?_insAcct x s.cla.accounts)

/-! Grants and the queue (R341, R346, R350). -/

/-- The overdraw check reaches the accounts and the flags alone (R341). -/
theorem overdrawCheck_cla (g : Grant) (s : State) :
    ∃ l f, (overdrawCheck g s).cla = { s.cla with accounts := l, flags := f } := by
  unfold overdrawCheck
  split <;> exact ⟨_, _, rfl⟩

theorem endGrant_cla (g : Grant) (s : State) : ∃ l f, (endGrant g s).cla =
    { s.cla with accounts := l, flags := f, grants := s.cla.grants.erase g, resv := s.cla.resv - g.resv } := by
  obtain ⟨l, f, h⟩ := overdrawCheck_cla g s
  unfold endGrant
  cases g.orphan with
  | true => exact ⟨_, _, rfl⟩
  | false => exact ⟨l, f, by simp [h]⟩

theorem endGrantOf_none {s : State} {a : Nat} (h : s.grantOf a = none) : endGrantOf a s = s := by
  unfold endGrantOf
  rw [h]

theorem endGrantOf_notices (a : Nat) (s : State) : (endGrantOf a s).cla.notices = s.cla.notices := by
  unfold endGrantOf
  split
  · next g _ =>
    obtain ⟨l, f, h⟩ := endGrant_cla g s
    rw [h]
  · rfl

theorem leaveQueue_cla (q : Queued) (s : State) : (leaveQueue q s).cla = { s.cla with queue := s.cla.queue.erase q } := rfl

theorem dieHold_cla (h : Nat) (s : State) : (dieHold h s).cla =
    { s.cla with flags := if h = 2 || h = 3 then putBit s.cla.flags 1 true else s.cla.flags } := by
  unfold dieHold
  split <;> rfl

/-- The account of an admitted request that held no grant holds the new one (R346, R347). -/
theorem grantNow_cla {s : State} {a : Nat} (g window tag : Nat) (h : s.grantOf a = none) : ∃ r, (grantNow a g window tag s).cla =
    { s.cla with
      grants := s.cla.grants ++ [{ a := a, g := g, window := window, endAt := s.aon.clock + us window, tag := tag, resv := r }]
      resv := s.cla.resv + r } := by
  unfold grantNow
  rw [endGrantOf_none h]
  exact ⟨_, rfl⟩

theorem closeAcct_live (a : Nat) (s : State) : ((closeAcct a s).acct a).live = false := by
  unfold closeAcct
  extract_lets u v
  exact congrArg Account.live (State.acct_putAcct v (x := { v.acct a with live := false }) (v.acct_a a))

theorem closeAcct_notices (a : Nat) (s : State) : (closeAcct a s).cla.notices = s.cla.notices := by
  rw [← endGrantOf_notices a s]
  unfold closeAcct State.putAcct
  dsimp only
  split <;> rfl

/-! Admission (R346). -/

theorem State.pn_count_request (s : State) {i sub : Nat} (h : okey 0x7001 1 ≠ okey i sub) :
    (s.add64 0x7001 1 1).pn i sub = s.pn i sub := congrArg Int.toNat (s.num_put_ne _ h)

/-- The count of the requests (0x7001.01) has no part in the conditions of admission. -/
theorem State.holdOf_count_request (s : State) (a g window : Nat) (burst : Bool) :
    (s.add64 0x7001 1 1).holdOf a g window burst = s.holdOf a g window burst := by
  have hburst : (s.add64 0x7001 1 1).pn 0x6000 0x0A = s.pn 0x6000 0x0A := s.pn_count_request (by decide)
  have hdie : (s.add64 0x7001 1 1).admitDie = s.admitDie := by
    unfold State.admitDie
    rw [s.pn_count_request (by decide), s.pn_count_request (by decide)]
  unfold State.holdOf State.burstAdmits
  rw [hburst, hdie]
  rfl

/-- Nothing refuses a REQUEST of account a before its admission is tried: the account is live, has no request in the queue, and the
tracker has an entry left for its partition and for the die (R346, R353). -/
abbrev State.admissionTried (s : State) (a : Nat) : Prop :=
  (s.acct a).live = true ∧ s.queuedOf a = none ∧ s.trackerOf (s.acct a).part < s.pn (0x7040 + (s.acct a).part) 3 ∧ s.tracker < 8192

/-- A REQUEST that is tried is granted, refused or queued as the conditions of admission say (R346, R349). -/
theorem clampRequest_tried {s : State} {tile slot : Nat} (g window tag : Nat) (burst nowait : Bool)
    (h : s.admissionTried (40 * tile + slot)) : clampRequest tile slot g window tag burst nowait s =
      let a := 40 * tile + slot
      let x := s.holdOf a g window burst
      let v := s.add64 0x7001 1 1
      if x = 0 then clampSend tile (clampAnswer 2 false false slot 0 0 window tag) ((grantNow a g window tag v).add64 0x7001 2 1)
      else if nowait then clampRefuse tile 2 slot tag x (s.acct a).part (dieHold x v)
      else clampQueue tile slot g window tag x burst v := by
  obtain ⟨hlive, hqueue, hpart, hall⟩ := h
  have hqueue' : (s.add64 0x7001 1 1).queuedOf (40 * tile + slot) = none := hqueue
  have hpart' : ¬ (s.add64 0x7001 1 1).pn (0x7040 + (s.acct (40 * tile + slot)).part) 3 ≤
      (s.add64 0x7001 1 1).trackerOf (s.acct (40 * tile + slot)).part := by
    rw [s.pn_count_request (okey_ne_of_sub (by decide) (by decide) (by decide))]
    exact Nat.not_le.mpr hpart
  have hall' : ¬ 8192 ≤ (s.add64 0x7001 1 1).tracker := Nat.not_le.mpr hall
  unfold clampRequest
  dsimp only
  rw [hlive, if_neg (by decide), hqueue', if_neg (by decide), if_neg hpart', if_neg hall', s.holdOf_count_request]

/-- A held request is the last of the queue, and is answered so (R349). -/
theorem clampQueue_cla (tile slot g window tag hold : Nat) (burst : Bool) (s : State) :
    (clampQueue tile slot g window tag hold burst s).cla = { s.cla with
      queue := s.cla.queue ++ [{
        a := 40 * tile + slot, g := g, window := window, tag := tag, burst := burst, since := s.aon.clock, reason := hold }]
      flags := if hold = 2 || hold = 3 then putBit s.cla.flags 1 true else s.cla.flags
      notices := s.cla.notices ++ [(tile, clampAnswer 2 false false slot 1 hold 0 tag)] } := by
  unfold clampQueue clampSend
  dsimp only
  rw [dieHold_cla]
  rfl

end Sys2Proof.Machine

/-! The words of the tiles, the ends of windows and of waits (O42). -/

namespace Sys2Proof.Machine

open Sys2Proof

/-! Words while admission is in effect (R343 to R346, R350). -/

theorem updAccr_cla (s : State) : (updAccr s).cla = s.cla := view_cla (updAccr_view (k := 4096) (by decide) s) (by decide)

/-- A word with a legal OP from a tile in use is accepted where it stands (R343, R344). -/
theorem clampWord_accepts {s : State} {tile op w : Nat} (hsat : s.inst.sat = false) (htile : tile < 1024)
    (hmap : s.cap.tileMap.getD tile 0xFF ≠ 0xFF) (hstand : s.obs.standing = false) (hop : bits w 2 0 < 5) :
    clampWord tile op w s = clampAccept tile op w (clearNotices s) := by
  unfold clampWord
  dsimp only
  rw [if_neg (Nat.not_le.mpr hop), hsat, decide_eq_false (Nat.not_le.mpr htile), decide_eq_false hmap, if_neg (by decide), hstand,
    if_neg (by decide)]

theorem clampWord_serves {s : State} {tile op w : Nat} (h : s.clampTakes tile op w) :
    clampWord tile op w s = updAccr (clampServe tile op w (clearNotices s)) := by
  obtain ⟨hsat, htile, hmap, hstand, hon, hop, hok⟩ := h
  have hon' : (clearNotices s).enforceOn = true := hon
  rw [clampWord_accepts hsat htile hmap hstand hop, clampAccept, hok, if_neg Bool.false_ne_true, if_pos hon']

/-- What a word answers is read off the Clamp as its service leaves it. -/
theorem answers_of_clampServe {c : Instr} {tile op w : Nat} {s : State} {P : State → Prop} (h : s.clampTakes tile op w)
    (hexec : exec c s = .next (clampWord tile op w s)) (hP : ∀ t, t.cla = (clampServe tile op w (clearNotices s)).cla → P t) :
    Answers c s P :=
  ⟨_, hexec.trans (congrArg Host.Outcome.next (clampWord_serves h)), hP _ (updAccr_cla _)⟩

/-- The account as OPEN leaves it (R345). -/
def State.opened (s : State) (a p : Nat) : Account :=
  { s.acct a with live := true, part := p, gen := s.genOf p, base := s.pn (0x7040 + p) 1, msEnergy := 0 }

theorem clampOpen_opens {s : State} {tile p : Nat} {w : BitVec 64} (h : s.clampTakes tile 0 w.toNat)
    (hp : p = s.cap.tileMap.getD tile 0xFF) (hlive : (s.acct (40 * tile + bits w.toNat 13 8)).live = false)
    (hpart : s.overPart p (s.kPart p + s.pn (0x7040 + p) 1) = false) (hdie : s.kDie + s.pn (0x7040 + p) 1 ≤ s.admitDie) :
    Answers (.clampOpen tile w) s (fun t =>
      t.acct (40 * tile + bits w.toNat 13 8) = s.opened (40 * tile + bits w.toNat 13 8) p ∧
      t.answered tile 0 (bits w.toNat 13 8) 5 0 0 (bits w.toNat 63 56)) := by
  refine answers_of_clampServe h rfl fun t ht => ?_
  have hopen : clampServe tile 0 w.toNat (clearNotices s) = clampDone tile 0 (bits w.toNat 13 8) (bits w.toNat 63 56)
      ((clearNotices s).putAcct (s.opened (40 * tile + bits w.toNat 13 8) p)) := by
    subst hp
    exact (if_neg (ne_true_of_eq_false hlive)).trans
      ((if_neg (ne_true_of_eq_false hpart)).trans (if_neg (Nat.not_lt.mpr hdie)))
  rw [hopen] at ht
  refine ⟨?_, congrArg Clamp.notices ht⟩
  rw [State.acct_of_cla ht]
  exact State.acct_putAcct _ (s.acct_a _)

theorem clampClose_closes {s : State} {tile : Nat} {w : BitVec 64} (h : s.clampTakes tile 1 w.toNat)
    (hlive : (s.acct (40 * tile + bits w.toNat 13 8)).live = true) : Answers (.clampClose tile w) s (fun t =>
      (t.acct (40 * tile + bits w.toNat 13 8)).live = false ∧
      t.answered tile 1 (bits w.toNat 13 8) 5 0 0 (bits w.toNat 63 56)) := by
  refine answers_of_clampServe h rfl fun t ht => ?_
  have hclose : clampServe tile 1 w.toNat (clearNotices s) = clampDone tile 1 (bits w.toNat 13 8) (bits w.toNat 63 56)
      (closeAcct (40 * tile + bits w.toNat 13 8) (clearNotices s)) := if_pos hlive
  rw [hclose] at ht
  refine ⟨?_, ?_⟩
  · rw [State.acct_of_cla ht]
    exact closeAcct_live _ _
  · rw [State.answered, ht]
    exact congrArg (· ++ [_]) (closeAcct_notices _ _)

theorem clampRequest_grants {s : State} {tile a : Nat} {w : BitVec 64} (h : s.clampTakes tile 2 w.toNat)
    (ha : a = 40 * tile + bits w.toNat 13 8) (htried : s.admissionTried a) (hgrant : s.grantOf a = none)
    (hhold : s.holdOf a (bits w.toNat 31 16) (bits w.toNat 55 32) (bit w.toNat 3) = 0) : Answers (.clampRequest tile w) s (fun t =>
      (∃ r, t.cla.grants = s.cla.grants ++ [{
          a := a, g := bits w.toNat 31 16, window := bits w.toNat 55 32,
          endAt := s.aon.clock + us (bits w.toNat 55 32), tag := bits w.toNat 63 56, resv := r }] ∧ t.cla.resv = s.cla.resv + r) ∧
      t.cla.queue = s.cla.queue ∧ t.answered tile 2 (bits w.toNat 13 8) 0 0 (bits w.toNat 55 32) (bits w.toNat 63 56)) := by
  subst ha
  refine answers_of_clampServe h rfl fun t ht => ?_
  obtain ⟨r, hr⟩ := grantNow_cla (s := (clearNotices s).add64 0x7001 1 1) (bits w.toNat 31 16) (bits w.toNat 55 32)
    (bits w.toNat 63 56) hgrant
  have hserve := (clampRequest_tried (s := clearNotices s) (bits w.toNat 31 16) (bits w.toNat 55 32) (bits w.toNat 63 56)
    (bit w.toNat 3) (bit w.toNat 4) htried).trans (if_pos hhold)
  have hcla := ht.trans (congrArg State.cla hserve)
  simp only [clampSend, State.add64_cla, hr] at hcla
  rw [State.answered, hcla]
  exact ⟨⟨r, rfl, rfl⟩, rfl, rfl⟩

theorem clampRequest_queues {s : State} {tile a : Nat} {w : BitVec 64} (h : s.clampTakes tile 2 w.toNat)
    (ha : a = 40 * tile + bits w.toNat 13 8) (htried : s.admissionTried a)
    (hhold : s.holdOf a (bits w.toNat 31 16) (bits w.toNat 55 32) (bit w.toNat 3) ≠ 0) (hwait : bit w.toNat 4 = false) :
    Answers (.clampRequest tile w) s (fun t =>
      let x := s.holdOf a (bits w.toNat 31 16) (bits w.toNat 55 32) (bit w.toNat 3)
      t.cla.queue = s.cla.queue ++ [{
          a := a, g := bits w.toNat 31 16, window := bits w.toNat 55 32, tag := bits w.toNat 63 56,
          burst := bit w.toNat 3, since := s.aon.clock, reason := x }] ∧ t.cla.grants = s.cla.grants ∧
      t.answered tile 2 (bits w.toNat 13 8) 1 x 0 (bits w.toNat 63 56)) := by
  subst ha
  refine answers_of_clampServe h rfl fun t ht => ?_
  have hserve := (clampRequest_tried (s := clearNotices s) (bits w.toNat 31 16) (bits w.toNat 55 32) (bits w.toNat 63 56)
    (bit w.toNat 3) (bit w.toNat 4) htried).trans ((if_neg hhold).trans (if_neg (ne_true_of_eq_false hwait)))
  have hcla := ht.trans ((congrArg State.cla hserve).trans (clampQueue_cla ..))
  dsimp only
  rw [State.answered, hcla]
  exact ⟨rfl, rfl, rfl⟩

theorem clampRelease_ends {s : State} {tile : Nat} {w : BitVec 64} {g : Grant} (h : s.clampTakes tile 3 w.toNat)
    (hg : s.grantOf (40 * tile + bits w.toNat 13 8) = some g) : Answers (.clampRelease tile w) s (fun t =>
      t.cla.grants = s.cla.grants.erase g ∧ t.cla.resv = s.cla.resv - g.resv ∧
      t.answered tile 3 (bits w.toNat 13 8) 5 0 0 (bits w.toNat 63 56)) := by
  refine answers_of_clampServe h rfl fun t ht => ?_
  have hg' : (clearNotices s).grantOf (40 * tile + bits w.toNat 13 8) = some g := hg
  obtain ⟨l, f, hend⟩ := endGrant_cla g (clearNotices s)
  have hrelease : clampServe tile 3 w.toNat (clearNotices s) = clampDone tile 3 (bits w.toNat 13 8) (bits w.toNat 63 56)
      (endGrant g (clearNotices s)) := by
    show clampRelease tile _ _ _ = _
    unfold clampRelease
    dsimp only
    rw [hg']
  rw [hrelease, clampDone, clampSend, hend] at ht
  rw [State.answered, ht]
  exact ⟨rfl, rfl, rfl⟩

theorem clampCancel_leaves {s : State} {tile : Nat} {w : BitVec 64} {q : Queued} (h : s.clampTakes tile 4 w.toNat)
    (hq : s.queuedOf (40 * tile + bits w.toNat 13 8) = some q) : Answers (.clampCancel tile w) s (fun t =>
      t.cla.queue = s.cla.queue.erase q ∧ t.cla.grants = s.cla.grants ∧
      t.answered tile 4 (bits w.toNat 13 8) 5 0 0 (bits w.toNat 63 56)) := by
  refine answers_of_clampServe h rfl fun t ht => ?_
  have hq' : (clearNotices s).queuedOf (40 * tile + bits w.toNat 13 8) = some q := hq
  have hcancel : clampServe tile 4 w.toNat (clearNotices s) = clampDone tile 4 (bits w.toNat 13 8) (bits w.toNat 63 56)
      (leaveQueue q (clearNotices s)) := by
    show clampCancel tile _ _ _ = _
    unfold clampCancel
    dsimp only
    rw [hq']
  rw [hcancel, clampDone, clampSend, leaveQueue_cla] at ht
  rw [State.answered, ht]
  exact ⟨rfl, rfl, rfl⟩

/-! A REQUEST without admission (R354). -/

theorem clampRequest_unchecked {s : State} {tile : Nat} {w : BitVec 64} (hsat : s.inst.sat = false) (htile : tile < 1024)
    (hmap : s.cap.tileMap.getD tile 0xFF ≠ 0xFF) (hstand : s.obs.standing = false) (hoff : s.enforceOn = false)
    (hop : bits w.toNat 2 0 < 5) (hok : clampBad 2 w.toNat = false) : Answers (.clampRequest tile w) s (fun t =>
      t.cla = { s.cla with notices :=
        [(tile, clampAnswer 2 false true (bits w.toNat 13 8) 0 0 (bits w.toNat 55 32) (bits w.toNat 63 56))] }) := by
  have hoff' : (clearNotices s).enforceOn = false := hoff
  refine ⟨_, congrArg Host.Outcome.next (clampWord_accepts hsat htile hmap hstand hop), ?_⟩
  rw [clampAccept, hok, if_neg Bool.false_ne_true, hoff', if_neg Bool.false_ne_true]
  rfl

/-! Windows and waits (R341, R350). -/

theorem grantWindowEnd_ends {s : State} {a : Nat} {g : Grant} (hstand : s.obs.standing = false)
    (hg : s.cla.grants.find? (fun g => g.a = a) = some g) : Answers (.grantWindowEnd a) s (fun t =>
      t.cla.grants = s.cla.grants.erase g ∧ t.cla.resv = s.cla.resv - g.resv ∧ t.cla.queue = s.cla.queue) := by
  have hexec : exec (.grantWindowEnd a) s = .next (updAccr (
      let u := endGrant g (advanceTo g.endAt (clearNotices s))
      if g.orphan then u else clampNotice a 4 0 0 g.tag u)) := by
    show execGrantWindowEnd a s = _
    unfold execGrantWindowEnd
    rw [hstand, if_neg Bool.false_ne_true, hg]
  refine ⟨_, hexec, ?_⟩
  obtain ⟨l, f, hend⟩ := endGrant_cla g (advanceTo g.endAt (clearNotices s))
  rw [advanceTo_cla] at hend
  rw [updAccr_cla]
  dsimp only
  split
  · rw [hend]
    exact ⟨rfl, rfl, rfl⟩
  · rw [clampNotice, clampSend, hend]
    exact ⟨rfl, rfl, rfl⟩

theorem requestWaitExpiry_leaves {s : State} {a : Nat} {q : Queued} (hstand : s.obs.standing = false)
    (hq : s.queuedOf a = some q) (hwait : s.pn (0x7040 + (s.acct a).part) 2 ≠ 0) : Answers (.requestWaitExpiry a) s (fun t =>
      t.cla.queue = s.cla.queue.erase q ∧ t.cla.grants = s.cla.grants ∧
      t.cla.notices = [(a / 40, clampAnswer 2 true false (a % 40) 3 9 0 q.tag)]) := by
  have hexec : exec (.requestWaitExpiry a) s = .next (updAccr (clampNotice a 3 9 0 q.tag (((leaveQueue q
      (advanceTo (q.since + us (s.pn (0x7040 + (s.acct a).part) 2)) (clearNotices s))).bump32 0x7001 6).bump32
        (0x7040 + (s.acct a).part) 0x0B))) := by
    show execRequestWaitExpiry a s = _
    unfold execRequestWaitExpiry
    rw [hq]
    dsimp only
    rw [hstand, decide_eq_false hwait, if_neg (by decide)]
  refine ⟨_, hexec, ?_⟩
  beta_reduce
  rw [updAccr_cla, clampNotice, clampSend, State.bump32_cla, State.bump32_cla, leaveQueue_cla, advanceTo_cla]
  exact ⟨rfl, rfl, rfl⟩

/-- Settles O42: what each word's service leaves of the Clamp, and the ends of windows and waits. -/
theorem clampWords : Obligations.ClampWords := by
  unfold Obligations.ClampWords
  refine ⟨fun tile p w s h hp hlive hpart hdie => ?opens, fun tile w s h hlive => clampClose_closes h hlive,
    fun tile a p w s h ha hlive hp hqueue hgrant hpart hall hhold => ?grants,
    fun tile a p x w s h ha hlive hp hqueue hpart hall hhold hx hwait => ?queues,
    fun tile w g s h hg => clampRelease_ends h hg, fun tile w q s h hq => clampCancel_leaves h hq,
    fun tile w s hsat htile hmap hstand hoff hop hok => clampRequest_unchecked hsat htile hmap hstand hoff hop hok,
    fun a g s hstand hg => grantWindowEnd_ends hstand hg, fun a q s hstand hq hwait => requestWaitExpiry_leaves hstand hq hwait⟩
  case opens =>
    refine answers_mono (clampOpen_opens h hp hlive hpart hdie) fun t ⟨hacct, hanswer⟩ => ?_
    dsimp only
    rw [hacct]
    exact ⟨rfl, rfl, rfl, rfl, hanswer⟩
  case grants =>
    subst hp
    exact clampRequest_grants h ha ⟨hlive, hqueue, hpart, hall⟩ hgrant hhold
  case queues =>
    subst hp hhold
    exact clampRequest_queues h ha ⟨hlive, hqueue, hpart, hall⟩ hx hwait

end Sys2Proof.Machine

/-! States that meet the premises of the clauses of O42. -/

namespace Sys2Proof.Machine

open Sys2Proof

/-- A device in service with three accounts of tile 0 at the baseline of 50 mW: slot 0 holds a grant of 200 mW, slot 1 nothing, and
slot 2 waits for 300 mW. The committed power is 300 mW, and the die limit of 14 units of 25 mW admits 350 mW. -/
def State.clampInService : State :=
  { State.inService with
    obj := { State.inService.obj with nums := [(okey 0x6000 9, 14), (okey 0x7040 2, 100)] }
    cla := { State.inService.cla with
      accounts := [{ a := 0, live := true, base := 50 }, { a := 1, live := true, base := 50 }, { a := 2, live := true, base := 50 }]
      grants := [{ a := 0, g := 200, window := 10, endAt := 4000, tag := 7 }]
      queue := [{ a := 2, g := 300, window := 10, tag := 9, reason := 2 }] } }

/-- The same while ENFORCE is 0 (R354). -/
def State.clampUnenforced : State :=
  { State.inService with obj := { State.inService.obj with nums := [(okey 0x7000 8, 0)] } }

/-- A tile's word with no flag set (R342). -/
def tileWord (op slot power window tag : Nat) : BitVec 64 :=
  BitVec.ofNat 64 (op + 2 ^ 8 * slot + 2 ^ 16 * power + 2 ^ 32 * window + 2 ^ 56 * tag)

theorem clampInService_takes {op w : Nat} (hop : bits w 2 0 < 5) (hok : clampBad op w = false) :
    State.clampInService.clampTakes 0 op w := ⟨rfl, by decide, by decide, rfl, by decide, hop, hok⟩

/-- O42 at the OPEN of slot 3, whose baseline brings the die to its admission limit. -/
theorem clampInService_opens : Answers (.clampOpen 0 (tileWord 0 3 0 0 1)) State.clampInService (fun t => (t.acct 3).live = true) :=
  answers_mono (clampOpen_opens (clampInService_takes (by decide) (by decide)) rfl (by decide) (by decide) (by decide))
    fun t ⟨h, _⟩ => (congrArg Account.live h :)

/-- O42 at the CLOSE of slot 0, which holds a grant. -/
theorem clampInService_closes : Answers (.clampClose 0 (tileWord 1 0 0 0 2)) State.clampInService (fun t => (t.acct 0).live = false) :=
  answers_mono (clampClose_closes (clampInService_takes (by decide) (by decide)) (by decide)) fun _ ⟨h, _⟩ => h

/-- O42 at a REQUEST of slot 1 for 100 mW, which brings the die to its admission limit. -/
theorem clampInService_grants : Answers (.clampRequest 0 (tileWord 2 1 100 10 3)) State.clampInService (fun t =>
    t.cla.queue = State.clampInService.cla.queue) :=
  answers_mono (clampRequest_grants (clampInService_takes (by decide) (by decide)) rfl (by decide) (by decide) (by decide))
    fun _ ⟨_, h, _⟩ => h

/-- O42 at a REQUEST of slot 1 for 101 mW, 1 mW beyond the limit. -/
theorem clampInService_queues : Answers (.clampRequest 0 (tileWord 2 1 101 10 3)) State.clampInService (fun t =>
    t.answered 0 2 1 1 2 0 3) :=
  answers_mono (clampRequest_queues (clampInService_takes (by decide) (by decide)) rfl (by decide) (by decide) (by decide))
    fun _ ⟨_, _, h⟩ => h

/-- O42 at the RELEASE of slot 0. -/
theorem clampInService_releases : Answers (.clampRelease 0 (tileWord 3 0 0 0 4)) State.clampInService (fun t => t.cla.grants = []) :=
  answers_mono (clampRelease_ends (g := State.clampInService.cla.grants.headD {}) (clampInService_takes (by decide) (by decide))
    (by decide)) fun _ ⟨h, _⟩ => h

/-- O42 at the CANCEL of slot 2. -/
theorem clampInService_cancels : Answers (.clampCancel 0 (tileWord 4 2 0 0 5)) State.clampInService (fun t => t.cla.queue = []) :=
  answers_mono (clampCancel_leaves (q := State.clampInService.cla.queue.headD {}) (clampInService_takes (by decide) (by decide))
    (by decide)) fun _ ⟨h, _⟩ => h

/-- O42 at a REQUEST of the longest window while ENFORCE is 0. -/
theorem clampUnenforced_unchecked : Answers (.clampRequest 0 (tileWord 2 1 1 1000000 6)) State.clampUnenforced (fun t =>
    t.cla.notices = [(0, clampAnswer 2 false true 1 0 0 1000000 6)]) :=
  answers_mono (clampRequest_unchecked rfl (by decide) (by decide) rfl (by decide) (by decide) (by decide))
    fun _ h => congrArg Clamp.notices h

/-- O42 at the end of the window of slot 0's grant. -/
theorem clampInService_windowEnds : Answers (.grantWindowEnd 0) State.clampInService (fun t => t.cla.grants = []) :=
  answers_mono (grantWindowEnd_ends (g := State.clampInService.cla.grants.headD {}) rfl (by decide)) fun _ ⟨h, _⟩ => h

/-- O42 at the end of the wait of slot 2's request, under its partition's wait limit of 100 microseconds. -/
theorem clampInService_waitEnds : Answers (.requestWaitExpiry 2) State.clampInService (fun t => t.cla.queue = []) :=
  answers_mono (requestWaitExpiry_leaves (q := State.clampInService.cla.queue.headD {}) rfl (by decide) (by decide))
    fun _ ⟨h, _⟩ => h

end Sys2Proof.Machine

/-! The words of jigs that change registers and data alone, and the branches (O19, O20, O21). -/

namespace Sys2Proof.Machine

open Sys2Proof

section
variable {s : State} {c : Instr} {j op : Nat} {a b d sh : Option Nat} {imm : Option (BitVec 32)}

/-- A word that the jig is about to execute acts. -/
theorem answers_of_jigNext {t : State} {P : State → Prop} (h : s.jigNext j op d a b sh imm)
    (hexec : exec c s = if s.jigAt j op d a b sh imm then .next t else .next s) (hP : P t) : Answers c s P :=
  ⟨t, hexec.trans (if_pos h.1), hP⟩

/-- A word that sets x_N to a 64-bit word. -/
theorem answers_setReg {n : Nat} {f : Jig → BitVec 64} {x : BitVec 64} (h : s.jigNext j op d a b sh imm)
    (hexec : exec c s = if s.jigAt j op d a b sh imm then .next (jigDo j (fun g => g.setReg n (f g)) s) else .next s)
    (hx : f (s.jig j) = x) : Answers c s (wordSets s j n x) := by
  obtain ⟨-, hj, hs⟩ := id h
  exact answers_of_jigNext h hexec (hx ▸ jigDo_setReg s j n f hj hs)

/-- A word that sets x_N to an exact result. -/
theorem answers_setInt {n : Nat} {f : Jig → Int} {x : Int} (h : s.jigNext j op d a b sh imm)
    (hexec : exec c s = if s.jigAt j op d a b sh imm then .next (jigDo j (fun g => g.setInt n (f g)) s) else .next s)
    (hx : f (s.jig j) = x) : Answers c s (wordSetsInt s j n x) := by
  obtain ⟨-, hj, hs⟩ := id h
  exact answers_of_jigNext h hexec (jigDo_setInt s j n f x hx hj hs)

/-- A branch to word IMM goes on with word n. -/
theorem answers_goes {go : Bool} {dst : BitVec 32} {n : Nat} (h : s.jigNext j op d a b sh imm)
    (hexec : exec c s = if s.jigAt j op d a b sh imm then .next (jigGoto j go dst s) else .next s)
    (hn : n = if go = true then dst.toNat else (s.jig j).pc + 1) : Answers c s (wordGoes s j n) := by
  obtain ⟨-, -, hs⟩ := id h
  exact answers_of_jigNext h hexec (jigGoto_goes s j go dst n hn hs)

end

theorem Jig.int_inj (g : Jig) (a b : Nat) : g.int a = g.int b ↔ g.reg a = g.reg b := BitVec.toInt_inj

theorem Jig.int_eq_zero (g : Jig) (a : Nat) : g.int a = 0 ↔ g.reg a = 0 := BitVec.toInt_inj (y := 0)

theorem Jig.int_lt (g : Jig) (a b : Nat) : g.int a < g.int b ↔ (g.reg a).slt (g.reg b) = true := BitVec.slt_iff_toInt_lt.symm

/-- LDM within the data words. -/
theorem ldm_sets {s : State} {j d a n : Nat} {imm : BitVec 32} (h : s.jigNext j 0x04 (some d) (some a) none none (some imm))
    (hn : ((s.jig j).reg a).toInt + imm.toInt = n) (hlt : n < 128) :
    Answers (.ldm j d a imm) s (wordSets s j d ((s.jig j).data.getD n 0)) := by
  obtain ⟨hat, hj, hs⟩ := h
  have hk : (s.jig j).int a + imm.toInt = n := hn
  refine ⟨_, (if_pos hat).trans (if_pos ?_), ?_⟩
  · rw [hk]
    simpa using hlt
  · rw [hk]
    exact jigDo_setReg s j d (fun g => g.data.getD n 0) hj hs

/-- A change of jig j is told by what it makes of jig j (R413). -/
theorem updJig_congr {s : State} {j : Nat} {f g : Jig → Jig} (h : f (s.jig j) = g (s.jig j)) : s.updJig j f = s.updJig j g := by
  have hmod : s.dowel.jigs.modify j f = s.dowel.jigs.modify j g := by
    refine List.ext_getElem? fun k => ?_
    simp only [List.getElem?_modify]
    by_cases hk : j = k
    · subst hk
      cases hx : s.dowel.jigs[j]? with
      | none => rfl
      | some x => simpa [State.jig, hx] using h
    · simp [hk]
  simp only [State.updJig, hmod]

end Sys2Proof.Machine

namespace Sys2Proof.Machine

open Sys2Proof

/-- STM within the data words. -/
theorem stm_sets {s : State} {j a b n : Nat} {imm : BitVec 32} (h : s.jigNext j 0x05 none (some a) (some b) none (some imm))
    (hn : ((s.jig j).reg a).toInt + imm.toInt = n) (hlt : n < 128) : Answers (.stm j a b imm) s (fun t =>
      t = s.updJig j (fun g => { g with data := g.data.set n (g.reg b), steps := g.steps + 1, pc := g.pc + 1 })) := by
  obtain ⟨hat, hj, hs⟩ := h
  have hk : (s.jig j).int a + imm.toInt = n := hn
  refine ⟨_, (if_pos hat).trans (if_pos ?_), ?_⟩
  · rw [hk]
    simpa using hlt
  · rw [hk]
    exact jigDo_eq s j _ hj hs (fun _ => rfl) fun _ => rfl

/-- Settles O19: each word by what it sets x_D to. -/
theorem jigMoveAndLogicWords : Obligations.JigMoveAndLogicWords := by
  unfold Obligations.JigMoveAndLogicWords
  refine ⟨fun j s h => answers_of_jigNext h rfl (jigDo_nop s j h.2.1 h.2.2), fun j d imm s h => answers_setReg h rfl rfl,
    fun j d imm s h => answers_setReg h rfl rfl, fun j d a s h => answers_setReg h rfl rfl,
    fun j d a n imm s h hn hlt => ldm_sets h hn hlt, fun j a b n imm s h hn hlt => stm_sets h hn hlt,
    fun j d a b s h => answers_setReg h rfl rfl, fun j d a b s h => answers_setReg h rfl rfl,
    fun j d a b s h => answers_setReg h rfl rfl, fun j d a s h => answers_setReg h rfl rfl,
    fun j d a sh s h => answers_setReg h rfl rfl, fun j d a sh s h => answers_setReg h rfl rfl,
    fun j d a sh s h => answers_setReg h rfl rfl, fun j d a imm s h => answers_setReg h rfl rfl,
    fun j d a b s h => answers_setReg h rfl ?sel, fun j d a b s h => answers_setReg h rfl ?slt,
    fun j d a b s h => answers_setReg h rfl ?seq⟩
  case sel => simp only [bne_iff_ne]
  case slt => simp only [Jig.int_lt]
  case seq => simp only [Jig.int_inj]

/-! Arithmetic (R413, R414). -/

theorem natAbs_eq_max (v : Int) : (v.natAbs : Int) = max v (-v) := by omega

/-- A value held within a bound. -/
theorem clampI_bound (m v : Int) : clampI (-(m.natAbs : Int)) m.natAbs v = max (-|m|) (min |m| v) := by
  rw [Int.natCast_natAbs]
  have := abs_nonneg m
  unfold clampI
  split_ifs <;> omega

/-- DEADB keeps what its operand has beyond the band, with its sign. -/
theorem beyondBand_eq (x m : Int) : (if x.natAbs ≤ m.natAbs then 0 else x.sign * ((x.natAbs : Int) - m.natAbs)) =
    if |x| ≤ |m| then 0 else if 0 < x then x - |m| else x + |m| := by
  simp only [← Int.natCast_natAbs, Nat.cast_le]
  split_ifs with hin hpos
  · rfl
  · rw [Int.sign_eq_one_of_pos hpos]
    omega
  · have hneg : x < 0 := by omega
    rw [Int.sign_eq_neg_one_of_neg hneg]
    omega

/-- DIV by another register than zero. -/
theorem div_sets {s : State} {j d a b : Nat} (h : s.jigNext j 0x0E (some d) (some a) (some b) none none)
    (hb : (s.jig j).reg b ≠ 0) : Answers (.div j d a b) s
      (wordSetsInt s j d (((s.jig j).reg a).toInt.tdiv ((s.jig j).reg b).toInt)) := by
  obtain ⟨hat, hj, hs⟩ := h
  exact ⟨_, (if_pos hat).trans (if_neg ((Jig.int_eq_zero _ _).not.mpr hb)),
    jigDo_setInt s j d (fun g => Int.tdiv (g.int a) (g.int b)) _ rfl hj hs⟩

/-- Settles O20: each word by the exact result that it sets x_D to. -/
theorem jigArithmeticWords : Obligations.JigArithmeticWords := by
  unfold Obligations.JigArithmeticWords
  refine ⟨fun j d a b s h => answers_setInt h rfl rfl, fun j d a imm s h => answers_setInt h rfl rfl,
    fun j d a b s h => answers_setInt h rfl rfl, fun j d a s h => answers_setInt h rfl rfl,
    fun j d a s h => answers_setInt h rfl (natAbs_eq_max _), fun j d a b s h => answers_setInt h rfl rfl,
    fun j d a b sh s h => answers_setInt h rfl (roundShift_eq_rounded _ _),
    fun j d a sh imm s h => answers_setInt h rfl (roundShift_eq_rounded _ _), fun j d a b s h hb => div_sets h hb,
    fun j d a b s h => answers_setInt h rfl rfl, fun j d a b s h => answers_setInt h rfl rfl,
    fun j d a b s h => answers_setInt h rfl rfl, fun j d a sh imm s h => answers_setInt h rfl ?filt,
    fun j d a b sh imm s h => answers_setInt h rfl ?integ,
    fun j d a b s h => answers_setInt h rfl (beyondBand_eq _ _), fun j d a b s h => answers_setInt h rfl ?slew⟩
  case filt =>
    rw [roundShift_eq_rounded]
    rfl
  case integ =>
    rw [clampI_bound, roundShift_eq_rounded]
    rfl
  case slew =>
    rw [clampI_bound]
    rfl

/-! Branches (R414) and the end of an activation (R410, R433). -/

/-- A jig whose activation has ended at a moment. -/
def Jig.ended (now : Nat) (g : Jig) : Jig :=
  { g.settle with
    active := false, badRun := if g.bad then g.badRun else 0
    longest := max g.longest (min 0xFFFFFFFF ((now - 4 * g.actStart) * 5 / 2)) }

theorem jigEnd_eq (j : Nat) (s : State) : jigEnd j s = s.updJig j (Jig.ended s.aon.clock) := updJig_congr rfl

theorem Jig.ended_keeps (now : Nat) (g : Jig) : (g.ended now).active = false ∧ (g.ended now).state = g.state ∧
    (g.ended now).dataNext = none ∧ (g.ended now).data = g.dataNext.getD g.data := by
  unfold Jig.ended Jig.settle
  cases h : g.dataNext with
  | none => exact ⟨rfl, rfl, h, rfl⟩
  | some x => exact ⟨rfl, rfl, rfl, rfl⟩

theorem State.jigAt_state {s : State} {j op : Nat} {d a b sh : Option Nat} {imm : Option (BitVec 32)}
    (h : s.jigAt j op d a b sh imm = true) : (s.jig j).state = 2 := by
  simp only [State.jigAt, Bool.and_eq_true, decide_eq_true_eq] at h
  exact h.1.1.1.1

theorem end_ends {s : State} {j : Nat} (h : s.jigNext j 0x23 none none none none none) : Answers (.end_ j) s (fun t =>
    (t.jig j).active = false ∧ (t.jig j).state = 2 ∧ (t.jig j).dataNext = none ∧
    (t.jig j).data = (s.jig j).dataNext.getD (s.jig j).data ∧ (∀ k, k ≠ j → t.jig k = s.jig k) ∧
    t.cl = s.cl ∧ t.obj = s.obj) := by
  obtain ⟨hat, hj, -⟩ := id h
  obtain ⟨hactive, hstate, hnext, hdata⟩ := Jig.ended_keeps s.aon.clock (s.jig j)
  refine answers_of_jigNext h rfl ?_
  rw [jigEnd_eq, jig_updJig_self _ _ _ hj]
  exact ⟨hactive, hstate.trans (State.jigAt_state hat), hnext, hdata, fun k hk => jig_updJig_ne s j k _ hk, rfl, rfl⟩

/-- Settles O21: each branch by the condition of its target; END by what it makes of its jig. -/
theorem jigBranchWords : Obligations.JigBranchWords := by
  unfold Obligations.JigBranchWords
  refine ⟨fun j a b imm s h => answers_goes h rfl ?beq, fun j a b imm s h => answers_goes h rfl ?bne,
    fun j a b imm s h => answers_goes h rfl ?blt, fun j a b imm s h => answers_goes h rfl ?bge,
    fun j a imm s h => answers_goes h rfl ?bz, fun j imm s h => answers_goes h rfl rfl, fun j s h => end_ends h⟩
  case beq => simp only [decide_eq_true_eq, Jig.int_inj]
  case bne => simp only [decide_eq_true_eq, Jig.int_inj, ne_eq, ite_not]
  case blt => simp only [decide_eq_true_eq, Jig.int_lt]
  case bge => simp only [decide_eq_true_eq, ← not_lt, Jig.int_lt, ite_not]
  case bz => simp only [decide_eq_true_eq, Jig.int_eq_zero]

end Sys2Proof.Machine

/-! Engines, their tasks and the activations of pinned tasks (O24, O25). -/

namespace Sys2Proof.Machine

open Sys2Proof

/-! Engines (R406). -/

theorem State.engine_of_engines {s t : State} (h : t.dowel.engines = s.dowel.engines) (e : Nat) : t.engine e = s.engine e := by
  rw [State.engine, State.engine, h]

theorem State.engine_updEngine_same (s : State) {e : Nat} (f : Engine → Engine) (h : e < s.dowel.engines.length) :
    (s.updEngine e f).engine e = f (s.engine e) := by
  simp [State.engine, State.updEngine, List.getElem?_modify_eq, List.getElem?_eq_getElem h]

theorem State.engine_updEngine_ne (s : State) {e k : Nat} (f : Engine → Engine) (h : k ≠ e) :
    (s.updEngine e f).engine k = s.engine k := by
  simp [State.engine, State.updEngine, Ne.symm h]

theorem State.updEngine_length (s : State) (e : Nat) (f : Engine → Engine) :
    (s.updEngine e f).dowel.engines.length = s.dowel.engines.length := List.length_modify ..

theorem setDowelFlag_bit (n : Nat) (s : State) : bit (setDowelFlag n s).dowel.flags n = true := putBit_bit s.dowel.flags n true

/-! Spawned tasks and idle engines (R408, R409). -/

theorem taskSpawn_deque {e : Nat} (task : Nat) {s : State} (h1 : (s.engine e).state = 1) (h : (s.engine e).deque.length < 64) :
    taskSpawn e task s = s.updEngine e (fun g => { g with deque := task :: g.deque }) := if_pos (by simp [h, h1])

theorem taskSpawn_overflow {e : Nat} (task : Nat) {s : State} (h : 64 ≤ (s.engine e).deque.length)
    (ho : s.dowel.overflow.length < 1024) :
    taskSpawn e task s = { s with dowel := { s.dowel with overflow := s.dowel.overflow ++ [task] } } := by
  unfold taskSpawn
  rw [if_neg (by simp; omega), if_pos ho]

theorem taskSpawn_inline {e : Nat} (task : Nat) {s : State} (h : 64 ≤ (s.engine e).deque.length)
    (ho : 1024 ≤ s.dowel.overflow.length) : taskSpawn e task s = s.bump32 0x2300 4 := by
  unfold taskSpawn
  rw [if_neg (by simp; omega), if_neg (by omega)]

theorem exec_taskSpawn {e : Nat} (task : Nat) {s : State} (h1 : (s.engine e).state = 1) (hst : s.obs.standing = false) :
    exec (.taskSpawn e task) s = .next (taskSpawn e task s) := if_pos (by simp [h1, hst])

theorem engineSteal_overflow {e x : Nat} {l : List Nat} {s : State} (ho : s.dowel.overflow = x :: l) :
    engineSteal e s = ({ s with dowel := { s.dowel with overflow := l } } : State).updEngine e
      (fun g => { g with running := some x }) := by
  unfold engineSteal
  rw [ho]

theorem engineSteal_victim {e v x : Nat} {l : List Nat} {s : State} (ho : s.dowel.overflow = []) (hv : s.victim e = some v)
    (hd : (s.engine v).deque = l ++ [x]) : engineSteal e s =
      ((s.updEngine v (fun g => { g with deque := g.deque.dropLast })).updEngine e
        (fun g => { g with running := some x })).add64 0x2300 5 1 := by
  unfold engineSteal
  rw [ho, hv]
  dsimp only
  rw [hd, List.getLast?_concat]

theorem exec_engineSteal {e : Nat} {s : State} (h1 : (s.engine e).state = 1) (hst : s.obs.standing = false)
    (hd : (s.engine e).deque = []) (hb : s.pinBusy e = false) :
    exec (.engineSteal e) s = .next (engineSteal e (advanceTo (s.nextBound 40 none) s)) :=
  if_pos (by simp [State.engRuns, h1, hst, hd, hb])

theorem engineSteal_takes {e x : Nat} {l : List Nat} {s : State} (he : e < s.dowel.engines.length) (h1 : (s.engine e).state = 1)
    (hst : s.obs.standing = false) (hd : (s.engine e).deque = []) (hb : s.pinBusy e = false) (ho : s.dowel.overflow = x :: l) :
    Answers (.engineSteal e) s (fun t =>
      (t.engine e).running = some x ∧ t.dowel.overflow = l ∧ ∀ k, k ≠ e → t.engine k = s.engine k) := by
  have hdowel := advanceTo_dowel (s.nextBound 40 none) s
  refine ⟨_, exec_engineSteal h1 hst hd hb, ?_⟩
  beta_reduce
  rw [engineSteal_overflow (hdowel ▸ ho)]
  refine ⟨?_, rfl, fun k hk => ?_⟩
  · rw [State.engine_updEngine_same _ _ (by rwa [hdowel])]
  · rw [State.engine_updEngine_ne _ _ hk]
    exact State.engine_of_engines (congrArg Dowel.engines hdowel) k

theorem engineSteal_steals {e v x : Nat} {l : List Nat} {s : State} (he : e < s.dowel.engines.length)
    (hv : v < s.dowel.engines.length) (h1 : (s.engine e).state = 1) (hst : s.obs.standing = false)
    (hd : (s.engine e).deque = []) (hb : s.pinBusy e = false) (ho : s.dowel.overflow = []) (hvic : s.victim e = some v)
    (hl : (s.engine v).deque = l ++ [x]) : Answers (.engineSteal e) s (fun t =>
      (t.engine e).running = some x ∧ (t.engine v).deque = l ∧ ∀ k, k ≠ e → k ≠ v → t.engine k = s.engine k) := by
  have hdowel := advanceTo_dowel (s.nextBound 40 none) s
  have heng := State.engine_of_engines (congrArg Dowel.engines hdowel)
  have hvic' : (advanceTo (s.nextBound 40 none) s).victim e = some v := by
    rw [← hvic, State.victim, State.victim]
    simp only [heng]
  have hne : v ≠ e := fun h => by rw [h, hd] at hl; simp at hl
  refine ⟨_, exec_engineSteal h1 hst hd hb, ?_⟩
  beta_reduce
  rw [engineSteal_victim (hdowel ▸ ho) hvic' ((heng v).symm ▸ hl)]
  simp only [State.engine_of_engines (congrArg Dowel.engines (State.add64_dowel _ 0x2300 5 1))]
  refine ⟨?_, ?_, fun k hk hkv => ?_⟩
  · rw [State.engine_updEngine_same _ _ (by rwa [State.updEngine_length, hdowel])]
  · rw [State.engine_updEngine_ne _ _ hne, State.engine_updEngine_same _ _ (by rwa [hdowel]), heng, hl]
    exact List.dropLast_concat
  · rw [State.engine_updEngine_ne _ _ hk, State.engine_updEngine_ne _ _ hkv, heng]

/-- Settles O24: a spawn by its queue; an idle engine by where it finds a task. -/
theorem taskSpawnAndSteal : Obligations.TaskSpawnAndSteal := by
  unfold Obligations.TaskSpawnAndSteal
  refine ⟨fun e task s h1 hst hd ho => ⟨_, exec_taskSpawn task h1 hst, ?overflow⟩,
    fun e task s h1 hst hd ho => ⟨_, exec_taskSpawn task h1 hst, ?inline⟩,
    fun e x l s he h1 hst hd hb ho => engineSteal_takes he h1 hst hd hb ho,
    fun e v x l s he hv h1 hst hd hb ho hvic hl => engineSteal_steals he hv h1 hst hd hb ho hvic hl⟩
  case overflow =>
    rw [taskSpawn_overflow task hd ho]
    exact ⟨rfl, rfl⟩
  case inline =>
    rw [taskSpawn_inline task hd ho]
    exact ⟨rfl, State.num_bump32_same _ _ _⟩

/-! Activations (R407, R410). -/

/-- A jig that begins an activation at an instant of its period. -/
def Jig.activated (tk moment per : Nat) (away : Bool) (g : Jig) : Jig :=
  { g with
    active := true, regs := List.replicate 16 0, pc := 0, steps := 0, objs := 0, missed := false, bad := false
    gap := g.prevStart.map (fun q => tk - q), prevStart := some tk, actStart := tk, startAt := moment, nextAt := moment + per
    onPartner := away }

/-- What changes a jig reads of the engines' and jigs' unit alone. -/
theorem updJig_dowel_congr {s t : State} (h : t.dowel = s.dowel) (j : Nat) (f : Jig → Jig) :
    (t.updJig j f).dowel = (s.updJig j f).dowel := congrArg (fun d : Dowel => { d with jigs := d.jigs.modify j f }) h

theorem updJig_of_fixed {s : State} {j : Nat} {f : Jig → Jig} (h : f (s.jig j) = s.jig j) : s.updJig j f = s :=
  (updJig_congr (g := id) h).trans (by simp [State.updJig])

theorem State.jig_of_jigs {s t : State} (h : t.dowel.jigs = s.dowel.jigs) (j : Nat) : t.jig j = s.jig j := by
  rw [State.jig, State.jig, h]

theorem jigActivate_dowel {j : Nat} {s : State} (ha : (s.jig j).active = false) : ∃ tk away, (jigActivate j s).dowel =
    (s.updJig j (Jig.activated tk (s.jig j).nextAt (us (s.pn (0x2310 + j) 3)) away)).dowel := by
  have hdowel := advanceTo_dowel (s.jig j).nextAt s
  have hidle : ((advanceTo (s.jig j).nextAt s).jig j).active = false := by rwa [State.jig_of_dowel hdowel]
  refine ⟨(advanceTo (s.jig j).nextAt s).tick, !(advanceTo (s.jig j).nextAt s).engRuns ((advanceTo (s.jig j).nextAt s).jigEng j), ?_⟩
  unfold jigActivate
  dsimp only
  rw [if_neg (by rw [hidle]; decide), State.put_dowel]
  exact updJig_dowel_congr hdowel j (Jig.activated _ _ _ _)

/-- A jig whose activation has passed its deadline, with fewer than sixteen bad ones in a row. -/
def Jig.missing (g : Jig) : Jig := { g with missed := true, bad := true, badRun := if g.bad then g.badRun else g.badRun + 1 }

theorem jigBad_dowel {j : Nat} {s : State} (hj : j < s.dowel.jigs.length) (hr : (s.jig j).badRun < 15) : (jigBad j s).dowel =
    (s.updJig j (fun g => { g with bad := true, badRun := if g.bad then g.badRun else g.badRun + 1 })).dowel := by
  unfold jigBad
  split
  · rename_i hb
    exact congrArg State.dowel (updJig_of_fixed (by rw [if_pos hb, ← hb])).symm
  · rename_i hb
    have hlow : ¬ 16 ≤ ((s.updJig j (fun g => { g with bad := true, badRun := g.badRun + 1 })).jig j).badRun := by
      rw [jig_updJig_self _ _ _ hj]
      exact Nat.not_le.mpr (Nat.succ_lt_succ hr)
    dsimp only
    rw [if_neg hlow]
    exact congrArg State.dowel (updJig_congr (by simp [hb]))

/-- Jig j with a passed deadline and its count and flag, before the miss is reckoned as a bad activation (R410). -/
def State.afterDeadline (s : State) (j : Nat) : State :=
  setDowelFlag 1 (((advanceTo ((s.jig j).startAt + us (s.pn (0x2310 + j) 4)) s).updJig j
    (fun g => { g with missed := true })).bump32 (0x2310 + j) 0x0C)

theorem State.afterDeadline_jigs (s : State) (j : Nat) :
    (s.afterDeadline j).dowel.jigs = (s.updJig j (fun g => { g with missed := true })).dowel.jigs :=
  have hdowel := advanceTo_dowel ((s.jig j).startAt + us (s.pn (0x2310 + j) 4)) s
  have hjigs := congrArg Dowel.jigs (updJig_dowel_congr hdowel j (fun g => { g with missed := true }))
  hjigs

theorem activationDeadlineMiss_misses {s : State} {j : Nat} (hj : j < s.dowel.jigs.length) (h2 : (s.jig j).state = 2)
    (ha : (s.jig j).active = true) (hm : (s.jig j).missed = false) (hst : s.obs.standing = false) (hr : (s.jig j).badRun < 15) :
    Answers (.activationDeadlineMiss (.jig j)) s (fun t => t.jig j = (s.jig j).missing ∧ bit t.dowel.flags 1 = true) := by
  refine ⟨jigMiss j s, if_pos (by simp [h2, ha, hm, hst]), ?_⟩
  have hjig : (s.afterDeadline j).jig j = { s.jig j with missed := true } :=
    (State.jig_of_jigs (s.afterDeadline_jigs j) j).trans (jig_updJig_self s j _ hj)
  have hlen : j < (s.afterDeadline j).dowel.jigs.length := by
    rw [State.afterDeadline_jigs, updJig_length]
    exact hj
  have hbad := jigBad_dowel hlen (by rwa [hjig])
  have hmiss : jigMiss j s = jigBad j (s.afterDeadline j) := rfl
  beta_reduce
  rw [hmiss, State.jig_of_dowel hbad, jig_updJig_self _ _ _ hlen, hjig, hbad]
  exact ⟨rfl, setDowelFlag_bit 1 _⟩

theorem jigActivate_begins {j : Nat} {s : State} (hj : j < s.dowel.jigs.length) (ha : (s.jig j).active = false) :
    ∃ tk away, (jigActivate j s).jig j = Jig.activated tk (s.jig j).nextAt (us (s.pn (0x2310 + j) 3)) away (s.jig j) ∧
      ∀ k, k ≠ j → (jigActivate j s).jig k = s.jig k := by
  obtain ⟨tk, away, h⟩ := jigActivate_dowel ha
  refine ⟨tk, away, ?_, fun k hk => ?_⟩
  · rw [State.jig_of_dowel h, jig_updJig_self _ _ _ hj]
  · rw [State.jig_of_dowel h, jig_updJig_ne _ _ _ _ hk]

theorem taskSpawn_takes {e task : Nat} {s : State} (he : e < s.dowel.engines.length) (h1 : (s.engine e).state = 1)
    (hst : s.obs.standing = false) (hd : (s.engine e).deque.length < 64) : Answers (.taskSpawn e task) s (fun t =>
      (t.engine e).deque = task :: (s.engine e).deque ∧ t.dowel.overflow = s.dowel.overflow ∧
        ∀ k, k ≠ e → t.engine k = s.engine k) := by
  refine ⟨_, exec_taskSpawn task h1 hst, ?_⟩
  beta_reduce
  rw [taskSpawn_deque task h1 hd, State.engine_updEngine_same _ _ he]
  exact ⟨rfl, rfl, fun k hk => State.engine_updEngine_ne _ _ hk⟩

/-! Firmware's own pinned tasks (R407). -/

theorem newPin_bounds (id fr now : Nat) : (newPin id fr now).eng < 16 ∧ 0 < (newPin id fr now).deadline ∧
    (newPin id fr now).deadline ≤ (newPin id fr now).period := by
  refine ⟨Nat.mod_lt _ (by decide), Nat.succ_pos _, Nat.succ_le_of_lt (Nat.mod_lt _ (Nat.succ_pos _))⟩

theorem activate_others {l : List PinTask} {id : Nat} (away : Bool) (h : ∀ p ∈ l, p.id ≠ id) :
    l.map (fun q => if q.id = id then q.activate away else q) = l :=
  (List.map_congr_left fun p hp => if_neg (h p hp)).trans (List.map_id l)

theorem withPin_fresh {id : Nat} {s : State} (h : ∀ p ∈ s.dowel.pins, p.id ≠ id) :
    (withPin id s).dowel.pins = s.dowel.pins ++ [newPin id s.free s.aon.clock] := by
  unfold withPin
  rw [if_neg (by simpa using h)]

theorem withPin_find {id : Nat} {s : State} (h : ∀ p ∈ s.dowel.pins, p.id ≠ id) :
    (withPin id s).dowel.pins.find? (fun p => p.id = id) = some (newPin id s.free s.aon.clock) := by
  rw [withPin_fresh h, List.find?_append, List.find?_eq_none.mpr (by simpa using h)]
  simp [newPin]

theorem pinActivate_fresh {id : Nat} {s : State} (h : ∀ p ∈ s.dowel.pins, p.id ≠ id) : ∃ away, (pinActivate id s).dowel.pins =
    s.dowel.pins ++ [(newPin id s.free s.aon.clock).activate away] := by
  let s1 := advanceTo (newPin id s.free s.aon.clock).nextAt (withPin id s)
  refine ⟨!s1.engRuns (newPin id s.free s.aon.clock).eng, ?_⟩
  have hpins : s1.dowel.pins = s.dowel.pins ++ [newPin id s.free s.aon.clock] :=
    (congrArg Dowel.pins (advanceTo_dowel _ _)).trans (withPin_fresh h)
  unfold pinActivate
  dsimp only
  rw [withPin_find h]
  refine (congrArg (List.map _) hpins).trans ?_
  rw [List.map_append, activate_others _ h]
  simp [newPin, s1]

theorem pinActivate_begins {id : Nat} {s : State} (h : ∀ p ∈ s.dowel.pins, p.id ≠ id) :
    ∃ p, (pinActivate id s).dowel.pins = s.dowel.pins ++ [p] ∧ p.id = id ∧ p.late = false ∧ p.startAt = some s.aon.clock ∧
      p.eng < 16 ∧ 0 < p.deadline ∧ p.deadline ≤ p.period ∧ p.nextAt = s.aon.clock + 4 * p.period := by
  obtain ⟨away, hpins⟩ := pinActivate_fresh h
  obtain ⟨heng, hdead, hper⟩ := newPin_bounds id s.free s.aon.clock
  exact ⟨_, hpins, rfl, rfl, rfl, heng, hdead, hper, rfl⟩

/-- Settles O25: a jig's activation and its miss by what they make of the jig; a firmware task by its entry in the list. -/
theorem pinnedActivations : Obligations.PinnedActivations := by
  unfold Obligations.PinnedActivations
  refine ⟨fun j s hj h2 ha hr hst => ⟨jigActivate j s, if_pos (by simp [h2, hr, hst]), ?jig⟩,
    fun id s hr hst hnew => ⟨pinActivate id s, if_pos (by simp [hr, hst]), pinActivate_begins hnew⟩,
    fun j s hj h2 ha hm hst hb => answers_mono (activationDeadlineMiss_misses hj h2 ha hm hst hb) ?miss,
    fun e task s he h1 hst hd => taskSpawn_takes he h1 hst hd⟩
  case jig =>
    obtain ⟨tk, away, hjig, hothers⟩ := jigActivate_begins hj ha
    rw [hjig]
    exact ⟨rfl, rfl, rfl, rfl, rfl, rfl, rfl, rfl, rfl, hothers⟩
  case miss =>
    rintro t ⟨hjig, hflag⟩
    rw [hjig]
    exact ⟨rfl, rfl, h2, ha, hflag⟩

end Sys2Proof.Machine

/-! The words of jigs that reach the rest of the device (O22). -/

namespace Sys2Proof.Machine

open Sys2Proof

/-! RDTEL, POST, EVENT, ELAPSED and TRACE (R414, R415, R417). -/

/-- RDTEL of a live value that is not negative. -/
theorem rdtel_sets {s : State} {j d v : Nat} {imm : BitVec 32} (h : s.jigNext j 0x28 (some d) none none none (some imm))
    (hv : s.live imm.toNat = some (v : Int)) : Answers (.rdtel j d imm) s (wordSets s j d (BitVec.ofNat 64 v)) := by
  obtain ⟨hat, hj, hs⟩ := h
  have hlive : exec (.rdtel j d imm) s = .next (jigDo j (fun g => g.setReg d (BitVec.ofInt 64 v)) s) := by
    refine (if_pos hat).trans ?_
    rw [hv]
  refine ⟨_, hlive, ?_⟩
  rw [BitVec.ofInt_natCast]
  exact jigDo_setReg s j d (fun _ => BitVec.ofNat 64 v) hj hs

/-- The kind of live value that a word names is its top byte. -/
theorem telKind_eq (imm : BitVec 32) : bits imm.toNat 31 24 = imm.toNat / 2 ^ 24 :=
  Nat.mod_eq_of_lt (by have := imm.isLt; omega)

theorem telItem_eq (n : Nat) : bits n 15 0 = n % 65536 := by simp [bits]

section
variable {s : State} {imm : BitVec 32}

theorem live_tick (h : imm.toNat / 2 ^ 24 = 0) : s.live imm.toNat = some (s.tick : Int) := by
  have hkind := (telKind_eq imm).trans h
  simp [State.live, hkind]

theorem live_vout (h : imm.toNat / 2 ^ 24 = 1) (hn : imm.toNat % 65536 < 6) :
    s.live imm.toNat = some ((s.rail (imm.toNat % 65536)).vout : Int) := by
  have hkind := (telKind_eq imm).trans h
  simp [State.live, hkind, telItem_eq, hn]

theorem live_pDie (h : imm.toNat / 2 ^ 24 = 4) : s.live imm.toNat = some (s.cap.pDie : Int) := by
  have hkind := (telKind_eq imm).trans h
  simp [State.live, hkind]

theorem live_mon (h : imm.toNat / 2 ^ 24 = 6) (hn : imm.toNat % 65536 < 256) :
    s.live imm.toNat = some ((s.region (imm.toNat % 65536)).mon : Int) := by
  have hkind := (telKind_eq imm).trans h
  simp [State.live, hkind, telItem_eq, hn]

end

theorem updAccr_dowel (s : State) : (updAccr s).dowel = s.dowel := view_dowel (updAccr_view (k := 32768) (by decide) s) (by decide)

/-- A post of a jig is a field of the jig, from which the access word follows (R417). -/
theorem posted_jig {s : State} {j : Nat} {f : Jig → Jig} (hj : j < s.dowel.jigs.length)
    (hs : (s.jig j).steps + 1 < (s.jig j).stepLimit) (h1 : ∀ g, (f g).steps = g.steps) (h2 : ∀ g, (f g).stepLimit = g.stepLimit) :
    (updAccr (jigDo j f s)).jig j = { f (s.jig j) with steps := (s.jig j).steps + 1, pc := (s.jig j).pc + 1 } := by
  rw [State.jig_of_dowel (updAccr_dowel _), jigDo_eq s j f hj hs h1 h2, jig_updJig_self _ _ _ hj]

/-- A word that hands the state t on, whose jigs are those of s, counts its step. -/
theorem handedOn_jig {s t : State} {j : Nat} (hd : t.dowel = s.dowel) (hj : j < s.dowel.jigs.length)
    (hs : (s.jig j).steps + 1 < (s.jig j).stepLimit) :
    jigDo j id t = t.updJig j (fun g => { g with steps := g.steps + 1, pc := g.pc + 1 }) ∧
      (jigDo j id t).jig j = { s.jig j with steps := (s.jig j).steps + 1, pc := (s.jig j).pc + 1 } := by
  have hjig := State.jig_of_dowel hd j
  have hlen : j < t.dowel.jigs.length := hd ▸ hj
  have heq : jigDo j id t = _ := jigDo_eq t j id hlen (hjig ▸ hs) (fun _ => rfl) fun _ => rfl
  refine ⟨heq, ?_⟩
  rw [heq, jig_updJig_self _ _ _ hlen, hjig]
  rfl

theorem scribePut_dowel (a b c d : Nat) (s : State) : (scribePut a b c d s).dowel = s.dowel :=
  view_dowel (scribePut_view (k := 32768) (by decide) a b c d s) (by decide)

theorem elapsed_sets {s : State} {j d : Nat} (h : s.jigNext j 0x2F (some d) none none none none) :
    (∀ n, (s.jig j).gap = some n → Answers (.elapsed j d) s (wordSets s j d (BitVec.ofNat 64 n))) ∧
    ((s.jig j).gap = none → Answers (.elapsed j d) s (fun t => ∃ x, wordSets s.takeFree j d x t)) := by
  obtain ⟨hat, hj, hs⟩ := h
  constructor
  · intro n hn
    refine ⟨jigDo j (fun g => g.setReg d (BitVec.ofNat 64 n)) s, (if_pos hat).trans (by rw [hn]), ?_⟩
    exact jigDo_setReg s j d (fun _ => BitVec.ofNat 64 n) hj hs
  · intro hn
    refine ⟨jigDo j (fun g => g.setReg d (Config.freeValue s.free)) s.takeFree, (if_pos hat).trans (by rw [hn]), Config.freeValue s.free, ?_⟩
    exact jigDo_setReg s.takeFree j d (fun _ => Config.freeValue s.free) hj hs

/-! Object words (R414, R416). -/

/-- What the word about to execute says of the state: its jig runs with no request outstanding, and the word carries its operands. -/
theorem State.jigAt_iff {s : State} {j op : Nat} {d a b sh : Option Nat} {imm : Option (BitVec 32)} :
    s.jigAt j op d a b sh imm = true ↔ (s.jig j).state = 2 ∧ (s.jig j).active = true ∧ s.obs.standing = false ∧
      (s.cl.jig.getD j {}).pend.isNone = true ∧ wordIs (s.jigWord j) op d a b sh imm = true := by
  simp only [State.jigAt, Bool.and_eq_true, decide_eq_true_eq, Bool.not_eq_true', and_assoc]

theorem wordIs_op {w op : Nat} {d a b sh : Option Nat} {imm : Option (BitVec 32)} (h : wordIs w op d a b sh imm = true) :
    opOf w = op := by
  simp only [wordIs, Bool.and_eq_true, decide_eq_true_eq] at h
  exact h.1.1.1.1.1

theorem wordIs_d {w op d : Nat} {a b sh : Option Nat} {imm : Option (BitVec 32)} (h : wordIs w op (some d) a b sh imm = true) :
    bits w 11 8 = d := by
  simp only [wordIs, Bool.and_eq_true, decide_eq_true_eq] at h
  exact h.1.1.1.1.2

theorem wordIs_b {w op b : Nat} {d a sh : Option Nat} {imm : Option (BitVec 32)} (h : wordIs w op d a (some b) sh imm = true) :
    bits w 19 16 = b := by
  simp only [wordIs, Bool.and_eq_true, decide_eq_true_eq] at h
  exact h.1.1.2

theorem objOf_toNat (imm : BitVec 32) : objOf imm.toNat = (imm.toNat / 65536, imm.toNat / 256 % 256) := by
  have := imm.isLt
  exact Prod.ext (Nat.mod_eq_of_lt (by omega)) rfl

theorem numType_of_row {i sub : Nat} {r : Row} (hr : dictRow i sub = some r) (hsize : r.ty.size.isSome = true) :
    numType i sub = some r.ty := by
  simp [numType, hr, hsize]

theorem octetType_of_row {i sub : Nat} {r : Row} (hr : dictRow i sub = some r) (hsize : r.ty.size.isSome = true) :
    octetType i sub = false := by
  simp [octetType, numType_of_row hr hsize]

/-- The request of a jig for an object. -/
def jigPend (op i sub : Nat) (v : List Byte) : ClPend := { op := op, idx := i, sub := sub, val := v, cls := 3, level := 0x0200 }

/-- While the device does not stand still, the request of a jig is served at once (R416). -/
theorem jigAsk_serves (j op i sub : Nat) (v : List Byte) {s : State} (hst : s.obs.standing = false) :
    jigAsk j op i sub v s = clTurn (clLocal (.jig j) (jigPend op i sub v) (s.jigAsking j op i sub v)) :=
  congrArg clTurn (clServe_here rfl hst)

/-- The state in which a served request of jig j ends, before the jig's answer. -/
def State.jigServed (u : State) (j : Nat) : State :=
  (clCount 0 u).updChan (.jig j) (fun c => { c with state := 0, pend := none })

theorem State.jigServed_dowel (u : State) (j : Nat) : (u.jigServed j).dowel = u.dowel := rfl

theorem State.jigServed_queues (u : State) (j : Nat) :
    (u.jigServed j).cl.fwQ = u.cl.fwQ ∧ (u.jigServed j).cl.chainQ = u.cl.chainQ := ⟨rfl, rfl⟩

/-- One object step of a jig (R420). -/
def Jig.asking (g : Jig) : Jig := { g with objs := g.objs + 1 }

section
variable {s u : State} {j d op : Nat} {a b : Option Nat} {imm : BitVec 32}

/-- The jig that asks, where the request is served with its registers as they were. -/
theorem served_jig {t : State} (h : s.jigNext j op (some d) a b none (some imm)) (hd : t.dowel = (s.updJig j Jig.asking).dowel) :
    t.jig j = (s.jig j).asking ∧ j < t.dowel.jigs.length ∧ (t.jig j).steps + 1 < (t.jig j).stepLimit ∧
      (t.jig j).active = true ∧ wordIs (t.jigWord j) op (some d) a b none (some imm) = true := by
  obtain ⟨hat, hj, hs⟩ := h
  obtain ⟨-, hactive, -, -, hword⟩ := State.jigAt_iff.mp hat
  have hjig : t.jig j = (s.jig j).asking := by rw [State.jig_of_dowel hd, jig_updJig_self _ _ _ hj]
  refine ⟨hjig, ?_, hjig ▸ hs, hjig ▸ hactive, ?_⟩
  · rw [hd, updJig_length]
    exact hj
  · rw [State.jigWord, hjig]
    exact hword

/-- A write word whose object takes the value: x_D holds the abort code 0, and what the write did stands. -/
theorem wrobj_answer {n : Option Int} (h : s.jigNext j 0x2A (some d) a none none (some imm)) (hreg : d < (s.jig j).regs.length)
    (hd : u.dowel = (s.updJig j Jig.asking).dowel) :
    ((jigAnswer j 0 n (u.jigServed j)).jig j).reg d = 0 ∧
      ((jigAnswer j 0 n (u.jigServed j)).jig j).objs = (s.jig j).objs + 1 ∧
      ((jigAnswer j 0 n (u.jigServed j)).cl = (u.jigServed j).cl) ∧
      (∀ p, p ∉ [Part.cl, .obj, .dowel] → p.same u (jigAnswer j 0 n (u.jigServed j))) := by
  obtain ⟨hjig, hlen, hstep, hactive, hword⟩ := served_jig h ((u.jigServed_dowel j).trans hd)
  have hanswer : jigAnswer j 0 n (u.jigServed j) = (u.jigServed j).updJig j (fun g =>
      { g.setReg d (BitVec.ofNat 64 0) with steps := g.steps + 1, pc := g.pc + 1 }) := by
    unfold jigAnswer
    simp only [hactive, wordIs_op hword, wordIs_d hword, Bool.not_true, Bool.false_eq_true, if_false, if_true,
      Nat.reduceEqDiff]
    exact jigDo_eq _ j (fun g => g.setReg d (BitVec.ofNat 64 0)) hlen hstep (fun _ => rfl) fun _ => rfl
  rw [hanswer]
  refine ⟨?_, ?_, rfl, fun p hp => ?_⟩
  · rw [jig_updJig_self _ _ _ hlen, hjig]
    simp [Jig.reg, Jig.setReg, Jig.asking, hreg]
  · rw [jig_updJig_self _ _ _ hlen, hjig]
    rfl
  · exact same_of_view hp ((State.updJig_view (by decide) _ _ _).trans
      ((State.updChan_view (by decide) _ _ _).trans (clCount_view (by decide) 0 u)))

/-- A read word whose object is read: x_D holds its value and x_B the abort code 0. -/
theorem rdobj_answer {n : Int} {b : Nat} (h : s.jigNext j 0x29 (some d) none (some b) none (some imm))
    (hd : u.dowel = (s.updJig j Jig.asking).dowel) (hreg : d < (s.jig j).regs.length) (hb : b < (s.jig j).regs.length)
    (hne : b ≠ d) :
    ((jigAnswer j 0 (some n) (u.jigServed j)).jig j).reg b = 0 ∧
      ((jigAnswer j 0 (some n) (u.jigServed j)).jig j).objs = (s.jig j).objs + 1 ∧
      ((jigAnswer j 0 (some n) (u.jigServed j)).jig j).reg d = BitVec.ofInt 64 n ∧
      (jigAnswer j 0 (some n) (u.jigServed j)).cl = (u.jigServed j).cl := by
  obtain ⟨hjig, hlen, hstep, hactive, hword⟩ := served_jig h ((u.jigServed_dowel j).trans hd)
  have hanswer : jigAnswer j 0 (some n) (u.jigServed j) = (u.jigServed j).takeFree.updJig j (fun g =>
      { (g.setReg d (BitVec.ofInt 64 n)).setReg b (BitVec.ofNat 64 0) with steps := g.steps + 1, pc := g.pc + 1 }) := by
    unfold jigAnswer
    simp only [hactive, wordIs_op hword, wordIs_d hword, wordIs_b hword, Bool.not_true, Bool.false_eq_true, if_false, if_true]
    exact jigDo_eq (u.jigServed j).takeFree j (fun g => (g.setReg d (BitVec.ofInt 64 n)).setReg b (BitVec.ofNat 64 0)) hlen hstep
      (fun _ => rfl) fun _ => rfl
  have hself : (jigAnswer j 0 (some n) (u.jigServed j)).jig j = { ((s.jig j).asking.setReg d (BitVec.ofInt 64 n)).setReg b
      (BitVec.ofNat 64 0) with steps := (s.jig j).steps + 1, pc := (s.jig j).pc + 1 } := by
    rw [hanswer, jig_updJig_self (u.jigServed j).takeFree j _ hlen]
    exact congrArg (fun g : Jig => { (g.setReg d (BitVec.ofInt 64 n)).setReg b (BitVec.ofNat 64 0) with
      steps := g.steps + 1, pc := g.pc + 1 }) hjig
  rw [hself]
  refine ⟨?_, rfl, ?_, (congrArg State.cl hanswer :)⟩
  · simp [Jig.reg, Jig.setReg, Jig.asking, hb]
  · simp [Jig.reg, Jig.setReg, Jig.asking, hreg, hne]

end

/-- A write of an object of the engine's own, past its checks, has its effect and ends (R96). -/
theorem clLocal_writes {ch : ChanId} {a : ClPend} {r : Row} {s u : State} (hop : a.op = 3) (hr : dictRow a.idx a.sub = some r)
    (hc : s.checks (a.who ch) 3 a.idx a.sub = 0) (hf : r.ty.fits a.val.length = true) (hi : r.inRange a.val = true)
    (hserved : s.servedHere a.idx a.sub (r.rg.clip (r.ty.num a.val)).toNat)
    (hw : objWrite (a.who ch) a.idx a.sub (r.rg.clip (r.ty.num a.val)) a.val s = .ok u) : clLocal ch a s = clOk ch a [] u := by
  obtain ⟨hfw, hmarks, hreg, hbud⟩ := hserved
  have heffect : clEffect ch a r s = clOk ch a [] u := by
    unfold clEffect
    simp only [Bool.and_eq_true, decide_eq_true_eq, hbud, hw]
    rw [if_neg hmarks, if_neg (by omega)]
  unfold clLocal
  dsimp only
  rw [hop, hc, hr]
  simp [hf, hi, hfw, heffect]

/-- A read of a plain numeric object below 0x2400, past its checks, ends with its number (R91, R96). -/
theorem clLocal_reads {ch : ChanId} {a : ClPend} {r : Row} {s : State} (hop : a.op = 1) (hr : dictRow a.idx a.sub = some r)
    (hc : s.checks (a.who ch) 1 a.idx a.sub = 0) (hlow : a.idx < 0x2400) (hfw : fwOwned a.idx a.sub = false)
    (hsize : r.ty.size.isSome = true) :
    clLocal ch a s = clOk ch a (r.ty.bytes (s.objNum ch a.idx a.sub)) s := by
  have hsync : syncReadState a.idx a.sub s = false := by simp [syncReadState]; omega
  have hrec : recReadState a.idx a.sub s = .ok s := if_neg (by simp; omega)
  have hbytes : s.clBytes ch a.idx a.sub = r.ty.bytes (s.objNum ch a.idx a.sub) := by simp [State.clBytes, hr, hsize]
  unfold clLocal
  dsimp only
  rw [hop, hc, hr, hrec]
  simp [hsync, hfw, hbytes]

theorem State.objsSpent_false {s : State} {j : Nat} (h : (s.jig j).objs < (s.jig j).objLimit) : s.objsSpent j = false :=
  decide_eq_false (by omega)

/-- A word that writes a plain object (R416). -/
theorem wrobj_writes {j d a i sub : Nat} {imm : BitVec 32} {s u : State} {r : Row}
    (h : s.jigNext j 0x2A (some d) (some a) none none (some imm)) (hi : i = imm.toNat / 65536) (hsub : sub = imm.toNat / 256 % 256)
    (hq : s.clQuiet) (hlim : (s.jig j).objs < (s.jig j).objLimit) (hreg : d < (s.jig j).regs.length)
    (hmay : s.jigMayWrite j i sub = true) (hr : dictRow i sub = some r) (hsize : r.ty.size.isSome = true)
    (hholds : r.ty.holds ((s.jig j).int a) = true)
    (hlocal : clLocal (.jig j) (jigPend 3 i sub (r.ty.bytes ((s.jig j).int a)))
      (s.jigAsking j 3 i sub (r.ty.bytes ((s.jig j).int a))) = clOk (.jig j) (jigPend 3 i sub (r.ty.bytes ((s.jig j).int a))) [] u)
    (hud : u.dowel = (s.jigAsking j 3 i sub (r.ty.bytes ((s.jig j).int a))).dowel)
    (huc : u.cl = (s.jigAsking j 3 i sub (r.ty.bytes ((s.jig j).int a))).cl) :
    Answers (.wrobj j d a imm) s (fun t => (t.jig j).reg d = 0 ∧ (t.jig j).objs = (s.jig j).objs + 1 ∧
      ∀ p, p ∉ [Part.cl, .obj, .dowel] → p.same u t) := by
  obtain ⟨hfw, hchain, hst⟩ := hq
  have hexec : exec (.wrobj j d a imm) s = .next (jigAsk j 3 i sub (r.ty.bytes ((s.jig j).int a)) s) := by
    refine (if_pos h.1).trans ?_
    subst hi hsub
    simp only [objOf_toNat, State.objsSpent_false hlim, hmay, numType_of_row hr hsize, hholds]
    rfl
  obtain ⟨hd0, hobjs, hcl, hframe⟩ := wrobj_answer (n := some (r.ty.num [])) h hreg hud
  have hask : jigAsk j 3 i sub (r.ty.bytes ((s.jig j).int a)) s = jigAnswer j 0 (some (r.ty.num [])) (u.jigServed j) := by
    rw [jigAsk_serves j 3 i sub _ hst, hlocal]
    have hok : clOk (.jig j) (jigPend 3 i sub (r.ty.bytes ((s.jig j).int a))) [] u =
        jigAnswer j 0 (some (r.ty.num [])) (u.jigServed j) := by simp only [clOk, jigPend, hr]; rfl
    rw [hok]
    obtain ⟨hqf, hqc⟩ := u.jigServed_queues j
    exact clTurn_quiet (by rw [hcl, hqf, huc]; exact hfw) (by rw [hcl, hqc, huc]; exact hchain)
  exact ⟨_, hexec.trans (congrArg _ hask), hd0, hobjs, hframe⟩

/-- A word that reads a plain numeric object (R416). -/
theorem rdobj_reads {j d b i sub : Nat} {imm : BitVec 32} {s : State} {r : Row}
    (h : s.jigNext j 0x29 (some d) none (some b) none (some imm)) (hi : i = imm.toNat / 65536) (hsub : sub = imm.toNat / 256 % 256)
    (hq : s.clQuiet) (hlim : (s.jig j).objs < (s.jig j).objLimit) (hreg : d < (s.jig j).regs.length)
    (hb : b < (s.jig j).regs.length) (hne : b ≠ d) (hr : dictRow i sub = some r) (hsize : r.ty.size.isSome = true)
    (hlow : i < 0x2400) (hown : fwOwned i sub = false)
    (hc : (s.jigAsking j 1 i sub []).checks { cls := 3, part := 0, level := 0x0200, ch := .jig j } 1 i sub = 0) :
    Answers (.rdobj j d b imm) s (fun t => (t.jig j).reg b = 0 ∧ (t.jig j).objs = (s.jig j).objs + 1 ∧
      (t.jig j).reg d = BitVec.ofInt 64 (r.ty.num (r.ty.bytes ((s.jigAsking j 1 i sub []).objNum (.jig j) i sub)))) := by
  obtain ⟨hfw, hchain, hst⟩ := hq
  let u := s.jigAsking j 1 i sub []
  let n := r.ty.num (r.ty.bytes (u.objNum (.jig j) i sub))
  have hexec : exec (.rdobj j d b imm) s = .next (jigAsk j 1 i sub [] s) := by
    refine (if_pos h.1).trans ?_
    subst hi hsub
    simp only [objOf_toNat, State.objsSpent_false hlim, octetType_of_row hr hsize]
    rfl
  obtain ⟨hb0, hobjs, hd, hcl⟩ := rdobj_answer (n := n) (u := u) h rfl hreg hb hne
  have hask : jigAsk j 1 i sub [] s = jigAnswer j 0 (some n) (u.jigServed j) := by
    rw [jigAsk_serves j 1 i sub _ hst, clLocal_reads rfl hr hc hlow hown hsize]
    have hok : clOk (.jig j) (jigPend 1 i sub []) (r.ty.bytes (u.objNum (.jig j) i sub)) u =
        jigAnswer j 0 (some n) (u.jigServed j) := by simp only [clOk, jigPend, hr]; rfl
    exact (congrArg clTurn hok).trans (clTurn_quiet (by rw [hcl]; exact hfw) (by rw [hcl]; exact hchain))
  exact ⟨_, hexec.trans (congrArg _ hask), hb0, hobjs, hd⟩

theorem post_posts {s : State} {j a : Nat} {imm : BitVec 32} {f : Jig → Jig} {P : State → Prop}
    (h : s.jigNext j 0x2B none (some a) none none (some imm)) (h1 : ∀ g, (f g).steps = g.steps)
    (h2 : ∀ g, (f g).stepLimit = g.stepLimit)
    (hexec : s.jigAt j 0x2B none (some a) none none (some imm) = true → exec (.post j a imm) s = .next (updAccr (jigDo j f s)))
    (hP : ∀ t : State, t.jig j = { f (s.jig j) with steps := (s.jig j).steps + 1, pc := (s.jig j).pc + 1 } → P t) :
    Answers (.post j a imm) s P :=
  ⟨_, hexec h.1, hP _ (posted_jig h.2.1 h.2.2 h1 h2)⟩

/-- Settles O22: the words that read a live value or hand one on; the object words by the engine's answer. -/
theorem jigWordsOutside : Obligations.JigWordsOutside := by
  unfold Obligations.JigWordsOutside
  refine ⟨fun j d imm s h => ⟨fun hk => rdtel_sets h (live_tick hk), fun hk hn => rdtel_sets h (live_vout hk hn),
      fun hk => rdtel_sets h (live_pDie hk), fun hk hn => rdtel_sets h (live_mon hk hn)⟩,
    fun j a imm s h h3 => post_posts (f := fun g => { g with post3 := some (((s.jig j).reg a).toNat % 2 ^ 32) }) h (fun _ => rfl) (fun _ => rfl)
      (fun hat => ?post3) fun t ht => ht ▸ ⟨rfl, rfl, rfl, rfl⟩,
    fun j a imm s h h4 => post_posts (f := fun g => { g with post4 := some (((s.jig j).reg a).toNat % 2 ^ 32) }) h (fun _ => rfl) (fun _ => rfl)
      (fun hat => ?post4) fun t ht => ht ▸ ⟨rfl, rfl, rfl, rfl⟩,
    fun j a imm s h => answers_of_jigNext h rfl ?event, fun j d s h => answers_setReg h rfl rfl,
    fun j d s h => elapsed_sets h, fun j a s h => answers_of_jigNext h rfl ?trace,
    fun j d b i sub imm s r h hi hsub hj hq hlim hd hb hne hr hsize hlow hown hc =>
      rdobj_reads h hi hsub hq hlim hd hb hne hr hsize hlow hown hc,
    fun j d a i sub imm s u r h hi hsub hj hq hlim hd hmay hr hsize hholds hfits hrange hserved hc hw hud huc =>
      wrobj_writes h hi hsub hq hlim hd hmay hr hsize hholds
        (clLocal_writes rfl hr hc hfits hrange hserved hw) hud huc⟩
  case post3 => exact (if_pos hat).trans (if_pos (congrArg BitVec.toNat h3))
  case post4 =>
    refine (if_pos hat).trans ((if_neg ?_).trans (if_pos (congrArg BitVec.toNat h4)))
    rw [h4]
    decide
  case event =>
    obtain ⟨heq, hjig⟩ := handedOn_jig (raise_dowel 0x0E10 0 _ _ s) h.2.1 h.2.2
    exact ⟨(congrArg State.rcd heq :), hjig⟩
  case trace =>
    obtain ⟨heq, hjig⟩ := handedOn_jig (scribePut_dowel 0x0C j (s.jig j).pc _ s) h.2.1 h.2.2
    exact ⟨(congrArg State.obs heq :), hjig⟩

end Sys2Proof.Machine

/-! Images taken by the engines one by one (O26). -/

namespace Sys2Proof.Machine

open Sys2Proof

theorem channel0_dowel (s : State) : (channel0 s).dowel = s.dowel := view_dowel (channel0_view (k := 32768) (by decide) s) (by decide)

theorem channel0_num (s : State) (i sub : Nat) : (channel0 s).num i sub = s.num i sub :=
  State.num_of_obj (view_obj (channel0_view (k := 2) (by decide) s) (by decide)) i sub

theorem channel0_engine (s : State) (e : Nat) : (channel0 s).engine e = s.engine e :=
  State.engine_of_engines (congrArg Dowel.engines (channel0_dowel s)) e

theorem raise_num_cause (code sev x y : Nat) (s : State) : (raise code sev x y s).num 0x2300 6 = s.num 0x2300 6 :=
  captureEvent_num _ _ (by decide) (by decide)

/-- Every cell of the engines reads through a change of all of them. -/
theorem State.engine_map {s t : State} {f : Engine → Engine} (h : t.dowel.engines = s.dowel.engines.map f) {e : Nat}
    (he : e < s.dowel.engines.length) : t.engine e = f (s.engine e) := by
  simp [State.engine, h, List.getElem?_eq_getElem he]

/-! Drain, reload and start (R423). -/

theorem movePins_onPartner {s : State} {e j : Nat} (hj : j < s.dowel.jigs.length) (h : s.jigEng j = e) :
    ((movePins e s).jig j).onPartner = true := by
  simp [State.jig, movePins, List.getElem?_eq_getElem hj, h]

theorem moveRunning_idle {s : State} {e : Nat} (h : (s.engine e).running = none) : moveRunning e s = s := by
  unfold moveRunning
  rw [h]

theorem drainDone_idle {s : State} {e : Nat} (h : (s.engine e).running = none) :
    drainDone e s = (movePins e s).updEngine e (fun g => { g with state := 3, stepAt := s.aon.clock }) :=
  congrArg (fun u : State => u.updEngine e _) (moveRunning_idle (s := movePins e s) h)

theorem engineDrainDone_reloads {s : State} {e : Nat} (he : e < s.dowel.engines.length) (h2 : (s.engine e).state = 2)
    (hst : s.obs.standing = false) (hrun : (s.engine e).running = none) : Answers (.engineDrainDone e) s (fun t =>
      (t.engine e).state = 3 ∧ (t.engine e).stepAt = s.aon.clock ∧ (t.engine e).deque = (s.engine e).deque ∧
      (∀ j, j < s.dowel.jigs.length → s.jigEng j = e → (t.jig j).onPartner = true) ∧ ∀ k, k ≠ e → t.engine k = s.engine k) := by
  refine ⟨channel0 (drainDone e s), if_pos (by simp [h2, hst]), ?_⟩
  have hself : (drainDone e s).engine e = { s.engine e with state := 3, stepAt := s.aon.clock } := by
    rw [drainDone_idle hrun]
    exact State.engine_updEngine_same (movePins e s) _ he
  simp only [channel0_engine, hself, true_and]
  refine ⟨fun j hj hje => ?_, fun k hk => ?_⟩
  · rw [State.jig_of_dowel (channel0_dowel _), drainDone_idle hrun]
    exact movePins_onPartner hj hje
  · rw [drainDone_idle hrun]
    exact State.engine_updEngine_ne (movePins e s) _ hk

theorem engineReloadDone_starts {s : State} {e : Nat} (he : e < s.dowel.engines.length) (h3 : (s.engine e).state = 3)
    (hst : s.obs.standing = false) : Answers (.engineReloadDone e) s (fun t =>
      (t.engine e).state = 4 ∧ (t.engine e).stepAt = s.aon.clock ∧ ∀ k, k ≠ e → t.engine k = s.engine k) := by
  refine ⟨channel0 (reloadDone e s), if_pos (by simp [h3, hst]), ?_⟩
  simp only [channel0_engine, reloadDone]
  rw [State.engine_updEngine_same _ _ he]
  exact ⟨rfl, rfl, fun k hk => State.engine_updEngine_ne _ _ hk⟩

/-- The next engine of an update is the first one from `start` that is not off. -/
theorem State.nextUp_eq {s : State} {start n : Nat} (hn : n < 32) (hs : start ≤ n) (h5 : (s.engine n).state ≠ 5)
    (hoff : ∀ k, start ≤ k → k < n → (s.engine k).state = 5) : s.nextUp start = some n := by
  refine List.find?_range_eq_some.mpr ⟨by simp [hs, h5], List.mem_range.mpr hn, fun k hk => ?_⟩
  by_cases hsk : start ≤ k
  · simp [hoff k hsk hk]
  · simp [hsk]

/-- Engine e runs the new image, in an update that is not rolling back. -/
def State.upgraded (s : State) (e : Nat) : State := s.updEngine e (fun g => { g with state := 1, new := true })

theorem startDone_next {s : State} {e n : Nat} (hupd : s.dowel.updEng = some e) (hback : s.dowel.rollback = false)
    (hen : e < n) (hn : n < 32) (h5 : (s.engine n).state ≠ 5) (hoff : ∀ k, e < k → k < n → (s.engine k).state = 5) :
    startDone e s = startDrain n (s.upgraded e) := by
  have hkeep : ∀ k, e < k → (s.upgraded e).engine k = s.engine k := fun k hk => State.engine_updEngine_ne _ _ (by omega)
  have hnext : (s.upgraded e).nextUp (e + 1) = some n := by
    refine State.nextUp_eq hn hen ?_ fun k hk hkn => ?_
    · rw [hkeep n hen]
      exact h5
    · rw [hkeep k hk]
      exact hoff k hk hkn
  unfold startDone
  simp only [hupd, hback]
  simp only [decide_true, Bool.not_true, Bool.false_eq_true, if_false, if_true, Bool.not_false]
  unfold State.upgraded at hnext ⊢
  rw [hnext]

theorem engineStartDone_next {s : State} {e n : Nat} (he : e < s.dowel.engines.length) (hlen : n < s.dowel.engines.length)
    (h4 : (s.engine e).state = 4) (hst : s.obs.standing = false) (hupd : s.dowel.updEng = some e)
    (hback : s.dowel.rollback = false) (hen : e < n) (h5 : (s.engine n).state ≠ 5)
    (hoff : ∀ k, e < k → k < n → (s.engine k).state = 5) (hn : n < 32) : Answers (.engineStartDone e) s (fun t =>
      (t.engine e).state = 1 ∧ (t.engine e).new = true ∧ (t.engine n).state = 2 ∧ t.dowel.updEng = some n) := by
  refine ⟨channel0 (startDone e s), if_pos (by simp [h4, hst]), ?_⟩
  have he' : (startDrain n (s.upgraded e)).engine e = { s.engine e with state := 1, new := true } :=
    (State.engine_updEngine_ne (s.upgraded e) _ (by omega)).trans (State.engine_updEngine_same s _ he)
  have hn' : ((startDrain n (s.upgraded e)).engine n).state = 2 :=
    congrArg Engine.state (State.engine_updEngine_same (s.upgraded e) _ (by rwa [State.upgraded, State.updEngine_length]))
  simp only [channel0_engine, channel0_dowel, startDone_next hupd hback hen hn h5 hoff, he', hn']
  exact ⟨trivial, trivial, trivial, rfl⟩

/-! Rollback (R424). -/

/-- A rollback of an update for a cause, before its first engine drains. -/
def State.rollingBack (s : State) (cause : Nat) : State :=
  ({ s with dowel := { s.dowel with updating := true, rollback := true, updLastAt := none } } : State).put 0x2300 6 cause

theorem rollbackStart_updating {s : State} (cause : Nat) (h : s.dowel.updating = true) :
    rollbackStart cause s = rollbackNext (s.rollingBack cause) := by
  unfold rollbackStart
  simp only [h]
  rfl

theorem rollingBack_engine (s : State) (cause e : Nat) : (s.rollingBack cause).engine e = s.engine e := rfl

theorem State.nextBack_none {s : State} (h : ∀ k, k < 32 → (s.engine k).new = false) : s.nextBack = none := by
  refine List.find?_eq_none.mpr fun k hk => ?_
  simp [h k (List.mem_range.mp (List.mem_reverse.mp hk))]

theorem State.nextBack_highest {s : State} {e : Nat} (he : e < 32) (hnew : (s.engine e).new = true) (h5 : (s.engine e).state ≠ 5)
    (hold : ∀ k, e < k → k < 32 → (s.engine k).new = false) : s.nextBack = some e := by
  refine List.find?_eq_some_iff_getElem.mpr ⟨by simp [hnew, h5], 31 - e, by simp; omega, ?_, fun k hk => ?_⟩
  · simp
    omega
  · have hfalse := hold (32 - 1 - k) (by omega) (by omega)
    simp [hfalse]

theorem rollbackNext_ends {s : State} (h : ∀ k, k < 32 → (s.engine k).new = false) : rollbackNext s = rollbackEnd s := by
  unfold rollbackNext
  rw [State.nextBack_none h]

theorem rollbackEnd_dowel (s : State) : (rollbackEnd s).dowel = { s.dowel with
    updating := false, rollback := false, updEng := none, updLastAt := none, flags := putBit s.dowel.flags 4 true,
    engines := s.dowel.engines.map (fun e => { e with new := false }) } := raise_dowel 0x0E05 1 0 0 _

theorem rollbackEnd_num (s : State) : (rollbackEnd s).num 0x2300 6 = s.num 0x2300 6 :=
  (raise_num_cause 0x0E05 1 0 0 _).trans (State.num_bump32_sub _ (by decide) (by decide) (by decide))

theorem rollingBack_num (s : State) (cause : Nat) : (s.rollingBack cause).num 0x2300 6 = cause := State.num_put_same _ _ _ _

/-- The drain of engine e has passed its limit, and the engine goes on (R424). -/
def State.drainLate (s : State) (e : Nat) : State :=
  (advanceTo ((s.engine e).stepAt + us 500) s).updEngine e (fun g => { g with state := 1 })

theorem State.drainLate_engines (s : State) (e : Nat) :
    (s.drainLate e).dowel.engines = (s.updEngine e (fun g => { g with state := 1 })).dowel.engines :=
  congrArg (fun d : Dowel => d.engines.modify e (fun g => { g with state := 1 })) (advanceTo_dowel ((s.engine e).stepAt + us 500) s)

theorem State.drainLate_updating (s : State) (e : Nat) : (s.drainLate e).dowel.updating = s.dowel.updating :=
  (congrArg Dowel.updating (advanceTo_dowel ((s.engine e).stepAt + us 500) s) :)

theorem State.drainLate_new {s : State} {e : Nat} (he : e < s.dowel.engines.length) (k : Nat) :
    ((s.drainLate e).engine k).new = (s.engine k).new := by
  rw [State.engine_of_engines (s.drainLate_engines e)]
  by_cases hk : k = e
  · rw [hk, State.engine_updEngine_same _ _ he]
  · rw [State.engine_updEngine_ne _ _ hk]

theorem engineDrainTimeout_ends {s : State} {e : Nat} (he : e < s.dowel.engines.length) (h2 : (s.engine e).state = 2)
    (hupd : s.dowel.updating = true) (hback : s.dowel.rollback = false) (hst : s.obs.standing = false)
    (hnew : ∀ k, k < 32 → (s.engine k).new = false) : Answers (.engineDrainTimeout e) s (fun t =>
      (t.engine e).state = 1 ∧ t.dowel.updating = false ∧ t.dowel.rollback = false ∧ t.num 0x2300 6 = 2 ∧
      bit t.dowel.flags 4 = true) := by
  have hroll : drainTimeout e s = rollbackEnd ((s.drainLate e).rollingBack 2) :=
    (rollbackStart_updating 2 ((s.drainLate_updating e).trans hupd)).trans
      (rollbackNext_ends fun k hk => (State.drainLate_new he k).trans (hnew k hk))
  have hlen : e < (s.drainLate e).dowel.engines.length := by
    rw [State.drainLate_engines, State.updEngine_length]
    exact he
  have hself : ((rollbackEnd ((s.drainLate e).rollingBack 2)).engine e).state = 1 := by
    rw [State.engine_map (s := (s.drainLate e).rollingBack 2) (congrArg Dowel.engines (rollbackEnd_dowel _)) hlen,
      rollingBack_engine,
      State.engine_of_engines (s.drainLate_engines e), State.engine_updEngine_same _ _ he]
  refine ⟨channel0 (drainTimeout e s), if_pos (by simp [h2, hupd, hback, hst]), ?_⟩
  simp only [channel0_engine, channel0_dowel, channel0_num, hroll, hself, rollbackEnd_dowel, rollbackEnd_num, rollingBack_num,
    putBit_bit]
  exact ⟨trivial, trivial, trivial, rfl, trivial⟩

/-- The start of engine e has passed its limit: it counts as one that runs the new image (R424). -/
def State.startLate (s : State) (e : Nat) : State :=
  (advanceTo ((s.engine e).stepAt + us 50) s).updEngine e (fun g => { g with new := true })

theorem State.startLate_engines (s : State) (e : Nat) :
    (s.startLate e).dowel.engines = (s.updEngine e (fun g => { g with new := true })).dowel.engines :=
  congrArg (fun d : Dowel => d.engines.modify e (fun g => { g with new := true })) (advanceTo_dowel ((s.engine e).stepAt + us 50) s)

theorem State.startLate_updating (s : State) (e : Nat) : (s.startLate e).dowel.updating = s.dowel.updating :=
  (congrArg Dowel.updating (advanceTo_dowel ((s.engine e).stepAt + us 50) s) :)

theorem startTimeout_drains {s : State} {e : Nat} (he : e < 32) (hlen : s.dowel.engines.length = 32) (h4 : (s.engine e).state = 4)
    (hupd : s.dowel.updating = true) (hold : ∀ k, e < k → k < 32 → (s.engine k).new = false) :
    startTimeout e s = startDrain e ((s.startLate e).rollingBack 3) := by
  have hself : (s.startLate e).engine e = { s.engine e with new := true } := by
    rw [State.engine_of_engines (s.startLate_engines e), State.engine_updEngine_same _ _ (hlen ▸ he)]
  have hnext : ((s.startLate e).rollingBack 3).nextBack = some e := by
    refine State.nextBack_highest he ?_ ?_ fun k hk hk32 => ?_
    · rw [rollingBack_engine, hself]
    · rw [rollingBack_engine, hself, h4]
      decide
    · rw [rollingBack_engine, State.engine_of_engines (s.startLate_engines e), State.engine_updEngine_ne _ _ (by omega)]
      exact hold k hk hk32
  refine (rollbackStart_updating 3 ((s.startLate_updating e).trans hupd)).trans ?_
  unfold rollbackNext
  rw [hnext]

theorem engineStartTimeout_drains {s : State} {e : Nat} (he : e < 32) (hlen : s.dowel.engines.length = 32)
    (h4 : (s.engine e).state = 4) (hupd : s.dowel.updating = true) (heng : s.dowel.updEng = some e)
    (hback : s.dowel.rollback = false) (hst : s.obs.standing = false) (hold : ∀ k, e < k → k < 32 → (s.engine k).new = false) :
    Answers (.engineStartTimeout e) s (fun t =>
      (t.engine e).state = 2 ∧ t.dowel.rollback = true ∧ t.dowel.updEng = some e ∧ t.num 0x2300 6 = 3) := by
  have hlate : e < (s.startLate e).dowel.engines.length := by
    rw [State.startLate_engines, State.updEngine_length, hlen]
    exact he
  have hself : ((startDrain e ((s.startLate e).rollingBack 3)).engine e).state = 2 :=
    congrArg Engine.state (State.engine_updEngine_same ((s.startLate e).rollingBack 3) _ hlate)
  have hcause : (startDrain e ((s.startLate e).rollingBack 3)).num 0x2300 6 = 3 := rollingBack_num _ 3
  refine ⟨channel0 (startTimeout e s), if_pos (by simp [h4, heng, hback, hst]), ?_⟩
  simp only [channel0_engine, channel0_dowel, channel0_num, startTimeout_drains he hlen h4 hupd hold, hself, hcause]
  exact ⟨trivial, rfl, rfl, trivial⟩

/-! The watchdog of an engine (R427). -/

/-- What a fault or a miss of a jig leaves alone: the engines and where the update stands. -/
def State.engineSide (s : State) : List Engine × Bool × Option Nat := (s.dowel.engines, s.dowel.updating, s.dowel.updLastAt)

theorem State.engineSide_of_dowel {s t : State} (h : t.dowel = s.dowel) : t.engineSide = s.engineSide := by
  rw [State.engineSide, State.engineSide, h]

theorem jigFault_engineSide (j code : Nat) (s : State) : (jigFault j code s).engineSide = s.engineSide := by
  unfold jigFault jigUnpost
  rw [State.engineSide_of_dowel (raise_dowel ..)]
  exact (State.engineSide_of_dowel (updAccr_dowel _) :)

theorem jigBad_engineSide (j : Nat) (s : State) : (jigBad j s).engineSide = s.engineSide := by
  unfold jigBad
  dsimp only
  split
  · rfl
  · split
    · exact jigFault_engineSide j 8 _
    · rfl

theorem abandonOn_engineSide (e : Nat) (s : State) : (abandonOn e s).engineSide = s.engineSide := by
  refine forEach_keeps (P := fun u => u.engineSide = s.engineSide) _ (fun j u hu => ?_) rfl
  refine Eq.trans ?_ hu
  show (jigBad j _).engineSide = _
  rw [jigBad_engineSide]
  split <;> rfl

/-- The state in which the watchdog of engine e has been counted, before its engine reloads. -/
def State.barking (s : State) (e : Nat) : State := setDowelFlag 0 (raise 0x0E01 1 e 0 (movePins e (abandonOn e s)))

theorem State.barking_engineSide (s : State) (e : Nat) : (s.barking e).engineSide = s.engineSide := by
  refine Eq.trans ?_ (abandonOn_engineSide e s)
  exact (State.engineSide_of_dowel (raise_dowel 0x0E01 1 e 0 (movePins e (abandonOn e s))) :)

theorem engineWatchdog_reloads {s : State} {e : Nat} (hupd : s.dowel.updating = false) (hlast : s.dowel.updLastAt = none)
    (hhist : (s.engine e).wdogHist = []) : engineWatchdog e s =
      ((s.barking e).updEngine e (fun g =>
        { g with running := none, wdogCnt := min 65535 (g.wdogCnt + 1), wdogHist := [s.aon.clock] })).updEngine e
        (fun g => { g with state := 3, stepAt := s.aon.clock, new := g.new }) := by
  have hside := s.barking_engineSide e
  have hupd' : (s.barking e).dowel.updating = false := (congrArg (fun x => x.2.1) hside).trans hupd
  have hlast' : (s.barking e).dowel.updLastAt = none := (congrArg (fun x => x.2.2) hside).trans hlast
  have hfil : [s.aon.clock].filter (fun t => decide (s.aon.clock < t + ms 1000)) = [s.aon.clock] := by simp [ms]
  unfold engineWatchdog
  rw [hhist]
  dsimp only
  rw [hfil]
  simp only [State.barking, State.updEngine] at hupd' hlast' ⊢
  simp [hupd', hlast']

theorem engineWatchdogExpiry_reloads {s : State} {e : Nat} (he : e < s.dowel.engines.length) (h1 : (s.engine e).state = 1)
    (hst : s.obs.standing = false) (hupd : s.dowel.updating = false) (hlast : s.dowel.updLastAt = none)
    (hhist : (s.engine e).wdogHist = []) : Answers (.engineWatchdogExpiry e) s (fun t =>
      (t.engine e).state = 3 ∧ (t.engine e).running = none ∧ (t.engine e).wdogCnt = min 65535 ((s.engine e).wdogCnt + 1) ∧
      (t.engine e).wdogHist = [s.aon.clock] ∧ bit t.dowel.flags 0 = true) := by
  refine ⟨channel0 (engineWatchdog e s), if_pos (by simp [h1, hst]), ?_⟩
  have heng : (s.barking e).dowel.engines = s.dowel.engines := congrArg Prod.fst (s.barking_engineSide e)
  have hlen : e < (s.barking e).dowel.engines.length := heng ▸ he
  simp only [channel0_engine, channel0_dowel, engineWatchdog_reloads hupd hlast hhist]
  rw [State.engine_updEngine_same _ _ (by rwa [State.updEngine_length]), State.engine_updEngine_same _ _ hlen,
    State.engine_of_engines heng]
  exact ⟨rfl, rfl, rfl, rfl, setDowelFlag_bit 0 _⟩

/-! The copy of an image to flash (R422). -/

theorem dmaGiveUse_dowel (use : Nat) (s : State) : (dmaGiveUse use s).dowel = s.dowel :=
  view_dowel (dmaGiveUse_view (k := 32768) (by decide) use s) (by decide)

theorem dmaGiveUse_flash (use : Nat) (s : State) : (dmaGiveUse use s).flash = s.flash :=
  view_flash (dmaGiveUse_view (k := 524288) (by decide) use s) (by decide)

/-- What ends a write to flash keeps the images (R503). -/
theorem flashDone_images (ok : Bool) (s : State) :
    (flashDone ok s).flash.imgA = s.flash.imgA ∧ (flashDone ok s).flash.imgB = s.flash.imgB := by
  unfold flashDone flashOk flashRun
  cases ok with
  | true => exact ⟨rfl, rfl⟩
  | false =>
    rw [if_neg (by decide)]
    dsimp only
    split
    · rw [clearReady_flash]
      exact ⟨rfl, rfl⟩
    · exact ⟨rfl, rfl⟩

theorem flashImageWriteDone_good {a b : Nat} {img : Image} {s : State} (h : s.dowel.flashCopy = some (a, b, 1)) :
    Answers (.flashImageWriteDone 0 img) s (fun t => t.dowel.flashCopy = none ∧ t.flash.imgA = img ∧ t.flash.imgCopy = 2 ∧
      t.flash.imgErr = 0 ∧ t.flash.imgB = s.flash.imgB) := by
  refine ⟨dmaGiveUse 4 (flashImageEnd 0 img s), if_neg (by simp [h]), ?_⟩
  obtain ⟨-, hB⟩ := flashDone_images true s
  simp only [dmaGiveUse_dowel, dmaGiveUse_flash, flashImageEnd, h]
  exact ⟨trivial, rfl, rfl, rfl, hB⟩

theorem flashImageWriteDone_bad {a b c err : Nat} {img : Image} {s : State} (h : s.dowel.flashCopy = some (a, b, c))
    (herr : err ≠ 0) : Answers (.flashImageWriteDone err img) s (fun t => t.dowel.flashCopy = none ∧ t.flash.imgCopy = 3 ∧
      t.flash.imgErr = err ∧ t.flash.imgA = s.flash.imgA ∧ t.flash.imgB = s.flash.imgB) := by
  refine ⟨dmaGiveUse 4 (flashImageEnd err img s), if_neg (by simp [h]), ?_⟩
  obtain ⟨hA, hB⟩ := flashDone_images (err != 2 && err != 3) s
  simp only [dmaGiveUse_dowel, dmaGiveUse_flash, flashImageEnd, h, bne_iff_ne, ne_eq, herr, not_false_eq_true, if_true]
  exact ⟨trivial, trivial, trivial, hA, hB⟩

/-- Settles O26: each step of an update by what it makes of its engine; the copy of an image by its slot. -/
theorem engineUpdates : Obligations.EngineUpdates := by
  unfold Obligations.EngineUpdates
  exact ⟨fun e s he h2 hst hrun => engineDrainDone_reloads he h2 hst hrun, fun e s he h3 hst => engineReloadDone_starts he h3 hst,
    fun e n s he hn h4 hst hupd hback hen h5 hoff h32 => engineStartDone_next he hn h4 hst hupd hback hen h5 hoff h32,
    fun e s he h2 hupd hback hst hnew => engineDrainTimeout_ends he h2 hupd hback hst hnew,
    fun e s he hlen h4 hupd heng hback hst hold => engineStartTimeout_drains he hlen h4 hupd heng hback hst hold,
    fun e s he h1 hst hupd hlast hhist => engineWatchdogExpiry_reloads he h1 hst hupd hlast hhist,
    fun a b img s h => flashImageWriteDone_good h, fun a b c err img s h herr => flashImageWriteDone_bad h herr⟩

end Sys2Proof.Machine

/-! Writes of objects that the engine serves itself, from the request to what the object's write makes of the state. -/

namespace Sys2Proof.Machine

open Sys2Proof

/-- The state in which the engine serves a whole write of a channel. -/
def State.serving (s : State) (ch : ChanId) (i sub : Nat) (val : List Byte) : State :=
  (clClose ch ((s.heard ch).updChan ch (ClChan.whole i sub val))).updChan ch (ClChan.pending (s.wholePend ch i sub val))

theorem State.serving_servesOn {s : State} {ch : ChanId} {i sub : Nat} {val : List Byte} (h : s.takes ch i sub val) :
    (s.serving ch i sub val).servesOn s ch := by
  obtain ⟨hq, hfree, -⟩ := h
  have hu : (clClose ch ((s.heard ch).updChan ch (ClChan.whole i sub val))).servesOn s ch :=
    ⟨((State.heard_servesFrom hq (State.hasChan_of_free hfree)).updChan _ (ClChan.whole_level i sub val)).clClose,
      ((s.heard_storedAs ch).of_obj (State.updChan_obj _ _ _)).clClose ch⟩
  exact hu.updChan (ClChan.pending (s.wholePend ch i sub val)) fun _ => rfl

theorem State.updChan_host (s : State) (ch : ChanId) (f : ClChan → ClChan) : (s.updChan ch f).host = s.host := by
  cases ch <;> rfl

theorem State.heard_gens (s : State) (ch : ChanId) : (s.heard ch).host.gens = s.host.gens := by
  cases ch <;> rfl

theorem clClose_host (ch : ChanId) (s : State) : (clClose ch s).host = s.host := by
  unfold clClose
  split
  · rfl
  · exact State.updChan_host _ _ _

/-- Taking a request leaves the generations of the partitions. -/
theorem State.serving_gens (s : State) (ch : ChanId) (i sub : Nat) (val : List Byte) :
    (s.serving ch i sub val).host.gens = s.host.gens := by
  rw [State.serving, State.updChan_host, clClose_host, State.updChan_host, State.heard_gens]

/-- A whole write that passes its checks, of an object that is not firmware's, has the object's effect in the state that serves it. -/
theorem clWhole_serving {s : State} {ch : ChanId} {i sub : Nat} {val : List Byte} {r : Row} (h : s.takes ch i sub val)
    (hr : dictRow i sub = some r) (hfw : fwOwned i sub = false) : clWhole ch i sub val s =
      clTurn (clEffect ch (s.wholePend ch i sub val) r (s.serving ch i sub val)) := by
  have hv := State.serving_servesOn h
  obtain ⟨⟨-, -, hstill⟩, hfree, hpass⟩ := h
  obtain ⟨r', hr', hc, hf, hi⟩ := State.writePasses_row hpass
  obtain rfl : r = r' := Option.some.inj (hr.symm.trans hr')
  have hstand : (s.serving ch i sub val).obs.standing = false := (congrArg Obs.standing hv.obs).trans hstill
  rw [clWhole_free i sub val hfree, clServe_here rfl hstand]
  refine congrArg clTurn ((clLocal_write hv rfl rfl hr hc hf hi).trans ?_)
  exact if_neg (by rw [show fwOwned (s.wholePend ch i sub val).idx (s.wholePend ch i sub val).sub = false from hfw]; decide)

section
variable {s : State} {ch : ChanId} {i sub : Nat} {val : List Byte} {r : Row} (h : s.takes ch i sub val)
  (hr : dictRow i sub = some r) (hfw : fwOwned i sub = false) (h53 : i ≠ 0x5300) (h26 : ¬(0x2620 ≤ i ∧ i < 0x2628))
  (hb : ∀ (v : State) n, v.budgetRec i sub n = none) {x : Int} (hx : r.rg.clip (r.ty.num val) = x)
include h hr hfw h53 h26 hb hx

/-- A write that its object takes: the state served and the answer. -/
theorem clWhole_takes {t : State} (hw : ∀ w, objWrite w i sub x val (s.serving ch i sub val) = .ok t) :
    clWhole ch i sub val s = clTurn (clOk ch (s.wholePend ch i sub val) [] t) := by
  rw [clWhole_serving h hr hfw]
  subst hx
  exact congrArg clTurn (clEffect_objWrite (a := s.wholePend ch i sub val) h53 h26 (hb _ _) (hw _))

/-- A write that its object takes ends with success; beside the channels, the port and the store the state is what the write makes
of it, and the store has one request more. -/
theorem clWhole_taken {t : State} (hw : ∀ w, objWrite w i sub x val (s.serving ch i sub val) = .ok t)
    (hcl : t.cl = (s.serving ch i sub val).cl) : (clWhole ch i sub val s).doneOn ch ∧
      (clWhole ch i sub val s).view 14680057 = t.view 14680057 ∧
      (clWhole ch i sub val s).obj = (t.add64 0x1020 1 1).obj := by
  obtain ⟨⟨-, hfq, hcq, hchan, -⟩, -⟩ := State.serving_servesOn h
  obtain ⟨hdone, hview, hobj, hq, hq'⟩ := clOk_write (s.wholePend ch i sub val) (State.hasChan_of_cl hcl hchan)
  rw [clWhole_takes h hr hfw h53 h26 hb hx hw, clTurn_quiet (by rw [hq, hcl, hfq]) (by rw [hq', hcl, hcq])]
  exact ⟨hdone, hview, hobj⟩

/-- A write that its object refuses ends with the abort; beside the channels, the port and the store the state is what the refused
write leaves. -/
theorem clWhole_refused_leaves {e : Nat} (hw : ∀ w, objWrite w i sub x val (s.serving ch i sub val) = .error e) (h1 : e ≠ 0x0601)
    (h4 : e ≠ 0x0604) : (clWhole ch i sub val s).abortedOn ch e ∧
      (clWhole ch i sub val s).view 14680057 = (objRefused i sub val (s.serving ch i sub val)).view 14680057 := by
  have hv := State.serving_servesOn h
  have hcl : (objRefused i sub val (s.serving ch i sub val)).cl = (s.serving ch i sub val).cl :=
    view_cl (objRefused_view (k := 4) (by decide) i sub val _) (by decide)
  have hchan := State.hasChan_of_cl hcl hv.hasChan
  obtain ⟨hends, hf, hq⟩ := clAbort_ends (s.wholePend ch i sub val) e hchan
  obtain ⟨⟨-, hfq, hcq, -, -⟩, -⟩ := id hv
  have heffect : clEffect ch (s.wholePend ch i sub val) r (s.serving ch i sub val) =
      clAbort ch (s.wholePend ch i sub val) e (objRefused i sub val (s.serving ch i sub val)) :=
    clEffect_refused (a := s.wholePend ch i sub val) h53 h26 (hb _ _) (by subst hx; exact hw _)
  have hwhole : clWhole ch i sub val s =
      clAbort ch (s.wholePend ch i sub val) e (objRefused i sub val (s.serving ch i sub val)) := by
    rw [clWhole_serving h hr hfw, heffect]
    exact clTurn_quiet (by rw [hf, hcl, hfq]) (by rw [hq, hcl, hcq])
  rw [hwhole]
  exact ⟨hends, clAbort_plain (s.wholePend ch i sub val) hchan h1 h4⟩

/-- A write that its object refuses leaves the thermal unit. -/
theorem clWhole_refused {e : Nat} (hw : ∀ w, objWrite w i sub x val (s.serving ch i sub val) = .error e) (h1 : e ≠ 0x0601)
    (h4 : e ≠ 0x0604) : (clWhole ch i sub val s).abortedOn ch e ∧ (clWhole ch i sub val s).therm = s.therm := by
  obtain ⟨hends, hview⟩ := clWhole_refused_leaves h hr hfw h53 h26 hb hx hw h1 h4
  have hrefused := objRefused_view (k := 16384) (by decide) i sub val (s.serving ch i sub val)
  exact ⟨hends, by rw [view_therm hview (by decide), view_therm hrefused (by decide), (State.serving_servesOn h).therm]⟩

end

end Sys2Proof.Machine

/-! Synchronisation objects: the words of tiles, the doorbells and the selected object's writes (O17, O18). -/

namespace Sys2Proof.Machine

open Sys2Proof

/-! Objects in their list (R434). -/

theorem sobjInsert_find_same {o : SyncObj} {l : List SyncObj} (h : ∀ x ∈ l, x.n ≠ o.n) :
    (sobjInsert o l).find? (fun x => x.n = o.n) = some o := by
  induction l with
  | nil => simp [sobjInsert]
  | cons x l ih =>
    have hx : decide (x.n = o.n) = false := decide_eq_false (h x List.mem_cons_self)
    unfold sobjInsert
    split
    · simp
    · simp only [List.find?_cons, hx, ih fun y hy => h y (List.mem_cons_of_mem _ hy)]

theorem sobjInsert_find_ne {o : SyncObj} {l : List SyncObj} {m : Nat} (h : m ≠ o.n) :
    (sobjInsert o l).find? (fun x => x.n = m) = l.find? (fun x => x.n = m) := by
  have ho : decide (o.n = m) = false := decide_eq_false (Ne.symm h)
  induction l with
  | nil => simp [sobjInsert, ho]
  | cons x l ih =>
    unfold sobjInsert
    split
    · simp [List.find?_cons, ho]
    · simp [List.find?_cons, ih]

theorem removed_ne {l : List SyncObj} {n : Nat} {x : SyncObj} (h : x ∈ l.filter (fun x => x.n ≠ n)) : x.n ≠ n := by
  simpa using (List.mem_filter.mp h).2

theorem find_removed_ne (l : List SyncObj) {n m : Nat} (h : m ≠ n) :
    (l.filter (fun x => x.n ≠ n)).find? (fun x => x.n = m) = l.find? (fun x => x.n = m) := by
  rw [List.find?_filter]
  refine congrFun (congrArg List.find? (funext fun x => ?_)) l
  by_cases hx : x.n = m
  · simp [hx, h]
  · simp [hx]

/-- The object a state holds under a number, from the list of its objects. -/
theorem State.sobj_of_find {s : State} {n : Nat} {x : Option SyncObj} (h : s.sync.objs.find? (fun o => o.n = n) = x) :
    s.sobj n = x.getD { n := n } := by
  unfold State.sobj
  rw [h]
  cases x <;> rfl

theorem State.sobj_of_objs {s t : State} (h : t.sync.objs = s.sync.objs) (n : Nat) : t.sobj n = s.sobj n := by
  rw [State.sobj, State.sobj, h]

theorem State.sobj_of_sync {s t : State} (h : t.sync = s.sync) (n : Nat) : t.sobj n = s.sobj n := by
  rw [State.sobj, State.sobj, h]

/-- An object carries its number. -/
theorem State.sobj_n (s : State) (n : Nat) : (s.sobj n).n = n := by
  unfold State.sobj
  split
  · rename_i o h
    simpa using List.find?_some h
  · rfl

theorem State.sobj_putSobj_same (s : State) (o : SyncObj) : (s.putSobj o).sobj o.n = o := by
  by_cases ho : o = { n := o.n }
  · have hput : (s.putSobj o).sync.objs = s.sync.objs.filter (fun x => x.n ≠ o.n) := if_pos ho
    have hnone : (s.putSobj o).sync.objs.find? (fun x => x.n = o.n) = none := by
      rw [hput]
      exact List.find?_eq_none.mpr fun x hx => by simpa using removed_ne hx
    exact (State.sobj_of_find hnone).trans ho.symm
  · have hput : (s.putSobj o).sync.objs = sobjInsert o (s.sync.objs.filter (fun x => x.n ≠ o.n)) := if_neg ho
    exact State.sobj_of_find (by rw [hput, sobjInsert_find_same fun x hx => removed_ne hx])

theorem State.sobj_putSobj_ne (s : State) {o : SyncObj} {m : Nat} (h : m ≠ o.n) : (s.putSobj o).sobj m = s.sobj m := by
  have hfind : (s.putSobj o).sync.objs.find? (fun x => x.n = m) = s.sync.objs.find? (fun x => x.n = m) := by
    show (putSobjL o s.sync.objs).find? _ = _
    unfold putSobjL
    split
    · exact find_removed_ne _ h
    · rw [sobjInsert_find_ne h, find_removed_ne _ h]
  rw [State.sobj, State.sobj, hfind]

/-- What changes object n alone, through the list. -/
theorem State.sobj_putSobj {s : State} {o : SyncObj} {n : Nat} (h : o.n = n) :
    (s.putSobj o).sobj n = o ∧ ∀ m, m ≠ n → (s.putSobj o).sobj m = s.sobj m := by
  subst h
  exact ⟨s.sobj_putSobj_same o, fun m hm => s.sobj_putSobj_ne hm⟩

/-! Signals (R440). -/

theorem SyncObj.signal_n (scope tile : Nat) (o : SyncObj) : (o.signal scope tile).n = o.n := by
  unfold SyncObj.signal
  dsimp only
  split <;> rfl

theorem SyncObj.signal_value (scope tile : Nat) (o : SyncObj) :
    if o.value = 65535 then (o.signal scope tile).value = 65535 ∧ (o.signal scope tile).sat = true ∧
      (o.signal scope tile).lost = min 65535 (o.lost + 1)
    else (o.signal scope tile).value = o.value + 1 := by
  unfold SyncObj.signal
  dsimp only
  split
  · rename_i h
    exact ⟨h, rfl, rfl⟩
  · rfl

theorem wakeAll_none {n : Nat} {s : State} (h : s.sync.waiters.filter (fun w => w.obj = n && !w.woken) = []) : wakeAll n s = s := by
  unfold wakeAll
  rw [h]
  rfl

/-- A signal to an object for which nobody waits changes that object alone. -/
theorem signalObj_quiet {n scope tile : Nat} {after : State → State} {s : State}
    (hw : s.sync.waiters.filter (fun w => w.obj = n && !w.woken) = [])
    (hobjs : ∀ u, (after u).sync.objs = u.sync.objs) (hwait : ∀ u, (after u).sync.waiters = u.sync.waiters) :
    (signalObj n scope tile after s).sobj n = (s.sobj n).signal scope tile ∧
      (signalObj n scope tile after s).sync.waiters = s.sync.waiters ∧
      ∀ m, m ≠ n → (signalObj n scope tile after s).sobj m = s.sobj m := by
  have hflag : ∀ b : Bool, ∀ u : State, (if b = true then setSyncFlag 0 u else u).sync.objs = u.sync.objs ∧
      (if b = true then setSyncFlag 0 u else u).sync.waiters = u.sync.waiters := fun b u => by cases b <;> exact ⟨rfl, rfl⟩
  let u := ((s.putSobj ((s.sobj n).signal scope tile)).add64 0x2400 0x0A 1).countP 10 ((s.sobj n).signal scope tile).owner 1
  let full := decide ((s.sobj n).value = 65535)
  obtain ⟨hfo, hfw⟩ := hflag full u
  have hwaiters := (hwait (if full = true then setSyncFlag 0 u else u)).trans hfw
  have hafter : signalObj n scope tile after s = after (if full = true then setSyncFlag 0 u else u) :=
    wakeAll_none ((congrArg (List.filter _) hwaiters).trans hw)
  have hsobj : ∀ m, (signalObj n scope tile after s).sobj m = (s.putSobj ((s.sobj n).signal scope tile)).sobj m := fun m => by
    rw [hafter]
    exact State.sobj_of_objs ((hobjs _).trans hfo) m
  obtain ⟨hself, hothers⟩ := State.sobj_putSobj (s := s) ((SyncObj.signal_n scope tile (s.sobj n)).trans (s.sobj_n n))
  exact ⟨(hsobj n).trans hself, by rw [hafter]; exact hwaiters, fun m hm => (hsobj m).trans (hothers m hm)⟩

/-! The words of tiles (R437 to R442). -/

/-- The unit's work on an accepted word of operation `op` (R440, R442). -/
def syncServe (tile op w p : Nat) (s : State) : State :=
  if op = 1 then syncSignalWord tile w p s else if op = 4 then syncCancelWord tile w s else syncSlot tile op w p s

theorem syncWord_takes {s : State} {tile op w p : Nat} (h : s.syncTakes tile op w p) :
    syncWord tile op w s = syncServe tile op w p (syncClear s) := by
  obtain ⟨hsat, htile, hp, hff, hst, hon, hop, hbad⟩ := h
  have hon' : (syncClear s).syncOn = true := hon
  have hp' : (syncClear s).cap.tileMap.getD tile 0xFF = p := hp
  have hkept : ¬ 5 ≤ bits w 2 0 := by omega
  have huse : ¬ 1024 ≤ tile := by omega
  unfold syncWord syncAccept syncServe
  simp only [hkept, hsat, huse, hp, hff, hst, hon', hbad, hp', if_false, decide_false, Bool.or_self, Bool.false_eq_true,
    Bool.not_true]

theorem syncSlot_free {s : State} {tile op w p : Nat} (h : s.waitOf (40 * tile + bits w 13 8) = none) :
    syncSlot tile op w p (syncClear s) =
      if op = 0 then syncBindWord tile w p (syncClear s) else syncTake tile op w p false (syncClear s) := by
  have hfree : (syncClear s).waitOf (40 * tile + bits w 13 8) = none := h
  unfold syncSlot
  rw [hfree]

/-- An ACQUIRE or a WAIT of an object that can be taken (R441, R442). -/
theorem syncTake_ready {s : State} {tile op w p n : Nat}
    (hx : s.xlate p (kvGet s.sync.bind_ (40 * tile + bits w 13 8)) (bits w 23 16) = .ok n) (hv : (s.sobj n).value ≠ 0) :
    syncTake tile op w p false s =
      syncReply tile op w (takeObj n p (some tile) (op = 3) s).1.fault false (takeObj n p (some tile) (op = 3) s).1.result
        (takeObj n p (some tile) (op = 3) s).1.reason ((takeObj n p (some tile) (op = 3) s).2.sobj n).value
        (takeObj n p (some tile) (op = 3) s).2 := by
  unfold syncTake
  dsimp only
  rw [hx]
  dsimp only
  rw [if_pos (by simpa using hv)]

/-- The object with one taken from it. -/
def SyncObj.taken (o : SyncObj) : SyncObj := { o with value := o.value - 1, acquires := (o.acquires + 1) % 2 ^ 32 }

theorem takeObj_acquires {s : State} {n p : Nat} {tile : Option Nat} (h : (s.sobj n).includes tile = true) :
    takeObj n p tile false s = ({ result := 1 }, s.putSobj (s.sobj n).taken) := by
  unfold takeObj
  simp [h, SyncObj.taken]

theorem takeObj_waits {s : State} {n p : Nat} {tile : Option Nat} (h : (s.sobj n).includes tile = true) :
    takeObj n p tile true s = ({}, s) := by
  unfold takeObj
  simp [h]

theorem State.sobj_taken (s : State) (n : Nat) : (s.putSobj (s.sobj n).taken).sobj n = (s.sobj n).taken :=
  (State.sobj_putSobj (o := (s.sobj n).taken) (s.sobj_n n)).1

section
variable {s : State} {tile n m p : Nat} {w : BitVec 64}

theorem syncBind_binds (h : s.syncTakes tile 0 w.toNat p) (hw : s.waitOf (40 * tile + bits w.toNat 13 8) = none)
    (hm : bits w.toNat 41 32 = m) (ho : s.mapOwner m = some p) : Answers (.syncBind tile w) s (fun t =>
      kvGet t.sync.bind_ (40 * tile + bits w.toNat 13 8) = some m ∧ t.sync.objs = s.sync.objs ∧ t.sync.waiters = s.sync.waiters ∧
      t.sync.notices = [(tile, syncWordOf 0 false false false (bits w.toNat 13 8) 0 0 0 (bits w.toNat 63 56))]) := by
  have ho' : (syncClear s).mapOwner (bits w.toNat 41 32) = some p := hm ▸ ho
  have hbind : syncWord tile 0 w.toNat s = syncReply tile 0 w.toNat false false 0 0 0 { syncClear s with sync :=
      { (syncClear s).sync with bind_ := kvPut s.sync.bind_ (40 * tile + bits w.toNat 13 8) (bits w.toNat 41 32) } } :=
    (syncWord_takes h).trans ((syncSlot_free hw).trans (if_pos ho'))
  refine ⟨_, congrArg Host.Outcome.next hbind, ?_, rfl, rfl, rfl⟩
  exact (kvGet_kvPut_same _ _ _).trans (congrArg some hm)

theorem syncSignal_signals (h : s.syncTakes tile 1 w.toNat p)
    (hx : s.xlate p (kvGet s.sync.bind_ (40 * tile + bits w.toNat 13 8)) (bits w.toNat 23 16) = .ok n)
    (hw : s.sync.waiters.filter (fun x => x.obj = n && !x.woken) = []) : Answers (.syncSignal tile w) s (fun t =>
      t.sobj n = (s.sobj n).signal (bits w.toNat 5 4) tile ∧ t.sync.waiters = s.sync.waiters ∧
        ∀ m, m ≠ n → t.sobj m = s.sobj m) := by
  have hx' : (syncClear s).xlate p (kvGet (syncClear s).sync.bind_ (40 * tile + bits w.toNat 13 8)) (bits w.toNat 23 16) = .ok n := hx
  have hword : syncWord tile 1 w.toNat s = signalObj n (bits w.toNat 5 4) tile (fun u =>
      syncReply tile 1 w.toNat false (decide (((syncClear s).sobj n).value = 65535)) 0 0 (u.sobj n).value u) (syncClear s) := by
    rw [syncWord_takes h]
    unfold syncServe syncSignalWord
    rw [if_pos rfl, hx']
  obtain ⟨hself, hwait, hothers⟩ := signalObj_quiet (n := n) (scope := bits w.toNat 5 4) (tile := tile) (s := syncClear s)
    (after := fun u => syncReply tile 1 w.toNat false (decide (((syncClear s).sobj n).value = 65535)) 0 0 (u.sobj n).value u)
    hw (fun _ => rfl) fun _ => rfl
  refine ⟨_, congrArg Host.Outcome.next hword, hself, hwait, hothers⟩

theorem syncAcquire_takes (h : s.syncTakes tile 2 w.toNat p) (hw : s.waitOf (40 * tile + bits w.toNat 13 8) = none)
    (hx : s.xlate p (kvGet s.sync.bind_ (40 * tile + bits w.toNat 13 8)) (bits w.toNat 23 16) = .ok n)
    (hv : (s.sobj n).value ≠ 0) (hin : (s.sobj n).includes (some tile) = true) : Answers (.syncAcquire tile w) s (fun t =>
      (t.sobj n).value = (s.sobj n).value - 1 ∧ t.sync.waiters = s.sync.waiters ∧
      t.sync.notices = [(tile, syncWordOf 2 false false false (bits w.toNat 13 8) 1 0 ((s.sobj n).value - 1) (bits w.toNat 63 56))]) := by
  have htake : takeObj n p (some tile) false (syncClear s) = ({ result := 1 }, (syncClear s).putSobj (s.sobj n).taken) :=
    takeObj_acquires (s := syncClear s) hin
  have hself : ((syncClear s).putSobj (s.sobj n).taken).sobj n = (s.sobj n).taken := State.sobj_taken (syncClear s) n
  have hword : syncWord tile 2 w.toNat s = syncReply tile 2 w.toNat false false 1 0 ((s.sobj n).value - 1)
      ((syncClear s).putSobj (s.sobj n).taken) := by
    refine (syncWord_takes h).trans ((syncSlot_free hw).trans ((syncTake_ready (s := syncClear s) hx hv).trans ?_))
    rw [show decide (2 = 3) = false from rfl, htake, hself]
    rfl
  exact ⟨_, congrArg Host.Outcome.next hword, congrArg SyncObj.value hself, rfl, rfl⟩

theorem syncWait_completes (h : s.syncTakes tile 3 w.toNat p) (hw : s.waitOf (40 * tile + bits w.toNat 13 8) = none)
    (hx : s.xlate p (kvGet s.sync.bind_ (40 * tile + bits w.toNat 13 8)) (bits w.toNat 23 16) = .ok n)
    (hv : (s.sobj n).value ≠ 0) (hin : (s.sobj n).includes (some tile) = true) : Answers (.syncWait tile w) s (fun t =>
      t.sync.objs = s.sync.objs ∧ t.sync.waiters = s.sync.waiters ∧
      t.sync.notices = [(tile, syncWordOf 3 false false false (bits w.toNat 13 8) 0 0 (s.sobj n).value (bits w.toNat 63 56))]) := by
  have htake : takeObj n p (some tile) true (syncClear s) = ({}, syncClear s) := takeObj_waits (s := syncClear s) hin
  have hword : syncWord tile 3 w.toNat s =
      syncReply tile 3 w.toNat false false 0 0 ((syncClear s).sobj n).value (syncClear s) := by
    refine (syncWord_takes h).trans ((syncSlot_free hw).trans ((syncTake_ready (s := syncClear s) hx hv).trans ?_))
    rw [show decide (3 = 3) = true from rfl, htake]
  exact ⟨_, congrArg Host.Outcome.next hword, rfl, rfl, rfl⟩

theorem syncCancel_drops {r : Waiter} (h : s.syncTakes tile 4 w.toNat p)
    (hw : s.waitOf (40 * tile + bits w.toNat 13 8) = some r) : Answers (.syncCancel tile w) s (fun t =>
      t.sync.waiters = s.sync.waiters.filter (fun x => x.a ≠ 40 * tile + bits w.toNat 13 8) ∧ t.sync.objs = s.sync.objs) := by
  have hw' : (syncClear s).waitOf (40 * tile + bits w.toNat 13 8) = some r := hw
  refine ⟨_, congrArg Host.Outcome.next (syncWord_takes h), ?_⟩
  unfold syncServe syncCancelWord
  rw [if_neg (by decide), if_pos rfl]
  dsimp only
  rw [hw']
  refine ⟨?_, rfl⟩
  show s.sync.waiters.filter (fun x => x.a != _) = _
  exact List.filter_congr fun x _ => by simp [bne, beq_eq_decide]

end

/-- Settles O17: each word by the object, the wait and the response it comes to. -/
theorem syncTileWords : Obligations.SyncTileWords := by
  unfold Obligations.SyncTileWords
  refine ⟨fun tile m p w s h hw hm ho => syncBind_binds h hw hm ho,
    fun tile n p w s h hx hn hw => answers_mono (syncSignal_signals h hx hw) ?signal,
    fun tile n p w s h hw hx hn hv hin => syncAcquire_takes h hw hx hv hin,
    fun tile n p w s h hw hx hv hin => syncWait_completes h hw hx hv hin,
    fun tile p w s r h hw => syncCancel_drops h hw⟩
  case signal =>
    rintro t ⟨hself, hwait, hothers⟩
    refine ⟨hself, hwait, ?_, hothers⟩
    rw [hself]
    exact SyncObj.signal_value _ _ _

/-! Doorbells (R446, R447). -/

section
variable {q : FabReq} {v n : Nat} {s : State}

/-- The write that rings the doorbell of a virtual ID, its low byte enabled. -/
def doorbellOf (q : FabReq) (v : Nat) : FabReq := { writeAt q (0x4000 + 8 * v) with wstrb := putBit q.wstrb 0 true }

theorem wordOf_doorbell (hv : v < 256) : wordOf (doorbellOf q v) = 0x4000 + 8 * v := by
  show (0x4000 + 8 * v) % 2 ^ 20 / 8 * 8 = _
  omega

theorem wordOf_tryAcquire (hv : v < 256) : wordOf (readAt q (0x5000 + 8 * v)) = 0x5000 + 8 * v := by
  show (0x5000 + 8 * v) % 2 ^ 20 / 8 * 8 = _
  omega

theorem fabWrite_doorbell (hv : v < 256) (img : Image) (hx : s.xlate q.part (s.hostMap q.part) v = .ok n) :
    fabWrite (doorbellOf q v) img s = (0, signalObj n 2 0xFFFF id (syncClear s)) := by
  have hvid : (0x4000 + 8 * v) % 0x1000 / 8 = v := by omega
  have hx' : (syncClear s).xlate q.part ((syncClear s).hostMap q.part) v = .ok n := hx
  have hpart : (doorbellOf q v).part = q.part := rfl
  unfold fabWrite doorWrite fabricSignal
  dsimp only
  rw [wordOf_doorbell hv, if_neg (by omega), if_neg (by omega), if_neg (by omega), if_pos (by omega), if_pos (by omega), hvid, hpart,
    hx']

/-- A write with an enabled byte that passes every check ends with what the write does (R22). -/
theorem fabRequest_write {img : Image} (hw : q.write = true) (hb : q.wstrb % 256 ≠ 0) (h : s.granted q) :
    fabRequest q img s = { (fabWrite q img s).2 with host := { (fabWrite q img s).2.host with
      rspCode := (fabWrite q img s).1, rspTag := q.tag, rdata := 0 } } := by
  rw [fabRequest_open h.1 h.2.1, fabAccess_granted h, if_neg (by simp [hw]), if_neg fun hs => hb hs.1]

theorem doorbellOf_enabled (q : FabReq) (v : Nat) : (doorbellOf q v).wstrb % 256 ≠ 0 := by
  show putBit q.wstrb 0 true % 256 ≠ 0
  simp only [putBit, if_true]
  omega

theorem doorbell_signals (hv : v < 256) (h : s.granted (doorbellOf q v))
    (hx : s.xlate q.part (s.hostMap q.part) v = .ok n)
    (hw : s.sync.waiters.filter (fun x => x.obj = n && !x.woken) = []) : Answers (.doorbellSignal q v) s (fun t =>
      t.host.rspCode = 0 ∧ t.sobj n = (s.sobj n).signal 2 0xFFFF ∧ t.sync.waiters = s.sync.waiters) := by
  have hexec : exec (.doorbellSignal q v) s = .next (fabRequest (doorbellOf q v) s.dowel.newImg s) := by
    have hmod : v % 256 = v := Nat.mod_eq_of_lt hv
    exact congrArg (fun k => Host.Outcome.next (fabRequest (doorbellOf q k) s.dowel.newImg s)) hmod
  obtain ⟨hself, hwait, -⟩ := signalObj_quiet (n := n) (scope := 2) (tile := 0xFFFF) (after := id) (s := syncClear s) hw
    (fun _ => rfl) fun _ => rfl
  refine ⟨_, hexec, ?_⟩
  rw [fabRequest_write rfl (doorbellOf_enabled q v) h, fabWrite_doorbell hv _ hx]
  exact ⟨rfl, hself, hwait⟩

theorem exec_tryAcquire (hv : v < 256) (h : s.granted (readAt q (0x5000 + 8 * v))) : ∃ t, exec (.doorbellTryAcquire q v) s = .next t ∧
    t.host.rspCode = (doorRead (readAt q (0x5000 + 8 * v)) s).1 ∧ t.host.rdata = (doorRead (readAt q (0x5000 + 8 * v)) s).2.1 ∧
    t.sync = (doorRead (readAt q (0x5000 + 8 * v)) s).2.2.sync := by
  have hmod : v % 256 = v := Nat.mod_eq_of_lt hv
  have hread : fabRead (readAt q (0x5000 + 8 * v)) s = doorRead (readAt q (0x5000 + 8 * v)) s := by
    unfold fabRead
    dsimp only
    rw [wordOf_tryAcquire hv, if_neg (by omega), if_neg (by omega), if_neg (by omega), if_neg (by omega), if_pos (by omega)]
  refine ⟨_, congrArg (fun k => Host.Outcome.next (fabRequest (readAt q (0x5000 + 8 * k)) s.dowel.newImg s)) hmod, ?_⟩
  rw [fabRequest_read rfl h, hread]
  exact ⟨rfl, rfl, rfl⟩

theorem doorRead_tryAcquire (hv : v < 256) {w : Nat} {t : State} (h : tryAcquire q.part v (syncClear s) = .ok (w, t)) :
    doorRead (readAt q (0x5000 + 8 * v)) s = (0, w, t) := by
  have hvid : (0x5000 + 8 * v) % 0x1000 / 8 = v := by omega
  have hpart : (readAt q (0x5000 + 8 * v)).part = q.part := rfl
  unfold doorRead
  dsimp only
  rw [wordOf_tryAcquire hv, if_neg (by omega), if_pos (by omega), hvid, hpart, h]

theorem tryAcquire_takes (hx : s.xlate q.part (s.hostMap q.part) v = .ok n) (hne : (s.sobj n).value ≠ 0)
    (hin : (s.sobj n).includes none = true) :
    tryAcquire q.part v s = .ok (1 + 2 ^ 16 * ((s.sobj n).value - 1), s.putSobj (s.sobj n).taken) := by
  unfold tryAcquire
  rw [hx]
  dsimp only
  rw [if_neg hne, takeObj_acquires hin, State.sobj_taken]
  rfl

theorem tryAcquire_none (hx : s.xlate q.part (s.hostMap q.part) v = .ok n) (h0 : (s.sobj n).value = 0) :
    tryAcquire q.part v s = .ok (0, s) := by
  unfold tryAcquire
  rw [hx]
  exact if_pos h0

theorem doorbellTryAcquire_takes (hv : v < 256) (h : s.granted (readAt q (0x5000 + 8 * v)))
    (hx : s.xlate q.part (s.hostMap q.part) v = .ok n) (hne : (s.sobj n).value ≠ 0) (hin : (s.sobj n).includes none = true) :
    Answers (.doorbellTryAcquire q v) s (fun t => t.host.rspCode = 0 ∧ (t.sobj n).value = (s.sobj n).value - 1 ∧
      t.host.rdata = 1 + 2 ^ 16 * ((s.sobj n).value - 1)) := by
  obtain ⟨t, hexec, hcode, hdata, hsync⟩ := exec_tryAcquire hv h
  rw [doorRead_tryAcquire hv (tryAcquire_takes (s := syncClear s) hx hne hin)] at hcode hdata hsync
  refine ⟨t, hexec, hcode, ?_, hdata⟩
  rw [State.sobj_of_sync hsync]
  exact congrArg SyncObj.value (State.sobj_taken (syncClear s) n)

theorem doorbellTryAcquire_finds_none (hv : v < 256) (h : s.granted (readAt q (0x5000 + 8 * v)))
    (hx : s.xlate q.part (s.hostMap q.part) v = .ok n) (h0 : (s.sobj n).value = 0) :
    Answers (.doorbellTryAcquire q v) s (fun t => t.host.rspCode = 0 ∧ t.host.rdata = 0 ∧ t.sync.objs = s.sync.objs) := by
  obtain ⟨t, hexec, hcode, hdata, hsync⟩ := exec_tryAcquire hv h
  rw [doorRead_tryAcquire hv (tryAcquire_none (s := syncClear s) hx h0)] at hcode hdata hsync
  exact ⟨t, hexec, hcode, hdata, (congrArg Sync.objs hsync :)⟩

end

/-! Writes of the selected object (R434, R452). -/

theorem dictRow_syncOwner : dictRow 0x2400 3 =
    some ⟨0x2400, 1, 0x03, 1, .u 1, 0x1202, 255, .ivs [(0, 63), (255, 255)] 1, .num, 19, false⟩ := by decide

theorem dictRow_syncValue : dictRow 0x2400 4 =
    some ⟨0x2400, 1, 0x04, 1, .u 2, 0x0303, 0, .ivs [(0, 65535)] 1, .absent, 19, false⟩ := by decide

theorem dictRow_syncFlags : dictRow 0x2400 5 = some ⟨0x2400, 1, 0x05, 1, .u 1, 0x0303, 0, .mask 3, .absent, 19, false⟩ := by decide

/-- A mask adds nothing for the bits that it lacks. -/
theorem maskFold_none {m x : Nat} {l : List Nat} (h : ∀ k ∈ l, bit m k = false) (a : Nat) :
    l.foldl (fun a k => if bit m k && bit x k then a + 2 ^ k else a) a = a := by
  induction l generalizing a with
  | nil => rfl
  | cons k l ih =>
    rw [List.foldl_cons, h k List.mem_cons_self]
    exact ih (fun j hj => h j (List.mem_cons_of_mem _ hj)) a

/-- The two bits that a write of CLEAR carries. -/
theorem clip_syncFlags (x : Int) : (Rg.mask 3).clip x = ((b2n (bit x.toNat 0) + 2 * b2n (bit x.toNat 1) : Nat) : Int) := by
  have hr : List.range 64 = 0 :: 1 :: (List.range 64).drop 2 := rfl
  unfold Rg.clip
  dsimp only
  rw [hr, List.foldl_cons, List.foldl_cons, maskFold_none (by decide), show bit 3 0 = true from rfl, show bit 3 1 = true from rfl]
  cases bit x.toNat 0 <;> cases bit x.toNat 1 <;> rfl

theorem bit_syncFlags (a b : Bool) : bit (b2n a + 2 * b2n b) 0 = a ∧ bit (b2n a + 2 * b2n b) 1 = b := by
  cases a <;> cases b <;> exact ⟨rfl, rfl⟩

section
variable {s : State} {ch : ChanId} {sub : Nat} {val : List Byte} {r : Row} (h : s.takes ch 0x2400 sub val)
include h

theorem serving_selected : (s.serving ch 0x2400 sub val).pn 0x2400 1 = s.pn 0x2400 1 :=
  (State.serving_servesOn h).2.pn (by decide) (by decide)

theorem serving_sync : (s.serving ch 0x2400 sub val).sync = s.sync := view_sync (State.serving_servesOn h).view (by decide)

/-- A write of the selected object that changes the list of objects alone. -/
theorem syncWrite_takes (hr : dictRow 0x2400 sub = some r) (hown : (r.own = 13 || r.own = 14) = false) {x : Int}
    (hx : r.rg.clip (r.ty.num val) = x) {o : SyncObj} (hn : o.n = s.pn 0x2400 1) {t : State}
    (hw : syncWrite 0x2400 sub x val (s.serving ch 0x2400 sub val) = .ok t) (hcl : t.cl = (s.serving ch 0x2400 sub val).cl)
    (ht : t.sync.objs = (s.putSobj o).sync.objs) : (clWhole ch 0x2400 sub val s).doneOn ch ∧
      (clWhole ch 0x2400 sub val s).sobj (s.pn 0x2400 1) = o ∧
      ∀ m, m ≠ s.pn 0x2400 1 → (clWhole ch 0x2400 sub val s).sobj m = s.sobj m := by
  obtain ⟨hdone, hview, -⟩ := clWhole_taken h hr (fwOwned_row hr hown) (by decide) (by decide) (fun _ _ => rfl) hx
    (t := t) (fun _ => hw) hcl
  have hobjs : (clWhole ch 0x2400 sub val s).sync.objs = (s.putSobj o).sync.objs :=
    (congrArg Sync.objs (view_sync hview (by decide))).trans ht
  obtain ⟨hself, hothers⟩ := State.sobj_putSobj (s := s) hn
  exact ⟨hdone, (State.sobj_of_objs hobjs _).trans hself, fun m hm => (State.sobj_of_objs hobjs m).trans (hothers m hm)⟩

end

theorem State.genOf_of_gens {s t : State} (h : t.host.gens = s.host.gens) (p : Nat) : t.genOf p = s.genOf p := by
  rw [State.genOf, State.genOf, h]

section
variable {s : State} {ch : ChanId} {val : List Byte}

/-- The selected object, assigned to a partition or to none (R434). -/
def State.assigned (s : State) (v : Nat) : SyncObj :=
  { s.sobj (s.pn 0x2400 1) with owner := v, gen := if v = 0xFF then 0 else s.genOf v }

theorem syncOwnerAssign_assigns (h : s.takes ch 0x2400 3 val) (hw : s.waitersOn (s.pn 0x2400 1) = 0) :
    Answers (.syncOwnerAssign ch val) s (fun t => t.doneOn ch ∧ t.sobj (s.pn 0x2400 1) = s.assigned (leVal val) ∧
      ∀ m, m ≠ s.pn 0x2400 1 → t.sobj m = s.sobj m) := by
  have hsel := serving_selected h
  have hsync := serving_sync h
  have hgen := State.genOf_of_gens (s.serving_gens ch 0x2400 3 val) (leVal val)
  have hwait : (s.serving ch 0x2400 3 val).waitersOn (s.pn 0x2400 1) = 0 := by
    rw [State.waitersOn, hsync]
    exact hw
  have hassign : syncWrite 0x2400 3 (leVal val) val (s.serving ch 0x2400 3 val) =
      .ok ((s.serving ch 0x2400 3 val).putSobj (s.assigned (leVal val))) := by
    show assignObj (leVal val) _ = _
    unfold assignObj State.assigned
    rw [hsel, hgen]
    dsimp only
    rw [State.sobj_of_sync hsync]
    exact if_pos (by rw [hwait]; rfl)
  refine ⟨_, rfl, syncWrite_takes h dictRow_syncOwner rfl rfl (s.sobj_n _) hassign rfl ?_⟩
  exact congrArg (fun y : Sync => putSobjL _ y.objs) hsync

/-- The selected object with its value set by hand (R452). -/
def State.valueSet (s : State) (v : Nat) : SyncObj :=
  { s.sobj (s.pn 0x2400 1) with n := s.pn 0x2400 1, value := v, relScope := 2, relTile := 0xFFFF }

theorem setObj_quiet {n v : Nat} {u : State} (h : v = 0 ∨ u.sync.waiters = []) :
    setObj n v u = u.putSobj { u.sobj n with value := v, relScope := 2, relTile := 0xFFFF } := by
  rcases h with h0 | hw
  · exact if_pos h0
  · unfold setObj
    split
    · rfl
    · refine wakeAll_none ?_
      show u.sync.waiters.filter _ = []
      rw [hw]
      rfl

theorem syncSetValue_sets (h : s.takes ch 0x2400 4 val) (hw : leVal val = 0 ∨ s.sync.waiters = []) :
    Answers (.syncSetValue ch val) s (fun t => t.doneOn ch ∧ t.sobj (s.pn 0x2400 1) = s.valueSet (leVal val) ∧
      ∀ m, m ≠ s.pn 0x2400 1 → t.sobj m = s.sobj m) := by
  have hsel := serving_selected h
  have hsync := serving_sync h
  have hquiet : leVal val = 0 ∨ (syncClear (s.serving ch 0x2400 4 val)).sync.waiters = [] :=
    hw.imp_right fun hn => (congrArg Sync.waiters hsync).trans hn
  have hobj : { (s.serving ch 0x2400 4 val).sobj (s.pn 0x2400 1) with
      value := leVal val, relScope := 2, relTile := 0xFFFF } = s.valueSet (leVal val) := by
    rw [State.sobj_of_sync hsync, State.valueSet, ← s.sobj_n (s.pn 0x2400 1)]
    simp only [State.sobj_n]
  have hset : syncWrite 0x2400 4 (leVal val) val (s.serving ch 0x2400 4 val) =
      .ok ((syncClear (s.serving ch 0x2400 4 val)).putSobj (s.valueSet (leVal val))) := by
    show Except.ok (setObj _ (leVal val) _) = _
    rw [setObj_quiet hquiet, hsel]
    exact congrArg (fun o => Except.ok (State.putSobj _ o)) hobj
  refine ⟨_, rfl, syncWrite_takes h dictRow_syncValue rfl rfl rfl hset rfl ?_⟩
  exact (congrArg (fun y : Sync => putSobjL (s.valueSet (leVal val)) y.objs) hsync :)

/-- The selected object without the flags that a write of CLEAR names (R452). -/
def State.flagsCleared (s : State) (v : Nat) : SyncObj :=
  { s.sobj (s.pn 0x2400 1) with
    sat := (s.sobj (s.pn 0x2400 1)).sat && !bit v 0, scopeFault := (s.sobj (s.pn 0x2400 1)).scopeFault && !bit v 1 }

theorem syncClearFlags_clears (h : s.takes ch 0x2400 5 val) :
    Answers (.syncClearFlags ch val) s (fun t => t.doneOn ch ∧ t.sobj (s.pn 0x2400 1) = s.flagsCleared (leVal val) ∧
      ∀ m, m ≠ s.pn 0x2400 1 → t.sobj m = s.sobj m) := by
  have hsel := serving_selected h
  have hsync := serving_sync h
  obtain ⟨hb0, hb1⟩ := bit_syncFlags (bit (leVal val) 0) (bit (leVal val) 1)
  have hclear : syncWrite 0x2400 5 ((b2n (bit (leVal val) 0) + 2 * b2n (bit (leVal val) 1) : Nat) : Int) val
      (s.serving ch 0x2400 5 val) = .ok ((s.serving ch 0x2400 5 val).putSobj (s.flagsCleared (leVal val))) := by
    unfold syncWrite State.flagsCleared
    rw [if_pos rfl, if_neg (by decide), if_neg (by decide), if_pos rfl, Int.toNat_natCast, hb0, hb1, hsel,
      State.sobj_of_sync hsync]
  refine ⟨_, rfl, syncWrite_takes h dictRow_syncFlags rfl (clip_syncFlags _) (s.sobj_n _) hclear rfl ?_⟩
  exact congrArg (fun y : Sync => putSobjL _ y.objs) hsync

end

/-- Settles O18: the doorbells by the object of their virtual ID; the writes by the selected object. -/
theorem syncDoorbellsAndWrites : Obligations.SyncDoorbellsAndWrites := by
  unfold Obligations.SyncDoorbellsAndWrites
  refine ⟨fun q v n s hv h hx hn hw => doorbell_signals hv h hx hw,
    fun q v n s hv h hx hn hne hin => doorbellTryAcquire_takes hv h hx hne hin,
    fun q v n s hv h hx h0 => doorbellTryAcquire_finds_none hv h hx h0,
    fun ch val s h hw => answers_mono (syncOwnerAssign_assigns h hw) ?assign,
    fun ch val s h hw => syncSetValue_sets h hw,
    fun ch val s h => answers_mono (syncClearFlags_clears h) ?clear⟩
  case assign =>
    rintro t ⟨hdone, hself, hothers⟩
    rw [hself]
    exact ⟨hdone, rfl, rfl, rfl, hothers⟩
  case clear =>
    rintro t ⟨hdone, hself, hothers⟩
    rw [hself]
    exact ⟨hdone, rfl, rfl, rfl, hothers⟩

end Sys2Proof.Machine

/-! Gauges: their results, their commands and their calibration (O52). -/

namespace Sys2Proof.Machine

open Sys2Proof

/-! One gauge at an instant (R373 to R387). -/

/-- A state change touches the state and the rate window alone. -/
theorem Gauge.enter_eq (st : Nat) (g : Gauge) : ∃ l a b c,
    g.enter st = { g with state := st, hist := l, rateRun := a, rate2Run := b, rate := c } := by
  unfold Gauge.enter
  split
  · rename_i h
    exact ⟨g.hist, g.rateRun, g.rate2Run, g.rate, by rw [← h]⟩
  · exact ⟨_, _, _, _, rfl⟩

/-- What a gauge brings to its highest result, its own result among them. -/
def Gauge.record (g : Gauge) : Int × Int := (g.own, g.highest)

theorem Gauge.enter_record (st : Nat) (g : Gauge) : (g.enter st).record = g.record := by
  obtain ⟨l, a, b, c, h⟩ := g.enter_eq st
  rw [h]
  rfl

theorem Gauge.enter_state (st : Nat) (g : Gauge) : (g.enter st).state = st := by
  obtain ⟨l, a, b, c, h⟩ := g.enter_eq st
  rw [h]

theorem Gauge.progress_record (m est : Int) (fr : Nat) (g : Gauge) : (g.progress m est fr).record = g.record := by
  unfold Gauge.progress
  split_ifs <;> rfl

theorem Gauge.progress_state (m est : Int) (fr : Nat) (g : Gauge) : (g.progress m est fr).state = g.state := by
  unfold Gauge.progress
  split_ifs <;> rfl

/-- A gauge with the own and the highest result of another, and not absent. -/
def Gauge.follows (k g : Gauge) : Prop := k.record = g.record ∧ k.state ≠ 5

theorem Gauge.follows.enter {k g : Gauge} (h : k.follows g) {st : Nat} (hst : st ≠ 5) : (k.enter st).follows g :=
  ⟨(k.enter_record st).trans h.1, by rw [Gauge.enter_state]; exact hst⟩

theorem Gauge.follows.progress {k g : Gauge} (h : k.follows g) (m est : Int) (fr : Nat) : (k.progress m est fr).follows g :=
  ⟨(k.progress_record m est fr).trans h.1, by rw [Gauge.progress_state]; exact h.2⟩

/-- The cross-check keeps a gauge's own result and its highest (R375 to R379). -/
theorem Gauge.cross_follows (l : List Gauge) (grad : Nat) (hot : Nat → Int) (fr : Nat) {g : Gauge} (h : g.state ≠ 5) :
    (g.cross l grad hot fr).follows g := by
  have hcleared : (if (decide (g.state = 2) && g.clearing) = true then { g.enter 0 with clearing := false, devRun := 0 }
      else g).follows g := by
    split
    · exact Gauge.follows.enter (st := 0) ⟨rfl, h⟩ (by decide)
    · exact ⟨rfl, h⟩
  unfold Gauge.cross
  rw [if_neg h]
  dsimp only
  generalize (if (decide (g.state = 2) && g.clearing) = true then _ else g : Gauge) = k at hcleared
  split
  · have hunchecked : (if k.checked = true then { k.enter 1 with devRun := 0 } else k).follows g := by
      split
      · exact hcleared.enter (st := 1) (by decide)
      · exact hcleared
    exact hunchecked.progress _ _ _
  · have hnormal : (if k.state = 1 then k.enter 0 else k).follows g := by
      split
      · exact hcleared.enter (by decide)
      · exact hcleared
    exact hnormal.progress _ _ _

theorem Gauge.takeOwn_result {raw : Int} {g : Gauge} (h5 : g.state ≠ 5) (h1 : g.cmd ≠ 1) (h5' : g.cmd ≠ 5) :
    g.takeOwn raw = { g with own := clampI (-640) 2400 (divHalfUp ((g.gain : Int) * raw) 32768 + g.offset) } :=
  if_neg (by simp [h5, h1, h5'])

/-- The used result of an instant stands in the rate window and counts for the highest (R387). -/
theorem Gauge.rates_used (k lim : Nat) {g : Gauge} (h : g.state ≠ 5) : (g.rates k lim).own = g.own ∧
    (g.rates k lim).highest = max g.highest (g.rates k lim).used ∧ (g.rates k lim).hist.head? = some (g.rates k lim).used := by
  unfold Gauge.rates
  rw [if_neg h]
  dsimp only
  split <;> exact ⟨rfl, rfl, rfl⟩

theorem Gauge.ownCrit_keeps (crit : Int) (g : Gauge) : (g.ownCrit crit).own = g.own ∧ (g.ownCrit crit).highest = g.highest ∧
    (g.ownCrit crit).used = g.used ∧ (g.ownCrit crit).hist = g.hist := by
  unfold Gauge.ownCrit
  split <;> exact ⟨rfl, rfl, rfl, rfl⟩

/-- What an instant gives a gauge with a result of its own (R373, R387). -/
theorem State.gaugesAfter_result {s : State} {raw : List Int} {n : Nat} {g : Gauge} (hg : s.therm.gauges[n]? = some g)
    (h5 : g.state ≠ 5) (h1 : g.cmd ≠ 1) (h5' : g.cmd ≠ 5) : ∃ h, (s.gaugesAfter raw)[n]? = some h ∧
      h.own = clampI (-640) 2400 (divHalfUp ((g.gain : Int) * raw.getD n 0) 32768 + g.offset) ∧
      h.highest = max g.highest h.used ∧ h.hist.head? = some h.used := by
  let l := s.therm.gauges.mapIdx (fun i g => g.takeOwn (raw.getD i 0))
  let o := g.takeOwn (raw.getD n 0)
  let k := o.cross l (s.pn 0x5000 1) (fun k => ((List.range 16).map (groupEst l)).getD k 2400) s.free
  have hown : o = _ := Gauge.takeOwn_result (raw := raw.getD n 0) h5 h1 h5'
  have hk : k.follows o := Gauge.cross_follows _ _ _ _ (by rw [hown]; exact h5)
  obtain ⟨hrec, hstate⟩ := hk
  have hlist : (s.gaugesAfter raw)[n]? = some ((k.rates (s.lvl o.group 7).toNat (s.lvl o.group 6).toNat).ownCrit (s.lvl o.group 3)) := by
    unfold State.gaugesAfter
    dsimp only
    rw [List.getElem?_map, List.getElem?_mapIdx, hg, Option.map_some, Option.map_some]
  obtain ⟨hr1, hr2, hr3⟩ := Gauge.rates_used (s.lvl o.group 7).toNat (s.lvl o.group 6).toNat hstate
  obtain ⟨hc1, hc2, hc3, hc4⟩ := Gauge.ownCrit_keeps (s.lvl o.group 3) (k.rates (s.lvl o.group 7).toNat (s.lvl o.group 6).toNat)
  refine ⟨_, hlist, ?_, ?_, ?_⟩
  · rw [hc1, hr1, show k.own = _ from congrArg Prod.fst hrec, hown]
    rfl
  · rw [hc2, hr2, hc3, show k.highest = _ from congrArg Prod.snd hrec, hown]
    rfl
  · rw [hc3, hc4, hr3]

theorem isReady_setReady (f : Nat) (s : State) : (setReady f s).isReady f = true := by
  cases hf : s.isReady f with
  | true =>
    rw [setReady, if_pos hf]
    exact hf
  | false =>
    obtain ⟨x, y, h⟩ := setReady_aon f s hf
    rw [State.isReady, h]
    exact putBit_bit s.aon.ready f true

/-- A quiet instant ends with its results in place (R373). -/
theorem gaugeInstant_quiet {raw : List Int} {s : State} (h : s.atInstant.quietInstant raw) :
    gaugeInstant raw (gaugesCome s) = updAccr (s.atInstant.instantTaken raw) := congrArg updAccr h

theorem updAccr_therm (s : State) : (updAccr s).therm = s.therm := view_therm (updAccr_view (k := 16384) (by decide) s) (by decide)

theorem gaugeInstant_takes {raw : List Int} {s : State} (hc : s.aon.ctlReleased = true) (hr : s.sramOk = true)
    (h2 : s.enabled 2 = true) (hq : s.atInstant.quietInstant raw) : Answers (.gaugeInstant raw) s (fun t =>
      t.isReady 7 = true ∧ t.aon.clock = s.atInstant.aon.clock ∧ t.therm = (s.atInstant.instantTaken raw).therm) := by
  refine ⟨_, (if_pos (by simp [hc, hr, h2])).trans (congrArg Host.Outcome.next (gaugeInstant_quiet hq)), ?_, ?_, updAccr_therm _⟩
  · rw [State.isReady, updAccr_aon]
    exact isReady_setReady 7 _
  · rw [updAccr_aon]
    rfl

/-! A gauge in its list (R377). -/

/-- The list of gauges with gauge n changed. -/
def gaugeMapped (n : Nat) (f : Gauge → Gauge) (l : List Gauge) : List Gauge := l.map (fun g => if g.n = n then f g else g)

theorem findGauge_mapped_same {n : Nat} {f : Gauge → Gauge} {l : List Gauge} {g : Gauge} (hf : ∀ g, (f g).n = g.n)
    (h : l.find? (fun x => x.n = n) = some g) : (gaugeMapped n f l).find? (fun x => x.n = n) = some (f g) := by
  have hg : g.n = n := by simpa using List.find?_some h
  have hkeep : (fun x : Gauge => decide ((if x.n = n then f x else x).n = n)) = fun x => decide (x.n = n) := funext fun x => by
    split
    · rw [hf]
    · rfl
  have hcomp : ((fun x : Gauge => decide (x.n = n)) ∘ fun x : Gauge => if x.n = n then f x else x) = fun x => decide (x.n = n) := hkeep
  rw [gaugeMapped, List.find?_map, hcomp, h]
  simp [hg]

theorem findGauge_mapped_ne {n m : Nat} {f : Gauge → Gauge} (l : List Gauge) (hf : ∀ g, (f g).n = g.n) (hm : m ≠ n) :
    (gaugeMapped n f l).find? (fun x => x.n = m) = l.find? (fun x => x.n = m) := by
  induction l with
  | nil => rfl
  | cons x l ih =>
    have ih' : (l.map (fun g => if g.n = n then f g else g)).find? (fun x => x.n = m) = l.find? (fun x => x.n = m) := ih
    simp only [gaugeMapped, List.map_cons, List.find?_cons, ih']
    by_cases hx : x.n = n
    · have hxm : x.n ≠ m := by omega
      simp [hx, hf, Ne.symm hm]
    · simp [hx]

/-! Faults of S1 that concern no rail: context 6 (R221, R222). -/

section
variable {s : State} {code phase item arg1 : Nat}

/-- A fault of S1 that concerns no rail and finds its context free: the fault, the interrupt and the event. -/
theorem raiseFault_instance (h : (s.ctx 6).cur = none) : ∃ e, raiseFault 6 code 1 phase item arg1 s =
    updAccr (captureEvent e (assertIrq (s.updCtx 6 (fun x => { x with
      cur := some { code := code, sev := 1, phase := phase, item := item, since := s.aon.clock } })))) :=
  ⟨_, raiseFault_first code phase item arg1 (by decide) h⟩

theorem raiseFault_instance_therm (h : (s.ctx 6).cur = none) : (raiseFault 6 code 1 phase item arg1 s).therm = s.therm := by
  obtain ⟨e, he⟩ := raiseFault_instance (code := code) (phase := phase) (item := item) (arg1 := arg1) h
  rw [he, updAccr_therm, view_therm (captureEvent_view (k := 16384) (by decide) _ _) (by decide)]
  rfl

theorem raiseFault_instance_irq (h : (s.ctx 6).cur = none) : (raiseFault 6 code 1 phase item arg1 s).aon.fqIrq = true := by
  obtain ⟨e, he⟩ := raiseFault_instance (code := code) (phase := phase) (item := item) (arg1 := arg1) h
  obtain ⟨b, l, haon⟩ := captureEvent_aon e (assertIrq (s.updCtx 6 (fun x => { x with
    cur := some { code := code, sev := 1, phase := phase, item := item, since := s.aon.clock } })))
  rw [he, updAccr_aon, haon]
  rfl

theorem raiseFault_instance_num (h : (s.ctx 6).cur = none) {i sub : Nat} (h3 : okey 0x9000 3 ≠ okey i sub)
    (h1 : okey 0x9003 1 ≠ okey i sub) (h6 : okey 0x6007 2 ≠ okey i sub) :
    (raiseFault 6 code 1 phase item arg1 s).num i sub = s.num i sub := by
  obtain ⟨e, he⟩ := raiseFault_instance (code := code) (phase := phase) (item := item) (arg1 := arg1) h
  rw [he, updAccr_num _ h6, captureEvent_num _ _ h3 h1]
  rfl

end

end Sys2Proof.Machine

/-! The gauges' own events and the writes of their objects (O52). -/

namespace Sys2Proof.Machine

open Sys2Proof

/-! A gauge becomes suspect, and the end of a command (R379, R382). -/

theorem Gauge.enter_keeps {α : Type} (g : Gauge) (f : Gauge → α) (hf : ∀ (g : Gauge) st l a b c,
    f { g with state := st, hist := l, rateRun := a, rate2Run := b, rate := c } = f g) (st : Nat) :
    f (g.enter st) = f g := by
  obtain ⟨l, a, b, c, h⟩ := g.enter_eq st
  rw [h, hf]

theorem Gauge.enter_n (st : Nat) (g : Gauge) : (g.enter st).n = g.n := g.enter_keeps Gauge.n (fun _ _ _ _ _ _ => rfl) st

theorem Gauge.enter_used (st : Nat) (g : Gauge) : (g.enter st).used = g.used := g.enter_keeps Gauge.used (fun _ _ _ _ _ _ => rfl) st

theorem Gauge.enter_gain (st : Nat) (g : Gauge) : (g.enter st).gain = g.gain := g.enter_keeps Gauge.gain (fun _ _ _ _ _ _ => rfl) st

theorem Gauge.enter_offset (st : Nat) (g : Gauge) : (g.enter st).offset = g.offset :=
  g.enter_keeps Gauge.offset (fun _ _ _ _ _ _ => rfl) st

theorem Gauge.enter_cmd (st : Nat) (g : Gauge) : (g.enter st).cmd = g.cmd := g.enter_keeps Gauge.cmd (fun _ _ _ _ _ _ => rfl) st

theorem Gauge.enter_commands (st : Nat) (g : Gauge) : (g.enter st).commands = g.commands :=
  g.enter_keeps Gauge.commands (fun _ _ _ _ _ _ => rfl) st

/-- A gauge that turns suspect. -/
def Gauge.suspected (g : Gauge) : Gauge :=
  { g.enter 2 with devRun := 0, critRun := 0, clearing := false, suspects := min 65535 (g.suspects + 1) }

theorem setThermFlag_keeps (n : Nat) (s : State) : (setThermFlag n s).therm.gauges = s.therm.gauges ∧
    bit (setThermFlag n s).therm.flags n = true := ⟨rfl, putBit_bit s.therm.flags n true⟩

theorem State.recoversOf.setThermFlag {s : State} {c code sev phase item : Nat} (h : s.recoversOf c code sev phase item) (n : Nat) :
    (setThermFlag n s).recoversOf c code sev phase item := h

section
variable {n : Nat} {g : Gauge} {s : State} (h : s.therm.gauges.find? (fun g => g.n = n) = some g)
include h

theorem gaugeSuspect_suspects (h0 : g.state = 0) (h16 : g.devRun = 16) (hc : 6 < s.prot.ctxs.length)
    (hfree : (s.ctx 6).cur = none) : Answers (.gaugeSuspect n) s (fun t =>
      t.therm.gauges.find? (fun g => g.n = n) = some g.suspected ∧ t.recoversOf 6 0x0506 1 0xFF n ∧
        bit t.therm.flags 3 = true ∧ t.aon.fqIrq = true) := by
  let u : State := { s with therm := { s.therm with gauges := gaugeMapped n Gauge.suspected s.therm.gauges } }
  have hexec : exec (.gaugeSuspect n) s = .next (setThermFlag 3 (raiseFault 6 0x0506 1 0xFF n (tempArg g.used) u)) := by
    refine congrArg Host.Outcome.next ?_
    unfold gaugeSuspect
    rw [h]
    exact if_pos (by simp [h0, h16])
  have htherm : (raiseFault 6 0x0506 1 0xFF n (tempArg g.used) u).therm = u.therm := raiseFault_instance_therm hfree
  refine ⟨_, hexec, ?_, ?_, (setThermFlag_keeps 3 _).2, raiseFault_instance_irq (s := u) hfree⟩
  · rw [(setThermFlag_keeps 3 _).1, htherm]
    exact findGauge_mapped_same (f := Gauge.suspected) (fun g => g.enter_n 2) h
  · exact (raiseFault_inRecovery (s := u) 0x0506 0xFF n (tempArg g.used) (by decide) hc hfree).setThermFlag 3

/-- The offset that an align command leaves, and a reference cycle keeps (R382). -/
def Gauge.aligned (g : Gauge) : Int :=
  if g.cmd = 2 then clampI (-32768) 32767 (g.offset + divHalfUp g.cmdAcc 1048576) else g.offset

/-- A gauge after its command, normal or suspect. -/
def Gauge.commandEnded (bad : Bool) (ofs : Int) (g : Gauge) : Gauge :=
  { g.enter (if bad then 2 else 0) with
    cmd := 0, offset := ofs, devRun := 0, critRun := 0, suspects := if bad then min 65535 (g.suspects + 1) else g.suspects }

/-- The state with a command of gauge n ended. -/
def State.gaugeEnded (s : State) (n : Nat) (bad : Bool) (ofs : Int) : State :=
  ({ s with therm := { s.therm with gauges := gaugeMapped n (Gauge.commandEnded bad ofs) s.therm.gauges } } : State).put 0x5010 4
    (if bad then 3 else 2)

theorem gaugeDone_eq (hcmd : g.cmd ≠ 0) (hleft : g.cmdLeft = 0) : gaugeDone n s =
    if (g.cmd != 2 && g.cmdBad) = true then
      setThermFlag 3 (raiseFault 6 0x0506 1 0xFF n (tempArg g.used) (s.gaugeEnded n (g.cmd != 2 && g.cmdBad) g.aligned))
    else s.gaugeEnded n (g.cmd != 2 && g.cmdBad) g.aligned := by
  unfold gaugeDone
  rw [h]
  exact if_pos (by simp [hcmd, hleft])

theorem gaugeEnded_find (bad : Bool) (ofs : Int) : (s.gaugeEnded n bad ofs).therm.gauges.find? (fun g => g.n = n) =
    some (g.commandEnded bad ofs) :=
  findGauge_mapped_same (f := Gauge.commandEnded bad ofs) (fun g => g.enter_n _) h

theorem gaugeCommandDone_normal (hcmd : g.cmd ≠ 0) (hleft : g.cmdLeft = 0) (hgood : g.cmd = 2 ∨ g.cmdBad = false) :
    Answers (.gaugeCommandDone n) s (fun t => t.therm.gauges.find? (fun g => g.n = n) = some (g.commandEnded false g.aligned) ∧
      t.num 0x5010 4 = 2 ∧ t.prot = s.prot) := by
  have hbad : (g.cmd != 2 && g.cmdBad) = false := by rcases hgood with h2 | hb <;> simp [*]
  have hdone := gaugeDone_eq h hcmd hleft
  rw [hbad, if_neg Bool.false_ne_true] at hdone
  exact ⟨_, congrArg Host.Outcome.next hdone, gaugeEnded_find h false _, State.num_put_same _ _ _ _, rfl⟩

theorem gaugeCommandDone_suspect (hcmd : g.cmd ≠ 0) (hleft : g.cmdLeft = 0) (h2 : g.cmd ≠ 2) (hb : g.cmdBad = true)
    (hc : 6 < s.prot.ctxs.length) (hfree : (s.ctx 6).cur = none) : Answers (.gaugeCommandDone n) s (fun t =>
      t.therm.gauges.find? (fun g => g.n = n) = some (g.commandEnded true g.aligned) ∧
      t.num 0x5010 4 = 3 ∧ t.recoversOf 6 0x0506 1 0xFF n) := by
  have hbad : (g.cmd != 2 && g.cmdBad) = true := by simp [h2, hb]
  have hdone := gaugeDone_eq h hcmd hleft
  rw [hbad, if_pos rfl] at hdone
  have hfree' : ((s.gaugeEnded n true g.aligned).ctx 6).cur = none := hfree
  have htherm := raiseFault_instance_therm (code := 0x0506) (phase := 0xFF) (item := n) (arg1 := tempArg g.used) hfree'
  refine ⟨_, congrArg Host.Outcome.next hdone, ?_, ?_, ?_⟩
  · rw [(setThermFlag_keeps 3 _).1, htherm]
    exact gaugeEnded_find h true _
  · exact (State.num_put_ne _ _ (by decide)).trans
      ((raiseFault_instance_num hfree' (by decide) (by decide) (by decide)).trans (State.num_put_same _ _ _ _))
  · exact (raiseFault_inRecovery (s := s.gaugeEnded n true g.aligned) 0x0506 0xFF n (tempArg g.used) (by decide) hc
      hfree').setThermFlag 3

end

/-! The calibration store ends (R384, R500). -/

theorem gaugeCalStored_copy {s : State} (h : s.therm.calStore = 1) : (gaugeCalStored true s).therm.calStore = 2 ∧
    ((gaugeCalStored true s).flash.calA = s.therm.calSnap ∧
        (gaugeCalStored true s).flash.calAStore = max s.flash.calAStore s.flash.calBStore + 1 ∧
        (gaugeCalStored true s).flash.calB = s.flash.calB ∨
      (gaugeCalStored true s).flash.calB = s.therm.calSnap ∧
        (gaugeCalStored true s).flash.calBStore = max s.flash.calAStore s.flash.calBStore + 1 ∧
        (gaugeCalStored true s).flash.calA = s.flash.calA) := by
  unfold gaugeCalStored
  rw [if_neg (by simp [h])]
  dsimp only
  cases decide (s.flash.calAStore ≤ s.flash.calBStore) && !(decide (s.flash.calAStore = 0) && decide (s.flash.calBStore = 0)) with
  | true => exact ⟨rfl, .inl ⟨rfl, rfl, rfl⟩⟩
  | false =>
    cases decide (s.flash.calAStore = 0) && decide (s.flash.calBStore = 0) with
    | true => exact ⟨rfl, .inl ⟨rfl, rfl, rfl⟩⟩
    | false => exact ⟨rfl, .inr ⟨rfl, rfl, rfl⟩⟩

theorem gaugeCalStored_failed {s : State} (h : s.therm.calStore = 1) : (gaugeCalStored false s).therm.calStore = 3 := by
  unfold gaugeCalStored
  rw [if_neg (by simp [h])]
  rfl

/-! Commands (R383). -/

theorem dictRow_gaugeCommand : dictRow 0x5010 3 =
    some ⟨0x5010, 1, 0x03, 1, .u 1, 0x0303, 0, .ivs [(1, 5)] 1, .absent, 7, false⟩ := by decide

theorem dictRow_calStore : dictRow 0x5000 9 =
    some ⟨0x5000, 1, 0x09, 1, .u 4, 0x0303, 0, .ivs [(1702257011, 1702257011)] 1, .absent, 7, false⟩ := by decide

theorem dictRow_relayClear : dictRow 0x5002 4 =
    some ⟨0x5002, 1, 0x04, 1, .u 4, 0x0303, 0, .mask 0x1FE0000, .absent, 7, false⟩ := by decide

theorem Gauge.cover_n (c left : Nat) (g : Gauge) : (g.cover c left).n = g.n := g.enter_n 3

theorem Gauge.start_n (c : Nat) (g : Gauge) : (g.start c).n = g.n := by
  unfold Gauge.start
  dsimp only
  split_ifs
  · exact Gauge.cover_n _ _ _
  · exact Gauge.cover_n _ _ _
  · rfl
  · exact Gauge.enter_n _ _

/-- The gauge may take command c (R382, R383). -/
def State.gaugeMayTake (s : State) (c : Nat) (g : Gauge) : Prop :=
  (c ≠ 3 ∨ g.state = 2) ∧ (c ≠ 5 ∨ g.state = 4) ∧ ((c = 3 ∨ c = 4) ∨ s.coverable g)

/-- The state with the store of the gauges' calibration begun (R384). -/
def State.calSnapped (s : State) : State :=
  { s with therm := { s.therm with calStore := 1, calSnap := s.therm.gauges.map (fun g => (g.n, g.gain, g.offset)) } }

theorem gaugeCalStore_begins {s : State} (h : s.noFlash = false) : gaugeCalStore s = .ok s.calSnapped := if_neg (by rw [h]; decide)

/-- The state with the selected gauge's command begun. -/
def State.commanded (s : State) (c : Nat) : State :=
  ({ s with therm := { s.therm with gauges := gaugeMapped (s.pn 0x5010 1) (Gauge.start c) s.therm.gauges } } : State).put 0x5010 4
    (if c = 3 || c = 4 then 2 else 1)

theorem gaugeCommand_begins {s : State} {c : Nat} {g : Gauge} (h : s.gaugeIdle g) (hm : s.gaugeMayTake c g) :
    gaugeCommand c s = .ok (s.commanded c) := by
  obtain ⟨hfind, hcmd, h5⟩ := h
  obtain ⟨h3, h5', hcover⟩ := hm
  unfold gaugeCommand
  dsimp only
  rw [hfind]
  refine if_pos ?_
  have hcov : ((c = 3 || c = 4) || (decide (3 ≤ ((nbrs s.therm.gauges g).filter (fun x => x.2.checked)).length) &&
      !(nbrs s.therm.gauges g).any (fun x => x.2.state = 3) && decide (s.covered < 16))) = true := by
    rcases hcover with hc | ⟨hn, hany, hlt⟩
    · simp [hc]
    · rw [hany]
      simp [hn, hlt]
  simp only [hcmd, hcov]
  simpa [h5] using ⟨h3, h5'⟩

theorem gaugeCommand_refused {s : State} {c : Nat} {g : Gauge} (h : s.therm.gauges.find? (fun x => x.n = s.pn 0x5010 1) = some g)
    (hbusy : g.cmd ≠ 0 ∨ g.state = 5) : gaugeCommand c s = .error abState := by
  unfold gaugeCommand
  dsimp only
  rw [h]
  refine if_neg ?_
  rcases hbusy with hc | h5
  · simp [hc]
  · simp [h5]

section
variable {ch : ChanId} {val : List Byte} {s : State}

theorem serving_gaugeIdle {g : Gauge} (h : s.takes ch 0x5010 3 val) (hg : s.gaugeIdle g) :
    (s.serving ch 0x5010 3 val).gaugeIdle g := by
  have hv := State.serving_servesOn h
  rw [State.gaugeIdle, hv.therm, hv.pn (by decide)]
  exact hg

theorem serving_mayTake {c : Nat} {g : Gauge} (h : s.takes ch 0x5010 3 val) (hm : s.gaugeMayTake c g) :
    (s.serving ch 0x5010 3 val).gaugeMayTake c g := by
  rw [State.gaugeMayTake, State.coverable, State.covered, (State.serving_servesOn h).therm]
  exact hm

/-- A write of a command that the selected gauge may take starts it (R382, R383). -/
theorem gaugeCommand_starts {c : Nat} {g : Gauge} (h : s.takes ch 0x5010 3 val) (hc : leVal val = c) (hg : s.gaugeIdle g)
    (hm : s.gaugeMayTake c g) : s.gaugeBecomes (clWhole ch 0x5010 3 val s) ch (g.start c) := by
  have hv := State.serving_servesOn h
  have hw : ∀ w, objWrite w 0x5010 3 (c : Int) val (s.serving ch 0x5010 3 val) = .ok ((s.serving ch 0x5010 3 val).commanded c) :=
    fun _ => gaugeCommand_begins (serving_gaugeIdle h hg) (serving_mayTake h hm)
  obtain ⟨hdone, hview, -⟩ := clWhole_taken h dictRow_gaugeCommand (fwOwned_row dictRow_gaugeCommand rfl) (by decide) (by decide)
    (fun _ _ => rfl) (x := c) (by rw [← hc]; rfl) hw rfl
  have hgauges : (clWhole ch 0x5010 3 val s).therm.gauges = gaugeMapped (s.pn 0x5010 1) (Gauge.start c) s.therm.gauges := by
    rw [view_therm hview (by decide), ← hv.therm, ← hv.pn (i := 0x5010) (by decide) 1]
    rfl
  refine ⟨hdone, ?_, fun m hm => ?_⟩
  · rw [hgauges]
    exact findGauge_mapped_same (Gauge.start_n c) hg.1
  · rw [hgauges]
    exact findGauge_mapped_ne _ (Gauge.start_n c) hm

theorem gaugeTakeOff_refused {g : Gauge} (h : s.takes ch 0x5010 3 val)
    (hg : s.therm.gauges.find? (fun x => x.n = s.pn 0x5010 1) = some g) (hbusy : g.cmd ≠ 0 ∨ g.state = 5) :
    Answers (.gaugeTakeOff ch val) s (fun t => t.abortedOn ch abState ∧ t.therm = s.therm) := by
  have hv := State.serving_servesOn h
  refine ⟨_, rfl, clWhole_refused h dictRow_gaugeCommand (fwOwned_row dictRow_gaugeCommand rfl) (by decide) (by decide)
    (fun _ _ => rfl) rfl (fun _ => gaugeCommand_refused (g := g) ?_ hbusy) (by decide) (by decide)⟩
  rw [hv.therm, hv.pn (by decide)]
  exact hg

theorem gaugeCalStore_snaps (h : s.takes ch 0x5000 9 val) (hf : s.noFlash = false) : Answers (.gaugeCalStore ch val) s (fun t =>
    t.doneOn ch ∧ t.therm = { s.therm with calStore := 1, calSnap := s.therm.gauges.map (fun g => (g.n, g.gain, g.offset)) }) := by
  have hv := State.serving_servesOn h
  have hnf : (s.serving ch 0x5000 9 val).noFlash = false := hv.noFlash.trans hf
  obtain ⟨hdone, hview, -⟩ := clWhole_taken h dictRow_calStore (fwOwned_row dictRow_calStore rfl) (by decide) (by decide)
    (fun _ _ => rfl) rfl (fun _ => gaugeCalStore_begins hnf) rfl
  refine ⟨_, rfl, hdone, ?_⟩
  rw [view_therm hview (by decide), ← hv.therm]
  rfl

theorem relayClear_clears {m : Nat} (h : s.takes ch 0x5002 4 val) (hm : m = ((Rg.mask 0x1FE0000).clip (leVal val)).toNat) :
    Answers (.relayClear ch val) s (fun t =>
      t.doneOn ch ∧ t.therm = { s.therm with relays := s.therm.relays.filter (fun r => !bit m r.sat) }) := by
  have hv := State.serving_servesOn h
  obtain ⟨hdone, hview, -⟩ := clWhole_taken h dictRow_relayClear (fwOwned_row dictRow_relayClear rfl) (by decide) (by decide)
    (fun _ _ => rfl) (x := (Rg.mask 0x1FE0000).clip (leVal val)) rfl (t := relayClear m (s.serving ch 0x5002 4 val))
    (fun _ => by rw [hm]; rfl) (view_cl (relayClear_view (k := 4) (by decide) m _) (by decide))
  refine ⟨_, rfl, hdone, ?_⟩
  rw [view_therm hview (by decide), ← hv.therm]
  exact updAccr_therm _

end

/-- Settles O52: an instant by its gauges; each event and each command by what it makes of its gauge. -/
theorem gaugeResultsAndCommands : Obligations.GaugeResultsAndCommands := by
  unfold Obligations.GaugeResultsAndCommands
  refine ⟨fun raw u s hc hr h2 hu hq => answers_mono (gaugeInstant_takes hc hr h2 (hu ▸ hq)) ?instant,
    fun n g s h h0 h16 hc hfree => answers_mono (gaugeSuspect_suspects h h0 h16 hc hfree) ?suspect,
    fun n g s h hcmd hleft hgood => answers_mono (gaugeCommandDone_normal h hcmd hleft hgood) ?normal,
    fun n g s h hcmd hleft h2 hb hc hfree => answers_mono (gaugeCommandDone_suspect h hcmd hleft h2 hb hc hfree) ?bad,
    fun s h => ⟨_, rfl, gaugeCalStored_copy h⟩, fun s h => ⟨_, rfl, gaugeCalStored_failed h⟩,
    fun ch val g s h hv hg hc => ⟨_, rfl, _, gaugeCommand_starts h hv hg ⟨.inl (by decide), .inl (by decide), .inr hc⟩, ?reference⟩,
    fun ch val g s h hv hg hc => ⟨_, rfl, _, gaugeCommand_starts h hv hg ⟨.inl (by decide), .inl (by decide), .inr hc⟩, ?align⟩,
    fun ch val g s h hv hg h2 => ⟨_, rfl, _, gaugeCommand_starts h hv hg ⟨.inr h2, .inl (by decide), .inl (.inl rfl)⟩, ?clear⟩,
    fun ch val g s h hv hg => ⟨_, rfl, _, gaugeCommand_starts h hv hg ⟨.inl (by decide), .inl (by decide), .inl (.inr rfl)⟩, ?off⟩,
    fun ch val g s h hv hg h4 hc => ⟨_, rfl, _, gaugeCommand_starts h hv hg ⟨.inl (by decide), .inr h4, .inr hc⟩, ?back⟩,
    fun ch val g s h hg hbusy => gaugeTakeOff_refused h hg hbusy, fun ch val s h hf => gaugeCalStore_snaps h hf,
    fun ch val m s h hm => relayClear_clears h hm⟩
  case instant =>
    rintro t ⟨h7, hclock, htherm⟩
    refine ⟨h7, hclock.trans (congrArg (fun x : State => x.aon.clock) hu.symm), htherm.trans (by rw [hu]), ?_⟩
    intro n g hg h5 h1 h5'
    rw [htherm, ← hu]
    exact State.gaugesAfter_result hg h5 h1 h5'
  case suspect =>
    rintro t ⟨hfind, hrest⟩
    exact ⟨⟨_, hfind, g.enter_state 2, rfl, g.enter_used 2⟩, hrest⟩
  case normal =>
    rintro t ⟨hfind, hrest⟩
    exact ⟨⟨_, hfind, g.enter_state 0, rfl, g.enter_gain 0, rfl⟩, hrest⟩
  case bad =>
    rintro t ⟨hfind, hrest⟩
    exact ⟨⟨_, hfind, g.enter_state 2, rfl, if_neg h2⟩, hrest⟩
  case reference => exact ⟨Gauge.enter_state 3 _, rfl, rfl, Gauge.enter_gain 3 _, Gauge.enter_offset 3 _, Gauge.enter_commands 3 _⟩
  case align => exact ⟨Gauge.enter_state 3 _, rfl, rfl, rfl⟩
  case clear => exact ⟨h2, rfl, hg.2.1⟩
  case off => exact ⟨Gauge.enter_state 4 _, (Gauge.enter_cmd 4 _).trans hg.2.1⟩
  case back => exact ⟨Gauge.enter_state 3 _, rfl, rfl⟩

end Sys2Proof.Machine

/-! Requests of the thermal groups over time (O53). -/

namespace Sys2Proof.Machine

open Sys2Proof

/-! Groups (R385). -/

theorem State.group_of_therm {s t : State} (h : t.therm = s.therm) (g : Nat) : t.group g = s.group g := by
  rw [State.group, State.group, h]

theorem group_updGroup_same (s : State) {g : Nat} (f : Group → Group) (h : g < s.therm.groups.length) :
    (updGroup g f s).group g = f (s.group g) := by
  simp [State.group, updGroup, List.getElem?_modify_eq, List.getElem?_eq_getElem h]

theorem group_updGroup_ne (s : State) {g k : Nat} (f : Group → Group) (h : k ≠ g) : (updGroup g f s).group k = s.group k := by
  simp [State.group, updGroup, Ne.symm h]

/-- A state whose clock and groups are those of s at the moment d, but for group g, which the moment changes. -/
def State.groupAt (t s : State) (g d : Nat) (f : Group → Group) : Prop :=
  t.aon.clock = max s.aon.clock d ∧ t.group g = f (s.group g) ∧ ∀ k, k ≠ g → t.group k = s.group k

theorem updGroup_groupAt {t s : State} {g d : Nat} {f : Group → Group} (hp : s.aon.porN = true) (hg : g < s.therm.groups.length)
    (haon : t.aon = (advanceTo d s).aon) (htherm : t.therm = (updGroup g f (advanceTo d s)).therm) : t.groupAt s g d f := by
  have hadv := State.group_of_therm (advanceTo_therm d s)
  have hlen : g < (advanceTo d s).therm.groups.length := by
    rw [advanceTo_therm]
    exact hg
  refine ⟨by rw [haon, advanceTo_clock d hp], ?_, fun k hk => ?_⟩
  · rw [State.group_of_therm htherm, group_updGroup_same _ _ hlen, hadv]
  · rw [State.group_of_therm htherm, group_updGroup_ne _ _ hk, hadv]

theorem clearFault_aon (c code item : Nat) (s : State) : (clearFault c code item s).aon = s.aon :=
  view_aon (clearFault_view (k := 1) (by decide) c code item s) (by decide)

theorem clearFault_therm (c code item : Nat) (s : State) : (clearFault c code item s).therm = s.therm :=
  view_therm (clearFault_view (k := 16384) (by decide) c code item s) (by decide)

/-! The steps and the holds of a group (R386, R387, R394). -/

section
variable {g u : Nat} {s : State} (hp : s.aon.porN = true) (hg : g < s.therm.groups.length)
include hp hg

/-- What a step time makes of an engaged group. -/
def Group.stepped (now : Nat) (hi : Bool) (x : Group) : Group :=
  { x with stepFrom := now, ceil := if hi then x.ceil - 1 else x.ceil }

theorem thermalStep_groupAt : (thermalStep g s).groupAt s g ((s.group g).stepFrom + us (s.pn 0x5000 2))
    (Group.stepped (max s.aon.clock ((s.group g).stepFrom + us (s.pn 0x5000 2)))
      (decide (16 * s.lvl g 2 ≤ (s.group g).hot))) := by
  have hlvl : (advanceTo ((s.group g).stepFrom + us (s.pn 0x5000 2)) s).lvl g 2 = s.lvl g 2 :=
    advanceTo_num _ s (by decide) (by decide)
  have hgroup := State.group_of_therm (advanceTo_therm ((s.group g).stepFrom + us (s.pn 0x5000 2)) s) g
  have hclock := advanceTo_clock ((s.group g).stepFrom + us (s.pn 0x5000 2)) hp
  refine updGroup_groupAt hp hg (updAccr_aon _) ((updAccr_therm _).trans ?_)
  rw [hlvl, hgroup, hclock]
  rfl

/-- What a raise hold leaves of a group that stays engaged. -/
def Group.raised (now : Nat) (x : Group) : Group := { x with ceil := x.ceil + 1, raiseFrom := some now }

/-- A group that has disengaged. -/
def Group.disengaged (x : Group) : Group := { x with engaged := false, ceil := 31, div := false, raiseFrom := none }

theorem thermalRaise_groupAt : (thermalRaise g u s).groupAt s g (u + us (s.pn 0x5000 3))
    (if (s.group g).ePoint ≤ (s.group g).ceil + 1 then Group.disengaged
      else Group.raised (max s.aon.clock (u + us (s.pn 0x5000 3)))) := by
  have hgroup := State.group_of_therm (advanceTo_therm (u + us (s.pn 0x5000 3)) s) g
  have hclock := advanceTo_clock (u + us (s.pn 0x5000 3)) hp
  unfold thermalRaise
  dsimp only
  rw [hgroup, hclock]
  split
  · exact updGroup_groupAt hp hg (clearFault_aon ..) (clearFault_therm ..)
  · exact updGroup_groupAt hp hg (updAccr_aon _) (updAccr_therm _)

/-- A group whose rate request is withdrawn. -/
def Group.rateOver (x : Group) : Group := { x with rateOn := false, rateDiv := false }

theorem rateHoldEnd_groupAt : (rateHoldEnd g s).groupAt s g ((s.group g).rateAt + us (s.pn 0x5000 4)) Group.rateOver :=
  updGroup_groupAt hp hg (clearFault_aon ..) (clearFault_therm ..)

/-- A group whose prediction's episode has ended. -/
def Group.predictOver (x : Group) : Group := { x with predict := false, predCeil := 31, predLowFrom := none }

theorem predictEnd_groupAt : (predictEnd g u s).groupAt s g (u + us (s.pn 0x5000 3)) Group.predictOver :=
  updGroup_groupAt hp hg (updAccr_aon _) (updAccr_therm _)

end

/-! A relay that goes silent (R392). -/

theorem raiseFault_instance_clock {s : State} {code phase item arg1 : Nat} (h : (s.ctx 6).cur = none) :
    (raiseFault 6 code 1 phase item arg1 s).aon.clock = s.aon.clock := by
  obtain ⟨e, he⟩ := raiseFault_instance (code := code) (phase := phase) (item := item) (arg1 := arg1) h
  obtain ⟨b, l, haon⟩ := captureEvent_aon e (assertIrq (s.updCtx 6 (fun x => { x with
    cur := some { code := code, sev := 1, phase := phase, item := item, since := s.aon.clock } })))
  rw [he, updAccr_aon, haon]
  rfl

/-- The relayed words with that of a satellite lost. -/
def relaysLost (sat : Nat) (l : List Relay) : List Relay := l.map (fun r => if r.sat = sat then { r with lost := true } else r)

theorem relayTimeout_loses {sat : Nat} {r : Relay} {s : State} (hp : s.aon.porN = true) (hc : 6 < s.prot.ctxs.length)
    (hfree : (s.ctx 6).cur = none) (hr : s.therm.relays.find? (fun r => r.sat = sat && !r.lost) = some r) :
    Answers (.relayTimeout sat) s (fun t => t.aon.clock = max s.aon.clock (r.since + ms (s.pn 0x5002 2)) ∧
      t.recovers 6 0x0509 1 0xFF ∧ t.therm.relays = relaysLost sat s.therm.relays) := by
  let v := advanceTo (r.since + ms (s.pn 0x5002 2)) s
  have htherm : v.therm = s.therm := advanceTo_therm _ s
  let w : State := { v with therm := { v.therm with relays := relaysLost sat v.therm.relays } }
  have hany : v.therm.relays.any (fun r => r.sat = sat && !r.lost) = true := by
    rw [htherm]
    exact List.any_eq_true.mpr ⟨r, List.mem_of_find?_eq_some hr, by simpa using List.find?_some hr⟩
  have hexec : exec (.relayTimeout sat) s = .next (setThermFlag 6 (raiseFault 6 0x0509 1 0xFF 0xFFFF 0 w)) := by
    show execRelayTimeout sat s = _
    unfold execRelayTimeout
    rw [hr]
    exact congrArg Host.Outcome.next (if_pos hany)
  have hprot : w.prot = s.prot := advanceTo_prot _ s
  have hfree' : (w.ctx 6).cur = none := by rw [State.ctx_of_prot hprot, hfree]
  refine ⟨_, hexec, ?_, ?_, ?_⟩
  · exact (raiseFault_instance_clock hfree').trans (advanceTo_clock _ hp)
  · exact (raiseFault_inRecovery 0x0509 0xFF 0xFFFF 0 (by decide) (by rw [hprot]; exact hc) hfree').setThermFlag 6
  · refine (congrArg Therm.relays (raiseFault_instance_therm hfree')).trans ?_
    show relaysLost sat v.therm.relays = _
    rw [htherm]

/-! The thermal model (R393, R394). -/

/-- The thermal unit but for its flags. -/
def Therm.unflagged (x : Therm) : Therm := { x with flags := 0 }

theorem Therm.of_unflagged {x y : Therm} (h : x.unflagged = y.unflagged) :
    x.model = y.model ∧ x.modelAt = y.modelAt ∧ x.gauges = y.gauges ∧ x.groups = y.groups :=
  ⟨(congrArg Therm.model h :), (congrArg Therm.modelAt h :), (congrArg Therm.gauges h :), (congrArg Therm.groups h :)⟩

/-- PREDICT is an event of S0: it leaves the unit but for its flag (R394). -/
theorem raisePredict_unflagged (old : List Group) (s : State) : (raisePredict old s).therm.unflagged = s.therm.unflagged := by
  have hstep : ∀ (u : State) (x : Group × Group), (if (!x.1.predict && x.2.predict) = true then
      (setThermFlag 5 (thermFault 0x0508 0 0xFFFF x.2.pred u)).bump32 0x5001 8 else u).therm.unflagged = u.therm.unflagged := by
    intro u x
    split
    · refine Eq.trans (b := (thermFault 0x0508 0 0xFFFF x.2.pred u).therm.unflagged) rfl ?_
      exact congrArg Therm.unflagged (view_therm (captureEvent_view (k := 16384) (by decide) _ _) (by decide))
    · rfl
  exact List.foldlRecOn (motive := fun u : State => u.therm.unflagged = s.therm.unflagged) _ _ rfl
    fun u hu x _ => (hstep u x).trans hu

/-- The state in which the model is updated: 100 us after the last update where there was one (R393). -/
def State.atModel (s : State) : State :=
  match s.therm.modelAt with
  | some m => advanceTo (m + 40000) s
  | none => s

theorem State.atModel_therm (s : State) : s.atModel.therm = s.therm := by
  unfold State.atModel
  split
  · exact advanceTo_therm _ s
  · rfl

theorem State.atModel_pn (s : State) : s.atModel.pn 0x5001 1 = s.pn 0x5001 1 := by
  unfold State.atModel
  split
  · exact advanceTo_pn _ s (by decide) (by decide)
  · rfl

/-- What an update makes of a group: its prediction, or none with a horizon of 0 (R394). -/
def State.predicted (u : State) (k : Nat) (g : Group) : Group :=
  if u.pn 0x5001 1 / 100 = 0 then g.noPred
  else g.takePred u.aon.clock u.clk.point (u.lvl k 2) (u.lvl k 4)
    (u.groupPred (u.predictSteps (u.pn 0x5001 1 / 100) u.aon.clock (u.modelStep u.therm.model)) k)

theorem modelUpdate_unflagged {s : State} (h : s.therm.model ≠ []) : (modelUpdate s).therm.unflagged =
    ({ s.atModel.therm with
      model := s.atModel.modelStep s.atModel.therm.model, modelAt := some s.atModel.aon.clock,
      groups := s.atModel.therm.groups.mapIdx s.atModel.predicted } : Therm).unflagged := by
  have hmodel : s.atModel.therm.model.isEmpty = false := by
    rw [State.atModel_therm]
    simpa using h
  unfold modelUpdate
  extract_lets u now x0 x r hz y old gs en hot cap therm v w src
  have hx : x = u.modelStep u.therm.model := congrArg u.modelStep (if_neg (by rw [show u = s.atModel from rfl, hmodel]; decide))
  have hw : w.therm = { u.therm with model := x, modelAt := some now, groups := gs } := rfl
  rw [updAccr_therm, raisePredict_unflagged, hw]
  clear_value x
  have hgs : gs = u.therm.groups.mapIdx u.predicted := by
    refine congrArg (u.therm.groups.mapIdx ·) (funext₂ fun k g => ?_)
    rw [State.predicted, ← hx]
  rw [hgs, hx]
  rfl

theorem Answers.modelUpdate {s : State} (hr : s.isReady 14 = true) (hs : s.obs.standing = false) (hi : s.inst.sat = false)
    (hm : s.therm.model ≠ []) : Answers .thermalModelUpdate s (fun t =>
      t.therm.model = s.atModel.modelStep s.therm.model ∧ t.therm.modelAt = some s.atModel.aon.clock ∧
      t.therm.gauges = s.therm.gauges ∧ t.therm.groups = s.therm.groups.mapIdx s.atModel.predicted) := by
  have h := modelUpdate_unflagged hm
  rw [State.atModel_therm] at h
  have hexec : (s.isReady 14 && !s.obs.standing && !s.inst.sat) = true := by simp [hr, hs, hi]
  obtain ⟨hmodel, hat, hgauges, hgroups⟩ := Therm.of_unflagged h
  dsimp only at hmodel hat hgauges hgroups
  exact ⟨Machine.modelUpdate s, if_pos hexec, hmodel, hat, hgauges, hgroups⟩

/-- With a horizon of 0 nothing is predicted (R394). -/
theorem State.predicted_none {s t : State} (h : s.pn 0x5001 1 = 0) (ht : t.therm.groups = s.therm.groups.mapIdx s.atModel.predicted)
    (k : Nat) : (t.group k).predict = false := by
  have hz : ∀ k g, s.atModel.predicted k g = g.noPred := fun k g => if_pos (by rw [State.atModel_pn, h])
  rw [State.group, ht, List.getD_eq_getElem?_getD, List.getElem?_mapIdx]
  cases s.therm.groups[k]? with
  | none => rfl
  | some g =>
    rw [Option.map_some, hz]
    rfl

/-- Settles O53: each hold and step changes its one group at its moment, and the model's update predicts only with a horizon. -/
theorem thermalRequests : Obligations.ThermalRequests := by
  unfold Obligations.ThermalRequests
  refine ⟨fun g s hp hg he hst => ?_, fun g u s hp hg he hst hu => ?_, fun g s hp hg he hst => ?_,
    fun g u s hp hg he hst hu => ?_, fun sat r s hp hc hfree hr => relayTimeout_loses hp hc hfree hr,
    fun u s hr hs hi hm hu => ?_⟩
  · obtain ⟨hclock, hgroup, hothers⟩ := thermalStep_groupAt hp hg
    refine ⟨_, if_pos (by simp [he, hst]), hclock, ?_, hothers⟩
    rw [hgroup, hclock]
    simp [Group.stepped]
  · obtain ⟨hclock, hgroup, -⟩ := thermalRaise_groupAt (u := u) hp hg
    refine ⟨thermalRaise g u s, ?_, hclock, ?_⟩
    · show execThermalRaiseHoldExpiry g s = _
      unfold execThermalRaiseHoldExpiry
      rw [hu]
      exact if_pos (by simp [he, hst])
    · rw [hgroup, hclock]
      split
      · exact ⟨rfl, rfl, rfl⟩
      · rfl
  · obtain ⟨hclock, hgroup, -⟩ := rateHoldEnd_groupAt hp hg
    exact ⟨_, if_pos (by simp [he, hst]), hclock, hgroup⟩
  · obtain ⟨hclock, hgroup, -⟩ := predictEnd_groupAt (u := u) hp hg
    refine ⟨predictEnd g u s, ?_, hclock, hgroup⟩
    show execPredictHoldExpiry g s = _
    unfold execPredictHoldExpiry
    rw [hu]
    exact if_pos (by simp [he, hst])
  · obtain rfl : u = s.atModel := hu
    exact answers_mono (Answers.modelUpdate hr hs hi hm)
      fun t ⟨hmodel, hat, hgauges, hgroups⟩ => ⟨hmodel, hat, hgauges, fun h => State.predicted_none h hgroups⟩

end Sys2Proof.Machine

/-! What the Scribe, a trigger and the passage of time leave of the observation unit (R508 to R516). -/

namespace Sys2Proof.Machine

open Sys2Proof

/-- The observation unit but for its counters. -/
def Obs.uncounted (o : Obs) : Obs := { o with cnt := [] }

/-- The observation unit but for what a trigger's actions set (R515). -/
def Obs.untriggered (o : Obs) : Obs :=
  { o with shadow := [], snapSeq := 0, snapTick := 0, dumpMoment := false, dumpMomentAt := 0, graphState := 0, graphStartAt := 0,
           graphDue := false, trigReq := false }

theorem Obs.of_untriggered {a b : Obs} (h : a.untriggered = b.untriggered) :
    a.scrState = b.scrState ∧ a.scrPre = b.scrPre ∧ a.flags = b.flags :=
  ⟨(congrArg Obs.scrState h :), (congrArg Obs.scrPre h :), (congrArg Obs.flags h :)⟩

/-- The observation unit but for the Scribe, its trigger's actions and the counters. -/
def Obs.unscribed (o : Obs) : Obs :=
  { o.untriggered with
    cnt := [], scrState := 0, scrPre := [], scrPost := [], scrNow := 0, scrNowAt := 0, scrWait := false, scrLost := 0, scrLostAt := 0,
    scrOcc := 0, scrTimeAt := 0, flags := 0 }

/-- The always-on unit but for the lines to the host, STOP_REQ_OUT and the early buffer. -/
def Aon.unsignalled (a : Aon) : Aon := { a with fqIrq := false, stopReqOut := false, earlyBuf := [], earlyLost := 0 }

theorem Aon.unsignalled_clock {a b : Aon} (h : a.unsignalled = b.unsignalled) : a.clock = b.clock := (congrArg Aon.clock h :)

theorem Aon.unsignalled_stopInAct {a b : Aon} (h : a.unsignalled = b.unsignalled) : a.stopInAct = b.stopInAct :=
  (congrArg Aon.stopInAct h :)

theorem raise_unsignalled (c v a b : Nat) (s : State) : (raise c v a b s).aon.unsignalled = s.aon.unsignalled := by
  obtain ⟨x, l, h⟩ := raise_aon c v a b s
  rw [h]
  rfl

/-! The passage of time leaves the unit but for its counters (R508). -/

theorem elapseTimes_uncounted (n : Nat) (s : State) : (elapseTimes n s).obs.uncounted = s.obs.uncounted := by
  have hadd : ∀ (c : Prop) [Decidable c] (u : State) (i sub m : Nat), (if c then u.add64 i sub m else u).obs = u.obs :=
    fun c _ u i sub m => by split <;> rfl
  unfold elapseTimes
  extract_lets u v w x
  have hx : x.obs = s.obs := (hadd _ w _ _ _).trans ((hadd _ v _ _ _).trans ((hadd _ u _ _ _).trans (hadd _ s _ _ _)))
  rw [← hx]
  split <;> rfl

theorem elapseTiles_uncounted (n : Nat) (s : State) : (elapseTiles n s).obs.uncounted = s.obs.uncounted := by
  unfold elapseTiles
  dsimp only
  (repeat' split) <;> rfl

theorem elapse_uncounted (d : Nat) (s : State) : (elapse d s).obs.uncounted = s.obs.uncounted := by
  unfold elapse
  split
  · rfl
  · extract_lets n u v w x y
    have hu : u.obs = s.obs := view_obs (elapseCalendar_view (k := 1048576) (by decide) n s) (by decide)
    have hv : v.obs = u.obs := view_obs (elapseReasons_view (k := 1048576) (by decide) n u) (by decide)
    have hx : x.obs = w.obs := view_obs (elapsePhases_view (k := 1048576) (by decide) n w) (by decide)
    have hw : w.obs.uncounted = v.obs.uncounted := elapseTimes_uncounted n v
    have hy : y.obs.uncounted = x.obs.uncounted := elapseTiles_uncounted d x
    clear_value u v w x y
    refine Eq.trans (b := y.obs.uncounted) rfl ?_
    rw [hy, hx, hw, hv, hu]

theorem advanceTo_uncounted (d : Nat) (s : State) : (advanceTo d s).obs.uncounted = s.obs.uncounted := by
  unfold advanceTo
  split
  · exact elapse_uncounted _ s
  · rfl

/-! Records (R511 to R514). -/

/-- A record goes into the area before the trigger where it has room. -/
theorem scribeWrite_armed {s : State} (x : Nat) (h1 : s.obs.scrState = 1) (hroom : s.obs.scrPre.length < s.scrCap) :
    scribeWrite x s = scribeCount { s with obs := { s.obs with scrPre := s.obs.scrPre ++ [x] } } := by
  unfold scribeWrite
  rw [if_pos h1, if_pos hroom]

theorem scribeTime_armed {s : State} (h1 : s.obs.scrState = 1) (hroom : s.obs.scrPre.length < s.scrCap) :
    (scribeTime s).obs.uncounted = ({ s.obs with
      scrTimeAt := s.aon.clock, scrPre := s.obs.scrPre ++ [scribeRec s.aon.clock 0 0 0 s.tick] } : Obs).uncounted := by
  unfold scribeTime
  dsimp only
  rw [scribeWrite_armed _ (by exact h1) (by exact hroom)]
  rfl

/-- A record never reaches the area before a trigger that has come. -/
theorem scribeWrite_triggered {s : State} (x : Nat) (h : s.obs.scrState = 2 ∨ s.obs.scrState = 3) :
    ((scribeWrite x s).obs.scrState = 2 ∨ (scribeWrite x s).obs.scrState = 3) ∧ (scribeWrite x s).obs.scrPre = s.obs.scrPre := by
  unfold scribeWrite
  rw [if_neg (by omega)]
  split
  · refine ⟨?_, rfl⟩
    show (if _ then 3 else 2) = 2 ∨ (if _ then 3 else 2) = 3
    split <;> simp
  · exact ⟨h, rfl⟩

theorem scribeGap_triggered {s : State} (h : s.obs.scrState = 2 ∨ s.obs.scrState = 3) :
    ((scribeGap s).obs.scrState = 2 ∨ (scribeGap s).obs.scrState = 3) ∧ (scribeGap s).obs.scrPre = s.obs.scrPre := by
  unfold scribeGap
  split
  · exact ⟨h, rfl⟩
  · exact scribeWrite_triggered (s := { s with obs := { s.obs with scrLost := 0 } }) _ h

theorem scribeWrite_unscribed (x : Nat) (s : State) : (scribeWrite x s).obs.unscribed = s.obs.unscribed := by
  unfold scribeWrite
  (repeat' split) <;> rfl

theorem scribeTime_unscribed (s : State) : (scribeTime s).obs.unscribed = s.obs.unscribed :=
  scribeWrite_unscribed _ { s with obs := { s.obs with scrTimeAt := s.aon.clock } }

theorem scribeGap_unscribed (s : State) : (scribeGap s).obs.unscribed = s.obs.unscribed := by
  unfold scribeGap
  split
  · rfl
  · exact scribeWrite_unscribed _ { s with obs := { s.obs with scrLost := 0 } }

/-! The trigger (R515). -/

theorem graphBegin_untriggered (s : State) : (graphBegin s).obs.untriggered = s.obs.untriggered := by
  unfold graphBegin
  split <;> rfl

theorem triggerActions_untriggered (s : State) : (triggerActions s).obs.untriggered = s.obs.untriggered := by
  have hite : ∀ (c : Prop) [Decidable c] (t u : State), t.obs.untriggered = u.obs.untriggered →
      (if c then t else u).obs.untriggered = u.obs.untriggered := fun c _ t u h => by
    split
    · exact h
    · rfl
  unfold triggerActions
  extract_lets a u v w x
  have hu : u.obs.untriggered = s.obs.untriggered := hite _ (snapshot s) s rfl
  have hv : v.obs.untriggered = u.obs.untriggered := hite _ (dumpMoment u) u rfl
  have hw : w.obs.untriggered = v.obs.untriggered := hite _ (graphBegin v) v (graphBegin_untriggered v)
  have hx : x.obs.untriggered = w.obs.untriggered := hite _ (assertIrq w) w rfl
  refine (hite _ _ x ?_).trans (hx.trans (hw.trans (hv.trans hu)))
  split <;> rfl

theorem triggerActions_unsignalled (s : State) : (triggerActions s).aon.unsignalled = s.aon.unsignalled := by
  have hite : ∀ (c : Prop) [Decidable c] (t u : State), t.aon.unsignalled = u.aon.unsignalled →
      (if c then t else u).aon.unsignalled = u.aon.unsignalled := fun c _ t u h => by
    split
    · exact h
    · rfl
  unfold triggerActions
  extract_lets a u v w x
  have hu : u.aon.unsignalled = s.aon.unsignalled := hite _ (snapshot s) s rfl
  have hv : v.aon.unsignalled = u.aon.unsignalled := hite _ (dumpMoment u) u rfl
  have hw : w.aon.unsignalled = v.aon.unsignalled :=
    hite _ (graphBegin v) v (congrArg Aon.unsignalled (view_aon (graphBegin_view (k := 1) (by decide) v) (by decide)))
  have hx : x.aon.unsignalled = w.aon.unsignalled := hite _ (assertIrq w) w rfl
  refine (hite _ _ x ?_).trans (hx.trans (hw.trans (hv.trans hu)))
  split <;> rfl

/-- The Scribe of a trigger that has come: a GAP record after a loss goes first into the reserve. -/
def scribeReached (s : State) : State := scribeGap { s with obs := { s.obs with scrState := 2, scrWait := false } }

/-- The reserve of a trigger with its TRIGGER record. -/
def scribeReserve (s : State) : State :=
  scribeWrite (scribeRec (scribeReached s).aon.clock 0x3E (s.pn 0x9100 5) 0 (scribeReached s).obs.scrOcc) (scribeReached s)

/-- What a trigger takes up before its actions: the records of the reserve, TRIGGERED and the tick. -/
def scribeTriggered (s : State) : State :=
  setStopFlag 1 ((scribeReserve s).put 0x9100 0x0D ((scribeReserve s).tick : Nat))

theorem scribeTrigger_eq (s : State) : ∃ a b, scribeTrigger s = triggerActions (raise 0x0912 0 a b (scribeTriggered s)) := ⟨_, _, rfl⟩

theorem scribeReserve_aon (s : State) : (scribeReserve s).aon = s.aon :=
  view_aon ((scribeWrite_view (k := 1) (by decide) ..).trans (scribeGap_view (k := 1) (by decide) _)) (by decide)

theorem scribeReserve_unscribed (s : State) : (scribeReserve s).obs.unscribed = s.obs.unscribed :=
  (scribeWrite_unscribed _ (scribeReached s)).trans (scribeGap_unscribed _)

theorem scribeReserve_triggered (s : State) : ((scribeReserve s).obs.scrState = 2 ∨ (scribeReserve s).obs.scrState = 3) ∧
    (scribeReserve s).obs.scrPre = s.obs.scrPre := by
  obtain ⟨hgap, hgappre⟩ := scribeGap_triggered (s := { s with obs := { s.obs with scrState := 2, scrWait := false } }) (.inl rfl)
  obtain ⟨hstate, hpre⟩ := scribeWrite_triggered (s := scribeReached s)
    (scribeRec (scribeReached s).aon.clock 0x3E (s.pn 0x9100 5) 0 (scribeReached s).obs.scrOcc) hgap
  exact ⟨hstate, hpre.trans hgappre⟩

theorem scribeTrigger_unsignalled (s : State) : (scribeTrigger s).aon.unsignalled = s.aon.unsignalled := by
  obtain ⟨a, b, h⟩ := scribeTrigger_eq s
  rw [h, triggerActions_unsignalled, raise_unsignalled]
  exact congrArg Aon.unsignalled (scribeReserve_aon s)

theorem scribeTrigger_unscribed (s : State) : (scribeTrigger s).obs.unscribed = s.obs.unscribed := by
  obtain ⟨a, b, h⟩ := scribeTrigger_eq s
  rw [h]
  refine (congrArg Obs.unscribed (triggerActions_untriggered (raise 0x0912 0 a b (scribeTriggered s))) :).trans ?_
  rw [raise_obs]
  exact scribeReserve_unscribed s

theorem scribeMatch_unsignalled (s : State) : (scribeMatch s).aon.unsignalled = s.aon.unsignalled := by
  unfold scribeMatch
  split
  · dsimp only
    split
    · split
      · rfl
      · exact scribeTrigger_unsignalled _
    · rfl
  · rfl

/-- A trigger of an armed Scribe: the area before it stays, TRIGGERED is set and the tick is kept (R514, R515). -/
theorem scribeTrigger_takes (s : State) :
    ((scribeTrigger s).obs.scrState = 2 ∨ (scribeTrigger s).obs.scrState = 3) ∧ (scribeTrigger s).obs.scrPre = s.obs.scrPre ∧
      bit (scribeTrigger s).obs.flags 1 = true ∧ (scribeTrigger s).num 0x9100 0x0D = s.tick := by
  obtain ⟨a, b, h⟩ := scribeTrigger_eq s
  obtain ⟨hstate, hpre⟩ := scribeReserve_triggered s
  have hobs := triggerActions_untriggered (raise 0x0912 0 a b (scribeTriggered s))
  rw [raise_obs] at hobs
  obtain ⟨hstate', hpre', hflags⟩ := Obs.of_untriggered hobs
  have hobj : (triggerActions (raise 0x0912 0 a b (scribeTriggered s))).obj = (raise 0x0912 0 a b (scribeTriggered s)).obj :=
    view_obj (triggerActions_view (k := 2) (by decide) _) (by decide)
  have htick : (scribeTriggered s).num 0x9100 0x0D = s.tick :=
    (State.num_bump32_sub _ (by decide) (by decide) (by decide)).trans
      ((State.num_put_same ..).trans (congrArg (fun x : Aon => ((x.clock / 4 : Nat) : Int)) (scribeReserve_aon s)))
  rw [h]
  refine ⟨by rw [hstate']; exact hstate, hpre'.trans hpre, by rw [hflags]; exact putBit_bit _ 1 true, ?_⟩
  rw [State.num_of_obj hobj, ← htick]
  exact captureEvent_num _ _ (by decide) (by decide)

end Sys2Proof.Machine

/-! The Scribe's controls, map dumps, the wait-for graph and the global stop (O57). -/

namespace Sys2Proof.Machine

open Sys2Proof

theorem dictRow_scribeControl : dictRow 0x9100 0x0A = some ⟨0x9100, 1, 0x0A, 1, .u 1, 0x0303, 0, .ivs [(1, 4)] 1, .absent, 20, false⟩ := by
  decide

theorem dictRow_dumpControl : dictRow 0x9110 7 = some ⟨0x9110, 1, 0x07, 1, .u 1, 0x0303, 0, .ivs [(1, 2)] 1, .absent, 20, false⟩ := by
  decide

theorem dictRow_graphControl : dictRow 0x9120 1 = some ⟨0x9120, 1, 0x01, 1, .u 1, 0x0303, 0, .ivs [(1, 1)] 1, .absent, 20, false⟩ := by
  decide

theorem State.tick_of_aon {s t : State} (h : t.aon = s.aon) : t.tick = s.tick := congrArg (fun a : Aon => a.clock / 4) h

/-! The controls of the Scribe (R513, R515, R530). -/

section
variable {ch : ChanId} {val : List Byte} {s : State}

/-- A control that the Scribe takes. -/
theorem scribeControl_taken {c : Nat} {t : State} (h : s.takes ch 0x9100 0x0A val) (hc : leVal val = c)
    (hw : scribeControl c (s.serving ch 0x9100 0x0A val) = .ok t) (hcl : t.cl = (s.serving ch 0x9100 0x0A val).cl) :
    (clWhole ch 0x9100 0x0A val s).doneOn ch ∧ (clWhole ch 0x9100 0x0A val s).view 14680057 = t.view 14680057 ∧
      (clWhole ch 0x9100 0x0A val s).obj = (t.add64 0x1020 1 1).obj :=
  clWhole_taken h dictRow_scribeControl (fwOwned_row dictRow_scribeControl rfl) (by decide) (by decide)
    (fun _ _ => rfl) (x := c) (by rw [← hc]; rfl) (fun _ => hw) hcl

theorem scribeArm_arms (h : s.takes ch 0x9100 0x0A val) (hc : leVal val = 1) (h1 : s.obs.scrState ≠ 1) (hcap : 0 < s.scrCap) :
    Answers (.scribeArm ch val) s (fun t => t.doneOn ch ∧ t.obs.scrState = 1 ∧
      t.obs.scrPre = [scribeRec s.aon.clock 0 0 0 s.tick] ∧ t.obs.scrPost = [] ∧ t.obs.scrLost = 0 ∧ t.obs.scrOcc = 0) := by
  have hv := State.serving_servesOn h
  let v := s.serving ch 0x9100 0x0A val
  have hobs : v.obs = s.obs := hv.obs
  have hw : needState (v.obs.scrState != 1) (.ok (scribeArm v)) = .ok (scribeArm v) := if_pos (by simpa [hobs] using h1)
  obtain ⟨hdone, hview, -⟩ := scribeControl_taken h hc hw (view_cl (scribeArm_view (k := 4) (by decide) v) (by decide))
  let u : State := { v.put 0x9100 0x0E 0 with
    obs := { v.obs with scrState := 1, scrPre := [], scrPost := [], scrLost := 0, scrOcc := 0, scrWait := false } }
  have hroom : u.obs.scrPre.length < u.scrCap := by
    have hpn : u.pn 0x9100 3 = s.pn 0x9100 3 :=
      (congrArg Int.toNat (State.num_put_ne _ _ (by decide))).trans (hv.pn (by decide) 3)
    show 0 < 262144 - u.pn 0x9100 3
    rw [hpn]
    exact hcap
  have harm : (scribeArm v).obs.uncounted = _ := scribeTime_armed (s := u) rfl hroom
  refine ⟨_, rfl, hdone, ?_⟩
  rw [view_obs hview (by decide)]
  refine ⟨(congrArg Obs.scrState harm :), ?_, (congrArg Obs.scrPost harm :), (congrArg Obs.scrLost harm :),
    (congrArg Obs.scrOcc harm :)⟩
  refine (congrArg Obs.scrPre harm :).trans ?_
  rw [← State.tick_of_aon hv.aon, ← hv.aon]
  rfl

theorem scribeDisarm_disarms (h : s.takes ch 0x9100 0x0A val) (hc : leVal val = 2) : Answers (.scribeDisarm ch val) s (fun t =>
    t.doneOn ch ∧ t.obs.scrState ≠ 1 ∧ t.obs.scrState ≠ 2 ∧ t.obs.scrPre = s.obs.scrPre ∧ t.obs.scrPost = s.obs.scrPost ∧
      t.obs.trigReq = false ∧ t.aon.stopReqOut = s.obs.req) := by
  have hv := State.serving_servesOn h
  obtain ⟨hdone, hview, -⟩ := scribeControl_taken h hc rfl rfl
  refine ⟨_, rfl, hdone, ?_⟩
  rw [view_obs hview (by decide), view_aon hview (by decide), ← hv.obs]
  refine ⟨?_, ?_, rfl, rfl, rfl, Bool.or_false _⟩
  all_goals
    show (if _ then 0 else (s.serving ch 0x9100 0x0A val).obs.scrState) ≠ _
    split
    · decide
    · simp_all

theorem scribeControlTrigger_triggers (h : s.takes ch 0x9100 0x0A val) (hc : leVal val = 3) (h1 : s.obs.scrState = 1) :
    Answers (.scribeControlTrigger ch val) s (fun t =>
      t.doneOn ch ∧ (t.obs.scrState = 2 ∨ t.obs.scrState = 3) ∧ t.obs.scrPre = s.obs.scrPre ∧ bit t.obs.flags 1 = true ∧
      t.num 0x9100 0x0D = s.tick) := by
  have hv := State.serving_servesOn h
  have hw : scribeControl 3 (s.serving ch 0x9100 0x0A val) = .ok (scribeTrigger (s.serving ch 0x9100 0x0A val)) :=
    congrArg Except.ok (if_pos (by rw [hv.obs]; exact h1))
  obtain ⟨hdone, hview, hobj⟩ := scribeControl_taken h hc hw (view_cl (scribeTrigger_view (k := 4) (by decide) _) (by decide))
  obtain ⟨hstate, hpre, hflag, hnum⟩ := scribeTrigger_takes (s.serving ch 0x9100 0x0A val)
  refine ⟨_, rfl, hdone, ?_⟩
  rw [view_obs hview (by decide), num_of_served hobj (by decide), hnum, ← hv.obs, State.tick_of_aon hv.aon]
  exact ⟨hstate, hpre, hflag, rfl⟩

theorem scribeClear_clears (h : s.takes ch 0x9100 0x0A val) (hc : leVal val = 4) : Answers (.scribeClear ch val) s (fun t =>
    t.doneOn ch ∧ t.scrHeld = 0 ∧ t.obs.scrState = if s.obs.scrState = 1 then 1 else 0) := by
  have hv := State.serving_servesOn h
  obtain ⟨hdone, hview, -⟩ := scribeControl_taken h hc rfl rfl
  refine ⟨_, rfl, hdone, ?_⟩
  rw [State.scrHeld, view_obs hview (by decide), ← hv.obs]
  exact ⟨rfl, rfl⟩

/-! Map dumps (R517). -/

theorem dumpControl_taken {c : Nat} {t : State} (h : s.takes ch 0x9110 7 val) (hc : leVal val = c)
    (hw : dumpControl c (s.serving ch 0x9110 7 val) = .ok t) (hcl : t.cl = (s.serving ch 0x9110 7 val).cl) :
    (clWhole ch 0x9110 7 val s).doneOn ch ∧ (clWhole ch 0x9110 7 val s).obs = t.obs := by
  obtain ⟨hdone, hview, -⟩ := clWhole_taken h dictRow_dumpControl (fwOwned_row dictRow_dumpControl rfl) (by decide) (by decide)
    (fun _ _ => rfl) (x := c) (by rw [← hc]; rfl) (fun _ => hw) hcl
  exact ⟨hdone, view_obs hview (by decide)⟩

theorem mapDumpArm_arms (h : s.takes ch 0x9110 7 val) (hc : leVal val = 1) (h1 : s.obs.dumpState ≠ 1) (h2 : s.obs.dumpState ≠ 2) :
    Answers (.mapDumpArm ch val) s (fun t =>
      t.doneOn ch ∧ t.obs.dumpState = 1 ∧ t.obs.dumpMoment = decide (s.pn 0x9110 2 = 0) ∧ t.obs.dumpOcc = 0) := by
  have hv := State.serving_servesOn h
  let v := s.serving ch 0x9110 7 val
  have hobs : v.obs = s.obs := hv.obs
  have hw : needState (v.obs.dumpState != 1 && v.obs.dumpState != 2) (.ok (dumpArm v)) = .ok (dumpArm v) :=
    if_pos (by simp [hobs, h1, h2])
  obtain ⟨hdone, hobs⟩ := dumpControl_taken h hc hw (view_cl (dumpArm_view (k := 4) (by decide) _) (by decide))
  refine ⟨_, rfl, hdone, ?_⟩
  have hpn := hv.pn (i := 0x9110) (by decide) 2
  rw [hobs, ← hpn]
  unfold dumpArm
  dsimp only
  split
  · rename_i h0
    exact ⟨rfl, (decide_eq_true h0).symm, rfl⟩
  · rename_i h0
    exact ⟨rfl, (decide_eq_false h0).symm, rfl⟩

theorem mapDumpDisarm_disarms (h : s.takes ch 0x9110 7 val) (hc : leVal val = 2) : Answers (.mapDumpDisarm ch val) s (fun t =>
    t.doneOn ch ∧ t.obs.dumpState = (if s.obs.dumpState = 1 then 0 else s.obs.dumpState) ∧ t.obs.dumpSlots = s.obs.dumpSlots) := by
  have hv := State.serving_servesOn h
  obtain ⟨hdone, hobs⟩ := dumpControl_taken h hc rfl (view_cl (dumpDisarm_view (k := 4) (by decide) _) (by decide))
  refine ⟨_, rfl, hdone, ?_⟩
  rw [hobs, ← hv.obs]
  unfold dumpDisarm
  split
  · exact ⟨rfl, rfl⟩
  · exact ⟨rfl, rfl⟩

end

/-- The copy of a map's dump starts with the bytes of the flip. -/
theorem mapDumpCopy_copies {flip : Nat} {s : State} (h1 : s.obs.dumpState = 1) (hm : s.obs.dumpMoment = true)
    (h15 : s.enabled 15 = true) (hf : s.pn 0x9110 1 = 3 ∧ flip = s.obs.dumpMomentAt ∨ s.pn 0x9110 1 ≠ 3 ∧
      ∃ a, s.flipAt (s.pn 0x9110 1) = some a ∧ 4 * s.obs.dumpMomentAt ≤ a ∧ flip = a / 4) :
    Answers .mapDumpCopy s (fun t => t.obs = { s.obs with
      dumpState := 2
      dumpSlots := s.obs.dumpSlots.set (s.pn 0x9110 6) ((s.dumpBytes (s.pn 0x9110 1) flip).map (·.toNat)) }) := by
  refine ⟨dumpCopy s, rfl, ?_⟩
  unfold dumpCopy
  dsimp only
  rw [if_pos (by simp [h1, hm, h15])]
  rcases hf with ⟨h3, rfl⟩ | ⟨h3, a, ha, hle, rfl⟩
  · rw [if_pos h3]
  · rw [if_neg h3, ha]
    exact congrArg State.obs (if_pos hle)

theorem mapDump_ends {s : State} (h2 : s.obs.dumpState = 2) : Answers .mapDump s (fun t =>
    t.obs.dumpState = 3 ∧ t.obs.dumpMoment = false ∧ bit t.obs.flags 2 = true ∧ t.obs.dumpSlots = s.obs.dumpSlots) := by
  refine ⟨dumpDone s, rfl, ?_⟩
  unfold dumpDone
  rw [if_pos h2]
  dsimp only
  rw [raise_obs]
  exact ⟨rfl, rfl, putBit_bit _ 2 true, rfl⟩

/-! Records and time marks (R511 to R514). -/

theorem scribeRecord_written {src sub info : Nat} {data : BitVec 64} {s : State} (h1 : s.obs.scrState = 1)
    (h14 : s.enabled 14 = true) (hlo : 1 ≤ src) (hhi : src ≤ 14) (hmask : bit (s.pn 0x9100 1) src = true)
    (hst : s.obs.standing = false) (hq : s.scrRoom = true) (hl : s.obs.scrLost = 0) (hroom : s.obs.scrPre.length < s.scrCap)
    (hhit : s.scribeHit src sub info data.toNat = false) : Answers (.scribeRecord src sub info data) s (fun t =>
      t.obs.scrPre = s.obs.scrPre ++ [scribeRec s.aon.clock src sub info data.toNat] ∧ t.obs.scrState = 1 ∧
        t.obs.scrPost = s.obs.scrPost) := by
  refine ⟨scribePut src sub info data.toNat s, rfl, ?_⟩
  unfold scribePut
  dsimp only
  rw [if_pos (by simp [h1, h14]), hhit, if_neg Bool.false_ne_true, if_pos (by simp [hlo, hhi, hmask])]
  unfold scribeEnter
  rw [if_neg (by simp [hst, hq])]
  dsimp only
  unfold scribeRecover
  rw [if_pos (by simp [hl]), scribeWrite_armed _ (by exact h1) (by exact hroom)]
  exact ⟨rfl, h1, rfl⟩

theorem scribeRecord_idle {src sub info : Nat} {data : BitVec 64} {s : State} (h1 : s.obs.scrState ≠ 1) (h2 : s.obs.scrState ≠ 2) :
    Answers (.scribeRecord src sub info data) s (fun t => t = s) :=
  ⟨_, rfl, if_neg (by simp [h1, h2])⟩

theorem Obs.of_uncounted {a b : Obs} (h : a.uncounted = b.uncounted) :
    a.scrState = b.scrState ∧ a.scrLost = b.scrLost ∧ a.scrPre = b.scrPre :=
  ⟨(congrArg Obs.scrState h :), (congrArg Obs.scrLost h :), (congrArg Obs.scrPre h :)⟩

/-- A time mark at a moment, with nothing lost and room for it. -/
theorem scribeTime_marks {d : Nat} {s : State} (hp : s.aon.porN = true) (h1 : s.obs.scrState = 1) (hl : s.obs.scrLost = 0)
    (hroom : s.obs.scrPre.length < s.scrCap) {t : State} (ht : t = scribeTime (scribeRecover (advanceTo d s))) :
    t.aon.clock = max s.aon.clock d ∧ t.obs.scrTimeAt = t.aon.clock ∧
      t.obs.scrPre = s.obs.scrPre ++ [scribeRec t.aon.clock 0 0 0 t.tick] := by
  obtain ⟨hstate, hlost, hpre⟩ := Obs.of_uncounted (advanceTo_uncounted d s)
  have hroom' : (advanceTo d s).obs.scrPre.length < (advanceTo d s).scrCap := by
    rw [hpre, State.scrCap, advanceTo_pn _ s (by decide) (by decide)]
    exact hroom
  have hrecover : scribeRecover (advanceTo d s) = advanceTo d s := if_pos (by rw [hlost, hl]; rfl)
  have haon : t.aon = (advanceTo d s).aon := by
    rw [ht, hrecover]
    exact view_aon (scribeTime_view (k := 1) (by decide) _) (by decide)
  have hmark := scribeTime_armed (hstate.trans h1) hroom'
  rw [← hrecover, ← ht, hrecover] at hmark
  rw [State.tick_of_aon haon, haon, ← hpre]
  exact ⟨advanceTo_clock d hp, (congrArg Obs.scrTimeAt hmark :), (congrArg Obs.scrPre hmark :)⟩

/-- A time mark comes 2^30 cycles after the last (R513). -/
theorem scribeTimeMark_marks {s : State} (hp : s.aon.porN = true) (h1 : s.obs.scrState = 1) (h14 : s.enabled 14 = true)
    (hst : s.obs.standing = false) (hl : s.obs.scrLost = 0) (hroom : s.obs.scrPre.length < s.scrCap) :
    Answers .scribeTimeMark s (fun t => t.aon.clock = max s.aon.clock (s.obs.scrTimeAt + 2 ^ 30) ∧ t.obs.scrTimeAt = t.aon.clock ∧
      t.obs.scrPre = s.obs.scrPre ++ [scribeRec t.aon.clock 0 0 0 t.tick]) :=
  ⟨scribeTimeMark s, rfl, scribeTime_marks hp h1 hl hroom (if_pos (by simp [h1, h14, hst]))⟩

/-! The wait-for graph (R519). -/

section
variable {ch : ChanId} {val : List Byte} {s : State}

theorem graphStart_begins (h : s.takes ch 0x9120 1 val) (h1 : s.obs.graphState ≠ 1) (h13 : s.isReady 13 = true)
    (h19 : s.isReady 19 = true) : Answers (.graphStart ch val) s (fun t =>
      t.doneOn ch ∧ t.obs.graphState = 1 ∧ t.obs.graphStartAt = s.tick) := by
  have hv := State.serving_servesOn h
  let v := s.serving ch 0x9120 1 val
  have hr : (v.isReady 13 && v.isReady 19) = true := by
    show (bit v.aon.ready 13 && bit v.aon.ready 19) = true
    rw [show v.aon = s.aon from hv.aon]
    exact Bool.and_eq_true_iff.mpr ⟨h13, h19⟩
  have hb : graphBegin v = { v with obs := { v.obs with graphState := 1, graphStartAt := v.tick } } := if_pos hr
  have hw : graphStart v = .ok (graphBegin v) := by
    unfold graphStart
    rw [if_neg (by rw [show v.obs = s.obs from hv.obs]; exact h1), hb]
    exact if_pos rfl
  obtain ⟨hdone, hview, -⟩ := clWhole_taken h dictRow_graphControl (fwOwned_row dictRow_graphControl rfl) (by decide) (by decide)
    (fun _ _ => rfl) rfl (fun _ => hw) (by rw [hb])
  refine ⟨_, rfl, hdone, ?_⟩
  rw [view_obs hview (by decide), hb, ← State.tick_of_aon hv.aon]
  exact ⟨rfl, rfl⟩

theorem graphStart_refused (h : s.takes ch 0x9120 1 val) (h1 : s.obs.graphState ≠ 1)
    (hr : (s.isReady 13 && s.isReady 19) = false) : Answers (.graphStart ch val) s (fun t =>
      t.abortedOn ch abState ∧ t.obs.graphState = 3) := by
  have hv := State.serving_servesOn h
  let v := s.serving ch 0x9120 1 val
  have h1' : v.obs.graphState ≠ 1 := by
    rw [show v.obs = s.obs from hv.obs]
    exact h1
  have hr' : ¬((v.isReady 13 && v.isReady 19) = true) := by
    show ¬((bit v.aon.ready 13 && bit v.aon.ready 19) = true)
    rw [show v.aon = s.aon from hv.aon]
    exact Bool.eq_false_iff.mp hr
  have hb : graphBegin v = { v with obs := { v.obs with graphState := 3 } } := if_neg hr'
  have hw : graphStart v = .error abState := by
    unfold graphStart
    rw [if_neg h1', hb]
    exact if_neg (show ¬3 = 1 by decide)
  obtain ⟨hends, hview⟩ := clWhole_refused_leaves h dictRow_graphControl (fwOwned_row dictRow_graphControl rfl) (by decide)
    (by decide) (fun _ _ => rfl) rfl (fun _ => hw) (by decide) (by decide)
  refine ⟨_, rfl, hends, ?_⟩
  rw [view_obs hview (by decide)]
  exact congrArg (fun x : State => x.obs.graphState) (if_neg h1')

end

/-- The graph ends with its entries after a header of 8 words, and with the stop request that waited for it (R515, R519, R520). -/
theorem graphDone_ends {s : State} (h1 : s.obs.graphState = 1) (hst : s.obs.standing = false) : Answers .graphDone s (fun t =>
    t.obs.graphState = 2 ∧ bit t.obs.flags 3 = true ∧ t.num 0x9120 4 = (s.graphEntries.take 4088).length ∧
    t.obs.graphArea.drop 8 = s.graphEntries.take 4088 ∧ (s.obs.graphDue = true → t.aon.stopReqOut = true)) := by
  refine ⟨graphDone s, rfl, ?_⟩
  unfold graphDone
  rw [if_neg (by simp [h1, hst])]
  extract_lets all es c h u free o v w
  have hobs : w.obs = v.obs := raise_obs ..
  have hflag : bit v.obs.flags 3 = true := putBit_bit _ 3 true
  have hnum : w.num 0x9120 4 = es.length :=
    (captureEvent_num _ _ (by decide) (by decide)).trans ((State.num_put_ne _ _ (by decide)).trans
      ((State.num_put_ne _ _ (by decide)).trans (State.num_put_same ..)))
  have hdue : v.obs.graphDue = s.obs.graphDue := rfl
  have hstate : v.obs.graphState = 2 := rfl
  have harea : v.obs.graphArea.drop 8 = es := rfl
  clear_value w v
  split
  · exact ⟨(congrArg Obs.graphState hobs).trans hstate, by rw [← hobs] at hflag; exact hflag, hnum,
      by rw [← hobs] at harea; exact harea, fun _ => Bool.or_true _⟩
  · rename_i hno
    rw [hobs] at hno
    dsimp only
    rw [hobs]
    exact ⟨hstate, hflag, hnum, harea, fun h => absurd (hdue.trans h) hno⟩

/-! The global stop (R521, R523, R524). -/

theorem ffWithdraw_clock (s : State) : (ffWithdraw s).aon.clock = s.aon.clock := by
  unfold ffWithdraw
  extract_lets u v w
  have hu : u.view 1 = s.view 1 := (setFfFlag_view (k := 1) (by decide) ..).trans (State.bump32_view (k := 1) (by decide) ..)
  have hv : v.view 1 = u.view 1 := (disarmPlan_view (k := 1) (by decide) _).trans ((cancelPreloads_view (k := 1) (by decide) _).trans
    ((startSettling_view (k := 1) (by decide) _).trans (discardPending_view (k := 1) (by decide) _)))
  have hw : w.view 1 = v.view 1 := forEach_view fun k t => ffLeave_view (k := 1) (by decide) k t
  rw [raise_clock, view_aon (hw.trans (hv.trans hu)) (by decide)]

theorem stopInAssert_stops {x eng stp til : Nat} {s : State} (hr : s.aon.ctlReleased = true) (hi : s.aon.stopInAct = false) :
    Answers (.stopInAssert x eng stp til) s (fun t =>
      t.aon.stopInAct = true ∧ t.obs.standing = true ∧ t.obs.restarting = false ∧ t.clk.stopHeld = true ∧ t.obs.crossings = x % 256 ∧
      t.obs.cuts = [(s.aon.clock + eng) % 2 ^ 48, (s.aon.clock + stp) % 2 ^ 48, (s.aon.clock + til) % 2 ^ 48] ∧
      t.obs.smear = (max eng (max stp til) - min eng (min stp til)) % 256 ∧ t.obs.stopInAt = s.aon.clock) := by
  refine ⟨stopDeliver x eng stp til s, if_pos (by simp [hr, hi]), ?_⟩
  have hite : ∀ (c : Prop) [Decidable c] (t u : State), t.aon.clock = u.aon.clock → (if c then t else u).aon.clock = u.aon.clock :=
    fun c _ t u h => by
      split
      · exact h
      · rfl
  unfold stopDeliver
  extract_lets u v c cut sm
  have hu : u.aon.clock = s.aon.clock := hite _ _ s (Aon.unsignalled_clock (scribeMatch_unsignalled s))
  have hv : v.aon.clock = u.aon.clock := hite _ _ u (ffWithdraw_clock u)
  rw [← hu, ← hv]
  exact ⟨rfl, rfl, rfl, rfl, rfl, rfl, rfl, rfl⟩

theorem stopEnter_enters {s : State} (hst : s.obs.standing = true) (hs : s.obs.stopped = false) : Answers .stopEnter s (fun t =>
    t.obs.stopped = true ∧ t.obs.stopAt = s.aon.clock ∧ bit t.obs.flags 0 = true ∧ t.obs.standing = true) := by
  refine ⟨stopEnter s, rfl, ?_⟩
  unfold stopEnter
  rw [if_pos (by simp [hst, hs])]
  dsimp only
  rw [raise_obs]
  exact ⟨rfl, rfl, putBit_bit _ 0 true, hst⟩

theorem trigReqClear_clears {s : State} (hp : s.aon.porN = true) (hi : s.aon.stopInAct = true) (hr : s.obs.trigReq = true) :
    Answers .trigReqClear s (fun t =>
      t.obs.trigReq = false ∧ t.aon.stopReqOut = s.obs.req ∧ t.aon.clock = max s.aon.clock (s.obs.stopInAt + 64)) := by
  refine ⟨trigReqClear s, rfl, ?_⟩
  unfold trigReqClear
  rw [if_pos (by simp [hi, hr])]
  have hreq : (advanceTo (s.obs.stopInAt + 64) s).obs.req = s.obs.req := (congrArg Obs.req (advanceTo_uncounted _ s) :)
  exact ⟨rfl, (Bool.or_false _).trans hreq, advanceTo_clock _ hp⟩

/-! The release of a stop (R526). -/

/-- What a release leaves of the parts that stood: none stands, and the moment is as it was. -/
structure State.released (t : State) (now : Nat) : Prop where
  stopIn : t.aon.stopInAct = false
  standing : t.obs.standing = false
  stopped : t.obs.stopped = false
  applied : t.obs.dbgApplied = 0
  clock : t.aon.clock = now

theorem State.released.of_eq {t u : State} {now : Nat} (h : u.released now) (haon : t.aon.unsignalled = u.aon.unsignalled)
    (hobs : t.obs.unscribed = u.obs.unscribed) : t.released now :=
  ⟨(Aon.unsignalled_stopInAct haon).trans h.stopIn, (congrArg Obs.standing hobs :).trans h.standing,
    (congrArg Obs.stopped hobs :).trans h.stopped, (congrArg Obs.dbgApplied hobs :).trans h.applied,
    (Aon.unsignalled_clock haon).trans h.clock⟩

theorem ClChan.later_waits (d : Nat) (c : ClChan) : (c.later d).state = c.state ∧ (c.later d).pend.map ClPend.why = c.pend.map ClPend.why := by
  unfold ClChan.later
  cases c.pend <;> exact ⟨rfl, rfl⟩

/-- A channel waits for a reason exactly by its state and the reason of its request. -/
theorem State.waits_eq_none (s : State) (ch : ChanId) (why : Nat) :
    s.waits ch why = none ↔ ¬((s.chan ch).state = 1 ∧ (s.chan ch).pend.map ClPend.why = some why) := by
  unfold State.waits
  cases (s.chan ch).pend with
  | none => simp
  | some a => by_cases h : a.why = why <;> by_cases h1 : (s.chan ch).state = 1 <;> simp [h, h1]

theorem getD_map_later_waits (d : Nat) (l : List ClChan) (n : Nat) :
    ((l.map (ClChan.later d)).getD n {}).state = (l.getD n {}).state ∧
      ((l.map (ClChan.later d)).getD n {}).pend.map ClPend.why = (l.getD n {}).pend.map ClPend.why := by
  simp only [List.getD_eq_getElem?_getD, List.getElem?_map]
  cases l[n]? with
  | none => exact ⟨rfl, rfl⟩
  | some c => exact ClChan.later_waits d c

theorem chainLater_waits (d : Nat) (s : State) (ch : ChanId) : ((chainLater d s).chan ch).state = (s.chan ch).state ∧
    ((chainLater d s).chan ch).pend.map ClPend.why = (s.chan ch).pend.map ClPend.why := by
  cases ch with
  | slot p => exact getD_map_later_waits d _ p
  | jig j => exact getD_map_later_waits d _ j
  | mgt => exact ClChan.later_waits d _
  | chain => exact ClChan.later_waits d _
  | fw => exact ClChan.later_waits d _

theorem stopResume_waits {s : State} {ch : ChanId} (h : s.waits ch 2 = none) : (stopResume s).waits ch 2 = none := by
  obtain ⟨hstate, hwhy⟩ := chainLater_waits (s.aon.clock - s.obs.stopInAt) s ch
  rw [State.waits_eq_none] at h ⊢
  rw [← hstate, ← hwhy] at h
  exact h

/-- With nothing waiting in the channels a release serves none. -/
theorem clResume_idle {s : State} (hf : s.cl.fwQ = []) (hc : s.cl.chainQ = []) (hw : ∀ ch, s.waits ch 2 = none) :
    clResume s = s := by
  have hone : ∀ ch, clResumeOne ch s = s := fun ch => by
    unfold clResumeOne
    rw [hw ch]
  have hall : allChans.foldl (fun s ch => clResumeOne ch s) s = s :=
    List.foldlRecOn (motive := fun t => t = s) _ _ rfl fun t ht ch _ => by rw [ht, hone]
  unfold clResume
  rw [hall, clTurn_quiet hf hc]

theorem debugRun_idle {s : State} (h : s.obs.dbgQ = []) :
    debugRun s = { s with obs := { s.obs with dbgQ := [], dbgApplied := 0 } } := by
  unfold debugRun
  rw [h]
  rfl

theorem syncResume_idle {s : State} (h : s.sync.cells = []) : (syncResume s).obs = s.obs ∧ (syncResume s).aon = s.aon ∧
    (syncResume s).cla = s.cla := by
  unfold syncResume
  rw [h]
  exact ⟨rfl, rfl, rfl⟩

theorem clampResume_idle {s : State} (h : s.cla.cells = []) : (clampResume s).obs = s.obs ∧ (clampResume s).aon = s.aon := by
  unfold clampResume
  rw [h]
  exact ⟨rfl, rfl⟩

theorem pumpLink_unscribed (l : Side) (s : State) : (pumpLink l s).obs.unscribed = s.obs.unscribed := by
  unfold pumpLink
  split
  · rfl
  · cases l <;> rfl

theorem stopClock_released {s : State} {now : Nat} (h : s.released now) :
    (stopClock s).released now ∧ (stopClock s).clk.stopHeld = false := by
  obtain ⟨h1, h2, h3, h4, h5⟩ := h
  unfold stopClock
  dsimp only
  split
  · exact ⟨⟨h1, h2, h3, h4, h5⟩, rfl⟩
  · exact ⟨⟨h1, h2, h3, h4, h5⟩, rfl⟩

theorem scribeResume_released {s : State} {now : Nat} (h : s.released now) : (scribeResume s).released now := by
  have htime : (scribeTime (scribeGap s)).released now := h.of_eq
    (congrArg Aon.unsignalled (view_aon ((scribeTime_view (k := 1) (by decide) _).trans (scribeGap_view (k := 1) (by decide) s))
      (by decide))) ((scribeTime_unscribed _).trans (scribeGap_unscribed s))
  unfold scribeResume
  split
  · dsimp only
    split
    · exact htime.of_eq (scribeTrigger_unsignalled _) (scribeTrigger_unscribed _)
    · exact htime
  · exact h

theorem stopInRelease_releases {s : State} (hi : s.aon.stopInAct = true) (hq : s.obs.dbgQ = []) (hf : s.cl.fwQ = [])
    (hc : s.cl.chainQ = []) (hw : ∀ ch, s.waits ch 2 = none) (hsync : s.sync.cells = []) (hcla : s.cla.cells = []) :
    Answers .stopInRelease s (fun t => t.released s.aon.clock ∧ t.clk.stopHeld = false) := by
  refine ⟨stopRelease s, if_pos hi, ?_⟩
  unfold stopRelease
  extract_lets n u v w x
  have hresume : u = debugRun (stopResume s) := by
    have hd : debugRun (stopResume s) = _ := debugRun_idle hq
    refine clResume_idle ?_ ?_ ?_
    · rw [hd]
      exact hf
    · rw [hd]
      exact hc
    · intro ch
      rw [hd]
      exact stopResume_waits (hw ch)
  have hu : u.released s.aon.clock ∧ u.sync.cells = [] ∧ u.cla.cells = [] := by
    rw [hresume, debugRun_idle (s := stopResume s) hq]
    exact ⟨⟨rfl, rfl, rfl, rfl, rfl⟩, hsync, hcla⟩
  obtain ⟨hu, husync, hucla⟩ := hu
  obtain ⟨hobs1, haon1, hcla1⟩ := syncResume_idle husync
  obtain ⟨hobs2, haon2⟩ := clampResume_idle (s := syncResume u) (by rw [hcla1]; exact hucla)
  have hv : v.released s.aon.clock := by
    refine hu.of_eq (congrArg Aon.unsignalled (Eq.trans ?_ (haon2.trans haon1))) ?_
    · exact view_aon ((pumpLink_view (k := 1) (by decide) _ _).trans (pumpLink_view (k := 1) (by decide) _ _)) (by decide)
    · exact (pumpLink_unscribed _ _).trans ((pumpLink_unscribed _ _).trans (congrArg Obs.unscribed (hobs2.trans hobs1)))
  clear_value v
  have hw : w.released s.aon.clock ∧ w.clk.stopHeld = false := stopClock_released hv
  have hx : x.view 1049601 = w.view 1049601 := by
    show (if _ then _ else w).view _ = _
    split
    · exact startSettling_view (by decide) w
    · rfl
  have hx' : x.released s.aon.clock := hw.1.of_eq (congrArg Aon.unsignalled (view_aon hx (by decide)))
    (congrArg Obs.unscribed (view_obs hx (by decide)))
  have hclk : (scribeResume x).clk = w.clk :=
    (view_clk (scribeResume_view (k := 1024) (by decide) x) (by decide)).trans (view_clk hx (by decide))
  have hend := scribeResume_released hx'
  clear_value x
  exact ⟨hend.of_eq (raise_unsignalled ..) (congrArg Obs.unscribed (raise_obs ..)),
    (congrArg Clk.stopHeld ((raise_clk ..).trans hclk)).trans hw.2⟩

/-- Settles O57: each control, record and dump by what it leaves of the Scribe; a stop by its delivery, its entry and its release. -/
theorem scribeDumpsAndStop : Obligations.ScribeDumpsAndStop := by
  unfold Obligations.ScribeDumpsAndStop
  refine ⟨fun ch val s h hc h1 hcap => scribeArm_arms h hc h1 hcap, fun ch val s h hc => scribeDisarm_disarms h hc,
    fun ch val s h hc h1 => scribeControlTrigger_triggers h hc h1, fun ch val s h hc => scribeClear_clears h hc,
    fun src sub info data s h1 h14 hlo hhi hm hst hq hl hroom hhit => scribeRecord_written h1 h14 hlo hhi hm hst hq hl hroom hhit,
    fun src sub info data s h1 h2 => scribeRecord_idle h1 h2,
    fun s hp h1 h14 hst hl hroom => scribeTimeMark_marks hp h1 h14 hst hl hroom,
    fun ch val s h hc h1 h2 => mapDumpArm_arms h hc h1 h2, fun ch val s h hc => mapDumpDisarm_disarms h hc,
    fun flip s h1 hm h15 hf => mapDumpCopy_copies h1 hm h15 hf, fun s h2 => mapDump_ends h2,
    fun ch val s h h1 h13 h19 => graphStart_begins h h1 h13 h19, fun ch val s h h1 hr => graphStart_refused h h1 hr,
    fun s h1 hst => graphDone_ends h1 hst, fun x eng stp til s hr hi => stopInAssert_stops hr hi,
    fun s hst hs => stopEnter_enters hst hs, fun s hp hi hr => trigReqClear_clears hp hi hr,
    fun s hi hq hf hc hw hsync hcla => answers_mono (stopInRelease_releases hi hq hf hc hw hsync hcla) fun t ⟨h, hheld⟩ =>
      ⟨h.stopIn, h.standing, h.stopped, hheld, h.clock, h.applied⟩⟩

end Sys2Proof.Machine

/-! MCTP control requests and PLDM requests of the management port (O59). -/

namespace Sys2Proof.Machine

open Sys2Proof

/-! The port answers (R532, R538). -/

/-- The state in which the port makes up an answer: the request is counted. -/
def State.asked (s : State) : State := s.add64 0x2600 0x0F 1

theorem putPacket_sends (pkt : Packet) (body : List Byte) (u : State) : (putPacket (u.reply pkt body) u).sends pkt body :=
  ⟨rfl, rfl, rfl, rfl⟩

/-- A request that the port takes has its answer, and what the answer's making leaves of the port's addresses. -/
theorem answer_sends {pkt : Packet} {f : State → List Byte × State} {s : State} (h : s.portTakes pkt) :
    (answer pkt f s).sends pkt (f s.asked).1 ∧ (answer pkt f s).mgt.eid = (f s.asked).2.mgt.eid ∧
      (answer pkt f s).mgt.tid = (f s.asked).2.mgt.tid ∧ (answer pkt f s).mgt.nack = (f s.asked).2.mgt.nack := by
  obtain ⟨hready, hdst, hbusy⟩ := h
  have hanswer : answer pkt f s = putPacket ((f s.asked).2.reply pkt (f s.asked).1) (f s.asked).2 := by
    unfold answer
    rw [if_neg (by simp [hready]; tauto), hbusy, if_neg Bool.false_ne_true]
    rfl
  rw [hanswer]
  exact ⟨putPacket_sends .., rfl, rfl, rfl⟩

/-- A request whose answer is known. -/
theorem answer_sends_eq {pkt : Packet} {f : State → List Byte × State} {s u : State} {body : List Byte} (h : s.portTakes pkt)
    (hf : f s.asked = (body, u)) : (answer pkt f s).sends pkt body ∧ (answer pkt f s).mgt.eid = u.mgt.eid ∧
      (answer pkt f s).mgt.tid = u.mgt.tid := by
  obtain ⟨hsends, heid, htid, -⟩ := answer_sends (f := f) h
  rw [hf] at hsends heid htid
  exact ⟨hsends, heid, htid⟩

/-- A request that finds the port occupied is discarded (R538). -/
theorem answer_busy {pkt : Packet} {f : State → List Byte × State} {s : State} (h : s.isReady 2 = true) (hdst : pkt.dst = 0)
    (hbusy : s.portBusy = true) : answer pkt f s = discardPacket s := by
  unfold answer
  rw [if_neg (by simp [h, hdst]), if_pos hbusy]

theorem State.asked_pn (s : State) {sub : Nat} (h : sub < 256) (hne : 0x0F ≠ sub) : s.asked.pn 0x2600 sub = s.pn 0x2600 sub :=
  congrArg Int.toNat (State.num_add64_sub s (by decide) h hne)

theorem freeBytes_length (base n : Nat) : (freeBytes base n).length = n := by simp [freeBytes]

/-! MCTP control (R537). -/

theorem ctlSetEid_sets {op eid : Nat} {s : State} (pkt : Packet) (hop : op ≤ 1) (hlo : 8 ≤ eid) (hhi : eid ≤ 0xFE) :
    ctlSetEid pkt op eid s = (ctlRsp pkt 1 0 [byte 0, byte eid, byte 0], { s with mgt := { s.mgt with eid := eid } }) :=
  if_pos (by simp [hlo, hhi]; omega)

theorem ctlSetEid_static {eid : Nat} {s : State} (pkt : Packet) (h : s.pn 0x2600 3 ≠ 0) :
    ctlSetEid pkt 2 eid s = (ctlRsp pkt 1 0 [byte 0, byte (s.pn 0x2600 3), byte 0],
      { s with mgt := { s.mgt with eid := s.pn 0x2600 3 } }) := by
  unfold ctlSetEid
  dsimp only
  rw [if_neg (by simp), if_pos (by simp [h])]

theorem ctlSetEid_refused {op eid : Nat} {s : State} (pkt : Packet) (hop : op ≤ 1) (h : eid < 8 ∨ 0xFE < eid) :
    ctlSetEid pkt op eid s = (ctlRsp pkt 1 2 [], s) :=
  (if_neg (by simp; omega)).trans (if_neg (by simp; omega))

/-- A byte's value is its number. -/
theorem leAt_byte (l : List Byte) (k : Nat) (b : Byte) (h : l[k]? = some b) : leAt l k 1 = b.toNat := by
  have hk : k < l.length := (List.getElem?_eq_some_iff.mp h).1
  rw [leAt, List.drop_eq_getElem_cons hk, (List.getElem?_eq_some_iff.mp h).2]
  exact Nat.add_zero _

theorem byte_toNat {n : Nat} (h : n < 256) : (byte n).toNat = n := by
  rw [byte, BitVec.toNat_ofNat, Nat.mod_eq_of_lt h]

/-- The UUID has version 8 and the standard's variant (R537). -/
theorem State.uuid_marks (s : State) : s.uuid.length = 16 ∧ leAt s.uuid 6 1 / 16 = 8 ∧ leAt s.uuid 8 1 / 64 = 2 := by
  refine ⟨by simp [State.uuid], ?_, ?_⟩
  · rw [leAt_byte s.uuid 6 (byte (0x80 + _ % 16)) rfl, byte_toNat (by omega)]
    omega
  · rw [leAt_byte s.uuid 8 (byte (0x80 + _ % 64)) rfl, byte_toNat (by omega)]
    omega

/-! PLDM (R544 to R546). -/

theorem State.asked_sensorLevel (s : State) (id n : Nat) : s.asked.sensorLevel id n = s.sensorLevel id n := by
  have hkey : okey 0x2600 0x0F ≠ okey (0x5200 + s.sensorGroup id) n := by
    unfold okey
    omega
  exact congrArg (10 * ·) (State.num_put_ne s _ hkey)

theorem State.asked_sensorPresent (s : State) (id : Nat) : s.asked.sensorPresent id = s.sensorPresent id := by
  unfold State.sensorPresent
  rw [s.asked_sensorLevel, s.asked_sensorLevel, s.asked_sensorLevel]
  rfl

theorem State.asked_pdr (s : State) (id : Nat) : s.asked.pdr id = s.pdr id := by
  unfold State.pdr
  simp only [s.asked_sensorLevel]

theorem le_foldl_max (l : List Nat) (a : Nat) : a ≤ l.foldl max a ∧ ∀ x ∈ l, x ≤ l.foldl max a := by
  induction l generalizing a with
  | nil => simp
  | cons b l ih =>
    obtain ⟨ha, hl⟩ := ih (max a b)
    refine ⟨(Nat.le_max_left a b).trans ha, fun x hx => ?_⟩
    rcases List.mem_cons.mp hx with rfl | hx
    · exact (Nat.le_max_right a _).trans ha
    · exact hl x hx

section
variable {pkt : Packet} {s : State} (h : s.portTakes pkt)
include h

theorem getEndpointId_answered : Answers (.getEndpointId pkt) s (fun t =>
    t.mgt.eid = s.mgt.eid ∧ t.sends pkt (ctlRsp pkt 2 0 [byte s.mgt.eid,
      byte (if s.pn 0x2600 3 = 0 then 0 else if s.pn 0x2600 3 = s.mgt.eid then 2 else 3), byte 0])) := by
  obtain ⟨hsends, heid, -⟩ := answer_sends_eq (f := ctlGetEid pkt) h rfl
  rw [s.asked_pn (by decide) (by decide)] at hsends
  exact ⟨_, rfl, heid, hsends⟩

theorem getMctpVersionSupport_answered (type : Nat) : Answers (.getMctpVersionSupport pkt type) s (fun t =>
    if type = 0xFF ∨ type = 0 then t.sends pkt (ctlRsp pkt 4 0 [byte 1, byte 0xF1, byte 0xF3, byte 0xF0, byte 0])
    else if type = 1 ∨ type = 0x7F then ∃ v, v.length = 4 ∧ t.sends pkt (ctlRsp pkt 4 0 (byte 1 :: v))
    else t.sends pkt (ctlRsp pkt 4 0x80 [])) := by
  refine ⟨_, rfl, ?_⟩
  split
  · exact (answer_sends_eq h (if_pos (by simp; omega))).1
  · split
    · exact ⟨_, freeBytes_length _ _, (answer_sends_eq h ((if_neg (by simp; omega)).trans (if_pos (by simp; omega)))).1⟩
    · exact (answer_sends_eq h ((if_neg (by simp; omega)).trans (if_neg (by simp; omega)))).1

theorem getVendorMessageSupport_answered (sel : Nat) : Answers (.getVendorMessageSupport pkt sel) s (fun t =>
    if sel = 0 then ∃ v, v.length = 2 ∧ t.sends pkt (ctlRsp pkt 6 0 ([byte 0xFF, byte 1] ++ beBytes 4 (s.pn 0x2600 5) ++ v))
    else t.sends pkt (ctlRsp pkt 6 2 [])) := by
  refine ⟨_, rfl, ?_⟩
  split
  · rename_i h0
    have hsends := (answer_sends_eq (f := ctlGetVendor pkt sel) h (if_pos h0)).1
    rw [s.asked_pn (by decide) (by decide)] at hsends
    exact ⟨_, freeBytes_length 0x7F 2, hsends⟩
  · rename_i h0
    exact (answer_sends_eq h (if_neg h0)).1

theorem settid_answered (tid : Nat) : Answers (.settid pkt tid) s (fun t =>
    if tid = 0 ∨ tid = 0xFF then t.mgt.tid = s.mgt.tid ∧ t.sends pkt (pldmRsp pkt 0 1 2 [])
    else t.mgt.tid = tid ∧ t.sends pkt (pldmRsp pkt 0 1 0 [])) := by
  refine ⟨_, rfl, ?_⟩
  split
  · obtain ⟨hsends, -, htid⟩ := answer_sends_eq (f := pldmSetTid pkt tid) h (if_pos (by simp; omega))
    exact ⟨htid, hsends⟩
  · obtain ⟨hsends, -, htid⟩ := answer_sends_eq (f := pldmSetTid pkt tid) h (if_neg (by simp; omega))
    exact ⟨htid, hsends⟩

theorem getpldmversion_answered (type : Nat) : Answers (.getpldmversion pkt type) s (fun t =>
    if type = 0 ∨ type = 2 then ∃ v, v.length = 4 ∧
      t.sends pkt (pldmRsp pkt 0 3 0 (leBytes 4 0 ++ [byte 5] ++ v ++ leBytes 4 (crc32 v)))
    else t.sends pkt (pldmRsp pkt 0 3 0x83 [])) := by
  refine ⟨_, rfl, ?_⟩
  split
  · exact ⟨_, freeBytes_length _ _, (answer_sends_eq h (if_pos (by simp; omega))).1⟩
  · exact (answer_sends_eq h (if_neg (by simp; omega))).1

theorem getpldmcommands_answered (type : Nat) : Answers (.getpldmcommands pkt type) s (fun t =>
    if type = 0 then t.sends pkt (pldmRsp pkt 0 5 0 (leBytes 32 0x3E))
    else if type = 2 then t.sends pkt (pldmRsp pkt 0 5 0 (leBytes 32 (2 ^ 0x11 + 2 ^ 0x50 + 2 ^ 0x51)))
    else t.sends pkt (pldmRsp pkt 0 5 0x83 [])) := by
  refine ⟨_, rfl, ?_⟩
  split
  · rename_i h0
    exact (answer_sends_eq h (if_pos h0)).1
  · rename_i h0
    split
    · rename_i h2
      exact (answer_sends_eq h ((if_neg h0).trans (if_pos h2))).1
    · rename_i h2
      exact (answer_sends_eq h ((if_neg h0).trans (if_neg h2))).1

theorem getsensorreading_answered (id : Nat) : Answers (.getsensorreading pkt id) s (fun t =>
    if id = 0 ∨ 32 < id then t.sends pkt (pldmRsp pkt 2 0x11 0x80 [])
    else ∃ prev, t.sends pkt (pldmRsp pkt 2 0x11 0 ([byte (if id ≤ 18 then 3 else 2), byte (s.sensorState id), byte 0,
      byte (s.sensorPresent id), prev, byte (s.sensorPresent id)] ++ leBytes 2 (s.sensorWord id)))) := by
  refine ⟨_, rfl, ?_⟩
  split
  · exact (answer_sends_eq h (if_pos (by simp; omega))).1
  · obtain ⟨hsends, -⟩ := answer_sends_eq (f := pldmReading pkt id) h (if_neg (by simp; omega))
    rw [s.asked_sensorPresent] at hsends
    exact ⟨_, hsends⟩

theorem getpdrrepositoryinfo_answered : Answers (.getpdrrepositoryinfo pkt) s (fun t =>
    ∃ v n m, v.length = 26 ∧ t.sends pkt (pldmRsp pkt 2 0x50 0 (byte 0 :: v ++ leBytes 4 32 ++ leBytes 4 n ++ leBytes 4 m ++ [byte 0])) ∧
      ∀ id, 1 ≤ id → id ≤ 32 → (s.pdr id).length ≤ m) := by
  refine ⟨_, rfl, freeBytes 0x2000 26, _, _, freeBytes_length _ _, (answer_sends_eq (f := pldmRepository pkt) h rfl).1,
    fun id hlo hhi => ?_⟩
  rw [← s.asked_pdr id]
  refine (le_foldl_max _ 0).2 _ (List.mem_map.mpr ⟨id - 1, List.mem_range.mpr (by omega), ?_⟩)
  rw [Nat.sub_add_cancel hlo]

theorem getpdr_answered {rec id : Nat} (hid : id = (if rec = 0 then 1 else rec)) : Answers (.getpdr pkt rec) s (fun t =>
    if 32 < id then t.sends pkt (pldmRsp pkt 2 0x51 0x82 [])
    else t.sends pkt (pldmRsp pkt 2 0x51 0 (leBytes 4 (if id = 32 then 0 else id + 1) ++ leBytes 4 0 ++ [byte 5] ++
      leBytes 2 (s.pdr id).length ++ s.pdr id))) := by
  have hpdr : pldmPdr pkt rec s.asked = if 32 < id then (pldmRsp pkt 2 0x51 0x82 [], s.asked) else
      (pldmRsp pkt 2 0x51 0 (leBytes 4 (if id = 32 then 0 else id + 1) ++ leBytes 4 0 ++ [byte 5] ++
        leBytes 2 (s.asked.pdr id).length ++ s.asked.pdr id), s.asked) := by
    subst hid
    rfl
  rw [s.asked_pdr] at hpdr
  refine ⟨_, rfl, ?_⟩
  by_cases h32 : 32 < id
  · rw [if_pos h32] at hpdr ⊢
    exact (answer_sends_eq h hpdr).1
  · rw [if_neg h32] at hpdr ⊢
    exact (answer_sends_eq h hpdr).1

end

/-- Settles O59: a request that the port takes by the answer that its command makes up, one that finds it occupied by the discard. -/
theorem mctpAndPldmRequests : Obligations.MctpAndPldmRequests := by
  unfold Obligations.MctpAndPldmRequests
  refine ⟨fun pkt op eid s h hop hlo hhi => ?set, fun pkt eid s h h3 => ?static, fun pkt op eid s h hop hout => ?refused,
    fun pkt s h => getEndpointId_answered h, fun pkt s h => ?uuid, fun pkt type s h => getMctpVersionSupport_answered h type,
    fun pkt s h => ⟨_, rfl, (answer_sends_eq h rfl).1⟩, fun pkt sel s h => getVendorMessageSupport_answered h sel,
    fun pkt s hr hdst hbusy => ?busy, fun pkt tid s h => settid_answered h tid, fun pkt s h => ⟨_, rfl, (answer_sends_eq h rfl).1⟩,
    fun pkt type s h => getpldmversion_answered h type, fun pkt s h => ⟨_, rfl, (answer_sends_eq h rfl).1⟩,
    fun pkt type s h => getpldmcommands_answered h type, fun pkt id s h => getsensorreading_answered h id,
    fun pkt s h => getpdrrepositoryinfo_answered h, fun pkt rec id s h hid => getpdr_answered h hid⟩
  case set =>
    obtain ⟨hsends, heid, -⟩ := answer_sends_eq h (ctlSetEid_sets pkt hop hlo hhi)
    exact ⟨_, rfl, heid, hsends⟩
  case static =>
    have hpn : s.asked.pn 0x2600 3 = s.pn 0x2600 3 := s.asked_pn (by decide) (by decide)
    obtain ⟨hsends, heid, -⟩ := answer_sends_eq h (ctlSetEid_static (eid := eid) pkt (by rw [hpn]; exact h3))
    rw [hpn] at hsends heid
    exact ⟨_, rfl, heid, hsends⟩
  case refused =>
    obtain ⟨hsends, heid, -⟩ := answer_sends_eq h (ctlSetEid_refused pkt hop hout)
    exact ⟨_, rfl, heid, hsends⟩
  case uuid =>
    obtain ⟨hlen, hversion, hvariant⟩ := s.uuid_marks
    exact ⟨_, rfl, s.uuid, hlen, hversion, hvariant, (answer_sends_eq (f := ctlGetUuid pkt) h rfl).1⟩
  case busy =>
    refine ⟨_, rfl, ?_⟩
    rw [answer_busy hr hdst hbusy]
    exact ⟨rfl, rfl, putBit_bit _ 0 true⟩

end Sys2Proof.Machine

/-! The SMBus and I3C sides of the management port, and its alerts (O58). -/

namespace Sys2Proof.Machine

open Sys2Proof

/-! Packets from the controller (R536). -/

/-- The bytes of a packet's addressing do not depend on what the port drives. -/
theorem State.takesPacket_portTakes {b body : List Byte} {pkt : Packet} {s : State} (hready : s.isReady 2 = true)
    (hp : packetOf b = (pkt, body)) (ht : s.takesPacket b = true) (hbusy : s.portBusy = false) : s.portTakes pkt := by
  refine ⟨hready, ?_, hbusy⟩
  have hdst : pkt.dst = leAt b 1 1 := (congrArg (fun x : Packet × List Byte => x.1.dst) hp).symm
  unfold State.takesPacket at ht
  rw [hdst]
  simp only [Bool.and_eq_true, Bool.or_eq_true, decide_eq_true_eq, bne_iff_ne] at ht
  exact ht.2

/-- A control request of message type 5 is answered with the message types (R537). -/
theorem packetIn_types {b body : List Byte} {pkt : Packet} {s : State} (hready : s.isReady 2 = true)
    (hp : packetOf b = (pkt, body)) (ht : s.takesPacket b = true) (hbusy : s.portBusy = false) (htype : leAt body 0 1 = 0)
    (hrequest : bit (leAt body 1 1) 7 = true) (hcmd : leAt body 2 1 = 5) :
    (packetIn b s).sends pkt (ctlRsp pkt 5 0 [byte 2, byte 1, byte 0x7F]) ∧ (packetIn b s).mgt.nack = s.mgt.nack := by
  have hmsg : ctlMessage pkt body s.asked = ctlGetTypes pkt s.asked := by
    unfold ctlMessage
    dsimp only
    rw [hcmd]
    rfl
  have hin : packetIn b s = answer pkt (ctlMessage pkt body) s := by
    unfold packetIn
    rw [ht, hbusy, hp]
    dsimp only
    rw [htype, hrequest]
    rfl
  obtain ⟨hsends, -, -, hnack⟩ := answer_sends (f := ctlMessage pkt body) (State.takesPacket_portTakes hready hp ht hbusy)
  rw [hmsg] at hsends hnack
  rw [hin]
  exact ⟨hsends, hnack⟩

/-! SMBus (R532, R533, R547). -/

section
variable {s : State} (hready : s.isReady 2 = true) (hmode : s.mgt.i3c = false)
include hready hmode

theorem smbusBlockWrite_answered {data body : List Byte} {pkt : Packet} (hcount : leAt data 0 1 + 1 = data.length)
    (hp : packetOf (data.drop 2) = (pkt, body)) (ht : s.takesPacket (data.drop 2) = true) (hbusy : s.portBusy = false)
    (htype : leAt body 0 1 = 0) (hrequest : bit (leAt body 1 1) 7 = true) (hcmd : leAt body 2 1 = 5) :
    Answers (.smbusBlockWrite data true) s (fun t =>
      t.sends pkt (ctlRsp pkt 5 0 [byte 2, byte 1, byte 0x7F]) ∧ t.mgt.nack = false) := by
  refine ⟨packetIn (data.drop 2) (drive [] s), ?_, packetIn_types (s := drive [] s) hready hp ht hbusy htype hrequest hcmd⟩
  show execSmbusBlockWrite data true s = _
  unfold execSmbusBlockWrite
  rw [if_neg (by simp [hready, hmode]), if_neg (by decide), if_neg (by simp [hcount])]

theorem smbusBlockWrite_badPec (data : List Byte) : Answers (.smbusBlockWrite data false) s (fun t =>
    t.mgt.nack = true ∧ t.mgt.rsp = s.mgt.rsp ∧ bit t.mgt.flags 1 = true) :=
  ⟨refuseBus (setMgtFlag 1 s), (if_neg (by simp [hready, hmode])).trans (if_pos rfl), rfl, rfl, putBit_bit _ 1 true⟩

theorem exec_smbusBlockRead : exec .smbusBlockRead s = .next (match s.mgt.rsp with
    | some b => dropPacket (drive (s.blockBytes b) s)
    | none => drive [byte 0] s) := by
  refine (if_neg (by simp [hready, hmode])).trans ?_
  cases s.mgt.rsp <;> rfl

theorem smbusBlockRead_fetches {b : List Byte} (h : s.mgt.rsp = some b) : Answers .smbusBlockRead s (fun t =>
    t.mgt.busOut = s.blockBytes b ∧ t.mgt.nack = false ∧ t.mgt.rsp = none ∧ t.mgt.rspAlert = false) := by
  have hexec := exec_smbusBlockRead hready hmode
  rw [h] at hexec
  exact ⟨_, hexec, rfl, rfl, rfl, rfl⟩

theorem smbusBlockRead_empty (h : s.mgt.rsp = none) : Answers .smbusBlockRead s (fun t => s.drives t [byte 0]) := by
  have hexec := exec_smbusBlockRead hready hmode
  rw [h] at hexec
  exact ⟨_, hexec, rfl⟩

theorem smbusAraRead_answers (h : s.mgt.alertN = false) : Answers .smbusAraRead s (fun t =>
    t.mgt.busOut = [byte (2 * s.aon.strapSmb)] ∧ t.mgt.nack = false ∧ t.mgt.alertRec = false ∧ t.mgt.rspAlert = false ∧
    t.mgt.alertN = true ∧ t.mgt.rsp = s.mgt.rsp) := by
  refine ⟨araRead s, rfl, ?_⟩
  unfold araRead
  rw [if_neg (by simp [hready, hmode]), if_neg (by simp [h])]
  exact ⟨rfl, rfl, rfl, rfl, Bool.or_true _, rfl⟩

theorem smbusTimeout_flags : Answers .smbusTimeout s (fun t => bit t.mgt.flags 2 = true ∧ t.mgt.rsp = s.mgt.rsp) :=
  ⟨setMgtFlag 2 s, if_pos (by simp [hready, hmode]), putBit_bit _ 2 true, rfl⟩

/-- An address assignment enters I3C mode at that address (R534). -/
theorem assignAddr_enters (a : Nat) (out : List Byte) : assignAddr a out s = enterI3c a (drive out s) :=
  if_pos (by simp [hready, hmode])

end

/-- A packet dropped at a moment, and counted (R532). -/
theorem dropPacket_counted {d : Nat} {s t : State} (hp : s.aon.porN = true) (ht : t = dropPacket ((advanceTo d s).bump32 0x2600 9)) :
    t.mgt.rsp = none ∧ t.mgt.rspAlert = false ∧ t.aon.clock = max s.aon.clock d ∧
      t.num 0x2600 9 = min 0xFFFFFFFF (s.num 0x2600 9 + 1) := by
  subst ht
  refine ⟨rfl, rfl, advanceTo_clock d hp, (State.num_bump32_same ..).trans ?_⟩
  rw [advanceTo_num d s (by decide) (by decide)]

theorem packetFetchTimeout_drops {b : List Byte} {s : State} (hp : s.aon.porN = true) (h : s.mgt.rsp = some b) :
    Answers .packetFetchTimeout s (fun t =>
      t.mgt.rsp = none ∧ t.mgt.rspAlert = false ∧ t.aon.clock = max s.aon.clock (s.mgt.rspAt + ms 100) ∧
      t.num 0x2600 9 = min 0xFFFFFFFF (s.num 0x2600 9 + 1)) :=
  ⟨_, if_pos (by simp [h]), dropPacket_counted hp rfl⟩

theorem ibiRetry_raises {u : Nat} {s : State} (hp : s.aon.porN = true) (h : s.mgt.retryAt = some u) :
    Answers .ibiRetry s (fun t =>
      t.mgt.retryAt = none ∧ t.aon.clock = max s.aon.clock u ∧ t.mgt.alertRec = s.mgt.alertRec ∧
      t.mgt.rspAlert = (s.mgt.rspAlert || (!s.mgt.i3c && s.mgt.rsp.isSome))) := by
  have hmgt := advanceTo_mgt u s
  refine ⟨ibiRetry s, rfl, ?_⟩
  unfold ibiRetry
  rw [h]
  dsimp only
  refine ⟨rfl, advanceTo_clock u hp, ?_, ?_⟩
  · exact (congrArg Mgt.alertRec hmgt :)
  · exact (congrArg (fun x : Mgt => x.rspAlert || (!x.i3c && x.rsp.isSome)) hmgt :)

/-! I3C (R532, R534, R535, R547). -/

theorem State.sameBut_with_mgt_free (s : State) (m : Mgt) (n : Nat) : s.sameBut { s with mgt := m, free := n } [.mgt, .free] := by
  intro p hp
  cases p with
  | mgt | free => exact absurd (by decide) hp
  | _ => rfl

section
variable {s : State} (h : s.i3cOn)
include h

/-- A CCC drives its bytes, and nothing else of the block changes. -/
theorem cccAnswer_drives (b : List Byte) : s.drives (cccAnswer b s) b := if_pos (by simp [h.1, h.2])

theorem setLength_drives {n : Nat} (hn : 72 ≤ n) : s.drives (setLength n s) [] :=
  (if_pos (by simp [h.1, h.2])).trans (if_neg (by omega))

theorem setLength_refuses {n : Nat} (hn : n < 72) : setLength n s = refuseBus s :=
  (if_pos (by simp [h.1, h.2])).trans (if_pos hn)

theorem getstatus_drives : Answers .getstatus s (fun t =>
    t.mgt.busOut.length = 2 ∧ t.mgt.nack = false ∧ s.sameBut t [.mgt, .free]) :=
  ⟨drive (freeBytes s.free 2) s.takeFree, if_pos (by simp [h.1, h.2]), freeBytes_length _ _, rfl, s.sameBut_with_mgt_free _ _⟩

theorem exec_i3cPrivateRead : exec .i3cPrivateRead s = .next (match s.mgt.rsp with
    | some b => dropPacket (drive b s)
    | none => refuseBus s) := by
  refine (if_neg (by simp [h.1, h.2])).trans ?_
  cases s.mgt.rsp <;> rfl

theorem i3cPrivateRead_fetches {b : List Byte} (hb : s.mgt.rsp = some b) : Answers .i3cPrivateRead s (fun t =>
    t.mgt.busOut = b ∧ t.mgt.nack = false ∧ t.mgt.rsp = none) := by
  have hexec := exec_i3cPrivateRead h
  rw [hb] at hexec
  exact ⟨_, hexec, rfl, rfl, rfl⟩

theorem i3cPrivateRead_empty (hb : s.mgt.rsp = none) : Answers .i3cPrivateRead s (fun t =>
    t.mgt.nack = true ∧ t.mgt.busOut = []) := by
  have hexec := exec_i3cPrivateRead h
  rw [hb] at hexec
  exact ⟨_, hexec, rfl, rfl⟩

theorem i3cPrivateWrite_answered {data body : List Byte} {pkt : Packet} (hp : packetOf data = (pkt, body))
    (ht : s.takesPacket data = true) (hbusy : s.portBusy = false) (htype : leAt body 0 1 = 0)
    (hrequest : bit (leAt body 1 1) 7 = true) (hcmd : leAt body 2 1 = 5) : Answers (.i3cPrivateWrite data) s (fun t =>
      t.sends pkt (ctlRsp pkt 5 0 [byte 2, byte 1, byte 0x7F])) :=
  ⟨packetIn data (drive [] s), if_pos (by simp [h.1, h.2]),
    (packetIn_types (s := drive [] s) h.1 hp ht hbusy htype hrequest hcmd).1⟩

section
variable (hon : s.mgt.ibiOn = true) (hretry : s.mgt.retryAt = none)
include hon hretry

/-- An in-band interrupt with an alert pending: the controller refuses it until the retry, or takes the waiting packet's byte, or else
the record alert's three (R547). -/
theorem ibi_pending (acked : Bool) (hpend : (s.mgt.rspAlert || s.mgt.alertRec) = true) : ibi acked s =
    if !acked then { s with mgt := { s.mgt with busOut := s.ibiBytes, nack := true, retryAt := some (s.aon.clock + ms 1) } }
    else if s.mgt.rspAlert then drive s.ibiBytes { s with mgt := { s.mgt with rspAlert := false } }
    else drive s.ibiBytes { s with mgt := { s.mgt with alertRec := false, alertSev := 0, alertCnt := 0 } } :=
  if_neg (by simp [h.1, h.2, hon, hretry, Bool.or_comm s.mgt.alertRec, hpend])

theorem inBandInterrupt_packet (hrsp : s.mgt.rspAlert = true) : Answers (.inBandInterrupt true) s (fun t =>
    t.mgt.busOut = [byte 0xAE] ∧ t.mgt.nack = false ∧ t.mgt.rspAlert = false ∧ t.mgt.alertRec = s.mgt.alertRec) := by
  refine ⟨ibi true s, rfl, ?_⟩
  rw [ibi_pending h hon hretry true (by simp [hrsp]), if_neg (by decide), if_pos hrsp, State.ibiBytes, if_pos hrsp]
  exact ⟨rfl, rfl, rfl, rfl⟩

theorem inBandInterrupt_record (hrsp : s.mgt.rspAlert = false) (hrec : s.mgt.alertRec = true) :
    Answers (.inBandInterrupt true) s (fun t =>
      t.mgt.busOut = [byte 1, byte s.mgt.alertSev, byte s.mgt.alertCnt] ∧ t.mgt.alertRec = false ∧ t.mgt.alertCnt = 0) := by
  refine ⟨ibi true s, rfl, ?_⟩
  rw [ibi_pending h hon hretry true (by simp [hrec]), if_neg (by decide), if_neg (by simp [hrsp]), State.ibiBytes,
    if_neg (by simp [hrsp])]
  exact ⟨rfl, rfl, rfl⟩

theorem inBandInterrupt_refused (hpend : (s.mgt.rspAlert || s.mgt.alertRec) = true) : Answers (.inBandInterrupt false) s (fun t =>
    t.mgt.nack = true ∧ t.mgt.retryAt = some (s.aon.clock + ms 1) ∧ t.mgt.rspAlert = s.mgt.rspAlert ∧
      t.mgt.alertRec = s.mgt.alertRec) := by
  refine ⟨ibi false s, rfl, ?_⟩
  rw [ibi_pending h hon hretry false hpend, if_pos (by decide)]
  exact ⟨rfl, rfl, rfl, rfl⟩

end

end

/-- Settles O58: each transaction in the mode that takes it, by what it drives and what it leaves of the port. -/
theorem managementBuses : Obligations.ManagementBuses := by
  unfold Obligations.ManagementBuses
  refine ⟨fun data body pkt s hr hm hcount hp ht hb h0 h7 h5 => smbusBlockWrite_answered hr hm hcount hp ht hb h0 h7 h5,
    fun data s hr hm => smbusBlockWrite_badPec hr hm data, fun b s hr hm h => smbusBlockRead_fetches hr hm h,
    fun s hr hm h => smbusBlockRead_empty hr hm h, fun s hr hm h => smbusAraRead_answers hr hm h,
    fun s hr hm => smbusTimeout_flags hr hm, fun b s hp h => packetFetchTimeout_drops hp h, fun u s hp h => ibiRetry_raises hp h,
    fun a s hr hm => ⟨_, congrArg Host.Outcome.next (assignAddr_enters hr hm a _), rfl, rfl, rfl, rfl⟩,
    fun a s hr hm => ⟨_, congrArg Host.Outcome.next (assignAddr_enters hr hm a _), rfl, rfl, rfl⟩,
    fun s hr hm => ⟨_, congrArg Host.Outcome.next (assignAddr_enters hr hm _ _), rfl, rfl, rfl⟩,
    fun s h => ⟨_, if_pos (by simp [h.1, h.2]), rfl, rfl, rfl⟩,
    fun s h => ⟨⟨_, if_pos (by simp [h.1, h.2]), rfl, rfl⟩, ⟨_, if_pos (by simp [h.1, h.2]), rfl, rfl⟩⟩,
    fun s h => ⟨⟨_, rfl, cccAnswer_drives h _⟩, ⟨_, rfl, cccAnswer_drives h _⟩, ⟨_, rfl, cccAnswer_drives h _⟩,
      ⟨_, rfl, cccAnswer_drives h _⟩, ⟨_, rfl, cccAnswer_drives h _⟩, ⟨_, rfl, cccAnswer_drives h _⟩, getstatus_drives h⟩,
    fun n s h hn => ⟨⟨_, rfl, setLength_drives h hn⟩, ⟨_, rfl, setLength_drives h hn⟩⟩,
    fun n s h hn => ⟨⟨_, congrArg Host.Outcome.next (setLength_refuses h hn), rfl, rfl⟩,
      ⟨_, congrArg Host.Outcome.next (setLength_refuses h hn), rfl, rfl⟩⟩,
    fun b s h hb => i3cPrivateRead_fetches h hb, fun s h hb => i3cPrivateRead_empty h hb,
    fun data body pkt s h hp ht hb h0 h7 h5 => i3cPrivateWrite_answered h hp ht hb h0 h7 h5,
    fun s h hon hretry hrsp => inBandInterrupt_packet h hon hretry hrsp,
    fun s h hon hretry hrsp hrec => inBandInterrupt_record h hon hretry hrsp hrec,
    fun s h hon hretry hpend => inBandInterrupt_refused h hon hretry hpend⟩

end Sys2Proof.Machine

/-! The PMBus host and its regulators (O60). -/

namespace Sys2Proof.Machine

open Sys2Proof

/-! Regulators (R548 to R551). -/

theorem State.pmb_updPmb_same {s : State} {d : Nat} (f : Pmb → Pmb) (h : d < s.mgt.pmb.length) : (s.updPmb d f).pmb d = f (s.pmb d) := by
  simp [State.pmb, State.updPmb, List.getElem?_modify_eq, List.getElem?_eq_getElem h]

theorem State.pmb_updPmb_ne (s : State) {d k : Nat} (f : Pmb → Pmb) (h : k ≠ d) : (s.updPmb d f).pmb k = s.pmb k := by
  simp [State.pmb, State.updPmb, Ne.symm h]

theorem State.updPmb_length (s : State) (d : Nat) (f : Pmb → Pmb) : (s.updPmb d f).mgt.pmb.length = s.mgt.pmb.length := by
  simp [State.updPmb]

theorem State.pmb_of_mgt {s t : State} (h : t.mgt.pmb = s.mgt.pmb) (d : Nat) : t.pmb d = s.pmb d := by
  rw [State.pmb, State.pmb, h]

/-- Commands as the host sends them to a device: each after PAGE where the device has a page (R550). -/
def paged (d page : Nat) (cmd : Nat × Nat) : List (Nat × Nat × Nat) :=
  if page = 0xFF then [(d, cmd.1, cmd.2)] else [(d, 0, page), (d, cmd.1, cmd.2)]

theorem pmbSend_mgt (d : Nat) (cmds : List (Nat × Nat)) (acked : Bool) (s : State) : (pmbSend d cmds acked s).mgt =
    { s.mgt with pmbOut := cmds.flatMap (paged d (s.pn (0x2620 + d) 2)) } := by
  unfold pmbSend
  dsimp only
  split <;> rfl

theorem takeStatus_self {d status : Nat} {s : State} (h : d < s.mgt.pmb.length) :
    (takeStatus d status s).pmb d = { s.pmb d with status := status % 65536 } :=
  State.pmb_updPmb_same _ h

theorem takeStatus_ne (d status : Nat) (s : State) {k : Nat} (h : k ≠ d) : (takeStatus d status s).pmb k = s.pmb k :=
  State.pmb_updPmb_ne _ _ h

/-! A poll (R550, R551). -/

/-- What a poll makes of a device's entry. -/
def Pmb.polled (a : PmbAns) (p : Pmb) : Pmb :=
  if a.ok then Pmb.measure a { p with status := a.status % 65536 } else { p with fails := min 3 (p.fails + 1) }

theorem Pmb.measure_status (a : PmbAns) (p : Pmb) : (Pmb.measure a p).status = p.status ∧ (Pmb.measure a p).fails = 0 := by
  unfold Pmb.measure
  split <;> exact ⟨rfl, rfl⟩

/-- A silent device's third poll in a row sets a flag of the port beside its count. -/
theorem pollOne_silent {d : Nat} {a : PmbAns} (s : State) (h : a.ok = false) : ∃ u : State,
    (pollOne d a s).mgt.pmb = (u.updPmb d (fun p => { p with fails := min 3 ((s.pmb d).fails + 1) })).mgt.pmb ∧
      u.mgt.pmb = s.mgt.pmb := by
  have hmgt := pmbSend_mgt d [(0x79, 0), (0x88, 0), (0x8B, 0), (0x8C, 0), (0x8D, 0)] a.ok s
  have hpmb : (pmbSend d [(0x79, 0), (0x88, 0), (0x8B, 0), (0x8C, 0), (0x8D, 0)] a.ok s).mgt.pmb = s.mgt.pmb := by rw [hmgt]
  refine ⟨_, ?_, hpmb⟩
  rw [← State.pmb_of_mgt hpmb d]
  unfold pollOne
  rw [if_neg (by simp [h])]
  dsimp only
  split <;> rfl

theorem pollOne_self {d : Nat} (a : PmbAns) {s : State} (hd : d < s.mgt.pmb.length) : (pollOne d a s).pmb d = (s.pmb d).polled a := by
  cases h : a.ok with
  | false =>
    obtain ⟨u, hout, hu⟩ := pollOne_silent (d := d) s h
    rw [State.pmb_of_mgt hout, State.pmb_updPmb_same _ (by rw [hu]; exact hd), State.pmb_of_mgt hu, Pmb.polled, h]
    rfl
  | true =>
    have hmgt := pmbSend_mgt d [(0x79, 0), (0x88, 0), (0x8B, 0), (0x8C, 0), (0x8D, 0)] a.ok s
    have hd' : d < (pmbSend d [(0x79, 0), (0x88, 0), (0x8B, 0), (0x8C, 0), (0x8D, 0)] a.ok s).mgt.pmb.length := by
      rw [hmgt]
      exact hd
    unfold pollOne
    dsimp only
    rw [if_pos h, State.pmb_updPmb_same _ ((State.updPmb_length _ _ _).symm ▸ hd'), takeStatus_self hd', Pmb.polled, if_pos h,
      State.pmb_of_mgt (s := s) (by rw [hmgt])]

theorem pollOne_ne (d : Nat) (a : PmbAns) (s : State) {k : Nat} (hk : k ≠ d) : (pollOne d a s).pmb k = s.pmb k := by
  cases h : a.ok with
  | false =>
    obtain ⟨u, hout, hu⟩ := pollOne_silent (d := d) s h
    rw [State.pmb_of_mgt hout, State.pmb_updPmb_ne _ _ hk, State.pmb_of_mgt hu]
  | true =>
    unfold pollOne
    dsimp only
    rw [if_pos h, State.pmb_updPmb_ne _ _ hk, takeStatus_ne _ _ _ hk]
    exact State.pmb_of_mgt (by rw [pmbSend_mgt]) k

/-- What a poll of a device leaves of the rest of the port: the number of devices, the moment, and the poll's moment. -/
theorem pollOne_keeps (d : Nat) (a : PmbAns) (s : State) : (pollOne d a s).mgt.pmb.length = s.mgt.pmb.length ∧
    (pollOne d a s).aon = s.aon ∧ (pollOne d a s).mgt.pollAt = s.mgt.pollAt := by
  have hmgt := pmbSend_mgt d [(0x79, 0), (0x88, 0), (0x8B, 0), (0x8C, 0), (0x8D, 0)] a.ok s
  have haon : (pmbSend d [(0x79, 0), (0x88, 0), (0x8B, 0), (0x8C, 0), (0x8D, 0)] a.ok s).aon = s.aon :=
    view_aon (pmbSend_view (k := 1) (by decide) ..) (by decide)
  have hlen := congrArg (fun m : Mgt => m.pmb.length) hmgt
  have hat := congrArg Mgt.pollAt hmgt
  unfold pollOne
  dsimp only
  split
  · exact ⟨(State.updPmb_length _ _ _).trans ((State.updPmb_length _ _ _).trans hlen), haon, hat⟩
  · split
    · exact ⟨(State.updPmb_length _ _ _).trans hlen, haon, hat⟩
    · exact ⟨(State.updPmb_length _ _ _).trans hlen, haon, hat⟩

theorem clRegulators_idle {acked : Bool} {s : State} (h : ∀ ch, s.waits ch 5 = none) : clRegulators acked s = s :=
  List.foldlRecOn (motive := fun t => t = s) _ _ rfl fun t ht ch _ => by
    subst ht
    exact if_neg (by simp [h ch])

/-- The state in which a poll begins. -/
def State.polling (s : State) : State :=
  match s.mgt.pollAt with
  | some t => advanceTo (t + ms (s.pn 0x2610 2)) s
  | none => s

theorem State.polling_pmb (s : State) : s.polling.mgt.pmb = s.mgt.pmb := by
  unfold State.polling
  split
  · rw [advanceTo_mgt]
  · rfl

theorem State.polling_pn (s : State) (d : Nat) : s.polling.pn (0x2620 + d) 1 = s.pn (0x2620 + d) 1 := by
  unfold State.polling
  split
  · exact advanceTo_pn _ s (by decide) (by decide)
  · rfl

theorem State.mem_pmbDevices (s : State) (d : Nat) : d ∈ s.pmbDevices ↔ d < 8 ∧ s.pn (0x2620 + d) 1 ≠ 0 := by
  simp [State.pmbDevices]

/-- A poll goes over the devices with an address. -/
theorem pollAll_polls (answers : List PmbAns) {s : State} (h8 : s.mgt.pmb.length = 8) :
    (pollAll answers s).mgt.pollAt = some (pollAll answers s).aon.clock ∧
    (∀ d, d < 8 → s.pn (0x2620 + d) 1 ≠ 0 → (pollAll answers s).pmb d = (s.pmb d).polled (answers.getD d {})) ∧
    (∀ d, s.pn (0x2620 + d) 1 = 0 → (pollAll answers s).pmb d = s.pmb d) := by
  let u : State := { s.polling with mgt := { s.polling.mgt with pollAt := some s.polling.aon.clock } }
  have hall : pollAll answers s = forEach u.pmbDevices (fun d s => pollOne d (answers.getD d {}) s) u := rfl
  have hpmb : ∀ d, u.pmb d = s.pmb d := State.pmb_of_mgt s.polling_pmb
  have hpn : ∀ d, u.pn (0x2620 + d) 1 = s.pn (0x2620 + d) 1 := s.polling_pn
  have hlen : u.mgt.pmb.length = 8 := (congrArg List.length s.polling_pmb).trans h8
  have hat : u.mgt.pollAt = some u.aon.clock := rfl
  clear_value u
  rw [hall]
  refine ⟨?_, fun d hd hp => ?_, fun d hp => ?_⟩
  · refine forEach_keeps (P := fun t => t.mgt.pollAt = some t.aon.clock) _ (fun k t ht => ?_) hat
    obtain ⟨-, haon, hpoll⟩ := pollOne_keeps k (answers.getD k {}) t
    rw [hpoll, haon]
    exact ht
  · rw [← hpmb d]
    refine forEach_once (f := fun d s => pollOne d (answers.getD d {}) s) (x := fun t => t.pmb d) (φ := Pmb.polled (answers.getD d {}))
      (Q := fun t => t.mgt.pmb.length = 8) (List.Nodup.filter _ List.nodup_range) ((u.mem_pmbDevices d).mpr ⟨hd, by rw [hpn]; exact hp⟩) (fun k t ht => ?_)
      (fun k t hk => pollOne_ne k _ t hk.symm) (fun t ht => pollOne_self _ (by omega)) hlen
    exact (pollOne_keeps k _ t).1.trans ht
  · rw [← hpmb d]
    refine forEach_others (x := fun t => t.pmb d) (fun k t hk => pollOne_ne k _ t hk.symm) (fun hmem => ?_) u
    exact ((u.mem_pmbDevices d).mp hmem).2 ((hpn d).trans hp)

theorem pmbusPoll_polls {answers : List PmbAns} {s : State} (hr : s.pmbRuns = true) (h8 : s.mgt.pmb.length = 8)
    (hw : ∀ ch, s.waits ch 5 = none) : Answers (.pmbusPoll answers) s (fun t =>
      t.mgt.pollAt = some t.aon.clock ∧
      (∀ d, d < 8 → s.pn (0x2620 + d) 1 ≠ 0 → (answers.getD d {}).ok = true →
        (t.pmb d).status = (answers.getD d {}).status % 65536 ∧ (t.pmb d).fails = 0) ∧
      (∀ d, d < 8 → s.pn (0x2620 + d) 1 ≠ 0 → (answers.getD d {}).ok = false →
        (t.pmb d).status = (s.pmb d).status ∧ (t.pmb d).fails = min 3 ((s.pmb d).fails + 1)) ∧
      (∀ d, d < 8 → s.pn (0x2620 + d) 1 = 0 → t.pmb d = s.pmb d)) := by
  obtain ⟨hat, hpolled, hrest⟩ := pollAll_polls answers h8
  have hexec : exec (.pmbusPoll answers) s = .next (pollAll answers s) := by
    refine (if_pos hr).trans ?_
    rw [clRegulators_idle hw]
  refine ⟨_, hexec, hat, fun d hd hp hok => ?_, fun d hd hp hok => ?_, fun d _ hp => hrest d hp⟩
  · rw [hpolled d hd hp, Pmb.polled, if_pos hok]
    exact Pmb.measure_status _ _
  · rw [hpolled d hd hp, Pmb.polled, hok]
    exact ⟨rfl, rfl⟩

/-- An alert sets its flag and takes the device's status (R550, R551). -/
theorem pmbAlert_serves {d status : Nat} {s : State} (hr : s.pmbRuns = true) (hd : d < s.mgt.pmb.length) :
    Answers (.pmbAlert d status) s (fun t => (t.pmb d).status = status % 65536 ∧ bit t.mgt.flags 3 = true ∧
      t.mgt.pmbOut = (if s.pn (0x2620 + d) 2 = 0xFF then [(d, 0x79, 0)] else [(d, 0, s.pn (0x2620 + d) 2), (d, 0x79, 0)])) := by
  have hmgt := pmbSend_mgt d [(0x79, 0)] true (setMgtFlag 3 s)
  have hpn : (setMgtFlag 3 s).pn (0x2620 + d) 2 = s.pn (0x2620 + d) 2 :=
    congrArg Int.toNat (State.num_bump32_sub _ (by decide) (by decide) (by decide))
  rw [hpn] at hmgt
  have hserve : serveAlert d status s = takeStatus d status (pmbSend d [(0x79, 0)] true (setMgtFlag 3 s)) := if_neg (by simp [hr])
  refine ⟨_, congrArg Host.Outcome.next hserve, ?_, ?_, ?_⟩
  · rw [takeStatus_self (by rw [hmgt]; exact hd)]
  · refine (congrArg (fun m : Mgt => bit m.flags 3) hmgt).trans ?_
    exact putBit_bit _ 3 true
  · exact (congrArg Mgt.pmbOut hmgt).trans (List.append_nil _)

end Sys2Proof.Machine

/-! Writes of the regulators' objects (O60). -/

namespace Sys2Proof.Machine

open Sys2Proof

/-! What the Cut List engine leaves of the PMBus host: the regulators and the commands sent last. -/

/-- The regulators, and the commands that the host sent last. -/
def Mgt.pmbus (m : Mgt) : List Pmb × List (Nat × Nat × Nat) := (m.pmb, m.pmbOut)

theorem State.updChan_mgt (s : State) (ch : ChanId) (f : ClChan → ClChan) : (s.updChan ch f).mgt = s.mgt := by
  cases ch <;> rfl

theorem State.heard_pmbus (s : State) (ch : ChanId) : (s.heard ch).mgt.pmbus = s.mgt.pmbus := by
  cases ch <;> rfl

theorem clClose_mgt (ch : ChanId) (s : State) : (clClose ch s).mgt = s.mgt := by
  unfold clClose
  split
  · rfl
  · exact State.updChan_mgt _ _ _

theorem State.serving_pmbus (s : State) (ch : ChanId) (i sub : Nat) (val : List Byte) :
    (s.serving ch i sub val).mgt.pmbus = s.mgt.pmbus := by
  rw [State.serving, State.updChan_mgt, clClose_mgt, State.updChan_mgt, State.heard_pmbus]

theorem clCount_mgt (abort : Nat) (s : State) : (clCount abort s).mgt = s.mgt := by
  unfold clCount
  dsimp only
  split <;> rfl

theorem clEnd_pmbus (ch : ChanId) (abort total : Nat) (more : Bool) (seg : List Byte) (s : State) :
    (clEnd ch abort total more seg s).mgt.pmbus = s.mgt.pmbus := by
  have hupd := (State.updChan_mgt (clCount abort s) ch (ClChan.finish abort total more seg)).trans (clCount_mgt abort s)
  rw [← hupd]
  cases ch <;> rfl

theorem clOk_pmbus {ch : ChanId} {s : State} (a : ClPend) (h : s.hasChan ch) : (clOk ch a [] s).mgt.pmbus = s.mgt.pmbus := by
  have hok : clOk ch a [] s = clEnd ch 0 0 false [] s := by
    cases ch with
    | slot _ | mgt | fw =>
      unfold clOk
      simp
    | chain | jig _ => exact h.elim
  rw [hok, clEnd_pmbus]

theorem clAbort_pmbus {ch : ChanId} {s : State} (a : ClPend) {e : Nat} (h : s.hasChan ch) (h1 : e ≠ 0x0601) (h4 : e ≠ 0x0604) :
    (clAbort ch a e s).mgt.pmbus = s.mgt.pmbus := by
  have hdeny : clDeny a e s = s := if_neg (by simp [h1, h4])
  rw [clAbort_outer a e h, hdeny, clEnd_pmbus]

theorem State.pmb_of_pmbus {s t : State} (h : t.mgt.pmbus = s.mgt.pmbus) (d : Nat) : t.pmb d = s.pmb d :=
  State.pmb_of_mgt (congrArg Prod.fst h) d

/-! The objects of a regulator (R554). -/

theorem dictRow_pmbOperation : ∀ d < 8, dictRow (0x2620 + d) 5 =
    some ⟨0x2620, 8, 0x05, 1, .u 1, 0x0303, 0, .ivs [(0, 1)] 1, .absent, 2, false⟩ := by decide

theorem dictRow_pmbClear : ∀ d < 8, dictRow (0x2620 + d) 6 =
    some ⟨0x2620, 8, 0x06, 1, .u 1, 0x0303, 0, .ivs [(1, 1)] 1, .absent, 2, false⟩ := by decide

theorem dictRow_pmbVout : ∀ d < 8, dictRow (0x2620 + d) 4 =
    some ⟨0x2620, 8, 0x04, 1, .u 2, 0x1202, 0, .ivs [(200, 5000)] 1, .num, 2, false⟩ := by decide

theorem dictRow_pmbAddress : ∀ d < 8, dictRow (0x2620 + d) 1 =
    some ⟨0x2620, 8, 0x01, 1, .u 1, 0x1202, 0, .ivs [(0, 0), (8, 119)] 1, .num, 2, true⟩ := by decide

theorem State.storedAs.num {u s : State} (h : u.storedAs s) {i sub : Nat} (h1 : okey i sub ≠ okey 0x2600 0x0F)
    (h2 : okey i sub ≠ okey 0x1020 4) : u.num i sub = s.num i sub := by
  rw [State.num, State.num, h.2 _ h1 h2]

theorem State.storedAs.page {u s : State} (h : u.storedAs s) (d : Nat) : u.pn (0x2620 + d) 2 = s.pn (0x2620 + d) 2 :=
  h.pn (by unfold okey; omega) (by unfold okey; omega)

/-! A command object's write sends the command, and its acknowledgement ends it (R548 to R550). -/

/-- A request as it waits since a moment. -/
def ClPend.waiting (a : ClPend) (why now : Nat) : ClPend := { a with why := why, since := now }

theorem State.waits_clWait {v : State} {ch : ChanId} (a : ClPend) (why : Nat) (h : v.hasChan ch) :
    (clWait ch a why v).waits ch why = some (a.waiting why v.aon.clock) := by
  unfold State.waits clWait
  rw [State.chan_updChan _ h]
  exact if_pos (by simp)

theorem clEffect_command {ch : ChanId} {a : ClPend} {r : Row} {s : State} {d : Nat} (hd : d < 8) (hi : a.idx = 0x2620 + d)
    (hlo : 4 ≤ a.sub) (hhi : a.sub ≤ 6) : clEffect ch a r s =
      if (a.sub = 4 && !(s.pmb d).linear) = true then clAbort ch a 0x0607 (objRefused a.idx a.sub a.val s) else clWait ch a 5 s := by
  have hdev : a.idx - 0x2620 = d := by omega
  unfold clEffect
  dsimp only
  rw [if_neg (by simp; omega), if_pos (by simp; omega), hdev]

/-- The answer that a command's acknowledgement, or its lack, gives the request that waits for it. -/
def regulatorEnd (ch : ChanId) (a : ClPend) (acked : Bool) (s : State) : State :=
  if acked then clOk ch a [] (if a.sub = 4 then s.put a.idx 4 (leVal a.val) else s) else clAbort ch a abState s

section
variable {ch : ChanId} {d sub : Nat} {val : List Byte} {r : Row} {s : State} (hd : d < 8) (h : s.takes ch (0x2620 + d) sub val)
  (hr : dictRow (0x2620 + d) sub = some r) (hown : (r.own = 13 || r.own = 14) = false) (hlo : 4 ≤ sub) (hhi : sub ≤ 6)
include hd h hr hown hlo hhi

/-- The write of a command object waits for the command's acknowledgement; VOUT_COMMAND needs a device in linear mode (R549). -/
theorem clWhole_command (hlin : sub = 4 → (s.pmb d).linear = true) : clWhole ch (0x2620 + d) sub val s =
    clWait ch (s.wholePend ch (0x2620 + d) sub val) 5 (s.serving ch (0x2620 + d) sub val) := by
  have hv := State.serving_servesOn h
  obtain ⟨⟨-, hfq, hcq, -, -⟩, -⟩ := id hv
  have hpmb := State.pmb_of_pmbus (s.serving_pmbus ch (0x2620 + d) sub val) d
  have hcond : ¬(sub = 4 && !((s.serving ch (0x2620 + d) sub val).pmb d).linear) = true := by
    rw [hpmb]
    simpa using hlin
  rw [clWhole_serving h hr (fwOwned_row hr hown), clEffect_command hd rfl hlo hhi]
  refine (congrArg clTurn (if_neg hcond)).trans ?_
  exact clTurn_quiet (((State.updChan_queues _ _ _).1).trans hfq) (((State.updChan_queues _ _ _).2).trans hcq)

/-- The command goes out after PAGE, and the request ends with its acknowledgement: with success, or with STATE. -/
theorem pmbWrite_commands (acked : Bool) (hw : s.waits ch 5 = none) (hlin : sub = 4 → (s.pmb d).linear = true) :
    (if acked = true then (pmbWrite ch d sub val acked s).doneOn ch ∧
        (sub = 4 → (pmbWrite ch d sub val acked s).num (0x2620 + d) 4 = leVal val)
      else (pmbWrite ch d sub val acked s).abortedOn ch abState) ∧
    (pmbWrite ch d sub val acked s).mgt.pmbOut = paged d (s.pn (0x2620 + d) 2) (s.pmbCmd d sub (leVal val)) := by
  have hv := State.serving_servesOn h
  obtain ⟨⟨-, hfq, hcq, -, -⟩, -⟩ := id hv
  let v := s.serving ch (0x2620 + d) sub val
  let a := (s.wholePend ch (0x2620 + d) sub val).waiting 5 v.aon.clock
  let w := clWait ch (s.wholePend ch (0x2620 + d) sub val) 5 v
  let x := pmbSend d [w.pmbCmd d sub (leVal val)] acked w
  have hwaits : w.waits ch 5 = some a := State.waits_clWait _ 5 hv.hasChan
  have hdev : a.idx - 0x2620 = d := Nat.add_sub_cancel_left _ d
  have hwrite : pmbWrite ch d sub val acked s = clTurn (regulatorEnd ch a acked x) := by
    unfold pmbWrite
    dsimp only
    rw [hw, if_pos (show (none : Option ClPend).isNone = true from rfl), clWhole_command hd h hr hown hlo hhi hlin]
    unfold clRegulator
    rw [show (clWait ch (s.wholePend ch (0x2620 + d) sub val) 5 (s.serving ch (0x2620 + d) sub val)).waits ch 5 = some a from hwaits]
    dsimp only
    rw [hdev]
    rfl
  have hmgt : w.mgt = v.mgt := State.updChan_mgt _ _ _
  have hpmb : ∀ k, w.pmb k = s.pmb k := fun k =>
    (State.pmb_of_mgt (congrArg Mgt.pmb hmgt) k).trans (State.pmb_of_pmbus (s.serving_pmbus ch _ sub val) k)
  have hcmd : w.pmbCmd d sub (leVal val) = s.pmbCmd d sub (leVal val) := by rw [State.pmbCmd, State.pmbCmd, hpmb]
  have hpage : w.pn (0x2620 + d) 2 = s.pn (0x2620 + d) 2 :=
    (hv.stored.of_obj (State.updChan_obj _ _ _)).page d
  have hxcl : x.cl = w.cl := view_cl (pmbSend_view (k := 4) (by decide) ..) (by decide)
  have hout : x.mgt.pmbOut = paged d (s.pn (0x2620 + d) 2) (s.pmbCmd d sub (leVal val)) := by
    refine (congrArg Mgt.pmbOut (pmbSend_mgt d _ acked w)).trans ?_
    rw [hpage, hcmd]
    exact List.append_nil _
  obtain ⟨hwf, hwc⟩ := State.updChan_queues v ch (fun c => { c with state := 1, pend := some a })
  have hchan : x.hasChan ch := State.hasChan_of_cl hxcl (State.hasChan_updChan ch _ hv.hasChan)
  have hxf : x.cl.fwQ = [] := (congrArg ClEng.fwQ hxcl).trans (hwf.trans hfq)
  have hxc : x.cl.chainQ = [] := (congrArg ClEng.chainQ hxcl).trans (hwc.trans hcq)
  clear_value x
  rw [hwrite]
  cases acked with
  | true =>
    let y : State := if a.sub = 4 then x.put a.idx 4 (leVal a.val) else x
    have hy : y.cl = x.cl ∧ y.mgt = x.mgt := by
      show (if _ then _ else x).cl = _ ∧ (if _ then _ else x).mgt = _
      split <;> exact ⟨rfl, rfl⟩
    have hend : regulatorEnd ch a true x = clOk ch a [] y := if_pos rfl
    obtain ⟨hdone, -, hobj, hf, hc⟩ := clOk_write a (State.hasChan_of_cl hy.1 hchan)
    rw [hend, clTurn_quiet (hf.trans ((congrArg ClEng.fwQ hy.1).trans hxf)) (hc.trans ((congrArg ClEng.chainQ hy.1).trans hxc))]
    have hhost := (clOk_pmbus a (State.hasChan_of_cl hy.1 hchan)).trans (congrArg Mgt.pmbus hy.2)
    refine ⟨⟨hdone, fun h4 => ?_⟩, ((congrArg Prod.snd hhost :)).trans hout⟩
    rw [num_of_served hobj (by unfold okey; omega), show y = x.put (0x2620 + d) 4 (leVal val) from if_pos h4, State.num_put_same]
  | false =>
    have hend : regulatorEnd ch a false x = clAbort ch a abState x := if_neg (by decide)
    obtain ⟨hends, hf, hc⟩ := clAbort_ends a abState hchan
    rw [hend, clTurn_quiet (hf.trans hxf) (hc.trans hxc)]
    have hhost := clAbort_pmbus a (e := abState) hchan (by decide) (by decide)
    exact ⟨hends, ((congrArg Prod.snd hhost :)).trans hout⟩

end

end Sys2Proof.Machine

/-! Regulators not in linear mode, and the address of a regulator (O60). -/

namespace Sys2Proof.Machine

open Sys2Proof

/-- A channel that shows its answer waits for nothing. -/
theorem State.waits_ended {s : State} {ch : ChanId} (why : Nat) (h : (s.chan ch).state = 2) : s.waits ch why = none := by
  unfold State.waits
  cases (s.chan ch).pend with
  | none => rfl
  | some a => exact if_neg (by simp [h])

/-- VOUT_COMMAND of a device that is not in linear mode ends with NOT_READY, and nothing is sent (R549). -/
theorem pmbusVoutCommand_refused {ch : ChanId} {d : Nat} {val : List Byte} {acked : Bool} {s : State} (hd : d < 8)
    (h : s.takes ch (0x2620 + d) 4 val) (hw : s.waits ch 5 = none) (hlin : (s.pmb d).linear = false) :
    Answers (.pmbusVoutCommand ch d val acked) s (fun t => t.abortedOn ch 0x0607 ∧ t.mgt.pmbOut = s.mgt.pmbOut) := by
  have hv := State.serving_servesOn h
  obtain ⟨⟨-, hfq, hcq, -, -⟩, -⟩ := id hv
  let v := s.serving ch (0x2620 + d) 4 val
  let a := s.wholePend ch (0x2620 + d) 4 val
  let x := objRefused (0x2620 + d) 4 val v
  have hpmbus : v.mgt.pmbus = s.mgt.pmbus := s.serving_pmbus ch (0x2620 + d) 4 val
  have hx : x.view 2097156 = v.view 2097156 := objRefused_view (by decide) (0x2620 + d) 4 val v
  have hxcl : x.cl = v.cl := view_cl hx (by decide)
  obtain ⟨hends, hf, hc⟩ := clAbort_ends a 0x0607 (State.hasChan_of_cl hxcl hv.hasChan)
  have hhost := clAbort_pmbus a (e := 0x0607) (State.hasChan_of_cl hxcl hv.hasChan) (by decide) (by decide)
  have hcond : (decide (4 = 4) && !(v.pmb d).linear) = true := by
    rw [State.pmb_of_pmbus hpmbus d, hlin]
    rfl
  have hwhole : clWhole ch (0x2620 + d) 4 val s = clAbort ch a 0x0607 x := by
    rw [clWhole_serving h (dictRow_pmbVout d hd) (fwOwned_row (dictRow_pmbVout d hd) rfl),
      clEffect_command hd rfl (Nat.le_refl 4) (show 4 ≤ 6 by decide)]
    refine (congrArg clTurn (if_pos hcond)).trans ?_
    exact clTurn_quiet (hf.trans ((congrArg ClEng.fwQ hxcl).trans hfq)) (hc.trans ((congrArg ClEng.chainQ hxcl).trans hcq))
  have hexec : pmbWrite ch d 4 val acked s = clAbort ch a 0x0607 x := by
    unfold pmbWrite
    dsimp only
    rw [hw, if_pos (show (none : Option ClPend).isNone = true from rfl), hwhole]
    unfold clRegulator
    rw [State.waits_ended 5 hends.1]
  refine ⟨_, congrArg Host.Outcome.next hexec, hends, ?_⟩
  have hxmgt := congrArg Mgt.pmbOut (view_mgt hx (by decide))
  exact ((congrArg Prod.snd hhost :)).trans (hxmgt.trans (congrArg Prod.snd hpmbus :))

/-! The address (R549). -/

theorem clEffect_pmbAddress {ch : ChanId} {a : ClPend} {r : Row} {s t : State} {d : Nat} {x : Int} (hd : d < 8)
    (hi : a.idx = 0x2620 + d) (hsub : a.sub = 1) (hx : r.rg.clip (r.ty.num a.val) = x)
    (hw : objWrite (a.who ch) a.idx a.sub x a.val s = .ok t) :
    clEffect ch a r s = clOk ch a [] t := by
  have hb : ∀ n, s.budgetRec a.idx a.sub n = none := fun n => by
    unfold State.budgetRec
    rw [if_neg (by simp; omega), if_neg (by simp; omega), if_neg (by simp; omega), if_neg (by simp; omega), if_neg (by simp; omega)]
  unfold clEffect
  dsimp only
  rw [if_neg (by simp; omega), if_neg (by simp; omega), hb, hx, hw]

theorem objWrite_pmbAddress (w : Who) (v : Int) (b : List Byte) (s : State) : ∀ d < 8,
    objWrite w (0x2620 + d) 1 v b s = mgtWrite (0x2620 + d) 1 v b s := by
  intro d hd
  interval_cases d <;> rfl

theorem storeVal_pmbAddress (v : Int) (b : List Byte) (s : State) {d : Nat} (hd : d < 8) :
    storeVal (0x2620 + d) 1 v b s = s.put (0x2620 + d) 1 v := by
  unfold storeVal
  rw [dictRow_pmbAddress d hd]
  rfl

/-- The state that an address leaves: a new address is followed by a read of VOUT_MODE. -/
def State.addressed (s : State) (d v : Nat) : State :=
  if v = 0 then s.put (0x2620 + d) 1 0
  else takeMode d (Config.freeValue s.free).toNat (pmbSend d [(0x20, 0)] true (s.put (0x2620 + d) 1 v).takeFree)

theorem mgtWrite_pmbAddress (v : Nat) (b : List Byte) (s : State) {d : Nat} (hd : d < 8) :
    mgtWrite (0x2620 + d) 1 v b s = .ok (s.addressed d v) := by
  unfold mgtWrite
  dsimp only
  rw [storeVal_pmbAddress _ _ _ hd, if_pos (by simp; omega), Nat.add_sub_cancel_left]
  unfold State.addressed
  rcases Nat.eq_zero_or_pos v with rfl | hv
  · rfl
  · rw [if_neg (by omega), if_neg (by omega)]

section
variable {ch : ChanId} {d : Nat} {val : List Byte} {s : State} (hd : d < 8) (h : s.takes ch (0x2620 + d) 1 val)
include hd h

/-- A write of an address is done; the store, the regulators and the commands sent are those that it leaves, and the store has one
request more. -/
theorem clWhole_pmbAddress {g : State} (hg : (s.serving ch (0x2620 + d) 1 val).addressed d (leVal val) = g)
    (hcl : g.cl = (s.serving ch (0x2620 + d) 1 val).cl) :
    (clWhole ch (0x2620 + d) 1 val s).doneOn ch ∧ (clWhole ch (0x2620 + d) 1 val s).obj = (g.add64 0x1020 1 1).obj ∧
      (clWhole ch (0x2620 + d) 1 val s).mgt.pmbus = g.mgt.pmbus := by
  have hv := State.serving_servesOn h
  obtain ⟨⟨-, hfq, hcq, -, -⟩, -⟩ := id hv
  let a := s.wholePend ch (0x2620 + d) 1 val
  have hchan := State.hasChan_of_cl hcl hv.hasChan
  have hwrite : objWrite (a.who ch) (0x2620 + d) 1 (leVal val) val (s.serving ch (0x2620 + d) 1 val) = .ok g := by
    rw [objWrite_pmbAddress _ _ _ _ d hd, mgtWrite_pmbAddress _ _ _ hd, hg]
  have hx : (Rg.ivs [(0, 0), (8, 119)] 1).clip ((Ty.u 1).num a.val) = leVal val := rfl
  obtain ⟨hdone, -, hobj, hf, hc⟩ := clOk_write a hchan
  have hwhole : clWhole ch (0x2620 + d) 1 val s = clOk ch a [] g := by
    rw [clWhole_serving h (dictRow_pmbAddress d hd) (fwOwned_row (dictRow_pmbAddress d hd) rfl),
      clEffect_pmbAddress (a := a) hd rfl rfl hx hwrite]
    exact clTurn_quiet (hf.trans ((congrArg ClEng.fwQ hcl).trans hfq)) (hc.trans ((congrArg ClEng.chainQ hcl).trans hcq))
  rw [hwhole]
  exact ⟨hdone, hobj, clOk_pmbus a hchan⟩

end

/-- The host's transactions rise by a command that is acknowledged, with its PAGE (R551). -/
theorem pmbSend_transactions (d : Nat) (c : Nat × Nat) (s : State) : (pmbSend d [c] true s).num 0x2610 3 =
    (s.num 0x2610 3 + ((paged d (s.pn (0x2620 + d) 2) c).length : Nat)) % 2 ^ 64 := by
  rw [← List.append_nil (paged d (s.pn (0x2620 + d) 2) c)]
  exact (State.num_put_ne _ _ (by decide)).trans (State.num_put_same ..)

theorem paged_length (d p : Nat) (c : Nat × Nat) : (paged d p c).length = 1 ∨ (paged d p c).length = 2 := by
  unfold paged
  split
  · exact .inl rfl
  · exact .inr rfl

/-- The read of VOUT_MODE is a transaction of the host (R549). -/
theorem addressed_transactions (v : State) (d : Nat) {x : Nat} (hx : x ≠ 0) : (v.addressed d x).num 0x2610 3 ≠ v.num 0x2610 3 := by
  let w : State := (v.put (0x2620 + d) 1 x).takeFree
  have hput : w.num 0x2610 3 = v.num 0x2610 3 := State.num_put_ne _ _ (by unfold okey; omega)
  have hsend := pmbSend_transactions d (0x20, 0) w
  have haddr : (v.addressed d x).num 0x2610 3 = (pmbSend d [(0x20, 0)] true w).num 0x2610 3 := by
    unfold State.addressed
    rw [if_neg hx]
    rfl
  rw [haddr, hsend, hput]
  rcases paged_length d (w.pn (0x2620 + d) 2) (0x20, 0) with h | h <;> rw [h] <;> omega

theorem addressed_keeps (v : State) (d x : Nat) : (v.addressed d x).cl = v.cl ∧
    (v.addressed d x).mgt.pmb.length = v.mgt.pmb.length ∧ (v.addressed d x).num (0x2620 + d) 1 = x := by
  unfold State.addressed
  split
  · rename_i h0
    subst h0
    exact ⟨rfl, rfl, State.num_put_same ..⟩
  · have hcl := view_cl (pmbSend_view (k := 4) (by decide) d [(0x20, 0)] true (v.put (0x2620 + d) 1 x).takeFree) (by decide)
    have hmgt := pmbSend_mgt d [(0x20, 0)] true (v.put (0x2620 + d) 1 x).takeFree
    have hnum : (pmbSend d [(0x20, 0)] true (v.put (0x2620 + d) 1 x).takeFree).num (0x2620 + d) 1 = x :=
      (State.num_put_ne _ _ (by unfold okey; omega)).trans ((State.num_put_ne _ _ (by unfold okey; omega)).trans
        (State.num_put_same ..))
    exact ⟨hcl, (State.updPmb_length _ _ _).trans (congrArg (fun m : Mgt => m.pmb.length) hmgt :), hnum⟩

section
variable {ch : ChanId} {d : Nat} {val : List Byte} {s : State} (hd : d < 8) (h : s.takes ch (0x2620 + d) 1 val)
include hd h

/-- A new address is followed by a read of VOUT_MODE, whose answer the device's entry takes (R549). -/
theorem pmbusAddressWrite_reads {mode : Nat} (hlen : d < s.mgt.pmb.length) (h0 : leVal val ≠ 0) :
    Answers (.pmbusAddressWrite ch d val mode true) s (fun t =>
      t.doneOn ch ∧ t.num (0x2620 + d) 1 = leVal val ∧ (t.pmb d).linear = decide (mode / 32 % 8 = 0) ∧ (t.pmb d).exp = sx 5 mode) := by
  let v := s.serving ch (0x2620 + d) 1 val
  let t := clWhole ch (0x2620 + d) 1 val s
  have hpmbus : v.mgt.pmbus = s.mgt.pmbus := s.serving_pmbus ch (0x2620 + d) 1 val
  obtain ⟨hcl, hvlen, haddr⟩ := addressed_keeps v d (leVal val)
  obtain ⟨hdone, hobj, hhost⟩ := clWhole_pmbAddress hd h (g := v.addressed d (leVal val)) rfl hcl
  have hserved : v.num 0x2610 3 = s.num 0x2610 3 := (State.serving_servesOn h).stored.num (by decide) (by decide)
  have hcount : ¬s.num 0x2610 3 = t.num 0x2610 3 := fun heq =>
    addressed_transactions v d h0 ((num_of_served hobj (by decide)).symm.trans (heq.symm.trans hserved.symm))
  have hexec : exec (.pmbusAddressWrite ch d val mode true) s = .next (takeMode d mode t) := (if_neg hcount).trans (if_pos rfl)
  have hnum : t.num (0x2620 + d) 1 = leVal val := (num_of_served hobj (by unfold okey; omega)).trans haddr
  have htlen : d < t.mgt.pmb.length := by
    rw [show t.mgt.pmb = (v.addressed d (leVal val)).mgt.pmb from congrArg Prod.fst hhost, hvlen,
      show v.mgt.pmb = s.mgt.pmb from congrArg Prod.fst hpmbus]
    exact hlen
  have hchan : (takeMode d mode t).chan ch = t.chan ch := State.chan_of_cl rfl ch
  refine ⟨_, hexec, ?_, hnum, ?_⟩
  · rw [State.doneOn, hchan]
    exact hdone
  · rw [takeMode, State.pmb_updPmb_same _ htlen]
    exact ⟨rfl, rfl⟩

/-- With no address nothing is read (R549). -/
theorem pmbusAddressWrite_none {mode : Nat} {acked : Bool} (h0 : leVal val = 0) :
    Answers (.pmbusAddressWrite ch d val mode acked) s (fun t =>
      t.doneOn ch ∧ t.num (0x2620 + d) 1 = 0 ∧ t.pmb d = s.pmb d) := by
  let v := s.serving ch (0x2620 + d) 1 val
  have hpmbus : v.mgt.pmbus = s.mgt.pmbus := s.serving_pmbus ch (0x2620 + d) 1 val
  have hg : v.addressed d (leVal val) = v.put (0x2620 + d) 1 0 := if_pos h0
  obtain ⟨hdone, hobj, hhost⟩ := clWhole_pmbAddress hd h hg rfl
  have hserved : v.num 0x2610 3 = s.num 0x2610 3 := (State.serving_servesOn h).stored.num (by decide) (by decide)
  have hcount : s.num 0x2610 3 = (clWhole ch (0x2620 + d) 1 val s).num 0x2610 3 :=
    hserved.symm.trans ((State.num_put_ne v _ (by unfold okey; omega)).symm.trans (num_of_served hobj (by decide)).symm)
  refine ⟨clWhole ch (0x2620 + d) 1 val s, if_pos hcount, hdone, ?_, State.pmb_of_pmbus (hhost.trans hpmbus) d⟩
  exact (num_of_served hobj (by unfold okey; omega)).trans (State.num_put_same ..)

end

/-- Settles O60: a poll device by device; a command object's write by the command sent and its acknowledgement; an address by the
read of VOUT_MODE that follows it. -/
theorem pmbusHost : Obligations.PmbusHost := by
  unfold Obligations.PmbusHost
  refine ⟨fun answers s hr h8 hw => pmbusPoll_polls hr h8 hw, fun d status s hr hd => pmbAlert_serves hr hd,
    fun ch d x val acked s hd h hw hx => ⟨_, rfl, ?operation⟩, fun ch d val acked s hd h hw => ⟨_, rfl, ?clear⟩,
    fun ch d x val acked s hd h hw hlin hx => ⟨_, rfl, ?vout⟩,
    fun ch d val acked s hd h hw hlin => pmbusVoutCommand_refused hd h hw hlin,
    fun ch d mode val s hd hlen h h0 => pmbusAddressWrite_reads hd h hlen h0,
    fun ch d mode val acked s hd h h0 => pmbusAddressWrite_none hd h h0⟩
  case operation =>
    obtain ⟨hend, hout⟩ := pmbWrite_commands hd h (dictRow_pmbOperation d hd) rfl (by decide) (by decide) acked hw (absurd · (by decide))
    rw [hx]
    refine ⟨?_, hout⟩
    cases acked with
    | true => exact hend.1
    | false => exact hend
  case clear =>
    obtain ⟨hend, hout⟩ := pmbWrite_commands hd h (dictRow_pmbClear d hd) rfl (by decide) (by decide) acked hw (absurd · (by decide))
    refine ⟨?_, hout⟩
    cases acked with
    | true => exact hend.1
    | false => exact hend
  case vout =>
    obtain ⟨hend, hout⟩ := pmbWrite_commands hd h (dictRow_pmbVout d hd) rfl (by decide) (by decide) acked hw (fun _ => hlin)
    rw [hx]
    refine ⟨?_, hout⟩
    cases acked with
    | true => exact ⟨hend.1, hend.2 rfl⟩
    | false => exact hend

end Sys2Proof.Machine

/-! States that meet the premises of the clauses of O17 to O26, O52, O53 and O57 to O60: a device in service with a jig at a word,
engines, gauges, SYNC objects, the Scribe and the management port. -/

namespace Sys2Proof.Machine

open Sys2Proof

/-- A device in service whose jig 0 is about to execute a word, with 5 in x1 and 7 in x2. -/
def State.atWord (w : Nat) : State :=
  { State.inService with
    dowel := { State.inService.dowel with
      jigs := [{ state := 2, active := true, image := [w], stepLimit := 10, regs := [0, 5, 7] ++ List.replicate 13 0 }] } }

/-- A device in service whose engine 0 has a full deque, while engine 1 drains and engine 2 has reloaded. -/
def State.enginesBusy : State :=
  { State.inService with
    dowel := { State.inService.dowel with
      engines := [{ state := 1, deque := List.replicate 64 9 }, { state := 2 }, { state := 3 }] } }

/-- A device in service with a group engaged, one suspect gauge, and objects of SYNC owned by partition 0 of tile 0. -/
def State.unitsInService : State :=
  { State.inService.put 0x2440 1 0 with
    aon := { State.inService.aon with ready := 0x1FFFFF, clkEn := 0x1FFFF, porN := true, fabReleased := true }
    cap := { State.inService.cap with tileMap := [0] }
    sync := { State.inService.sync with
      objs := [{ n := 5, value := 2, owner := 0, gen := 1 }], mapEntries := [(0, 0x8005)], bind_ := [(0, 0)] }
    therm := { State.inService.therm with
      gauges := [{ n := 0, state := 2 }]
      groups := [{ engaged := true, rateOn := true }] } }

/-- A device in service whose Scribe is armed. -/
def State.scribeArmed : State := { State.unitsInService with obs := { State.unitsInService.obs with scrState := 1 } }

/-- A device in service with a packet that waits for its fetch on SMBus. -/
def State.packetWaiting : State :=
  { State.unitsInService with mgt := { State.unitsInService.mgt with rsp := some [byte 1], rspAlert := true, alertN := false } }

theorem unitsInService_takes {i sub : Nat} {val : List Byte} (h : State.unitsInService.writePasses .mgt i sub val = true) :
    State.unitsInService.takes .mgt i sub val := ⟨⟨rfl, rfl, rfl⟩, by decide, h⟩

/-- O20 at ADD x3 = x1 + x2. -/
theorem atWord_adds : Answers (.add 0 3 1 2) (State.atWord 0x21306) (fun t => (t.jig 0).reg 3 = 12) := by
  obtain ⟨hadd, -⟩ := jigArithmeticWords
  refine answers_mono (hadd 0 3 1 2 (State.atWord 0x21306) ⟨by decide, by decide, by decide⟩) fun t ht => ?_
  obtain rfl : t = _ := ht
  rfl

/-- O19 at LDI x3 = -1. -/
theorem atWord_loads : Answers (.ldi 0 3 0xFFFFFFFF) (State.atWord 0xFFFFFFFF00000301) (fun t => (t.jig 0).int 3 = -1) := by
  obtain ⟨-, hldi, -⟩ := jigMoveAndLogicWords
  refine answers_mono (hldi 0 3 0xFFFFFFFF (State.atWord 0xFFFFFFFF00000301) ⟨by decide, by decide, by decide⟩) fun t ht => ?_
  obtain rfl : t = _ := ht
  decide

/-- O21 at a BEQ that does not branch. -/
theorem atWord_goesOn : Answers (.beq 0 1 2 9) (State.atWord 0x90002101D) (fun t => (t.jig 0).pc = 1) := by
  obtain ⟨hbeq, -⟩ := jigBranchWords
  refine answers_mono (hbeq 0 1 2 9 (State.atWord 0x90002101D) ⟨by decide, by decide, by decide⟩) fun t ht => ?_
  obtain rfl : t = _ := ht
  decide

/-- O22 at a POST of reason 3. -/
theorem atWord_posts : Answers (.post 0 1 3) (State.atWord 0x30000102B) (fun t => (t.jig 0).post3 = some 5) := by
  obtain ⟨-, hpost, -⟩ := jigWordsOutside
  exact answers_mono (hpost 0 1 3 (State.atWord 0x30000102B) ⟨by decide, by decide, by decide⟩ rfl) fun t ht => ht.1.trans (by decide)

/-- O24 at a spawn on a full deque. -/
theorem enginesBusy_overflows : Answers (.taskSpawn 0 4) State.enginesBusy (fun t => t.dowel.overflow = [4]) := by
  obtain ⟨hspawn, -⟩ := taskSpawnAndSteal
  refine answers_mono (hspawn 0 4 State.enginesBusy rfl rfl (by decide) (by decide)) fun t ⟨hdowel, _⟩ => ?_
  rw [hdowel]
  rfl

/-- O25 at the running jig of a device in service. -/
theorem inService_activates : Answers (.pinnedActivation (.jig 1)) State.inService (fun t => (t.jig 1).active = true) := by
  obtain ⟨hjig, -⟩ := pinnedActivations
  exact answers_mono (hjig 1 State.inService (by decide) rfl rfl (by decide) rfl) fun t ⟨hactive, _⟩ => hactive

/-- O26 at an engine that drains and one that has reloaded. -/
theorem enginesBusy_reloads : Answers (.engineDrainDone 1) State.enginesBusy (fun t => (t.engine 1).state = 3) := by
  obtain ⟨hdrain, -⟩ := engineUpdates
  exact answers_mono (hdrain 1 State.enginesBusy (by decide) rfl rfl rfl) fun t ⟨hstate, _⟩ => hstate

theorem enginesBusy_starts : Answers (.engineReloadDone 2) State.enginesBusy (fun t => (t.engine 2).state = 4) := by
  obtain ⟨-, hreload, -⟩ := engineUpdates
  exact answers_mono (hreload 2 State.enginesBusy (by decide) rfl rfl) fun t ⟨hstate, _⟩ => hstate

/-- O17 at a SIGNAL of tile 0. -/
theorem unitsInService_signals : Answers (.syncSignal 0 1) State.unitsInService (fun t => (t.sobj 5).value = 3) := by
  obtain ⟨-, hsignal, -⟩ := syncTileWords
  refine answers_mono (hsignal 0 5 0 1 State.unitsInService ⟨rfl, by decide, rfl, by decide, rfl, by decide, by decide, by decide⟩
    (by decide) (by decide) (by decide)) fun t ⟨hobj, _⟩ => ?_
  rw [hobj]
  decide

/-- O18 at the doorbell of the same object. -/
theorem unitsInService_rings : Answers (.doorbellSignal {} 0) State.unitsInService (fun t => t.host.rspCode = 0) := by
  obtain ⟨hring, -⟩ := syncDoorbellsAndWrites
  exact answers_mono (hring {} 0 5 State.unitsInService (by decide)
    ⟨rfl, by decide, by decide, by decide, by decide, by decide⟩ (by decide) (by decide) (by decide)) fun t ⟨hcode, _⟩ => hcode

/-- O52 at the suspect gauge's clear. -/
theorem unitsInService_clears : Answers (.gaugeClear .mgt [3]) State.unitsInService (fun t => t.doneOn .mgt) := by
  obtain ⟨-, -, -, -, -, -, -, -, hclear, -⟩ := gaugeResultsAndCommands
  exact answers_mono (hclear .mgt [3] { n := 0, state := 2 } State.unitsInService (unitsInService_takes (by decide)) (by decide)
    ⟨by decide, rfl, by decide⟩ rfl) fun t ⟨_, hbecomes, _⟩ => hbecomes.1

/-- O53 at the group whose rate request ends. -/
theorem unitsInService_withdraws : Answers (.rateHoldExpiry 0) State.unitsInService (fun t => (t.group 0).rateOn = false) := by
  obtain ⟨-, -, hrate, -⟩ := thermalRequests
  refine answers_mono (hrate 0 State.unitsInService rfl (by decide) rfl rfl) fun t ⟨_, hgroup⟩ => ?_
  rw [hgroup]

/-- O57 at the arming of the Scribe, and at its trigger. -/
theorem unitsInService_arms : Answers (.scribeArm .mgt [1]) State.unitsInService (fun t => t.obs.scrState = 1) := by
  obtain ⟨harm, -⟩ := scribeDumpsAndStop
  exact answers_mono (harm .mgt [1] State.unitsInService (unitsInService_takes (by decide)) (by decide) (by decide) (by decide))
    fun t ⟨_, hstate, _⟩ => hstate

theorem scribeArmed_triggers : Answers (.scribeControlTrigger .mgt [3]) State.scribeArmed (fun t => bit t.obs.flags 1 = true) := by
  obtain ⟨-, -, htrigger, -⟩ := scribeDumpsAndStop
  exact answers_mono (htrigger .mgt [3] State.scribeArmed ⟨⟨rfl, rfl, rfl⟩, by decide, by decide⟩ (by decide) rfl)
    fun t ⟨_, _, _, hflag, _⟩ => hflag

/-- O58 at a block read of the packet that waits. -/
theorem packetWaiting_fetched : Answers .smbusBlockRead State.packetWaiting (fun t => t.mgt.rsp = none) :=
  answers_mono (smbusBlockRead_fetches (s := State.packetWaiting) (by decide) rfl rfl) fun t ⟨_, _, hrsp, _⟩ => hrsp

/-- O59 at the setting of the TID, and at a request that finds the port occupied. -/
theorem unitsInService_setsTid : Answers (.settid {} 3) State.unitsInService (fun t => t.mgt.tid = 3) :=
  answers_mono (settid_answered (s := State.unitsInService) ⟨by decide, .inl rfl, by decide⟩ 3) fun t ht => ht.1

theorem packetWaiting_discards : Answers (.getEndpointId {}) State.packetWaiting (fun t => bit t.mgt.flags 0 = true) := by
  obtain ⟨-, -, -, -, -, -, -, -, hbusy, -⟩ := mctpAndPldmRequests
  exact answers_mono (hbusy {} State.packetWaiting (by decide) rfl (by decide)) fun t ⟨_, _, hflag⟩ => hflag

/-- O60 at an OPERATION that is acknowledged. -/
theorem unitsInService_operates : Answers (.pmbusOperation .mgt 0 [1] true) State.unitsInService (fun t =>
    t.mgt.pmbOut = [(0, 1, 0x80)]) := by
  obtain ⟨-, -, hoperation, -⟩ := pmbusHost
  exact answers_mono (hoperation .mgt 0 0x80 [1] true State.unitsInService (by decide) (unitsInService_takes (by decide)) rfl rfl)
    fun t ⟨_, hout⟩ => hout

end Sys2Proof.Machine
